-- ==== Sys2Proof/Word.lean ====
section
/-!
DEFINITION. The word types: registers are 64 bits wide (R94), memory is read in bytes (R7).
-/
namespace Sys2Proof

/-- The content of one register (R94). -/
abbrev Word := BitVec 64

/-- One byte of T0, T1, or a structure in host memory. -/
abbrev Byte := BitVec 8

end Sys2Proof
end

