-- ==== Sys2Proof/Machine/Bits.lean ====
section
/-!
DEFINITION. Fields of a word, and byte order. Bit 0 is the least significant bit, [m:l] is a range, and a field of several
bytes is little-endian (R7).
-/
namespace Sys2Proof.Machine

/-- The field of `n` bits at bit `lo`, as a number. -/
def fld (w : Word) (lo n : Nat) : Nat := (w.toNat / 2 ^ lo) % 2 ^ n

/-- A mask of `n` ones at bit `lo`. -/
def ones (lo n : Nat) : Word := BitVec.ofNat 64 ((2 ^ n - 1) * 2 ^ lo)

/-- Replace the field of `n` bits at `lo` by `v` modulo `2 ^ n`. -/
def setFld (w : Word) (lo n v : Nat) : Word :=
  (w &&& ~~~(ones lo n)) ||| BitVec.ofNat 64 ((v % 2 ^ n) * 2 ^ lo)

/-- Bit `i`. -/
def bit (w : Word) (i : Nat) : Bool := w.getLsbD i

/-- A word with the single bit `i`. -/
def bitW (i : Nat) : Word := BitVec.ofNat 64 (2 ^ i)

/-- Set or clear bit `i`. -/
def setBit (w : Word) (i : Nat) (b : Bool) : Word := setFld w i 1 (if b then 1 else 0)

/-- A number as a word, modulo 2^64. -/
def word (n : Nat) : Word := BitVec.ofNat 64 n

/-- One for true. -/
def b2n (b : Bool) : Nat := if b then 1 else 0

/-- A signed number in two's complement of `n` bits, as a number. -/
def twos (n : Nat) (v : Int) : Nat := (v % (2 ^ n : Int)).toNat

/-- The signed value of the low `n` bits of `v`. -/
def signed (n : Nat) (v : Nat) : Int :=
  let u := v % 2 ^ n
  if u < 2 ^ (n - 1) then (u : Int) else (u : Int) - 2 ^ n

/-- `n` bytes of `v`, least significant first (R7). -/
def leBytes : Nat → Nat → List Byte
  | 0, _ => []
  | n + 1, v => BitVec.ofNat 8 v :: leBytes n (v / 256)

/-- The number that little-endian bytes spell. -/
def ofLe : List Byte → Nat
  | [] => 0
  | b :: bs => b.toNat + 256 * ofLe bs

/-- The `n`-byte little-endian field at `off` of a structure; bytes past its end read 0. -/
def leAt (bs : List Byte) (off n : Nat) : Nat := ofLe ((bs.drop off).take n)

/-- The 64-bit words of a structure, in order. -/
def toWords (bs : List Byte) : List Word :=
  (List.range ((bs.length + 7) / 8)).map fun i => word (leAt bs (8 * i) 8)

/-- Bits of a number, as the indices of its ones below `n`. -/
def bitsOf (n v : Nat) : List Nat := (List.range n).filter fun i => v.testBit i

/-- The number whose ones are at the listed positions. -/
def maskOf (l : List Nat) : Nat := l.foldl (fun a i => a ||| 2 ^ i) 0

/-- Saturating addition at `top`. -/
def satAdd (top a b : Nat) : Nat := min top (a + b)

end Sys2Proof.Machine
end

