-- ==== Sys2Proof/Machine/RegTable.lean ====
section
/-!
DEFINITION. The registers of the device, by page: the page map (R535, Table 16.1), the header settings of each block type
(R536, Table 16.2), and for every register its offset, the bits of each access type (R11), and its reset value (the field
tables of each chapter; R542 lists them and no others).
-/
namespace Sys2Proof.Machine

/-- The kinds of register page (R113, Table 4.4); a block with several pages has one kind per page. -/
inductive PageKind where
  | dev0 | dev1 | hub0 | hub1 | nvs0 | gal0 | gal1 | gal2 | gal3 | fab0 | fab1 | fab2 | fab3 | cd | core | md | ch | nbu | trc | cnt0 | cntg | part | q0 | q1
  deriving DecidableEq, Repr

/-- What a register is. `plain`: its value is kept in the register store. `counter`: an event or occupancy counter, live
count and snapshot copy (R498). `snap`: a SNAP field that is no counter. `latch`: DATA of an indirect window (R109).
`derived`: computed from other state when read. -/
inductive RegClass where
  | plain | counter | snap | latch | derived
  deriving DecidableEq, Repr

/-- A run of `count` registers from `off`, 8 bytes apart, with the bits of each access type and the reset value. -/
structure RegRow where
  off : Nat
  count : Nat
  cls : RegClass
  rw : Nat
  w1c : Nat
  w1s : Nat
  wo : Nat
  reset : Nat
  deriving DecidableEq, Repr

/-- Registers of page kind dev0 (R56, R57, R58, R59, R60, R90, R91, R92, R93, R158, R159, R436, R441, R450, R451, R490, R491, R492, R493, R494, R538, R539). -/
def rowsDev0 : List RegRow := [
  ⟨0x200, 1, .plain, 0xff03ffffffff, 0, 0, 0, 0xa0105140960⟩,  -- DEV_PWR_CFG
  ⟨0x208, 1, .plain, 0, 0x6000000000, 0, 0, 0⟩,  -- DEV_PWR_STATUS
  ⟨0x210, 1, .plain, 0, 0, 0, 0, 0⟩,  -- DEV_THERM_STATUS
  ⟨0x218, 1, .plain, 0, 0, 0, 0, 0x103⟩,  -- DEV_CLK_STATUS
  ⟨0x220, 1, .plain, 0, 0, 0, 0, 0⟩,  -- DEV_RAIL_STATUS
  ⟨0x228, 1, .plain, 0, 0, 0, 0, 0⟩,  -- DEV_ACCESS_ERR
  ⟨0x230, 1, .plain, 0, 0, 0, 0, 0⟩,  -- DEV_ACCESS_LAST
  ⟨0x240, 1, .plain, 0, 0, 0, 0xffff0007, 0⟩,  -- DEV_RESET_CTRL
  ⟨0x248, 1, .plain, 0, 0, 0, 0, 0x1⟩,  -- DEV_START_STATUS
  ⟨0x250, 1, .plain, 0xffff03, 0, 0x4, 0, 0x640800⟩,  -- DEV_START_CTRL
  ⟨0x258, 1, .plain, 0, 0, 0, 0, 0⟩,  -- DEV_LIFECYCLE
  ⟨0x300, 1, .plain, 0xffffffffffffffff, 0, 0, 0, 0x4640a0410001814⟩,  -- DEV_MEM_CFG
  ⟨0x308, 1, .derived, 0, 0, 0, 0, 0⟩,  -- DEV_MEM_CAP0
  ⟨0x310, 1, .derived, 0, 0, 0, 0, 0⟩,  -- DEV_MEM_CAP1
  ⟨0x318, 1, .plain, 0x1ffff, 0, 0, 0, 0⟩,  -- DEV_TT_INDEX
  ⟨0x320, 4, .latch, 0, 0, 0, 0, 0⟩,  -- DEV_TT_DATA0..3
  ⟨0x340, 1, .plain, 0x3ff, 0, 0, 0, 0⟩,  -- DEV_REGION_INDEX
  ⟨0x348, 1, .latch, 0xfffffffffffff000, 0, 0, 0, 0⟩,  -- DEV_REGION_DATA0
  ⟨0x350, 1, .latch, 0x800007ffffffffff, 0, 0, 0, 0⟩,  -- DEV_REGION_DATA1
  ⟨0x358, 1, .plain, 0, 0, 0, 0x1, 0⟩,  -- DEV_REGION_COMMIT
  ⟨0x380, 1, .plain, 0xffffffffffff0003, 0, 0, 0, 0⟩,  -- DEV_HOST_ARB
  ⟨0x388, 1, .plain, 0x1fff, 0, 0, 0, 0x1fff⟩,  -- DEV_ALERT_MASK
  ⟨0x400, 1, .plain, 0xff00, 0, 0, 0x1, 0⟩,  -- DEV_MBOX_CTRL
  ⟨0x408, 1, .plain, 0, 0, 0, 0, 0⟩,  -- DEV_MBOX_STATUS
  ⟨0x410, 32, .plain, 0xffffffffffffffff, 0, 0, 0, 0⟩,  -- DEV_MBOX_DATA0..31
  ⟨0x600, 1, .plain, 0x7ffffff, 0, 0, 0, 0x400140a⟩,  -- DEV_TWIN_CFG
  ⟨0x608, 1, .plain, 0, 0, 0, 0, 0⟩,  -- DEV_TWIN_STATUS
  ⟨0x610, 1, .plain, 0, 0, 0, 0, 0⟩,  -- DEV_FAIL_STATUS
  ⟨0x618, 1, .plain, 0x7fff, 0, 0, 0, 0⟩,  -- DEV_MT_INDEX
  ⟨0x620, 16, .latch, 0, 0, 0, 0, 0⟩,  -- DEV_MT_DATA0..15
  ⟨0x6a0, 1, .counter, 0, 0, 0, 0, 0⟩,  -- DEV_MIRROR_KIB
  ⟨0x6a8, 1, .counter, 0, 0, 0, 0, 0⟩,  -- DEV_MIRROR_TIMEOUTS
  ⟨0x6b0, 1, .counter, 0, 0, 0, 0, 0⟩,  -- DEV_ADOPTIONS
  ⟨0x6b8, 1, .counter, 0, 0, 0, 0, 0⟩,  -- DEV_DECLARES
  ⟨0x6c0, 1, .counter, 0, 0, 0, 0, 0⟩  -- DEV_HANDOFFS
]

/-- Registers of page kind dev1 (R115). -/
def rowsDev1 : List RegRow := [
  ⟨0x100, 1, .derived, 0, 0, 0, 0, 0x10176⟩,  -- DEV_DIR_COUNT
  ⟨0x108, 374, .derived, 0, 0, 0, 0, 0⟩  -- directory entries 0..373
]

/-- Registers of page kind hub0 (R495, R496, R533, R534). -/
def rowsHub0 : List RegRow := [
  ⟨0x100, 1, .plain, 0, 0, 0, 0, 0⟩,  -- HUB_MC_STATUS
  ⟨0x108, 1, .plain, 0, 0, 0, 0, 0⟩,  -- HUB_LASTGASP
  ⟨0x110, 1, .plain, 0, 0, 0, 0xffff0001, 0⟩,  -- HUB_LASTGASP_CLR
  ⟨0x140, 1, .plain, 0xfff, 0, 0, 0, 0⟩,  -- HUB_EVT_INDEX
  ⟨0x148, 8, .latch, 0, 0, 0, 0, 0⟩,  -- HUB_EVT_DATA0..7
  ⟨0x188, 1, .plain, 0, 0, 0, 0, 0⟩,  -- HUB_EVT_QUEUE
  ⟨0x190, 1, .plain, 0x7ff, 0, 0, 0, 0⟩,  -- HUB_EVT_COAL_INDEX
  ⟨0x198, 3, .latch, 0, 0, 0, 0, 0⟩  -- HUB_EVT_COAL_DATA0..2
]

/-- Registers of page kind hub1 (R164, R165, R239). -/
def rowsHub1 : List RegRow := [
  ⟨0x100, 1, .plain, 0, 0, 0, 0, 0⟩,  -- HUB_MIG_STATUS
  ⟨0x108, 1, .counter, 0, 0, 0, 0, 0⟩,  -- HUB_MIG_LATE
  ⟨0x110, 1, .counter, 0, 0, 0, 0, 0⟩,  -- HUB_MIG_FAULT
  ⟨0x118, 1, .counter, 0, 0, 0, 0, 0⟩,  -- HUB_MIG_KIB
  ⟨0x120, 1, .counter, 0, 0, 0, 0, 0⟩,  -- HUB_CVT_LOSSY
  ⟨0x128, 1, .counter, 0, 0, 0, 0, 0⟩,  -- HUB_CVT_RAW
  ⟨0x130, 1, .counter, 0, 0, 0, 0, 0⟩  -- HUB_CVT_FAIL
]

/-- Registers of page kind nvs0 (R497, R532, R540). -/
def rowsNvs0 : List RegRow := [
  ⟨0x100, 1, .plain, 0, 0, 0, 0, 0⟩,  -- NVS_STATUS
  ⟨0x108, 1, .plain, 0, 0, 0, 0, 0⟩,  -- NVS_LEASE0
  ⟨0x110, 1, .plain, 0, 0, 0, 0, 0⟩,  -- NVS_LEASE1
  ⟨0x118, 1, .plain, 0xfff, 0, 0, 0, 0⟩,  -- NVS_FALLOW_INDEX
  ⟨0x120, 2, .latch, 0, 0, 0, 0, 0⟩,  -- NVS_FALLOW_DATA0..1
  ⟨0x140, 1, .plain, 0, 0, 0, 0, 0⟩,  -- NVS_LOG_HEAD
  ⟨0x148, 1, .plain, 0xffff, 0, 0, 0, 0⟩,  -- NVS_LOG_INDEX
  ⟨0x150, 8, .latch, 0, 0, 0, 0, 0⟩,  -- NVS_LOG_DATA0..7
  ⟨0x190, 1, .plain, 0, 0, 0, 0, 0⟩,  -- NVS_LEDGER_HEAD
  ⟨0x198, 1, .plain, 0xfff, 0, 0, 0, 0⟩,  -- NVS_LEDGER_INDEX
  ⟨0x1a0, 4, .latch, 0, 0, 0, 0, 0⟩,  -- NVS_LEDGER_DATA0..3
  ⟨0x1c0, 16, .plain, 0, 0, 0, 0, 0⟩  -- NVS_COLOPHON0..15
]

/-- Registers of page kind gal0 (R378). -/
def rowsGal0 : List RegRow := [
  ⟨0x100, 1, .plain, 0x1ffffff, 0, 0, 0, 0x101000a⟩,  -- GAL_CFG
  ⟨0x108, 1, .plain, 0, 0, 0, 0, 0⟩,  -- GAL_STEP_NUM
  ⟨0x110, 1, .snap, 0, 0, 0, 0, 0⟩,  -- GAL_COUNT0
  ⟨0x118, 1, .snap, 0, 0, 0, 0, 0⟩,  -- GAL_COUNT1
  ⟨0x120, 1, .snap, 0, 0, 0, 0, 0⟩  -- GAL_COUNT2
]

/-- Registers of page kind gal1 (R379). -/
def rowsGal1 : List RegRow := [
  ⟨0x100, 1, .plain, 0x3f, 0, 0, 0, 0⟩,  -- GAL_PART_INDEX
  ⟨0x108, 1, .latch, 0xffffff1f01, 0, 0, 0, 0x1000⟩,  -- GAL_PART_DATA0
  ⟨0x110, 1, .latch, 0xffffffffffffffff, 0, 0, 0, 0⟩,  -- GAL_PART_DATA1
  ⟨0x118, 1, .latch, 0xffffffffffffffff, 0, 0, 0, 0⟩,  -- GAL_PART_DATA2
  ⟨0x120, 1, .latch, 0, 0, 0, 0, 0⟩,  -- GAL_PART_DATA3
  ⟨0x128, 1, .plain, 0, 0, 0, 0x1, 0⟩  -- GAL_PART_COMMIT
]

/-- Registers of page kind gal2 (R380). -/
def rowsGal2 : List RegRow := [
  ⟨0x100, 1, .counter, 0, 0, 0, 0, 0⟩,  -- GAL_RECORDS
  ⟨0x108, 1, .counter, 0, 0, 0, 0, 0⟩,  -- GAL_ADMITS
  ⟨0x110, 1, .counter, 0, 0, 0, 0, 0⟩,  -- GAL_ENDS
  ⟨0x118, 1, .counter, 0, 0, 0, 0, 0⟩,  -- GAL_TOKENS
  ⟨0x120, 1, .counter, 0, 0, 0, 0, 0⟩,  -- GAL_PROOFS_RUN
  ⟨0x128, 1, .counter, 0, 0, 0, 0, 0⟩,  -- GAL_PROOFS_ACCEPTED
  ⟨0x130, 1, .counter, 0, 0, 0, 0, 0⟩,  -- GAL_PREFIX_HITS
  ⟨0x138, 1, .counter, 0, 0, 0, 0, 0⟩,  -- GAL_PREFIX_INSERTS
  ⟨0x140, 1, .counter, 0, 0, 0, 0, 0⟩,  -- GAL_PREFIX_COLL
  ⟨0x148, 1, .counter, 0, 0, 0, 0, 0⟩,  -- GAL_PARKS
  ⟨0x150, 1, .counter, 0, 0, 0, 0, 0⟩,  -- GAL_PREEMPTS
  ⟨0x158, 1, .counter, 0, 0, 0, 0, 0⟩,  -- GAL_SWAPINS
  ⟨0x160, 1, .counter, 0, 0, 0, 0, 0⟩,  -- GAL_CMD_REFUSED
  ⟨0x168, 1, .counter, 0, 0, 0, 0, 0⟩  -- GAL_REPORTS_DEFERRED
]

/-- Registers of page kind gal3 (R335, R336, R337, R338, R339). -/
def rowsGal3 : List RegRow := [
  ⟨0x100, 1, .plain, 0x77f01ffff, 0, 0, 0x10000000000, 0⟩,  -- GAL_FORME_CTRL
  ⟨0x108, 1, .plain, 0, 0, 0, 0, 0⟩,  -- GAL_FORME_STATUS
  ⟨0x110, 1, .plain, 0x1ff, 0, 0, 0, 0x132⟩,  -- GAL_STEP_CFG
  ⟨0x118, 1, .plain, 0x7f, 0, 0, 0, 0⟩,  -- GAL_IMPO_INDEX
  ⟨0x120, 5, .latch, 0, 0, 0, 0, 0⟩,  -- GAL_IMPO_DATA0..4
  ⟨0x180, 1, .counter, 0, 0, 0, 0, 0⟩,  -- GAL_STEP_REPLAYS
  ⟨0x188, 1, .counter, 0, 0, 0, 0, 0⟩,  -- GAL_STEP_PACED
  ⟨0x190, 1, .counter, 0, 0, 0, 0, 0⟩,  -- GAL_FORME_STALLS
  ⟨0x198, 1, .counter, 0, 0, 0, 0, 0⟩,  -- GAL_SUSPECTS
  ⟨0x1a0, 1, .counter, 0, 0, 0, 0, 0⟩,  -- GAL_JOB_REFUSED
  ⟨0x1a8, 1, .counter, 0, 0, 0, 0, 0⟩,  -- GAL_TURNS
  ⟨0x1b0, 1, .counter, 0, 0, 0, 0, 0⟩,  -- GAL_FIT_TURNS
  ⟨0x1b8, 1, .counter, 0, 0, 0, 0, 0⟩  -- GAL_ABANDONED
]

/-- Registers of page kind fab0 (R414, R415, R416, R417, R418, R419). -/
def rowsFab0 : List RegRow := [
  ⟨0x100, 1, .plain, 0, 0, 0, 0, 0⟩,  -- FAB_STATUS
  ⟨0x108, 1, .plain, 0x7, 0, 0, 0xffff0018, 0x1⟩,  -- FAB_CTRL
  ⟨0x110, 1, .plain, 0, 0, 0, 0, 0⟩,  -- FAB_PARTNER_SERIAL
  ⟨0x118, 1, .plain, 0, 0, 0, 0, 0⟩,  -- FAB_PARTNER_INFO
  ⟨0x120, 1, .plain, 0xf, 0, 0, 0, 0⟩,  -- FAB_MAP
  ⟨0x128, 1, .plain, 0xffffffffffff, 0, 0, 0, 0x334004010880⟩,  -- FAB_CREDIT_CFG
  ⟨0x130, 1, .plain, 0xfffff, 0, 0, 0, 0x83213⟩  -- FAB_ARB_CFG
]

/-- Registers of page kind fab1 (R420, R421, R422). -/
def rowsFab1 : List RegRow := [
  ⟨0x100, 1, .derived, 0, 0, 0, 0, 0⟩,  -- FAB_TIME_NOW
  ⟨0x108, 1, .plain, 0x3ffff, 0, 0, 0, 0⟩,  -- FAB_TIME_CFG
  ⟨0x110, 1, .plain, 0, 0, 0, 0, 0⟩,  -- FAB_TIME_STATUS
  ⟨0x118, 1, .plain, 0xfff, 0, 0, 0, 0⟩,  -- FAB_RT_INDEX
  ⟨0x120, 1, .latch, 0xffffffffffffffff, 0, 0, 0, 0⟩,  -- FAB_RT_DATA0
  ⟨0x128, 1, .plain, 0, 0, 0, 0x1, 0⟩  -- FAB_RT_COMMIT
]

/-- Registers of page kind fab2 (R423). -/
def rowsFab2 : List RegRow := [
  ⟨0x100, 1, .counter, 0, 0, 0, 0, 0⟩,  -- FAB_FLITS_TX
  ⟨0x108, 1, .counter, 0, 0, 0, 0, 0⟩,  -- FAB_FLITS_RX
  ⟨0x110, 1, .counter, 0, 0, 0, 0, 0⟩,  -- FAB_FEC_CORR
  ⟨0x118, 1, .counter, 0, 0, 0, 0, 0⟩,  -- FAB_FEC_UNCORR
  ⟨0x120, 1, .counter, 0, 0, 0, 0, 0⟩,  -- FAB_RETRIES
  ⟨0x128, 1, .counter, 0, 0, 0, 0, 0⟩,  -- FAB_SLICE_DROPS
  ⟨0x130, 1, .counter, 0, 0, 0, 0, 0⟩,  -- FAB_DETOURS
  ⟨0x138, 1, .counter, 0, 0, 0, 0, 0⟩,  -- FAB_DETOUR_DROPS
  ⟨0x140, 1, .counter, 0, 0, 0, 0, 0⟩,  -- FAB_DUP_DROPS
  ⟨0x148, 1, .counter, 0, 0, 0, 0, 0⟩,  -- FAB_CREDIT_WAIT
  ⟨0x150, 1, .counter, 0, 0, 0, 0, 0⟩  -- FAB_RESENDS
]

/-- Registers of page kind fab3 (R424). -/
def rowsFab3 : List RegRow := [
  ⟨0x100, 1, .plain, 0, 0, 0, 0, 0⟩,  -- FAB_LANE_GOOD
  ⟨0x108, 1, .plain, 0, 0, 0, 0, 0⟩  -- FAB_SPARE_MAP
]

/-- Registers of page kind cd (R230, R231, R232). -/
def rowsCd : List RegRow := [
  ⟨0x100, 4, .plain, 0xbfbfbfbfbfbfbfbf, 0, 0, 0, 0⟩,  -- CD_CORE_MAP0..3
  ⟨0x120, 1, .plain, 0, 0, 0, 0, 0x212002⟩,  -- CD_SPARE_STATUS
  ⟨0x128, 1, .plain, 0, 0, 0, 0, 0⟩  -- CD_CORE_FALLOW
]

/-- Registers of page kind core (R233, R234, R235, R236, R237, R267, R268, R269, R296). -/
def rowsCore : List RegRow := [
  ⟨0x0, 1, .plain, 0, 0, 0, 0, 0⟩,  -- CORE_ID
  ⟨0x8, 1, .plain, 0, 0, 0, 0, 0⟩,  -- CORE_STATUS
  ⟨0x10, 1, .plain, 0x1ff, 0, 0, 0, 0x132⟩,  -- CORE_CFG
  ⟨0x18, 1, .plain, 0, 0, 0, 0, 0⟩,  -- CORE_T0_RESIDENT
  ⟨0x100, 1, .counter, 0, 0, 0, 0, 0⟩,  -- CORE_SORTS
  ⟨0x108, 1, .counter, 0, 0, 0, 0, 0⟩,  -- CORE_TILES
  ⟨0x110, 1, .counter, 0, 0, 0, 0, 0⟩,  -- CORE_ARRAY_CYCLES
  ⟨0x118, 1, .counter, 0, 0, 0, 0, 0⟩,  -- CORE_WEIGHT_WAIT
  ⟨0x120, 1, .counter, 0, 0, 0, 0, 0⟩,  -- CORE_T0_CE
  ⟨0x128, 1, .counter, 0, 0, 0, 0, 0⟩,  -- CORE_WF_BAD
  ⟨0x130, 1, .counter, 0, 0, 0, 0, 0⟩,  -- CORE_SAMPLES
  ⟨0x138, 1, .counter, 0, 0, 0, 0, 0⟩,  -- CORE_MERGES
  ⟨0x140, 1, .counter, 0, 0, 0, 0, 0⟩,  -- CORE_EMPTY_ATTN
  ⟨0x148, 1, .counter, 0, 0, 0, 0, 0⟩,  -- CORE_APPENDS
  ⟨0x200, 1, .plain, 0x3, 0, 0, 0, 0x3⟩,  -- CORE_ACC_CFG
  ⟨0x208, 1, .plain, 0, 0, 0, 0, 0⟩,  -- CORE_ACC_STATUS
  ⟨0x240, 1, .counter, 0, 0, 0, 0, 0⟩,  -- CORE_ACC_OVF_TILES
  ⟨0x248, 1, .counter, 0, 0, 0, 0, 0⟩,  -- CORE_ACC_REPLAYS
  ⟨0x250, 1, .counter, 0, 0, 0, 0, 0⟩,  -- CORE_ACC_SAT
  ⟨0x258, 1, .counter, 0, 0, 0, 0, 0⟩,  -- CORE_NONFINITE
  ⟨0x260, 1, .counter, 0, 0, 0, 0, 0⟩,  -- CORE_SLOT_WAIT
  ⟨0x268, 1, .counter, 0, 0, 0, 0, 0⟩,  -- CORE_ATOMIC_OUT
  ⟨0x270, 1, .counter, 0, 0, 0, 0, 0⟩,  -- CORE_ATOMIC_IN
  ⟨0x278, 1, .counter, 0, 0, 0, 0, 0⟩,  -- CORE_ATOMIC_OVF
  ⟨0x280, 1, .counter, 0, 0, 0, 0, 0⟩,  -- CORE_ORDERED_FOLDS
  ⟨0x288, 1, .counter, 0, 0, 0, 0, 0⟩  -- CORE_ACC_LEFT
]

/-- Registers of page kind md (R153). -/
def rowsMd : List RegRow := [
  ⟨0x100, 1, .plain, 0x1fff, 0, 0, 0, 0⟩,  -- MD_QUIRE_CFG
  ⟨0x108, 1, .plain, 0, 0, 0, 0, 0⟩  -- MD_QUIRE_STATUS
]

/-- Registers of page kind ch (R140, R141, R142, R143). -/
def rowsCh : List RegRow := [
  ⟨0x100, 1, .plain, 0, 0, 0, 0, 0⟩,  -- CH_STATUS
  ⟨0x108, 1, .plain, 0, 0, 0, 0xffff0001, 0⟩,  -- CH_MAPOUT
  ⟨0x110, 1, .counter, 0, 0, 0, 0, 0⟩,  -- CH_CE_L1
  ⟨0x118, 1, .counter, 0, 0, 0, 0, 0⟩,  -- CH_CE_L2
  ⟨0x120, 1, .counter, 0, 0, 0, 0, 0⟩,  -- CH_UE
  ⟨0x128, 1, .counter, 0, 0, 0, 0, 0⟩,  -- CH_MERGE_REFUSED
  ⟨0x130, 1, .plain, 0, 0, 0, 0, 0⟩  -- CH_LIMIT
]

/-- Registers of page kind nbu (R193, R194, R195, R196, R197, R198, R199, R200). -/
def rowsNbu : List RegRow := [
  ⟨0x100, 1, .plain, 0xffff1f, 0, 0, 0, 0x21418⟩,  -- NBU_CFG
  ⟨0x108, 1, .plain, 0, 0, 0, 0, 0x800000008⟩,  -- NBU_STATUS
  ⟨0x110, 8, .plain, 0, 0, 0, 0, 0⟩,  -- NBU_PAIR_BUSY0..7
  ⟨0x150, 8, .plain, 0, 0, 0, 0, 0⟩,  -- NBU_FALLOW0..7
  ⟨0x190, 1, .plain, 0, 0, 0, 0x1ffff01ff, 0⟩,  -- NBU_MAPOUT
  ⟨0x198, 1, .plain, 0x3ff, 0, 0, 0, 0⟩,  -- NBU_BIAS_INDEX
  ⟨0x1a0, 16, .latch, 0xffffffffffffffff, 0, 0, 0, 0⟩,  -- NBU_BIAS_DATA0..15
  ⟨0x220, 1, .plain, 0, 0, 0, 0x1, 0⟩,  -- NBU_BIAS_COMMIT
  ⟨0x228, 2, .plain, 0xffffffffffffffff, 0, 0, 0, 0xfefefefefefefefe⟩,  -- NBU_BIAS_OWNER0..1
  ⟨0x240, 1, .counter, 0, 0, 0, 0, 0⟩,  -- NBU_PAGES
  ⟨0x248, 1, .counter, 0, 0, 0, 0, 0⟩,  -- NBU_RECORDS
  ⟨0x250, 1, .counter, 0, 0, 0, 0, 0⟩,  -- NBU_YIELDS
  ⟨0x258, 1, .counter, 0, 0, 0, 0, 0⟩,  -- NBU_DUTY_WAIT
  ⟨0x260, 1, .counter, 0, 0, 0, 0, 0⟩,  -- NBU_NAN_SCORES
  ⟨0x268, 1, .counter, 0, 0, 0, 0, 0⟩,  -- NBU_ABORTS
  ⟨0x270, 1, .counter, 0, 0, 0, 0, 0⟩,  -- NBU_BUS_RETRY
  ⟨0x278, 1, .counter, 0, 0, 0, 0, 0⟩,  -- NBU_BOOST_REFRESH
  ⟨0x280, 1, .plain, 0x1ff, 0, 0, 0, 0⟩,  -- NBU_FAULT_INDEX
  ⟨0x288, 1, .latch, 0, 0, 0, 0, 0⟩  -- NBU_FAULT_DATA
]

/-- Registers of page kind trc (R531). -/
def rowsTrc : List RegRow := [
  ⟨0x100, 1, .plain, 0xffffffff00000007, 0, 0, 0x18, 0x4⟩,  -- TRC_CTRL
  ⟨0x108, 1, .plain, 0x7f3fffffff, 0, 0, 0, 0x3fff1ffe⟩,  -- TRC_FILTER0
  ⟨0x110, 1, .plain, 0x7fffffffffffffff, 0, 0, 0, 0⟩,  -- TRC_START_AT
  ⟨0x118, 1, .plain, 0x7fffffffffffffff, 0, 0, 0, 0⟩,  -- TRC_STOP_AT
  ⟨0x120, 1, .plain, 0, 0, 0, 0, 0⟩,  -- TRC_STATUS
  ⟨0x128, 1, .counter, 0, 0, 0, 0, 0⟩,  -- TRC_LOST
  ⟨0x130, 1, .plain, 0x1fffff, 0, 0, 0, 0⟩,  -- TRC_RD_INDEX
  ⟨0x138, 4, .latch, 0, 0, 0, 0, 0⟩,  -- TRC_RD_DATA0..3
  ⟨0x158, 1, .plain, 0xfffffffffffff3ff, 0, 0, 0, 0⟩,  -- TRC_DUMP_CTRL
  ⟨0x160, 1, .plain, 0, 0, 0, 0x1, 0⟩  -- TRC_DUMP_GO
]

/-- Registers of page kind cnt0 (R528, R529). -/
def rowsCnt0 : List RegRow := [
  ⟨0x100, 1, .plain, 0xffffffff, 0, 0, 0x300000000, 0⟩,  -- CNT_SNAP_CTRL
  ⟨0x108, 1, .plain, 0x7fffffffffffffff, 0, 0, 0, 0⟩,  -- CNT_SNAP_AT
  ⟨0x110, 1, .plain, 0, 0, 0, 0, 0⟩,  -- CNT_SNAP_STATUS
  ⟨0x118, 1, .plain, 0xffff, 0, 0, 0, 0x3e8⟩,  -- CNT_AUTO
  ⟨0x140, 1, .plain, 0, 0, 0, 0xffff000f, 0⟩,  -- CNT_STOP_CTRL
  ⟨0x148, 1, .plain, 0x7fffffffffffffff, 0, 0, 0, 0⟩,  -- CNT_STOP_AT
  ⟨0x150, 1, .plain, 0, 0, 0, 0, 0⟩,  -- CNT_STOP_STATUS
  ⟨0x158, 1, .plain, 0, 0, 0, 0, 0⟩,  -- CNT_STOP_STEP
  ⟨0x160, 24, .plain, 0, 0, 0, 0, 0⟩,  -- CNT_STOP_STAMP0..23
  ⟨0x220, 1, .plain, 0, 0, 0, 0, 0⟩  -- CNT_HOLD
]

/-- Registers of page kind cntg (R530). -/
def rowsCntg : List RegRow := [
  ⟨0x100, 1, .snap, 0, 0, 0, 0, 0⟩,  -- CNT_GRP_STAMP
  ⟨0x108, 1, .snap, 0, 0, 0, 0, 0⟩,  -- CNT_GRP_TICKS
  ⟨0x110, 256, .snap, 0, 0, 0, 0, 0⟩  -- occupancy counters 0..n
]

/-- Registers of page kind part (R452, R453, R454, R455, R456, R457). -/
def rowsPart : List RegRow := [
  ⟨0x100, 1, .plain, 0xffff0fff000e, 0, 0, 0, 0⟩,  -- PART_CFG
  ⟨0x108, 1, .plain, 0x3fffff0001ffff, 0, 0, 0, 0x151800000001e⟩,  -- PART_TIME
  ⟨0x110, 1, .plain, 0xffffffffffff, 0, 0, 0, 0⟩,  -- PART_POOL0
  ⟨0x118, 1, .plain, 0xffffff, 0, 0, 0, 0⟩,  -- PART_POOL1
  ⟨0x120, 1, .derived, 0, 0, 0, 0, 0⟩,  -- PART_USE0
  ⟨0x128, 1, .derived, 0, 0, 0, 0, 0⟩,  -- PART_USE1
  ⟨0x130, 1, .plain, 0, 0, 0, 0, 0⟩,  -- PART_STATE
  ⟨0x138, 4, .plain, 0, 0, 0, 0, 0⟩,  -- PART_CORES0..3
  ⟨0x158, 1, .plain, 0, 0, 0, 0x1, 0⟩,  -- PART_CTRL
  ⟨0x160, 1, .counter, 0, 0, 0, 0, 0⟩,  -- PART_HEDGE_VIOL
  ⟨0x168, 1, .counter, 0, 0, 0, 0, 0⟩,  -- PART_OUT_HELD
  ⟨0x170, 1, .plain, 0x1f1f01, 0, 0, 0, 0xa0a00⟩,  -- PART_DRING_CTRL
  ⟨0x178, 1, .plain, 0xfffffffffffff3ff, 0, 0, 0, 0⟩,  -- PART_DSQ_BASE
  ⟨0x180, 1, .plain, 0xfffffffffffff3ff, 0, 0, 0, 0⟩,  -- PART_DCQ_BASE
  ⟨0x188, 1, .plain, 0xfffffffffffff3ff, 0, 0, 0, 0⟩,  -- PART_DSHADOW_BASE
  ⟨0x190, 1, .plain, 0, 0, 0, 0, 0⟩,  -- PART_DRING_STATUS
  ⟨0x198, 1, .plain, 0, 0, 0, 0xffff, 0⟩,  -- PART_DSQ_DB
  ⟨0x1a0, 1, .plain, 0, 0, 0, 0xffff, 0⟩,  -- PART_DCQ_DB
  ⟨0x1a8, 1, .counter, 0, 0, 0, 0, 0⟩  -- Q_DB_IGNORED
]

/-- Registers of page kind q0 (R458). -/
def rowsQ0 : List RegRow := [
  ⟨0x100, 1, .plain, 0, 0, 0, 0xffff, 0⟩,  -- Q_SQ_DB
  ⟨0x108, 1, .plain, 0, 0, 0, 0xffff, 0⟩,  -- Q_CQ_DB
  ⟨0x110, 1, .plain, 0, 0, 0, 0xfff, 0⟩  -- Q_OUT_DB
]

/-- Registers of page kind q1 (R459). -/
def rowsQ1 : List RegRow := [
  ⟨0x100, 1, .plain, 0xf1f1f01, 0, 0, 0, 0x80a0a00⟩,  -- Q_RING_CTRL
  ⟨0x108, 1, .plain, 0xfffffffffffff3ff, 0, 0, 0, 0⟩,  -- Q_SQ_BASE
  ⟨0x110, 1, .plain, 0xfffffffffffff3ff, 0, 0, 0, 0⟩,  -- Q_CQ_BASE
  ⟨0x118, 1, .plain, 0xfffffffffffff3ff, 0, 0, 0, 0⟩,  -- Q_OUT_BASE
  ⟨0x120, 1, .plain, 0xfffffffffffff3ff, 0, 0, 0, 0⟩,  -- Q_SHADOW_BASE
  ⟨0x128, 1, .plain, 0, 0, 0, 0, 0⟩,  -- Q_RING_STATUS
  ⟨0x130, 1, .plain, 0x7ffffff, 0, 0, 0, 0x7010000⟩  -- Q_INT_CFG
]

/-- The registers of a page kind. -/
def PageKind.rows : PageKind → List RegRow
  | .dev0 => rowsDev0
  | .dev1 => rowsDev1
  | .hub0 => rowsHub0
  | .hub1 => rowsHub1
  | .nvs0 => rowsNvs0
  | .gal0 => rowsGal0
  | .gal1 => rowsGal1
  | .gal2 => rowsGal2
  | .gal3 => rowsGal3
  | .fab0 => rowsFab0
  | .fab1 => rowsFab1
  | .fab2 => rowsFab2
  | .fab3 => rowsFab3
  | .cd => rowsCd
  | .core => rowsCore
  | .md => rowsMd
  | .ch => rowsCh
  | .nbu => rowsNbu
  | .trc => rowsTrc
  | .cnt0 => rowsCnt0
  | .cntg => rowsCntg
  | .part => rowsPart
  | .q0 => rowsQ0
  | .q1 => rowsQ1


/-- The row that holds offset `off` of a page of kind `k`, with the index of the register in its run. -/
def findRow : List RegRow → Nat → Option (RegRow × Nat)
  | [], _ => none
  | r :: rs, off =>
    if r.off ≤ off ∧ off < r.off + 8 * r.count ∧ (off - r.off) % 8 = 0 then some (r, (off - r.off) / 8)
    else findRow rs off

/-- A page of the register space: its kind, the type code, the instance number, the number of pages of its block, its index
in the block, the offset of the block's page 0, and the block's index in the block directory (Table 16.1). -/
structure PageRef where
  kind : PageKind
  type : Nat
  inst : Nat
  pages : Nat
  index : Nat
  base : Nat
  dir : Nat
  deriving DecidableEq, Repr

/-- Where the model keeps the Q_ pages of virtual function `n`, which lie in no BAR0 page of the physical function. -/
def qBase (n : Nat) : Nat := 0x10000000 + n * 0x2000

/-- The page at page-aligned BAR0 offset `off` (R535), with the Q_ pages at `qBase`; none is reserved space. -/
def locate (off : Nat) : Option PageRef :=
  if off < 0x2000 then
    some ⟨if off = 0 then .dev0 else .dev1, 0x01, 0, 2, off / 0x1000, 0, 0⟩
  else if 0x10000 ≤ off ∧ off < 0x30000 ∧ off % 0x10000 < 0x2000 then
    let hb := off / 0x10000 - 1
    some ⟨if off / 0x1000 % 2 = 0 then .hub0 else .hub1, 0x02, hb, 2, off / 0x1000 % 2, 0x10000 * (hb + 1), 1 + hb⟩
  else if off = 0x30000 then some ⟨.nvs0, 0x03, 0, 1, 0, off, 3⟩
  else if 0x40000 ≤ off ∧ off < 0x44000 then
    let i := off / 0x1000 % 4
    some ⟨if i = 0 then .gal0 else if i = 1 then .gal1 else if i = 2 then .gal2 else .gal3, 0x04, 0, 4, i, 0x40000, 4⟩
  else if 0x80000 ≤ off ∧ off < 0x98000 then
    let p := (off - 0x80000) / 0x4000
    let i := off / 0x1000 % 4
    some ⟨if i = 0 then .fab0 else if i = 1 then .fab1 else if i = 2 then .fab2 else .fab3, 0x05, p, 4, i,
      0x80000 + p * 0x4000, 5 + p⟩
  else if 0x100000 ≤ off ∧ off < 0x300000 then
    let d := (off - 0x100000) / 0x40000
    let k := off / 0x1000 % 0x40
    if k = 0 then some ⟨.cd, 0x06, d, 1, 0, off, 11 + 18 * d⟩
    else if k ≤ 17 then some ⟨.core, 0x07, d * 256 + (k - 1), 1, 0, off, 11 + 18 * d + k⟩
    else none
  else if 0x300000 ≤ off ∧ off < 0x500000 then
    let d := (off - 0x300000) / 0x40000
    let k := off / 0x1000 % 0x40
    if k = 0 then some ⟨.md, 0x08, d, 1, 0, off, 155 + 19 * d⟩
    else if k ≤ 16 then some ⟨.ch, 0x09, d * 256 + (k - 1), 1, 0, off, 155 + 19 * d + k⟩
    else if k ≤ 18 then some ⟨.nbu, 0x0A, d * 256 + (k - 17), 1, 0, off, 155 + 19 * d + k⟩
    else none
  else if 0x500000 ≤ off ∧ off < 0x502000 then
    let hb := off / 0x1000 % 2
    some ⟨.trc, 0x0B, hb, 1, 0, off, 307 + hb⟩
  else if 0x502000 ≤ off ∧ off < 0x511000 then
    let i := (off - 0x502000) / 0x1000
    some ⟨if i = 0 then .cnt0 else .cntg, 0x0C, 0, 15, i, 0x502000, 309⟩
  else if 0x600000 ≤ off ∧ off < 0x640000 then
    let n := (off - 0x600000) / 0x1000
    some ⟨.part, 0x0D, n, 1, 0, off, 310 + n⟩
  else if 0x10000000 ≤ off ∧ off < 0x10080000 then
    let n := (off - 0x10000000) / 0x2000
    some ⟨if off / 0x1000 % 2 = 0 then .q0 else .q1, 0x0E, n, 2, off / 0x1000 % 2, qBase n, 374⟩
  else none

/-- Bits [15:0] of BLK_CAP by type code (Table 16.2). -/
def blkCap (type : Nat) : Nat :=
  [0, 0x090C, 0x0104, 0x0004, 0x0105, 0x0105, 0x0002, 0x0703, 0x0002, 0x0104, 0x0105, 0x0103, 0x0103, 0x0305, 0x0200].getD type 0

/-- Number of block-specific causes of a type: BLK_CAP.INT_CAUSES. -/
def intCauses (type : Nat) : Nat := blkCap type % 256

/-- Occupancy counters of group `g` (Table 15.3). -/
def occCount (g : Nat) : Nat :=
  [64, 64, 64, 64, 64, 64, 128, 128, 36, 36, 20, 18, 64, 26].getD g 0

/-- BLK_OWNER after reset: DEVICE; SHARED on CH_ and NBU_ pages, both halves of the field on CORE_ pages, and n on the Q_
pages of VF n (Table 16.2). -/
def ownerReset (p : PageRef) : Nat :=
  if p.type = 0x07 then 0xFFFF
  else if p.type = 0x09 ∨ p.type = 0x0A then 0xFE
  else if p.type = 0x0E then p.inst
  else 0xFF

/-- The slice of a CORE_ page offset: which core of the pair, and the offset within its slice (R113). -/
def coreSlice (off : Nat) : Option (Nat × Nat) :=
  if 0x100 ≤ off ∧ off < 0x800 then some (0, off - 0x100)
  else if 0x800 ≤ off ∧ off < 0xF00 then some (1, off - 0x800)
  else none

/-- The register at offset `off`, 0x100 or above, of page `p`. -/
def pageRow (p : PageRef) (off : Nat) : Option (RegRow × Nat) :=
  if p.kind = .core then
    match coreSlice off with
    | some (_, o) => findRow p.kind.rows o
    | none => none
  else if p.kind = .cntg ∧ 0x110 + 8 * occCount (p.index - 1) ≤ off then none
  else if off < 0x100 then none
  else findRow p.kind.rows off

/-- Reset value of a header register of page `p`, offsets 0x000 to 0x078 (R99, Table 4.2). -/
def headerReset (p : PageRef) (off : Nat) : Nat :=
  if off = 0x000 then p.type + 0x1000 + p.inst * 0x10000 + p.pages * 2 ^ 32 + p.index * 2 ^ 40
  else if off = 0x008 then blkCap p.type
  else if off = 0x010 then 1
  else if off = 0x018 then 1
  else if off = 0x070 then ownerReset p
  else 0

/-- Reset value of the register at `off` in page `p`: its row's, or the one computed for the instance
(CORE_ID R233, CD_CORE_MAP R230, FAB_MAP R417). -/
def instReset (p : PageRef) (off : Nat) (r : RegRow) (i : Nat) : Nat :=
  if p.kind = .core ∧ r.off = 0 then
    let c := 2 * (p.inst % 256) + (if off < 0x800 then 0 else 1)
    if c < 32 then c + c * 256 else c + 2 ^ 16
  else if p.kind = .cd ∧ r.off = 0x100 then ofLe ((List.range 8).map fun j => BitVec.ofNat 8 (0x80 + 8 * i + j))
  else if p.kind = .fab0 ∧ r.off = 0x120 then p.inst
  else r.reset

/-- What an unlisted entry of the register store holds: the reset value of the register at that offset. -/
def regReset (off : Nat) : Word :=
  match locate (off / 0x1000 * 0x1000) with
  | none => 0
  | some p =>
    let o := off % 0x1000
    if o < 0x100 then word (headerReset p o)
    else match pageRow p o with
      | some (r, i) => word (instReset p o r i)
      | none => 0


/-! ### Offsets by name -/

/-- Page 0 of the blocks, the name of a block in this model (R535). Dies are numbered 0 to 7, ports 0 to 5 for X−, X+, Y−,
Y+, Z−, Z+, halves 0 west and 1 east, core pairs 0 to 16, channels 0 to 15, groups of NBUs 0 and 1. -/
def Reg.devBlk : Nat := 0
def Reg.hubBlk (h : Nat) : Nat := 0x10000 * (h + 1)
def Reg.nvsBlk : Nat := 0x30000
def Reg.galBlk : Nat := 0x40000
def Reg.fabBlk (p : Nat) : Nat := 0x80000 + 0x4000 * p
def Reg.cdBlk (d : Nat) : Nat := 0x100000 + 0x40000 * d
def Reg.coreBlk (d pair : Nat) : Nat := 0x101000 + 0x40000 * d + 0x1000 * pair
def Reg.mdBlk (d : Nat) : Nat := 0x300000 + 0x40000 * d
def Reg.chBlk (d c : Nat) : Nat := 0x301000 + 0x40000 * d + 0x1000 * c
def Reg.nbuBlk (d g : Nat) : Nat := 0x311000 + 0x40000 * d + 0x1000 * g
def Reg.trcBlk (h : Nat) : Nat := 0x500000 + 0x1000 * h
def Reg.cntBlk : Nat := 0x502000
def Reg.partBlk (n : Nat) : Nat := 0x600000 + 0x1000 * n

def Reg.devPwrCfg : Nat := 0x200
def Reg.devPwrStatus : Nat := 0x208
def Reg.devThermStatus : Nat := 0x210
def Reg.devClkStatus : Nat := 0x218
def Reg.devRailStatus : Nat := 0x220
def Reg.devAccessErr : Nat := 0x228
def Reg.devAccessLast : Nat := 0x230
def Reg.devResetCtrl : Nat := 0x240
def Reg.devStartStatus : Nat := 0x248
def Reg.devStartCtrl : Nat := 0x250
def Reg.devLifecycle : Nat := 0x258
def Reg.devMemCfg : Nat := 0x300
def Reg.devMemCap0 : Nat := 0x308
def Reg.devMemCap1 : Nat := 0x310
def Reg.devTtIndex : Nat := 0x318
def Reg.devTtData (i : Nat) : Nat := 0x320 + 8 * i
def Reg.devRegionIndex : Nat := 0x340
def Reg.devRegionData0 : Nat := 0x348
def Reg.devRegionData1 : Nat := 0x350
def Reg.devRegionCommit : Nat := 0x358
def Reg.devHostArb : Nat := 0x380
def Reg.devAlertMask : Nat := 0x388
def Reg.devMboxCtrl : Nat := 0x400
def Reg.devMboxStatus : Nat := 0x408
def Reg.devMboxData (i : Nat) : Nat := 0x410 + 8 * i
def Reg.devTwinCfg : Nat := 0x600
def Reg.devTwinStatus : Nat := 0x608
def Reg.devFailStatus : Nat := 0x610
def Reg.devMtIndex : Nat := 0x618
def Reg.devMtData (i : Nat) : Nat := 0x620 + 8 * i
def Reg.devMirrorKib : Nat := 0x6a0
def Reg.devMirrorTimeouts : Nat := 0x6a8
def Reg.devAdoptions : Nat := 0x6b0
def Reg.devDeclares : Nat := 0x6b8
def Reg.devHandoffs : Nat := 0x6c0
def Reg.devDirCount : Nat := 0x1000 + 0x100
def Reg.hubMcStatus (h : Nat) : Nat := (0x10000 * (h + 1)) + 0x100
def Reg.hubLastgasp (h : Nat) : Nat := (0x10000 * (h + 1)) + 0x108
def Reg.hubLastgaspClr (h : Nat) : Nat := (0x10000 * (h + 1)) + 0x110
def Reg.hubEvtIndex (h : Nat) : Nat := (0x10000 * (h + 1)) + 0x140
def Reg.hubEvtData (h : Nat) (i : Nat) : Nat := (0x10000 * (h + 1)) + 0x148 + 8 * i
def Reg.hubEvtQueue (h : Nat) : Nat := (0x10000 * (h + 1)) + 0x188
def Reg.hubEvtCoalIndex (h : Nat) : Nat := (0x10000 * (h + 1)) + 0x190
def Reg.hubEvtCoalData (h : Nat) (i : Nat) : Nat := (0x10000 * (h + 1)) + 0x198 + 8 * i
def Reg.hubMigStatus (h : Nat) : Nat := (0x10000 * (h + 1) + 0x1000) + 0x100
def Reg.hubMigLate (h : Nat) : Nat := (0x10000 * (h + 1) + 0x1000) + 0x108
def Reg.hubMigFault (h : Nat) : Nat := (0x10000 * (h + 1) + 0x1000) + 0x110
def Reg.hubMigKib (h : Nat) : Nat := (0x10000 * (h + 1) + 0x1000) + 0x118
def Reg.hubCvtLossy (h : Nat) : Nat := (0x10000 * (h + 1) + 0x1000) + 0x120
def Reg.hubCvtRaw (h : Nat) : Nat := (0x10000 * (h + 1) + 0x1000) + 0x128
def Reg.hubCvtFail (h : Nat) : Nat := (0x10000 * (h + 1) + 0x1000) + 0x130
def Reg.nvsStatus : Nat := 0x30000 + 0x100
def Reg.nvsLease0 : Nat := 0x30000 + 0x108
def Reg.nvsLease1 : Nat := 0x30000 + 0x110
def Reg.nvsFallowIndex : Nat := 0x30000 + 0x118
def Reg.nvsFallowData (i : Nat) : Nat := 0x30000 + 0x120 + 8 * i
def Reg.nvsLogHead : Nat := 0x30000 + 0x140
def Reg.nvsLogIndex : Nat := 0x30000 + 0x148
def Reg.nvsLogData (i : Nat) : Nat := 0x30000 + 0x150 + 8 * i
def Reg.nvsLedgerHead : Nat := 0x30000 + 0x190
def Reg.nvsLedgerIndex : Nat := 0x30000 + 0x198
def Reg.nvsLedgerData (i : Nat) : Nat := 0x30000 + 0x1a0 + 8 * i
def Reg.nvsColophon (i : Nat) : Nat := 0x30000 + 0x1c0 + 8 * i
def Reg.galCfg : Nat := 0x40000 + 0x100
def Reg.galStepNum : Nat := 0x40000 + 0x108
def Reg.galCount0 : Nat := 0x40000 + 0x110
def Reg.galCount1 : Nat := 0x40000 + 0x118
def Reg.galCount2 : Nat := 0x40000 + 0x120
def Reg.galPartIndex : Nat := 0x41000 + 0x100
def Reg.galPartData0 : Nat := 0x41000 + 0x108
def Reg.galPartData1 : Nat := 0x41000 + 0x110
def Reg.galPartData2 : Nat := 0x41000 + 0x118
def Reg.galPartData3 : Nat := 0x41000 + 0x120
def Reg.galPartCommit : Nat := 0x41000 + 0x128
def Reg.galFormeCtrl : Nat := 0x43000 + 0x100
def Reg.galFormeStatus : Nat := 0x43000 + 0x108
def Reg.galStepCfg : Nat := 0x43000 + 0x110
def Reg.galImpoIndex : Nat := 0x43000 + 0x118
def Reg.galImpoData (i : Nat) : Nat := 0x43000 + 0x120 + 8 * i
def Reg.fabStatus (p : Nat) : Nat := (0x80000 + 0x4000 * p) + 0x100
def Reg.fabCtrl (p : Nat) : Nat := (0x80000 + 0x4000 * p) + 0x108
def Reg.fabPartnerSerial (p : Nat) : Nat := (0x80000 + 0x4000 * p) + 0x110
def Reg.fabPartnerInfo (p : Nat) : Nat := (0x80000 + 0x4000 * p) + 0x118
def Reg.fabMap (p : Nat) : Nat := (0x80000 + 0x4000 * p) + 0x120
def Reg.fabCreditCfg (p : Nat) : Nat := (0x80000 + 0x4000 * p) + 0x128
def Reg.fabArbCfg (p : Nat) : Nat := (0x80000 + 0x4000 * p) + 0x130
def Reg.fabTimeNow (p : Nat) : Nat := (0x81000 + 0x4000 * p) + 0x100
def Reg.fabTimeCfg (p : Nat) : Nat := (0x81000 + 0x4000 * p) + 0x108
def Reg.fabTimeStatus (p : Nat) : Nat := (0x81000 + 0x4000 * p) + 0x110
def Reg.fabRtIndex (p : Nat) : Nat := (0x81000 + 0x4000 * p) + 0x118
def Reg.fabRtData0 (p : Nat) : Nat := (0x81000 + 0x4000 * p) + 0x120
def Reg.fabRtCommit (p : Nat) : Nat := (0x81000 + 0x4000 * p) + 0x128
def Reg.fabFlitsTx (p : Nat) : Nat := (0x82000 + 0x4000 * p) + 0x100
def Reg.fabFlitsRx (p : Nat) : Nat := (0x82000 + 0x4000 * p) + 0x108
def Reg.fabFecCorr (p : Nat) : Nat := (0x82000 + 0x4000 * p) + 0x110
def Reg.fabFecUncorr (p : Nat) : Nat := (0x82000 + 0x4000 * p) + 0x118
def Reg.fabRetries (p : Nat) : Nat := (0x82000 + 0x4000 * p) + 0x120
def Reg.fabSliceDrops (p : Nat) : Nat := (0x82000 + 0x4000 * p) + 0x128
def Reg.fabDetours (p : Nat) : Nat := (0x82000 + 0x4000 * p) + 0x130
def Reg.fabDetourDrops (p : Nat) : Nat := (0x82000 + 0x4000 * p) + 0x138
def Reg.fabDupDrops (p : Nat) : Nat := (0x82000 + 0x4000 * p) + 0x140
def Reg.fabCreditWait (p : Nat) : Nat := (0x82000 + 0x4000 * p) + 0x148
def Reg.fabResends (p : Nat) : Nat := (0x82000 + 0x4000 * p) + 0x150
def Reg.fabLaneGood (p : Nat) : Nat := (0x83000 + 0x4000 * p) + 0x100
def Reg.fabSpareMap (p : Nat) : Nat := (0x83000 + 0x4000 * p) + 0x108
def Reg.cdCoreMap (d : Nat) (i : Nat) : Nat := (0x100000 + 0x40000 * d) + 0x100 + 8 * i
def Reg.cdSpareStatus (d : Nat) : Nat := (0x100000 + 0x40000 * d) + 0x120
def Reg.cdCoreFallow (d : Nat) : Nat := (0x100000 + 0x40000 * d) + 0x128
def Reg.coreId (d c : Nat) : Nat := (0x101100 + 0x40000 * d + 0x1000 * (c / 2) + 0x700 * (c % 2)) + 0x0
def Reg.coreStatus (d c : Nat) : Nat := (0x101100 + 0x40000 * d + 0x1000 * (c / 2) + 0x700 * (c % 2)) + 0x8
def Reg.coreCfg (d c : Nat) : Nat := (0x101100 + 0x40000 * d + 0x1000 * (c / 2) + 0x700 * (c % 2)) + 0x10
def Reg.coreT0Resident (d c : Nat) : Nat := (0x101100 + 0x40000 * d + 0x1000 * (c / 2) + 0x700 * (c % 2)) + 0x18
def Reg.coreSorts (d c : Nat) : Nat := (0x101100 + 0x40000 * d + 0x1000 * (c / 2) + 0x700 * (c % 2)) + 0x100
def Reg.coreTiles (d c : Nat) : Nat := (0x101100 + 0x40000 * d + 0x1000 * (c / 2) + 0x700 * (c % 2)) + 0x108
def Reg.coreArrayCycles (d c : Nat) : Nat := (0x101100 + 0x40000 * d + 0x1000 * (c / 2) + 0x700 * (c % 2)) + 0x110
def Reg.coreWeightWait (d c : Nat) : Nat := (0x101100 + 0x40000 * d + 0x1000 * (c / 2) + 0x700 * (c % 2)) + 0x118
def Reg.coreT0Ce (d c : Nat) : Nat := (0x101100 + 0x40000 * d + 0x1000 * (c / 2) + 0x700 * (c % 2)) + 0x120
def Reg.coreWfBad (d c : Nat) : Nat := (0x101100 + 0x40000 * d + 0x1000 * (c / 2) + 0x700 * (c % 2)) + 0x128
def Reg.coreSamples (d c : Nat) : Nat := (0x101100 + 0x40000 * d + 0x1000 * (c / 2) + 0x700 * (c % 2)) + 0x130
def Reg.coreMerges (d c : Nat) : Nat := (0x101100 + 0x40000 * d + 0x1000 * (c / 2) + 0x700 * (c % 2)) + 0x138
def Reg.coreEmptyAttn (d c : Nat) : Nat := (0x101100 + 0x40000 * d + 0x1000 * (c / 2) + 0x700 * (c % 2)) + 0x140
def Reg.coreAppends (d c : Nat) : Nat := (0x101100 + 0x40000 * d + 0x1000 * (c / 2) + 0x700 * (c % 2)) + 0x148
def Reg.coreAccCfg (d c : Nat) : Nat := (0x101100 + 0x40000 * d + 0x1000 * (c / 2) + 0x700 * (c % 2)) + 0x200
def Reg.coreAccStatus (d c : Nat) : Nat := (0x101100 + 0x40000 * d + 0x1000 * (c / 2) + 0x700 * (c % 2)) + 0x208
def Reg.coreAccOvfTiles (d c : Nat) : Nat := (0x101100 + 0x40000 * d + 0x1000 * (c / 2) + 0x700 * (c % 2)) + 0x240
def Reg.coreAccReplays (d c : Nat) : Nat := (0x101100 + 0x40000 * d + 0x1000 * (c / 2) + 0x700 * (c % 2)) + 0x248
def Reg.coreAccSat (d c : Nat) : Nat := (0x101100 + 0x40000 * d + 0x1000 * (c / 2) + 0x700 * (c % 2)) + 0x250
def Reg.coreNonfinite (d c : Nat) : Nat := (0x101100 + 0x40000 * d + 0x1000 * (c / 2) + 0x700 * (c % 2)) + 0x258
def Reg.coreSlotWait (d c : Nat) : Nat := (0x101100 + 0x40000 * d + 0x1000 * (c / 2) + 0x700 * (c % 2)) + 0x260
def Reg.coreAtomicOut (d c : Nat) : Nat := (0x101100 + 0x40000 * d + 0x1000 * (c / 2) + 0x700 * (c % 2)) + 0x268
def Reg.coreAtomicIn (d c : Nat) : Nat := (0x101100 + 0x40000 * d + 0x1000 * (c / 2) + 0x700 * (c % 2)) + 0x270
def Reg.coreAtomicOvf (d c : Nat) : Nat := (0x101100 + 0x40000 * d + 0x1000 * (c / 2) + 0x700 * (c % 2)) + 0x278
def Reg.coreOrderedFolds (d c : Nat) : Nat := (0x101100 + 0x40000 * d + 0x1000 * (c / 2) + 0x700 * (c % 2)) + 0x280
def Reg.coreAccLeft (d c : Nat) : Nat := (0x101100 + 0x40000 * d + 0x1000 * (c / 2) + 0x700 * (c % 2)) + 0x288
def Reg.mdQuireCfg (d : Nat) : Nat := (0x300000 + 0x40000 * d) + 0x100
def Reg.mdQuireStatus (d : Nat) : Nat := (0x300000 + 0x40000 * d) + 0x108
def Reg.chStatus (d c : Nat) : Nat := (0x301000 + 0x40000 * d + 0x1000 * c) + 0x100
def Reg.chMapout (d c : Nat) : Nat := (0x301000 + 0x40000 * d + 0x1000 * c) + 0x108
def Reg.chCeL1 (d c : Nat) : Nat := (0x301000 + 0x40000 * d + 0x1000 * c) + 0x110
def Reg.chCeL2 (d c : Nat) : Nat := (0x301000 + 0x40000 * d + 0x1000 * c) + 0x118
def Reg.chUe (d c : Nat) : Nat := (0x301000 + 0x40000 * d + 0x1000 * c) + 0x120
def Reg.chMergeRefused (d c : Nat) : Nat := (0x301000 + 0x40000 * d + 0x1000 * c) + 0x128
def Reg.chLimit (d c : Nat) : Nat := (0x301000 + 0x40000 * d + 0x1000 * c) + 0x130
def Reg.nbuCfg (d g : Nat) : Nat := (0x311000 + 0x40000 * d + 0x1000 * g) + 0x100
def Reg.nbuStatus (d g : Nat) : Nat := (0x311000 + 0x40000 * d + 0x1000 * g) + 0x108
def Reg.nbuPairBusy (d g : Nat) (i : Nat) : Nat := (0x311000 + 0x40000 * d + 0x1000 * g) + 0x110 + 8 * i
def Reg.nbuFallow (d g : Nat) (i : Nat) : Nat := (0x311000 + 0x40000 * d + 0x1000 * g) + 0x150 + 8 * i
def Reg.nbuMapout (d g : Nat) : Nat := (0x311000 + 0x40000 * d + 0x1000 * g) + 0x190
def Reg.nbuBiasIndex (d g : Nat) : Nat := (0x311000 + 0x40000 * d + 0x1000 * g) + 0x198
def Reg.nbuBiasData (d g : Nat) (i : Nat) : Nat := (0x311000 + 0x40000 * d + 0x1000 * g) + 0x1a0 + 8 * i
def Reg.nbuBiasCommit (d g : Nat) : Nat := (0x311000 + 0x40000 * d + 0x1000 * g) + 0x220
def Reg.nbuBiasOwner (d g : Nat) (i : Nat) : Nat := (0x311000 + 0x40000 * d + 0x1000 * g) + 0x228 + 8 * i
def Reg.nbuPages (d g : Nat) : Nat := (0x311000 + 0x40000 * d + 0x1000 * g) + 0x240
def Reg.nbuRecords (d g : Nat) : Nat := (0x311000 + 0x40000 * d + 0x1000 * g) + 0x248
def Reg.nbuYields (d g : Nat) : Nat := (0x311000 + 0x40000 * d + 0x1000 * g) + 0x250
def Reg.nbuDutyWait (d g : Nat) : Nat := (0x311000 + 0x40000 * d + 0x1000 * g) + 0x258
def Reg.nbuNanScores (d g : Nat) : Nat := (0x311000 + 0x40000 * d + 0x1000 * g) + 0x260
def Reg.nbuAborts (d g : Nat) : Nat := (0x311000 + 0x40000 * d + 0x1000 * g) + 0x268
def Reg.nbuBusRetry (d g : Nat) : Nat := (0x311000 + 0x40000 * d + 0x1000 * g) + 0x270
def Reg.nbuBoostRefresh (d g : Nat) : Nat := (0x311000 + 0x40000 * d + 0x1000 * g) + 0x278
def Reg.nbuFaultIndex (d g : Nat) : Nat := (0x311000 + 0x40000 * d + 0x1000 * g) + 0x280
def Reg.nbuFaultData (d g : Nat) : Nat := (0x311000 + 0x40000 * d + 0x1000 * g) + 0x288
def Reg.trcCtrl (h : Nat) : Nat := (0x500000 + 0x1000 * h) + 0x100
def Reg.trcFilter0 (h : Nat) : Nat := (0x500000 + 0x1000 * h) + 0x108
def Reg.trcStartAt (h : Nat) : Nat := (0x500000 + 0x1000 * h) + 0x110
def Reg.trcStopAt (h : Nat) : Nat := (0x500000 + 0x1000 * h) + 0x118
def Reg.trcStatus (h : Nat) : Nat := (0x500000 + 0x1000 * h) + 0x120
def Reg.trcLost (h : Nat) : Nat := (0x500000 + 0x1000 * h) + 0x128
def Reg.trcRdIndex (h : Nat) : Nat := (0x500000 + 0x1000 * h) + 0x130
def Reg.trcRdData (h : Nat) (i : Nat) : Nat := (0x500000 + 0x1000 * h) + 0x138 + 8 * i
def Reg.trcDumpCtrl (h : Nat) : Nat := (0x500000 + 0x1000 * h) + 0x158
def Reg.trcDumpGo (h : Nat) : Nat := (0x500000 + 0x1000 * h) + 0x160
def Reg.cntSnapCtrl : Nat := 0x502000 + 0x100
def Reg.cntSnapAt : Nat := 0x502000 + 0x108
def Reg.cntSnapStatus : Nat := 0x502000 + 0x110
def Reg.cntAuto : Nat := 0x502000 + 0x118
def Reg.cntStopCtrl : Nat := 0x502000 + 0x140
def Reg.cntStopAt : Nat := 0x502000 + 0x148
def Reg.cntStopStatus : Nat := 0x502000 + 0x150
def Reg.cntStopStep : Nat := 0x502000 + 0x158
def Reg.cntStopStamp (i : Nat) : Nat := 0x502000 + 0x160 + 8 * i
def Reg.cntHold : Nat := 0x502000 + 0x220
def Reg.cntGrpStamp (g : Nat) : Nat := (0x503000 + 0x1000 * g) + 0x100
def Reg.cntGrpTicks (g : Nat) : Nat := (0x503000 + 0x1000 * g) + 0x108
def Reg.partCfg (n : Nat) : Nat := (0x600000 + 0x1000 * n) + 0x100
def Reg.partTime (n : Nat) : Nat := (0x600000 + 0x1000 * n) + 0x108
def Reg.partPool0 (n : Nat) : Nat := (0x600000 + 0x1000 * n) + 0x110
def Reg.partPool1 (n : Nat) : Nat := (0x600000 + 0x1000 * n) + 0x118
def Reg.partUse0 (n : Nat) : Nat := (0x600000 + 0x1000 * n) + 0x120
def Reg.partUse1 (n : Nat) : Nat := (0x600000 + 0x1000 * n) + 0x128
def Reg.partState (n : Nat) : Nat := (0x600000 + 0x1000 * n) + 0x130
def Reg.partCores (n : Nat) (i : Nat) : Nat := (0x600000 + 0x1000 * n) + 0x138 + 8 * i
def Reg.partCtrl (n : Nat) : Nat := (0x600000 + 0x1000 * n) + 0x158
def Reg.partHedgeViol (n : Nat) : Nat := (0x600000 + 0x1000 * n) + 0x160
def Reg.partOutHeld (n : Nat) : Nat := (0x600000 + 0x1000 * n) + 0x168
def Reg.qDbIgnored (n : Nat) : Nat := (0x600000 + 0x1000 * n) + 0x1a8
def Reg.partDringCtrl (n : Nat) : Nat := (0x600000 + 0x1000 * n) + 0x170
def Reg.partDsqBase (n : Nat) : Nat := (0x600000 + 0x1000 * n) + 0x178
def Reg.partDcqBase (n : Nat) : Nat := (0x600000 + 0x1000 * n) + 0x180
def Reg.partDshadowBase (n : Nat) : Nat := (0x600000 + 0x1000 * n) + 0x188
def Reg.partDringStatus (n : Nat) : Nat := (0x600000 + 0x1000 * n) + 0x190
def Reg.partDsqDb (n : Nat) : Nat := (0x600000 + 0x1000 * n) + 0x198
def Reg.partDcqDb (n : Nat) : Nat := (0x600000 + 0x1000 * n) + 0x1a0
def Reg.qSqDb (n : Nat) : Nat := (qBase n) + 0x100
def Reg.qCqDb (n : Nat) : Nat := (qBase n) + 0x108
def Reg.qOutDb (n : Nat) : Nat := (qBase n) + 0x110
def Reg.qRingCtrl (n : Nat) : Nat := (qBase n + 0x1000) + 0x100
def Reg.qSqBase (n : Nat) : Nat := (qBase n + 0x1000) + 0x108
def Reg.qCqBase (n : Nat) : Nat := (qBase n + 0x1000) + 0x110
def Reg.qOutBase (n : Nat) : Nat := (qBase n + 0x1000) + 0x118
def Reg.qShadowBase (n : Nat) : Nat := (qBase n + 0x1000) + 0x120
def Reg.qRingStatus (n : Nat) : Nat := (qBase n + 0x1000) + 0x128
def Reg.qIntCfg (n : Nat) : Nat := (qBase n + 0x1000) + 0x130
def Reg.galRecords : Nat := 0x42000 + 0x100
def Reg.galAdmits : Nat := 0x42000 + 0x108
def Reg.galEnds : Nat := 0x42000 + 0x110
def Reg.galTokens : Nat := 0x42000 + 0x118
def Reg.galProofsRun : Nat := 0x42000 + 0x120
def Reg.galProofsAccepted : Nat := 0x42000 + 0x128
def Reg.galPrefixHits : Nat := 0x42000 + 0x130
def Reg.galPrefixInserts : Nat := 0x42000 + 0x138
def Reg.galPrefixColl : Nat := 0x42000 + 0x140
def Reg.galParks : Nat := 0x42000 + 0x148
def Reg.galPreempts : Nat := 0x42000 + 0x150
def Reg.galSwapins : Nat := 0x42000 + 0x158
def Reg.galCmdRefused : Nat := 0x42000 + 0x160
def Reg.galReportsDeferred : Nat := 0x42000 + 0x168
def Reg.galStepReplays : Nat := 0x43000 + 0x180
def Reg.galStepPaced : Nat := 0x43000 + 0x188
def Reg.galFormeStalls : Nat := 0x43000 + 0x190
def Reg.galSuspects : Nat := 0x43000 + 0x198
def Reg.galJobRefused : Nat := 0x43000 + 0x1a0
def Reg.galTurns : Nat := 0x43000 + 0x1a8
def Reg.galFitTurns : Nat := 0x43000 + 0x1b0
def Reg.galAbandoned : Nat := 0x43000 + 0x1b8
def Reg.cntOcc (g i : Nat) : Nat := 0x503000 + 0x1000 * g + 0x110 + 8 * i

end Sys2Proof.Machine
end

