-- ==== Sys2Proof/Config.lean ====
section
/-!
DEFINITION. What the manual fixes for the stepping, what each part holds of its own, and the free values: constants without
a body, so that a statement about one holds whatever it is.
-/
namespace Sys2Proof.Config

/-- The 64-bit serial number in the fuses of this part (R80). -/
opaque serial : BitVec 64

/-- A value the manual leaves open, drawn by the plain counter `State.free`; see the assumption log. -/
opaque freeWord : Nat → BitVec 64

/-- CODE of the ledger record of a start step that ends with TIMEOUT, for the steps whose code Table 3.7 leaves out. -/
opaque startTimeoutCode : Nat → Nat

/-- exp, in the near-bank units and the vector unit, at arguments other than 0 and −∞: the manual bounds its error and does not
give its bits (R174, R221). -/
opaque expFn : BitVec 32 → BitVec 32

/-- log, reciprocal square root, reciprocal, sigmoid and tanh of the vector unit (R221). -/
opaque lnFn : BitVec 32 → BitVec 32
opaque rsqrtFn : BitVec 32 → BitVec 32
opaque recipFn : BitVec 32 → BitVec 32
opaque sigmoidFn : BitVec 32 → BitVec 32
opaque tanhFn : BitVec 32 → BitVec 32

/-- cos and sin of position × frequency, from the position and the FP32 frequency (R286). -/
opaque cosFn : Nat → BitVec 32 → BitVec 32
opaque sinFn : Nat → BitVec 32 → BitVec 32

/-- Layer and 64-column part of the cache row that a DRAIN to the cache writes: no operand of the sort carries them (R282, R309). From
the imposition, the bucket, the segment entry and the index of the sort. -/
opaque drainRow : BitVec 64 → Nat → Nat → Nat → Nat × Nat

/-- T0 offset at which a FOLD with a T0 destination writes: no operand carries it (R311). -/
opaque foldOffset : BitVec 64 → Nat → Nat → Nat → Nat

/-- Elements of the vector operations that the manual names and gives no formula for (norms, activations, softmax): from the operation,
EPS, the element's index, and the FP32 elements of both sources (R311). -/
opaque vopElem : Nat → Nat → Nat → List (BitVec 32) → List (BitVec 32) → BitVec 32

/-- Element of the embedding of a token, in FP32: the manual does not say where the table lies. From the imposition, the segment entry
and the index of the sort, the token and the element's index (R311). -/
opaque embedding : BitVec 64 → Nat → Nat → Nat → Nat → BitVec 32

/-- Coordinates of the device with a serial number: the manual names twins by serial and gives no way from it to the
coordinates that a flit carries (R474, Table 12.2). -/
opaque coordOf : BitVec 64 → Nat

/-- The serial number of the device at coordinates: a mirror message names its home by coordinates only (R477). -/
opaque serialAt : Nat → BitVec 64

/-- The layout of a home's imposition matches that of an imposition of this device: the OPEN carries neither (R475). From the home's serial
and this device's IMPO_ID. -/
opaque twinLayout : BitVec 64 → BitVec 64 → Bool

/-- Blocks of a key-value head that the other members of a serving group hold: a member's container gives its own share only
(R301), and R347 and R357 ask for the sum. Used for groups of more than one member. -/
opaque peerBlocks : BitVec 64 → Nat → Nat

/-- Append-target entry of a block whose group another member of a serving group holds: only that member's directory names it (R275,
R318). From the imposition, the request, the head and the block. -/
opaque peerGroup : BitVec 64 → Nat → Nat → Nat → Nat

/-- OWNER_DIGEST of a device that holds an owner key: SipHash-2-4 of the key, which a life-cycle request brought (Table 12.10). -/
opaque ownerDigest : BitVec 64

/-- Device address of the directory of a hot mirror entry: the manual does not say where the SYSTEM pool holds it (R493). -/
opaque mirrorDirectory : Nat → Nat

/-- What the filter of R87 makes of the 16 offsets of an alignment, in ns: the manual does not give the filter. -/
opaque timeFilter : List Int → Int

end Sys2Proof.Config
end

