-- ==== Sys2Proof/Machine/Map.lean ====
section
/-!
DEFINITION. Sparse tables: a sorted list of (index, value) pairs that lists only the entries which differ from what an
unlisted index holds, so that equal tables are equal data. Registers, counters, T0, T1 and every table of the device use it.
-/
namespace Sys2Proof.Machine

/-- A sparse table. -/
abbrev Map (α : Type) := List (Nat × α)

/-- The value at index `k`; `d` gives what an unlisted index holds. -/
def Map.get {α : Type} (d : Nat → α) : Map α → Nat → α
  | [], k => d k
  | (k', v) :: m, k => if k' = k then v else Map.get d m k

/-- Insert or replace the entry of `k`, in place of order; no test of the default. -/
def Map.put {α : Type} : Map α → Nat → α → Map α
  | [], k, v => [(k, v)]
  | (k', v') :: m, k, v =>
    if k' < k then (k', v') :: Map.put m k v
    else if k' = k then (k, v) :: m
    else (k, v) :: (k', v') :: m

/-- Remove the entry of `k`. -/
def Map.del {α : Type} : Map α → Nat → Map α
  | [], _ => []
  | (k', v') :: m, k => if k' = k then Map.del m k else (k', v') :: Map.del m k

/-- Write `v` at `k`, keeping the canonical form: a value equal to the default is not listed. -/
def Map.set {α : Type} [DecidableEq α] (d : Nat → α) (m : Map α) (k : Nat) (v : α) : Map α :=
  if v = d k then Map.del m k else Map.put m k v

/-- Every listed index is at least `lo`, indices rise strictly, and no listed value is the default. -/
def Map.wfFrom {α : Type} [DecidableEq α] (d : Nat → α) : Nat → Map α → Bool
  | _, [] => true
  | lo, (k, v) :: m => decide (lo ≤ k) && decide (v ≠ d k) && Map.wfFrom d (k + 1) m

/-- The canonical form. -/
def Map.wf {α : Type} [DecidableEq α] (d : Nat → α) (m : Map α) : Bool := Map.wfFrom d 0 m

/-- Change every listed value; those that become the default are dropped. -/
def Map.mapVals {α : Type} [DecidableEq α] (d : Nat → α) (f : Nat → α → α) : Map α → Map α
  | [] => []
  | (k, v) :: m => if f k v = d k then Map.mapVals d f m else (k, f k v) :: Map.mapVals d f m

/-- The listed indices whose value passes `p`, in rising order. -/
def Map.keysWhere {α : Type} (p : Nat → α → Bool) (m : Map α) : List Nat :=
  (m.filter fun e => p e.1 e.2).map (·.1)

/-- Drop every listed entry whose index passes `p`: those indices hold the default again. -/
def Map.clearWhere {α : Type} (p : Nat → Bool) (m : Map α) : Map α :=
  m.filter fun e => !p e.1

end Sys2Proof.Machine
end

