-- ==== Sys2Proof/Syntax.lean ====
section
/-!
DEFINITION. The commands of the block: one constructor of `Instr` for each row of the table of operations and events, with
the operands its rule gives it. A row that a register write starts carries that write; a row that happens inside the device
or arrives from outside carries what the happening brings (what was measured, which part it names, the bytes that arrived).
-/
namespace Sys2Proof

/-- The two halves of the package (chapter 1). -/
inductive Half where
  | west | east
  deriving DecidableEq, Repr

/-- 0 west, 1 east, as every field that names a half has it. -/
def Half.idx : Half → Nat
  | .west => 0
  | .east => 1

/-- The other half. -/
def Half.other : Half → Half
  | .west => .east
  | .east => .west

/-- Who makes a register access, and by which path (R107, R109): the physical function through a PCIe port, virtual function
`n` through a port, a management controller, the stile class, the forme loader for a partition, a sort of a partition's
forme, or the I3C management bus. -/
inductive Requester where
  | pf (port : Half)
  | vf (n : Fin 64) (port : Half)
  | mc (h : Half)
  | stile
  | loader (part : Fin 64)
  | sort (part : Fin 64)
  | i3c
  deriving DecidableEq, Repr

/-- A register access: who, the BAR0 offset (for a virtual function, the offset in its own BAR0), the size in bytes. -/
structure Access where
  who : Requester
  off : Nat
  size : Nat
  deriving DecidableEq, Repr

/-- A register write: the access, the value, and `hwSet`, the bits of a W1C register that hardware sets in the same cycle
(R103). -/
structure RegWrite where
  who : Requester
  off : Nat
  size : Nat
  val : Word
  hwSet : Word
  deriving DecidableEq, Repr

/-- The access a write makes. -/
def RegWrite.access (w : RegWrite) : Access := ⟨w.who, w.off, w.size⟩


/-- What the governor has measured at a 10 µs evaluation, in W: the 100 µs and 1 ms averages of package power and of each
half's power (R44). -/
structure PowerSample where
  pkg100 : Nat
  west100 : Nat
  east100 : Nat
  pkg1m : Nat
  west1m : Nat
  east1m : Nat
  deriving DecidableEq, Repr

/-- The hottest sensor of every die, in °C: compute dies, memory dies, optical engines, hubs, NVS (R47). -/
structure ThermalSample where
  cd : Vector Int 8
  md : Vector Int 8
  oe : Vector Int 6
  hub : Vector Int 2
  nvs : Int
  deriving DecidableEq, Repr


/-- Who consumes the data of a sector read (R135): a near-bank page job of a request, a sort (a weight stream or another access),
host DMA or the register path, a move. -/
inductive Consumer where
  | pageJob (req : Fin 32768)
  | sort
  | host
  | migration (id : Nat)
  deriving DecidableEq, Repr

/-- What a copy or a restore gives a new place (R146, R147): an EXTENT tensor its T1_MAP; pages of a request, (head, entry, new
page-group number); the groups of a prefix node, (head, group); pages of a mirror entry. -/
inductive Moved where
  | extent (handle : Nat) (t1map : Word)
  | request (req : Fin 32768) (groups : List (Nat × Nat × Nat))
  | node (part : Fin 64) (node : Nat) (groups : List (Nat × Nat))
  | mirror (key : Nat) (groups : List (Nat × Nat × Nat))
  deriving DecidableEq, Repr

/-- A row of an announced slot table, with its append-target entries by head × K_MAX + block (R317, R318). -/
structure SlotRow where
  req : Nat
  kind : Nat
  length : Nat
  count : Nat
  append : List (Nat × Nat)
  deriving DecidableEq, Repr

/-- What the lead's close made of a request: committed length, known tokens with their positions, phase, end code or 0. -/
structure ReqSync where
  req : Nat
  length : Nat
  promptLen : Nat
  lastToken : Nat
  tokens : List (Nat × Nat)
  phase : Nat
  code : Nat
  deriving DecidableEq, Repr

/-- An announcement of a serving group's lead (R30, R327, R359, R464), whose layout the manual leaves open: `fate` of the step that the
members have reported: 0 closed, 1 replayed, 2 given up; T_n; the pick; IMPO_IDs to activate and not to activate. -/
structure Announce where
  fate : Fin 3
  tn : Option Nat
  settled : List ReqSync
  pick : Option (Nat × Bool × List (Option SlotRow))
  activate : Option (BitVec 64)
  cancel : Option (BitVec 64)
  deriving DecidableEq, Repr

/-- The commands. -/
inductive Instr where
  /-- VDD_HEATH_IN_TOLERANCE (R41). VDD_HEATH of a half enters tolerance, which starts the heath domain and, when both halves are off, a cold reset. -/
  | vddHeathInTolerance (h : Half)
  /-- VDD_HEATH_REMOVAL (R544). VDD_HEATH of a half leaves tolerance while its PWRGD is deasserted, which clears the trip latch and the last-gasp register, and clears DEV_START_CTRL when both halves are removed. -/
  | vddHeathRemoval (h : Half)
  /-- PWRGD_ASSERT (R41). The board asserts PWRGD of a half; the half starts, or is held with RAIL_SEQ when a rail is out of tolerance. -/
  | pwrgdAssert (h : Half) (rails : BitVec 18)
  /-- PWRGD_DEASSERT (R42). The board deasserts PWRGD of a half; within 100 us the half stops its dies, completes NVS writes, writes PWRGD_LOSS and goes down. -/
  | pwrgdDeassert (h : Half)
  /-- RAIL_FAULT (R43). A rail stays out of tolerance for 4 heath cycles while PWRGD is asserted, taking its half down or stopping compute die n and losing its memory die. -/
  | railFault (rail : Fin 18)
  /-- COLD_RST_N (R61). COLD_RST_N is held low for at least 1 ms, which starts a cold reset of the whole device. -/
  | coldRstN
  /-- PERST_N (R437). PERST_N resets one PCIe port only; its functions read as after cold reset while partitions, rings and regions are kept. -/
  | perstN (port : Half)
  /-- EPOCH_IN (R86). A rising edge on EPOCH_IN is timestamped, and an origin that has heard no offer loads EPOCH_BASE and becomes the time source. -/
  | epochIn
  /-- REFCLK_LOSS (R51). A reference clock shows no edge for 200 ns; the half fails over to the other reference, or with both lost the device sets TIME_LOST and fail-stops. -/
  | refclkLoss (h : Half)
  /-- STRAP_REREAD (R36). Once per second the heath domain re-reads the straps and raises STRAP_CHANGED when they differ from the sampled values. -/
  | strapReread (h : Half) (straps : BitVec 16)
  /-- GOVERNOR_EVALUATION (R44). Every 10 us the governor measures rail currents and averages and raises the throttle level for power or thermal requests. -/
  | governorEvaluation (p : PowerSample)
  /-- RAIL_OVERCURRENT (R44). A rail current has stayed above its maximum for 10 us; the level goes straight to 6. -/
  | railOvercurrent (rail : Fin 18) (p : PowerSample)
  /-- THROTTLE_LEVEL_FALL (R44). The level has been unchanged for 1 ms with averages below 95 % of the limits and no die near its threshold, so it falls by one. -/
  | throttleLevelFall (p : PowerSample)
  /-- LIMIT_UNMET (R44). Level 6 has held for 10 ms with a limit still exceeded; LIMIT_UNMET is set and both alerts asserted. -/
  | limitUnmet (p : PowerSample)
  /-- THERMAL_SAMPLE (R47). Every 10 us the heath domain reads the die sensors, requests throttle levels and raises NBU thermal steps. -/
  | thermalSample (t : ThermalSample)
  /-- THERMAL_TRIP (R48). A die reaches its trip temperature; within 10 us the half asserts THERMTRIP_N, writes THERMAL_TRIP into its last-gasp register and goes down, latched. -/
  | thermalTrip (die : Fin 24) (temp : Int)
  /-- NVS_WRITE_RESUME (R47). The NVS sensor has stayed below 95 C for 100 ms, so NVS writes resume without reset. -/
  | nvsWriteResume
  /-- NBU_THERMAL_STEP_FALL (R188). The memory-die sensor has been at least 2 C below a thermal step's threshold for 100 us, so the NBU thermal duty step falls by one. -/
  | nbuThermalStepFall (d : Fin 8) (temp : Int)
  /-- CLOCK_GATE (R54). No step has run for 20 us with IDLE_CLKGATE_EN set, so the compute dies are clock-gated. -/
  | clockGate (d : Fin 8)
  /-- POWER_GATE (R54). No step has run for PWRGATE_DELAY with IDLE_PWRGATE_EN set, so compute dies are power-gated and memory dies enter self-refresh. -/
  | powerGate (d : Fin 8)
  /-- DIE_WAKE (R55). A die finishes leaving its low-power state, its shadowed register writes are applied, and a held step may trigger. -/
  | dieWake (d : Fin 8)
  /-- SELF_REFRESH_EXIT (R54). A memory die completes self-refresh exit and the waiting mirror write or migration proceeds. -/
  | selfRefreshExit (d : Fin 8)
  /-- ENTDAA (R37). The I3C controller assigns the device a dynamic address by ENTDAA. -/
  | entdaa (addr : BitVec 7)
  /-- SETDASA (R37). The I3C controller assigns the device a dynamic address from its static address by SETDASA. -/
  | setdasa (static dyn : BitVec 7)
  /-- I3C_PRIVATE_WRITE (R541). A private write sets the transfer address and, with 12 bytes, writes 8 bytes at it in one of the three management bus spaces. -/
  | i3cPrivateWrite (addr : BitVec 7) (data : List Byte)
  /-- I3C_PRIVATE_READ (R541). A private read returns the 8 bytes at the transfer address and advances it by 8. -/
  | i3cPrivateRead (addr : BitVec 7)
  /-- BYPASS (R38). The test access port executes the IEEE 1149.1 BYPASS instruction. -/
  | bypass (tdi : List Bool)
  /-- IDCODE (R38). The test access port executes IDCODE and shifts out 0xB5A2_5C4B. -/
  | idcode (tdi : List Bool)
  /-- SAMPLE_PRELOAD (R38). The test access port executes SAMPLE/PRELOAD on the boundary register, or acts as BYPASS in DEPLOYED. -/
  | samplePreload (tdi pins : List Bool)
  /-- EXTEST (R38). The test access port executes EXTEST, or acts as BYPASS in DEPLOYED. -/
  | extest (tdi pins : List Bool)
  /-- CLAMP (R38). The test access port executes CLAMP, or acts as BYPASS in DEPLOYED. -/
  | clamp (tdi : List Bool)
  /-- HIGHZ (R38). The test access port executes HIGHZ, or acts as BYPASS in DEPLOYED. -/
  | highz (tdi : List Bool)
  /-- COLD_RESET (R61). A write of DEV_RESET_CTRL with KIND 3 and the key starts a cold reset running start steps 1 to 12 on both halves. -/
  | coldReset (w : RegWrite)
  /-- HALF_RESET (R61). A write of DEV_RESET_CTRL with KIND 2 starts a half reset of the half named by HALF_SEL. -/
  | halfReset (w : RegWrite)
  /-- WARM_RESET (R61). A write of DEV_RESET_CTRL with KIND 1 starts a warm reset running steps 4, 7, 11 and 12. -/
  | warmReset (w : RegWrite)
  /-- HEATH_POWER_GOOD (R71). Start step 1 ends when the heath PLL locks, the straps are sampled and the rails checked. -/
  | heathPowerGood (h : Half) (rails : BitVec 18) (straps : BitVec 16)
  /-- NVS_READ (R71). Start step 2 ends after reading colophon, ledger tail, lease, twin assignment, fallow map and pending marks, or with its alternate form. -/
  | nvsRead (h : Half) (readable : Bool)
  /-- HUB_SELF_TEST (R71). Start step 3 ends after the hub logic and SRAM tests. -/
  | hubSelfTest (h : Half) (failing : Option Nat)
  /-- IDENTITY_AND_FUSES (R80). Start step 4 ends after the fuses are read, the colophon checked or rebuilt and the firmware verified and started. -/
  | identityAndFuses (h : Half) (sigOk colophonOk : Bool) (fwVersion : BitVec 32)
  /-- MEMORY_DIE_TRAINING (R71). Start step 5 ends for a memory die after bond and channel timing training, or conservative timing with the die DERATED. -/
  | memoryDieTraining (d : Fin 8) (failing : BitVec 16)
  /-- MEMORY_SELF_TEST (R75). Start step 6 ends for a memory die after the march test, making failing bank pairs and channels fallow. -/
  | memorySelfTest (d : Fin 8) (pairs : List (Nat × Nat)) (channels : BitVec 16) (optDone : Bool)
  /-- COMPUTE_DIE_SELF_TEST (R202). Start step 7 ends for a compute die after the core test, mapping logical cores to passing physical cores and spares. -/
  | computeDieSelfTest (d : Fin 8) (failing : BitVec 34) (optDone : Bool)
  /-- PORT_TRAINED (R384). A port finishes lane training at the widest of 64, 48 or 32 lanes, or becomes fallow with fewer than 32 good lanes. -/
  | portTrained (p : Fin 6) (data : BitVec 64) (spares : BitVec 4)
  /-- LINK_WAIT_EXPIRY (R71). No partner light has appeared within LINK_WAIT, so the port ends step 8 DARK. -/
  | linkWaitExpiry (p : Fin 6)
  /-- TRAINING_TIMEOUT (R71). Training has not reached 32 good lanes 2.0 s after the partner's entry, so the port becomes fallow with LINK_TRAIN_FAIL. -/
  | trainingTimeout (p : Fin 6)
  /-- ORIGIN_LISTEN_EXPIRY (R86). The origin has heard no aligned-time offer for 10 ms and waits for EPOCH_IN to become the source. -/
  | originListenExpiry
  /-- EPOCH_ABSENT (R86). No EPOCH_IN edge arrives within 2 ms, so the origin loads EPOCH_BASE and becomes the source with EPOCH_ABSENT. -/
  | epochAbsent
  /-- TIME_NO_SOURCE (R88). No parent appears within ALIGN_WAIT, so step 10 ends TIMEOUT and the start continues with TIME_ALIGNED clear. -/
  | timeNoSource
  /-- WIPE (R69). Start step 11 completes the wipe of T1, T0, NBU query sets, bias tables and tensor table. -/
  | wipe (errs : List (Nat × Nat))
  /-- READY (R71). Start step 12 releases the galley, step sequencer and PCIe functions and rewrites the colophon. -/
  | ready
  /-- START_STEP_TIMEOUT (R71). A start step exceeds its bound and ends with TIMEOUT, counting as a failure. -/
  | startStepTimeout (h : Half) (inst : Nat)
  /-- AUTO_RESTART (R73). 100 ms after a failing start, the half starts again from step 1 with the failed step in its alternate form, or halts after three failures. -/
  | autoRestart (h : Half)
  /-- RESUME (R73). A write of DEV_START_CTRL.RESUME releases a HALTED half into a new start. -/
  | resumeHalted (w : RegWrite)
  /-- LIFECYCLE (R67). A mailbox LIFECYCLE request carries a signed life-cycle change, accepted or refused with LC_DENIED, LC_ILLEGAL or LC_BUSY. -/
  | lifecycle (w : RegWrite) (sigOk : Bool) (target : BitVec 2)
  /-- LIFECYCLE_CHANGE (R68). At the next step boundary an accepted change ends live entries, writes the pending marks and starts a cold reset that wipes and blows the fuse. -/
  | lifecycleChange
  /-- SUMMARY (R405). A colophon summary arrives from the partner and the port decides its outcome VERIFIED, CROSSED or QUARANTINE. -/
  | summary (p : Fin 6)
  /-- SUMMARY_RESEND (R405). Once per second while the port is not VERIFIED, the port sends its summary again. -/
  | summaryResend (p : Fin 6)
  /-- BLK_ENABLE (R100). A write of BLK_CTRL.ENABLE removes the block from or returns it to service from the next step boundary. -/
  | blkEnable (w : RegWrite)
  /-- BLK_QUIESCE (R100). A write of BLK_CTRL.QUIESCE makes the block finish outstanding work and accept none from the next step boundary. -/
  | blkQuiesce (w : RegWrite)
  /-- QUIESCED (R100). A quiescing block finishes its outstanding work and sets QUIESCED. -/
  | quiesced (blk : Nat)
  /-- BLOCK_RESET (R100). A write of BLK_CTRL.BLOCK_RESET resets a quiesced block's registers, or is refused with RESET_REFUSED. -/
  | blockReset (w : RegWrite)
  /-- BLOCK_RESET_DONE (R100). Within 2 us the block reset completes, clears RESET_BUSY and releases a held step trigger. -/
  | blockResetDone (blk : Nat)
  /-- IDLE_BOUNDARY_CHANGE (R101). A change due at the next step boundary takes effect within 10 us on a device between steps with no committed pick. -/
  | idleBoundaryChange
  /-- BLK_INT_EN_WRITE (R102). A write of BLK_INT_EN that turns on a bit already set in BLK_INT_RAW sends an interrupt message. -/
  | blkIntEnWrite (w : RegWrite)
  /-- BLK_SNAP (R105). A write of BLK_SNAP.TRIGGER copies the block's SNAP fields in one cycle, stamps them and sets SNAP_DONE, or merges into a snapshot within 8 ns. -/
  | blkSnap (w : RegWrite)
  /-- BLK_OWNER_WRITE (R108). A write of BLK_OWNER is accepted from a management controller while the block is quiesced, or refused with OWNER_REFUSED. -/
  | blkOwnerWrite (w : RegWrite)
  /-- WINDOW_INDEX_LATCH (R109). A write to the INDEX register of an indirect window latches a copy of the addressed entry for that requester. -/
  | windowIndexLatch (w : RegWrite)
  /-- REGISTER_WRITE (R11). A write to a register with no row of its own acts by its access type, after size, region and owner checks. -/
  | registerWrite (w : RegWrite)
  /-- REFUSED_READ (R96). A read that fails a size, region or owner check completes with data 0 and is counted in DEV_ACCESS_ERR. -/
  | refusedRead (a : Access)
  /-- DEV_ACCESS_ERR_WRITE (R538). A write to DEV_ACCESS_ERR with identity DEVICE clears both refusal counts. -/
  | devAccessErrWrite (w : RegWrite)
  /-- SECTOR_READ (R134). The channel controller reads a 64-byte sector and ends in clean, corrected, uncorrectable or poisoned, with write-back and counting. -/
  | sectorRead (da l1 l2 : Nat) (by_ : Consumer)
  /-- FULL_WRITE (R137). A full aligned 64-byte write stores fresh check symbols and clears any poison. -/
  | fullWrite (da : Nat) (data : List Byte)
  /-- PARTIAL_WRITE (R136). A write of fewer than 64 bytes runs as read-modify-write, refused with POISONED_MERGE onto a poisoned sector. -/
  | partialWrite (da : Nat) (data : List Byte) (l2 : Nat)
  /-- PARITY_XOR (R151). The parity channel applies a quire delta as an atomic XOR to the parity page. -/
  | parityXor (d : Fin 8) (c : Fin 16)
  /-- APPEND_PROMOTION (R128). An append that has waited 1 us in the reorder queue is served as class A. -/
  | appendPromotion (d : Fin 8) (c : Fin 16)
  /-- PATROL_SCRUB (R139). The patrol scrubber reads each populated sector once per SCRUB_PERIOD at class D and handles it per Table 5.8. -/
  | patrolScrub (da l1 l2 : Nat)
  /-- CE_LIMIT (R145). Corrected sectors of a channel reach CE_LIMIT within an hour and a drain map-out begins. -/
  | ceLimit (d : Fin 8) (c : Fin 16)
  /-- UE_LIMIT (R145). Distinct uncorrectable sectors reach UE_LIMIT within 24 h and a drain map-out begins. -/
  | ueLimit (d : Fin 8) (c : Fin 16)
  /-- LIMIT_WINDOW_RESTART (R143). The hour or 24 h window of the channel's internal map-out counts restarts. -/
  | limitWindowRestart (d : Fin 8) (c : Fin 16) (day : Bool)
  /-- HW_FAIL (R147). A controller loses its channel's command path, bond lanes or decoder; the channel goes RESTORING and its tensors are restored from their sources. -/
  | hwFail (d : Fin 8) (c : Fin 16) (part : Nat)
  /-- CH_MAPOUT (R141). A write of CH_MAPOUT.DRAIN with identity DEVICE and the key starts a drain map-out with cause REQUEST. -/
  | chMapout (w : RegWrite)
  /-- DRAIN_COPY_DONE (R146). The copy of one tensor from a DRAINING channel completes, its locations switching at the next boundary. -/
  | drainCopyDone (m : Moved)
  /-- RESTORE_DONE (R147). A tensor of a lost channel has been restored from its T2 copy, replica, parity or twin. -/
  | restoreDone (m : Moved) (image : Option (List Byte))
  /-- REBUILD_DONE (R152). A data page of a quire is rebuilt from the other pages and parity and written to another quire. -/
  | rebuildDone (req : Fin 32768) (head entry group : Nat)
  /-- QUIRE_PARITY_MOVED (R152). A data page moves out at class D to become the new parity of an exposed quire, which leaves EXPOSED. -/
  | quireParityMoved (d : Fin 8) (quire : Nat) (m : Option (Nat × Nat × Nat × Nat))
  /-- NOSPACE_WAIT (R156). A request whose append or turn found no slot for NOSPACE_WAIT ends with NO_CAPACITY. -/
  | nospaceWait (req : Fin 32768)
  /-- PARK_THRESHOLD (R158). A PAUSED request has been idle for its partition's park threshold and is parked to T2. -/
  | parkThreshold (req : Fin 32768)
  /-- TTL (R376). A request in ADMITTED, PAUSED, PARKED or SWAPPED passes TTL_AT and ends with TTL at the next boundary. -/
  | ttl (req : Fin 32768)
  /-- T2_READ_COMPLETION (R162). A host read of a migration completes, with data checked and expanded, or fails the migration with TIER_FAULT. -/
  | t2ReadCompletion (id off : Nat) (data : List Byte) (ok : Bool)
  /-- TIER_LATE (R162). A host read of a migration or token fetch has not completed within TIER_TIMEOUT, so it fails with TIER_LATE. -/
  | tierLate (token : Bool) (id : Nat)
  /-- MIGRATION_DONE (R161). A move finishes; into T1 the tensor becomes T1 at the next boundary, to T2 after a zero-length read its T1 slots are freed. -/
  | migrationDone (id : Nat)
  /-- QUERY_LOAD (R169). The NBUs named in a QUERY_LOAD transfer load a query set, or the malformed load marks the set EMPTY. -/
  | queryLoad (d : Fin 8) (c : Fin 16) (bytes : List Byte)
  /-- PAGE_JOB (R170). An NBU receives a 32-byte page job into its command queue. -/
  | pageJob (d : Fin 8) (c : Fin 16) (bytes : List Byte)
  /-- PAGE_START (R183). An NBU takes its bank pair for a page once duty, marked writes and yield windows allow. -/
  | pageStart (d : Fin 8) (c : Fin 16) (k : Fin 64) (waited : Nat)
  /-- PAGE_END (R173). An NBU finishes reading a page, updates its running softmax state and releases the pair. -/
  | pageEnd (d : Fin 8) (c : Fin 16) (k : Fin 64)
  /-- YIELD_WINDOW_END (R184). A yield window at a page boundary ends after 256 ns or when no class A or B access waits, and the next page starts. -/
  | yieldWindowEnd (d : Fin 8) (c : Fin 16) (k : Fin 64)
  /-- REFRESH (R187). A refresh of a bank pair falls due and runs, inside a page at the next row change and within 512 ns. -/
  | refresh (d : Fin 8) (c : Fin 16) (k : Fin 64) (tier : Fin 4) (boost : Bool)
  /-- PARTIAL_RECORD (R176). A partial-result record crosses the channel bus and the controller writes it into T0, signals TAG and acknowledges it. -/
  | partialRecord (d : Fin 8) (c : Fin 16) (k : Fin 64)
  /-- BUS_STATUS (R171). A STATUS beat reports a job completion with LAST 0 or a fault, freeing the job's command-queue entry. -/
  | busStatus (d : Fin 8) (c : Fin 16) (k : Fin 64)
  /-- BUS_ACK (R181). An ACK beat accepts records, freeing output-buffer entries, or NAKs a transfer that failed parity. -/
  | busAck (d : Fin 8) (c : Fin 16) (k : Fin 64) (failed : Option (BitVec 8))
  /-- NBU_PARITY (R190). A parity error in an NBU structure aborts its job, with one ABORTED record for the row. -/
  | nbuParity (d : Fin 8) (c : Fin 16) (k : Fin 64) (unit : Nat)
  /-- NBU_HANG (R190). A page delivers no sector for WDOG us; the NBU releases the pair, aborts and fails. -/
  | nbuHang (d : Fin 8) (c : Fin 16) (k : Fin 64) (lost : Bool)
  /-- FAULT_WINDOW_RESTART (R200). The 24 h window of the NBU internal fault counts restarts. -/
  | faultWindowRestart (d : Fin 8) (g : Fin 2)
  /-- NBU_MAPOUT (R196). A write of NBU_MAPOUT.GO with the key starts a drain map-out of the named bank pair. -/
  | nbuMapout (w : RegWrite)
  /-- NBU_BIAS_COMMIT (R197). A commit of a bias chunk is accepted, becoming live at the next step boundary, or refused with BIAS_BAD. -/
  | nbuBiasCommit (w : RegWrite)
  /-- NBU_BIAS_OWNER_WRITE (R198). A management controller changes the owner of a bias table, zeroed with the change at the next boundary. -/
  | nbuBiasOwnerWrite (w : RegWrite)
  /-- T0_UE (R203). An uncorrectable T0 word fails its core, which is stopped, made fallow and replaced by a spare, with the step held for replay. -/
  | t0Ue (d : Fin 8) (p : Fin 34) (off : BitVec 23) (engine : Fin 5)
  /-- CORE_PARITY (R203). A parity error in a core structure fails the core and starts spare takeover. -/
  | coreParity (d : Fin 8) (p : Fin 34) (part : Fin 6) (engine : Fin 5)
  /-- CORE_HANG (R203). A core completes no sort for WDOG us with satisfied tokens and fails. -/
  | coreHang (d : Fin 8) (p : Fin 34) (engine : Fin 5) (index : BitVec 16)
  /-- SPARE_WAKE (R203). The chosen spare core finishes waking from power-gating with T0 reading zero. -/
  | spareWake (d : Fin 8) (p : Fin 34)
  /-- SPARE_TAKEN (R203). The resident T0 image is copied into the spare and the core map and owner rewritten, so the replay may trigger. -/
  | spareTaken (d : Fin 8) (p : Fin 34)
  /-- NOP (R307). A NOP sort waits on its tokens and signals only. -/
  | nopSort (unit : Fin 256) (engine : Fin 6)
  /-- STREAM (R210). A STREAM sort streams weight tiles from T1 through the expander into the array's weight buffers. -/
  | streamSort (core : Fin 256)
  /-- FETCH (R307). A FETCH sort copies T1 bytes into T0. -/
  | fetchSort (core : Fin 256)
  /-- MATMUL (R251). A MATMUL sort computes one output tile over its K-loop, replaying with scaled operands on overflow up to REPLAY_MAX. -/
  | matmul (core : Fin 256)
  /-- DRAIN (R253). A DRAIN sort passes a slot group through rescale, scale, fused operation, rotation and conversion to its destination. -/
  | drainSort (core : Fin 256)
  /-- VOP (R311). A VOP sort performs a vector operation over T0. -/
  | vop (core : Fin 256)
  /-- MERGE (R292). A MERGE sort combines partial records by the windrow merge and normalises the output if asked. -/
  | mergeSort (core : Fin 256)
  /-- SAMPLE (R223). A SAMPLE sort runs the summary, merge or choose phase of the sampler. -/
  | sampleSort (core : Fin 256)
  /-- FOLD (R263). A FOLD sort sums staged contributions of an ordered reduction in a fixed pairwise tree. -/
  | foldSort (core : Fin 256)
  /-- STORE (R307). A STORE sort copies T0 bytes into T1. -/
  | storeSort (core : Fin 256)
  /-- COPY (R307). A COPY sort copies T0 bytes into T0 of another core of the device. -/
  | copySort (core : Fin 256)
  /-- SEND (R314). A SEND sort copies T0 bytes to a core of another member on class 0. -/
  | sendSort (core : Fin 256)
  /-- ATTEND (R322). An ATTEND sort makes the channel builder load query sets and build page jobs or NOOP records for its swath list. -/
  | attendSort (d : Fin 8) (c : Fin 16)
  /-- ATOMIC_ADD (R259). An atomic-add contribution is applied to a T0 line or T1 sector and a completion returned to the issuer. -/
  | atomicAdd (k : Nat)
  /-- CREDIT_STALL (R331). A single stall lasts STALL_LIMIT; the step is abandoned and replayed PACED. -/
  | creditStall (d : Fin 8) (core : Fin 256) (engine : Fin 6) (resource : Fin 5) (index : BitVec 32)
  /-- STEP_WATCHDOG (R331). A step runs past its scaled watchdog; it is abandoned and replayed PACED or its bucket made SUSPECT. -/
  | stepWatchdog (part : Fin 64)
  /-- STEP_TRIGGER (R25). The step sequencer triggers the next step when engines have ended, twins acknowledged, the pick committed and T_n reached. -/
  | stepTrigger
  /-- STEP_CLOSE (R353). When every engine has signalled the end of a step, the hub settles lengths and proofs, sends mirror traffic, applies commands and device changes, and commits the next pick. -/
  | stepClose
  /-- GALLEY_RELOAD (R473). The reload of the non-lease galley copy completes within 2 ms and the held trigger is released. -/
  | galleyReload (h : Half)
  /-- STEP_BATCH_RECORD (R364). The hub writes a partition's step batch record into the output ring once twin acknowledgements and a free slot allow. -/
  | stepBatchRecord (part : Fin 64)
  /-- TURN_COPY_DONE (R329). The last group copy of a turn completes and the new layout is switched in at the next boundary. -/
  | turnCopyDone (req : Fin 32768)
  /-- ENDED_HOLD (R355). An ENDED entry whose end is reported has been held for ENDED_HOLD and becomes FREE at the next boundary. -/
  | endedHold (req : Fin 32768)
  /-- ADMIT (R347). An ADMIT command takes the lowest FREE entry with a reservation, or is refused with the first failing code. -/
  | admitRequest
  /-- PROMPT (R368). A PROMPT command adds prompt tokens, matches prefix blocks and moves the request to PREFILL. -/
  | prompt
  /-- PROPOSE (R358). A PROPOSE command writes proofs for the next step, or is refused with PROOF_LIMIT. -/
  | propose
  /-- PAUSE (R372). A PAUSE command stops a request from being picked from the next boundary. -/
  | pauseRequest
  /-- END (R353). An END command ends the request with HOST_END at a boundary, after the close if IN_STEP. -/
  | endRequest
  /-- LOAD_TENSOR (R352). A LOAD_TENSOR command loads a tensor from a raw, container or MX source, or zero, at its placement. -/
  | loadTensor
  /-- MIGRATE (R545). A MIGRATE command moves, copies or frees a tensor or a request's pages between tiers. -/
  | migrate
  /-- SET_CLASS (R348). A SET_CLASS command changes the class, priority, deadline, sampling, log-probability or twin setting of a request. -/
  | setClass
  /-- COMMAND_FETCH (R447). A submission ring command arrives at the galley engine after its fetch, and its acceptance checks run. -/
  | commandFetch (part : Fin 64) (driver : Bool) (bytes : List Byte)
  /-- SQ_FETCH (R447). A submission fetch read fails or is late, so the ring stops with FAULT SQ_FETCH. -/
  | sqFetch (part : Fin 64) (driver : Bool)
  /-- TOKEN_FETCH_DONE (R352). Prompt or proof tokens arrive from host memory, clearing SKIP FETCH. -/
  | tokenFetchDone (req : Fin 32768) (data : List Byte) (ok : Bool)
  /-- GAL_PART_COMMIT (R379). A commit of the partition prefix-tree settings is accepted, or refused while the tree holds nodes or entries. -/
  | galPartCommit (w : RegWrite)
  /-- LOAD (R324). GAL_FORME_CTRL OP LOAD starts checking and loading a container into an imposition slot. -/
  | loadForme (w : RegWrite)
  /-- FORME_DONE (R325). A forme load completes with a code of Table 10.9, leaving the slot READY or unchanged. -/
  | formeDone
  /-- ACTIVATE (R326). GAL_FORME_CTRL OP ACTIVATE activates a READY imposition and its partner at the next boundary, or refuses it as incompatible. -/
  | activate (w : RegWrite)
  /-- UNLOAD (R328). GAL_FORME_CTRL OP UNLOAD frees a READY or EMPTY slot and its SYSTEM copies. -/
  | unload (w : RegWrite)
  /-- CLEAR_SUSPECT (R328). GAL_FORME_CTRL OP CLEAR_SUSPECT clears the SUSPECT marks of an ACTIVE slot. -/
  | clearSuspect (w : RegWrite)
  /-- DATA_FLIT (R389). A data flit arrives, is accepted in SEQ order or discarded, and is delivered or forwarded by the routing rules. -/
  | dataFlit (p : Fin 6) (flit : List Byte)
  /-- LINK_MANAGEMENT_FLIT (R390). A link-management flit returns credits, acknowledges, NAKs, and agrees width changes and lane retirements. -/
  | linkManagementFlit (p : Fin 6) (flit : List Byte)
  /-- IDLE_FLIT (R390). An idle flit is received and discarded. -/
  | idleFlit (p : Fin 6) (flit : List Byte)
  /-- LANE_FAIL (R385). A lane exceeds its error ratio or loses signal and is replaced by a spare or the width steps down. -/
  | laneFail (p : Fin 6) (lane : Fin 64)
  /-- SPARE_LANE_TRAINED (R385). A spare lane finishes training and takes the failed lane's logical number. -/
  | spareLaneTrained (p : Fin 6) (spare : Fin 4) (good : Bool)
  /-- WIDTH_CHANGE (R385). At the agreed super-frame the port steps down to the next width. -/
  | widthChange (p : Fin 6)
  /-- LINK_DOWN (R398). A port in UP loses light, lanes, link-management flits or hits the NAK limit, goes DOWN and turns off its transmitters. -/
  | linkDown (p : Fin 6) (cause : Fin 5)
  /-- ROUTE_AROUND (R402). Within 20 us of a port failure both hubs route around it, discarding unacknowledged flits and sending CLASS0_LOST. -/
  | routeAround (p : Fin 6)
  /-- RESEND (R393). A message of class 1, 3, 4 or 5 has no ACK after RESEND us and is sent again or abandoned after RESENDS. -/
  | resend (cls : Fin 6) (id : BitVec 32)
  /-- T0_WRITE (R314). A T0_WRITE message writes SEND data into a core's T0 and then applies its signal. -/
  | t0Write
  /-- SIGNAL (R314). A SIGNAL message increments a dependency token counter on another member. -/
  | signalMsg
  /-- PARTIAL (R293). A device partial record arrives on class 0 and is written into the home core's T0. -/
  | partialMsg
  /-- APPEND (R283). An APPEND message's key and value rows are written through the holding device's channel controllers and the arrival signalled. -/
  | appendMsg
  /-- STEP_REPORT (R30). An end-of-step report reaches the lead, which after the last report sets T_n and announces it. -/
  | stepReport (k : Fin 128) (m : Fin 64) (abandoned lacking : Bool)
  /-- STEP_ANNOUNCE (R359). A member receives T_n, the committed pick tables and any activation, and adopts them. -/
  | stepAnnounce (k : Fin 128) (a : Announce)
  /-- CMD_FORWARD (R359). A member receives a host command forwarded by the lead and applies it at the same boundary. -/
  | cmdForward (tokens : List Nat)
  /-- CLASS0_LOST (R402). A CLASS0_LOST message tells a source or lead that a step's class-0 traffic was lost, abandoning the step group-wide. -/
  | class0Lost
  /-- ACK (R393). An end-to-end ACK of class 1, 3, 4 or 5 confirms a message was applied and stops its resends. -/
  | ackMsg (cls : Fin 6)
  /-- TIME_EXCHANGE (R411). Every 1 ms a device starts a time exchange with its parent. -/
  | timeExchange
  /-- TIME_REQ (R411). A parent receives a time request and answers with its stamps. -/
  | timeReq (p : Fin 6)
  /-- TIME_RESP (R411). A child receives a time response, computes offset and delay, and slews its counter. -/
  | timeResp (p : Fin 6)
  /-- NO_PARENT_TIMEOUT (R413). A device has had no time parent for 100 ms and clears TIME_ALIGNED. -/
  | noParentTimeout
  /-- STILE (R408). A signed fleet-management request arrives on class 3 and is acted on after signature verification. -/
  | stileMsg (sigOk : Bool) (w : Option RegWrite)
  /-- CHUNK (R392). A class-5 CHUNK message writes up to 4 KiB of tensor bytes. -/
  | chunkMsg
  /-- LINK_EN (R415). A write of FAB_CTRL.LINK_EN turns a port on for training or off after a drain. -/
  | linkEn (w : RegWrite)
  /-- DRAIN_PORT (R415). A write of FAB_CTRL.DRAIN drains a port. -/
  | drainPort (w : RegWrite)
  /-- PORT_DRAIN_DONE (R397). A DRAINING port's retry buffer empties and the port goes OFF. -/
  | portDrainDone (p : Fin 6)
  /-- PATCH (R404). A write of FAB_CTRL.PATCH makes loss of light expected. -/
  | patchPort (w : RegWrite)
  /-- RETRAIN (R415). A write of FAB_CTRL.RETRAIN retrains a DOWN, DARK or OFF port. -/
  | retrain (w : RegWrite)
  /-- REJOIN (R403). A write of FAB_CTRL.REJOIN returns a verified port to routing at the next boundary. -/
  | rejoin (w : RegWrite)
  /-- PARTNER_LIGHT (R397). Light appears on a DARK or PATCHING port and it trains and verifies. -/
  | partnerLight (p : Fin 6)
  /-- PATCH_DARK_TIMEOUT (R404). A port still dark 2 s after light was expected goes DARK with LINK_DOWN captured. -/
  | patchDarkTimeout (p : Fin 6)
  /-- FAB_MAP_WRITE (R407). A write of FAB_MAP sets a logical direction and accepts a crossed port, or is refused with MAP_REFUSED. -/
  | fabMapWrite (w : RegWrite)
  /-- FAB_RT_COMMIT (R422). A commit of a routing entry takes effect at the next boundary or is refused. -/
  | fabRtCommit (w : RegWrite)
  /-- MBX_PART_ASSIGN (R433). A mailbox PART_ASSIGN request gives a partition its cores, tables, pools, port and slice. -/
  | mbxPartAssign (w : RegWrite)
  /-- PART_RELEASE (R434). A mailbox PART_RELEASE ends a partition's entries and wipes its resources. -/
  | partRelease (w : RegWrite)
  /-- PART_RESET (R435). A mailbox PART_RESET starts a partition reset. -/
  | partReset (w : RegWrite)
  /-- PART_CTRL_RESET (R435). A write of PART_CTRL.RESET starts a partition reset. -/
  | partCtrlReset (w : RegWrite)
  /-- WIPE_DONE (R434). The last slot of a released partition is zeroed; it becomes FREE and the mailbox request completes. -/
  | wipeDone (part : Fin 64)
  /-- RESET_DONE (R435). A partition reset wipe completes and the partition returns to ACTIVE. -/
  | resetDone (part : Fin 64)
  /-- SET_TWIN (R474). A mailbox SET_TWIN request sets TWIN_SERIAL, effective at the next boundary. -/
  | setTwin (w : RegWrite)
  /-- SET_SHAPE (R81). A mailbox SET_SHAPE request changes SHAPE, effective at the next start. -/
  | setShape (w : RegWrite)
  /-- SET_EPOCH_BASE (R86). A mailbox SET_EPOCH_BASE request writes EPOCH_BASE into the colophon. -/
  | setEpochBase (w : RegWrite)
  /-- TAKEOVER (R482). A mailbox TAKEOVER adopts the mirror entries of a named home at the next boundary. -/
  | takeover (w : RegWrite)
  /-- FUNCTION_LEVEL_RESET (R439). A Function Level Reset of VF n starts a partition reset. -/
  | functionLevelReset (part : Fin 64)
  /-- D3HOT (R439). A function enters D3hot, stopping its interrupts and the device's DMA on its behalf. -/
  | d3hot (fn : Option (Fin 64)) (port : Half)
  /-- PCIE_LINK_DOWN (R437). A hub's PCIe link leaves L0 and host DMA through that port stops. -/
  | pcieLinkDown (port : Half)
  /-- DEV_REGION_COMMIT (R441). A commit registers, changes or invalidates a host memory region, or is refused with its reason. -/
  | devRegionCommit (w : RegWrite)
  /-- DEV_HOST_ARB_WRITE (R451). A write of DEV_HOST_ARB sets a hub's arbitration copy and the other when linked, or is refused. -/
  | devHostArbWrite (w : RegWrite)
  /-- Q_SQ_DB (R446). A write of a submission doorbell advances the tail and starts fetching, or is ignored as DB_BAD. -/
  | qSqDb (w : RegWrite)
  /-- Q_CQ_DB (R446). A write of a completion head doorbell returns completion entries. -/
  | qCqDb (w : RegWrite)
  /-- Q_OUT_DB (R448). A write of the output head doorbell returns record slots and lets held records be written. -/
  | qOutDb (w : RegWrite)
  /-- RING_ENABLE (R459). Setting Q_RING_CTRL.ENABLE resets the indices and starts the rings, or is refused with BASE_BAD. -/
  | ringEnable (w : RegWrite)
  /-- RING_DISABLE (R459). Clearing Q_RING_CTRL.ENABLE stops fetching and record writing at once. -/
  | ringDisable (w : RegWrite)
  /-- CQ_DELAY_EXPIRY (R449). CQ_DELAY_US after the first unsignalled completion, VF vector 0 is sent. -/
  | cqDelayExpiry (part : Fin 64)
  /-- HEARTBEAT (R467). Every 100 us each management controller sends a heartbeat to the other. -/
  | heartbeat (h : Half)
  /-- MC_PEER_LOST (R467). No heartbeat for 300 us clears PEER_ALIVE and raises MC_PEER_LOST. -/
  | mcPeerLost (h : Half)
  /-- ACQUIRE (R468). An ACQUIRE takes the lease if free or expired, or is queued until expiry. -/
  | acquire (h : Half)
  /-- RENEW (R468). The holder renews the lease every 1 ms. -/
  | renew (h : Half)
  /-- RELEASE (R468). A RELEASE sets the lease HOLDER to NONE. -/
  | release (h : Half)
  /-- LEASE_EXPIRY (R468). The lease reaches EXPIRES; the NVS sets HOLDER NONE or grants a queued ACQUIRE. -/
  | leaseExpiry
  /-- RENEW_TIMEOUT (R468). A RENEW fails or goes unanswered for 1 ms and the holder stops control writes at expiry. -/
  | renewTimeout (h : Half)
  /-- MC_WATCHDOG (R469). A controller fails its watchdog for 200 us; the heath domain resets it and releases its lease. -/
  | mcWatchdog (h : Half)
  /-- HOST_ARB_ACTING (R470). A controller with no NVS and an expired lease acts as holder when the host arbitration register names it. -/
  | hostArbActing (h : Half)
  /-- FENCED (R471). No acting controller has been named for 50 ms after lease expiry, so both fence. -/
  | fenced
  /-- HUB_LINK_LOST (R473). The hub-to-hub link is lost and the non-lease half is taken down by half reset. -/
  | hubLinkLost
  /-- MIRROR_OPEN (R475). A twin receives OPEN and accepts a mirror entry or answers REFUSE. -/
  | mirrorOpen
  /-- MIRROR_TOKENS (R476). A twin receives token log entries of a synced request. -/
  | mirrorTokens
  /-- MIRROR_ROWS (R478). A twin writes a step's appended rows as class B traffic. -/
  | mirrorRows
  /-- MIRROR_STEP (R478). A twin applies a step's lengths once all its ROWS arrived and acknowledges it. -/
  | mirrorStep
  /-- MIRROR_CHANGE (R477). A twin updates a mirror entry after a change outside a close. -/
  | mirrorChange
  /-- MIRROR_END (R477). A twin frees a mirror entry and its pages. -/
  | mirrorEnd
  /-- MIRROR_SYNC (R476). A twin stores rows that existed before the OPEN. -/
  | mirrorSync
  /-- SYNC_DONE (R476). A twin marks a mirror entry SYNCED. -/
  | syncDone
  /-- BEAT (R477). A home sends BEAT every 1 ms while no STEP is sent, and the twin notes the home is alive. -/
  | beatMsg
  /-- DECLARE (R481). A twin applies a DECLARE, marking a home's requests for adoption at its next boundary. -/
  | declareMsg
  /-- HANDOFF (R485). A twin applies a HANDOFF of one request and adopts it. -/
  | handoffMsg
  /-- HANDOFF_SEND (R485). A hot twin-kept request has been SUSPECT-skipped for 40 ms, so the home hands it to the twin. -/
  | handoffSend (req : Fin 32768)
  /-- REFUSE (R475). A home receives REFUSE and drops the request's twin-keeping. -/
  | refuseMsg
  /-- MIRROR_TIMEOUT (R479). A STEP is unacknowledged for MIRROR_TIMEOUT, so the twin is treated as lost. -/
  | mirrorTimeout (req : Option (Fin 32768))
  /-- ISOLATED (R479). A home with no port UP has waited 10 ms and fail-stops. -/
  | isolated
  /-- HOME_SILENT (R482). No mirror message from a home for SILENCE raises HOME_SILENT once. -/
  | homeSilent (serial : BitVec 64)
  /-- GROUP_REPORT_TIMEOUT (R464). A member's report misses the timeout; the lead re-announces, then declares it lost and ends the group's requests with MEMBER_LOST. -/
  | groupReportTimeout (k : Fin 128)
  /-- LEAD_LOST (R464). A member receives no announcement after resending its report, declares the lead lost and ends the group's requests. -/
  | leadLost (k : Fin 128)
  /-- HUB_LASTGASP_CLR (R496). A write of HUB_LASTGASP_CLR with CLEAR and the key clears the last-gasp register. -/
  | hubLastgaspClr (w : RegWrite)
  /-- LOG_DEGRADED (R487). The NVS cannot be written, so events go only to the hub mirrors. -/
  | logDegraded
  /-- LOG_RESUMED (R487). The NVS is reachable again; mirrored records are copied into the log and LOG_DEGRADED clears. -/
  | logResumed
  /-- COUNTER_WRITE (R501). A write of a counter sets its count and clears its flags by Table 15.1. -/
  | counterWrite (w : RegWrite) (inc : Nat)
  /-- GROUP_SNAPSHOT (R505). A write of CNT_SNAP_CTRL.GO arms a group snapshot at T_s, or is refused. -/
  | groupSnapshot (w : RegWrite)
  /-- GROUP_CLEAR (R507). A write of CNT_SNAP_CTRL.CLEAR arms a clear of the groups at T_s. -/
  | groupClear (w : RegWrite)
  /-- SNAPSHOT_CAPTURE (R505). At T_s each die captures or clears the named groups in one cycle and stamps them. -/
  | snapshotCapture
  /-- AUTO_SNAPSHOT (R506). At each multiple of PERIOD_US of fabric time, groups 0 to 24 are captured. -/
  | autoSnapshot
  /-- TRACE_RECORD (R509). A trace record reaches the hub and is written to the store, or dropped and counted. -/
  | traceRecord (src : Fin 24)
  /-- TRC_CLEAR (R513). A write of TRC_CTRL.CLEAR empties the trace store. -/
  | trcClear (w : RegWrite)
  /-- TRC_MARK (R531). A write of TRC_CTRL.MARK writes a MARK record. -/
  | trcMark (w : RegWrite)
  /-- TRC_DUMP_GO (R515). A write of TRC_DUMP_GO starts copying held records by DMA, or fails with FAILED. -/
  | trcDumpGo (w : RegWrite)
  /-- DUMP_DONE (R515). A trace dump completes. -/
  | dumpDone (h : Half)
  /-- BOUNDARY_STOP_REQUEST (R517). A write of CNT_STOP_CTRL GO with KIND 1 arms a boundary stop at CNT_STOP_AT. -/
  | boundaryStopRequest (w : RegWrite)
  /-- IMMEDIATE_STOP_REQUEST (R518). A write of CNT_STOP_CTRL GO with KIND 2 arms an immediate stop. -/
  | immediateStopRequest (w : RegWrite)
  /-- STOP_RELEASE (R520). A write of CNT_STOP_CTRL.RELEASE cancels an armed stop or releases a held one. -/
  | stopRelease (w : RegWrite)
  /-- STOP_IMMEDIATE (R518). At the stop time each die halts within 48 core cycles and captures its counters. -/
  | stopImmediate (offs : List (BitVec 7))
  /-- STOP_BOUNDARY (R517). A boundary stop reaches its cut once class 1, 4, 5 acknowledgements arrive or 1 ms passes, and captures counters. -/
  | stopBoundary (timeout : Bool)
  /-- STOP_RELEASED (R520). An immediate stop is undone within 100 us: slots cleared, step replayed, held frames handled. -/
  | stopReleased
  /-- EVENT_RECORD_WRITE (R525). An event record leaves the queue into the NVS log and hub mirrors. -/
  | eventRecordWrite (westFail eastFail : Bool)
  /-- EVT_SUMMARY (R526). With occupancy at or below 256, the summary of a coalesced type enters the queue. -/
  | evtSummary
  /-- RESUME_COMMAND (R372). A host RESUME command (opcode 0x05) makes a PAUSED request eligible again at the next boundary, or starts the move to T1 of a PARKED request. -/
  | resumeCommand
  /-- PCIE_LINK_UP (R437). A hub's PCIe link returns to L0, clearing HUB_MIG_STATUS.PORT_DOWN so that host DMA, held records and migrations through that port resume. -/
  | pcieLinkUp (port : Half) (flit : Bool)
  /-- REFCLK_RETURN (R51). A lost reference clock shows edges again, setting REFCLK_OK and, once it has run 1 ms, allowing the half to return to it at the next half or cold reset. -/
  | refclkReturn (h : Half)
  /-- D0 (R439). A function returns from D3hot to D0, restarting its interrupts and the device's DMA on its behalf. -/
  | d0Enter (fn : Option (Fin 64)) (port : Half)
  /-- OCCUPANCY_TICK (R504). At each fabric time that is a multiple of 64 ns, every occupancy counter adds its queue's occupancy and CNT_GRP_TICKS adds 1. -/
  | occupancyTick
  /-- T0_SCRUB (R235). With T0_SCRUB_EN set, a core reads a T0 word in an idle port cycle, corrects it, writes it back and counts it in CORE_T0_CE, or fails the core on an uncorrectable word. -/
  | t0Scrub (d : Fin 8) (p : Fin 34) (off : BitVec 23) (bits : Fin 3)
  deriving DecidableEq, Repr

end Sys2Proof
end

