-- ==== Sys2Proof/Machine/Types.lean ====
section
/-!
DEFINITION. What the tensor table, the galley, the impositions and the step hold (chapters 5, 9, 10 and 11), as plain data.
-/
namespace Sys2Proof.Machine

/-! ### Tensors and moves (chapter 5) -/

/-- A tensor table entry (Table 5.2). `tier`: 0 NONE, 1 T1, 2 T2, 3 MOVING. `cls`: 0 WEIGHT, 1 RESERVED, 2 SHARED, 3 SYSTEM.
`t2off`: bits [63:12] of the offset within the region, in place. -/
structure Tensor where
  tier : Nat
  grouped : Bool
  t2copy : Bool
  pinned : Bool
  quire : Bool
  damaged : Bool
  owner : Nat
  cls : Nat
  size : Nat
  t1map : Word
  region : Nat
  t2off : Nat
  t2size : Nat
  gen : Nat
  deriving DecidableEq, Repr

/-- A host command at the galley engine: its ring (`driver`: the driver set of the partition) and its 64 bytes (R350);
`quiet`: forwarded by a lead, which writes the completion (R359); `gen`: generation of the entry it names; `ready`: its tokens
have arrived; `tokens`: those of a PROMPT or PROPOSE (R352). -/
structure Cmd where
  part : Nat
  driver : Bool
  quiet : Bool
  bytes : List Byte
  gen : Nat
  ready : Bool
  tokens : List Nat
  deriving DecidableEq, Repr

/-- What a move moves and why (R161, R164, R371 to R375). -/
inductive MoveKind where
  | load | toT1 | toT2 | copyT2 | park | preempt | reqToT2 | reqToT1 | resume | swapIn | reload
  deriving DecidableEq, Repr

/-- A move in progress or waiting. `handle`: its tensor; `region`, `off`, `len`: its source or destination in T2; `fmt`,
`container`: how a LOAD_TENSOR source is coded; `t1map`: destination of an EXTENT tensor; `groups`: head, entry and new group
number of each group of a return; `chunks`: the 4 KiB reads that have completed, by offset; `running`: an engine moves it;
`done`: complete, it takes effect at the next boundary; `cmd`: the command it completes. -/
structure Move where
  id : Nat
  kind : MoveKind
  handle : Nat
  hub : Half
  region : Nat
  off : Nat
  len : Nat
  fmt : Nat
  container : Bool
  t1map : Word
  groups : List (Nat × Nat × Nat)
  chunks : Map (List Byte)
  running : Bool
  finished : Bool
  failed : Nat
  cmd : Option Cmd
  deriving DecidableEq, Repr

/-- A run of page slots of one bank pair that a freed holder leaves, to be zeroed before it re-enters the free pool (R434). -/
structure SlotRun where
  die : Nat
  chan : Nat
  pair : Nat
  slot : Nat
  count : Nat
  deriving DecidableEq, Repr

/-! ### Galley entries (chapter 11) -/

/-- The share of one key-value head: the directory entry and the head list, page-group numbers by entry (Table 9.4, R276). -/
structure HeadList where
  first : Nat
  cap : Nat
  dieMask : Nat
  list : Map Nat
  deriving DecidableEq, Repr

/-- The head-list directory of a request (Table 9.3). `dim`: 0, 1, 2 for 64, 128, 256. -/
structure Directory where
  layers : Nat
  format : Nat
  dim : Nat
  swathLen : Nat
  heads : List HeadList
  deriving DecidableEq, Repr

/-- A galley entry (Table 11.1), with its token log and directory, and what the engine keeps for it. `skips`: bit r for skip
reason r; `ends`: end causes raised and not yet acted on; `turn`: the directory a turn builds, and whether it is a fit turn;
`turnDone`: its last copy is complete; `noSlotSince`: since when it waits for slots; `reportedAt`: when its end was reported;
`offersStop`: prefix offers stopped (R370); `setAside`: slots of its reservation (R155); `recFlags`: flags its next record
entry carries; `synced`, `twinDropped`: twin-keeping (R476, R26); `declared`: covered by a DECLARE; `fitTried`: it has had a fit
turn; `suspectSince`: since when it skips SUSPECT; `parked`: head and entry of
the private groups in T2, in image order; `ran`: a chunk of it has run (R368). -/
structure Entry where
  state : Nat
  phase : Nat
  cls : Nat
  logprob : Bool
  noShare : Bool
  priority : Nat
  twin : Nat
  partition : Nat
  promptFinal : Bool
  turnPending : Bool
  endPending : Bool
  pausePending : Bool
  resumePending : Bool
  skips : Nat
  code : Nat
  gen : Nat
  tag : Nat
  lastToken : Nat
  proofLen : Nat
  deadline : Word
  length : Nat
  promptLen : Nat
  maxLen : Nat
  sharedLen : Nat
  headRoot : Nat
  prefixNode : Nat
  toklogAt : Nat
  lastStamp : Nat
  ttlAt : Nat
  seed : Word
  temp : Nat
  topP : Nat
  topK : Nat
  admitStamp : Nat
  skipped : Nat
  run : Nat
  toklog : Map Nat
  dir : Directory
  ends : List Nat
  turn : Option (Bool × Directory)
  turnDone : Bool
  fitTried : Bool
  noSlotSince : Option Nat
  reportedAt : Option Nat
  offersStop : Bool
  setAside : Nat
  recFlags : Nat
  synced : Bool
  suspectSince : Option Nat
  parked : List (Nat × Nat)
  ran : Bool
  deriving DecidableEq, Repr

/-- A prefix node (Table 11.10). -/
structure PrefixNode where
  hash : Word
  parent : Nat
  next : Option Nat
  refs : Nat
  children : Nat
  block : Nat
  valid : Bool
  quire : Bool
  lastUse : Nat
  tokens : List Nat
  groups : List Nat
  deriving DecidableEq, Repr

/-- The prefix tree of a partition (R367, R379): its settings, nodes by number, bucket heads, and the LAYERS of its groups. -/
structure PrefixTree where
  layers : Nat
  enabled : Bool
  bucketsLog2 : Nat
  cap : Nat
  keyLo : Word
  keyHi : Word
  allocated : Bool
  nodes : Map PrefixNode
  buckets : Map Nat
  deriving DecidableEq, Repr

/-- An entry of a step batch record (Table 11.8), with the galley index it reports. -/
structure RecEntry where
  req : Nat
  tag : Nat
  token : Nat
  logprob : Nat
  flags : Nat
  accepted : Nat
  code : Nat
  deriving DecidableEq, Repr

/-- A step batch record that waits to be written (Table 11.7); `twin`: an entry of it awaits the twin's acknowledgement (R366). -/
structure Record where
  twin : Bool
  part : Nat
  step : Nat
  trigger : Nat
  closed : Nat
  flags : Nat
  bucket : Nat
  gen : Nat
  entries : List RecEntry
  deriving DecidableEq, Repr

/-! ### Impositions (chapter 10) -/

/-- The share of a head in an imposition (R301). -/
structure ImpoHead where
  homeMember : Nat
  homeCore : Nat
  dieMask : Nat
  first : Nat
  cap : Nat
  deriving DecidableEq, Repr

/-- An entry of the tensor list (R301). -/
structure ImpoTensor where
  handle : Nat
  fmt : Nat
  size : Nat
  t1map : Word
  deriving DecidableEq, Repr

/-- An imposition record (Table 10.4) with its member table, head table and tensor list. -/
structure ImpoRecord where
  modelId : Word
  layers : Nat
  format : Nat
  dim : Nat
  swathLen : Nat
  qheads : Nat
  groupSize : Nat
  vocab : Nat
  lead : Nat
  margin : Nat
  reportTimeout : Nat
  flags : Nat
  members : List (Word × Nat)
  heads : List ImpoHead
  tensors : List ImpoTensor
  deriving DecidableEq, Repr

/-- A forme (Table 10.5), its segments as lists of 64-byte sorts by directory entry, and its vector map. -/
structure Forme where
  bucket : Nat
  flags : Nat
  dslots : Nat
  pslots : Nat
  chunk : Nat
  maxProofs : Nat
  kMax : Nat
  dieSwaths : Nat
  chRows : Nat
  tokens : Nat
  vectors : Nat
  expectUs : Nat
  limitUs : Nat
  t0Scratch : Nat
  rqCredits : Nat
  portCredits : Nat
  segments : Map (List (List Byte))
  vmap : List Nat
  deriving DecidableEq, Repr

/-- An imposition slot (R338). `state`: 0 EMPTY, 1 LOADING, 2 READY, 3 ACTIVE; `loaded` and `suspect` are bucket masks. -/
structure ImpoSlot where
  state : Nat
  kind : Nat
  partition : Nat
  handle : Nat
  impoId : Word
  partnerId : Word
  member : Nat
  suspect : Nat
  generation : Nat
  tokenBase : Nat
  bytes : Nat
  record : ImpoRecord
  formes : List Forme
  resident : Map (List Byte)
  bias : Map (List Byte)
  deriving DecidableEq, Repr

/-! ### The step -/

/-- A row of the slot table (R317) and how the slot's output fared in the step. `flags`: bits of
Table 11.9 raised in the step; `append`: the append-target entries by head × K_MAX + block (R318). `samples`: by position index j, token and log-probability; none where SAMPLE_NONE. -/
structure Slot where
  req : Nat
  kind : Nat
  length : Nat
  count : Nat
  isVoid : Bool
  flags : Nat
  append : Map Nat
  samples : Map (Option (Nat × Nat))
  deriving DecidableEq, Repr

/-- What the pick committed for one partition (R303, R316): imposition slot, bucket exponent, batch slots in order, decode
slots first. -/
structure PartPick where
  part : Nat
  impo : Nat
  bucket : Nat
  slots : List (Option Slot)
  deriving DecidableEq, Repr

/-- How a step comes to run again (R332): none; NORMAL; PACED. -/
inductive Replay where
  | none | normal | paced
  deriving DecidableEq, Repr

/-- An atomic-add contribution on its way to one line of T0 or one sector of T1 (R259): the logical core that issued it and its sort;
format code; `inT1`: the destination is device address `at_`, else offset `at_` of T0 of logical core `core`. -/
structure Contribution where
  issuer : Nat
  index : Nat
  sort : List Byte
  fmt : Nat
  inT1 : Bool
  core : Nat
  at_ : Nat
  bytes : List Byte
  deriving DecidableEq, Repr

/-- The step sequencer: the running step or the last one (`num`), its picks, the pick committed for the next, replays, the
dependency tokens by 4096 × die + counter (R312), what holds the trigger. `holds`: restores, reloads and spare takeovers that
hold the trigger, by number; `late`: LATE_TRIGGER; `tn`: the announced time of the next trigger in a serving group (R30);
`pcs`: the next sort index of each engine, by 8 × (32d + n) + engine, builders by 4096 + 16d + c; `atomics`: contributions not yet
applied. -/
structure StepState where
  running : Bool
  num : Word
  triggerAt : Nat
  current : List PartPick
  committed : Option (List PartPick)
  replay : Replay
  replayed : Bool
  paced : Bool
  late : Bool
  holds : List Nat
  tn : Option Nat
  tokens : Map Nat
  pcs : Map Nat
  failures : Nat
  atomics : List Contribution
  deriving DecidableEq, Repr

/-! ### Near-bank units and channels (chapters 5 and 6) -/

/-- A query set (R168); FP32 and BF16 values as their codes. -/
structure QuerySet where
  empty : Bool
  qcount : Nat
  dim : Nat
  scale : Nat
  vScale : Nat
  part : Nat
  qpos : List Nat
  q : List (List Nat)
  deriving DecidableEq, Repr

/-- The running state of one query (R173): m, l and o as FP32 codes. -/
structure RunQuery where
  m : Nat
  l : Nat
  o : List Nat
  deriving DecidableEq, Repr

/-- A record on its way to T0: destination core (logical), T0 offset, counter that its TAG names, bytes; `sent`: it has crossed
the bus and awaits its ACK. -/
structure OutRec where
  core : Nat
  off : Nat
  tag : Nat
  bytes : List Byte
  sent : Bool
  deriving DecidableEq, Repr

/-- A near-bank unit. `jobs`: its command queue, the job in progress first, `page` its next page; `holds`: it holds its pair;
`prev`: the last job sent to it; `mark`: REQ, LAYER and KVHEAD whose jobs are dropped, and the record flag they end with
(R189, R190); `pages`, `posEnd`, `nan`: what its next record reports; `parity`: parity errors in the window; `dropped`: REQ,
LAYER, KVHEAD and QSET of a row of which the controller refused a job; `freed`: completed jobs whose STATUS beat is due, with the pages each has read; `tier`: its
boost tier. -/
structure Nbu where
  set0 : QuerySet
  set1 : QuerySet
  run : List RunQuery
  jobs : List (List Byte)
  page : Nat
  holds : Bool
  out : List OutRec
  prev : Option (List Byte)
  mark : Option (Nat × Nat × Nat × Nat)
  pages : Nat
  posEnd : Nat
  nan : Bool
  parity : Nat
  hung : Bool
  failed : Bool
  dropped : Option (Nat × Nat × Nat × Nat)
  freed : List (List Byte × Nat)
  tier : Nat
  deriving DecidableEq, Repr

/-- A channel: the transfers its builder has made and not yet sent (R322), the distinct uncorrectable sectors of the 24 h
window (R143), the quire deltas on their way to its parity pages, by device address (R151), and the opcode of a transfer that has
failed parity once (R191). -/
structure Channel where
  xfers : List (List Byte)
  ueSeen : List Nat
  deltas : List (Nat × List Byte)
  failed : Option Nat
  deriving DecidableEq, Repr

/-- A map-out in progress (R145 to R147): of a channel, or of one bank pair; drain or lost; `code`: CAUSE of its fallow map
entry; `skips`: requests with pages on it skip until they have moved (R190); `restored`, `ended`: tensors restored and requests
ended so far. -/
structure Mapout where
  die : Nat
  chan : Nat
  pair : Option Nat
  lost : Bool
  code : Nat
  skips : Bool
  restored : Nat
  ended : Nat
  deriving DecidableEq, Repr

/-! ### Cores (chapters 7 and 8) -/

/-- A tile in the accumulators of a core (R240, R251): shape B, mode (0 FP32, 1 BF16), slot group, replay count, sort index,
the elements (n, b) at n × B + b as FP32 codes, and which of them saturated after the last replay. -/
structure AccTile where
  b : Nat
  mode : Nat
  group : Nat
  replays : Nat
  index : Nat
  vals : List Nat
  sat : List Bool
  deriving DecidableEq, Repr

/-- A weight tile in the stream of the IN engine: its format and its stored bytes. -/
structure WTile where
  fmt : Nat
  addr : Nat
  bytes : List Byte
  deriving DecidableEq, Repr

/-- A physical core: tiles in flight, weight tiles streamed, whether a saturated element of the step has been captured (R256). -/
structure CoreState where
  tiles : List AccTile
  stream : List WTile
  satSeen : Bool
  deriving DecidableEq, Repr

/-! ### Host memory and rings (chapter 13) -/

/-- A registered region of host memory (R440). -/
structure Region where
  base : Nat
  pages : Nat
  part : Nat
  devOwned : Bool
  port : Nat
  ridVf : Bool
  roOk : Bool
  nsOk : Bool
  valid : Bool
  deriving DecidableEq, Repr

/-- A queue set of a partition (R445, R446): indices the host owns, commands fetched and not completed, completions not yet
signalled and since when, records written since the last message. -/
structure RingState where
  sqTail : Nat
  cqHead : Nat
  outHead : Nat
  fetched : Nat
  unsignalled : Option Nat
  outSince : Nat
  lastStep : Word
  deriving DecidableEq, Repr

/-! ### The Chroni fabric (chapter 12) -/

/-- A message of classes 0 to 5 (Table 12.4): `slice` of its flits, source and destination coordinates, class, opcode. -/
structure Msg where
  slice : Nat
  src : Nat
  dst : Nat
  cls : Nat
  op : Nat
  ackReq : Bool
  id : Nat
  target : Word
  content : List Byte
  deriving DecidableEq, Repr

/-- A message that has arrived whole and not yet been applied, with the port it arrived on (6 for one this device sent itself) and
the fabric time of its last flit. -/
structure Arrival where
  port : Nat
  at_ : Nat
  msg : Msg
  deriving DecidableEq, Repr

/-- A message that awaits its end-to-end ACK, and how often it was sent again (R393). -/
structure Sent where
  msg : Msg
  tries : Nat
  deriving DecidableEq, Repr

/-- The link of a port (R385 to R394). `txSeq`: SEQ of the next data flit; `rxSeq`: SEQ expected; `retry`: flits sent and not
acknowledged, oldest first, with `txBase` the SEQ of the first; `waiting`: flits that wait for credit; `resvUsed`, `sharedUsed`:
credits taken by (class, VC) and by class, and the totals the partner has freed; `freedResv`, `freedShared`: totals this end
freed; `parts`: messages being received, by 2 × class + VC; `nak`: a NAK is due; `naks`: consecutive NAKs of `nakSeq`;
`lanes`: physical lane of each logical lane, spare k as 64 + k; `spares`: spares that train for a failed logical lane; `widthAt`: an agreed
width change, with the super-frame; `joined`: routing uses it (R403); `held`: its flits in the hub's hold buffer during an immediate stop, with the times at which they
arrived;
`stuck`: flits of classes 0, 4 and 5 that arrived with that buffer full and hold their credits (R518). -/
structure Link where
  txSeq : Nat
  rxSeq : Nat
  txBase : Nat
  retry : List (List Byte)
  waiting : List (List Byte)
  resvUsed : Map Nat
  sharedUsed : Map Nat
  resvFreed : Map Nat
  sharedFreed : Map Nat
  freedResv : Map Nat
  freedShared : Map Nat
  parts : Map (List Byte)
  nak : Bool
  naks : Nat
  nakSeq : Nat
  lanes : List Nat
  spares : List (Nat × Nat)
  widthAt : Option (Nat × Nat)
  joined : Bool
  held : List (Nat × List Byte)
  stuck : List (List Byte)
  deriving DecidableEq, Repr

/-- Time exchanges of a port (R87, R411): the number and T1 of the one that has not been answered; the last 16 round trips; the offsets
taken before alignment; hop count and origin that the partner offers. -/
structure TimePort where
  xseq : Nat
  t1 : Option Nat
  rtts : List Nat
  offsets : List Int
  offer : Option (Nat × Word)
  deriving DecidableEq, Repr

/-! ### The twin (chapter 14) -/

/-- An entry of the twin's mirror table (R475, R493): the home's serial and index, its GEN, the image, the token log, the
directory of the groups held (of a warm mirror, in the order of its image), where a warm mirror's image lies, SYNC. `sync`: 0 OPENING, 1
SYNCING, 2 SYNCED. -/
structure MirrorEntry where
  home : Word
  index : Nat
  gen : Nat
  part : Nat
  hot : Bool
  image : List Byte
  toklog : Map Nat
  dir : Directory
  warmAt : Nat
  sync : Nat
  deriving DecidableEq, Repr

/-- What this device keeps as a home: OPENs that await their answer with the command they complete; requests whose sync is still to be
sent; the STEP messages that await acknowledgement with their requests; requests handed over. -/
structure HomeState where
  opens : List (Nat × Option Cmd)
  syncing : List Nat
  steps : List (Nat × List Nat)
  rowsSent : Nat
  handed : List Nat
  declared : List Nat
  deriving DecidableEq, Repr

/-- The requests of a home that a DECLARE, a TAKEOVER or a HANDOFF covers: all, those of a home partition, or one index
(R481, R482, R485). -/
inductive Cover where
  | device | part (n : Nat) | req (i : Nat)
  deriving DecidableEq, Repr

/-- A home that this device serves as a twin: when its last message arrived, whether HOME_SILENT was raised for it, what is
covered and not yet adopted, how many ROWS messages were applied by step number (R478). -/
structure ServedHome where
  serial : Word
  lastAt : Nat
  silent : Bool
  adopt : List Cover
  rows : Map Nat
  deriving DecidableEq, Repr

/-! ### Serving groups (R30, R327, R359) -/

/-- The serving group of an imposition slot. `awaited`: on the lead, the members whose report has not come since the last
announcement; `abandoned`, `lacking`: what the reports said of the step and of an activation; `reported`: on a member, its report is out
and the next announcement has not come; `released`: on a member, the announcement that lets its step close has come; `timeouts`: report
timeouts since; `lost`: the lead is lost; `next`: on a member, the announced pick: bucket, whether it runs a prefill forme, slots. -/
structure GroupState where
  awaited : List Nat
  abandoned : Bool
  lacking : Bool
  reported : Bool
  released : Bool
  timeouts : Nat
  lost : Bool
  next : Option (Nat × Bool × List (Option Slot))
  deriving DecidableEq, Repr

end Sys2Proof.Machine
end

