-- ==== Sys2Proof/Machine/State.lean ====
section
/-!
DEFINITION. The state of the block as plain data, and the state right after reset.
-/
namespace Sys2Proof.Machine

/-! ### Outcomes -/

/-- Why a command stops the machine. -/
inductive Fault where
  /-- Raised by any meaning whose operands no stimulus of the spec can carry: a write named by a row that addresses another
  register, a number outside the part, data of the wrong length. Safe: no such stimulus exists. -/
  | illFormed
  deriving DecidableEq, Repr

/-- Why the model gives a command no meaning. -/
inductive Refusal where
  /-- Raised only by an arm of `exec` whose command has no meaning yet. Safe: nothing is claimed of it. -/
  | notModelled (mnemonic : String)
  deriving DecidableEq, Repr

/-! ### Heath domain, start and reset (chapters 2 and 3) -/

/-- The reset kinds of one start (R61); the code is the one of the ledger (R63). -/
inductive ResetKind where
  | cold | half | warm
  deriving DecidableEq, Repr

def ResetKind.code : ResetKind → Nat
  | .cold => 0
  | .half => 1
  | .warm => 2

/-- Where a half stands. `unpowered`: VDD_HEATH out of tolerance. `down`: taken down with its heath domain running (R42,
R43, R48). `starting`: in a start step. `waiting`: in the 100 ms before an automatic restart, `halted`: after the last
(R73). `held`: at step 1 with RAIL_SEQ or STRAP_MISMATCH (R41, R65). `ready`: past step 12. -/
inductive HalfPhase where
  | unpowered | down | starting | waiting | halted | heldRail | heldStrap | ready
  deriving DecidableEq, Repr

/-- Consecutive failures of one step in one scope instance; the ordinal of the start in which its normal form last failed
(R74); consecutive failures of its optional part (R75). -/
structure StepFails where
  attempts : Nat
  normalFailed : Option Nat
  optional : Nat
  deriving DecidableEq, Repr

/-- The heath domain and the start of one half. `ordinal` counts the starts of the half; `done` is a mask of the instances
that have ended the current step, which began at `began`, stamped `beganStamp`; `failing` counts consecutive failing starts
and `restarts` automatic restarts (R73); `fails` is keyed by 256 × step + instance; `nvsAlt`: step 2 ran its alternate form;
`t1Kept`: VDD_MD and VPP_MD stayed in tolerance (R65); `trip`: the thermal-trip latch (R48). -/
structure HalfState where
  phase : HalfPhase
  kind : ResetKind
  ordinal : Nat
  seq : Nat
  step : Nat
  done : Nat
  began : Nat
  beganStamp : Word
  fullTest : Bool
  straps : BitVec 16
  restarts : Nat
  failing : Nat
  failStep : Nat
  failCode : Nat
  fails : Map StepFails
  nvsAlt : Bool
  t1Kept : Bool
  trip : Bool
  fwVersion : Nat
  fwSlot : Nat
  deriving DecidableEq, Repr

/-- A start ledger record (Table 3.6); its COMMIT is computed when the record is read. -/
structure LedgerRec where
  seq : Nat
  step : Nat
  scope : Nat
  form : Nat
  outcome : Nat
  code : Nat
  attempt : Nat
  duration : Nat
  timeBegin : Word
  detail : Nat
  kind : Nat
  deriving DecidableEq, Repr

/-- The fields of the colophon that change (Table 3.8); MAGIC, VERSION, PART, STEPPING, CHRONI_MIN and CHRONI_MAX are fixed
and CHECK is computed. -/
structure Colophon where
  lcState : Nat
  skipped : Bool
  derated : Bool
  serial : Word
  coord : Nat
  shape : Nat
  fwVersion : Nat
  fwSlot : Nat
  twinSerial : Word
  mfgDay : Nat
  startSeq : Nat
  epochBase : Word
  fallowSummary : Nat
  deriving DecidableEq, Repr

/-- An entry of the fallow map (Table 14.2). KIND: 0 unused, 1 compute die, 2 core, 3 channel, 4 bank pair, 5 port, 6 memory
die. -/
structure FallowEntry where
  kind : Nat
  die : Nat
  unit : Nat
  pair : Nat
  cause : Nat
  stamp : Word
  deriving DecidableEq, Repr

/-- The lease record of the NVS (Table 14.3): holder 0 none, 1 MC-W, 2 MC-E; `expires` on the NVS timer in µs, modulo 2^32;
`queued`: a controller whose ACQUIRE waits; `last`: the holder of the last grant, 0 when there was none in this start. -/
structure Lease where
  holder : Nat
  epoch : Nat
  expires : Nat
  renewals : Nat
  acquired : Nat
  arbEpoch : Nat
  queued : Nat
  last : Nat
  deriving DecidableEq, Repr

/-- An event record (Table 15.9); START_SEQ is the start's, COMMIT is computed when the record is read. -/
structure EventRec where
  seq : Nat
  startSeq : Nat
  type : Nat
  summary : Bool
  copied : Bool
  part : Nat
  stamp : Word
  block : Nat
  half : Nat
  data0 : Word
  data1 : Word
  data2 : Word
  deriving DecidableEq, Repr

/-- The one-time fuses (R66) and the serial number they carry. -/
structure Fuses where
  serial : Word
  provisioned : Bool
  returned : Bool
  deriving DecidableEq, Repr

/-- The NVS die: colophon, start ledger, event log, fallow map, lease, pending marks; `ok`: reachable; `writesStopped`: by
its temperature (R47); `timer` its own µs timer; `ledgerHeld`: records kept in the hub mirror meanwhile (R77). -/
structure Nvs where
  ok : Bool
  writesStopped : Bool
  timer : Nat
  colophon : Colophon
  ledger : Map LedgerRec
  ledgerNext : Nat
  ledgerWrapped : Bool
  ledgerHeld : List LedgerRec
  log : Map EventRec
  logNext : Nat
  logWrapped : Bool
  fallow : Map FallowEntry
  lease : Lease
  wipePending : Bool
  lcPending : Option Nat
  lastSeq : Nat
  ownerKey : Bool
  deriving DecidableEq, Repr

/-- Power state of a compute die (R54, Table 2.10). -/
inductive DiePower where
  | on | clockGated | powerGated
  deriving DecidableEq, Repr

/-- A pair CDn and MDn. `stopped`: by a rail fault of VDD_CDn (R43); `fallow`: SPARE_EXHAUSTED (R72); `lost`: declared lost
(R465); `selfRefresh`: MDn in self-refresh; `derated`: conservative timing (Table 3.5). -/
structure DiePair where
  power : DiePower
  stopped : Bool
  fallow : Bool
  lost : Bool
  selfRefresh : Bool
  derated : Bool
  deriving DecidableEq, Repr

/-- The governor (R44): the times at which the level last rose and last changed, and since when level 6 holds; the level the thermal state requests, 0 for
none; whether a die is within 3 °C of its throttle threshold. -/
structure Governor where
  raisedAt : Nat
  changedAt : Nat
  sixSince : Nat
  thermalAt : Nat
  near : Bool
  deriving DecidableEq, Repr

/-- The fabric time counter and its alignment (R86 to R88, R410, R411): `ticks`: nominal ticks of 1 ns, modulo 5,000; `slew`: ns that the servo still has to take up; `source`: this
device is the origin that sets the time; `hop`, `origin`: what it offers; `parent`: its port; `epochWait`: the origin waits for an EPOCH_IN
edge; `rejected`: another origin that was offered; `epochStamp`: the last EPOCH_IN edge. -/
structure Clock where
  now : Nat
  ticks : Nat
  slew : Int
  aligned : Bool
  source : Bool
  hop : Nat
  origin : Word
  parent : Option Nat
  epochWait : Bool
  rejected : Option Word
  epochStamp : Option Nat
  deriving DecidableEq, Repr

/-! ### Ports (chapter 12) -/

/-- States of a port (Table 12.7). -/
inductive PortPhase where
  | off | dark | training | verifying | up | draining | patching | down | fallow
  deriving DecidableEq, Repr

/-- One port. `width`: code of FAB_STATUS; `outcome`: 0 none, 1 VERIFIED, 2 CROSSED, 3 QUARANTINE, 4 DARK; `joins`: it joins routing by
itself once verified (R83), where one brought back by RETRAIN or PATCH waits for REJOIN (R403, R404); `began`, `beganStamp`: when it last
entered TRAINING or VERIFYING; `hot`: its optical engine has tripped and not cooled (Table 2.8). -/
structure Port where
  phase : PortPhase
  width : Nat
  outcome : Nat
  reason : Nat
  joins : Bool
  began : Nat
  beganStamp : Word
  hot : Bool
  deriving DecidableEq, Repr

/-! ### Board access (R37, R38, R541) -/

/-- The I3C target: its dynamic address, if assigned, and its transfer address. -/
structure I3c where
  dynAddr : Option (BitVec 7)
  addr : BitVec 32
  deriving DecidableEq, Repr

/-- Instructions of the test access port (R38). -/
inductive TapInstr where
  | bypass | idcode | samplePreload | extest | clamp | highz
  deriving DecidableEq, Repr

/-- The test access port: the instruction in force, the boundary register, and what drives the contacts: none while they are
driven by the device, `some` of the boundary register's bits, or floating. -/
structure Tap where
  instr : TapInstr
  boundary : List Bool
  driven : Option (List Bool)
  floating : Bool
  deriving DecidableEq, Repr

/-! ### Events, trace, stops (chapter 15) -/

/-- A coalescing slot (R526). -/
structure CoalSlot where
  count : Nat
  block : Nat
  first : Word
  last : Word
  deriving DecidableEq, Repr

/-- The event logic of the hubs: SEQ count, queue, coalescing slots, whether an episode runs, summaries written. -/
structure EventState where
  seq : Nat
  queue : List EventRec
  coal : Map CoalSlot
  coalescing : Bool
  summaries : Nat
  deriving DecidableEq, Repr

/-- A trace record (Table 15.5). -/
structure TraceRec where
  stamp : Word
  kind : Nat
  src : Nat
  unit : Nat
  engine : Nat
  opcode : Nat
  part : Nat
  req : Nat
  index : Nat
  step : Nat
  aux : Nat
  deriving DecidableEq, Repr

/-- The trace store of a hub (R513): records keyed by store index, number held, index of the oldest. -/
structure TraceStore where
  recs : Map TraceRec
  count : Nat
  oldest : Nat
  full : Bool
  frozen : Bool
  dumping : Bool
  deriving DecidableEq, Repr

/-- A trace source (R509, R512): records in its FIFO, and drops since the last record that entered. -/
structure TraceSource where
  fifo : List TraceRec
  dropped : Nat
  deriving DecidableEq, Repr

/-- What a half's hub keeps: its event mirror ring, whether the mirror works, its trace store; its copy of DEV_HOST_ARB (R451); the
highest host arbitration epoch its controller has acted under; when its controller last had a heartbeat from a peer with a valid lease
(R470). -/
structure HubState where
  mirror : Map EventRec
  mirrorOk : Bool
  trace : TraceStore
  arb : Word
  arbSeen : Nat
  peerHeld : Option Nat
  deriving DecidableEq, Repr

/-- Kinds of stop (R516). -/
inductive StopKind where
  | boundary | immediate
  deriving DecidableEq, Repr

/-- An armed group capture: its time, its groups, and whether it clears (R505, R507). -/
structure GroupCapture where
  at_ : Nat
  groups : Nat
  clear : Bool
  snap : Bool
  deriving DecidableEq, Repr

/-! ### Outputs -/

/-- What the block puts out, in order. -/
inductive Emit where
  /-- An MSI-X message of function 0 (physical) or n + 1 (VF n) on a vector (R449). -/
  | msix (fn vector : Nat)
  /-- Bits shifted out of TDO (R38). -/
  | tdo (bits : List Bool)
  /-- The 8 bytes of an I3C private read (R541). -/
  | i3c (w : Word)
  /-- An I3C in-band interrupt for an alert cause (R37). -/
  | ibi
  /-- A posted write to host memory through a PCIe port, with the requester ID of a function (R440, R443). -/
  | hostWrite (port fn addr : Nat) (bytes : List Byte)
  /-- A read of host memory; length 0 is the read that ends a move to T2 (R161). -/
  | hostRead (port fn addr len : Nat)
  /-- A flit sent through a Chroni port (Tables 12.2 and 12.3). -/
  | flit (port : Nat) (bytes : List Byte)
  deriving DecidableEq, Repr

/-! ### Changes that wait for a step boundary -/

/-- A change that takes effect at the next step boundary (R100, R101). -/
inductive Deferred where
  /-- ENABLE and QUIESCE of a block (R100). -/
  | blkCtrl (blk : Nat)
  /-- An accepted life-cycle change (R68). -/
  | lifecycle (target : Nat)
  /-- A fail-stop that waits for the running step to close (R51). -/
  | failStop (reason : Nat)
  /-- An accepted owner change of a block: OWNER and OWNER_HI (R101, R108). -/
  | owner (blk val : Nat)
  /-- A register whose written value is in force from the next boundary: GAL_CFG (R378), CORE_ACC_CFG (R267). -/
  | inForce (off : Nat)
  /-- A bias chunk becomes live (R197). -/
  | biasChunk (table chunk : Nat) (vals : List Nat)
  /-- A bias table changes its owner and reads zero (R198). -/
  | biasOwner (table val : Nat)
  /-- An EXTENT tensor moves to another placement on the device; `copied`: from where it was, else its contents stand there
  (R146, R147). -/
  | switchExtent (handle : Nat) (t1map : Word) (copied : Bool)
  /-- The groups of a request's pages move: head, entry, new page-group number (R146, R147). -/
  | switchGroups (req : Nat) (groups : List (Nat × Nat × Nat)) (copied : Bool)
  /-- The groups of a prefix node, of a mirror entry move (R146). -/
  | switchNode (part node : Nat) (groups : List (Nat × Nat))
  | switchMirror (key : Nat) (groups : List (Nat × Nat × Nat))
  /-- A slot that a data page has left becomes the parity of its quire (R152). -/
  | parityMove (die quire chan : Nat)
  /-- A move that is complete takes effect (R161). -/
  | moveDone (id : Nat)
  /-- A turn that is complete switches the layout in (R329). -/
  | turnDone (req : Nat)
  /-- An imposition slot is activated (R326). -/
  | activate (slot : Nat)
  /-- A routing table entry, FAB_MAP of a port, a port that rejoins routing (R403). -/
  | route (tag : Nat) (entry : Word)
  | fabMap (port : Nat) (val : Word)
  | rejoin (port : Nat)
  /-- An accepted PART_ASSIGN from its mailbox data, a PART_RELEASE, a partition reset (R433 to R435). -/
  | assign (data : List Byte)
  | release (part : Nat)
  | partReset (part : Nat)
  /-- The cores' T0 of a released or reset partition is wiped: what follows at the next boundary (R434, R435). -/
  | coresWiped (part : Nat)
  /-- A new TWIN_SERIAL (R474). -/
  | setTwin (serial : Word)
  /-- A die pair is lost: the partitions on it lose their impositions (R465). -/
  | dieLost (die : Nat)
  /-- An imposition slot becomes EMPTY (R434, R465). -/
  | dropImpo (slot : Nat)
  /-- An ENDED entry becomes FREE (R355); a PAUSED request starts its park (R158). -/
  | entryFree (req : Nat)
  | park (req : Nat)
  deriving DecidableEq, Repr

/-! ### The state -/

/-- The whole state. -/
structure State where
  /-- Commands that wait, first in first out. -/
  pending : List Instr
  /-- The model's own counter of free values drawn. -/
  free : Nat
  clock : Clock
  /-- Register values, keyed by BAR0 offset (Q_ pages at `qBase`); unlisted registers hold their reset value. -/
  regs : Map Word
  /-- Live counts and flags of the event and occupancy counters, by the offset of the counter. -/
  cnt : Map Word
  /-- Snapshot copies of SNAP fields, by offset. -/
  snap : Map Word
  /-- Window latches (R109), keyed by 8 × offset of the INDEX register + requester. -/
  latch : Map (List Word)
  /-- MSI-X tables and pending-bit arrays, 8 bytes per entry, by offset; VF n at 0x20000000 + n × 0x1000. -/
  msix : Map Word
  west : HalfState
  east : HalfState
  hubWest : HubState
  hubEast : HubState
  /-- The hub-to-hub link is up. -/
  hubLink : Bool
  governor : Governor
  dies : Map DiePair
  fuses : Fuses
  nvs : Nvs
  /-- The colophon and the fallow map as the device works with them (R80, step 2 of Table 3.5). -/
  colophon : Colophon
  fallow : Map FallowEntry
  i3c : I3c
  tap : Tap
  events : EventState
  sources : Map TraceSource
  ports : Map Port
  capture : Option GroupCapture
  /-- Blocks whose QUIESCE has taken effect. -/
  quiescing : Map Bool
  /-- Values in force of registers whose writes take effect later, by offset. -/
  inForce : Map Word
  /-- The tensor table by handle. -/
  tensors : Map Tensor
  moves : List Move
  moveNext : Nat
  /-- T1 by device address (R122); bytes that nothing has written read 0 (R69). -/
  t1 : Map Byte
  /-- Sectors that hold the poison marker, by device address / 64 (R133). -/
  poison : Map Bool
  /-- Page slots that left a partition and are not yet zeroed. -/
  wiping : List (Nat × SlotRun)
  chans : Map Channel
  mapouts : List Mapout
  /-- Where the parity of a quire has moved: 1 + channel, by 49152 × die + quire (R152). -/
  parityMoved : Map Nat
  /-- Near-bank units by (16 × die + channel) × 64 + pair. -/
  nbus : Map Nbu
  /-- Bias table entries, FP16 codes by 4096 × table + distance (R175). -/
  bias : Map Nat
  /-- T0 by (34 × die + physical core) × 2^23 + offset. -/
  t0 : Map Byte
  /-- Physical cores by 34 × die + number. -/
  cores : Map CoreState
  /-- Galley entries by index. -/
  entries : Map Entry
  /-- Prefix trees by partition. -/
  trees : Map PrefixTree
  /-- Imposition slots. -/
  impos : Map ImpoSlot
  /-- The load in progress: imposition slot and container handle. -/
  loader : Option (Nat × Nat)
  steps : StepState
  /-- Commands that have arrived at the galley engine and not yet acted, in arrival order (R353). -/
  arrived : List Cmd
  /-- Step batch records that wait, oldest first; record entries due by partition. -/
  records : List Record
  due : Map (List RecEntry)
  /-- Registered host regions; queue sets by 2 × partition + (1 for the driver set). -/
  regions : Map Region
  rings : Map RingState
  /-- Functions in D3hot: 0 and 1 the physical function on each port, n + 2 VF n (R439). -/
  d3hot : Map Bool
  /-- Host transfers that wait for their port or function: port, function, what is put out. -/
  heldOut : List (Nat × Nat × Emit)
  /-- Links by port; messages that have arrived; messages that await an ACK; MSG_IDs applied, newest first, by 8 × source +
  class (R393); next MSG_ID by class; the routing table by slice tag, as Table 12.8 lays an entry out. -/
  links : Map Link
  inbox : List Arrival
  sent : List Sent
  applied : Map (List Nat)
  msgIds : Map Nat
  routes : Map Word
  times : Map TimePort
  /-- The mirror table, the homes served, and this device as a home. -/
  mirrors : Map MirrorEntry
  homes : List ServedHome
  home : HomeState
  /-- Serving groups by imposition slot. -/
  groups : Map GroupState
  deferred : List Deferred
  /-- Writes to pages of power-gated dies, which reach the die when it wakes (R98), each with what the shadow held before. -/
  gatedWrites : List (RegWrite × Word)
  /-- What the block has put out. -/
  out : List Emit
  deriving DecidableEq, Repr

/-! ### Reset -/

/-- A half in start step 1 of the first cold start. -/
def HalfState.reset : HalfState where
  phase := .starting
  kind := .cold
  ordinal := 1
  seq := 1
  step := 1
  done := 0
  began := 0
  beganStamp := 0x8000000000000000
  fullTest := false
  straps := 0
  restarts := 0
  failing := 0
  failStep := 0
  failCode := 0
  fails := []
  nvsAlt := false
  t1Kept := false
  trip := false
  fwVersion := 0
  fwSlot := 0

/-- The colophon built from the fuses, with every other field at its default (R80, Table 3.8). -/
def Colophon.default (lcState : Nat) (coord : Nat) : Colophon where
  lcState := lcState
  skipped := false
  derated := false
  serial := Config.serial
  coord := coord
  shape := 0x3FFF
  fwVersion := 0
  fwSlot := 0
  twinSerial := 0
  mfgDay := 0
  startSeq := 0
  epochBase := 0
  fallowSummary := 0

/-- The NVS as manufactured, not yet read in this start; the header record of the first start waits. -/
def Nvs.reset : Nvs where
  ok := false
  writesStopped := false
  timer := 0
  colophon := Colophon.default 0 0
  ledger := []
  ledgerNext := 0
  ledgerWrapped := false
  ledgerHeld := [⟨1, 0, 0, 0, 0, 0, 0, 0, 0x8000000000000000, 0, 0⟩]
  log := []
  logNext := 0
  logWrapped := false
  fallow := []
  lease := ⟨0, 0, 0, 0, 0, 0, 0, 0⟩
  wipePending := false
  lcPending := none
  lastSeq := 1
  ownerKey := false

/-- A hub with an empty mirror and an empty trace store. -/
def HubState.reset : HubState := ⟨[], true, ⟨[], 0, 0, false, false, false⟩, 0, 0, none⟩

/-- The block right after reset: both halves in start step 1 of a cold start, every register at its reset value. -/
def State.reset : State where
  pending := []
  free := 0
  clock := ⟨0, 0, 0, false, false, 0, 0, none, false, none, none⟩
  regs := []
  cnt := []
  snap := []
  latch := []
  msix := []
  west := HalfState.reset
  east := HalfState.reset
  hubWest := HubState.reset
  hubEast := HubState.reset
  hubLink := true
  governor := ⟨0, 0, 0, 0, false⟩
  dies := []
  fuses := ⟨Config.serial, false, false⟩
  nvs := Nvs.reset
  colophon := Colophon.default 0 0
  fallow := []
  i3c := ⟨none, 0⟩
  tap := ⟨.bypass, [], none, false⟩
  events := ⟨0, [], [], false, 0⟩
  sources := []
  ports := []
  capture := none
  quiescing := []
  inForce := []
  tensors := []
  moves := []
  moveNext := 0
  t1 := []
  poison := []
  wiping := []
  chans := []
  mapouts := []
  parityMoved := []
  nbus := []
  bias := []
  t0 := []
  cores := []
  entries := []
  trees := []
  impos := []
  loader := none
  steps := ⟨false, 0, 0, [], none, .none, false, false, false, [], none, [], [], 0, []⟩
  arrived := []
  records := []
  due := []
  regions := []
  rings := []
  d3hot := []
  heldOut := []
  links := []
  inbox := []
  sent := []
  applied := []
  msgIds := []
  routes := []
  times := []
  mirrors := []
  homes := []
  home := ⟨[], [], [], 0, [], []⟩
  groups := []
  deferred := []
  gatedWrites := []
  out := []

end Sys2Proof.Machine
end

