-- ==== Sys2Proof/Machine/Ops.lean ====
section
/-!
DEFINITION. The operations that commands share: registers, counters, interrupt causes, error captures, event records,
last-gasp registers, the start ledger.
-/
namespace Sys2Proof.Machine

/-! ### The register store -/

/-- The value of the register at `off`. -/
def getReg (s : State) (off : Nat) : Word := Map.get regReset s.regs off

/-- Write the register at `off` whole. -/
def setReg (s : State) (off : Nat) (w : Word) : State := { s with regs := Map.set regReset s.regs off w }

/-- A field of a register. -/
def getFld (s : State) (off lo n : Nat) : Nat := fld (getReg s off) lo n

/-- Replace a field of a register. -/
def putFld (s : State) (off lo n v : Nat) : State := setReg s off (setFld (getReg s off) lo n v)

/-- One bit of a register. -/
def getBit (s : State) (off i : Nat) : Bool := bit (getReg s off) i

/-- Set or clear one bit of a register. -/
def putBit (s : State) (off i : Nat) (b : Bool) : State := setReg s off (setBit (getReg s off) i b)

/-- The value in force of a register whose writes take effect later: the old one until then. -/
def inForceReg (s : State) (off : Nat) : Word := Map.get (getReg s) s.inForce off

/-- Header registers of block `blk` (Table 4.2). -/
def blkCtrl (blk : Nat) : Nat := blk + 0x010
def blkStatus (blk : Nat) : Nat := blk + 0x018
def blkIntRaw (blk : Nat) : Nat := blk + 0x020
def blkIntEn (blk : Nat) : Nat := blk + 0x028
def blkIntColl (blk : Nat) : Nat := blk + 0x038
def blkErrCap (blk i : Nat) : Nat := blk + 0x040 + 8 * i
def blkSnapStamp (blk : Nat) : Nat := blk + 0x068
def blkOwner (blk : Nat) : Nat := blk + 0x070

/-- BLK_INT_PEND: BLK_INT_RAW and BLK_INT_EN. -/
def intPend (s : State) (blk : Nat) : Word := getReg s (blkIntRaw blk) &&& getReg s (blkIntEn blk)

/-! ### Halves, dies, time -/

/-- The heath state of a half. -/
def State.half (s : State) : Half → HalfState
  | .west => s.west
  | .east => s.east

/-- Replace the heath state of a half. -/
def State.setHalf (s : State) (h : Half) (x : HalfState) : State :=
  match h with
  | .west => { s with west := x }
  | .east => { s with east := x }

/-- The hub of a half. -/
def State.hub (s : State) : Half → HubState
  | .west => s.hubWest
  | .east => s.hubEast

/-- Replace the hub of a half. -/
def State.setHub (s : State) (h : Half) (x : HubState) : State :=
  match h with
  | .west => { s with hubWest := x }
  | .east => { s with hubEast := x }

/-- A die pair that is in service. -/
def DiePair.fresh (_ : Nat) : DiePair := ⟨.on, false, false, false, false, false⟩

/-- The pair CDn and MDn. -/
def State.die (s : State) (d : Nat) : DiePair := Map.get DiePair.fresh s.dies d

def State.setDie (s : State) (d : Nat) (x : DiePair) : State := { s with dies := Map.set DiePair.fresh s.dies d x }

/-- A mirror write or a migration takes a memory die out of self-refresh; it stays awake until the next idle period (R54). -/
def wakeMem (s : State) (d : Nat) : State := if (s.die d).selfRefresh then s.setDie d { s.die d with selfRefresh := false } else s

/-- The half of compute die or memory die `d`: west for 0 to 3. -/
def dieHalf (d : Nat) : Half := if d < 4 then .west else .east

/-- The half of port `p`: west for even `p`. -/
def portHalf (p : Nat) : Half := if p % 2 = 0 then .west else .east

/-- A time stamp: [62:0] the counter, [63] TIME_LOCAL (BLK_ERR_CAP1). -/
def stamp (s : State) : Word := setBit (word (s.clock.now % 2 ^ 63)) 63 (!s.clock.aligned)

/-- A value the manual leaves open, and the state that has drawn it. -/
def drawFree (s : State) : Word × State := (Config.freeWord s.free, { s with free := s.free + 1 })

/-- Put out `e`. -/
def emit (s : State) (e : Emit) : State := { s with out := s.out ++ [e] }

/-! ### Interrupts (R102, R449) -/

/-- The MSI-X table entry of a vector: its second 8 bytes hold the data and, in bit 32, the mask bit. -/
def msixKey (fn vector : Nat) : Nat :=
  if fn = 0 then 0x8000 + 16 * vector else 0x20000000 + 0x1000 * (fn - 1) + 16 * vector

/-- After reset every vector is masked and nothing is pending. PRESUMED, log 12: the MSI-X capability of PCIe. -/
def msixReset (k : Nat) : Word :=
  if (0x8000 ≤ k ∧ k < 0x10000 ∧ k % 16 = 8) ∨ (0x20000000 ≤ k ∧ k % 0x1000 < 0x400 ∧ k % 16 = 8) then bitW 32 else 0

def getMsix (s : State) (k : Nat) : Word := Map.get msixReset s.msix k

def setMsix (s : State) (k : Nat) (w : Word) : State := { s with msix := Map.set msixReset s.msix k w }

/-- The word of the pending-bit array that holds a vector. -/
def pbaKey (fn vector : Nat) : Nat :=
  if fn = 0 then 0x7000 + 8 * (vector / 64) else 0x20000000 + 0x1000 * (fn - 1) + 0x800

/-- Function `fn` (0 physical, n + 1 VF n) is in D3hot: the physical function, on both ports. -/
def inD3 (s : State) (fn : Nat) : Bool :=
  let d := fun k => Map.get (fun _ => false) s.d3hot k
  if fn = 0 then d 0 && d 1 else d (fn + 1)

/-- Send a message on a vector, or set its pending bit while the vector is masked (standard MSI-X masking, R449) or the
function's interrupts are stopped (R439). -/
def sendVector (s : State) (fn vector : Nat) : State :=
  if bit (getMsix s (msixKey fn vector + 8)) 32 || inD3 s fn then
    setMsix s (pbaKey fn vector) (setBit (getMsix s (pbaKey fn vector)) (vector % 64) true)
  else emit s (.msix fn vector)

/-- The directory index of a block, which is its MSI-X vector (R449). -/
def blkDir (blk : Nat) : Nat := match locate blk with
  | some p => p.dir
  | none => 0xFFFF

/-- The type code of a block. -/
def blkType (blk : Nat) : Nat := match locate blk with
  | some p => p.type
  | none => 0

/-- The half of a block: 0 west, 1 east, 2 both (Table 16.1). -/
def blkHalf (blk : Nat) : Nat := match locate blk with
  | none => 2
  | some p =>
    if p.type = 0x02 ∨ p.type = 0x0B then p.inst
    else if p.type = 0x05 then p.inst % 2
    else if p.type = 0x06 ∨ p.type = 0x08 then (dieHalf p.inst).idx
    else if p.type = 0x07 ∨ p.type = 0x09 ∨ p.type = 0x0A then (dieHalf (p.inst / 256)).idx
    else 2

/-- The causes of a block that drive an alert contact: all where DEV_ALERT_MASK enables the type; on the DEV_ page the device causes of chapter 2
drive it in any case (R450, R537). -/
def alertCauses (s : State) (blk : Nat) : Word :=
  let dev : Word := if blk = Reg.devBlk then ones 17 9 ||| bitW 27 else 0
  if getBit s Reg.devAlertMask (blkType blk - 1) then ~~~0 else dev

/-- The message of a cause that rises, and an in-band interrupt on the management bus where the cause drives an alert contact (R37). -/
def sendCause (s : State) (blk i : Nat) : State :=
  let s1 := sendVector s 0 (blkDir blk)
  if bit (alertCauses s blk) i then emit s1 .ibi else s1

/-- Send the messages of each bit of `rising`. -/
def sendRising (s : State) (blk : Nat) (rising : Word) : State :=
  if blkType blk = 0x0E then s
  else (bitsOf 64 rising.toNat).foldl (fun s i => sendCause s blk i) s

/-- Set causes of a block: a message for each bit of BLK_INT_PEND that rises (R102); a cause of a PART_ page that rises also
sends vector 2 of its VF, when EVT_EN is 1 (R449). -/
def setCauses (s : State) (blk : Nat) (m : Word) : State :=
  let old := getReg s (blkIntRaw blk)
  let new := old ||| m
  let s1 := setReg s (blkIntRaw blk) new
  let s2 := sendRising s1 blk (new &&& ~~~old &&& getReg s (blkIntEn blk))
  if blkType blk = 0x0D ∧ new ≠ old ∧ getBit s (Reg.qIntCfg ((blk - 0x600000) / 0x1000)) 26 then
    sendVector s2 ((blk - 0x600000) / 0x1000 + 1) 2
  else s2

/-- Set one cause. -/
def setCause (s : State) (blk i : Nat) : State := setCauses s blk (bitW i)

/-- ALERT_W_N or ALERT_E_N is low: a block of the half has a pending cause and its type is enabled in DEV_ALERT_MASK, or a
device cause of the half is pending (R450, R537). -/
def alertLow (s : State) (h : Half) : Bool :=
  let mine := fun b => blkHalf b = 2 ∨ blkHalf b = h.idx
  let others : Word := if h = .west then bitW 18 ||| bitW 20 ||| bitW 22 ||| bitW 24 else bitW 17 ||| bitW 19 ||| bitW 21 ||| bitW 23
  (s.regs.map fun e => e.1 / 0x1000 * 0x1000).any fun b => (locate b).any (fun p => decide (p.base = b)) && decide (mine b) &&
    decide ((intPend s b &&& alertCauses s b &&& (if b = Reg.devBlk then ~~~others else ~~~0)) ≠ 0)

/-! ### Last gasp (R488, R496) -/

/-- Write a code and the fabric time into a hub's last-gasp register; while VALID is 1 only MORE is set. -/
def lastGasp (s : State) (h : Half) (code : Nat) : State :=
  let r := Reg.hubLastgasp h.idx
  let s1 := if getBit s r 15 then putBit s r 13 true
    else setReg s r (word (code % 2 ^ 12 + b2n (!s.clock.aligned) * 2 ^ 12 + 2 ^ 15 + (s.clock.now / 2 ^ 10 % 2 ^ 48) * 2 ^ 16))
  setCause s1 (Reg.hubBlk h.idx) 17

/-! ### The event log (R522 to R527) -/

/-- Severity by event type: 0 INFO, 1 NOTICE, 2 ERROR, 3 FATAL (Table 15.10). -/
def evSeverity (type : Nat) : Nat :=
  if type ∈ [0x013, 0x017, 0x054, 0x05C] then 3
  else if type ∈ [0x001, 0x011, 0x015, 0x016, 0x020, 0x021, 0x031, 0x032, 0x033, 0x035, 0x040, 0x044, 0x045, 0x046, 0x050,
    0x051, 0x052, 0x058, 0x059, 0x05A] then 2
  else if type ∈ [0x002, 0x005, 0x010, 0x012, 0x022, 0x023, 0x030, 0x034, 0x042, 0x053, 0x05B, 0x060, 0x063] then 1
  else 0

/-- START_SEQ of the current start, all ones when the NVS was unreadable at start step 2 (Table 15.9). -/
def startSeqField (s : State) : Nat := if s.west.nvsAlt || s.east.nvsAlt then 0xFFFFFFFF else s.nvs.lastSeq

/-- Put an event in the queue with the next SEQ. -/
def enqueueEvent (s : State) (type : Nat) (summary : Bool) (part block half : Nat) (d0 d1 d2 : Word) : State :=
  { s with events := { s.events with
      seq := (s.events.seq + 1) % 2 ^ 48
      queue := s.events.queue ++
        [⟨s.events.seq, startSeqField s, type, summary, false, part, stamp s, block, half, d0, d1, d2⟩] } }

def CoalSlot.empty (_ : Nat) : CoalSlot := ⟨0, 0, 0, 0⟩

/-- Count an event in the coalescing slot of its type; the NVS_ cause EVT_COALESCED rises once per episode (R526). -/
def coalesceEvent (s : State) (type block : Nat) : State :=
  let c := Map.get CoalSlot.empty s.events.coal type
  let c' : CoalSlot := if c.count = 0 then ⟨1, block, stamp s, stamp s⟩
    else ⟨satAdd 0xFFFFFFFF c.count 1, c.block, c.first, stamp s⟩
  let s1 := { s with events := { s.events with
      coal := Map.set CoalSlot.empty s.events.coal type c'
      coalescing := true } }
  if s.events.coalescing then s1 else setCause s1 Reg.nvsBlk 19

/-- An event (R522, R526): into the queue; coalesced when fewer than 16 entries are free or an episode runs; FATAL ones may
take the last 16 entries and go to the last-gasp registers of both hubs when those are full. -/
def raiseEvent (s : State) (type part block half : Nat) (d0 d1 : Word) : State :=
  if evSeverity type = 3 then
    if s.events.queue.length < 512 then enqueueEvent s type false part block half d0 d1 0
    else lastGasp (lastGasp s .west (0x800 + type)) .east (0x800 + type)
  else if s.events.coalescing ∨ 512 - s.events.queue.length < 16 then coalesceEvent s type block
  else enqueueEvent s type false part block half d0 d1 0

/-- No partition, no block: the values of the record's PARTITION and BLOCK fields. -/
def noPart : Nat := 0xFE
def noBlock : Nat := 0xFFFF

/-- An event of the whole device. -/
def devEvent (s : State) (type : Nat) (d0 d1 : Nat) : State := raiseEvent s type noPart noBlock 2 (word d0) (word d1)

/-- An event of a half. -/
def halfEvent (s : State) (h : Half) (type : Nat) (d0 d1 : Nat) : State :=
  raiseEvent s type noPart noBlock h.idx (word d0) (word d1)

/-! ### First-error capture (R104) -/

/-- An error of a block: captured when ERR_CAPTURED is 0, else MORE counts it; a capture raises ERROR_CAPTURED. -/
def capture (s : State) (blk code source part : Nat) (addr detail : Nat) : State :=
  if getBit s (blkIntRaw blk) 0 then
    putFld s (blkErrCap blk 0) 16 16 (satAdd 0xFFFF (getFld s (blkErrCap blk 0) 16 16) 1)
  else
    let c0 := word (code % 2 ^ 16 + source % 256 * 2 ^ 32 + part % 256 * 2 ^ 40 + 2 ^ 63)
    let s1 := setReg (setReg (setReg (setReg s (blkErrCap blk 0) c0) (blkErrCap blk 1) (stamp s))
      (blkErrCap blk 2) (word (addr % 2 ^ 48))) (blkErrCap blk 3) (word detail)
    raiseEvent (setCause s1 blk 0) 0x001 part (blkDir blk) (blkHalf blk) c0 (word detail)

/-- Clear ERR_CAPTURED: VALID clears and capture is armed again. -/
def rearmCapture (s : State) (blk : Nat) : State := putBit s (blkErrCap blk 0) 63 false

/-! ### Counters (R498 to R501) -/

def getCnt (s : State) (off : Nat) : Word := Map.get (fun _ => 0) s.cnt off

def setCnt (s : State) (off : Nat) (w : Word) : State := { s with cnt := Map.set (fun _ => 0) s.cnt off w }

/-- Add `n` to a counter: a sum that passes 2^48 − 1 keeps its low 48 bits and sets OVF, and OVF rising raises COUNTER_OVF. -/
def count (s : State) (off n : Nat) : State :=
  let c := getCnt s off
  let sum := fld c 0 48 + n
  let c' := setFld c 0 48 (sum % 2 ^ 48)
  if sum < 2 ^ 48 then setCnt s off c'
  else
    let s1 := setCnt s off (setBit c' 63 true)
    if bit c 63 then s1
    else raiseEvent s1 0x004 noPart (blkDir (off / 0x1000 * 0x1000)) (blkHalf (off / 0x1000 * 0x1000)) (word off) 0

/-! ### Start ledger (R77, R78) -/

/-- Write a ledger record, or keep it in the hub's mirror while the NVS is not readable or the log is degraded (R77). -/
def ledgerWrite (s : State) (r : LedgerRec) : State :=
  if s.nvs.ok ∧ ¬ getBit s Reg.nvsStatus 0 then
    let nx := (s.nvs.ledgerNext + 1) % 4096
    let wr := s.nvs.ledgerWrapped || nx == 0
    let s1 := { s with nvs := { s.nvs with
      ledger := Map.put s.nvs.ledger s.nvs.ledgerNext r, ledgerNext := nx, ledgerWrapped := wr } }
    setReg s1 Reg.nvsLedgerHead (word (nx + b2n wr * 2 ^ 12))
  else { s with nvs := { s.nvs with ledgerHeld := s.nvs.ledgerHeld ++ [r] } }

/-- The blank record of a slot that was never written. -/
def LedgerRec.blank : LedgerRec := ⟨0, 0, 0, 0, 0, 0, 0, 0, 0, 0, 0⟩

/-- COMMIT of a ledger record (Table 3.6). -/
def ledgerCommit (seq : Nat) : Nat := (seq ^^^ 0xA5A5) % 2 ^ 16

/-- The 32 bytes of a ledger record (Table 3.6). -/
def ledgerBytes (r : LedgerRec) : List Byte :=
  leBytes 4 r.seq ++ leBytes 1 r.step ++ leBytes 1 r.scope ++ leBytes 1 r.form ++ leBytes 1 r.outcome ++
  leBytes 2 r.code ++ leBytes 2 r.attempt ++ leBytes 4 r.duration ++ leBytes 8 r.timeBegin.toNat ++
  leBytes 4 r.detail ++ leBytes 1 r.kind ++ leBytes 1 1 ++ leBytes 2 (ledgerCommit r.seq)

/-- The 64 bytes of an event record (Table 15.9). -/
def eventBytes (e : EventRec) : List Byte :=
  leBytes 8 e.seq ++ leBytes 4 e.startSeq ++ leBytes 2 e.type ++
  leBytes 1 (evSeverity e.type + b2n e.summary * 4 + b2n e.copied * 8) ++ leBytes 1 e.part ++
  leBytes 8 e.stamp.toNat ++ leBytes 2 e.block ++ leBytes 1 e.half ++ leBytes 1 1 ++ leBytes 4 0 ++
  leBytes 8 e.data0.toNat ++ leBytes 8 e.data1.toNat ++ leBytes 8 e.data2.toNat ++ leBytes 4 0 ++
  leBytes 4 ((e.seq % 2 ^ 32) ^^^ e.startSeq ^^^ 0xA5A5A5A5)

/-! ### Outcomes of meanings -/

/-- What every meaning answers. -/
abbrev Result := Host.Outcome State Fault Refusal

/-- The meaning whose operands pass `wf` answers the next state `s`; operands no stimulus can carry fault. -/
def guarded (wf : Bool) (s : State) : Result := if wf then .next s else .fault .illFormed

end Sys2Proof.Machine
end

