-- ==== Sys2Proof/Machine/Fallow.lean ====
section
/-!
DEFINITION. The fallow map (R466) and what becomes fallow: bank pairs, channels, cores, compute dies, ports.
-/
namespace Sys2Proof.Machine

def FallowEntry.unused (_ : Nat) : FallowEntry := ⟨0, 0, 0, 0, 0, 0⟩

/-- The 16 bytes of an entry (Table 14.2). -/
def fallowBytes (e : FallowEntry) : List Byte :=
  leBytes 4 (e.kind + e.die * 2 ^ 4 + e.unit * 2 ^ 8 + e.pair * 2 ^ 16) ++ leBytes 4 e.cause ++ leBytes 8 e.stamp.toNat

/-- The same resource. -/
def FallowEntry.same (e : FallowEntry) (kind die unit pair : Nat) : Bool :=
  decide (e.kind = kind ∧ e.die = die ∧ e.unit = unit ∧ e.pair = pair)

/-- Write one entry into a map, at the lowest unused slot; a resource has one entry. -/
def fallowPut (m : Map FallowEntry) (e : FallowEntry) : Map FallowEntry :=
  if m.any fun x => x.2.same e.kind e.die e.unit e.pair then m
  else match (List.range 4096).find? fun i => (Map.get FallowEntry.unused m i).kind = 0 with
    | some i => Map.set FallowEntry.unused m i e
    | none => m

/-- Record a fallow resource in the working map and, while it is reachable, in the NVS. -/
def fallowAdd (s : State) (kind die unit pair cause : Nat) : State :=
  let e : FallowEntry := ⟨kind, die, unit, pair, cause, stamp s⟩
  { s with
    fallow := fallowPut s.fallow e
    nvs := if s.nvs.ok then { s.nvs with fallow := fallowPut s.nvs.fallow e } else s.nvs }

/-- Drop the pair entries of a channel, whose own entry takes their place when the map is full (R466). -/
def dropPairEntries (m : Map FallowEntry) (d c : Nat) : Map FallowEntry :=
  m.filter fun x => !(decide (x.2.kind = 4 ∧ x.2.die = d ∧ x.2.unit = c))

/-- Channel `c` of MDd becomes fallow: BLK_STATUS.FALLOW, one KIND 3 entry. -/
def channelFallow (s : State) (d c cause : Nat) : State :=
  fallowAdd (putBit s (blkStatus (Reg.chBlk d c)) 2 true) 3 d c 0 cause

/-- Bank pair `k` of channel `c` becomes fallow, with its NBU; with a full map the whole channel does instead (R466). -/
def pairFallow (s : State) (d c k cause : Nat) : State :=
  if s.fallow.length < 4096 then
    fallowAdd (putBit s (Reg.nbuFallow d (c / 8) (c % 8)) k true) 4 d c k cause
  else
    channelFallow { s with
      fallow := dropPairEntries s.fallow d c
      nvs := { s.nvs with fallow := dropPairEntries s.nvs.fallow d c } } d c cause

/-- A channel that is not fallow. -/
def channelUp (s : State) (d c : Nat) : Bool := !getBit s (blkStatus (Reg.chBlk d c)) 2

/-- A bank pair that is not fallow, of a channel that is not fallow. -/
def pairUp (s : State) (d c k : Nat) : Bool := channelUp s d c && !getBit s (Reg.nbuFallow d (c / 8) (c % 8)) k

/-! ### Cores (R202, R230 to R233) -/

/-- CORE_ID of physical core `p`: its logical number and state, 0 ACTIVE, 1 SPARE, 2 WAKING, 3 FALLOW. -/
def setCoreId (s : State) (d p logical state : Nat) : State :=
  setReg s (Reg.coreId d p) (word (p + logical * 2 ^ 8 + state * 2 ^ 16))

/-- CD_CORE_MAP: physical core of logical core `n`, none when its VALID bit is 0. -/
def coreOf (s : State) (d n : Nat) : Option Nat :=
  let b := getFld s (Reg.cdCoreMap d (n / 8)) (8 * (n % 8)) 8
  if b / 128 = 1 then some (b % 64) else none

/-- Write the map entry of logical core `n`. -/
def mapCore (s : State) (d n : Nat) (p : Option Nat) : State :=
  putFld s (Reg.cdCoreMap d (n / 8)) (8 * (n % 8)) 8 (match p with | some p => 0x80 + p | none => 0)

/-- Spares that passed their test, in order. -/
def goodSpares (failing : BitVec 34) : List Nat := [32, 33].filter fun p => !failing.getLsbD p

/-- The map that step 7 writes: a logical core whose core failed goes to the lowest spare that passed (R202). -/
def mapCores (s : State) (d : Nat) (failing : BitVec 34) : State :=
  let step := fun (acc : State × List Nat) (n : Nat) =>
    let (s, sp) := acc
    if failing.getLsbD n then
      match sp with
      | p :: rest => (setCoreId (mapCore s d n (some p)) d p n 0, rest)
      | [] => (mapCore s d n none, [])
    else (setCoreId (mapCore s d n (some n)) d n n 0, sp)
  let s0 := (bitsOf 34 failing.toNat).foldl (fun s p => setCoreId s d p 0 3) s
  let s1 := (goodSpares failing).foldl (fun s p => setCoreId s d p 0 1) s0
  let (s2, left) := (List.range 32).foldl step (s1, goodSpares failing)
  let used := (goodSpares failing).filter fun p => p ∉ left
  let s3 := setReg s2 (Reg.cdSpareStatus d) (word (left.length + 0x2000 + 0x210000
    + b2n (decide (32 ∈ used)) * 2 ^ 24 + b2n (decide (33 ∈ used)) * 2 ^ 25))
  setReg s3 (Reg.cdCoreFallow d) (failing.setWidth 64)

/-- A compute die with more failing cores than spares becomes fallow and its memory die unreachable (R72, R204). -/
def dieExhausted (s : State) (d cause : Nat) : State :=
  let s1 := setCause (s.setDie d { s.die d with fallow := true }) (Reg.cdBlk d) 17
  fallowAdd (fallowAdd s1 1 d 0 0 cause) 6 d 0 0 cause

/-- FALLOW_SUMMARY of the colophon (Table 3.8). -/
def fallowSummary (s : State) : Nat :=
  let n := fun k => (s.fallow.filter fun e => e.2.kind = k).length
  n 1 % 16 + n 3 % 256 * 2 ^ 4 + n 5 % 16 * 2 ^ 12 + n 4 % 65536 * 2 ^ 16

end Sys2Proof.Machine
end

