-- ==== Sys2Proof/Machine/Trace.lean ====
section
/-!
DEFINITION. The trace: what a source records (R509 to R512), and the store of a hub (R513).
-/
namespace Sys2Proof.Machine

/-- A record of no kind: engine, unit and partition none. -/
def TraceRec.blank (_ : Nat) : TraceRec := ⟨0, 0, 0, 0xFF, 0xFF, 0, noPart, 0, 0, 0, 0⟩

def TraceSource.fresh (_ : Nat) : TraceSource := ⟨[], 0⟩

/-- The source numbered as in Table 15.6. -/
def State.source (s : State) (src : Nat) : TraceSource := Map.get TraceSource.fresh s.sources src

def State.setSource (s : State) (src : Nat) (x : TraceSource) : State :=
  { s with sources := Map.set TraceSource.fresh s.sources src x }

/-- The hub of a source (Table 15.6). -/
def traceHub (src : Nat) : Half :=
  if src < 16 then dieHalf (src % 8) else if src < 22 then portHalf (src - 16) else if src = 22 then .west else .east

/-- Recording runs: ENABLE, and the window of TRC_START_AT and TRC_STOP_AT (R513). -/
def recording (s : State) (h : Half) : Bool :=
  let a := getFld s (Reg.trcStartAt h.idx) 0 63
  let z := getFld s (Reg.trcStopAt h.idx) 0 63
  getBit s (Reg.trcCtrl h.idx) 0 && decide ((a = 0 ∨ a ≤ s.clock.now) ∧ (z = 0 ∨ s.clock.now < z))

/-- TRC_FILTER0 admits a record (R531). -/
def filterAdmits (f : Word) (r : TraceRec) : Bool :=
  bit f r.kind && (decide (16 ≤ r.src) || bit f (16 + r.src % 4 + 4 * (r.src / 8))) && (decide (6 ≤ r.engine) || bit f (24 + r.engine)) &&
    (!bit f 38 || decide (r.part = fld f 32 6))

/-- A source records `r` (R510, R512): a record that finds no room is dropped, counted, and reported by the LOST record that
precedes the next one. -/
def trace (s : State) (src : Nat) (r : TraceRec) : State :=
  let h := traceHub src
  let f := getReg s (Reg.trcFilter0 h.idx)
  let r := { r with stamp := stamp s, src := src }
  if !recording s h || !filterAdmits f r then s
  else
    let x := s.source src
    let gap : TraceRec := { TraceRec.blank 0 with stamp := stamp s, kind := 11, src := src, index := x.dropped }
    let gaps := if x.dropped ≠ 0 ∧ filterAdmits f gap then [gap] else []
    if 256 < x.fifo.length + gaps.length + 1 then
      setCause (count (s.setSource src { x with dropped := satAdd 0xFFFFFFFF x.dropped 1 }) (Reg.trcLost h.idx) 1) (Reg.trcBlk h.idx) 17
    else s.setSource src ⟨x.fifo ++ gaps ++ [r], 0⟩

/-- A record of the galley engine or the step sequencer, which both hubs write (R510). -/
def traceBoth (s : State) (r : TraceRec) : State := trace (trace s 22 r) 23 r

/-- The records of a store. -/
def storeSize : Nat := 2 ^ 21

/-- Write a record into a hub's store (R513): dropped where the store is frozen, or FILL and full or being dumped. -/
def storeRecord (s : State) (h : Half) (r : TraceRec) : State :=
  let hub := s.hub h
  let t := hub.trace
  let fill := getBit s (Reg.trcCtrl h.idx) 1
  let put := fun (s : State) (t : TraceStore) => s.setHub h { hub with trace := t }
  let full := fun (s : State) => if t.full then s else setCause s (Reg.trcBlk h.idx) 16
  if t.frozen ∨ (fill ∧ t.dumping) then s
  else if fill ∧ storeSize ≤ t.count then full (put s { t with full := true })
  else if storeSize ≤ t.count then
    put s { t with recs := Map.set TraceRec.blank t.recs t.oldest r, oldest := (t.oldest + 1) % storeSize, full := false }
  else
    let t1 := { t with recs := Map.set TraceRec.blank t.recs ((t.oldest + t.count) % storeSize) r, count := t.count + 1 }
    if fill ∧ storeSize ≤ t1.count then full (put s { t1 with full := true }) else put s t1

/-- The first record of a source's FIFO reaches its hub. -/
def shiftSource (s : State) (src : Nat) : State := match (s.source src).fifo with
  | [] => s
  | r :: rest => storeRecord (s.setSource src { s.source src with fifo := rest }) (traceHub src) r

/-- The 32 bytes of a record (Table 15.5). -/
def traceBytes (r : TraceRec) : List Byte :=
  leBytes 8 r.stamp.toNat ++ leBytes 1 r.kind ++ leBytes 1 r.src ++ leBytes 1 r.unit ++ leBytes 1 r.engine ++ leBytes 1 r.opcode ++
  leBytes 1 r.part ++ leBytes 2 r.req ++ leBytes 4 r.index ++ leBytes 4 r.step ++ leBytes 4 r.aux ++ leBytes 4 0

/-- REQ of a record that names a galley entry. -/
def reqField (req : Nat) : Nat := req % 2 ^ 15 + 2 ^ 15

/-- STEP of a record. -/
def stepField (s : State) : Nat := fld s.steps.num 0 32

/-! ### Where a stop stands (R516 to R520) -/

/-- STATE of CNT_STOP_STATUS (Table 15.8). -/
def stopState (s : State) : Nat := getFld s Reg.cntStopStatus 0 3

/-- The time of the armed stop, as CNT_STOP_AT gave it when the stop was requested. -/
def stopAt (s : State) : Nat := fld (inForceReg s Reg.cntStopAt) 0 63

/-- KIND of the armed stop is boundary. -/
def stopAtBoundary (s : State) : Bool := decide (getFld s Reg.cntStopCtrl 0 2 = 1)

/-- A boundary stop is about to take the device: its time has come, or it has begun (R517). -/
def stopDue (s : State) : Bool :=
  decide (stopState s = 2 ∨ stopState s = 3) || (decide (stopState s = 1 ∧ stopAt s ≤ s.clock.now) && stopAtBoundary s)

/-- The engines are halted by an immediate stop (R518). -/
def halted (s : State) : Bool := decide (stopState s = 4 ∨ stopState s = 5)

end Sys2Proof.Machine
end

