-- ==== Sys2Proof/Machine/Link.lean ====
section
/-!
DEFINITION. Ports, flits, messages and routing (R388 to R401): how a message leaves the device, and how a frame that the device
does not consume goes on.
-/
namespace Sys2Proof.Machine

/-! ### Ports -/

def Port.fresh (_ : Nat) : Port := ⟨.off, 0, 0, 0, false, 0, 0, false⟩

def State.port (s : State) (p : Nat) : Port := Map.get Port.fresh s.ports p

/-- FAB_STATUS.STATE. -/
def PortPhase.code : PortPhase → Nat
  | .off => 0
  | .dark => 1
  | .training => 2
  | .verifying => 3
  | .up => 4
  | .draining => 5
  | .patching => 6
  | .down => 7
  | .fallow => 8

/-- Replace a port; FAB_STATUS shows its state, width (0 none, 1 to 3 for 32, 48, 64 lanes), outcome and reason. A port with
outcome DARK shows 0 (R414). -/
def State.setPort (s : State) (p : Nat) (x : Port) : State :=
  putFld { s with ports := Map.set Port.fresh s.ports p x } (Reg.fabStatus p) 0 10
    (x.phase.code + x.width % 4 * 16 + x.outcome % 4 * 64 + x.reason % 4 * 256)

def Link.fresh (_ : Nat) : Link :=
  ⟨0, 0, 0, [], [], [], [], [], [], [], [], [], false, 0, 0, [], [], none, false, [], []⟩

def State.link (s : State) (p : Nat) : Link := Map.get Link.fresh s.links p

def State.setLink (s : State) (p : Nat) (x : Link) : State := { s with links := Map.set Link.fresh s.links p x }

def zeroAt (_ : Nat) : Nat := 0

/-! ### Coordinates (Table 3.8) -/

/-- COORD as last sampled, from the straps of a half that holds them (Table 3.8). -/
def sampledCoord (s : State) : Nat := (if s.west.phase = .unpowered then s.east else s.west).straps.toNat

/-- The device's own coordinates, SLOT bits 0. -/
def myCoord (s : State) : Nat := sampledCoord s % 2 ^ 14

/-- The coordinate on axis 0, 1 or 2. -/
def onAxis (c a : Nat) : Nat := if a = 0 then c % 32 else if a = 1 then c / 32 % 32 else c / 1024 % 16

/-- The size of an axis. -/
def axisDim (s : State) (a : Nat) : Nat := onAxis s.colophon.shape a + 1

/-- Coordinates with one axis replaced. -/
def withAxis (c a v : Nat) : Nat :=
  let g := fun b => if a = b then v else onAxis c b
  g 0 + g 1 * 32 + g 2 * 1024

/-- The neighbour in a logical direction 2 × axis + (1 for +) (R82). -/
def neighbour (s : State) (c dir : Nat) : Nat :=
  let n := axisDim s (dir / 2)
  withAxis c (dir / 2) ((onAxis c (dir / 2) + (if dir % 2 = 1 then 1 else n - 1)) % n)

/-! ### Flits (Table 12.2) -/

/-- The 256 bytes of a data flit. -/
def flitBytes (ctl len slice dst src seq hops : Nat) (data : List Byte) : List Byte :=
  let body := data ++ leBytes (240 - data.length) 0
  let head := leBytes 1 ctl ++ leBytes 1 len ++ leBytes 2 slice ++ leBytes 2 dst ++ leBytes 2 src ++ leBytes 2 seq ++
    leBytes 1 hops ++ leBytes 1 0
  head ++ leBytes 4 (crc32c (head ++ body)) ++ body

def flitCtl (f : List Byte) : Nat := leAt f 0 1
def flitClass (f : List Byte) : Nat := flitCtl f % 8
/-- POS: 0 ONLY, 1 FIRST, 2 MIDDLE, 3 LAST. -/
def flitPos (f : List Byte) : Nat := flitCtl f / 8 % 4
def flitVc (f : List Byte) : Nat := flitCtl f / 32 % 2
def flitDetour (f : List Byte) : Bool := decide (flitCtl f / 64 % 2 = 1)
def flitLen (f : List Byte) : Nat := leAt f 1 1
def flitSlice (f : List Byte) : Nat := leAt f 2 2 % 2 ^ 12
def flitDst (f : List Byte) : Nat := leAt f 4 2
def flitSrc (f : List Byte) : Nat := leAt f 6 2
def flitSeq (f : List Byte) : Nat := leAt f 8 2
def flitHops (f : List Byte) : Nat := leAt f 10 1
def flitData (f : List Byte) : List Byte := (f.drop 16).take (flitLen f)

/-- The flit's CRC holds and its length is 256. -/
def flitOk (f : List Byte) : Bool :=
  decide (f.length = 256) && decide (leAt f 12 4 = crc32c (f.take 12 ++ f.drop 16))

/-- A flit as its next sender rewrites it: VC, DETOUR, HOPS. -/
def readdress (f : List Byte) (vc : Nat) (detour : Bool) (hops : Nat) : List Byte :=
  flitBytes (flitClass f + flitPos f * 8 + vc * 32 + b2n detour * 64) (flitLen f) (flitSlice f) (flitDst f) (flitSrc f) 0 hops
    (f.drop 16)

/-- The flit with its link sequence number. -/
def withSeq (f : List Byte) (seq : Nat) : List Byte :=
  flitBytes (flitCtl f) (flitLen f) (leAt f 2 2) (flitDst f) (flitSrc f) seq (flitHops f) (f.drop 16)

/-! ### Routing (R399 to R401) -/

/-- Bits of a routing table entry (Table 12.8). -/
def State.route (s : State) (tag : Nat) : Word := Map.get (fun _ => 0) s.routes tag

/-- The axes of an ORDER code. -/
def orderAxes (o : Nat) : List Nat := ([[0, 1, 2], [0, 2, 1], [1, 0, 2], [1, 2, 0], [2, 0, 1], [2, 1, 0]] : List (List Nat)).getD o [0, 1, 2]

/-- The box of an entry on an axis. -/
def boxLo (e : Word) (a : Nat) : Nat := if a = 0 then fld e 16 5 else if a = 1 then fld e 26 5 else fld e 36 4
def boxHi (e : Word) (a : Nat) : Nat := if a = 0 then fld e 21 5 else if a = 1 then fld e 31 5 else fld e 40 4

def inSpan (lo hi c : Nat) : Bool := if lo ≤ hi then decide (lo ≤ c ∧ c ≤ hi) else decide (lo ≤ c ∨ c ≤ hi)

/-- The coordinates lie inside the box. -/
def inBox (e : Word) (c : Nat) : Bool := [0, 1, 2].all fun a => inSpan (boxLo e a) (boxHi e a) (onAxis c a)

/-- The box covers the whole axis. -/
def wholeAxis (s : State) (e : Word) (a : Nat) : Bool := (List.range (axisDim s a)).all (inSpan (boxLo e a) (boxHi e a))

/-- The entry by which classes 2 and 3 are routed: ORDER XYZ, the full torus, detours permitted. -/
def openRoute (s : State) : Word :=
  word (1 + 16 + 0x3F00 + (axisDim s 0 - 1) * 2 ^ 21 + (axisDim s 1 - 1) * 2 ^ 31 + (axisDim s 2 - 1) * 2 ^ 40)

/-- The logical direction that R400 takes on an axis. -/
def axisDir (s : State) (e : Word) (a dst : Nat) : Nat :=
  let n := axisDim s a
  let c := onAxis (myCoord s) a
  let d := onAxis dst a
  let up := (d + n - c) % n
  let plus : Bool :=
    if n = 2 then true
    else if wholeAxis s e a then decide (2 * up ≤ n)
    else (List.range (up + 1)).all fun i => inSpan (boxLo e a) (boxHi e a) ((c + i) % n)
  2 * a + b2n plus

/-- The device's own coordinates lie inside its shape (R82). -/
def inShape (s : State) : Bool := [0, 1, 2].all fun a => decide (onAxis (myCoord s) a < axisDim s a)

/-- Classes that the device's state keeps off its ports: all but 1 and 3 in BLANK, all but 1 in RETURNED (Table 3.3), all but 1 to 3 after a
fail-stop (R472), class 0 until step 12 of a warm reset (Table 3.2). -/
def barred (s : State) (cls : Nat) : Bool :=
  let lc := s.colophon.lcState
  let warm := fun (x : HalfState) => decide (x.phase = .starting ∧ x.kind = .warm)
  (decide (lc = 0) && decide (cls ≠ 1 ∧ cls ≠ 3)) || (decide (lc = 3) && decide (cls ≠ 1)) ||
    (getBit s Reg.devFailStatus 0 && decide (cls = 0 ∨ 3 < cls)) || (decide (cls = 0) && (warm s.west || warm s.east))

/-- A port carries traffic of a class: the device lies inside its shape, and both ends are VERIFIED or accepted, or, for classes 1 to 3, this end is; version 2.1 for
class 4 (R83, R397, R406). -/
def carries (s : State) (p cls : Nat) : Bool :=
  let st := getReg s (Reg.fabStatus p)
  let own := decide ((s.port p).outcome = 1)
  let acc := bit st 10
  let both := (own && bit st 12) || (acc && bit st 11)
  inShape s && !barred s cls && (if cls = 0 ∨ cls = 4 ∨ cls = 5 then both else own || acc) && (decide (cls ≠ 4) || decide (0x0201 ≤ fld st 16 16))

/-- Routing uses the port: it has joined, and is UP, or DOWN and not yet routed around (R402, R403). -/
def portRoutes (s : State) (p cls : Nat) : Bool :=
  (s.link p).joined && decide ((s.port p).phase = .up ∨ (s.port p).phase = .down) && carries s p cls

/-- The port of a logical direction that routing uses. -/
def portOf (s : State) (dir cls : Nat) : Option Nat :=
  (List.range 6).find? fun p => decide (getFld s (Reg.fabMap p) 0 3 = dir) && portRoutes s p cls

/-- Where a frame goes. -/
inductive Hop where
  | here
  | port (p vc : Nat) (detour fresh : Bool)
  /-- Dropped by the slice checks: 1 entry not valid, 2 class, 3 outside the box. -/
  | slice (reason : Nat)
  | lost
  deriving DecidableEq, Repr

/-- The virtual channel of a hop in direction `dir`: VC0 on a new axis, VC1 from the wrap on. -/
def hopVc (s : State) (dir : Nat) (from_ : Option Nat) (vc : Nat) : Nat :=
  let c := onAxis (myCoord s) (dir / 2)
  let n := axisDim s (dir / 2)
  let wraps := if dir % 2 = 1 then decide (c + 1 = n) else decide (c = 0)
  if wraps then 1 else if from_ = some (dir / 2) then vc else 0

/-- The detour of a frame whose port on axis `a` is unusable (R401). -/
def detourHop (s : State) (e : Word) (cls dst a : Nat) (was : Bool) : Hop :=
  if was ∨ ¬ bit e 4 then .lost
  else
    let later := ((orderAxes (fld e 1 3)).dropWhile (· ≠ a)).drop 1
    let dirOn := fun b => if onAxis dst b = onAxis (myCoord s) b then 2 * b + 1 else axisDir s e b dst
    match later.findSome? fun b => match portOf s (dirOn b) cls with
      | some p => if inBox e (neighbour s (myCoord s) (dirOn b)) ∧ 0x0301 ≤ getFld s (Reg.fabStatus p) 16 16
          then some p else none
      | none => none with
    | some p => .port p 1 true true
    | none => .lost

/-- R400 and R401 for a frame of a class, slice and destination; `from_` is the axis it arrived on, `vc` and `was` its VC and
DETOUR bits. -/
def routeHop (s : State) (cls slice dst : Nat) (from_ : Option Nat) (vc : Nat) (was : Bool) : Hop :=
  let open_ := decide (cls = 2 ∨ cls = 3)
  let e := if open_ then openRoute s else s.route slice
  if ¬ open_ ∧ ¬ bit e 0 then .slice 1
  else if ¬ open_ ∧ ¬ bit e (8 + cls) then .slice 2
  else if ¬ open_ ∧ ¬ inBox e dst then .slice 3
  else if dst = myCoord s then .here
  else
    match (orderAxes (fld e 1 3)).find? fun a => onAxis dst a ≠ onAxis (myCoord s) a with
    | none => .lost
    | some a =>
      let dir := axisDir s e a dst
      match portOf s dir cls with
      | some p => .port p (if was then 1 else hopVc s dir from_ vc) was false
      | none => detourHop s e cls dst a was

/-! ### Credits and the transmitter (R389, R394) -/

/-- The class's allocation, in flits. -/
def classFlits (s : State) (p cls : Nat) : Nat := 64 * getFld s (Reg.fabCreditCfg p) (8 * cls) 8

/-- Shared credits exist from version 3.2; below it each VC uses half the allocation (Table 12.11). -/
def sharedCredits (s : State) (p : Nat) : Bool := decide (0x0302 ≤ getFld s (Reg.fabStatus p) 16 16)

def inUse (used freed : Map Nat) (k : Nat) : Nat := (Map.get zeroAt used k + 2 ^ 16 - Map.get zeroAt freed k) % 2 ^ 16

/-- Take a credit for a flit of (class, VC): a shared one when free, else a reserved one of that VC. -/
def takeCredit (s : State) (p cls vc : Nat) (l : Link) : Option Link :=
  let resv := if sharedCredits s p then 16 else classFlits s p cls / 2
  let bump := fun (m : Map Nat) k => Map.set zeroAt m k ((Map.get zeroAt m k + 1) % 2 ^ 16)
  if sharedCredits s p ∧ inUse l.sharedUsed l.sharedFreed cls < classFlits s p cls - 32 then
    some { l with sharedUsed := bump l.sharedUsed cls }
  else if inUse l.resvUsed l.resvFreed (2 * cls + vc) < resv then
    some { l with resvUsed := bump l.resvUsed (2 * cls + vc) }
  else none

/-- Send one waiting flit, or keep it. -/
def sendOne (p : Nat) (acc : State × List (List Byte)) (f : List Byte) : State × List (List Byte) :=
  let (s, kept) := acc
  let blocked := kept.any fun g => flitClass g = flitClass f ∧ flitVc g = flitVc f
  let l := s.link p
  let open_ : Bool := match (s.port p).phase with
    | .up | .verifying | .draining => true
    | _ => false
  match (if blocked ∨ !open_ ∨ 16384 ≤ l.retry.length then none
      else takeCredit s p (flitClass f) (flitVc f) l) with
  | none => (s, kept ++ [f])
  | some l' =>
    let g := withSeq f l'.txSeq
    let s1 := s.setLink p { l' with txSeq := (l'.txSeq + 1) % 2 ^ 16, retry := l'.retry ++ [g] }
    (emit (count s1 (Reg.fabFlitsTx p) 1) (.flit p g), kept)

/-- Send the waiting flits of a port that hold a credit, each (class, VC) in order. -/
def pump (s : State) (p : Nat) : State :=
  let (s1, kept) := (s.link p).waiting.foldl (sendOne p) (s.setLink p { s.link p with waiting := [] }, [])
  s1.setLink p { s1.link p with waiting := kept }

/-- Give a flit to a port. -/
def queueFlit (s : State) (p : Nat) (f : List Byte) : State :=
  let l := s.link p
  pump (s.setLink p { l with waiting := l.waiting ++ [f] }) p

/-- A frame dropped by a slice check at a port: counted, captured, cause SLICE_DROP (R400). -/
def sliceDrop (s : State) (p slice cls dst reason : Nat) : State :=
  let s1 := count s (Reg.fabSliceDrops p) 1
  setCause (capture s1 (Reg.fabBlk p) 0x0503 0 noPart 0 (slice % 2 ^ 12 + cls % 8 * 2 ^ 12 + dst % 2 ^ 16 * 2 ^ 16 + reason * 2 ^ 32))
    (Reg.fabBlk p) 20

/-- The port that carries a class 1 or 3 message of this device to a partner that routing does not use (R82, R83, R408). -/
def directPort (s : State) (cls dst : Nat) : Option Nat :=
  if cls = 1 ∨ cls = 3 then
    (List.range 6).find? fun p => decide ((s.port p).phase = .up) && !carries s p cls &&
      decide (getFld s (Reg.fabPartnerInfo p) 0 14 = dst)
  else none

/-- Route a frame: drop it, or queue it on its port. `inPort`: the port it arrived on. -/
def routeFlit (s : State) (inPort : Option Nat) (f : List Byte) : State :=
  let axis := inPort.map fun p => getFld s (Reg.fabMap p) 0 3 / 2
  let at_ := inPort.getD 0
  let hops := flitHops f + b2n inPort.isSome
  match routeHop s (flitClass f) (flitSlice f) (flitDst f) axis (flitVc f) (flitDetour f) with
  | .here => s
  | .slice r => sliceDrop s at_ (flitSlice f) (flitClass f) (flitDst f) r
  | .lost => count s (Reg.fabDetourDrops at_) 1
  | .port p vc d fresh =>
    let s1 := if fresh then count s (Reg.fabDetours p) 1 else s
    queueFlit s1 p (readdress f vc d hops)

/-- Send a frame on. -/
def forwardFlit (s : State) (inPort : Option Nat) (f : List Byte) : State :=
  match (if inPort.isSome then none else directPort s (flitClass f) (flitDst f)) with
  | some p => queueFlit s p f
  | none => routeFlit s inPort f

/-! ### Link management (R389, R390, R394) -/

/-- The link-management flit of a port (Table 12.3): `retire` a lane leaving service, `bad` failing lanes, `width` an agreed change. -/
def lmFlit (s : State) (p : Nat) (nak : Bool) (retire : Option Nat) (bad : Nat) (width : Option (Nat × Nat)) : List Byte :=
  let l := s.link p
  let body := leBytes 1 6 ++ leBytes 1 (b2n nak + 2 * b2n width.isSome + 4 * b2n retire.isSome) ++ leBytes 2 (l.rxSeq + 65535) ++
    leBytes 2 (if nak then l.rxSeq else 0) ++ leBytes 2 (retire.getD 0) ++
    (List.range 12).flatMap (fun k => leBytes 2 (Map.get zeroAt l.freedResv k)) ++
    (List.range 6).flatMap (fun k => leBytes 2 (Map.get zeroAt l.freedShared k)) ++ leBytes 4 0 ++ leBytes 8 bad ++
    leBytes 2 ((width.getD (0, 0)).1) ++ leBytes 4 ((width.getD (0, 0)).2) ++ leBytes 190 0
  body ++ leBytes 4 (crc32c body)

/-- The port sends what its next link-management flit carries. -/
def sendLm (s : State) (p : Nat) (nak : Bool) (retire : Option Nat) (bad : Nat) (width : Option (Nat × Nat)) : State :=
  emit s (.flit p (lmFlit s p nak retire bad width))

/-- The CRC of a link-management flit holds. -/
def lmOk (f : List Byte) : Bool := decide (leAt f 0xFC 4 = crc32c (f.take 0xFC))

/-- A flit of (class, VC) has left the receive buffer: its credit is freed, a shared one where the link has them. -/
def freeCredit (s : State) (p cls vc : Nat) : State :=
  let l := s.link p
  let bump := fun (m : Map Nat) k => Map.set zeroAt m k ((Map.get zeroAt m k + 1) % 2 ^ 16)
  s.setLink p (if sharedCredits s p then { l with freedShared := bump l.freedShared cls }
    else { l with freedResv := bump l.freedResv (2 * cls + vc) })

/-! ### Messages (R391 to R393) -/

/-- The bytes of a message: its header and content. -/
def msgBytes (m : Msg) : List Byte :=
  leBytes 1 m.op ++ leBytes 1 (b2n m.ackReq) ++ leBytes 2 m.content.length ++ leBytes 4 m.id ++ leBytes 8 m.target.toNat ++
    m.content

/-- Bytes in pieces of at most `n`. -/
def pieces (n fuel : Nat) (bs : List Byte) : List (List Byte) :=
  match fuel with
  | 0 => []
  | fuel + 1 => if bs.length ≤ n then [bs] else bs.take n :: pieces n fuel (bs.drop n)

/-- The flits of a message. -/
def msgFlits (m : Msg) : List (List Byte) :=
  let ps := pieces 240 (m.content.length + 17) (msgBytes m)
  (ps.zipIdx).map fun (d, i) =>
    let pos := if ps.length = 1 then 0 else if i = 0 then 1 else if i + 1 = ps.length then 3 else 2
    flitBytes (m.cls + pos * 8) d.length m.slice m.dst m.src 0 0 d

/-- A message that has reached this device: it waits to be applied. -/
def arrive (s : State) (p : Nat) (m : Msg) : State := { s with inbox := s.inbox ++ [⟨p, s.clock.now, m⟩] }

/-- Put a message on its way. -/
def launch (s : State) (m : Msg) : State :=
  if m.dst = myCoord s then arrive s 6 m else (msgFlits m).foldl (fun s f => forwardFlit s none f) s

/-- The next MSG_ID of a class. -/
def newMsgId (s : State) (cls : Nat) : Nat × State :=
  let n := Map.get zeroAt s.msgIds cls
  (n, { s with msgIds := Map.set zeroAt s.msgIds cls ((n + 1) % 2 ^ 32) })

/-- Send a message; one with ACK_REQ waits for its ACK. The answer is its MSG_ID. -/
def sendMsg (s : State) (slice cls op dst : Nat) (ackReq : Bool) (target : Word) (content : List Byte) : Nat × State :=
  let (id, s1) := newMsgId s cls
  let m : Msg := ⟨slice, myCoord s, dst, cls, op, ackReq, id, target, content⟩
  (id, launch (if ackReq then { s1 with sent := s1.sent ++ [⟨m, 0⟩] } else s1) m)

/-- Send a message through one port, whatever routing says (R405, R481). -/
def sendThrough (s : State) (p : Nat) (m : Msg) : State :=
  (msgFlits m).foldl (fun s f => queueFlit s p f) s

/-- The opcode of the ACK of a class (Table 12.5). -/
def ackOp (cls : Nat) : Nat := 16 * cls + 0x0F

/-- Acknowledge a message that has been applied (R393). -/
def acknowledge (s : State) (m : Msg) : State :=
  if m.ackReq then (sendMsg s m.slice m.cls (ackOp m.cls) m.src false (word m.id) []).2 else s

def appliedKey (m : Msg) : Nat := 8 * m.src + m.cls

/-- Classes whose traffic an immediate stop holds (R518). -/
def stopHolds (s : State) (cls : Nat) : Bool := halted s && decide (cls = 0 ∨ cls = 4 ∨ cls = 5)

/-- Take the first arrived message of an opcode that passes `p` and is not held by a stop; one already applied is acknowledged and counted in
FAB_DUP_DROPS, and answers none (R393). -/
def takeMsg (s : State) (p : Arrival → Bool) : Option (Arrival × Bool × State) :=
  match s.inbox.find? fun a => p a && !stopHolds s a.msg.cls with
  | none => none
  | some a =>
    let s1 := { s with inbox := s.inbox.erase a }
    let ids := Map.get (fun _ => []) s.applied (appliedKey a.msg)
    if a.msg.cls = 0 ∨ a.msg.cls = 2 then some (a, true, s1)
    else if a.msg.id ∈ ids then some (a, false, acknowledge (count s1 (Reg.fabDupDrops (a.port % 6)) 1) a.msg)
    else some (a, true, { s1 with applied := Map.set (fun _ => []) s1.applied (appliedKey a.msg) ((a.msg.id :: ids).take 4096) })

/-- Apply the first arrived message that passes `p`, then acknowledge it; none arrived, or a duplicate, applies nothing. -/
def onMsg (s : State) (p : Arrival → Bool) (act : State → Arrival → State) : State :=
  match takeMsg s p with
  | none => s
  | some (_, false, s1) => s1
  | some (a, true, s1) => acknowledge (act s1 a) a.msg

/-- The slice tag of a partition, as the last step boundary left it (R452). -/
def sliceOf (s : State) (n : Nat) : Nat := fld (inForceReg s (Reg.partCfg n)) 16 12

/-- A partition whose slice tag is `slice` (R400): the lowest assigned one. -/
def sliceOwner (s : State) (slice : Nat) : Option Nat :=
  (List.range 64).find? fun n => getBit s (Reg.partCfg n) 0 && decide (sliceOf s n = slice)

end Sys2Proof.Machine
end

