-- ==== Sys2Proof/Machine/Mem.lean ====
section
/-!
DEFINITION. T1 and the tensor table: device addresses (R122), bytes and poison (R133, R136, R137), EXTENT tensors (R119,
R123), page groups (R273, R274), and what every placement must avoid (R123, R124).
-/
namespace Sys2Proof.Machine

/-! ### Device addresses (Table 5.3) -/

def daDie (da : Nat) : Nat := da / 2 ^ 35 % 8
def daChan (da : Nat) : Nat := da / 2 ^ 31 % 16
def daCla (da : Nat) : Nat := da % 2 ^ 31
def daPair (da : Nat) : Nat := daCla da / 0x1800000
/-- Offset within the bank pair; row, sector and bank follow from its bits. -/
def daR (da : Nat) : Nat := daCla da % 0x1800000
def daRow (da : Nat) : Nat := daR da / 2 ^ 12
/-- Bank number in the channel. -/
def daBank (da : Nat) : Nat := 2 * daPair da + daR da / 64 % 2
/-- A CLA beyond the channel's end is a hole. -/
def daHole (da : Nat) : Bool := decide (0x60000000 ≤ daCla da)
def mkDa (die chan cla : Nat) : Nat := die * 2 ^ 35 + chan * 2 ^ 31 + cla

/-! ### Bytes and poison -/

def getT1 (s : State) (da : Nat) : Byte := Map.get (fun _ => 0) s.t1 da

/-- `n` bytes from a device address. -/
def readT1 (s : State) (da n : Nat) : List Byte := (List.range n).map fun i => getT1 s (da + i)

def sectorPoisoned (s : State) (da : Nat) : Bool := Map.get (fun _ => false) s.poison (da / 64)

def setPoison (s : State) (da : Nat) (b : Bool) : State :=
  { s with poison := Map.set (fun _ => false) s.poison (da / 64) b }

/-- Some sector of a range holds the poison marker. -/
def rangePoisoned (s : State) (da n : Nat) : Bool :=
  (List.range ((da % 64 + n + 63) / 64)).any fun i => sectorPoisoned s (da / 64 * 64 + 64 * i)

/-- Store bytes; no check, no marker changes. -/
def putT1 (s : State) (da : Nat) (bs : List Byte) : State :=
  { s with t1 := (bs.zipIdx).foldl (fun m (b, i) => Map.set (fun _ => 0) m (da + i) b) s.t1 }

/-- A full write of whole sectors: fresh check symbols, poison cleared (R137). -/
def fullWrite (s : State) (da : Nat) (bs : List Byte) : State :=
  (List.range (bs.length / 64)).foldl (fun s i => setPoison s (da + 64 * i) false) (putT1 s da bs)

/-! ### Pages and groups (R273, R274, Table 9.2) -/

def grpSlot (g : Nat) : Nat := g % 2 ^ 10
def grpPair (g : Nat) : Nat := g / 2 ^ 10 % 64
def grpChan (g : Nat) : Nat := g / 2 ^ 16 % 16
def grpDie (g : Nat) : Nat := g / 2 ^ 20 % 8
def grpShared (g : Nat) : Bool := g.testBit 23
def grpValid (g : Nat) : Bool := g.testBit 31
def mkGroup (die chan pair slot : Nat) (shared : Bool) : Nat :=
  slot + pair * 2 ^ 10 + chan * 2 ^ 16 + die * 2 ^ 20 + b2n shared * 2 ^ 23 + 2 ^ 31

/-- Device address of offset `x` in the page of layer `l` of a group. -/
def grpAddr (g l x : Nat) : Nat :=
  mkDa (grpDie g) (grpChan g) (grpPair g * 0x1800000 + (grpSlot g + l) * 0x8000 + x)

/-- Element bytes of a cache format, DIM from its code, and the row size RB (R272). -/
def kvBytes (format : Nat) : Nat := if format = 4 then 2 else 1
def dimOf (code : Nat) : Nat := 64 * 2 ^ code
def rowBytes (format dim : Nat) : Nat := dimOf dim * kvBytes format

/-! ### EXTENT tensors (R119, R123) -/

def mapBase (m : Word) : Nat := fld m 0 31
def mapDie (m : Word) : Nat := fld m 31 3
def mapStripe (m : Word) : Nat := fld m 34 5
def mapMask (m : Word) : Nat := fld m 48 16
/-- The channels of the set in ascending order. -/
def mapChans (m : Word) : List Nat := bitsOf 16 (mapMask m)

/-- Device address of byte `off` of an EXTENT tensor. -/
def extentDa (m : Word) (off : Nat) : Nat :=
  let k := off / 2 ^ mapStripe m
  let chs := mapChans m
  let n := max 1 chs.length
  mkDa (mapDie m) (chs.getD (k % n) 0) (mapBase m + k / n * 2 ^ mapStripe m + off % 2 ^ mapStripe m)

/-- Bytes that a tensor of `size` bytes takes on the j-th channel of its set. -/
def extentOn (m : Word) (size j : Nat) : Nat :=
  let st := 2 ^ mapStripe m
  let n := max 1 (mapChans m).length
  let full := size / st
  let mine := (full + n - 1 - j) / n
  if full % n = j then mine * st + size % st else mine * st

/-- `n` bytes of an EXTENT tensor from `off`, and a write of them. -/
def readExtent (s : State) (m : Word) (off n : Nat) : List Byte := (List.range n).map fun i => getT1 s (extentDa m (off + i))

def putExtent (s : State) (m : Word) (off : Nat) (bs : List Byte) : State :=
  { s with t1 := (bs.zipIdx).foldl (fun t (b, i) => Map.set (fun _ => 0) t (extentDa m (off + i)) b) s.t1 }

/-- Some sector of a range of an EXTENT tensor holds the poison marker. -/
def extentPoisoned (s : State) (m : Word) (off n : Nat) : Bool :=
  (List.range ((off % 64 + n + 63) / 64)).any fun i => sectorPoisoned s (extentDa m (off / 64 * 64 + 64 * i))

/-- Clear the poison of every sector of a range that is written whole. -/
def clearExtentPoison (s : State) (m : Word) (off n : Nat) : State :=
  (List.range (n / 64)).foldl (fun s i => setPoison s (extentDa m (off + 64 * i)) false) s

/-! ### The tensor table (R120, Table 5.2) -/

def Tensor.free (_ : Nat) : Tensor := ⟨0, false, false, false, false, false, 0, 0, 0, 0, 0, 0, 0, 0⟩

def State.tensor (s : State) (h : Nat) : Tensor := Map.get Tensor.free s.tensors h

def State.setTensor (s : State) (h : Nat) (t : Tensor) : State := { s with tensors := Map.set Tensor.free s.tensors h t }

/-- Change a tensor's TIER or T1_MAP, which advances GEN (Table 5.2). -/
def retier (t : Tensor) (tier : Nat) (m : Word) : Tensor := { t with tier := tier, t1map := m, gen := (t.gen + 1) % 2 ^ 16 }

/-- A handle becomes free: TIER NONE, every other field 0, GEN kept and advanced. -/
def freeHandle (s : State) (h : Nat) : State :=
  s.setTensor h { Tensor.free 0 with gen := ((s.tensor h).gen + 1) % 2 ^ 16 }

/-- The 32 bytes of an entry. -/
def tensorBytes (t : Tensor) : List Byte :=
  leBytes 4 (t.tier + b2n t.grouped * 4 + b2n t.t2copy * 2 ^ 4 + b2n t.pinned * 2 ^ 5 + b2n t.quire * 2 ^ 6 +
    b2n t.damaged * 2 ^ 7 + t.owner * 2 ^ 8 + t.cls * 2 ^ 16) ++ leBytes 4 t.size ++ leBytes 8 t.t1map.toNat ++
  leBytes 8 (t.region + t.t2off / 4096 * 4096) ++ leBytes 4 t.t2size ++ leBytes 2 t.gen ++ leBytes 2 0

/-- The GROUPED tensor of galley entry `i` (R343). -/
def kvHandle (i : Nat) : Nat := 0x18000 + i

/-- Why an access to tensor space is refused (R119). -/
inductive TensorRefusal where
  | handle | bounds | tier | hedgerow
  deriving DecidableEq, Repr

/-- The check of an access of `n` bytes at a 48-bit tensor-space address, with a partition identity or none: the tensor's map
and the offset. -/
def tensorAccess (s : State) (part : Option Nat) (addr n : Nat) : Except TensorRefusal (Word × Nat) :=
  let h := addr / 2 ^ 31 % 2 ^ 17
  let off := addr % 2 ^ 31
  let t := s.tensor h
  if h = 0 ∨ t.tier = 0 then .error .handle
  else if part.any fun p => decide (t.owner ≠ p) then .error .hedgerow
  else if t.tier ≠ 1 ∨ t.grouped then .error .tier
  else if t.size < off + n then .error .bounds
  else .ok (t.t1map, off)

/-! ### What occupies T1 -/

/-- A range of CLAs on one channel. -/
structure Span where
  die : Nat
  chan : Nat
  lo : Nat
  hi : Nat
  deriving DecidableEq, Repr

def Span.meets (a b : Span) : Bool := decide (a.die = b.die ∧ a.chan = b.chan ∧ a.lo < b.hi ∧ b.lo < a.hi)

/-- Slots of 32 KiB a range touches. -/
def Span.slots (a : Span) : Nat := if a.lo < a.hi then (a.hi + 0x7FFF) / 0x8000 - a.lo / 0x8000 else 0

/-- The ranges of an EXTENT tensor, in whole sectors. -/
def extentSpans (m : Word) (size : Nat) : List Span :=
  ((mapChans m).zipIdx).map fun (c, j) => ⟨mapDie m, c, mapBase m, mapBase m + (extentOn m size j + 63) / 64 * 64⟩

/-- The range of a page group of `layers` slots. -/
def groupSpan (g layers : Nat) : Span :=
  let lo := grpPair g * 0x1800000 + grpSlot g * 0x8000
  ⟨grpDie g, grpChan g, lo, lo + layers * 0x8000⟩

def SlotRun.span (r : SlotRun) : Span :=
  let lo := r.pair * 0x1800000 + r.slot * 0x8000
  ⟨r.die, r.chan, lo, lo + r.count * 0x8000⟩

/-- The slots a range covers, cut at bank pairs. -/
def Span.runs (a : Span) : List SlotRun :=
  if a.hi ≤ a.lo then []
  else
    let first := a.lo / 0x8000
    let last := (a.hi + 0x7FFF) / 0x8000
    ((List.range (last / 768 + 1)).filterMap fun p =>
      let lo := max first (p * 768)
      let hi := min last ((p + 1) * 768)
      if lo < hi then some ⟨a.die, a.chan, p, lo - p * 768, hi - lo⟩ else none)

/-- Every group number of a directory whose entry is valid, with its head and entry, private groups first asked for. -/
def Directory.groups (d : Directory) : List (Nat × Nat × Nat) :=
  (d.heads.zipIdx).flatMap fun (h, i) => (h.list.filter fun e => grpValid e.2).map fun e => (i, e.1, e.2)

/-- Private groups: valid and not SHARED. -/
def Directory.privateGroups (d : Directory) : List (Nat × Nat × Nat) := d.groups.filter fun g => !grpShared g.2.2

end Sys2Proof.Machine
end

