-- ==== Sys2Proof/Machine/Rings.lean ====
section
/-!
DEFINITION. Host memory regions and rings as the device uses them: DMA through a region (R440), completions (R354, R443), the
shadow block (R446), held transfers (R437, R439).
-/
namespace Sys2Proof.Machine

/-! ### Regions (R440) -/

def Region.none (_ : Nat) : Region := ⟨0, 0, 0, false, 0, false, false, false, false⟩

def State.region (s : State) (r : Nat) : Region := Map.get Region.none s.regions r

/-- A DMA of `n` bytes at `off` of a region passes its checks: VALID, wholly inside, on the port, for the partition or DEVICE. -/
def regionOk (s : State) (r off n : Nat) (port : Option Nat) (part : Nat) (device : Bool) : Bool :=
  let g := s.region r
  g.valid && decide (off + n ≤ 4096 * g.pages) && (match port with | some p => decide (g.port = p) | .none => true) &&
    (if g.devOwned then device else decide (g.part = part))

/-- Host DMA through a port is stopped (R437). -/
def portStopped (s : State) (port : Nat) : Bool := getBit s (Reg.hubMigStatus port) 16

/-- Put out a host transfer, or hold it while its port is down or its function is in D3hot. -/
def hostOut (s : State) (port fn : Nat) (e : Emit) : State :=
  if portStopped s port || inD3 s fn then { s with heldOut := s.heldOut ++ [(port, fn, e)] } else emit s e

/-- Put out the transfers that no longer wait. -/
def releaseHeld (s : State) : State :=
  let go := fun (x : Nat × Nat × Emit) => !(portStopped s x.1 || inD3 s x.2.1)
  { s with heldOut := s.heldOut.filter fun x => !go x, out := s.out ++ (s.heldOut.filter go).map fun x => x.2.2 }

/-- The function whose requester ID a region's DMA carries. -/
def regionFn (g : Region) : Nat := if g.ridVf && !g.devOwned then g.part + 1 else 0

/-- Write bytes into a region. -/
def regionWrite (s : State) (r off : Nat) (bs : List Byte) : State :=
  let g := s.region r
  hostOut s g.port (regionFn g) (.hostWrite g.port (regionFn g) (g.base + off) bs)

/-- Read from a region; what returns arrives with a later command. -/
def regionRead (s : State) (r off n : Nat) : State :=
  let g := s.region r
  hostOut s g.port (regionFn g) (.hostRead g.port (regionFn g) (g.base + off) n)

/-! ### Queue sets (R445, R456, R459) -/

/-- Registers of a queue set. -/
def ringCtrl (n : Nat) (drv : Bool) : Nat := if drv then Reg.partDringCtrl n else Reg.qRingCtrl n
def ringStatus (n : Nat) (drv : Bool) : Nat := if drv then Reg.partDringStatus n else Reg.qRingStatus n
def ringSqBase (n : Nat) (drv : Bool) : Nat := if drv then Reg.partDsqBase n else Reg.qSqBase n
def ringCqBase (n : Nat) (drv : Bool) : Nat := if drv then Reg.partDcqBase n else Reg.qCqBase n
def ringShadow (n : Nat) (drv : Bool) : Nat := if drv then Reg.partDshadowBase n else Reg.qShadowBase n

def RingState.fresh (_ : Nat) : RingState := ⟨0, 0, 0, 0, .none, 0, 0⟩

def State.ring (s : State) (n : Nat) (drv : Bool) : RingState := Map.get RingState.fresh s.rings (2 * n + b2n drv)

def State.setRing (s : State) (n : Nat) (drv : Bool) (x : RingState) : State :=
  { s with rings := Map.set RingState.fresh s.rings (2 * n + b2n drv) x }

def sqSize (s : State) (n : Nat) (drv : Bool) : Nat := 2 ^ getFld s (ringCtrl n drv) 8 5
def cqSize (s : State) (n : Nat) (drv : Bool) : Nat := 2 ^ getFld s (ringCtrl n drv) 16 5
def outSize (s : State) (n : Nat) : Nat := 2 ^ getFld s (Reg.qRingCtrl n) 24 4

def sqHead (s : State) (n : Nat) (drv : Bool) : Nat := getFld s (ringStatus n drv) 0 16
def cqTail (s : State) (n : Nat) (drv : Bool) : Nat := getFld s (ringStatus n drv) 16 16
def outTail (s : State) (n : Nat) : Nat := getFld s (Reg.qRingStatus n) 32 12
/-- RUNNING: the submission ring is fetched. -/
def ringRuns (s : State) (n : Nat) (drv : Bool) : Bool := getBit s (ringStatus n drv) 44

/-- ENABLE: the completion and output rings run; a fetch fault stops the submission ring alone (R447). -/
def ringOn (s : State) (n : Nat) (drv : Bool) : Bool := getBit s (ringCtrl n drv) 0

/-- Outstanding entries of a ring of `size`. -/
def outstanding (head tail size : Nat) : Nat := (tail + size - head % size) % size

/-- Region and offset that a base register names. -/
def baseRegion (w : Word) : Nat := fld w 0 10
def baseOffset (w : Word) : Nat := fld w 12 52 * 4096

/-- Write the shadow block of a queue set (R446). -/
def writeShadow (s : State) (n : Nat) (drv : Bool) (held : Nat) : State :=
  let b := getReg s (ringShadow n drv)
  let x := s.ring n drv
  let bs := if drv then leBytes 4 0 ++ leBytes 4 (cqTail s n drv) ++ leBytes 56 0
    else leBytes 4 (sqHead s n drv) ++ leBytes 4 (cqTail s n drv) ++ leBytes 4 (outTail s n) ++ leBytes 4 held ++
      leBytes 8 x.lastStep.toNat ++ leBytes 40 0
  regionWrite s (baseRegion b) (baseOffset b) bs

/-- Records of a partition that are held (R448). -/
def heldRecords (s : State) (n : Nat) : Nat := getFld s (Reg.partState n) 32 16

/-! ### Completions (R354, R443, R449) -/

/-- Fields of a command (Table 11.5). -/
def Cmd.opcode (c : Cmd) : Nat := leAt c.bytes 0 1
def Cmd.id (c : Cmd) : Nat := leAt c.bytes 4 4
def Cmd.tag (c : Cmd) : Nat := leAt c.bytes 8 4
def Cmd.reqWord (c : Cmd) : Nat := leAt c.bytes 12 2
def Cmd.req (c : Cmd) : Nat := c.reqWord % 2 ^ 15
def Cmd.valid (c : Cmd) : Bool := decide (2 ^ 15 ≤ c.reqWord)

/-- A completion entry. -/
def completionBytes (c : Cmd) (req code value : Nat) : List Byte :=
  leBytes 4 c.id ++ leBytes 4 c.tag ++ leBytes 2 req ++ leBytes 2 code ++ leBytes 4 value

/-- VF vector 0 after a completion: at once with no delay set, else when the delay of the first unsignalled one is over. -/
def signalCompletion (s : State) (n : Nat) : State :=
  let cfg := getReg s (Reg.qIntCfg n)
  let x := s.ring n false
  if fld cfg 0 16 = 0 then (if bit cfg 24 then sendVector s (n + 1) 0 else s)
  else match x.unsignalled with
    | some _ => s
    | .none => s.setRing n false { x with unsignalled := some s.clock.now }

/-- Write a completion entry: the entry, then CQ_TAIL in the shadow block, then the interrupt (R443). -/
def putCompletion (s : State) (n : Nat) (drv : Bool) (bs : List Byte) : State :=
  let t := cqTail s n drv
  let b := getReg s (ringCqBase n drv)
  let s1 := regionWrite s (baseRegion b) (baseOffset b + 16 * t) bs
  let s2 := putFld s1 (ringStatus n drv) 16 16 ((t + 1) % cqSize s1 n drv)
  let s3 := writeShadow s2 n drv (heldRecords s2 n)
  if drv then s3 else signalCompletion s3 n

/-- The record of a command that arrives or is done: kind 5 or 6 (R510, Table 15.5). -/
def traceCmd (s : State) (c : Cmd) (kind aux : Nat) : State :=
  traceBoth s { TraceRec.blank 0 with
    kind := kind, opcode := c.opcode, part := c.part, req := if c.valid then c.reqWord else 0, index := c.id, aux := aux }

/-- Write the completion of a command; codes 0x01 to 0x0C count as refused (R380, Table of the galley causes). -/
def completeAs (s : State) (c : Cmd) (req code value : Nat) : State :=
  let s0 := if 1 ≤ code ∧ code ≤ 0x0C then setCause (count s Reg.galCmdRefused 1) Reg.galBlk 18 else s
  if c.quiet then s0
  else
    let x := s0.ring c.part c.driver
    traceCmd (putCompletion (s0.setRing c.part c.driver { x with fetched := x.fetched - 1 }) c.part c.driver
      (completionBytes c req code value)) c 6 code

/-- The completion of a command under the REQ it carried. -/
def complete (s : State) (c : Cmd) (code value : Nat) : State := completeAs s c c.reqWord code value

end Sys2Proof.Machine
end

