-- ==== Sys2Proof/Machine/Requests.lean ====
section
/-!
DEFINITION. Galley entries (chapter 11): the image of an entry, the pools of T1 (R154), the placement of page groups (R281),
the prefix tree (R367 to R371), raising and acting on ends, and what record entries report.
-/
namespace Sys2Proof.Machine

/-! ### Entries -/

def Directory.none : Directory := ⟨0, 0, 0, 0, []⟩

/-- An entry in state FREE that was never used. -/
def Entry.fresh (_ : Nat) : Entry where
  state := 0
  phase := 0
  cls := 0
  logprob := false
  noShare := false
  priority := 0
  twin := 0
  partition := 0
  promptFinal := false
  turnPending := false
  endPending := false
  pausePending := false
  resumePending := false
  skips := 0
  code := 0
  gen := 0
  tag := 0
  lastToken := 0
  proofLen := 0
  deadline := 0
  length := 0
  promptLen := 0
  maxLen := 0
  sharedLen := 0
  headRoot := 0
  prefixNode := 0xFFFFFF
  toklogAt := 0
  lastStamp := 0
  ttlAt := 0
  seed := 0
  temp := 0
  topP := 0
  topK := 0
  admitStamp := 0
  skipped := 0
  run := 0
  toklog := []
  dir := Directory.none
  ends := []
  turn := Option.none
  turnDone := false
  fitTried := false
  noSlotSince := Option.none
  reportedAt := Option.none
  offersStop := false
  setAside := 0
  recFlags := 0
  synced := false
  suspectSince := Option.none
  parked := []
  ran := false

def State.entry (s : State) (i : Nat) : Entry := Map.get Entry.fresh s.entries i

def State.setEntry (s : State) (i : Nat) (e : Entry) : State := { s with entries := Map.set Entry.fresh s.entries i e }

/-- Skip reasons (Table 11.3). -/
def skMoving : Nat := 1
def skTurn : Nat := 2
def skSuspect : Nat := 3
def skNoSlot : Nat := 4
def skRefetch : Nat := 5
def skRestore : Nat := 6
def skNoImposition : Nat := 7
def skFetch : Nat := 8
def skFit : Nat := 9

def Entry.skip (e : Entry) (r : Nat) (on : Bool) : Entry :=
  { e with skips := if on then e.skips ||| 2 ^ r else (e.skips ||| 2 ^ r) - 2 ^ r }

def Entry.hasSkip (e : Entry) (r : Nat) : Bool := e.skips.testBit r

def State.skipEntry (s : State) (i r : Nat) (on : Bool) : State := s.setEntry i ((s.entry i).skip r on)

/-- The SKIP field: the lowest reason that holds, of a READY or PREFILL request (R346). -/
def Entry.skipField (e : Entry) : Nat :=
  if e.state = 2 ∨ e.state = 3 then ((List.range 10).find? fun r => 0 < r ∧ e.skips.testBit r).getD 0 else 0

/-- The first 0x68 bytes of an entry (Table 11.1), as a twin receives them. -/
def entryImage (i : Nat) (e : Entry) : List Byte :=
  leBytes 8 (e.state + e.phase * 2 ^ 4 + e.cls * 2 ^ 5 + b2n e.logprob * 2 ^ 6 + b2n e.noShare * 2 ^ 7 +
    e.priority * 2 ^ 8 + e.twin * 2 ^ 12 + e.partition * 2 ^ 14 + b2n e.promptFinal * 2 ^ 20 + b2n e.turnPending * 2 ^ 21 +
    b2n e.endPending * 2 ^ 22 + b2n e.pausePending * 2 ^ 23 + b2n e.resumePending * 2 ^ 24 + e.skipField * 2 ^ 25 +
    e.code * 2 ^ 32 + e.gen * 2 ^ 40) ++
  leBytes 4 e.tag ++ leBytes 4 (e.lastToken + e.proofLen * 2 ^ 20) ++ leBytes 8 e.deadline.toNat ++
  leBytes 4 e.length ++ leBytes 4 e.promptLen ++ leBytes 4 e.maxLen ++ leBytes 4 e.sharedLen ++ leBytes 8 e.headRoot ++
  leBytes 8 e.prefixNode ++ leBytes 8 e.toklogAt ++ leBytes 8 e.lastStamp ++ leBytes 8 e.ttlAt ++ leBytes 8 e.seed.toNat ++
  leBytes 4 e.temp ++ leBytes 4 e.topP ++ leBytes 4 e.topK ++ leBytes 4 (if e.state = 0 then 0 else kvHandle i)

/-- The 128 bytes of an entry. -/
def entryBytes (i : Nat) (e : Entry) : List Byte :=
  entryImage i e ++ leBytes 8 e.admitStamp ++ leBytes 4 e.skipped ++ leBytes 4 e.run ++ leBytes 8 0

/-- Live entries of a partition (not FREE). -/
def liveOf (s : State) (n : Nat) : Nat := (s.entries.filter fun e => e.2.state ≠ 0 ∧ e.2.partition = n).length

def liveAll (s : State) : Nat := (s.entries.filter fun e => e.2.state ≠ 0).length

/-- Indices of the entries that pass a test, in rising order. -/
def entriesWhere (s : State) (p : Entry → Bool) : List Nat := Map.keysWhere (fun _ e => p e) s.entries

/-- The lowest FREE index. -/
def freeIndex (s : State) : Option Nat :=
  let free := fun (i : Nat) => decide (i < 32768) && decide ((s.entry i).state = 0)
  let near : List Nat := 0 :: s.entries.flatMap fun (e : Nat × Entry) => [e.1, e.1 + 1]
  (near.filter free).min?

/-! ### Impositions -/

def ImpoRecord.none : ImpoRecord := ⟨0, 0, 0, 0, 0, 0, 0, 0, 0, 0, 0, 0, [], [], []⟩

def ImpoSlot.empty (_ : Nat) : ImpoSlot := ⟨0, 0, 0, 0, 0, 0, 0, 0, 0, 0, 0, ImpoRecord.none, [], [], []⟩

def State.impo (s : State) (k : Nat) : ImpoSlot := Map.get ImpoSlot.empty s.impos k

def State.setImpo (s : State) (k : Nat) (x : ImpoSlot) : State := { s with impos := Map.set ImpoSlot.empty s.impos k x }

/-- The active imposition slot of a partition: kind 0 decode, 1 prefill. -/
def activeSlot (s : State) (n kind : Nat) : Option Nat :=
  (Map.keysWhere (fun _ x => decide (x.state = 3 ∧ x.kind = kind ∧ x.partition = n)) s.impos).head?

/-- The record that gives the prefill layout: that of the prefill imposition, or of the decode imposition (R302, R303). -/
def prefillRecord (s : State) (n : Nat) : ImpoRecord :=
  match activeSlot s n 1 with
  | some k => (s.impo k).record
  | Option.none => match activeSlot s n 0 with
    | some k => (s.impo k).record
    | Option.none => ImpoRecord.none

def decodeRecord (s : State) (n : Nat) : ImpoRecord :=
  match activeSlot s n 0 with
  | some k => (s.impo k).record
  | Option.none => ImpoRecord.none

/-- An empty directory in a layout (Tables 9.3 and 9.4). -/
def ImpoRecord.directory (r : ImpoRecord) : Directory :=
  ⟨r.layers, r.format, r.dim, r.swathLen, r.heads.map fun h => ⟨h.first, h.cap, h.dieMask, []⟩⟩

/-- A directory takes the SWATH_LEN and the DIE_MASKs of a layout. -/
def Directory.inLayout (d : Directory) (r : ImpoRecord) : Directory := { d with
  swathLen := r.swathLen
  heads := (d.heads.zipIdx).map fun (hl, h) => { hl with dieMask := (r.heads.getD h ⟨0, 0, 0, 0, 0⟩).dieMask } }

/-! ### The pools of T1 (R154) -/

def memChannels : List (Nat × Nat) := (List.range 8).flatMap fun d => (List.range 16).map fun c => (d, c)

/-- DEV_MEM_CAP0.T1_SLOTS. -/
def t1Slots (s : State) : Nat :=
  (memChannels.map fun (d, c) =>
    if channelUp s d c then 49152 - 768 * ((List.range 64).filter fun k => !pairUp s d c k).length else 0).foldl (· + ·) 0

def spansSlots (l : List Span) : Nat := (l.map Span.slots).foldl (· + ·) 0

/-- Slots of an EXTENT tensor. -/
def Tensor.slots (t : Tensor) : Nat := if (t.tier = 1 ∨ t.tier = 3) ∧ ¬ t.grouped then spansSlots (extentSpans t.t1map t.size) else 0

/-- WEIGHT slots, of one partition or of all. -/
def weightSlots (s : State) (part : Option Nat) : Nat :=
  ((s.tensors.filter fun t => t.2.cls = 0 ∧ (part.all fun n => t.2.owner = n)).map fun t => t.2.slots).foldl (· + ·) 0

/-- Slots a directory's private groups hold. -/
def Directory.held (d : Directory) : Nat := d.privateGroups.length * d.layers

def Entry.pageSlots (e : Entry) : Nat := e.dir.held + (match e.turn with | some (_, d) => d.held | Option.none => 0)

/-- RESERVED_HELD: what RESERVED requests set aside or hold, and the slots of hot mirrors (R155, R475). -/
def reservedHeld (s : State) (part : Option Nat) : Nat :=
  ((s.entries.filter fun e => e.2.state ≠ 0 ∧ e.2.cls = 0 ∧ (part.all fun n => e.2.partition = n)).map fun e =>
    max e.2.setAside e.2.pageSlots).foldl (· + ·) 0 +
  ((s.mirrors.filter fun m => m.2.hot ∧ (part.all fun n => m.2.part = n)).map fun m => m.2.dir.held).foldl (· + ·) 0

def PrefixTree.fresh (_ : Nat) : PrefixTree := ⟨0, false, 16, 0, 0, 0, false, [], []⟩

def State.tree (s : State) (n : Nat) : PrefixTree := Map.get PrefixTree.fresh s.trees n

def State.setTree (s : State) (n : Nat) (t : PrefixTree) : State := { s with trees := Map.set PrefixTree.fresh s.trees n t }

/-- SHARED_USED: groups of SHARED requests, and of prefix nodes that requests hold. -/
def sharedUsed (s : State) (part : Option Nat) : Nat :=
  ((s.entries.filter fun e => e.2.state ≠ 0 ∧ e.2.cls = 1 ∧ (part.all fun n => e.2.partition = n)).map fun e =>
    e.2.pageSlots).foldl (· + ·) 0 +
  ((s.trees.filter fun t => part.all fun n => t.1 = n).map fun t =>
    ((t.2.nodes.filter fun x => 0 < x.2.refs).map fun x => (x.2.groups.filter grpValid).length * t.2.layers).foldl (· + ·) 0).foldl (· + ·) 0

/-- Slots that prefix nodes without references hold: they count as free under R156 (R371). -/
def reclaimable (s : State) : Nat :=
  (s.trees.map fun t =>
    ((t.2.nodes.filter fun x => x.2.refs = 0).map fun x => (x.2.groups.filter grpValid).length * t.2.layers).foldl (· + ·) 0).foldl (· + ·) 0

/-- The SYSTEM pool's set-aside. -/
def systemSlots (s : State) : Nat := getFld s Reg.devMemCfg 56 8 * 32768

/-- Parity slots of the quire regions (R153). -/
def quireSlots (s : State) : Nat := ((List.range 8).map fun d => getFld s (Reg.mdQuireCfg d) 6 7 * 768).foldl (· + ·) 0

def SlotRun.slots (r : SlotRun) : Nat := r.count

/-- What a change that waits will occupy. -/
def Deferred.spans (s : State) : Deferred → List Span
  | .switchExtent h m _ => extentSpans m (s.tensor h).size
  | .switchGroups i gs _ => gs.map fun g => groupSpan g.2.2 (s.entry i).dir.layers
  | .switchNode n _ gs => gs.map fun g => groupSpan g.2 (s.tree n).layers
  | .switchMirror k gs => gs.map fun g => groupSpan g.2.2 (((s.mirrors.find? fun m => m.1 = k).map fun m => m.2.dir.layers).getD 0)
  | _ => []

/-- Slots that moves and copies have placed and no directory lists yet. -/
def movingSlots (s : State) : Nat :=
  (s.moves.map fun m => m.groups.length * (s.entry (m.handle - 0x18000)).dir.layers).foldl (· + ·) 0 +
    spansSlots (s.deferred.flatMap (Deferred.spans s))

/-- DEV_MEM_CAP0.FREE_SLOTS: slots in no pool. -/
def freeSlots (s : State) : Nat :=
  t1Slots s - (weightSlots s none + reservedHeld s none + sharedUsed s none + systemSlots s + quireSlots s + movingSlots s +
    (s.wiping.map fun w => w.2.count).foldl (· + ·) 0)

/-- The SHARED pool (R154) and the low-water mark (R156). -/
def sharedPool (s : State) : Nat := t1Slots s - (weightSlots s none + reservedHeld s none + systemSlots s + quireSlots s)
def lowWater (s : State) : Nat := sharedPool s * getFld s Reg.devMemCfg 40 8 / 1000

/-- Bytes of the SYSTEM pool that a request's structures take: token log, directory, head lists. -/
def requestSystemBytes (maxLen : Nat) (d : Directory) : Nat :=
  4 * (maxLen + 64) + 16 + 16 * d.heads.length + (d.heads.map fun h => 4 * h.cap).foldl (· + ·) 0

def nodeSize (heads : Nat) : Nat := 64 * ((320 + 4 * heads + 63) / 64)

/-- SYSTEM bytes in use, of one partition or of all. -/
def systemUsed (s : State) (part : Option Nat) : Nat :=
  let mine := fun (n : Nat) => part.all fun p => n = p
  ((s.entries.filter fun e => e.2.state ≠ 0 ∧ e.2.state ≠ 8 ∧ mine e.2.partition).map fun e =>
    requestSystemBytes e.2.maxLen e.2.dir).foldl (· + ·) 0 +
  ((s.impos.filter fun x => x.2.state ≠ 0 ∧ mine x.2.partition).map fun x => x.2.bytes).foldl (· + ·) 0 +
  ((s.trees.filter fun t => t.2.allocated ∧ mine t.1).map fun t =>
    t.2.cap * nodeSize (decodeRecord s t.1).heads.length + 4 * 2 ^ t.2.bucketsLog2).foldl (· + ·) 0 +
  ((s.tensors.filter fun t => t.2.cls = 3 ∧ mine t.2.owner).map fun t => t.2.slots * 32768).foldl (· + ·) 0

/-- An allocation of `n` bytes fits the SYSTEM pool. -/
def systemFits (s : State) (n : Nat) : Bool := decide (systemUsed s none + n ≤ systemSlots s * 32768)

/-! ### What occupies T1, and the placement of groups (R281) -/

def allSpans (s : State) : List Span :=
  (s.tensors.flatMap fun t => if (t.2.tier = 1 ∨ t.2.tier = 3) ∧ ¬ t.2.grouped then extentSpans t.2.t1map t.2.size else []) ++
  (s.moves.flatMap fun m => extentSpans m.t1map (s.tensor m.handle).size ++
    m.groups.map fun g => groupSpan g.2.2 (s.entry (m.handle - 0x18000)).dir.layers) ++
  (s.entries.flatMap fun e => (e.2.dir.privateGroups.map fun g => groupSpan g.2.2 e.2.dir.layers) ++
    (match e.2.turn with
      | some (_, d) => d.privateGroups.map fun g => groupSpan g.2.2 d.layers
      | Option.none => [])) ++
  (s.mirrors.flatMap fun m => if m.2.hot then m.2.dir.privateGroups.map fun g => groupSpan g.2.2 m.2.dir.layers else []) ++
  (s.trees.flatMap fun t => t.2.nodes.flatMap fun x => (x.2.groups.filter grpValid).map fun g => groupSpan g t.2.layers) ++
  s.wiping.map (fun w => w.2.span) ++ s.deferred.flatMap (Deferred.spans s)

/-- Slot intervals of a bank pair that are taken. -/
def pairTaken (occ : List Span) (d c k : Nat) : List (Nat × Nat) :=
  occ.filterMap fun a =>
    let lo := max (a.lo / 0x8000) (768 * k)
    let hi := min ((a.hi + 0x7FFF) / 0x8000) (768 * (k + 1))
    if a.die = d ∧ a.chan = c ∧ lo < hi then some (lo - 768 * k, hi - 768 * k) else none

/-- The quire of a slot of a bank pair, inside the quire region (R150). -/
def quireAt (s : State) (d k slot : Nat) : Option Nat :=
  let q := getReg s (Reg.mdQuireCfg d)
  let base := fld q 0 6
  if base ≤ k ∧ k < base + fld q 6 7 then some ((k - base) * 768 + slot) else none

/-- The channel of a quire's parity page: number mod 16, or where it has moved (R150, R152). -/
def parityChan (s : State) (d q : Nat) : Nat :=
  let m := Map.get (fun _ => 0) s.parityMoved (49152 * d + q)
  if m = 0 then q % 16 else m - 1

/-- A slot of the quire region that holds parity on the channel. -/
def parityAt (s : State) (d c k slot : Nat) : Bool := (quireAt s d k slot).any fun q => decide (parityChan s d q = c)

/-- `n` slots from `at_` of a pair are free. -/
def runFree (s : State) (taken : List (Nat × Nat)) (d c k n at_ : Nat) : Bool :=
  decide (at_ + n ≤ 768) && (taken.all fun t => decide (t.2 ≤ at_ ∨ at_ + n ≤ t.1)) &&
    (List.range n).all fun i => !parityAt s d c k (at_ + i)

/-- The lowest free run of `n` slots on a pair. -/
def lowestRun (s : State) (taken : List (Nat × Nat)) (d c k n : Nat) : Option Nat :=
  (List.range 768).find? (runFree s taken d c k n)

/-- A pair that takes new groups: in service, its channel neither fallow nor being mapped out, and inside or outside the quire
region as asked. -/
def pairOpen (s : State) (quire : Bool) (d c k : Nat) : Bool :=
  let q := getReg s (Reg.mdQuireCfg d)
  let inQ := decide (fld q 0 6 ≤ k ∧ k < fld q 0 6 + fld q 6 7)
  pairUp s d c k && !(s.mapouts.any fun m => m.die = d ∧ m.chan = c ∧ (m.pair.all fun p => p = k)) && (inQ == quire) &&
    !(s.die d).lost && !(s.die d).fallow

/-- A channel that takes new swaths. -/
def chanOpen (s : State) (d c : Nat) : Bool :=
  channelUp s d c && !(s.mapouts.any fun m => m.die = d ∧ m.chan = c ∧ m.pair.isNone)

/-- The first channel at or above `c`, cyclically, that takes new swaths. -/
def chanFrom (s : State) (d c : Nat) : Option Nat := ((List.range 16).map fun i => (c + i) % 16).find? (chanOpen s d)

/-- The pair of a channel with the most free slots, the lowest of equals. -/
def bestPair (s : State) (occ : List Span) (quire : Bool) (d c : Nat) : Option Nat :=
  let free := fun k => 768 - ((pairTaken occ d c k).map fun t => t.2 - t.1).foldl (· + ·) 0
  ((List.range 64).filter (pairOpen s quire d c)).foldl (fun best k => match best with
    | Option.none => some k
    | some b => if free b < free k then some k else some b) Option.none

/-- The bank pair of a group, as one number. -/
def grpSite (g : Nat) : Nat := g / 2 ^ 10 % 2 ^ 13

/-- Entry `i` of a head list begins a near-bank swath: at a multiple of SWATH_LEN, or where R281 split a range (R278). -/
def swathStart (sl : Nat) (l : Map Nat) (i : Nat) : Bool :=
  let g := fun j => Map.get zeroAt l j
  decide (i % max 1 sl = 0) || !grpValid (g (i - 1)) || decide (grpSite (g (i - 1)) ≠ grpSite (g i))

/-- Near-bank swaths that the entries below `i` form. -/
def swathsBelow (sl i : Nat) (l : Map Nat) : Nat :=
  (l.filter fun x => x.1 < i ∧ grpValid x.2 ∧ swathStart sl l x.1).length

/-- A new swath of head `h` at entry `i`: die, channel, pair, slots (R281, item 2). -/
def placeSwath (s : State) (occ : List Span) (quire : Bool) (layers sl h i : Nat) (hl : HeadList) : Option Nat :=
  let dies := bitsOf 8 hl.dieMask
  let n := max 1 dies.length
  let k := swathsBelow sl i hl.list
  match dies[(k + h) % n]? with
  | Option.none => none
  | some d => match chanFrom s d ((k / n + h) % 16) with
    | Option.none => none
    | some c => match bestPair s occ quire d c with
      | Option.none => none
      | some p => (lowestRun s (pairTaken occ d c p) d c p layers).map fun sl => mkGroup d c p sl false

/-- The place of a new group (R281): on the swath's pair directly after the previous group, else in the lowest free run there,
else as a new swath. -/
def placeGroup (s : State) (occ : List Span) (quire : Bool) (layers sl h i : Nat) (hl : HeadList) : Option Nat :=
  let prev := Map.get zeroAt hl.list (i - 1)
  if i % max 1 sl = 0 ∨ ¬ grpValid prev then placeSwath s occ quire layers (max 1 sl) h i hl
  else
    let d := grpDie prev
    let c := grpChan prev
    let k := grpPair prev
    let taken := pairTaken occ d c k
    let here := if chanOpen s d c ∧ pairOpen s quire d c k then
        (if runFree s taken d c k layers (grpSlot prev + layers) then some (grpSlot prev + layers)
          else lowestRun s taken d c k layers)
      else Option.none
    match here with
    | some slot => some (mkGroup d c k slot false)
    | Option.none => placeSwath s occ quire layers (max 1 sl) h i hl

/-- Quire protection of a partition. -/
def quireOf (s : State) (n : Nat) : Bool := getBit s (Reg.partCfg n) 1

/-- Put a group into head `h` of a directory. -/
def Directory.put (d : Directory) (h i g : Nat) : Directory :=
  { d with heads := d.heads.modify h fun hl => { hl with list := Map.set zeroAt hl.list i g } }

def Directory.head (d : Directory) (h : Nat) : HeadList := d.heads.getD h ⟨0, 0, 0, []⟩

/-- Drop entry `i` of head `h`. -/
def Directory.drop (d : Directory) (h i : Nat) : Directory :=
  { d with heads := d.heads.modify h fun hl => { hl with list := Map.del hl.list i } }

/-- Place groups for (head, entry) pairs, one after the other; none when one finds no slots. `layout` gives SWATH_LEN and the
DIE_MASK of each head. -/
def placeAll (s : State) (quire : Bool) (layout : ImpoRecord) (occ : List Span) (d : Directory) :
    List (Nat × Nat) → Option Directory
  | [] => some d
  | (h, i) :: rest =>
    let hl := { d.head h with dieMask := (layout.heads.getD h ⟨0, 0, 0, 0, 0⟩).dieMask }
    match placeGroup s occ quire d.layers layout.swathLen h i hl with
    | Option.none => none
    | some g => placeAll s quire layout (groupSpan g d.layers :: occ) (d.put h i g) rest

/-! ### Poison of freed slots (R137) -/

/-- A sector, by device address / 64, lies in one of the ranges. -/
def inSpans (sp : List Span) (sec : Nat) : Bool :=
  let da := sec * 64
  sp.any fun a => decide (a.die = daDie da ∧ a.chan = daChan da ∧ a.lo ≤ daCla da ∧ daCla da < a.hi)

/-- Poisoned sectors of slots that return to the free pool are overwritten with zeros. -/
def scrubFreed (s : State) (sp : List Span) : State :=
  let bad := (s.poison.map (·.1)).filter (inSpans sp)
  { s with
    poison := Map.clearWhere (fun k => decide (k ∈ bad)) s.poison
    t1 := Map.clearWhere (fun a => decide (a / 64 ∈ bad)) s.t1 }

/-! ### The prefix tree (R367 to R371) -/

/-- No node. -/
def noNode : Nat := 0xFFFFFF

def PrefixNode.free (_ : Nat) : PrefixNode := ⟨0, 0, none, 0, 0, 0, false, false, 0, [], []⟩

def PrefixTree.node (t : PrefixTree) (k : Nat) : PrefixNode := Map.get PrefixNode.free t.nodes k

def PrefixTree.setNode (t : PrefixTree) (k : Nat) (x : PrefixNode) : PrefixTree :=
  { t with nodes := Map.set PrefixNode.free t.nodes k x }

/-- The node after a node of a chain leaves: the chain of a bucket without `k`. -/
def PrefixTree.unchain (t : PrefixTree) (k : Nat) : PrefixTree :=
  let nx := (t.node k).next
  let t1 := { t with
    nodes := t.nodes.map fun (x : Nat × PrefixNode) => (x.1, if x.2.next = some k then { x.2 with next := nx } else x.2) }
  { t1 with buckets := (t1.buckets.filterMap fun (b : Nat × Nat) => if b.2 = k then nx.map fun n => (b.1, n) else some b) }

/-- Free a node: it leaves its chain, its parent's CHILDREN decrements. -/
def PrefixTree.freeNode (t : PrefixTree) (k : Nat) : PrefixTree :=
  let x := t.node k
  let t1 := t.unchain k
  let t2 := if x.parent = noNode then t1 else
    let q := t1.node x.parent
    t1.setNode x.parent { q with children := q.children - 1 }
  t2.setNode k (PrefixNode.free 0)

/-- Free a node of a partition's tree; its slots return to the pool (R371). -/
def freeNodeAt (s : State) (n k : Nat) : State :=
  let t := s.tree n
  scrubFreed (s.setTree n (t.freeNode k)) (((t.node k).groups.filter grpValid).map fun g => groupSpan g t.layers)

/-- The free node number: the lowest below the pool's capacity. -/
def PrefixTree.room (t : PrefixTree) : Option Nat :=
  if t.nodes.length < t.cap then (List.range t.cap).find? fun k => t.node k = PrefixNode.free k else none

/-- The oldest node by LAST_USE with no reference and no child. -/
def PrefixTree.oldest (t : PrefixTree) : Option Nat :=
  (t.nodes.foldl (fun (best : Option (Nat × Nat)) x =>
    if x.2.valid ∧ x.2.refs = 0 ∧ x.2.children = 0 then match best with
      | some (_, u) => if x.2.lastUse < u then some (x.1, x.2.lastUse) else best
      | none => some (x.1, x.2.lastUse)
    else best) none).map (·.1)

/-- Reclaim the groups of the oldest unreferenced leaf of all trees (R371). -/
def reclaimOne (s : State) : Option State :=
  let cands := s.trees.filterMap fun t => t.2.oldest.map fun k => (t.1, k, (t.2.node k).lastUse)
  (cands.foldl (fun (best : Option (Nat × Nat × Nat)) c => match best with
    | some b => if c.2.2 < b.2.2 then some c else some b
    | none => some c) none).map fun c => freeNodeAt s c.1 c.2.1

/-- Place groups as `placeAll`, reclaiming unreferenced prefix nodes, the oldest first, while slots lack (R371). -/
def placeReclaim : Nat → State → Bool → ImpoRecord → List Span → Directory → List (Nat × Nat) → Option (Directory × State)
  | 0, _, _, _, _, _, _ => none
  | fuel + 1, s, quire, layout, more, d, pairs => match placeAll s quire layout (more ++ allSpans s) d pairs with
    | some d' => some (d', s)
    | none => match reclaimOne s with
      | some s' => placeReclaim fuel s' quire layout more d pairs
      | none => none

/-- Enough for every node of the pools. -/
def nodeFuel (s : State) : Nat := (s.trees.map fun t => t.2.nodes.length).foldl (· + ·) 1

/-- The nodes from `k` up to the root. -/
def PrefixTree.path (t : PrefixTree) : Nat → Nat → List Nat
  | 0, _ => []
  | fuel + 1, k => if k = noNode then [] else k :: t.path fuel (t.node k).parent

/-- An entry drops its references: REFS decrement, LAST_USE is set; with PREFIX_EN clear a node without references is freed
(R371, R379). -/
def dropRefs (s : State) (i : Nat) : State :=
  let e := s.entry i
  let n := e.partition
  let s1 := ((s.tree n).path 65536 e.prefixNode).foldl (fun (s : State) k =>
    let t := s.tree n
    let x := t.node k
    let s' := s.setTree n (t.setNode k { x with refs := x.refs - 1, lastUse := s.clock.now })
    if (!t.enabled || !x.valid) && decide (x.refs ≤ 1 ∧ x.children = 0) then freeNodeAt s' n k else s') s
  s1.setEntry i { e with prefixNode := noNode }

/-! ### Units that a step uses, idle -/

def QuerySet.none : QuerySet := ⟨true, 0, 0, 0, 0, 0, [], []⟩

def Nbu.fresh (_ : Nat) : Nbu :=
  ⟨QuerySet.none, QuerySet.none, [], [], 0, false, [], Option.none, Option.none, 0, 0, false, 0, false, false, Option.none, [], 0⟩

def nbuKey (d c k : Nat) : Nat := (16 * d + c) * 64 + k
def State.nbu (s : State) (d c k : Nat) : Nbu := Map.get Nbu.fresh s.nbus (nbuKey d c k)
def State.setNbu (s : State) (d c k : Nat) (x : Nbu) : State := { s with nbus := Map.set Nbu.fresh s.nbus (nbuKey d c k) x }

def Channel.fresh (_ : Nat) : Channel := ⟨[], [], [], Option.none⟩
def State.chan (s : State) (d c : Nat) : Channel := Map.get Channel.fresh s.chans (16 * d + c)
def State.setChan (s : State) (d c : Nat) (x : Channel) : State := { s with chans := Map.set Channel.fresh s.chans (16 * d + c) x }

def CoreState.fresh (_ : Nat) : CoreState := ⟨[], [], false⟩
/-- Physical core `p` of CDd. -/
def State.core (s : State) (d p : Nat) : CoreState := Map.get CoreState.fresh s.cores (34 * d + p)
def State.setCore (s : State) (d p : Nat) (x : CoreState) : State := { s with cores := Map.set CoreState.fresh s.cores (34 * d + p) x }

/-! ### Quire parity (R150, R151) -/

/-- A bank pair that can still be read: not fallow, not lost. -/
def pairReadable (s : State) (d c k : Nat) : Bool :=
  pairUp s d c k && !(s.mapouts.any fun m => m.lost && decide (m.die = d ∧ m.chan = c) && m.pair.all fun p => decide (p = k))

/-- Where the parity of a data slot of a quire lies; none outside the quire region, for a parity slot, and for a quire without
parity (R152). -/
def parityDa (s : State) (da : Nat) : Option Nat :=
  match quireAt s (daDie da) (daPair da) (daR da / 0x8000) with
  | none => none
  | some q =>
    let ch := parityChan s (daDie da) q
    if ch ≠ daChan da ∧ pairReadable s (daDie da) ch (daPair da) then some (mkDa (daDie da) ch (daCla da)) else none

/-- Write whole sectors of one page; in a quire the delta leaves for the parity channel (R151). -/
def dataWrite (s : State) (da : Nat) (bs : List Byte) : State :=
  match parityDa s da with
  | none => fullWrite s da bs
  | some pa =>
    let delta := List.zipWith (· ^^^ ·) (readT1 s da bs.length) bs
    let s1 := fullWrite s da bs
    let x := s1.chan (daDie pa) (daChan pa)
    s1.setChan (daDie pa) (daChan pa) { x with deltas := x.deltas ++ [(pa, delta)] }

/-! ### Ends and record entries -/

/-- Flags of a record entry (Table 11.9). -/
def rfEnded : Nat := 1
def rfVoid : Nat := 2
def rfTwinDropped : Nat := 7
def rfParked : Nat := 13
def rfSwapped : Nat := 14
def rfReturned : Nat := 15

/-- The next record entry of the request carries flag `b`. -/
def report (s : State) (i b : Nat) : State :=
  let e := s.entry i
  s.setEntry i { e with recFlags := e.recFlags ||| 2 ^ b }

/-- Raise an end cause: acted on at the boundary (R353). -/
def raiseEnd (s : State) (i code : Nat) : State :=
  let e := s.entry i
  if e.state = 0 ∨ e.state = 8 ∨ code ∈ e.ends then s else s.setEntry i { e with ends := e.ends ++ [code] }

/-- Request whose GROUPED tensor is `h`. -/
def requestOf (h : Nat) : Option Nat := if 0x18000 ≤ h ∧ h < 0x20000 then some (h - 0x18000) else none

/-- The moves of a tensor stop; their commands complete with `code`. -/
def dropMoves (s : State) (h code : Nat) : State :=
  let mine := s.moves.filter fun m => m.handle = h
  mine.foldl (fun s m => match m.cmd with
    | some c => complete s c code 0
    | Option.none => s) { s with moves := s.moves.filter fun m => m.handle ≠ h }

/-- The code of a step batch record's ends that R365 reports, and the free entry left (Table 11.2). An entry becomes ENDED with
a code: pages, T2 space, moves and prefix references go; it is reported at this boundary. -/
def endEntry (s : State) (i code : Nat) : State :=
  let s1 := dropMoves (dropRefs s i) (kvHandle i) 0x0D
  let s2 := freeHandle s1 (kvHandle i)
  let e := s2.entry i
  let s3 := s2.setEntry i { e with
    state := 8, code := code, ends := [], skips := 0, endPending := false, pausePending := false, resumePending := false
    turnPending := false, turn := none, turnDone := false, proofLen := 0, setAside := 0, dir := Directory.none, toklog := [], parked := []
    recFlags := e.recFlags ||| 2 ^ rfEnded, noSlotSince := none, twin := 0, synced := false }
  count s3 Reg.galEnds 1

/-- An ENDED entry becomes FREE; GEN stays. -/
def freeEntry (s : State) (i : Nat) : State := s.setEntry i { Entry.fresh 0 with gen := (s.entry i).gen }

/-- The slots that an entry's private pages hold, as runs. -/
def entryRuns (e : Entry) : List SlotRun :=
  (e.dir.privateGroups.flatMap fun g => (groupSpan g.2.2 e.dir.layers).runs) ++
    (match e.turn with
      | some (_, d) => d.privateGroups.flatMap fun g => (groupSpan g.2.2 d.layers).runs
      | Option.none => [])

/-- Slots that leave a partition are zeroed before they are free (R434). -/
def wipeRuns (s : State) (n : Nat) (rs : List SlotRun) : State := { s with wiping := s.wiping ++ rs.map fun r => (n, r) }

end Sys2Proof.Machine
end

