-- ==== Sys2Proof/Machine/TwinOps.lean ====
section
/-!
DEFINITION. What this device sends to its twin (R474 to R486): mirror messages, DECLARE, HANDOFF, and how twin-keeping of a
request ends.
-/
namespace Sys2Proof.Machine

/-- DEV_TWIN_STATUS shows the requests kept, the mirror entries and the homes (R491); a home with no mirror entry and nothing to adopt is
served no longer. -/
def refreshTwin (s : State) : State :=
  let s := { s with homes := s.homes.filter fun h => decide (h.adopt ≠ []) || s.mirrors.any fun m => decide (m.2.home = h.serial) }
  let kept := (s.entries.filter fun e => e.2.twin ≠ 0).length
  let s1 := putFld (putFld s Reg.devTwinStatus 16 16 kept) Reg.devTwinStatus 32 16 s.mirrors.length
  putFld s1 Reg.devTwinStatus 48 5 s.homes.length

/-- HOME_STATE: 0 NONE, 1 PAIRED, 2 LOST. -/
def homeState (s : State) : Nat := getFld s Reg.devTwinStatus 0 2

/-- Mirror traffic may be sent: the device is PAIRED and aligned (R88, R479). -/
def mirrors (s : State) : Bool := decide (homeState s = 1) && s.clock.aligned

/-- TARGET of a MIRROR message (R477). -/
def mirrorTarget (kind i gen step : Nat) : Word :=
  word (kind % 16 + i % 2 ^ 15 * 2 ^ 4 + gen % 2 ^ 16 * 2 ^ 19 + step % 2 ^ 16 * 2 ^ 35)

/-- Send a MIRROR message for entry `i` to the twin; the answer is its MSG_ID. DEV_MIRROR_KIB counts whole KiB begun. -/
def sendMirror (s : State) (kind i step : Nat) (content : List Byte) : Nat × State :=
  let e := s.entry i
  let r := sendMsg s (sliceOf s e.partition) 4 0x40 (Config.coordOf s.colophon.twinSerial) (kind ≠ 3 ∧ kind ≠ 7)
    (mirrorTarget kind i e.gen step) content
  (r.1, count r.2 Reg.devMirrorKib ((content.length + 16 + 1023) / 1024))

/-- A CHANGE follows a change outside a close (Table 14.4). -/
def twinChange (s : State) (i : Nat) : State :=
  if (s.entry i).twin ≠ 0 ∧ mirrors s then (sendMirror s 5 i 0 (entryImage i (s.entry i))).2 else s

/-- The command that asked for a twin completes: VALUE[17:16] of an ADMIT carries the TWIN granted (R476). -/
def openDone (s : State) (i : Nat) (c : Option Cmd) (granted : Nat) : State := match c with
  | none => s
  | some c => if c.opcode = 1 then completeAs s c (i + 2 ^ 15) 0 ((s.entry i).gen + granted * 2 ^ 16) else complete s c 0 0

/-- OPENs of entry `i` are answered without a twin. -/
def dropOpens (s : State) (i : Nat) : State :=
  let mine := s.home.opens.filter fun o => o.1 = i
  let s1 := { s with home := { s.home with
    opens := s.home.opens.filter fun o => o.1 ≠ i
    syncing := s.home.syncing.filter (· ≠ i) } }
  mine.foldl (fun s o => openDone s i o.2 0) s1

/-- An END for a request that the twin keeps. -/
def twinEnd (s : State) (i : Nat) : State :=
  let s1 := dropOpens s i
  if (s.entry i).twin ≠ 0 ∧ mirrors s then (sendMirror s1 6 i 0 []).2 else s1

/-- The first waiting record that holds an entry of the request takes flag `b` there. -/
def flagWaiting (b i : Nat) : List Record → List Record
  | [] => []
  | r :: rest =>
    if r.entries.any fun e => e.req = i then
      { r with entries := r.entries.map fun e => if e.req = i then { e with flags := e.flags ||| 2 ^ b } else e } :: rest
    else r :: flagWaiting b i rest

/-- Flag `b` in the request's next record entry: one that waits to be written, else the one to come (R26, R479). -/
def flagNext (s : State) (i b : Nat) : State :=
  if s.records.any fun r => r.entries.any fun e => e.req = i then { s with records := flagWaiting b i s.records } else report s i b

/-- A request is no longer twin-kept: TWIN 0, TWIN_DROPPED in its next record entry. -/
def dropTwin (s : State) (i : Nat) : State :=
  let s1 := dropOpens (flagNext (s.setEntry i { s.entry i with twin := 0, synced := false }) i rfTwinDropped) i
  { s1 with home := { s1.home with steps := s1.home.steps.map fun x => (x.1, x.2.filter (· ≠ i)) } }

/-- The twin withdraws a mirror entry: REFUSE to its home; the entry and its pages go (R475). -/
def refuseMirror (s : State) (key reason : Nat) : State := match s.mirrors.find? fun m => m.1 = key with
  | none => s
  | some (_, m) =>
    let s1 := (sendMsg s (sliceOf s m.part) 4 0x40 (Config.coordOf m.home) true (mirrorTarget 12 m.index m.gen 0) (leBytes 2 reason)).2
    refreshTwin (scrubFreed { s1 with mirrors := s1.mirrors.filter fun x => x.1 ≠ key }
      (if m.hot then m.dir.privateGroups.map fun g => groupSpan g.2.2 m.dir.layers else []))

/-- Requests with TWIN not 0. -/
def twinKept (s : State) : List Nat := entriesWhere s fun e => decide (e.twin ≠ 0)

/-- Ask the twin to keep entry `i`: OPEN; `c` completes after the answer (R476). -/
def twinOpen (s : State) (i : Nat) (c : Option Cmd) : State :=
  let (_, s1) := sendMirror s 1 i 0 (entryImage i (s.entry i))
  { s1 with home := { s1.home with opens := s1.home.opens ++ [(i, c)] } }

/-- The ports through which a DECLARE leaves (R481). -/
def usablePorts (s : State) : List Nat := (List.range 6).filter fun p => (s.port p).phase = .up

/-- DECLARE: scope 0 DEVICE or 1 PARTITION, out of every usable port under one MSG_ID; the covered requests report no further
token (R481). -/
def declare (s : State) (scope part reason : Nat) : State :=
  let cov := (twinKept s).filter fun i => (scope = 0 ∨ (s.entry i).partition = part) ∧ i ∉ s.home.declared
  if cov = [] ∨ ¬ mirrors s then s
  else
    let (id, s1) := newMsgId s 4
    let m : Msg := ⟨sliceOf s (if scope = 1 then part else (s.entry (cov.headD 0)).partition), myCoord s,
      Config.coordOf s.colophon.twinSerial, 4, 0x40, true, id, mirrorTarget 10 0 0 0,
      leBytes 1 scope ++ leBytes 1 part ++ leBytes 2 reason ++ leBytes 4 0⟩
    let s2 := (usablePorts s1).foldl (fun s p => sendThrough s p m) { s1 with sent := s1.sent ++ [⟨m, 0⟩] }
    let s3 := { s2 with home := { s2.home with declared := s2.home.declared ++ cov } }
    raiseEvent (count (putBit s3 Reg.devTwinStatus 2 true) Reg.devDeclares 1) 0x05A (if scope = 1 then part else noPart) noBlock 2
      (word (scope + part * 256)) (word reason)

/-- Hand one request over (R485): it leaves every pick and waits for the acknowledgement. -/
def handoff (s : State) (i : Nat) : State :=
  if i ∈ s.home.handed ∨ i ∈ s.home.declared then s
  else
    let (_, s1) := sendMirror s 11 i 0 []
    { s1 with home := { s1.home with handed := s1.home.handed ++ [i] } }

/-- The twin is lost: nothing more is sent to it (R479). -/
def twinLost (s : State) : State :=
  let s1 := (twinKept s).foldl dropTwin s
  let s2 := putFld { s1 with
    home := { s1.home with steps := [], handed := [] }
    sent := s1.sent.filter fun x => x.msg.cls ≠ 4 ∨ x.msg.src ≠ myCoord s1 ∨ fld x.msg.target 0 4 = 10 ∨
      fld x.msg.target 0 4 = 12 } Reg.devTwinStatus 0 2 2
  refreshTwin (raiseEvent (setCause (count s2 Reg.devMirrorTimeouts 1) Reg.devBlk 26) 0x058 noPart noBlock 2 s.colophon.twinSerial 0)

end Sys2Proof.Machine
end

