-- ==== Sys2Proof/Machine/GroupOps.lean ====
section
/-!
DEFINITION. Serving groups (R30, R327, R359, R464): what a device sends to the lead or to the members. The manual lays out the
content of none of these messages.
-/
namespace Sys2Proof.Machine

def GroupState.fresh (_ : Nat) : GroupState := ⟨[], false, false, false, false, 0, false, none⟩

def State.group (s : State) (k : Nat) : GroupState := Map.get GroupState.fresh s.groups k

def State.setGroup (s : State) (k : Nat) (g : GroupState) : State := { s with groups := Map.set GroupState.fresh s.groups k g }

/-- The imposition of a slot spans several devices. -/
def isGroup (s : State) (k : Nat) : Bool := decide (1 < (s.impo k).record.groupSize)

/-- This device leads the group of a slot. -/
def isLead (s : State) (k : Nat) : Bool := decide ((s.impo k).member = (s.impo k).record.lead)

/-- Members other than this device. -/
def otherMembers (s : State) (k : Nat) : List Nat :=
  (List.range (s.impo k).record.groupSize).filter (· ≠ (s.impo k).member)

/-- Coordinates of a member (R301). -/
def memberCoord (s : State) (k m : Nat) : Nat := (((s.impo k).record.members.map (·.2)).getD m 0) % 2 ^ 14

/-- Send a class 1 message to a member; its content is a free value where the manual lays none out. -/
def sendMember (s : State) (k m op : Nat) (target : Word) (content : List Byte) : State :=
  (sendMsg s (sliceOf s (s.impo k).partition) 1 op (memberCoord s k m) true target content).2

/-- Content that the manual does not lay out. -/
def openContent (s : State) : List Byte × State :=
  let (v, s1) := drawFree s
  (leBytes 8 v.toNat, s1)

/-- The end-of-step report of a member goes to the lead. -/
def sendReport (s : State) (k : Nat) : State :=
  let (c, s1) := openContent s
  let s2 := sendMember s1 k (s.impo k).record.lead 0x10 0 c
  s2.setGroup k { s2.group k with reported := true, abandoned := false, lacking := false }

/-- The lead announces to every member; `await`: it awaits their reports. -/
def sendAnnounce (s : State) (k : Nat) (await : Bool) : State :=
  let s1 := (otherMembers s k).foldl (fun s m =>
    let (c, s') := openContent s
    sendMember s' k m 0x11 0 c) s
  s1.setGroup k { s1.group k with
    awaited := if await then otherMembers s k else [], abandoned := false, lacking := false, timeouts := 0 }

/-- A stop forbids the lead to announce a trigger at `t` (R517, R518). -/
def stopForbids (s : State) (t : Nat) : Bool := decide (2 < stopState s) || (decide (stopState s ≠ 0 ∧ stopAt s ≤ t) && stopAtBoundary s)

/-- The lead sets T_n: now, plus the group margin (R30); at or after the time of a boundary stop it announces none (R517). -/
def announceStep (s : State) (k : Nat) : State :=
  let t := s.clock.now + (s.impo k).record.margin * 1000
  if stopForbids s t then s else sendAnnounce { s with steps := { s.steps with tn := some t } } k true

/-- The last report of an abandoned step is in: the lead announces its replay, or that it is given up (R464). -/
def lastReport (s : State) (k : Nat) : State :=
  if (s.group k).awaited ≠ [] ∨ ¬ (s.group k).abandoned then s
  else if s.steps.replay ≠ .none then announceStep s k
  else sendAnnounce s k false

/-- A step of a group is abandoned here: a member reports it to the lead; the lead announces its replay when every report is in (R464). -/
def groupAbandoned (s : State) (k : Nat) : State :=
  if !isGroup s k then s
  else if isLead s k then lastReport (s.setGroup k { s.group k with abandoned := true }) k
  else if (s.group k).reported then s
  else sendReport s k

/-- The lead announces the committed pick of a group once every report is in, and that a step has closed with none to follow. -/
def announcePicks (s : State) (closed : List PartPick) : State :=
  let ps := s.steps.committed.getD []
  let s1 := ps.foldl (fun s p =>
    if isGroup s p.impo ∧ isLead s p.impo ∧ (s.group p.impo).awaited = [] then announceStep s p.impo else s) s
  closed.foldl (fun s p =>
    if isGroup s p.impo ∧ isLead s p.impo ∧ ¬ (ps.any fun q => q.part = p.part) then sendAnnounce s p.impo false else s) s1

/-- A stop ends: the lead announces what the stop kept back. -/
def announceKept (s : State) : State :=
  if s.steps.tn.isSome || s.steps.running then s
  else if s.steps.replay ≠ .none then
    s.steps.current.foldl (fun s p => if isGroup s p.impo ∧ isLead s p.impo then lastReport s p.impo else s) s
  else announcePicks s []

/-- A step of a group closes on its lead when every report is in, and on a member with the announcement that follows. -/
def mayClose (s : State) : Bool := s.steps.current.all fun p =>
  !isGroup s p.impo || (if isLead s p.impo then decide ((s.group p.impo).awaited = []) else (s.group p.impo).released)

end Sys2Proof.Machine
end

