-- ==== Sys2Proof/Machine/LeaseOps.lean ====
section
/-!
DEFINITION. The lease of the management controllers (R468), and how it passes (Table 3.2, R469).
-/
namespace Sys2Proof.Machine

/-- HOLDER of a controller. -/
def mcNum (h : Half) : Nat := h.idx + 1

/-- The lease is held and unexpired on the NVS timer (R468). -/
def leaseValid (s : State) : Bool :=
  let l := s.nvs.lease
  let left := (l.expires + 2 ^ 32 - s.nvs.timer) % 2 ^ 32
  decide (l.holder ≠ 0 ∧ 1 ≤ left ∧ left ≤ 5000)

/-- HUB_MC_STATUS: LEASE_HELD and MODE (0 LEASE, 1 HOST_ARB, 2 WAITING, 3 FENCED). -/
def setMc (s : State) (h : Half) (held : Bool) (mode : Nat) : State :=
  putFld (putBit s (Reg.hubMcStatus h.idx) 1 held) (Reg.hubMcStatus h.idx) 2 2 mode

/-- The controller acts as holder, by the lease or by host arbitration. -/
def mcActs (s : State) (h : Half) : Bool := getBit s (Reg.hubMcStatus h.idx) 1

/-- Some controller acts. -/
def anyActs (s : State) : Bool := mcActs s .west || mcActs s .east

/-- A controller that does not act waits. -/
def mcWait (s : State) (h : Half) : State := setMc s h false 2

/-- The lease epoch a controller last saw. -/
def epochSeen (s : State) (h : Half) : Nat := getFld s (Reg.hubMcStatus h.idx) 16 48

def setEpochSeen (s : State) (h : Half) (e : Nat) : State := putFld s (Reg.hubMcStatus h.idx) 16 48 e

def State.setLease (s : State) (l : Lease) : State := { s with nvs := { s.nvs with lease := l } }

/-- The NVS die grants the lease to a controller; the lease passing to another controller is MC_FAILOVER. -/
def grantLease (s : State) (h : Half) : State :=
  let l := s.nvs.lease
  let e := (l.epoch + 1) % 2 ^ 48
  let s1 := s.setLease { l with
    holder := mcNum h, epoch := e, expires := (s.nvs.timer + 5000) % 2 ^ 32, renewals := 0, acquired := s.clock.now, queued := 0, last := mcNum h }
  let s2 := mcWait (setEpochSeen (setMc s1 h true 0) h e) h.other
  if l.last ≠ 0 ∧ l.last ≠ mcNum h then devEvent s2 0x051 (mcNum h) e else s2

/-- A half's hub runs. -/
def hubAlive (s : State) (h : Half) : Bool := match (s.half h).phase with
  | .unpowered | .down | .heldRail | .heldStrap => false
  | .starting | .waiting | .halted | .ready => true

/-- The hub-to-hub link carries. -/
def hubLinkUp (s : State) : Bool := s.hubLink && hubAlive s .west && hubAlive s .east

/-- The half of a HOLDER number. -/
def mcHalf (n : Nat) : Half := if n = 1 then .west else .east

/-- HOLDER becomes NONE; a queued ACQUIRE is granted at once (R468, R469). -/
def freeLease (s : State) : State :=
  let l := s.nvs.lease
  let s1 := s.setLease { l with holder := 0, queued := 0 }
  let s2 := if l.holder = 0 then s1 else mcWait s1 (mcHalf l.holder)
  if l.queued = 0 then s2 else grantLease s2 (mcHalf l.queued)

/-- The lease passes from the controller of a half that resets (Table 3.2). -/
def passLease (s : State) (h : Half) : State :=
  if s.nvs.lease.holder = mcNum h then grantLease s h.other else s

end Sys2Proof.Machine
end

