-- ==== Sys2Proof/Machine/Down.lean ====
section
/-!
DEFINITION. What going down costs: an abandoned step (R16, R332) and whether it runs again (R463), a half that goes down (R16,
R42), a lost die pair (R465), a fail-stop (R472).
-/
namespace Sys2Proof.Machine

/-- A step runs on the device. -/
def stepRunning (s : State) : Bool := s.steps.running

/-- The requests of a pick. -/
def PartPick.reqs (p : PartPick) : List Nat := p.slots.filterMap fun x => x.map (·.req)

/-- A near-bank unit without jobs and records; its query sets and fault counts stay. -/
def Nbu.cleared (n : Nbu) : Nbu := { Nbu.fresh 0 with
  set0 := n.set0
  set1 := n.set1
  parity := n.parity
  hung := n.hung
  failed := n.failed }

/-- NBU_PAIR_BUSY shows no held pair. -/
def releasePairs (s : State) : State :=
  (s.nbus.filter fun n => n.2.holds).foldl (fun s n =>
    putBit s (Reg.nbuPairBusy (n.1 / 1024) (n.1 / 512 % 2) (n.1 / 64 % 8)) (n.1 % 64) false) s

/-- The engines, accumulators, streams and jobs of a step are dropped; accumulator slots read zero again (R266). -/
def clearEngines (s : State) : State :=
  { releasePairs s with
    cores := []
    chans := Map.mapVals Channel.fresh (fun _ c => { c with xfers := [] }) s.chans
    nbus := Map.mapVals Nbu.fresh (fun _ n => n.cleared) s.nbus
    steps := { s.steps with tokens := [], pcs := [], atomics := [] } }

/-- A request that was IN_STEP returns to the state from which the pick took it. -/
def unpick (s : State) (sl : Slot) : State :=
  let e := s.entry sl.req
  if e.state = 4 then s.setEntry sl.req { e with state := if sl.kind = 1 then 2 else 3 } else s

/-- The requests of the picks return to the states they came from. -/
def unpickAll (s : State) (ps : List PartPick) : State :=
  (ps.flatMap fun p => p.slots.filterMap id).foldl unpick s

/-- A bucket becomes SUSPECT (R334): counted, cause, event. -/
def markSuspect (s : State) (k b : Nat) : State :=
  let x := s.impo k
  if x.suspect.testBit b then s
  else
    let s1 := setCause (count (s.setImpo k { x with suspect := x.suspect ||| 2 ^ b }) Reg.galSuspects 1) Reg.galBlk 17
    raiseEvent s1 0x031 x.partition (blkDir Reg.galBlk) 2 (word k) (word b)

/-- The running step is abandoned: no token, no record. With a replay its picks stay and the step runs again under
its number; without one its requests are picked afresh. A step whose eighth replay is abandoned marks its buckets SUSPECT
(R332, R463). -/
def abandonWith (s : State) (replay : Replay) : State :=
  if !s.steps.running then s
  else
    let st := s.steps
    let again := replay ≠ .none ∧ st.failures < 8
    let s1 := count (clearEngines { s with steps := { st with running := false, replay := if again then replay else .none } })
      Reg.galAbandoned 1
    let (v, s1') := drawFree s1
    let s2 := st.current.foldl (fun s p => groupAbandoned s p.impo) (devEvent s1' 0x030 st.num.toNat v.toNat)
    if again then
      let fresh := fun (p : PartPick) =>
        { p with slots := p.slots.map fun x => x.map fun sl => { sl with isVoid := false, flags := 0, samples := [] } }
      { s2 with steps := { s2.steps with
        current := st.current.map fresh, failures := st.failures + 1, committed := none } }
    else
      let s3 := unpickAll s2 st.current
      let s4 := if replay ≠ .none then st.current.foldl (fun s p => markSuspect s p.impo p.bucket) s3 else s3
      { s4 with steps := { s4.steps with current := [], failures := 0, committed := none } }

/-- The running step is abandoned, a step that waits to run again is given up, and a committed pick is undone: the requests are
picked afresh (R16). -/
def abandonStep (s : State) : State :=
  let s1 := abandonWith s .none
  let s2 := if s1.steps.replay ≠ .none then
      let s' := unpickAll s1 s1.steps.current
      { s' with steps := { s'.steps with current := [], replay := .none, failures := 0 } }
    else s1
  match s2.steps.committed with
  | some ps => let s3 := unpickAll s2 ps
    { s3 with steps := { s3.steps with committed := none } }
  | none => s2

/-- A half goes down: its step is abandoned, its last-gasp register takes `code`, its controller stops, and the twin takes the
twin-kept requests over (R16, R42, R481). -/
def halfDown (s : State) (h : Half) (code : Nat) : State :=
  let s1 := lastGasp (declare (abandonStep s) 0 0 code) h code
  let x := s1.half h
  let s2 := putBit (mcWait (s1.setHalf h { x with phase := .down }) h) (Reg.hubMcStatus h.idx) 0 false
  [0, 1, 2, 3, 4, 5].foldl (fun s p =>
    if portHalf p = h then s.setPort p { s.port p with phase := .off, width := 0, outcome := 0, reason := 0, joins := false } else s) s2

/-- A partition with a core on CDd or a weight tensor on MDd. -/
def onDie (s : State) (d n : Nat) : Bool :=
  ((List.range 17).any fun i => (List.range 2).any fun j =>
    getFld s (blkOwner (Reg.coreBlk d i)) (8 * j) 8 = n) ||
  s.tensors.any fun t => decide (t.2.cls = 0 ∧ t.2.owner = n ∧ t.2.tier ≠ 0 ∧ mapDie t.2.t1map = d)

/-- A step that some partitions can no longer run is abandoned; it runs again for the other partitions (Table 14.1). -/
def abandonFor (s : State) (parts : List Nat) : State :=
  if !(s.steps.current.any fun p => p.part ∈ parts) then s
  else
    let s1 := abandonWith s .normal
    let kept := s1.steps.current.filter fun p => p.part ∉ parts
    let s2 := unpickAll s1 (s1.steps.current.filter fun p => p.part ∈ parts)
    { s2 with steps := { s2.steps with current := kept, replay := if kept = [] then .none else s2.steps.replay } }

/-- The pair CDd and MDd is lost (R465): twin-kept requests of the partitions on it are declared; their impositions and the other
requests go at the next step boundary. A running step goes on for no one if it uses the pair. -/
def dieLost (s : State) (d : Nat) : State :=
  if (s.die d).lost then s
  else
    let parts := (List.range 64).filter (onDie s d)
    let s1 := abandonFor s parts
    let s2 := parts.foldl (fun s n => declare s 1 n 0xFF10) (s1.setDie d { s1.die d with lost := true })
    { s2 with deferred := s2.deferred ++ [.dieLost d] }

/-- The device fail-stops for `reason` of DEV_FAIL_STATUS (R472). -/
def failStop (s : State) (reason : Nat) : State :=
  if getBit s Reg.devFailStatus 0 then s
  else
    let s0 := declare (abandonStep s) 0 0 reason
    let s1 := putFld (putFld (putBit s0 Reg.devFailStatus 0 true) Reg.devFailStatus 4 4 reason) Reg.devFailStatus 16 48
      (s.clock.now / 2 ^ 10 % 2 ^ 48)
    devEvent (setCause (lastGasp (lastGasp s1 .west 0x005) .east 0x005) Reg.devBlk 27) 0x05C reason 0

/-- The device has fail-stopped. -/
def failed (s : State) : Bool := getBit s Reg.devFailStatus 0

end Sys2Proof.Machine
end

