-- ==== Sys2Proof/Machine/Access.lean ====
section
/-!
DEFINITION. The front end of every register access (chapter 4): which register an address names, the checks and what a
refusal does, and the effect of a write by access type.
-/
namespace Sys2Proof.Machine

/-! ### Hedgerow violations (R428) -/

/-- A hedgerow violation of partition `n` on a path of Table 13.2: counted, captured, cause and event. -/
def hedgeViolation (s : State) (n path addr : Nat) : State :=
  let b := Reg.partBlk n
  let s1 := count s (Reg.partHedgeViol n) 1
  let s2 := capture s1 b 0x0601 0 n addr (path % 16 + addr % 2 ^ 40 * 2 ^ 8)
  raiseEvent (setCause s2 b 16) 0x002 n (blkDir b) 2 (word path) (word addr)

/-! ### What an address names -/

/-- What an access addresses. -/
inductive Target where
  /-- The register of page `p` at page offset `off`, kept under `key`; `row` for offsets from 0x100. -/
  | reg (p : PageRef) (off key : Nat) (row : Option (RegRow × Nat))
  /-- A byte offset of an MSI-X table or pending-bit array, in the keys of `msixKey`; `n` the function. -/
  | msix (key fn : Nat)
  /-- The galley entry window, at byte offset `off` of the window (R112). -/
  | galley (off : Nat)
  deriving DecidableEq, Repr

/-- The register of the page at page-aligned offset `base`, offset `o`: header offsets of a later page are those of page 0
(R99); an unused offset names none. -/
def resolvePage (base o : Nat) : Option Target :=
  match locate base with
  | none => none
  | some p =>
    if o < 0x100 then
      let b := if 8 ≤ o ∧ o < 0x80 then p.base else base
      some (.reg p o (b + o) none)
    else match pageRow p o with
      | some r => some (.reg p o (base + o) (some r))
      | none => none

/-- The register, MSI-X structure or window that BAR0 offset `off` of the physical function names (Table 4.3). -/
def resolvePf (off : Nat) : Option Target :=
  if 0x7000 ≤ off ∧ off < 0x10000 then some (.msix off 0)
  else if 0x1000000 ≤ off ∧ off < 0x1400000 then some (.galley (off - 0x1000000))
  else if off < 0x4000000 then resolvePage (off / 0x1000 * 0x1000) (off % 0x1000)
  else none

/-- The same for BAR0 of VF `n` (Table 4.5). -/
def resolveVf (n off : Nat) : Option Target :=
  if off < 0x2000 then resolvePage (qBase n + off / 0x1000 * 0x1000) (off % 0x1000)
  else if 0x3000 ≤ off ∧ off < 0x4000 then some (.msix (0x20000000 + 0x1000 * n + (off - 0x3000)) (n + 1))
  else if 0x80000 ≤ off ∧ off < 0x81000 then resolvePage (Reg.partBlk n) (off % 0x1000)
  else none

/-- What an access addresses. An offset inside a register names that register. -/
def resolve (who : Requester) (off : Nat) : Option Target :=
  let o := off / 8 * 8
  match who with
  | .vf n _ => match resolveVf n.val o with
    | some (.msix k f) => some (.msix (k + off % 8) f)
    | t => t
  | _ => match resolvePf o with
    | some (.msix k f) => some (.msix (k + off % 8) f)
    | t => t

/-! ### Identities and block states -/

end Sys2Proof.Machine

namespace Sys2Proof

/-- The partition whose identity an access carries; none is DEVICE (R107). -/
def Requester.part : Requester → Option Nat
  | .vf n _ => some n.val
  | .loader n => some n.val
  | .sort n => some n.val
  | _ => none

def Requester.isMc : Requester → Bool
  | .mc _ => true
  | _ => false

/-- The function and port of DEV_ACCESS_LAST (R539). -/
def Requester.func : Requester → Nat
  | .vf n _ => n.val + 1
  | .loader n => n.val + 1
  | .sort n => n.val + 1
  | _ => 0

def Requester.port : Requester → Nat
  | .pf h => h.idx
  | .vf _ h => h.idx
  | .mc h => h.idx
  | _ => 0

end Sys2Proof

namespace Sys2Proof.Machine

/-- States of a block's pages (R98): 0 ACTIVE, 1 FALLOW, 2 UNREACHABLE, 3 GATED. -/
def halfReachable (s : State) (h : Half) : Bool :=
  match (s.half h).phase with
  | .unpowered | .down | .heldRail | .heldStrap => false
  | .ready => true
  | _ => decide ((s.half h).kind ≠ .half)

def dieReachable (s : State) (d : Nat) : Bool :=
  let x := s.die d
  halfReachable s (dieHalf d) && !x.stopped && !x.fallow && !x.lost

/-- The directory STATE of the block of a page (R98, R115). -/
def blkState (s : State) (p : PageRef) : Nat :=
  let up : Bool := match p.type with
    | 0x02 | 0x0B => halfReachable s (if p.inst = 0 then .west else .east)
    | 0x05 => halfReachable s (portHalf p.inst)
    | 0x06 | 0x08 => dieReachable s p.inst
    | 0x07 | 0x09 | 0x0A => dieReachable s (p.inst / 256)
    | _ => true
  let gated : Bool := match p.type with
    | 0x06 => decide ((s.die p.inst).power = .powerGated)
    | 0x07 => decide ((s.die (p.inst / 256)).power = .powerGated)
    | _ => false
  if !up then 2 else if gated then 3 else if getBit s (blkStatus p.base) 2 then 1 else 0

/-! ### Checks -/

/-- The owner byte of the field at page offset `off`: OWNER, or OWNER_HI for the odd core of a CORE_ page (R107). -/
def fieldOwner (s : State) (p : PageRef) (off : Nat) : Nat :=
  getFld s (blkOwner p.base) (if p.type = 0x07 ∧ 0x800 ≤ off then 8 else 0) 8

/-- A register whose fields are RW for the management controller, else RO (R108). -/
def mcOnly (p : PageRef) (off : Nat) : Bool :=
  decide (off = 0x070) || decide (p.kind = .cd ∧ 0x100 ≤ off ∧ off < 0x120) ||
    decide (p.kind = .nbu ∧ (off = 0x228 ∨ off = 0x230)) || decide (p.kind = .gal1 ∧ 0x108 ≤ off ∧ off ≤ 0x128)

/-- A register whose writes must carry the identity DEVICE: counters (R498), CORE_ACC_CFG (R267), CH_MAPOUT (R141), every
field of a PART_ page but PART_TIME (chapter 13), and window registers unless the forme loader writes (R109). -/
def deviceOnly (who : Requester) (p : PageRef) (off : Nat) (row : Option (RegRow × Nat)) : Bool :=
  match row with
  | none => decide (p.kind = .part)
  | some (r, _) =>
    decide (r.cls = .counter) || decide (p.kind = .core ∧ r.off = 0x200) || decide (p.kind = .ch ∧ off = 0x108) ||
    decide (p.kind = .part ∧ off ≠ 0x108) || decide (p.kind = .nbu ∧ off = 0x190) ||
    (decide (p.kind = .nbu ∧ (off = 0x280 ∨ (0x198 ≤ off ∧ off ≤ 0x220))) &&
      (match who with | .loader _ => false | _ => true))

/-- The owner check of a page access (R107, R108): a write to a field that only a management controller writes needs one; any
other access passes with the identity DEVICE, or when the field belongs to the partition or is SHARED. -/
def ownerPasses (s : State) (who : Requester) (write : Bool) (p : PageRef) (off : Nat) (row : Option (RegRow × Nat)) : Bool :=
  if write && mcOnly p off then who.isMc
  else match who.part with
    | none => true
    | some n =>
      (decide (fieldOwner s p off = n) || decide (fieldOwner s p off = 0xFE) ||
        (decide (p.kind = .part) && decide (p.inst = n) && (match who with | .vf _ _ => true | _ => false))) &&
      !(write && deviceOnly who p off row)

/-- The port and VF_EN check of a VF access (R439). -/
def vfServes (s : State) (who : Requester) : Bool :=
  match who with
  | .vf n h => getBit s (Reg.partCfg n.val) 3 && decide (getFld s (Reg.partCfg n.val) 2 1 = h.idx)
  | _ => true

/-- The size and alignment check (R94, R112). -/
def sizeOk (a : Access) (write : Bool) (t : Option Target) : Bool :=
  match t with
  | some (.msix _ _) => (decide (a.size = 4) || decide (a.size = 8)) && decide (a.off % a.size = 0)
  | some (.galley _) => if write then decide (a.size = 8 ∧ a.off % 8 = 0)
      else decide (a.size % 8 = 0 ∧ 0 < a.size ∧ a.off % 8 = 0 ∧ a.size ≤ 4096)
  | _ => decide (a.size = 8 ∧ a.off % 8 = 0)

/-- The causes of R539 that apply to an access, lowest first; none: the access is served. -/
def accessCauses (s : State) (a : Access) (write : Bool) : List Nat :=
  let t := resolve a.who a.off
  let c1 := if sizeOk a write t then [] else [1]
  let c2 := if t = none then [2] else []
  let c3 := match t with
    | some (.galley _) => if write then [3] else []
    | _ => []
  let own := match t with
    | some (.reg p o _ row) => ownerPasses s a.who write p o row
    | some (.galley _) => a.who.part = none
    | _ => true
  let c4 := if own && vfServes s a.who then [] else [4]
  let c5 := match t with
    | some (.reg p _ _ _) => if blkState s p = 2 then [5] else []
    | _ => []
  c1 ++ c2 ++ c3 ++ c4 ++ c5

/-- A refused access (R96, R108, R538, R539): counted in DEV_ACCESS_ERR and held in DEV_ACCESS_LAST; a failed owner check
sets OWNER_VIOL in the addressed block and, with a partition's identity, is a hedgerow violation, as is a reserved offset of a
VF's BAR. -/
def refuseAccess (s : State) (a : Access) (write : Bool) (causes : List Nat) : State :=
  let e := getReg s Reg.devAccessErr
  let e1 := setFld e 0 32 (satAdd 0xFFFFFFFF (fld e 0 32) 1)
  let e2 := if 1 ∈ causes then setFld e1 32 32 (satAdd 0xFFFFFFFF (fld e1 32 32) 1) else e1
  let s1 := setReg (setReg s Reg.devAccessErr e2) Reg.devAccessLast
    (word (a.off % 2 ^ 26 + b2n write * 2 ^ 26 + a.who.func * 2 ^ 27 + a.who.port * 2 ^ 34 + causes.headD 0 * 2 ^ 35))
  let s2 := if 4 ∈ causes then
      match resolve a.who a.off with
      | some (.reg p _ _ _) => setCause s1 p.base 1
      | _ => s1
    else s1
  match a.who.part with
  | some n =>
    let vf : Bool := match a.who with | .vf _ _ => true | _ => false
    if 4 ∈ causes ∨ (2 ∈ causes ∧ vf) then hedgeViolation s2 n 1 a.off else s2
  | none => s2

/-! ### The effect of a write by access type (R11, R103) -/

/-- The masks of access types at a page offset. -/
structure Masks where
  rw : Word
  w1c : Word
  w1s : Word
  deriving DecidableEq, Repr

/-- The masks of a register (R11; header registers by Table 4.2). BLK_OWNER is written by its own rule. -/
def masksOf (p : PageRef) (off : Nat) (row : Option (RegRow × Nat)) : Masks :=
  match row with
  | some (r, _) => ⟨word r.rw, word r.w1c, word r.w1s⟩
  | none =>
    if off = 0x010 then ⟨3, 0, 0⟩
    else if off = 0x020 then ⟨0, word (15 + (2 ^ intCauses p.type - 1) * 2 ^ 16), 0⟩
    else if off = 0x028 then ⟨word (15 + (2 ^ intCauses p.type - 1) * 2 ^ 16), 0, 0⟩
    else if off = 0x078 then ⟨~~~0, 0, 0⟩
    else ⟨0, 0, 0⟩

/-- The value after a write of `v` while hardware sets `hw`. -/
def written (m : Masks) (old v hw : Word) : Word :=
  ((old &&& ~~~m.rw &&& ~~~(v &&& m.w1c)) ||| (v &&& m.rw) ||| (v &&& m.w1s)) ||| (hw &&& m.w1c)

/-- A collision: a bit that was set, is written 1, and is set again in the same cycle (R103). -/
def collides (m : Masks) (old v hw : Word) : Bool := decide (old &&& v &&& hw &&& m.w1c ≠ 0)

/-- Increment collision counter `i` of a block; reaching 0xFFFF sets COLL_SAT (BLK_INT_COLL). -/
def countCollision (s : State) (blk i : Nat) : State :=
  let c := getFld s (blkIntColl blk) (16 * i) 16
  let s1 := putFld s (blkIntColl blk) (16 * i) 16 (satAdd 0xFFFF c 1)
  if c = 0xFFFE then setCause s1 blk 2 else s1

/-- A write to BLK_INT_RAW: set wins over a clear in the same cycle; clearing ERR_CAPTURED re-arms the capture, and an error
in the cycle of that clear counts in MORE instead (R103, R104). -/
def writeIntRaw (s : State) (p : PageRef) (v hw : Word) : State :=
  let m := masksOf p 0x020 none
  let old := getReg s (blkIntRaw p.base)
  let s1 := setReg s (blkIntRaw p.base) (old &&& ~~~(v &&& m.w1c &&& ~~~hw))
  let s2 := if bit v 0 && bit old 0 then
      if bit hw 0 then putFld s1 (blkErrCap p.base 0) 16 16 (satAdd 0xFFFF (getFld s1 (blkErrCap p.base 0) 16 16) 1)
      else rearmCapture s1 p.base
    else s1
  let s3 := setCauses s2 p.base (hw &&& m.w1c)
  if collides m old v hw then countCollision s3 p.base 0 else s3

/-- A write to BLK_INT_EN: turning on a bit already set in BLK_INT_RAW sends a message (R102). -/
def writeIntEn (s : State) (p : PageRef) (v : Word) : State :=
  let m := masksOf p 0x028 none
  let old := getReg s (blkIntEn p.base)
  let s1 := setReg s (blkIntEn p.base) (v &&& m.rw)
  sendRising s1 p.base (v &&& m.rw &&& ~~~old &&& getReg s (blkIntRaw p.base))

/-- A plain write by access type; a W1C register other than BLK_INT_RAW counts collisions where its block has a counter for
it: DEV_PWR_STATUS in COLL1 of the DEV_ block (R103). -/
def writePlain (s : State) (p : PageRef) (off key : Nat) (row : Option (RegRow × Nat)) (v hw : Word) : State :=
  let m := masksOf p off row
  let old := getReg s key
  let s1 := setReg s key (written m old v hw)
  if collides m old v hw then countCollision s1 p.base 1 else s1

/-- A write to an MSI-X table: `size` 4 or 8 bytes at `key`; unmasking a vector with its pending bit set sends it. -/
def writeMsix (s : State) (key fn size : Nat) (v : Word) : State :=
  let inTable := if fn = 0 then decide (0x8000 ≤ key) else decide (key % 0x1000 < 0x400)
  if !inTable then s
  else
    let k := key / 8 * 8
    let old := getMsix s k
    let new := if size = 8 then v else setFld old (8 * (key % 8)) 32 (v.toNat % 2 ^ 32)
    let s1 := setMsix s k new
    let vec := if fn = 0 then (k - 0x8000) / 16 else (k % 0x1000) / 16
    let pb := getMsix s1 (pbaKey fn vec)
    if k % 16 = 8 ∧ bit old 32 ∧ ¬ bit new 32 ∧ bit pb (vec % 64) then
      emit (setMsix s1 (pbaKey fn vec) (setBit pb (vec % 64) false)) (.msix fn vec)
    else s1

/-- The requester's latch of a window (R109); the driver's port selects the latch of the physical function. -/
def latchIndex : Requester → Nat
  | .pf .west => 0
  | .pf .east => 1
  | .mc .west => 2
  | .mc .east => 3
  | .stile => 4
  | _ => 5

/-- The key of a requester's latch of the window whose INDEX register is at `idx`. -/
def latchKey (who : Requester) (idx : Nat) : Nat := 8 * idx + latchIndex who

def latched (s : State) (who : Requester) (idx : Nat) : List Word := Map.get (fun _ => []) s.latch (latchKey who idx)

/-- The value that the requester wrote to the INDEX register. -/
def latchedIndex (s : State) (who : Requester) (idx : Nat) : Word := (latched s who idx).headD 0

/-- The words of the entry as the requester's DATA registers hold them. -/
def getLatch (s : State) (who : Requester) (idx : Nat) : List Word := (latched s who idx).drop 1

/-- Latch an entry: the value of INDEX and the words of the entry. -/
def setLatch (s : State) (who : Requester) (idx : Nat) (index : Word) (ws : List Word) : State :=
  { s with latch := Map.set (fun _ => []) s.latch (latchKey who idx) (index :: ws) }

/-- Serve a register write: refused when a check fails; to a page of a power-gated die it changes the shadow and waits for the
die to wake (R98); else `act` on the register named. -/
def serveWrite (s : State) (w : RegWrite) (act : State → PageRef → Nat → Nat → Option (RegRow × Nat) → State) : State :=
  match accessCauses s w.access true with
  | [] =>
    match resolve w.who w.off with
    | some (.reg p off key row) =>
      if blkState s p = 3 then
        { writePlain s p off key row w.val 0 with gatedWrites := s.gatedWrites ++ [(w, getReg s key)] }
      else act s p off key row
    | some (.msix k fn) => writeMsix s k fn w.size w.val
    | _ => s
  | cs => refuseAccess s w.access true cs

/-- The page kind and page offset (for a CORE_ slice, the slice offset) that a write names; none where it names no register. -/
def writeNames (w : RegWrite) : Option (PageKind × Nat) :=
  match resolve w.who w.off with
  | some (.reg p off _ row) => match row with
    | some (r, i) => some (p.kind, r.off + 8 * i)
    | none => some (p.kind, off)
  | _ => none

/-- A write that names the register of a row of the table. -/
def isReg (w : RegWrite) (k : PageKind) (off : Nat) : Bool := decide (writeNames w = some (k, off))

/-- A write that names header register `off` of some block. -/
def isHeader (w : RegWrite) (off : Nat) : Bool :=
  match writeNames w with
  | some (_, o) => decide (o = off) && decide (off < 0x100)
  | none => false

end Sys2Proof.Machine
end

