-- ==== Sys2Proof/Machine/Float.lean ====
section
/-!
DEFINITION. Number formats and their arithmetic (R212, R213, R221, R543): exact values as a sign, an integer and a power of
two, rounded to nearest even into a format.
-/
namespace Sys2Proof.Machine

/-- A value: NaN, an infinity, or (−1)^neg × m × 2^e. -/
inductive Fp where
  | nan
  | inf (neg : Bool)
  | fin (neg : Bool) (m : Nat) (e : Int)
  deriving DecidableEq, Repr

/-- A format: precision in bits, exponent of the smallest subnormal, bits of the exponent field, its bias; `top`: the largest
finite magnitude as integer × 2^`topExp`; whether it has infinities and NaN; `e4m3`: NaN is the all-ones code alone. -/
structure Fmt where
  prec : Nat
  emin : Int
  ebits : Nat
  bias : Nat
  top : Nat
  topExp : Int
  hasInf : Bool
  hasNan : Bool
  deriving DecidableEq, Repr

/-- Bits of an encoding. -/
def Fmt.width (f : Fmt) : Nat := f.ebits + f.prec

/-- Table 7.5. -/
def fp32 : Fmt := ⟨24, -149, 8, 127, 2 ^ 24 - 1, 104, true, true⟩
def bf16 : Fmt := ⟨8, -133, 8, 127, 255, 120, true, true⟩
def fp16 : Fmt := ⟨11, -24, 5, 15, 2047, 5, true, true⟩
def e5m2 : Fmt := ⟨3, -16, 5, 15, 7, 13, true, true⟩
def e4m3 : Fmt := ⟨4, -9, 4, 7, 14, 5, false, true⟩
def e2m1 : Fmt := ⟨2, -1, 2, 1, 3, 1, false, false⟩
def e3m2 : Fmt := ⟨3, -4, 3, 3, 7, 2, false, false⟩
def e2m3 : Fmt := ⟨4, -3, 2, 1, 15, -1, false, false⟩

/-! ### Codes -/

/-- The value of an encoding (Table 7.5). -/
def Fmt.decode (f : Fmt) (bits : Nat) : Fp :=
  let fb := f.prec - 1
  let frac := bits % 2 ^ fb
  let ex := bits / 2 ^ fb % 2 ^ f.ebits
  let neg := bits / 2 ^ (fb + f.ebits) % 2 == 1
  if f.hasInf ∧ ex = 2 ^ f.ebits - 1 then (if frac = 0 then .inf neg else .nan)
  else if f.hasNan ∧ ¬ f.hasInf ∧ ex = 2 ^ f.ebits - 1 ∧ frac = 2 ^ fb - 1 then .nan
  else if ex = 0 then .fin neg frac f.emin
  else .fin neg (2 ^ fb + frac) (f.emin + ((ex : Int) - 1))

/-- The canonical NaN code (Table 8.4). -/
def Fmt.nanCode (f : Fmt) : Nat :=
  if f.hasInf then (2 ^ f.ebits - 1) * 2 ^ (f.prec - 1) + (if f.prec ≤ 3 then 2 ^ (f.prec - 1) - 1 else 2 ^ (f.prec - 2))
  else 2 ^ (f.prec + f.ebits - 1) - 1

/-- Bring a finite value to the form whose exponent is at least `emin` and whose integer has at most `prec` bits, when it is
representable. -/
def normFin (f : Fmt) (m : Nat) (e : Int) : Nat × Int :=
  if m = 0 then (0, f.emin)
  else
    let q := max (e + (Nat.log2 m + 1 : Nat) - (f.prec : Int)) f.emin
    if q ≤ e then (m * 2 ^ (e - q).toNat, q) else (m / 2 ^ (q - e).toNat, q)

/-- The code of a value that the format represents. -/
def Fmt.encode (f : Fmt) : Fp → Nat
  | .nan => f.nanCode
  | .inf neg => b2n neg * 2 ^ (f.prec + f.ebits - 1) + (2 ^ f.ebits - 1) * 2 ^ (f.prec - 1)
  | .fin neg m e =>
    let (m', q) := normFin f m e
    let s := b2n neg * 2 ^ (f.prec + f.ebits - 1)
    if m' < 2 ^ (f.prec - 1) then s + m'
    else s + ((q - f.emin).toNat + 1) * 2 ^ (f.prec - 1) + (m' - 2 ^ (f.prec - 1))

/-! ### Rounding -/

/-- An integer shifted right by `k`, rounded to nearest even. -/
def shiftRne (m k : Nat) : Nat :=
  let q := m / 2 ^ k
  let r := m % 2 ^ k
  if 2 * r < 2 ^ k then q
  else if 2 * r = 2 ^ k then q + q % 2
  else q + 1

/-- A finite value rounded to the precision and exponent range of a format, without its upper bound. -/
def roundFin (f : Fmt) (m : Nat) (e : Int) : Nat × Int :=
  if m = 0 then (0, f.emin)
  else
    let q := max (e + (Nat.log2 m + 1 : Nat) - (f.prec : Int)) f.emin
    if q ≤ e then (m * 2 ^ (e - q).toNat, q) else (shiftRne m (q - e).toNat, q)

/-- m × 2^e exceeds the largest finite magnitude of the format. -/
def beyond (f : Fmt) (m : Nat) (e : Int) : Bool :=
  if e ≥ f.topExp then decide (f.top < m * 2 ^ (e - f.topExp).toNat)
  else decide (f.top * 2 ^ (f.topExp - e).toNat < m)

/-- Round to nearest even; beyond the range, to infinity. -/
def Fmt.round (f : Fmt) : Fp → Fp
  | .fin neg m e =>
    let (m', q) := roundFin f m e
    if beyond f m' q then .inf neg else .fin neg m' q
  | x => x

/-- Round to nearest even and clamp a finite value at the largest finite magnitude; the flag tells that it was clamped. -/
def Fmt.roundSat (f : Fmt) : Fp → Fp × Bool
  | .fin neg m e =>
    let (m', q) := roundFin f m e
    if beyond f m' q then (.fin neg f.top f.topExp, true) else (.fin neg m' q, false)
  | x => (x, false)

/-- The largest finite magnitude with a sign. -/
def Fmt.maxOf (f : Fmt) (neg : Bool) : Fp := .fin neg f.top f.topExp

/-! ### Exact arithmetic -/

def Fp.isNan : Fp → Bool
  | .nan => true
  | _ => false

def Fp.isInf : Fp → Bool
  | .inf _ => true
  | _ => false

def Fp.isFin : Fp → Bool
  | .fin _ _ _ => true
  | _ => false

def Fp.isZero : Fp → Bool
  | .fin _ 0 _ => true
  | _ => false

def Fp.isNeg : Fp → Bool
  | .fin n _ _ => n
  | .inf n => n
  | .nan => false

def Fp.zero : Fp := .fin false 0 0
def Fp.one : Fp := .fin false 1 0
def Fp.negInf : Fp := .inf true

def Fp.neg : Fp → Fp
  | .fin n m e => .fin (!n) m e
  | .inf n => .inf (!n)
  | .nan => .nan

/-- The integer m × 2^(e − e₀), signed, for e ≥ e₀. -/
def scaled (neg : Bool) (m : Nat) (e e0 : Int) : Int :=
  let v : Int := (m * 2 ^ (e - e0).toNat : Nat)
  if neg then -v else v

/-- The exact sum; a zero sum is +0 unless both are −0. -/
def Fp.add : Fp → Fp → Fp
  | .nan, _ => .nan
  | _, .nan => .nan
  | .inf a, .inf b => if a = b then .inf a else .nan
  | .inf a, _ => .inf a
  | _, .inf b => .inf b
  | .fin a m e, .fin b n g =>
    let e0 := min e g
    let v := scaled a m e e0 + scaled b n g e0
    if v = 0 then .fin (a && b) 0 e0 else .fin (decide (v < 0)) v.natAbs e0

/-- The exact product. -/
def Fp.mul : Fp → Fp → Fp
  | .nan, _ => .nan
  | _, .nan => .nan
  | .inf a, .inf b => .inf (a != b)
  | .inf a, .fin b m _ => if m = 0 then .nan else .inf (a != b)
  | .fin a m _, .inf b => if m = 0 then .nan else .inf (a != b)
  | .fin a m e, .fin b n g => .fin (a != b) (m * n) (e + g)

/-- x × 2^k. -/
def Fp.shift (x : Fp) (k : Int) : Fp := match x with
  | .fin n m e => .fin n m (e + k)
  | y => y

/-- x < y on values that are not NaN. -/
def Fp.lt : Fp → Fp → Bool
  | .nan, _ => false
  | _, .nan => false
  | .inf a, .inf b => a && !b
  | .inf a, .fin _ _ _ => a
  | .fin _ _ _, .inf b => !b
  | .fin a m e, .fin b n g => decide (scaled a m e (min e g) < scaled b n g (min e g))

/-- The larger of two values that are not NaN. -/
def Fp.max (x y : Fp) : Fp := if x.lt y then y else x

/-! ### FP32 operations, one rounding each (R221) -/

def add32 (x y : Fp) : Fp := fp32.round (x.add y)
def mul32 (x y : Fp) : Fp := fp32.round (x.mul y)
def fma32 (x y z : Fp) : Fp := fp32.round ((x.mul y).add z)
def sub32 (x y : Fp) : Fp := add32 x y.neg

/-- Clamp to ±FP32 maximum. -/
def sat32 (x : Fp) : Fp := match x with
  | .inf n => fp32.maxOf n
  | y => (fp32.roundSat y).1

/-- One level of the balanced pairwise tree of R543: a last node without a partner passes unchanged. -/
def pairUp1 {α : Type} (f : α → α → α) : List α → List α
  | a :: b :: l => f a b :: pairUp1 f l
  | l => l

/-- The balanced pairwise tree over the leaves in order (R543); `fuel` bounds its depth. -/
def treeFold {α : Type} (f : α → α → α) : Nat → List α → Option α
  | _, [] => none
  | _, [a] => some a
  | 0, a :: _ => some a
  | fuel + 1, l => treeFold f fuel (pairUp1 f l)

/-- The sum of a list in FP32 by the tree of R543; 0 for no leaf. -/
def treeSum (l : List Fp) : Fp := (treeFold add32 l.length l).getD .zero

/-! ### Functions the manual bounds but does not give (R174, R221) -/

/-- A free FP32 result that is a finite, non-negative number of at most one. -/
def unitOf (w : BitVec 32) : Fp := fp32.decode (w.toNat % (0x3F800000 + 1))

/-- exp at an argument of 0 or below: 1 exactly at 0, 0 exactly at −∞, a free value between 0 and 1 elsewhere. -/
def expNeg (x : Fp) : Fp := match x with
  | .fin _ 0 _ => .one
  | .inf _ => .zero
  | .nan => .nan
  | y => unitOf (Config.expFn (BitVec.ofNat 32 (fp32.encode y)))

/-- A free FP32 function of one argument. -/
def freeFn (f : BitVec 32 → BitVec 32) (x : Fp) : Fp := fp32.decode (f (BitVec.ofNat 32 (fp32.encode x))).toNat

/-! ### Format codes (Table 7.4) -/

/-- The floating-point formats by code. -/
def fmtOf (code : Nat) : Option Fmt :=
  if code = 0 then some e4m3 else if code = 1 then some e5m2 else if code = 3 then some bf16
  else if code = 4 then some fp16 else if code = 5 then some fp32 else none

/-- Bytes of an element of a scalar format. -/
def fmtBytes (code : Nat) : Nat :=
  if code ≤ 2 then 1 else if code = 3 ∨ code = 4 then 2 else if code = 5 then 4 else 0

/-- The value of an element of a scalar format; INT8 in two's complement. -/
def decodeElem (code bits : Nat) : Fp :=
  if code = 2 then let v := signed 8 bits; .fin (decide (v < 0)) v.natAbs 0
  else match fmtOf code with
    | some f => f.decode bits
    | none => .nan

/-- Conversion to an output format under Table 8.4: the code, and whether the element saturated. -/
def drainConv (code : Nat) (x : Fp) : Nat × Bool :=
  if code = 2 then
    match x with
    | .nan => (0, false)
    | .inf n => (if n then 0x80 else 0x7F, false)
    | .fin n m e =>
      let v := if 0 ≤ e then m * 2 ^ e.toNat else shiftRne m (-e).toNat
      if n then (if 128 < v then (0x80, true) else ((256 - v) % 256, false))
      else if 127 < v then (0x7F, true) else (v, false)
  else match fmtOf code with
    | none => (0, false)
    | some f => match x with
      | .nan => (f.nanCode, false)
      | .inf n => if f.hasInf then (f.encode (.inf n), false) else (f.encode (f.maxOf n), false)
      | y => let (z, sat) := f.roundSat y; (f.encode z, sat)

end Sys2Proof.Machine
end

