-- ==== Sys2Proof/Machine/Convert.lean ====
section
/-!
DEFINITION. What the T2 DMA engine does to the bytes of a load: WF checks (R218), conversion from MX (R225, R226), expansion of a
lossless container (R227 to R229).
-/
namespace Sys2Proof.Machine

/-- Codes of Table 7.4. -/
def fmtKnown (fmt : Nat) : Bool := decide (fmt ≤ 5 ∨ (8 ≤ fmt ∧ fmt ≤ 0xC) ∨ (0x10 ≤ fmt ∧ fmt ≤ 0x14))

def isMx (fmt : Nat) : Bool := decide (0x10 ≤ fmt)

/-- The format a tensor has in T1 (Table 7.10). -/
def t1Fmt (fmt : Nat) : Nat := if isMx fmt then fmt - 8 else fmt

/-- Element format and width of a WF code. -/
def wfElem (fmt : Nat) : Option Fmt :=
  if fmt = 8 then some e2m1 else if fmt = 9 then some e3m2 else if fmt = 0xA then some e2m3
  else if fmt = 0xB then some e4m3 else if fmt = 0xC then some e5m2 else none

def wfWidth (fmt : Nat) : Nat := if fmt = 8 then 4 else if fmt = 9 ∨ fmt = 0xA then 6 else 8

/-- Bytes of a block pair (R214). -/
def wfPair (fmt : Nat) : Nat := 2 + 8 * wfWidth fmt

/-- Element `i` of a field of `w`-bit elements packed from bit 0 of its first byte. -/
def packedElem (w : Nat) (field i : Nat) : Nat := field / 2 ^ (w * i) % 2 ^ w

/-- The value of an element code is a number. -/
def elemFinite (f : Fmt) (c : Nat) : Bool := (f.decode c).isFin

/-- A block pair that R218 admits. -/
def wfPairOk (fmt : Nat) (f : Fmt) (bs : List Byte) : Bool :=
  let field := ofLe (bs.drop 2)
  decide (leAt bs 0 1 ≠ 0xFF) && (List.range 64).all fun i => elemFinite f (packedElem (wfWidth fmt) field i)

/-- Pieces of `n` bytes. -/
def chunksOf (n : Nat) (bs : List Byte) : List (List Byte) :=
  (List.range ((bs.length + n - 1) / max 1 n)).map fun i => (bs.drop (i * n)).take n

/-- Content that a WF tensor may have (R218); other formats have no condition. -/
def contentOk (fmt : Nat) (bs : List Byte) : Bool := match wfElem fmt with
  | none => true
  | some f => (chunksOf (wfPair fmt) bs).all (wfPairOk fmt f)

/-- SIZE is a whole number of tiles. -/
def tilesOk (fmt size : Nat) : Bool := (wfElem fmt).isNone || decide (size % (64 * wfPair fmt) = 0)

/-! ### MX -/

/-- An element scaled by 2^−k and rounded to nearest even in its format: the code, and whether the value changed. -/
def scaleElem (f : Fmt) (c k : Nat) : Nat × Bool := match f.decode c with
  | .fin n m e =>
    let x := e - (k : Int)
    let (m', q) := roundFin f m x
    (f.encode (.fin n m' q), decide (scaled false m' q (min q x) ≠ scaled false m x (min q x)))
  | _ => (c, false)

/-- Pack element codes of `w` bits. -/
def packElems (w : Nat) (l : List Nat) : Nat := (l.zipIdx).foldl (fun a (c, i) => a + c * 2 ^ (w * i)) 0

/-- One block of 32 elements under the shared scale `e`: its sub-scale, its element codes, how many values changed. -/
def mxBlock (fmt : Nat) (f : Fmt) (e : Nat) (bs : List Byte) : Nat × List Nat × Nat :=
  let d := e - leAt bs 0 1
  let field := ofLe (bs.drop 1)
  let codes := (List.range 32).map (packedElem (wfWidth fmt) field)
  if d ≤ 3 then (d, codes, 0)
  else
    let r := codes.map fun c => scaleElem f c (d - 3)
    (3, r.map (·.1), (r.filter (·.2)).length)

/-- Two MX blocks as a WF block pair, and the elements whose value changed (R226). -/
def mxPair (fmt : Nat) (f : Fmt) (bs : List Byte) : List Byte × Nat :=
  let n := wfPair fmt / 2
  let a := bs.take n
  let b := bs.drop n
  let e := max (leAt a 0 1) (leAt b 0 1)
  let (sa, ca, la) := mxBlock fmt f e a
  let (sb, cb, lb) := mxBlock fmt f e b
  (leBytes 1 e ++ leBytes 1 (sa + sa * 4 + sb * 16 + sb * 64) ++ leBytes (8 * wfWidth fmt) (packElems (wfWidth fmt) (ca ++ cb)), la + lb)

/-- An MX block that R226 admits. -/
def mxBlockOk (fmt : Nat) (f : Fmt) (bs : List Byte) : Bool :=
  let field := ofLe (bs.drop 1)
  decide (leAt bs 0 1 ≠ 0xFF) && (List.range 32).all fun i => elemFinite f (packedElem (wfWidth fmt) field i)

/-! ### The lossless container -/

/-- The header and the index of a container hold (R227, R229). `fmt`: the command's, none on a reload. -/
def containerOk (bs : List Byte) (fmt : Option Nat) (size : Nat) : Bool :=
  let n := bs.length
  let blocks := leAt bs 0x0C 4
  let entry := fun b => leAt bs (0x40 + 4 * b) 4
  decide (64 ≤ n) && decide (leAt bs 0 4 = 0x5A254C43) && decide (leAt bs 4 2 = 0x0100) &&
  decide (leAt bs 0x1C 4 = crc32c (bs.take 0x1C)) && decide (leAt bs 7 1 = 0 ∧ leAt bs 0x18 4 = 0 ∧ leAt bs 0x20 32 = 0) &&
  fmtKnown (leAt bs 6 1) && decide (leAt bs 6 1 ≤ 0xC) && (match fmt with | some f => decide (leAt bs 6 1 = f) | none => true) &&
  decide (leAt bs 8 4 = size ∧ leAt bs 0x14 4 = n ∧ blocks = (size + 4095) / 4096 ∧ leAt bs 0x10 4 = 0x40) &&
  decide (0x40 + 4 * blocks ≤ n) &&
  (List.range blocks).all fun b =>
    decide (entry b % 8 = 0 ∧ 0x40 + 4 * blocks ≤ entry b ∧ (b = 0 ∨ entry (b - 1) < entry b) ∧ entry b + 8 ≤ n)

/-- Code lengths of the 256 byte values (R228). -/
def codeLengths (bs : List Byte) : List Nat := (List.range 256).map fun v => leAt bs (v / 2) 1 / 16 ^ (v % 2) % 16

/-- Symbols with codes of length `n`, in rising order. -/
def symbolsOf (lens : List Nat) (n : Nat) : List Nat := ((lens.zipIdx).filter fun x => x.1 = n).map (·.2)

/-- Codes of each length do not over-subscribe the code space. -/
def lengthsOk (lens : List Nat) : Bool :=
  decide (((List.range 15).map fun i => (symbolsOf lens (i + 1)).length * 2 ^ (14 - i)).foldl (· + ·) 0 ≤ 2 ^ 15)

/-- Read one canonical code, most significant bit first: `tabs` lists the symbols of each length still to try, `first` the first
code of that length. The symbol and the bits left. -/
def readCode : List (List Nat) → Nat → Nat → List Bool → Option (Nat × List Bool)
  | syms :: tabs, first, code, b :: bits =>
    let c := 2 * code + b2n b
    match if c < first then none else syms[c - first]? with
    | some v => some (v, bits)
    | none => readCode tabs (2 * (first + syms.length)) c bits
  | _, _, _, _ => none

/-- Read `n` codes. -/
def readCodes (tabs : List (List Nat)) : Nat → List Bool → Option (List Byte × List Bool)
  | 0, bits => some ([], bits)
  | n + 1, bits => match readCode tabs 0 0 bits with
    | none => none
    | some (v, rest) => (readCodes tabs n rest).map fun r => (BitVec.ofNat 8 v :: r.1, r.2)

/-- The bits of a stream, from bit 0 of each byte upward. -/
def streamBits (bs : List Byte) : List Bool := bs.flatMap fun b => (List.range 8).map fun i => b.getLsbD i

/-- The `l` bytes of a coded payload; none on a failed check. -/
def expandCoded (payload : List Byte) (l : Nat) : Option (List Byte) :=
  let lens := codeLengths payload
  if payload.length < 128 ∨ l ≤ payload.length ∨ ¬ lengthsOk lens then none
  else match readCodes ((List.range 15).map fun i => symbolsOf lens (i + 1)) l (streamBits (payload.drop 128)) with
    | none => none
    | some (bs, rest) => if rest.length < 8 ∧ rest.all (!·) then some bs else none

/-- The `l` bytes of the block at `off`, whose space ends at `lim`, and whether it was raw. -/
def expandBlock (bs : List Byte) (off lim l : Nat) : Option (List Byte × Bool) :=
  let hd := leAt bs off 8
  let stored := hd % 2 ^ 13
  let raw := hd.testBit 13
  let payload := (bs.drop (off + 8)).take stored
  if stored = 0 ∨ 4096 < stored ∨ lim < off + 8 + stored ∨ hd / 2 ^ 14 % 2 ^ 18 ≠ 0 then none
  else
    let img := if raw then (if stored = l then some payload else none) else expandCoded payload l
    match img with
    | some x => if crc32c x = hd / 2 ^ 32 then some (x, raw) else none
    | none => none

/-- The image of a container whose header and index hold, with the blocks expanded raw; none in place of the image when a block
fails. -/
def expandBlocks (bs : List Byte) (size : Nat) : Nat → Nat → Option (List Byte) × Nat
  | 0, _ => (some [], 0)
  | n + 1, b =>
    let off := leAt bs (0x40 + 4 * b) 4
    let lim := if n = 0 then bs.length else leAt bs (0x40 + 4 * (b + 1)) 4
    match expandBlock bs off lim (min 4096 (size - 4096 * b)) with
    | none => (none, 0)
    | some (x, raw) =>
      let (rest, k) := expandBlocks bs size n (b + 1)
      (rest.map fun r => x ++ r, k + b2n raw)

/-! ### A load -/

/-- What the engine makes of the source: a completion code, 0 OK; the image; elements changed; blocks expanded raw. -/
structure Conversion where
  code : Nat
  image : List Byte
  lossy : Nat
  raws : Nat
  deriving DecidableEq, Repr

/-- Check and convert the bytes of a source for a tensor of SIZE bytes. `fmt` none: a copy whose format no command names. -/
def convert (fmt : Option Nat) (container : Bool) (size : Nat) (bs : List Byte) : Conversion :=
  if container then
    if ¬ containerOk bs fmt size then ⟨0x0C, [], 0, 0⟩
    else
      let (img, raws) := expandBlocks bs size ((size + 4095) / 4096) 0
      match img with
      | none => ⟨0x27, [], 0, raws⟩
      | some x =>
        if contentOk (leAt bs 6 1) x && tilesOk (leAt bs 6 1) size then ⟨0, x, 0, raws⟩ else ⟨0x0C, [], 0, raws⟩
  else match fmt with
    | none => ⟨0, bs, 0, 0⟩
    | some f =>
      if !tilesOk (t1Fmt f) size then ⟨0x0C, [], 0, 0⟩
      else if isMx f then
        match wfElem (t1Fmt f) with
        | none => ⟨0x0C, [], 0, 0⟩
        | some el =>
          if bs.length = size ∧ (chunksOf (wfPair (t1Fmt f) / 2) bs).all (mxBlockOk (t1Fmt f) el) then
            let ps := (chunksOf (wfPair (t1Fmt f)) bs).map (mxPair (t1Fmt f) el)
            ⟨0, ps.flatMap (·.1), (ps.map (·.2)).foldl (· + ·) 0, 0⟩
          else ⟨0x0C, [], 0, 0⟩
      else if contentOk f bs then ⟨0, bs, 0, 0⟩ else ⟨0x0C, [], 0, 0⟩

end Sys2Proof.Machine
end

