-- ==== Sys2Proof/Machine/Moves.lean ====
section
/-!
DEFINITION. Migration between T1 and T2 (R160 to R165, R373, R546): what a move reads and writes, how moves wait for the T2 DMA
engines, and what a complete move changes at a step boundary.
-/
namespace Sys2Proof.Machine

/-! ### T2 space (R160) -/

/-- Units of T2 that a warm mirror keeps: for every group that its MAX_LEN can need (log 64). -/
def MirrorEntry.warmUnits (m : MirrorEntry) : Nat :=
  let blocks := (leAt m.image 0x20 4 % 2 ^ 23 + 63) / 64
  (blocks * m.dir.heads.length * m.dir.layers * (128 * rowBytes m.dir.format m.dir.dim) + 4095) / 4096

/-- Runs of 4 KiB units of a region that tensors and moves use: (first, number). -/
def t2Taken (s : State) (r : Nat) : List (Nat × Nat) :=
  (s.tensors.filterMap fun t =>
    if (t.2.tier = 2 ∨ t.2.t2copy ∨ t.2.tier = 3) ∧ t.2.region = r ∧ 0 < t.2.t2size then
      some (t.2.t2off / 4096, if t.2.grouped then t.2.t2size else (t.2.t2size + 4095) / 4096)
    else none) ++
  (if fld (inForceReg s Reg.devTwinCfg) 16 10 = r then s.mirrors.filterMap fun m =>
      if m.2.hot then none else some (m.2.warmAt / 4096, m.2.warmUnits) else []) ++
  s.moves.filterMap fun m => if m.region = r ∧ 0 < m.len then some (m.off / 4096, (m.len + 4095) / 4096) else none

/-- `n` units from `at_` of a region are free. -/
def t2Free (s : State) (r n at_ : Nat) : Bool :=
  decide (at_ + n ≤ (s.region r).pages) && (t2Taken s r).all fun t => decide (t.1 + t.2 ≤ at_ ∨ at_ + n ≤ t.1)

/-- Regions of a partition on its port. -/
def t2Regions (s : State) (n : Nat) : List Nat :=
  (List.range 1024).filter fun r =>
    let g := s.region r
    g.valid && !g.devOwned && decide (g.part = n) && decide (g.port = getFld s (Reg.partCfg n) 2 1)

/-- A run of `n` units for a partition: the manual does not say which, so a free value chooses; where it names no free run, the
lowest one. -/
def t2Alloc (s : State) (n units : Nat) : Option (Nat × Nat × State) :=
  let (v, s1) := drawFree s
  let rs := (t2Regions s n).filter fun r => (List.range ((s.region r).pages + 1)).any (t2Free s r units)
  match rs with
  | [] => none
  | r0 :: _ =>
    let r := rs.getD (v.toNat % rs.length) r0
    let want := v.toNat / rs.length % ((s.region r).pages + 1)
    if t2Free s r units want then some (r, want * 4096, s1)
    else ((List.range ((s.region r).pages + 1)).find? (t2Free s r units)).map fun a => (r, a * 4096, s1)

/-! ### Images (R546) -/

/-- Bytes of one page as moved. -/
def pageBytes (d : Directory) : Nat := 128 * rowBytes d.format d.dim

/-- The pages of the groups, head by head, entry by entry, layer by layer. -/
def groupsImage (s : State) (d : Directory) (gs : List (Nat × Nat × Nat)) : List Byte :=
  gs.flatMap fun g => (List.range d.layers).flatMap fun l => readT1 s (grpAddr g.2.2 l 0) (pageBytes d)

/-- Put an image into groups placed for it. -/
def putImage (s : State) (d : Directory) (gs : List (Nat × Nat × Nat)) (bs : List Byte) : State :=
  let n := pageBytes d
  ((gs.flatMap fun g => (List.range d.layers).map fun l => (g.2.2, l)).zipIdx).foldl
    (fun s ((g, l), i) => dataWrite s (grpAddr g l 0) ((bs.drop (i * n)).take n)) s

/-- Units of a request's T2 image. -/
def imageUnits (e : Entry) : Nat := (e.dir.privateGroups.length * e.dir.layers * pageBytes e.dir + 4095) / 4096

/-! ### Engines (R164) -/

/-- A move is one into T1. -/
def MoveKind.intoT1 : MoveKind → Bool
  | .load | .toT1 | .reqToT1 | .resume | .swapIn | .reload => true
  | .toT2 | .copyT2 | .park | .preempt | .reqToT2 => false

/-- The order in which engines serve waiting moves: class, then 16 less priority, deadline, arrival. -/
def moveRank (s : State) (m : Move) : Nat × Nat × Nat × Nat :=
  let e := s.entry (m.handle - 0x18000)
  match m.kind with
  | .resume | .swapIn | .reqToT1 => (0, 16 - e.priority, e.deadline.toNat, m.id)
  | .reload => (1, 0, 0, m.id)
  | .load | .toT1 | .toT2 | .copyT2 | .reqToT2 => (2, 0, 0, m.id)
  | .park | .preempt => (3, 0, 0, m.id)

def rankLt (a b : Nat × Nat × Nat × Nat) : Bool :=
  decide (a.1 < b.1) || (decide (a.1 = b.1) && (decide (a.2.1 < b.2.1) || (decide (a.2.1 = b.2.1) &&
    (decide (a.2.2.1 < b.2.2.1) || (decide (a.2.2.1 = b.2.2.1) && decide (a.2.2.2 < b.2.2.2))))))

/-- HUB_MIG_STATUS shows the moves of each hub. -/
def refreshMig (s : State) : State :=
  let one := fun (s : State) (h : Half) =>
    let mine := s.moves.filter fun m => m.hub = h ∧ ¬ m.finished
    let busy := (mine.filter (·.running)).length
    putFld (putFld s (Reg.hubMigStatus h.idx) 0 4 busy) (Reg.hubMigStatus h.idx) 4 12 (min 4095 (mine.length - busy))
  one (one s .west) .east

/-- Replace a move. -/
def setMove (s : State) (m : Move) : State := { s with moves := s.moves.map fun x => if x.id = m.id then m else x }

/-- The bytes that a move to T2 writes. -/
def outImage (s : State) (m : Move) : List Byte :=
  match requestOf m.handle with
  | some i => groupsImage s (s.entry i).dir (s.entry i).dir.privateGroups
  | none => readExtent s (s.tensor m.handle).t1map 0 (s.tensor m.handle).size

/-- The record of a move that begins or ends: kind 9 or 10, in its hub (R510, Table 15.5). -/
def traceMove (s : State) (m : Move) (kind : Nat) : State :=
  let req := match requestOf m.handle with
    | some i => reqField i
    | none => 0
  trace s (22 + m.hub.idx) { TraceRec.blank 0 with kind := kind, part := (s.tensor m.handle).owner, req := req, index := m.handle }

/-- The memory dies that a move reads or writes. -/
def moveDies (s : State) (m : Move) : List Nat := match requestOf m.handle, m.kind.intoT1 with
  | some _, true => m.groups.map fun g => grpDie g.2.2
  | some i, false => (s.entry i).dir.privateGroups.map fun g => grpDie g.2.2
  | none, true => [mapDie m.t1map]
  | none, false => [mapDie (s.tensor m.handle).t1map]

/-- An engine begins a move: its reads go out in 4 KiB requests, or its writes and then the zero-length read that flushes them. -/
def beginMove (s : State) (m : Move) : State :=
  let s1 := (moveDies s m).foldl wakeMem (traceMove (setMove s { m with running := true }) m 9)
  if m.kind.intoT1 then
    (List.range ((m.len + 4095) / 4096)).foldl (fun s k =>
      regionRead s m.region (m.off + 4096 * k) (min 4096 (m.len - 4096 * k))) s1
  else
    let bs := outImage s m
    let s2 := ((pieces 4096 (bs.length + 1) bs).zipIdx).foldl (fun s (b, k) => regionWrite s m.region (m.off + 4096 * k) b) s1
    regionRead s2 m.region m.off 0

/-- The waiting move of a hub that comes first. -/
def nextMove (s : State) (h : Half) : Option Move :=
  (s.moves.filter fun m => m.hub = h ∧ ¬ m.running ∧ ¬ m.finished).foldl (fun best m => match best with
    | none => some m
    | some b => if rankLt (moveRank s m) (moveRank s b) then some m else some b) none

/-- Start moves on the engines of a hub that are idle, while its link is up and no stop pauses them (R517, R518). -/
def startMovesOn : Nat → State → Half → State
  | 0, s, _ => s
  | fuel + 1, s, h =>
    if portStopped s h.idx ∨ 3 ≤ stopState s ∨ 8 ≤ (s.moves.filter fun m => m.hub = h ∧ m.running ∧ ¬ m.finished).length then s
    else match nextMove s h with
      | none => s
      | some m => startMovesOn fuel (beginMove s m) h

def startMoves (s : State) : State := refreshMig (startMovesOn 8 (startMovesOn 8 s .west) .east)

/-- Queue a move. -/
def addMove (s : State) (kind : MoveKind) (handle region off len fmt : Nat) (container : Bool) (t1map : Word)
    (groups : List (Nat × Nat × Nat)) (cmd : Option Cmd) : State :=
  let hub : Half := if (s.region region).port = 0 then .west else .east
  let m : Move := ⟨s.moveNext, kind, handle, hub, region, off, len, fmt, container, t1map, groups, [], false, false, 0, cmd⟩
  startMoves { s with moves := s.moves ++ [m], moveNext := s.moveNext + 1 }

/-- The command that a move completes. -/
def completeMove (s : State) (m : Move) (code : Nat) : State := match m.cmd with
  | some c => complete s c code 0
  | none => s

/-- Remove a move. -/
def dropMove (s : State) (id : Nat) : State := refreshMig { s with moves := s.moves.filter fun m => m.id ≠ id }

/-! ### Moves of requests (R156, R158, R373 to R375) -/

/-- The GROUPED tensor of entry `i` is MOVING, and the request skips. -/
def setMoving (s : State) (i : Nat) (on : Bool) : State :=
  let h := kvHandle i
  let t := s.tensor h
  (s.setTensor h (retier t (if on then 3 else 1) t.t1map)).skipEntry i skMoving on

/-- Start a move of a request to T2; none when no T2 run is free (R160). -/
def moveOut (s : State) (i : Nat) (kind : MoveKind) (cmd : Option Cmd) : Option State :=
  let e := s.entry i
  (t2Alloc s e.partition (imageUnits e)).map fun (r, off, s1) =>
    addMove (setMoving s1 i true) kind (kvHandle i) r off (imageUnits e * 4096) 0 false 0 [] cmd

/-- The directory layout in which a request's pages return: by PHASE (R373). -/
def layoutOf (s : State) (e : Entry) : ImpoRecord :=
  if e.phase = 1 ∧ ¬ e.turnPending then decodeRecord s e.partition else prefillRecord s e.partition

/-- Slots that a request's return needs. -/
def returnSlots (e : Entry) : Nat := e.parked.length * e.dir.layers

/-- Groups for the return of a parked request, with the directory that lists them; none when slots lack. A SHARED request takes only
slots that are in no pool (R155, R156). -/
def returnPlace (s : State) (i : Nat) : Option (Directory × State) :=
  let e := s.entry i
  let bare := e.parked.foldl (fun (d : Directory) x => d.drop x.1 x.2) e.dir
  if e.cls = 1 ∧ freeSlots s < returnSlots e then none
  else placeReclaim (nodeFuel s) s (quireOf s e.partition) (layoutOf s e) [] bare e.parked

/-- Start a move of a request back to T1, when slots are found. -/
def moveIn (s : State) (i : Nat) (kind : MoveKind) (cmd : Option Cmd) : Option State :=
  (returnPlace s i).map fun (d, s0) =>
    let e := s0.entry i
    let t := s0.tensor (kvHandle i)
    let gs := e.parked.map fun x => (x.1, x.2, Map.get zeroAt (d.head x.1).list x.2)
    addMove (setMoving s0 i true) kind (kvHandle i) t.region t.t2off (t.t2size * 4096) 0 false 0 gs cmd

/-- READY or PREFILL by PHASE; a request whose turn is pending is PREFILL (R21). -/
def byPhase (e : Entry) : Nat := if e.phase = 1 ∧ ¬ e.turnPending then 3 else 2

/-- The private groups of a parked request: VALID 0 in the head lists, the slots free (R373). -/
def unlistPages (e : Entry) : Entry :=
  { e with
    parked := e.dir.privateGroups.map fun g => (g.1, g.2.1)
    dir := { e.dir with heads := e.dir.heads.map fun hl => { hl with list := hl.list.filter fun x => grpShared x.2 } } }

/-- A move of a request to T2 is complete (Table 11.4). -/
def outDone (s : State) (m : Move) (i : Nat) : State :=
  let e := s.entry i
  let sp := e.dir.privateGroups.map fun g => groupSpan g.2.2 e.dir.layers
  let t := s.tensor (kvHandle i)
  let s1 := scrubFreed (s.setTensor (kvHandle i)
    { retier t 2 t.t1map with region := m.region, t2off := m.off, t2size := m.len / 4096 }) sp
  let swapped := m.kind = .preempt
  let e1 := (unlistPages { e with state := if swapped then 7 else 6, turnPending := e.turnPending, turn := none }).skip skMoving false
  let s2 := report (s1.setEntry i e1) i (if swapped then rfSwapped else rfParked)
  twinChange (count s2 (if swapped then Reg.galPreempts else Reg.galParks) 1) i

/-- A move of a request back to T1 is complete. -/
def inDone (s : State) (m : Move) (i : Nat) : State :=
  let e := s.entry i
  let bare := e.parked.foldl (fun (d : Directory) x => d.drop x.1 x.2) e.dir
  let d := Directory.inLayout (m.groups.foldl (fun (d : Directory) g => d.put g.1 g.2.1 g.2.2) bare) (layoutOf s e)
  let t := s.tensor (kvHandle i)
  let s1 := s.setTensor (kvHandle i) { retier t 1 t.t1map with region := 0, t2off := 0, t2size := 0 }
  let paused := (m.kind = .reqToT1 ∧ e.state = 6) ∨ (e.pausePending ∧ e.state = 7)
  let e1 := ({ e with dir := d, parked := [], state := if paused then 5 else byPhase e, resumePending := false }).skip skMoving false
  let s2 := s1.setEntry i e1
  let s3 := if paused then s2 else report s2 i rfReturned
  twinChange (if m.kind = .swapIn then count s3 Reg.galSwapins 1 else s3) i

/-- The number by which a tensor that awaits its contents holds the trigger (R135, R148). -/
def weightHold (h : Nat) : Nat := 2000 + h

/-- A tensor has its contents again. -/
def tensorWhole (s : State) (h : Nat) : State :=
  let s1 := s.setTensor h { s.tensor h with damaged := false }
  { s1 with steps := { s1.steps with holds := s1.steps.holds.filter (· ≠ weightHold h) } }

/-- A complete move takes effect at the boundary (R161). -/
def moveDone (s : State) (id : Nat) : State :=
  match s.moves.find? fun m => m.id = id with
  | none => s
  | some m =>
    let t := s.tensor m.handle
    let s1 := match m.kind, requestOf m.handle with
      | .load, _ =>
        let keep := m.cmd.any fun c => (leAt c.bytes 0x15 1).testBit 1
        s.setTensor m.handle (if keep then { retier t 1 m.t1map with t2copy := true }
          else { retier t 1 m.t1map with region := 0, t2off := 0, t2size := 0 })
      | .toT1, _ => s.setTensor m.handle { retier t 1 m.t1map with region := 0, t2off := 0, t2size := 0 }
      | .reload, _ => tensorWhole s m.handle
      | .toT2, _ => (scrubFreed s (extentSpans t.t1map t.size)).setTensor m.handle
          { retier t 2 0 with t2copy := false, region := m.region, t2off := m.off, t2size := t.size }
      | .copyT2, _ => s.setTensor m.handle { retier t 1 t.t1map with t2copy := true, region := m.region, t2off := m.off, t2size := t.size }
      | .park, some i | .preempt, some i | .reqToT2, some i => outDone s m i
      | .resume, some i | .swapIn, some i | .reqToT1, some i => inDone s m i
      | _, none => s
    completeMove (startMoves (dropMove (traceMove s1 m 10) id)) m 0

/-- A move fails: the tensor keeps its tier and contents; its owning request ends with the code, or the command completes with it
(R161, R162). `code` 0x28 TIER_LATE, 0x27 TIER_FAULT, 0x22 MEM_POISONED, others for a refused source. -/
def moveFail (s : State) (id code : Nat) : State :=
  match s.moves.find? fun m => m.id = id with
  | none => s
  | some m =>
    let t := s.tensor m.handle
    let back := match m.kind with
      | .load => 0
      | .toT1 => 2
      | .toT2 | .copyT2 | .park | .preempt => 1
      | .reqToT2 => 1
      | .reload => t.tier
      | .reqToT1 | .resume | .swapIn => 2
    let s0 := traceMove s m 10
    let s1 := if back = 0 then freeHandle s0 m.handle
      else if back = t.tier then s0 else s0.setTensor m.handle (retier t back t.t1map)
    let s2 := dropMove s1 id
    let s3 := match requestOf m.handle with
      | some i => raiseEnd ((s2.setEntry i { s2.entry i with resumePending := false }).skipEntry i skMoving false) i code
      | none => s2
    let s4 := if code = 0x28 then count s3 (Reg.hubMigLate m.hub.idx) 1
      else if code = 0x27 then count s3 (Reg.hubMigFault m.hub.idx) 1 else s3
    startMoves (completeMove s4 m code)

end Sys2Proof.Machine
end

