-- ==== Sys2Proof/Machine/Sip.lean ====
section
/-!
DEFINITION. SipHash-2-4, the hash of prefix blocks (R367), of the sampler's draws (R224) and of the owner digest (Table 12.10).
-/
namespace Sys2Proof.Machine

/-- The four words of the hash state. -/
structure Sip where
  a : Word
  b : Word
  c : Word
  d : Word
  deriving DecidableEq, Repr

/-- One SipRound. -/
def Sip.round (v : Sip) : Sip :=
  let a1 := v.a + v.b
  let b1 := v.b.rotateLeft 13 ^^^ a1
  let a2 := a1.rotateLeft 32
  let c1 := v.c + v.d
  let d1 := v.d.rotateLeft 16 ^^^ c1
  let a3 := a2 + d1
  let d2 := d1.rotateLeft 21 ^^^ a3
  let c2 := c1 + b1
  let b2 := b1.rotateLeft 17 ^^^ c2
  ⟨a3, b2, c2.rotateLeft 32, d2⟩

/-- Take in one word of the message: two rounds. -/
def Sip.absorb (v : Sip) (m : Word) : Sip :=
  let w := (Sip.round (Sip.round { v with d := v.d ^^^ m }))
  { w with a := w.a ^^^ m }

/-- The words of a message, the last one holding its length modulo 256 in its top byte. -/
def sipWords (bs : List Byte) : List Word :=
  let full := bs.length / 8
  (List.range full).map (fun i => word (leAt bs (8 * i) 8)) ++
    [word (leAt bs (8 * full) 8 % 2 ^ 56 + bs.length % 256 * 2 ^ 56)]

/-- SipHash-2-4 of a message under the key (k0 low, k1 high). -/
def sipHash (k0 k1 : Word) (bs : List Byte) : Word :=
  let v : Sip := ⟨k0 ^^^ 0x736f6d6570736575, k1 ^^^ 0x646f72616e646f6d, k0 ^^^ 0x6c7967656e657261, k1 ^^^ 0x7465646279746573⟩
  let v1 := (sipWords bs).foldl Sip.absorb v
  let v2 := (Sip.round (Sip.round (Sip.round (Sip.round { v1 with c := v1.c ^^^ 0xff }))))
  v2.a ^^^ v2.b ^^^ v2.c ^^^ v2.d

end Sys2Proof.Machine
end

