-- ==== Sys2Proof/Machine/Galley.lean ====
section
/-!
DEFINITION. Host commands of the galley (R345 to R354, R358, R372 to R377): acceptance, and what each does when it acts; the prefix
match (R368); turns (R329).
-/
namespace Sys2Proof.Machine

/-! ### Acceptance (R350 to R352) -/

/-- Bits of each operand byte that Table 11.6a gives a meaning, from 0x10. -/
def operandMask (op : Nat) (inline : Bool) (count : Nat) : List Nat :=
  let ff := fun (n : Nat) => List.replicate n (0xFF : Nat)
  let zz := fun (n : Nat) => List.replicate n (0 : Nat)
  let toks := (List.range 8).flatMap fun j => if j < count then [0xFF, 0xFF, 0x0F, 0] else [0, 0, 0, 0]
  if op = 1 then [0x1F, 0x1F] ++ ff 4 ++ [0x7F, 0] ++ ff 24 ++ [0xFF, 0xFF, 0x0F]
  else if op = 2 ∨ op = 3 then
    [if op = 2 then 3 else 2] ++ zz 3 ++ ff 4 ++ (if inline then zz 8 ++ toks else [0xFF, 3] ++ zz 6 ++ ff 8)
  else if op = 7 then [0xFF, 0xFF, 1, 0, 0x1F, 0x0F, 3, 0] ++ ff 16 ++ [0xFF, 3] ++ zz 6 ++ ff 8
  else if op = 8 then [0xFF, 0xFF, 1, 0, 3] ++ zz 11 ++ (if count = 1 then ff 8 else [])
  else if op = 9 then [0x3F, 0x1F, 0xFF, 0xFF, 7] ++ zz 3 ++ ff 24
  else []

/-- A byte operand of a command, and longer ones. -/
def Cmd.op8 (c : Cmd) (off : Nat) : Nat := leAt c.bytes off 1
def Cmd.op16 (c : Cmd) (off : Nat) : Nat := leAt c.bytes off 2
def Cmd.op32 (c : Cmd) (off : Nat) : Nat := leAt c.bytes off 4
def Cmd.op64 (c : Cmd) (off : Nat) : Nat := leAt c.bytes off 8

def Cmd.inline (c : Cmd) : Bool := decide ((c.opcode = 2 ∨ c.opcode = 3) ∧ c.op8 0x10 / 2 % 2 = 1)

/-- TEMP of R222: 0, or finite from 0.01 to 100, by its FP32 code; TOP_P above 0 and at most 1. -/
def tempOk (t : Nat) : Bool := decide (t = 0 ∨ t = 0x80000000 ∨ (0x3C23D70A ≤ t ∧ t ≤ 0x42C80000))
def topPOk (p : Nat) : Bool := decide (1 ≤ p ∧ p ≤ 0x3F800000)

/-- Fields that a SET_CLASS MASK does not select must be 0: (MASK bit, offset, size, bit position, width). -/
def setClassFields : List (Nat × Nat × Nat × Nat × Nat) :=
  [(0, 0x11, 1, 4, 1), (1, 0x11, 1, 0, 4), (2, 0x18, 8, 0, 64), (3, 0x12, 2, 0, 16), (3, 0x20, 8, 0, 64), (3, 0x28, 4, 0, 32),
   (3, 0x2C, 4, 0, 32), (4, 0x14, 1, 0, 1), (5, 0x14, 1, 1, 2)]

/-- A T1_MAP whose fields lie in their ranges (Table 5.4). -/
def mapWellFormed (m : Word) : Bool :=
  decide (fld m 39 9 = 0 ∧ mapBase m % 65536 = 0 ∧ 12 ≤ mapStripe m ∧ mapStripe m ≤ 20 ∧ mapMask m ≠ 0)

/-- Offset of the first byte that breaks a range of Table 11.6a; none when all hold. -/
def rangeFault (c : Cmd) : Option Nat :=
  let first := fun (l : List (Bool × Nat)) => (l.find? fun x => x.1).map fun (x : Bool × Nat) => x.2
  let n := c.op32 0x14
  match c.opcode with
  | 1 => first [(c.op8 0x10 / 4 % 4 = 3, 0x10), (c.op16 0x12 = 0 ∨ 256 < c.op16 0x12, 0x12), (n = 0 ∨ 4194304 < n, 0x14),
      (!tempOk (c.op32 0x28), 0x28), (!topPOk (c.op32 0x2C), 0x2C)]
  | 2 => first [(n = 0 ∨ (if c.inline then 8 else 4194304) < n, 0x14), (!c.inline && c.op64 0x20 % 4 ≠ 0, 0x20)]
  | 3 => first [(n = 0 ∨ (if c.inline then 8 else 63) < n, 0x14), (!c.inline && c.op64 0x20 % 4 ≠ 0, 0x20)]
  | 7 =>
    let mx := 0x10 ≤ c.op8 0x14
    let fl := c.op8 0x15
    let m := word (c.op64 0x20)
    first [(!fmtKnown (c.op8 0x14), 0x14), (fl.testBit 3 && fl.testBit 0, 0x15), (mx ∧ (fl.testBit 0 ∨ fl.testBit 1), 0x15),
      (c.op8 0x16 = 1 ∨ c.op8 0x16 = 2 ∨ (c.op8 0x16 = 3 ∧ ¬ c.driver), 0x16), (c.op32 0x18 = 0 ∨ 2 ^ 31 < c.op32 0x18, 0x18),
      (!mapWellFormed m, 0x20), (c.op64 0x30 % 4096 ≠ 0, 0x30)]
  | 8 => first [(c.valid ∧ c.op32 0x10 ≠ 0, 0x10),
      (decide (¬ c.valid ∧ c.op8 0x14 = 1) && !mapWellFormed (word (c.op64 0x20)), 0x20)]
  | 9 =>
    let m := c.op8 0x10
    first ((setClassFields.map fun (b, off, sz, lo, w) =>
      (!m.testBit b && decide (leAt c.bytes off sz / 2 ^ lo % 2 ^ w ≠ 0), off)) ++
      ([(m.testBit 3 ∧ (c.op16 0x12 = 0 ∨ 256 < c.op16 0x12), 0x12), (m.testBit 5 ∧ c.op8 0x14 / 2 = 3, 0x14),
       (m.testBit 3 && !tempOk (c.op32 0x28), 0x28), (m.testBit 3 && !topPOk (c.op32 0x2C), 0x2C)] : List (Bool × Nat)))
  | _ => none

/-- Offset of the first malformed byte of a command (R351); none when it is well formed. -/
def badByte (c : Cmd) : Option Nat :=
  let op := c.opcode
  if op = 0 ∨ 9 < op then some 0
  else if leAt c.bytes 2 2 ≠ 0 then some 2
  else if leAt c.bytes 14 2 ≠ 0 then some 14
  else if op ≠ 8 ∧ c.valid ≠ (op ≠ 1 ∧ op ≠ 7) then some 13
  else if ¬ c.valid ∧ c.req ≠ 0 then some 12
  else
    let count := if op = 8 then (if ¬ c.valid ∧ c.op8 0x14 = 1 then 1 else 0) else c.op32 0x14
    let mask := operandMask op c.inline count
    match (List.range 48).find? fun i => (c.op8 (0x10 + i) &&& (0xFF - mask.getD i 0)) ≠ 0 with
    | some i => some (0x10 + i)
    | none => rangeFault c

/-- States in which a command that names a request is accepted (R345, R377, Table 11.4); IN_STEP where it acts after the close.
DEDUCED, log 23: PROMPT in PREFILL, where R361 and R368 act on it and Table 11.4 has no row. -/
def acceptStates (c : Cmd) : List Nat :=
  match c.opcode with
  | 2 => [1, 2, 3, 4]
  | 3 => [3, 4]
  | 4 => [2, 3, 4, 7]
  | 5 => [5, 6]
  | 6 => [1, 2, 3, 4, 5, 6, 7]
  | 8 => if c.op8 0x14 = 0 then [3, 4, 5] else if c.op8 0x14 = 1 then [6, 7] else []
  | 9 => [1, 2, 3, 4, 5, 6, 7]
  | _ => []

/-- A malformed command: captured and refused (R351). -/
def refuseMalformed (s : State) (c : Cmd) (off : Nat) : State :=
  let hub := getFld s (Reg.partCfg c.part) 2 1
  complete (capture s Reg.galBlk 0x0420 hub c.part 0 (c.opcode + off % 256 * 2 ^ 8 + c.id * 2 ^ 16)) c 1 0

/-- The command names a request. -/
def Cmd.names (c : Cmd) : Bool := decide (c.opcode ∈ [2, 3, 4, 5, 6, 9]) || (decide (c.opcode = 8) && c.valid)

/-- Read the tokens of a PROMPT or PROPOSE from host memory: the request skips until they arrive (R352). -/
def fetchTokens (s : State) (c : Cmd) : State :=
  let s1 := { s with arrived := s.arrived ++ [{ c with ready := false, gen := (s.entry c.req).gen }] }
  regionRead (s1.skipEntry c.req skFetch true) (c.op16 0x18) (c.op64 0x20) (4 * c.op32 0x14)

/-- The device identity of a command: the driver set carries DEVICE (R445). -/
def acceptRequest (s : State) (c : Cmd) : State :=
  let e := s.entry c.req
  if e.state = 0 ∨ e.partition ≠ c.part ∨ e.tag ≠ c.tag then
    let s1 := if e.state ≠ 0 ∧ e.partition ≠ c.part then hedgeViolation s c.part 5 c.req else s
    complete s1 c 3 0
  else if e.state ∉ acceptStates c then complete s c 4 0
  else
    let pend := fun (e : Entry) =>
      if c.opcode = 6 ∧ e.state = 4 then { e with endPending := true }
      else if c.opcode = 4 ∧ e.state = 4 then { e with pausePending := true }
      else e
    if (c.opcode = 2 ∨ c.opcode = 3) ∧ ¬ c.inline then
      if regionOk s (c.op16 0x18) (c.op64 0x20) (4 * c.op32 0x14) none c.part c.driver then fetchTokens s c
      else complete s c 0x0A 0
    else
      let toks := if c.inline then (List.range (c.op32 0x14)).map fun j => c.op32 (0x20 + 4 * j) else []
      { s.setEntry c.req (pend e) with arrived := s.arrived ++ [{ c with ready := true, gen := e.gen, tokens := toks }] }

/-- The acceptance checks of a command at its arrival (R350 to R353): refused, or waiting to act. -/
def acceptCmd (s : State) (c : Cmd) : State :=
  if leAt c.bytes 1 1 ≠ 0x10 then complete s c 2 0
  else match badByte c with
    | some off => refuseMalformed s c off
    | none => if c.names then acceptRequest s c else { s with arrived := s.arrived ++ [{ c with ready := true }] }

/-! ### Ends (R353, R355) -/

/-- A partition whose records are held: nothing that would add a record entry happens (R448). -/
def partHeld (s : State) (n : Nat) : Bool := getBit s (Reg.partState n) 2

/-- A request ends with a code: an END goes to its twin, unless the twin has taken it over; its slots become free, or with the
partition's reset are zeroed first (R137, R434, R435). -/
def endNow (s : State) (i code : Nat) : State :=
  let e := s.entry i
  let s1 := if code = 0x40 then s else twinEnd s i
  let sp := (entryRuns e).map SlotRun.span
  let s2 := endEntry s1 i code
  let s3 := if code = 0x20 ∨ code = 0x21 then wipeRuns s2 e.partition (entryRuns e) else scrubFreed s2 sp
  { s3 with home := { s3.home with declared := s3.home.declared.filter (· ≠ i), handed := s3.home.handed.filter (· ≠ i) } }

/-- The lowest end code raised. -/
def Entry.endCode (e : Entry) : Option Nat := e.ends.min?

/-- A hot twin-kept request that would end for a reason that the twin does not share: it is handed over instead (R485). -/
def handsOver (s : State) (i c : Nat) : Bool :=
  let e := s.entry i
  decide (e.twin = 1) && e.synced && mirrors s && decide (c = 0x22 ∨ c = 0x25 ∨ c = 0x26)

/-- Act on the ends raised for entry `i`, unless it runs or its partition's records are held. A request covered by a DECLARE ends
with TAKEN_OVER (R486); one that is handed over waits for its acknowledgement. -/
def settleEnd (s : State) (i : Nat) : State :=
  let e := s.entry i
  if e.state = 4 ∨ e.state = 0 ∨ e.state = 8 ∨ partHeld s e.partition then s
  else if i ∈ s.home.declared then endNow s i 0x40
  else if i ∈ s.home.handed then s
  else match e.endCode with
    | some c => if handsOver s i c then handoff s i else endNow s i c
    | none => s

/-! ### Turns (R329, R330) -/

/-- The (head, entry) pairs of private groups that a turn moves: every head of a fit turn, else those whose layouts differ. -/
def turnPairs (e : Entry) (fit : Bool) (target : ImpoRecord) : List (Nat × Nat) :=
  let same := fun h => decide (e.dir.swathLen = target.swathLen) &&
    decide ((e.dir.head h).dieMask = (target.heads.getD h ⟨0, 0, 0, 0, 0⟩).dieMask)
  (e.dir.privateGroups.filter fun g => fit || !same g.1).map fun g => (g.1, g.2.1)

/-- The layout a turn places pages in: the decode layout, for a request of PHASE 0 after a re-shard the prefill layout (R326), for a
fit turn the request's own (R321). -/
def turnTarget (s : State) (e : Entry) (fit : Bool) : ImpoRecord :=
  let r := if e.phase = 1 then decodeRecord s e.partition else prefillRecord s e.partition
  if fit then
    { r with swathLen := e.dir.swathLen, heads := (r.heads.zipIdx).map fun (h, i) => { h with dieMask := (e.dir.head i).dieMask } }
  else r

/-- Begin a turn of entry `i`: place its groups, its tensor MOVING; with nothing to copy the switch alone is left. Without slots
it waits (R156). -/
def startTurn (s : State) (i : Nat) (fit : Bool) : State :=
  let e := s.entry i
  let target := turnTarget s e fit
  let pairs := turnPairs e fit target
  let bare := Directory.inLayout (pairs.foldl (fun (d : Directory) x => d.drop x.1 x.2) e.dir) target
  match (if e.cls = 1 ∧ freeSlots s < pairs.length * e.dir.layers then none
      else placeReclaim (nodeFuel s) s (quireOf s e.partition) target [] bare pairs) with
  | some (d, s0) =>
    let e1 := { s0.entry i with turn := some (fit, d), turnDone := pairs = [], turnPending := !fit || e.turnPending, noSlotSince := none }
    let s1 := s0.setEntry i ((e1.skip (if fit then skFit else skTurn) true).skip skNoSlot false)
    if pairs = [] then s1 else setMoving s1 i true
  | none =>
    let since := match e.noSlotSince with
      | some t => some t
      | none => some s.clock.now
    s.setEntry i { e.skip skNoSlot true with noSlotSince := since }

/-- A request loses its turn (R330): the reserved slots are free again. -/
def loseTurn (s : State) (i : Nat) : State :=
  let e := s.entry i
  match e.turn with
  | none => s
  | some (fit, _) =>
    let s1 := if (s.tensor (kvHandle i)).tier = 3 then setMoving s i false else s
    s1.setEntry i { (s1.entry i).skip (if fit then skFit else skTurn) false with turn := none, turnDone := false }

/-- The copies of a turn are complete: the new layout replaces the old at the boundary and the request becomes READY (R329). -/
def turnDone (s : State) (i : Nat) : State :=
  let e := s.entry i
  match e.turn with
  | none => s
  | some (fit, d) =>
    let gone := e.dir.privateGroups.filter fun g => g ∉ d.privateGroups
    let s1 := if (s.tensor (kvHandle i)).tier = 3 then setMoving s i false else s
    let e1 := { s1.entry i with
      dir := d, turn := none, turnDone := false, fitTried := fit || e.fitTried
      turnPending := fit && e.turnPending, state := if e.state = 2 ∧ e.phase = 1 ∧ ¬ fit then 3 else e.state }
    let s2 := s1.setEntry i (e1.skip (if fit then skFit else skTurn) false)
    let s3 := scrubFreed s2 (gone.map fun g => groupSpan g.2.2 e.dir.layers)
    if fit then s3 else count s3 Reg.galTurns 1

/-! ### The prefix match (R367, R368) -/

/-- Tokens of block `b` of a token log. -/
def blockTokens (l : Map Nat) (b : Nat) : List Nat := (List.range 64).map fun j => Map.get zeroAt l (64 * b + j)

/-- The hash of a block. -/
def blockHash (t : PrefixTree) (prev : Word) (toks : List Nat) : Word :=
  sipHash t.keyLo t.keyHi (leBytes 8 prev.toNat ++ toks.flatMap (leBytes 4))

/-- The nodes of a bucket's chain. -/
def PrefixTree.chain (t : PrefixTree) : Nat → Option Nat → List Nat
  | 0, _ => []
  | _, none => []
  | fuel + 1, some k => k :: t.chain fuel (t.node k).next

/-- The chain of the bucket where a hash lands. -/
def PrefixTree.bucket (t : PrefixTree) (h : Word) : List Nat :=
  let b := Map.get (fun _ => noNode) t.buckets (h.toNat % 2 ^ t.bucketsLog2)
  t.chain (t.nodes.length + 1) (if b = noNode then none else some b)

/-- Nodes of a chain whose hash matches and whose tokens differ are collisions (R368, Table 11.14). -/
def countCollisions (s : State) (n : Nat) (t : PrefixTree) (h : Word) (b : Nat) (toks : List Nat) (ks : List Nat) : State :=
  (ks.filter fun k => (t.node k).hash = h ∧ (t.node k).tokens ≠ toks).foldl (fun s k =>
    capture (count s Reg.galPrefixColl 1) Reg.galBlk 0x0422 0 n 0 (k + b * 2 ^ 24)) s

/-- The node of block `b` under a parent. -/
def findNode (t : PrefixTree) (h : Word) (b parent : Nat) (toks : List Nat) : Option Nat :=
  (t.bucket h).find? fun k =>
    let x := t.node k
    x.valid && decide (x.hash = h ∧ x.block = b ∧ x.parent = parent ∧ x.tokens = toks)

/-- Point a request's entries of block `b` at a node's groups. -/
def listNode (d : Directory) (b : Nat) (x : PrefixNode) : Directory :=
  (x.groups.zipIdx).foldl (fun (d : Directory) (g, h) =>
    if grpValid g ∧ (d.head h).first ≤ b then d.put h (b - (d.head h).first) g else d) d

/-- A request takes a reference to node `k`. -/
def refNode (s : State) (i k b : Nat) : State :=
  let e := s.entry i
  let t := s.tree e.partition
  let x := t.node k
  (s.setTree e.partition (t.setNode k { x with refs := x.refs + 1, lastUse := s.clock.now })).setEntry i
    { e with dir := listNode e.dir b x, prefixNode := k, length := 64 * (b + 1), sharedLen := 64 * (b + 1) }

/-- Match blocks from `b` upward, up to `lim`; the answer counts those matched. -/
def matchBlocks : Nat → State → Nat → Nat → Nat × State
  | 0, s, _, _ => (0, s)
  | fuel + 1, s, i, b =>
    let e := s.entry i
    let t := s.tree e.partition
    let prev := if e.prefixNode = noNode then 0 else (t.node e.prefixNode).hash
    let toks := blockTokens e.toklog b
    let h := blockHash t prev toks
    let s1 := countCollisions s e.partition t h b toks (t.bucket h)
    match findNode t h b e.prefixNode toks with
    | none => (0, s1)
    | some k =>
      let (n, s2) := matchBlocks fuel (count (refNode s1 i k b) Reg.galPrefixHits 1) i (b + 1)
      (n + 1, s2)

/-- The prefix match of a PROMPT (R368): only while no chunk has run and LENGTH counts matched blocks alone. -/
def matchPrefix (s : State) (i : Nat) : Nat × State :=
  let e := s.entry i
  if e.noShare ∨ ¬ (s.tree e.partition).enabled ∨ e.ran ∨ e.length ≠ e.sharedLen then (0, s)
  else
    let lim := if e.promptFinal then (e.promptLen - 1) / 64 else e.promptLen / 64
    matchBlocks (lim - e.sharedLen / 64) s i (e.sharedLen / 64)

/-! ### ADMIT (R347, R348, R155, R430) -/

/-- Slots that a RESERVED request sets aside. -/
def reserveNeed (r : ImpoRecord) (maxLen : Nat) (quire : Bool) : Nat :=
  let n := (maxLen + 63) / 64 * r.layers * r.heads.length
  if quire then n + (n + 15) / 16 else n

/-- SHARED slots that eviction could release. -/
def evictable (s : State) : Nat :=
  reclaimable s + ((s.entries.filter fun e => e.2.cls = 1 ∧ (e.2.state = 3 ∨ e.2.state = 5)).map fun e => e.2.pageSlots).foldl (· + ·) 0

/-- A reservation of `need` slots can be made for a partition (R155, R157, R430). -/
def canReserve (s : State) (n need : Nat) : Bool :=
  decide (need ≤ freeSlots s + evictable s) &&
    decide (reservedHeld s (some n) + need ≤ getFld s (Reg.partPool0 n) 0 24) &&
    decide (reservedHeld s none + weightSlots s none + systemSlots s ≤ t1Slots s)

/-- The positions of a head that the serving group holds fall short of MAX_LEN (R347). -/
def lengthOver (x : ImpoSlot) (maxLen : Nat) : Bool :=
  (x.record.heads.zipIdx).any fun (h, i) =>
    let others := if x.record.groupSize ≤ 1 then 0 else Config.peerBlocks x.impoId i
    decide (64 * (h.cap + others) < maxLen)

/-- Time to live of a partition, in ns. -/
def ttlNs (s : State) (n : Nat) : Nat := getFld s (Reg.partTime n) 32 22 * 1000000000

/-- FREE entries fell below LOW_ENTRIES (Table of the galley causes). -/
def noteEntriesLow (old s : State) : State :=
  let low := fld (inForceReg s Reg.galCfg) 8 16
  if low ≤ 32768 - liveAll old ∧ 32768 - liveAll s < low then setCause s Reg.galBlk 19 else s

/-- A twin can be asked for: the device has one, and the imposition is of one device (R476). -/
def canTwin (s : State) (n : Nat) : Bool :=
  decide (s.colophon.twinSerial ≠ 0) && mirrors s && decide ((decodeRecord s n).groupSize ≤ 1)

/-- The entry that an ADMIT makes. -/
def admitted (s : State) (c : Cmd) (r : ImpoRecord) (root log aside : Nat) (gen : Nat) : Entry :=
  let fl := c.op8 0x10
  let start := fl.testBit 4
  let now := s.clock.now
  { Entry.fresh 0 with
    state := if start then 3 else 1
    phase := b2n start
    cls := c.op8 0x11 / 16 % 2
    logprob := fl.testBit 0
    noShare := fl.testBit 1
    priority := c.op8 0x11 % 16
    partition := c.part
    gen := gen
    tag := c.tag
    lastToken := if start then c.op32 0x30 % 2 ^ 20 else 0
    deadline := word (c.op64 0x18)
    promptLen := b2n start
    maxLen := c.op32 0x14
    headRoot := root
    toklogAt := log
    lastStamp := now
    ttlAt := now + ttlNs s c.part
    seed := word (c.op64 0x20)
    temp := c.op32 0x28
    topP := c.op32 0x2C
    topK := c.op16 0x12
    admitStamp := now
    toklog := if start then Map.set zeroAt [] 0 (c.op32 0x30 % 2 ^ 20) else []
    dir := r.directory
    setAside := aside }

/-- An address in the SYSTEM pool, which the manual leaves to the device: a free value, 64 B aligned. -/
def systemAddr (s : State) : Nat × State :=
  let (v, s1) := drawFree s
  (v.toNat % 2 ^ 38 / 64 * 64, s1)

/-- Take the lowest FREE entry (R347): entry, GROUPED tensor, reservation. -/
def takeEntry (s : State) (c : Cmd) (i : Nat) (r : ImpoRecord) (need : Nat) : State :=
  let (root, s1) := systemAddr s
  let (log, s2) := systemAddr s1
  let (size, s3) := drawFree s2
  let gen := ((s.entry i).gen + 1) % 2 ^ 16
  let e := admitted s c r root log need gen
  let t : Tensor := { Tensor.free 0 with
    tier := 1, grouped := true, quire := quireOf s c.part, owner := c.part, cls := if e.cls = 0 then 1 else 2
    size := size.toNat % 2 ^ 32, t1map := word i, gen := ((s.tensor (kvHandle i)).gen + 1) % 2 ^ 16 }
  noteEntriesLow s (count ((s3.setEntry i e).setTensor (kvHandle i) t) Reg.galAdmits 1)

/-- An ADMIT acts: the first failing check of R347 refuses it. -/
def admitCmd (s : State) (c : Cmd) : State :=
  match activeSlot s c.part 0 with
  | none => complete s c 7 0
  | some k =>
    let x := s.impo k
    let r := if (c.op8 0x10).testBit 4 then x.record else prefillRecord s c.part
    let need := if c.op8 0x11 / 16 % 2 = 0 then reserveNeed r (c.op32 0x14) (quireOf s c.part) else 0
    if getFld s (Reg.partCfg c.part) 32 16 ≤ liveOf s c.part then complete s c 5 0
    else match freeIndex s with
      | none => complete s c 6 0
      | some i =>
        if lengthOver x (c.op32 0x14) then complete s c 0x2D 0
        else if ¬ systemFits s (requestSystemBytes (c.op32 0x14) r.directory) ∨
            (0 < need ∧ ¬ canReserve s c.part need) then complete s c 0x2B 0
        else
          let s1 := takeEntry s c i r need
          let tw := c.op8 0x10 / 4 % 4
          if tw ≠ 0 ∧ canTwin s1 c.part then
            refreshTwin (twinOpen (s1.setEntry i { s1.entry i with twin := tw }) i (some c))
          else completeAs s1 c (i + 2 ^ 15) 0 (s1.entry i).gen

/-! ### Commands that name a request -/

/-- Write tokens into a token log from position `at_`. -/
def putTokens (l : Map Nat) (at_ : Nat) (toks : List Nat) : Map Nat :=
  (toks.zipIdx).foldl (fun m (t, j) => Map.set zeroAt m (at_ + j) (t % 2 ^ 20)) (l.filter fun x => x.1 < at_)

/-- PROMPT acts: tokens, PREFILL, prefix match. A prompt past MAX_LEN is refused with LENGTH_LIMIT: DEDUCED from R342, log 24. -/
def actPrompt (s : State) (c : Cmd) (i : Nat) : State :=
  let e := s.entry i
  if e.maxLen < e.promptLen + c.tokens.length then complete s c 0x2D 0
  else
    let s1 := if e.turnPending ∨ e.turn.isSome then loseTurn s i else s
    let e1 := s1.entry i
    let r := prefillRecord s e.partition
    let widen := { e1.dir with
      swathLen := r.swathLen
      heads := (e1.dir.heads.zipIdx).map fun (hl, h) =>
        { hl with dieMask := hl.dieMask ||| (r.heads.getD h ⟨0, 0, 0, 0, 0⟩).dieMask } }
    let s2 := s1.setEntry i { e1 with
      state := 2, phase := 0, turnPending := false, proofLen := 0, dir := widen
      toklog := putTokens e1.toklog e1.promptLen c.tokens
      promptLen := e1.promptLen + c.tokens.length
      promptFinal := (c.op8 0x10).testBit 0 }
    let (n, s3) := matchPrefix s2 i
    complete s3 c 0 (n % 2 ^ 16)

/-- The largest MAX_PROOFS of the active decode imposition (R358). -/
def maxProofs (s : State) (n : Nat) : Nat := match activeSlot s n 0 with
  | some k => (s.impo k).formes.foldl (fun m f => max m f.maxProofs) 0
  | none => 0

/-- PROPOSE acts. -/
def actPropose (s : State) (c : Cmd) (i : Nat) : State :=
  let e := s.entry i
  let n := c.tokens.length
  if maxProofs s e.partition < n then complete s c 8 0
  else complete (s.setEntry i { e with toklog := putTokens e.toklog e.promptLen c.tokens, proofLen := n }) c 0 n

/-- PAUSE acts. -/
def actPause (s : State) (c : Cmd) (i : Nat) : State :=
  let e := s.entry i
  let s1 := if e.state = 7 then report (s.setEntry i { e with state := 6, pausePending := false }) i rfParked
    else loseTurn (s.setEntry i { e with state := 5, pausePending := false, skips := 0, noSlotSince := none }) i
  complete (twinChange s1 i) c 0 0

/-- RESUME acts: a PAUSED request is eligible again; a PARKED one starts its move to T1, or waits for slots (R372, R374). -/
def actResume (s : State) (c : Cmd) (i : Nat) : State :=
  let e := s.entry i
  if e.state = 5 then complete (twinChange (s.setEntry i { e with state := byPhase e }) i) c 0 0
  else match moveIn (s.setEntry i { e with resumePending := true, noSlotSince := none }) i .resume (some c) with
    | some s1 => s1
    | none =>
      let since := match e.noSlotSince with
        | some t => some t
        | none => some s.clock.now
      { s.setEntry i { e with resumePending := true, noSlotSince := since } with arrived := s.arrived ++ [c] }

/-- END acts: the request ends with HOST_END, or with a lower cause raised at the same boundary (R353). -/
def actEnd (s : State) (c : Cmd) (i : Nat) : State :=
  complete (settleEnd (raiseEnd s i 0x2C) i) c 0 0

/-- MIGRATE of a request acts. -/
def actMigrate (s : State) (c : Cmd) (i : Nat) : State :=
  let go := if c.op8 0x14 = 0 then moveOut (loseTurn s i) i .reqToT2 (some c) else moveIn s i .reqToT1 (some c)
  match go with
  | some s1 => s1
  | none => complete s c 0x2B 0

/-- The fields a SET_CLASS selects, CLASS and TWIN apart. -/
def setClassFieldsOf (c : Cmd) (e : Entry) : Entry :=
  let m := c.op8 0x10
  let e1 := if m.testBit 1 then { e with priority := c.op8 0x11 % 16 } else e
  let e2 := if m.testBit 2 then { e1 with deadline := word (c.op64 0x18) } else e1
  let e3 := if m.testBit 3 then
    { e2 with seed := word (c.op64 0x20), temp := c.op32 0x28, topP := c.op32 0x2C, topK := c.op16 0x12 } else e2
  if m.testBit 4 then { e3 with logprob := (c.op8 0x14).testBit 0 } else e3

/-- SET_CLASS acts (R348, R476). A refused CLASS leaves the other selected fields applied: DEDUCED, log 25. -/
def actSetClass (s : State) (c : Cmd) (i : Nat) : State :=
  let e := s.entry i
  let m := c.op8 0x10
  let toRes := m.testBit 0 && decide (c.op8 0x11 / 16 % 2 = 0)
  let toSh := m.testBit 0 && decide (c.op8 0x11 / 16 % 2 = 1)
  let need := reserveNeed (decodeRecord s e.partition) e.maxLen (quireOf s e.partition)
  let refuse := toRes && decide (e.cls = 1) && !canReserve s e.partition need
  let e1 := setClassFieldsOf c e
  let e2 := if refuse then e1
    else if toRes ∧ e.cls = 1 then { e1 with cls := 0, setAside := need }
    else if toSh ∧ e.cls = 0 then { e1 with cls := 1, setAside := 0 } else e1
  let h := kvHandle i
  let s1 := (s.setEntry i e2).setTensor h { s.tensor h with cls := if e2.cls = 0 then 1 else 2 }
  let code := if refuse then 0x2B else 0
  let tw := c.op8 0x14 / 2 % 4
  if m.testBit 5 ∧ tw = 0 ∧ e.twin ≠ 0 then
    let s2 := twinEnd s1 i
    complete (refreshTwin (s2.setEntry i { s2.entry i with twin := 0, synced := false })) c code 0
  else if m.testBit 5 ∧ tw ≠ 0 ∧ e.twin = 0 then
    let s2 := if homeState s1 = 2 then putFld s1 Reg.devTwinStatus 0 2 1 else s1
    if canTwin s2 e.partition ∧ code = 0 then
      refreshTwin (twinOpen (s2.setEntry i { s2.entry i with twin := tw }) i (some c))
    else complete s2 c code 0
  else complete (twinChange s1 i) c code 0

/-- A command acts on the request it names: superseded when the request has gone, refused when its state no longer allows it. -/
def actCmd (s : State) (c : Cmd) : State :=
  let i := c.req
  let e := s.entry i
  if e.state = 0 ∨ e.state = 8 ∨ e.gen ≠ c.gen then complete s c 0x0D 0
  else if e.state ∉ acceptStates c then complete s c 4 0
  else match c.opcode with
    | 2 => actPrompt s c i
    | 3 => actPropose s c i
    | 4 => actPause s c i
    | 5 => actResume s c i
    | 6 => actEnd s c i
    | 8 => actMigrate s c i
    | _ => actSetClass s c i

/-- A command that names a request must wait: the request runs or is in the committed pick, its pages move, or the command's
tokens have not arrived (R23, R352, R377). -/
def mustWait (s : State) (c : Cmd) : Bool :=
  let e := s.entry c.req
  !c.ready || (decide (e.gen = c.gen) && (decide (e.state = 4) ||
    (e.hasSkip skMoving && e.turn.isNone) || (decide (c.opcode = 6) && partHeld s e.partition)))

/-- At a boundary: commands that arrived before the commit act in arrival order; a command behind a waiting one of its request
waits too (R353). -/
def actCmds (s : State) : State :=
  let step := fun (acc : State × List Nat) (c : Cmd) =>
    let (s, blocked) := acc
    if ¬ c.names then ({ s with arrived := s.arrived ++ [c] }, blocked)
    else if c.req ∈ blocked ∨ mustWait s c then ({ s with arrived := s.arrived ++ [c] }, c.req :: blocked)
    else (actCmd s c, blocked)
  (s.arrived.foldl step ({ s with arrived := [] }, [])).1

end Sys2Proof.Machine
end

