-- ==== Sys2Proof/Machine/Parts.lean ====
section
/-!
DEFINITION. Partitions (R426 to R435): owners of cores and tables, assignment, release, reset and their wipes; the management
mailbox (R436); rings going down (R459).
-/
namespace Sys2Proof.Machine

/-! ### Mailbox -/

/-- A mailbox request completes with a code (R436). -/
def mboxDone (s : State) (code : Nat) : State :=
  let r := Reg.devMboxStatus
  let s1 := putFld (putBit s r 0 false) r 16 16 code
  setCause (putFld s1 r 32 16 ((getFld s r 32 16 + 1) % 2 ^ 16)) Reg.devBlk 16

/-- A mailbox request begins: the RW fields of DEV_MBOX_CTRL are stored and BUSY is set; a GO while BUSY is 1 is ignored. -/
def mboxGo (s : State) (v : Word) (act : State → State) : State :=
  if getBit s Reg.devMboxStatus 0 then s
  else act (putBit (setReg s Reg.devMboxCtrl (v &&& word 0xFF00)) Reg.devMboxStatus 0 true)

/-- A write of DEV_MBOX_CTRL with GO and an opcode of Table 13.5. -/
def isMbox (w : RegWrite) (op : Nat) : Bool :=
  isReg w .dev0 0x400 && bit w.val 0 && decide (fld w.val 8 8 = op)

/-- The 256 bytes of DEV_MBOX_DATA. -/
def mboxData (s : State) : List Byte := (List.range 32).flatMap fun i => leBytes 8 (getReg s (Reg.devMboxData i)).toNat

/-- The mailbox runs a request of opcode `op` on partition `n`. -/
def mboxOn (s : State) (op n : Nat) : Bool :=
  getBit s Reg.devMboxStatus 0 && decide (getFld s Reg.devMboxCtrl 8 8 = op) && decide (leAt (mboxData s) 0 1 = n)

/-! ### Owners (R108, R198, R429) -/

/-- PART_STATE.STATE: 0 FREE, 1 ACTIVE, 2 RESETTING, 3 WIPING. -/
def partPhase (s : State) (n : Nat) : Nat := getFld s (Reg.partState n) 0 2
def setPhase (s : State) (n v : Nat) : State := putFld s (Reg.partState n) 0 2 v

/-- Owner of physical core `p` of CDd. -/
def coreOwner (s : State) (d p : Nat) : Nat := getFld s (blkOwner (Reg.coreBlk d (p / 2))) (8 * (p % 2)) 8
def setCoreOwner (s : State) (d p o : Nat) : State := putFld s (blkOwner (Reg.coreBlk d (p / 2))) (8 * (p % 2)) 8 o

/-- Owner of logical core `l` = 32d + n; DEVICE when it has no physical core. -/
def logicalOwner (s : State) (l : Nat) : Nat := match coreOf s (l / 32) (l % 32) with
  | some p => coreOwner s (l / 32) p
  | none => 0xFF

/-- The logical cores of a partition. -/
def partCores (s : State) (n : Nat) : List Nat := (List.range 256).filter fun l => logicalOwner s l = n

/-- Hand a logical core over. -/
def giveCore (s : State) (l o : Nat) : State := match coreOf s (l / 32) (l % 32) with
  | some p => setCoreOwner s (l / 32) p o
  | none => s

/-- PART_CORES shows the cores of a partition. -/
def refreshCores (s : State) (n : Nat) : State :=
  let mine := partCores s n
  (List.range 4).foldl (fun s i =>
    setReg s (Reg.partCores n i) (word (maskOf ((mine.filter fun l => l / 64 = i).map (· % 64))))) s

/-- The first NBU_ page, where the owners of the bias tables are kept. -/
def biasOwnerReg (t : Nat) : Nat := Reg.nbuBiasOwner 0 0 (t / 8)
def biasOwner (s : State) (t : Nat) : Nat := getFld s (biasOwnerReg t) (8 * (t % 8)) 8

/-- A bias table changes its owner and reads zero (R198). -/
def giveTable (s : State) (t o : Nat) : State :=
  let s1 := putFld s (biasOwnerReg t) (8 * (t % 8)) 8 o
  { s1 with bias := Map.clearWhere (fun k => decide (k / 4096 = t)) s1.bias }

/-- BLK_OWNER of the PART_ page and both Q_ pages of a partition. -/
def setPageOwners (s : State) (n o : Nat) : State :=
  [Reg.partBlk n, qBase n, qBase n + 0x1000].foldl (fun s b => putFld s (blkOwner b) 0 8 o) s

/-! ### Wipes of T0, resident images (R206, R434) -/

/-- T0 of physical core `p` of CDd reads zero. -/
def wipeT0 (s : State) (d p : Nat) : State :=
  { s with t0 := Map.clearWhere (fun k => decide (k / 2 ^ 23 = 34 * d + p)) s.t0 }

/-- T0 of a partition's cores reads zero. -/
def wipePartT0 (s : State) (n : Nat) : State :=
  (partCores s n).foldl (fun s l => match coreOf s (l / 32) (l % 32) with
    | some p => wipeT0 s (l / 32) p
    | none => s) s

/-- Store bytes into T0 of a physical core. -/
def putT0 (s : State) (d p off : Nat) (bs : List Byte) : State :=
  { s with t0 := (bs.zipIdx).foldl (fun m (b, i) => Map.set (fun _ => 0) m ((34 * d + p) * 2 ^ 23 + off + i) b) s.t0 }

/-- The resident image of logical core `l` under the active impositions of partition `n`: the decode imposition's, or the prefill
imposition's where that gives none (R206, R303). -/
def residentOf (s : State) (n l : Nat) : List Byte :=
  let img := fun (kind : Nat) => match activeSlot s n kind with
    | some k => Map.get (fun _ => []) (s.impo k).resident l
    | none => []
  if img 0 = [] then img 1 else img 0

/-- The resident image of logical core `l`, written into T0 with TOP; an absent image gives TOP 0 (Table 10.3). -/
def writeResident (s : State) (n l : Nat) : State := match coreOf s (l / 32) (l % 32) with
  | none => s
  | some p =>
    let img := residentOf s n l
    setReg (putT0 s (l / 32) p 0 img) (Reg.coreT0Resident (l / 32) p) (word img.length)

/-- The resident images of the active impositions of a partition, on its cores. -/
def writeResidents (s : State) (n : Nat) : State := (partCores s n).foldl (fun s l => writeResident s n l) s

/-! ### Impositions and trees that go -/

/-- An imposition slot becomes EMPTY; its GENERATION stays. -/
def dropSlot (s : State) (k : Nat) : State := s.setImpo k { ImpoSlot.empty 0 with generation := (s.impo k).generation }

def dropImpos (s : State) (n : Nat) (activeOnly : Bool) : State :=
  (Map.keysWhere (fun _ x => decide (x.partition = n ∧ x.state ≠ 0 ∧ (activeOnly = true → x.state = 3))) s.impos).foldl dropSlot s

/-- Runs of slots that the groups of a partition's nodes hold. -/
def treeRuns (t : PrefixTree) : List SlotRun :=
  t.nodes.flatMap fun x => (x.2.groups.filter grpValid).flatMap fun g => (groupSpan g t.layers).runs

/-- Every node of a partition's tree is freed and its slots leave for the wipe. -/
def freeTree (s : State) (n : Nat) : State :=
  let t := s.tree n
  (wipeRuns s n (treeRuns t)).setTree n { t with nodes := [], buckets := [] }

/-- Free an EXTENT tensor of a partition that is released: its slots leave for the wipe, its moves stop; the code of a command that
such a move would complete is open. -/
def releaseTensor (s : State) (h : Nat) : State :=
  let t := s.tensor h
  let (v, s1) := drawFree s
  let s2 := dropMoves s1 h (v.toNat % 2 ^ 16)
  let rs := if t.tier = 1 ∨ t.tier = 3 then (extentSpans t.t1map t.size).flatMap Span.runs else []
  freeHandle (wipeRuns s2 t.owner rs) h

/-! ### Rings go down (R434, R435, R459) -/

/-- A queue set stops: ENABLE and RUNNING read 0, fetching and record writing stop. -/
def stopRing (s : State) (n : Nat) (drv : Bool) : State :=
  let s1 := putBit (putBit s (ringCtrl n drv) 0 false) (ringStatus n drv) 44 false
  if drv then s1 else putBit s1 (Reg.partState n) 3 false

def stopRings (s : State) (n : Nat) : State := stopRing (stopRing s n false) n true

/-- Records of a partition that wait. -/
def waitingRecords (s : State) (n : Nat) : Nat := (s.records.filter fun r => r.part = n).length

/-- No record of the partition is held any more (R448). -/
def clearHeld (s : State) (n : Nat) : State := putFld (putBit s (Reg.partState n) 2 false) (Reg.partState n) 32 16 0

/-! ### Ends of a whole partition -/

/-- Live requests of a partition. -/
def liveReqs (s : State) (n : Nat) : List Nat := entriesWhere s fun e => decide (e.state ≠ 0 ∧ e.state ≠ 8 ∧ e.partition = n)

/-- The partition leaves a step that waits to run again and the committed pick. -/
def leavePicks (s : State) (n : Nat) : State :=
  let out := fun (l : List PartPick) => l.filter fun p => p.part ≠ n
  if s.steps.running then s
  else { s with steps := { s.steps with current := out s.steps.current, committed := s.steps.committed.map out } }

/-- Every request of the partition ends with `code` at this boundary. -/
def endAll (s : State) (n code : Nat) : State := (liveReqs s n).foldl (fun s i => endNow s i code) (leavePicks s n)

/-! ### PART_ASSIGN (R431 to R433) -/

/-- Fields of the request (Table 13.4). -/
def assignCores (d : List Byte) : List Nat := bitsOf 256 (leAt d 0x20 32)
def assignTables (d : List Byte) : List Nat := bitsOf 16 (leAt d 0x14 2)

/-- A field of the request is reserved and not 0, or out of its range. -/
def assignBad (d : List Byte) : Bool :=
  decide (64 ≤ leAt d 0 1 ∨ 4 ≤ leAt d 1 1 ∨ 4096 ≤ leAt d 2 2 ∨ leAt d 4 4 = 0 ∨ 32768 < leAt d 4 4 ∨
    2 ^ 24 ≤ leAt d 8 4 ∨ 2 ^ 24 ≤ leAt d 0xC 4 ∨ 2 ^ 24 ≤ leAt d 0x10 4 ∨ leAt d 0x16 10 ≠ 0 ∨ leAt d 0x40 192 ≠ 0 ∨
    assignCores d = [])

/-- RESERVED_MAX and WEIGHT_MAX of the partitions not FREE. -/
def poolsTaken (s : State) : Nat :=
  ((List.range 64).map fun n =>
    if partPhase s n = 0 then 0 else getFld s (Reg.partPool0 n) 0 24 + getFld s (Reg.partPool1 n) 0 24).foldl (· + ·) 0

/-- The request's checks in order: the code, 0 when all pass. A device in BLANK or RETURNED has no partitions (Table 3.3): PART_STATE. -/
def assignCode (s : State) (d : List Byte) : Nat :=
  if assignBad d then 0x610
  else if s.colophon.lcState = 0 ∨ s.colophon.lcState = 3 then 0x611
  else if partPhase s (leAt d 0 1) ≠ 0 then 0x611
  else if (assignCores d).any fun l => logicalOwner s l ≠ 0xFF then 0x612
  else if (assignTables d).any fun t => biasOwner s t ≠ 0xFE then 0x613
  else if t1Slots s - systemSlots s < poolsTaken s + leAt d 8 4 + leAt d 0x10 4 then 0x614
  else 0

/-- PART_ASSIGN: a refusal completes the request; else the settings are written and the owners follow at the next boundary.
VF_EN becomes 1: DEDUCED from Worked example 13.1, log 27. -/
def requestAssign (s : State) : State :=
  let d := mboxData s
  let code := assignCode s d
  if code ≠ 0 then mboxDone s code
  else
    let n := leAt d 0 1
    let cfg := leAt d 1 1 % 2 * 2 + leAt d 1 1 / 2 % 2 * 4 + 8 + leAt d 2 2 * 2 ^ 16 + leAt d 4 4 * 2 ^ 32
    let s1 := setReg (setReg s (Reg.partCfg n) (word cfg)) (Reg.partPool0 n) (word (leAt d 8 4 + leAt d 0xC 4 * 2 ^ 24))
    let s2 := setReg s1 (Reg.partPool1 n) (word (leAt d 0x10 4))
    { s2 with deferred := s2.deferred ++ [.assign d] }

/-- The boundary of an assignment: owners, ENABLE, ACTIVE, the request completes. -/
def assignNow (s : State) (d : List Byte) : State :=
  let n := leAt d 0 1
  let s1 := (assignCores d).foldl (fun s l => giveCore s l n) (setPageOwners s n n)
  let s2 := (assignTables d).foldl (fun s t => giveTable s t n) s1
  let s3 := setPhase (putBit (refreshCores s2 n) (Reg.partCfg n) 0 true) n 1
  mboxDone (raiseEvent s3 0x061 n (blkDir (Reg.partBlk n)) 2 (word n) 0) 0

/-! ### PART_RELEASE (R434) -/

/-- PART_RELEASE is accepted on an ACTIVE partition, and on one that resets, whose reset it supersedes. -/
def requestRelease (s : State) (n : Nat) : State :=
  let ph := partPhase s n
  if ph ≠ 1 ∧ ph ≠ 2 then mboxDone s 0x611
  else { s with deferred := s.deferred.filter (fun x => !decide (x = .partReset n)) ++ [.release n] }

/-- The boundary of a release. The rings and regions go once the record of this boundary is written. -/
def releaseNow (s : State) (n : Nat) : State :=
  let s1 := setPhase (freeTree (dropImpos (endAll s n 0x20) n false) n) n 3
  let mine := Map.keysWhere (fun _ (t : Tensor) => decide (t.owner = n ∧ t.tier ≠ 0) && !t.grouped) s1.tensors
  let s2 := wipePartT0 (mine.foldl releaseTensor s1) n
  { s2 with deferred := s2.deferred ++ [.coresWiped n] }

/-- What follows the record of a release's boundary: held records are freed, rings and regions go. -/
def finishRelease (s : State) (n : Nat) : State :=
  let s1 := clearHeld { s with records := s.records.filter fun r => r.part ≠ n, due := Map.del s.due n } n
  let s2 := stopRings s1 n
  { s2 with regions := s2.regions.map fun (r : Nat × Region) =>
      if r.2.part = n ∧ ¬ r.2.devOwned ∧ r.2.valid then (r.1, { r.2 with valid := false }) else r }

/-- A released partition's cores and tables return to DEVICE and SHARED, at the first boundary after their wipe. -/
def coresBack (s : State) (n : Nat) : State :=
  let s1 := (partCores s n).foldl (fun s l => giveCore s l 0xFF) s
  let s2 := ((List.range 16).filter fun t => biasOwner s1 t = n).foldl (fun s t => giveTable s t 0xFE) s1
  refreshCores s2 n

/-- The slots of a partition that wait for their wipe read zero and are free. -/
def zeroSlots (s : State) (n : Nat) : State :=
  let sp := (s.wiping.filter fun w => w.1 = n).map fun w => w.2.span
  { s with
    t1 := Map.clearWhere (fun a => inSpans sp (a / 64)) s.t1
    poison := Map.clearWhere (inSpans sp) s.poison
    wiping := s.wiping.filter fun w => w.1 ≠ n }

/-- The last slot of a released partition is zeroed. -/
def releaseDone (s : State) (n : Nat) : State :=
  let s1 := setPageOwners (setPhase (zeroSlots s n) n 0) n 0xFF
  let s2 := [Reg.partCfg n, Reg.partPool0 n, Reg.partPool1 n].foldl (fun s r => setReg s r 0) s1
  let s3 := setCause (raiseEvent s2 0x062 n (blkDir (Reg.partBlk n)) 2 (word n) 0) (Reg.partBlk n) 17
  if mboxOn s3 2 n then mboxDone s3 0 else s3

/-! ### Partition reset (R435) -/

/-- Counters of a PART_ page return to zero (Table 3.2). -/
def clearPartCounters (s : State) (n : Nat) : State :=
  let mine := fun off => decide (Reg.partBlk n ≤ off ∧ off < Reg.partBlk n + 0x1000)
  { s with cnt := Map.clearWhere mine s.cnt, snap := Map.clearWhere mine s.snap }

/-- The MSI-X structures of VF n return to reset, and it leaves D3hot. -/
def resetVf (s : State) (n : Nat) : State :=
  let lo := 0x20000000 + 0x1000 * n
  { s with
    msix := Map.clearWhere (fun k => decide (lo ≤ k ∧ k < lo + 0x1000)) s.msix
    d3hot := Map.del s.d3hot (n + 2) }

/-- A partition reset begins; the manual gives the event no code for its source. -/
def beginPartReset (s : State) (n : Nat) : State :=
  let (v, s0) := drawFree s
  let s1 := resetVf (stopRings (clearPartCounters (setPhase s0 n 2) n) n) n
  let s2 := raiseEvent s1 0x063 n (blkDir (Reg.partBlk n)) 2 (word n) v
  { s2 with deferred := s2.deferred ++ [.partReset n] }

/-- A reset is asked for on a partition that is ACTIVE and not leaving. -/
def canReset (s : State) (n : Nat) : Bool := decide (partPhase s n = 1) && !decide (.release n ∈ s.deferred)

/-- The boundary of a reset. -/
def partResetNow (s : State) (n : Nat) : State :=
  writeResidents (wipePartT0 (freeTree (endAll s n 0x20) n) n) n

/-- The wipe of a reset is complete. -/
def partResetDone (s : State) (n : Nat) : State :=
  let s1 := setCause (setPhase (zeroSlots s n) n 1) (Reg.partBlk n) 20
  if mboxOn s1 3 n then mboxDone s1 0 else s1

end Sys2Proof.Machine
end

