-- ==== Sys2Proof/Machine/Adopt.lean ====
section
/-!
DEFINITION. Adoption of mirrored requests at the twin (R482 to R484).
-/
namespace Sys2Proof.Machine

def MirrorEntry.free (_ : Nat) : MirrorEntry := ⟨0, 0, 0, 0, false, [], [], Directory.none, 0, 0⟩

def State.mirror (s : State) (k : Nat) : MirrorEntry := Map.get MirrorEntry.free s.mirrors k
def State.setMirror (s : State) (k : Nat) (m : MirrorEntry) : State := { s with mirrors := Map.set MirrorEntry.free s.mirrors k m }

/-- The mirror entry of a home's request. -/
def findMirror (s : State) (home : Word) (index gen : Nat) : Option Nat :=
  (Map.keysWhere (fun _ m => decide (m.home = home ∧ m.index = index ∧ m.gen = gen)) s.mirrors).head?

/-- Fields of the image of a home entry (Table 11.1). -/
def imgWord (m : MirrorEntry) : Nat := leAt m.image 0 8
def imgState (m : MirrorEntry) : Nat := imgWord m % 16
def imgPart (m : MirrorEntry) : Nat := imgWord m / 2 ^ 14 % 64

/-- Free a mirror entry; slots of a hot mirror return to the pool with their poison cleared (R137). -/
def freeMirror (s : State) (k : Nat) : State :=
  let d := (s.mirror k).dir
  let s1 := if (s.mirror k).hot then scrubFreed s (d.privateGroups.map fun g => groupSpan g.2.2 d.layers) else s
  refreshTwin { s1 with mirrors := Map.del s1.mirrors k }

/-- A covering names the mirror entry. -/
def Cover.names (c : Cover) (m : MirrorEntry) : Bool := match c with
  | .device => true
  | .part n => decide (imgPart m = n)
  | .req i => decide (m.index = i)

/-- Head and entry of the groups of a warm mirror, in the order in which its image holds them: the k-th group carries the number k. -/
def MirrorEntry.imageOrder (m : MirrorEntry) : List (Nat × Nat) :=
  let gs := m.dir.privateGroups
  (List.range gs.length).filterMap fun k => (gs.find? fun x => x.2.2 % 2 ^ 23 = k).map fun x => (x.1, x.2.1)

/-- The galley entry that a mirror becomes (R483). -/
def adoptedEntry (s : State) (m : MirrorEntry) (gen : Nat) : Entry :=
  let w := imgWord m
  let g := fun off n => leAt m.image off n
  let phase := w / 16 % 2
  let pend := (w / 2 ^ 21) % 2 = 1
  let paused := imgState m = 5
  let parked := imgState m = 6
  let base : Entry := { Entry.fresh 0 with
    phase := phase, cls := w / 32 % 2, logprob := (w / 64) % 2 = 1, noShare := (w / 128) % 2 = 1, priority := w / 256 % 16
    partition := m.part, promptFinal := (w / 2 ^ 20) % 2 = 1, turnPending := pend, gen := gen, tag := g 8 4
    lastToken := g 0xC 4 % 2 ^ 20, deadline := word (g 0x10 8), length := g 0x18 4 % 2 ^ 23, promptLen := g 0x1C 4 % 2 ^ 23
    maxLen := g 0x20 4 % 2 ^ 23, lastStamp := g 0x40 8, ttlAt := g 0x48 8, seed := word (g 0x50 8), temp := g 0x58 4
    topP := g 0x5C 4, topK := g 0x60 2, admitStamp := s.clock.now, toklog := m.toklog, dir := m.dir
    recFlags := 2 ^ rfTwinDropped, ran := true }
  let need := if base.cls = 0 then reserveNeed (decodeRecord s m.part) base.maxLen (quireOf s m.part) else 0
  { base with
    setAside := need
    state := if m.hot then (if paused then 5 else if parked then 6 else byPhase base) else 6
    parked := if m.hot then [] else m.imageOrder
    resumePending := !m.hot && !paused && !parked }

/-- An adoption completion (Table 14.7): kind 1 ADOPTED, 2 NOT_ADOPTED. A ring that does not run takes none. -/
def adoptionCompletion (s : State) (m : MirrorEntry) (kind req code : Nat) : State :=
  let phase := imgWord m / 16 % 2
  let tok := if phase = 1 then leAt m.image 0xC 4 % 2 ^ 20 else 0
  if ringOn s m.part false then
    putCompletion s m.part false (leBytes 4 (0xFF * 2 ^ 24 + kind * 2 ^ 20 + tok) ++ leBytes 4 (leAt m.image 8 4) ++
      leBytes 2 req ++ leBytes 2 code ++ leBytes 4 (leAt m.image 0x18 4 % 2 ^ 23 + phase * 2 ^ 31))
  else s

/-- Adopt mirror entry `k`: the answer counts what was adopted. -/
def adoptOne (s : State) (k : Nat) : Nat × State :=
  let m := s.mirror k
  match if m.sync = 2 then freeIndex s else none with
  | none => (0, freeMirror (adoptionCompletion s m 2 0 0x41) k)
  | some i =>
    let (root, s1) := systemAddr s
    let (log, s2) := systemAddr s1
    let e := { adoptedEntry s m (((s.entry i).gen + 1) % 2 ^ 16) with headRoot := root, toklogAt := log }
    let t : Tensor := { Tensor.free 0 with
      tier := if m.hot then 1 else 2, grouped := true, owner := m.part, cls := if e.cls = 0 then 1 else 2, t1map := word i
      quire := quireOf s m.part, region := if m.hot then 0 else fld (inForceReg s Reg.devTwinCfg) 16 10, t2off := if m.hot then 0 else m.warmAt
      t2size := if m.hot then 0 else imageUnits e, gen := ((s.tensor (kvHandle i)).gen + 1) % 2 ^ 16 }
    let s3 := (({ s2 with mirrors := Map.del s2.mirrors k }).setEntry i (if m.hot then e else unlistPages e)).setTensor (kvHandle i) t
    let s4 := adoptionCompletion (count s3 Reg.devAdoptions 1) m 1 (i + 2 ^ 15) 0
    if e.resumePending then
      (1, match moveIn s4 i .resume none with
        | some s5 => s5
        | none => s4.setEntry i { s4.entry i with noSlotSince := some s4.clock.now })
    else (1, s4)

/-- Adoptions of one home. -/
def adoptHome (s : State) (h : ServedHome) : State :=
  let ks := Map.keysWhere (fun _ m => decide (m.home = h.serial) && h.adopt.any (·.names m)) s.mirrors
  let (n, s1) := ks.foldl (fun (acc : Nat × State) k => let (a, s') := adoptOne acc.2 k; (acc.1 + a, s')) (0, s)
  let s2 := { s1 with homes := s1.homes.map fun (x : ServedHome) => if x.serial = h.serial then { x with adopt := [] } else x }
  refreshTwin (raiseEvent s2 0x05B noPart noBlock 2 h.serial (word n))

/-- A TAKEOVER completes once its adoption has taken effect (Table 13.5). -/
def takeoverDone (s : State) (serial : Word) : State :=
  if getBit s Reg.devMboxStatus 0 ∧ getFld s Reg.devMboxCtrl 8 8 = 8 ∧ getReg s (Reg.devMboxData 0) = serial then mboxDone s 0 else s

/-- Adoptions at a step boundary. -/
def adoptAll (s : State) : State :=
  (s.homes.filter fun h => h.adopt ≠ []).foldl (fun s h => takeoverDone (adoptHome s h) h.serial) s

end Sys2Proof.Machine
end

