-- ==== Sys2Proof/Machine/Impose.lean ====
section
/-!
DEFINITION. Activation of impositions (R312, R323, R326): what it checks, what it puts in force at a step boundary, and what it
asks of the requests that hold pages in another layout.
-/
namespace Sys2Proof.Machine

/-- An imposition uses a compute die: a segment of its cores, or of its builders, holds a sort. -/
def ImpoSlot.uses (x : ImpoSlot) (d : Nat) : Bool :=
  x.formes.any fun f => f.segments.any fun e => decide (e.2 ≠ [] ∧ (if e.1 < 256 then e.1 / 32 else e.1 - 256) = d)

/-- The dependency tokens an imposition uses: the most of its formes. -/
def ImpoSlot.tokens (x : ImpoSlot) : Nat := x.formes.foldl (fun m f => max m f.tokens) 0

/-- The reorder-queue entries an imposition uses per channel. -/
def ImpoSlot.credits (x : ImpoSlot) : Nat := x.formes.foldl (fun m f => max m f.rqCredits) 0

/-- The active impositions of the partitions that pass a test. -/
def activeImpos (s : State) (p : Nat → Bool) : List ImpoSlot :=
  (s.impos.filter fun x => x.2.state = 3 && p x.2.partition).map (·.2)

/-- The budgets of R323 for impositions that are active together: tokens, and credits of the formes that run together, one for
each partition. -/
def budgetsHold (xs : List ImpoSlot) : Bool :=
  (List.range 8).all fun d =>
    let on := xs.filter fun x => x.uses d
    let parts := (on.map (·.partition)).eraseDups
    decide ((on.map ImpoSlot.tokens).foldl (· + ·) 0 ≤ 4096) &&
      decide ((parts.map fun (n : Nat) => ((on.filter fun x => x.partition = n).map ImpoSlot.credits).foldl (fun (a b : Nat) => max a b) 0).foldl (fun (a b : Nat) => a + b) 0 ≤ 64)

/-- A token base does not meet the tokens of another imposition on a common die. -/
def baseFree (xs : List ImpoSlot) (x : ImpoSlot) (b : Nat) : Bool :=
  decide (b + x.tokens ≤ 4096) && xs.all fun y =>
    !((List.range 8).any fun d => x.uses d && y.uses d) || decide (b + x.tokens ≤ y.tokenBase ∨ y.tokenBase + y.tokens ≤ b)

/-- The token base given at activation: the manual does not say which; a free value where it is usable, else the lowest. -/
def pickBase (s : State) (xs : List ImpoSlot) (x : ImpoSlot) : Option (Nat × State) :=
  let (v, s1) := drawFree s
  if baseFree xs x (v.toNat % 4096) then some (v.toNat % 4096, s1)
  else ((List.range 4096).find? (baseFree xs x)).map fun b => (b, s1)

/-- Two impositions of a partition name each other (R302). -/
def ImpoSlot.pairs (a b : ImpoSlot) : Bool :=
  decide (a.partnerId ≠ 0 ∧ a.partnerId = b.impoId ∧ b.partnerId = a.impoId ∧ a.partition = b.partition ∧ a.kind ≠ b.kind)

/-- The READY partner of a slot. -/
def readyPartner (s : State) (k : Nat) : Option Nat :=
  (Map.keysWhere (fun _ y => decide (y.state = 2) && (s.impo k).pairs y) s.impos).head?

/-- What Table 10.4 and R301 fix of a layout, the DIE_MASKs and SWATH_LEN apart (R326). -/
def sameShape (a b : ImpoRecord) : Bool :=
  let bare := fun (h : ImpoHead) => { h with dieMask := 0 }
  decide (a.layers = b.layers ∧ a.format = b.format ∧ a.dim = b.dim ∧ a.qheads = b.qheads ∧ a.members = b.members ∧
    a.heads.map bare = b.heads.map bare)

/-- The case of R326: 0 same layout, 1 re-shard, 2 incompatible. -/
def layoutCase (a b : ImpoRecord) : Nat :=
  if !sameShape a b then 2
  else if a.swathLen = b.swathLen ∧ a.heads = b.heads then 0 else 1

/-- The partition holds a request that is not FREE or ENDED, or mirrored pages in its layout (R326, R475). -/
def holdsRequests (s : State) (n : Nat) : Bool := liveReqs s n ≠ [] || s.mirrors.any fun m => decide (m.2.part = n)

/-- The code with which an activation of slot `k` completes (Table 10.9), 0 when it goes through. -/
def activateCode (s : State) (k : Nat) : Nat :=
  let x := s.impo k
  let n := x.partition
  let joins := x :: (match readyPartner s k with | some j => [s.impo j] | none => [])
  if x.state ≠ 2 ∨ x.kind ≠ 0 ∨ (s.group k).lacking then 0x40C
  else if (activeSlot s n 0).any fun o => layoutCase (s.impo o).record x.record = 2 ∧ holdsRequests s n then 0x40C
  else if !budgetsHold (joins ++ activeImpos s fun p => p ≠ n) then 0x407
  else 0

/-- An operation of GAL_FORME_CTRL completes (R336): BUSY clears, FORME_DONE rises. -/
def formeDone (s : State) (k code : Nat) : State :=
  let r := Reg.galFormeStatus
  let w := word (k % 128 * 2 ^ 8 + code % 2 ^ 16 * 2 ^ 16 + (s.impo k).generation % 2 ^ 16 * 2 ^ 32)
  setCause (setReg s r w) Reg.galBlk 16

/-- A slot becomes ACTIVE with a token base; its GENERATION increments. -/
def makeActive (s : State) (k base : Nat) : State :=
  let x := s.impo k
  s.setImpo k { x with state := 3, generation := (x.generation + 1) % 2 ^ 16, tokenBase := base, suspect := 0 }

/-- A slot that is replaced returns to READY. -/
def replaceSlot (s : State) (k : Nat) : State :=
  let x := s.impo k
  s.setImpo k { x with state := 2, tokenBase := 0, suspect := 0 }

/-- The bias tables of the active impositions of a partition become live (R175, R326). -/
def liveBias (s : State) (n : Nat) : State :=
  let put := fun (s : State) (k : Nat) => (s.impo k).bias.foldl (fun s (t : Nat × List Byte) =>
    { s with bias := (List.range 4096).foldl (fun m i => Map.set zeroAt m (4096 * t.1 + i) (leAt t.2 (2 * i) 2)) s.bias }) s
  let s1 := (activeSlot s n 1).elim s (put s)
  (activeSlot s n 0).elim s1 (put s1)

/-- Every node of a partition's tree is freed; its slots return to the pool (R371). -/
def dropTree (s : State) (n : Nat) : State :=
  let t := s.tree n
  let sp := t.nodes.flatMap fun x => (x.2.groups.filter grpValid).map fun g => groupSpan g t.layers
  scrubFreed (s.setTree n { t with nodes := [], buckets := [] }) sp

/-- The node pool of a partition is allocated at its first activation with PREFIX_EN set (R379). -/
def allocTree (s : State) (n : Nat) : State :=
  let r := decodeRecord s n
  let t := { s.tree n with layers := r.layers }
  if !t.enabled || t.allocated then s.setTree n t
  else if systemFits s (t.cap * nodeSize r.heads.length + 4 * 2 ^ t.bucketsLog2) then s.setTree n { t with allocated := true }
  else raiseEvent (setCause (s.setTree n { t with enabled := false }) Reg.galBlk 20) 0x034 n (blkDir Reg.galBlk) 2 0 0

/-- A request meets a new layout (R326): one without private pages takes it at once; one whose pages lie otherwise turns before its
next step, and a turn into the old layout is lost. Pages in T2 return into the new layout (R373). -/
def reshardEntry (s : State) (i : Nat) : State :=
  let s1 := loseTurn s i
  let e := s1.entry i
  let r := if e.phase = 1 then decodeRecord s1 e.partition else prefillRecord s1 e.partition
  if e.state = 6 ∨ e.state = 7 then s1
  else if e.dir.privateGroups = [] then s1.setEntry i { e with dir := e.dir.inLayout r, turnPending := e.turnPending && decide (e.state ≠ 3) }
  else if e.dir.inLayout r = e.dir then s1
  else s1.setEntry i { e with turnPending := true }

/-- An activation completes; a member that activates with its group's announcement has no operation to complete, and a lead that cannot
activate cancels it on every member (R327). -/
def activated (s : State) (k code : Nat) : State :=
  let s1 := if code = 0 then s.setGroup k { GroupState.fresh 0 with next := (s.group k).next } else s
  if !isGroup s k then formeDone s1 k code
  else if !isLead s k then s1
  else formeDone (if code = 0 then s1 else sendAnnounce s1 k false) k code

/-- The boundary of an activation. -/
def activateNow (s : State) (k : Nat) : State :=
  let code := activateCode s k
  if code ≠ 0 then activated s k code
  else
    let n := (s.impo k).partition
    let old0 := activeSlot s n 0
    let case_ := match old0 with
      | some o => layoutCase (s.impo o).record (s.impo k).record
      | none => 0
    let partner := readyPartner s k
    let old1 := (activeSlot s n 1).filter fun o => partner.isSome || !(s.impo k).pairs (s.impo o)
    let s1 := old1.elim (old0.elim s (replaceSlot s)) (replaceSlot (old0.elim s (replaceSlot s)))
    let others := activeImpos s1 fun _ => true
    match pickBase s1 others (s1.impo k) with
    | none => activated s k 0x407
    | some (b, s2) =>
      let s3 := makeActive s2 k b
      let both := match partner with
        | none => some s3
        | some j => (pickBase s3 (activeImpos s3 fun _ => true) (s3.impo j)).map fun (b', s') => makeActive s' j b'
      match both with
      | none => activated s k 0x407
      | some s4 =>
        let s5 := if case_ = 2 then dropTree s4 n else s4
        let s6 := liveBias (writeResidents (allocTree s5 n) n) n
        let s7 := if case_ = 1 then (liveReqs s6 n).foldl reshardEntry s6 else s6
        activated s7 k 0

end Sys2Proof.Machine
end

