-- ==== Sys2Proof/Machine/Pick.lean ====
section
/-!
DEFINITION. The pick of a step (R19, R280, R303, R316 to R321, R356 to R358).
-/
namespace Sys2Proof.Machine

/-! ### Swaths (R278) -/

/-- Entries of a head list that begin a near-bank swath and hold positions below `p`, with their groups, in rising order. -/
def swathHeads (sl p : Nat) (hl : HeadList) : List (Nat × Nat) :=
  hl.list.filter fun x => grpValid x.2 && decide (64 * (hl.first + x.1) < p) && swathStart (max 1 sl) hl.list x.1

/-- The swath count of a request that attends over positions below `p`. -/
def swathCount (d : Directory) (p : Nat) : Nat :=
  (d.heads.map fun hl => (swathHeads d.swathLen p hl).length).foldl max 0

/-! ### A candidate's slot -/

/-- What a candidate asks of a step: its index, slot kind, and how many positions at most. -/
structure Want where
  req : Nat
  kind : Nat
  most : Nat
  deriving DecidableEq, Repr

/-- A candidate placed in a batch: positions appended, and its directory with the step's groups open. -/
structure Placed where
  req : Nat
  kind : Nat
  count : Nat
  dir : Directory
  deriving DecidableEq, Repr

/-- A batch being formed: the state (prefix nodes may have been reclaimed), the slots placed, in order, the ranges that their new
groups take, and the slots that SHARED requests among them take. -/
structure Batch where
  st : State
  placed : List Placed
  spans : List Span
  shared : Nat

/-- Positions that a candidate appends under a forme (R356, R358). -/
def Want.count (w : Want) (f : Forme) : Nat := if w.kind = 0 then 1 + min w.most f.maxProofs else min w.most f.chunk

/-- The (head, entry) pairs of the groups that a step's positions open (R280): block by block, head by head. -/
def groupsToOpen (d : Directory) (l n : Nat) : List (Nat × Nat) :=
  let blocks := (List.range ((l + n + 63) / 64)).filter fun b => l ≤ 64 * b
  blocks.flatMap fun b => ((d.heads.zipIdx).filter fun (hl, _) =>
    decide (hl.first ≤ b ∧ b < hl.first + hl.cap) && !grpValid (Map.get zeroAt hl.list (b - hl.first))).map fun (hl, h) => (h, b - hl.first)

/-- The layout in which a slot's new groups are placed: prompt chunks the prefill layout, decode slots the decode layout (R302). -/
def layoutFor (s : State) (n kind : Nat) : ImpoRecord := if kind = 0 then decodeRecord s n else prefillRecord s n

/-- A directory in which a prompt chunk places pages of a layout it has not had (R276): its DIE_MASKs take the layout's in. -/
def Directory.widened (d : Directory) (r : ImpoRecord) : Directory := { d with
  heads := (d.heads.zipIdx).map fun (hl, h) => { hl with dieMask := hl.dieMask ||| (r.heads.getD h ⟨0, 0, 0, 0, 0⟩).dieMask } }

/-- Open a candidate's groups; none when slots lack (R155, R156, R280, R430). -/
def openFor (b : Batch) (n : Nat) (f : Forme) (w : Want) : Option Batch :=
  let e := b.st.entry w.req
  let c := w.count f
  let r := layoutFor b.st n w.kind
  let d0 := if w.kind = 1 then e.dir.widened r else e.dir
  let pairs := groupsToOpen d0 e.length c
  let need := pairs.length * d0.layers
  let sharedMax := getFld b.st (Reg.partPool0 n) 24 24
  if e.cls = 1 ∧ 0 < need ∧ (freeSlots b.st < b.shared + need ∨ sharedMax < sharedUsed b.st (some n) + b.shared + need) then none
  else (placeReclaim (nodeFuel b.st) b.st (quireOf b.st n) r b.spans d0 pairs).map fun (d, s) =>
    let fresh := pairs.map fun x => groupSpan (Map.get zeroAt (d.head x.1).list x.2) d.layers
    { st := s, placed := b.placed ++ [⟨w.req, w.kind, c, d⟩], spans := fresh ++ b.spans
      shared := if e.cls = 1 then b.shared + need else b.shared }

/-- Open the groups of a whole trial batch under a forme. -/
def openAll (s : State) (n : Nat) (f : Forme) (ws : List Want) : Option Batch :=
  ws.foldl (fun (acc : Option Batch) w => acc.bind fun b => openFor b n f w) (some ⟨s, [], [], 0⟩)

/-- The largest swath count of a batch after its appends. -/
def Batch.swaths (b : Batch) : Nat :=
  (b.placed.map fun p => swathCount p.dir ((b.st.entry p.req).length + p.count)).foldl max 0

/-! ### The fit of a batch (R320, R321) -/

/-- Swaths of a placed slot's head `h` on a die, as the channels they lie on. -/
def dieRows (b : Batch) (p : Placed) (h d : Nat) : List Nat :=
  ((swathHeads p.dir.swathLen ((b.st.entry p.req).length + p.count) (p.dir.head h)).filter fun x => grpDie x.2 = d).map fun x => grpChan x.2

/-- Append blocks that a slot needs. -/
def appendBlocks (l n : Nat) : Nat := (l + n - 1) / 64 - l / 64 + 1

/-- Rows of a channel's list: real rows, and for rows up to DIE_SWATHS, empty slots included, NOOP rows in channel i mod 16. -/
def chanRows (b : Batch) (f : Forme) (heads d c : Nat) : Nat :=
  let one := fun (real : List Nat) => (real.filter (· = c)).length +
    ((List.range f.dieSwaths).filter fun i => real.length ≤ i ∧ i % 16 = c).length
  let full := (b.placed.map fun p => ((List.range heads).map fun h => one (dieRows b p h d)).foldl (· + ·) 0).foldl (· + ·) 0
  full + (f.dslots + f.pslots - b.placed.length) * heads * one []

/-- The batch fits the forme (R321). -/
def fits (b : Batch) (f : Forme) (heads : Nat) : Bool :=
  decide ((b.placed.filter fun p => p.kind = 0).length ≤ f.dslots) &&
  decide ((b.placed.filter fun p => p.kind = 1).length ≤ f.pslots) &&
  (b.placed.all fun p => decide (p.kind = 0 → p.count ≤ 1 + f.maxProofs) && decide (p.kind = 1 → p.count ≤ f.chunk) &&
    decide (appendBlocks (b.st.entry p.req).length p.count ≤ f.kMax) &&
    (List.range heads).all fun h => (List.range 8).all fun d => decide ((dieRows b p h d).length ≤ f.dieSwaths)) &&
  (List.range 8).all fun d => (List.range 16).all fun c => decide (chanRows b f heads d c ≤ f.chRows)

/-! ### A trial -/

/-- How a trial batch fares: placed under the forme of its bucket, short of slots, beyond every bucket, in a SUSPECT bucket, or
unfit. -/
inductive Trial where
  | ok (bucket : Nat) (b : Batch)
  | noSlot
  | noBucket
  | suspect
  | unfit

/-- The forme of a bucket. -/
def ImpoSlot.forme (x : ImpoSlot) (e : Nat) : Option Forme := x.formes.find? fun f => f.bucket = e

/-- The smallest bucket whose forme covers the swaths of a trial, with its batch (R19). -/
def findBucket (s : State) (x : ImpoSlot) (ws : List Want) : Trial :=
  (List.range 17).foldl (fun (acc : Trial) e => match acc with
    | .noBucket => match x.forme e with
      | none => .noBucket
      | some f => match openAll s x.partition f ws with
        | none => .noSlot
        | some b => if b.swaths ≤ 2 ^ e then
            (if x.suspect.testBit e then .suspect else if fits b f x.record.heads.length then .ok e b else .unfit)
          else .noBucket
    | t => t) .noBucket

/-! ### Candidates (R346, R356) -/

/-- Skip reasons that the pick itself tests again. -/
def pickSkips : Nat := 2 ^ skNoSlot + 2 ^ skSuspect

/-- A request may be tried: no reason of another kind keeps it out, no command or turn is pending, it is not handed over. -/
def tryable (s : State) (i : Nat) (e : Entry) : Bool :=
  decide ((e.skips ||| pickSkips) = pickSkips) && !e.endPending && !e.pausePending && !e.turnPending && e.turn.isNone &&
    decide (e.ends = []) && decide (i ∉ s.home.declared ∧ i ∉ s.home.handed)

/-- Priority descending, then deadline ascending, then index ascending. -/
def firstOf (s : State) (a b : Nat) : Bool :=
  let x := s.entry a
  let y := s.entry b
  decide (y.priority < x.priority) || (decide (x.priority = y.priority) && (decide (x.deadline.toNat < y.deadline.toNat) ||
    (decide (x.deadline = y.deadline) && decide (a < b))))

/-- Insert into a list kept in that order. -/
def insertBy (lt : Nat → Nat → Bool) (a : Nat) : List Nat → List Nat
  | [] => [a]
  | b :: l => if lt a b then a :: b :: l else b :: insertBy lt a l

/-- Candidates of a partition in a state, in order. -/
def candidates (s : State) (n st : Nat) : List Nat :=
  (Map.keysWhere (fun i e => decide (e.state = st ∧ e.partition = n) && tryable s i e &&
    decide (st = 2 → e.length < e.promptLen)) s.entries).foldr (insertBy (firstOf s)) []

/-- The slot a request asks for. -/
def wantOf (s : State) (i kind : Nat) : Want :=
  let e := s.entry i
  ⟨i, kind, if kind = 0 then min e.proofLen (e.maxLen - e.length - 1) else e.promptLen - e.length⟩

/-- The next position lies beyond the request's MAX_LEN or beyond the head lists of every member (R280, R357). -/
def atLimit (s : State) (i : Nat) : Bool :=
  let e := s.entry i
  let r := decodeRecord s e.partition
  let id := match activeSlot s e.partition 0 with
    | some k => (s.impo k).impoId
    | none => 0
  decide (e.maxLen ≤ e.length) || (e.dir.heads.zipIdx).any fun (hl, h) =>
    decide (64 * (if r.groupSize ≤ 1 then hl.first + hl.cap else hl.cap + Config.peerBlocks id h) ≤ e.length)

/-- R157 holds: a map-out has left fewer slots than RESERVED_HELD, WEIGHT and SYSTEM. -/
def slotsLost (s : State) : Bool := decide (t1Slots s < reservedHeld s none + weightSlots s none + systemSlots s)

/-- A request waits for a slot (R156); a RESERVED one that a map-out left without ends (R157). -/
def lackSlot (s : State) (i : Nat) : State :=
  let e := s.entry i
  if e.cls = 0 ∧ slotsLost s then raiseEnd s i 0x26
  else s.setEntry i { e.skip skNoSlot true with noSlotSince := some (e.noSlotSince.getD s.clock.now) }

/-- A request whose bucket is SUSPECT (R334). -/
def skipSuspect (s : State) (i : Nat) : State :=
  let e := s.entry i
  s.setEntry i { e.skip skSuspect true with suspectSince := some (e.suspectSince.getD s.clock.now) }

/-- A request that fits no forme alone: one fit turn, then FORME_FIT (R321). -/
def unfitAlone (s : State) (i : Nat) : State :=
  if (s.entry i).fitTried then raiseEnd s i 0x2A else startTurn (count s Reg.galFitTurns 1) i true

/-- What becomes of a candidate that a batch leaves out, tried alone. -/
def leftOut (s : State) (x : ImpoSlot) (w : Want) : State := match findBucket s x [w] with
  | .noSlot => lackSlot s w.req
  | .noBucket => raiseEnd s w.req 0x2A
  | .suspect => skipSuspect s w.req
  | .unfit => unfitAlone s w.req
  | .ok _ _ => s.setEntry w.req { ((s.entry w.req).skip skNoSlot false).skip skSuspect false with
      noSlotSince := none, suspectSince := none }

/-- Try the candidates one after the other; the answer is the batch with its bucket, and the state with the skips found. -/
def gather (x : ImpoSlot) (alone : ImpoSlot) (kind : Nat) :
    List Nat → State × List Want × Option (Nat × Batch) → State × List Want × Option (Nat × Batch)
  | [], acc => acc
  | i :: rest, (s, ws, got) =>
    let w := wantOf s i kind
    match findBucket s x (ws ++ [w]) with
    | .ok e b => gather x alone kind rest (s, ws ++ [w], some (e, b))
    | .noSlot => gather x alone kind rest (lackSlot s i, ws, got)
    | _ => gather x alone kind rest (leftOut s alone w, ws, got)

/-! ### The commit (R316 to R319) -/

/-- The append-target entries of a request's slot (R318). -/
def appendTargets (x : ImpoSlot) (req : Nat) (d : Directory) (kMax l n : Nat) : Map Nat :=
  (d.heads.zipIdx).foldl (fun m (hl, h) => (List.range (appendBlocks l n)).foldl (fun m k =>
    let b := l / 64 + k
    if hl.first ≤ b ∧ b < hl.first + hl.cap then
      Map.set zeroAt m (h * kMax + k) (Map.get zeroAt hl.list (b - hl.first) + x.member * 2 ^ 32)
    else if 1 < x.record.groupSize then Map.set zeroAt m (h * kMax + k) (Config.peerGroup x.impoId req h b)
    else m) m) []

/-- The slot of a placed candidate; PROOFS_TRIMMED when proofs were left out. -/
def Placed.slot (p : Placed) (s : State) (x : ImpoSlot) (f : Forme) : Slot :=
  let e := s.entry p.req
  ⟨p.req, p.kind, e.length, p.count, false, if p.kind = 0 ∧ p.count < 1 + e.proofLen then 2 ^ 11 else 0,
    appendTargets x p.req p.dir f.kMax e.length p.count, []⟩

/-- A committed request is IN_STEP with its new groups listed. -/
def enterPick (s : State) (p : Placed) : State :=
  let e := s.entry p.req
  s.setEntry p.req { (e.skip skNoSlot false).skip skSuspect false with
    state := 4, phase := if p.kind = 0 then 1 else 0, dir := p.dir, noSlotSince := none, suspectSince := none
    ran := e.ran || decide (p.kind = 1) }

/-- The slots of a batch in the forme's order: decode slots, empty ones, prefill slots. -/
def slotTable (s : State) (x : ImpoSlot) (f : Forme) (ps : List Placed) : List (Option Slot) :=
  let row := fun (kind n : Nat) =>
    let mine := (ps.filter fun p => p.kind = kind).map fun p => some (p.slot s x f)
    mine ++ List.replicate (n - mine.length) none
  row 0 f.dslots ++ row 1 f.pslots

/-- The pick of a partition: none when nothing is placed. Reclaimed prefix nodes stay reclaimed. -/
def pickPart (s : State) (n : Nat) : State × Option PartPick := match activeSlot s n 0 with
  | none => (s, none)
  | some k0 =>
    let x0 := s.impo k0
    let limited := (candidates s n 3).foldl (fun s i => if atLimit s i then raiseEnd s i 0x2D else s) s
    let (s1, ws, got) := gather x0 x0 0 (candidates limited n 3) (limited, [], none)
    let kp := (activeSlot s n 1).getD k0
    let k := if ws = [] then kp else k0
    let (s2, ws2, got2) := gather (s.impo k) (s.impo kp) 1 (candidates s1 n 2) (s1, ws, got)
    match (if got2.isSome then findBucket s2 (s2.impo k) ws2 else .noBucket) with
    | .ok e b => match (s2.impo k).forme e with
      | none => (s2, none)
      | some f => (b.placed.foldl enterPick b.st, some ⟨n, k, e, slotTable b.st (s2.impo k) f b.placed⟩)
    | _ => (s2, none)

/-- A device picks for the partitions whose serving group it leads (R359); a group whose lead is lost runs no step (R464). -/
def leadsGroup (s : State) (n : Nat) : Bool := match activeSlot s n 0 with
  | none => true
  | some k => (!isGroup s k || isLead s k) && !(s.group k).lost

/-- Requests without an active decode imposition skip (Table 11.3). -/
def markNoImposition (s : State) : State :=
  (entriesWhere s fun e => decide (e.state = 2 ∨ e.state = 3)).foldl (fun s i =>
    let on := (activeSlot s (s.entry i).partition 0).isNone
    if (s.entry i).hasSkip skNoImposition = on then s else s.skipEntry i skNoImposition on) s

/-- Each step that a request with SKIP non-zero misses increments SKIPPED (R346). -/
def countSkipped (s : State) : State :=
  (entriesWhere s fun e => decide (e.skipField ≠ 0)).foldl (fun s i =>
    let e := s.entry i
    s.setEntry i { e with skipped := satAdd 0xFFFFFFFF e.skipped 1 }) s

/-- The device picks: both halves serve, and it has not failed (R16, R472). -/
def canPick (s : State) : Bool :=
  decide (s.west.phase = .ready ∧ s.east.phase = .ready) && !failed s && s.steps.replay = .none && s.steps.committed.isNone

/-- A request runs in an announced pick: it is IN_STEP, and the groups of this member are listed. -/
def adoptSlot (x : ImpoSlot) (f : Forme) (s : State) (sl : Slot) : State :=
  let e := s.entry sl.req
  let mine := sl.append.filter fun a => a.2 / 2 ^ 32 % 64 = x.member ∧ grpValid (a.2 % 2 ^ 32)
  let dir := mine.foldl (fun (d : Directory) a =>
    let h := a.1 / max 1 f.kMax
    d.put h (sl.length / 64 + a.1 % max 1 f.kMax - (d.head h).first) (a.2 % 2 ^ 32)) e.dir
  s.setEntry sl.req { (e.skip skNoSlot false).skip skSuspect false with
    state := 4, phase := if sl.kind = 0 then 1 else 0, dir := dir, noSlotSince := none, suspectSince := none
    ran := e.ran || decide (sl.kind = 1) }

/-- The pick that a member adopts from its lead's announcement (R359). -/
def adoptPick (s : State) (n : Nat) : State × Option PartPick := match activeSlot s n 0 with
  | none => (s, none)
  | some k0 => match (s.group k0).next with
    | none => (s, none)
    | some (e, prefill, sls) =>
      let k := if prefill then (activeSlot s n 1).getD k0 else k0
      let s1 := s.setGroup k0 { s.group k0 with next := none }
      match (s.impo k).forme e with
      | none => (s1, none)
      | some f => ((sls.filterMap id).foldl (adoptSlot (s.impo k) f) s1, some ⟨n, k, e, sls⟩)

/-- The pick of the next step, for every partition that `open_` passes; it commits when some request is placed. -/
def pickStep (s : State) (open_ : Nat → Bool) : State :=
  let s0 := markNoImposition s
  if !canPick s0 then s0
  else
    let parts := (List.range 64).filter fun n => open_ n
    let (s1, ps) := parts.foldl (fun (acc : State × List PartPick) n =>
      let (s', p) := if leadsGroup s0 n then pickPart acc.1 n else adoptPick acc.1 n
      (s', acc.2 ++ p.toList)) (s0, [])
    if ps = [] then s1 else countSkipped { s1 with steps := { s1.steps with committed := some ps } }

end Sys2Proof.Machine
end

