-- ==== Sys2Proof/Machine/Close.lean ====
section
/-!
DEFINITION. The close of a step (R285, R360 to R363, R370), its mirror traffic (R25, R477), and step batch records (R364 to R366,
R448).
-/
namespace Sys2Proof.Machine

/-! ### Offers to the prefix tree (R370) -/

/-- The request's own groups of block `b` return to the pool. -/
def freeBlock (s : State) (i b : Nat) : State :=
  let e := s.entry i
  let own := (e.dir.heads.filterMap fun hl =>
    if hl.first ≤ b then some (Map.get zeroAt hl.list (b - hl.first)) else none).filter fun g => grpValid g && !grpShared g
  scrubFreed s (own.map fun g => groupSpan g e.dir.layers)

/-- A new node takes the request's groups of block `b`, at the head of its bucket's chain. -/
def newNode (s : State) (i b k : Nat) (h : Word) (toks : List Nat) : State :=
  let e := s.entry i
  let t := s.tree e.partition
  let gs := e.dir.heads.map fun hl =>
    let g := if hl.first ≤ b then Map.get zeroAt hl.list (b - hl.first) else 0
    if grpValid g then g ||| 2 ^ 23 else 0
  let bk := h.toNat % 2 ^ t.bucketsLog2
  let old := Map.get (fun _ => noNode) t.buckets bk
  let x : PrefixNode := ⟨h, e.prefixNode, if old = noNode then none else some old, 1, 0, b, true, quireOf s e.partition,
    s.clock.now, toks, gs⟩
  let t1 := if e.prefixNode = noNode then t else
    let q := t.node e.prefixNode
    t.setNode e.prefixNode { q with children := q.children + 1 }
  let t2 := { t1.setNode k x with buckets := Map.set (fun _ => noNode) t1.buckets bk k }
  let s1 := (s.setTree e.partition t2).setEntry i
    { e with dir := listNode e.dir b x, prefixNode := k, sharedLen := 64 * (b + 1) }
  count s1 Reg.galPrefixInserts 1

/-- A node number for a new node: a free one, else that of the oldest node without reference and child, which is evicted. -/
def roomFor (s : State) (n : Nat) : Option (Nat × State) := match (s.tree n).room with
  | some k => some (k, s)
  | none => (s.tree n).oldest.map fun k => (k, freeNodeAt s n k)

/-- Offer block `b` of request `i`; the Bool: the pool was full. -/
def offerBlock (acc : State × Bool) (i b : Nat) : State × Bool :=
  let (s, full) := acc
  let e := s.entry i
  let t := s.tree e.partition
  let prev := if e.prefixNode = noNode then none else some (t.node e.prefixNode)
  let next := match prev with
    | none => 0
    | some x => x.block + 1
  if !t.enabled || e.noShare || e.offersStop || decide (next ≠ b) then (s, full)
  else
    let toks := blockTokens e.toklog b
    let h := blockHash t (match prev with | none => 0 | some x => x.hash) toks
    let s1 := countCollisions s e.partition t h b toks (t.bucket h)
    match findNode t h b e.prefixNode toks with
    | some k =>
      let l := e.length
      let s2 := refNode (freeBlock s1 i b) i k b
      (s2.setEntry i { s2.entry i with length := l }, full)
    | none => match roomFor s1 e.partition with
      | some (k, s2) => (newNode s2 i b k h toks, full)
      | none => (s1.setEntry i { s1.entry i with offersStop := true }, true)

/-- Offer the blocks that a new LENGTH has completed. -/
def offerBlocks (acc : State × Bool) (i old : Nat) : State × Bool :=
  ((List.range ((acc.1.entry i).length / 64)).filter fun b => old / 64 ≤ b).foldl (fun acc b => offerBlock acc i b) acc

/-! ### Settling (R360 to R363) -/

/-- Groups wholly at or beyond LENGTH return to the pool, their entries to VALID 0 (R285). -/
def dropStale (s : State) (i : Nat) : State :=
  let e := s.entry i
  let stale := e.dir.privateGroups.filter fun g => e.length ≤ 64 * ((e.dir.head g.1).first + g.2.1)
  scrubFreed (s.setEntry i { e with dir := stale.foldl (fun d g => d.drop g.1 g.2.1) e.dir })
    (stale.map fun g => groupSpan g.2.2 e.dir.layers)

/-- Proofs accepted: from `a` upward while the sampled token equals the proof. -/
def acceptedProofs (samples : Map (Option (Nat × Nat))) (log : Map Nat) (len k : Nat) : Nat → Nat → Nat
  | 0, a => a
  | fuel + 1, a => if k ≤ a then a else match Map.get (fun _ => none) samples a with
    | some (t, _) => if t = Map.get zeroAt log (len + 1 + a) then acceptedProofs samples log len k fuel (a + 1) else a
    | none => a

/-- What the close settles of a slot. -/
structure Settled where
  entry : Entry
  token : Option (Nat × Nat)
  accepted : Nat
  first : Bool

/-- Proofs waiting in a token log are discarded: the log keeps positions below PROMPT_LEN. -/
def trimLog (e : Entry) : Map Nat := e.toklog.filter fun x => x.1 < e.promptLen

/-- A decode slot with output (R360). -/
def settleDecode (e : Entry) (sl : Slot) : Settled :=
  let a := acceptedProofs sl.samples e.toklog e.length (sl.count - 1) 64 0
  let len := e.length + 1 + a
  match Map.get (fun _ => none) sl.samples a with
  | none => ⟨{ e with length := len, promptLen := len, proofLen := 0, state := 3, ends := e.ends ++ [0x29] }, none, a, false⟩
  | some (t, lp) => ⟨{ e with
      length := len, promptLen := len + 1, proofLen := 0, state := 3, lastToken := t
      toklog := Map.set zeroAt (e.toklog.filter fun x => x.1 < len) len t
      ends := if len = e.maxLen then e.ends ++ [0x2D] else e.ends }, some (t, lp), a, false⟩

/-- A prefill chunk with output (R361). -/
def settleChunk (e : Entry) (sl : Slot) : Settled :=
  let len := e.length + sl.count
  if e.promptFinal ∧ len = e.promptLen then match Map.get (fun _ => none) sl.samples (sl.count - 1) with
    | none => ⟨{ e with length := len, promptLen := len, state := 2, ends := e.ends ++ [0x29] }, none, 0, false⟩
    | some (t, lp) => ⟨{ e with
        length := len, promptLen := len + 1, lastToken := t, phase := 1, turnPending := true, state := 2
        toklog := Map.set zeroAt e.toklog len t }, some (t, lp), 0, true⟩
  else ⟨{ e with length := len, state := 2 }, none, 0, false⟩

/-- A slot without output: void (R177, R362), or of a request that its twin takes over (R481). -/
def settleVoid (e : Entry) (sl : Slot) : Settled :=
  ⟨{ e with state := if sl.kind = 1 then 2 else 3, proofLen := 0, toklog := trimLog e }, none, 0, false⟩

/-- Settle one slot: its record entry, the state, and whether the prefix pool was full. -/
def settleSlot (acc : State × List RecEntry × Bool) (sl : Slot) : State × List RecEntry × Bool :=
  let (s, recs, full) := acc
  let i := sl.req
  let e := s.entry i
  if e.state ≠ 4 then acc
  else
    let gone := decide (i ∈ s.home.declared)
    let r := if sl.isVoid || gone then settleVoid e sl else if sl.kind = 1 then settleChunk e sl else settleDecode e sl
    let now := s.clock.now
    let e1 := { r.entry with lastStamp := now, ttlAt := now + ttlNs s e.partition, run := satAdd 0xFFFFFFFF e.run 1 }
    let s1 := dropStale (s.setEntry i e1) i
    let (s2, full') := offerBlocks (s1, full) i e.length
    let lp := e.logprob && r.token.isSome
    let flags := sl.flags % 2 ^ 16 ||| (if r.token.isSome then 2 ^ 0 else 0) ||| (if sl.isVoid then 2 ^ rfVoid else 0) |||
      (if e.deadline.toNat < now then 2 ^ 8 else 0) ||| (if r.first then 2 ^ 9 else 0) ||| (if sl.kind = 1 then 2 ^ 10 else 0) |||
      (if lp then 2 ^ 12 else 0)
    let ran := if sl.kind = 0 ∧ ¬ sl.isVoid ∧ ¬ gone then sl.count - 1 else 0
    let s3 := count (count (count s2 Reg.galTokens (b2n r.token.isSome)) Reg.galProofsRun ran) Reg.galProofsAccepted r.accepted
    (s3, recs ++ [⟨i, e.tag, (r.token.map (·.1)).getD 0, if lp then (r.token.map (·.2)).getD 0 else 0, flags, r.accepted, 0⟩], full')

/-- Flag, beside those of Table 11.9, of a slot whose page job was refused (R172, R332). -/
def slRefused : Nat := 16

/-- Settle the slots of a partition's pick; a bucket with a refused page job becomes SUSPECT (Table 10.10). -/
def settlePick (acc : State × Map (List RecEntry) × Bool) (p : PartPick) : State × Map (List RecEntry) × Bool :=
  let sls := p.slots.filterMap id
  let (s1, recs, full) := sls.foldl settleSlot (acc.1, [], acc.2.2)
  let s2 := if sls.any fun sl => sl.flags.testBit slRefused then markSuspect s1 p.impo p.bucket else s1
  (s2, Map.put acc.2.1 p.part recs, full)

/-- The settling of the running step: record entries of the requests that ran, by partition. -/
def settleStep (s : State) : State × Map (List RecEntry) :=
  let (s1, recs, full) := s.steps.current.foldl settlePick (s, [], false)
  let s2 := if full then raiseEvent (setCause s1 Reg.galBlk 20) 0x034 noPart (blkDir Reg.galBlk) 2 0 0 else s1
  (s2, recs)

/-! ### The mirror traffic of a close (R25, Table 14.6) -/

/-- A request record of a STEP message. -/
def mirrorRecord (s : State) (i : Nat) : List Byte :=
  let e := s.entry i
  leBytes 2 i ++ leBytes 2 e.gen ++ leBytes 4 (e.length + e.phase * 2 ^ 31) ++ leBytes 4 e.promptLen ++
    leBytes 4 (e.lastToken + e.state * 2 ^ 24)

/-- The lists of at most 1,022 requests that STEP messages carry. -/
def stepGroups : Nat → List Nat → List (List Nat)
  | 0, _ => []
  | fuel + 1, l => if l = [] then [] else l.take 1022 :: stepGroups fuel (l.drop 1022)

/-- The rows of one position and layer, head by head from `h0` on: key row, then value row (Table 14.5). -/
def rowsContent (s : State) (dir : Directory) (pos layer h0 n : Nat) : List Byte :=
  let rb := rowBytes dir.format dir.dim
  leBytes 4 (pos % 2 ^ 23 + layer * 2 ^ 23) ++ leBytes 1 h0 ++ leBytes 1 n ++ leBytes 1 dir.format ++ leBytes 1 dir.dim ++
    (List.range n).flatMap fun j =>
      let hl := dir.head (h0 + j)
      let g := Map.get zeroAt hl.list (pos / 64 - hl.first)
      readT1 s (grpAddr g layer (pos % 64 * rb)) rb ++ readT1 s (grpAddr g layer (64 * rb + pos % 64 * rb)) rb

/-- The heads that a message carries at most. -/
def rowsMax (dir : Directory) : Nat := 16360 / (2 * max 1 (rowBytes dir.format dir.dim))

/-- Every ROWS content of one position: layer by layer, in runs of heads. -/
def rowsOf (s : State) (dir : Directory) (pos : Nat) : List (List Byte) :=
  let n := dir.heads.length
  let m := max 1 (rowsMax dir)
  let held := dir.heads.all fun hl => decide (hl.first ≤ pos / 64) && grpValid (Map.get zeroAt hl.list (pos / 64 - hl.first))
  if !held then []
  else (List.range dir.layers).flatMap fun l => (List.range ((n + m - 1) / m)).map fun k => rowsContent s dir pos l (m * k) (min m (n - m * k))

/-- The ROWS messages of a slot, sent before the STEP message of the close (R478). -/
def mirrorRows (s : State) (sl : Slot) : State :=
  let dir := (s.entry sl.req).dir
  ((List.range sl.count).flatMap fun j => rowsOf s dir (sl.length + j)).foldl (fun s c =>
    let (_, s1) := sendMirror s 3 sl.req s.steps.num.toNat c
    { s1 with home := { s1.home with rowsSent := s1.home.rowsSent + 1 } }) s

/-- The STEP messages of the close for the twin-kept requests that ran; TARGET names the first request of a message. -/
def mirrorStep (s : State) : State :=
  let kept := (s.steps.current.flatMap PartPick.reqs).filter fun i =>
    decide ((s.entry i).twin ≠ 0 ∧ i ∉ s.home.opens.map (·.1) ∧ i ∉ s.home.declared)
  if !mirrors s then s
  else
    let gs := stepGroups (kept.length + 1) kept
    let slots := (s.steps.current.flatMap fun p => p.slots.filterMap id).filter fun sl => sl.req ∈ kept
    let s := slots.foldl mirrorRows s
    (gs.zipIdx).foldl (fun s (g, j) =>
      let body := leBytes 8 s.steps.num.toNat ++ leBytes 4 s.home.rowsSent ++ leBytes 2 g.length ++
        leBytes 2 (b2n (decide (j + 1 < gs.length))) ++ g.flatMap (mirrorRecord s)
      let (id, s1) := sendMirror s 4 (g.headD 0) s.steps.num.toNat body
      { s1 with home := { s1.home with steps := s1.home.steps ++ [(id, g)] } }) s

/-! ### Step batch records -/

/-- The partition's record can be written: its ring runs, its port is up, a slot is free beside those of the records that wait. -/
def canWrite (s : State) (n : Nat) : Bool :=
  ringOn s n false && !portStopped s (getFld s (Reg.partCfg n) 2 1) &&
    decide (outstanding (s.ring n false).outHead (outTail s n) (outSize s n) + waitingRecords s n + 1 < outSize s n)

/-- Flags that give a request an entry although it did not run (R365). -/
def reportFlags : Nat := 2 ^ rfEnded + 2 ^ rfParked + 2 ^ rfSwapped + 2 ^ rfReturned

/-- Requests of a partition that this boundary reports although they did not run. -/
def reportsDue (s : State) (n : Nat) (ran : List RecEntry) : List Nat :=
  entriesWhere s (fun e => decide (e.partition = n ∧ (e.recFlags &&& reportFlags) ≠ 0)) |>.filter fun i => !(ran.any fun r => r.req = i)

/-- The entry of a request with the flags that have come up for it. -/
def flagged (s : State) (r : RecEntry) : RecEntry :=
  let e := s.entry r.req
  let fl := r.flags ||| e.recFlags
  { r with flags := fl, code := if fl.testBit rfEnded then e.code else 0 }

/-- A record is held (R448): counted; OUT_BLOCKED rises once; the 65,536th resets the partition. -/
def holdRecord (s : State) (n step : Nat) : State :=
  let h := heldRecords s n
  let s1 := count s (Reg.partOutHeld n) 1
  let s2 := putFld (putBit s1 (Reg.partState n) 2 true) (Reg.partState n) 32 16 (satAdd 0xFFFF h 1)
  let s3 := if partHeld s n then s2 else setCause s2 (Reg.partBlk n) 18
  if h = 0xFFFF ∧ canReset s3 n then
    let first := ((s3.records.find? fun r => r.part = n).map (·.step)).getD step
    beginPartReset (raiseEvent (capture s3 (Reg.partBlk n) 0x0604 0 n 0 first) 0x035 n (blkDir (Reg.partBlk n)) 2 (word first) 0) n
  else s3

/-- Compose the record of a partition. `pick`: what it ran in the step that closed, none when nothing ran. -/
def makeRecord (s : State) (n : Nat) (pick : Option PartPick) (closing : Bool) (ran : List RecEntry) : State :=
  let others := (reportsDue s n ran).map fun i => (⟨i, (s.entry i).tag, 0, 0, 0, 0, 0⟩ : RecEntry)
  let fresh := (ran ++ others).map (flagged s)
  let old := Map.get (fun _ => []) s.due n
  let all := old ++ fresh
  let now := all.take 1020
  let rest := all.drop 1020
  let s1 := fresh.foldl (fun s r => s.setEntry r.req { s.entry r.req with recFlags := 0 }) s
  let st := s.steps
  let k := match pick with
    | some p => some p.impo
    | none => activeSlot s n 0
  let prefill := match pick with
    | some p => (s.impo p.impo).kind = 1
    | none => false
  let flags := (if closing then b2n st.replayed + b2n st.paced * 2 + b2n st.late * 16 else 0) + b2n (decide (rest ≠ [])) * 4 +
    b2n prefill * 8
  let twin := now.any fun r => s.home.steps.any fun x => r.req ∈ x.2
  let r : Record := ⟨twin, n, st.num.toNat, st.triggerAt, s.clock.now, flags, match pick with | some p => p.bucket | none => 0xFF,
    (k.map fun j => (s.impo j).generation).getD 0, now⟩
  let ok := canWrite s1 n && !partHeld s1 n
  let s2 := count { s1 with
    records := s1.records ++ [r]
    due := Map.set (fun _ => []) s1.due n rest } Reg.galReportsDeferred (rest.length - (old.length - 1020))
  if ok then s2 else holdRecord s2 n r.step

/-- The device writes the records of a partition: it leads its group, or the lead is lost and it is the lowest other member (R359,
R464). -/
def writesRecords (s : State) (n : Nat) : Bool := match activeSlot s n 0 with
  | none => true
  | some k => !isGroup s k || isLead s k ||
      ((s.group k).lost && ((otherMembers s k).filter (· ≠ (s.impo k).record.lead)).all fun m => decide ((s.impo k).member < m))

/-- Records of a boundary: one per partition with an active decode imposition when a step closes (R364), and one for a partition
with reports due although it has none or no step closes: DEDUCED from R365. -/
def makeRecords (s : State) (closing : Bool) (picks : List PartPick) (ran : Map (List RecEntry)) : State :=
  (List.range 64).foldl (fun s n =>
    let mine := Map.get (fun _ => []) ran n
    let due := Map.get (fun _ => []) s.due n ≠ [] ∨ reportsDue s n mine ≠ []
    if writesRecords s n ∧ ((closing ∧ ((activeSlot s n 0).isSome ∨ mine ≠ [])) ∨ (due ∧ ¬ partHeld s n)) then
      makeRecord s n (picks.find? fun p => p.part = n) closing mine
    else s) s

end Sys2Proof.Machine
end

