-- ==== Sys2Proof/Machine/Mapout.lean ====
section
/-!
DEFINITION. Errors of T1 and what they cost (R133 to R136, R144), and map-outs (R145 to R149): what a lost channel costs, how
contents move, when the resource becomes fallow.
-/
namespace Sys2Proof.Machine

/-! ### Who owns a sector (R144) -/

/-- The offset of a device address in an EXTENT tensor; none outside it. -/
def extentOff (t : Tensor) (da : Nat) : Option Nat :=
  if (t.tier = 1 ∨ t.tier = 3) ∧ ¬ t.grouped ∧ mapDie t.t1map = daDie da ∧ mapBase t.t1map ≤ daCla da then
    let st := 2 ^ mapStripe t.t1map
    let rel := daCla da - mapBase t.t1map
    let chs := mapChans t.t1map
    match chs.findIdx? (· = daChan da) with
    | none => none
    | some j =>
      let off := (rel / st * chs.length + j) * st + rel % st
      if off < t.size then some off else none
  else none

/-- A span holds a device address. -/
def Span.holds (a : Span) (da : Nat) : Bool := decide (a.die = daDie da ∧ a.chan = daChan da ∧ a.lo ≤ daCla da ∧ daCla da < a.hi)

/-- The request whose private pages hold a device address. -/
def pageOwner (s : State) (da : Nat) : Option Nat :=
  (s.entries.find? fun e => e.2.dir.privateGroups.any fun g => (groupSpan g.2.2 e.2.dir.layers).holds da).map (·.1)

/-- The tensor that owns a sector, with the tensor-space address that a capture reports: the offset of an EXTENT tensor, 0 in a
GROUPED one. -/
def ownerOf (s : State) (da : Nat) : Option (Nat × Nat) :=
  match s.tensors.findSome? fun t => (extentOff t.2 da).map fun o => (t.1, t.1 * 2 ^ 31 + o) with
  | some x => some x
  | none => (pageOwner s da).map fun i => (kvHandle i, kvHandle i * 2 ^ 31)

/-- BLK_ERR_CAP2.ADDR of a sector. -/
def sectorAddr (s : State) (da : Nat) : Nat := ((ownerOf s da).map (·.2)).getD 0

/-- A first-error capture of the channel of a device address (R144). -/
def chCapture (s : State) (da code detail : Nat) : State :=
  let own := match ownerOf s da with
    | some (h, _) => (s.tensor h).owner
    | none => 0xFE
  capture s (Reg.chBlk (daDie da) (daChan da)) code (daBank da) own (sectorAddr s da) (da % 2 ^ 38 + detail)

/-! ### Map-outs (R145 to R147) -/

/-- The capacity that a map-out takes meets a span. -/
def Mapout.covers (m : Mapout) (a : Span) : Bool :=
  decide (a.die = m.die ∧ a.chan = m.chan ∧ a.lo < a.hi) &&
    m.pair.all fun k => decide (a.lo < (k + 1) * 0x1800000 ∧ k * 0x1800000 < a.hi)

/-- A span lies on a channel or bank pair that is lost. -/
def onLost (s : State) (a : Span) : Bool := s.mapouts.any fun m => m.lost && m.covers a

/-- The spans of the pages of a request. -/
def Entry.spans (e : Entry) : List Span := e.dir.groups.map fun g => groupSpan g.2.2 e.dir.layers

/-- The running impositions use a tensor. -/
def usedNow (s : State) (h : Nat) : Bool := s.impos.any fun x => decide (x.2.state = 3) && x.2.record.tensors.any fun t => t.handle = h

/-- A tensor without valid contents (R135, R148): DAMAGED; while an active imposition uses it, the running step is abandoned and
will run again, and no step triggers until the contents are back. A T2 copy is read again whole. -/
def tensorDamaged (s : State) (h : Nat) : State :=
  let t := s.tensor h
  if t.damaged then s
  else
    let s1 := s.setTensor h { t with damaged := true }
    let s2 := if usedNow s h then
        let s' := abandonWith s1 .normal
        { s' with steps := { s'.steps with holds := s'.steps.holds ++ [weightHold h] } }
      else s1
    if t.t2copy then addMove s2 .reload h t.region t.t2off t.t2size 0 (decide (t.t2size ≠ t.size)) 0 [] none else s2

/-- A request with pages on lost capacity (Table 5.11): quire pages await their rebuild, pages of a twin-kept request await the
twin; else it ends with MEM_LOST. The Bool: it ends. -/
def requestLost (s : State) (m : Mapout) (i : Nat) : State × Bool :=
  let e := s.entry i
  let onIt := e.dir.groups.filter fun g => m.covers (groupSpan g.2.2 e.dir.layers)
  if onIt = [] ∨ e.state = 0 ∨ e.state = 8 then (s, false)
  else if quireOf s e.partition then
    let r := Reg.mdQuireStatus m.die
    (putFld (s.skipEntry i skRestore true) r 0 16 (getFld s r 0 16 + onIt.length * e.dir.layers), false)
  else if e.twin ≠ 0 ∧ homeState s = 1 then (s.skipEntry i skRestore true, false)
  else (raiseEnd s i 0x24, true)

/-- A prefix node with a group on lost capacity leaves the tree. -/
def nodesLost (s : State) (m : Mapout) : State :=
  (s.trees.map (·.1)).foldl (fun s n =>
    let t := s.tree n
    (t.nodes.filter fun x => x.2.groups.any fun g => grpValid g && m.covers (groupSpan g t.layers)).foldl (fun s x =>
      if x.2.refs = 0 ∧ x.2.children = 0 then freeNodeAt s n x.1
      else
        let t' := (s.tree n).unchain x.1
        s.setTree n (t'.setNode x.1 { t'.node x.1 with valid := false })) s) s

/-- Quires whose parity page lies on the capacity of a map-out and has not moved (R152). -/
def parityLost (s : State) (m : Mapout) : List Nat :=
  let q := getReg s (Reg.mdQuireCfg m.die)
  (List.range (fld q 6 7 * 768)).filter fun x => decide (parityChan s m.die x = m.chan) &&
    m.pair.all fun k => decide (x / 768 + fld q 0 6 = k)

/-- Quires without parity are counted in EXPOSED. -/
def exposeQuires (s : State) (m : Mapout) : State :=
  let r := Reg.mdQuireStatus m.die
  putFld s r 16 16 (min 0xFFFF (getFld s r 16 16 + (parityLost s m).length))

/-- What lost capacity costs (R147, R148, R152). -/
def contentsLost (s : State) (m : Mapout) : State :=
  let ts := s.tensors.filter fun t => (t.2.tier = 1 ∨ t.2.tier = 3) ∧ ¬ t.2.grouped ∧ ((extentSpans t.2.t1map t.2.size).any m.covers)
  let s1 := ts.foldl (fun s t => tensorDamaged s t.1) s
  let (s2, n) := (s1.entries.map (·.1)).foldl (fun (acc : State × Nat) i =>
    let (s', b) := requestLost acc.1 m i
    (s', acc.2 + b2n b)) (s1, 0)
  let s3 := nodesLost s2 m
  let gone := (s3.mirrors.filter fun x => x.2.hot && x.2.dir.groups.any fun g => m.covers (groupSpan g.2.2 x.2.dir.layers)).map (·.1)
  let s4 := exposeQuires (gone.foldl (fun s k => refuseMirror s k 5) s3) m
  { s4 with mapouts := s4.mapouts.map fun x => if x = m then { m with ended := n } else x }

/-- The first 8 bytes of the fallow map entry of a map-out. -/
def Mapout.entry (m : Mapout) : Nat :=
  (if m.pair.isSome then 4 else 3) + m.die * 2 ^ 4 + m.chan * 2 ^ 8 + m.pair.getD 0 * 2 ^ 16 + m.code * 2 ^ 32

/-- The capacity is already fallow, or being mapped out in this form or in lost form. -/
def mapoutRuns (s : State) (d c : Nat) (pair : Option Nat) (lost : Bool) : Bool :=
  (match pair with
    | some k => !pairUp s d c k
    | none => !channelUp s d c) ||
  s.mapouts.any fun m => decide (m.die = d ∧ m.chan = c) && (m.pair.isNone || decide (m.pair = pair)) && (m.lost || !lost)

/-- A map-out begins (R145): the channel enters DRAINING or RESTORING and takes no new slot; MAPOUT_START. A bank pair whose entry
the full fallow map cannot take becomes a map-out of its channel (R466). `cause`: CAUSE of CH_STATUS, 0 none. -/
def beginMapout (s : State) (d c : Nat) (pair : Option Nat) (lost : Bool) (cause code : Nat) (skips : Bool) : State :=
  let pair := if s.fallow.length < 4096 then pair else none
  if mapoutRuns s d c pair lost then s
  else
    let m : Mapout := ⟨d, c, pair, lost, code, skips, 0, 0⟩
    let rest := s.mapouts.filter fun x => !(decide (x.die = d ∧ x.chan = c) && (pair.isNone || decide (x.pair = pair)))
    let s1 := { s with mapouts := rest ++ [m] }
    let s2 := if pair.isNone then putFld s1 (Reg.chStatus d c) 0 2 (if lost then 2 else 1) else s1
    let s3 := if cause ≠ 0 then putFld s2 (Reg.chStatus d c) 32 3 cause else s2
    let s4 := raiseEvent s3 0x021 noPart (blkDir (Reg.chBlk d c)) (dieHalf d).idx (word m.entry) 0
    if lost then contentsLost s4 m
    else if skips then
      (s4.entries.filter fun e => e.2.spans.any m.covers).foldl (fun s e => s.skipEntry e.1 skRestore true) s4
    else s4

/-! ### Contents in new places (R146, R147) -/

/-- Copy `n` bytes of sectors with their poison. -/
def copySectors (s : State) (src dst n : Nat) : State :=
  let bad := (List.range (n / 64)).filter fun i => sectorPoisoned s (src + 64 * i)
  bad.foldl (fun s i => setPoison s (dst + 64 * i) true) (dataWrite s dst (readT1 s src n))

/-- Copy the pages of a group. -/
def copyGroup (s : State) (layers from_ to_ : Nat) : State :=
  (List.range layers).foldl (fun s l => copySectors s (grpAddr from_ l 0) (grpAddr to_ l 0) 0x8000) s

/-- An EXTENT tensor switches to a new placement. -/
def switchExtentNow (s : State) (h : Nat) (m : Word) (copied : Bool) : State :=
  let t := s.tensor h
  if t.tier ≠ 1 then s
  else
    let s1 := if copied then
        let bad := (List.range ((t.size + 63) / 64)).filter fun i => sectorPoisoned s (extentDa t.t1map (64 * i))
        bad.foldl (fun s i => setPoison s (extentDa m (64 * i)) true)
          (clearExtentPoison (putExtent s m 0 (readExtent s t.t1map 0 t.size)) m 0 t.size)
      else s
    let s2 := scrubFreed s1 (extentSpans t.t1map t.size)
    let s3 := s2.setTensor h (retier t t.tier m)
    if copied then s3 else tensorWhole s3 h

/-- The groups of a request's pages switch to their new places: its head lists are rewritten. -/
def switchGroupsNow (s : State) (i : Nat) (gs : List (Nat × Nat × Nat)) (copied : Bool) : State :=
  let e := s.entry i
  let old := fun (g : Nat × Nat × Nat) => Map.get zeroAt (e.dir.head g.1).list g.2.1
  if gs.any fun g => !grpValid (old g) then s
  else
    let s1 := if copied then gs.foldl (fun s g => copyGroup s e.dir.layers (old g) g.2.2) s else s
    let s2 := s1.setEntry i { s1.entry i with dir := gs.foldl (fun (d : Directory) g => d.put g.1 g.2.1 g.2.2) e.dir }
    scrubFreed s2 ((gs.filter fun g => !grpShared (old g)).map fun g => groupSpan (old g) e.dir.layers)

/-- The groups of a prefix node switch: the node, and the head lists of the requests that hold it. -/
def switchNodeNow (s : State) (n k : Nat) (gs : List (Nat × Nat)) : State :=
  let t := s.tree n
  let x := t.node k
  let old := fun h => x.groups.getD h 0
  if gs.any fun g => !grpValid (old g.1) then s
  else
    let s1 := gs.foldl (fun s g => copyGroup s t.layers (old g.1) g.2) s
    let shared := fun (g : Nat) => if g.testBit 23 then g else g + 2 ^ 23
    let place := fun (g : Nat × Nat) => ((gs.find? fun y => decide (y.1 = g.2)).map fun y => shared y.2).getD g.1
    let s2 := s1.setTree n (t.setNode k { x with groups := x.groups.zipIdx.map place })
    let s3 := (s2.entries.filter fun e => e.2.partition = n ∧ k ∈ t.path 65536 e.2.prefixNode).foldl (fun s e =>
      s.setEntry e.1 { e.2 with dir := gs.foldl (fun (d : Directory) y => d.put y.1 (x.block - (d.head y.1).first) (shared y.2)) e.2.dir }) s2
    scrubFreed s3 (gs.map fun g => groupSpan (old g.1) t.layers)

/-- The groups of a hot mirror's pages switch. -/
def switchMirrorNow (s : State) (key : Nat) (gs : List (Nat × Nat × Nat)) : State := match s.mirrors.find? (fun m => m.1 = key) with
  | none => s
  | some (_, m) =>
    let old := fun (g : Nat × Nat × Nat) => Map.get zeroAt (m.dir.head g.1).list g.2.1
    if gs.any fun g => !grpValid (old g) then s
    else
      let s1 := gs.foldl (fun s g => copyGroup s m.dir.layers (old g) g.2.2) s
      let s2 := { s1 with mirrors := s1.mirrors.map fun x =>
        if x.1 = key then (key, { m with dir := gs.foldl (fun (d : Directory) g => d.put g.1 g.2.1 g.2.2) m.dir }) else x }
      scrubFreed s2 (gs.map fun g => groupSpan (old g) m.dir.layers)

/-! ### Quires (R150 to R152) -/

/-- CLA of slot `q` of the quire region. -/
def quireCla (s : State) (d q : Nat) : Nat := (fld (getReg s (Reg.mdQuireCfg d)) 0 6 + q / 768) * 0x1800000 + q % 768 * 0x8000

/-- The byte-wise XOR of `n` bytes at one CLA of several channels. -/
def xorPages (s : State) (d cla n : Nat) (chs : List Nat) : List Byte :=
  chs.foldl (fun acc c => List.zipWith (· ^^^ ·) acc (readT1 s (mkDa d c cla) n)) (List.replicate n 0)

/-- The next channel above the parity's own, cyclically, that can be read (R152). -/
def nextParity (s : State) (d q : Nat) : Option Nat :=
  ((List.range 15).map fun i => (q + 1 + i) % 16).find? fun c => pairReadable s d c (quireCla s d q / 0x1800000)

/-- A slot whose page has left becomes the parity of its quire: the XOR of the remaining data pages; the quire leaves EXPOSED. -/
def parityMoveNow (s : State) (d q c : Nat) : State :=
  let cla := quireCla s d q
  let a : Span := ⟨d, c, cla, cla + 0x8000⟩
  if (allSpans s).any a.meets then s
  else
    let rest := (List.range 16).filter fun x => x ≠ c ∧ x ≠ parityChan s d q ∧ pairReadable s d x (cla / 0x1800000)
    let s1 := fullWrite { s with parityMoved := Map.set (fun _ => 0) s.parityMoved (49152 * d + q) (c + 1) } (mkDa d c cla)
      (xorPages s d cla 0x8000 rest)
    let r := Reg.mdQuireStatus d
    putFld s1 r 16 16 (getFld s1 r 16 16 - 1)

/-! ### The end of a map-out (R146, R149) -/

/-- Nothing is left on the capacity of a map-out. -/
def mapoutEmpty (s : State) (m : Mapout) : Bool := !((allSpans s).any m.covers)

/-- A map-out is complete: the resource is fallow, in the working map and the NVS; MAPOUT_DONE, and the event, with what was
restored and ended when the capacity was lost. -/
def finishMapout (s : State) (m : Mapout) : State :=
  let d := m.die
  let c := m.chan
  let s0 := { s with mapouts := s.mapouts.filter (· ≠ m) }
  let s1 := if m.lost then s0 else exposeQuires s0 m
  let s2 := match m.pair with
    | none => setCause (putFld (channelFallow s1 d c m.code) (Reg.chStatus d c) 0 2 3) (Reg.chBlk d c) 19
    | some k =>
      let s' := pairFallow s1 d c k m.code
      setCause (putFld s' (Reg.chStatus d c) 16 7 ((List.range 64).filter fun k => !pairUp s' d c k).length)
        (Reg.nbuBlk d (c / 8)) 20
  let s3 := raiseEvent s2 0x022 noPart (blkDir (Reg.chBlk d c)) (dieHalf d).idx (word m.entry) 0
  if m.lost then raiseEvent s3 0x023 noPart (blkDir (Reg.chBlk d c)) (dieHalf d).idx (word m.restored) (word m.ended) else s3

/-- A request goes on once none of its pages lies on lost capacity or on the pair of a failed near-bank unit (R148, R190). -/
def restoredRequests (s : State) : State :=
  (entriesWhere s fun e => e.hasSkip skRestore).foldl (fun s i =>
    let sp := (s.entry i).spans
    if (sp.any fun a => s.mapouts.any fun m => (m.lost || m.skips) && m.covers a) ||
        s.poison.any (fun p => sp.any fun a => a.holds (64 * p.1)) then s
    else s.skipEntry i skRestore false) s

/-- Map-outs whose capacity is empty end. -/
def finishMapouts (s : State) : State :=
  restoredRequests ((s.mapouts.filter (mapoutEmpty s)).foldl finishMapout s)

/-! ### Poisoned data at its consumer (R135) -/

/-- A poisoned sector reaches a near-bank page job of a request: its pages are fetched again from a hot twin, else it ends. -/
def poisonedRequest (s : State) (i : Nat) (job : Bool) : State :=
  if job ∧ (s.entry i).twin = 1 ∧ homeState s = 1 then s.skipEntry i skRefetch true else raiseEnd s i 0x22

/-- A poisoned sector reaches a consumer that is no page job: the request that owns the page ends; other tensors are damaged. -/
def poisonedAccess (s : State) (da : Nat) : State := match ownerOf s da with
  | some (h, _) => match requestOf h with
    | some i => raiseEnd s i 0x22
    | none => tensorDamaged s h
  | none => s

end Sys2Proof.Machine
end

