-- ==== Sys2Proof/Machine/StartOps.lean ====
section
/-!
DEFINITION. Starts: the records of their steps, how a step of a half ends and the next one begins, failing starts and
restarts, and how each reset kind begins (R61 to R65, R71 to R77).
-/
namespace Sys2Proof.Machine

/-! ### Rails (R43, R60) -/

/-- Bits of DEV_RAIL_STATUS that hold the rails of a half. -/
def railMask : Half → Word
  | .west => ones 0 4 ||| ones 8 5
  | .east => ones 4 4 ||| ones 13 5

/-- The half of the rail at bit `i` of DEV_RAIL_STATUS. -/
def railHalf (i : Nat) : Half := if i < 4 ∨ (8 ≤ i ∧ i < 13) then .west else .east

def railOk (s : State) (i : Nat) : Bool := getBit s Reg.devRailStatus i

/-- VDD_HEATH of the half in tolerance. -/
def heathOk (s : State) (h : Half) : Bool := railOk s (12 + 5 * h.idx)

/-- The level of PWRGD. -/
def pwrgd (s : State) (h : Half) : Bool := getBit s Reg.devRailStatus (18 + h.idx)

/-- Take the monitors' reading of the rails of a half. -/
def refreshRails (s : State) (h : Half) (rails : BitVec 18) : State :=
  let r := getReg s Reg.devRailStatus
  setReg s Reg.devRailStatus ((r &&& ~~~(railMask h)) ||| (rails.setWidth 64 &&& railMask h))

/-- The lowest rail of a half that the reading finds out of tolerance. -/
def badRail (h : Half) (rails : BitVec 18) : Option Nat :=
  (List.range 18).find? fun i => decide (railHalf i = h) && !(rails.getLsbD i)

/-- VDD_MD and VPP_MD of a half are in tolerance in a reading. -/
def memRailsOk (h : Half) (rails : BitVec 18) : Bool := rails.getLsbD (8 + 5 * h.idx) && rails.getLsbD (9 + 5 * h.idx)

/-- The device cause RAIL_W or RAIL_E, which sets the half's alert (R537). -/
def railAlert (s : State) (h : Half) : State := setCause s Reg.devBlk (17 + h.idx)

/-! ### Records of steps -/

def StepFails.none (_ : Nat) : StepFails := ⟨0, .none, 0⟩

/-- What is recorded of a step's failures in one instance. -/
def HalfState.failsOf (x : HalfState) (step inst : Nat) : StepFails := Map.get StepFails.none x.fails (256 * step + inst)

/-- SCOPE of a step's record (Table 3.6). -/
def stepScope (x : HalfState) (h : Half) (step inst : Nat) : Nat :=
  if step ≤ 4 then 0x10 * (h.idx + 1)
  else if step ≤ 6 then 0x40 + inst
  else if step = 7 then 0x30 + inst
  else if step ≤ 9 then 0x50 + inst
  else if step = 11 ∧ x.kind = .half then 0x10 * (h.idx + 1)
  else 0

/-- The form in which a step runs: 1 alternate in the start after the one in which its normal form failed (R74; steps 2, 4
and 5 have one), 2 with its optional part skipped (R75), else 0. -/
def stepForm (x : HalfState) (step inst : Nat) : Nat :=
  let f := x.failsOf step inst
  if (step = 2 ∨ step = 4 ∨ step = 5) ∧ f.normalFailed = some (x.ordinal - 1) ∧ 0 < x.ordinal then 1
  else if (step = 6 ∨ step = 7) ∧ 2 ≤ f.optional ∧ ¬ x.fullTest then 2
  else 0

/-- The record of the step the half is in. -/
def stepRecord (s : State) (h : Half) (inst form outcome code detail : Nat) : LedgerRec :=
  let x := s.half h
  ⟨x.seq, x.step, stepScope x h x.step inst, form, outcome, code,
    (x.failsOf x.step inst).attempts + (if outcome = 1 ∨ outcome = 2 then 1 else 0),
    min 0xFFFFFFFF ((s.clock.now - x.began) / 1000), x.beganStamp, detail, 0⟩

/-- Keep count of a step's failures: consecutive failing starts, and which start its normal form failed in. -/
def noteStep (x : HalfState) (inst form outcome : Nat) : HalfState :=
  let f := x.failsOf x.step inst
  let f' : StepFails := if outcome = 1 ∨ outcome = 2 then
      ⟨f.attempts + 1, if form = 0 then some x.ordinal else .none, f.optional⟩
    else ⟨0, .none, f.optional⟩
  { x with fails := Map.set StepFails.none x.fails (256 * x.step + inst) f' }

/-- Keep count of the optional part of a step (R75). -/
def noteOptional (x : HalfState) (inst : Nat) (failed : Bool) : HalfState :=
  let f := x.failsOf x.step inst
  { x with fails := Map.set StepFails.none x.fails (256 * x.step + inst) { f with optional := if failed then f.optional + 1 else 0 } }

/-! ### From step to step -/

/-- The step after `step` in a start of a kind (Table 3.1). -/
def nextStep (kind : ResetKind) (step : Nat) : Nat :=
  if kind = .warm then (if step = 4 then 7 else if step = 7 then 11 else 12) else step + 1

/-- The ports of a half. -/
def halfPorts (h : Half) : List Nat := (List.range 3).map fun i => 2 * i + h.idx

/-- The instances that must end a step of a half: its die pairs with power for steps 5 to 7, the ports that train for
step 8, its trained ports for step 9, one instance otherwise. -/
def stepInstances (s : State) (h : Half) (step : Nat) : List Nat :=
  if 5 ≤ step ∧ step ≤ 7 then ((List.range 4).map (· + 4 * h.idx)).filter fun d => !(s.die d).stopped
  else if step = 8 then (halfPorts h).filter fun p => (s.port p).phase = .training
  else if step = 9 then (halfPorts h).filter fun p => (s.port p).phase = .verifying ∨ (s.port p).phase = .up
  else [0]

/-- Enter a step. -/
def enterStep (s : State) (h : Half) (step : Nat) : State :=
  s.setHalf h { s.half h with step := step, done := 0, began := s.clock.now, beganStamp := stamp s }

/-- A port begins to train, with a new link; `joins`: it will join routing by itself. -/
def trainPort (s : State) (p : Nat) (joins : Bool) : State :=
  let x := s.port p
  (s.setLink p (Link.fresh p)).setPort p { x with
    phase := .training, width := 0, outcome := 0, reason := 0, joins := joins, began := s.clock.now, beganStamp := stamp s }

/-- A port enters step 8: a fallow one and one that LINK_EN turns off end it at once (Table 12.7). -/
def portEight (h : Half) (s : State) (p : Nat) : State :=
  if s.fallow.any fun e => e.2.kind = 5 ∧ e.2.unit = p then
    let s1 := (putBit s (blkStatus (Reg.fabBlk p)) 2 true).setPort p { s.port p with phase := .fallow, outcome := 4 }
    ledgerWrite s1 (stepRecord s1 h p 0 4 0x0032 0)
  else if !getBit s (Reg.fabCtrl p) 0 then
    ledgerWrite (s.setPort p { s.port p with phase := .off, outcome := 4 }) (stepRecord s h p 0 0 0x0030 0)
  else trainPort s p true

/-- The other half is in service, so a start of one half takes its fabric time (Table 3.2). -/
def otherReady (s : State) (h : Half) : Bool := decide ((s.half h.other).phase = .ready)

/-- CODE and DETAIL of the step 9 record of a port: STRAP_RANGE in a device outside its shape (R82). -/
def nineCode (s : State) (h : Half) (code detail : Nat) : Nat × Nat :=
  if inShape s then (code, detail) else (0x0003, (s.half h).straps.toNat)

/-- Step 9 of a port with no trained partner ends with the outcome DARK (Table 3.9). -/
def portNine (h : Half) (s : State) (p : Nat) : State :=
  if (s.port p).phase = .verifying ∨ (s.port p).phase = .up then s
  else
    let s1 := s.setPort p { s.port p with outcome := 4 }
    let (code, detail) := nineCode s h 0 0
    let s2 := s1.setHalf h { s1.half h with done := (s1.half h).done ||| 2 ^ p }
    ledgerWrite s2 (stepRecord s2 h p 0 0 code detail)

/-- Enter step 9, or step 10 when no port is trained. -/
def enterNine (s : State) (h : Half) : State :=
  let s1 := (halfPorts h).foldl (portNine h) (enterStep s h 9)
  if stepInstances s1 h 9 = [] then enterStep s1 h 10 else s1

/-- Enter step 8, or step 9 when no port trains. -/
def enterEight (s : State) (h : Half) : State :=
  let s1 := (halfPorts h).foldl (portEight h) (enterStep s h 8)
  if stepInstances s1 h 8 = [] then enterNine s1 h else s1

/-- Leave the current step of a half for the next; a half without a die pair that has power passes over the steps of its dies. -/
def leaveStep (s : State) (h : Half) : State :=
  let kind := (s.half h).kind
  let next := nextStep kind (s.half h).step
  let n := if 5 ≤ next ∧ next ≤ 7 ∧ stepInstances s h next = [] then (if kind = .warm then 11 else 8) else next
  if n = 8 then enterEight s h else if n = 9 then enterNine s h else enterStep s h n

/-- The hub of the other half keeps the fabric time. -/
def otherHasTime (s : State) (h : Half) : Bool :=
  let o := s.half h.other
  otherReady s h || (decide (o.phase = .starting) && (decide (o.kind = .warm) || decide (10 < o.step)))

/-- A half reset beside a half that has the time: step 10 passes with the other hub's time (Table 3.2). -/
def takeTime (s : State) (h : Half) : State :=
  if (s.half h).kind = .half ∧ (s.half h).step = 10 ∧ otherHasTime s h then
    enterStep (ledgerWrite s (stepRecord s h 0 0 0 0 0)) h 11
  else s

/-- Mark an instance of the current step as ended, and leave the step when all have. -/
def doneInstance (s : State) (h : Half) (inst : Nat) : State :=
  let x := s.half h
  let s1 := s.setHalf h { x with done := x.done ||| 2 ^ inst }
  if (stepInstances s1 h x.step).all fun i => (x.done ||| 2 ^ inst).testBit i then takeTime (leaveStep s1 h) h else s1

/-- A die pair without power ends no step: the half leaves a step of its dies when the others have ended it (R43). -/
def withoutDie (s : State) (h : Half) : State :=
  let x := s.half h
  if x.phase = .starting ∧ 5 ≤ x.step ∧ x.step ≤ 7 ∧ (stepInstances s h x.step).all (x.done.testBit ·) then takeTime (leaveStep s h) h else s

/-- A start of a half fails (R73): it waits for its restart, or halts after three failing starts or with AUTO_RESTART_DIS; a
failure of step 1, 3 or 12 declares the device failed. -/
def failStart (s : State) (h : Half) (code : Nat) : State :=
  let x := s.half h
  let halt := getBit s Reg.devStartCtrl 1 || decide (3 ≤ x.failing + 1)
  let s1 := s.setHalf h { x with
    phase := if halt then .halted else .waiting, failing := x.failing + 1, failStep := x.step, failCode := code }
  if x.step = 1 ∨ x.step = 3 ∨ x.step = 12 then failStop s1 4 else s1

/-- An instance of the half's current step ends with an outcome: its record is written; FAIL and TIMEOUT end the start, PASS
and PASS_FALLOW end the instance (R71, R73). -/
def endStep (s : State) (h : Half) (inst form outcome code detail : Nat) : State :=
  let s1 := ledgerWrite s (stepRecord s h inst form outcome code detail)
  let s2 := s1.setHalf h (noteStep (s1.half h) inst form outcome)
  if outcome = 1 ∨ outcome = 2 then failStart s2 h code else doneInstance s2 h inst

/-- The half is in start step `n`. -/
def inStep (s : State) (h : Half) (n : Nat) : Bool := decide ((s.half h).phase = .starting ∧ (s.half h).step = n)

/-- The number by which the reload of a half's galley copy holds the trigger (R473). -/
def reloadHold (h : Half) : Nat := 1000 + h.idx

/-! ### Beginning a start -/

/-- A header record (Table 3.6), or the record of a discarded request (R63). -/
def headerRecord (s : State) (seq scope outcome code detail kind : Nat) : LedgerRec :=
  ⟨seq, 0, scope, 0, outcome, code, 0, 0, stamp s, detail, kind⟩

/-- SCOPE of a reset request: the device, or the half. -/
def resetScope : ResetKind → Half → Nat
  | .half, h => 0x10 * (h.idx + 1)
  | _, _ => 0

/-- A start of a half begins at `step`. -/
def beginHalf (s : State) (h : Half) (kind : ResetKind) (seq step : Nat) : State :=
  let x := s.half h
  s.setHalf h { x with
    phase := .starting, kind := kind, ordinal := x.ordinal + 1, seq := seq, step := step, done := 0
    began := s.clock.now, beganStamp := stamp s, fullTest := getBit s Reg.devStartCtrl 0
    nvsAlt := if kind = .warm then x.nvsAlt else false }

/-- A request that finds a reset in progress of equal or higher rank is recorded and discarded (R63). -/
def discardReset (s : State) (kind : ResetKind) (h : Half) (running : ResetKind) (seq : Nat) : State :=
  ledgerWrite s (headerRecord s seq (resetScope kind h) 3 0x60 running.code kind.code)

/-- A lower reset in progress in a half is abandoned: the record of its step carries SUPERSEDED (R63). -/
def supersede (s : State) (h : Half) (kind : ResetKind) : State :=
  if (s.half h).phase = .starting then
    ledgerWrite s (stepRecord s h 0 (stepForm (s.half h) (s.half h).step 0) 3 0x60 kind.code)
  else s

end Sys2Proof.Machine
end

