-- ==== Sys2Proof/Machine/PortOps.lean ====
section
/-!
DEFINITION. Ports and fabric time: training, verification and failure of a port (R384, R385, R397, R398, R405 to R407), and the choice of
a time parent and the time itself (R86 to R88, R410 to R413).
-/
namespace Sys2Proof.Machine

/-! ### Fabric time -/

def TimePort.fresh (_ : Nat) : TimePort := ⟨0, none, [], [], none⟩

def State.time (s : State) (p : Nat) : TimePort := Map.get TimePort.fresh s.times p

def State.setTime (s : State) (p : Nat) (x : TimePort) : State := { s with times := Map.set TimePort.fresh s.times p x }

/-- TIME_ALIGNED (R91). -/
def setAligned (s : State) (b : Bool) : State := putBit { s with clock := { s.clock with aligned := b } } Reg.devStartStatus 34 b

/-- Set the time counter; what a step in progress has taken so far stays. -/
def setClock (s : State) (n : Nat) : State :=
  let ago := fun (t : Nat) => n - (s.clock.now - t)
  { s with
    clock := { s.clock with now := n, slew := 0 }
    west := { s.west with began := ago s.west.began }
    east := { s.east with began := ago s.east.began } }

/-- A neighbour that offers aligned time and may be the parent: port, hop count, origin. -/
def timeOffers (s : State) : List (Nat × Nat × Word) :=
  (List.range 6).filterMap fun p => match (s.time p).offer with
    | some (h, o) => if (s.port p).phase = .up ∧ (s.port p).outcome = 1 ∧ ¬ getBit s (Reg.fabTimeCfg p) 17 then some (p, h, o) else none
    | none => none

/-- The offer of the lowest origin serial, then the lowest hop count, then the first port (R87, R88). -/
def bestOffer (s : State) : Option (Nat × Nat × Word) :=
  (timeOffers s).foldl (fun (b : Option (Nat × Nat × Word)) x => match b with
    | none => some x
    | some y => if x.2.2 < y.2.2 ∨ (x.2.2 = y.2.2 ∧ x.2.1 < y.2.1) then some x else b) none

/-- Show the parent in FAB_STATUS.TIME_PARENT; another port's servo is not locked. -/
def setParent (s : State) (p : Option Nat) : State :=
  (List.range 6).foldl (fun s q =>
    let s1 := putBit s (Reg.fabStatus q) 35 (decide (p = some q))
    if p = some q then s1 else putBit s1 (Reg.fabTimeStatus q) 56 false) { s with clock := { s.clock with parent := p } }

/-- Follow the best offer, or none. -/
def chooseParent (s : State) : State := match bestOffer s with
  | none => setParent s none
  | some (p, h, o) =>
    let s1 := setParent s (some p)
    { s1 with clock := { s1.clock with hop := h + 1, origin := o, source := false, epochWait := false } }

/-- The origin serial that is offered and not followed (R88). -/
def otherOrigin (s : State) : Option Word :=
  if s.clock.parent = none ∧ ¬ s.clock.source then none
  else ((timeOffers s).map (·.2.2)).find? fun o => o ≠ s.clock.origin

/-- Offers traced to two origins: noted once for each rejected serial. -/
def noteConflict (s : State) : State := match otherOrigin s with
  | none => s
  | some o =>
    if s.clock.rejected = some o then s
    else raiseEvent { s with clock := { s.clock with rejected := some o } } 0x045 noPart noBlock 2 o 0

/-- A device without a parent, or one that follows a higher origin than one now offered, takes the best offer. -/
def considerOffers (s : State) : State :=
  let lower := (timeOffers s).any fun x => decide (x.2.2 < s.clock.origin)
  noteConflict (if (s.clock.parent = none ∧ ¬ s.clock.source) ∨ lower then chooseParent s else s)

/-- Both halves are in start step 10. -/
def atTen (s : State) : Bool := inStep s .west 10 && inStep s .east 10

/-- Start step 10 of the device ends; none of its outcomes fails the start (R88). -/
def endTen (s : State) (outcome code detail : Nat) : State :=
  if atTen s then
    let (code, detail) := match code, s.clock.rejected with
      | 0, some o => (0x0041, o.toNat % 2 ^ 32)
      | _, _ => (code, detail)
    doneInstance (doneInstance (ledgerWrite s (stepRecord s .west 0 0 outcome code detail)) .west 0) .east 0
  else s

/-- The origin becomes the source: the counter takes EPOCH_BASE (R86). -/
def becomeSource (s : State) (code : Nat) : State :=
  let s1 := setAligned (setClock s s.colophon.epochBase.toNat) true
  endTen { s1 with clock := { s1.clock with source := true, hop := 0, origin := s.colophon.serial, epochWait := false } } 0 code 0

/-- EPOCH of a time message: the stamp of the last edge, 0 when none has come for 1 s (R411). -/
def epochField (s : State) : Nat := match s.clock.epochStamp with
  | some t => if s.clock.now ≤ t + 1000000000 then t else 0
  | none => 0

/-- The content of a time message (Table 12.13). -/
def timeBytes (s : State) (xseq t1 t2 t3 : Nat) : List Byte :=
  leBytes 4 xseq ++ leBytes 1 s.clock.hop ++ leBytes 3 0 ++ leBytes 8 t1 ++ leBytes 8 t2 ++ leBytes 8 t3 ++
    leBytes 8 (epochField s) ++ leBytes 8 s.clock.origin.toNat

/-- Coordinates of the partner of a port. -/
def partnerCoord (s : State) (p : Nat) : Nat := getFld s (Reg.fabPartnerInfo p) 0 14

/-- Send a message to the partner of a port over that port. -/
def sendPartner (s : State) (p cls op dst : Nat) (content : List Byte) : State :=
  let (id, s1) := newMsgId s cls
  sendThrough s1 p ⟨0, myCoord s, dst, cls, op, false, id, 0, content⟩

/-! ### The records of a port -/

/-- The record of step 8 or 9 of a port that trains outside a start (R83). -/
def portRecord (s : State) (p step outcome code detail : Nat) : LedgerRec :=
  { stepRecord s (portHalf p) p 0 outcome code detail with
    step := step, scope := 0x50 + p, attempt := 0
    duration := min 0xFFFFFFFF ((s.clock.now - (s.port p).began) / 1000), timeBegin := (s.port p).beganStamp }

/-- A port ends step 8 or 9: as an instance of its half's start, or outside a start. -/
def endPort (s : State) (p step outcome code detail : Nat) : State :=
  let h := portHalf p
  if inStep s h step ∧ ¬ (s.half h).done.testBit p then endStep s h p 0 outcome code detail
  else ledgerWrite s (portRecord s p step outcome code detail)

/-- Fewer than 32 good lanes: the port is fallow (R384). -/
def portFallow (s : State) (p step : Nat) : State :=
  let s1 := (putBit s (blkStatus (Reg.fabBlk p)) 2 true).setPort p { s.port p with phase := .fallow, width := 0, outcome := 4, reason := 0 }
  endPort (fallowAdd s1 5 0 p 0 0x0032) p step 4 0x0032 0

/-! ### Lanes (R382, R384, R424) -/

/-- The physical lanes that carry the link, by logical lane; a spare k is 64 + k; none with fewer than 32. -/
def pickLanes (good : List Nat) : List Nat :=
  let data := good.filter (· < 64)
  let sp := good.filter (64 ≤ ·)
  let n := good.length
  if 64 ≤ n then
    ((List.range 64).foldl (fun (acc : List Nat × List Nat) l =>
      if l ∈ data then (acc.1 ++ [l], acc.2) else (acc.1 ++ acc.2.take 1, acc.2.drop 1)) ([], sp)).1
  else if 48 ≤ n then (data ++ sp).take 48
  else if 32 ≤ n then (data ++ sp).take 32
  else []

/-- The code of a width. -/
def widthCode (n : Nat) : Nat := if n = 64 then 3 else if n = 48 then 2 else if n = 32 then 1 else 0

/-- Show the spares in use in FAB_SPARE_MAP and FAB_STATUS. -/
def showSpares (s : State) (p : Nat) (lanes : List Nat) : State :=
  let s1 := (List.range 4).foldl (fun s k => match lanes.idxOf? (64 + k) with
    | some l => putFld (putBit s (Reg.fabSpareMap p) (8 * k + 7) true) (Reg.fabSpareMap p) (8 * k) 6 l
    | none => putFld (putBit s (Reg.fabSpareMap p) (8 * k + 7) false) (Reg.fabSpareMap p) (8 * k) 6 0) s
  putFld s1 (Reg.fabStatus p) 32 3 (lanes.filter (64 ≤ ·)).length

/-- The link runs on these lanes. -/
def setLanes (s : State) (p : Nat) (lanes : List Nat) : State :=
  let s1 := s.setLink p { s.link p with lanes := lanes, spares := [], widthAt := none }
  let s2 := s1.setPort p { s1.port p with width := widthCode lanes.length }
  showSpares (setReg s2 (Reg.fabLaneGood p) (ones 0 lanes.length)) p lanes

/-! ### Colophon summaries (R405, R406) -/

/-- OUTCOME of Table 12.10. -/
def outcomeByte (s : State) (p : Nat) : Nat :=
  let x := s.port p
  x.outcome % 4 + x.reason % 4 * 4 + b2n (getBit s (Reg.fabStatus p) 10) * 16

/-- OWNER_DIGEST of this device. -/
def ownDigest (s : State) : Nat := if s.colophon.lcState ≠ 0 ∧ s.nvs.ownerKey then Config.ownerDigest.toNat else 0

/-- Bytes 0x00 to 0x3B of the summary. -/
def summaryBody (s : State) (p : Nat) : List Byte :=
  let c := s.colophon
  leBytes 4 0x5A250C02 ++ leBytes 2 0x0100 ++ leBytes 2 (sampledCoord s) ++ leBytes 8 c.serial.toNat ++ leBytes 2 0x0200 ++ leBytes 2 0x0302 ++
    leBytes 4 c.fwVersion ++ leBytes 1 c.lcState ++ leBytes 1 p ++ leBytes 2 c.shape ++ leBytes 1 (outcomeByte s p) ++ leBytes 3 0 ++
    leBytes 8 (ownDigest s) ++ leBytes 20 0

/-- The expected neighbour of a logical direction: none on an axis of size 1 (R82). -/
def expected (s : State) (dir : Nat) : Option Nat :=
  if axisDim s (dir / 2) = 1 then none else some (neighbour s (myCoord s) dir)

/-- Send the summary to the partner of a port. -/
def sendSummary (s : State) (p : Nat) : State :=
  let b := summaryBody s p
  let dst := if getReg s (Reg.fabPartnerSerial p) = 0 then (expected s p).getD 0 else partnerCoord s p
  sendPartner s p 1 0x14 dst (b ++ leBytes 4 (crc32c b))

/-- The link version, 0 for none (R406). -/
def linkVersion (c : List Byte) : Nat :=
  let v := min 0x0302 (leAt c 0x12 2)
  if max 0x0200 (leAt c 0x10 2) ≤ v then v else 0

/-- The life-cycle states of both ends match (Table 3.9). -/
def lcMatches (s : State) (c : List Byte) : Bool :=
  let own := s.colophon.lcState
  let lc := leAt c 0x18 1
  decide (own = lc ∧ (own = 0 ∨ own = 3)) ||
    decide ((own = 1 ∨ own = 2) ∧ (lc = 1 ∨ lc = 2) ∧ leAt c 0x20 8 = ownDigest s)

/-- The summary's own check, with MAGIC and VERSION. -/
def summaryOk (c : List Byte) : Bool :=
  decide (c.length = 64 ∧ leAt c 0 4 = 0x5A250C02 ∧ leAt c 4 2 = 0x0100 ∧ leAt c 0x3C 4 = crc32c (c.take 0x3C))

/-- Outcome and reason by the order of R83. -/
def verify (s : State) (p : Nat) (c : List Byte) : Nat × Nat :=
  let co := leAt c 6 2 % 2 ^ 14
  let fits := fun q => decide (expected s q = some co)
  if linkVersion c = 0 then (3, 0)
  else if !lcMatches s c then (3, 1)
  else if !summaryOk c then (3, 2)
  else if fits p then (1, 0)
  else if co = myCoord s then (2, 3)
  else if (List.range 6).any fun q => decide (q / 2 ≠ p / 2) && fits q then (2, 0)
  else if fits (2 * (p / 2) + (1 - p % 2)) then (2, 1)
  else (2, 2)

/-- CODE and DETAIL of a port's step 9 record (Table 3.7). -/
def verifyCode (s : State) (p : Nat) (c : List Byte) : Nat × Nat :=
  let x := s.port p
  nineCode s (portHalf p) (if x.outcome = 2 then 0x0033 else if x.outcome = 3 then 0x0034 else 0)
    (if x.outcome = 2 then x.reason + leAt c 6 2 * 2 ^ 16 else if x.outcome = 3 then x.reason else 0)

/-- Take the partner's summary into the registers (R414, R416). -/
def showPartner (s : State) (p : Nat) (c : List Byte) : State :=
  let s1 := setReg (setReg s (Reg.fabPartnerSerial p) (word (leAt c 8 8))) (Reg.fabPartnerInfo p)
    (word (leAt c 6 2 + leAt c 0x19 1 % 8 * 2 ^ 16 + leAt c 0x18 1 % 4 * 2 ^ 24 + leAt c 0x14 4 * 2 ^ 32))
  let o := leAt c 0x1C 1
  putFld (putFld s1 (Reg.fabStatus p) 11 2 (o / 16 % 2 + 2 * b2n (decide (o % 4 = 1)))) (Reg.fabStatus p) 16 16 (linkVersion c)

/-- Below version 3.0 no lane stays on a spare (R406). -/
def retireSpares (s : State) (p : Nat) : State :=
  let v := getFld s (Reg.fabStatus p) 16 16
  let l := (s.link p).lanes
  if v = 0 ∨ 0x0300 ≤ v ∨ ¬ l.any (64 ≤ ·) then s
  else match pickLanes (l.filter (· < 64)) with
    | [] => portFallow s p 9
    | lanes => setLanes s p lanes

/-- A verified port reaches UP: it joins routing in a start at once, outside one at the next boundary, after RETRAIN or PATCH with REJOIN
(R83, R403). -/
def portUp (s : State) (p : Nat) : State :=
  let x := s.port p
  let s1 := s.setPort p { x with phase := .up }
  let s2 := if !x.joins then s1
    else if (s.half (portHalf p)).phase = .ready then { s1 with deferred := s1.deferred ++ [.rejoin p] }
    else s1.setLink p { s1.link p with joined := true }
  raiseEvent (setCause s2 (Reg.fabBlk p) 17) 0x041 noPart (blkDir (Reg.fabBlk p)) (portHalf p).idx (word p) (word (x.outcome + x.width * 2 ^ 8))

/-- A summary from the partner decides the outcome of the port (R83, R405). -/
def takeSummary (s : State) (p : Nat) (c : List Byte) : State :=
  let old := s.port p
  let before := (getReg s (Reg.fabPartnerSerial p), getReg s (Reg.fabPartnerInfo p), getFld s (Reg.fabStatus p) 11 2)
  let (o, r) := verify s p c
  let s1 := showPartner (s.setPort p { old with outcome := o, reason := r }) p c
  let after := (getReg s1 (Reg.fabPartnerSerial p), getReg s1 (Reg.fabPartnerInfo p), getFld s1 (Reg.fabStatus p) 11 2)
  let outChanged : Bool := decide ((old.outcome, old.reason) ≠ (o, r))
  let known : Bool := decide (old.phase = .up) || decide (before.1 ≠ 0)
  let s2 := if known && (outChanged || decide (before ≠ after)) then
      raiseEvent (setCause s1 (Reg.fabBlk p) 19) 0x043 noPart (blkDir (Reg.fabBlk p)) (portHalf p).idx (word p) after.1
    else s1
  let s3 := retireSpares s2 p
  if (s3.port p).phase = .fallow then s3
  else
    let s4 := if old.phase = .verifying then
        let (code, detail) := verifyCode s3 p c
        portUp (endPort s3 p 9 0 code detail) p
      else s3
    if outChanged then sendSummary s4 p else s4

/-! ### Failure of a port (R398) -/

/-- A port goes DOWN for a cause of Table 12.14: its transmitters are off, its time offer is gone. -/
def linkDown (s : State) (p cause : Nat) : State :=
  let s1 := setReg (s.setPort p { s.port p with phase := .down, width := 0 }) (Reg.fabLaneGood p) 0
  let s2 := setCause (capture s1 (Reg.fabBlk p) 0x0501 0 noPart 0 cause) (Reg.fabBlk p) 16
  let s3 := raiseEvent s2 0x040 noPart (blkDir (Reg.fabBlk p)) (portHalf p).idx (word p) (word cause)
  let s4 := s3.setTime p { s3.time p with offer := none, t1 := none }
  if s4.clock.parent = some p then chooseParent s4 else s4

/-- FAB_MAP takes an accepted value (R403, R407). -/
def fabMapNow (s : State) (p : Nat) (v : Word) : State :=
  let was := getBit s (Reg.fabStatus p) 10
  let s1 := putBit (setReg s (Reg.fabMap p) v) (Reg.fabStatus p) 10 (bit v 3)
  if was ≠ bit v 3 ∧ (s.port p).phase = .up then sendSummary s1 p else s1

/-- A verified or accepted port returns to routing (R403). -/
def rejoinNow (s : State) (p : Nat) : State :=
  if (s.port p).phase = .up ∧ ((s.port p).outcome = 1 ∨ getBit s (Reg.fabStatus p) 10) then
    s.setLink p { s.link p with joined := true }
  else s

end Sys2Proof.Machine
end

