-- ==== Sys2Proof/Machine/Boundary.lean ====
section
/-!
DEFINITION. The step boundary (R353): commands, the device's own changes, and the pick, in their order.
-/
namespace Sys2Proof.Machine

/-! ### Changes that waited (R100, R101) -/

/-- ENABLE and QUIESCE of a block take effect (R100). -/
def blkCtrlNow (s : State) (blk : Nat) : State :=
  let en := getBit s (blkCtrl blk) 0
  let q := getBit s (blkCtrl blk) 1
  let s1 := putBit s (blkStatus blk) 0 en
  let s2 := { s1 with quiescing := Map.set (fun _ => false) s1.quiescing blk q }
  if q then s2 else putBit s2 (blkStatus blk) 1 false

/-- A new TWIN_SERIAL takes effect (R474). -/
def setTwinNow (s : State) (serial : Word) : State :=
  let s1 := (twinKept s).foldl (fun s i => dropTwin (twinEnd s i) i) s
  let s2 := { s1 with
    colophon := { s1.colophon with twinSerial := serial }
    nvs := if s1.nvs.ok then { s1.nvs with colophon := { s1.nvs.colophon with twinSerial := serial } } else s1.nvs
    home := { s1.home with steps := [] } }
  refreshTwin (putFld s2 Reg.devTwinStatus 0 2 (if serial = 0 then 0 else 1))

/-- A die pair has been lost (R465): the active impositions of the partitions on it go, their requests end with DIE_LOST or, where
declared, TAKEN_OVER. -/
def dieLostNow (s : State) (d : Nat) : State :=
  ((List.range 64).filter (onDie s d)).foldl (fun s n =>
    let s1 := dropImpos s n true
    (liveReqs s1 n).foldl (fun s i => settleEnd (raiseEnd s i 0x43) i) (leavePicks s1 n)) s

/-- A page owner changes; the PART_CORES of the partitions follow a change of a core (R101, R108, R432). -/
def ownerNow (s : State) (blk val : Nat) : State :=
  let s1 := putFld s (blkOwner blk) 0 16 val
  if blkType blk = 0x07 then (List.range 64).foldl (fun s n => if partPhase s n = 0 then s else refreshCores s n) s1 else s1

/-- A bias chunk becomes live (R175, R197). -/
def biasChunkNow (s : State) (table chunk : Nat) (vals : List Nat) : State :=
  let s1 := { s with bias := (vals.zipIdx).foldl (fun m (v, i) => Map.set zeroAt m (4096 * table + 64 * chunk + i) v) s.bias }
  (List.range 8).foldl (fun s d => (List.range 2).foldl (fun s g => putBit s (Reg.nbuBiasCommit d g) 1 false) s) s1

/-- A move's completion adds a record entry, and so waits while the partition's records are held (R448). -/
def moveWaits (s : State) (id : Nat) : Bool := match s.moves.find? fun m => m.id = id with
  | some m => match requestOf m.handle with
    | some i => partHeld s (s.entry i).partition
    | none => false
  | none => false

/-- A change that must wait for a later boundary. -/
def waits (s : State) (d : Deferred) : Bool := match d with
  | .moveDone id => moveWaits s id
  | .lifecycle _ => true
  | .entryFree i | .park i => partHeld s (s.entry i).partition
  | .activate k => isGroup s k && (if isLead s k then decide ((s.group k).awaited ≠ []) else !(s.group k).released)
  | .blkCtrl _ | .failStop _ | .owner _ _ | .inForce _ | .biasChunk _ _ _ | .biasOwner _ _ | .switchExtent _ _ _ | .switchGroups _ _ _
  | .switchNode _ _ _ | .switchMirror _ _ | .parityMove _ _ _ | .turnDone _ | .route _ _ | .fabMap _ _ | .rejoin _ | .assign _ | .release _ | .partReset _ | .coresWiped _
  | .setTwin _ | .dieLost _ | .dropImpo _ => false

/-- The entry of an ended request that has been reported and held becomes FREE (R355). -/
def freeEnded (s : State) (i : Nat) : State :=
  if (s.entry i).state = 8 ∧ (s.entry i).reportedAt.isSome then freeEntry s i else s

/-- A PAUSED request starts its park (R158, R377); without T2 space it stays (R160). -/
def startPark (s : State) (i : Nat) : State :=
  if (s.entry i).state = 5 ∧ ¬ (s.entry i).hasSkip skMoving then (moveOut s i .park none).getD s else s

/-- Apply one change. -/
def applyDeferred (s : State) (d : Deferred) : State := match d with
  | .blkCtrl blk => blkCtrlNow s blk
  | .lifecycle _ => s
  | .failStop reason => failStop s reason
  | .owner blk val => ownerNow s blk val
  | .inForce off => { s with inForce := Map.del s.inForce off }
  | .biasChunk t c vs => biasChunkNow s t c vs
  | .biasOwner t o => giveTable s t o
  | .switchExtent h m copied => switchExtentNow s h m copied
  | .switchGroups i gs copied => switchGroupsNow s i gs copied
  | .switchNode n k gs => switchNodeNow s n k gs
  | .switchMirror k gs => switchMirrorNow s k gs
  | .parityMove d q c => parityMoveNow s d q c
  | .moveDone id => moveDone s id
  | .turnDone i => turnDone s i
  | .activate k => activateNow s k
  | .route tag e => { s with routes := Map.set (fun _ => 0) s.routes tag e }
  | .fabMap p v => fabMapNow s p v
  | .rejoin p => rejoinNow s p
  | .assign data => assignNow s data
  | .release n => releaseNow s n
  | .partReset n => partResetNow s n
  | .coresWiped n => if partPhase s n = 3 then coresBack s n else s
  | .setTwin serial => setTwinNow s serial
  | .dieLost die => dieLostNow s die
  | .dropImpo k => dropSlot s k
  | .entryFree i => freeEnded s i
  | .park i => startPark s i

/-- Apply the changes that are due, in the order in which they were made; those they defer wait for the next boundary. -/
def applyAll (s : State) : State :=
  s.deferred.foldl (fun s d => if waits s d then { s with deferred := s.deferred ++ [d] } else applyDeferred s d) { s with deferred := [] }

/-! ### Ends and expiries -/

/-- Act on every end that has been raised, in index order. -/
def settleAll (s : State) : State := (s.entries.map (·.1)).foldl settleEnd s

/-- GAL_CFG in force (R378). -/
def galCfgNow (s : State) : Word := inForceReg s Reg.galCfg

/-- A life-cycle change waits for its cold reset. -/
def lcDue (s : State) : Bool := s.deferred.any fun d => match d with
  | .lifecycle _ => true
  | _ => false

/-- NOSPACE_WAIT is over for a request: it ends with NO_CAPACITY, or its RESUME completes with it (R156, R329, R374). -/
def noSpace (s : State) (i : Nat) : State :=
  let e := s.entry i
  if e.state = 6 ∧ e.resumePending ∧ ¬ e.hasSkip skMoving then
    let mine := fun (c : Cmd) => decide (c.opcode = 5 ∧ c.req = i ∧ c.gen = e.gen)
    let s1 := { s.setEntry i { e with resumePending := false, noSlotSince := none } with arrived := s.arrived.filter fun c => !mine c }
    (s.arrived.filter mine).foldl (fun s c => complete s c 0x2B 0) s1
  else if e.hasSkip skNoSlot then raiseEnd s i 0x2B else s

/-- What the passing of time has made due for one entry (R156, R158, R355, R376). -/
def expireEntry (s : State) (i : Nat) : State :=
  let e := s.entry i
  let now := s.clock.now
  let held := partHeld s e.partition
  let wait := getFld s Reg.devMemCfg 48 8 * 1000000
  let s1 := if (e.state = 1 ∨ e.state = 5 ∨ e.state = 6 ∨ e.state = 7) ∧ e.ttlAt < now then raiseEnd s i 0x2E else s
  let s2 := if e.state = 8 ∧ ¬ held ∧ e.reportedAt.any (fun r => r + fld (galCfgNow s) 0 8 * 100000000 ≤ now) then freeEntry s1 i else s1
  let s3 := if e.noSlotSince.any fun t => t + wait ≤ now then noSpace s2 i else s2
  let idle := getFld s (Reg.partTime e.partition) 0 17 * 1000000000
  if e.state = 5 ∧ e.ends = [] ∧ ¬ held ∧ e.lastStamp + idle ≤ now then startPark s3 i else s3

def expireAll (s : State) : State := (s.entries.map (·.1)).foldl expireEntry s

/-! ### Releases and swap-ins (R156, R157, R375, R430) -/

/-- Slots that moves under way will free. -/
def leavingSlots (s : State) : Nat :=
  (s.moves.map fun m => match requestOf m.handle with
    | some i => if m.kind.intoT1 then 0 else (s.entry i).dir.held
    | none => if m.kind = .toT2 then (s.tensor m.handle).slots else 0).foldl (· + ·) 0

/-- The PAUSED SHARED request with the oldest stamp, of all or of one partition. -/
def parkVictim (s : State) (part : Option Nat) : Option Nat :=
  ((s.entries.filter fun x => x.2.state = 5 ∧ x.2.cls = 1 ∧ x.2.ends = [] ∧ ¬ x.2.hasSkip skMoving ∧ (part.all fun n => x.2.partition = n)).foldl
    (fun (best : Option (Nat × Nat)) x => match best with
      | some b => if x.2.lastStamp < b.2 then some (x.1, x.2.lastStamp) else best
      | none => some (x.1, x.2.lastStamp)) none).map (·.1)

/-- The READY SHARED request to pre-empt: the lowest priority, then the latest deadline, then the highest index. -/
def swapVictim (s : State) (part : Option Nat) : Option Nat :=
  (s.entries.filter fun x => x.2.state = 3 ∧ x.2.cls = 1 ∧ x.2.ends = [] ∧ ¬ x.2.hasSkip skMoving ∧
    (part.all fun n => x.2.partition = n)).foldl (fun (best : Option Nat) x => match best with
      | some b => if firstOf s x.1 b then best else some x.1
      | none => some x.1) none

/-- Release one request's slots; the Bool: a pre-emption started. -/
def releaseOne (s : State) (part : Option Nat) : Option (State × Bool) := match parkVictim s part with
  | some i => (moveOut s i .park none).map fun s' => (s', false)
  | none => (swapVictim s part).bind fun i => (moveOut (loseTurn s i) i .preempt none).map fun s' => (s', true)

/-- Release requests until none is left. -/
def releaseEvery : Nat → State × Bool → State × Bool
  | 0, acc => acc
  | fuel + 1, acc => match releaseOne acc.1 none with
    | some (s', b) => releaseEvery fuel (s', acc.2 || b)
    | none => acc

/-- Partitions that a SHARED request has outgrown (R430). -/
def outgrown (s : State) (n : Nat) : Bool :=
  s.entries.any fun x => decide (x.2.partition = n ∧ x.2.cls = 1 ∧ x.2.noSlotSince.isSome ∧
    getFld s (Reg.partPool0 n) 24 24 < sharedUsed s (some n) + x.2.dir.heads.length * x.2.dir.layers)

/-- The releases of a boundary: all SHARED requests when a map-out has taken too many slots, else one while the free slots, with
those that are leaving, are below the mark, and one for each partition past its SHARED_MAX. -/
def releases (s : State) : State × Bool :=
  if slotsLost s then releaseEvery (s.entries.length + 1) (s, false)
  else
    let acc := if freeSlots s + leavingSlots s < lowWater s then (releaseOne s none).getD (s, false) else (s, false)
    ((List.range 64).filter (outgrown s)).foldl (fun (acc : State × Bool) n => match releaseOne acc.1 (some n) with
      | some (s', b) => (s', acc.2 || b)
      | none => acc) acc

/-- The SWAPPED request that returns next. -/
def swapInNext (s : State) : Option Nat :=
  (s.entries.filter fun x => x.2.state = 7 ∧ x.2.ends = [] ∧ ¬ x.2.hasSkip skMoving).foldl (fun (best : Option Nat) x => match best with
    | some b => if firstOf s x.1 b then some x.1 else best
    | none => some x.1) none

/-- One swap-in, where R375 allows it. -/
def swapIn (s : State) : State :=
  if (s.entries.any fun x => x.2.hasSkip skNoSlot) || !bit (galCfgNow s) 24 || decide (freeSlots s ≤ 2 * lowWater s) then s
  else match swapInNext s with
    | none => s
    | some i => if freeSlots s < 2 * lowWater s + returnSlots (s.entry i) then s else (moveIn s i .swapIn none).getD s

/-- Waiting RESUMEs and adopted requests try again to find slots (R374). -/
def retryReturns (s : State) : State :=
  (entriesWhere s fun e => e.state = 6 && e.resumePending && !e.hasSkip skMoving).foldl (fun s i =>
    let e := s.entry i
    let mine := fun (c : Cmd) => decide (c.opcode = 5 ∧ c.req = i ∧ c.gen = e.gen)
    match moveIn (s.setEntry i { e with noSlotSince := none }) i .resume (s.arrived.find? mine) with
    | some s1 => { s1 with arrived := s1.arrived.filter fun c => !mine c }
    | none => s) s

/-! ### Turns (R329, R330) -/

/-- Start the turns of requests that are eligible for steps and have one pending. -/
def startTurns (s : State) : State :=
  (entriesWhere s fun e => (e.state = 2 || e.state = 3) && e.turnPending && e.turn.isNone && !e.hasSkip skMoving && decide (e.ends = [])
    && !e.hasSkip skRestore).foldl (fun s i => startTurn s i false) s

/-- Turns whose copies are complete switch. -/
def finishTurns (s : State) : State := (entriesWhere s fun e => e.turnDone).foldl turnDone s

/-! ### The boundary -/

/-- Parks, releases, swap-ins and turns begin (action 4 of R353). -/
def ownMoves (s : State) : State :=
  if stopDue s then s
  else
    let (s1, pre) := releases (retryReturns s)
    startTurns (if pre then s1 else swapIn s1)

/-- A released partition whose record cannot be written loses it with its rings (R434). -/
def endReleases (s : State) : State :=
  (List.range 64).foldl (fun s n =>
    if partPhase s n = 3 ∧ (partHeld s n ∨ waitingRecords s n = 0) then finishRelease s n else s) s

/-- Steps may run: both halves are in service, the device has not fail-stopped, and it is PROVISIONED or DEPLOYED (R16, R472, Table 3.3). -/
def stepsAllowed (s : State) : Bool :=
  decide (s.west.phase = .ready ∧ s.east.phase = .ready ∧ (s.colophon.lcState = 1 ∨ s.colophon.lcState = 2)) && !failed s

/-- Partitions whose requests may be picked: ACTIVE, no record held, and none held at this close (R448). -/
def mayPick (s : State) (closing : Bool) (n : Nat) : Bool :=
  stepsAllowed s && decide (partPhase s n = 1) && !partHeld s n && (!closing || canWrite s n) && !lcDue s

/-- An accepted life-cycle change ends every live entry (R68). -/
def lcEnds (s : State) : State :=
  if lcDue s then (entriesWhere s fun e => decide (e.state ≠ 0 ∧ e.state ≠ 8)).foldl (fun s i => endNow s i 0x21) s else s

/-- A device that writes no record of a group frees the entries that have ended (R359, R464). -/
def freeSilent (s : State) : State :=
  (entriesWhere s fun e => e.state = 8 && !writesRecords s e.partition).foldl freeEntry s

/-- Actions 3 to 5 of R353 and the records of the boundary. -/
def boundary (s : State) (closing : Bool) (picks : List PartPick) (ran : Map (List RecEntry)) : State :=
  let s1 := settleAll (actCmds s)
  let s2 := lcEnds (settleAll (finishTurns (finishMapouts (applyAll s1))))
  let s3 := adoptAll (ownMoves (settleAll (expireAll s2)))
  let s4 := settleAll (pickStep s3 (mayPick s3 closing))
  announcePicks (endReleases (freeSilent (makeRecords s4 closing picks ran))) picks

/-- The device is between steps with no pick that awaits its trigger (R101). -/
def betweenSteps (s : State) : Bool := !s.steps.running && s.steps.replay = .none && s.steps.committed.isNone

end Sys2Proof.Machine
end

