-- ==== Sys2Proof/Machine/Sequencer.lean ====
section
/-!
DEFINITION. The step sequencer: trigger (R25), close (R353), stalls and the watchdog (R331 to R334), boundaries of an idle device
(R101), step batch records (R364 to R366, R448), and what lapses for a galley entry.
-/
namespace Sys2Proof.Machine

/-! ### Trigger (R18, R25, R312, R332) -/

/-- The segment directory entry of a forme (R305). -/
def Forme.segment (f : Forme) (i : Nat) : List (List Byte) := Map.get (fun _ => []) f.segments i

/-- Some forme of the picks has sorts for a segment entry. -/
def segmentUsed (s : State) (ps : List PartPick) (seg : Nat) : Bool :=
  ps.any fun p => ((s.impo p.impo).forme p.bucket).any fun f => decide (f.segment seg ≠ [])

/-- The formes of the picks use CDd and MDd: sorts run there, or a tensor or a head's pages lie there. -/
def dieUsed (s : State) (ps : List PartPick) (d : Nat) : Bool :=
  segmentUsed s ps (256 + d) || ((List.range 32).any fun n => segmentUsed s ps (32 * d + n)) ||
    ps.any fun p => ((s.impo p.impo).record.tensors.any fun t => decide (mapDie t.t1map = d)) ||
      (s.impo p.impo).record.heads.any fun h => h.dieMask.testBit d

/-- Every die that the formes use is out of its low-power state (R55). -/
def diesAwake (s : State) (ps : List PartPick) : Bool :=
  (List.range 8).all fun d => decide ((s.die d).power = .on) || (s.die d).stopped || (s.die d).fallow || (s.die d).lost || !dieUsed s ps d

/-- The picks that the next trigger runs. -/
def nextPicks (s : State) : Option (List PartPick) :=
  if s.steps.replay ≠ .none then some s.steps.current else s.steps.committed

/-- The formes of the picks use a block (DEDUCED): the galley and the hubs always; a port where a group runs; the partition's page; the
blocks of a die that is used, of its cores those with sorts. -/
def blockUsed (s : State) (ps : List PartPick) (p : PageRef) : Bool := match p.type with
  | 0x02 | 0x04 => true
  | 0x05 => ps.any fun x => isGroup s x.impo
  | 0x06 | 0x08 => dieUsed s ps p.inst
  | 0x07 =>
    let d := p.inst / 256
    (List.range 32).any fun n => decide ((coreOf s d n).map (· / 2) = some (p.inst % 256)) && segmentUsed s ps (32 * d + n)
  | 0x09 | 0x0A => dieUsed s ps (p.inst / 256)
  | 0x0D => ps.any fun x => decide (x.part = p.inst)
  | _ => false

/-- A block that resets holds the trigger of formes that use it (R100). -/
def blockResets (s : State) (ps : List PartPick) : Bool :=
  s.regs.any fun r => decide (r.1 % 0x1000 = 0x018) && bit r.2 3 && (locate (r.1 / 0x1000 * 0x1000)).any (blockUsed s ps)

/-- The announced time of a group's step has come, on a device whose time is aligned (R30, R88). -/
def groupTime (s : State) (ps : List PartPick) : Bool :=
  !(ps.any fun p => isGroup s p.impo) || (s.clock.aligned && s.steps.tn.any fun t => t ≤ s.clock.now)

/-- A stop lets the next step run: none is due, or a step abandoned before a boundary stop takes the device has to run again (R517, R521). -/
def stopAllows (s : State) : Bool :=
  if s.steps.replay = .none then !stopDue s && decide (stopState s ≤ 1) else decide (stopState s ≤ 2)

/-- The trigger may fire: the last step has ended, the twin has acknowledged it, a pick is committed or a replay waits, nothing
holds the trigger (R16, R25, R55, R473, R517, R518). -/
def triggerDue (s : State) : Bool :=
  !s.steps.running && decide (s.home.steps = [] ∧ s.steps.holds = []) && stopAllows s && decide (s.west.phase = .ready ∧ s.east.phase = .ready) && !failed s &&
    (match nextPicks s with
      | some ps => diesAwake s ps && !blockResets s ps && groupTime s ps
      | none => false)

/-- A step begins: a new one takes the next number, a replay keeps its own. -/
def triggerStep (s : State) (ps : List PartPick) : State :=
  let st := s.steps
  let again := st.replay ≠ .none
  let num := if again then st.num else st.num + 1
  let s1 := clearEngines { s with
    steps := { st with
      running := true, num := num, triggerAt := s.clock.now, current := ps, committed := if again then st.committed else none
      replay := .none, replayed := again, paced := decide (st.replay = .paced), late := st.tn.any fun t => t < s.clock.now, failures := if again then st.failures else 0, tn := none }
    home := { s.home with rowsSent := 0 }
    groups := Map.mapVals GroupState.fresh (fun _ g => { g with released := false }) s.groups
    inForce := Map.del s.inForce Reg.galStepCfg }
  let s2 := traceBoth (setReg s1 Reg.galStepNum num) { TraceRec.blank 0 with kind := 7, step := fld num 0 32 }
  match st.replay with
  | .none => s2
  | .normal => count s2 Reg.galStepReplays 1
  | .paced => count s2 Reg.galStepPaced 1

def execStepTrigger (s : State) : Result := .next <|
  if triggerDue s then (match nextPicks s with
    | some ps => triggerStep s ps
    | none => s)
  else s

/-! ### Close (R353) -/

/-- The engine a sort names. -/
def sortEngine (b : List Byte) : Nat := leAt b 1 1 % 8

/-- The next sort of an engine from index `pc` of its segment: its index. -/
def nextSort (seg : List (List Byte)) (engine pc : Nat) : Option Nat :=
  (List.range seg.length).find? fun i => decide (pc ≤ i) && decide (sortEngine (seg.getD i []) = engine)

/-- The key of the next sort index of an engine of logical core l = 32d + n, or of a builder. -/
def enginePc (l engine : Nat) : Nat := 8 * l + engine
def builderPc (d c : Nat) : Nat := 4096 + 16 * d + c

/-- Every engine of a forme has issued its last sort. -/
def formeEnded (s : State) (f : Forme) : Bool :=
  f.segments.all fun seg =>
    if seg.1 < 256 then (List.range 5).all fun e => (nextSort seg.2 e (Map.get zeroAt s.steps.pcs (enginePc seg.1 e))).isNone
    else (List.range 16).all fun c => (nextSort seg.2 5 (Map.get zeroAt s.steps.pcs (builderPc (seg.1 - 256) c))).isNone

/-- Nothing is left of the transfers of builders and of the jobs and records of near-bank units. -/
def unitsIdle (s : State) : Bool :=
  s.chans.all (fun c => decide (c.2.xfers = [])) && s.nbus.all fun n => decide (n.2.jobs = [] ∧ n.2.out = [])

/-- Every active engine has signalled the end of the step, and every contribution is applied (R25, R266). -/
def stepEnded (s : State) : Bool := unitsIdle s && decide (s.steps.atomics = []) && s.steps.current.all fun p => match (s.impo p.impo).forme p.bucket with
  | some f => formeEnded s f
  | none => true

/-- A member reports the end of the step to its lead, once (R30). -/
def reportGroups (s : State) : State :=
  s.steps.current.foldl (fun s p => if isGroup s p.impo ∧ ¬ isLead s p.impo ∧ ¬ (s.group p.impo).reported ∧ ¬ (s.group p.impo).released then
      sendReport s p.impo else s) s

/-- Tiles still busy when a step ends are cleared, counted and captured (R266). -/
def clearLeft (s : State) : State := s.cores.foldl (fun s (k, c) => match c.tiles with
  | [] => s
  | t :: _ =>
    let d := k / 34
    let p := k % 34
    let o := getFld s (blkOwner (Reg.coreBlk d (p / 2))) (8 * (p % 2)) 8
    capture (count s (Reg.coreAccLeft d p) c.tiles.length) (Reg.coreBlk d (p / 2)) 0x0308 (p % 2 + 2)
      (if o < 64 then o else noPart) 0 (c.tiles.length % 128 + t.index * 2 ^ 16)) s

/-- The close of the running step and the boundary that follows. -/
def closeStep (s : State) : State :=
  let picks := s.steps.current
  let (s1, ran) := settleStep { clearLeft s with cores := [] }
  let s2 := mirrorStep s1
  let s3 := boundary { s2 with steps := { s2.steps with running := false, current := [], failures := 0 } } true picks ran
  traceBoth s3 { TraceRec.blank 0 with kind := 8, step := stepField s }

def execStepClose (s : State) : Result := .next <|
  if s.steps.running && stepEnded s && !halted s then
    let s1 := reportGroups s
    if mayClose s1 then closeStep s1 else s1
  else s

/-- A boundary of a device between steps (R101); a device held in a stop waits for its release (R521). -/
def execIdleBoundaryChange (s : State) : Result := .next <|
  if betweenSteps s && decide (stopState s ≤ 2) then boundary s false [] [] else s

/-! ### Stalls and the watchdog (R331 to R334, Table 10.10) -/

/-- GAL_STEP_CFG in force (R337). -/
def stepCfg (s : State) : Word := inForceReg s Reg.galStepCfg

/-- A step that captured CREDIT_STALL or STEP_WATCHDOG is abandoned for a PACED replay; one that is such a replay, or with PACED_EN
clear, is abandoned and its bucket becomes SUSPECT. `part`: whose forme it is. -/
def paceOrSuspect (s : State) (part : Option Nat) : State :=
  if s.steps.paced ∨ ¬ bit (stepCfg s) 8 then
    let mine := s.steps.current.filter fun p => part.all fun n => p.part = n
    mine.foldl (fun s p => markSuspect s p.impo p.bucket) (abandonWith s .none)
  else abandonWith s .paced

/-- The partition that owns a die's engine in the running step: of a core its owner, of a builder none. -/
def enginePart (s : State) (core engine : Nat) : Option Nat :=
  if engine = 5 then none else
    let o := logicalOwner s core
    if o < 64 then some o else none

def execCreditStall (d : Fin 8) (core : Fin 256) (engine : Fin 6) (resource : Fin 5) (index : BitVec 32) (s : State) : Result :=
  guarded (decide (resource.val ≠ 0 ∧ (engine.val < 5 → core.val / 32 = d.val) ∧ (engine.val = 5 → core.val = 0xFF))) <|
    if !s.steps.running || halted s then s
    else
      let part := enginePart s core.val engine.val
      let s1 := capture (count s Reg.galFormeStalls 1) Reg.galBlk 0x0412 d.val (part.getD noPart) 0
        (core.val + engine.val * 2 ^ 8 + resource.val * 2 ^ 12 + index.toNat * 2 ^ 16)
      paceOrSuspect s1 part

def execStepWatchdog (part : Fin 64) (s : State) : Result := .next <|
  match if s.steps.running && !halted s then s.steps.current.find? fun p => p.part = part.val else none with
  | none => s
  | some p =>
    let us := (s.clock.now - s.steps.triggerAt) / 1000 % 2 ^ 32
    paceOrSuspect (capture s Reg.galBlk 0x0411 0 part.val 0 (us + p.bucket * 2 ^ 32 + p.impo * 2 ^ 40)) (some part.val)

/-! ### Galley reload (R473) -/

def execGalleyReload (h : Half) (s : State) : Result := .next <|
  devEvent { s with steps := { s.steps with holds := s.steps.holds.filter (· ≠ reloadHold h) } } 0x032 s.steps.num.toNat 0

/-! ### Step batch records (R364 to R366, R448) -/

/-- An entry of a record (Table 11.8). -/
def recEntryBytes (r : RecEntry) : List Byte :=
  leBytes 4 r.tag ++ leBytes 4 r.token ++ leBytes 4 r.logprob ++ leBytes 2 r.flags ++ leBytes 1 r.accepted ++ leBytes 1 r.code

/-- The header of a record up to its COMMIT (Table 11.7). -/
def recHeader (r : Record) : List Byte :=
  leBytes 8 r.step ++ leBytes 8 r.trigger ++ leBytes 8 r.closed ++ leBytes 2 r.entries.length ++ leBytes 1 r.part ++
    leBytes 1 r.flags ++ leBytes 1 r.bucket ++ leBytes 1 0 ++ leBytes 2 r.gen ++ leBytes 4 (64 + 16 * r.entries.length) ++ leBytes 26 0

/-- COMMIT of a record. -/
def recCommit (step : Nat) : Nat := (step ^^^ 0x5A25) % 2 ^ 16

/-- The twin has acknowledged every request of the record (R366). -/
def recordAcked (s : State) (r : Record) : Bool := r.entries.all fun e => !(s.home.steps.any fun x => e.req ∈ x.2)

/-- A slot of the output ring takes a record: the ring runs, the port is up, the ring is not full. -/
def slotFree (s : State) (n : Nat) : Bool :=
  ringOn s n false && !portStopped s (getFld s (Reg.partCfg n) 2 1) &&
    decide (outstanding (s.ring n false).outHead (outTail s n) (outSize s n) + 1 < outSize s n)

/-- Vector 1 of the VF: every OUT_EVERY records, and for every held record (R449). -/
def signalRecord (s : State) (n : Nat) (held : Bool) : State :=
  let x := s.ring n false
  let cfg := getReg s (Reg.qIntCfg n)
  if held ∨ fld cfg 16 8 ≤ x.outSince + 1 then
    let s1 := s.setRing n false { x with outSince := 0 }
    if bit cfg 25 then sendVector s1 (n + 1) 1 else s1
  else s.setRing n false { x with outSince := x.outSince + 1 }

/-- Put a record into the output ring: entries, header, then COMMIT; then OUT_TAIL and LAST_STEP in the shadow block (R446). -/
def putRecord (s : State) (n : Nat) (r : Record) : State :=
  let b := getReg s (Reg.qOutBase n)
  let t := outTail s n
  let at_ := baseOffset b + 16384 * t
  let s1 := regionWrite s (baseRegion b) (at_ + 64) (r.entries.flatMap recEntryBytes)
  let s2 := regionWrite (regionWrite s1 (baseRegion b) at_ (recHeader r)) (baseRegion b) (at_ + 62) (leBytes 2 (recCommit r.step))
  let s3 := putFld s2 (Reg.qRingStatus n) 32 12 ((t + 1) % outSize s2 n)
  let s4 := s3.setRing n false { s3.ring n false with lastStep := word r.step }
  writeShadow s4 n false (heldRecords s4 n)

/-- An ended request has been reported (R355). -/
def noteReported (s : State) (r : Record) : State :=
  (r.entries.filter fun e => e.flags.testBit rfEnded).foldl (fun s e =>
    if (s.entry e.req).state = 8 then s.setEntry e.req { s.entry e.req with reportedAt := some s.clock.now } else s) s

/-- One held record fewer; after the last one the partition goes on (R448). -/
def oneHeldLess (s : State) (n : Nat) : State :=
  let h := heldRecords s n - 1
  let s1 := putFld s (Reg.partState n) 32 16 h
  if h = 0 then putBit s1 (Reg.partState n) 2 false else s1

def execStepBatchRecord (part : Fin 64) (s : State) : Result := .next <|
  let n := part.val
  match s.records.find? fun r => r.part = n with
  | none => s
  | some r =>
    if !recordAcked s r || !slotFree s n || halted s then s
    else
      let held := partHeld s n
      let s0 := { s with records := s.records.erase r }
      let s1 := if held then oneHeldLess s0 n else s0
      let s2 := signalRecord (noteReported (putRecord (count s1 Reg.galRecords 1) n r) r) n held
      if partPhase s2 n = 3 ∧ waitingRecords s2 n = 0 ∧ Map.get (fun _ => []) s2.due n = [] then finishRelease s2 n else s2

/-! ### What lapses for an entry -/

def execTurnCopyDone (req : Fin 32768) (s : State) : Result := .next <|
  let e := s.entry req.val
  if e.turn.isSome then s.setEntry req.val { e with turnDone := true } else s

def execEndedHold (req : Fin 32768) (s : State) : Result := .next <|
  let e := s.entry req.val
  if e.state = 8 ∧ e.reportedAt.isSome then { s with deferred := s.deferred ++ [.entryFree req.val] } else s

end Sys2Proof.Machine
end

