-- ==== Sys2Proof/Machine/GalleyRows.lean ====
section
/-!
DEFINITION. Host commands as they arrive and act (R345 to R354, R358, R372 to R377, R447, R545), the tensors they load and move
(R161, R162), and the prefix-tree settings (R379).
-/
namespace Sys2Proof.Machine

/-! ### Fetching commands (R447) -/

/-- A completion ring has a free entry for every command fetched and not yet completed, and for one more. -/
def cqRoom (s : State) (n : Nat) (drv : Bool) : Bool :=
  decide (outstanding (s.ring n drv).cqHead (cqTail s n drv) (cqSize s n drv) + (s.ring n drv).fetched + 1 < cqSize s n drv)

/-- The galley is released: step 12 has been passed, and one half at least is in service (R16, R70, R71). -/
def released (s : State) : Bool := decide (s.west.phase = .ready ∨ s.east.phase = .ready)

/-- The device may fetch the next command of a ring. -/
def mayFetch (s : State) (n : Nat) (drv : Bool) : Bool :=
  released s && ringRuns s n drv && decide (sqHead s n drv ≠ (s.ring n drv).sqTail) && cqRoom s n drv &&
    !portStopped s (getFld s (Reg.partCfg n) 2 1) && decide (stopState s ≤ 1) && !(stopDue s && !s.steps.running)

/-- A lead forwards the commands of its group to every member (R359). -/
def forwardCmd (s : State) (c : Cmd) : State := match activeSlot s c.part 0 with
  | some k =>
    if isGroup s k ∧ isLead s k ∧ (c.names ∨ c.opcode = 1) then (otherMembers s k).foldl (fun s m => sendMember s k m 0x12 0 c.bytes) s
    else s
  | none => s

/-- A command arrives at the galley engine after its fetch. -/
def execCommandFetch (part : Fin 64) (driver : Bool) (bytes : List Byte) (s : State) : Result :=
  guarded (decide (bytes.length = 64)) <|
    let n := part.val
    if !mayFetch s n driver || halted s then s
    else
      let b := getReg s (ringSqBase n driver)
      let h := sqHead s n driver
      let s1 := regionRead s (baseRegion b) (baseOffset b + 64 * h) 64
      let s2 := putFld s1 (ringStatus n driver) 0 16 ((h + 1) % sqSize s1 n driver)
      let s3 := s2.setRing n driver { s2.ring n driver with fetched := (s2.ring n driver).fetched + 1 }
      let s4 := if driver then s3 else writeShadow s3 n driver (heldRecords s3 n)
      let c : Cmd := ⟨n, driver, false, bytes, 0, false, []⟩
      acceptCmd (forwardCmd (traceCmd s4 c 5 0) c) c

/-- A fetch failed or was late: the ring stops with FAULT SQ_FETCH. -/
def execSqFetch (part : Fin 64) (driver : Bool) (s : State) : Result := .next <|
  let n := part.val
  if !ringRuns s n driver || decide (sqHead s n driver = (s.ring n driver).sqTail) then s
  else
    let s1 := putFld (putBit s (ringStatus n driver) 44 false) (ringStatus n driver) 48 8 1
    let s2 := if driver then s1 else putBit s1 (Reg.partState n) 3 false
    setCause (capture s2 (Reg.partBlk n) 0x0602 0 n 0 (b2n driver + 2 ^ 8)) (Reg.partBlk n) 19

/-! ### Token fetches (R352) -/

/-- The waiting command of a request whose tokens are being fetched. -/
def fetching (s : State) (i : Nat) : Option Cmd := s.arrived.find? fun c => c.names && decide (c.req = i) && !c.ready

/-- FETCH clears when no fetch of the request is left. -/
def settleFetch (s : State) (i : Nat) : State := if (fetching s i).isSome then s else s.skipEntry i skFetch false

/-- A token fetch failed: the command completes with the code and the request ends with it (R352). -/
def failFetch (s : State) (c : Cmd) (code : Nat) : State :=
  let i := c.req
  let hub := getFld s (Reg.partCfg c.part) 2 1
  let s1 := settleFetch { s with arrived := s.arrived.erase c } i
  let s2 := capture s1 Reg.galBlk 0x0421 hub c.part 0 (i + code * 2 ^ 16 + c.op16 0x18 % 2 ^ 10 * 2 ^ 24)
  complete (if (s.entry i).gen = c.gen then raiseEnd s2 i code else s2) c code 0

def execTokenFetchDone (req : Fin 32768) (data : List Byte) (ok : Bool) (s : State) : Result :=
  match fetching s req.val with
  | none => .next s
  | some c => guarded (!ok || decide (data.length = 4 * c.op32 0x14)) <|
      if ok then
        let toks := (List.range (c.op32 0x14)).map fun j => leAt data (4 * j) 4 % 2 ^ 20
        settleFetch { s with arrived := s.arrived.map fun x => if x = c then { c with ready := true, tokens := toks } else x } req.val
      else failFetch s c 0x27

/-! ### Placements (R123) -/

/-- A placement of `size` bytes for tensor `h` obeys R123. -/
def placementOk (s : State) (h : Nat) (m : Word) (size : Nat) : Bool :=
  let sp := extentSpans m size
  let mine := extentSpans (s.tensor h).t1map (s.tensor h).size
  let others := if (s.tensor h).tier = 1 then (allSpans s).filter fun a => a ∉ mine else allSpans s
  sp.all fun a => decide (a.hi ≤ 0x60000000) && chanOpen s a.die a.chan && !(others.any a.meets) &&
    (a.runs.all fun r => pairUp s r.die r.chan r.pair &&
      !(s.mapouts.any fun x => x.die = r.die ∧ x.chan = r.chan ∧ x.pair = some r.pair))

/-! ### LOAD_TENSOR (R352, R545, Table 11.6a) -/

/-- A handle that a command may name: not 0, not reserved for GROUPED tensors (R343). -/
def handleOk (h : Nat) : Bool := decide (0 < h ∧ h < 0x18000)

/-- A handle or region of another partition: a hedgerow violation (R428, path 6). -/
def foreignRegion (s : State) (c : Cmd) (r : Nat) : State :=
  let g := s.region r
  if g.valid ∧ ¬ c.driver ∧ (g.devOwned ∨ g.part ≠ c.part) then hedgeViolation s c.part 6 r else s

/-- The source checks of a LOAD_TENSOR, in order: its code, 0 when all pass. -/
def loadCode (s : State) (c : Cmd) : Nat :=
  let h := c.op32 0x10 % 2 ^ 17
  let fmt := c.op8 0x14
  let fl := c.op8 0x15
  let size := c.op32 0x18
  let zero := fl.testBit 3
  let m := word (c.op64 0x20)
  let need := spansSlots (extentSpans m size)
  let port := some (getFld s (Reg.partCfg c.part) 2 1)
  if !handleOk h || decide ((s.tensor h).tier ≠ 0) then 0x09
  else if (!zero && !fl.testBit 0 && decide (c.op32 0x1C ≠ size)) || !tilesOk (t1Fmt fmt) size ||
      (!zero && fl.testBit 0 && decide (c.op32 0x1C < 64)) then 0x0C
  else if !zero && !regionOk s (c.op16 0x28) (c.op64 0x30) (c.op32 0x1C) port c.part c.driver then 0x0A
  else if c.op8 0x16 = 0 ∧ getFld s (Reg.partPool1 c.part) 0 24 < weightSlots s (some c.part) + need then 0x2B
  else if c.op8 0x16 = 3 ∧ ¬ systemFits s (need * 32768) then 0x2B
  else if !placementOk s h m size then 0x0B
  else 0

/-- T1 of an EXTENT tensor reads zero. -/
def zeroExtent (s : State) (m : Word) (size : Nat) : State :=
  let sp := extentSpans m size
  { s with
    t1 := Map.clearWhere (fun a => inSpans sp (a / 64)) s.t1
    poison := Map.clearWhere (inSpans sp) s.poison }

/-- A LOAD_TENSOR acts: refused, or the tensor is MOVING until its load is complete. -/
def loadTensor (s : State) (c : Cmd) : State :=
  let h := c.op32 0x10 % 2 ^ 17
  let fl := c.op8 0x15
  let code := loadCode s c
  if code ≠ 0 then
    let s1 := if code = 0x0C then count s (Reg.hubCvtFail (getFld s (Reg.partCfg c.part) 2 1)) 1 else s
    let s2 := if code = 0x0A then foreignRegion s1 c (c.op16 0x28)
      else if code = 0x09 ∧ handleOk h ∧ (s.tensor h).owner ≠ c.part then hedgeViolation s1 c.part 6 h else s1
    complete s2 c code 0
  else
    let m := word (c.op64 0x20)
    let old := s.tensor h
    let t : Tensor := { Tensor.free 0 with
      tier := 3, pinned := fl.testBit 2, owner := c.part, cls := c.op8 0x16, size := c.op32 0x18, t1map := m
      region := if fl.testBit 3 then 0 else c.op16 0x28, t2off := if fl.testBit 3 then 0 else c.op64 0x30
      t2size := if fl.testBit 3 then 0 else c.op32 0x1C, gen := (old.gen + 1) % 2 ^ 16 }
    let s1 := s.setTensor h t
    if fl.testBit 3 then
      let s2 := zeroExtent s1 m t.size
      let mv : Move := ⟨s2.moveNext, .load, h, .west, 0, 0, 0, c.op8 0x14, false, m, [], [], false, true, 0, some c⟩
      { s2 with moves := s2.moves ++ [mv], moveNext := s2.moveNext + 1, deferred := s2.deferred ++ [.moveDone mv.id] }
    else addMove s1 .load h (c.op16 0x28) (c.op64 0x30) (c.op32 0x1C) (c.op8 0x14) (fl.testBit 0) m [] (some c)

/-! ### MIGRATE of a handle (R545, Table 11.6b) -/

/-- A tensor's T1 slots and T2 space are freed. -/
def freeTensor (s : State) (h : Nat) : State :=
  let t := s.tensor h
  freeHandle (if t.tier = 1 then scrubFreed s (extentSpans t.t1map t.size) else s) h

/-- Start a raw move to T2 of an EXTENT tensor; NO_CAPACITY when no run is free (R160). -/
def extentOut (s : State) (c : Cmd) (h : Nat) (kind : MoveKind) : State :=
  let t := s.tensor h
  match t2Alloc s t.owner ((t.size + 4095) / 4096) with
  | none => complete s c 0x2B 0
  | some (r, off, s1) => addMove (s1.setTensor h (retier t 3 t.t1map)) kind h r off t.size 0 false 0 [] (some c)

/-- A MIGRATE of a handle acts. -/
def migrateHandle (s : State) (c : Cmd) : State :=
  let h := c.op32 0x10 % 2 ^ 17
  let t := s.tensor h
  let dir := c.op8 0x14
  if !handleOk h || decide (t.tier = 0 ∨ t.owner ≠ c.part) then
    complete (if handleOk h ∧ t.tier ≠ 0 ∧ t.owner ≠ c.part then hedgeViolation s c.part 6 h else s) c 0x09 0
  else if t.tier = 3 ∨ (t.tier = 1 ∧ dir = 1) ∨ (t.tier = 2 ∧ (dir = 0 ∨ dir = 2)) then complete s c 4 0
  else if dir = 3 then complete (freeTensor s h) c 0 0
  else if dir = 1 then
    let m := word (c.op64 0x20)
    if !placementOk s h m t.size then complete s c 0x0B 0
    else addMove (s.setTensor h (retier t 3 m)) .toT1 h t.region t.t2off t.t2size 0 (decide (t.t2size ≠ t.size)) m [] (some c)
  else extentOut s c h (if dir = 0 then .toT2 else .copyT2)

/-! ### Commands act (R353) -/

/-- The first arrived command of an opcode that passes a test. -/
def firstCmd (s : State) (op : Nat) (p : Cmd → Bool) : Option Cmd := s.arrived.find? fun c => decide (c.opcode = op) && p c

/-- Take the first arrived command that acts on arrival. -/
def actAtOnce (s : State) (op : Nat) (act : State → Cmd → State) : State := match firstCmd s op fun c => !c.names with
  | some c => act { s with arrived := s.arrived.erase c } c
  | none => s

/-- A command that names a request waits for none before it on the same request, nor for its request. -/
def mayAct (s : State) (c : Cmd) : Bool :=
  !mustWait s c && !((s.arrived.takeWhile (· ≠ c)).any fun d => d.names && decide (d.req = c.req))

/-- Between steps, the first arrived command of an opcode that names a request and may act does so: its boundary (R101, R353). -/
def actBetween (s : State) (op : Nat) : State :=
  if !betweenSteps s || !decide (stopState s ≤ 2) then s
  else match firstCmd s op fun c => c.names && mayAct s c with
    | some c => settleEnd (actCmd { s with arrived := s.arrived.erase c } c) c.req
    | none => s

def execAdmitRequest (s : State) : Result := .next <| if halted s then s else actAtOnce s 1 admitCmd
def execPrompt (s : State) : Result := .next (actBetween s 2)
def execPropose (s : State) : Result := .next (actBetween s 3)
def execPauseRequest (s : State) : Result := .next (actBetween s 4)
def execResumeCommand (s : State) : Result := .next (actBetween s 5)
def execEndRequest (s : State) : Result := .next (actBetween s 6)
def execSetClass (s : State) : Result := .next (actBetween s 9)
def execLoadTensor (s : State) : Result := .next <| if halted s then s else actAtOnce s 7 loadTensor

/-- A MIGRATE of a handle acts on arrival, one of a request at a boundary; the first that may act does. -/
def execMigrate (s : State) : Result := .next <|
  if halted s then s
  else match firstCmd s 8 fun c => !c.names with
    | some _ => actAtOnce s 8 migrateHandle
    | none => actBetween s 8

/-! ### Moves (R161 to R165, R226, R229) -/

/-- A read of a move completes: its bytes are kept, or the move fails with TIER_FAULT. -/
def execT2ReadCompletion (id off : Nat) (data : List Byte) (ok : Bool) (s : State) : Result :=
  match s.moves.find? fun m => m.id = id ∧ m.running ∧ ¬ m.finished ∧ m.kind.intoT1 = true with
  | none => .next s
  | some m => guarded (decide (off % 4096 = 0 ∧ off < m.len) && (!ok || decide (data.length = min 4096 (m.len - off)))) <|
      if halted s then s
      else if ok then setMove s { m with chunks := Map.put m.chunks off data } else moveFail s id 0x27

/-- A read of a move, or of a token fetch of request `id`, is late. -/
def execTierLate (token : Bool) (id : Nat) (s : State) : Result := .next <|
  if token then (match fetching s id with
    | some c => failFetch s c 0x28
    | none => s)
  else match s.moves.find? fun m => m.id = id ∧ m.running ∧ ¬ m.finished ∧ m.kind.intoT1 = true with
    | some _ => moveFail s id 0x28
    | none => s

/-- Every chunk of a move has arrived. -/
def Move.whole (m : Move) : Bool := (List.range ((m.len + 4095) / 4096)).all fun k => m.chunks.any fun c => c.1 = 4096 * k

/-- The bytes of a move in order. -/
def Move.bytes (m : Move) : List Byte := m.chunks.flatMap (·.2)

/-- A move is complete and waits for its boundary. -/
def finishMove (s : State) (m : Move) : State :=
  let s1 := count s (Reg.hubMigKib m.hub.idx) ((m.len + 1023) / 1024)
  startMoves { setMove s1 { m with finished := true, chunks := [] } with deferred := s1.deferred ++ [.moveDone m.id] }

/-- The format a move's source is checked in: that of its command, for a copy or reload that of a container alone. -/
def Move.source (m : Move) : Option Nat := if m.kind = .load then some m.fmt else none

/-- The move of an EXTENT tensor into T1 has all its bytes: checked, converted and written (R161, R226, R229). -/
def landExtent (s : State) (m : Move) : State :=
  let t := s.tensor m.handle
  let v := convert m.source m.container t.size m.bytes
  let s1 := count (count s (Reg.hubCvtLossy m.hub.idx) v.lossy) (Reg.hubCvtRaw m.hub.idx) v.raws
  if v.code = 0x0C then moveFail (count s1 (Reg.hubCvtFail m.hub.idx) 1) m.id 0x0C
  else if v.code ≠ 0 then moveFail s1 m.id v.code
  else
    let map := if m.kind = .reload then t.t1map else m.t1map
    let s2 := clearExtentPoison (putExtent s1 map 0 v.image) map 0 t.size
    if m.kind = .reload then moveDone (count s2 (Reg.hubMigKib m.hub.idx) ((m.len + 1023) / 1024)) m.id else finishMove s2 m

/-- Sectors that a move to T2 reads hold poison (R135). -/
def sourcePoisoned (s : State) (m : Move) : Bool := match requestOf m.handle with
  | some i =>
    let d := (s.entry i).dir
    d.privateGroups.any fun g => (List.range d.layers).any fun l => rangePoisoned s (grpAddr g.2.2 l 0) (pageBytes d)
  | none => extentPoisoned s (s.tensor m.handle).t1map 0 (s.tensor m.handle).size

/-- An engine ends a move: into T1 when every read has come, to T2 when the zero-length read has. -/
def execMigrationDone (id : Nat) (s : State) : Result := .next <|
  match s.moves.find? fun m => m.id = id ∧ m.running ∧ ¬ m.finished with
  | none => s
  | some m =>
    if halted s then s
    else if m.kind.intoT1 then
      if !m.whole || (decide (m.kind = .reload) && (extentSpans (s.tensor m.handle).t1map (s.tensor m.handle).size).any (onLost s)) then s
      else match requestOf m.handle with
        | some i => finishMove (putImage s (s.entry i).dir m.groups m.bytes) m
        | none => landExtent s m
    else if sourcePoisoned s m then moveFail s id 0x22
    else finishMove s m

/-! ### What lapses for a request (R156, R158, R376) -/

def execNospaceWait (req : Fin 32768) (s : State) : Result := .next <|
  if (s.entry req.val).noSlotSince.isSome then noSpace s req.val else s

def execParkThreshold (req : Fin 32768) (s : State) : Result := .next <|
  if (s.entry req.val).state = 5 ∧ .park req.val ∉ s.deferred then { s with deferred := s.deferred ++ [.park req.val] } else s

def execTtl (req : Fin 32768) (s : State) : Result := .next <|
  if (s.entry req.val).state ∈ [1, 5, 6, 7] then raiseEnd s req.val 0x2E else s

/-! ### Prefix-tree settings (R379) -/

/-- The words that the window shows of a partition's tree. -/
def treeWords (s : State) (n : Nat) : List Word :=
  let t := s.tree n
  let used := t.nodes.length
  let unref := (t.nodes.filter fun x => x.2.refs = 0).length
  [word (b2n t.enabled + t.bucketsLog2 * 2 ^ 8 + t.cap * 2 ^ 16), t.keyLo, t.keyHi, word (used + unref * 2 ^ 24)]

/-- Nodes without reference or child leave one after the other while PREFIX_EN is clear. -/
def freeUnreferenced : Nat → State → Nat → State
  | 0, s, _ => s
  | fuel + 1, s, n => match (s.tree n).oldest with
    | some k => freeUnreferenced fuel (freeNodeAt s n k) n
    | none => s

/-- A commit of the latched words for partition `n`. -/
def commitTree (s : State) (n : Nat) (ws : List Word) : State :=
  let w := ws.getD 0 0
  let t := s.tree n
  let t' := { t with enabled := bit w 0, bucketsLog2 := fld w 8 5, cap := fld w 16 24, keyLo := ws.getD 1 0, keyHi := ws.getD 2 0 }
  let reshaped := decide (t'.bucketsLog2 ≠ t.bucketsLog2 ∨ t'.cap ≠ t.cap)
  let changed := reshaped || decide (t'.keyLo ≠ t.keyLo ∨ t'.keyHi ≠ t.keyHi)
  let bad := decide (t'.bucketsLog2 < 10 ∨ 22 < t'.bucketsLog2 ∨ 16777214 < t'.cap)
  if bad || (changed && (decide (t.nodes ≠ []) || decide (0 < liveOf s n))) then putBit s Reg.galPartCommit 1 true
  else
    let s1 := (putBit s Reg.galPartCommit 1 false).setTree n { t' with allocated := t.allocated && !reshaped }
    if t'.enabled then s1 else freeUnreferenced (nodeFuel s1) s1 n

def execGalPartCommit (w : RegWrite) (s : State) : Result :=
  guarded (isReg w .gal1 0x128) <| serveWrite s w fun s _ _ _ _ =>
    if bit w.val 0 then commitTree s (fld (latchedIndex s w.who Reg.galPartIndex) 0 6) (getLatch s w.who Reg.galPartIndex) else s

end Sys2Proof.Machine
end

