-- ==== Sys2Proof/Machine/Channels.lean ====
section
/-!
DEFINITION. The channel controllers (chapter 5): sector reads and writes (R134 to R139), quire parity (R151), map-outs (R145 to
R148), drains, restores and rebuilds.
-/
namespace Sys2Proof.Machine

/-- The bank pair of a device address is in service (R149). -/
def daUp (s : State) (da : Nat) : Bool := pairUp s (daDie da) (daChan da) (daPair da)

/-- The near-bank unit of a device address holds the bank pair: normal accesses wait for its release (R183, R185). -/
def daHeld (s : State) (da : Nat) : Bool := (s.nbu (daDie da) (daChan da) (daPair da)).holds

/-- A device address that a channel controller serves now: of a pair that is in service and that no near-bank unit holds. -/
def daServed (s : State) (da : Nat) : Bool := daUp s da && !daHeld s da

/-- A sector read that can run: the near-bank unit itself reads the pair it holds. -/
def readServed (s : State) (da : Nat) (by_ : Consumer) : Bool := match by_ with
  | .pageJob _ => daUp s da
  | _ => daServed s da

/-! ### Sector reads (R134, Table 5.8) -/

/-- A second distinct uncorrectable sector within 24 h lies in one bank pair (R145). -/
def pairRepeats (seen : List Nat) (da : Nat) : Bool :=
  decide (da ∉ seen) && seen.any fun x => daPair x = daPair da

/-- An uncorrectable sector: counted, captured, rewritten as poisoned; a distinct one counts toward UE_LIMIT. -/
def sectorUncorrectable (s : State) (da l2 : Nat) : State :=
  let d := daDie da
  let c := daChan da
  let blk := Reg.chBlk d c
  let s1 := chCapture (setCause (count s (Reg.chUe d c) 1) blk 17) da 0x0101 ((if 7 < l2 then 0xFF else l2) * 2 ^ 40)
  let s2 := setPoison s1 da true
  let seen := (s2.chan d c).ueSeen
  if da ∈ seen then s2
  else
    let s3 := putFld (s2.setChan d c { s2.chan d c with ueSeen := da :: seen }) (Reg.chLimit d c) 16 8
      (satAdd 0xFF (getFld s2 (Reg.chLimit d c) 16 8) 1)
    if pairRepeats seen da then beginMapout s3 d c (some (daPair da)) false 2 0xFF02 false else s3

/-- One corrected sector of the second level: counted, toward CE_LIMIT too, and written back. -/
def sectorCorrected (s : State) (d c : Nat) : State :=
  putFld (count s (Reg.chCeL2 d c) 1) (Reg.chLimit d c) 0 16 (satAdd 0xFFFF (getFld s (Reg.chLimit d c) 0 16) 1)

/-- A read of one sector: `l1` columns corrected by the die, `l2` symbols in error that reach the controller. The data carries the
poison flag when the sector is poisoned afterwards. -/
def sectorRead (s : State) (da l1 l2 : Nat) : State :=
  let d := daDie da
  let c := daChan da
  let s1 := if l1 = 0 then s else count s (Reg.chCeL1 d c) l1
  if sectorPoisoned s da then chCapture s1 da 0x0102 0
  else if l2 = 0 then s1
  else if l2 = 1 then sectorCorrected s1 d c
  else sectorUncorrectable s1 da l2

/-- What a consumer of poisoned data does (R135). -/
def consume (s : State) (da : Nat) (by_ : Consumer) : State := match by_ with
  | .pageJob req => poisonedRequest s req.val true
  | .sort => poisonedAccess s da
  | .host => s
  | .migration id => moveFail s id 0x22

/-- An address beyond the channel's end: captured, nothing read or written (Table 5.3, Table 5.10). -/
def addrHole (s : State) (da : Nat) : State := chCapture s da 0x0104 0

def execSectorRead (da l1 l2 : Nat) (by_ : Consumer) (s : State) : Result :=
  guarded (decide (da < 2 ^ 38 ∧ da % 64 = 0)) <|
    if daHole da then addrHole s da
    else if !readServed s da by_ then s
    else
      let s1 := sectorRead s da l1 l2
      if sectorPoisoned s1 da then consume s1 da by_ else s1

def execPatrolScrub (da l1 l2 : Nat) (s : State) : Result :=
  guarded (decide (da < 2 ^ 38 ∧ da % 64 = 0)) <|
    if daHole da || !daServed s da || decide (0 < getFld s Reg.devPwrStatus 32 3) then s else sectorRead s da l1 l2

/-! ### Writes (R136, R137, R151) -/

def execFullWrite (da : Nat) (data : List Byte) (s : State) : Result :=
  guarded (decide (da < 2 ^ 38 ∧ da % 64 = 0 ∧ data.length = 64)) <|
    if daHole da then addrHole s da else if !daServed s da then s else dataWrite s da data

/-- A refused merge (R136): captured and counted; the owning request ends with POISONED_MERGE, another tensor is damaged. -/
def mergeRefused (s : State) (da len : Nat) : State :=
  let d := daDie da
  let c := daChan da
  let sec := da / 64 * 64
  let s1 := chCapture (setCause (count s (Reg.chMergeRefused d c) 1) (Reg.chBlk d c) 18) sec 0x0103 (len % 256 * 2 ^ 48)
  match ownerOf s sec with
  | some (h, _) => match requestOf h with
    | some i => raiseEnd s1 i 0x23
    | none => tensorDamaged s1 h
  | none => s1

/-- Merge bytes into the sector at offset `o`. -/
def mergeBytes (old : List Byte) (o : Nat) (bs : List Byte) : List Byte := old.take o ++ bs ++ old.drop (o + bs.length)

/-- A write of fewer than 64 bytes inside one sector, which reads with `l2` symbols in error. -/
def partialWrite (s : State) (da l2 : Nat) (bs : List Byte) : State :=
  let sec := da / 64 * 64
  if sectorPoisoned s sec then mergeRefused s da bs.length
  else if 2 ≤ l2 then mergeRefused (sectorUncorrectable s sec l2) da bs.length
  else
    let s1 := if l2 = 1 then sectorCorrected s (daDie da) (daChan da) else s
    dataWrite s1 sec (mergeBytes (readT1 s1 sec 64) (da % 64) bs)

def execPartialWrite (da : Nat) (data : List Byte) (l2 : Nat) (s : State) : Result :=
  guarded (decide (da < 2 ^ 38 ∧ 0 < data.length ∧ data.length < 64 ∧ da % 64 + data.length ≤ 64)) <|
    if daHole da then addrHole s (da / 64 * 64) else if !daServed s da then s else partialWrite s da l2 data

/-- Apply one delta to parity sectors: an atomic XOR, refused sector by sector where the parity is poisoned. -/
def xorParity (s : State) (pa : Nat) (delta : List Byte) : State :=
  (List.range (delta.length / 64)).foldl (fun s i =>
    let a := pa + 64 * i
    if sectorPoisoned s a then mergeRefused s a 64
    else putT1 s a (List.zipWith (· ^^^ ·) (readT1 s a 64) ((delta.drop (64 * i)).take 64))) s

def execParityXor (d : Fin 8) (c : Fin 16) (s : State) : Result := .next <|
  let x := s.chan d.val c.val
  match x.deltas with
  | [] => s
  | (pa, delta) :: rest =>
    let s1 := s.setChan d.val c.val { x with deltas := rest }
    if !daUp s pa then s1 else if daHeld s pa then s else xorParity s1 pa delta

/-- An append that has waited 1 µs is served as class A (R128): the order of the reorder queue alone changes. -/
def execAppendPromotion (_d : Fin 8) (_c : Fin 16) (s : State) : Result := .next s

/-! ### Limits (R143, R145) -/

def execCeLimit (d : Fin 8) (c : Fin 16) (s : State) : Result := .next <|
  let n := getFld s (Reg.chLimit d.val c.val) 0 16
  if getFld s Reg.devMemCfg 16 16 ≤ n then
    beginMapout (setCause s (Reg.chBlk d.val c.val) 16) d.val c.val none false 1 0xFF01 false
  else s

def execUeLimit (d : Fin 8) (c : Fin 16) (s : State) : Result := .next <|
  if getFld s Reg.devMemCfg 32 8 ≤ getFld s (Reg.chLimit d.val c.val) 16 8 then
    beginMapout s d.val c.val none false 2 0xFF02 false
  else s

def execLimitWindowRestart (d : Fin 8) (c : Fin 16) (day : Bool) (s : State) : Result := .next <|
  if day then putFld (s.setChan d.val c.val { s.chan d.val c.val with ueSeen := [] }) (Reg.chLimit d.val c.val) 16 8 0
  else putFld s (Reg.chLimit d.val c.val) 0 16 0

def execHwFail (d : Fin 8) (c : Fin 16) (part : Nat) (s : State) : Result :=
  guarded (decide (1 ≤ part ∧ part ≤ 4)) <|
    if channelUp s d.val c.val then
      beginMapout (capture s (Reg.chBlk d.val c.val) 0x0105 0 0xFE 0 part) d.val c.val none true 3 0x0105 false
    else s

def execChMapout (w : RegWrite) (s : State) : Result :=
  guarded (isReg w .ch 0x108) <| serveWrite s w fun s p _ _ _ =>
    if fld w.val 16 16 ≠ 0x5A25 then refuseAccess s w.access true [4]
    else if bit w.val 0 then beginMapout s (p.inst / 256) (p.inst % 256) none false 5 0xFF05 false
    else s

/-! ### Copies and restores (R146 to R148) -/

/-- A span lies on capacity that a map-out takes; on lost capacity; or holds poison. -/
def onMapout (s : State) (a : Span) : Bool := s.mapouts.any fun m => m.covers a
def spanPoisoned (s : State) (a : Span) : Bool := s.poison.any fun p => a.holds (64 * p.1)

/-- New places of groups are free: in service, of the kind the partition's protection asks for, apart from everything else. -/
def groupsFree (s : State) (quire : Bool) (layers : Nat) (gs : List Nat) : Bool :=
  let sp := gs.map fun g => groupSpan g layers
  let occ := allSpans s
  (gs.all fun g => grpValid g && !grpShared g && decide (grpSlot g + layers ≤ 768) && chanOpen s (grpDie g) (grpChan g) &&
    pairOpen s quire (grpDie g) (grpChan g) (grpPair g) &&
    (List.range layers).all fun i => !parityAt s (grpDie g) (grpChan g) (grpPair g) (grpSlot g + i)) &&
    (sp.all fun a => !(occ.any a.meets)) && (sp.zipIdx).all fun (a, i) => !((sp.drop (i + 1)).any a.meets)

/-- A new place of an EXTENT tensor is free, its own place included. -/
def extentFree (s : State) (m : Word) (size : Nat) : Bool :=
  mapWellFormed m && (extentSpans m size).all fun a => decide (a.hi ≤ 0x60000000) && chanOpen s a.die a.chan && !((allSpans s).any a.meets) &&
    a.runs.all fun r => pairUp s r.die r.chan r.pair && !(s.mapouts.any fun x => x.die = r.die ∧ x.chan = r.chan ∧ x.pair = some r.pair)

/-- The present groups of what moves, with LAYERS and the quire protection. -/
def movedGroups (s : State) : Moved → List Nat × Nat × Bool
  | .extent _ _ => ([], 0, false)
  | .request i gs =>
    let e := s.entry i.val
    (gs.map fun g => Map.get zeroAt (e.dir.head g.1).list g.2.1, e.dir.layers, quireOf s e.partition)
  | .node n k gs =>
    let t := s.tree n.val
    (gs.map fun g => (t.node k).groups.getD g.1 0, t.layers, (t.node k).quire)
  | .mirror key gs => match s.mirrors.find? fun m => m.1 = key with
    | some (_, m) => (gs.map fun g => Map.get zeroAt (m.dir.head g.1).list g.2.1, m.dir.layers, quireOf s m.part)
    | none => ([], 0, false)

/-- The new groups of what moves. -/
def movedTargets : Moved → List Nat
  | .extent _ _ => []
  | .request _ gs => gs.map fun g => g.2.2
  | .node _ _ gs => gs.map fun g => g.2
  | .mirror _ gs => gs.map fun g => g.2.2

/-- The spans that what moves leaves. -/
def movedSources (s : State) (m : Moved) : List Span := match m with
  | .extent h _ => if (s.tensor h).tier = 1 ∧ ¬ (s.tensor h).grouped then extentSpans (s.tensor h).t1map (s.tensor h).size else []
  | m =>
    let (gs, layers, _) := movedGroups s m
    gs.map fun g => groupSpan g layers

/-- The new place may be taken. -/
def movedFree (s : State) (m : Moved) : Bool := match m with
  | .extent h w => extentFree s w (s.tensor h).size
  | m =>
    let (gs, layers, quire) := movedGroups s m
    decide (gs ≠ []) && (gs.all grpValid) && groupsFree s quire layers (movedTargets m)

/-- The change that the next boundary makes. -/
def movedChange (m : Moved) (copied : Bool) : Deferred := match m with
  | .extent h w => .switchExtent h w copied
  | .request i gs => .switchGroups i.val gs copied
  | .node n k gs => .switchNode n.val k gs
  | .mirror key gs => .switchMirror key gs

/-- A sector of the source was found uncorrectable: what is on it follows R147. -/
def copyLost (s : State) (m : Moved) : State := match m with
  | .extent h _ => tensorDamaged s h
  | .request i _ => if (s.entry i.val).twin ≠ 0 ∧ homeState s = 1 then s.skipEntry i.val skRestore true else raiseEnd s i.val 0x24
  | .node n k _ =>
    let t' := (s.tree n.val).unchain k
    s.setTree n.val (t'.setNode k { t'.node k with valid := false })
  | .mirror key _ => refuseMirror s key 5

def execDrainCopyDone (m : Moved) (s : State) : Result := .next <|
  let src := movedSources s m
  if !(src.any (onMapout s)) || src.any (onLost s) || !movedFree s m then s
  else if src.any (spanPoisoned s) then copyLost s m
  else { s with deferred := s.deferred ++ [movedChange m true] }

/-- Count a restored tensor, or an ended request, in the map-outs that cover a span. -/
def noteRestored (s : State) (sp : List Span) (restored : Bool) : State :=
  { s with mapouts := s.mapouts.map fun m =>
    if sp.any m.covers then (if restored then { m with restored := m.restored + 1 } else { m with ended := m.ended + 1 }) else m }

/-- Nothing runs and an abandoned step waits to run again: what restores its tensors takes effect at once (R148). -/
def stepWaits (s : State) : Bool := !s.steps.running && decide (s.steps.replay ≠ .none)

/-- The restored image of an EXTENT tensor: what its reload has read from the T2 copy, else what a replica sent. -/
def extentImage (s : State) (h : Nat) (image : Option (List Byte)) : Option (List Byte) :=
  match s.moves.find? fun m => m.handle = h ∧ m.kind = .reload with
  | some m => if m.whole then
      let v := convert m.source m.container (s.tensor h).size m.bytes
      if v.code = 0 then some v.image else none
    else none
  | none => image.bind fun bs => if bs.length = (s.tensor h).size then some bs else none

/-- An EXTENT tensor is whole again in a new place. -/
def restoreExtent (s : State) (h : Nat) (w : Word) (bs : List Byte) : State :=
  let s1 := clearExtentPoison (putExtent s w 0 bs) w 0 bs.length
  let s2 := startMoves { s1 with moves := s1.moves.filter fun m => ¬ (m.handle = h ∧ m.kind = .reload) }
  if stepWaits s2 then finishMapouts (switchExtentNow s2 h w false)
  else { s2 with deferred := s2.deferred ++ [.switchExtent h w false] }

/-- No source remains: a request ends with MEM_LOST; a SYSTEM tensor stops the device; a weight stays held (Table 5.11). -/
def restoreFails (s : State) (m : Moved) : State := match m with
  | .extent h _ => if (s.tensor h).cls = 3 then failStop s 5 else s
  | .request i _ => noteRestored (raiseEnd s i.val 0x24) (movedSources s m) false
  | _ => s

/-- The image of a request's pages is written to their new places. -/
def restoreRequest (s : State) (i : Nat) (gs : List (Nat × Nat × Nat)) (bs : List Byte) : State :=
  let s1 := putImage s (s.entry i).dir gs bs
  { s1 with deferred := s1.deferred ++ [.switchGroups i gs false] }

def execRestoreDone (m : Moved) (image : Option (List Byte)) (s : State) : Result := .next <|
  let src := movedSources s m
  if !(src.any fun a => onLost s a || (onMapout s a && spanPoisoned s a)) then s
  else match m with
    | .extent h w => match extentImage s h image with
      | some bs => if movedFree s m then restoreExtent (noteRestored s src true) h w bs else s
      | none => if (s.moves.any fun x => x.handle = h ∧ x.kind = .reload) then s else restoreFails s m
    | .request i gs => match image with
      | some bs =>
        let e := s.entry i.val
        if movedFree s m ∧ bs.length = gs.length * e.dir.layers * pageBytes e.dir then restoreRequest (noteRestored s src true) i.val gs bs else s
      | none => restoreFails s m
    | _ => s

/-! ### Rebuilds (R152) -/

/-- Every other page of the quires of a group can be read, and no delta is on its way to their parity. -/
def rebuildable (s : State) (g layers : Nat) : Bool :=
  let d := grpDie g
  (List.range 16).all fun c => decide (c = grpChan g) || (pairReadable s d c (grpPair g) && (s.chan d c).deltas.all fun x =>
    !((groupSpan (mkGroup d c (grpPair g) (grpSlot g) false) layers).holds x.1))

/-- The page of layer `l` of a lost group: the XOR of the quire's other pages and its parity. -/
def rebuiltPage (s : State) (g l : Nat) : List Byte :=
  xorPages s (grpDie g) (daCla (grpAddr g l 0)) 0x8000 ((List.range 16).filter (· ≠ grpChan g))

/-- One page rebuilt into a group of another quire, and XORed out of the old quire's parity. -/
def rebuildPage (s : State) (old new l : Nat) : State :=
  let bs := rebuiltPage s old l
  let s1 := dataWrite s (grpAddr new l 0) bs
  match parityDa s (grpAddr old l 0) with
  | some pa => xorParity s1 pa bs
  | none => s1

def execRebuildDone (req : Fin 32768) (head entry group : Nat) (s : State) : Result := .next <|
  let m : Moved := .request req [(head, entry, group)]
  let e := s.entry req.val
  let old := Map.get zeroAt (e.dir.head head).list entry
  if quireOf s e.partition && (movedSources s m).any (onLost s) && movedFree s m && rebuildable s old e.dir.layers then
    let s1 := (List.range e.dir.layers).foldl (fun s l => rebuildPage s old group l) (noteRestored s (movedSources s m) true)
    let r := Reg.mdQuireStatus (grpDie old)
    let s2 := putFld s1 r 0 16 (getFld s1 r 0 16 - e.dir.layers)
    { s2 with deferred := s2.deferred ++ [.switchGroups req.val [(head, entry, group)] false] }
  else s

/-- The quire has lost its parity page, or is about to (R152). -/
def parityGoes (s : State) (d q : Nat) : Bool :=
  let k := quireCla s d q / 0x1800000
  decide (q < fld (getReg s (Reg.mdQuireCfg d)) 6 7 * 768) && (!pairReadable s d (parityChan s d q) k ||
    s.mapouts.any fun m => m.covers ⟨d, parityChan s d q, quireCla s d q, quireCla s d q + 0x8000⟩)

def execQuireParityMoved (d : Fin 8) (quire : Nat) (m : Option (Nat × Nat × Nat × Nat)) (s : State) : Result := .next <|
  if !parityGoes s d.val quire then s
  else match nextParity s d.val quire with
    | none => s
    | some c =>
      let cla := quireCla s d.val quire
      let a : Span := ⟨d.val, c, cla, cla + 0x8000⟩
      let mv := Deferred.parityMove d.val quire c
      match m with
      | none => if (allSpans s).any a.meets then s else { s with deferred := s.deferred ++ [mv] }
      | some (i, h, e, g) =>
        if hi : i < 32768 then
          let x : Moved := .request ⟨i, hi⟩ [(h, e, g)]
          if (movedSources s x).any a.meets && movedFree s x then { s with deferred := s.deferred ++ [movedChange x true, mv] } else s
        else s

end Sys2Proof.Machine
end

