-- ==== Sys2Proof/Machine/SortOps.lean ====
section
/-!
DEFINITION. Sorts as 64 bytes (R306 to R311): their fields, their reserved bits, and what makes one malformed (R219, R241, R312,
R325).
-/
namespace Sys2Proof.Machine

/-! ### Fields -/

def srtOp (b : List Byte) : Nat := leAt b 0 1
def srtSlotRel (b : List Byte) : Bool := (leAt b 1 1).testBit 3
def srtSlot (b : List Byte) : Nat := leAt b 2 2 % 2 ^ 10
/-- Token and threshold of WAIT0 or WAIT1. -/
def srtWait (b : List Byte) (i : Nat) : Nat × Nat := (leAt b (4 + 4 * i) 4 % 2 ^ 12, leAt b (4 + 4 * i) 4 / 2 ^ 12 % 2 ^ 16)
def srtSignal (b : List Byte) : Nat := leAt b 0xC 4
def sigToken (b : List Byte) : Nat := srtSignal b % 2 ^ 12
def sigDie (b : List Byte) : Nat := srtSignal b / 2 ^ 12 % 8
def sigMember (b : List Byte) : Nat := srtSignal b / 2 ^ 15 % 64
def sigRemote (b : List Byte) : Bool := (srtSignal b).testBit 21
def sigEn (b : List Byte) : Bool := (srtSignal b).testBit 22

/-- A T0 offset at `off` of a sort. -/
def srtT0 (b : List Byte) (off : Nat) : Nat := leAt b off 4 % 2 ^ 23
/-- A tensor-space address at `off` of a sort. -/
def srtTs (b : List Byte) (off : Nat) : Nat := leAt b off 8 % 2 ^ 48

/-- B of a SHAPE, and the accumulation mode: 0 FP32, 1 BF16. -/
def shapeB (v : Nat) : Nat := 64 / 2 ^ (v % 4)
def shapeMode (v : Nat) : Nat := v / 4 % 2
/-- Bytes of an accumulator element. -/
def accBytes (mode : Nat) : Nat := if mode = 0 then 4 else 2
/-- Tiles in flight (Table 8.1). -/
def tilesInFlight (b mode : Nat) : Nat := 1024 / (b * accBytes mode)

/-- Stored bytes of a weight tile. -/
def tileBytes (fmt : Nat) : Nat := if (wfElem fmt).isSome then 64 * wfPair fmt else 4096 * fmtBytes fmt

/-! ### Reserved bits -/

/-- The bits that a list of (offset, bytes, mask) allows in a structure. -/
def allowed (l : List (Nat × Nat × Nat)) : Nat := l.foldl (fun a x => a ||| x.2.2 * 2 ^ (8 * x.1)) 0

/-- Every other bit of the structure is 0. -/
def reservedClear (l : List (Nat × Nat × Nat)) (bs : List Byte) : Bool := decide (ofLe bs &&& allowed l = ofLe bs)

def t0Mask : Nat := 2 ^ 23 - 1

/-- Header fields (Table 10.6). -/
def hdrFields : List (Nat × Nat × Nat) :=
  [(0, 1, 0xFF), (1, 1, 0x0F), (2, 2, 0x3FF), (4, 4, 0xFFFFFFF), (8, 4, 0xFFFFFFF), (0xC, 4, 0x7FFFFF)]

/-- Operand fields of each opcode (R308 to R311); none for an opcode that Table 10.7 does not list. -/
def sortFields (b : List Byte) : Option (List (Nat × Nat × Nat)) :=
  let w := 2 ^ 32 - 1
  let ts := 2 ^ 48 - 1
  match srtOp b with
  | 0x00 => some []
  | 0x10 => some [(0x10, 8, ts), (0x18, 2, 0xFFFF), (0x1A, 1, 0x1F), (0x1C, 4, w)]
  | 0x11 => some [(0x10, 8, ts), (0x18, 4, t0Mask), (0x1C, 4, w)]
  | 0x20 => some [(0x10, 4, t0Mask), (0x14, 1, 0x1F), (0x15, 1, 0x1F), (0x16, 1, 0x1F), (0x17, 1, 0x3F), (0x18, 4, 0xFFFF),
      (0x1C, 4, t0Mask), (0x20, 4, 0xFFFFFFF), (0x24, 1, 0xFF), (0x28, 4, t0Mask)]
  | 0x30 => some [(0x10, 1, 0x3F), (0x11, 1, 7), (0x12, 1, 0x1F), (0x13, 1, 0xFF), (0x14, 4, t0Mask),
      (0x18, 8, if leAt b 0x13 1 = 5 then ts else if leAt b 0x13 1 = 0 then 0 else 0xFF), (0x20, 4, t0Mask + 2 ^ 31),
      (0x24, 4, 2 ^ 30 - 1), (0x28, 4, w), (0x2C, 2, 0xFFFF), (0x2E, 1, 0xFF)]
  | 0x40 => some [(0x10, 1, 0xFF), (0x11, 1, 0xFF), (0x12, 1, 0xFF), (0x14, 4, t0Mask), (0x18, 4, t0Mask), (0x1C, 4, t0Mask),
      (0x20, 4, w), (0x24, 2, 0xFFFF), (0x28, 4, w)]
  | 0x41 => some [(0x10, 4, t0Mask), (0x14, 2, 0xFFFF), (0x16, 1, 1), (0x17, 1, 0xFF), (0x18, 4, t0Mask), (0x1C, 4, w)]
  | 0x42 => some [(0x10, 1, 0xFF), (0x14, 4, t0Mask), (0x18, 4, t0Mask), (0x1C, 4, w), (0x20, 4, w)]
  | 0x43 => some [(0x10, 4, t0Mask), (0x14, 1, 0xFF), (0x15, 1, 0xFF), (0x18, 4, w),
      (0x1C, 8, if 2 ^ 63 ≤ leAt b 0x1C 8 then ts + 2 ^ 63 else 0xFF)]
  | 0x50 => some [(0x10, 4, t0Mask), (0x18, 8, ts), (0x20, 4, w)]
  | 0x51 => some [(0x10, 4, t0Mask), (0x14, 1, 0xFF), (0x18, 4, t0Mask), (0x1C, 4, w)]
  | 0x52 => some [(0x10, 4, t0Mask), (0x14, 1, 0xFF), (0x15, 1, 0xFF), (0x18, 4, t0Mask), (0x1C, 4, w)]
  | 0x60 => some [(0x10, 1, 0x7F), (0x11, 1, 0xF), (0x12, 1, 3), (0x13, 1, 0x1F), (0x14, 4, w), (0x18, 4, w), (0x1C, 1, 0x1F),
      (0x1E, 2, 0xFFFF), (0x20, 4, t0Mask), (0x24, 4, t0Mask), (0x28, 2, 0xFFF)]
  | _ => none

/-- The engine of an opcode (Table 10.7); none for NOP, which any engine takes. -/
def opEngine (op : Nat) : Option Nat :=
  if op = 0x10 ∨ op = 0x11 then some 0 else if op = 0x20 then some 1 else if op = 0x30 then some 2
  else if 0x40 ≤ op ∧ op ≤ 0x43 then some 3 else if 0x50 ≤ op ∧ op ≤ 0x52 then some 4 else if op = 0x60 then some 5 else none

/-- Opcode, engine and reserved fields of a sort of segment entry `seg` (R306, R307). -/
def sortShape (seg : Nat) (b : List Byte) : Bool := match sortFields b with
  | none => false
  | some fs =>
    let e := sortEngine b
    decide (b.length = 64) && reservedClear (hdrFields ++ fs) b && (opEngine (srtOp b)).all (fun x => x = e) &&
      decide (e ≤ 5) && (decide (e = 5) == decide (256 ≤ seg)) && (srtSlotRel b || decide (srtSlot b = 0))

/-! ### Operands (R325) -/

/-- Table 7.8 lists the combination. -/
def pairListed (act wt mode : Nat) : Bool :=
  let fp8 := fun x => decide (x = 0 ∨ x = 1)
  let wf := fun x => decide (8 ≤ x ∧ x ≤ 0xC)
  let half := fun x => decide (x = 3 ∨ x = 4)
  (fp8 act && (fp8 wt || wf wt)) || (decide (act = 2) && decide (wt = 2) && decide (mode = 0)) ||
    (half act && (fp8 wt || wf wt || half wt))

/-- FP32, BF16 or FP16. -/
def wideFmt (f : Nat) : Bool := decide (f = 3 ∨ f = 4 ∨ f = 5)

/-- A T0 range. -/
def inT0 (off n : Nat) : Bool := decide (off + n ≤ 2 ^ 23)

/-- What a sort is checked against: segment entry, batch slots, heads, tokens, DIE_SWATHS, member devices, the TOP of each logical
core. -/
structure SortCtx where
  seg : Nat
  slots : Nat
  heads : Nat
  tokens : Nat
  dieSwaths : Nat
  members : Nat
  top : Nat → Nat

/-- A write of `n` bytes lies in T0 and in no resident section. -/
def SortCtx.writable (c : SortCtx) (core off n : Nat) : Bool := inT0 off n && decide (c.top core ≤ off)

def matmulOk (b : List Byte) : Bool :=
  let sh := leAt b 0x16 1
  let bb := shapeB sh
  let act := leAt b 0x14 1
  let wt := leAt b 0x15 1
  let pre := sh / 8 % 4
  let pf := leAt b 0x20 4 / 2 ^ 23 % 32
  let k := leAt b 0x18 2
  pairListed act wt (shapeMode sh) && decide (leAt b 0x17 1 < tilesInFlight bb (shapeMode sh)) && decide (pre ≤ 2) &&
    (decide (pre = 0) || (wideFmt pf && inT0 (srtT0 b 0x20) ((if pre = 1 then 64 else 64 * bb) * fmtBytes pf))) &&
    decide (1 ≤ k) && inT0 (srtT0 b 0x10) ((k - 1) * srtT0 b 0x1C + 64 * bb * fmtBytes act) && decide (leAt b 0x24 1 ≤ 1) &&
    (decide (leAt b 0x24 1 = 0) || inT0 (srtT0 b 0x28) (k * tileBytes wt))

def drainOk (c : SortCtx) (b : List Byte) : Bool :=
  let sh := leAt b 0x11 1
  let bb := shapeB sh
  let out := leAt b 0x12 1
  let kind := leAt b 0x13 1
  let n := 64 * bb * fmtBytes out
  let core := leAt b 0x18 1
  let fu := leAt b 0x24 4
  let rot := leAt b 0x28 4
  let dest :=
    if kind = 0 then c.writable c.seg (srtT0 b 0x14) n
    else if kind = 1 ∨ kind = 4 then c.writable core (srtT0 b 0x14) n
    else if kind = 6 then c.writable core (srtT0 b 0x14) ((leAt b 0x2E 1 + 1) * n)
    else if kind = 2 ∨ kind = 3 then decide (core < c.heads)
    else decide (kind = 5)
  decide (leAt b 0x10 1 < tilesInFlight bb (shapeMode sh)) && decide (out ≤ 5) && dest && decide (leAt b 0x2E 1 ≤ 63) &&
    (decide (kind ≠ 4 ∧ kind ≠ 5) || decide (out = 3 ∨ out = 5)) &&
    (!(leAt b 0x20 4).testBit 31 || inT0 (srtT0 b 0x20) 256) && decide (fu / 2 ^ 28 % 4 ≤ 2) &&
    (decide (fu / 2 ^ 28 % 4 = 0) || (wideFmt (fu / 2 ^ 23 % 32) && inT0 (fu % 2 ^ 23) (64 * bb * fmtBytes (fu / 2 ^ 23 % 32)))) &&
    (!rot.testBit 31 || (decide (rot / 2 ^ 23 % 256 ≤ 128) && inT0 (rot % 2 ^ 23) (4 * (rot / 2 ^ 23 % 256))))

/-- Bytes of a record with O in FP32 or BF16, from its SHAPE byte. -/
def recordLen (shape : Nat) (bf : Bool) : Nat := 96 + (shape % 8 + 1) * dimOf (shape / 8 % 4) * (if bf then 2 else 4)

def attendOk (c : SortCtx) (b : List Byte) : Bool :=
  let sh := leAt b 0x13 1
  let q := (sh % 8 + 1) * dimOf (sh / 8 % 4) * 2
  let rl := recordLen sh ((leAt b 0x12 1).testBit 1)
  let qp := leAt b 0x1E 2
  let areas := ((c.slots * c.heads - 1) / 32 + 1) * qp
  let rb := srtT0 b 0x24
  decide (sh / 8 % 4 ≠ 3) && decide (1 ≤ qp ∧ qp ≤ 4096) && decide (rb % 32 = 0) && inT0 (srtT0 b 0x20) (areas * q) &&
    inT0 rb (areas * c.dieSwaths * rl) && (List.range 32).all fun n => decide (c.top (32 * (c.seg - 256) + n) ≤ rb)

/-- The operands of a sort are in range. -/
def operandsOk (c : SortCtx) (b : List Byte) : Bool :=
  let n := leAt b 0x1C 4
  match srtOp b with
  | 0x10 => decide (leAt b 0x1A 1 ≤ 4 ∨ (8 ≤ leAt b 0x1A 1 ∧ leAt b 0x1A 1 ≤ 0xC)) && decide (1 ≤ leAt b 0x18 2)
  | 0x11 => decide (n % 64 = 0 ∧ 0 < n ∧ n ≤ 2 ^ 22) && c.writable c.seg (srtT0 b 0x18) n
  | 0x20 => matmulOk b
  | 0x30 => drainOk c b
  | 0x40 => decide (1 ≤ leAt b 0x10 1 ∧ leAt b 0x10 1 ≤ 10 ∧ leAt b 0x11 1 ≤ 5 ∧ leAt b 0x12 1 ≤ 5) &&
      c.writable c.seg (srtT0 b 0x1C) (leAt b 0x20 4 * leAt b 0x24 2 * fmtBytes (leAt b 0x12 1)) &&
      (decide (leAt b 0x10 1 = 10) || inT0 (srtT0 b 0x14) (leAt b 0x20 4 * leAt b 0x24 2 * fmtBytes (leAt b 0x11 1)))
  | 0x41 => decide (2 ≤ leAt b 0x14 2 ∧ leAt b 0x14 2 ≤ 8192 ∧ leAt b 0x17 1 ≤ 5) &&
      inT0 (srtT0 b 0x10) ((leAt b 0x14 2 - 1) * n + 96) && c.writable c.seg (srtT0 b 0x18) 1
  | 0x42 => decide (leAt b 0x10 1 ≤ 2) && (decide (leAt b 0x10 1 = 2) || c.writable c.seg (srtT0 b 0x18) 1)
  | 0x43 => decide (2 ≤ leAt b 0x14 1 ∧ leAt b 0x14 1 ≤ 64 ∧ leAt b 0x15 1 ≤ 5) &&
      inT0 (srtT0 b 0x10) (leAt b 0x14 1 * leAt b 0x18 4)
  | 0x50 => inT0 (srtT0 b 0x10) (leAt b 0x20 4)
  | 0x51 => inT0 (srtT0 b 0x10) n && c.writable (leAt b 0x14 1) (srtT0 b 0x18) n
  | 0x52 => inT0 (srtT0 b 0x10) n && inT0 (srtT0 b 0x18) n && decide (leAt b 0x14 1 < c.members)
  | 0x60 => attendOk c b
  | _ => true

/-- A wait whose threshold counts names a token below TOKENS that receives enough signals; with several members remote signals are
not known here, and only the token is checked. `got`: signals by 4096 × die + token. -/
def waitOk (c : SortCtx) (got : Map Nat) (w : Nat × Nat) : Bool :=
  let die := if c.seg < 256 then c.seg / 32 else c.seg - 256
  decide (w.2 = 0) || (decide (w.1 < c.tokens) && (decide (1 < c.members) || decide (w.2 ≤ Map.get zeroAt got (4096 * die + w.1))))

/-- A sort is well formed. -/
def sortOk (c : SortCtx) (got : Map Nat) (b : List Byte) : Bool :=
  sortShape c.seg b && decide (srtSlot b < c.slots) && waitOk c got (srtWait b 0) && waitOk c got (srtWait b 1) &&
    (!sigEn b || (decide (sigToken b < c.tokens) && (!sigRemote b || decide (sigMember b < c.members)))) && operandsOk c b

/-- TBASE of an ATTEND sort, and the (slot, head) pairs of the forme: the tokens its page jobs signal. -/
def attendBase (b : List Byte) : Nat := leAt b 0x28 2 % 2 ^ 12

/-- The signals of one sort of segment entry `seg` in one step, by 4096 × die + token. -/
def sortSignals (c : SortCtx) (m : Map Nat) (b : List Byte) : Map Nat :=
  let add := fun (m : Map Nat) (k n : Nat) => Map.set zeroAt m k (Map.get zeroAt m k + n)
  let m1 := if sigEn b && !sigRemote b then add m (4096 * sigDie b + sigToken b) 1 else m
  if srtOp b = 0x60 then
    (List.range (c.slots * c.heads)).foldl (fun m x =>
      add m (4096 * (c.seg - 256) + attendBase b + x) (c.dieSwaths * leAt b 0x1E 2)) m1
  else m1

end Sys2Proof.Machine
end

