-- ==== Sys2Proof/Machine/Units.lean ====
section
/-!
DEFINITION. What the engines of a step share: T0 of logical cores, dependency tokens (R312 to R314), the slots of the running
step.
-/
namespace Sys2Proof.Machine

/-! ### T0 -/

/-- Key of a byte of T0 of physical core `p` of CDd. -/
def t0Key (d p off : Nat) : Nat := (34 * d + p) * 2 ^ 23 + off

/-- `n` bytes of T0 of logical core `l` of CDd; a core that the map does not list reads 0. -/
def readT0 (s : State) (d l off n : Nat) : List Byte := match coreOf s d l with
  | some p => (List.range n).map fun i => Map.get (fun _ => 0) s.t0 (t0Key d p (off + i))
  | none => List.replicate n 0

/-- Write bytes of T0 of a logical core. -/
def writeT0 (s : State) (d l off : Nat) (bs : List Byte) : State := match coreOf s d l with
  | some p => { s with t0 := (bs.zipIdx).foldl (fun m (b, i) => Map.set (fun _ => 0) m (t0Key d p (off + i)) b) s.t0 }
  | none => s

/-! ### Tokens (R312) -/

def tokenOf (s : State) (d t : Nat) : Nat := Map.get zeroAt s.steps.tokens (4096 * d + t)

/-- A signal adds 1 to a counter of 16 bits. -/
def signalToken (s : State) (d t : Nat) : State :=
  { s with steps := { s.steps with tokens := Map.set zeroAt s.steps.tokens (4096 * d + t) ((tokenOf s d t + 1) % 2 ^ 16) } }

/-- The pick of a partition in the running step. -/
def runningPick (s : State) (n : Nat) : Option PartPick := s.steps.current.find? fun p => p.part = n

/-- The token base of a partition's running imposition. -/
def tokenBase (s : State) (n : Nat) : Nat := match runningPick s n with
  | some p => (s.impo p.impo).tokenBase
  | none => 0

/-! ### Slots of the running step -/

/-- Change the slots of a request in the running step. -/
def onSlots (s : State) (part : Nat) (p : Slot → Bool) (f : Slot → Slot) : State :=
  let one := fun (x : Option Slot) => x.map fun sl => if p sl then f sl else sl
  { s with steps := { s.steps with
    current := s.steps.current.map fun q => if q.part = part then { q with slots := q.slots.map one } else q } }

/-- The output of a request is void for the step (R177). -/
def voidRequest (s : State) (part req : Nat) : State := onSlots s part (fun sl => sl.req = req) fun sl => { sl with isVoid := true }

/-- Raise flags of Table 11.9 in a slot. -/
def flagRequest (s : State) (part req b : Nat) : State :=
  onSlots s part (fun sl => sl.req = req) fun sl => { sl with flags := sl.flags ||| 2 ^ b }

end Sys2Proof.Machine
end

