-- ==== Sys2Proof/Machine/CoreDie.lean ====
section
/-!
DEFINITION. Cores that fail and the spares that take over (R203 to R205, R462, Table 7.1, Table 7.13).
-/
namespace Sys2Proof.Machine

/-! ### Failed cores -/

/-- The logical core that a physical core in service carries. -/
def carried (s : State) (d p : Nat) : Option Nat :=
  if getBit s (Reg.cdCoreFallow d) p then none else (List.range 32).find? fun n => coreOf s d n = some p

/-- The identity of a core's owner in a capture: a partition, else none. -/
def ownerPart (s : State) (d p : Nat) : Nat := if coreOwner s d p < 64 then coreOwner s d p else noPart

/-- An error of a physical core, in an engine (R238). -/
def coreCapture (s : State) (d p code engine addr detail : Nat) : State :=
  capture s (Reg.coreBlk d (p / 2)) code (p % 2 + engine * 2) (ownerPart s d p) addr detail

/-- The lowest spare that is neither in use nor fallow. -/
def freeSpare (s : State) (d : Nat) : Option Nat :=
  [32, 33].find? fun p => decide (getFld s (Reg.coreId d p) 16 2 = 1) && !getBit s (Reg.cdCoreFallow d) p

/-- The numbers by which a takeover holds the trigger: while spare `p` wakes, and until it has taken over. -/
def wakeHold (d p : Nat) : Nat := 200000 + 34 * d + p
def spareHold (d p : Nat) : Nat := 201000 + 34 * d + p

def addHold (s : State) (h : Nat) : State := { s with steps := { s.steps with holds := h :: s.steps.holds } }
def dropHold (s : State) (h : Nat) : State := { s with steps := { s.steps with holds := s.steps.holds.filter (· ≠ h) } }

/-- A core fails: captured, stopped, fallow; the step is replayed once a spare carries its logical number. Without a free spare the
die pair is lost (R203, R204, R466). -/
def failCore (s : State) (d p code engine detail : Nat) : State := match carried s d p with
  | none => s
  | some n =>
    let s1 := setCause (coreCapture s d p code engine 0 detail) (Reg.coreBlk d (p / 2)) 16
    let s2 := fallowAdd (setCoreId (putBit s1 (Reg.cdCoreFallow d) p true) d p 0 3) 2 d p 0 code
    let s3 := abandonWith s2 .normal
    match freeSpare s3 d with
    | some q => addHold (setCoreId s3 d q n 2) (wakeHold d q)
    | none => dieLost (dieExhausted s3 d 0x0023) d

def execT0Ue (d : Fin 8) (p : Fin 34) (off : BitVec 23) (engine : Fin 5) (s : State) : Result := .next <|
  failCore s d.val p.val 0x0301 engine.val (off.toNat / 8 * 8)

def execCoreParity (d : Fin 8) (p : Fin 34) (part : Fin 6) (engine : Fin 5) (s : State) : Result :=
  guarded (decide (part.val ≠ 0)) <| failCore s d.val p.val 0x0302 engine.val part.val

def execCoreHang (d : Fin 8) (p : Fin 34) (engine : Fin 5) (index : BitVec 16) (s : State) : Result := .next <|
  if s.steps.running ∧ ¬ halted s then failCore s d.val p.val 0x0303 engine.val index.toNat else s

/-! ### Takeover (Table 7.1) -/

def execSpareWake (d : Fin 8) (p : Fin 34) (s : State) : Result := .next <|
  if wakeHold d.val p.val ∈ s.steps.holds then
    addHold (dropHold (wipeT0 s d.val p.val) (wakeHold d.val p.val)) (spareHold d.val p.val)
  else s

/-- CD_SPARE_STATUS after spare `q` has taken the place of core `old` (R231). -/
def noteTakeover (s : State) (d old q : Nat) : State :=
  let r := Reg.cdSpareStatus d
  let s1 := putBit (if 32 ≤ old then putBit s r (old - 8) false else s) r (q - 8) true
  let s2 := putFld s1 r 0 2 (getFld s1 r 0 2 - 1)
  putFld s2 r 32 16 (getFld s2 r 32 16 + 1)

/-- Spare `q` carries logical core `n` in place of `old`: the resident image of the logical core, the map, the owner, the status. -/
def takeOver (s : State) (d n old q : Nat) : State :=
  let o := coreOwner s d old
  let s1 := setCoreOwner (setCoreId (mapCore s d n (some q)) d q n 0) d q o
  let s2 := if o < 64 then writeResident s1 o (32 * d + n) else s1
  raiseEvent (noteTakeover s2 d old q) 0x020 noPart (blkDir (Reg.cdBlk d)) (dieHalf d).idx (word (d + old * 256)) (word q)

def execSpareTaken (d : Fin 8) (p : Fin 34) (s : State) : Result := .next <|
  if spareHold d.val p.val ∈ s.steps.holds then
    let n := getFld s (Reg.coreId d.val p.val) 8 5
    match coreOf s d.val n with
    | some old => takeOver (dropHold s (spareHold d.val p.val)) d.val n old p.val
    | none => dropHold s (spareHold d.val p.val)
  else s

/-! ### T0 words (R205, R235) -/

/-- A corrected word of T0: counted, cause T0_CE. -/
def t0Corrected (s : State) (d p : Nat) : State := setCause (count s (Reg.coreT0Ce d p) 1) (Reg.coreBlk d (p / 2)) 18

def execT0Scrub (d : Fin 8) (p : Fin 34) (off : BitVec 23) (bits : Fin 3) (s : State) : Result := .next <|
  if !getBit s (Reg.coreCfg d.val p.val) 8 || (carried s d.val p.val).isNone then s
  else if bits.val = 0 then s
  else if bits.val = 1 then t0Corrected s d.val p.val
  else failCore s d.val p.val 0x0301 0 (off.toNat / 8 * 8)

end Sys2Proof.Machine
end

