-- ==== Sys2Proof/Machine/Formes.lean ====
section
/-!
DEFINITION. The forme loader (R297 to R305, R323 to R328): containers and their checks, and the operations of GAL_FORME_CTRL.
-/
namespace Sys2Proof.Machine

/-! ### The container (R298, R299) -/

/-- A section of a container. -/
structure Section where
  type : Nat
  index : Nat
  off : Nat
  len : Nat
  crc : Nat
  body : List Byte

/-- The sections that the directory lists. -/
def sectionsOf (c : List Byte) : List Section :=
  (List.range (leAt c 0x1C 2)).map fun i =>
    let at_ := 0x40 + 16 * i
    let off := leAt c (at_ + 4) 4
    let len := leAt c (at_ + 8) 4
    ⟨leAt c at_ 2, leAt c (at_ + 2) 2, off, len, leAt c (at_ + 12) 4, (c.drop off).take len⟩

/-- MAGIC, CHECK, reserved fields, IMPO_ID and SIZE of the header. -/
def headerOk (c : List Byte) : Bool :=
  let size := leAt c 0x18 4
  decide (64 ≤ c.length ∧ leAt c 0 4 = 0x5A254643 ∧ leAt c 0x3C 4 = crc32c (c.take 0x3C) ∧ leAt c 6 1 ≤ 1 ∧ leAt c 8 8 ≠ 0 ∧
    leAt c 0x1E 1 < 64 ∧ leAt c 0x24 24 = 0 ∧ 64 ≤ size ∧ size ≤ c.length)

/-- Two ranges do not overlap. -/
def apart (a b : Section) : Bool := decide (a.off + a.len ≤ b.off ∨ b.off + b.len ≤ a.off)

/-- The sections of a type, and the one of an index. -/
def ofType (ss : List Section) (t : Nat) : List Section := ss.filter fun x => x.type = t
def sectionAt (ss : List Section) (t i : Nat) : List Byte := match ss.find? fun x => x.type = t ∧ x.index = i with
  | some x => x.body
  | none => []

/-- No two sections of one type and index. -/
def distinctSections (ss : List Section) : Bool :=
  ss.Pairwise (fun a b => ¬ (a.type = b.type ∧ a.index = b.index)) && ss.Pairwise (fun a b => apart a b = true)

/-- A bias entry is neither NaN nor +∞. -/
def biasOk (v : Nat) : Bool := decide (v / 1024 % 32 ≠ 31 ∨ v = 0xFC00)

/-- Bounds, types, CRCs and counts of the sections (Table 10.3). -/
def directoryOk (c : List Byte) : Bool :=
  let n := leAt c 0x1C 2
  let size := leAt c 0x18 4
  let ss := sectionsOf c
  let exps := (ofType ss 5).map (·.index)
  decide (4 ≤ n ∧ n ≤ 64 ∧ 0x40 + 16 * n ≤ size) &&
    (ss.all fun x => decide (x.off % 64 = 0 ∧ 0x40 + 16 * n ≤ x.off ∧ x.off + x.len ≤ size ∧ 1 ≤ x.type ∧ x.type ≤ 6) &&
      decide (x.crc = crc32c x.body)) && distinctSections ss &&
    decide ((ofType ss 1).map (·.index) = [0] ∧ (ofType ss 2).map (·.index) = [0]) &&
    ((ofType ss 2).all fun x => decide (x.len % 32 = 0)) &&
    ((ofType ss 3).all fun x => decide (x.index ≤ 255 ∧ x.len % 4096 = 0 ∧ x.len ≤ 2 ^ 23)) &&
    ((ofType ss 4).all fun x => decide (x.index ≤ 15 ∧ x.len = 8192) &&
      (List.range 4096).all fun i => biasOk (leAt x.body (2 * i) 2)) &&
    decide (1 ≤ exps.length ∧ exps.length ≤ 17) && (exps.all fun e => decide (e < exps.length)) &&
    (exps.all fun e => (ofType ss 6).any fun x => x.index = e) && ((ofType ss 6).all fun x => decide (x.index ∈ exps))

/-! ### The imposition and its tables (R300, R301) -/

/-- The imposition record, its member and head tables, and the tensor list. -/
def recordOf (b tl : List Byte) : ImpoRecord :=
  let mo := leAt b 0x18 4
  let ho := leAt b 0x1C 4
  { modelId := word (leAt b 0 8), layers := leAt b 8 1, format := leAt b 9 1, dim := leAt b 0xA 1, swathLen := leAt b 0xB 1
    qheads := leAt b 0xE 1, groupSize := leAt b 0xF 1, vocab := leAt b 0x10 4, lead := leAt b 0x14 1, margin := leAt b 0x15 1
    reportTimeout := leAt b 0x16 2, flags := leAt b 0x20 4
    members := (List.range (leAt b 0xF 1)).map fun i => (word (leAt b (mo + 16 * i) 8), leAt b (mo + 16 * i + 8) 2)
    heads := (List.range (leAt b 0xC 2)).map fun i =>
      let at_ := ho + 16 * i
      ⟨leAt b at_ 1, leAt b (at_ + 1) 1, leAt b (at_ + 2) 1, leAt b (at_ + 4) 2, leAt b (at_ + 8) 4⟩
    tensors := (List.range (tl.length / 32)).map fun i =>
      ⟨leAt tl (32 * i) 4, leAt tl (32 * i + 4) 1, leAt tl (32 * i + 8) 4, word (leAt tl (32 * i + 16) 8)⟩ }

/-- Ranges and reserved fields of the imposition section. -/
def impositionOk (b : List Byte) : Bool :=
  let r := recordOf b []
  let nh := leAt b 0xC 2
  let mo := leAt b 0x18 4
  let ho := leAt b 0x1C 4
  decide (64 ≤ b.length ∧ 1 ≤ r.layers ∧ r.layers ≤ 128 ∧ r.format ∈ [0, 1, 4] ∧ r.dim ≤ 2 ∧ ¬ (r.dim = 2 ∧ r.format = 4) ∧
    1 ≤ r.swathLen ∧ r.swathLen ≤ 16 ∧ r.swathLen * r.layers ≤ 768 ∧ 1 ≤ nh ∧ nh ≤ 256 ∧ 1 ≤ r.qheads ∧ r.qheads ≤ 64) &&
  decide (1 ≤ r.groupSize ∧ r.groupSize ≤ 64 ∧ 1 ≤ r.vocab ∧ r.vocab ≤ 2 ^ 20 ∧ r.lead < r.groupSize ∧ 1 ≤ r.margin ∧
    1 ≤ r.reportTimeout ∧ r.reportTimeout ≤ 500 ∧ r.flags ≤ 1 ∧ leAt b 0x24 28 = 0 ∧ mo + 16 * r.groupSize ≤ b.length ∧
    ho + 16 * nh ≤ b.length) &&
  ((List.range r.groupSize).all fun i => decide (leAt b (mo + 16 * i + 10) 6 = 0)) &&
  ((List.range nh).all fun i => decide (leAt b (ho + 16 * i + 3) 1 = 0 ∧ leAt b (ho + 16 * i + 6) 2 = 0 ∧
    leAt b (ho + 16 * i + 12) 4 = 0 ∧ leAt b (ho + 16 * i) 1 < r.groupSize ∧ leAt b (ho + 16 * i + 8) 4 ≤ 65536 ∧
    (leAt b (ho + 16 * i + 8) 4 = 0 ∨ leAt b (ho + 16 * i + 2) 1 ≠ 0)))

/-- Reserved fields and formats of the tensor list. -/
def tensorListOk (b : List Byte) : Bool :=
  (List.range (b.length / 32)).all fun i => decide (leAt b (32 * i) 4 < 2 ^ 17 ∧ leAt b (32 * i + 5) 3 = 0 ∧
    leAt b (32 * i + 12) 4 = 0 ∧ leAt b (32 * i + 24) 8 = 0) && fmtKnown (leAt b (32 * i + 4) 1)

/-! ### Formes (R304, R305, R319) -/

/-- The sorts of segment entry `k`. -/
def segmentOf (b : List Byte) (k : Nat) : List (List Byte) :=
  let at_ := leAt b 0x28 4 + 8 * k
  (List.range (leAt b (at_ + 4) 4)).map fun j => (b.drop (leAt b at_ 4 + 64 * j)).take 64

/-- A forme and its vector map. -/
def formeOf (b vm : List Byte) : Forme where
  bucket := leAt b 0 1
  flags := leAt b 1 1
  dslots := leAt b 2 2
  pslots := leAt b 4 2
  chunk := leAt b 6 2
  maxProofs := leAt b 8 1
  kMax := leAt b 9 1
  dieSwaths := leAt b 0xA 2
  chRows := leAt b 0xC 2
  tokens := leAt b 0xE 2
  vectors := leAt b 0x10 4
  expectUs := leAt b 0x14 4
  limitUs := leAt b 0x18 4
  t0Scratch := leAt b 0x1C 4
  rqCredits := leAt b 0x20 1
  portCredits := leAt b 0x22 2
  segments := (List.range 264).filterMap fun k => if segmentOf b k = [] then none else some (k, segmentOf b k)
  vmap := (List.range (vm.length / 4)).map fun i => leAt vm (4 * i) 4

/-- Ranges and reserved fields of a FORME section and its VECTOR_MAP. -/
def formeOk (e : Nat) (b vm : List Byte) : Bool :=
  let f := formeOf b vm
  let so := leAt b 0x28 4
  decide (64 ≤ b.length ∧ f.bucket = e ∧ f.flags ≤ 1 ∧ f.dslots ≤ 256 ∧ f.pslots ≤ 64 ∧ 1 ≤ f.dslots + f.pslots ∧
    f.dslots + f.pslots ≤ 256 ∧ (f.pslots = 0 → f.chunk = 0) ∧ (f.pslots ≠ 0 → 64 ≤ f.chunk ∧ f.chunk ≤ 4096 ∧ f.chunk % 64 = 0) ∧
    f.maxProofs ≤ 63 ∧ 1 ≤ f.kMax ∧ f.kMax ≤ 65 ∧ (f.maxProofs + 64) / 64 + 1 ≤ f.kMax ∧ (f.pslots ≠ 0 → f.chunk / 64 + 1 ≤ f.kMax)) &&
  decide (1 ≤ f.dieSwaths ∧ f.dieSwaths ≤ 8192 ∧ 1 ≤ f.chRows ∧ f.chRows ≤ 8192 ∧ 1 ≤ f.tokens ∧ f.tokens ≤ 4096 ∧
    1 ≤ f.vectors ∧ f.vectors ≤ 16384 ∧ f.expectUs ≤ f.limitUs ∧ 1 ≤ f.rqCredits ∧ f.rqCredits ≤ 64 ∧ leAt b 0x24 4 = 0 ∧
    leAt b 0x2C 20 = 0 ∧ so + 8 * 264 ≤ b.length ∧ vm.length = 4 * f.vectors) &&
  ((List.range 264).all fun k => decide (leAt b (so + 8 * k + 4) 4 = 0 ∨ (leAt b (so + 8 * k + 4) 4 ≤ 2 ^ 24 ∧
    leAt b (so + 8 * k) 4 + 64 * leAt b (so + 8 * k + 4) 4 ≤ b.length))) &&
  f.vmap.all fun v => decide (v / 2 ^ 22 % 2 ^ 9 = 0)

/-! ### The whole container (Table 10.9) -/

/-- The imposition a container holds. -/
def impoOf (c : List Byte) (handle part : Nat) : ImpoSlot :=
  let ss := sectionsOf c
  let formes := (List.range (ofType ss 5).length).map fun e => formeOf (sectionAt ss 5 e) (sectionAt ss 6 e)
  let images := fun t => (List.range 256).filterMap fun i =>
    if sectionAt ss t i = [] then none else some (i, sectionAt ss t i)
  let sorts := (formes.map fun f => (f.segments.map fun x => x.2.length).foldl (· + ·) 0).foldl (· + ·) 0
  { state := 2, kind := leAt c 6 1, partition := part, handle := handle, impoId := word (leAt c 8 8)
    partnerId := word (leAt c 0x10 8), member := leAt c 0x1F 1, suspect := 0, generation := 0, tokenBase := 0
    bytes := 64 * sorts + 4 * (formes.map (·.vectors)).foldl (· + ·) 0 +
      ((ofType ss 3).map (·.len)).foldl (· + ·) 0 + 8192 * (ofType ss 4).length
    record := recordOf (sectionAt ss 1 0) (sectionAt ss 2 0), formes := formes, resident := images 3, bias := images 4 }

/-- TOP of a logical core under an imposition. -/
def ImpoSlot.top (x : ImpoSlot) (l : Nat) : Nat := (Map.get (fun _ => []) x.resident l).length

/-- Batch slots of a forme. -/
def Forme.slots (f : Forme) : Nat := f.dslots + f.pslots

/-- The check context of a segment. -/
def ImpoSlot.ctx (x : ImpoSlot) (f : Forme) (seg : Nat) : SortCtx :=
  ⟨seg, f.slots, x.record.heads.length, f.tokens, f.dieSwaths, x.record.groupSize, x.top⟩

/-- FORME_PARTITION: the partition, its cores and its bias tables. -/
def partitionOk (s : State) (c : List Byte) (x : ImpoSlot) (owner : Nat) : Bool :=
  decide (leAt c 0x1E 1 = owner) && (x.resident.all fun r => decide (logicalOwner s r.1 = owner)) &&
    (x.formes.all fun f => f.segments.all fun g => decide (256 ≤ g.1) || decide (logicalOwner s g.1 = owner)) &&
    x.bias.all fun t => decide (biasOwner s t.1 = owner)

/-- FORME_TENSOR: every listed tensor is in T1 as listed. -/
def tensorsOk (s : State) (x : ImpoSlot) : Bool := x.record.tensors.all fun t =>
  let g := s.tensor t.handle
  decide (t.handle ≠ 0 ∧ g.tier = 1 ∧ ¬ g.grouped ∧ g.owner = x.partition ∧ g.size = t.size ∧ g.t1map = t.t1map)

/-- The class-0 credit pool of the ports (R323): the smallest, in flits. -/
def class0Pool (s : State) : Nat :=
  ((List.range 6).map fun p => 64 * getFld s (Reg.fabCreditCfg p) 0 8 - 32).foldl min 16384

/-- FORME_RESOURCE: R323, and room for the SYSTEM copies. -/
def resourcesOk (s : State) (x : ImpoSlot) : Bool :=
  let nh := x.record.heads.length
  (x.formes.all fun f =>
    ((List.range 256).all fun l => decide (x.top l + f.t0Scratch ≤ 2 ^ 23)) && decide (f.slots * nh * f.kMax ≤ 16384) &&
      decide (f.portCredits ≤ class0Pool s) &&
      f.segments.all fun g => g.2.all fun b => decide (srtOp b ≠ 0x60 ∨ attendBase b + f.slots * nh ≤ f.tokens)) &&
    budgetsHold (x :: activeImpos s fun p => p ≠ x.partition) && systemFits s x.bytes

/-- FORME_SORT. -/
def sortsOk (x : ImpoSlot) : Bool := x.formes.all fun f =>
  let got := f.segments.foldl (fun m g => g.2.foldl (sortSignals (x.ctx f g.1)) m) []
  f.segments.all fun g => g.2.all (sortOk (x.ctx f g.1) got)

/-- FORME_PAIR: R302 against a loaded partner. -/
def pairOk (s : State) (x : ImpoSlot) : Bool :=
  let bare := fun (r : ImpoRecord) =>
    { r with swathLen := 0, flags := 0, heads := r.heads.map fun (h : ImpoHead) => { h with dieMask := 0 } }
  s.impos.all fun y => !(decide ((y.2.state = 2 ∨ y.2.state = 3) ∧ y.2.partition = x.partition ∧ x.partnerId ≠ 0 ∧
      y.2.impoId = x.partnerId)) ||
    (decide (y.2.partnerId = x.impoId ∧ y.2.kind ≠ x.kind) && decide (bare y.2.record = bare x.record))

/-- FORME_MEMBER: MEMBER names this device. -/
def memberOk (s : State) (x : ImpoSlot) : Bool := match x.record.members[x.member]? with
  | some (serial, coord) => decide (serial = s.colophon.serial ∧ coord = s.colophon.coord)
  | none => false

/-- The code of a load, 0 when the container is sound: checks in the order of Table 10.9. -/
def loadFormeCode (s : State) (k handle : Nat) : Nat :=
  let t := s.tensor handle
  let c := readExtent s t.t1map 0 t.size
  let ss := sectionsOf c
  let x := impoOf c handle t.owner
  if t.tier ≠ 1 ∨ t.grouped ∨ handle = 0 then 0x401
  else if !headerOk c then 0x401
  else if leAt c 4 2 / 256 ≠ 1 ∨ leAt c 4 2 % 256 ≠ 0 then 0x402
  else if leAt c 7 1 ≠ 0xB0 then 0x403
  else if extentPoisoned s t.t1map 0 t.size then 0x404
  else if !directoryOk c then 0x404
  else if !impositionOk (sectionAt ss 1 0) || !tensorListOk (sectionAt ss 2 0) ||
      !((List.range (ofType ss 5).length).all fun e => formeOk e (sectionAt ss 5 e) (sectionAt ss 6 e)) then 0x404
  else if !partitionOk s c x t.owner then 0x405
  else if !tensorsOk s x then 0x406
  else if !resourcesOk s x then 0x407
  else if !sortsOk x then 0x408
  else if !pairOk s x then 0x409
  else if (s.impo k).state ≠ 1 ∨ 2 ≤ (s.impos.filter fun y => y.2.state = 2 ∧ y.2.partition = t.owner).length then 0x40A
  else if !memberOk s x then 0x40B
  else 0

/-! ### GAL_FORME_CTRL (R335, R336) -/

/-- A write of GAL_FORME_CTRL with OP `op`: its fields are stored; with GO, and BUSY 0, the operation begins on its slot. -/
def formeOp (w : RegWrite) (op : Nat) (s : State) (act : State → Nat → State) : Result :=
  guarded (isReg w .gal3 0x100 && decide (fld w.val 32 3 = op)) <| serveWrite s w fun s p off key row =>
    let s1 := writePlain s p off key row w.val w.hwSet
    if !bit w.val 40 || getBit s1 Reg.galFormeStatus 0 then s1
    else
      let k := fld w.val 24 7
      act (putFld (putBit s1 Reg.galFormeStatus 0 true) Reg.galFormeStatus 8 7 k) k

/-- LOAD begins: an EMPTY slot is LOADING until FORME_DONE. -/
def execLoadForme (w : RegWrite) (s : State) : Result := formeOp w 1 s fun s k =>
  let x := s.impo k
  let s1 := { s with loader := some (k, getFld s Reg.galFormeCtrl 0 17) }
  if x.state = 0 then s1.setImpo k { x with state := 1 } else s1

/-- A LOAD ends (R324, R325): refused, leaving nothing behind, or the slot is READY. -/
def execFormeDone (s : State) : Result := .next <|
  match s.loader with
  | none => s
  | some (k, h) =>
    if halted s then s
    else
      let t := s.tensor h
      let code := loadFormeCode s k h
      let x := s.impo k
      let c := readExtent s t.t1map 0 t.size
      let s0 := { s with loader := none }
      if code = 0 then formeDone (s0.setImpo k { impoOf c h t.owner with generation := x.generation }) k 0
      else
        let s1 := if x.state = 1 then s0.setImpo k { x with state := 0 } else s0
        let n := if t.owner < 64 then t.owner else leAt c 0x1E 1 % 64
        formeDone (if code = 0x405 then hedgeViolation s1 n 4 h else s1) k code

/-- ACTIVATE takes effect, or is refused, at the next boundary; the lead of a group announces it and awaits the members' reports,
another member does not take it (R326, R327). -/
def execActivate (w : RegWrite) (s : State) : Result := formeOp w 2 s fun s k =>
  let s1 := { s with deferred := s.deferred ++ [.activate k] }
  if !isGroup s k then s1
  else if !isLead s k then formeDone s k 0x40C
  else if (s.impo k).state = 2 then sendAnnounce s1 k true
  else s1

/-- UNLOAD of an ACTIVE slot is refused (R328). -/
def execUnload (w : RegWrite) (s : State) : Result := formeOp w 3 s fun s k =>
  if (s.impo k).state = 3 then formeDone s k 0x40D
  else formeDone (if (s.impo k).state = 2 then dropSlot s k else s) k 0

/-- CLEAR_SUSPECT of a slot that is not ACTIVE completes with FORME_SLOT. -/
def execClearSuspect (w : RegWrite) (s : State) : Result := formeOp w 4 s fun s k =>
  let x := s.impo k
  if x.state = 3 then formeDone (s.setImpo k { x with suspect := 0 }) k 0 else formeDone s k 0x40A

end Sys2Proof.Machine
end

