-- ==== Sys2Proof/Machine/SortRun.lean ====
section
/-!
DEFINITION. How an engine runs a sort (R207, R312 to R315): the next sort of the engine, its waits, its refusal (R119, R332), its
signal; reads and writes of T0 and of tensor space by sorts; the sorts that copy (R307, R311).
-/
namespace Sys2Proof.Machine

/-! ### The sort an engine runs next -/

/-- A sort about to run: the pick and forme it belongs to, its segment entry, engine, index in the segment, and 64 bytes. -/
structure RunSort where
  pick : PartPick
  forme : Forme
  seg : Nat
  engine : Nat
  index : Nat
  bytes : List Byte
  deriving DecidableEq, Repr

/-- The die of a segment entry. -/
def RunSort.die (r : RunSort) : Nat := if r.seg < 256 then r.seg / 32 else r.seg - 256

/-- The key of the engine's next sort index; `c`: the channel of a builder. -/
def RunSort.pcKey (r : RunSort) (c : Nat) : Nat := if r.seg < 256 then enginePc r.seg r.engine else builderPc r.die c

/-- The pick whose forme gives a segment entry a sort. -/
def segmentPick (s : State) (seg : Nat) : Option (PartPick × Forme) :=
  s.steps.current.findSome? fun p => match (s.impo p.impo).forme p.bucket with
    | some f => if f.segment seg = [] then none else some (p, f)
    | none => none

/-- The physical core under a sort. -/
def RunSort.phys (s : State) (r : RunSort) : Option Nat := coreOf s r.die (r.seg % 32)

/-- A wait is satisfied: threshold 0, or the counter has reached it. -/
def waitMet (s : State) (r : RunSort) (w : Nat × Nat) : Bool :=
  decide (w.2 = 0 ∨ w.2 ≤ tokenOf s r.die ((s.impo r.pick.impo).tokenBase + w.1))

/-- The next sort of an engine, when a step runs, the engine is not halted, and the sort's tokens are satisfied. -/
def nextRun (s : State) (seg engine c : Nat) : Option RunSort :=
  if !s.steps.running || halted s then none
  else match segmentPick s seg with
    | none => none
    | some (p, f) =>
      let key := if seg < 256 then enginePc seg engine else builderPc (seg - 256) c
      match nextSort (f.segment seg) engine (Map.get zeroAt s.steps.pcs key) with
      | none => none
      | some i =>
        let r : RunSort := ⟨p, f, seg, engine, i, (f.segment seg).getD i []⟩
        if waitMet s r (srtWait r.bytes 0) && waitMet s r (srtWait r.bytes 1) then some r else none

/-- The batch slot that a slot-relative sort names. -/
def RunSort.slot (r : RunSort) : Option Slot :=
  if srtSlotRel r.bytes then (r.pick.slots.getD (srtSlot r.bytes) none) else none

/-! ### Signals (R312 to R314) -/

/-- The SIGNAL word of a sort as a message carries it. -/
def signalWord (b : List Byte) : Nat := srtSignal b % 2 ^ 23

/-- Send a class 0 message to another member of the imposition. -/
def sendPeer (s : State) (p : PartPick) (m op : Nat) (target : Word) (content : List Byte) : State :=
  (sendMsg s (sliceOf s p.part) 0 op (memberCoord s p.impo m) false target content).2

/-- The signal of a sort. -/
def sortSignal (s : State) (p : PartPick) (b : List Byte) : State :=
  if !sigEn b then s
  else if sigRemote b then sendPeer s p (sigMember b) 0x02 (word (signalWord b * 2 ^ 32)) []
  else signalToken s (sigDie b) ((s.impo p.impo).tokenBase + sigToken b)

/-- The engine goes on past a sort. -/
def advance (s : State) (r : RunSort) (c : Nat) : State :=
  { s with steps := { s.steps with pcs := Map.set zeroAt s.steps.pcs (r.pcKey c) (r.index + 1) } }

/-- The record of a sort that begins or ends: kind 1 or 2, the core's number or a builder's channel (R510, Table 15.5). -/
def traceSort (s : State) (r : RunSort) (kind unit : Nat) : State :=
  let req := match r.slot with
    | some sl => reqField sl.req
    | none => 0
  trace s r.die { TraceRec.blank 0 with
    kind := kind, unit := unit, engine := r.engine, opcode := srtOp r.bytes, part := r.pick.part, req := req, index := r.index,
    step := stepField s }

/-- A sort completes on its core: counted, traced, signalled (R237, R313). -/
def completeSort (s : State) (r : RunSort) : State :=
  let s1 := match r.phys s with
    | some p => if r.seg < 256 then count s (Reg.coreSorts r.die p) 1 else s
    | none => s
  sortSignal (traceSort s1 r 2 (if r.seg < 256 then r.seg % 32 else 0xFF)) r.pick r.bytes

/-- A sort whose writes have all taken effect: the engine goes on and the sort completes. -/
def finishSort (s : State) (r : RunSort) : State := completeSort (advance s r 0) r

/-! ### Refused sorts (R119, R332) -/

/-- A refused access or a malformed sort: captured, counted as a hedgerow violation where it crosses one; the step is abandoned for
good and the bucket is SUSPECT at once. -/
def refuseSort (s : State) (r : RunSort) (hedge : Bool) (addr : Nat) : State :=
  let core := if r.seg < 256 then r.seg else 0xFF
  let s1 := capture s Reg.galBlk 0x0410 r.die r.pick.part addr (core + r.engine * 2 ^ 8 + r.index % 2 ^ 32 * 2 ^ 16)
  let s2 := if hedge then hedgeViolation s1 r.pick.part 2 addr else s1
  markSuspect (abandonWith s2 .none) r.pick.impo r.pick.bucket

/-- Poisoned data reaches a sort (R135): the tensor is handled for its owner, and the step produces no tokens. -/
def poisonSort (s : State) (da : Nat) : State :=
  let s1 := poisonedAccess s da
  if s1.steps.running then abandonWith s1 .normal else s1

/-- Run a sort of an opcode on an engine of a logical core: nothing while none is due; a malformed one is refused. -/
def runSort (s : State) (core engine op : Nat) (act : State → RunSort → State) : State := match nextRun s core engine 0 with
  | none => s
  | some r =>
    if srtOp r.bytes ≠ op then s
    else if sortShape r.seg r.bytes && operandsOk ((s.impo r.pick.impo).ctx r.forme r.seg) r.bytes then act (traceSort s r 1 (core % 32)) r
    else refuseSort s r false 0

/-! ### T0 and tensor space -/

/-- T0 of logical core 32d + n. -/
def t0Read (s : State) (l off n : Nat) : List Byte := readT0 s (l / 32) (l % 32) off n
def t0Write (s : State) (l off : Nat) (bs : List Byte) : State := writeT0 s (l / 32) (l % 32) off bs

/-- The first poisoned sector of a range of an EXTENT tensor. -/
def poisonedIn (s : State) (m : Word) (off n : Nat) : Option Nat :=
  ((List.range ((off % 64 + n + 63) / 64)).map fun i => extentDa m (off / 64 * 64 + 64 * i)).find? (sectorPoisoned s)

/-- Read `n` bytes of tensor space for a sort and go on with them; a refusal or poison ends the attempt. -/
def tensorRead (s : State) (r : RunSort) (addr n : Nat) (k : List Byte → State) : State :=
  match tensorAccess s (some r.pick.part) addr n with
  | .error e => refuseSort s r (decide (e = .hedgerow)) addr
  | .ok (m, off) => match poisonedIn s m off n with
    | some da => poisonSort s da
    | none => k (readExtent s m off n)

/-- Write bytes to one sector of T1: a full write, or a partial one. -/
def sectorStore (s : State) (da : Nat) (bs : List Byte) : State :=
  if bs.length = 64 then dataWrite s da bs else partialWrite s da 0 bs

/-- Bytes cut at the multiples of 64 of their address: offset from the start, and piece. -/
def sectorPieces : Nat → Nat → Nat → List Byte → List (Nat × List Byte)
  | 0, _, _, _ => []
  | fuel + 1, at_, done, bs =>
    if bs = [] then []
    else
      let n := 64 - (at_ + done) % 64
      (done, bs.take n) :: sectorPieces fuel at_ (done + n) (bs.drop n)

/-- Write bytes to an EXTENT tensor, sector by sector. -/
def storeExtent (s : State) (m : Word) (off : Nat) (bs : List Byte) : State :=
  (sectorPieces (bs.length / 64 + 2) off 0 bs).foldl (fun s x => sectorStore s (extentDa m (off + x.1)) x.2) s

/-- Write bytes to tensor space for a sort and go on. -/
def tensorWrite (s : State) (r : RunSort) (addr : Nat) (bs : List Byte) (k : State → State) : State :=
  match tensorAccess s (some r.pick.part) addr bs.length with
  | .error e => refuseSort s r (decide (e = .hedgerow)) addr
  | .ok (m, off) =>
    let s1 := storeExtent s m off bs
    if s1.steps.running then k s1 else s1

/-! ### NOP, STREAM, FETCH, STORE, COPY, SEND -/

def execNopSort (unit : Fin 256) (engine : Fin 6) (s : State) : Result :=
  guarded (decide (engine.val = 5 → unit.val < 128)) <|
    if engine.val < 5 then runSort s unit.val engine.val 0 finishSort
    else match nextRun s (256 + unit.val / 16) 5 (unit.val % 16) with
      | none => s
      | some r =>
        if srtOp r.bytes ≠ 0 then s
        else if !sortShape r.seg r.bytes then refuseSort s r false 0
        else
          let c := unit.val % 16
          let s1 := advance (traceSort s r 1 c) r c
          let last := (List.range 16).all fun c' => r.index < Map.get zeroAt s1.steps.pcs (r.pcKey c')
          if last then completeSort s1 r else s1

/-- Tile `i` of a STREAM: its tensor-space address. -/
def streamAddr (b : List Byte) (i : Nat) : Nat := srtTs b 0x10 + i * leAt b 0x1C 4

/-- Read the tiles of a STREAM one after the other into the stream of the IN engine. -/
def streamTiles (r : RunSort) (d p : Nat) : List Nat → State → State
  | [], s => finishSort s r
  | i :: rest, s =>
    let fmt := leAt r.bytes 0x1A 1 % 32
    let a := streamAddr r.bytes i
    tensorRead s r a (tileBytes fmt) fun bs =>
      let c := s.core d p
      streamTiles r d p rest (s.setCore d p { c with stream := c.stream ++ [⟨fmt, a, bs⟩] })

def execStreamSort (core : Fin 256) (s : State) : Result := .next <|
  runSort s core.val 0 0x10 fun s r => match r.phys s with
    | none => s
    | some p => streamTiles r r.die p (List.range (leAt r.bytes 0x18 2)) s

def execFetchSort (core : Fin 256) (s : State) : Result := .next <|
  runSort s core.val 0 0x11 fun s r =>
    tensorRead s r (srtTs r.bytes 0x10) (leAt r.bytes 0x1C 4) fun bs =>
      finishSort (t0Write s core.val (srtT0 r.bytes 0x18) bs) r

def execStoreSort (core : Fin 256) (s : State) : Result := .next <|
  runSort s core.val 4 0x50 fun s r =>
    tensorWrite s r (srtTs r.bytes 0x18) (t0Read s core.val (srtT0 r.bytes 0x10) (leAt r.bytes 0x20 4)) fun s => finishSort s r

def execCopySort (core : Fin 256) (s : State) : Result := .next <|
  runSort s core.val 4 0x51 fun s r =>
    finishSort (t0Write s (leAt r.bytes 0x14 1) (srtT0 r.bytes 0x18) (t0Read s core.val (srtT0 r.bytes 0x10) (leAt r.bytes 0x1C 4))) r

/-- The bytes are a device's partial result, a record of R293. -/
def isPartial (bs : List Byte) : Bool := decide (96 ≤ bs.length ∧ leAt bs 0 1 = 0x83 ∧ leAt bs 4 2 = bs.length)

/-- The data of a SEND in messages of at most 16,368 bytes; the last carries the SIGNAL word, applied behind the data (R314). -/
def sendPieces (s : State) (r : RunSort) (core off : Nat) (bs : List Byte) : State :=
  let b := r.bytes
  let op := if isPartial bs then 0x03 else 0x01
  let n := (bs.length + 16367) / 16368
  ((chunksOf 16368 bs).zipIdx).foldl (fun s (x, i) =>
    let sig := if i + 1 = n then signalWord b else 0
    sendPeer s r.pick (leAt b 0x14 1) op (word (core + (off + 16368 * i) % 2 ^ 23 * 2 ^ 8 + sig * 2 ^ 32)) x) s

/-- A SEND signals at the member it writes when its SIGNAL is REMOTE there, with its data; else like any sort. -/
def execSendSort (core : Fin 256) (s : State) : Result := .next <|
  runSort s core.val 4 0x52 fun s r =>
    let b := r.bytes
    let bs := t0Read s core.val (srtT0 b 0x10) (leAt b 0x1C 4)
    let rides := sigEn b && sigRemote b && decide (sigMember b = leAt b 0x14 1) && decide (bs ≠ [])
    let quiet := { r with bytes := b.take 0xC ++ List.replicate 4 0 ++ b.drop 0x10 }
    let s1 := sendPieces s (if rides then r else quiet) (leAt b 0x15 1) (srtT0 b 0x18) bs
    finishSort s1 (if rides then quiet else r)

end Sys2Proof.Machine
end

