-- ==== Sys2Proof/Machine/ArrayOps.lean ====
section
/-!
DEFINITION. The array of a core: weight expansion (R214 to R218), the sum of one output element (R209, R243 to R247), overflow and
scaled replay (R250, R251), slot storage (R240 to R242).
-/
namespace Sys2Proof.Machine

/-! ### Weights -/

/-- A column of a weight tile: the 64 operands that the expander makes, and the exponent of the block scale; `bad`: the block pair
is expanded as zero, with E and whether an element is invalid. -/
structure WColumn where
  ws : List Fp
  scale : Int
  bad : Option (Nat × Bool)

/-- Column `n` of a tile: block pair n of a WF tile (R215, R216), else the n-th run of 64 elements (DEDUCED, log 50). -/
def weightColumn (t : WTile) (n : Nat) : WColumn := match wfElem t.fmt with
  | some f =>
    let bp := (t.bytes.drop (n * wfPair t.fmt)).take (wfPair t.fmt)
    let e := leAt bp 0 1
    let field := ofLe (bp.drop 2)
    let elems := (List.range 64).map fun i => f.decode (packedElem (wfWidth t.fmt) field i)
    let invalid := elems.any fun x => !x.isFin
    if e = 0xFF ∨ invalid then ⟨List.replicate 64 .zero, 0, some (e, invalid)⟩
    else ⟨(elems.zipIdx).map fun (x, i) => x.shift (-((leAt bp 1 1 / 4 ^ (i / 16) % 4 : Nat) : Int)), (e : Int) - 127, none⟩
  | none =>
    let w := fmtBytes t.fmt
    ⟨(List.range 64).map fun k => decodeElem t.fmt (leAt t.bytes ((64 * n + k) * w) w), 0, none⟩

/-! ### One scaled sum (R243) -/

/-- A value on its way through the array, whether a step produced an infinity from finite inputs, and whether an operand was NaN or
infinite. -/
structure Flagged where
  v : Fp
  overflow : Bool
  bad : Bool

/-- A sum in FP32 of two values. -/
def Flagged.add (a b : Flagged) : Flagged :=
  let z := add32 a.v b.v
  ⟨z, a.overflow || b.overflow || (z.isInf && a.v.isFin && b.v.isFin), a.bad || b.bad⟩

/-- One product. -/
def product (a w : Fp) : Flagged :=
  let z := mul32 a w
  ⟨z, z.isInf && a.isFin && w.isFin, !a.isFin || !w.isFin⟩

/-- The tree sum of the products of a vector with a column, INT8 exactly (R209, R543). -/
def rowTree (int8 : Bool) (act ws : List Fp) : Flagged :=
  if int8 then ⟨fp32.round ((List.zipWith Fp.mul act ws).foldl Fp.add .zero), false, false⟩
  else (treeFold Flagged.add 7 (List.zipWith product act ws)).getD ⟨.zero, false, false⟩

/-- Multiply by a power of two, rounding only outside the normal range. -/
def Flagged.scale (x : Flagged) (k : Int) : Flagged :=
  let z := fp32.round (x.v.shift k)
  ⟨z, x.overflow || (z.isInf && x.v.isFin), x.bad⟩

/-! ### Accumulation (R244 to R246) -/

/-- The seed of a cell (R246). -/
def seedCell (step : Word) (index cell : Nat) : Nat :=
  let m := 2 ^ 32
  let x := fld step 0 32 ^^^ fld step 32 32 ^^^ (index * 0x9E3779B9 % m) ^^^ ((cell + 1) * 0x85EBCA6B % m)
  if x = 0 then 0x5A250001 else x

/-- The next state of a cell's generator; its r16 is [31:16] of that. -/
def nextCell (x : Nat) : Nat :=
  let a := x ^^^ (x * 2 ^ 13 % 2 ^ 32)
  let b := a ^^^ (a / 2 ^ 17)
  b ^^^ (b * 2 ^ 5 % 2 ^ 32)

/-- An accumulator element. -/
structure Elem where
  acc : Fp
  overflow : Bool
  bad : Bool

/-- Add a scaled sum in FP32 mode. -/
def Elem.add32 (x : Elem) (y : Flagged) : Elem :=
  let z := Sys2Proof.Machine.add32 x.acc y.v
  ⟨z, x.overflow || y.overflow || (z.isInf && x.acc.isFin && y.v.isFin), x.bad || y.bad⟩

/-- Add a scaled sum in BF16 mode, with the cell's generator. -/
def Elem.add16 (x : Elem) (y : Flagged) (rng : Nat) : Elem × Nat :=
  let z := Sys2Proof.Machine.add32 x.acc y.v
  let overflow := x.overflow || y.overflow || (z.isInf && x.acc.isFin && y.v.isFin)
  if !z.isFin then (⟨bf16.decode (fp32.encode z / 2 ^ 16), overflow, x.bad || y.bad⟩, rng)
  else
    let r := nextCell rng
    let code := fp32.encode z
    let up := decide (r / 2 ^ 16 < code % 2 ^ 16)
    let w := bf16.decode (code / 2 ^ 16 + b2n up)
    (⟨w, overflow || w.isInf, x.bad || y.bad⟩, r)

/-! ### Preload (R247) -/

/-- A preloaded element, scaled for replay `r`; `v`: the operand read. -/
def preElem (mode r : Nat) (v : Fp) : Elem :=
  let x := fp32.round (v.shift (-(8 * r : Nat)))
  ⟨if mode = 0 then x else bf16.round x, false, !v.isFin⟩

/-- The operand of element (n, b). -/
def preOperand (s : State) (l : Nat) (b : List Byte) (bb n vec : Nat) : Fp :=
  let pre := leAt b 0x16 1 / 8 % 4
  let fmt := leAt b 0x20 4 / 2 ^ 23 % 32
  let w := fmtBytes fmt
  let at_ := fun (i : Nat) => decodeElem fmt (ofLe (t0Read s l (srtT0 b 0x20 + i * w) w))
  if pre = 1 then at_ n else if pre = 2 then (if vec < bb then at_ (64 * vec + n) else .zero) else .zero

/-! ### A pass of an ARRAY sort -/

/-- What an ARRAY sort works on: shape, mode, group, index, its tiles, its activations by tile and vector, the step number. -/
structure ArrayJob where
  b : Nat
  mode : Nat
  group : Nat
  index : Nat
  int8 : Bool
  tiles : List WTile
  acts : List (List (List Fp))
  step : Word

/-- The row of the cell that holds element b of the group (R240). -/
def ArrayJob.row (j : ArrayJob) (vec : Nat) : Nat := (j.group * j.b + vec) * accBytes j.mode / 16

/-- Add the sums of one weight tile to the elements of a column, in ascending b. -/
def tileColumn (j : ArrayJob) (r : Nat) (c : WColumn) : List (List Fp) → List Elem → Nat → Map Nat → List Elem × Map Nat
  | a :: as, x :: xs, vec, rng =>
    let y := (rowTree j.int8 a c.ws).scale (c.scale - (8 * r : Nat))
    let row := j.row vec
    let (x', rng') := if j.mode = 0 then (x.add32 y, rng)
      else let (z, g) := x.add16 y (Map.get (fun _ => 0) rng row); (z, Map.put rng row g)
    let (rest, out) := tileColumn j r c as xs (vec + 1) rng'
    (x' :: rest, out)
  | _, xs, _, rng => (xs, rng)

/-- Column `n` after all tiles of a pass, from its preloaded elements. -/
def passColumn (j : ArrayJob) (r n : Nat) (start : List Elem) : List Elem :=
  let seeds : Map Nat := (List.range 64).map fun row => (row, seedCell j.step j.index (64 * row + n))
  ((j.tiles.zip j.acts).foldl (fun (acc : List Elem × Map Nat) (t, as) =>
    tileColumn j r (weightColumn t n) as acc.1 0 acc.2) (start, seeds)).1

/-- A pass with replay count `r`: the elements (n, b) in order n × B + b; `pre` gives the preload operands. -/
def arrayPass (j : ArrayJob) (pre : Nat → Nat → Fp) (r : Nat) : List Elem :=
  (List.range 64).flatMap fun n =>
    passColumn j r n ((List.range j.b).map fun vec => preElem j.mode r (pre n vec))

/-- Passes from replay count `r` on, at most `fuel` more (R251): the elements and the last replay count. -/
def arrayPasses (j : ArrayJob) (pre : Nat → Nat → Fp) : Nat → Nat → List Elem × Nat
  | 0, r => (arrayPass j pre r, r)
  | fuel + 1, r =>
    let xs := arrayPass j pre r
    if xs.any (·.overflow) then arrayPasses j pre fuel (r + 1) else (xs, r)

/-- What stays in a slot after the last pass. -/
def Elem.settled (mode : Nat) (x : Elem) : Fp :=
  if x.overflow then (if mode = 0 then fp32 else bf16).maxOf x.acc.isNeg else x.acc

/-! ### Slot storage (R242) -/

/-- The byte range of a slot group in every column. -/
def AccTile.lo (t : AccTile) : Nat := t.group * t.b * accBytes t.mode
def AccTile.hi (t : AccTile) : Nat := (t.group + 1) * t.b * accBytes t.mode

/-- A group overlaps a busy one. -/
def groupBusy (c : CoreState) (lo hi : Nat) : Bool := c.tiles.any fun t => decide (t.lo < hi ∧ lo < t.hi)

/-! ### MATMUL -/

/-- The weight tiles of a sort: of the stream, or in T0; none while the stream has not brought them all (R210). -/
def matmulTiles (s : State) (core : Nat) (c : CoreState) (b : List Byte) : Option (List WTile × List WTile) :=
  let k := leAt b 0x18 2
  let fmt := leAt b 0x15 1
  if leAt b 0x24 1 = 1 then
    some ((List.range k).map fun i => ⟨fmt, 0, t0Read s core (srtT0 b 0x28 + i * tileBytes fmt) (tileBytes fmt)⟩, c.stream)
  else if c.stream.length < k then none else some (c.stream.take k, c.stream.drop k)

/-- The activations of block `t`, vector by vector. -/
def actBlock (s : State) (core : Nat) (b : List Byte) (bb t : Nat) : List (List Fp) :=
  let fmt := leAt b 0x14 1
  let w := fmtBytes fmt
  let base := srtT0 b 0x10 + t * srtT0 b 0x1C
  (List.range bb).map fun v => (List.range 64).map fun k => decodeElem fmt (ofLe (t0Read s core (base + (64 * v + k) * w) w))

/-- Block pairs expanded as zero: counted for every pass, the first captured, cause WF_BAD (R218). -/
def countBad (s : State) (d p passes : Nat) (tiles : List WTile) : State :=
  tiles.foldl (fun s t => (List.range 64).foldl (fun s n => match (weightColumn t n).bad with
    | none => s
    | some (e, inv) =>
      let s1 := count s (Reg.coreWfBad d p) passes
      setCause (coreCapture s1 d p 0x0304 0 (if t.addr = 0 then 0 else t.addr + n * wfPair t.fmt) (e + b2n inv * 2 ^ 8))
        (Reg.coreBlk d (p / 2)) 17) s) s

/-- Replays of a core: REPLAY_MAX in force (R267). -/
def replayMax (s : State) (d p : Nat) : Nat := fld (inForceReg s (Reg.coreAccCfg d p)) 0 2

/-- An ARRAY sort on physical core `p`. -/
def runMatmul (s : State) (r : RunSort) (p : Nat) : State :=
  let b := r.bytes
  let d := r.die
  let sh := leAt b 0x16 1
  let mode := shapeMode sh
  let bb := shapeB sh
  let g := leAt b 0x17 1 % 64
  let c := s.core d p
  match (if groupBusy c (g * bb * accBytes mode) ((g + 1) * bb * accBytes mode) then none else matmulTiles s r.seg c b) with
  | none => s
  | some (tiles, rest) =>
    let acts := (List.range tiles.length).map (actBlock s r.seg b bb)
    let j : ArrayJob := ⟨bb, mode, g, r.index, decide (leAt b 0x14 1 = 2), tiles, acts, s.steps.num⟩
    let pre := preOperand s r.seg b bb
    let max_ := replayMax s d p
    let (xs, rep) := arrayPasses j pre max_ 0
    let first := decide (0 < rep) || xs.any (·.overflow)
    let t : AccTile := ⟨bb, mode, g, rep, r.index, xs.map fun x => fp32.encode (x.settled mode), xs.map (·.overflow)⟩
    let s1 := count (count (count s (Reg.coreTiles d p) (tiles.length * (rep + 1))) (Reg.coreAccOvfTiles d p) (b2n first))
      (Reg.coreAccReplays d p) rep
    let s2 := countBad s1 d p (rep + 1) tiles
    finishSort (s2.setCore d p { s2.core d p with tiles := (s2.core d p).tiles ++ [t], stream := rest }) r

def execMatmul (core : Fin 256) (s : State) : Result := .next <|
  runSort s core.val 1 0x20 fun s r => match r.phys s with
    | none => s
    | some p => runMatmul s r p

end Sys2Proof.Machine
end

