-- ==== Sys2Proof/Machine/NbuOps.lean ====
section
/-!
DEFINITION. Near-bank units: page jobs (R170 to R172), query sets (R168, R169), scores and the running state (R173 to R175),
records (R176, R177), aborted rows (R189, R190).
-/
namespace Sys2Proof.Machine

/-! ### Page jobs (Table 6.3) -/

def pjNbu (b : List Byte) : Nat := leAt b 1 1 % 64
def pjFlag (b : List Byte) (i : Nat) : Bool := (leAt b 2 1).testBit i
def pjFirst (b : List Byte) : Bool := pjFlag b 0
def pjLast (b : List Byte) : Bool := pjFlag b 1
def pjCausal (b : List Byte) : Bool := pjFlag b 2
def pjSet (b : List Byte) : Nat := b2n (pjFlag b 3)
def pjBf16 (b : List Byte) : Bool := pjFlag b 4
def pjFp16 (b : List Byte) : Bool := pjFlag b 5
def pjE5m2 (b : List Byte) : Bool := pjFlag b 6
def pjNoop (b : List Byte) : Bool := pjFlag b 7
def pjShape (b : List Byte) : Nat := leAt b 3 1 % 32
def pjQcount (b : List Byte) : Nat := pjShape b % 8 + 1
def pjDim (b : List Byte) : Nat := pjShape b / 8
def pjSlot (b : List Byte) : Nat := leAt b 4 2 % 2 ^ 10
def pjStride (b : List Byte) : Nat := leAt b 6 2 % 2 ^ 10
def pjPages (b : List Byte) : Nat := leAt b 8 1
def pjLastRows (b : List Byte) : Nat := leAt b 9 1 % 64 + 1
def pjBias (b : List Byte) : Nat := leAt b 0xA 1 % 16
def pjPart (b : List Byte) : Nat := leAt b 0xB 1 % 64
def pjPos (b : List Byte) : Nat := leAt b 0xC 4 % 2 ^ 22
def pjReq (b : List Byte) : Nat := leAt b 0x10 2 % 2 ^ 15
def pjLayer (b : List Byte) : Nat := leAt b 0x12 1 % 128
def pjHead (b : List Byte) : Nat := leAt b 0x13 1
def pjTag (b : List Byte) : Nat := leAt b 0x14 2 % 2 ^ 12
def pjCore (b : List Byte) : Nat := leAt b 0x16 1 % 32
def pjOff (b : List Byte) : Nat := leAt b 0x18 4 % 2 ^ 23

/-- Bits of a job that are not reserved. -/
def pjFields : List (Nat × Nat × Nat) :=
  [(0, 1, 0xFF), (1, 1, 0x3F), (2, 1, 0xFF), (3, 1, 0x1F), (4, 2, 0x3FF), (6, 2, 0x3FF), (8, 1, 0xFF), (9, 1, 0x3F), (0xA, 1, 0xF),
   (0xB, 1, 0x3F), (0xC, 4, 2 ^ 22 - 1), (0x10, 2, 0x7FFF), (0x12, 1, 0x7F), (0x13, 1, 0xFF), (0x14, 2, 0xFFF), (0x16, 1, 0x1F),
   (0x18, 4, t0Mask)]

/-- Bytes of the page data format: the format code of keys and values. -/
def pjFormat (b : List Byte) : Nat := if pjFp16 b then 4 else if pjE5m2 b then 1 else 0

/-- REQ, LAYER and KVHEAD. -/
def pjRow (b : List Byte) : Nat × Nat × Nat := (pjReq b, pjLayer b, pjHead b)

/-! ### Records (Table 6.4) -/

/-- FP32 code of −∞. -/
def negInf32 : Nat := 0xFF800000

/-- A record of a job: FLAGS, pages read, end position, m and l of the queries, the bytes of o. -/
def recordBytes (b : List Byte) (d c flags pages posEnd : Nat) (ms ls : List Nat) (o : List Byte) : List Byte :=
  leBytes 1 0x81 ++ leBytes 1 (pjNbu b) ++ leBytes 1 flags ++ leBytes 1 (pjShape b) ++ leBytes 2 (96 + o.length) ++
  leBytes 2 (pjTag b) ++ leBytes 2 (pjReq b) ++ leBytes 1 (pjLayer b) ++ leBytes 1 (pjHead b) ++ leBytes 1 (min 255 pages) ++
  leBytes 1 (pjPart b) ++ leBytes 2 (c + d * 16) ++ leBytes 4 posEnd ++ leBytes 12 0 ++
  ((List.range 8).flatMap fun q => leBytes 4 (ms.getD q negInf32)) ++ ((List.range 8).flatMap fun q => leBytes 4 (ls.getD q 0)) ++ o

/-- A record of 96 bytes, which carries the identity. -/
def identityRecord (b : List Byte) (d c flags pages posEnd : Nat) : List Byte := recordBytes b d c flags pages posEnd [] [] []

def recEmpty : Nat := 1
def recPoisoned : Nat := 4
def recNoop : Nat := 8
def recAborted : Nat := 16

/-- The counter that a job's TAG names: on the token base of its partition's imposition (R313). -/
def pjCounter (s : State) (b : List Byte) : Nat := tokenBase s (pjPart b) + pjTag b

/-- A record on its way to T0. -/
def outRec (s : State) (b : List Byte) (bytes : List Byte) : OutRec := ⟨pjCore b, pjOff b, pjCounter s b, bytes, false⟩

/-- A job begins or ends: kind 3 or 4 (R510, Table 15.5). -/
def traceJob (s : State) (d c kind part req aux : Nat) : State :=
  trace s (8 + d) { TraceRec.blank 0 with kind := kind, unit := c, part := part, req := reqField req, step := stepField s, aux := aux }

/-- AUX of a JOB_END: layer, key-value head, bank pair, pages read. -/
def jobAux (layer head pair pages : Nat) : Nat := layer % 128 + head % 256 * 2 ^ 8 + pair % 64 * 2 ^ 16 + pages % 256 * 2 ^ 24

/-- A record reaches T0 and its TAG is signalled there: the job with LAST ends. -/
def landRecord (s : State) (d : Nat) (r : OutRec) : State :=
  let b := r.bytes
  signalToken (traceJob (writeT0 s d r.core r.off b) d (leAt b 0xE 2 % 16) 4 (leAt b 0xD 1) (leAt b 8 2)
    (jobAux (leAt b 0xA 1) (leAt b 0xB 1) (leAt b 1 1) (leAt b 0xC 1))) d r.tag

/-- The controller completes a row itself with a record of 96 bytes. -/
def controllerRecord (s : State) (d c : Nat) (b : List Byte) (flags : Nat) : State :=
  landRecord s d (outRec s b (identityRecord b d c flags 0 0))

/-! ### The check of a job (R172) -/

/-- The query set a job names. -/
def Nbu.set (n : Nbu) (q : Nat) : QuerySet := if q = 0 then n.set0 else n.set1

/-- The owner byte of a bias table. -/
def tableOwner (s : State) (t : Nat) : Nat := getFld s (Reg.nbuBiasOwner 0 0 (t / 8)) (8 * (t % 8)) 8

/-- The reason of Table 6.11 why a job is refused; 0 when it passes. A NOOP job uses no set, no state and no table. -/
def jobReason (s : State) (n : Nbu) (b : List Byte) : Nat :=
  let q := n.set (pjSet b)
  if !reservedClear pjFields b then 1
  else if pjDim b = 3 ∨ (pjDim b = 2 ∧ pjFp16 b) ∨ (pjE5m2 b ∧ pjFp16 b) then 2
  else if 767 < pjSlot b + pjStride b * (pjPages b - 1) then 3
  else if (pjNoop b ∧ (!pjFirst b || !pjLast b || decide (pjPages b ≠ 0))) ∨ (¬ pjNoop b ∧ pjPages b = 0) then 4
  else if pjNoop b then 0
  else if q.part ≠ pjPart b ∨ q.qcount ≠ pjQcount b ∨ q.dim ≠ pjDim b ∨ q.empty then 5
  else if ¬ pjFirst b ∧ (n.prev.all fun p => pjRow p ≠ pjRow b ∨ pjSet p ≠ pjSet b ∨ pjShape p ≠ pjShape b ∨ pjLast p) then 6
  else if tableOwner s (pjBias b) ≠ pjPart b ∧ tableOwner s (pjBias b) ≠ 0xFE then 7
  else 0

/-- Block of the NBU_ page of a channel. -/
def nbuBlkOf (d c : Nat) : Nat := Reg.nbuBlk d (c / 8)

/-- A capture of an NBU_ page (R192). -/
def nbuCapture (s : State) (d c code part addr detail : Nat) : State := capture s (nbuBlkOf d c) code (c % 8) part addr detail

/-- A refused job: captured, its row ends with one ABORTED record; later jobs of the row are not sent. A job of another partition's
query set or table is a hedgerow violation. The slot's bucket becomes SUSPECT at the close (Table 10.10). -/
def refuseJob (s : State) (d c : Nat) (b : List Byte) (reason : Nat) : State :=
  let k := pjNbu b
  let n := s.nbu d c k
  let s1 := nbuCapture s d c 0x0206 (pjPart b) 0 (k + reason * 2 ^ 8 + pjReq b * 2 ^ 16)
  let foreign := reason = 7 ∨ (reason = 5 ∧ ¬ (n.set (pjSet b)).empty ∧ (n.set (pjSet b)).part ≠ pjPart b)
  let s2 := if foreign then hedgeViolation s1 (pjPart b) 3 0 else s1
  let s3 := s2.setNbu d c k { n with dropped := if pjLast b then none else some (pjReq b, pjLayer b, pjHead b, pjSet b) }
  let s4 := controllerRecord (count (count s3 (Reg.nbuAborts d (c / 8)) 1) Reg.galJobRefused 1) d c b (recEmpty + recAborted)
  onSlots s4 (pjPart b) (fun sl => sl.req = pjReq b) fun sl => { sl with flags := sl.flags ||| 2 ^ 16 }

/-! ### Marked rows (R189, R190) -/

/-- A record that ends an aborted or poisoned row. -/
def deadRecord (s : State) (d c : Nat) (b : List Byte) (n : Nbu) (flag : Nat) : OutRec :=
  outRec s b (identityRecord b d c (recEmpty + flag + b2n n.nan * 32) n.pages n.posEnd)

/-- Drop the queued jobs of the marked row; the first with LAST ends it. -/
def dropMarked (s : State) (d c : Nat) : Nat → Nbu → Nbu
  | 0, n => n
  | fuel + 1, n => match n.mark, n.jobs with
    | some (r, l, h, flag), b :: rest =>
      if pjRow b ≠ (r, l, h) then n
      else if pjLast b then { n with jobs := rest, mark := none, out := n.out ++ [deadRecord s d c b n flag] }
      else dropMarked s d c fuel { n with jobs := rest, freed := n.freed ++ [(b, 0)] }
    | _, _ => n

/-- The state of a row: pages read, end position, NaN seen, nothing yet. -/
def Nbu.restart (n : Nbu) : Nbu := { n with run := [], pages := 0, posEnd := 0, nan := false }

/-- The job in progress is dropped: its row ends with one record that carries `flag`, now when the job has LAST, else with the first
of its later jobs that has (R189, R190). -/
def stopJob (s : State) (d c : Nat) (n : Nbu) (flag : Nat) : Nbu := match n.jobs with
  | [] => { n with holds := false, page := 0 }
  | b :: rest =>
    let n1 := { n with jobs := rest, page := 0, holds := false, run := [] }
    if pjLast b then { n1 with out := n1.out ++ [deadRecord s d c b n flag], pages := 0, posEnd := 0, nan := false }
    else dropMarked s d c (rest.length + 1) { n1 with mark := some (pjReq b, pjLayer b, pjHead b, flag), freed := n1.freed ++ [(b, n.page)] }

/-! ### Query loads (R168, R169) -/

def qlSet (b : List Byte) : Nat := leAt b 1 1 % 2
def qlQcount (b : List Byte) : Nat := leAt b 1 1 / 2 % 8 + 1
def qlDim (b : List Byte) : Nat := leAt b 1 1 / 16 % 4
def qlMask (b : List Byte) : Nat := leAt b 0x10 8
def qlPos (b : List Byte) (q : Nat) : Nat := leAt b (0x20 + 4 * q) 4 % 2 ^ 22

/-- A QUERY_LOAD that is not sent: a reserved field, DIM, SCALE or V_SCALE out of range, positions more than 64 apart. -/
def loadMalformed (b : List Byte) : Bool :=
  let n := qlQcount b
  let ps := (List.range n).map (qlPos b)
  let sc := fp32.decode (leAt b 4 4)
  let fields := [(0, 1, 0xFF), (1, 1, 0x3F), (4, 4, 2 ^ 32 - 1), (8, 4, 2 ^ 32 - 1), (0xC, 1, 0x3F), (0x10, 8, 2 ^ 64 - 1)] ++
    (List.range n).map fun q => (0x20 + 4 * q, 4, 2 ^ 22 - 1)
  !reservedClear fields (b.take 64) || decide (qlDim b = 3) || !sc.isFin || sc.isZero || !(fp32.decode (leAt b 8 4)).isFin ||
    decide (ps.foldl min (2 ^ 22) + 64 < ps.foldl max 0)

/-- The set that a load brings. -/
def loadedSet (b : List Byte) : QuerySet :=
  let n := qlQcount b
  let dim := dimOf (qlDim b)
  ⟨false, n, qlDim b, leAt b 4 4, leAt b 8 4, leAt b 0xC 1 % 64, (List.range n).map (qlPos b),
    (List.range n).map fun q => (List.range dim).map fun i => leAt b (0x40 + 2 * (q * dim + i)) 2⟩

/-- Put a set into an NBU. -/
def Nbu.putSet (n : Nbu) (q : Nat) (x : QuerySet) : Nbu := if q = 0 then { n with set0 := x } else { n with set1 := x }

/-! ### One page (R173 to R175) -/

/-- The bias of a distance. -/
def biasOf (s : State) (t dist : Nat) : Fp := fp16.decode (Map.get zeroAt s.bias (4096 * t + min dist 4095))

/-- A page's key or value rows as decoded elements. -/
def pageRows (s : State) (da fmt dim rows : Nat) : List (List Fp) :=
  let e := kvBytes fmt
  (List.range rows).map fun r => (List.range dim).map fun i =>
    decodeElem fmt (ofLe (readT1 s (da + r * dim * e + i * e) e))

/-- A value element as used, and whether it was replaced (R174). -/
def valueElem (fmt : Nat) (x : Fp) : Fp × Bool := match x with
  | .nan => (.zero, true)
  | .inf n => (.fin n (if fmt = 4 then 65504 else 57344) 0, true)
  | y => (y, false)

/-- The score of one query and key: the score, and whether it was NaN. -/
def scoreOf (s : State) (b : List Byte) (set : QuerySet) (q pos : Nat) (k : List Fp) : Fp × Bool :=
  let dot := treeSum (List.zipWith mul32 ((set.q.getD q []).map bf16.decode) k)
  let x := mul32 (fp32.decode set.scale) dot
  let qp := set.qpos.getD q 0
  if pjCausal b ∧ qp < pos then (.negInf, x.isNan)
  else
    let y := add32 (sat32 x) (biasOf s (pjBias b) (if qp < pos then pos - qp else qp - pos))
    if x.isNan ∨ y.isNan then (.negInf, true) else (y, false)

/-- The new running state of a query after a page: scores and value rows in row order. -/
def runQuery (st : RunQuery) (scores : List Fp) (vs : List (List Fp)) : RunQuery :=
  let m := fp32.decode st.m
  let mNew := m.max (scores.foldl Fp.max .negInf)
  if mNew = .negInf then st
  else
    let c := expNeg (sub32 m mNew)
    let ps := scores.map fun x => expNeg (sub32 x mNew)
    let pSum := ps.foldl add32 .zero
    let dim := st.o.length
    let oPage := (ps.zip vs).foldl (fun (acc : List Fp) (p, v) => List.zipWith (fun a x => fma32 p x a) acc v) (List.replicate dim .zero)
    ⟨fp32.encode mNew, fp32.encode (fma32 (fp32.decode st.l) c pSum),
      List.zipWith (fun a x => fp32.encode (fma32 (fp32.decode a) c x)) st.o oPage⟩

/-- The identity state of the queries of a set. -/
def identityRun (set : QuerySet) : List RunQuery :=
  List.replicate set.qcount ⟨negInf32, 0, List.replicate (dimOf set.dim) 0⟩

/-- Device address of row 0 of page `i` of a job. -/
def jobPage (d c : Nat) (b : List Byte) (i : Nat) : Nat :=
  mkDa d c (pjNbu b * 0x1800000 + (pjSlot b + i * pjStride b) * 0x8000)

/-- Rows of page `i`. -/
def jobRows (b : List Byte) (i : Nat) : Nat := if i + 1 < pjPages b then 64 else pjLastRows b

/-- The state after page `i`, and the scores and elements replaced. -/
def runPage (s : State) (d c : Nat) (b : List Byte) (set : QuerySet) (st : List RunQuery) (i : Nat) : List RunQuery × Nat :=
  let fmt := pjFormat b
  let dim := dimOf (pjDim b)
  let rows := jobRows b i
  let da := jobPage d c b i
  let base := pjPos b + 64 * i
  let ks := pageRows s da fmt dim rows
  let vs := (pageRows s (da + 64 * dim * kvBytes fmt) fmt dim rows).map fun r => r.map (valueElem fmt)
  let scores := (List.range set.qcount).map fun q => (ks.zipIdx).map fun (k, r) => scoreOf s b set q (base + r) k
  let nans := (scores.map fun l => (l.filter (·.2)).length).foldl (· + ·) 0 + (vs.map fun l => (l.filter (·.2)).length).foldl (· + ·) 0
  let v := vs.map fun r => r.map (·.1)
  ((st.zip scores).map fun (x, sc) => runQuery x (sc.map (·.1)) v, nans)

/-- The sectors of page `i` that hold the rows read. -/
def pageSectors (d c : Nat) (b : List Byte) (i : Nat) : List Nat :=
  let rb := rowBytes (pjFormat b) (pjDim b)
  let n := (jobRows b i * rb + 63) / 64
  let da := jobPage d c b i
  ((List.range n).map fun j => da + 64 * j) ++ (List.range n).map fun j => da + 64 * rb + 64 * j

/-- The record of a job with LAST (R174, R176): o scaled, saturated, converted. -/
def liveRecord (s : State) (d c : Nat) (b : List Byte) (n : Nbu) : OutRec :=
  let set := n.set (pjSet b)
  let vScale := fp32.decode set.vScale
  let empty := n.run.all fun r => r.m = negInf32
  let conv := fun (x : Nat) =>
    let y := if empty then Fp.zero else sat32 (mul32 (fp32.decode x) vScale)
    if pjBf16 b then leBytes 2 (bf16.encode (bf16.roundSat y).1) else leBytes 4 (fp32.encode y)
  outRec s b (recordBytes b d c (b2n empty + b2n (pjBf16 b) * 2 + b2n n.nan * 32) n.pages n.posEnd (n.run.map (·.m)) (n.run.map (·.l))
    (n.run.flatMap fun r => r.o.flatMap conv))

/-- A job whose pages are done leaves the queue: with LAST its record enters the output buffer when that has room. -/
def finishJob (s : State) (d c : Nat) (n : Nbu) : Nbu := match n.jobs with
  | [] => n
  | b :: rest =>
    if n.page < pjPages b then n
    else if pjLast b then
      if 2 ≤ n.out.length then n
      else Nbu.restart { n with jobs := rest, page := 0, out := n.out ++ [liveRecord s d c b n] }
    else { n with jobs := rest, page := 0, freed := n.freed ++ [(b, n.page)] }

end Sys2Proof.Machine
end

