-- ==== Sys2Proof/Machine/Nbu.lean ====
section
/-!
DEFINITION. The commands of the near-bank units (chapter 6): transfers of the channel bus, pages, faults, map-outs, bias tables.
-/
namespace Sys2Proof.Machine

/-! ### The channel bus (R168 to R172, R180, R181) -/

/-- A transfer of the builder has gone. -/
def takeXfer (s : State) (d c : Nat) (bytes : List Byte) : State :=
  let x := s.chan d c
  s.setChan d c { x with xfers := x.xfers.erase bytes, failed := none }

/-- A fallow NBU ignores every transfer (R169). -/
def nbuUp (s : State) (d c k : Nat) : Bool := pairUp s d c k

/-- A queued job of the NBU names the set. -/
def setBusy (n : Nbu) (q : Nat) : Bool := n.jobs.any fun b => pjSet b = q

/-- Load a set into the NBUs of a mask. -/
def loadSets (s : State) (d c : Nat) (ks : List Nat) (q : Nat) (x : QuerySet) : State :=
  ks.foldl (fun s k => s.setNbu d c k ((s.nbu d c k).putSet q x)) s

/-- A malformed load: captured, and the set EMPTY in every NBU it names. -/
def refuseLoad (s : State) (d c : Nat) (b : List Byte) : State :=
  let ks := bitsOf 64 (qlMask b)
  nbuCapture (loadSets s d c ks (qlSet b) QuerySet.none) d c 0x0206 (leAt b 0xC 1 % 64) 0 (ks.headD 0 + 8 * 2 ^ 8)

def execQueryLoad (d : Fin 8) (c : Fin 16) (bytes : List Byte) (s : State) : Result :=
  guarded (decide (64 ≤ bytes.length ∧ leAt bytes 0 1 = 2 ∧ (qlDim bytes = 3 ∨ bytes.length = 64 + 2 * qlQcount bytes * dimOf (qlDim bytes)))) <|
    let ks := (bitsOf 64 (qlMask bytes)).filter (nbuUp s d.val c.val)
    if ks.any fun k => setBusy (s.nbu d.val c.val k) (qlSet bytes) then s
    else
      let s1 := takeXfer s d.val c.val bytes
      if loadMalformed bytes then refuseLoad s1 d.val c.val bytes
      else loadSets s1 d.val c.val ks (qlSet bytes) (loadedSet bytes)

/-- A job of a row of which a job was refused is not sent; the one with LAST ends that. A job with FIRST begins another row. -/
def rowDropped (n : Nbu) (b : List Byte) : Bool := !pjFirst b && decide (n.dropped = some (pjReq b, pjLayer b, pjHead b, pjSet b))

/-- A job is sent to its NBU: into its queue, or dropped with its marked row. -/
def sendJob (s : State) (d c : Nat) (b : List Byte) : State :=
  let k := pjNbu b
  let n := s.nbu d c k
  let n1 := { n with jobs := n.jobs ++ [b], prev := some b, dropped := none }
  let n2 := if n.jobs = [] then dropMarked s d c 1 n1 else n1
  s.setNbu d c k n2

/-- A page job at its controller: refused, completed as NOOP, ended with its failed unit, or sent. -/
def acceptJob (s : State) (d c : Nat) (b : List Byte) : State :=
  let k := pjNbu b
  let n := s.nbu d c k
  if rowDropped n b then s.setNbu d c k { n with dropped := if pjLast b then none else n.dropped }
  else
    let r := jobReason s n b
    if r ≠ 0 then refuseJob s d c b r
    else if pjNoop b then controllerRecord s d c b (recEmpty + recNoop)
    else if n.failed ∨ ¬ nbuUp s d c k then (if pjLast b then controllerRecord s d c b (recEmpty + recAborted) else s)
    else sendJob s d c b

def execPageJob (d : Fin 8) (c : Fin 16) (bytes : List Byte) (s : State) : Result :=
  guarded (decide (bytes.length = 32 ∧ leAt bytes 0 1 = 1)) <|
    let n := s.nbu d.val c.val (pjNbu bytes)
    if 4 ≤ n.jobs.length + n.freed.length ∧ ¬ pjNoop bytes then s
    else acceptJob (takeXfer s d.val c.val bytes) d.val c.val bytes

/-! ### Pages (R173, R183, R189) -/

/-- NBU_PAIR_BUSY follows the pair. -/
def holdPair (s : State) (d c k : Nat) (n : Nbu) (on : Bool) : State :=
  putBit (s.setNbu d c k { n with holds := on }) (Reg.nbuPairBusy d (c / 8) (c % 8)) k on

/-- The NBU takes its pair for the next page. -/
def startPage (s : State) (d c k : Nat) : State :=
  let n := s.nbu d c k
  match n.jobs with
  | [] => s
  | b :: _ =>
    if n.holds || n.hung || !nbuUp s d c k || decide (pjPages b ≤ n.page) then s
    else
      let n1 := if n.page = 0 ∧ pjFirst b then { n with run := identityRun (n.set (pjSet b)), pages := 0, posEnd := 0, nan := false } else n
      holdPair (if n.page = 0 then traceJob s d c 3 (pjPart b) (pjReq b) 0 else s) d c k n1 true

def execPageStart (d : Fin 8) (c : Fin 16) (k : Fin 64) (waited : Nat) (s : State) : Result := .next <|
  startPage (if waited = 0 then s else count s (Reg.nbuDutyWait d.val (c.val / 8)) waited) d.val c.val k.val

/-- Poison in a page: the job stops, its row ends POISONED, and the request follows R135. -/
def pagePoisoned (s : State) (d c k : Nat) (b : List Byte) (da : Nat) : State :=
  let n := s.nbu d c k
  let s1 := nbuCapture (setCause s (nbuBlkOf d c) 17) d c 0x0201 (pjPart b) (sectorAddr s da) (da % 2 ^ 38 + k * 2 ^ 40)
  let s2 := chCapture s1 da 0x0102 0
  poisonedRequest (holdPair s2 d c k (stopJob s d c n recPoisoned) false) (pjReq b) true

/-- A page is read to its end: the running state moves on, and a job whose last page this was ends. -/
def endPage (s : State) (d c k : Nat) (b : List Byte) : State :=
  let n := s.nbu d c k
  let (run, nans) := runPage s d c b (n.set (pjSet b)) n.run n.page
  let n1 := { n with
    run := run, page := n.page + 1, pages := n.pages + 1, nan := n.nan || decide (nans ≠ 0)
    posEnd := max n.posEnd (pjPos b + 64 * n.page + jobRows b n.page) }
  let s1 := count s (Reg.nbuPages d (c / 8)) 1
  let s2 := if nans = 0 then s1 else count s1 (Reg.nbuNanScores d (c / 8)) nans
  holdPair s2 d c k (dropMarked s d c (n1.jobs.length + 1) (finishJob s d c n1)) false

def execPageEnd (d : Fin 8) (c : Fin 16) (k : Fin 64) (s : State) : Result := .next <|
  let n := s.nbu d.val c.val k.val
  match n.jobs with
  | [] => s
  | b :: _ =>
    if !n.holds then s
    else match (pageSectors d.val c.val b n.page).find? (sectorPoisoned s) with
      | some da => pagePoisoned s d.val c.val k.val b da
      | none => endPage s d.val c.val k.val b

def execYieldWindowEnd (d : Fin 8) (c : Fin 16) (k : Fin 64) (s : State) : Result := .next <|
  startPage (count s (Reg.nbuYields d.val (c.val / 8)) 1) d.val c.val k.val

/-- Tier refreshes are counted; the tier of the pair is what BOOST_MAX shows (R187, R194). -/
def execRefresh (d : Fin 8) (c : Fin 16) (k : Fin 64) (tier : Fin 4) (boost : Bool) (s : State) : Result := .next <|
  let s1 := s.setNbu d.val c.val k.val { s.nbu d.val c.val k.val with tier := tier.val }
  if boost then count s1 (Reg.nbuBoostRefresh d.val (c.val / 8)) 1 else s1

/-! ### Records, STATUS and ACK (R171, R176, R181, R191) -/

def execPartialRecord (d : Fin 8) (c : Fin 16) (k : Fin 64) (s : State) : Result := .next <|
  let n := s.nbu d.val c.val k.val
  match n.out.find? fun r => !r.sent with
  | none => s
  | some r =>
    let s1 := s.setNbu d.val c.val k.val { n with out := n.out.map fun x => if x = r then { x with sent := true } else x }
    let dead := leAt r.bytes 2 1 / 4 % 2 = 1 ∨ leAt r.bytes 2 1 / 16 % 2 = 1
    let s2 := count s1 (Reg.nbuRecords d.val (c.val / 8)) 1
    landRecord (if dead then count s2 (Reg.nbuAborts d.val (c.val / 8)) 1 else s2) d.val r

def execBusStatus (d : Fin 8) (c : Fin 16) (k : Fin 64) (s : State) : Result := .next <|
  let n := s.nbu d.val c.val k.val
  match n.freed with
  | [] => s
  | (b, pages) :: rest =>
    traceJob (s.setNbu d.val c.val k.val { n with freed := rest }) d.val c.val 4 (pjPart b) (pjReq b)
      (jobAux (pjLayer b) (pjHead b) k.val pages)

/-- An ACK frees the output-buffer entry of a record that has crossed; a job that waited for it ends (R181). -/
def ackRecord (s : State) (d c k : Nat) : State :=
  let n := s.nbu d c k
  match n.out.find? (·.sent) with
  | none => s
  | some r =>
    let n1 := { n with out := n.out.erase r }
    s.setNbu d c k (dropMarked s d c (n1.jobs.length + 1) (finishJob s d c n1))

/-- Rows whose TAG has not been signalled: the jobs with LAST in the queues and waiting transfers of a channel. -/
def openRows (s : State) (d c : Nat) : List (List Byte) :=
  (List.range 64).flatMap (fun k => (s.nbu d c k).jobs.filter pjLast) ++
    (s.chan d c).xfers.filter fun b => decide (leAt b 0 1 = 1) && pjLast b

/-- A failed NBU: its pair is mapped out in drain form, or lost when its banks are unreadable too (R190). -/
def nbuFails (s : State) (d c k code : Nat) (lost : Bool) : State :=
  beginMapout (s.setNbu d c k { s.nbu d c k with failed := true }) d c (some k) lost 0 code true

/-- A transfer fails parity twice (R191): the bus has failed, every NBU of the channel fails, each open row ends ABORTED. -/
def busFails (s : State) (d c op : Nat) : State :=
  let rows := openRows s d c
  let s1 := nbuCapture (setCause s (nbuBlkOf d c) 18) d c 0x0205 0xFE 0 (op * 2 ^ 8)
  let kept := (List.range 64).flatMap fun k => (s.nbu d c k).out.filter fun r => !r.sent
  let s2 := (List.range 64).foldl (fun s k => s.setNbu d c k { (s.nbu d c k).cleared with set0 := QuerySet.none, set1 := QuerySet.none })
    (setReg s1 (Reg.nbuPairBusy d (c / 8) (c % 8)) 0)
  let s3 := s2.setChan d c { s2.chan d c with xfers := (s2.chan d c).xfers.filter fun b => leAt b 0 1 ≠ 1, failed := none }
  let s4 := rows.foldl (fun s b => controllerRecord (count s (Reg.nbuAborts d (c / 8)) 1) d c b (recEmpty + recAborted)) s3
  let aborted := fun (r : OutRec) => { r with
    bytes := (r.bytes.take 2 ++ leBytes 1 (recEmpty + recAborted) ++ (r.bytes.drop 3).take 1 ++ leBytes 2 96 ++ (r.bytes.drop 6).take 26) ++
      (List.range 8).flatMap (fun _ => leBytes 4 negInf32) ++ leBytes 32 0 }
  let s5 := kept.foldl (fun s r => landRecord (count s (Reg.nbuAborts d (c / 8)) 1) d (aborted r)) s4
  ((List.range 64).filter (nbuUp s d c)).foldl (fun s k => nbuFails s d c k 0x0205 false) s5

def execBusAck (d : Fin 8) (c : Fin 16) (k : Fin 64) (failed : Option (BitVec 8)) (s : State) : Result := .next <|
  match failed with
  | none => ackRecord (s.setChan d.val c.val { s.chan d.val c.val with failed := none }) d.val c.val k.val
  | some op =>
    let x := s.chan d.val c.val
    if x.failed = some op.toNat then busFails s d.val c.val op.toNat
    else
      let s1 := s.setChan d.val c.val { x with failed := some op.toNat }
      nbuCapture (count s1 (Reg.nbuBusRetry d.val (c.val / 8)) 1) d.val c.val 0x0204 0xFE 0 (op.toNat / 128 + op.toNat * 2 ^ 8)

/-! ### Faults (R190, R200) -/

/-- The partition of the job in progress. -/
def jobPart (n : Nbu) : Nat := match n.jobs with
  | b :: _ => pjPart b
  | [] => 0xFE

def execNbuParity (d : Fin 8) (c : Fin 16) (k : Fin 64) (unit : Nat) (s : State) : Result :=
  guarded (decide (1 ≤ unit ∧ unit ≤ 4)) <|
    if !nbuUp s d.val c.val k.val then s
    else
      let n := s.nbu d.val c.val k.val
      let s1 := nbuCapture (setCause s (nbuBlkOf d.val c.val) 16) d.val c.val 0x0202 (jobPart n) 0 (k.val + unit * 2 ^ 8)
      let n1 := { stopJob s d.val c.val n recAborted with parity := satAdd 15 n.parity 1 }
      let s2 := holdPair s1 d.val c.val k.val n1 false
      if getFld s (Reg.nbuCfg d.val (c.val / 8)) 16 8 ≤ n1.parity ∧ ¬ n1.failed then nbuFails s2 d.val c.val k.val 0x0202 false else s2

def execNbuHang (d : Fin 8) (c : Fin 16) (k : Fin 64) (lost : Bool) (s : State) : Result := .next <|
  let n := s.nbu d.val c.val k.val
  if !n.holds || !getBit s (Reg.nbuCfg d.val (c.val / 8)) 4 then s
  else
    let s1 := nbuCapture (setCause s (nbuBlkOf d.val c.val) 16) d.val c.val 0x0203 (jobPart n) 0 k.val
    let s2 := holdPair s1 d.val c.val k.val { stopJob s d.val c.val n recAborted with hung := true } false
    nbuFails s2 d.val c.val k.val 0x0203 lost

def execFaultWindowRestart (d : Fin 8) (g : Fin 2) (s : State) : Result := .next <|
  { s with nbus := Map.mapVals Nbu.fresh (fun k n => if k / 512 = 2 * d.val + g.val then { n with parity := 0 } else n) s.nbus }

/-! ### Registers (R196 to R198) -/

def execNbuMapout (w : RegWrite) (s : State) : Result :=
  guarded (isReg w .nbu 0x190) <| serveWrite s w fun s p _ _ _ =>
    if fld w.val 16 16 ≠ 0x5A25 then refuseAccess s w.access true [4]
    else if bit w.val 32 then
      beginMapout s (p.inst / 256) (8 * (p.inst % 256) + fld w.val 0 3) (some (fld w.val 3 6)) false 0 0xFF05 false
    else s

/-- The reason of Table 6.11 why a bias commit is refused: 1 a NaN or +∞ entry, 2 the owner; 0 accepted. -/
def biasReason (s : State) (who : Requester) (table : Nat) (vals : List Nat) : Nat :=
  if vals.any fun v => (fp16.decode v).isNan || decide (v = 0x7C00) then 1
  else match who.part with
    | some n => if tableOwner s table = n then 0 else 2
    | none => 0

/-- A commit of the latched chunk. -/
def commitBias (s : State) (who : Requester) (d g : Nat) (ws : List Word) : State :=
  let idx := latchedIndex s who (Reg.nbuBiasIndex d g)
  let table := fld idx 0 4
  let chunk := fld idx 4 6
  let vals := (List.range 64).map fun i => fld (ws.getD (i / 4) 0) (16 * (i % 4)) 16
  let r := Reg.nbuBiasCommit d g
  let why := biasReason s who table vals
  if why = 0 then
    { putBit (putBit s r 2 false) r 1 true with deferred := s.deferred ++ [.biasChunk table chunk vals] }
  else
    let s1 := capture (putBit s r 2 true) (Reg.nbuBlk d g) 0x0207 0 (who.part.getD 0xFE) 0 (table + chunk * 2 ^ 4 + why * 2 ^ 12)
    match who.part, why with
    | some n, 2 => hedgeViolation s1 n 3 table
    | _, _ => s1

def execNbuBiasCommit (w : RegWrite) (s : State) : Result :=
  guarded (isReg w .nbu 0x220) <| serveWrite s w fun s p _ _ _ =>
    let d := p.inst / 256
    let g := p.inst % 256
    if bit w.val 0 then commitBias s w.who d g (getLatch s w.who (Reg.nbuBiasIndex d g)) else s

/-- Owner bytes a register may hold (R198). -/
def tableOwnerOk (o : Nat) : Bool := decide (o < 64 ∨ o = 0xFE ∨ o = 0xFF)

def execNbuBiasOwnerWrite (w : RegWrite) (s : State) : Result :=
  guarded (isReg w .nbu 0x228 || isReg w .nbu 0x230) <| serveWrite s w fun s _ off _ _ =>
    let m := (off - 0x228) / 8
    let changed := (List.range 8).filter fun j => fld w.val (8 * j) 8 ≠ tableOwner s (8 * m + j) ∧ tableOwnerOk (fld w.val (8 * j) 8)
    { s with deferred := s.deferred ++ changed.map fun j => .biasOwner (8 * m + j) (fld w.val (8 * j) 8) }

end Sys2Proof.Machine
end

