-- ==== Sys2Proof/Machine/OutPath.lean ====
section
/-!
DEFINITION. The output path of a core (R253 to R258, R282 to R284, R286, R319) and atomic adds (R259 to R262).
-/
namespace Sys2Proof.Machine

/-! ### Stages 1 to 5 -/

/-- A value in the output path, and whether it has been set to ±FP32 maximum. -/
structure OutVal where
  v : Fp
  sat : Bool

/-- The result of a stage: an infinity from finite operands becomes ±FP32 maximum. -/
def stageOut (x : OutVal) (z : Fp) (fin : Bool) : OutVal :=
  if z.isInf && fin then ⟨fp32.maxOf z.isNeg, true⟩ else ⟨z, x.sat⟩

/-- Multiply by an operand. -/
def OutVal.mul (x : OutVal) (y : Fp) : OutVal := stageOut x (mul32 x.v y) (x.v.isFin && y.isFin)
def OutVal.add (x : OutVal) (y : Fp) : OutVal := stageOut x (add32 x.v y) (x.v.isFin && y.isFin)

/-- The rotation of a pair (R286). -/
def rotate (x y : OutVal) (c s : Fp) : OutVal × OutVal :=
  let fin := x.v.isFin && y.v.isFin
  (stageOut x (fma32 x.v c (mul32 y.v s).neg) fin, stageOut y (fma32 x.v s (mul32 y.v c)) fin)

/-- Rotate the column pairs of a vector at a position; `ws`: the frequencies of its pairs. -/
def rotatePairs (pos : Nat) : List Nat → List OutVal → List OutVal
  | w :: ws, x :: y :: rest =>
    let c := fp32.decode (Config.cosFn pos (BitVec.ofNat 32 w)).toNat
    let s := fp32.decode (Config.sinFn pos (BitVec.ofNat 32 w)).toNat
    let r := rotate x y c s
    r.1 :: r.2 :: rotatePairs pos ws rest
  | _, xs => xs

/-! ### The tile and its vectors -/

/-- Operands of a DRAIN. -/
def drB (b : List Byte) : Nat := shapeB (leAt b 0x11 1)
def drMode (b : List Byte) : Nat := shapeMode (leAt b 0x11 1)
def drKind (b : List Byte) : Nat := leAt b 0x13 1
def drFmt (b : List Byte) : Nat := leAt b 0x12 1

/-- The tile of a group; an empty group reads +0 (R251). -/
def drainTile (c : CoreState) (b : List Byte) : AccTile :=
  let bb := drB b
  (c.tiles.find? fun t => decide (t.b = bb ∧ t.mode = drMode b ∧ t.group = leAt b 0x10 1)).getD
    ⟨bb, drMode b, leAt b 0x10 1, 0, 0, List.replicate (64 * bb) 0, List.replicate (64 * bb) false⟩

/-- The batch slot and position index of vector `vec` (R319): none for an invalid entry. -/
def drainVector (r : RunSort) (vec : Nat) : Option (Nat × Nat) :=
  let e := r.forme.vmap.getD (leAt r.bytes 0x2C 2 + vec) 0
  if e.testBit 31 then some (e % 2 ^ 10, e / 2 ^ 10 % 2 ^ 12) else none

/-- The slot of a vector that holds a request. -/
def drainSlot (r : RunSort) (vec : Nat) : Option (Nat × Slot × Nat) := match drainVector r vec with
  | some (k, j) => (r.pick.slots.getD k none).map fun sl => (k, sl, j)
  | none => none

/-- The position by which a vector is rotated: of its slot; none is stated for a vector without one. -/
def drainPos (s : State) (r : RunSort) (vec : Nat) : Nat := match drainSlot r vec with
  | some (_, sl, j) => sl.length + j
  | none => (Config.freeWord s.free).toNat % 2 ^ 22

/-- Frequencies of the column pairs of a tile, empty without rotation. -/
def drainFreqs (s : State) (core : Nat) (b : List Byte) : List Nat :=
  let rot := leAt b 0x28 4
  if rot.testBit 31 then
    (List.range (min 32 (rot / 2 ^ 23 % 256))).map fun j => ofLe (t0Read s core (rot % 2 ^ 23 + 4 * j) 4)
  else []

/-- Vector `vec` of a tile after stages 1 to 4. -/
def drainStages (s : State) (r : RunSort) (t : AccTile) (vec : Nat) : List OutVal :=
  let b := r.bytes
  let fu := leAt b 0x24 4
  let ff := fu / 2 ^ 23 % 32
  let fw := fmtBytes ff
  let x0 := (List.range 64).map fun n =>
    let v := fp32.decode (t.vals.getD (n * t.b + vec) 0)
    let x : OutVal := stageOut ⟨v, t.sat.getD (n * t.b + vec) false⟩ (fp32.round (v.shift (8 * t.replays : Nat))) v.isFin
    let y := if (leAt b 0x20 4).testBit 31 then x.mul (fp32.decode (ofLe (t0Read s r.seg (srtT0 b 0x20 + 4 * n) 4))) else x
    let f := decodeElem ff (ofLe (t0Read s r.seg (fu % 2 ^ 23 + (64 * vec + n) * fw) fw))
    if fu / 2 ^ 28 % 4 = 1 then y.add f else if fu / 2 ^ 28 % 4 = 2 then y.mul f else y
  rotatePairs (drainPos s r vec) (drainFreqs s r.seg b) x0

/-- The format of stage 5: the request's cache format for a cache row, else OUT_FMT (R282). -/
def drainFmt (s : State) (r : RunSort) (vec : Nat) : Nat :=
  if drKind r.bytes = 2 ∨ drKind r.bytes = 3 then match drainSlot r vec with
    | some (_, sl, _) => (s.entry sl.req).dir.format
    | none => drFmt r.bytes
  else drFmt r.bytes

/-- An element after conversion: its bytes, saturated, not finite. -/
structure OutElem where
  bytes : List Byte
  sat : Bool
  conv : Bool
  nonfin : Bool

/-- The elements of vector `vec` as written. -/
def drainElems (s : State) (r : RunSort) (t : AccTile) (vec : Nat) : List OutElem :=
  let fmt := drainFmt s r vec
  ((drainStages s r t vec).zipIdx).map fun (x, n) =>
    let z := drainConv fmt x.v
    ⟨leBytes (fmtBytes fmt) z.1, x.sat || z.2, !(t.sat.getD (n * t.b + vec) false), !x.v.isFin⟩

/-! ### Flags (R256) -/

/-- Flags, counters and the capture of the elements of one vector. -/
def drainFlags (r : RunSort) (t : AccTile) (d p : Nat) (s : State) (vec : Nat) (es : List OutElem) : State :=
  let sats := (es.filter (·.sat)).length
  let nons := (es.filter (·.nonfin)).length
  let s1 := count (count s (Reg.coreAccSat d p) sats) (Reg.coreNonfinite d p) nons
  let s2 := match (if (s1.core d p).satSeen then none else (es.zipIdx).find? fun x => x.1.sat) with
    | some (e, n) =>
      let s' := s1.setCore d p { s1.core d p with satSeen := true }
      coreCapture s' d p 0x0306 2 0 (n + vec * 2 ^ 6 + t.replays * 2 ^ 12 + b2n e.conv * 2 ^ 14 + r.index % 2 ^ 32 * 2 ^ 16)
    | none => s1
  match drainSlot r vec with
  | some (_, sl, _) =>
    let s3 := if 0 < sats then flagRequest s2 r.pick.part sl.req 4 else s2
    if 0 < nons then flagRequest s3 r.pick.part sl.req 5 else s3
  | none => s2

/-! ### The append (R282 to R284, R319) -/

/-- An append without a valid target (R284): nothing is written, the output is void, the request ends with KV_MAP_BAD. -/
def appendBad (s : State) (r : RunSort) (p req head pos reason : Nat) : State :=
  let s1 := coreCapture s r.die p 0x0309 2 0 (req + head * 2 ^ 16 + pos % 2 ^ 22 * 2 ^ 24 + reason * 2 ^ 48)
  raiseEnd (voidRequest s1 r.pick.part req) req 0x25

/-- One cache row, or its 64-column part, of vector `vec`; a row counts in CORE_APPENDS with its first part. -/
def appendRow (s : State) (r : RunSort) (p vec : Nat) (bs : List Byte) : State := match drainSlot r vec with
  | none => s
  | some (_, sl, j) =>
    if sl.count ≤ j then s
    else
      let head := leAt r.bytes 0x18 1
      let pos := sl.length + j
      let e := Map.get zeroAt sl.append (head * r.forme.kMax + (pos / 64 - sl.length / 64))
      let g := e % 2 ^ 32
      if !grpValid g then appendBad s r p sl.req head pos 2
      else if grpShared g then appendBad s r p sl.req head pos 1
      else
        let dir := (s.entry sl.req).dir
        let x := s.impo r.pick.impo
        let (layer, part) := Config.drainRow x.impoId r.forme.bucket r.seg r.index
        let rb := rowBytes dir.format dir.dim
        let piece := part % (rb / (64 * kvBytes dir.format))
        let off := (if drKind r.bytes = 3 then 64 * rb else 0) + pos % 64 * rb + piece * bs.length
        let da := grpAddr g (layer % max 1 dir.layers) off
        let s1 := count s (Reg.coreAppends r.die p) (b2n (decide (piece = 0)))
        if e / 2 ^ 32 % 64 = x.member then dataWrite s1 da bs
        else sendPeer s1 r.pick (e / 2 ^ 32 % 64) 0x04 (word da) bs

/-! ### Atomic adds (R259 to R262) -/

/-- Contributions of a DRAIN: lines of T0, or sectors of T1. -/
def contributions (r : RunSort) (inT1 : Bool) (core : Nat) (pieces : List (Nat × List Byte)) : List Contribution :=
  pieces.map fun x => ⟨r.seg, r.index, r.bytes, drFmt r.bytes, inT1, core, x.1, x.2⟩

/-- Issue contributions: the engine goes on; the sort completes with its last contribution. -/
def issueAtomics (s : State) (r : RunSort) (p : Nat) (cs : List Contribution) : State :=
  let s1 := advance (count s (Reg.coreAtomicOut r.die p) cs.length) r 0
  { s1 with steps := { s1.steps with atomics := s1.steps.atomics ++ cs } }

/-- One element of an atomic add: the sum in the element format, and whether it overflowed from finite elements. -/
def atomicElem (fmt : Nat) (old new : List Byte) : List Byte × Bool := match fmtOf fmt with
  | none => (old, false)
  | some f =>
    let x := f.decode (ofLe old)
    let y := f.decode (ofLe new)
    let z := f.round (x.add y)
    (leBytes (fmtBytes fmt) (f.encode z), z.isInf && x.isFin && y.isFin)

/-- Element by element over a run. -/
def atomicRun (fmt : Nat) (old new : List Byte) : List Byte × Nat :=
  let w := fmtBytes fmt
  let xs := (List.range (new.length / w)).map fun i => atomicElem fmt ((old.drop (i * w)).take w) ((new.drop (i * w)).take w)
  (xs.flatMap (·.1), (xs.filter (·.2)).length)

/-- A contribution takes effect. The Nat: elements that overflowed; none: the merge was refused. -/
def applyAtomic (s : State) (c : Contribution) : State × Option Nat :=
  if c.inT1 then
    let sec := c.at_ / 64 * 64
    if sectorPoisoned s sec then (mergeRefused s c.at_ c.bytes.length, none)
    else
      let (bs, n) := atomicRun c.fmt (readT1 s c.at_ c.bytes.length) c.bytes
      (dataWrite s sec (mergeBytes (readT1 s sec 64) (c.at_ % 64) bs), some n)
  else
    let (bs, n) := atomicRun c.fmt (t0Read s c.core c.at_ c.bytes.length) c.bytes
    let s1 := t0Write s c.core c.at_ bs
    let s2 := match coreOf s (c.core / 32) (c.core % 32) with
      | some p => count s1 (Reg.coreAtomicIn (c.core / 32) p) 1
      | none => s1
    (s2, some n)

/-- The completion returns to the issuer: overflows are counted there, a refused merge is captured there, and with the last one the
sort completes. -/
def atomicDone (s : State) (c : Contribution) (res : Option Nat) : State :=
  let d := c.issuer / 32
  match coreOf s d (c.issuer % 32), segmentPick s c.issuer with
  | some p, some (pk, f) =>
    let s1 := match res with
      | some n => count s (Reg.coreAtomicOvf d p) n
      | none => coreCapture s d p 0x0307 2 (sectorAddr s (c.at_ / 64 * 64)) (c.at_ / 64 * 64)
    let r : RunSort := ⟨pk, f, c.issuer, 2, c.index, c.sort⟩
    if s1.steps.atomics.any fun x => x.issuer = c.issuer ∧ x.index = c.index then s1 else completeSort s1 r
  | _, _ => s

/-- The k-th contribution that is on its way arrives: their order is not fixed (R262). -/
def execAtomicAdd (k : Nat) (s : State) : Result := .next <|
  match s.steps.atomics[k]? with
  | none => s
  | some c =>
    if halted s then s
    else
      let s1 := { s with steps := { s.steps with atomics := s.steps.atomics.eraseIdx k } }
      let (s2, res) := applyAtomic s1 c
      let s3 := atomicDone s2 c res
      if res.isNone ∧ s3.steps.running then abandonWith s3 .normal else s3

/-! ### Stage 6 (R257) -/

/-- Write a drained tile: the bytes of its vectors, vector-major. -/
def drainWrite (s : State) (r : RunSort) (p : Nat) (vs : List (List Byte)) : State :=
  let b := r.bytes
  let bs := vs.flatten
  let off := srtT0 b 0x14
  let core := leAt b 0x18 1
  match drKind b with
  | 0 => finishSort (t0Write s r.seg off bs) r
  | 1 => finishSort (t0Write s core off bs) r
  | 6 => finishSort (t0Write s core (off + leAt b 0x2E 1 * bs.length) bs) r
  | 4 => issueAtomics s r p (contributions r false core ((sectorPieces (bs.length / 64 + 2) off 0 bs).map fun x => (off + x.1, x.2)))
  | 5 => match tensorAccess s (some r.pick.part) (srtTs b 0x18) bs.length with
    | .error e => refuseSort s r (decide (e = .hedgerow)) (srtTs b 0x18)
    | .ok (m, o) => issueAtomics s r p (contributions r true 0 ((sectorPieces (bs.length / 64 + 2) o 0 bs).map fun x =>
        (extentDa m (o + x.1), x.2)))
  | _ => finishSort ((vs.zipIdx).foldl (fun s (v, i) => appendRow s r p i v) s) r

/-- A DRAIN on physical core `p`: the slots are cleared, the vectors pass the stages, are flagged and written. -/
def runDrain (s : State) (r : RunSort) (p : Nat) : State :=
  let d := r.die
  let c := s.core d p
  let t := drainTile c r.bytes
  let es := (List.range t.b).map (drainElems s r t)
  let drawn := (List.range t.b).any fun v => (drainSlot r v).isNone
  let s0 := if drawn then (drawFree s).2 else s
  let s1 := s0.setCore d p { c with tiles := c.tiles.filter fun x => ¬ (x.b = t.b ∧ x.mode = t.mode ∧ x.group = t.group) }
  let s2 := (es.zipIdx).foldl (fun s (x, i) => drainFlags r t d p s i x) s1
  drainWrite s2 r p (es.map fun x => (x.map (·.bytes)).flatten)

def execDrainSort (core : Fin 256) (s : State) : Result := .next <|
  runSort s core.val 2 0x30 fun s r => match r.phys s with
    | none => s
    | some p => runDrain s r p

end Sys2Proof.Machine
end

