-- ==== Sys2Proof/Machine/VecOps.lean ====
section
/-!
DEFINITION. The vector unit: vector operations (R221, R311), the windrow merge (R291 to R294), the sampler (R222 to R224), the ordered
fold (R263).
-/
namespace Sys2Proof.Machine

/-! ### Elements in T0 -/

/-- `n` elements of a format from an offset of a core's T0. -/
def readElems (s : State) (core off fmt n : Nat) : List Fp :=
  let w := fmtBytes fmt
  (List.range n).map fun i => decodeElem fmt (ofLe (t0Read s core (off + i * w) w))

/-- Values converted to a format under Table 8.4. -/
def convElems (fmt : Nat) (xs : List Fp) : List Byte := xs.flatMap fun x => leBytes (fmtBytes fmt) (drainConv fmt x).1

/-- FP32 codes. -/
def codes32 (xs : List Fp) : List (BitVec 32) := xs.map fun x => BitVec.ofNat 32 (fp32.encode x)

/-! ### VOP -/

/-- The token that a position of a slot holds. -/
def slotToken (s : State) (sl : Slot) (j : Nat) : Nat :=
  let e := s.entry sl.req
  if sl.kind = 0 ∧ j = 0 then e.lastToken else Map.get zeroAt e.toklog (sl.length + j)

/-- Vector `v` of an embedding gather: the embedding of the slot's token; zero for an empty slot (R315). -/
def gatherVector (s : State) (r : RunSort) (n v : Nat) : List Fp := match r.slot with
  | none => List.replicate n .zero
  | some sl =>
    if sl.count ≤ v then List.replicate n .zero
    else
      let id := (s.impo r.pick.impo).impoId
      (List.range n).map fun i => fp32.decode (Config.embedding id r.seg r.index (slotToken s sl v) i).toNat

/-- The result of a vector operation over all elements, in FP32. -/
def vopResult (s : State) (r : RunSort) : List Fp :=
  let b := r.bytes
  let op := leAt b 0x10 1
  let n := leAt b 0x20 4
  let vs := leAt b 0x24 2
  let x := fun () => readElems s r.seg (srtT0 b 0x14) (leAt b 0x11 1) (n * vs)
  let y := fun () => readElems s r.seg (srtT0 b 0x18) (leAt b 0x11 1) (n * vs)
  if op = 6 then List.zipWith add32 (x ()) (y ())
  else if op = 7 then List.zipWith mul32 (x ()) (y ())
  else if op = 8 ∨ op = 9 then x ()
  else if op = 10 then (List.range vs).flatMap (gatherVector s r n)
  else
    let cx := codes32 (x ())
    let cy := codes32 (y ())
    (List.range (n * vs)).map fun i => fp32.decode (Config.vopElem op (leAt b 0x28 4) i cx cy).toNat

def execVop (core : Fin 256) (s : State) : Result := .next <|
  runSort s core.val 3 0x40 fun s r =>
    let b := r.bytes
    let n := leAt b 0x20 4 * leAt b 0x24 2
    let out := if leAt b 0x10 1 = 9 ∧ leAt b 0x11 1 = leAt b 0x12 1 then t0Read s core.val (srtT0 b 0x14) (n * fmtBytes (leAt b 0x12 1))
      else convElems (leAt b 0x12 1) (vopResult s r)
    if inT0 (srtT0 b 0x1C) out.length then finishSort (t0Write s core.val (srtT0 b 0x1C) out) r else refuseSort s r false 0

/-! ### Windrow merge (R291 to R294) -/

/-- A partial result of one query. -/
structure Partial where
  m : Fp
  l : Fp
  o : List Fp

/-- A record as the merge reads it: FLAGS, SHAPE, REQ, LAYER, KVHEAD, PART, end position, pages, its partials. -/
structure WRecord where
  flags : Nat
  shape : Nat
  tag : Nat
  req : Nat
  layer : Nat
  head : Nat
  part : Nat
  pages : Nat
  posEnd : Nat
  qs : List Partial

/-- The identity of `n` queries. -/
def identityQs (n dim : Nat) : List Partial := List.replicate n ⟨.negInf, .zero, List.replicate dim .zero⟩

/-- Read a record of T0; a record that passes as the identity has no o (R292). -/
def readRecord (s : State) (core off : Nat) : WRecord :=
  let h := t0Read s core off 96
  let fl := leAt h 2 1
  let sh := leAt h 3 1 % 32
  let n := sh % 8 + 1
  let dim := dimOf (sh / 8)
  let w := if fl.testBit 1 then 2 else 4
  let o := t0Read s core (off + 96) (if leAt h 4 2 ≤ 96 then 0 else n * dim * w)
  let idle := decide (o = []) || fl.testBit 0 || fl.testBit 2 || fl.testBit 3 || fl.testBit 4
  let elem := fun (i : Nat) => if w = 2 then bf16.decode (leAt o (2 * i) 2) else fp32.decode (leAt o (4 * i) 4)
  ⟨fl, sh, leAt h 6 2, leAt h 8 2, leAt h 0xA 1, leAt h 0xB 1, leAt h 0xD 1, leAt h 0xC 1, leAt h 0x10 4,
    if idle then identityQs n dim else (List.range n).map fun q =>
      ⟨fp32.decode (leAt h (0x20 + 4 * q) 4), fp32.decode (leAt h (0x40 + 4 * q) 4), (List.range dim).map fun i => elem (q * dim + i)⟩⟩

/-- ⊕ of two partials of one query. -/
def windrow (a b : Partial) : Partial :=
  let m := a.m.max b.m
  if m = .negInf then ⟨.negInf, .zero, a.o.map fun _ => .zero⟩
  else
    let ca := expNeg (sub32 a.m m)
    let cb := expNeg (sub32 b.m m)
    ⟨m, fma32 b.l cb (mul32 a.l ca), List.zipWith (fun x y => fma32 y cb (mul32 x ca)) a.o b.o⟩

/-- Two records merged query by query; flags gather, pages add. -/
def mergeRecords (a b : WRecord) : WRecord :=
  { a with flags := a.flags ||| b.flags, pages := a.pages + b.pages, posEnd := max a.posEnd b.posEnd, qs := List.zipWith windrow a.qs b.qs }

/-- The merged record as a device's partial (R293): FP32 o, NBU and ORIGIN 0, the COORD of this device. -/
def partialBytes (s : State) (x : WRecord) : List Byte :=
  let empty := x.qs.all fun q => q.m = .negInf
  let o := x.qs.flatMap fun q => q.o.flatMap fun v => leBytes 4 (fp32.encode v)
  leBytes 1 0x83 ++ leBytes 1 0 ++ leBytes 1 (b2n empty + x.flags / 4 % 2 * 4 + x.flags / 16 % 2 * 16 + x.flags / 32 % 2 * 32) ++
  leBytes 1 x.shape ++ leBytes 2 (96 + o.length) ++ leBytes 2 x.tag ++ leBytes 2 x.req ++ leBytes 1 x.layer ++ leBytes 1 x.head ++
  leBytes 1 (min 255 x.pages) ++ leBytes 1 x.part ++ leBytes 2 0 ++ leBytes 4 x.posEnd ++ leBytes 2 s.colophon.coord ++ leBytes 10 0 ++
  ((List.range 8).flatMap fun q => leBytes 4 (((x.qs.map fun p => fp32.encode p.m)).getD q negInf32)) ++
  ((List.range 8).flatMap fun q => leBytes 4 (((x.qs.map fun p => fp32.encode p.l)).getD q 0)) ++ o

/-- The output of a query (R294). -/
def normalised (q : Partial) : List Fp :=
  if q.l.isZero then q.o.map fun _ => .zero
  else
    let c := freeFn Config.recipFn q.l
    q.o.map fun x => mul32 x c

/-- What the flags of the merged records do to the request: void for ABORTED or POISONED, NAN_SEEN in its entry (R292, Table 11.9). -/
def mergeFlags (s : State) (part : Nat) (x : WRecord) : State :=
  let s1 := if x.flags.testBit 4 ∨ x.flags.testBit 2 then voidRequest s part x.req else s
  if x.flags.testBit 5 then flagRequest s1 part x.req 6 else s1

/-- Queries that attended to nothing (R294). -/
def noteEmpty (s : State) (r : RunSort) (p : Nat) (x : WRecord) : State :=
  let n := (x.qs.filter fun q => q.l.isZero).length
  if n = 0 then s
  else
    let s1 := count s (Reg.coreEmptyAttn r.die p) n
    if (s1.steps.current.any fun q => q.part = r.pick.part ∧ q.slots.any fun o => o.any fun sl => sl.req = x.req ∧ sl.isVoid) then s1
    else flagRequest s1 r.pick.part x.req 3

/-- The records of a MERGE, in the order of their addresses. -/
def mergeInputs (s : State) (r : RunSort) : List WRecord :=
  (List.range (leAt r.bytes 0x14 2)).map fun i => readRecord s r.seg (srtT0 r.bytes 0x10 + i * leAt r.bytes 0x1C 4)

/-- The running merge of records (DEDUCED, log 51); the first one with a partial of its own says whose it is. -/
def mergeAll : List WRecord → Option WRecord
  | [] => none
  | x0 :: rest =>
    let live := ((x0 :: rest).find? fun x => !(x.qs.all fun q => q.m = .negInf)).getD x0
    some { rest.foldl mergeRecords x0 with req := live.req, layer := live.layer, head := live.head, part := live.part, tag := live.tag }

/-- A MERGE sort. -/
def runMerge (s : State) (r : RunSort) (p : Nat) : State :=
  let b := r.bytes
  let recs := mergeInputs s r
  match mergeAll recs with
  | none => finishSort s r
  | some x =>
    let bad := recs.foldl (fun s y => mergeFlags s r.pick.part y) s
    let s1 := count bad (Reg.coreMerges r.die p) (recs.length - 1)
    if (leAt b 0x16 1).testBit 0 then
      let out := convElems (leAt b 0x17 1) (x.qs.flatMap normalised)
      finishSort (t0Write (noteEmpty s1 r p x) r.seg (srtT0 b 0x18) out) r
    else finishSort (t0Write s1 r.seg (srtT0 b 0x18) (partialBytes s x)) r

def execMergeSort (core : Fin 256) (s : State) : Result := .next <|
  runSort s core.val 3 0x41 fun s r => match r.phys s with
    | none => s
    | some p => runMerge s r p

/-! ### Sampler (R222 to R224) -/

/-- A quotient in FP32, rounded once. -/
def div32 (x y : Fp) : Fp := match x, y with
  | .fin a m e, .fin b n g =>
    if n = 0 then (if m = 0 then .nan else .inf (a != b))
    else
      let k := 64 + Nat.log2 (n + 1)
      let q := m * 2 ^ k / n
      let rest := decide (m * 2 ^ k % n ≠ 0)
      fp32.round (.fin (a != b) (2 * q + b2n rest) (e - g - (k + 1 : Nat)))
  | .fin a _ _, .inf b => .fin (a != b) 0 0
  | .inf a, .fin b _ _ => .inf (a != b)
  | _, _ => .nan

/-- A candidate: its scaled logit and token identifier. -/
structure Cand where
  y : Fp
  id : Nat

/-- Candidate order: y descending, then identifier ascending. -/
def Cand.before (a b : Cand) : Bool := b.y.lt a.y || (!a.y.lt b.y && decide (a.id < b.id))

/-- Insert into a list in candidate order. -/
def insertCand (a : Cand) : List Cand → List Cand
  | [] => [a]
  | b :: l => if a.before b then a :: b :: l else b :: insertCand a l

/-- The `k` first of a list, in candidate order. -/
def topCands (k : Nat) (l : List Cand) : List Cand := (l.foldr insertCand []).take k

/-- A summary of a shard. -/
structure Summary where
  m : Fp
  l : Fp
  top : List Cand

/-- y of a logit. -/
def scaledLogit (invT z : Fp) : Fp := match z with
  | .nan => .negInf
  | .inf true => .negInf
  | .inf false => fp32.maxOf false
  | x => sat32 (mul32 x invT)

/-- The summary of a shard of logits whose first token is `base` (R223). -/
def shardSummary (zs : List Fp) (base : Nat) (invT : Fp) (k : Nat) : Summary :=
  let ys := zs.map (scaledLogit invT)
  let m := ys.foldl Fp.max .negInf
  let l := if m = .negInf then .zero else treeSum (ys.map fun y => expNeg (sub32 y m))
  ⟨m, l, topCands k (((ys.zipIdx).filter fun x => x.1 ≠ .negInf).map fun (y, i) => ⟨y, base + i⟩)⟩

/-- Two summaries merged. -/
def mergeSummary (k : Nat) (a b : Summary) : Summary :=
  let m := a.m.max b.m
  let term := fun (x : Summary) => if x.m = .negInf then Fp.zero else mul32 x.l (expNeg (sub32 x.m m))
  ⟨m, add32 (term a) (term b), topCands k (a.top ++ b.top)⟩

/-- A summary in T0: m, l, the number of candidates, then (y, identifier) pairs in 2,064 bytes. DESIGN CHOICE, log 52: the manual lays
none out. -/
def summaryBytes (x : Summary) : List Byte :=
  let c := x.top.flatMap fun t => leBytes 4 (fp32.encode t.y) ++ leBytes 4 t.id
  leBytes 4 (fp32.encode x.m) ++ leBytes 4 (fp32.encode x.l) ++ leBytes 4 x.top.length ++ leBytes 4 0 ++ c ++
    leBytes (2048 - c.length) 0

/-- The summary at an offset of a core's T0. -/
def readSummary (s : State) (core off : Nat) : Summary :=
  let h := t0Read s core off 16
  let n := min 256 (leAt h 8 4)
  let c := t0Read s core (off + 16) (8 * n)
  ⟨fp32.decode (leAt h 0 4), fp32.decode (leAt h 4 4), (List.range n).map fun i => ⟨fp32.decode (leAt c (8 * i) 4), leAt c (8 * i + 4) 4⟩⟩

/-- The draw of a step and position (R224). -/
def draw (seed step : Word) (position : Nat) : Fp :=
  let h := sipHash seed (seed ^^^ 0x5A255A255A255A25) (leBytes 8 step.toNat ++ leBytes 4 position ++ leBytes 4 0)
  .fin false (h.toNat / 2 ^ 40) (-24)

/-- Candidates kept under TOP_P: their number and the sum of their probabilities. -/
def keepTop (topP : Fp) : List Fp → Nat → Fp → Nat × Fp
  | [], c, acc => (c, acc)
  | p :: ps, c, acc => if acc.lt topP then keepTop topP ps (c + 1) (add32 acc p) else (c, acc)

/-- The first candidate whose running sum passes the target. -/
def pickTarget (target : Fp) : List Fp → Nat → Fp → Nat → Nat
  | [], _, _, last => last
  | p :: ps, i, run, last =>
    let run' := add32 run p
    if target.lt run' then i else pickTarget target ps (i + 1) run' last

/-- The token chosen, with its log-probability (R223); none without a candidate. -/
def chooseToken (x : Summary) (e : Entry) (step : Word) (position : Nat) : Option (Nat × Nat) := match x.top with
  | [] => none
  | t0 :: _ =>
    let ps := x.top.map fun t => div32 (expNeg (sub32 t.y x.m)) x.l
    let j := if (fp32.decode e.temp).isZero then 0
      else
        let (c, acc) := keepTop (fp32.decode e.topP) (ps.drop 1) 1 (ps.headD .zero)
        pickTarget (mul32 (draw e.seed step position) acc) (ps.take c) 0 .zero (c - 1)
    let t := x.top.getD j t0
    some (t.id, fp32.encode (sub32 (sub32 t.y x.m) (freeFn Config.lnFn x.l)))

/-- Sampling parameters of a request: inv_t and k. -/
def invT (e : Entry) : Fp := if (fp32.decode e.temp).isZero then .one else div32 .one (fp32.decode e.temp)
def candLimit (e : Entry) : Nat := if (fp32.decode e.temp).isZero then 1 else e.topK

/-- The position indices that the summaries of a choose phase stand for: of a decode slot 0 upward, of a chunk its last (DESIGN
CHOICE, log 52). -/
def chooseAt (sl : Slot) (i : Nat) : Nat := if sl.kind = 0 then i else sl.count - 1

/-- The choose phase for one position. -/
def chooseOne (r : RunSort) (p : Nat) (sl : Slot) (s : State) (i : Nat) : State :=
  let j := chooseAt sl i
  if sl.count ≤ j then s
  else match chooseToken (readSummary s r.seg (srtT0 r.bytes 0x14 + 2064 * i)) (s.entry sl.req) s.steps.num (sl.length + j + 1) with
    | none => coreCapture s r.die p 0x0305 3 0 sl.req
    | some tk =>
      onSlots (count s (Reg.coreSamples r.die p) 1) r.pick.part (fun x => x.req = sl.req) fun x =>
        { x with samples := Map.put x.samples j (some tk) }

/-- The entry whose sampling parameters a SAMPLE sort uses. -/
def sampleEntry (s : State) (r : RunSort) : Entry := match r.slot with
  | some sl => s.entry sl.req
  | none => Entry.fresh 0

/-- A SAMPLE sort; of an empty slot it chooses nothing (R315). -/
def runSample (s : State) (r : RunSort) (p : Nat) : State :=
  let b := r.bytes
  let n := leAt b 0x1C 4
  let src := srtT0 b 0x14
  let dst := srtT0 b 0x18
  let e := sampleEntry s r
  match leAt b 0x10 1 with
  | 0 => finishSort (t0Write s r.seg dst (summaryBytes (shardSummary (readElems s r.seg src 5 n) (leAt b 0x20 4) (invT e) (candLimit e)))) r
  | 1 =>
    let xs := (List.range n).map fun i => readSummary s r.seg (src + 2064 * i)
    match treeFold (mergeSummary (candLimit e)) n xs with
    | some x => finishSort (t0Write s r.seg dst (summaryBytes x)) r
    | none => finishSort s r
  | _ => match r.slot with
    | none => finishSort s r
    | some sl => finishSort ((List.range (min n (max 1 sl.count))).foldl (chooseOne r p sl) s) r

def execSampleSort (core : Fin 256) (s : State) : Result := .next <|
  runSort s core.val 3 0x42 fun s r => match r.phys s with
    | none => s
    | some p => runSample s r p

/-! ### FOLD (R263) -/

/-- The folded elements: contributions in FP32, added in the balanced tree over their index. -/
def foldElems (s : State) (r : RunSort) : List Fp :=
  let b := r.bytes
  let len := leAt b 0x18 4
  (List.range (len / 4)).map fun i =>
    treeSum ((List.range (leAt b 0x14 1)).map fun c => fp32.decode (ofLe (t0Read s r.seg (srtT0 b 0x10 + c * len + 4 * i) 4)))

def execFoldSort (core : Fin 256) (s : State) : Result := .next <|
  runSort s core.val 3 0x43 fun s r => match r.phys s with
    | none => s
    | some p =>
      let b := r.bytes
      let out := convElems (leAt b 0x15 1) (foldElems s r)
      let s1 := count s (Reg.coreOrderedFolds r.die p) 1
      if 2 ^ 63 ≤ leAt b 0x1C 8 then tensorWrite s1 r (srtTs b 0x1C) out fun s => finishSort s r
      else
        let off := Config.foldOffset (s.impo r.pick.impo).impoId r.forme.bucket r.seg r.index % (2 ^ 23 - out.length + 1)
        finishSort (t0Write s1 (leAt b 0x1C 1) off out) r

end Sys2Proof.Machine
end

