-- ==== Sys2Proof/Machine/Attend.lean ====
section
/-!
DEFINITION. The command builders (R276, R320, R322): the rows of a channel's swath list, the query sets and page jobs of an ATTEND sort.
-/
namespace Sys2Proof.Machine

/-! ### Swath-list rows (R320) -/

/-- A row of a channel's list: its index on the die, and the first entry of its swath; none for a NOOP row. -/
structure SwathRow where
  row : Nat
  entry : Option Nat

/-- The rows of one (slot, head) in the list of channel `c` of die `d`. -/
def channelRows (s : State) (f : Forme) (sl : Option Slot) (h d c : Nat) : List SwathRow :=
  let real : List (Nat × Nat) := match sl with
    | none => []
    | some x =>
      let dir := (s.entry x.req).dir
      ((swathHeads dir.swathLen (x.length + x.count) (dir.head h)).filter fun (y : Nat × Nat) => grpDie y.2 = d)
  let mine := (real.zipIdx).filterMap fun (y, i) => if grpChan y.2 = c then some (⟨i, some y.1⟩ : SwathRow) else none
  let idle := ((List.range f.dieSwaths).filter fun i => real.length ≤ i ∧ i % 16 = c).map fun i => (⟨i, none⟩ : SwathRow)
  mine ++ idle

/-! ### The check of the lists (R276) -/

/-- Every field of a directory is in its range (Table 9.3, R279). -/
def dirInRange (d : Directory) : Bool :=
  decide (1 ≤ d.heads.length ∧ d.heads.length ≤ 256 ∧ 1 ≤ d.layers ∧ d.layers ≤ 128 ∧ d.dim ≤ 2 ∧ 1 ≤ d.swathLen ∧ d.swathLen ≤ 16 ∧
    (d.format = 0 ∨ d.format = 1 ∨ d.format = 4) ∧ (d.dim = 2 → d.format ≠ 4))

/-- Why an entry in range fails; 0 when it does not. -/
def entryReason (s : State) (d : Directory) (hl : HeadList) (g : Nat) : Nat :=
  if !grpValid g then 1
  else if 767 < grpSlot g + d.layers - 1 then 2
  else if !pairUp s (grpDie g) (grpChan g) (grpPair g) then 3
  else if !hl.dieMask.testBit (grpDie g) ∧ ¬ grpShared g then 4
  else 0

/-- The first failing entry of a request that attends over positions below `p`: head, entry, reason (Table 9.6). -/
def headListBad (s : State) (d : Directory) (p : Nat) : Option (Nat × Nat × Nat) :=
  if !dirInRange d then some (0, 0, 5)
  else (d.heads.zipIdx).findSome? fun (hl, h) =>
    (List.range hl.cap).findSome? fun i =>
      if p ≤ 64 * (hl.first + i) then none
      else
        let r := entryReason s d hl (Map.get zeroAt hl.list i)
        if r = 0 then none else some (h, i, r)

/-! ### Query sets and jobs -/

/-- What a builder works on: the sort's bytes, its forme's parameters, its die and channel. -/
structure Build where
  run : RunSort
  heads : Nat
  qheads : Nat
  d : Nat
  c : Nat

def Build.sort (x : Build) : List Byte := x.run.bytes
def Build.qcount (x : Build) : Nat := leAt x.sort 0x13 1 % 8 + 1
def Build.dim (x : Build) : Nat := leAt x.sort 0x13 1 / 8 % 4
def Build.passes (x : Build) : Nat := leAt x.sort 0x1E 2

/-- The first position index that pass `p` carries, and that of its query `q` (R322). -/
def Build.passAt (x : Build) (p q : Nat) : Nat :=
  if 8 ≤ x.qheads then p / ((x.qheads + 7) / 8) else 8 / max 1 x.qheads * p + q / max 1 x.qheads

/-- Pass `p` is used by a slot. -/
def Build.used (x : Build) (sl : Option Slot) (p : Nat) : Bool := sl.any fun y => decide (x.passAt p 0 < y.count)

/-- The QUERY_LOAD of a run of rows. -/
def Build.queryLoad (s : State) (x : Build) (sl : Slot) (p core area mask : Nat) : List Byte :=
  let b := x.sort
  let n := x.qcount * dimOf x.dim * 2
  leBytes 1 0x02 ++ leBytes 1 (area % 2 + (x.qcount - 1) * 2 + x.dim * 16) ++ leBytes 2 0 ++ leBytes 4 (leAt b 0x14 4) ++
  leBytes 4 (leAt b 0x18 4) ++ leBytes 1 x.run.pick.part ++ leBytes 3 0 ++ leBytes 8 mask ++ leBytes 8 0 ++
  ((List.range 8).flatMap fun q => leBytes 4 (if q < x.qcount then (sl.length + x.passAt p q) % 2 ^ 22 else 0)) ++
  readT0 s x.d core (srtT0 b 0x20 + area * n) n

/-- A PAGE_JOB (Table 6.3). -/
def Build.job (x : Build) (pair flags slot stride pages lastRows pos req head core off tag : Nat) : List Byte :=
  let b := x.sort
  leBytes 1 0x01 ++ leBytes 1 pair ++ leBytes 1 flags ++ leBytes 1 (leAt b 0x13 1) ++ leBytes 2 slot ++ leBytes 2 stride ++
  leBytes 1 pages ++ leBytes 1 lastRows ++ leBytes 1 (leAt b 0x11 1 % 16) ++ leBytes 1 x.run.pick.part ++ leBytes 4 pos ++ leBytes 2 req ++
  leBytes 1 (leAt b 0x10 1 % 128) ++ leBytes 1 head ++ leBytes 2 (tag % 2 ^ 12) ++ leBytes 1 core ++ leBytes 1 0 ++ leBytes 4 off ++ leBytes 4 0

/-- Cut consecutive pages at every change of the slot distance: (block, slot) lists. -/
def joinPages : List (Nat × Nat) → List (List (Nat × Nat))
  | [] => []
  | x :: rest => match joinPages rest with
    | (y :: z :: l) :: more =>
      if x.2 < y.2 ∧ y.2 + y.2 = x.2 + z.2 then (x :: y :: z :: l) :: more else [x] :: (y :: z :: l) :: more
    | [y] :: more => if x.2 < y.2 then [x, y] :: more else [x] :: [y] :: more
    | l => [x] :: l

/-- The entries of a swath from `i` on that hold positions below `p`: block and slot of layer 0. -/
def swathPages (d : Directory) (hl : HeadList) (p : Nat) : Nat → Nat → List (Nat × Nat)
  | 0, _ => []
  | fuel + 1, i =>
    let g := Map.get zeroAt hl.list i
    if hl.cap ≤ i ∨ p ≤ 64 * (hl.first + i) ∨ ¬ grpValid g then []
    else
      let next := swathStart (max 1 d.swathLen) hl.list (i + 1)
      (hl.first + i, grpSlot g) :: (if next then [] else swathPages d hl p fuel (i + 1))

/-- Flags of a job that a sort and a directory fix: CAUSAL, QSET, O_BF16, KV_FP16, E5M2. -/
def Build.flags (x : Build) (dir : Directory) (area : Nat) : Nat :=
  let fl := leAt x.sort 0x12 1
  fl % 2 * 4 + area % 2 * 8 + fl / 2 % 2 * 16 + b2n (decide (dir.format = 4)) * 32 + b2n (decide (dir.format = 1)) * 64

/-- The jobs of one real row (R170, R322). -/
def Build.walk (s : State) (x : Build) (sl : Slot) (h e core off tag area : Nat) : List (List Byte) :=
  let dir := (s.entry sl.req).dir
  let hl := dir.head h
  let p := sl.length + sl.count
  let runs := joinPages (swathPages dir hl p (max 1 dir.swathLen) e)
  let pair := grpPair (Map.get zeroAt hl.list e)
  let layer := leAt x.sort 0x10 1 % 128
  (runs.zipIdx).map fun (run, i) =>
    let first := run.headD (0, 0)
    let last := run.getLastD (0, 0)
    let stride := match run with
      | a :: b :: _ => b.2 - a.2
      | _ => dir.layers
    let rows := min 64 (p - 64 * last.1)
    x.job pair (x.flags dir area + b2n (decide (i = 0)) + b2n (decide (i + 1 = runs.length)) * 2) (first.2 + layer) stride run.length
      (rows - 1) (64 * first.1) sl.req h core off tag

/-- The record that completes a NOOP row at once. -/
def Build.noop (s : State) (x : Build) (req h core off tag : Nat) : State :=
  controllerRecord s x.d x.c (x.job 0 0x83 0 1 0 0 0 req h core off tag) (recEmpty + recNoop)

/-- Rows of one (slot, head) in one pass. `bad`: the request has failed the check of its lists. -/
def Build.rows (x : Build) (bad : Bool) (p k h : Nat) (sl : Option Slot) (s : State) : State :=
  let b := x.sort
  let f := x.run.forme
  let id := k * x.heads + h
  let core := (leAt b 0x1C 1 % 32 + id) % 32
  let area := id / 32 * x.passes + p
  let rl := recordLen (leAt b 0x13 1) ((leAt b 0x12 1).testBit 1)
  let rows := channelRows s f sl h x.d x.c
  let off := fun (r : SwathRow) => (srtT0 b 0x24 + (area * f.dieSwaths + r.row) * rl) % 2 ^ 23
  let tag := attendBase b + id
  let live := x.used sl p && !bad
  let pairs := rows.filterMap fun r => match sl, r.entry with
    | some y, some e => some (grpPair (Map.get zeroAt ((s.entry y.req).dir.head h).list e))
    | _, _ => none
  let req := (sl.map (·.req)).getD 0
  let put := fun (s : State) (l : List (List Byte)) =>
    let c := s.chan x.d x.c
    s.setChan x.d x.c { c with xfers := c.xfers ++ l }
  let s1 := match sl with
    | some y => if live && decide (pairs ≠ []) then put s [Build.queryLoad s x y p core area (maskOf pairs)] else s
    | none => s
  rows.foldl (fun s r => match (if live then sl else none), r.entry with
    | some y, some e =>
      let jobs := Build.walk s x y h e core (off r) tag area
      if jobs = [] then Build.noop s x req h core (off r) tag else put s jobs
    | _, _ => Build.noop s x req h core (off r) tag) s1

/-- The check of the requests of a batch: a failing one is captured, void, and ends with KV_MAP_BAD; the answer is their indices. -/
def Build.check (x : Build) (s : State) : List Nat × State :=
  (x.run.pick.slots.filterMap id).foldl (fun (acc : List Nat × State) sl =>
    match headListBad acc.2 (acc.2.entry sl.req).dir (sl.length + sl.count) with
    | none => acc
    | some (h, i, why) =>
      let seen := decide (0x25 ∈ (acc.2.entry sl.req).ends)
      let s1 := if seen then acc.2 else
        nbuCapture acc.2 x.d x.c 0x0208 x.run.pick.part 0 (sl.req + h * 2 ^ 16 + i % 2 ^ 17 * 2 ^ 24 + why * 2 ^ 44)
      (sl.req :: acc.1, raiseEnd (voidRequest s1 x.run.pick.part sl.req) sl.req 0x25)) ([], s)

/-- The whole list of a channel, pass by pass, slot by slot, head by head. -/
def Build.all (x : Build) (s : State) : State :=
  let (bad, s1) := x.check s
  let n := x.run.forme.slots
  (List.range x.passes).foldl (fun s p => (List.range n).foldl (fun s k => (List.range x.heads).foldl (fun s h =>
    let sl := x.run.pick.slots.getD k none
    x.rows (sl.any fun y => decide (y.req ∈ bad)) p k h sl s) s) s) s1

/-- The builder of channel `c` executes its die's next ATTEND sort; the sort signals once every channel's builder has. -/
def execAttendSort (d : Fin 8) (c : Fin 16) (s : State) : Result := .next <|
  match nextRun s (256 + d.val) 5 c.val with
  | none => s
  | some r =>
    let x := s.impo r.pick.impo
    if srtOp r.bytes ≠ 0x60 then s
    else if !(sortShape r.seg r.bytes && operandsOk (x.ctx r.forme r.seg) r.bytes) then refuseSort s r false 0
    else
      let s1 := advance (Build.all ⟨r, x.record.heads.length, x.record.qheads, d.val, c.val⟩ (traceSort s r 1 c.val)) r c.val
      if (List.range 16).all fun c' => r.index < Map.get zeroAt s1.steps.pcs (builderPc d.val c') then completeSort s1 r else s1

end Sys2Proof.Machine
end

