-- ==== Sys2Proof/Machine/ResetOps.lean ====
section
/-!
DEFINITION. The reset kinds: what each preserves (Table 3.2), and how a request meets a reset in progress (R63).
-/
namespace Sys2Proof.Machine

/-- Owners, of blocks and of bias tables, and the quire regions: the galley, its partitions and T1 outlive a reset of one half, and these
with them (DEDUCED, Table 3.2, R65). -/
def outlives (off : Nat) : Bool :=
  decide (off % 0x1000 = 0x070) ||
    decide (blkType (off / 0x1000 * 0x1000) = 0x0A ∧ (off % 0x1000 = 0x228 ∨ off % 0x1000 = 0x230)) ||
    decide (blkType (off / 0x1000 * 0x1000) = 0x08 ∧ off % 0x1000 = 0x100)

/-- A register of a block of half `h` that a half reset returns to its reset value; the last-gasp registers are kept (R488). -/
def halfOwns (h : Half) (off : Nat) : Bool :=
  decide (blkHalf (off / 0x1000 * 0x1000) = h.idx) && decide (off ≠ Reg.hubLastgasp h.idx) && !outlives off

/-- A register of the CD_ and CORE_ pages that a warm reset returns to its reset value. -/
def computeOwns (off : Nat) : Bool :=
  decide (blkType (off / 0x1000 * 0x1000) = 0x06 ∨ blkType (off / 0x1000 * 0x1000) = 0x07) && !outlives off

/-- The levels a cold reset leaves as they are: rails, PWRGD, references present, trip latches. -/
def keepLevels (old s : State) (clearTrip : Bool) : State :=
  let s1 := setReg s Reg.devRailStatus (getReg old Reg.devRailStatus &&& ones 0 20)
  let s2 := putFld s1 Reg.devClkStatus 0 2 (getFld old Reg.devClkStatus 0 2)
  let s3 := putFld s2 Reg.devThermStatus 39 2 (if clearTrip then 0 else getFld old Reg.devThermStatus 39 2)
  let s4 := setReg s3 Reg.devStartCtrl (getReg old Reg.devStartCtrl)
  setReg (setReg s4 (Reg.hubLastgasp 0) (getReg old (Reg.hubLastgasp 0)))
    (Reg.hubLastgasp 1) (getReg old (Reg.hubLastgasp 1))

/-- How a half's heath state enters a cold reset: a half with VDD_HEATH, and no trip latched, starts. -/
def coldHalf (x : HalfState) (clearTrip : Bool) : HalfState :=
  { HalfState.reset with
    phase := if x.phase = .unpowered then .unpowered else if x.trip ∧ ¬ clearTrip then .down else .starting
    ordinal := x.ordinal + 1, fails := x.fails, trip := x.trip && !clearTrip
    restarts := x.restarts, failing := x.failing, failStep := x.failStep, failCode := x.failCode
    straps := x.straps, fwVersion := x.fwVersion, fwSlot := x.fwSlot }

/-- The lease is contested anew: the ACQUIRE that wins it increments the epoch. -/
def Lease.contest (l : Lease) : Lease := { l with holder := 0, queued := 0, last := 0 }

/-- The NVS through a cold reset: its contents are kept, the hubs have not read it in this start, and the wipe-pending mark stands until
step 11 ends (R70). -/
def Nvs.cold (n : Nvs) : Nvs := { n with ok := false, lastSeq := n.lastSeq + 1, lease := n.lease.contest, wipePending := true }

/-- A half returns to its own reference when that is present, else runs from the other one (R51). -/
def ownReference (s : State) (h : Half) : State :=
  putBit s Reg.devClkStatus (2 + h.idx) (!getBit s Reg.devClkStatus h.idx && getBit s Reg.devClkStatus h.other.idx)

/-- A cold reset begins (Table 3.1, Table 3.2). -/
def beginCold (s : State) (clearTrip : Bool) : State :=
  let seq := s.nvs.lastSeq + 1
  let fresh : State := { State.reset with
    pending := s.pending, free := s.free, out := s.out
    clock := { State.reset.clock with now := s.clock.now }
    fuses := s.fuses, i3c := s.i3c, tap := s.tap
    nvs := s.nvs.cold
    west := { coldHalf s.west clearTrip with seq := seq, began := s.clock.now, fullTest := getBit s Reg.devStartCtrl 0 }
    east := { coldHalf s.east clearTrip with seq := seq, began := s.clock.now, fullTest := getBit s Reg.devStartCtrl 0 } }
  let s0 := keepLevels s fresh clearTrip
  let s1 := ownReference (ownReference s0 .west) .east
  let s2 := putBit s1 Reg.devClkStatus 9 (!getBit s1 Reg.devClkStatus 0 && !getBit s1 Reg.devClkStatus 1)
  ledgerWrite s2 (headerRecord s1 seq 0 0 0 0 ResetKind.cold.code)

/-- The ports of a half lose their links and time; the time has another parent, or none. -/
def clearPorts (s : State) (h : Half) : State :=
  let mine := fun p => decide (portHalf p = h)
  let s1 := { s with
    ports := Map.clearWhere mine s.ports
    links := Map.clearWhere mine s.links
    times := Map.clearWhere mine s.times
    inbox := s.inbox.filter fun a => !(decide (a.port < 6) && mine a.port) }
  if s1.clock.parent.any mine then chooseParent s1 else s1

/-- The PCIe port of a half returns to reset: its physical function and its interrupts (Table 3.2). -/
def clearPcie (s : State) (h : Half) : State := { s with
  d3hot := Map.clearWhere (fun k => decide (k = h.idx)) s.d3hot
  moves := s.moves.map fun m => if m.hub = h then { m with running := false } else m }

/-- The memory dies of a half whose T1 is kept enter self-refresh (R65). -/
def restDies (s : State) (h : Half) : State :=
  (List.range 4).foldl (fun s i => s.setDie (4 * h.idx + i) { DiePair.fresh 0 with selfRefresh := true }) s

/-- The memory dies of a half lose their pages (R65, R465). -/
def loseDies (s : State) (h : Half) : State :=
  (List.range 4).foldl (fun s i => dieLost s (4 * h.idx + i)) s

/-- The part of a half reset that loses the half's own state: its blocks' registers and counters, its hub's mirror and trace
store, its ports, its channels and near-bank units, its dies' power state. -/
def clearHalf (s : State) (h : Half) : State :=
  let mine := halfOwns h
  let s1 := { s with
    regs := Map.clearWhere mine s.regs
    cnt := Map.clearWhere mine s.cnt
    snap := Map.clearWhere mine s.snap
    inForce := Map.clearWhere mine s.inForce
    quiescing := Map.clearWhere mine s.quiescing
    sources := Map.clearWhere (fun k => decide (traceHub k = h)) s.sources
    gatedWrites := s.gatedWrites.filter fun w => blkHalf (w.1.off / 0x1000 * 0x1000) ≠ h.idx
    chans := Map.clearWhere (fun k => decide (dieHalf (k / 16) = h)) s.chans
    nbus := Map.clearWhere (fun k => decide (dieHalf (k / 1024) = h)) s.nbus
    dies := Map.clearWhere (fun d => decide (dieHalf d = h)) s.dies }
  clearPcie (clearPorts (s1.setHub h HubState.reset) h) h

/-- A stop ends and its held frames are lost (R521, Table 15.8). -/
def endStop (s : State) : State :=
  setReg { s with
    links := Map.mapVals Link.fresh (fun _ l => { l with held := [], stuck := [] }) s.links
    inForce := Map.del s.inForce Reg.cntStopAt } Reg.cntStopStatus (getReg s Reg.cntStopStatus &&& ~~~(ones 0 3))

/-- A half reset begins. One that loses the half's T1 leaves the wipe-pending mark until step 11 ends (R65, R70). -/
def beginHalfReset (s : State) (h : Half) : State :=
  let kept := (s.half h).t1Kept
  let s1 := clearHalf (abandonStep s) h
  let seq := s1.nvs.lastSeq + 1
  let s2 := passLease { s1 with nvs := { s1.nvs with lastSeq := seq, wipePending := s1.nvs.wipePending || !kept } } h
  let s3 := endStop (if kept then restDies s2 h else loseDies s2 h)
  let s4 := ledgerWrite s3 (headerRecord s3 seq (resetScope .half h) 0 0 0 ResetKind.half.code)
  ownReference (beginHalf s4 h .half seq 1) h

/-- A die pair in a low-power state wakes for the start (R53). -/
def wakeDie (s : State) (d : Nat) : State :=
  if (s.die d).power = .on then s else s.setDie d { s.die d with power := .on, selfRefresh := false }

/-- A warm reset begins on the halves in service. -/
def beginWarm (s : State) : State :=
  let s1 := abandonStep s
  let seq := s1.nvs.lastSeq + 1
  let s2 := { s1 with
    regs := Map.clearWhere computeOwns s1.regs
    gatedWrites := []
    nvs := { s1.nvs with lastSeq := seq, lease := s1.nvs.lease.contest } }
  let s3 := (List.range 8).foldl wakeDie (mcWait (mcWait (endStop s2) .west) .east)
  let s4 := ledgerWrite s3 (headerRecord s3 seq 0 0 0 0 ResetKind.warm.code)
  let go := fun s h => if (s.half h).phase = .ready then beginHalf s h .warm seq 4 else s
  go (go s4 .west) .east

/-- A half is in a start of kind `k`. -/
def startingAs (s : State) (h : Half) (k : ResetKind) : Bool := decide ((s.half h).phase = .starting ∧ (s.half h).kind = k)

/-- A cold reset is requested. -/
def requestCold (s : State) (clearTrip : Bool) : State :=
  if startingAs s .west .cold then discardReset s .cold .west .cold s.west.seq
  else if startingAs s .east .cold then discardReset s .cold .east .cold s.east.seq
  else beginCold (supersede (supersede s .west .cold) .east .cold) clearTrip

/-- A half reset of `h` is requested; it abandons a warm reset in its own half. -/
def requestHalf (s : State) (h : Half) : State :=
  if startingAs s h .cold then discardReset s .half h .cold (s.half h).seq
  else if startingAs s h .half then discardReset s .half h .half (s.half h).seq
  else beginHalfReset (supersede s h .half) h

/-- A warm reset is requested; with a wipe-pending mark it runs as a cold reset (R70). -/
def requestWarm (s : State) : State :=
  if s.west.phase = .starting then discardReset s .warm .west s.west.kind s.west.seq
  else if s.east.phase = .starting then discardReset s .warm .east s.east.kind s.east.seq
  else if s.nvs.wipePending then beginCold s false
  else beginWarm s

end Sys2Proof.Machine
end

