-- ==== Sys2Proof/Machine/Power.lean ====
section
/-!
DEFINITION. Power, thermal and clock events: rails and PWRGD (R41 to R43, R544), the governor (R44 to R46), temperatures (R47,
R48), reference clocks (R51), idle states (R53 to R55), and the pins COLD_RST_N, PERST_N and EPOCH_IN (R35).
-/
namespace Sys2Proof.Machine

/-! ### Rails and PWRGD -/

/-- VDD_HEATH of both halves is out of tolerance: every heath-domain record is lost (R544), and the NVS die loses power (R468). -/
def heathLost (s : State) : State :=
  let s1 := setReg (setReg s (Reg.hubLastgasp 0) 0) (Reg.hubLastgasp 1) 0
  let s2 := setReg (setReg (putFld s1 Reg.devThermStatus 39 2 0) Reg.devStartCtrl (regReset Reg.devStartCtrl))
    Reg.devFailStatus 0
  let s3 := putFld s2 Reg.devRailStatus 32 16 0
  let lose := fun (x : HalfState) => { x with
    phase := .unpowered, trip := false, fails := [], failing := 0, restarts := 0, failStep := 0, failCode := 0 }
  { s3 with west := lose s3.west, east := lose s3.east, nvs := { s3.nvs with ok := false, lease := s3.nvs.lease.contest } }

def execVddHeathInTolerance (h : Half) (s : State) : Result :=
  if heathOk s h then .next s
  else
    let s1 := putBit s Reg.devRailStatus (12 + 5 * h.idx) true
    if !heathOk s h.other then
      .next (beginCold (s1.setHalf h { s1.half h with phase := .down }) false)
    else if startingAs s h.other .cold ∧ ¬ (s1.half h).trip then
      .next (beginHalf s1 h .cold (s1.half h.other).seq 1)
    else .next (s1.setHalf h { s1.half h with phase := .down })

def execVddHeathRemoval (h : Half) (s : State) : Result :=
  if !heathOk s h ∨ pwrgd s h then .next s
  else
    let s1 := putBit s Reg.devRailStatus (12 + 5 * h.idx) false
    let s2 := setReg (putBit s1 Reg.devThermStatus (39 + h.idx) false) (Reg.hubLastgasp h.idx) 0
    let s3 := s2.setHalf h { s2.half h with phase := .unpowered, trip := false, t1Kept := false }
    .next (if heathOk s h.other then s3 else heathLost s3)

/-- PWRGD rises with a rail out of tolerance: the half is held with RAIL_SEQ at step 1, its alert set (R41). -/
def holdRailSeq (s : State) (h : Half) (rail : Nat) : State :=
  let x := s.half h
  let s1 := s.setHalf h { x with
    phase := .heldRail, step := 1, failStep := 1, failCode := 1, began := s.clock.now, beganStamp := stamp s }
  railAlert (ledgerWrite s1 (stepRecord s1 h 0 0 1 0x0001 rail)) h

/-- The memory rails may have left tolerance while PWRGD was low and nothing watched them: open (R65, log 60). -/
def execPwrgdAssert (h : Half) (rails : BitVec 18) (s : State) : Result :=
  if pwrgd s h ∨ !heathOk s h then .next s
  else
    let (v, s0) := drawFree s
    let s1 := refreshRails (putBit s0 Reg.devRailStatus (18 + h.idx) true) h rails
    let s2 := s1.setHalf h { s1.half h with t1Kept := (s1.half h).t1Kept && memRailsOk h rails && bit v 0 }
    if (s2.half h).trip then .next s2
    else match badRail h rails with
      | some r => .next (holdRailSeq s2 h r)
      | none =>
        if (s2.half h).phase = .starting then .next s2
        else if startingAs s2 h.other .cold then .next (beginHalf s2 h .cold (s2.half h.other).seq 1)
        else .next (requestHalf s2 h)

def execPwrgdDeassert (h : Half) (s : State) : Result :=
  if !pwrgd s h then .next s
  else
    let s1 := putBit s Reg.devRailStatus (18 + h.idx) false
    let s2 := halfDown s1 h 0x001
    .next (halfEvent s2 h 0x012 h.idx 0)

/-- One more rail fault: counted, the half's alert set, the event logged (R43). -/
def noteRailFault (s : State) (rail : Nat) : State :=
  let s1 := putBit s Reg.devRailStatus rail false
  let s2 := putFld s1 Reg.devRailStatus 32 16 (satAdd 0xFFFF (getFld s1 Reg.devRailStatus 32 16) 1)
  halfEvent (railAlert s2 (railHalf rail)) (railHalf rail) 0x011 rail 0

def execRailFault (rail : Fin 18) (s : State) : Result :=
  let h := railHalf rail.val
  if !pwrgd s h then .next s
  else
    let s1 := noteRailFault s rail.val
    if rail.val < 8 then
      .next (withoutDie (dieLost (s1.setDie rail.val { s1.die rail.val with stopped := true }) rail.val) h)
    else
      let x := s1.half h
      let s2 := s1.setHalf h { x with t1Kept := x.t1Kept && decide (rail.val ∉ [8, 9, 13, 14]) }
      let s3 := halfDown (if startingAs s2 h .warm then supersede s2 h .half else s2) h 0x002
      if rail.val = 12 ∨ rail.val = 17 then
        let s4 := s3.setHalf h { s3.half h with phase := .unpowered }
        .next (if heathOk s4 h.other then s4 else heathLost s4)
      else .next s3

def execColdRstN (s : State) : Result :=
  let untrip := fun (s : State) (h : Half) => s.setHalf h { s.half h with trip := false }
  let s1 := untrip (untrip (putFld s Reg.devThermStatus 39 2 0) .west) .east
  .next (requestCold s1 true)

/-! ### The governor -/

/-- Core cycles kept of 16 at a throttle level (Table 2.7). -/
def coreKeep (level : Nat) : Nat := [16, 16, 16, 14, 12, 10, 8].getD level 8

/-- The throttle level. -/
def powerLevel (s : State) : Nat := getFld s Reg.devPwrStatus 32 3

/-- Take a new level: the core cycles kept follow, the event THROTTLE_LEVEL is logged (R45, Table 15.10). -/
def setLevel (s : State) (new : Nat) (thermal power : Bool) : State :=
  let old := powerLevel s
  let s1 := putFld s Reg.devPwrStatus 32 5 (new + 8 * b2n thermal + 16 * b2n power)
  if new = old then s1
  else
    let s2 := putFld s1 Reg.devClkStatus 4 5 (coreKeep new)
    let now := s.clock.now
    let s3 := { s2 with governor := { s2.governor with
      raisedAt := if old < new then now + 1 else s2.governor.raisedAt
      changedAt := now + 1
      sixSince := if new = 6 then now + 1 else 0 } }
    devEvent s3 0x014 new (b2n thermal + 2 * b2n power)

/-- Load the averages of DEV_PWR_STATUS (R57). -/
def loadAverages (s : State) (p : PowerSample) : State :=
  putFld (putFld s Reg.devPwrStatus 0 16 (min 0xFFFF p.pkg100)) Reg.devPwrStatus 16 16 (min 0xFFFF p.pkg1m)

/-- A 100 µs average exceeds its limit. -/
def overLimit (s : State) (p : PowerSample) : Bool :=
  decide (getFld s Reg.devPwrCfg 0 16 < p.pkg100) || decide (getFld s Reg.devPwrCfg 16 16 < p.west100) ||
    decide (getFld s Reg.devPwrCfg 16 16 < p.east100)

/-- The 1 ms averages are below 95 % of both limits. -/
def underLimits (s : State) (p : PowerSample) : Bool :=
  let pkg := getFld s Reg.devPwrCfg 0 16
  let half := getFld s Reg.devPwrCfg 16 16
  decide (p.pkg1m * 100 < pkg * 95) && decide (p.west1m * 100 < half * 95) && decide (p.east1m * 100 < half * 95)

/-- The level was raised less than 100 µs ago (rule 2 of R44). -/
def raisedLately (s : State) : Bool := decide (0 < s.governor.raisedAt ∧ s.clock.now + 1 < s.governor.raisedAt + 100000)

def execGovernorEvaluation (p : PowerSample) (s : State) : Result :=
  let s1 := loadAverages s p
  let lv := powerLevel s
  let want := s.governor.thermalAt
  if raisedLately s then .next s1
  else if overLimit s p then .next (setLevel s1 (min 6 (lv + 1)) (getBit s Reg.devPwrStatus 35) true)
  else if lv < want then .next (setLevel s1 (min 6 want) true (getBit s Reg.devPwrStatus 36))
  else .next s1

def execRailOvercurrent (_rail : Fin 18) (p : PowerSample) (s : State) : Result :=
  let s1 := putBit (loadAverages s p) Reg.devPwrStatus 37 true
  .next (setCause (setLevel s1 6 (getBit s Reg.devPwrStatus 35) true) Reg.devBlk 25)

/-- Some die is within 3 °C of its throttle threshold, by the last sample (rule 5 of R44). -/
def nearThrottle (s : State) : Bool := getBit s Reg.devThermStatus 38 || s.governor.near

/-- The level has been unchanged for 1 ms (rule 5 of R44). -/
def levelSettled (s : State) : Bool := decide (s.governor.changedAt = 0 ∨ s.governor.changedAt + 1000000 ≤ s.clock.now + 1)

/-- Level 6 holds for 10 ms (R44). -/
def sixLong (s : State) : Bool := decide (s.governor.sixSince ≠ 0 ∧ s.governor.sixSince + 10000000 ≤ s.clock.now + 1)

def execThrottleLevelFall (p : PowerSample) (s : State) : Result :=
  let s1 := loadAverages s p
  let lv := powerLevel s
  if raisedLately s ∨ overLimit s p ∨ lv < s.governor.thermalAt ∨ lv = 0 ∨ !levelSettled s ∨ !underLimits s p ∨ nearThrottle s then .next s1
  else .next (setLevel s1 (lv - 1) (getBit s Reg.devPwrStatus 35 && decide (1 < lv)) (getBit s Reg.devPwrStatus 36 && decide (1 < lv)))

def execLimitUnmet (p : PowerSample) (s : State) : Result :=
  if powerLevel s = 6 ∧ overLimit s p ∧ sixLong s then
    let s1 := putBit (loadAverages s p) Reg.devPwrStatus 38 true
    .next (devEvent (setCause s1 Reg.devBlk 25) 0x015 p.pkg100 (p.west100 % 2 ^ 32 + p.east100 * 2 ^ 32))
  else .next s

/-! ### Temperatures -/

/-- Throttle and trip thresholds of a die of Table 2.8, numbered as in Table 15.6; optical engines are ports 16 to 21. -/
def throttleAt (die : Nat) : Int := if die < 8 then 105 else if die < 16 then 98 else if die < 22 then 80 else 100
def tripAt (die : Nat) : Int := if die < 8 then 115 else if die < 16 then 105 else if die < 22 then 90 else 110

/-- The temperatures of the dies of a sample in the order of Table 15.6. -/
def sampleDies (t : ThermalSample) : List Int := t.cd.toList ++ t.md.toList ++ t.oe.toList ++ t.hub.toList

/-- The largest of a list of temperatures, and the first place that holds it. -/
def hottest : List Int → Int × Nat
  | [] => (-40, 0)
  | x :: xs => let (m, i) := hottest xs; if xs = [] ∨ m ≤ x then (x, 0) else (m, i + 1)

/-- DEV_THERM_STATUS after a sample (R58). -/
def thermStatus (s : State) (t : ThermalSample) (active : Bool) : Word :=
  let (c, cd) := hottest t.cd.toList
  let (m, md) := hottest t.md.toList
  let o := (hottest t.oe.toList).1
  let hb := (hottest t.hub.toList).1
  word (twos 8 c + twos 8 m * 2 ^ 8 + twos 8 o * 2 ^ 16 + twos 8 hb * 2 ^ 24 + cd * 2 ^ 32 + md * 2 ^ 35 + b2n active * 2 ^ 38
    + getFld s Reg.devThermStatus 39 2 * 2 ^ 39)

/-- A half has a die at or above its throttle threshold. -/
def halfHot (t : ThermalSample) (h : Half) : Bool :=
  ((sampleDies t).zipIdx).any fun (x, i) => decide (throttleAt i ≤ x) &&
    decide ((if i < 16 then (dieHalf (i % 8)).idx else if i < 22 then i % 2 else i - 22) = h.idx)

/-- The temperature of an optical engine: at its trip threshold its port goes down, and it stays disabled until the engine has fallen below its
throttle threshold (Table 2.8, R397). -/
def opticalTemp (s : State) (p : Nat) (temp : Int) : State :=
  let trips := decide (90 ≤ temp)
  let s1 := s.setPort p { s.port p with hot := trips || ((s.port p).hot && decide (80 ≤ temp)) }
  if trips ∧ (s.port p).phase ∉ [.off, .down, .fallow] then linkDown s1 p 5 else s1

/-- The thresholds of near-bank thermal steps 1 to 3, and the step of a temperature (Table 6.10). -/
def nbuThreshold (k : Nat) : Int := if k = 1 then 90 else if k = 2 then 94 else 97
def nbuStepOf (temp : Int) : Nat := if 97 ≤ temp then 3 else if 94 ≤ temp then 2 else if 90 ≤ temp then 1 else 0

/-- NBU_STATUS.THERM_STEP of MDd. -/
def nbuStep (s : State) (d : Nat) : Nat := getFld s (Reg.nbuStatus d 0) 4 2
def setNbuStep (s : State) (d k : Nat) : State := putFld (putFld s (Reg.nbuStatus d 0) 4 2 k) (Reg.nbuStatus d 1) 4 2 k

/-- The near-bank units of MDd take a higher thermal step as soon as a sample reaches its threshold (R188). -/
def nbuThermalRise (s : State) (d : Nat) (temp : Int) : State := setNbuStep s d (max (nbuStep s d) (nbuStepOf temp))

/-- A step falls by one when the sensor is at least 2 °C below its threshold (R188). -/
def execNbuThermalStepFall (d : Fin 8) (temp : Int) (s : State) : Result :=
  let k := nbuStep s d.val
  .next (if k ≠ 0 ∧ temp + 2 ≤ nbuThreshold k then setNbuStep s d.val (k - 1) else s)

def execThermalSample (t : ThermalSample) (s : State) : Result :=
  let active := ((sampleDies t).zipIdx).any fun (x, i) => decide (throttleAt i ≤ x)
  let near := ((sampleDies t).zipIdx).any fun (x, i) => decide (throttleAt i ≤ x + 3)
  let s1 := setReg s Reg.devThermStatus (thermStatus s t active)
  let s2 := { s1 with governor := { s1.governor with
    near := near, thermalAt := if active then min 6 (powerLevel s + 1) else 0 } }
  let warn := fun (s : State) (h : Half) => if halfHot t h then setCause s Reg.devBlk (19 + h.idx) else s
  let s3 := warn (warn s2 .west) .east
  let s4 := (t.oe.toList.zipIdx).foldl (fun s (x, p) => opticalTemp s p x) s3
  let s5 := (t.md.toList.zipIdx).foldl (fun s (x, d) => nbuThermalRise s d x) s4
  .next (if 100 ≤ t.nvs then
      putBit { s5 with nvs := { s5.nvs with writesStopped := true } } Reg.nvsStatus 3 true
    else s5)

def execThermalTrip (die : Fin 24) (temp : Int) (s : State) : Result :=
  let h : Half := if die.val < 16 then dieHalf (die.val % 8) else if die.val = 22 then .west else .east
  if (16 ≤ die.val ∧ die.val < 22) ∨ temp < tripAt die.val ∨ (s.half h).trip then .next s
  else
    let s1 := putBit s Reg.devThermStatus (39 + h.idx) true
    let s2 := halfEvent (halfDown s1 h 0x003) h 0x013 die.val 0
    let s3 := s2.setHalf h { s2.half h with trip := true }
    .next (if s3.west.trip ∧ s3.east.trip then failStop s3 6 else s3)

def execNvsWriteResume (s : State) : Result :=
  .next (putBit { s with nvs := { s.nvs with writesStopped := false } } Reg.nvsStatus 3 false)

/-! ### Reference clocks, straps -/

/-- Both references are lost: TIME_LOST, and the device fail-stops at the next step boundary (R51). -/
def timeLost (s : State) : State :=
  let s1 := devEvent (putBit s Reg.devClkStatus 9 true) 0x017 0 0
  if stepRunning s1 then { s1 with deferred := s1.deferred ++ [.failStop 3] } else failStop s1 3

def execRefclkLoss (h : Half) (s : State) : Result :=
  if !getBit s Reg.devClkStatus h.idx then .next s
  else
    let s1 := putBit s Reg.devClkStatus h.idx false
    if !getBit s1 Reg.devClkStatus h.other.idx then .next (timeLost s1)
    else
      let s2 := putBit s1 Reg.devClkStatus (2 + h.idx) true
      let s3 := putFld s2 Reg.devClkStatus 16 16 (getFld s2 Reg.devClkStatus 16 16 + 1)
      .next (halfEvent (setCause s3 Reg.devBlk (21 + h.idx)) h 0x016 h.idx 0)

def execRefclkReturn (h : Half) (s : State) : Result := .next (putBit s Reg.devClkStatus h.idx true)

def execStrapReread (h : Half) (straps : BitVec 16) (s : State) : Result :=
  let x := s.half h
  if !heathOk s h ∨ (x.phase = .starting ∧ x.step = 1) ∨ straps = x.straps then .next s
  else .next (halfEvent (setCause s Reg.devBlk (23 + h.idx)) h 0x010 x.straps.toNat straps.toNat)

/-! ### Idle states (R53 to R55) -/

/-- Nothing on the device keeps its dies from a low-power state: no step, no entry in PREFILL, READY or IN_STEP, no migration, no
announced step time (R54). -/
def idleAllowed (s : State) : Bool :=
  !stepRunning s && !(s.entries.any fun e => decide (e.2.state = 2 ∨ e.2.state = 3 ∨ e.2.state = 4)) &&
    !(s.moves.any fun m => m.running && !m.finished) && s.steps.tn.isNone

def execClockGate (d : Fin 8) (s : State) : Result :=
  if getBit s Reg.devPwrCfg 32 ∧ idleAllowed s ∧ (s.die d).power = .on then
    .next (s.setDie d { s.die d with power := .clockGated })
  else .next s

/-- T0 of the cores of a compute die reads zero (Table 2.10). -/
def clearDieT0 (s : State) (d : Nat) : State :=
  { s with t0 := Map.clearWhere (fun k => decide (k / 2 ^ 23 / 34 = d)) s.t0 }

/-- A job is queued for a bank pair of the memory die (R185). -/
def jobQueued (s : State) (d : Nat) : Bool := s.nbus.any fun x => decide (x.1 / 1024 = d) && decide (x.2.jobs ≠ [])

def execPowerGate (d : Fin 8) (s : State) : Result :=
  if getBit s Reg.devPwrCfg 33 ∧ idleAllowed s ∧ jobQueued s d = false ∧ ((s.die d).power = .on ∨ (s.die d).power = .clockGated) then
    .next (clearDieT0 (s.setDie d { s.die d with power := .powerGated, selfRefresh := true }) d)
  else .next s

def execSelfRefreshExit (d : Fin 8) (s : State) : Result :=
  .next (s.setDie d { s.die d with selfRefresh := false })

/-! ### PERST_N -/

/-- PERST_N of a port: its physical function, and the functions bound to it, read as after cold reset, and the port is down until its
link returns (R437). -/
def execPerstN (port : Half) (s : State) : Result :=
  let mine := fun (n : Nat) => decide (n < 64) && decide (getFld s (Reg.partCfg n) 2 1 = port.idx)
  let s1 := { s with
    d3hot := Map.clearWhere (fun k => decide (k = port.idx) || (decide (2 ≤ k) && mine (k - 2))) s.d3hot
    msix := Map.clearWhere (fun k => decide (0x20000000 ≤ k) && mine ((k - 0x20000000) / 0x1000)) s.msix }
  .next (putBit s1 (Reg.hubMigStatus port.idx) 16 true)

end Sys2Proof.Machine
end

