-- ==== Sys2Proof/Machine/Board.lean ====
section
/-!
DEFINITION. Board access: the I3C target (R37, R541), the test access port (R38), and the colophon's image (Table 3.8).
-/
namespace Sys2Proof.Machine

/-! ### The colophon's image -/

/-- Bytes 0x00 to 0x7B of the colophon (Table 3.8). -/
def colophonBody (c : Colophon) : List Byte :=
  leBytes 4 0x5A250C01 ++ leBytes 2 0x0100 ++ leBytes 2 0x5A25 ++ leBytes 1 0xB0 ++ leBytes 1 c.lcState ++
  leBytes 2 (b2n c.skipped + 2 * b2n c.derated) ++ leBytes 4 0 ++ leBytes 8 c.serial.toNat ++ leBytes 2 c.coord ++
  leBytes 2 c.shape ++ leBytes 2 0x0200 ++ leBytes 2 0x0302 ++ leBytes 4 c.fwVersion ++ leBytes 4 c.fwSlot ++
  leBytes 8 c.twinSerial.toNat ++ leBytes 4 c.mfgDay ++ leBytes 4 c.startSeq ++ leBytes 8 c.epochBase.toNat ++
  leBytes 4 c.fallowSummary ++ leBytes 56 0

/-- The 128 bytes of the colophon, CHECK last. -/
def colophonBytes (c : Colophon) : List Byte := colophonBody c ++ leBytes 4 (crc32c (colophonBody c))

/-- Load NVS_COLOPHON0 to NVS_COLOPHON15 in one cycle (R540). -/
def showColophon (s : State) (c : Colophon) : State :=
  (toWords (colophonBytes c)).zipIdx.foldl (fun s (w, i) => setReg s (Reg.nvsColophon i) w) s

/-! ### I3C -/

/-- The bus answers while VDD_HEATH of either half is in tolerance. -/
def i3cAlive (s : State) : Bool := heathOk s .west || heathOk s .east

/-- The static address, 0x50 + STRAP_SLOT. -/
def i3cStatic (s : State) : BitVec 7 := 
  BitVec.ofNat 7 (0x50 + (if heathOk s .west then s.west else s.east).straps.toNat / 2 ^ 14)

/-- The address the target answers at. -/
def i3cAddr (s : State) : BitVec 7 := s.i3c.dynAddr.getD (i3cStatic s)

def execEntdaa (addr : BitVec 7) (s : State) : Result :=
  if i3cAlive s ∧ s.i3c.dynAddr = none then .next { s with i3c := { s.i3c with dynAddr := some addr } } else .next s

def execSetdasa (static dyn : BitVec 7) (s : State) : Result :=
  if i3cAlive s ∧ s.i3c.dynAddr = none ∧ static = i3cStatic s then
    .next { s with i3c := { s.i3c with dynAddr := some dyn } }
  else .next s

/-- DEV_PWR_CFG takes a write only when every field is in its range (R56). -/
def pwrCfgOk (v : Word) : Bool :=
  decide (1200 ≤ fld v 0 16 ∧ fld v 0 16 ≤ 2400 ∧ 600 ≤ fld v 16 16 ∧ fld v 16 16 ≤ 1300 ∧ 1 ≤ fld v 40 8)

/-- What an I3C private write may write (Table 16.4). -/
def i3cWriteReg (s : State) (a : Nat) (v : Word) : State :=
  let row := findRow rowsDev0 (a % 2 ^ 26)
  match locate 0 with
  | none => s
  | some p =>
    if a = Reg.devPwrCfg ∧ pwrCfgOk v ∨ a = Reg.devAlertMask then writePlain s p a a row v 0 else s

def execI3cPrivateWrite (addr : BitVec 7) (data : List Byte) (s : State) : Result :=
  if !i3cAlive s ∨ addr ≠ i3cAddr s ∨ (data.length ≠ 4 ∧ data.length ≠ 12) then .next s
  else
    let a := ofLe (data.take 4)
    let s1 := { s with i3c := { s.i3c with addr := BitVec.ofNat 32 a } }
    .next (if data.length = 12 ∧ a / 2 ^ 28 = 0 then i3cWriteReg s1 a (word (ofLe (data.drop 4))) else s1)

/-- The registers the bus reads (Table 16.4). -/
def i3cReadable : List Nat :=
  [Reg.devPwrCfg, Reg.devPwrStatus, Reg.devThermStatus, Reg.devClkStatus, Reg.devRailStatus, Reg.devAlertMask,
    Reg.hubLastgasp 0, Reg.hubLastgasp 1]

/-- The 8 bytes at a transfer address; any other address reads 0, as does the ledger while the NVS is unreachable. -/
def i3cRead (s : State) (a : Nat) : Word :=
  let o := a % 2 ^ 28
  if a / 2 ^ 28 = 0 ∧ o ∈ i3cReadable then getReg s o
  else if a / 2 ^ 28 = 1 ∧ o < 0x20000 ∧ o % 8 = 0 ∧ s.nvs.ok then
    match Map.get (fun _ => none) (s.nvs.ledger.map fun e => (e.1, some e.2)) (o / 32) with
    | some r => word (leAt (ledgerBytes r) (o % 32) 8)
    | none => 0
  else if a / 2 ^ 28 = 2 ∧ o < 128 ∧ o % 8 = 0 then getReg s (Reg.nvsColophon (o / 8))
  else 0

def execI3cPrivateRead (addr : BitVec 7) (s : State) : Result :=
  if !i3cAlive s ∨ addr ≠ i3cAddr s then .next s
  else .next (emit { s with i3c := { s.i3c with addr := s.i3c.addr + 8 } } (.i3c (i3cRead s s.i3c.addr.toNat)))

/-! ### The test access port (IEEE 1149.1) -/

/-- Shift `tdi` through a data register that has captured `cap`: the bits out of TDO, and what the register holds after. -/
def shiftDr (cap tdi : List Bool) : List Bool × List Bool := ((cap ++ tdi).take tdi.length, (cap ++ tdi).drop tdi.length)

/-- Only BYPASS and IDCODE act in life-cycle state DEPLOYED (R38). -/
def tapLocked (s : State) : Bool := getBit s Reg.devLifecycle 2 && decide (getFld s Reg.devLifecycle 0 2 = 2)

/-- BYPASS: a one-bit register that captures 0. -/
def tapBypass (s : State) (tdi : List Bool) : State :=
  emit { s with tap := { s.tap with instr := .bypass, driven := none, floating := false } } (.tdo (shiftDr [false] tdi).1)

def execBypass (tdi : List Bool) (s : State) : Result := .next (tapBypass s tdi)

/-- IDCODE of stepping B0, least significant bit first (R38). -/
def idcodeBits : List Bool := (List.range 32).map fun i => (0xB5A25C4B : Nat).testBit i

def execIdcode (tdi : List Bool) (s : State) : Result :=
  .next (emit { s with tap := { s.tap with instr := .idcode, driven := none, floating := false } }
    (.tdo (shiftDr idcodeBits tdi).1))

def execSamplePreload (tdi pins : List Bool) (s : State) : Result :=
  if tapLocked s then .next (tapBypass s tdi)
  else
    let (out, reg) := shiftDr pins tdi
    .next (emit { s with tap := ⟨.samplePreload, reg, none, false⟩ } (.tdo out))

def execExtest (tdi pins : List Bool) (s : State) : Result :=
  if tapLocked s then .next (tapBypass s tdi)
  else
    let (out, reg) := shiftDr pins tdi
    .next (emit { s with tap := ⟨.extest, reg, some reg, false⟩ } (.tdo out))

def execClamp (tdi : List Bool) (s : State) : Result :=
  if tapLocked s then .next (tapBypass s tdi)
  else .next (emit { s with tap := { s.tap with instr := .clamp, driven := some s.tap.boundary, floating := false } }
    (.tdo (shiftDr [false] tdi).1))

def execHighz (tdi : List Bool) (s : State) : Result :=
  if tapLocked s then .next (tapBypass s tdi)
  else .next (emit { s with tap := { s.tap with instr := .highz, driven := none, floating := true } }
    (.tdo (shiftDr [false] tdi).1))

end Sys2Proof.Machine
end

