-- ==== Sys2Proof/Machine/Ports.lean ====
section
/-!
DEFINITION. The ports (chapter 12): training and light, colophon summaries, FAB_CTRL, FAB_MAP and the routing table, lanes, the failure
of a port and the way around it.
-/
namespace Sys2Proof.Machine

/-! ### Training (R71, R384, R397) -/

def execPortTrained (p : Fin 6) (data : BitVec 64) (spares : BitVec 4) (s : State) : Result := .next <|
  if (s.port p).phase ≠ .training then s
  else
    let good := bitsOf 64 data.toNat ++ (bitsOf 4 spares.toNat).map (64 + ·)
    match pickLanes good with
    | [] => portFallow s p 8
    | lanes =>
      let w := lanes.length
      let s1 := (List.range 4).foldl (fun s k => putBit s (Reg.fabSpareMap p) (8 * k + 6) (!spares.getLsbD k)) s
      let s2 := setLanes s1 p lanes
      let s3 := endPort (s2.setPort p { s2.port p with phase := .verifying }) p 8 0 (if w = 64 then 0 else 0x0031) (if w = 64 then 0 else w)
      let s4 := s3.setPort p { s3.port p with began := s3.clock.now, beganStamp := stamp s3 }
      sendSummary s4 p

def execLinkWaitExpiry (p : Fin 6) (s : State) : Result := .next <|
  if (s.port p).phase ≠ .training then s
  else
    let h := portHalf p
    let s1 := s.setPort p { s.port p with phase := .dark, outcome := 4, joins := true }
    let us := getFld s Reg.devStartCtrl 8 8 * 1000000
    if inStep s h 8 ∧ ¬ (s.half h).done.testBit p then
      doneInstance (ledgerWrite s1 { stepRecord s1 h p 0 0 0x0030 0 with duration := us }) h p
    else ledgerWrite s1 { portRecord s1 p 8 0 0x0030 0 with duration := us }

def execTrainingTimeout (p : Fin 6) (s : State) : Result := .next <|
  if (s.port p).phase = .training then portFallow s p 8 else s

def execPartnerLight (p : Fin 6) (s : State) : Result := .next <|
  match (s.port p).phase with
  | .dark => trainPort s p true
  | .patching => trainPort s p false
  | _ => s

def execPatchDarkTimeout (p : Fin 6) (s : State) : Result := .next <|
  if (s.port p).phase = .patching then
    capture (s.setPort p { s.port p with phase := .dark, outcome := 4 }) (Reg.fabBlk p) 0x0501 0 noPart 0 1
  else s

/-! ### Summaries (R405) -/

/-- The port may verify: it is trained, and its half's start has reached step 9. -/
def mayVerify (s : State) (p : Nat) : Bool :=
  let x := s.half (portHalf p)
  decide ((s.port p).phase = .verifying ∨ (s.port p).phase = .up) && !decide (x.phase = .starting ∧ x.kind ≠ .warm ∧ x.step < 9)

def execSummary (p : Fin 6) (s : State) : Result := .next <|
  if !mayVerify s p then s
  else onMsg s (fun m => decide (m.port = p.val ∧ m.msg.cls = 1 ∧ m.msg.op = 0x14)) fun s a => takeSummary s p a.msg.content

def execSummaryResend (p : Fin 6) (s : State) : Result := .next <|
  let x := s.port p
  if (x.phase = .verifying ∨ x.phase = .up) ∧ x.outcome ≠ 1 then sendSummary s p else s

/-! ### FAB_CTRL (R403, R404, R415) -/

/-- The port leaves service: one with a link drains, another is OFF at once. -/
def closePort (s : State) (p : Nat) (off : Bool) : State :=
  let s0 := s.setLink p { s.link p with joined := false }
  match (s.port p).phase with
  | .up | .verifying => s0.setPort p { s.port p with phase := .draining }
  | .training => if off then endPort (s0.setPort p { s.port p with phase := .off, outcome := 4 }) p 8 0 0x0030 0 else s
  | .dark | .down | .patching => if off then s0.setPort p { s.port p with phase := .off } else s
  | .off | .draining | .fallow => s

/-- Loss of light is expected from now on. -/
def patchPort (s : State) (p : Nat) : State := match (s.port p).phase with
  | .up | .off | .dark | .down =>
    let s1 := s.setLink p { s.link p with joined := false }
    s1.setPort p { s1.port p with phase := .patching, width := 0, joins := false }
  | _ => s

/-- RETRAIN: a DOWN, DARK or OFF port trains; one whose optical engine is still hot does not. -/
def retrainPort (s : State) (p : Nat) : State :=
  let x := s.port p
  if x.hot then s
  else match x.phase with
    | .down | .dark | .off => trainPort s p false
    | _ => s

/-- A write of FAB_CTRL: ignored as a whole without the key. -/
def fabCtrl (s : State) (p : Nat) (v : Word) : State :=
  if fld v 16 16 ≠ 0x5A25 then s
  else
    let s1 := setReg s (Reg.fabCtrl p) (v &&& 7)
    let s2 := if !bit v 0 then closePort s1 p true else if bit v 1 then closePort s1 p false else s1
    let s3 := if bit v 0 && bit v 2 && !bit v 1 then patchPort s2 p else s2
    let s4 := if bit v 0 && bit v 3 then retrainPort s3 p else s3
    if bit v 4 then { s4 with deferred := s4.deferred ++ [.rejoin p] } else s4

/-- A row of FAB_CTRL. -/
def fabCtrlRow (w : RegWrite) (s : State) : Result :=
  guarded (isReg w .fab0 0x108) <| serveWrite s w fun s p _ _ _ => fabCtrl s p.inst w.val

def execLinkEn (w : RegWrite) (s : State) : Result := fabCtrlRow w s
def execDrainPort (w : RegWrite) (s : State) : Result := fabCtrlRow w s
def execPatchPort (w : RegWrite) (s : State) : Result := fabCtrlRow w s
def execRetrain (w : RegWrite) (s : State) : Result := fabCtrlRow w s
def execRejoin (w : RegWrite) (s : State) : Result := fabCtrlRow w s

def execPortDrainDone (p : Fin 6) (s : State) : Result := .next <|
  if (s.port p).phase = .draining ∧ (s.link p).retry = [] ∧ (s.link p).waiting = [] then
    let s1 := setReg (s.setPort p { s.port p with phase := .off, width := 0, outcome := 0, reason := 0 }) (Reg.fabLaneGood p) 0
    let s2 := s1.setTime p { s1.time p with offer := none, t1 := none }
    if s2.clock.parent = some p.val then chooseParent s2 else s2
  else s

/-! ### FAB_MAP and the routing table (R403, R407, R417, R422) -/

/-- FAB_MAP as it will be after the changes that wait. -/
def mapSoon (s : State) (p : Nat) : Word :=
  s.deferred.foldl (fun v d => match d with
    | .fabMap q x => if q = p then x else v
    | _ => v) (getReg s (Reg.fabMap p))

/-- Why a write of FAB_MAP is refused (Table 12.14): 0 reserved direction, 1 outcome, 2 coordinates, 3 direction in use. -/
def mapReject (s : State) (p : Nat) (v : Word) : Option Nat :=
  let dir := fld v 0 3
  let x := s.port p
  if 6 ≤ dir then some 0
  else if !bit v 3 then none
  else if x.outcome ≠ 2 ∨ 2 ≤ x.reason then some 1
  else if expected s dir ≠ some (partnerCoord s p) then some 2
  else if (List.range 6).any fun q => decide (q ≠ p) && decide (fld (mapSoon s q) 0 3 = dir) && bit (mapSoon s q) 3 then some 3
  else none

def execFabMapWrite (w : RegWrite) (s : State) : Result :=
  guarded (isReg w .fab0 0x120) <| serveWrite s w fun s p _ _ _ => match mapReject s p.inst w.val with
    | some r => capture s p.base 0x0506 0 noPart 0 (fld w.val 0 3 + r * 2 ^ 3)
    | none => { s with deferred := s.deferred ++ [.fabMap p.inst (w.val &&& 15)] }

/-- An entry without reserved values and bits (Table 12.8). -/
def routeOk (e : Word) : Bool := decide (fld e 1 3 < 6 ∧ fld e 5 3 = 0 ∧ fld e 14 2 = 0 ∧ fld e 44 20 = 0)

def execFabRtCommit (w : RegWrite) (s : State) : Result :=
  guarded (isReg w .fab1 0x128) <| serveWrite s w fun s p _ _ _ =>
    let idx := Reg.fabRtIndex p.inst
    let e := (getLatch s w.who idx).headD 0
    if !bit w.val 0 then s
    else if !routeOk e then putBit s (Reg.fabRtCommit p.inst) 1 true
    else
      let s1 := putBit s (Reg.fabRtCommit p.inst) 1 false
      { s1 with deferred := s1.deferred ++ [.route (fld (latchedIndex s w.who idx) 0 12) e] }

/-! ### Lanes in service (R385) -/

/-- The lanes that still carry the link. -/
def goodLanes (s : State) (p : Nat) : List Nat :=
  ((s.link p).lanes.zipIdx).filterMap fun (x, l) => if getBit s (Reg.fabLaneGood p) l then some x else none

/-- A spare that passed training, carries no lane and does not train. -/
def spareLane (s : State) (p : Nat) : Option Nat :=
  if getFld s (Reg.fabStatus p) 16 16 < 0x0300 then none
  else (List.range 4).find? fun k => getFld s (Reg.fabSpareMap p) (8 * k + 6) 2 = 0 && !((s.link p).spares.any fun x => x.1 = k)

/-- A failed lane: a spare trains for it, or the port steps down at an agreed super-frame, or goes DOWN. -/
def replaceLane (s : State) (p lane : Nat) : State := match spareLane s p with
  | some k =>
    let s1 := s.setLink p { s.link p with spares := (s.link p).spares ++ [(k, lane)] }
    sendLm s1 p false (some lane) (2 ^ lane) none
  | none =>
    let n := (goodLanes s p).length
    if n < 32 then linkDown s p 2
    else
      let (v, s1) := drawFree s
      let change := (if 48 ≤ n then 48 else 32, v.toNat % 2 ^ 24)
      sendLm (s1.setLink p { s1.link p with widthAt := some change }) p false none (2 ^ lane) (some change)

def execLaneFail (p : Fin 6) (lane : Fin 64) (s : State) : Result := .next <|
  if (s.port p).phase ≠ .up ∨ ¬ getBit s (Reg.fabLaneGood p) lane then s
  else
    let (v, s0) := drawFree s
    let x := (s.link p).lanes.getD lane 0
    let phys := if x < 64 then x else v.toNat % 64
    let detail := lane.val + phys * 2 ^ 8 + b2n (spareLane s p).isSome * 2 ^ 16
    let s1 := setCause (capture (putBit s0 (Reg.fabLaneGood p) lane false) (Reg.fabBlk p) 0x0502 0 noPart 0 detail) (Reg.fabBlk p) 18
    replaceLane (raiseEvent s1 0x042 noPart (blkDir (Reg.fabBlk p)) (portHalf p).idx (word p) (word detail)) p lane

def execSpareLaneTrained (p : Fin 6) (spare : Fin 4) (good : Bool) (s : State) : Result := .next <|
  match (s.link p).spares.find? fun x => x.1 = spare.val with
  | none => s
  | some (k, lane) =>
    let l := s.link p
    let s1 := s.setLink p { l with spares := l.spares.erase (k, lane) }
    if (s.port p).phase ≠ .up then s1
    else if good then
      let lanes := l.lanes.set lane (64 + k)
      showSpares (putBit (s1.setLink p { s1.link p with lanes := lanes }) (Reg.fabLaneGood p) lane true) p lanes
    else replaceLane (putBit s1 (Reg.fabSpareMap p) (8 * k + 6) true) p lane

/-- The lanes of the next width: the good data lanes with the lowest physical numbers, spares last (R384). -/
def narrowed (s : State) (p n : Nat) : List Nat :=
  let g := goodLanes s p
  ((g.filter (· < 64)).mergeSort (· ≤ ·) ++ g.filter (64 ≤ ·)).take n

def execWidthChange (p : Fin 6) (s : State) : Result := .next <|
  match (s.link p).widthAt with
  | none => s
  | some (n, _) => if (s.port p).phase = .up then setLanes s p (narrowed s p n) else s

/-! ### Failure (R398, R402) -/

/-- Causes 1 to 4 of Table 12.14; the NAK limit takes 8 NAKs of one SEQ. -/
def execLinkDown (p : Fin 6) (cause : Fin 5) (s : State) : Result :=
  guarded (decide (cause.val ≠ 0)) <|
    if (s.port p).phase ≠ .up ∨ (cause.val = 4 ∧ (s.link p).naks < 8) then s else linkDown s p cause

/-- Tell the source of a class 0 message, or the lead of a group, that a step's traffic is lost (R402). -/
def sendLost (s : State) (slice dst : Nat) : State := (sendMsg s slice 1 0x13 dst true s.steps.num []).2

/-- The leads of the groups whose step runs here. -/
def runningLeads (s : State) : List (Nat × Nat) :=
  (s.steps.current.filter fun p => isGroup s p.impo).map fun p => (sliceOf s p.part, memberCoord s p.impo (s.impo p.impo).record.lead)

def execRouteAround (p : Fin 6) (s : State) : Result := .next <|
  if (s.port p).phase ≠ .down ∨ ¬ (s.link p).joined then s
  else
    let l := s.link p
    let lost := l.retry.filter fun f => flitClass f = 0
    let s1 := s.setLink p { l with joined := false, retry := [], waiting := [] }
    let s2 := if lost = [] then s1 else
      let s' := capture s1 (Reg.fabBlk p) 0x0508 0 noPart 0 (lost.length % 2 ^ 32 + s.steps.num.toNat % 2 ^ 16 * 2 ^ 32)
      let told := ((lost.map fun f => (flitSlice f, flitSrc f)) ++ runningLeads s).eraseDups
      told.foldl (fun s x => sendLost s x.1 x.2) s'
    l.waiting.foldl (fun s f => forwardFlit s none f) s2

end Sys2Proof.Machine
end

