-- ==== Sys2Proof/Machine/Chroni.lean ====
section
/-!
DEFINITION. Flits and messages as they arrive (R388 to R395), what the messages of classes 0 and 5 do, ACK and resends, fabric time
(R86 to R88, R410 to R413).
-/
namespace Sys2Proof.Machine

/-! ### Data flits (R389, R391, R392, R400) -/

/-- The class of each opcode (Table 12.5). -/
def opClass (op : Nat) : Option Nat :=
  (([(0x01, 0), (0x02, 0), (0x03, 0), (0x04, 0), (0x10, 1), (0x11, 1), (0x12, 1), (0x13, 1), (0x14, 1), (0x1F, 1), (0x20, 2), (0x21, 2),
    (0x30, 3), (0x3F, 3), (0x40, 4), (0x4F, 4), (0x50, 5), (0x5F, 5)] : List (Nat × Nat)).find? fun x => x.1 = op).map (·.2)

/-- The receiver asks for the flit it expects, once until that flit arrives. -/
def askAgain (s : State) (p : Nat) : State :=
  if (s.link p).nak then s else sendLm (s.setLink p { s.link p with nak := true }) p true none 0 none

/-- A whole message has arrived: dropped as MSG_BAD when its opcode is unknown or of another class, or its length is not its own. -/
def takeMessage (s : State) (p : Nat) (f bs : List Byte) : State :=
  let op := leAt bs 0 1
  let content := bs.drop 16
  if opClass op ≠ some (flitClass f) ∨ bs.length < 16 ∨ content.length ≠ leAt bs 2 2 % 2 ^ 15 then
    capture s (Reg.fabBlk p) 0x0505 0 noPart 0 (op + flitClass f * 2 ^ 8 + flitSrc f * 2 ^ 16)
  else arrive s p ⟨flitSlice f, flitSrc f, flitDst f, flitClass f, op, decide (leAt bs 1 1 % 2 = 1), leAt bs 4 4, word (leAt bs 8 8), content⟩

/-- Add a delivered flit to the message of its stream (R391). -/
def gatherFlit (s : State) (p : Nat) (f : List Byte) : State :=
  let key := 2 * flitClass f + flitVc f
  let l := s.link p
  let none_ := fun (_ : Nat) => ([] : List Byte)
  let have_ := Map.get none_ l.parts key
  let keep := fun (bs : List Byte) => s.setLink p { l with parts := Map.set none_ l.parts key bs }
  match flitPos f with
  | 0 => takeMessage (keep []) p f (flitData f)
  | 1 => keep (flitData f)
  | 2 => if have_ = [] then s else keep (have_ ++ flitData f)
  | _ => if have_ = [] then s else takeMessage (keep []) p f (have_ ++ flitData f)

/-- A summary stays on its link (R405). -/
def linkLocal (f : List Byte) : Bool := decide (flitClass f = 1 ∧ flitPos f = 0 ∧ leAt (flitData f) 0 1 = 0x14)

/-- Where a flit of the link goes: delivered, forwarded or dropped. A port without verified traffic takes only messages of classes 1 and
3 for this device (R408). -/
def handleFlit (s : State) (p : Nat) (f : List Byte) : State :=
  let cls := flitClass f
  let here := decide (flitDst f = myCoord s)
  if 64 ≤ flitHops f then
    capture (count s (Reg.fabDetourDrops p) 1) (Reg.fabBlk p) 0x0504 0 noPart 0 (flitDst f * 2 ^ 16 + flitSrc f * 2 ^ 32)
  else if linkLocal f then gatherFlit s p f
  else if !carries s p cls then (if (cls = 1 ∨ cls = 3) ∧ here then gatherFlit s p f else s)
  else match routeHop s cls (flitSlice f) (flitDst f) none 0 (flitDetour f) with
    | .here =>
      if (cls = 0 ∨ cls = 4 ∨ cls = 5) ∧ sliceOwner s (flitSlice f) = none then sliceDrop s p (flitSlice f) cls (flitDst f) 4
      else gatherFlit s p f
    | _ => forwardFlit s (some p) f

/-- A flit is handled, and its credit returns. -/
def passFlit (s : State) (p : Nat) (f : List Byte) : State := freeCredit (handleFlit s p f) p (flitClass f) (flitVc f)

/-- Flits in the hold buffer of a hub (CNT_HOLD). -/
def heldFlits (s : State) (h : Half) : Nat :=
  ((List.range 6).map fun p => if portHalf p = h then (s.link p).held.length else 0).foldl (· + ·) 0

/-- A frame that is for this device, as far as slice checks let it through. -/
def flitForMe (s : State) (p : Nat) (f : List Byte) : Bool :=
  decide (flitHops f < 64) && carries s p (flitClass f) && (sliceOwner s (flitSlice f)).isSome &&
    decide (routeHop s (flitClass f) (flitSlice f) (flitDst f) none 0 (flitDetour f) = .here)

/-- A flit of a held class during an immediate stop: for this device it waits in the hold buffer; with that full it keeps its credit,
and so do the flits behind it (R518). -/
def holdFlit (s : State) (p : Nat) (f : List Byte) : State :=
  let l := s.link p
  let mine := flitForMe s p f
  if l.stuck ≠ [] ∨ (mine ∧ 16384 ≤ heldFlits s (portHalf p)) then s.setLink p { l with stuck := l.stuck ++ [f] }
  else if mine then freeCredit (s.setLink p { l with held := l.held ++ [(s.clock.now, f)] }) p (flitClass f) (flitVc f)
  else passFlit s p f

/-- A data flit in SEQ order is accepted; its credit and its acknowledgement return. -/
def acceptFlit (s : State) (p : Nat) (f : List Byte) : State :=
  let l := s.link p
  let s1 := count (s.setLink p { l with rxSeq := (l.rxSeq + 1) % 2 ^ 16, nak := false }) (Reg.fabFlitsRx p) 1
  sendLm (if stopHolds s1 (flitClass f) then holdFlit s1 p f else passFlit s1 p f) p false none 0 none

/-- The port has a link that carries flits. -/
def linkOpen (s : State) (p : Nat) : Bool := match (s.port p).phase with
  | .up | .verifying | .draining => true
  | _ => false

def execDataFlit (p : Fin 6) (flit : List Byte) (s : State) : Result :=
  guarded (decide (flit.length = 256 ∧ flitClass flit < 6)) <|
    if !linkOpen s p then s
    else if !flitOk flit then askAgain s p
    else
      let ahead := (flitSeq flit + 2 ^ 16 - (s.link p).rxSeq) % 2 ^ 16
      if ahead = 0 then acceptFlit s p flit else if ahead < 2 ^ 15 then askAgain s p else s

/-! ### Link-management and idle flits (R389, R390) -/

/-- The acknowledged flits leave the retry buffer. -/
def ackFlits (l : Link) (seq : Nat) : Link :=
  let n := (seq + 1 + 2 ^ 16 - l.txBase) % 2 ^ 16
  if n ≤ l.retry.length then { l with retry := l.retry.drop n, txBase := (l.txBase + n) % 2 ^ 16 } else l

/-- The flits from the named SEQ on are sent again. -/
def resendFrom (s : State) (p seq : Nat) : State :=
  let l := s.link p
  let n := (seq + 2 ^ 16 - l.txBase) % 2 ^ 16
  let again := l.retry.drop n
  let s1 := s.setLink p { l with naks := if l.nakSeq = seq then l.naks + 1 else 1, nakSeq := seq }
  if l.retry.length ≤ n then s1
  else again.foldl (fun s f => emit s (.flit p f)) (count (count s1 (Reg.fabRetries p) again.length) (Reg.fabFlitsTx p) again.length)

/-- The 2-byte totals of a link-management flit, by their index. -/
def totals (f : List Byte) (at_ n : Nat) : Map Nat := (List.range n).foldl (fun m k => Map.set zeroAt m k (leAt f (at_ + 2 * k) 2)) []

def execLinkManagementFlit (p : Fin 6) (flit : List Byte) (s : State) : Result :=
  guarded (decide (flit.length = 256 ∧ flitClass flit = 6)) <|
    if !linkOpen s p || !lmOk flit then s
    else
      let flags := leAt flit 1 1
      let l := ackFlits (s.link p) (leAt flit 2 2)
      let l1 := { l with
        resvFreed := totals flit 0x08 12
        sharedFreed := totals flit 0x20 6
        naks := if flags.testBit 0 then l.naks else 0
        widthAt := if flags.testBit 1 then some (leAt flit 0x38 2, leAt flit 0x3A 4 % 2 ^ 24) else l.widthAt }
      let s1 := s.setLink p l1
      let bad := leAt flit 0x30 8 ||| (if flags.testBit 2 then 2 ^ (leAt flit 6 2 % 64) else 0)
      let s2 := setReg s1 (Reg.fabLaneGood p) (getReg s1 (Reg.fabLaneGood p) &&& ~~~(word bad))
      let s3 := if flags.testBit 0 then resendFrom s2 p (leAt flit 4 2) else s2
      pump s3 p

/-- An idle flit is discarded. -/
def execIdleFlit (p : Fin 6) (flit : List Byte) (s : State) : Result :=
  let _ := p
  guarded (decide (flit.length = 256 ∧ flitClass flit = 7)) s

/-! ### Resends (R393) -/

/-- The port whose RESEND and RESENDS apply to a message: the one by which it leaves, else X−. -/
def resendPort (s : State) (m : Msg) : Nat := match directPort s m.cls m.dst with
  | some p => p
  | none => match routeHop s m.cls m.slice m.dst none 0 false with
    | .port p _ _ _ => p
    | _ => 0

def execResend (cls : Fin 6) (id : BitVec 32) (s : State) : Result := .next <|
  match s.sent.find? fun x => x.msg.cls = cls.val ∧ x.msg.id = id.toNat with
  | none => s
  | some x =>
    let p := resendPort s x.msg
    if getFld s (Reg.fabArbCfg p) 16 4 ≤ x.tries then { s with sent := s.sent.erase x }
    else
      let s1 := { s with sent := s.sent.map fun y => if y = x then { y with tries := y.tries + 1 } else y }
      launch (count s1 (Reg.fabResends p) 1) x.msg

/-! ### Step data (R283, R293, R314) -/

/-- An arrived message of a class and opcode. -/
def isOp (cls op : Nat) (a : Arrival) : Bool := decide (a.msg.cls = cls ∧ a.msg.op = op)

/-- Apply a SIGNAL word at this device for the partition of a slice. -/
def applySignal (s : State) (slice sig : Nat) : State :=
  if sig.testBit 22 then
    signalToken s (sig / 2 ^ 12 % 8) (tokenBase s ((sliceOwner s slice).getD 64) + sig % 2 ^ 12)
  else s

/-- Data for T0, then its signal. -/
def applyT0 (s : State) (a : Arrival) : State :=
  let t := a.msg.target
  let off := fld t 8 23
  applySignal (t0Write s (fld t 0 8) off (a.msg.content.take (2 ^ 23 - off))) a.msg.slice (fld t 32 32)

def execT0Write (s : State) : Result := .next <| onMsg s (isOp 0 0x01) applyT0

def execSignalMsg (s : State) : Result := .next <|
  onMsg s (isOp 0 0x02) fun s a => applySignal s a.msg.slice (fld a.msg.target 32 32)

def execPartialMsg (s : State) : Result := .next <| onMsg s (isOp 0 0x03) applyT0

/-- Whole sectors into T1 from a device address on, through the channel controllers. -/
def storeSectors (s : State) (da : Nat) (bs : List Byte) : State :=
  (List.range (bs.length / 64)).foldl (fun s i =>
    let a := da + 64 * i
    if daHole a then addrHole s a
    else if !daServed s a then s
    else dataWrite s a ((bs.drop (64 * i)).take 64)) s

def execAppendMsg (s : State) : Result := .next <|
  onMsg s (isOp 0 0x04) fun s a => storeSectors s (fld a.msg.target 0 38 / 64 * 64) a.msg.content

/-! ### Tensor chunks (class 5) -/

/-- No page of the request is poisoned. -/
def pagesClean (s : State) (e : Entry) : Bool :=
  s.poison.all fun x => !(e.dir.privateGroups.any fun g => (List.range e.dir.layers).any fun l =>
    decide (grpAddr g.2.2 l 0 ≤ 64 * x.1 ∧ 64 * x.1 < grpAddr g.2.2 l 0 + 0x8000))

/-- Bytes of a request's pages: its private groups in directory order, each of LAYERS slots of 32 KiB. -/
def storePages (s : State) (i off : Nat) (bs : List Byte) : State :=
  let e := s.entry i
  let slot := off / 0x8000
  match (e.dir.privateGroups)[slot / max 1 e.dir.layers]? with
  | none => s
  | some g =>
    let s1 := storeSectors s (grpAddr g.2.2 (slot % max 1 e.dir.layers) (off % 0x8000)) bs
    if (s1.entry i).hasSkip skRefetch && pagesClean s1 (s1.entry i) then s1.skipEntry i skRefetch false else s1

def execChunkMsg (s : State) : Result := .next <|
  onMsg s (isOp 5 0x50) fun s a =>
    let h := fld a.msg.target 0 17
    let off := 4096 * fld a.msg.target 17 31
    let t := s.tensor h
    let bs := a.msg.content.take 4096
    if t.tier ≠ 1 ∨ some t.owner ≠ sliceOwner s a.msg.slice then s
    else if t.grouped then storePages s (h - 0x18000) off bs
    else if off + bs.length ≤ t.size then storeExtent s t.t1map off bs
    else s

/-! ### The loss of step data (R402, R464) -/

def execClass0Lost (s : State) : Result := .next <|
  onMsg s (isOp 1 0x13) fun s a => if s.steps.running ∧ a.msg.target = s.steps.num then abandonWith s .normal else s

/-! ### Fabric time -/

/-- Start an exchange on a port. -/
def askTime (s : State) (p : Nat) : State :=
  let x := s.time p
  let n := (x.xseq + 1) % 2 ^ 32
  let s1 := s.setTime p { x with xseq := n, t1 := some s.clock.now }
  sendPartner s1 p 2 0x20 (partnerCoord s p) (timeBytes s n s.clock.now 0 0)

/-- Ports on which a device without a parent listens: those with a VERIFIED neighbour. -/
def timePorts (s : State) : List Nat := match s.clock.parent with
  | some p => [p]
  | none => if s.clock.source then [] else (List.range 6).filter fun p => (s.port p).phase = .up ∧ (s.port p).outcome = 1 ∧
      ¬ getBit s (Reg.fabTimeCfg p) 17

def execTimeExchange (s : State) : Result := .next <| (timePorts s).foldl askTime s

def execTimeReq (p : Fin 6) (s : State) : Result := .next <|
  onMsg s (fun a => isOp 2 0x20 a && decide (a.port = p.val)) fun s a =>
    if !s.clock.aligned then s
    else
      let c := a.msg.content
      sendPartner s p 2 0x21 a.msg.src (timeBytes s (leAt c 0 4) (leAt c 8 8) a.at_ s.clock.now)

/-- The median of the last round trips. -/
def median (l : List Nat) : Nat :=
  let m := l.mergeSort (· ≤ ·)
  (m.getD ((m.length - 1) / 2) 0 + m.getD (m.length / 2) 0) / 2

/-- Saturate into two's complement of `n` bits. -/
def twosSat (n : Nat) (v : Int) : Nat := twos n (max (-(2 ^ (n - 1))) (min (2 ^ (n - 1) - 1) v))

/-- The offset of a response in ns: from its stamps and ASYM, or between rack peers from the stamps of the last EPOCH_IN edge. -/
def offsetOf (s : State) (p t1 t4 : Nat) (c : List Byte) : Int :=
  let t2 := leAt c 0x10 8
  let t3 := leAt c 0x18 8
  let cfg := getReg s (Reg.fabTimeCfg p)
  let mine := epochField s
  let theirs := leAt c 0x20 8
  if bit cfg 16 ∧ mine ≠ 0 ∧ theirs ≠ 0 then (theirs : Int) - mine
  else ((((t2 : Int) - t1) - ((t4 : Int) - t3)) * 500 - signed 16 (fld cfg 0 16) / 2) / 1000

/-- The 16th offset of an alignment: the counter is set, TIME_ALIGNED sets, and step 10 ends (R87). -/
def alignNow (s : State) (offs : List Int) : State :=
  let s1 := setAligned (setClock s (s.clock.now + Config.timeFilter offs).toNat) true
  endTen s1 0 0 0

/-- An offset measured against the parent: the servo takes it up; above 1 ms alignment is lost (R410, R411). -/
def followParent (s : State) (p : Nat) (off : Int) : State :=
  let x := s.time p
  if !s.clock.aligned then
    let offs := x.offsets ++ [off]
    if offs.length < 16 then s.setTime p { x with offsets := offs } else alignNow (s.setTime p { x with offsets := [] }) offs
  else if 1000000 < off ∨ off < -1000000 then
    let us := twosSat 32 (off / 1000)
    let s1 := capture (setAligned s false) (Reg.fabBlk p) 0x0507 0 noPart 0 us
    raiseEvent s1 0x044 noPart (blkDir (Reg.fabBlk p)) (portHalf p).idx (word us) 0
  else
    let s1 := { s with clock := { s.clock with slew := off } }
    putBit s1 (Reg.fabTimeStatus p) 56 (decide (-5 ≤ off ∧ off ≤ 5))

def execTimeResp (p : Fin 6) (s : State) : Result := .next <|
  onMsg s (fun a => isOp 2 0x21 a && decide (a.port = p.val)) fun s a =>
    let c := a.msg.content
    let x := s.time p
    match x.t1 with
    | none => s
    | some t1 =>
      if leAt c 0 4 ≠ x.xseq then s
      else
        let rtt := ((a.at_ : Int) - t1 - ((leAt c 0x18 8 : Int) - leAt c 0x10 8)).toNat
        let off := offsetOf s p t1 a.at_ c
        let hop := leAt c 4 1
        let s1 := s.setTime p { x with
          t1 := none, rtts := (rtt :: x.rtts).take 16, offer := some (hop, word (leAt c 0x28 8)) }
        let s2 := putFld (putFld (putFld s1 (Reg.fabTimeStatus p) 0 32 (twosSat 32 off)) (Reg.fabTimeStatus p) 32 16 (min 0xFFFF rtt))
          (Reg.fabTimeStatus p) 48 8 hop
        let s3 := considerOffers s2
        if s3.clock.parent ≠ some p.val ∨ (x.rtts ≠ [] ∧ median x.rtts + 20 < rtt) then s3 else followParent s3 p off

def execNoParentTimeout (s : State) : Result := .next <|
  if s.clock.parent = none ∧ ¬ s.clock.source then setAligned s false else s

/-! ### Start step 10 (R86, R88) -/

/-- The origin has no offer (R86). -/
def originAlone (s : State) : Bool :=
  atTen s && decide (myCoord s = 0 ∧ s.clock.parent = none) && !s.clock.aligned

def execOriginListenExpiry (s : State) : Result := .next <|
  if originAlone s then { s with clock := { s.clock with epochWait := true } } else s

def execEpochAbsent (s : State) : Result := .next <| if s.clock.epochWait then becomeSource s 0x0042 else s

def execTimeNoSource (s : State) : Result := .next <|
  if atTen s ∧ ¬ s.clock.aligned then endTen s 2 0x0040 0 else s

/-- A rising edge of EPOCH_IN is stamped; an origin that waits for it becomes the source (R35, R86). -/
def execEpochIn (s : State) : Result := .next <|
  let s1 := if s.clock.epochWait then becomeSource s 0 else s
  { s1 with clock := { s1.clock with epochStamp := some s1.clock.now } }

end Sys2Proof.Machine
end

