-- ==== Sys2Proof/Machine/Control.lean ====
section
/-!
DEFINITION. The management controllers (R467 to R471): heartbeats, the lease, watchdogs, host arbitration, fencing, and the loss of the
hub-to-hub link (R473).
-/
namespace Sys2Proof.Machine

/-- The controller runs, back from a reset if it had stopped. -/
def mcBack (s : State) (h : Half) : State := putBit s (Reg.hubMcStatus h.idx) 0 true

def mcRuns (s : State) (h : Half) : Bool := getBit s (Reg.hubMcStatus h.idx) 0
def nvsReach (s : State) (h : Half) : Bool := getBit s (Reg.hubMcStatus h.idx) 4

/-- A controller that sees an epoch above its own notes it, and stops every control write (R468). -/
def seeEpoch (s : State) (h : Half) (e : Nat) : State :=
  if epochSeen s h < e then
    let s1 := setEpochSeen s h e
    if mcActs s h then mcWait s1 h else s1
  else s

/-- A heartbeat of the controller of half `h` reaches the other controller (R467). -/
def execHeartbeat (h : Half) (s : State) : Result := .next <|
  if !hubLinkUp s then s
  else
    let o := h.other
    let s1 := putFld (putBit (mcBack s h) (Reg.hubMcStatus o.idx) 5 true) (Reg.hubMcStatus o.idx) 8 8 0
    let held := leaseValid s1 && decide (s1.nvs.lease.holder = mcNum h)
    let s2 := if held then s1.setHub o { s1.hub o with peerHeld := some s1.clock.now } else s1
    seeEpoch s2 o (epochSeen s2 h)

/-- The controller of half `h` has had no heartbeat for three periods (R467). -/
def execMcPeerLost (h : Half) (s : State) : Result := .next <|
  let r := Reg.hubMcStatus h.idx
  devEvent (putBit (putFld s r 8 8 (max 3 (satAdd 255 (getFld s r 8 8) 3))) r 5 false) 0x050 (mcNum h) 0

/-! ### Lease operations, which the NVS die serves (R468) -/

def execAcquire (h : Half) (s : State) : Result := .next <|
  if !hubAlive s h ∨ !nvsReach s h then s
  else
    let s1 := mcBack s h
    let l := s1.nvs.lease
    if !leaseValid s1 then grantLease s1 h
    else if l.holder = mcNum h then s1
    else s1.setLease { l with queued := mcNum h }

/-- A RENEW from a controller that does not hold an unexpired lease fails; if it acted by the lease, it stops (R468). -/
def execRenew (h : Half) (s : State) : Result := .next <|
  if !nvsReach s h then s
  else
    let l := s.nvs.lease
    if leaseValid s ∧ l.holder = mcNum h then
      s.setLease { l with expires := (s.nvs.timer + 5000) % 2 ^ 32, renewals := satAdd 0xFFFFFFFF l.renewals 1 }
    else seeEpoch (if mcActs s h then mcWait s h else s) h l.epoch

def execRelease (h : Half) (s : State) : Result := .next <|
  if nvsReach s h ∧ s.nvs.lease.holder = mcNum h then freeLease s else s

/-- At the instant of expiry the lease goes to a queued ACQUIRE, or HOLDER becomes NONE (R468). -/
def execLeaseExpiry (s : State) : Result := .next <|
  if s.nvs.lease.holder ≠ 0 ∧ !leaseValid s then freeLease s else s

/-- A RENEW that goes unanswered for 1 ms: the controller no longer reaches the NVS, and it stops at the expiry it last saw (R468). -/
def execRenewTimeout (h : Half) (s : State) : Result := .next <|
  let s1 := putBit (putBit s (Reg.hubMcStatus h.idx) 4 false) Reg.nvsStatus (1 + h.idx) false
  if mcActs s h ∧ !leaseValid s then mcWait s1 h else s1

/-! ### Watchdog, host arbitration, fencing -/

/-- The heath domain of a hub resets its controller and gives its lease back (R469); with both controllers lost the device fail-stops
(R472). -/
def execMcWatchdog (h : Half) (s : State) : Result := .next <|
  if !mcRuns s h then s
  else
    let s1 := lastGasp (mcWait (putBit s (Reg.hubMcStatus h.idx) 0 false) h) h 0x004
    let s2 := devEvent s1 0x052 (mcNum h) 0
    let s3 := if s2.nvs.lease.holder = mcNum h then freeLease s2 else s2
    if mcRuns s3 h.other then s3 else failStop s3 1

/-- A heartbeat in the last 5 ms reported a valid lease held by the peer (R470). -/
def peerHolds (s : State) (h : Half) : Bool := (s.hub h).peerHeld.any fun t => decide (s.clock.now ≤ t + 5000000)

/-- The host arbitration register of the hub chooses its controller under an epoch above those it has seen (R470). -/
def arbChooses (s : State) (h : Half) : Bool :=
  let x := s.hub h
  decide (fld x.arb 0 2 = mcNum h ∧ epochSeen s h < fld x.arb 16 48 ∧ x.arbSeen < fld x.arb 16 48)

/-- A controller without the NVS, whose own lease has expired, acts when the host has chosen it (R470). -/
def execHostArbActing (h : Half) (s : State) : Result := .next <|
  let own := leaseValid s && decide (s.nvs.lease.holder = mcNum h)
  if !mcRuns s h ∨ nvsReach s h ∨ own ∨ peerHolds s h ∨ !arbChooses s h then s
  else
    let x := s.hub h
    let e := fld x.arb 16 48
    devEvent (setMc (s.setHub h { x with arbSeen := e }) h true 1) 0x053 (mcNum h) e

/-- No controller acts: both fence, and the device fail-stops (R471). -/
def execFenced (s : State) : Result := .next <|
  if anyActs s ∨ leaseValid s ∨ getBit s Reg.devFailStatus 1 then s
  else
    let s1 := setMc (setMc s .west false 3) .east false 3
    failStop (devEvent (putBit s1 Reg.devFailStatus 1 true) 0x054 0 0) 2

/-! ### The hub-to-hub link (R473) -/

/-- The half that goes down with the link: that whose controller does not hold the lease; with no holder, which one is open. -/
def linkLoser (s : State) : Half × State :=
  if s.nvs.lease.holder = 1 then (.east, s)
  else if s.nvs.lease.holder = 2 then (.west, s)
  else
    let (v, s1) := drawFree s
    (if bit v 0 then .east else .west, s1)

def execHubLinkLost (s : State) : Result := .next <|
  if !hubLinkUp s then s
  else
    let (h, s1) := linkLoser { s with hubLink := false }
    requestHalf (devEvent s1 0x033 0 0) h

end Sys2Proof.Machine
end

