-- ==== Sys2Proof/Machine/HostRows.lean ====
section
/-!
DEFINITION. Commands of the host interface: PCIe ports and functions (R437, R439), host memory regions (R440, R441), DEV_HOST_ARB
(R451), rings and doorbells (R445 to R449, R459).
-/
namespace Sys2Proof.Machine

/-! ### Ports and functions -/

/-- Host DMA through the port stops (R437). -/
def execPcieLinkDown (port : Half) (s : State) : Result := .next (putBit s (Reg.hubMigStatus port.idx) 16 true)

/-- The link returns to L0 with a partner in Flit mode, and what waited for it goes on; without Flit mode it does not (R437). -/
def execPcieLinkUp (port : Half) (flit : Bool) (s : State) : Result := .next <|
  if flit then releaseHeld (putBit s (Reg.hubMigStatus port.idx) 16 false)
  else devEvent (putBit s (Reg.hubMigStatus port.idx) 16 true) 0x046 port.idx 0

/-- The physical function on a port, or VF n: its number for interrupts, and its place among the functions in D3hot. -/
def fnNumber : Option (Fin 64) → Nat
  | none => 0
  | some n => n.val + 1
def d3Key (port : Half) : Option (Fin 64) → Nat
  | none => port.idx
  | some n => n.val + 2

def execD3hot (fn : Option (Fin 64)) (port : Half) (s : State) : Result :=
  .next { s with d3hot := Map.set (fun _ => false) s.d3hot (d3Key port fn) true }

/-- Send the messages of a function that became pending while its interrupts were stopped, where their vectors are not masked. -/
def sendPending (s : State) (fn : Nat) : State :=
  (List.range (if fn = 0 then 374 else 3)).foldl (fun s v =>
    let pb := getMsix s (pbaKey fn v)
    if bit pb (v % 64) && !bit (getMsix s (msixKey fn v + 8)) 32 && !inD3 s fn then
      emit (setMsix s (pbaKey fn v) (setBit pb (v % 64) false)) (.msix fn v)
    else s) s

/-- A function returns to D0: its interrupts and the DMA on its behalf go on (R439). -/
def execD0Enter (fn : Option (Fin 64)) (port : Half) (s : State) : Result :=
  .next (releaseHeld (sendPending { s with d3hot := Map.del s.d3hot (d3Key port fn) } (fnNumber fn)))

/-! ### Regions (R440, R441) -/

/-- An entry as its two data words give it. -/
def regionOf (w0 w1 : Word) : Region :=
  ⟨fld w0 12 52 * 4096, fld w1 0 32, fld w1 32 6, bit w1 38, fld w1 39 1, bit w1 40, bit w1 41, bit w1 42, bit w1 63⟩

/-- The two data words of an entry. -/
def regionWords (g : Region) : List Word :=
  [word g.base, word (g.pages + g.part * 2 ^ 32 + b2n g.devOwned * 2 ^ 38 + g.port * 2 ^ 39 + b2n g.ridVf * 2 ^ 40 + b2n g.roOk * 2 ^ 41 +
    b2n g.nsOk * 2 ^ 42 + b2n g.valid * 2 ^ 63)]

/-- The same owner: DEVICE, or one partition. -/
def Region.sameOwner (a b : Region) : Bool :=
  if a.devOwned || b.devOwned then a.devOwned == b.devOwned else decide (a.part = b.part)

/-- Registers that name the regions of the rings of a queue set. -/
def ringBases (n : Nat) (drv : Bool) : List Nat :=
  [ringSqBase n drv, ringCqBase n drv, ringShadow n drv] ++ (if drv then [] else [Reg.qOutBase n])

/-- A ring, a T2 copy, a parked or swapped request, or a move refers to the region (R441). -/
def regionInUse (s : State) (r : Nat) : Bool :=
  ((List.range 64).any fun n => [false, true].any fun drv => ringOn s n drv && (ringBases n drv).any fun b => decide (getFld s b 0 10 = r)) ||
    (s.tensors.any fun t => (t.2.t2copy || decide (t.2.tier = 2)) && decide (t.2.region = r)) ||
    s.moves.any fun m => decide (m.region = r)

/-- The reasons that refuse a commit: 1 overlap, 2 in use, 3 range, 4 partition not ACTIVE. -/
def regionReasons (s : State) (r : Nat) (g : Region) : List Nat :=
  let old := s.region r
  let top := g.base + 4096 * g.pages
  let overlap := g.valid && s.regions.any fun x => decide (x.1 ≠ r ∧ x.2.port = g.port ∧ x.2.base < top ∧ g.base < x.2.base + 4096 * x.2.pages)
    && x.2.valid && !x.2.sameOwner g
  let used := old.valid && decide (old ≠ g) && regionInUse s r
  let range := g.valid && decide (g.pages = 0 ∨ 2 ^ 64 < top)
  let part := g.valid && !g.devOwned && decide (partPhase s g.part ≠ 1)
  (if overlap then [1] else []) ++ (if used then [2] else []) ++ (if range then [3] else []) ++ (if part then [4] else [])

/-- A commit of region `r`. Where several reasons hold, which one REASON shows is open (log 62). -/
def commitRegion (s : State) (r : Nat) (g : Region) : State := match regionReasons s r g with
  | [] =>
    { setReg s Reg.devRegionCommit 0 with regions := Map.set Region.none s.regions r g }
  | x :: xs =>
    let (v, s1) := drawFree s
    setReg s1 Reg.devRegionCommit (word (2 + (x :: xs).getD (v.toNat % (xs.length + 1)) x * 16))

def execDevRegionCommit (w : RegWrite) (s : State) : Result :=
  guarded (isReg w .dev0 0x358) <|
    serveWrite s w fun s _ _ _ _ =>
      if !bit w.val 0 then s
      else
        let l := getLatch s w.who Reg.devRegionIndex
        commitRegion s (fld (latchedIndex s w.who Reg.devRegionIndex) 0 10) (regionOf (l.getD 0 0) (l.getD 1 0))

/-! ### DEV_HOST_ARB (R451) -/

/-- The hub through whose port a request comes. -/
def viaHub (who : Requester) : Half := if who.port = 0 then .west else .east

/-- A hub's copy takes a write. -/
def setArb (s : State) (h : Half) (v : Word) : State := s.setHub h { s.hub h with arb := v }

/-- A write of DEV_HOST_ARB. -/
def writeArb (s : State) (h : Half) (v : Word) : State :=
  if fld v 0 2 = 3 ∨ fld v 16 48 ≤ epochSeen s h then setArb s h (setBit (s.hub h).arb 3 true)
  else
    let new := v &&& (ones 0 2 ||| ones 16 48)
    let s1 := setArb s h new
    if hubLinkUp s then setArb s1 h.other new else s1

def execDevHostArbWrite (w : RegWrite) (s : State) : Result :=
  guarded (isReg w .dev0 0x380) (serveWrite s w fun s _ _ _ _ => writeArb s (viaHub w.who) w.val)

/-! ### Doorbells (R446, R458) -/

/-- The queue set that a register write names: driver set or not. -/
def isDriver (p : PageRef) : Bool := decide (p.kind = .part)

/-- A doorbell of a ring that does not run is ignored and counted. -/
def dbIgnored (s : State) (n : Nat) : State := count s (Reg.qDbIgnored n) 1

/-- A doorbell with a bad value is ignored: captured, and a hedgerow violation. -/
def dbBad (s : State) (n off v : Nat) : State :=
  hedgeViolation (capture s (Reg.partBlk n) 0x0603 0 n 0 (off % 256 + v % 2 ^ 16 * 2 ^ 16)) n 1 off

/-- A submission doorbell: a tail that would take back entries would make more than size − 1 outstanding (DEDUCED, log 63). -/
def sqDoorbell (s : State) (n : Nat) (drv : Bool) (off v : Nat) : State :=
  if !ringRuns s n drv then dbIgnored s n
  else
    let size := sqSize s n drv
    let x := s.ring n drv
    let head := sqHead s n drv
    if size ≤ v ∨ outstanding head v size < outstanding head x.sqTail size then dbBad s n off v
    else s.setRing n drv { x with sqTail := v }

/-- A completion doorbell: the head may pass only entries that the device has produced. -/
def cqDoorbell (s : State) (n : Nat) (drv : Bool) (off v : Nat) : State :=
  if !ringOn s n drv then dbIgnored s n
  else
    let size := cqSize s n drv
    let x := s.ring n drv
    if size ≤ v ∨ outstanding x.cqHead (cqTail s n drv) size < outstanding x.cqHead v size then dbBad s n off v
    else s.setRing n drv { x with cqHead := v }

/-- An output doorbell. -/
def outDoorbell (s : State) (n : Nat) (off v : Nat) : State :=
  if !ringOn s n false then dbIgnored s n
  else
    let size := outSize s n
    let x := s.ring n false
    if size ≤ v ∨ outstanding x.outHead (outTail s n) size < outstanding x.outHead v size then dbBad s n off v
    else s.setRing n false { x with outHead := v }

def execQSqDb (w : RegWrite) (s : State) : Result :=
  guarded (isReg w .q0 0x100 || isReg w .part 0x198)
    (serveWrite s w fun s p off _ _ => sqDoorbell s p.inst (isDriver p) off (fld w.val 0 16))

def execQCqDb (w : RegWrite) (s : State) : Result :=
  guarded (isReg w .q0 0x108 || isReg w .part 0x1A0)
    (serveWrite s w fun s p off _ _ => cqDoorbell s p.inst (isDriver p) off (fld w.val 0 16))

def execQOutDb (w : RegWrite) (s : State) : Result :=
  guarded (isReg w .q0 0x110) (serveWrite s w fun s p off _ _ => outDoorbell s p.inst off (fld w.val 0 12))

/-! ### Q_RING_CTRL (R445, R459) -/

/-- The size fields are in range; OUT_LOG2 is checked in the tenant set only. -/
def ringSizesOk (drv : Bool) (v : Word) : Bool :=
  decide (6 ≤ fld v 8 5 ∧ fld v 8 5 ≤ 16 ∧ 6 ≤ fld v 16 5 ∧ fld v 16 5 ≤ 16) && (drv || decide (4 ≤ fld v 24 4 ∧ fld v 24 4 ≤ 12))

/-- `n` bytes at a base lie in a region that the queue set may use. -/
def baseFits (s : State) (n : Nat) (drv : Bool) (base bytes : Nat) : Bool :=
  let w := getReg s base
  (s.region (baseRegion w)).devOwned == drv && regionOk s (baseRegion w) (baseOffset w) bytes (some (getFld s (Reg.partCfg n) 2 1)) n drv

/-- The rings may be enabled: the partition is ACTIVE, and every base lies wholly inside its region. -/
def enableOk (s : State) (n : Nat) (drv : Bool) : Bool :=
  decide (partPhase s n = 1) && baseFits s n drv (ringSqBase n drv) (64 * sqSize s n drv) && baseFits s n drv (ringCqBase n drv) (16 * cqSize s n drv) &&
    baseFits s n drv (ringShadow n drv) 64 && (drv || baseFits s n drv (Reg.qOutBase n) (16384 * outSize s n))

/-- The rings start with every index 0; commands fetched before are still to complete. -/
def startRing (s : State) (n : Nat) (drv : Bool) : State :=
  let s1 := putBit (setReg s (ringStatus n drv) (bitW 44)) (ringCtrl n drv) 0 true
  let s2 := s1.setRing n drv { RingState.fresh 0 with fetched := (s1.ring n drv).fetched, lastStep := (s1.ring n drv).lastStep }
  let s3 := if drv then s2 else putBit s2 (Reg.partState n) 3 true
  writeShadow s3 n drv (heldRecords s3 n)

/-- A write of Q_RING_CTRL or PART_DRING_CTRL. -/
def writeRingCtrl (s : State) (n : Nat) (drv : Bool) (v : Word) : State :=
  if !ringSizesOk drv v then s
  else if ringOn s n drv then (if bit v 0 then s else stopRing s n drv)
  else
    let m := if drv then word 0x1F1F00 else word 0xF1F1F00
    let s1 := setReg s (ringCtrl n drv) (v &&& m)
    if !bit v 0 then s1
    else if enableOk s1 n drv then startRing s1 n drv
    else putFld s1 (ringStatus n drv) 48 8 2

/-- A row that writes ENABLE. -/
def ringRow (w : RegWrite) (on : Bool) (s : State) : Result :=
  guarded ((isReg w .q1 0x100 || isReg w .part 0x170) && bit w.val 0 == on)
    (serveWrite s w fun s p _ _ _ => writeRingCtrl s p.inst (isDriver p) w.val)

def execRingEnable (w : RegWrite) (s : State) : Result := ringRow w true s

def execRingDisable (w : RegWrite) (s : State) : Result := ringRow w false s

/-- CQ_DELAY_US after the first unsignalled completion, vector 0 of the VF is sent (R449). -/
def execCqDelayExpiry (part : Fin 64) (s : State) : Result :=
  let n := part.val
  let x := s.ring n false
  .next (match x.unsignalled with
    | none => s
    | some _ =>
      let s1 := s.setRing n false { x with unsignalled := none }
      if getBit s (Reg.qIntCfg n) 24 then sendVector s1 (n + 1) 0 else s1)

end Sys2Proof.Machine
end

