-- ==== Sys2Proof/Machine/PartRows.lean ====
section
/-!
DEFINITION. Commands on partitions: mailbox requests (R433 to R436), partition resets (R435), their wipes, and the settings of the
colophon that the mailbox changes (R81, R86, R474, R482).
-/
namespace Sys2Proof.Machine

/-- A mailbox write with GO and an opcode, with what the request does. -/
def mboxRow (w : RegWrite) (op : Nat) (act : State → State) (s : State) : Result :=
  guarded (isMbox w op) (serveWrite s w fun s _ _ _ _ => mboxGo s w.val act)

/-! ### Assignment, release, reset -/

def execMbxPartAssign (w : RegWrite) (s : State) : Result := mboxRow w 1 requestAssign s

/-- The PARTITION of a request; its reserved bits must be 0 (R433). -/
def mboxPart (s : State) (act : State → Nat → State) : State :=
  let n := leAt (mboxData s) 0 1
  if 64 ≤ n then mboxDone s 0x610 else act s n

def execPartRelease (w : RegWrite) (s : State) : Result := mboxRow w 2 (fun s => mboxPart s requestRelease) s

def execPartReset (w : RegWrite) (s : State) : Result :=
  mboxRow w 3 (fun s => mboxPart s fun s n => if canReset s n then beginPartReset s n else mboxDone s 0x611) s

/-- PART_CTRL.RESET starts a partition reset (R455). -/
def execPartCtrlReset (w : RegWrite) (s : State) : Result :=
  guarded (isReg w .part 0x158) <|
    serveWrite s w fun s p _ _ _ => if bit w.val 0 && canReset s p.inst then beginPartReset s p.inst else s

/-- The last slot of a released partition is zeroed, once its boundary and that of its cores have passed (R434). -/
def execWipeDone (part : Fin 64) (s : State) : Result :=
  let n := part.val
  .next (if partPhase s n = 3 ∧ .coresWiped n ∉ s.deferred ∧ waitingRecords s n = 0 then releaseDone s n else s)

/-- The wipe of a reset partition is complete, once its boundary has passed (R435). -/
def execResetDone (part : Fin 64) (s : State) : Result :=
  let n := part.val
  .next (if partPhase s n = 2 ∧ .partReset n ∉ s.deferred then partResetDone s n else s)

/-- A Function Level Reset of VF n: its own state returns to reset, and a partition reset starts (R435, R439). -/
def execFunctionLevelReset (part : Fin 64) (s : State) : Result :=
  let n := part.val
  .next (if canReset s n then beginPartReset s n else resetVf s n)

/-! ### The colophon by mailbox -/

/-- Change the colophon's record in the NVS, and the image that is read. -/
def storeColophon (s : State) (f : Colophon → Colophon) : State :=
  if s.nvs.ok then
    let s1 := { s with nvs := { s.nvs with colophon := f s.nvs.colophon } }
    showColophon s1 s1.nvs.colophon
  else s

/-- A new TWIN_SERIAL takes effect at the next step boundary (R474). -/
def execSetTwin (w : RegWrite) (s : State) : Result :=
  mboxRow w 5 (fun s =>
    let serial := word (leAt (mboxData s) 0 8)
    mboxDone { s with deferred := s.deferred ++ [.setTwin serial] } 0) s

/-- A new SHAPE takes effect at the next start: only the record changes (R81). -/
def execSetShape (w : RegWrite) (s : State) : Result :=
  mboxRow w 6 (fun s =>
    let v := leAt (mboxData s) 0 2
    if 2 ^ 14 ≤ v then mboxDone s 0x610 else mboxDone (storeColophon s fun c => { c with shape := v }) 0) s

/-- A new EPOCH_BASE (R86). -/
def execSetEpochBase (w : RegWrite) (s : State) : Result :=
  mboxRow w 7 (fun s =>
    let v := word (leAt (mboxData s) 0 8)
    let s1 := { s with colophon := { s.colophon with epochBase := v } }
    mboxDone (storeColophon s1 fun c => { c with epochBase := v }) 0) s

/-! ### Takeover (R482) -/

def ServedHome.fresh (serial : Word) (now : Nat) : ServedHome := ⟨serial, now, false, [], []⟩

/-- The requests of a home that a covering names are adopted at the next step boundary; the home is one that is served. -/
def coverHome (s : State) (serial : Word) (c : Cover) : State :=
  if s.homes.any fun h => h.serial = serial then
    { s with homes := s.homes.map fun (h : ServedHome) => if h.serial = serial then { h with adopt := h.adopt ++ [c] } else h }
  else s

/-- TAKEOVER: refused with ADOPT_OFF, or with NO_HOME where no mirror entry is of the home; it completes when the adoption takes effect. -/
def execTakeover (w : RegWrite) (s : State) : Result :=
  mboxRow w 8 (fun s =>
    let serial := getReg s (Reg.devMboxData 0)
    if !bit (inForceReg s Reg.devTwinCfg) 26 then mboxDone s 0x616
    else if !(s.mirrors.any fun m => m.2.home = serial) then mboxDone s 0x615
    else coverHome s serial .device) s

end Sys2Proof.Machine
end

