-- ==== Sys2Proof/Machine/Twin.lean ====
section
/-!
DEFINITION. Mirror traffic at the twin and its answers at the home (R474 to R486), end-to-end ACKs (R393), the last gasp (R496).
-/
namespace Sys2Proof.Machine

/-! ### MIRROR messages (R477) -/

/-- A MIRROR message of a kind (Table 14.4). -/
def isMirror (kind : Nat) (a : Arrival) : Bool := isOp 4 0x40 a && decide (fld a.msg.target 0 4 = kind)

def Msg.index (m : Msg) : Nat := fld m.target 4 15
def Msg.gen (m : Msg) : Nat := fld m.target 19 16
def Msg.stepNo (m : Msg) : Nat := fld m.target 35 16
/-- The serial of the home that sent a mirror message. -/
def Msg.home (m : Msg) : Word := Config.serialAt m.src

/-- A home is heard: its silence starts anew (R482). -/
def hear (s : State) (serial : Word) : State :=
  { s with homes := s.homes.map fun (h : ServedHome) => if h.serial = serial then { h with lastAt := s.clock.now, silent := false } else h }

/-- Apply a MIRROR message at the twin. -/
def onMirror (s : State) (kind : Nat) (act : State → Msg → State) : State :=
  onMsg s (isMirror kind) fun s a => act (hear s a.msg.home) a.msg

/-- Apply a MIRROR message to the mirror entry that it names. -/
def onEntry (s : State) (kind : Nat) (act : State → Nat → Msg → State) : State :=
  onMirror s kind fun s m => match findMirror s m.home m.index m.gen with
    | none => s
    | some k => act s k m

/-! ### OPEN (R475) -/

/-- A place in WARM_REGION for a warm mirror: a free value chooses; where it names no free run, the lowest one. -/
def warmPlace (s : State) (units : Nat) : Option (Nat × State) :=
  let r := fld (inForceReg s Reg.devTwinCfg) 16 10
  let g := s.region r
  let (v, s1) := drawFree s
  let want := v.toNat % (g.pages + 1)
  if !g.valid || !g.devOwned then none
  else if t2Free s r units want then some (want * 4096, s1)
  else ((List.range (g.pages + 1)).find? (t2Free s r units)).map fun a => (a * 4096, s1)

/-- The lowest unused number of the mirror table. -/
def mirrorKey (s : State) : Nat :=
  (((0 :: s.mirrors.map fun (m : Nat × MirrorEntry) => m.1 + 1).filter fun k => !(s.mirrors.any fun m => m.1 = k)).min?).getD 0

/-- The mirror entry that an OPEN asks for. -/
def openEntry (s : State) (n : Nat) (m : Msg) : MirrorEntry :=
  let img := m.content.take 0x68
  ⟨m.home, m.index, m.gen, n, decide (leAt img 0 8 / 2 ^ 12 % 4 = 1), img, [], (decodeRecord s n).directory, 0, 1⟩

/-- Why an OPEN is refused, in the order of the table; else the entry, placed. -/
def judgeOpen (s : State) (m : Msg) : Nat ⊕ (MirrorEntry × State) :=
  match sliceOwner s m.slice with
  | none => .inl 2
  | some n =>
    let x := openEntry s n m
    let r := decodeRecord s n
    let held := (s.mirrors.filter fun y => y.2.part = n).length
    let len := leAt x.image 0x18 4 % 2 ^ 23
    if !bit (inForceReg s Reg.devTwinCfg) 26 then .inl 1
    else match (if partPhase s n = 1 then activeSlot s n 0 else none) with
      | none => .inl 2
      | some k =>
        if !Config.twinLayout m.home (s.impo k).impoId then .inl 2
        else if r.groupSize ≠ 1 then .inl 3
        else if getFld s (Reg.partCfg n) 32 16 ≤ liveOf s n + held ∨ 32768 ≤ liveAll s + s.mirrors.length then .inl 4
        else match (if x.hot then (if canReserve s n (reserveNeed r len (quireOf s n)) then some (0, s) else none)
            else warmPlace s x.warmUnits) with
          | none => .inl 5
          | some (at_, s1) =>
            if 16 ≤ s.homes.length ∧ ¬ s.homes.any fun h => h.serial = m.home then .inl 6
            else .inr ({ x with warmAt := at_ }, s1)

/-- Keep an accepted mirror entry; its home is served. -/
def keepMirror (s : State) (x : MirrorEntry) : State :=
  let s1 := s.setMirror (mirrorKey s) x
  refreshTwin (hear (if s1.homes.any fun h => h.serial = x.home then s1
    else { s1 with homes := s1.homes ++ [ServedHome.fresh x.home s.clock.now] }) x.home)

/-- Take an OPEN out of the inbox: an accepted one is acknowledged, a refused one is answered with REFUSE and not applied. -/
def execMirrorOpen (s : State) : Result := .next <| match s.inbox.find? (fun a => isMirror 1 a && !halted s) with
  | none => s
  | some a =>
    let old := findMirror s a.msg.home a.msg.index a.msg.gen
    match judgeOpen (old.elim s (freeMirror s)) a.msg with
    | .inr _ => onMirror s 1 fun s m =>
      match judgeOpen ((findMirror s m.home m.index m.gen).elim s (freeMirror s)) m with
      | .inl _ => s
      | .inr (x, s1) => keepMirror s1 x
    | .inl reason =>
      if a.msg.id ∈ Map.get (fun _ => []) s.applied (appliedKey a.msg) then onMirror s 1 fun s _ => s
      else
        let s1 := hear { s with inbox := s.inbox.erase a } a.msg.home
        (sendMsg s1 a.msg.slice 4 0x40 a.msg.src true (mirrorTarget 12 a.msg.index a.msg.gen 0) (leBytes 2 reason)).2

/-! ### The state of a mirrored request -/

def execMirrorTokens (s : State) : Result := .next <|
  onEntry s 2 fun s k m =>
    let x := s.mirror k
    let first := leAt m.content 0 4
    let n := (m.content.length - 4) / 4
    s.setMirror k { x with toklog := (List.range n).foldl (fun l j => Map.set zeroAt l (first + j) (leAt m.content (4 + 4 * j) 4 % 2 ^ 20)) x.toklog }

/-- The groups of one block of a mirror that are still missing: hot ones are placed under R281, warm ones take the next place of the image.
None: no slot. -/
def openBlock (s : State) (x : MirrorEntry) (h b : Nat) : Option MirrorEntry :=
  let hl := x.dir.head h
  if b < hl.first ∨ hl.first + hl.cap ≤ b ∨ grpValid (Map.get zeroAt hl.list (b - hl.first)) then some x
  else if x.hot then
    (placeGroup s (allSpans s) (quireOf s x.part) x.dir.layers x.dir.swathLen h (b - hl.first) hl).bind fun g =>
      if canReserve s x.part x.dir.layers then some { x with dir := x.dir.put h (b - hl.first) g } else none
  else some { x with dir := x.dir.put h (b - hl.first) (2 ^ 31 + x.dir.privateGroups.length) }

/-- Store one row pair of a mirror at a position and layer. -/
def storeRow (s : State) (x : MirrorEntry) (h pos layer rb : Nat) (key val : List Byte) : State :=
  let hl := x.dir.head h
  let g := Map.get zeroAt hl.list (pos / 64 - hl.first)
  if pos / 64 < hl.first ∨ ¬ grpValid g then s
  else if x.hot then
    dataWrite (dataWrite (wakeMem s (grpDie g)) (grpAddr g layer (pos % 64 * rb)) key) (grpAddr g layer (64 * rb + pos % 64 * rb)) val
  else
    let r := fld (inForceReg s Reg.devTwinCfg) 16 10
    let at_ := x.warmAt + (g % 2 ^ 23 * x.dir.layers + layer) * pageBytes x.dir + pos % 64 * rb
    regionWrite (regionWrite s r at_ key) r (at_ + 64 * rb) val

/-- The rows of a ROWS or SYNC message (Table 14.5), head by head; a hot mirror that finds no slot is withdrawn with reason 5. -/
def applyRows (s : State) (k : Nat) (m : Msg) : State :=
  let w := leAt m.content 0 4
  let pos := w % 2 ^ 23
  let layer := w / 2 ^ 23 % 2 ^ 7
  let rb := rowBytes (leAt m.content 6 1) (leAt m.content 7 1 % 4)
  let step := fun (acc : Option State) (j : Nat) => acc.bind fun s =>
    let h := leAt m.content 4 1 + j
    (openBlock s (s.mirror k) h (pos / 64)).map fun x =>
      storeRow (s.setMirror k x) x h pos layer rb ((m.content.drop (8 + 2 * rb * j)).take rb) ((m.content.drop (8 + 2 * rb * j + rb)).take rb)
  match (List.range (leAt m.content 5 1)).foldl step (some s) with
  | some s1 => s1
  | none => refuseMirror s k 5

def execMirrorSync (s : State) : Result := .next <| onEntry s 7 applyRows

/-- Count a ROWS message of a home's step. -/
def countRows (s : State) (m : Msg) : State :=
  { s with homes := s.homes.map fun (h : ServedHome) =>
      if h.serial = m.home then { h with rows := Map.set zeroAt h.rows m.stepNo (Map.get zeroAt h.rows m.stepNo + 1) } else h }

def execMirrorRows (s : State) : Result := .next <|
  onMirror s 3 fun s m =>
    let s1 := countRows s m
    match findMirror s1 m.home m.index m.gen with
    | none => s1
    | some k => applyRows s1 k m

/-- Every ROWS message of the step that a STEP message closes has been applied (R478). -/
def rowsDone (s : State) (m : Msg) : Bool :=
  s.homes.all fun h => decide (h.serial ≠ m.home) || decide (leAt m.content 8 4 ≤ Map.get zeroAt h.rows m.stepNo)

/-- Bytes of a list replaced. -/
def patchBytes (bs : List Byte) (off : Nat) (v : List Byte) : List Byte := bs.take off ++ v ++ bs.drop (off + v.length)

/-- Tokens of positions that a step has passed and of which no message told: free values. -/
def fillTokens (s : State) (log : Map Nat) (lo hi : Nat) : Map Nat × State :=
  (List.range (hi - lo)).foldl (fun (acc : Map Nat × State) j =>
    if acc.1.any fun x => x.1 = lo + j then acc
    else
      let (v, s1) := drawFree acc.2
      (Map.set zeroAt acc.1 (lo + j) (v.toNat % 2 ^ 20), s1)) (log, s)

/-- One request record of a STEP message (Table 14.6). -/
def applyStepRec (home : Word) (s : State) (r : List Byte) : State :=
  match findMirror s home (leAt r 0 2) (leAt r 2 2) with
  | none => s
  | some k =>
    let x := s.mirror k
    let len := leAt r 4 4 % 2 ^ 23
    let phase := leAt r 4 4 / 2 ^ 31
    let last := leAt r 12 4
    let old := leAt x.image 0x18 4 % 2 ^ 23
    let w := leAt x.image 0 8
    let w1 := w - w % 32 + last / 2 ^ 24 % 16 + phase * 16
    let img1 := patchBytes x.image 0 (leBytes 8 w1)
    let img2 := patchBytes img1 0xC (leBytes 4 (last % 2 ^ 20))
    let img := patchBytes (patchBytes img2 0x18 (leBytes 4 len)) 0x1C (leBytes 4 (leAt r 8 4 % 2 ^ 23))
    let (log, s1) := fillTokens s x.toklog (old + 1) len
    s1.setMirror k { x with image := img, toklog := if phase = 1 then Map.set zeroAt log len (last % 2 ^ 20) else log }

/-- Apply a STEP message. -/
def applyStep (s : State) (m : Msg) : State :=
  let recs := (List.range (leAt m.content 0xC 2)).map fun r => (m.content.drop (0x10 + 16 * r)).take 16
  let s1 := recs.foldl (applyStepRec m.home) s
  if leAt m.content 0xE 2 % 2 = 1 then s1
  else { s1 with homes := s1.homes.map fun (h : ServedHome) =>
    if h.serial = m.home then { h with rows := Map.del h.rows m.stepNo } else h }

/-- A STEP message that still waits for ROWS of its step stays where it is. -/
def execMirrorStep (s : State) : Result := .next <|
  onMsg s (fun a => isMirror 4 a && rowsDone s a.msg) fun s a => applyStep (hear s a.msg.home) a.msg

def execMirrorChange (s : State) : Result := .next <|
  onEntry s 5 fun s k m => s.setMirror k { s.mirror k with image := m.content.take 0x68 }

def execMirrorEnd (s : State) : Result := .next <| onEntry s 6 fun s k _ => freeMirror s k

def execSyncDone (s : State) : Result := .next <| onEntry s 8 fun s k _ => s.setMirror k { s.mirror k with sync := 2 }

def execBeatMsg (s : State) : Result := .next <| onMirror s 9 fun s _ => s

/-- A DECLARE covers the home's requests, or those of one of its partitions (R481). -/
def execDeclareMsg (s : State) : Result := .next <|
  onMirror s 10 fun s m =>
    if bit (inForceReg s Reg.devTwinCfg) 26 then
      coverHome s m.home (if leAt m.content 0 1 = 0 then .device else .part (leAt m.content 1 1 % 64))
    else s

def execHandoffMsg (s : State) : Result := .next <|
  onEntry s 11 fun s _ m => if bit (inForceReg s Reg.devTwinCfg) 26 then coverHome s m.home (.req m.index) else s

/-! ### Silence and lost twins (R479, R482) -/

/-- No message of a home has arrived for DEV_TWIN_CFG.SILENCE, and HOME_SILENT has not been raised since (R482). -/
def silentFor (s : State) (h : ServedHome) : Bool :=
  !h.silent && decide (h.lastAt + 1000000 * fld (inForceReg s Reg.devTwinCfg) 8 8 ≤ s.clock.now)

def execHomeSilent (serial : BitVec 64) (s : State) : Result := .next <|
  if s.homes.any fun h => h.serial = serial ∧ silentFor s h = true then
    let s1 := { s with homes := s.homes.map fun (h : ServedHome) => if h.serial = serial then { h with silent := true } else h }
    raiseEvent (setCause s1 Reg.devBlk 26) 0x059 noPart noBlock 2 serial 0
  else s

/-- No acknowledgement of the step within MIRROR_TIMEOUT, with a port up: the twin is lost. Of a HANDOFF: the request ends with its own
cause. -/
def execMirrorTimeout (req : Option (Fin 32768)) (s : State) : Result := .next <| match req with
  | none => if s.home.steps ≠ [] ∧ usablePorts s ≠ [] then twinLost s else s
  | some i =>
    if i.val ∈ s.home.handed then
      refreshTwin (dropTwin { s with home := { s.home with handed := s.home.handed.filter (· ≠ i.val) } } i.val)
    else s

/-- The step has waited 10 ms for its twin with no port up. -/
def execIsolated (s : State) : Result := .next <|
  if s.home.steps ≠ [] ∧ usablePorts s = [] then failStop s 7 else s

/-- A hot twin-kept request has skipped for SUSPECT for 40 ms. -/
def execHandoffSend (req : Fin 32768) (s : State) : Result := .next <|
  let e := s.entry req.val
  if e.twin = 1 ∧ e.synced ∧ e.hasSkip skSuspect ∧ mirrors s then handoff s req.val else s

/-! ### Answers at the home -/

/-- Messages of the home's request leave the list of those that await an ACK. -/
def unsend (s : State) (kind i : Nat) : State :=
  { s with sent := s.sent.filter fun x => ¬ (x.msg.cls = 4 ∧ x.msg.op = 0x40 ∧ fld x.msg.target 0 4 = kind ∧ x.msg.index = i) }

/-- A REFUSE: an OPEN that was pending is not granted; an accepted request is kept no longer (R475, R476). -/
def execRefuseMsg (s : State) : Result := .next <|
  onMsg s (isMirror 12) fun s a =>
    let i := a.msg.index
    let e := s.entry i
    if e.gen ≠ a.msg.gen ∨ e.twin = 0 then s
    else if s.home.opens.any fun o => o.1 = i then
      refreshTwin (dropOpens (unsend (s.setEntry i { e with twin := 0, synced := false }) 1 i) i)
    else refreshTwin (dropTwin s i)

/-- TOKENS messages of a token log, 4,091 tokens each. -/
def sendTokens (s : State) (i : Nat) : State :=
  let e := s.entry i
  let n := e.promptLen
  (List.range ((n + 4090) / 4091)).foldl (fun s k =>
    let lo := 4091 * k
    (sendMirror s 2 i 0 (leBytes 4 lo ++ (List.range (min 4091 (n - lo))).flatMap fun j => leBytes 4 (Map.get zeroAt e.toklog (lo + j)))).2) s

/-- The sync of one request: its token log, every stored row, SYNC_DONE (R476). -/
def sendSync (s : State) (i : Nat) : State :=
  let e := s.entry i
  let s1 := sendTokens s i
  let s2 := ((List.range e.length).flatMap (rowsOf s1 e.dir)).foldl (fun s c => (sendMirror s 7 i s.steps.num.toNat c).2) s1
  (sendMirror s2 8 i 0 []).2

/-- Syncs whose pages are in T1 are sent while no STEP awaits its acknowledgement. -/
def pumpSync (s : State) : State :=
  if s.home.steps ≠ [] ∨ ¬ mirrors s then s
  else
    let go := s.home.syncing.filter fun i => (s.tensor (kvHandle i)).tier = 1
    go.foldl sendSync { s with home := { s.home with syncing := s.home.syncing.filter fun i => i ∉ go } }

/-- The twin has accepted an OPEN: the commands that asked complete, and the sync is due (R476). -/
def openAccepted (s : State) (i : Nat) : State :=
  let mine := s.home.opens.filter fun o => o.1 = i
  if mine = [] then s
  else
    let s1 := { s with home := { s.home with opens := s.home.opens.filter (fun o => o.1 ≠ i), syncing := s.home.syncing ++ [i] } }
    refreshTwin (mine.foldl (fun s o => openDone s i o.2 (s.entry i).twin) s1)

/-- A HANDOFF is acknowledged: the request ends with TAKEN_OVER (R485). -/
def handoffDone (s : State) (i : Nat) : State :=
  if i ∈ s.home.handed then
    { count s Reg.devHandoffs 1 with home := { s.home with
      handed := s.home.handed.filter (· ≠ i)
      declared := s.home.declared ++ [i] } }
  else s

/-- What the ACK of a MIRROR message brings about. -/
def mirrorAcked (s : State) (m : Msg) : State :=
  let i := m.index
  let live := decide ((s.entry i).gen = m.gen)
  match fld m.target 0 4 with
  | 1 => if live then openAccepted s i else s
  | 4 => { s with home := { s.home with steps := s.home.steps.filter fun x => x.1 ≠ m.id } }
  | 8 => if live ∧ (s.entry i).twin ≠ 0 then s.setEntry i { s.entry i with synced := true } else s
  | 11 => if live then handoffDone s i else s
  | _ => s

/-- An ACK ends the resends of the message that it names. -/
def execAckMsg (cls : Fin 6) (s : State) : Result := .next <|
  onMsg s (fun a => isOp cls.val (ackOp cls.val) a) fun s a =>
    match s.sent.find? fun x => x.msg.cls = cls.val ∧ x.msg.id = fld a.msg.target 0 32 with
    | none => s
    | some x =>
      let s1 := { s with sent := s.sent.erase x }
      if cls.val = 4 ∧ x.msg.op = 0x40 then pumpSync (mirrorAcked s1 x.msg) else s1

end Sys2Proof.Machine
end

