-- ==== Sys2Proof/Machine/Views.lean ====
section
/-!
DEFINITION. What a register read returns (R11, R94 to R96, R106, R109, R110, R112): the fields computed from other state, the entries
that indirect windows latch, and the galley window.
-/
namespace Sys2Proof.Machine

/-! ### Entries of indirect windows (R109) -/

/-- The INDEX register of the window whose DATA register lies at page offset `off`. -/
def windowIndex (k : PageKind) (off : Nat) : Nat := match k with
  | .dev0 => if off < 0x340 then 0x318 else if off < 0x600 then 0x340 else 0x618
  | .hub0 => if off < 0x188 then 0x140 else 0x190
  | .nvs0 => if off < 0x140 then 0x118 else if off < 0x190 then 0x148 else 0x198
  | .gal1 => 0x100
  | .nbu => if off < 0x228 then 0x198 else 0x280
  | .trc => 0x130
  | _ => 0x118

/-- Words of an imposition slot (R338). -/
def impoWords (x : ImpoSlot) : List Word :=
  let loaded := (x.formes.map fun f => 2 ^ f.bucket).foldl (· ||| ·) 0
  [word (x.state + x.kind * 4 + x.partition * 2 ^ 3 + x.handle * 2 ^ 9), x.impoId, word (loaded + x.suspect * 2 ^ 32),
    word (x.generation % 2 ^ 16 + x.tokenBase * 2 ^ 16), word x.bytes]

/-- The 128 bytes of a mirror entry (R493). -/
def mirrorBytes (k : Nat) (m : MirrorEntry) : List Byte :=
  (m.image ++ leBytes 104 0).take 104 ++ leBytes 8 m.home.toNat ++ leBytes 2 (reqField m.index) ++ leBytes 1 m.sync ++ leBytes 1 m.part ++
    leBytes 4 0 ++ leBytes 8 (if m.hot then Config.mirrorDirectory k % 2 ^ 38 else m.warmAt)

/-- Words of a coalescing slot (R534). -/
def coalWords (c : CoalSlot) : List Word :=
  if c.count = 0 then [0, 0, 0] else [word (c.count + c.block % 2 ^ 16 * 2 ^ 32 + 2 ^ 48), c.first, c.last]

/-- Words of an entry of a table that may be absent: absent entries read 0. -/
def optWords (n : Nat) (bs : Option (List Byte)) : List Word := toWords (bs.getD (leBytes (8 * n) 0))

/-- A table's entry, where it is listed. -/
def listed {α : Type} (m : Map α) (k : Nat) : Option α := (m.find? fun e => e.1 = k).map (·.2)

/-- Counts of a near-bank unit (R200). -/
def faultWord (n : Nbu) : Word := word (n.parity + b2n n.hung * 2 ^ 4 + b2n n.failed * 2 ^ 5)

/-- The entry that a write of `v` to the INDEX register at page offset `idx` latches. -/
def windowEntry (s : State) (p : PageRef) (idx : Nat) (v : Nat) : List Word := match p.kind with
  | .dev0 =>
    if idx = 0x318 then toWords (tensorBytes (s.tensor (v % 2 ^ 17)))
    else if idx = 0x340 then regionWords (s.region (v % 2 ^ 10))
    else optWords 16 ((listed s.mirrors (v % 2 ^ 15)).map (mirrorBytes (v % 2 ^ 15)))
  | .hub0 =>
    if idx = 0x140 then optWords 8 ((listed (s.hub (if p.inst = 0 then .west else .east)).mirror (v % 2 ^ 12)).map eventBytes)
    else coalWords (Map.get CoalSlot.empty s.events.coal (v % 2 ^ 11))
  | .nvs0 =>
    if idx = 0x118 then optWords 2 ((listed s.fallow (v % 2 ^ 12)).map fallowBytes)
    else if idx = 0x148 then optWords 8 ((listed s.nvs.log (v % 2 ^ 16)).map eventBytes)
    else optWords 4 ((listed s.nvs.ledger (v % 2 ^ 12)).map ledgerBytes)
  | .gal1 => treeWords s (v % 2 ^ 6)
  | .gal3 => impoWords (s.impo (v % 2 ^ 7))
  | .fab1 => [s.route (v % 2 ^ 12)]
  | .nbu =>
    if idx = 0x198 then
      toWords ((List.range 64).flatMap fun i => leBytes 2 (Map.get zeroAt s.bias (4096 * (v % 16) + 64 * (v / 16 % 64) + i)))
    else [faultWord (s.nbu (p.inst / 256) (8 * (p.inst % 256) + v / 64 % 8) (v % 64))]
  | .trc =>
    let t := (s.hub (if p.inst = 0 then .west else .east)).trace
    optWords 4 ((listed t.recs ((t.oldest + v % storeSize) % storeSize)).map traceBytes)
  | _ => []

/-- A write of an INDEX register latches the whole entry for its requester; the bits that are no index read 0. -/
def latchWindow (s : State) (who : Requester) (p : PageRef) (off key : Nat) (row : Option (RegRow × Nat)) (v : Word) : State :=
  let i := v &&& (masksOf p off row).rw
  setLatch s who key i (windowEntry s p off i.toNat)

/-- INDEX registers: the page kind and page offset. -/
def isIndex (k : PageKind) (off : Nat) : Bool :=
  decide ((k, off) ∈ [(PageKind.dev0, 0x318), (.dev0, 0x340), (.dev0, 0x618), (.hub0, 0x140), (.hub0, 0x190), (.nvs0, 0x118), (.nvs0, 0x148),
    (.nvs0, 0x198), (.gal1, 0x100), (.gal3, 0x118), (.fab1, 0x118), (.nbu, 0x198), (.nbu, 0x280), (.trc, 0x130)])

/-! ### Fields computed when read -/

/-- Page 0 of the block at a directory index (Table 16.1). -/
def dirBase (i : Nat) : Nat :=
  if i = 0 then 0 else if i < 3 then 0x10000 * i else if i = 3 then 0x30000 else if i = 4 then 0x40000
  else if i < 11 then 0x80000 + (i - 5) * 0x4000
  else if i < 155 then 0x100000 + (i - 11) / 18 * 0x40000 + (i - 11) % 18 * 0x1000
  else if i < 307 then 0x300000 + (i - 155) / 19 * 0x40000 + (i - 155) % 19 * 0x1000
  else if i < 309 then 0x500000 + (i - 307) * 0x1000
  else if i = 309 then 0x502000
  else 0x600000 + (i - 310) * 0x1000

/-- A directory entry (R115). -/
def dirEntry (s : State) (i : Nat) : Word := match locate (dirBase i) with
  | none => 0
  | some p => word (p.type + p.pages * 2 ^ 8 + p.inst * 2 ^ 16 + p.base / 0x1000 * 2 ^ 32 + blkState s p * 2 ^ 46 + 0x10 * 2 ^ 48)

/-- How far a half has come: its step, or 13 when it is in service. -/
def halfStep (x : HalfState) : Nat := match x.phase with
  | .ready => 13
  | .heldRail | .heldStrap | .unpowered | .down => 1
  | _ => x.step

/-- DEV_START_STATUS (R91). -/
def startStatus (s : State) : Word :=
  let x := if halfStep s.east < halfStep s.west then s.east else s.west
  let state := match x.phase with
    | .ready => 1
    | .waiting => 2
    | .halted => 3
    | _ => 0
  word (min 12 (halfStep x) + state * 2 ^ 4 + x.failStep % 16 * 2 ^ 8 + x.failCode % 2 ^ 16 * 2 ^ 16 +
    min 3 (max s.west.restarts s.east.restarts) * 2 ^ 32 + b2n s.clock.aligned * 2 ^ 34 + b2n s.colophon.skipped * 2 ^ 35 +
    b2n (s.dies.any fun d => d.2.derated) * 2 ^ 36)

/-- Channels that are fallow. -/
def fallowChannels (s : State) : Nat := (memChannels.filter fun x => !channelUp s x.1 x.2).length

/-- DEV_MEM_CAP0 and DEV_MEM_CAP1, valid from start step 12 (R158). -/
def memCap0 (s : State) : Word :=
  if released s then word (t1Slots s % 2 ^ 24 + freeSlots s % 2 ^ 24 * 2 ^ 24 + fallowChannels s * 2 ^ 48) else 0

def memCap1 (s : State) : Word :=
  if released s then word (reservedHeld s none % 2 ^ 24 + sharedUsed s none % 2 ^ 24 * 2 ^ 24) else 0

/-- A hub's copy of DEV_HOST_ARB (R451). -/
def arbView (s : State) (h : Half) : Word :=
  let mask := ones 0 2 ||| ones 16 48
  setBit (s.hub h).arb 2 (decide ((s.hub h).arb &&& mask = (s.hub h.other).arb &&& mask))

/-- HUB_EVT_QUEUE (R533). -/
def evtQueue (s : State) : Word :=
  word (s.events.queue.length + b2n s.events.coalescing * 2 ^ 10 + s.events.coal.length * 2 ^ 16 + min 0xFFFF s.events.summaries * 2 ^ 32)

/-- NVS_LEASE1: µs until the lease expires (R497). -/
def lease1 (s : State) : Word :=
  let l := s.nvs.lease
  word ((if leaseValid s then min 5000 ((l.expires + 2 ^ 32 - s.nvs.timer) % 2 ^ 32) else 0) + l.arbEpoch * 2 ^ 16)

/-- Sorts of a core's segment that no engine has issued. -/
def sortsLeft (s : State) (l : Nat) : Nat := match segmentPick s l with
  | none => 0
  | some (_, f) => ((f.segment l).zipIdx.filter fun x => Map.get zeroAt s.steps.pcs (enginePc l (sortEngine x.1)) ≤ x.2).length

/-- CORE_STATUS of physical core `p` of CDd (R234): a sort runs within one command, but for one whose atomic adds are on their way. -/
def coreStatus (s : State) (d p : Nat) : Word := match carried s d p with
  | none => 0
  | some n =>
    let l := 32 * d + n
    let active := s.steps.running && (segmentPick s l).isSome
    let left := if active then sortsLeft s l else 0
    let busy := s.steps.atomics.any fun a => a.issuer = l
    word (b2n busy * 2 ^ 2 + min 4096 left * 2 ^ 5 + b2n active * 2 ^ 18 +
      b2n (decide (left ≠ 0) && ((List.range 5).all fun e => (nextRun s l e 0).isNone)) * 2 ^ 19)

/-- CORE_ACC_STATUS (R268). -/
def accStatus (s : State) (d p : Nat) : Word :=
  let c := s.core d p
  let mine := s.steps.atomics.any fun a => !a.inT1 && decide (coreOf s (a.core / 32) (a.core % 32) = some p ∧ a.core / 32 = d)
  word (min 1024 ((c.tiles.map fun t => t.hi - t.lo).foldl (· + ·) 0) + min 64 c.tiles.length * 2 ^ 11 + b2n mine * 2 ^ 21)

/-- CH_STATUS (R140). -/
def chView (s : State) (d c : Nat) : Word :=
  let fallow := ((List.range 64).filter fun k => !pairUp s d c k).length
  setFld (setBit (getReg s (Reg.chStatus d c)) 2 (s.die d).derated) 16 7 fallow

/-- The governor's cap on the near-bank units, in eighths (R46, Table 2.7). -/
def govCap (level : Nat) : Nat := [8, 8, 8, 7, 6, 5, 4].getD level 4

/-- The thermal duty of a step (Table 6.10). -/
def thermalDuty (step : Nat) : Nat := [8, 7, 6, 4].getD step 4

/-- NBU_STATUS of a group (R194). -/
def nbuView (s : State) (d g : Nat) : Word :=
  let step := nbuStep s d
  let cap := govCap (powerLevel s)
  let mine := s.nbus.filter fun n => n.1 / 512 = 2 * d + g
  let fallow := ((List.range 8).map fun c => ((List.range 64).filter fun k => !pairUp s d (8 * g + c) k).length).foldl (· + ·) 0
  word (min (thermalDuty step) (min cap (getFld s (Reg.nbuCfg d g) 0 4)) + step * 2 ^ 4 + (mine.filter fun n => n.2.holds).length * 2 ^ 8 +
    fallow * 2 ^ 18 + cap * 2 ^ 32 + ((mine.map fun n => n.2.tier).foldl max 0) % 4 * 2 ^ 36)

/-- TRC_STATUS of a hub (R531). -/
def traceStatus (s : State) (h : Half) : Word :=
  let t := (s.hub h).trace
  let full := t.full && getBit s (Reg.trcCtrl h.idx) 1
  word (b2n (recording s h && !full && !t.frozen) + b2n full * 2 + b2n t.frozen * 4 + b2n t.dumping * 8 + t.count * 2 ^ 8 + t.oldest * 2 ^ 32)

/-- CNT_STOP_STATUS: STOPPING while a boundary stop whose time has come waits for its boundary or its cut (R529, Table 15.8). -/
def stopStatus (s : State) : Word :=
  let v := getReg s Reg.cntStopStatus
  if stopState s = 1 ∧ stopDue s then setFld v 0 3 2 else v

/-- PART_USE0 and PART_USE1 (R454). -/
def partUse0 (s : State) (n : Nat) : Word := word (reservedHeld s (some n) % 2 ^ 24 + sharedUsed s (some n) % 2 ^ 24 * 2 ^ 24)
def partUse1 (s : State) (n : Nat) : Word :=
  word (weightSlots s (some n) % 2 ^ 24 + (systemUsed s (some n) + 0x7FFF) / 0x8000 % 2 ^ 24 * 2 ^ 24)

/-- Q_RING_STATUS: PORT_DOWN while the rings are enabled on a port that is stopped (R459). -/
def ringView (s : State) (n : Nat) (drv : Bool) : Word :=
  let v := getReg s (ringStatus n drv)
  if fld v 48 8 = 0 ∧ ringOn s n drv ∧ portStopped s (getFld s (Reg.partCfg n) 2 1) then setFld v 48 8 3 else v

/-- Registers whose fields are computed. -/
def plainView (s : State) (who : Requester) (p : PageRef) (o off key i : Nat) : Word :=
  let half : Half := if p.inst = 0 then .west else .east
  let d := p.inst / 256
  let phys := 2 * (p.inst % 256) + (if off < 0x800 then 0 else 1)
  match p.kind with
  | .dev0 =>
    if o = 0x248 then startStatus s else if o = 0x308 then memCap0 s else if o = 0x310 then memCap1 s
    else if o = 0x380 then arbView s (viaHub who) else getReg s key
  | .dev1 => if o = 0x100 then regReset key else dirEntry s i
  | .hub0 => if o = 0x188 then evtQueue s else getReg s key
  | .nvs0 =>
    if o = 0x108 then word (s.nvs.lease.holder + s.nvs.lease.epoch * 2 ^ 16) else if o = 0x110 then lease1 s
    else if o = 0x140 then word (s.nvs.logNext + b2n s.nvs.logWrapped * 2 ^ 16) else getReg s key
  | .gal0 => if o = 0x108 then s.steps.num else getReg s key
  | .fab1 => if o = 0x100 then stamp s else getReg s key
  | .core => if o = 0x008 then coreStatus s d phys else if o = 0x208 then accStatus s d phys else getReg s key
  | .ch => if o = 0x100 then chView s d (p.inst % 256) else getReg s key
  | .nbu =>
    if o = 0x108 then nbuView s d (p.inst % 256) else if o = 0x228 ∨ o = 0x230 then getReg s (Reg.nbuBiasOwner 0 0 ((o - 0x228) / 8))
    else getReg s key
  | .trc => if o = 0x120 then traceStatus s half else getReg s key
  | .cnt0 =>
    if o = 0x150 then stopStatus s
    else if o = 0x220 then word (heldFlits s .west + heldFlits s .east * 2 ^ 16) else getReg s key
  | .part =>
    if o = 0x120 then partUse0 s p.inst else if o = 0x128 then partUse1 s p.inst
    else if o = 0x130 then setFld (getReg s key) 16 16 (liveOf s p.inst)
    else if o = 0x190 then ringView s p.inst true else getReg s key
  | .q1 => if o = 0x128 then ringView s p.inst false else getReg s key
  | _ => getReg s key

/-! ### A read -/

/-- What a register reads: WO fields read 0 (R11). -/
def readReg (s : State) (who : Requester) (p : PageRef) (off key : Nat) (row : Option (RegRow × Nat)) : Word :=
  match row with
  | none => if off = 0x030 then intPend s p.base else if off = 0x060 then 0 else getReg s key
  | some (r, i) =>
    let o := r.off + 8 * i
    match r.cls with
    | .counter | .snap => Map.get (fun _ => 0) s.snap key
    | .latch =>
      let idx := windowIndex p.kind off
      match latched s who (key - off + idx) with
      | [] => regReset key
      | _ :: ws => ws.getD ((off - idx) / 8 - 1) 0
    | .plain | .derived =>
      if isIndex p.kind off then latchedIndex s who key else plainView s who p o off key i &&& ~~~(word r.wo)

/-- Bytes of the galley entry window. -/
def galleyRead (s : State) (off n : Nat) : List Byte :=
  ((((List.range (n / 128 + 2)).map fun k => off / 128 + k).flatMap fun i => entryBytes i (s.entry i)).drop (off % 128)).take n

/-- What an access reads; one that is refused reads 0 (R96). -/
def readAccess (s : State) (a : Access) : List Byte :=
  if accessCauses s a false ≠ [] then leBytes a.size 0
  else match resolve a.who a.off with
    | some (.reg p off key row) => leBytes 8 (readReg s a.who p off key row).toNat
    | some (.msix k _) => ((leBytes 8 (getMsix s (k / 8 * 8)).toNat).drop (k % 8)).take a.size
    | some (.galley off) => galleyRead s off a.size
    | none => leBytes a.size 0

/-- A read that is refused is counted (R96, R538, R539); one that is served changes nothing. -/
def execRefusedRead (a : Access) (s : State) : Result := .next <|
  match accessCauses s a false with
  | [] => s
  | cs => refuseAccess s a false cs

end Sys2Proof.Machine
end

