-- ==== Sys2Proof/Machine/Counters.lean ====
section
/-!
DEFINITION. Counters and their snapshots (R498 to R508): writes, block snapshots (R105), group snapshots and clears, automatic snapshots,
occupancy ticks.
-/
namespace Sys2Proof.Machine

/-! ### Writes (R501, Table 15.1) -/

/-- Write a counter; `inc`: what its event adds in the same cycle. -/
def writeCounter (s : State) (off : Nat) (v : Word) (inc : Nat) : State :=
  let c := getCnt s off
  let blk := off / 0x1000 * 0x1000
  let c1 := setFld c 0 48 (fld v 0 48)
  if 2 ^ 48 ≤ fld c 0 48 + inc then
    raiseEvent (setCnt s off (setBit (setBit c1 62 true) 63 true)) 0x004 noPart (blkDir blk) (blkHalf blk) (word off) 0
  else if bit v 63 then setCnt s off (setBit (setBit c1 62 false) 63 false)
  else setCnt s off c1

/-! ### SNAP fields of a block (R105) -/

/-- Entries in a state. -/
def entriesIn (s : State) (st : Nat) : Nat := (entriesWhere s fun e => decide (e.state = st)).length

/-- GAL_COUNT0 to GAL_COUNT2 as they stand (R378). -/
def galCount (s : State) (i : Nat) : Word :=
  let free := 32768 - (s.entries.filter fun e => e.2.state ≠ 0).length
  let pack := fun (a b c d : Nat) => word (a % 2 ^ 16 + b * 2 ^ 16 + c * 2 ^ 32 + d * 2 ^ 48)
  if i = 0 then pack free (entriesIn s 1) (entriesIn s 2) (entriesIn s 3)
  else if i = 1 then pack (entriesIn s 4) (entriesIn s 5) (entriesIn s 6) (entriesIn s 7)
  else pack (entriesIn s 8) (entriesWhere s fun e => decide ((e.state = 2 ∨ e.state = 3) ∧ e.skips ≠ 0)).length 0 0

/-- Offsets of the event counters of one page. -/
def pageCounters (p : PageRef) (base : Nat) : List Nat :=
  let run := fun (at_ : Nat) (r : RegRow) => if r.cls = .counter then (List.range r.count).map fun i => at_ + r.off + 8 * i else []
  if p.kind = .core then (p.kind.rows.flatMap (run (base + 0x100))) ++ p.kind.rows.flatMap (run (base + 0x800))
  else p.kind.rows.flatMap (run base)

/-- Offsets of the counters of an occupancy group: CNT_GRP_TICKS first (R530). -/
def groupCounters (g : Nat) : List Nat := Reg.cntGrpTicks g :: (List.range (occCount g)).map fun i => Reg.cntGrpTicks g + 8 * (i + 1)

/-- Offsets of the counters of a block. -/
def blockCounters (blk : Nat) : List Nat := match locate blk with
  | none => []
  | some p =>
    if p.type = 0x0C then (List.range 14).flatMap groupCounters
    else (List.range p.pages).flatMap fun i => match locate (blk + 0x1000 * i) with
      | some q => pageCounters q (blk + 0x1000 * i)
      | none => []

/-- Copy the counters at `offs` into their snapshots. -/
def snapAll (s : State) (offs : List Nat) : State :=
  { s with snap := offs.foldl (fun m o => Map.set (fun _ => 0) m o (getCnt s o)) s.snap }

/-- Load one SNAP field. -/
def loadSnap (s : State) (off : Nat) (v : Word) : State := { s with snap := Map.set (fun _ => 0) s.snap off v }

/-- GAL_COUNT0 to GAL_COUNT2 are loaded. -/
def snapGalley (s : State) : State :=
  loadSnap (loadSnap (loadSnap s Reg.galCount0 (galCount s 0)) Reg.galCount1 (galCount s 1)) Reg.galCount2 (galCount s 2)

/-- A snapshot of a block at time `t` lies within 8 ns of its last one (R105, R507). -/
def snapMerges (s : State) (blk t : Nat) : Bool :=
  let last := fld (getReg s (blkSnapStamp blk)) 0 63
  decide (getReg s (blkSnapStamp blk) ≠ 0 ∧ t < last + 8)

/-- A stamp of time `t`. -/
def stampAt (s : State) (t : Nat) : Word := setBit (word (t % 2 ^ 63)) 63 (!s.clock.aligned)

/-- CNT_GRP_STAMP of a group for a capture at time `t`. -/
def grpStamp (s : State) (t : Nat) (partly smeared : Bool) : Word :=
  word (t % 2 ^ 61 + b2n (!s.clock.aligned) * 2 ^ 61 + b2n partly * 2 ^ 62 + b2n smeared * 2 ^ 63)

/-- The SNAP fields of a block other than its counters. -/
def snapRest (s : State) (blk t : Nat) : State :=
  if blk = Reg.galBlk then snapGalley s
  else if blk = Reg.cntBlk then (List.range 14).foldl (fun s g => loadSnap s (Reg.cntGrpStamp g) (grpStamp s t false false)) s
  else s

/-- Copy every SNAP field of a block and stamp it with `t`. -/
def snapBlock (s : State) (blk t : Nat) : State :=
  setReg (snapRest (snapAll s (blockCounters blk)) blk t) (blkSnapStamp blk) (stampAt s t)

/-- BLK_SNAP.TRIGGER: merged into a snapshot that is not yet 8 ns old. -/
def triggerSnap (s : State) (blk : Nat) : State :=
  if snapMerges s blk s.clock.now then s else setCause (snapBlock s blk s.clock.now) blk 3

/-! ### Groups (R503, Tables 15.2 and 15.3) -/

/-- The block type whose event counters form a group. -/
def groupType (g : Nat) : Nat := ([0x09, 0x0A, 0x07, 0x05, 0x04, 0x02, 0x01, 0x0D, 0x0B] : List Nat).getD (g - 16) 0

/-- The blocks of a group of event counters. -/
def groupBlocks (g : Nat) : List Nat := ((List.range 374).map dirBase).filter fun b => blkType b = groupType g

/-- A block whose counters a capture leaves out: UNREACHABLE or GATED (R507). -/
def outOfReach (s : State) (blk : Nat) : Bool := (locate blk).any fun p => decide (2 ≤ blkState s p)

/-- The die of each counter of an occupancy group lies out of reach for some member (PARTIAL). -/
def groupPartial (s : State) (g : Nat) : Bool :=
  let md := fun d => outOfReach s (Reg.mdBlk d)
  let cd := fun d => outOfReach s (Reg.cdBlk d)
  if g < 6 then (List.range 4).any fun d => md (d + 4 * (g % 2))
  else if g < 8 then (List.range 4).any fun d => cd (d + 4 * (g % 2))
  else if g < 10 then (List.range 6).any fun p => outOfReach s (Reg.fabBlk p)
  else if g = 10 then (List.range 8).any cd
  else if g = 11 then (List.range 2).any fun h => outOfReach s (Reg.hubBlk h)
  else if g = 13 then ((List.range 8).any fun d => md d || cd d) || (List.range 6).any fun p => outOfReach s (Reg.fabBlk p)
  else false

/-- Capture a group at time `t`; `stampOf`: the stamp of a block, `smeared`: an immediate stop takes it. -/
def captureGroup (s : State) (stampOf : Nat → Nat) (t : Nat) (smeared : Bool) (g : Nat) : State :=
  if g < 14 then
    let last := fld (Map.get (fun _ => 0) s.snap (Reg.cntGrpStamp g)) 0 61
    if last ≠ 0 ∧ t < last + 8 ∧ last ≤ t then s
    else loadSnap (snapAll s (groupCounters g)) (Reg.cntGrpStamp g) (grpStamp s t (groupPartial s g) smeared)
  else (groupBlocks g).foldl (fun s b => if outOfReach s b || snapMerges s b (stampOf b) then s else snapBlock s b (stampOf b)) s

/-- Clear a group: counts and flags to 0 (R507). -/
def clearGroup (s : State) (g : Nat) : State :=
  let offs := if g < 14 then groupCounters g else ((groupBlocks g).filter fun b => !outOfReach s b).flatMap blockCounters
  { s with cnt := offs.foldl (fun m o => Map.del m o) s.cnt }

/-- Groups 0 to 13 and 16 to 24. -/
def allGroups : List Nat := List.range 14 ++ (List.range 9).map (16 + ·)

/-- Capture every group at time `t`. -/
def captureAll (s : State) (stampOf : Nat → Nat) (t : Nat) (smeared : Bool) : State :=
  allGroups.foldl (fun s g => captureGroup s stampOf t smeared g) s

/-! ### CNT_SNAP_CTRL (R505, R507, R528) -/

/-- Groups that do not exist. -/
def reservedGroups : Nat := 2 ^ 14 + 2 ^ 15 + (2 ^ 7 - 1) * 2 ^ 25

/-- A write of CNT_SNAP_CTRL: GO or CLEAR arms a capture, or is refused. -/
def snapCtrl (s : State) (v : Word) : State :=
  let s1 := setReg s Reg.cntSnapCtrl (v &&& ones 0 32)
  let at_ := getFld s Reg.cntSnapAt 0 63
  let now := s.clock.now
  if !bit v 32 && !bit v 33 then s1
  else if s.capture.isSome ∨ fld v 0 32 &&& reservedGroups ≠ 0 ∨ (at_ ≠ 0 ∧ at_ < now + 1000) then
    putBit s1 Reg.cntSnapStatus 1 true
  else
    { setReg s1 Reg.cntSnapStatus 1 with
      capture := some ⟨if at_ = 0 then now + 1000 else at_, fld v 0 32, bit v 33, bit v 32⟩ }

/-- At T_s: the groups are cleared, then captured; the cause SNAP_GROUP_DONE. -/
def execSnapshotCapture (s : State) : Result := .next <|
  match s.capture with
  | none => s
  | some c =>
    if s.clock.now < c.at_ then s
    else
      let gs := allGroups.filter fun g => c.groups.testBit g
      let s1 := if c.clear then gs.foldl clearGroup s else s
      let s2 := if c.snap then gs.foldl (fun s g => captureGroup s (fun _ => c.at_) c.at_ false g) s1 else s1
      setCause (putBit { s2 with capture := none } Reg.cntSnapStatus 0 false) Reg.cntBlk 17

/-- A multiple of PERIOD_US: groups 0 to 24, unless the device is in a stop (R506). -/
def execAutoSnapshot (s : State) : Result := .next <|
  let period := getFld s Reg.cntAuto 0 16 * 1000
  let t := s.clock.now / period * period
  if period = 0 ∨ 3 ≤ stopState s then s else captureAll s (fun _ => t) t false

/-! ### Occupancy (R504, Table 15.3) -/

/-- Flits of class `c` in a list. -/
def flitsOf (c : Nat) (fs : List (List Byte)) : Nat := (fs.filter fun f => flitClass f = c).length

/-- Reads outstanding on the e-th busy T2 DMA engine of a hub. -/
def readsOut (s : State) (h : Half) (e : Nat) : Nat :=
  match (s.moves.filter fun m => m.hub = h ∧ m.running ∧ ¬ m.finished)[e]? with
  | none => 0
  | some m => if m.kind.intoT1 then (m.len + 4095) / 4096 - m.chunks.length else 1

/-- The occupancy of queue `i` of group `g`. The reorder queues and the mesh buffers hold nothing in this model. -/
def occupancy (s : State) (g i : Nat) : Nat :=
  let d := i / 16 + 4 * (g % 2)
  let half : Nat → Half := fun h => if h = 0 then .west else .east
  if g < 2 ∨ g = 10 then 0
  else if g < 4 then ((List.range 64).map fun k => (s.nbu d (i % 16) k).jobs.length).foldl (· + ·) 0
  else if g < 6 then min 4096 (s.chan d (i % 16)).xfers.length
  else if g < 8 then min 4096 (sortsLeft s (i + 128 * (g % 2)))
  else if g = 8 then flitsOf (i % 6) (s.link (i / 6)).stuck
  else if g = 9 then flitsOf (i % 6) (s.link (i / 6)).waiting
  else if g = 11 then
    if i < 16 then readsOut s (half (i / 8)) (i % 8) else getFld s (Reg.hubMigStatus (i - 16)) 4 12
  else if g = 12 then (s.ring i false).fetched + (s.ring i true).fetched
  else if i < 2 then s.events.queue.length
  else (s.source (i - 2)).fifo.length

/-- A multiple of 64 ns: every occupancy counter adds its queue's fill. -/
def execOccupancyTick (s : State) : Result := .next <|
  (List.range 14).foldl (fun t g =>
    (List.range (occCount g)).foldl (fun t i =>
      let n := occupancy s g i
      if n = 0 then t else count t (Reg.cntGrpTicks g + 8 * (i + 1)) n) (count t (Reg.cntGrpTicks g) 1)) s

end Sys2Proof.Machine
end

