-- ==== Sys2Proof/Machine/EventLog.lean ====
section
/-!
DEFINITION. How event records leave the queue (R522 to R526), and what happens while the NVS takes no writes (R487, R470).
-/
namespace Sys2Proof.Machine

/-! ### Destinations (R487) -/

/-- The NVS takes log records. -/
def logWrites (s : State) : Bool := s.nvs.ok && !s.nvs.writesStopped && !getBit s Reg.nvsStatus 0

/-- A hub's mirror takes records. -/
def mirrorWrites (s : State) (h : Half) : Bool := (s.hub h).mirrorOk && hubAlive s h

/-- Append a record to the log ring of 65,536. -/
def appendLog (s : State) (e : EventRec) : State :=
  let n := s.nvs
  let nx := (n.logNext + 1) % 65536
  { s with nvs := { n with log := Map.put n.log n.logNext e, logNext := nx, logWrapped := n.logWrapped || nx == 0 } }

/-- Record SEQ lies in slot SEQ mod 4,096 of a mirror. -/
def putMirror (s : State) (h : Half) (e : EventRec) : State :=
  s.setHub h { s.hub h with mirror := Map.put (s.hub h).mirror (e.seq % 4096) e }

/-- The record at a hub: into its mirror, or into its last-gasp register where R487 says so. -/
def mirrorOrGasp (alone : Bool) (e : EventRec) (s : State) (h : Half) : State :=
  if mirrorWrites s h then putMirror s h e
  else if (alone ∨ e.half = h.idx) ∧ (s.half h).phase ≠ .unpowered then lastGasp s h (0x800 + e.type)
  else s

/-- A mirror that fails a write takes no more records. -/
def noteMirror (fails : Bool) (s : State) (h : Half) : State :=
  if fails then s.setHub h { s.hub h with mirrorOk := false } else s

/-- The first record of the queue is written everywhere R487 sends it, and leaves the queue. -/
def execEventRecordWrite (westFail eastFail : Bool) (s : State) : Result := .next <|
  match s.events.queue with
  | [] => s
  | e :: rest =>
    let s1 := noteMirror eastFail (noteMirror westFail { s with events := { s.events with queue := rest } } .west) .east
    let anyMirror := mirrorWrites s1 .west || mirrorWrites s1 .east
    let log := logWrites s1
    let s2 := if log then appendLog s1 e else s1
    let s3 := mirrorOrGasp (!log && !anyMirror) e (mirrorOrGasp (!log && !anyMirror) e s2 .west) .east
    if log || anyMirror then
      let s4 := setCause s3 Reg.nvsBlk 16
      if 2 ≤ evSeverity e.type then setCause s4 Reg.nvsBlk 17 else s4
    else s3

/-! ### Summaries (R526) -/

def execEvtSummary (s : State) : Result := .next <|
  match s.events.coal with
  | [] => s
  | (type, c) :: rest =>
    if 256 < s.events.queue.length then s
    else
      let s1 := { s with events := { s.events with
        coal := rest, coalescing := decide (rest ≠ []), summaries := s.events.summaries + 1 } }
      enqueueEvent s1 0x003 true noPart noBlock 2 (word (type % 2 ^ 11 + c.block % 2 ^ 16 * 2 ^ 16 + c.count * 2 ^ 32)) c.first c.last

/-! ### The NVS takes no writes, and takes them again (R487) -/

def execLogDegraded (s : State) : Result := .next <|
  if getBit s Reg.nvsStatus 0 then s else setCause (putBit s Reg.nvsStatus 0 true) Reg.nvsBlk 18

/-- Two records are the same one. -/
def sameRecord (a b : EventRec) : Bool := decide ({ a with copied := false } = { b with copied := false })

/-- Records of the mirrors that the log does not hold, in SEQ order. -/
def missedRecords (s : State) : List EventRec :=
  let both := (s.hubWest.mirror ++ s.hubEast.mirror).map (·.2)
  let missed := both.filter fun e => !(s.nvs.log.any fun x => sameRecord x.2 e)
  let once := missed.foldl (fun (l : List EventRec) e => if l.any (sameRecord e) then l else l ++ [e]) []
  once.mergeSort fun a b => a.startSeq < b.startSeq || (a.startSeq == b.startSeq && a.seq ≤ b.seq)

/-- The controller that acts by host arbitration writes the lease (R470). -/
def adoptLease (s : State) (h : Half) : State :=
  let l := s.nvs.lease
  let arb := (s.hub h).arbSeen
  let e := (arb + 1) % 2 ^ 48
  let s1 := s.setLease { l with
    holder := mcNum h, epoch := e, expires := (s.nvs.timer + 5000) % 2 ^ 32, renewals := 0, acquired := s.clock.now, arbEpoch := arb, queued := 0
    last := mcNum h }
  let s2 := mcWait (setEpochSeen (setMc s1 h true 0) h e) h.other
  if l.last ≠ 0 ∧ l.last ≠ mcNum h then devEvent s2 0x051 (mcNum h) e else s2

/-- Controllers that act by host arbitration, the one with the higher epoch last. -/
def arbActing (s : State) : List Half :=
  ((if s.hubWest.arbSeen ≤ s.hubEast.arbSeen then [Half.west, Half.east] else [Half.east, Half.west])).filter fun h =>
    mcActs s h && decide (getFld s (Reg.hubMcStatus h.idx) 2 2 = 1)

/-- The controllers whose hubs run reach the NVS. -/
def reachNvs (s : State) : State :=
  [Half.west, Half.east].foldl (fun s h =>
    if hubAlive s h then putBit (putBit s (Reg.hubMcStatus h.idx) 4 true) Reg.nvsStatus (1 + h.idx) true else s) s

def execLogResumed (s : State) : Result := .next <|
  if s.nvs.writesStopped ∨ ¬ getBit s Reg.nvsStatus 0 then s
  else
    let missed := missedRecords s
    let s1 := missed.foldl (fun s e => appendLog s { e with copied := true }) s
    let s2 := reachNvs (putBit { s1 with nvs := { s1.nvs with ok := true } } Reg.nvsStatus 0 false)
    let s3 := s2.nvs.ledgerHeld.foldl ledgerWrite { s2 with nvs := { s2.nvs with ledgerHeld := [] } }
    (arbActing s3).foldl adoptLease (devEvent s3 0x005 missed.length 0)

end Sys2Proof.Machine
end

