-- ==== Sys2Proof/Machine/Groups.lean ====
section
/-!
DEFINITION. The messages of serving groups (R30, R327, R359, R464).
-/
namespace Sys2Proof.Machine

/-! ### Reports (R30, R464) -/

/-- A member's report on the lead: one fewer is awaited; what it says of the step and of an activation is kept. -/
def takeReport (s : State) (k m : Nat) (abandoned lacking : Bool) : State :=
  let g := s.group k
  if !isGroup s k || !isLead s k || decide (m ∉ g.awaited) then s
  else
    let s1 := s.setGroup k { g with
      awaited := g.awaited.erase m, abandoned := g.abandoned || abandoned, lacking := g.lacking || lacking }
    let mine := s.steps.running && s.steps.current.any fun p => p.impo = k
    lastReport (if abandoned && mine then abandonWith s1 .normal else s1) k

def execStepReport (k : Fin 128) (m : Fin 64) (abandoned lacking : Bool) (s : State) : Result := .next <|
  onMsg s (fun a => decide (a.msg.cls = 1 ∧ a.msg.op = 0x10 ∧ a.msg.src = memberCoord s k m)) fun s _ =>
    takeReport s k m abandoned lacking

/-! ### Announcements (R30, R327, R359) -/

/-- A request as the lead's close has left it. -/
def applySync (s : State) (x : ReqSync) : State :=
  let e := s.entry x.req
  if e.state = 0 ∨ e.state = 8 then s
  else
    let log := x.tokens.foldl (fun m t => Map.set zeroAt m t.1 t.2) (trimLog e)
    let s1 := s.setEntry x.req { e with
      length := x.length, promptLen := x.promptLen, lastToken := x.lastToken, proofLen := 0, toklog := log, phase := x.phase
      state := if e.state = 4 then (if x.phase = 1 then 3 else 2) else e.state }
    let s2 := dropStale s1 x.req
    if x.code = 0 then s2 else raiseEnd s2 x.req x.code

/-- The step that waits to run again is given up. -/
def dropReplay (s : State) : State :=
  if s.steps.replay = .none then s
  else
    let s1 := unpickAll s s.steps.current
    { s1 with steps := { s1.steps with current := [], replay := .none, failures := 0 } }

/-- What the announcement says of the step that this member has run. -/
def applyFate (s : State) (k : Nat) (a : Announce) : State :=
  let quiet := s.setGroup k { s.group k with reported := true }
  let mine := s.steps.current.any fun p => p.impo = k
  if a.fate = 0 then a.settled.foldl applySync s
  else if !mine then s
  else if a.fate = 1 then abandonWith quiet .normal
  else dropReplay (abandonWith quiet .none)

/-- An announced slot. -/
def slotOfRow (r : SlotRow) : Slot :=
  ⟨r.req, r.kind, r.length, r.count, false, 0, r.append.foldl (fun m x => Map.set zeroAt m x.1 x.2) [], []⟩

/-- The READY decode slot that holds an IMPO_ID. -/
def readySlot (s : State) (id : Word) : Option Nat :=
  (List.range 128).find? fun j => decide ((s.impo j).state = 2 ∧ (s.impo j).kind = 0 ∧ (s.impo j).impoId = id)

/-- An announced activation: the member reports whether it holds the imposition, and activates it with the next announcement (R327). -/
def announceImpo (s : State) (src slice : Nat) (id : Word) : State :=
  let (c, s1) := openContent s
  let s2 := (sendMsg s1 slice 1 0x10 src true 0 c).2
  match readySlot s2 id with
  | none => s2
  | some j => { s2.setGroup j { s2.group j with reported := true, released := false } with deferred := s2.deferred ++ [.activate j] }

/-- A cancelled activation. -/
def cancelImpo (s : State) (id : Word) : State :=
  { s with deferred := s.deferred.filter fun d => match d with
    | .activate j => (s.impo j).impoId ≠ id || isLead s j
    | _ => true }

/-- An announcement on a member; one that closes the step closes it here, where every engine has ended. -/
def takeAnnounce (s : State) (k : Nat) (a : Announce) : State :=
  if !isGroup s k || isLead s k then s
  else
    let s1 := applyFate s k a
    let s2 := s1.setGroup k { s1.group k with
      reported := false, released := true, timeouts := 0, abandoned := false
      next := a.pick.map fun x => (x.1, x.2.1, x.2.2.map fun r => r.map slotOfRow) }
    let s3 := { s2 with steps := { s2.steps with tn := a.tn } }
    if s3.steps.running then (if stepEnded s3 && mayClose s3 && !halted s3 then closeStep s3 else s3)
    else if betweenSteps s3 && decide (stopState s3 ≤ 2) then boundary s3 false [] []
    else s3

def execStepAnnounce (k : Fin 128) (a : Announce) (s : State) : Result := .next <|
  onMsg s (fun x => decide (x.msg.cls = 1 ∧ x.msg.op = 0x11)) fun s x =>
    let s1 := a.activate.elim s (announceImpo s x.msg.src x.msg.slice)
    takeAnnounce (a.cancel.elim s1 (cancelImpo s1)) k a

/-- A forwarded command is taken like one of the member's own, without a completion; its tokens come with it. -/
def execCmdForward (tokens : List Nat) (s : State) : Result := .next <|
  onMsg s (fun x => decide (x.msg.cls = 1 ∧ x.msg.op = 0x12)) fun s x =>
    if x.msg.content.length ≠ 64 then s
    else
      let c : Cmd := ⟨(sliceOwner s x.msg.slice).getD 64, false, true, x.msg.content, 0, true, tokens⟩
      if (badByte c).isSome then s
      else if c.names then
        let e := s.entry c.req
        if e.state = 0 ∨ e.partition ≠ c.part ∨ e.state ∉ acceptStates c then s
        else { s with arrived := s.arrived ++ [{ c with gen := e.gen }] }
      else { s with arrived := s.arrived ++ [c] }

/-! ### Silence (R30, R464) -/

/-- Requests of a partition end with MEMBER_LOST at the next boundary. -/
def endGroup (s : State) (k : Nat) : State := (liveReqs s (s.impo k).partition).foldl (fun s i => raiseEnd s i 0x42) s

/-- No report within the timeout: the announcement goes out once more; then the member is lost. -/
def execGroupReportTimeout (k : Fin 128) (s : State) : Result := .next <|
  let g := s.group k.val
  if !isGroup s k || !isLead s k || decide (g.awaited = []) then s
  else if g.timeouts = 0 then
    let s1 := g.awaited.foldl (fun s m =>
      let (c, s') := openContent s
      sendMember s' k m 0x11 0 c) s
    s1.setGroup k { s1.group k with timeouts := 1 }
  else
    let s1 := endGroup (s.setGroup k { g with awaited := [], lacking := true }) k
    let mine := s1.steps.running && s1.steps.current.any fun p => p.impo = k.val
    if mine then abandonWith s1 .none else lastReport s1 k

/-- The surviving member with the lowest index writes the group's ends and completes the forwarded commands with SUPERSEDED. -/
def settleLost (s : State) (n : Nat) : State :=
  let mine := fun (c : Cmd) => c.quiet && decide (c.part = n)
  let s1 := { s with arrived := s.arrived.filter fun c => !mine c }
  if writesRecords s n then (s.arrived.filter mine).foldl (fun s c => complete s { c with quiet := false } 0x0D 0) s1 else s1

/-- No announcement within the timeout: the report goes out once more; then the lead is lost. -/
def execLeadLost (k : Fin 128) (s : State) : Result := .next <|
  let g := s.group k.val
  if !isGroup s k || isLead s k || !g.reported || g.lost then s
  else if g.timeouts = 0 then
    let s1 := sendReport s k
    s1.setGroup k { s1.group k with timeouts := 1 }
  else
    let s1 := s.setGroup k { g with lost := true, next := none }
    let mine := s1.steps.current.any fun p => p.impo = k.val
    let s2 := if mine then dropReplay (abandonWith s1 .none) else s1
    settleLost (endGroup s2 k) (s.impo k).partition

end Sys2Proof.Machine
end

