-- ==== Sys2Proof/Machine/Start.lean ====
section
/-!
DEFINITION. Resets and the start sequence: the writes of DEV_RESET_CTRL (R61, R90), start steps 1 to 7, 11 and 12 (R71 to
R80), restarts (R73), and life-cycle changes (R67, R68).
-/
namespace Sys2Proof.Machine

/-! ### DEV_RESET_CTRL (R90) -/

/-- A write of DEV_RESET_CTRL starts the reset of its KIND; without the key, or with KIND 0, it has no effect. -/
def resetCtrl (s : State) (v : Word) : State :=
  if fld v 16 16 ≠ 0x5A25 then s
  else if fld v 0 2 = 3 then requestCold s false
  else if fld v 0 2 = 2 then requestHalf s (if bit v 2 then .east else .west)
  else if fld v 0 2 = 1 then requestWarm s
  else s

/-- A row of DEV_RESET_CTRL with its KIND. -/
def resetRow (w : RegWrite) (kind : Nat) (s : State) : Result :=
  guarded (isReg w .dev0 0x240 && decide (fld w.val 0 2 = kind ∨ fld w.val 0 2 = 0))
    (serveWrite s w fun s _ _ _ _ => resetCtrl s w.val)

def execColdReset (w : RegWrite) (s : State) : Result := resetRow w 3 s

def execHalfReset (w : RegWrite) (s : State) : Result := resetRow w 2 s

def execWarmReset (w : RegWrite) (s : State) : Result := resetRow w 1 s

/-! ### Steps 1 to 4 -/

/-- The straps of a half differ from those the other half holds (R65). -/
def strapMismatch (s : State) (h : Half) (straps : BitVec 16) : Bool :=
  decide ((s.half h).kind = .half) && otherReady s h && decide ((s.half h.other).straps ≠ straps)

/-- While the counter is not aligned it counts from heath power good: the first half of a cold start sets it to 0. -/
def countFromPowerGood (s : State) (h : Half) : State :=
  let x := s.half h
  let o := s.half h.other
  if x.kind = .cold ∧ ¬ s.clock.aligned ∧ ¬ (o.phase = .starting ∧ 1 < o.step) ∧ o.phase ≠ .ready then
    { s with clock := { s.clock with now := 0 } }
  else s

def execHeathPowerGood (h : Half) (rails : BitVec 18) (straps : BitVec 16) (s : State) : Result :=
  if !inStep s h 1 then .next s
  else
    let s1 := refreshRails s h rails
    if !heathOk s1 h ∨ !pwrgd s1 h then .next s1
    else if let some r := badRail h rails then .next (holdRailSeq s1 h r)
    else if strapMismatch s1 h straps then
      let s2 := ledgerWrite s1 (stepRecord s1 h 0 0 1 0x0002 straps.toNat)
      .next (s2.setHalf h { s2.half h with phase := .heldStrap, failStep := 1, failCode := 2 })
    else
      let s2 := s1.setHalf h { s1.half h with straps := straps }
      .next (countFromPowerGood (endStep s2 h 0 0 0 0 0) h)

/-- Write the records kept while the NVS was not readable (R77). -/
def flushLedger (s : State) : State :=
  s.nvs.ledgerHeld.foldl ledgerWrite { s with nvs := { s.nvs with ledgerHeld := [] } }

/-- Step 2 in its alternate form: an empty fallow map and no twin, the lease by the host arbitration register, LOG_DEGRADED
set (Table 3.5). -/
def nvsAlternate (s : State) (h : Half) : State :=
  let x := s.half h
  let s1 := { s.setHalf h { x with nvsAlt := true } with
    fallow := [], colophon := { s.colophon with twinSerial := 0 } }
  let s2 := setCause (putBit s1 Reg.nvsStatus 0 true) Reg.nvsBlk 18
  endStep (putFld s2 (Reg.hubMcStatus h.idx) 2 2 1) h 0 1 0 0 0

/-- What the fallow map says of a die of half `h` takes effect: channels, bank pairs, dies (R466). -/
def applyFallow (s : State) (h : Half) : State :=
  (s.fallow.filter fun x => dieHalf x.2.die = h).foldl (fun s (_, e) =>
    if e.kind = 3 then putBit s (blkStatus (Reg.chBlk e.die e.unit)) 2 true
    else if e.kind = 4 then putBit s (Reg.nbuFallow e.die (e.unit / 8) (e.unit % 8)) e.pair true
    else if e.kind = 1 ∨ e.kind = 6 then s.setDie e.die { s.die e.die with fallow := true }
    else s) s

/-- Cores of CDd that the fallow map holds. -/
def fallowCores (s : State) (d : Nat) : BitVec 34 :=
  BitVec.ofNat 34 (maskOf ((s.fallow.filter fun x => x.2.kind = 2 ∧ x.2.die = d).map fun x => x.2.unit))

/-- Step 2 in its normal form with a readable NVS. -/
def nvsNormal (s : State) (h : Half) : State :=
  let s1 := applyFallow { s with nvs := { s.nvs with ok := true }, fallow := s.nvs.fallow, colophon := s.nvs.colophon } h
  let s2 := flushLedger (showColophon s1 s1.colophon)
  let s3 := putBit (putBit s2 (Reg.hubMcStatus h.idx) 4 true) Reg.nvsStatus (1 + h.idx) true
  let s4 := putBit (putBit s3 Reg.devLifecycle 4 s3.nvs.wipePending) Reg.devLifecycle 3 s3.nvs.lcPending.isSome
  let s5 := putFld s4 Reg.devLifecycle 8 2 (s4.nvs.lcPending.getD 0)
  endStep (putFld s5 (Reg.hubMcStatus h.idx) 16 48 s5.nvs.lease.epoch) h 0 0 0 0 0

def execNvsRead (h : Half) (readable : Bool) (s : State) : Result :=
  if !inStep s h 2 then .next s
  else if stepForm (s.half h) 2 0 = 1 then .next (nvsAlternate s h)
  else if readable then .next (nvsNormal s h)
  else .next (endStep s h 0 0 1 0x0010 0)

def execHubSelfTest (h : Half) (failing : Option Nat) (s : State) : Result :=
  if !inStep s h 3 then .next s
  else match failing with
    | none => .next (endStep s h 0 0 0 0 0)
    | some t => .next (endStep s h 0 0 1 0x0011 t)

/-- The life-cycle state the fuses give: RETURNED, or PROVISIONED, or BLANK (R66). -/
def fuseState (f : Fuses) : Nat := if f.returned then 3 else if f.provisioned then 1 else 0

/-- A colophon state agrees with the fuses: DEPLOYED blows no fuse of its own. -/
def fuseAgrees (f : Fuses) (lc : Nat) : Bool := decide (lc = fuseState f ∨ (fuseState f = 1 ∧ lc = 2))

/-- The colophon of step 4, with the DETAIL of its COLOPHON_BAD record, 0 for none (R80). -/
def checkColophon (s : State) (h : Half) (ok : Bool) : Colophon × Nat :=
  let rebuilt := Colophon.default (fuseState s.fuses) (s.half h).straps.toNat
  if (s.half h).nvsAlt then (rebuilt, 0)
  else if !ok then (rebuilt, 1)
  else if fuseAgrees s.fuses s.colophon.lcState then (s.colophon, 0)
  else ({ s.colophon with lcState := fuseState s.fuses }, 2)

/-- Step 4 with verified firmware: the colophon settled, its state shown, the controller running. -/
def identityPass (s : State) (h : Half) (form : Nat) (ok : Bool) (fw : BitVec 32) : State :=
  let (c, bad) := checkColophon s h ok
  let s1 := { s with colophon := c, nvs := if bad = 0 then s.nvs else { s.nvs with colophon := c } }
  let s2 := if bad ≠ 0 ∨ (s.half h).nvsAlt then showColophon s1 c else s1
  let s3 := putFld s2 Reg.devLifecycle 0 3 (c.lcState + 4)
  let s4 := putBit s3 (Reg.hubMcStatus h.idx) 0 true
  let s5 := s4.setHalf h { s4.half h with fwVersion := fw.toNat, fwSlot := form }
  endStep s5 h 0 form 0 (if bad = 0 then 0 else 0x0013) bad

def execIdentityAndFuses (h : Half) (sigOk colophonOk : Bool) (fwVersion : BitVec 32) (s : State) : Result :=
  if !inStep s h 4 then .next s
  else
    let form := stepForm (s.half h) 4 0
    if sigOk then .next (identityPass s h form colophonOk fwVersion)
    else .next (endStep s h 0 form 1 0x0012 form)

/-! ### Steps 5 to 7 -/

def execMemoryDieTraining (d : Fin 8) (failing : BitVec 16) (s : State) : Result :=
  let h := dieHalf d.val
  if !inStep s h 5 then .next s
  else
    let form := stepForm (s.half h) 5 d.val
    if failing = 0 then
      .next (endStep (s.setDie d.val { s.die d.val with selfRefresh := false, derated := decide (form = 1) }) h d.val form 0 0 0)
    else .next (endStep s h d.val form 1 0x0020 failing.toNat)

/-- End an instance of step 6 or 7, whose optional part may have run out of time: that is recorded and fails nothing (R75). -/
def endTest (s : State) (h : Half) (d : Nat) (optDone : Bool) (fallow : Bool) (code detail : Nat) : State :=
  let form := stepForm (s.half h) (s.half h).step d
  let late := !optDone && decide (form ≠ 2)
  let s1 := s.setHalf h (if form = 2 then s.half h else noteOptional (s.half h) d late)
  let s2 := ledgerWrite s1 (stepRecord s1 h d form (if late then 2 else if fallow then 4 else 0)
    (if late then 0x0024 else if fallow then code else 0) (if late then 0 else if fallow then detail else 0))
  doneInstance s2 h d

def execMemorySelfTest (d : Fin 8) (pairs : List (Nat × Nat)) (channels : BitVec 16) (optDone : Bool) (s : State) : Result :=
  let h := dieHalf d.val
  if !(pairs.all fun x => decide (x.1 < 16 ∧ x.2 < 64)) then .fault .illFormed
  else if !inStep s h 6 then .next s
  else
    let s1 := pairs.foldl (fun s x => pairFallow s d.val x.1 x.2 0x0021) s
    let s2 := (bitsOf 16 channels.toNat).foldl (fun s c => channelFallow s d.val c 0x0021) s1
    .next (endTest s2 h d.val optDone (decide (pairs ≠ [] ∨ channels ≠ 0)) 0x0021 pairs.length)

def execComputeDieSelfTest (d : Fin 8) (found : BitVec 34) (optDone : Bool) (s : State) : Result :=
  let h := dieHalf d.val
  if !inStep s h 7 then .next s
  else
    let failing := found ||| fallowCores s d.val
    let s1 := mapCores s d.val failing
    let n := (bitsOf 34 failing.toNat).length
    let active := (bitsOf 32 failing.toNat).length
    if (goodSpares failing).length < active then
      .next (endTest (dieExhausted s1 d.val 0x0023) h d.val optDone true 0x0023 n)
    else .next (endTest s1 h d.val optDone (decide (failing ≠ 0)) 0x0022 (failing.toNat % 2 ^ 32))

/-! ### Bounds, restarts -/

/-- The code of a TIMEOUT: SELFTEST_TIMEOUT for steps 6 and 7; a free value where Table 3.7 states none. -/
def timeoutCode (step : Nat) : Nat := if step = 6 ∨ step = 7 then 0x0024 else Config.startTimeoutCode step

def execStartStepTimeout (h : Half) (inst : Nat) (s : State) : Result :=
  let x := s.half h
  if x.phase ≠ .starting ∨ inst ∉ stepInstances s h x.step ∨ x.done.testBit inst ∨ x.step = 8 ∨ x.step = 10 then .next s
  else
    let form := stepForm x x.step inst
    if x.step = 9 then
      .next (doneInstance (ledgerWrite s (stepRecord s h inst form 2 (timeoutCode 9) 0)) h inst)
    else .next (endStep s h inst form 2 (timeoutCode x.step) 0)

/-- A start of a half that failed begins again from step 1, as a new start (R73). -/
def restartHalf (s : State) (h : Half) : State :=
  let x := s.half h
  let kind : ResetKind := if x.kind = .cold then .cold else .half
  let seq := s.nvs.lastSeq + 1
  let s1 := { s with nvs := { s.nvs with lastSeq := seq } }
  let s2 := ledgerWrite s1 (headerRecord s1 seq (resetScope kind h) 0 0 0 kind.code)
  beginHalf s2 h kind seq 1

def execAutoRestart (h : Half) (s : State) : Result :=
  if (s.half h).phase = .waiting then
    let s1 := s.setHalf h { s.half h with restarts := min 3 ((s.half h).restarts + 1) }
    .next (restartHalf s1 h)
  else .next s

/-- DEV_START_CTRL takes a write only when LINK_WAIT and ALIGN_WAIT are in range (R92). -/
def startCtrlOk (v : Word) : Bool :=
  decide (1 ≤ fld v 8 8 ∧ fld v 8 8 ≤ 60 ∧ 1 ≤ fld v 16 8 ∧ fld v 16 8 ≤ 200)

/-- A half in state HALTED begins a new start; RESUME reads 0 once acted on. -/
def resumeHalf (s : State) (h : Half) : State :=
  if (s.half h).phase = .halted then
    restartHalf (s.setHalf h { s.half h with failing := 0, restarts := 0 }) h
  else s

/-- A write of DEV_START_CTRL. -/
def startCtrl (s : State) (v : Word) : State :=
  if !startCtrlOk v then s
  else
    let s1 := setReg s Reg.devStartCtrl (v &&& word 0xFFFF03)
    if bit v 2 then resumeHalf (resumeHalf s1 .west) .east else s1

def execResumeHalted (w : RegWrite) (s : State) : Result :=
  guarded (isReg w .dev0 0x250) (serveWrite s w fun s _ _ _ _ => startCtrl s w.val)

/-! ### Life cycle -/

/-- The transitions of Table 3.4. -/
def lcLegal (old new : Nat) : Bool :=
  decide ((old = 0 ∧ new = 1) ∨ (old = 1 ∧ new = 2) ∨ (old = 2 ∧ new = 1) ∨ (old ≤ 2 ∧ new = 3))

/-- A signed life-cycle change request: refused with LC_BUSY, LC_DENIED or LC_ILLEGAL, or pending for the next step boundary
(R67). -/
def lcRequest (s : State) (sigOk : Bool) (target : Nat) : State :=
  let r := Reg.devLifecycle
  let finish := fun s code => mboxDone (putFld s r 16 16 code) code
  if getBit s r 3 then finish s 3
  else if !sigOk then finish s 1
  else if !lcLegal (getFld s r 0 2) target then finish s 2
  else
    let s1 := putFld (putBit s r 3 true) r 8 2 target
    finish { s1 with deferred := s1.deferred ++ [.lifecycle target] } 0

def execLifecycle (w : RegWrite) (sigOk : Bool) (target : BitVec 2) (s : State) : Result :=
  guarded (isMbox w 4) (serveWrite s w fun s _ _ _ _ => mboxGo s w.val fun s => lcRequest s sigOk target.toNat)

end Sys2Proof.Machine
end

