-- ==== Sys2Proof/Machine/Lifecycle.lean ====
section
/-!
DEFINITION. The end of a start: the wipe of step 11 (R69, R70), step 12 (R71, R81), and an accepted life-cycle change (R66 to R68).
-/
namespace Sys2Proof.Machine

/-! ### Step 11 -/

/-- The halves that take part in the wipe now: those in step 11 whose start has no half before it. -/
def wipeHalves (s : State) : List Half := [Half.west, Half.east].filter fun h =>
  let o := s.half h.other
  inStep s h 11 && !(decide (o.phase = .starting ∧ o.seq = (s.half h).seq ∧ o.step < 11))

/-- The wipe of a half reaches its memory dies: not after a warm reset, and not where a half reset has kept T1 (R65, Table 3.1). -/
def wipesT1 (s : State) (h : Half) : Bool := match (s.half h).kind with
  | .cold => true
  | .half => !(s.half h).t1Kept || s.nvs.wipePending
  | .warm => false

/-- T0 of the cores of a half reads zero; its query sets do after any reset but a warm one. -/
def wipeSram (s : State) (h : Half) : State := { s with
  t0 := Map.clearWhere (fun k => decide (dieHalf (k / 2 ^ 23 / 34) = h)) s.t0
  nbus := if (s.half h).kind = .warm then s.nbus else Map.clearWhere (fun k => decide (dieHalf (k / 1024) = h)) s.nbus }

/-- T1 of a half's memory dies reads zero without poison. What an EXTENT tensor held there is lost: DAMAGED (DEDUCED, log 61). -/
def wipeT1 (s : State) (h : Half) : State :=
  let mine := fun (d : Nat) => decide (dieHalf d = h)
  let s1 := { s with
    t1 := Map.clearWhere (fun a => mine (daDie a)) s.t1
    poison := Map.clearWhere (fun k => mine (daDie (64 * k))) s.poison
    wiping := s.wiping.filter fun w => !mine w.2.die
    tensors := Map.mapVals Tensor.free (fun _ (t : Tensor) =>
      if (t.tier = 1 ∨ t.tier = 3) ∧ ¬ t.grouped ∧ mine (mapDie t.t1map) then { t with damaged := true } else t) s.tensors }
  (List.range 4).foldl (fun s i => s.setDie (4 * h.idx + i) { s.die (4 * h.idx + i) with lost := false }) s1

/-- A channel that reports write errors during the wipe: fallow, with a record of its own (R69, Table 3.6). -/
def wipeFail (h : Half) (s : State) (d c : Nat) : State :=
  let s1 := channelFallow s d c 0x0050
  ledgerWrite s1 { stepRecord s1 h 0 0 4 0x0050 (d * 16 + c) with scope := 0x60 + c, kind := d }

/-- The wipe of one half. -/
def wipeHalf (errs : List (Nat × Nat)) (s : State) (h : Half) : State :=
  let s1 := wipeSram s h
  if !wipesT1 s h then s1
  else (errs.filter fun e => dieHalf e.1 = h).foldl (fun s e => wipeFail h s e.1 e.2) (wipeT1 s1 h)

/-- A wipe of the whole device: bias tables and the tensor table read zero too. -/
def wipeDevice (s : State) : State := { s with bias := [], tensors := [] }

/-- The state of an accepted change: the fuse is blown, the colophon takes the state, and the marks go (R66, R68, Table 3.4). The fabric
shape that provisioning stores is the change request's, which the manual does not lay out: a free value. -/
def lcComplete (s : State) (t : Nat) : State :=
  let old := s.nvs.colophon.lcState
  let (v, s0) := drawFree s
  let settle := fun (c : Colophon) => { c with
    lcState := t, twinSerial := if old = 2 ∧ t = 1 then 0 else c.twinSerial
    shape := if old = 0 ∧ t = 1 then v.toNat % 2 ^ 14 else c.shape }
  let s1 := { s0 with
    fuses := { s0.fuses with
      provisioned := s0.fuses.provisioned || decide (old = 0 ∧ t = 1), returned := s0.fuses.returned || decide (t = 3) }
    colophon := { settle s0.colophon with shape := s0.colophon.shape }
    nvs := { s0.nvs with
      colophon := settle s0.nvs.colophon, lcPending := none
      ownerKey := if t = 3 then false else s0.nvs.ownerKey || decide (old = 0 ∧ t = 1) } }
  let s2 := putFld (putFld (putBit (showColophon s1 s1.nvs.colophon) Reg.devLifecycle 3 false) Reg.devLifecycle 0 2 t) Reg.devLifecycle 8 2 0
  devEvent s2 0x060 old t

/-- Some half has still to wipe its memory dies. -/
def wipeLeft (s : State) (done : List Half) : Bool :=
  [Half.west, Half.east].any fun h => decide (h ∉ done ∧ (s.half h).phase = .starting ∧ (s.half h).step ≤ 11) && wipesT1 s h

/-- The marks after a wipe: the wipe-pending mark goes once every half has wiped, and a pending life-cycle change is completed by the wipe
of the device. -/
def wipeMarks (s : State) (done : List Half) (device : Bool) : State :=
  if wipeLeft s done then s
  else
    let s1 := putBit { s with nvs := { s.nvs with wipePending := false } } Reg.devLifecycle 4 false
    match s1.nvs.lcPending with
    | some t => if device ∧ s1.nvs.ok then lcComplete s1 t else s1
    | none => s1

/-- Step 11 ends for its halves: one record for a start of the device. -/
def endWipe (s : State) (hs : List Half) : State := match hs with
  | [] => s
  | [h] => endStep s h 0 0 0 0 0
  | h :: o :: _ =>
    let s1 := endStep s h 0 0 0 0 0
    if (s.half h).seq = (s.half o).seq then doneInstance s1 o 0 else endStep s1 o 0 0 0 0 0

def execWipe (errs : List (Nat × Nat)) (s : State) : Result :=
  guarded (errs.all fun e => decide (e.1 < 8 ∧ e.2 < 16)) <|
    match wipeHalves s with
    | [] => s
    | h :: hs =>
      let device := decide ((s.half h).kind = .cold)
      let s1 := (h :: hs).foldl (wipeHalf errs) s
      let s2 := if device then wipeDevice s1 else s1
      endWipe (wipeMarks s2 (h :: hs) device) (h :: hs)

/-! ### Step 12 -/

/-- Both halves have completed step 11, and one of them is in step 12 (R72). -/
def readyDue (s : State) : Bool :=
  let at_ := fun h => inStep s h 12
  (at_ .west || at_ .east) && (at_ .west || decide (s.west.phase = .ready)) && (at_ .east || decide (s.east.phase = .ready))

/-- Some optional part was skipped in the start of a half (R75). -/
def skippedTests (x : HalfState) : Bool := !x.fullTest && x.fails.any fun f => decide (2 ≤ f.2.optional)

/-- The fields that step 12 rewrites (R81). -/
def colophonAt12 (s : State) (h : Half) (c : Colophon) : Colophon := { c with
  coord := sampledCoord s, fwVersion := (s.half h).fwVersion, fwSlot := (s.half h).fwSlot
  skipped := skippedTests s.west || skippedTests s.east, derated := s.dies.any fun d => d.2.derated
  startSeq := s.nvs.lastSeq, fallowSummary := fallowSummary s }

/-- The colophon is rewritten, but for the NVS copy of a start whose step 2 ran its alternate form. -/
def rewriteColophon (s : State) (h : Half) : State :=
  let s1 := { s with colophon := colophonAt12 s h s.colophon }
  if s.west.nvsAlt || s.east.nvsAlt then showColophon s1 s1.colophon
  else
    let s2 := { s1 with nvs := { s1.nvs with colophon := colophonAt12 s h s1.nvs.colophon } }
    showColophon s2 s2.nvs.colophon

/-- A half in step 12 is ready. After a half reset its galley copy is reloaded, which holds the trigger (R473, Table 3.2). -/
def readyHalf (s : State) (h : Half) : State :=
  if !inStep s h 12 then s
  else
    let x := s.half h
    let s1 := s.setHalf h { noteStep x 0 0 0 with phase := .ready, failing := 0, restarts := 0, t1Kept := true }
    if x.kind = .half then { s1 with steps := { s1.steps with holds := s1.steps.holds ++ [reloadHold h] } } else s1

/-- The records of step 12, one for each start. -/
def readyRecords (s : State) : State :=
  let rec_ := fun (s : State) (h : Half) => ledgerWrite s (stepRecord s h 0 0 0 0 0)
  if !inStep s .west 12 then rec_ s .east
  else if inStep s .east 12 ∧ s.east.seq ≠ s.west.seq then rec_ (rec_ s .west) .east
  else rec_ s .west

/-- A twin is assigned from the start of a cold reset on (R474). -/
def pairAtStart (s : State) (cold : Bool) : State :=
  if cold then putFld s Reg.devTwinStatus 0 2 (if s.colophon.twinSerial = 0 then 0 else 1) else s

/-- Start step 12 (R71): the halves are ready, the colophon is rewritten, FULL_TEST is cleared, and the resident images that T0 has lost
are written again for the partitions in service (R206). -/
def readyNow (s : State) : State :=
  let h := if inStep s .west 12 then Half.west else Half.east
  let cold := decide ((s.half h).kind = .cold)
  let s1 := readyHalf (readyHalf (readyRecords s) .west) .east
  let s2 := pairAtStart (putBit (rewriteColophon s1 h) Reg.devStartCtrl 0 false) cold
  let s3 := refreshTwin { s2 with hubLink := true }
  ((List.range 64).filter fun n => partPhase s3 n = 1).foldl writeResidents s3

def execReady (s : State) : Result := .next (if readyDue s then readyNow s else s)

/-! ### Life-cycle change -/

/-- The target of the change that waits. -/
def lcTarget (s : State) : Option Nat := s.deferred.findSome? fun d => match d with
  | .lifecycle t => some t
  | _ => none

/-- At a step boundary the change has ended every live entry, and the record of that boundary is written where a ring takes it (R68). -/
def lcReady (s : State) : Bool :=
  betweenSteps s && !(s.entries.any fun e => decide (e.2.state ≠ 0 ∧ e.2.state ≠ 8)) &&
    s.records.all fun r => partHeld s r.part || !ringOn s r.part false

/-- The target state and the wipe-pending mark go to the NVS, and a cold reset begins. -/
def lcNow (s : State) (t : Nat) : State :=
  requestCold { s with nvs := { s.nvs with lcPending := some t, wipePending := true } } false

def execLifecycleChange (s : State) : Result := .next <|
  match lcTarget s with
  | some t => if lcReady s then lcNow s t else s
  | none => s

end Sys2Proof.Machine
end

