-- ==== Sys2Proof/Machine/Stops.lean ====
section
/-!
DEFINITION. Trace control and dumps (R513, R515, R531), and stops (R516 to R521).
-/
namespace Sys2Proof.Machine

/-! ### The trace store -/

/-- The half of a page with two instances. -/
def pageHalf (p : PageRef) : Half := if p.inst = 0 then .west else .east

/-- CLEAR empties the store. -/
def clearStore (s : State) (h : Half) : State :=
  s.setHub h { s.hub h with trace := { (s.hub h).trace with recs := [], count := 0, oldest := 0, full := false, frozen := false } }

/-- The MARK record of a hub; `kind`: the kind of the stop that writes it. -/
def markRecord (s : State) (h : Half) (kind : Nat) : TraceRec :=
  { TraceRec.blank 0 with stamp := stamp s, kind := 12, src := 22 + h.idx, index := getFld s (Reg.trcCtrl h.idx) 32 32, aux := kind }

/-- A write of TRC_CTRL (R531). -/
def trcCtrl (s : State) (h : Half) (v : Word) : State :=
  let s1 := setReg s (Reg.trcCtrl h.idx) (v &&& (ones 0 3 ||| ones 32 32))
  let s2 := if bit v 3 then clearStore s1 h else s1
  if bit v 4 then trace s2 (22 + h.idx) (markRecord s2 h 0) else s2

/-- The bytes of the records held, oldest first. -/
def storeBytes (t : TraceStore) : List Byte :=
  (List.range t.count).flatMap fun i => traceBytes (Map.get TraceRec.blank t.recs ((t.oldest + i) % storeSize))

/-- A write of TRC_DUMP_GO (R515). -/
def trcDump (s : State) (h : Half) (v : Word) : State :=
  let t := (s.hub h).trace
  if !bit v 0 || t.dumping then s
  else
    let c := getReg s (Reg.trcDumpCtrl h.idx)
    let r := baseRegion c
    let s1 := putBit s (Reg.trcDumpGo h.idx) 1 false
    if !(s.region r).devOwned || !regionOk s r (baseOffset c) (32 * t.count) (some h.idx) 0 true then putBit s1 (Reg.trcDumpGo h.idx) 1 true
    else
      let s2 := s1.setHub h { s1.hub h with trace := { t with dumping := true } }
      ((pieces 4096 (32 * t.count + 1) (storeBytes t)).zipIdx).foldl (fun s (b, i) => regionWrite s r (baseOffset c + 4096 * i) b) s2

/-- A write to a register of a TRC_ page. -/
def trcRow (w : RegWrite) (off : Nat) (act : State → Half → Word → State) (s : State) : Result :=
  guarded (isReg w .trc off) <| serveWrite s w fun s p _ _ _ => act s (pageHalf p) w.val

def execTrcClear (w : RegWrite) (s : State) : Result := trcRow w 0x100 trcCtrl s
def execTrcMark (w : RegWrite) (s : State) : Result := trcRow w 0x100 trcCtrl s
def execTrcDumpGo (w : RegWrite) (s : State) : Result := trcRow w 0x160 trcDump s

def execTraceRecord (src : Fin 24) (s : State) : Result := .next (shiftSource s src.val)

def execDumpDone (h : Half) (s : State) : Result := .next <|
  let t := (s.hub h).trace
  if t.dumping then setCause (s.setHub h { s.hub h with trace := { t with dumping := false } }) (Reg.trcBlk h.idx) 18 else s

/-! ### Group snapshots (R505, R507) -/

def snapCtrlRow (w : RegWrite) (s : State) : Result :=
  guarded (isReg w .cnt0 0x100) <| serveWrite s w fun s _ _ _ _ => snapCtrl s w.val

def execGroupSnapshot (w : RegWrite) (s : State) : Result := snapCtrlRow w s
def execGroupClear (w : RegWrite) (s : State) : Result := snapCtrlRow w s

/-! ### Requests and releases of stops (R516, R520, R521) -/

/-- STATE of CNT_STOP_STATUS becomes `n`. -/
def setStop (s : State) (n : Nat) : State := putFld s Reg.cntStopStatus 0 3 n

/-- A stop of a kind is armed at the time in CNT_STOP_AT; an immediate one with 0 there acts 2 µs from now. -/
def armStop (s : State) (kind : Nat) : State :=
  let at_ := getReg s Reg.cntStopAt
  let t := if kind = 2 ∧ at_ = 0 then word (s.clock.now + 2000) else at_
  setStop (putBit (setReg { s with inForce := Map.put s.inForce Reg.cntStopAt t } Reg.cntStopCtrl (word kind)) Reg.cntStopStatus 5 false) 1

/-- Nothing is armed any more. -/
def disarm (s : State) : State := { s with inForce := Map.del s.inForce Reg.cntStopAt }

/-- FROZEN clears in both stores. -/
def unfreeze (s : State) : State :=
  let go := fun (s : State) (h : Half) => s.setHub h { s.hub h with trace := { (s.hub h).trace with frozen := false } }
  go (go s .west) .east

/-- The stop is over: work that paused goes on, and STOP_RELEASED is logged. -/
def resumeAll (s : State) (kind : Nat) : State :=
  startMoves (announceKept (devEvent (unfreeze (disarm (setStop s 0))) 0x072 kind 0))

/-- RELEASE (Table 15.8). -/
def releaseStop (s : State) : State :=
  let st := stopState s
  if st = 1 ∨ st = 2 then startMoves (announceKept (disarm (setStop s 0)))
  else if st = 3 then resumeAll s 1
  else if st = 4 then setStop s 5
  else s

/-- GO: refused while a stop stands, but for an immediate stop over a boundary stop that has not yet reached its cut. -/
def requestStop (s : State) (kind : Nat) : State :=
  let st := stopState s
  let free := decide (st = 0 ∧ (kind = 1 ∨ kind = 2)) || (decide (kind = 2 ∧ (st = 1 ∨ st = 2)) && stopAtBoundary s)
  if free then armStop s kind else putBit s Reg.cntStopStatus 5 true

/-- A write of CNT_STOP_CTRL (R529). -/
def stopCtrl (s : State) (v : Word) : State :=
  if fld v 16 16 ≠ 0x5A25 then s
  else if bit v 2 then requestStop s (fld v 0 2)
  else if bit v 3 then releaseStop s
  else s

def stopCtrlRow (w : RegWrite) (s : State) : Result :=
  guarded (isReg w .cnt0 0x140) <| serveWrite s w fun s _ _ _ _ => stopCtrl s w.val

def execBoundaryStopRequest (w : RegWrite) (s : State) : Result := stopCtrlRow w s
def execImmediateStopRequest (w : RegWrite) (s : State) : Result := stopCtrlRow w s
def execStopRelease (w : RegWrite) (s : State) : Result := stopCtrlRow w s

/-! ### Stops take the device -/

/-- A stop at a hub's store: what its own source holds, the MARK record, then FROZEN (R513, R520). -/
def stopTraceOf (s : State) (kind : Nat) (h : Half) : State :=
  let src := 22 + h.idx
  let s1 := (s.source src).fifo.foldl (fun s _ => shiftSource s src) s
  let r := markRecord s1 h kind
  let s2 := if recording s1 h && filterAdmits (getReg s1 (Reg.trcFilter0 h.idx)) r then storeRecord s1 h r else s1
  if getBit s2 (Reg.trcCtrl h.idx) 2 then s2.setHub h { s2.hub h with trace := { (s2.hub h).trace with frozen := true } } else s2

def stopTrace (s : State) (kind : Nat) : State := stopTraceOf (stopTraceOf s kind .west) kind .east

/-- The messages that a boundary stop waits for. -/
def openMsgs (s : State) : Nat := (s.sent.filter fun x => x.msg.cls = 1 ∨ x.msg.cls = 4 ∨ x.msg.cls = 5).length

/-- The boundary that a stop waits for has come: no step runs, and none has to run again first; a group's step that the lead may not
announce waits for the release. -/
def atBoundary (s : State) : Bool :=
  !s.steps.running && (decide (s.steps.replay = .none) || ((s.steps.current.any fun p => isGroup s p.impo) && s.steps.tn.isNone))

/-- The cut of a boundary stop (R517): stamps, step number and counters. -/
def boundaryCut (s : State) : State :=
  let open_ := openMsgs s
  let closed := if s.steps.replay = .none then s.steps.num else s.steps.num - 1
  let st := word (3 + b2n (decide (open_ ≠ 0)) * 2 ^ 4 + b2n (getBit s Reg.cntStopStatus 5) * 2 ^ 5 + min 0xFFFF open_ * 2 ^ 32)
  let s1 := setReg (setReg s Reg.cntStopStatus st) Reg.cntStopStep closed
  let s2 := (List.range 24).foldl (fun s i => setReg s (Reg.cntStopStamp i) 0) s1
  let s3 := stopTrace (captureAll s2 (fun _ => s.clock.now) s.clock.now false) 1
  let s4 := setCause s3 Reg.cntBlk 16
  raiseEvent (if open_ = 0 then s4 else setCause s4 Reg.cntBlk 18) 0x070 noPart noBlock 2 (stamp s) (word open_)

def execStopBoundary (timeout : Bool) (s : State) : Result := .next <|
  if !stopDue s || decide (2 < stopState s) || !atBoundary s then s
  else if openMsgs s ≠ 0 ∧ ¬ timeout then setStop s 2
  else boundaryCut s

/-- The page 0 of a stop source (Table 15.6). -/
def sourceBlk (i : Nat) : Nat :=
  if i < 8 then Reg.cdBlk i else if i < 16 then Reg.mdBlk (i - 8) else if i < 22 then Reg.fabBlk (i - 16) else Reg.hubBlk (i - 22)

/-- Sources that halt. -/
def haltSources (s : State) : List Nat := (List.range 24).filter fun i => !outOfReach s (sourceBlk i)

/-- The earliest halt of some sources, with `t` where none of them halts. -/
def earliest (s : State) (at_ : Nat → Nat) (t : Nat) (srcs : List Nat) : Nat :=
  (((haltSources s).filter fun i => i ∈ srcs).map at_).foldl (fun (b : Option Nat) x => some (match b with
    | some y => min x y
    | none => x)) none |>.getD t

/-- The sources of a block: its own die, or both hubs. -/
def blkSources (blk : Nat) : List Nat := match locate blk with
  | none => [22, 23]
  | some p =>
    if p.type = 0x06 then [p.inst] else if p.type = 0x07 then [p.inst / 256]
    else if p.type = 0x08 then [8 + p.inst] else if p.type = 0x09 ∨ p.type = 0x0A then [8 + p.inst / 256]
    else if p.type = 0x05 then [16 + p.inst] else if p.type = 0x02 ∨ p.type = 0x0B then [22 + p.inst]
    else [22, 23]

/-- The sources of an occupancy group (Table 15.3). -/
def groupSources (g : Nat) : List Nat :=
  if g < 6 then (List.range 4).map fun d => 8 + d + 4 * (g % 2)
  else if g < 8 then (List.range 4).map fun d => d + 4 * (g % 2)
  else if g < 10 then (List.range 6).map fun p => 16 + p
  else if g = 10 then List.range 8
  else if g = 13 then List.range 24
  else [22, 23]

/-- Core cycles of 16 that a throttle level keeps (Table 2.7). -/
def cyclesKept (level : Nat) : Nat := [16, 16, 16, 14, 12, 10, 8].getD level 8

/-- Every halt lies within 48 core cycles and 4 ns of the stop time. -/
def haltsOk (s : State) (offs : List Nat) : Bool :=
  decide (offs.length = 24) && offs.all fun o => o * cyclesKept (powerLevel s) ≤ 480 + 4 * cyclesKept (powerLevel s)

/-- The halt of an immediate stop (R518, R519); `offs`: how long after the stop time each source halts. -/
def immediateHalt (s : State) (offs : List Nat) : State :=
  let t := stopAt s
  let at_ := fun i => t + offs.getD i 0
  let halts := (haltSources s).map at_
  let first := earliest s at_ t (List.range 24)
  let spread := halts.foldl max first - first
  let st := word (4 + 2 ^ 3 + b2n (getBit s Reg.cntStopStatus 5) * 2 ^ 5 + min 0xFFFF spread * 2 ^ 16)
  let s1 := setReg (setReg s Reg.cntStopStatus st) Reg.cntStopStep s.steps.num
  let s2 := (List.range 24).foldl (fun s' i =>
    setReg s' (Reg.cntStopStamp i) (if i ∈ haltSources s then word (at_ i % 2 ^ 63 + 2 ^ 63) else 0)) s1
  let s3 := allGroups.foldl (fun s g =>
    captureGroup s (fun b => earliest s at_ t (blkSources b)) (earliest s at_ t (groupSources g)) true g) s2
  let s4 := setCause (stopTrace s3 2) Reg.cntBlk 16
  raiseEvent s4 0x071 noPart noBlock 2 (stampAt s first) (word spread)

def execStopImmediate (offs : List (BitVec 7)) (s : State) : Result :=
  guarded (decide (offs.length = 24)) <|
    if stopState s ≠ 1 ∨ stopAtBoundary s ∨ s.clock.now < stopAt s ∨ ¬ haltsOk s (offs.map (·.toNat)) then s
    else immediateHalt s (offs.map (·.toNat))

/-! ### The release of an immediate stop (R520) -/

/-- Every accumulator slot is cleared (R266). -/
def clearSlots (s : State) : State := { s with cores := Map.mapVals CoreState.fresh (fun _ c => { c with tiles := [] }) s.cores }

/-- The interrupted step is abandoned and replayed; a member tells its lead. -/
def abandonHalted (s : State) : State :=
  if !s.steps.running then s
  else
    let told := (s.steps.current.filter fun p => isGroup s p.impo ∧ ¬ isLead s p.impo).map fun p =>
      (sliceOf s p.part, memberCoord s p.impo (s.impo p.impo).record.lead)
    told.foldl (fun s x => sendLost s x.1 x.2) (abandonWith s .normal)

/-- Class 0 of the interrupted step is gone: what had arrived, and what was being received. -/
def dropClass0 (s : State) : State := { s with
  inbox := s.inbox.filter fun a => a.msg.cls ≠ 0
  links := Map.mapVals Link.fresh (fun _ l => { l with parts := l.parts.filter fun x => 1 < x.1 }) s.links }

/-- Flits of the hold buffers in arrival order, with their ports. -/
def heldOrder (s : State) : List (Nat × Nat × List Byte) :=
  ((List.range 6).flatMap fun p => (s.link p).held.map fun x => (x.1, p, x.2)).mergeSort fun a b => a.1 ≤ b.1

/-- A flit that kept its credit goes on; of class 0, one for this device is discarded. -/
def freeStuck (s : State) (p : Nat) (f : List Byte) : State :=
  if flitClass f = 0 ∧ flitForMe s p f then freeCredit s p 0 (flitVc f) else passFlit s p f

/-- Held frames are applied or discarded. -/
def applyHeld (s : State) : State :=
  let held := heldOrder s
  let stuck := (List.range 6).flatMap fun p => (s.link p).stuck.map fun f => (p, f)
  let s1 := { s with links := Map.mapVals Link.fresh (fun _ l => { l with held := [], stuck := [] }) s.links }
  let s2 := held.foldl (fun s x => if flitClass x.2.2 = 0 then s else handleFlit s x.2.1 x.2.2) s1
  stuck.foldl (fun s x => freeStuck s x.1 x.2) s2

def execStopReleased (s : State) : Result := .next <|
  if stopState s ≠ 5 then s
  else resumeAll (applyHeld (setStop (dropClass0 (abandonHalted (clearSlots s))) 0)) 2

end Sys2Proof.Machine
end

