-- ==== Sys2Proof/Machine/Registers.lean ====
section
/-!
DEFINITION. Register writes as a whole (R11, R92 to R110): header registers, indirect windows, configuration registers with their ranges,
and the dispatch to the registers that have commands of their own; the stile class (R408) and the wake of a die (R55).
-/
namespace Sys2Proof.Machine

/-! ### Header registers (R99, R100, R105, R108) -/

/-- A write of BLK_CTRL: ENABLE and QUIESCE wait for the step boundary; BLOCK_RESET begins, or is refused. -/
def blkCtrlWrite (s : State) (p : PageRef) (v : Word) : State :=
  let st := blkStatus p.base
  let s1 := putBit (setReg s (blkCtrl p.base) (v &&& 3)) st 4 false
  let s2 := { s1 with deferred := s1.deferred ++ [.blkCtrl p.base] }
  if !bit v 2 then s2
  else if getBit s st 1 && !getBit s st 3 then putBit s2 st 3 true
  else putBit s2 st 4 true

/-- A value OWNER may hold. -/
def ownerOk (o : Nat) : Bool := decide (o < 64 ∨ o = 0xFE ∨ o = 0xFF)

/-- A write of BLK_OWNER by a management controller; OWNER_HI is reserved outside CORE_ pages. -/
def ownerWrite (s : State) (p : PageRef) (v : Word) : State :=
  let st := blkStatus p.base
  let core := decide (p.type = 0x07)
  if !getBit s st 1 || !ownerOk (fld v 0 8) || (core && !ownerOk (fld v 8 8)) then putBit s st 5 true
  else
    let o := blkOwner p.base
    let s1 := putFld (putBit s st 5 false) o 32 16 (getFld s o 32 16 + 1)
    { s1 with deferred := s1.deferred ++ [.owner p.base (if core then fld v 0 16 else fld v 0 8)] }

/-- A write to a header register. -/
def headerWrite (s : State) (p : PageRef) (off key : Nat) (v hw : Word) : State :=
  if off = 0x010 then blkCtrlWrite s p v
  else if off = 0x020 then writeIntRaw s p v hw
  else if off = 0x028 then writeIntEn s p v
  else if off = 0x060 then (if bit v 0 then triggerSnap s p.base else s)
  else if off = 0x070 then ownerWrite s p v
  else writePlain s p off key none v hw

/-! ### Indirect windows (R109) -/

/-- A write to a DATA register changes the requester's latch. -/
def writeData (s : State) (who : Requester) (p : PageRef) (off key : Nat) (row : Option (RegRow × Nat)) (v : Word) : State :=
  let idx := windowIndex p.kind off
  let k := key - off + idx
  let at_ := (off - idx) / 8 - 1
  let old := getLatch s who k
  let full := old ++ (List.range (at_ + 1 - old.length)).map fun _ => (0 : Word)
  let m := (masksOf p off row).rw
  setLatch s who k (latchedIndex s who k) (full.set at_ ((full.getD at_ 0 &&& ~~~m) ||| (v &&& m)))

/-! ### Configuration registers and their ranges -/

/-- A field of a word lies in a range. -/
def within (v : Word) (lo n a b : Nat) : Bool := decide (a ≤ fld v lo n ∧ fld v lo n ≤ b)

/-- DEV_MEM_CFG (R158). -/
def memCfgOk (s : State) (v : Word) : Bool :=
  within v 0 8 1 255 && within v 8 8 1 168 && within v 16 16 16 65535 && within v 32 8 1 255 && within v 40 8 1 100 && within v 48 8 1 255 &&
    within v 56 8 1 32 &&
    (decide (fld v 56 8 = getFld s Reg.devMemCfg 56 8) || (List.range 64).all fun n => partPhase s n = 0)

/-- Some slot of the quire region of MDd is allocated (R153). -/
def quireAllocated (s : State) (d : Nat) : Bool :=
  let q := getReg s (Reg.mdQuireCfg d)
  let lo := fld q 0 6 * 768 * 0x8000
  let hi := (fld q 0 6 + fld q 6 7) * 768 * 0x8000
  (allSpans s).any fun a => a.die = d ∧ a.lo < hi ∧ lo < a.hi

/-- FAB_CREDIT_CFG: every class has its share of 256 (R418). -/
def creditsOk (v : Word) : Bool :=
  let cs := (List.range 6).map fun c => fld v (8 * c) 8
  cs.all (fun c => decide (1 ≤ c)) && decide (cs.foldl (· + ·) 0 = 256)

/-- A write of a configuration register that is not ignored as a whole. -/
def configOk (s : State) (p : PageRef) (o : Nat) (v : Word) : Bool := match p.kind with
  | .dev0 =>
    if o = 0x200 then pwrCfgOk v
    else if o = 0x300 then memCfgOk s v
    else if o = 0x600 then within v 0 8 1 200 && within v 8 8 5 255
    else true
  | .gal0 => if o = 0x100 then within v 0 8 1 255 && within v 8 16 0 32768 else true
  | .gal3 => if o = 0x110 then within v 0 8 10 255 else true
  | .core => if o = 0x010 then within v 0 8 8 255 else true
  | .md => if o = 0x100 then !quireAllocated s p.inst && decide (fld v 0 6 + fld v 6 7 ≤ 64) else true
  | .nbu => if o = 0x100 then within v 0 4 1 8 && within v 8 8 4 255 && within v 16 8 1 15 else true
  | .fab0 =>
    if o = 0x128 then decide ((s.port p.inst).phase ≠ .up) && creditsOk v
    else if o = 0x130 then within v 0 4 1 15 && within v 4 4 1 15 && within v 8 8 10 255 && within v 16 4 1 15
    else true
  | .part =>
    if o = 0x108 then within v 0 17 1 86400 && within v 32 22 60 2592000
    else if o = 0x178 ∨ o = 0x180 ∨ o = 0x188 then !ringOn s p.inst true
    else true
  | .q1 =>
    if o = 0x130 then within v 0 16 0 1000 && within v 16 8 1 255
    else if o = 0x108 ∨ o = 0x110 ∨ o = 0x118 ∨ o = 0x120 then !ringOn s p.inst false
    else true
  | .cnt0 => if o = 0x118 then fld v 0 16 = 0 || within v 0 16 100 60000 else true
  | .dev1 | .hub0 | .hub1 | .nvs0 | .gal1 | .gal2 | .fab1 | .fab2 | .fab3 | .cd | .ch | .trc | .cntg | .q0 => true

/-- A register whose written value is in force from the next step boundary (R267, R378, R490). -/
def fromBoundary (p : PageRef) (o : Nat) : Bool :=
  decide ((p.kind = .gal0 ∧ o = 0x100) ∨ (p.kind = .core ∧ o = 0x200) ∨ (p.kind = .dev0 ∧ o = 0x600))

/-- The value of a register stays in force while a new one is written. -/
def holdForce (s : State) (key : Nat) : State :=
  if s.inForce.any fun x => x.1 = key then s else { s with inForce := Map.put s.inForce key (getReg s key) }

/-- The value of a register stays in force until the next step boundary. -/
def untilBoundary (s : State) (key : Nat) : State :=
  let s1 := holdForce s key
  { s1 with deferred := s1.deferred ++ [.inForce key] }

/-- A partition holds a GROUPED tensor. -/
def holdsGrouped (s : State) (n : Nat) : Bool := s.tensors.any fun t => t.2.grouped && decide (t.2.owner = n ∧ t.2.tier ≠ 0)

/-- A write of PART_CFG, field by field (R452). -/
def partCfgWrite (s : State) (n : Nat) (v : Word) : State :=
  let r := Reg.partCfg n
  let old := getReg s r
  let idle := !ringOn s n false && !ringOn s n true
  let keep := fun (lo n : Nat) (ok : Bool) (w : Word) => if ok then setFld w lo n (fld v lo n) else w
  let new := keep 1 1 (!holdsGrouped s n) (keep 2 1 idle (keep 3 1 true (keep 16 12 true (keep 32 16 (within v 32 16 1 32768) old))))
  setReg (if fld new 16 12 = fld old 16 12 then s else untilBoundary s r) r new

/-- What follows the change of a register: another parent where this port is never to be one, cores of another owner. -/
def afterWrite (s : State) (p : PageRef) (o : Nat) : State :=
  if p.kind = .fab1 ∧ o = 0x108 then
    (if getBit s (Reg.fabTimeCfg p.inst) 17 ∧ s.clock.parent = some p.inst then chooseParent s else s)
  else if p.kind = .cd then (List.range 64).foldl (fun s n => if partPhase s n = 0 then s else refreshCores s n) s
  else s

/-- A write to a register of a block's own. -/
def blockWrite (s : State) (who : Requester) (p : PageRef) (off key : Nat) (r : RegRow) (i : Nat) (v hw : Word) (inc : Nat) : State :=
  let o := r.off + 8 * i
  let row := some (r, i)
  if r.cls = .counter then writeCounter s key v inc
  else if r.cls = .latch then writeData s who p off key row v
  else if isIndex p.kind off then latchWindow s who p off key row v
  else if p.kind = .dev0 ∧ o = 0x228 then setReg s key 0
  else if p.kind = .hub0 ∧ o = 0x110 then
    (if fld v 16 16 = 0x5A25 ∧ bit v 0 then setReg s (Reg.hubLastgasp p.inst) 0 else s)
  else if p.kind = .part ∧ o = 0x100 then partCfgWrite s p.inst v
  else if !configOk s p o v then s
  else
    let s1 := if fromBoundary p o then untilBoundary s key else if key = Reg.galStepCfg then holdForce s key else s
    afterWrite (writePlain s1 p off key row v hw) p o

/-- A write to a register without a command of its own. -/
def plainWrite (w : RegWrite) (inc : Nat) (s : State) (p : PageRef) (off key : Nat) (row : Option (RegRow × Nat)) : State := match row with
  | none => headerWrite s p off key w.val w.hwSet
  | some (r, i) => blockWrite s w.who p off key r i w.val w.hwSet inc

/-- A command that writes a register by the common rules. -/
def plainRow (w : RegWrite) (ok : Bool) (inc : Nat) (s : State) : Result := guarded ok (serveWrite s w (plainWrite w inc))

def execBlkEnable (w : RegWrite) (s : State) : Result := plainRow w (isHeader w 0x010) 0 s
def execBlkQuiesce (w : RegWrite) (s : State) : Result := plainRow w (isHeader w 0x010) 0 s
def execBlockReset (w : RegWrite) (s : State) : Result := plainRow w (isHeader w 0x010) 0 s
def execBlkIntEnWrite (w : RegWrite) (s : State) : Result := plainRow w (isHeader w 0x028) 0 s
def execBlkSnap (w : RegWrite) (s : State) : Result := plainRow w (isHeader w 0x060) 0 s
def execBlkOwnerWrite (w : RegWrite) (s : State) : Result := plainRow w (isHeader w 0x070) 0 s
def execDevAccessErrWrite (w : RegWrite) (s : State) : Result := plainRow w (isReg w .dev0 0x228) 0 s
def execHubLastgaspClr (w : RegWrite) (s : State) : Result := plainRow w (isReg w .hub0 0x110) 0 s

/-- A write that names an INDEX register. -/
def namesIndex (w : RegWrite) : Bool := match writeNames w with
  | some (k, o) => isIndex k o
  | none => false

def execWindowIndexLatch (w : RegWrite) (s : State) : Result := plainRow w (namesIndex w) 0 s

/-- A write that names a counter. -/
def namesCounter (w : RegWrite) : Bool := match resolve w.who w.off with
  | some (.reg _ _ _ (some (r, _))) => decide (r.cls = .counter)
  | _ => false

def execCounterWrite (w : RegWrite) (inc : Nat) (s : State) : Result := plainRow w (namesCounter w) inc s

/-! ### Registers with commands of their own -/

/-- A write of DEV_MBOX_CTRL: a request by its opcode; an opcode of none is malformed. Without GO, the fields are stored. -/
def mboxWrite (w : RegWrite) (s : State) : Result :=
  if !bit w.val 0 then serveWrite s w (plainWrite w 0) |> .next
  else match fld w.val 8 8 with
    | 1 => execMbxPartAssign w s
    | 2 => execPartRelease w s
    | 3 => execPartReset w s
    | 4 =>
      let (v, s1) := drawFree s
      execLifecycle w (bit v 0) (BitVec.ofNat 2 (fld v 1 2)) s1
    | 5 => execSetTwin w s
    | 6 => execSetShape w s
    | 7 => execSetEpochBase w s
    | 8 => execTakeover w s
    | _ => .next (serveWrite s w fun s _ _ _ _ => mboxGo s w.val fun s => mboxDone s 0x610)

/-- A write of GAL_FORME_CTRL by its OP; OP none, or reserved, starts nothing. -/
def formeWrite (w : RegWrite) (s : State) : Result := match fld w.val 32 3 with
  | 1 => execLoadForme w s
  | 2 => execActivate w s
  | 3 => execUnload w s
  | 4 => execClearSuspect w s
  | _ => .next (serveWrite s w (plainWrite w 0))

/-- Any register write. -/
def anyWrite (w : RegWrite) (s : State) : Result := match writeNames w with
  | none => .next (serveWrite s w (plainWrite w 0))
  | some (k, o) => match k with
    | .dev0 =>
      if o = 0x240 then resetRow w (fld w.val 0 2) s
      else if o = 0x250 then execResumeHalted w s
      else if o = 0x358 then execDevRegionCommit w s
      else if o = 0x380 then execDevHostArbWrite w s
      else if o = 0x400 then mboxWrite w s
      else .next (serveWrite s w (plainWrite w 0))
    | .gal1 => if o = 0x128 then execGalPartCommit w s else .next (serveWrite s w (plainWrite w 0))
    | .gal3 => if o = 0x100 then formeWrite w s else .next (serveWrite s w (plainWrite w 0))
    | .fab0 =>
      if o = 0x108 then fabCtrlRow w s else if o = 0x120 then execFabMapWrite w s else .next (serveWrite s w (plainWrite w 0))
    | .fab1 => if o = 0x128 then execFabRtCommit w s else .next (serveWrite s w (plainWrite w 0))
    | .ch => if o = 0x108 then execChMapout w s else .next (serveWrite s w (plainWrite w 0))
    | .nbu =>
      if o = 0x190 then execNbuMapout w s
      else if o = 0x220 then execNbuBiasCommit w s
      else if o = 0x228 ∨ o = 0x230 then execNbuBiasOwnerWrite w s
      else .next (serveWrite s w (plainWrite w 0))
    | .part =>
      if o = 0x158 then execPartCtrlReset w s
      else if o = 0x170 then ringRow w (bit w.val 0) s
      else if o = 0x198 then execQSqDb w s
      else if o = 0x1A0 then execQCqDb w s
      else .next (serveWrite s w (plainWrite w 0))
    | .q0 =>
      if o = 0x100 then execQSqDb w s else if o = 0x108 then execQCqDb w s else if o = 0x110 then execQOutDb w s
      else .next (serveWrite s w (plainWrite w 0))
    | .q1 => if o = 0x100 then ringRow w (bit w.val 0) s else .next (serveWrite s w (plainWrite w 0))
    | .cnt0 =>
      if o = 0x100 then snapCtrlRow w s else if o = 0x140 then stopCtrlRow w s else .next (serveWrite s w (plainWrite w 0))
    | .trc =>
      if o = 0x100 then execTrcClear w s else if o = 0x160 then execTrcDumpGo w s else .next (serveWrite s w (plainWrite w 0))
    | .dev1 | .hub0 | .hub1 | .nvs0 | .gal0 | .gal2 | .fab2 | .fab3 | .cd | .core | .md | .cntg => .next (serveWrite s w (plainWrite w 0))

def execRegisterWrite (w : RegWrite) (s : State) : Result := anyWrite w s

/-- The state after a register write. -/
def runWrite (s : State) (w : RegWrite) : State := match anyWrite w s with
  | .next t => t
  | .fault _ => s
  | .refused _ => s

/-- A request of the fleet manager: the management firmware acts on it only when its signature verifies (R408). `w`: the register write that
it asks for; the manual lays out no request. -/
def execStileMsg (sigOk : Bool) (w : Option RegWrite) (s : State) : Result :=
  guarded (w.all fun x => decide (x.who = .stile)) <|
    onMsg s (fun a => decide (a.msg.cls = 3 ∧ a.msg.op = 0x30)) fun s _ => match w with
      | some x => if sigOk then runWrite s x else s
      | none => s

/-! ### A quiesced block, and its reset (R100) -/

/-- Sorts of a physical core are still to run. -/
def coreBusy (s : State) (d p : Nat) : Bool := match carried s d p with
  | none => false
  | some n => s.steps.running && decide (sortsLeft s (32 * d + n) ≠ 0)

/-- A block holds outstanding work. -/
def blockBusy (s : State) (p : PageRef) : Bool :=
  let d := p.inst / 256
  let c := p.inst % 256
  let idleNbus := fun (f : Nat → Bool) => s.nbus.all fun n => !f n.1 || decide (n.2.jobs = [] ∧ n.2.out = [])
  match p.type with
  | 0x01 => getBit s Reg.devMboxStatus 0
  | 0x02 => s.moves.any fun m => decide (m.hub = pageHalf p) && m.running && !m.finished
  | 0x03 => decide (s.events.queue ≠ [])
  | 0x04 => s.steps.running || decide (s.arrived ≠ []) || s.loader.isSome
  | 0x05 => decide ((s.link p.inst).retry ≠ [] ∨ (s.link p.inst).waiting ≠ [])
  | 0x06 => (List.range 34).any fun x => coreBusy s p.inst x
  | 0x07 => coreBusy s d (2 * c) || coreBusy s d (2 * c + 1)
  | 0x08 => (s.chans.any fun x => decide (x.1 / 16 = p.inst ∧ x.2.xfers ≠ [])) || !idleNbus fun k => decide (k / 1024 = p.inst)
  | 0x09 => decide ((s.chan d c).xfers ≠ [] ∨ (s.chan d c).deltas ≠ [])
  | 0x0A => !idleNbus fun k => decide (k / 512 = 2 * d + c)
  | 0x0B => (s.hub (pageHalf p)).trace.dumping
  | 0x0C => s.capture.isSome
  | 0x0D | 0x0E =>
    (s.steps.current.any fun x => x.part = p.inst) || decide ((s.ring p.inst false).fetched ≠ 0 ∨ (s.ring p.inst true).fetched ≠ 0)
  | _ => false

/-- The page at the first page of a block. -/
def blockPage (blk : Nat) : Option PageRef := (locate blk).filter fun p => p.base = blk

/-- Page 0 of a block: `blk` names one. -/
def isBlock (blk : Nat) : Bool := (blockPage blk).isSome

def execQuiesced (blk : Nat) (s : State) : Result :=
  guarded (isBlock blk) <| match blockPage blk with
    | none => s
    | some p =>
      if Map.get (fun _ => false) s.quiescing blk && !blockBusy s p then putBit s (blkStatus blk) 1 true else s

/-- A register that a block reset returns to its reset value: one with a field that software, or the management controller, writes, and the
header's interrupt registers. Registers that only show state keep showing it; DEV_START_CTRL keeps its value through every reset (R92). -/
def resetsWith (blk key : Nat) : Bool :=
  let pg := key / 0x1000 * 0x1000
  let o := key % 0x1000
  (locate pg).any fun p => decide (p.base = blk) &&
    (if o < 0x100 then decide (o = 0x020 ∨ o = 0x028 ∨ o = 0x038)
    else decide (key ≠ Reg.devStartCtrl) && (decide (key = Reg.devAccessErr ∨ key = Reg.devAccessLast) ||
      (pageRow p o).any fun r => decide (r.1.cls = .plain ∧ (r.1.rw ≠ 0 ∨ r.1.w1c ≠ 0 ∨ r.1.w1s ≠ 0 ∨ r.1.wo ≠ 0))))

/-- A key lies in a page of a block. -/
def inBlock (blk key : Nat) : Bool := (locate (key / 0x1000 * 0x1000)).any fun p => p.base = blk

/-- What goes with the registers of a block: rings that ran, owners of bias tables, the cores of partitions, the copies of DEV_HOST_ARB. -/
def resetFollows (s : State) (p : PageRef) : State := match p.type with
  | 0x01 => setArb (setArb s .west 0) .east 0
  | 0x06 => (List.range 64).foldl (fun s n => if partPhase s n = 0 then s else refreshCores s n) s
  | 0x0A => (List.range 16).foldl (fun s t => if tableOwner s t = 0xFE then s else giveTable s t 0xFE) s
  | 0x0D => stopRing s p.inst true
  | 0x0E => stopRing s p.inst false
  | _ => s

/-- The registers of a block return to their reset values. -/
def resetBlock (s : State) (p : PageRef) : State :=
  let part := if p.type = 0x0D then getReg s (Reg.partCfg p.inst) &&& 1 else 0
  let s1 := resetFollows s p
  let s2 := { s1 with
    regs := s1.regs.filter fun x => !resetsWith p.base x.1
    latch := s1.latch.filter fun x => !inBlock p.base (x.1 / 8)
    inForce := s1.inForce.filter fun x => !inBlock p.base x.1 || decide (x.1 = Reg.cntStopAt) }
  putBit (if part = 1 then putBit s2 (Reg.partCfg p.inst) 0 true else s2) (blkStatus p.base) 3 false

def execBlockResetDone (blk : Nat) (s : State) : Result :=
  guarded (isBlock blk) <| match blockPage blk with
    | none => s
    | some p => if getBit s (blkStatus blk) 3 then resetBlock s p else s

/-! ### The wake of a die (R53, R55, R98) -/

/-- A write names a register of CDd's pages. -/
def writesDie (d : Nat) (w : RegWrite) : Bool := match resolve w.who w.off with
  | some (.reg p _ _ _) => decide ((p.type = 0x06 ∧ p.inst = d) ∨ (p.type = 0x07 ∧ p.inst / 256 = d))
  | _ => false

/-- The shadow goes back to what the die held. -/
def unshadow (s : State) (x : RegWrite × Word) : State := match resolve x.1.who x.1.off with
  | some (.reg _ _ key _) => setReg s key x.2
  | _ => s

/-- A write reaches the die. -/
def deliver (s : State) (x : RegWrite × Word) : State := match resolve x.1.who x.1.off with
  | some (.reg p off key row) => plainWrite x.1 0 s p off key row
  | _ => s

def execDieWake (d : Fin 8) (s : State) : Result := .next <|
  let x := s.die d.val
  if x.power = .on then s
  else
    let mine := s.gatedWrites.filter fun w => writesDie d.val w.1
    let s1 := { s.setDie d.val { x with power := .on, selfRefresh := false } with
      gatedWrites := s.gatedWrites.filter fun w => !writesDie d.val w.1 }
    mine.foldl deliver (mine.reverse.foldl unshadow s1)

end Sys2Proof.Machine
end

