-- ==== Sys2Proof/Machine/Dispatch.lean ====
section
/-!
DEFINITION. One arm for each command: its meaning, or a refusal by name where it has none yet.
-/
namespace Sys2Proof.Machine

def exec (i : Instr) (s : State) : Host.Outcome State Fault Refusal :=
  match i with
  | .vddHeathInTolerance h => Sys2Proof.Machine.execVddHeathInTolerance h s
  | .vddHeathRemoval h => Sys2Proof.Machine.execVddHeathRemoval h s
  | .pwrgdAssert h rails => Sys2Proof.Machine.execPwrgdAssert h rails s
  | .pwrgdDeassert h => Sys2Proof.Machine.execPwrgdDeassert h s
  | .railFault rail => Sys2Proof.Machine.execRailFault rail s
  | .coldRstN => Sys2Proof.Machine.execColdRstN s
  | .perstN port => Sys2Proof.Machine.execPerstN port s
  | .epochIn => Sys2Proof.Machine.execEpochIn s
  | .refclkLoss h => Sys2Proof.Machine.execRefclkLoss h s
  | .strapReread h straps => Sys2Proof.Machine.execStrapReread h straps s
  | .governorEvaluation p => Sys2Proof.Machine.execGovernorEvaluation p s
  | .railOvercurrent rail p => Sys2Proof.Machine.execRailOvercurrent rail p s
  | .throttleLevelFall p => Sys2Proof.Machine.execThrottleLevelFall p s
  | .limitUnmet p => Sys2Proof.Machine.execLimitUnmet p s
  | .thermalSample t => Sys2Proof.Machine.execThermalSample t s
  | .thermalTrip die temp => Sys2Proof.Machine.execThermalTrip die temp s
  | .nvsWriteResume => Sys2Proof.Machine.execNvsWriteResume s
  | .nbuThermalStepFall d temp => Sys2Proof.Machine.execNbuThermalStepFall d temp s
  | .clockGate d => Sys2Proof.Machine.execClockGate d s
  | .powerGate d => Sys2Proof.Machine.execPowerGate d s
  | .dieWake d => Sys2Proof.Machine.execDieWake d s
  | .selfRefreshExit d => Sys2Proof.Machine.execSelfRefreshExit d s
  | .entdaa addr => Sys2Proof.Machine.execEntdaa addr s
  | .setdasa static dyn => Sys2Proof.Machine.execSetdasa static dyn s
  | .i3cPrivateWrite addr data => Sys2Proof.Machine.execI3cPrivateWrite addr data s
  | .i3cPrivateRead addr => Sys2Proof.Machine.execI3cPrivateRead addr s
  | .bypass tdi => Sys2Proof.Machine.execBypass tdi s
  | .idcode tdi => Sys2Proof.Machine.execIdcode tdi s
  | .samplePreload tdi pins => Sys2Proof.Machine.execSamplePreload tdi pins s
  | .extest tdi pins => Sys2Proof.Machine.execExtest tdi pins s
  | .clamp tdi => Sys2Proof.Machine.execClamp tdi s
  | .highz tdi => Sys2Proof.Machine.execHighz tdi s
  | .coldReset w => Sys2Proof.Machine.execColdReset w s
  | .halfReset w => Sys2Proof.Machine.execHalfReset w s
  | .warmReset w => Sys2Proof.Machine.execWarmReset w s
  | .heathPowerGood h rails straps => Sys2Proof.Machine.execHeathPowerGood h rails straps s
  | .nvsRead h readable => Sys2Proof.Machine.execNvsRead h readable s
  | .hubSelfTest h failing => Sys2Proof.Machine.execHubSelfTest h failing s
  | .identityAndFuses h sigOk colophonOk fwVersion => Sys2Proof.Machine.execIdentityAndFuses h sigOk colophonOk fwVersion s
  | .memoryDieTraining d failing => Sys2Proof.Machine.execMemoryDieTraining d failing s
  | .memorySelfTest d pairs channels optDone => Sys2Proof.Machine.execMemorySelfTest d pairs channels optDone s
  | .computeDieSelfTest d failing optDone => Sys2Proof.Machine.execComputeDieSelfTest d failing optDone s
  | .portTrained p data spares => Sys2Proof.Machine.execPortTrained p data spares s
  | .linkWaitExpiry p => Sys2Proof.Machine.execLinkWaitExpiry p s
  | .trainingTimeout p => Sys2Proof.Machine.execTrainingTimeout p s
  | .originListenExpiry => Sys2Proof.Machine.execOriginListenExpiry s
  | .epochAbsent => Sys2Proof.Machine.execEpochAbsent s
  | .timeNoSource => Sys2Proof.Machine.execTimeNoSource s
  | .wipe errs => Sys2Proof.Machine.execWipe errs s
  | .ready => Sys2Proof.Machine.execReady s
  | .startStepTimeout h inst => Sys2Proof.Machine.execStartStepTimeout h inst s
  | .autoRestart h => Sys2Proof.Machine.execAutoRestart h s
  | .resumeHalted w => Sys2Proof.Machine.execResumeHalted w s
  | .lifecycle w sigOk target => Sys2Proof.Machine.execLifecycle w sigOk target s
  | .lifecycleChange => Sys2Proof.Machine.execLifecycleChange s
  | .summary p => Sys2Proof.Machine.execSummary p s
  | .summaryResend p => Sys2Proof.Machine.execSummaryResend p s
  | .blkEnable w => Sys2Proof.Machine.execBlkEnable w s
  | .blkQuiesce w => Sys2Proof.Machine.execBlkQuiesce w s
  | .quiesced blk => Sys2Proof.Machine.execQuiesced blk s
  | .blockReset w => Sys2Proof.Machine.execBlockReset w s
  | .blockResetDone blk => Sys2Proof.Machine.execBlockResetDone blk s
  | .idleBoundaryChange => Sys2Proof.Machine.execIdleBoundaryChange s
  | .blkIntEnWrite w => Sys2Proof.Machine.execBlkIntEnWrite w s
  | .blkSnap w => Sys2Proof.Machine.execBlkSnap w s
  | .blkOwnerWrite w => Sys2Proof.Machine.execBlkOwnerWrite w s
  | .windowIndexLatch w => Sys2Proof.Machine.execWindowIndexLatch w s
  | .registerWrite w => Sys2Proof.Machine.execRegisterWrite w s
  | .refusedRead a => Sys2Proof.Machine.execRefusedRead a s
  | .devAccessErrWrite w => Sys2Proof.Machine.execDevAccessErrWrite w s
  | .sectorRead da l1 l2 by_ => Sys2Proof.Machine.execSectorRead da l1 l2 by_ s
  | .fullWrite da data => Sys2Proof.Machine.execFullWrite da data s
  | .partialWrite da data l2 => Sys2Proof.Machine.execPartialWrite da data l2 s
  | .parityXor d c => Sys2Proof.Machine.execParityXor d c s
  | .appendPromotion d c => Sys2Proof.Machine.execAppendPromotion d c s
  | .patrolScrub da l1 l2 => Sys2Proof.Machine.execPatrolScrub da l1 l2 s
  | .ceLimit d c => Sys2Proof.Machine.execCeLimit d c s
  | .ueLimit d c => Sys2Proof.Machine.execUeLimit d c s
  | .limitWindowRestart d c day => Sys2Proof.Machine.execLimitWindowRestart d c day s
  | .hwFail d c part => Sys2Proof.Machine.execHwFail d c part s
  | .chMapout w => Sys2Proof.Machine.execChMapout w s
  | .drainCopyDone m => Sys2Proof.Machine.execDrainCopyDone m s
  | .restoreDone m image => Sys2Proof.Machine.execRestoreDone m image s
  | .rebuildDone req head entry group => Sys2Proof.Machine.execRebuildDone req head entry group s
  | .quireParityMoved d quire m => Sys2Proof.Machine.execQuireParityMoved d quire m s
  | .nospaceWait req => Sys2Proof.Machine.execNospaceWait req s
  | .parkThreshold req => Sys2Proof.Machine.execParkThreshold req s
  | .ttl req => Sys2Proof.Machine.execTtl req s
  | .t2ReadCompletion id off data ok => Sys2Proof.Machine.execT2ReadCompletion id off data ok s
  | .tierLate token id => Sys2Proof.Machine.execTierLate token id s
  | .migrationDone id => Sys2Proof.Machine.execMigrationDone id s
  | .queryLoad d c bytes => Sys2Proof.Machine.execQueryLoad d c bytes s
  | .pageJob d c bytes => Sys2Proof.Machine.execPageJob d c bytes s
  | .pageStart d c k waited => Sys2Proof.Machine.execPageStart d c k waited s
  | .pageEnd d c k => Sys2Proof.Machine.execPageEnd d c k s
  | .yieldWindowEnd d c k => Sys2Proof.Machine.execYieldWindowEnd d c k s
  | .refresh d c k tier boost => Sys2Proof.Machine.execRefresh d c k tier boost s
  | .partialRecord d c k => Sys2Proof.Machine.execPartialRecord d c k s
  | .busStatus d c k => Sys2Proof.Machine.execBusStatus d c k s
  | .busAck d c k failed => Sys2Proof.Machine.execBusAck d c k failed s
  | .nbuParity d c k unit => Sys2Proof.Machine.execNbuParity d c k unit s
  | .nbuHang d c k lost => Sys2Proof.Machine.execNbuHang d c k lost s
  | .faultWindowRestart d g => Sys2Proof.Machine.execFaultWindowRestart d g s
  | .nbuMapout w => Sys2Proof.Machine.execNbuMapout w s
  | .nbuBiasCommit w => Sys2Proof.Machine.execNbuBiasCommit w s
  | .nbuBiasOwnerWrite w => Sys2Proof.Machine.execNbuBiasOwnerWrite w s
  | .t0Ue d p off engine => Sys2Proof.Machine.execT0Ue d p off engine s
  | .coreParity d p part engine => Sys2Proof.Machine.execCoreParity d p part engine s
  | .coreHang d p engine index => Sys2Proof.Machine.execCoreHang d p engine index s
  | .spareWake d p => Sys2Proof.Machine.execSpareWake d p s
  | .spareTaken d p => Sys2Proof.Machine.execSpareTaken d p s
  | .nopSort unit engine => Sys2Proof.Machine.execNopSort unit engine s
  | .streamSort core => Sys2Proof.Machine.execStreamSort core s
  | .fetchSort core => Sys2Proof.Machine.execFetchSort core s
  | .matmul core => Sys2Proof.Machine.execMatmul core s
  | .drainSort core => Sys2Proof.Machine.execDrainSort core s
  | .vop core => Sys2Proof.Machine.execVop core s
  | .mergeSort core => Sys2Proof.Machine.execMergeSort core s
  | .sampleSort core => Sys2Proof.Machine.execSampleSort core s
  | .foldSort core => Sys2Proof.Machine.execFoldSort core s
  | .storeSort core => Sys2Proof.Machine.execStoreSort core s
  | .copySort core => Sys2Proof.Machine.execCopySort core s
  | .sendSort core => Sys2Proof.Machine.execSendSort core s
  | .attendSort d c => Sys2Proof.Machine.execAttendSort d c s
  | .atomicAdd k => Sys2Proof.Machine.execAtomicAdd k s
  | .creditStall d core engine resource index => Sys2Proof.Machine.execCreditStall d core engine resource index s
  | .stepWatchdog part => Sys2Proof.Machine.execStepWatchdog part s
  | .stepTrigger => Sys2Proof.Machine.execStepTrigger s
  | .stepClose => Sys2Proof.Machine.execStepClose s
  | .galleyReload h => Sys2Proof.Machine.execGalleyReload h s
  | .stepBatchRecord part => Sys2Proof.Machine.execStepBatchRecord part s
  | .turnCopyDone req => Sys2Proof.Machine.execTurnCopyDone req s
  | .endedHold req => Sys2Proof.Machine.execEndedHold req s
  | .admitRequest => Sys2Proof.Machine.execAdmitRequest s
  | .prompt => Sys2Proof.Machine.execPrompt s
  | .propose => Sys2Proof.Machine.execPropose s
  | .pauseRequest => Sys2Proof.Machine.execPauseRequest s
  | .endRequest => Sys2Proof.Machine.execEndRequest s
  | .loadTensor => Sys2Proof.Machine.execLoadTensor s
  | .migrate => Sys2Proof.Machine.execMigrate s
  | .setClass => Sys2Proof.Machine.execSetClass s
  | .commandFetch part driver bytes => Sys2Proof.Machine.execCommandFetch part driver bytes s
  | .sqFetch part driver => Sys2Proof.Machine.execSqFetch part driver s
  | .tokenFetchDone req data ok => Sys2Proof.Machine.execTokenFetchDone req data ok s
  | .galPartCommit w => Sys2Proof.Machine.execGalPartCommit w s
  | .loadForme w => Sys2Proof.Machine.execLoadForme w s
  | .formeDone => Sys2Proof.Machine.execFormeDone s
  | .activate w => Sys2Proof.Machine.execActivate w s
  | .unload w => Sys2Proof.Machine.execUnload w s
  | .clearSuspect w => Sys2Proof.Machine.execClearSuspect w s
  | .dataFlit p flit => Sys2Proof.Machine.execDataFlit p flit s
  | .linkManagementFlit p flit => Sys2Proof.Machine.execLinkManagementFlit p flit s
  | .idleFlit p flit => Sys2Proof.Machine.execIdleFlit p flit s
  | .laneFail p lane => Sys2Proof.Machine.execLaneFail p lane s
  | .spareLaneTrained p spare good => Sys2Proof.Machine.execSpareLaneTrained p spare good s
  | .widthChange p => Sys2Proof.Machine.execWidthChange p s
  | .linkDown p cause => Sys2Proof.Machine.execLinkDown p cause s
  | .routeAround p => Sys2Proof.Machine.execRouteAround p s
  | .resend cls id => Sys2Proof.Machine.execResend cls id s
  | .t0Write => Sys2Proof.Machine.execT0Write s
  | .signalMsg => Sys2Proof.Machine.execSignalMsg s
  | .partialMsg => Sys2Proof.Machine.execPartialMsg s
  | .appendMsg => Sys2Proof.Machine.execAppendMsg s
  | .stepReport k m abandoned lacking => Sys2Proof.Machine.execStepReport k m abandoned lacking s
  | .stepAnnounce k a => Sys2Proof.Machine.execStepAnnounce k a s
  | .cmdForward tokens => Sys2Proof.Machine.execCmdForward tokens s
  | .class0Lost => Sys2Proof.Machine.execClass0Lost s
  | .ackMsg cls => Sys2Proof.Machine.execAckMsg cls s
  | .timeExchange => Sys2Proof.Machine.execTimeExchange s
  | .timeReq p => Sys2Proof.Machine.execTimeReq p s
  | .timeResp p => Sys2Proof.Machine.execTimeResp p s
  | .noParentTimeout => Sys2Proof.Machine.execNoParentTimeout s
  | .stileMsg sigOk w => Sys2Proof.Machine.execStileMsg sigOk w s
  | .chunkMsg => Sys2Proof.Machine.execChunkMsg s
  | .linkEn w => Sys2Proof.Machine.execLinkEn w s
  | .drainPort w => Sys2Proof.Machine.execDrainPort w s
  | .portDrainDone p => Sys2Proof.Machine.execPortDrainDone p s
  | .patchPort w => Sys2Proof.Machine.execPatchPort w s
  | .retrain w => Sys2Proof.Machine.execRetrain w s
  | .rejoin w => Sys2Proof.Machine.execRejoin w s
  | .partnerLight p => Sys2Proof.Machine.execPartnerLight p s
  | .patchDarkTimeout p => Sys2Proof.Machine.execPatchDarkTimeout p s
  | .fabMapWrite w => Sys2Proof.Machine.execFabMapWrite w s
  | .fabRtCommit w => Sys2Proof.Machine.execFabRtCommit w s
  | .mbxPartAssign w => Sys2Proof.Machine.execMbxPartAssign w s
  | .partRelease w => Sys2Proof.Machine.execPartRelease w s
  | .partReset w => Sys2Proof.Machine.execPartReset w s
  | .partCtrlReset w => Sys2Proof.Machine.execPartCtrlReset w s
  | .wipeDone part => Sys2Proof.Machine.execWipeDone part s
  | .resetDone part => Sys2Proof.Machine.execResetDone part s
  | .setTwin w => Sys2Proof.Machine.execSetTwin w s
  | .setShape w => Sys2Proof.Machine.execSetShape w s
  | .setEpochBase w => Sys2Proof.Machine.execSetEpochBase w s
  | .takeover w => Sys2Proof.Machine.execTakeover w s
  | .functionLevelReset part => Sys2Proof.Machine.execFunctionLevelReset part s
  | .d3hot fn port => Sys2Proof.Machine.execD3hot fn port s
  | .pcieLinkDown port => Sys2Proof.Machine.execPcieLinkDown port s
  | .devRegionCommit w => Sys2Proof.Machine.execDevRegionCommit w s
  | .devHostArbWrite w => Sys2Proof.Machine.execDevHostArbWrite w s
  | .qSqDb w => Sys2Proof.Machine.execQSqDb w s
  | .qCqDb w => Sys2Proof.Machine.execQCqDb w s
  | .qOutDb w => Sys2Proof.Machine.execQOutDb w s
  | .ringEnable w => Sys2Proof.Machine.execRingEnable w s
  | .ringDisable w => Sys2Proof.Machine.execRingDisable w s
  | .cqDelayExpiry part => Sys2Proof.Machine.execCqDelayExpiry part s
  | .heartbeat h => Sys2Proof.Machine.execHeartbeat h s
  | .mcPeerLost h => Sys2Proof.Machine.execMcPeerLost h s
  | .acquire h => Sys2Proof.Machine.execAcquire h s
  | .renew h => Sys2Proof.Machine.execRenew h s
  | .release h => Sys2Proof.Machine.execRelease h s
  | .leaseExpiry => Sys2Proof.Machine.execLeaseExpiry s
  | .renewTimeout h => Sys2Proof.Machine.execRenewTimeout h s
  | .mcWatchdog h => Sys2Proof.Machine.execMcWatchdog h s
  | .hostArbActing h => Sys2Proof.Machine.execHostArbActing h s
  | .fenced => Sys2Proof.Machine.execFenced s
  | .hubLinkLost => Sys2Proof.Machine.execHubLinkLost s
  | .mirrorOpen => Sys2Proof.Machine.execMirrorOpen s
  | .mirrorTokens => Sys2Proof.Machine.execMirrorTokens s
  | .mirrorRows => Sys2Proof.Machine.execMirrorRows s
  | .mirrorStep => Sys2Proof.Machine.execMirrorStep s
  | .mirrorChange => Sys2Proof.Machine.execMirrorChange s
  | .mirrorEnd => Sys2Proof.Machine.execMirrorEnd s
  | .mirrorSync => Sys2Proof.Machine.execMirrorSync s
  | .syncDone => Sys2Proof.Machine.execSyncDone s
  | .beatMsg => Sys2Proof.Machine.execBeatMsg s
  | .declareMsg => Sys2Proof.Machine.execDeclareMsg s
  | .handoffMsg => Sys2Proof.Machine.execHandoffMsg s
  | .handoffSend req => Sys2Proof.Machine.execHandoffSend req s
  | .refuseMsg => Sys2Proof.Machine.execRefuseMsg s
  | .mirrorTimeout req => Sys2Proof.Machine.execMirrorTimeout req s
  | .isolated => Sys2Proof.Machine.execIsolated s
  | .homeSilent serial => Sys2Proof.Machine.execHomeSilent serial s
  | .groupReportTimeout k => Sys2Proof.Machine.execGroupReportTimeout k s
  | .leadLost k => Sys2Proof.Machine.execLeadLost k s
  | .hubLastgaspClr w => Sys2Proof.Machine.execHubLastgaspClr w s
  | .logDegraded => Sys2Proof.Machine.execLogDegraded s
  | .logResumed => Sys2Proof.Machine.execLogResumed s
  | .counterWrite w inc => Sys2Proof.Machine.execCounterWrite w inc s
  | .groupSnapshot w => Sys2Proof.Machine.execGroupSnapshot w s
  | .groupClear w => Sys2Proof.Machine.execGroupClear w s
  | .snapshotCapture => Sys2Proof.Machine.execSnapshotCapture s
  | .autoSnapshot => Sys2Proof.Machine.execAutoSnapshot s
  | .traceRecord src => Sys2Proof.Machine.execTraceRecord src s
  | .trcClear w => Sys2Proof.Machine.execTrcClear w s
  | .trcMark w => Sys2Proof.Machine.execTrcMark w s
  | .trcDumpGo w => Sys2Proof.Machine.execTrcDumpGo w s
  | .dumpDone h => Sys2Proof.Machine.execDumpDone h s
  | .boundaryStopRequest w => Sys2Proof.Machine.execBoundaryStopRequest w s
  | .immediateStopRequest w => Sys2Proof.Machine.execImmediateStopRequest w s
  | .stopRelease w => Sys2Proof.Machine.execStopRelease w s
  | .stopImmediate offs => Sys2Proof.Machine.execStopImmediate offs s
  | .stopBoundary timeout => Sys2Proof.Machine.execStopBoundary timeout s
  | .stopReleased => Sys2Proof.Machine.execStopReleased s
  | .eventRecordWrite westFail eastFail => Sys2Proof.Machine.execEventRecordWrite westFail eastFail s
  | .evtSummary => Sys2Proof.Machine.execEvtSummary s
  | .resumeCommand => Sys2Proof.Machine.execResumeCommand s
  | .pcieLinkUp port flit => Sys2Proof.Machine.execPcieLinkUp port flit s
  | .refclkReturn h => Sys2Proof.Machine.execRefclkReturn h s
  | .d0Enter fn port => Sys2Proof.Machine.execD0Enter fn port s
  | .occupancyTick => Sys2Proof.Machine.execOccupancyTick s
  | .t0Scrub d p off bits => Sys2Proof.Machine.execT0Scrub d p off bits s

end Sys2Proof.Machine
end

