-- ==== Sys2Proof/Machine/Tick.lean ====
section
/-!
DEFINITION. What the block does by itself while no command waits: its time counters run (log 1).
-/
namespace Sys2Proof.Machine

/-- The servo takes up 1 ns every 5,000 ticks, which is 200 ppm (R410): what the counter adds in a tick, and what is left. -/
def slewed (c : Clock) : Nat × Int :=
  if c.ticks ≠ 0 ∨ c.slew = 0 then (1, c.slew)
  else if 0 < c.slew then (2, c.slew - 1)
  else (0, c.slew + 1)

/-- One nanosecond passes: the fabric time counter counts, and the NVS timer counts each whole microsecond (R86, R410, Table
14.3). -/
def tick (s : State) : State :=
  let c := s.clock
  { s with
    clock := { c with now := c.now + (slewed c).1, slew := (slewed c).2, ticks := (c.ticks + 1) % 5000 }
    nvs := if c.ticks % 1000 = 999 then { s.nvs with timer := (s.nvs.timer + 1) % 2 ^ 32 } else s.nvs }

end Sys2Proof.Machine
end

