-- ==== Sys2Proof/Safety.lean ====
section
/-!
DEFINITION. The terms that claims use: a command that answers a next state, the groups of state that it leaves as they were, the
canonical form of the device's tables, and the fuses' one way.
-/
namespace Sys2Proof

/-- The command answers a next state, of which `P` holds. -/
def Answers (c : Instr) (s : Machine.State) (P : Machine.State → Prop) : Prop := ∃ t, Machine.exec c s = .next t ∧ P t

/-- The command has its effect in the state: it neither faults nor is refused. -/
def Runs (c : Instr) (s : Machine.State) : Prop := Answers c s fun _ => True

namespace Machine

/-- Where a register access lands: the page, the offset in it, the key of the register, and its row for offsets from 0x100. -/
abbrev Site := PageRef × Nat × Nat × Option (RegRow × Nat)

/-- What a write acts on, when it passes the checks of a register access and the block is not power-gated (R96, R98, R107). -/
def servedAt (s : State) (w : RegWrite) : Option Site :=
  if accessCauses s w.access true = [] then match resolve w.who w.off with
    | some (.reg p off key row) => if blkState s p = 3 then none else some (p, off, key, row)
    | _ => none
  else none

/-- The message that a command which applies messages of a kind takes next: the first one that has arrived, when it is no duplicate of
one that was applied (R393). -/
def nextMsg (s : State) (kind : Arrival → Bool) : Option Arrival := match takeMsg s kind with
  | some (a, true, _) => some a
  | _ => none

/-- Registers that a write changes by the access types of their fields alone: no command, window or other state goes with them. -/
def plainRegisters : List (PageKind × Nat) := [
  (.dev0, 0x300), (.dev0, 0x388), (.gal3, 0x110), (.core, 0x010), (.md, 0x100), (.nbu, 0x100), (.fab0, 0x128), (.fab0, 0x130),
  (.trc, 0x108), (.trc, 0x110), (.trc, 0x118), (.trc, 0x158), (.cnt0, 0x108), (.cnt0, 0x118), (.cnt0, 0x148), (.part, 0x108),
  (.part, 0x110), (.part, 0x118), (.part, 0x178), (.part, 0x180), (.part, 0x188), (.q1, 0x108), (.q1, 0x110), (.q1, 0x118),
  (.q1, 0x120), (.q1, 0x130)]

/-- The sort that a command of an opcode runs on an engine: due, well formed, and on operands that pass. -/
def dueSort (s : State) (seg engine c op : Nat) : Option RunSort := (nextRun s seg engine c).filter fun r =>
  decide (srtOp r.bytes = op) && sortShape r.seg r.bytes && operandsOk ((s.impo r.pick.impo).ctx r.forme r.seg) r.bytes

/-- The next sort index of the engine of a sort. -/
def pcAfter (s : State) (r : RunSort) (c : Nat) : Nat := Map.get zeroAt s.steps.pcs (r.pcKey c)

/-- What a sort reads from tensor space, when no check refuses it and no sector is poisoned. -/
def readable (s : State) (r : RunSort) (addr n : Nat) : Option (List Byte) := match tensorAccess s (some r.pick.part) addr n with
  | .ok (m, off) => if (poisonedIn s m off n).isNone then some (readExtent s m off n) else none
  | .error _ => none

/-- The command `c` is the next of its opcode that acts on its request, the device is between steps, the request takes it (R353), and no
other end or handover of the request is due. -/
def actsNext (s : State) (op : Nat) (c : Cmd) : Bool :=
  let e := s.entry c.req
  betweenSteps s && decide (stopState s ≤ 2) && decide ((firstCmd s op fun c => c.names && mayAct s c) = some c) &&
    decide (e.gen = c.gen ∧ e.state ∈ acceptStates c ∧ e.ends = [] ∧ c.req ∉ s.home.declared ∧ c.req ∉ s.home.handed)

/-- The registers that an event may write: the NVS_ causes, and the last-gasp registers and causes of both hubs. -/
def eventRegs : List Nat := [blkIntRaw Reg.nvsBlk, Reg.hubLastgasp 0, Reg.hubLastgasp 1, blkIntRaw (Reg.hubBlk 0), blkIntRaw (Reg.hubBlk 1)]

/-- The registers that a capture may write. -/
def captureRegs (blk : Nat) : List Nat :=
  blkIntRaw blk :: blkErrCap blk 0 :: blkErrCap blk 1 :: blkErrCap blk 2 :: blkErrCap blk 3 :: eventRegs

/-- The registers, besides those of events, that a refused access of `a` may write. -/
def refusalRegs (a : Access) : List Nat :=
  Reg.devAccessErr :: Reg.devAccessLast ::
    ((match resolve a.who a.off with
      | some (.reg p _ _ _) => [blkIntRaw p.base]
      | _ => []) ++
    (match a.who.part with
      | some n => captureRegs (Reg.partBlk n)
      | none => [])) ++ eventRegs

/-- Groups of state that a command may leave as they were; with the queue they are the whole state. `memory`: T1 with its poison, T0, bias
tables; `galley`: entries and prefix trees; `moves`: migrations; `impos`: imposition slots and the loader; `groups`: serving groups;
`halves`: the heath domains and the governor; `dies`: the die pairs; `nvs`: the NVS die and the working colophon and fallow map; `ports`: the Chroni
ports and the routing table; `links`: links and messages; `hosts`: regions, rings, functions in D3hot, transfers that wait; `commands`:
arrived commands and records that wait; `twins`: the mirror table, the homes, this home; `board`: I3C and the test port; `units`: channels,
near-bank units, cores; `time`: the fabric time; `hubs`: trace stores, event mirrors, the hub link; `sources`: trace sources; `regs`: the
register store; `counters`: counts and snapshots; `latches`: window latches; `msix`: MSI-X tables; `events`: the event queue; `waits`: what
waits for a boundary, a wake or a time; `free`: the model's counter of free values; `fuses`; `outputs`: what has been put out. -/
inductive Part where
  | memory | galley | tensors | moves | impos | steps | groups | halves | dies | nvs | ports | links | hosts | commands | twins | board | units | time
  | hubs | sources | regs | counters | latches | msix | events | waits | free | fuses | outputs
  deriving DecidableEq, Repr

/-- `t` holds the group as `s` does. -/
def Same : Part → State → State → Prop
  | .memory, s, t => t.t1 = s.t1 ∧ t.poison = s.poison ∧ t.t0 = s.t0 ∧ t.bias = s.bias
  | .galley, s, t => t.entries = s.entries ∧ t.trees = s.trees
  | .tensors, s, t => t.tensors = s.tensors
  | .moves, s, t => t.moves = s.moves ∧ t.moveNext = s.moveNext
  | .impos, s, t => t.impos = s.impos ∧ t.loader = s.loader
  | .steps, s, t => t.steps = s.steps
  | .groups, s, t => t.groups = s.groups
  | .halves, s, t => t.west = s.west ∧ t.east = s.east ∧ t.governor = s.governor
  | .dies, s, t => t.dies = s.dies
  | .nvs, s, t => t.nvs = s.nvs ∧ t.colophon = s.colophon ∧ t.fallow = s.fallow
  | .ports, s, t => t.ports = s.ports ∧ t.routes = s.routes
  | .links, s, t => t.links = s.links ∧ t.inbox = s.inbox ∧ t.sent = s.sent ∧ t.applied = s.applied ∧ t.msgIds = s.msgIds
  | .hosts, s, t => t.regions = s.regions ∧ t.rings = s.rings ∧ t.d3hot = s.d3hot ∧ t.heldOut = s.heldOut
  | .commands, s, t => t.arrived = s.arrived ∧ t.records = s.records ∧ t.due = s.due
  | .twins, s, t => t.mirrors = s.mirrors ∧ t.homes = s.homes ∧ t.home = s.home
  | .board, s, t => t.i3c = s.i3c ∧ t.tap = s.tap
  | .units, s, t => t.chans = s.chans ∧ t.nbus = s.nbus ∧ t.mapouts = s.mapouts ∧ t.parityMoved = s.parityMoved ∧ t.cores = s.cores
  | .time, s, t => t.clock = s.clock ∧ t.times = s.times
  | .hubs, s, t => t.hubWest = s.hubWest ∧ t.hubEast = s.hubEast ∧ t.hubLink = s.hubLink
  | .sources, s, t => t.sources = s.sources
  | .regs, s, t => t.regs = s.regs
  | .counters, s, t => t.cnt = s.cnt ∧ t.snap = s.snap
  | .latches, s, t => t.latch = s.latch
  | .msix, s, t => t.msix = s.msix
  | .events, s, t => t.events = s.events
  | .waits, s, t => t.deferred = s.deferred ∧ t.inForce = s.inForce ∧ t.quiescing = s.quiescing ∧ t.capture = s.capture ∧ t.wiping = s.wiping ∧ t.gatedWrites = s.gatedWrites
  | .free, s, t => t.free = s.free
  | .fuses, s, t => t.fuses = s.fuses
  | .outputs, s, t => t.out = s.out

/-- The tables of registers, counters, T1 and T0 are in canonical form: indices rise strictly and no listed value is the one that an
unlisted index holds. -/
def Canon (s : State) : Prop :=
  Map.wf regReset s.regs = true ∧ Map.wf (fun _ => (0 : Word)) s.cnt = true ∧ Map.wf (fun _ => (0 : Byte)) s.t1 = true ∧
    Map.wf (fun _ => (0 : Byte)) s.t0 = true

/-- Fuses are blown and never restored, and the serial number they carry stays (R66). -/
def FuseOneWay (a b : Fuses) : Prop :=
  b.serial = a.serial ∧ (a.provisioned = true → b.provisioned = true) ∧ (a.returned = true → b.returned = true)

/-- Whatever a command does, from `s` to `t`: the queue is not its business, fuses are one-way, START_SEQ never falls, nothing that has
been put out is taken back, the tables keep their canonical form; and of the groups outside `m` nothing changes. -/
structure Keep (m : Part → Bool) (s t : State) : Prop where
  pending : t.pending = s.pending
  fuses : FuseOneWay s.fuses t.fuses
  seq : s.nvs.lastSeq ≤ t.nvs.lastSeq
  out : s.out <+: t.out
  canon : Canon s → Canon t
  same : ∀ p, m p = false → Same p s t

/-! ### The frame of every command -/

/-- The commands that may change T1, its poison, T0 or a bias table. -/
def mayChangeMemory : Instr → Bool
  | .vddHeathInTolerance .. | .coldRstN .. | .powerGate .. | .coldReset .. | .halfReset .. | .warmReset .. | .wipe .. | .ready ..
    | .lifecycleChange .. | .blockResetDone .. | .idleBoundaryChange .. | .registerWrite .. | .sectorRead .. | .fullWrite ..
    | .partialWrite .. | .parityXor .. | .patrolScrub .. | .ceLimit .. | .ueLimit .. | .hwFail .. | .chMapout .. | .drainCopyDone ..
    | .restoreDone .. | .rebuildDone .. | .migrationDone .. | .pageJob .. | .partialRecord .. | .busAck .. | .nbuParity .. | .nbuHang ..
    | .nbuMapout .. | .spareWake .. | .spareTaken .. | .fetchSort .. | .drainSort .. | .vop .. | .mergeSort .. | .sampleSort ..
    | .foldSort .. | .storeSort .. | .copySort .. | .attendSort .. | .atomicAdd .. | .stepClose .. | .prompt .. | .propose ..
    | .pauseRequest .. | .endRequest .. | .loadTensor .. | .migrate .. | .setClass .. | .galPartCommit .. | .t0Write .. | .partialMsg ..
    | .appendMsg .. | .stepAnnounce .. | .stileMsg .. | .chunkMsg .. | .wipeDone .. | .resetDone .. | .mirrorOpen .. | .mirrorRows ..
    | .mirrorEnd .. | .mirrorSync .. | .resumeCommand .. => true
  | _ => false

/-- The commands that may change a galley entry or a prefix tree. -/
def mayChangeGalley : Instr → Bool
  | .vddHeathInTolerance .. | .pwrgdAssert .. | .pwrgdDeassert .. | .railFault .. | .coldRstN .. | .refclkLoss .. | .thermalTrip ..
    | .coldReset .. | .halfReset .. | .warmReset .. | .heathPowerGood .. | .nvsRead .. | .hubSelfTest .. | .identityAndFuses ..
    | .memoryDieTraining .. | .portTrained .. | .trainingTimeout .. | .wipe .. | .startStepTimeout .. | .lifecycleChange .. | .summary ..
    | .idleBoundaryChange .. | .registerWrite .. | .sectorRead .. | .partialWrite .. | .parityXor .. | .patrolScrub .. | .ceLimit ..
    | .ueLimit .. | .hwFail .. | .chMapout .. | .drainCopyDone .. | .restoreDone .. | .rebuildDone .. | .nospaceWait .. | .ttl ..
    | .t2ReadCompletion .. | .tierLate .. | .migrationDone .. | .pageEnd .. | .busAck .. | .nbuParity .. | .nbuHang .. | .nbuMapout ..
    | .t0Ue .. | .coreParity .. | .coreHang .. | .nopSort .. | .streamSort .. | .fetchSort .. | .matmul .. | .drainSort .. | .vop ..
    | .mergeSort .. | .sampleSort .. | .foldSort .. | .storeSort .. | .copySort .. | .sendSort .. | .attendSort .. | .atomicAdd ..
    | .creditStall .. | .stepWatchdog .. | .stepClose .. | .stepBatchRecord .. | .turnCopyDone .. | .admitRequest .. | .prompt ..
    | .propose .. | .pauseRequest .. | .endRequest .. | .migrate .. | .setClass .. | .commandFetch .. | .tokenFetchDone ..
    | .galPartCommit .. | .stepReport .. | .stepAnnounce .. | .class0Lost .. | .ackMsg .. | .stileMsg .. | .chunkMsg .. | .linkEn ..
    | .drainPort .. | .patchPort .. | .retrain .. | .rejoin .. | .mcWatchdog .. | .fenced .. | .hubLinkLost .. | .refuseMsg ..
    | .mirrorTimeout .. | .isolated .. | .groupReportTimeout .. | .leadLost .. | .stopReleased .. | .resumeCommand .. | .t0Scrub .. => true
  | _ => false

/-- The commands that may change a tensor. -/
def mayChangeTensors : Instr → Bool
  | .vddHeathInTolerance .. | .coldRstN .. | .coldReset .. | .halfReset .. | .warmReset .. | .wipe .. | .lifecycleChange ..
    | .idleBoundaryChange .. | .registerWrite .. | .sectorRead .. | .partialWrite .. | .parityXor .. | .patrolScrub .. | .ceLimit ..
    | .ueLimit .. | .hwFail .. | .chMapout .. | .drainCopyDone .. | .restoreDone .. | .rebuildDone .. | .t2ReadCompletion ..
    | .tierLate .. | .migrationDone .. | .busAck .. | .nbuParity .. | .nbuHang .. | .nbuMapout .. | .streamSort .. | .fetchSort ..
    | .foldSort .. | .storeSort .. | .atomicAdd .. | .stepClose .. | .admitRequest .. | .prompt .. | .propose .. | .pauseRequest ..
    | .endRequest .. | .loadTensor .. | .migrate .. | .setClass .. | .stepAnnounce .. | .stileMsg .. | .chunkMsg .. | .resumeCommand .. => true
  | _ => false

/-- The commands that may change a migration. -/
def mayChangeMoves : Instr → Bool
  | .vddHeathInTolerance .. | .pwrgdAssert .. | .coldRstN .. | .coldReset .. | .halfReset .. | .warmReset .. | .lifecycleChange ..
    | .idleBoundaryChange .. | .registerWrite .. | .sectorRead .. | .partialWrite .. | .parityXor .. | .patrolScrub .. | .ceLimit ..
    | .ueLimit .. | .hwFail .. | .chMapout .. | .drainCopyDone .. | .restoreDone .. | .rebuildDone .. | .t2ReadCompletion ..
    | .tierLate .. | .migrationDone .. | .busAck .. | .nbuParity .. | .nbuHang .. | .nbuMapout .. | .streamSort .. | .fetchSort ..
    | .foldSort .. | .storeSort .. | .atomicAdd .. | .stepClose .. | .prompt .. | .propose .. | .pauseRequest .. | .endRequest ..
    | .loadTensor .. | .migrate .. | .setClass .. | .stepAnnounce .. | .stileMsg .. | .chunkMsg .. | .hubLinkLost ..
    | .boundaryStopRequest .. | .immediateStopRequest .. | .stopRelease .. | .stopReleased .. | .resumeCommand .. => true
  | _ => false

/-- The commands that may change an imposition slot or the loader. -/
def mayChangeImpos : Instr → Bool
  | .vddHeathInTolerance .. | .pwrgdAssert .. | .pwrgdDeassert .. | .railFault .. | .coldRstN .. | .refclkLoss .. | .thermalTrip ..
    | .coldReset .. | .halfReset .. | .warmReset .. | .heathPowerGood .. | .nvsRead .. | .hubSelfTest .. | .identityAndFuses ..
    | .memoryDieTraining .. | .portTrained .. | .trainingTimeout .. | .wipe .. | .startStepTimeout .. | .lifecycleChange .. | .summary ..
    | .idleBoundaryChange .. | .registerWrite .. | .sectorRead .. | .partialWrite .. | .parityXor .. | .patrolScrub .. | .ceLimit ..
    | .ueLimit .. | .hwFail .. | .chMapout .. | .drainCopyDone .. | .restoreDone .. | .rebuildDone .. | .busAck .. | .nbuParity ..
    | .nbuHang .. | .nbuMapout .. | .t0Ue .. | .coreParity .. | .coreHang .. | .nopSort .. | .streamSort .. | .fetchSort .. | .matmul ..
    | .drainSort .. | .vop .. | .mergeSort .. | .sampleSort .. | .foldSort .. | .storeSort .. | .copySort .. | .sendSort ..
    | .attendSort .. | .atomicAdd .. | .creditStall .. | .stepWatchdog .. | .stepClose .. | .loadForme .. | .formeDone .. | .unload ..
    | .clearSuspect .. | .stepReport .. | .stepAnnounce .. | .class0Lost .. | .stileMsg .. | .chunkMsg .. | .linkEn .. | .drainPort ..
    | .patchPort .. | .retrain .. | .rejoin .. | .mcWatchdog .. | .fenced .. | .hubLinkLost .. | .isolated .. | .groupReportTimeout ..
    | .leadLost .. | .stopReleased .. | .t0Scrub .. => true
  | _ => false

/-- The commands that may change the step in progress. -/
def mayChangeSteps : Instr → Bool
  | .vddHeathInTolerance .. | .pwrgdAssert .. | .pwrgdDeassert .. | .railFault .. | .coldRstN .. | .refclkLoss .. | .thermalTrip ..
    | .coldReset .. | .halfReset .. | .warmReset .. | .heathPowerGood .. | .nvsRead .. | .hubSelfTest .. | .identityAndFuses ..
    | .memoryDieTraining .. | .portTrained .. | .trainingTimeout .. | .wipe .. | .ready .. | .startStepTimeout .. | .lifecycleChange ..
    | .summary .. | .idleBoundaryChange .. | .registerWrite .. | .sectorRead .. | .partialWrite .. | .parityXor .. | .patrolScrub ..
    | .ceLimit .. | .ueLimit .. | .hwFail .. | .chMapout .. | .drainCopyDone .. | .restoreDone .. | .rebuildDone .. | .migrationDone ..
    | .pageJob .. | .partialRecord .. | .busAck .. | .nbuParity .. | .nbuHang .. | .nbuMapout .. | .t0Ue .. | .coreParity ..
    | .coreHang .. | .spareWake .. | .spareTaken .. | .nopSort .. | .streamSort .. | .fetchSort .. | .matmul .. | .drainSort .. | .vop ..
    | .mergeSort .. | .sampleSort .. | .foldSort .. | .storeSort .. | .copySort .. | .sendSort .. | .attendSort .. | .atomicAdd ..
    | .creditStall .. | .stepWatchdog .. | .stepTrigger .. | .stepClose .. | .galleyReload .. | .t0Write .. | .signalMsg ..
    | .partialMsg .. | .stepReport .. | .stepAnnounce .. | .class0Lost .. | .stileMsg .. | .chunkMsg .. | .linkEn .. | .drainPort ..
    | .patchPort .. | .retrain .. | .rejoin .. | .mcWatchdog .. | .fenced .. | .hubLinkLost .. | .isolated .. | .groupReportTimeout ..
    | .leadLost .. | .boundaryStopRequest .. | .immediateStopRequest .. | .stopRelease .. | .stopReleased .. | .t0Scrub .. => true
  | _ => false

/-- The commands that may change a serving group. -/
def mayChangeGroups : Instr → Bool
  | .vddHeathInTolerance .. | .pwrgdAssert .. | .pwrgdDeassert .. | .railFault .. | .coldRstN .. | .refclkLoss .. | .thermalTrip ..
    | .coldReset .. | .halfReset .. | .warmReset .. | .heathPowerGood .. | .nvsRead .. | .hubSelfTest .. | .identityAndFuses ..
    | .memoryDieTraining .. | .portTrained .. | .trainingTimeout .. | .wipe .. | .startStepTimeout .. | .lifecycleChange .. | .summary ..
    | .idleBoundaryChange .. | .registerWrite .. | .sectorRead .. | .partialWrite .. | .parityXor .. | .patrolScrub .. | .ceLimit ..
    | .ueLimit .. | .hwFail .. | .chMapout .. | .drainCopyDone .. | .restoreDone .. | .rebuildDone .. | .busAck .. | .nbuParity ..
    | .nbuHang .. | .nbuMapout .. | .t0Ue .. | .coreParity .. | .coreHang .. | .nopSort .. | .streamSort .. | .fetchSort .. | .matmul ..
    | .drainSort .. | .vop .. | .mergeSort .. | .sampleSort .. | .foldSort .. | .storeSort .. | .copySort .. | .sendSort ..
    | .attendSort .. | .atomicAdd .. | .creditStall .. | .stepWatchdog .. | .stepTrigger .. | .stepClose .. | .activate ..
    | .stepReport .. | .stepAnnounce .. | .class0Lost .. | .stileMsg .. | .chunkMsg .. | .linkEn .. | .drainPort .. | .patchPort ..
    | .retrain .. | .rejoin .. | .mcWatchdog .. | .fenced .. | .hubLinkLost .. | .isolated .. | .groupReportTimeout .. | .leadLost ..
    | .boundaryStopRequest .. | .immediateStopRequest .. | .stopRelease .. | .stopReleased .. | .t0Scrub .. => true
  | _ => false

/-- The commands that may change a heath domain or the governor. -/
def mayChangeHalves : Instr → Bool
  | .vddHeathInTolerance .. | .vddHeathRemoval .. | .pwrgdAssert .. | .pwrgdDeassert .. | .railFault .. | .coldRstN .. | .epochIn ..
    | .governorEvaluation .. | .railOvercurrent .. | .throttleLevelFall .. | .thermalSample .. | .thermalTrip .. | .coldReset ..
    | .halfReset .. | .warmReset .. | .heathPowerGood .. | .nvsRead .. | .hubSelfTest .. | .identityAndFuses .. | .memoryDieTraining ..
    | .memorySelfTest .. | .computeDieSelfTest .. | .portTrained .. | .linkWaitExpiry .. | .trainingTimeout .. | .epochAbsent ..
    | .timeNoSource .. | .wipe .. | .ready .. | .startStepTimeout .. | .autoRestart .. | .resumeHalted .. | .lifecycleChange ..
    | .summary .. | .registerWrite .. | .timeResp .. | .stileMsg .. | .linkEn .. | .drainPort .. | .patchPort .. | .retrain ..
    | .rejoin .. | .hubLinkLost .. => true
  | _ => false

/-- The commands that may change a die pair. -/
def mayChangeDies : Instr → Bool
  | .vddHeathInTolerance .. | .pwrgdAssert .. | .railFault .. | .coldRstN .. | .clockGate .. | .powerGate .. | .dieWake ..
    | .selfRefreshExit .. | .coldReset .. | .halfReset .. | .warmReset .. | .nvsRead .. | .memoryDieTraining .. | .computeDieSelfTest ..
    | .wipe .. | .lifecycleChange .. | .idleBoundaryChange .. | .registerWrite .. | .sectorRead .. | .partialWrite .. | .parityXor ..
    | .patrolScrub .. | .ceLimit .. | .ueLimit .. | .hwFail .. | .chMapout .. | .drainCopyDone .. | .restoreDone .. | .rebuildDone ..
    | .t2ReadCompletion .. | .tierLate .. | .migrationDone .. | .busAck .. | .nbuParity .. | .nbuHang .. | .nbuMapout .. | .t0Ue ..
    | .coreParity .. | .coreHang .. | .streamSort .. | .fetchSort .. | .foldSort .. | .storeSort .. | .atomicAdd .. | .stepClose ..
    | .prompt .. | .propose .. | .pauseRequest .. | .endRequest .. | .loadTensor .. | .migrate .. | .setClass .. | .stepAnnounce ..
    | .stileMsg .. | .chunkMsg .. | .hubLinkLost .. | .mirrorRows .. | .mirrorSync .. | .boundaryStopRequest .. | .immediateStopRequest ..
    | .stopRelease .. | .stopReleased .. | .resumeCommand .. | .t0Scrub .. => true
  | _ => false

/-- The commands that may change the NVS die, the working colophon or the fallow map. -/
def mayChangeNvs : Instr → Bool
  | .vddHeathInTolerance .. | .vddHeathRemoval .. | .pwrgdAssert .. | .railFault .. | .coldRstN .. | .epochIn .. | .thermalSample ..
    | .nvsWriteResume .. | .coldReset .. | .halfReset .. | .warmReset .. | .heathPowerGood .. | .nvsRead .. | .hubSelfTest ..
    | .identityAndFuses .. | .memoryDieTraining .. | .memorySelfTest .. | .computeDieSelfTest .. | .portTrained .. | .linkWaitExpiry ..
    | .trainingTimeout .. | .epochAbsent .. | .timeNoSource .. | .wipe .. | .ready .. | .startStepTimeout .. | .autoRestart ..
    | .resumeHalted .. | .lifecycleChange .. | .summary .. | .idleBoundaryChange .. | .registerWrite .. | .restoreDone .. | .t0Ue ..
    | .coreParity .. | .coreHang .. | .stepClose .. | .stepAnnounce .. | .timeResp .. | .stileMsg .. | .linkEn .. | .drainPort ..
    | .patchPort .. | .retrain .. | .rejoin .. | .setShape .. | .setEpochBase .. | .acquire .. | .renew .. | .release .. | .leaseExpiry ..
    | .mcWatchdog .. | .hubLinkLost .. | .logResumed .. | .eventRecordWrite .. | .t0Scrub .. => true
  | _ => false

/-- The commands that may change a Chroni port or the routing table. -/
def mayChangePorts : Instr → Bool
  | .vddHeathInTolerance .. | .pwrgdAssert .. | .pwrgdDeassert .. | .railFault .. | .coldRstN .. | .epochIn .. | .thermalSample ..
    | .thermalTrip .. | .coldReset .. | .halfReset .. | .warmReset .. | .heathPowerGood .. | .nvsRead .. | .hubSelfTest ..
    | .identityAndFuses .. | .memoryDieTraining .. | .memorySelfTest .. | .computeDieSelfTest .. | .portTrained .. | .linkWaitExpiry ..
    | .trainingTimeout .. | .epochAbsent .. | .timeNoSource .. | .wipe .. | .startStepTimeout .. | .lifecycleChange .. | .summary ..
    | .idleBoundaryChange .. | .registerWrite .. | .stepClose .. | .laneFail .. | .spareLaneTrained .. | .widthChange .. | .linkDown ..
    | .stepAnnounce .. | .timeResp .. | .stileMsg .. | .linkEn .. | .drainPort .. | .portDrainDone .. | .patchPort .. | .retrain ..
    | .rejoin .. | .partnerLight .. | .patchDarkTimeout .. | .hubLinkLost .. => true
  | _ => false

/-- The commands that may change a link or a message. -/
def mayChangeLinks : Instr → Bool
  | .vddHeathInTolerance .. | .pwrgdAssert .. | .pwrgdDeassert .. | .railFault .. | .coldRstN .. | .epochIn .. | .refclkLoss ..
    | .thermalTrip .. | .coldReset .. | .halfReset .. | .warmReset .. | .heathPowerGood .. | .nvsRead .. | .hubSelfTest ..
    | .identityAndFuses .. | .memoryDieTraining .. | .memorySelfTest .. | .computeDieSelfTest .. | .portTrained .. | .linkWaitExpiry ..
    | .trainingTimeout .. | .epochAbsent .. | .timeNoSource .. | .wipe .. | .startStepTimeout .. | .lifecycleChange .. | .summary ..
    | .summaryResend .. | .idleBoundaryChange .. | .registerWrite .. | .sectorRead .. | .partialWrite .. | .parityXor .. | .patrolScrub ..
    | .ceLimit .. | .ueLimit .. | .hwFail .. | .chMapout .. | .drainCopyDone .. | .restoreDone .. | .rebuildDone .. | .migrationDone ..
    | .busAck .. | .nbuParity .. | .nbuHang .. | .nbuMapout .. | .t0Ue .. | .coreParity .. | .coreHang .. | .nopSort .. | .streamSort ..
    | .fetchSort .. | .matmul .. | .drainSort .. | .vop .. | .mergeSort .. | .sampleSort .. | .foldSort .. | .storeSort .. | .copySort ..
    | .sendSort .. | .attendSort .. | .atomicAdd .. | .creditStall .. | .stepWatchdog .. | .stepClose .. | .admitRequest .. | .prompt ..
    | .propose .. | .pauseRequest .. | .endRequest .. | .migrate .. | .setClass .. | .commandFetch .. | .activate .. | .dataFlit ..
    | .linkManagementFlit .. | .laneFail .. | .spareLaneTrained .. | .widthChange .. | .routeAround .. | .resend .. | .t0Write ..
    | .signalMsg .. | .partialMsg .. | .appendMsg .. | .stepReport .. | .stepAnnounce .. | .cmdForward .. | .class0Lost .. | .ackMsg ..
    | .timeExchange .. | .timeReq .. | .timeResp .. | .stileMsg .. | .chunkMsg .. | .linkEn .. | .drainPort .. | .patchPort ..
    | .retrain .. | .rejoin .. | .partnerLight .. | .mcWatchdog .. | .fenced .. | .hubLinkLost .. | .mirrorOpen .. | .mirrorTokens ..
    | .mirrorRows .. | .mirrorStep .. | .mirrorChange .. | .mirrorEnd .. | .mirrorSync .. | .syncDone .. | .beatMsg .. | .declareMsg ..
    | .handoffMsg .. | .handoffSend .. | .refuseMsg .. | .mirrorTimeout .. | .isolated .. | .groupReportTimeout .. | .leadLost ..
    | .boundaryStopRequest .. | .immediateStopRequest .. | .stopRelease .. | .stopReleased .. | .resumeCommand .. | .t0Scrub .. => true
  | _ => false

/-- The commands that may change a host region, a ring, a function's power state or a waiting transfer. -/
def mayChangeHosts : Instr → Bool
  | .vddHeathInTolerance .. | .pwrgdAssert .. | .coldRstN .. | .perstN .. | .coldReset .. | .halfReset .. | .warmReset ..
    | .lifecycleChange .. | .idleBoundaryChange .. | .registerWrite .. | .sectorRead .. | .partialWrite .. | .parityXor ..
    | .patrolScrub .. | .ceLimit .. | .ueLimit .. | .hwFail .. | .chMapout .. | .drainCopyDone .. | .restoreDone .. | .rebuildDone ..
    | .nospaceWait .. | .t2ReadCompletion .. | .tierLate .. | .migrationDone .. | .busAck .. | .nbuParity .. | .nbuHang .. | .nbuMapout ..
    | .streamSort .. | .fetchSort .. | .foldSort .. | .storeSort .. | .atomicAdd .. | .stepClose .. | .stepBatchRecord ..
    | .admitRequest .. | .prompt .. | .propose .. | .pauseRequest .. | .endRequest .. | .loadTensor .. | .migrate .. | .setClass ..
    | .commandFetch .. | .tokenFetchDone .. | .stepAnnounce .. | .ackMsg .. | .stileMsg .. | .chunkMsg .. | .partReset ..
    | .partCtrlReset .. | .functionLevelReset .. | .d3hot .. | .devRegionCommit .. | .qSqDb .. | .qCqDb .. | .qOutDb .. | .ringEnable ..
    | .ringDisable .. | .cqDelayExpiry .. | .hubLinkLost .. | .mirrorRows .. | .mirrorSync .. | .refuseMsg .. | .mirrorTimeout ..
    | .leadLost .. | .trcDumpGo .. | .boundaryStopRequest .. | .immediateStopRequest .. | .stopRelease .. | .stopReleased ..
    | .resumeCommand .. | .pcieLinkUp .. | .d0Enter .. => true
  | _ => false

/-- The commands that may change an arrived command or a waiting record. -/
def mayChangeCommands : Instr → Bool
  | .vddHeathInTolerance .. | .coldRstN .. | .coldReset .. | .halfReset .. | .warmReset .. | .lifecycleChange .. | .idleBoundaryChange ..
    | .registerWrite .. | .nospaceWait .. | .tierLate .. | .stepClose .. | .stepBatchRecord .. | .admitRequest .. | .prompt ..
    | .propose .. | .pauseRequest .. | .endRequest .. | .loadTensor .. | .migrate .. | .setClass .. | .commandFetch ..
    | .tokenFetchDone .. | .stepAnnounce .. | .cmdForward .. | .stileMsg .. | .refuseMsg .. | .mirrorTimeout .. | .leadLost ..
    | .resumeCommand .. => true
  | _ => false

/-- The commands that may change the mirror table, the homes served or this home. -/
def mayChangeTwins : Instr → Bool
  | .vddHeathInTolerance .. | .pwrgdAssert .. | .pwrgdDeassert .. | .railFault .. | .coldRstN .. | .refclkLoss .. | .thermalTrip ..
    | .coldReset .. | .halfReset .. | .warmReset .. | .heathPowerGood .. | .nvsRead .. | .hubSelfTest .. | .identityAndFuses ..
    | .memoryDieTraining .. | .portTrained .. | .trainingTimeout .. | .wipe .. | .ready .. | .startStepTimeout .. | .lifecycleChange ..
    | .summary .. | .idleBoundaryChange .. | .registerWrite .. | .sectorRead .. | .partialWrite .. | .patrolScrub .. | .ceLimit ..
    | .ueLimit .. | .hwFail .. | .chMapout .. | .drainCopyDone .. | .restoreDone .. | .busAck .. | .nbuParity .. | .nbuHang ..
    | .nbuMapout .. | .t0Ue .. | .coreParity .. | .coreHang .. | .foldSort .. | .storeSort .. | .stepTrigger .. | .stepClose ..
    | .admitRequest .. | .prompt .. | .propose .. | .pauseRequest .. | .endRequest .. | .migrate .. | .setClass .. | .stepAnnounce ..
    | .ackMsg .. | .stileMsg .. | .chunkMsg .. | .linkEn .. | .drainPort .. | .patchPort .. | .retrain .. | .rejoin .. | .takeover ..
    | .mcWatchdog .. | .fenced .. | .hubLinkLost .. | .mirrorOpen .. | .mirrorTokens .. | .mirrorRows .. | .mirrorStep ..
    | .mirrorChange .. | .mirrorEnd .. | .mirrorSync .. | .syncDone .. | .beatMsg .. | .declareMsg .. | .handoffMsg .. | .handoffSend ..
    | .refuseMsg .. | .mirrorTimeout .. | .isolated .. | .homeSilent .. | .resumeCommand .. | .t0Scrub .. => true
  | _ => false

/-- The commands that may change the I3C target or the test port. -/
def mayChangeBoard : Instr → Bool
  | .entdaa .. | .setdasa .. | .i3cPrivateWrite .. | .i3cPrivateRead .. | .bypass .. | .idcode .. | .samplePreload .. | .extest ..
    | .clamp .. | .highz .. => true
  | _ => false

/-- The commands that may change a channel, a near-bank unit or a core. -/
def mayChangeUnits : Instr → Bool
  | .vddHeathInTolerance .. | .pwrgdAssert .. | .pwrgdDeassert .. | .railFault .. | .coldRstN .. | .refclkLoss .. | .thermalTrip ..
    | .coldReset .. | .halfReset .. | .warmReset .. | .heathPowerGood .. | .nvsRead .. | .hubSelfTest .. | .identityAndFuses ..
    | .memoryDieTraining .. | .portTrained .. | .trainingTimeout .. | .wipe .. | .startStepTimeout .. | .lifecycleChange .. | .summary ..
    | .idleBoundaryChange .. | .registerWrite .. | .sectorRead .. | .fullWrite .. | .partialWrite .. | .parityXor .. | .patrolScrub ..
    | .ceLimit .. | .ueLimit .. | .limitWindowRestart .. | .hwFail .. | .chMapout .. | .drainCopyDone .. | .restoreDone ..
    | .rebuildDone .. | .migrationDone .. | .queryLoad .. | .pageJob .. | .pageStart .. | .pageEnd .. | .yieldWindowEnd .. | .refresh ..
    | .partialRecord .. | .busStatus .. | .busAck .. | .nbuParity .. | .nbuHang .. | .faultWindowRestart .. | .nbuMapout .. | .t0Ue ..
    | .coreParity .. | .coreHang .. | .nopSort .. | .streamSort .. | .fetchSort .. | .matmul .. | .drainSort .. | .vop .. | .mergeSort ..
    | .sampleSort .. | .foldSort .. | .storeSort .. | .copySort .. | .sendSort .. | .attendSort .. | .atomicAdd .. | .creditStall ..
    | .stepWatchdog .. | .stepTrigger .. | .stepClose .. | .appendMsg .. | .stepReport .. | .stepAnnounce .. | .class0Lost ..
    | .stileMsg .. | .chunkMsg .. | .linkEn .. | .drainPort .. | .patchPort .. | .retrain .. | .rejoin .. | .mcWatchdog .. | .fenced ..
    | .hubLinkLost .. | .mirrorRows .. | .mirrorSync .. | .isolated .. | .groupReportTimeout .. | .leadLost .. | .stopReleased ..
    | .t0Scrub .. => true
  | _ => false

/-- The commands that may change the fabric time. -/
def mayChangeTime : Instr → Bool
  | .vddHeathInTolerance .. | .pwrgdAssert .. | .coldRstN .. | .epochIn .. | .thermalSample .. | .dieWake .. | .coldReset ..
    | .halfReset .. | .warmReset .. | .heathPowerGood .. | .originListenExpiry .. | .epochAbsent .. | .lifecycleChange .. | .blkEnable ..
    | .blkQuiesce .. | .blockReset .. | .blkIntEnWrite .. | .blkSnap .. | .blkOwnerWrite .. | .windowIndexLatch .. | .registerWrite ..
    | .devAccessErrWrite .. | .laneFail .. | .spareLaneTrained .. | .linkDown .. | .timeExchange .. | .timeResp .. | .noParentTimeout ..
    | .stileMsg .. | .portDrainDone .. | .hubLinkLost .. | .hubLastgaspClr .. | .counterWrite .. => true
  | _ => false

/-- The commands that may change a trace store, an event mirror or the hub link. -/
def mayChangeHubs : Instr → Bool
  | .vddHeathInTolerance .. | .pwrgdAssert .. | .coldRstN .. | .coldReset .. | .halfReset .. | .warmReset .. | .ready ..
    | .lifecycleChange .. | .blockResetDone .. | .registerWrite .. | .stileMsg .. | .devHostArbWrite .. | .heartbeat ..
    | .hostArbActing .. | .hubLinkLost .. | .traceRecord .. | .trcClear .. | .trcMark .. | .trcDumpGo .. | .dumpDone ..
    | .boundaryStopRequest .. | .immediateStopRequest .. | .stopRelease .. | .stopImmediate .. | .stopBoundary .. | .stopReleased ..
    | .eventRecordWrite .. => true
  | _ => false

/-- The commands that may change a trace source. -/
def mayChangeSources : Instr → Bool
  | .vddHeathInTolerance .. | .pwrgdAssert .. | .coldRstN .. | .coldReset .. | .halfReset .. | .warmReset .. | .lifecycleChange ..
    | .idleBoundaryChange .. | .registerWrite .. | .sectorRead .. | .partialWrite .. | .parityXor .. | .patrolScrub .. | .ceLimit ..
    | .ueLimit .. | .hwFail .. | .chMapout .. | .drainCopyDone .. | .restoreDone .. | .rebuildDone .. | .nospaceWait ..
    | .t2ReadCompletion .. | .tierLate .. | .migrationDone .. | .pageJob .. | .pageStart .. | .yieldWindowEnd .. | .partialRecord ..
    | .busStatus .. | .busAck .. | .nbuParity .. | .nbuHang .. | .nbuMapout .. | .nopSort .. | .streamSort .. | .fetchSort .. | .matmul ..
    | .drainSort .. | .vop .. | .mergeSort .. | .sampleSort .. | .foldSort .. | .storeSort .. | .copySort .. | .sendSort ..
    | .attendSort .. | .atomicAdd .. | .stepTrigger .. | .stepClose .. | .admitRequest .. | .prompt .. | .propose .. | .pauseRequest ..
    | .endRequest .. | .loadTensor .. | .migrate .. | .setClass .. | .commandFetch .. | .tokenFetchDone .. | .stepAnnounce .. | .ackMsg ..
    | .stileMsg .. | .chunkMsg .. | .hubLinkLost .. | .refuseMsg .. | .mirrorTimeout .. | .leadLost .. | .traceRecord .. | .trcClear ..
    | .trcMark .. | .boundaryStopRequest .. | .immediateStopRequest .. | .stopRelease .. | .stopImmediate .. | .stopBoundary ..
    | .stopReleased .. | .resumeCommand .. => true
  | _ => false

/-- The commands that may change a register: all but those listed. -/
def mayChangeRegs : Instr → Bool
  | .clockGate .. | .powerGate .. | .selfRefreshExit .. | .entdaa .. | .setdasa .. | .i3cPrivateRead .. | .bypass .. | .idcode ..
    | .samplePreload .. | .extest .. | .clamp .. | .highz .. | .originListenExpiry .. | .appendPromotion .. | .quireParityMoved ..
    | .parkThreshold .. | .ttl .. | .faultWindowRestart .. | .spareWake .. | .turnCopyDone .. | .endedHold .. | .idleFlit .. | .d3hot ..
    | .cqDelayExpiry .. | .evtSummary .. | .d0Enter .. => false
  | _ => true

/-- The commands that may change a count or a snapshot: all but those listed. -/
def mayChangeCounters : Instr → Bool
  | .vddHeathRemoval .. | .perstN .. | .epochIn .. | .strapReread .. | .governorEvaluation .. | .railOvercurrent ..
    | .throttleLevelFall .. | .limitUnmet .. | .thermalSample .. | .nvsWriteResume .. | .nbuThermalStepFall .. | .clockGate ..
    | .powerGate .. | .selfRefreshExit .. | .entdaa .. | .setdasa .. | .i3cPrivateWrite .. | .i3cPrivateRead .. | .bypass .. | .idcode ..
    | .samplePreload .. | .extest .. | .clamp .. | .highz .. | .memorySelfTest .. | .computeDieSelfTest .. | .linkWaitExpiry ..
    | .originListenExpiry .. | .epochAbsent .. | .timeNoSource .. | .ready .. | .autoRestart .. | .quiesced .. | .blockResetDone ..
    | .fullWrite .. | .appendPromotion .. | .limitWindowRestart .. | .quireParityMoved .. | .parkThreshold .. | .ttl .. | .queryLoad ..
    | .faultWindowRestart .. | .spareWake .. | .spareTaken .. | .galleyReload .. | .turnCopyDone .. | .endedHold .. | .sqFetch ..
    | .idleFlit .. | .laneFail .. | .spareLaneTrained .. | .widthChange .. | .linkDown .. | .noParentTimeout .. | .portDrainDone ..
    | .partnerLight .. | .patchDarkTimeout .. | .wipeDone .. | .resetDone .. | .d3hot .. | .pcieLinkDown .. | .cqDelayExpiry ..
    | .heartbeat .. | .mcPeerLost .. | .acquire .. | .renew .. | .release .. | .leaseExpiry .. | .renewTimeout .. | .hostArbActing ..
    | .homeSilent .. | .logDegraded .. | .logResumed .. | .traceRecord .. | .dumpDone .. | .eventRecordWrite .. | .evtSummary ..
    | .pcieLinkUp .. | .refclkReturn .. | .d0Enter .. => false
  | _ => true

/-- The commands that may change a window latch. -/
def mayChangeLatches : Instr → Bool
  | .vddHeathInTolerance .. | .coldRstN .. | .dieWake .. | .coldReset .. | .halfReset .. | .warmReset .. | .lifecycleChange ..
    | .blkEnable .. | .blkQuiesce .. | .blockReset .. | .blockResetDone .. | .blkIntEnWrite .. | .blkSnap .. | .blkOwnerWrite ..
    | .windowIndexLatch .. | .registerWrite .. | .devAccessErrWrite .. | .stileMsg .. | .hubLastgaspClr .. | .counterWrite .. => true
  | _ => false

/-- The commands that may change an MSI-X table: all but those listed. -/
def mayChangeMsix : Instr → Bool
  | .vddHeathRemoval .. | .epochIn .. | .nvsWriteResume .. | .nbuThermalStepFall .. | .clockGate .. | .powerGate .. | .selfRefreshExit ..
    | .entdaa .. | .setdasa .. | .i3cPrivateRead .. | .bypass .. | .idcode .. | .samplePreload .. | .extest .. | .clamp .. | .highz ..
    | .memorySelfTest .. | .linkWaitExpiry .. | .originListenExpiry .. | .epochAbsent .. | .timeNoSource .. | .ready .. | .autoRestart ..
    | .quiesced .. | .blockResetDone .. | .appendPromotion .. | .limitWindowRestart .. | .quireParityMoved .. | .parkThreshold ..
    | .ttl .. | .faultWindowRestart .. | .spareWake .. | .turnCopyDone .. | .endedHold .. | .idleFlit .. | .widthChange ..
    | .noParentTimeout .. | .portDrainDone .. | .partnerLight .. | .d3hot .. | .pcieLinkDown .. | .heartbeat .. | .renew ..
    | .renewTimeout .. | .autoSnapshot .. | .evtSummary .. | .refclkReturn .. => false
  | _ => true

/-- The commands that may change the event queue: all but those listed. -/
def mayChangeEvents : Instr → Bool
  | .vddHeathRemoval .. | .perstN .. | .epochIn .. | .nvsWriteResume .. | .nbuThermalStepFall .. | .clockGate .. | .powerGate ..
    | .selfRefreshExit .. | .entdaa .. | .setdasa .. | .i3cPrivateWrite .. | .i3cPrivateRead .. | .bypass .. | .idcode ..
    | .samplePreload .. | .extest .. | .clamp .. | .highz .. | .memorySelfTest .. | .computeDieSelfTest .. | .linkWaitExpiry ..
    | .originListenExpiry .. | .epochAbsent .. | .timeNoSource .. | .ready .. | .autoRestart .. | .quiesced .. | .blockResetDone ..
    | .appendPromotion .. | .limitWindowRestart .. | .quireParityMoved .. | .parkThreshold .. | .ttl .. | .faultWindowRestart ..
    | .spareWake .. | .turnCopyDone .. | .endedHold .. | .idleFlit .. | .widthChange .. | .noParentTimeout .. | .portDrainDone ..
    | .partnerLight .. | .resetDone .. | .d3hot .. | .pcieLinkDown .. | .cqDelayExpiry .. | .heartbeat .. | .renew .. | .renewTimeout ..
    | .logDegraded .. | .snapshotCapture .. | .autoSnapshot .. | .traceRecord .. | .dumpDone .. | .refclkReturn .. | .d0Enter .. => false
  | _ => true

/-- The commands that may change what waits for a boundary, a wake or a time. -/
def mayChangeWaits : Instr → Bool
  | .vddHeathInTolerance .. | .pwrgdAssert .. | .railFault .. | .coldRstN .. | .refclkLoss .. | .dieWake .. | .coldReset ..
    | .halfReset .. | .warmReset .. | .wipe .. | .resumeHalted .. | .lifecycle .. | .lifecycleChange .. | .summary .. | .blkEnable ..
    | .blkQuiesce .. | .blockReset .. | .blockResetDone .. | .idleBoundaryChange .. | .blkIntEnWrite .. | .blkSnap .. | .blkOwnerWrite ..
    | .windowIndexLatch .. | .registerWrite .. | .devAccessErrWrite .. | .chMapout .. | .drainCopyDone .. | .restoreDone ..
    | .rebuildDone .. | .quireParityMoved .. | .parkThreshold .. | .migrationDone .. | .nbuMapout .. | .nbuBiasCommit ..
    | .nbuBiasOwnerWrite .. | .t0Ue .. | .coreParity .. | .coreHang .. | .stepTrigger .. | .stepClose .. | .endedHold .. | .prompt ..
    | .propose .. | .pauseRequest .. | .endRequest .. | .loadTensor .. | .migrate .. | .setClass .. | .galPartCommit .. | .loadForme ..
    | .activate .. | .unload .. | .clearSuspect .. | .stepAnnounce .. | .stileMsg .. | .linkEn .. | .drainPort .. | .patchPort ..
    | .retrain .. | .rejoin .. | .fabMapWrite .. | .fabRtCommit .. | .mbxPartAssign .. | .partRelease .. | .partReset ..
    | .partCtrlReset .. | .wipeDone .. | .resetDone .. | .setTwin .. | .setShape .. | .setEpochBase .. | .takeover ..
    | .functionLevelReset .. | .devRegionCommit .. | .devHostArbWrite .. | .qSqDb .. | .qCqDb .. | .qOutDb .. | .ringEnable ..
    | .ringDisable .. | .hubLinkLost .. | .hubLastgaspClr .. | .counterWrite .. | .groupSnapshot .. | .groupClear .. | .snapshotCapture ..
    | .trcClear .. | .trcMark .. | .trcDumpGo .. | .boundaryStopRequest .. | .immediateStopRequest .. | .stopRelease .. | .stopReleased ..
    | .resumeCommand .. | .t0Scrub .. => true
  | _ => false

/-- The commands that may change the counter of free values. -/
def mayChangeFree : Instr → Bool
  | .pwrgdAssert .. | .pwrgdDeassert .. | .railFault .. | .refclkLoss .. | .thermalTrip .. | .coldReset .. | .halfReset .. | .warmReset ..
    | .heathPowerGood .. | .nvsRead .. | .hubSelfTest .. | .identityAndFuses .. | .memoryDieTraining .. | .portTrained ..
    | .trainingTimeout .. | .wipe .. | .startStepTimeout .. | .summary .. | .idleBoundaryChange .. | .registerWrite .. | .sectorRead ..
    | .partialWrite .. | .parityXor .. | .patrolScrub .. | .ceLimit .. | .ueLimit .. | .hwFail .. | .chMapout .. | .drainCopyDone ..
    | .restoreDone .. | .rebuildDone .. | .busAck .. | .nbuParity .. | .nbuHang .. | .nbuMapout .. | .t0Ue .. | .coreParity ..
    | .coreHang .. | .nopSort .. | .streamSort .. | .fetchSort .. | .matmul .. | .drainSort .. | .vop .. | .mergeSort .. | .sampleSort ..
    | .foldSort .. | .storeSort .. | .copySort .. | .sendSort .. | .attendSort .. | .atomicAdd .. | .creditStall .. | .stepWatchdog ..
    | .stepClose .. | .admitRequest .. | .prompt .. | .propose .. | .pauseRequest .. | .endRequest .. | .migrate .. | .setClass ..
    | .activate .. | .laneFail .. | .spareLaneTrained .. | .stepReport .. | .stepAnnounce .. | .class0Lost .. | .stileMsg ..
    | .chunkMsg .. | .linkEn .. | .drainPort .. | .patchPort .. | .retrain .. | .rejoin .. | .partReset .. | .partCtrlReset ..
    | .functionLevelReset .. | .devRegionCommit .. | .mcWatchdog .. | .fenced .. | .hubLinkLost .. | .mirrorOpen .. | .mirrorStep ..
    | .isolated .. | .groupReportTimeout .. | .leadLost .. | .boundaryStopRequest .. | .immediateStopRequest .. | .stopRelease ..
    | .stopReleased .. | .resumeCommand .. | .t0Scrub .. => true
  | _ => false

/-- The commands that may change the fuses. -/
def mayChangeFuses : Instr → Bool
  | .wipe .. => true
  | _ => false

/-- The commands that may change what has been put out: all but those listed. -/
def mayChangeOutputs : Instr → Bool
  | .vddHeathInTolerance .. | .vddHeathRemoval .. | .coldRstN .. | .perstN .. | .epochIn .. | .nvsWriteResume .. | .nbuThermalStepFall ..
    | .clockGate .. | .powerGate .. | .selfRefreshExit .. | .entdaa .. | .setdasa .. | .memorySelfTest .. | .linkWaitExpiry ..
    | .originListenExpiry .. | .epochAbsent .. | .timeNoSource .. | .ready .. | .autoRestart .. | .lifecycleChange .. | .quiesced ..
    | .blockResetDone .. | .appendPromotion .. | .limitWindowRestart .. | .quireParityMoved .. | .parkThreshold .. | .ttl ..
    | .faultWindowRestart .. | .spareWake .. | .turnCopyDone .. | .endedHold .. | .idleFlit .. | .widthChange .. | .noParentTimeout ..
    | .portDrainDone .. | .partnerLight .. | .d3hot .. | .pcieLinkDown .. | .heartbeat .. | .renew .. | .renewTimeout ..
    | .autoSnapshot .. | .evtSummary .. | .refclkReturn .. => false
  | _ => true

/-- The commands that may change a group of the state. -/
def mayChange : Part → Instr → Bool
  | .memory, c => mayChangeMemory c
  | .galley, c => mayChangeGalley c
  | .tensors, c => mayChangeTensors c
  | .moves, c => mayChangeMoves c
  | .impos, c => mayChangeImpos c
  | .steps, c => mayChangeSteps c
  | .groups, c => mayChangeGroups c
  | .halves, c => mayChangeHalves c
  | .dies, c => mayChangeDies c
  | .nvs, c => mayChangeNvs c
  | .ports, c => mayChangePorts c
  | .links, c => mayChangeLinks c
  | .hosts, c => mayChangeHosts c
  | .commands, c => mayChangeCommands c
  | .twins, c => mayChangeTwins c
  | .board, c => mayChangeBoard c
  | .units, c => mayChangeUnits c
  | .time, c => mayChangeTime c
  | .hubs, c => mayChangeHubs c
  | .sources, c => mayChangeSources c
  | .regs, c => mayChangeRegs c
  | .counters, c => mayChangeCounters c
  | .latches, c => mayChangeLatches c
  | .msix, c => mayChangeMsix c
  | .events, c => mayChangeEvents c
  | .waits, c => mayChangeWaits c
  | .free, c => mayChangeFree c
  | .fuses, c => mayChangeFuses c
  | .outputs, c => mayChangeOutputs c

end Machine

end Sys2Proof
end

