-- ==== Sys2Proof/WellFormed.lean ====
section
/-!
DEFINITION. Which commands are well formed: their operands are ones that a stimulus of the spec can carry. A row that a register write
starts carries a write that names its register; numbers lie within the part; data has its length.
-/
namespace Sys2Proof

open Machine

/-- The operands are ones that some stimulus of the spec carries. -/
def Instr.wf (c : Instr) : Bool := match c with
  | .vddHeathInTolerance _ => true
  | .vddHeathRemoval _ => true
  | .pwrgdAssert _ _ => true
  | .pwrgdDeassert _ => true
  | .railFault _ => true
  | .coldRstN => true
  | .perstN _ => true
  | .epochIn => true
  | .refclkLoss _ => true
  | .strapReread _ _ => true
  | .governorEvaluation _ => true
  | .railOvercurrent _ _ => true
  | .throttleLevelFall _ => true
  | .limitUnmet _ => true
  | .thermalSample _ => true
  | .thermalTrip _ _ => true
  | .nvsWriteResume => true
  | .nbuThermalStepFall _ _ => true
  | .clockGate _ => true
  | .powerGate _ => true
  | .dieWake _ => true
  | .selfRefreshExit _ => true
  | .entdaa _ => true
  | .setdasa _ _ => true
  | .i3cPrivateWrite _ _ => true
  | .i3cPrivateRead _ => true
  | .bypass _ => true
  | .idcode _ => true
  | .samplePreload _ _ => true
  | .extest _ _ => true
  | .clamp _ => true
  | .highz _ => true
  | .coldReset w => isReg w .dev0 0x240 && decide (fld w.val 0 2 = 3 ∨ fld w.val 0 2 = 0)
  | .halfReset w => isReg w .dev0 0x240 && decide (fld w.val 0 2 = 2 ∨ fld w.val 0 2 = 0)
  | .warmReset w => isReg w .dev0 0x240 && decide (fld w.val 0 2 = 1 ∨ fld w.val 0 2 = 0)
  | .heathPowerGood _ _ _ => true
  | .nvsRead _ _ => true
  | .hubSelfTest _ _ => true
  | .identityAndFuses _ _ _ _ => true
  | .memoryDieTraining _ _ => true
  | .memorySelfTest _ pairs _ _ => pairs.all fun x => decide (x.1 < 16 ∧ x.2 < 64)
  | .computeDieSelfTest _ _ _ => true
  | .portTrained _ _ _ => true
  | .linkWaitExpiry _ => true
  | .trainingTimeout _ => true
  | .originListenExpiry => true
  | .epochAbsent => true
  | .timeNoSource => true
  | .wipe errs => errs.all fun e => decide (e.1 < 8 ∧ e.2 < 16)
  | .ready => true
  | .startStepTimeout _ _ => true
  | .autoRestart _ => true
  | .resumeHalted w => isReg w .dev0 0x250
  | .lifecycle w _ _ => isMbox w 4
  | .lifecycleChange => true
  | .summary _ => true
  | .summaryResend _ => true
  | .blkEnable w => isHeader w 0x010
  | .blkQuiesce w => isHeader w 0x010
  | .quiesced blk => isBlock blk
  | .blockReset w => isHeader w 0x010
  | .blockResetDone blk => isBlock blk
  | .idleBoundaryChange => true
  | .blkIntEnWrite w => isHeader w 0x028
  | .blkSnap w => isHeader w 0x060
  | .blkOwnerWrite w => isHeader w 0x070
  | .windowIndexLatch w => namesIndex w
  | .registerWrite _ => true
  | .refusedRead _ => true
  | .devAccessErrWrite w => isReg w .dev0 0x228
  | .sectorRead da _ _ _ => decide (da < 2 ^ 38 ∧ da % 64 = 0)
  | .fullWrite da data => decide (da < 2 ^ 38 ∧ da % 64 = 0 ∧ data.length = 64)
  | .partialWrite da data _ => decide (da < 2 ^ 38 ∧ 0 < data.length ∧ data.length < 64 ∧ da % 64 + data.length ≤ 64)
  | .parityXor _ _ => true
  | .appendPromotion _ _ => true
  | .patrolScrub da _ _ => decide (da < 2 ^ 38 ∧ da % 64 = 0)
  | .ceLimit _ _ => true
  | .ueLimit _ _ => true
  | .limitWindowRestart _ _ _ => true
  | .hwFail _ _ part => decide (1 ≤ part ∧ part ≤ 4)
  | .chMapout w => isReg w .ch 0x108
  | .drainCopyDone _ => true
  | .restoreDone _ _ => true
  | .rebuildDone _ _ _ _ => true
  | .quireParityMoved _ _ _ => true
  | .nospaceWait _ => true
  | .parkThreshold _ => true
  | .ttl _ => true
  | .t2ReadCompletion _ _ _ _ => true
  | .tierLate _ _ => true
  | .migrationDone _ => true
  | .queryLoad _ _ bytes => decide (64 ≤ bytes.length ∧ leAt bytes 0 1 = 2 ∧ (qlDim bytes = 3 ∨ bytes.length = 64 + 2 * qlQcount bytes * dimOf (qlDim bytes)))
  | .pageJob _ _ bytes => decide (bytes.length = 32 ∧ leAt bytes 0 1 = 1)
  | .pageStart _ _ _ _ => true
  | .pageEnd _ _ _ => true
  | .yieldWindowEnd _ _ _ => true
  | .refresh _ _ _ _ _ => true
  | .partialRecord _ _ _ => true
  | .busStatus _ _ _ => true
  | .busAck _ _ _ _ => true
  | .nbuParity _ _ _ unit => decide (1 ≤ unit ∧ unit ≤ 4)
  | .nbuHang _ _ _ _ => true
  | .faultWindowRestart _ _ => true
  | .nbuMapout w => isReg w .nbu 0x190
  | .nbuBiasCommit w => isReg w .nbu 0x220
  | .nbuBiasOwnerWrite w => isReg w .nbu 0x228 || isReg w .nbu 0x230
  | .t0Ue _ _ _ _ => true
  | .coreParity _ _ part _ => decide (part.val ≠ 0)
  | .coreHang _ _ _ _ => true
  | .spareWake _ _ => true
  | .spareTaken _ _ => true
  | .nopSort unit engine => decide (engine.val = 5 → unit.val < 128)
  | .streamSort _ => true
  | .fetchSort _ => true
  | .matmul _ => true
  | .drainSort _ => true
  | .vop _ => true
  | .mergeSort _ => true
  | .sampleSort _ => true
  | .foldSort _ => true
  | .storeSort _ => true
  | .copySort _ => true
  | .sendSort _ => true
  | .attendSort _ _ => true
  | .atomicAdd _ => true
  | .creditStall d core engine resource _ => decide (resource.val ≠ 0 ∧ (engine.val < 5 → core.val / 32 = d.val) ∧ (engine.val = 5 → core.val = 0xFF))
  | .stepWatchdog _ => true
  | .stepTrigger => true
  | .stepClose => true
  | .galleyReload _ => true
  | .stepBatchRecord _ => true
  | .turnCopyDone _ => true
  | .endedHold _ => true
  | .admitRequest => true
  | .prompt => true
  | .propose => true
  | .pauseRequest => true
  | .endRequest => true
  | .loadTensor => true
  | .migrate => true
  | .setClass => true
  | .commandFetch _ _ bytes => decide (bytes.length = 64)
  | .sqFetch _ _ => true
  | .tokenFetchDone _ _ _ => true
  | .galPartCommit w => isReg w .gal1 0x128
  | .loadForme w => isReg w .gal3 0x100 && decide (fld w.val 32 3 = 1)
  | .formeDone => true
  | .activate w => isReg w .gal3 0x100 && decide (fld w.val 32 3 = 2)
  | .unload w => isReg w .gal3 0x100 && decide (fld w.val 32 3 = 3)
  | .clearSuspect w => isReg w .gal3 0x100 && decide (fld w.val 32 3 = 4)
  | .dataFlit _ flit => decide (flit.length = 256 ∧ flitClass flit < 6)
  | .linkManagementFlit _ flit => decide (flit.length = 256 ∧ flitClass flit = 6)
  | .idleFlit _ flit => decide (flit.length = 256 ∧ flitClass flit = 7)
  | .laneFail _ _ => true
  | .spareLaneTrained _ _ _ => true
  | .widthChange _ => true
  | .linkDown _ cause => decide (cause.val ≠ 0)
  | .routeAround _ => true
  | .resend _ _ => true
  | .t0Write => true
  | .signalMsg => true
  | .partialMsg => true
  | .appendMsg => true
  | .stepReport _ _ _ _ => true
  | .stepAnnounce _ _ => true
  | .cmdForward _ => true
  | .class0Lost => true
  | .ackMsg _ => true
  | .timeExchange => true
  | .timeReq _ => true
  | .timeResp _ => true
  | .noParentTimeout => true
  | .stileMsg _ w => w.all fun x => decide (x.who = .stile)
  | .chunkMsg => true
  | .linkEn w => isReg w .fab0 0x108
  | .drainPort w => isReg w .fab0 0x108
  | .portDrainDone _ => true
  | .patchPort w => isReg w .fab0 0x108
  | .retrain w => isReg w .fab0 0x108
  | .rejoin w => isReg w .fab0 0x108
  | .partnerLight _ => true
  | .patchDarkTimeout _ => true
  | .fabMapWrite w => isReg w .fab0 0x120
  | .fabRtCommit w => isReg w .fab1 0x128
  | .mbxPartAssign w => isMbox w 1
  | .partRelease w => isMbox w 2
  | .partReset w => isMbox w 3
  | .partCtrlReset w => isReg w .part 0x158
  | .wipeDone _ => true
  | .resetDone _ => true
  | .setTwin w => isMbox w 5
  | .setShape w => isMbox w 6
  | .setEpochBase w => isMbox w 7
  | .takeover w => isMbox w 8
  | .functionLevelReset _ => true
  | .d3hot _ _ => true
  | .pcieLinkDown _ => true
  | .devRegionCommit w => isReg w .dev0 0x358
  | .devHostArbWrite w => isReg w .dev0 0x380
  | .qSqDb w => isReg w .q0 0x100 || isReg w .part 0x198
  | .qCqDb w => isReg w .q0 0x108 || isReg w .part 0x1A0
  | .qOutDb w => isReg w .q0 0x110
  | .ringEnable w => (isReg w .q1 0x100 || isReg w .part 0x170) && bit w.val 0
  | .ringDisable w => (isReg w .q1 0x100 || isReg w .part 0x170) && !bit w.val 0
  | .cqDelayExpiry _ => true
  | .heartbeat _ => true
  | .mcPeerLost _ => true
  | .acquire _ => true
  | .renew _ => true
  | .release _ => true
  | .leaseExpiry => true
  | .renewTimeout _ => true
  | .mcWatchdog _ => true
  | .hostArbActing _ => true
  | .fenced => true
  | .hubLinkLost => true
  | .mirrorOpen => true
  | .mirrorTokens => true
  | .mirrorRows => true
  | .mirrorStep => true
  | .mirrorChange => true
  | .mirrorEnd => true
  | .mirrorSync => true
  | .syncDone => true
  | .beatMsg => true
  | .declareMsg => true
  | .handoffMsg => true
  | .handoffSend _ => true
  | .refuseMsg => true
  | .mirrorTimeout _ => true
  | .isolated => true
  | .homeSilent _ => true
  | .groupReportTimeout _ => true
  | .leadLost _ => true
  | .hubLastgaspClr w => isReg w .hub0 0x110
  | .logDegraded => true
  | .logResumed => true
  | .counterWrite w _ => namesCounter w
  | .groupSnapshot w => isReg w .cnt0 0x100
  | .groupClear w => isReg w .cnt0 0x100
  | .snapshotCapture => true
  | .autoSnapshot => true
  | .traceRecord _ => true
  | .trcClear w => isReg w .trc 0x100
  | .trcMark w => isReg w .trc 0x100
  | .trcDumpGo w => isReg w .trc 0x160
  | .dumpDone _ => true
  | .boundaryStopRequest w => isReg w .cnt0 0x140
  | .immediateStopRequest w => isReg w .cnt0 0x140
  | .stopRelease w => isReg w .cnt0 0x140
  | .stopImmediate offs => decide (offs.length = 24)
  | .stopBoundary _ => true
  | .stopReleased => true
  | .eventRecordWrite _ _ => true
  | .evtSummary => true
  | .resumeCommand => true
  | .pcieLinkUp _ _ => true
  | .refclkReturn _ => true
  | .d0Enter _ _ => true
  | .occupancyTick => true
  | .t0Scrub _ _ _ _ => true

/-- The operands fit the state: bytes that a read of a move, or a token fetch, brings are as many as were asked for. -/
def Instr.fits (c : Instr) (s : State) : Bool := match c with
  | .t2ReadCompletion id off data ok =>
    (s.moves.find? fun m => m.id = id ∧ m.running ∧ ¬ m.finished ∧ m.kind.intoT1 = true).all fun m =>
      decide (off % 4096 = 0 ∧ off < m.len) && (!ok || decide (data.length = min 4096 (m.len - off)))
  | .tokenFetchDone req data ok => (fetching s req.val).all fun c => !ok || decide (data.length = 4 * c.op32 0x14)
  | _ => true

end Sys2Proof
end

