-- ==== Sys2Proof/Certificates/Slice0/Obligations.lean ====
section
/-!
DEFINITION. The statements about the machine, for the provers: the completion of every command with its effect, the frames, the
invariants of every step, and rules of the manual's prose.
-/
open Sys2Proof Sys2Proof.Machine

/-- Rails, PWRGD and the reset pins (R41 to R43, R60, R65, R437, R544). -/
def Obligations.RailsComplete : Prop :=
  (∀ (h : Half) (s : State), heathOk s h = false → heathOk s h.other = true → startingAs s h.other .cold = false → exec
    (.vddHeathInTolerance h) s = .next ((putBit s Reg.devRailStatus (12 + 5 * h.idx) true).setHalf h { s.half h with phase := .down })) ∧
  (∀ (h : Half) (s : State), heathOk s h = false → heathOk s h.other = false → (s.half h).trip = false → Answers (.vddHeathInTolerance
    h) s fun t => (t.half h).phase = .starting ∧ (t.half h).kind = .cold ∧ (t.half h).step = 1 ∧ t.nvs.lastSeq = s.nvs.lastSeq + 1) ∧
  (∀ (h : Half) (s : State), heathOk s h = true → pwrgd s h = false → heathOk s h.other = true → Answers (.vddHeathRemoval h) s fun t =>
    (t.half h).phase = .unpowered ∧ t.half h.other = s.half h.other ∧ getReg t (Reg.hubLastgasp h.idx) = 0 ∧ heathOk t h = false) ∧
  (∀ (h : Half) (rails : BitVec 18) (r : Nat) (s : State), pwrgd s h = false → heathOk s h = true → (s.half h).trip = false → badRail h
    rails = some r → Answers (.pwrgdAssert h rails) s fun t => (t.half h).phase = .heldRail ∧ (t.half h).failCode = 0x0001) ∧
  (∀ (h : Half) (rails : BitVec 18) (s : State), pwrgd s h = false → heathOk s h = true → (s.half h).phase = .down → (s.half h).trip =
    false → badRail h rails = none → startingAs s h.other .cold = false → Answers (.pwrgdAssert h rails) s fun t => (t.half h).phase =
    .starting ∧ (t.half h).kind = .half ∧ (t.half h).step = 1) ∧
  (∀ (h : Half) (s : State), pwrgd s h = true → Answers (.pwrgdDeassert h) s fun t => (t.half h).phase = .down) ∧
  (∀ (r : Fin 18) (s : State), pwrgd s (railHalf r.val) = true → 8 ≤ r.val → r.val ≠ 12 → r.val ≠ 17 → Answers (.railFault r) s fun t =>
    (t.half (railHalf r.val)).phase = .down) ∧
  (∀ (r : Fin 18) (s : State), pwrgd s (railHalf r.val) = true → r.val < 8 → (s.die r.val).lost = false → Answers (.railFault r) s fun t
    => (t.die r.val).stopped = true ∧ (t.die r.val).lost = true ∧ .dieLost r.val ∈ t.deferred) ∧
  (∀ (s : State), startingAs s .west .cold = false → startingAs s .east .cold = false → s.west.phase ≠ .unpowered → s.east.phase ≠
    .unpowered → Answers (.coldRstN) s fun t => t.west.phase = .starting ∧ t.east.phase = .starting ∧ t.west.kind = .cold ∧ t.east.kind
    = .cold ∧ t.west.step = 1 ∧ t.east.step = 1 ∧ t.west.trip = false ∧ t.east.trip = false ∧ t.nvs.lastSeq = s.nvs.lastSeq + 1) ∧
  (∀ (port : Half) (s : State), Answers (.perstN port) s fun t => Map.get (fun _ => false) t.d3hot port.idx = false ∧ getBit t
    (Reg.hubMigStatus port.idx) 16 = true ∧ ∀ off, off ≠ Reg.hubMigStatus port.idx → getReg t off = getReg s off)

/-- Reference clocks, straps, the governor, temperatures (R44 to R48, R51, R188). -/
def Obligations.PowerComplete : Prop :=
  (∀ (h : Half) (s : State), getBit s Reg.devClkStatus h.idx = true → getBit s Reg.devClkStatus h.other.idx = true → Answers
    (.refclkLoss h) s fun t => getBit t Reg.devClkStatus h.idx = false ∧ getBit t Reg.devClkStatus (2 + h.idx) = true ∧ getBit t
    (blkIntRaw Reg.devBlk) (21 + h.idx) = true) ∧
  (∀ (h : Half) (s : State), getBit s Reg.devClkStatus h.idx = true → getBit s Reg.devClkStatus h.other.idx = false → s.steps.running =
    true → Answers (.refclkLoss h) s fun t => getBit t Reg.devClkStatus 9 = true ∧ t.deferred = s.deferred ++ [.failStop 3]) ∧
  (∀ (h : Half) (s : State), Answers (.refclkReturn h) s fun t => getBit t Reg.devClkStatus h.idx = true ∧ (∀ j, j ≠ h.idx → getBit t
    Reg.devClkStatus j = getBit s Reg.devClkStatus j) ∧ ∀ off, off ≠ Reg.devClkStatus → getReg t off = getReg s off) ∧
  (∀ (h : Half) (straps : BitVec 16) (s : State), heathOk s h = true → (s.half h).phase = .ready → straps ≠ (s.half h).straps → Answers
    (.strapReread h straps) s fun t => getBit t (blkIntRaw Reg.devBlk) (23 + h.idx) = true ∧ t.half h = s.half h) ∧
  (∀ (p : PowerSample) (s : State), raisedLately s = false → overLimit s p = true → Answers (.governorEvaluation p) s fun t =>
    powerLevel t = min 6 (powerLevel s + 1)) ∧
  (∀ (r : Fin 18) (p : PowerSample) (s : State), Answers (.railOvercurrent r p) s fun t => powerLevel t = 6 ∧ getBit t Reg.devPwrStatus
    37 = true ∧ getBit t (blkIntRaw Reg.devBlk) 25 = true) ∧
  (∀ (p : PowerSample) (s : State), raisedLately s = false → overLimit s p = false → s.governor.thermalAt ≤ powerLevel s → 0 <
    powerLevel s → levelSettled s = true → underLimits s p = true → nearThrottle s = false → Answers (.throttleLevelFall p) s fun t =>
    powerLevel t = powerLevel s - 1) ∧
  (∀ (p : PowerSample) (s : State), powerLevel s = 6 → overLimit s p = true → sixLong s = true → Answers (.limitUnmet p) s fun t =>
    getBit t Reg.devPwrStatus 38 = true ∧ getBit t (blkIntRaw Reg.devBlk) 25 = true) ∧
  (∀ (x : ThermalSample) (s : State), Answers (.thermalSample x) s fun t => (t.governor.thermalAt = if ((sampleDies x).zipIdx).any (fun
    (v, i) => decide (throttleAt i ≤ v)) then min 6 (powerLevel s + 1) else 0) ∧ (100 ≤ x.nvs → t.nvs.writesStopped = true)) ∧
  (∀ (die : Fin 24) (temp : Int) (s : State), die.val < 16 → tripAt die.val ≤ temp → (s.half (dieHalf (die.val % 8))).trip = false →
    (s.half (dieHalf (die.val % 8)).other).trip = false → Answers (.thermalTrip die temp) s fun t => (t.half (dieHalf (die.val %
    8))).trip = true ∧ (t.half (dieHalf (die.val % 8))).phase = .down) ∧
  (∀ (s : State), Answers (.nvsWriteResume) s fun t => t.nvs = { s.nvs with writesStopped := false } ∧ getBit t Reg.nvsStatus 3 = false
    ∧ ∀ off, off ≠ Reg.nvsStatus → getReg t off = getReg s off) ∧
  (∀ (d : Fin 8) (temp : Int) (s : State), nbuStep s d.val ≠ 0 → temp + 2 ≤ nbuThreshold (nbuStep s d.val) → Answers
    (.nbuThermalStepFall d temp) s fun t => getFld t (Reg.nbuStatus d.val 0) 4 2 = nbuStep s d.val - 1 ∧ getFld t (Reg.nbuStatus d.val
    1) 4 2 = nbuStep s d.val - 1)

/-- Clock gating, power gating, waking, self-refresh (R53 to R55, Table 2.10). -/
def Obligations.IdleStatesComplete : Prop :=
  (∀ (d : Fin 8) (s : State), getBit s Reg.devPwrCfg 32 = true → idleAllowed s = true → (s.die d.val).power = .on → exec (.clockGate d)
    s = .next (s.setDie d.val { s.die d.val with power := .clockGated })) ∧
  (∀ (d : Fin 8) (s : State), getBit s Reg.devPwrCfg 33 = true → idleAllowed s = true → jobQueued s d.val = false → (s.die d.val).power
    = .clockGated → Answers (.powerGate d) s fun t => t.die d.val = { s.die d.val with power := .powerGated, selfRefresh := true } ∧
    t.regs = s.regs ∧ ∀ a, Map.get (fun _ => (0 : Byte)) t.t0 a = if a / 2 ^ 23 / 34 = d.val then 0 else Map.get (fun _ => (0 : Byte))
    s.t0 a) ∧
  (∀ (d : Fin 8) (s : State), (s.die d.val).power ≠ .on → s.gatedWrites = [] → exec (.dieWake d) s = .next (s.setDie d.val
    { s.die d.val with power := .on, selfRefresh := false })) ∧
  (∀ (d : Fin 8) (s : State), exec (.selfRefreshExit d) s = .next (s.setDie d.val { s.die d.val with selfRefresh := false }))

/-- The I3C target and the test access port (R37, R38, R541). -/
def Obligations.BoardComplete : Prop :=
  (∀ (a : BitVec 7) (s : State), i3cAlive s = true → s.i3c.dynAddr = none → exec (.entdaa a) s = .next
    ({ s with i3c := { s.i3c with dynAddr := some a } })) ∧
  (∀ (a : BitVec 7) (s : State), i3cAlive s = true → s.i3c.dynAddr = none → exec (.setdasa (i3cStatic s) a) s = .next
    ({ s with i3c := { s.i3c with dynAddr := some a } })) ∧
  (∀ (a : BitVec 7) (data : List Byte) (s : State), i3cAlive s = true → a = i3cAddr s → data.length = 4 → exec (.i3cPrivateWrite a data)
    s = .next ({ s with i3c := { s.i3c with addr := BitVec.ofNat 32 (ofLe data) } })) ∧
  (∀ (a : BitVec 7) (s : State), i3cAlive s = true → a = i3cAddr s → exec (.i3cPrivateRead a) s = .next
    ({ s with i3c := { s.i3c with addr := s.i3c.addr + 8 }, out := s.out ++ [.i3c (i3cRead s s.i3c.addr.toNat)] })) ∧
  (∀ (tdi : List Bool) (s : State), exec (.bypass tdi) s = .next
    ({ s with tap := { s.tap with instr := .bypass, driven := none, floating := false }, out := s.out ++ [.tdo ((false :: tdi).take tdi.length)] })) ∧
  (∀ (tdi : List Bool) (s : State), exec (.idcode tdi) s = .next
    ({ s with tap := { s.tap with instr := .idcode, driven := none, floating := false }, out := s.out ++ [.tdo ((idcodeBits ++ tdi).take tdi.length)] })) ∧
  (∀ (tdi : List Bool) (pins : List Bool) (s : State), tapLocked s = false → exec (.samplePreload tdi pins) s = .next
    ({ s with tap := ⟨.samplePreload, (pins ++ tdi).drop tdi.length, none, false⟩, out := s.out ++ [.tdo ((pins ++ tdi).take tdi.length)] })) ∧
  (∀ (tdi : List Bool) (pins : List Bool) (s : State), tapLocked s = false → exec (.extest tdi pins) s = .next
    ({ s with tap := ⟨.extest, (pins ++ tdi).drop tdi.length, some ((pins ++ tdi).drop tdi.length), false⟩, out := s.out ++ [.tdo ((pins ++ tdi).take tdi.length)] })) ∧
  (∀ (tdi : List Bool) (s : State), tapLocked s = false → exec (.clamp tdi) s = .next
    ({ s with tap := { s.tap with instr := .clamp, driven := some s.tap.boundary, floating := false }, out := s.out ++ [.tdo ((false :: tdi).take tdi.length)] })) ∧
  (∀ (tdi : List Bool) (s : State), tapLocked s = false → exec (.highz tdi) s = .next
    ({ s with tap := { s.tap with instr := .highz, driven := none, floating := true }, out := s.out ++ [.tdo ((false :: tdi).take tdi.length)] })) ∧
  (∀ (tdi : List Bool) (pins : List Bool) (s : State), tapLocked s = true → exec (.extest tdi pins) s = exec (.bypass tdi) s ∧ exec
    (.samplePreload tdi pins) s = exec (.bypass tdi) s ∧ exec (.clamp tdi) s = exec (.bypass tdi) s ∧ exec (.highz tdi) s = exec
    (.bypass tdi) s)

/-- Start step 10 and the fabric time (R35, R86 to R88, R411). -/
def Obligations.TimeStartComplete : Prop :=
  (∀ (s : State), s.clock.epochWait = false → exec (.epochIn) s = .next
    ({ s with clock := { s.clock with epochStamp := some s.clock.now } })) ∧
  (∀ (s : State), s.clock.epochWait = true → Answers (.epochIn) s fun t => t.clock.aligned = true ∧ t.clock.source = true ∧ t.clock.hop
    = 0 ∧ t.clock.now = s.colophon.epochBase.toNat) ∧
  (∀ (s : State), originAlone s = true → exec (.originListenExpiry) s = .next ({ s with clock := { s.clock with epochWait := true } })) ∧
  (∀ (s : State), s.clock.epochWait = true → Answers (.epochAbsent) s fun t => t.clock.aligned = true ∧ t.clock.source = true ∧
    t.clock.hop = 0 ∧ t.clock.now = s.colophon.epochBase.toNat) ∧
  (∀ (s : State), atTen s = true → s.clock.aligned = false → s.west.kind = .cold → s.east.kind = .cold → Answers (.timeNoSource) s fun t
    => t.west.step = 11 ∧ t.east.step = 11 ∧ t.west.phase = .starting ∧ t.clock = s.clock) ∧
  (∀ (s : State), s.clock.parent = none → s.clock.source = false → Answers (.noParentTimeout) s fun t => t.clock =
    { s.clock with aligned := false } ∧ getBit t Reg.devStartStatus 34 = false ∧ ∀ off, off ≠ Reg.devStartStatus → getReg t off = getReg
    s off)

/-- Reset requests, restarts and RESUME (R60 to R63, R73, R92). -/
def Obligations.ResetsComplete : Prop :=
  (∀ (w : RegWrite) (s : State), isReg w .dev0 0x240 = true → (servedAt s w).isSome = true → fld w.val 16 16 = 0x5A25 → fld w.val 0 2 =
    3 → startingAs s .west .cold = false → startingAs s .east .cold = false → s.west.phase = .ready → s.east.phase = .ready →
    s.west.trip = false → s.east.trip = false → Answers (.coldReset w) s fun t => t.west.phase = .starting ∧ t.east.phase = .starting ∧
    t.west.kind = .cold ∧ t.east.kind = .cold ∧ t.west.step = 1 ∧ t.east.step = 1 ∧ t.nvs.lastSeq = s.nvs.lastSeq + 1) ∧
  (∀ (w : RegWrite) (s : State), isReg w .dev0 0x240 = true → (servedAt s w).isSome = true → fld w.val 16 16 = 0x5A25 → fld w.val 0 2 =
    2 → bit w.val 2 = true → s.east.phase = .ready → Answers (.halfReset w) s fun t => t.east.phase = .starting ∧ t.east.kind = .half ∧
    t.east.step = 1 ∧ t.nvs.lastSeq = s.nvs.lastSeq + 1) ∧
  (∀ (w : RegWrite) (s : State), isReg w .dev0 0x240 = true → (servedAt s w).isSome = true → fld w.val 16 16 = 0x5A25 → fld w.val 0 2 =
    1 → s.west.phase = .ready → s.east.phase = .ready → s.nvs.wipePending = false → Answers (.warmReset w) s fun t => t.west.phase =
    .starting ∧ t.east.phase = .starting ∧ t.west.kind = .warm ∧ t.east.kind = .warm ∧ t.west.step = 4 ∧ t.east.step = 4 ∧ t.nvs.lastSeq
    = s.nvs.lastSeq + 1) ∧
  (∀ (h : Half) (s : State), (s.half h).phase = .waiting → Answers (.autoRestart h) s fun t => (t.half h).phase = .starting ∧ (t.half
    h).step = 1 ∧ (t.half h).restarts = min 3 ((s.half h).restarts + 1) ∧ (t.half h).ordinal = (s.half h).ordinal + 1 ∧ t.nvs.lastSeq =
    s.nvs.lastSeq + 1) ∧
  (∀ (w : RegWrite) (s : State), isReg w .dev0 0x250 = true → (servedAt s w).isSome = true → startCtrlOk w.val = true → bit w.val 2 =
    true → s.west.phase = .halted → s.east.phase ≠ .halted → Answers (.resumeHalted w) s fun t => t.west.phase = .starting ∧ t.west.step
    = 1 ∧ t.west.failing = 0 ∧ t.east = s.east)

/-- Start steps 1 to 7 and their bounds (R60, R64, R65, R71 to R75, Table 3.5). -/
def Obligations.StartStepsComplete : Prop :=
  (∀ (h : Half) (rails : BitVec 18) (straps : BitVec 16) (s : State), inStep s h 1 = true → (s.half h).kind ≠ .warm → badRail h rails =
    none → rails.getLsbD (12 + 5 * h.idx) = true → pwrgd s h = true → strapMismatch s h straps = false → Answers (.heathPowerGood h
    rails straps) s fun t => (t.half h).phase = .starting ∧ (t.half h).step = 2 ∧ (t.half h).straps = straps) ∧
  (∀ (h : Half) (s : State), inStep s h 2 = true → (s.half h).kind ≠ .warm → stepForm (s.half h) 2 0 = 0 → Answers (.nvsRead h true) s
    fun t => (t.half h).phase = .starting ∧ (t.half h).step = 3 ∧ t.nvs.ok = true ∧ t.fallow = s.nvs.fallow ∧ t.colophon =
    s.nvs.colophon) ∧
  (∀ (h : Half) (s : State), inStep s h 2 = true → (s.half h).kind ≠ .warm → stepForm (s.half h) 2 0 = 0 → Answers (.nvsRead h false) s
    fun t => (t.half h).phase = (if getBit s Reg.devStartCtrl 1 ∨ 3 ≤ (s.half h).failing + 1 then .halted else .waiting) ∧ (t.half
    h).failCode = 0x0010) ∧
  (∀ (h : Half) (s : State), inStep s h 3 = true → (s.half h).kind ≠ .warm → Answers (.hubSelfTest h none) s fun t => (t.half h).phase =
    .starting ∧ (t.half h).step = 4) ∧
  (∀ (h : Half) (ok : Bool) (fw : BitVec 32) (s : State), inStep s h 4 = true → Answers (.identityAndFuses h true ok fw) s fun t =>
    (t.half h).phase = .starting ∧ (t.half h).fwVersion = fw.toNat ∧ (t.half h).step = (if (s.half h).kind = .warm then 7 else 5)) ∧
  (∀ (h : Half) (ok : Bool) (fw : BitVec 32) (s : State), inStep s h 4 = true → Answers (.identityAndFuses h false ok fw) s fun t =>
    (t.half h).phase = (if getBit s Reg.devStartCtrl 1 ∨ 3 ≤ (s.half h).failing + 1 then .halted else .waiting) ∧ (t.half h).failCode =
    0x0012) ∧
  (∀ (d d2 : Fin 8) (s : State), inStep s (dieHalf d.val) 5 = true → d2 ≠ d → d2.val ∈ stepInstances s (dieHalf d.val) 5 → (s.half
    (dieHalf d.val)).done.testBit d2.val = false → Answers (.memoryDieTraining d 0) s fun t => (t.half (dieHalf d.val)).step = 5 ∧
    (t.half (dieHalf d.val)).done = (s.half (dieHalf d.val)).done ||| 2 ^ d.val ∧ (t.die d.val).selfRefresh = false) ∧
  (∀ (d d2 : Fin 8) (o : Bool) (s : State), inStep s (dieHalf d.val) 6 = true → d2 ≠ d → d2.val ∈ stepInstances s (dieHalf d.val) 6 →
    (s.half (dieHalf d.val)).done.testBit d2.val = false → Answers (.memorySelfTest d [] 0 o) s fun t => (t.half (dieHalf d.val)).step =
    6 ∧ (t.half (dieHalf d.val)).done = (s.half (dieHalf d.val)).done ||| 2 ^ d.val) ∧
  (∀ (d d2 : Fin 8) (o : Bool) (s : State), inStep s (dieHalf d.val) 7 = true → d2 ≠ d → d2.val ∈ stepInstances s (dieHalf d.val) 7 →
    (s.half (dieHalf d.val)).done.testBit d2.val = false → fallowCores s d.val = 0 → Answers (.computeDieSelfTest d 0 o) s fun t =>
    (t.half (dieHalf d.val)).step = 7 ∧ (t.half (dieHalf d.val)).done = (s.half (dieHalf d.val)).done ||| 2 ^ d.val) ∧
  (∀ (h : Half) (s : State), inStep s h 3 = true → (s.half h).done.testBit 0 = false → Answers (.startStepTimeout h 0) s fun t =>
    (t.half h).phase = (if getBit s Reg.devStartCtrl 1 ∨ 3 ≤ (s.half h).failing + 1 then .halted else .waiting))

/-- Training of a port and the summaries of verification (R83, R382, R384, R405, R406, Table 12.7). -/
def Obligations.PortStartComplete : Prop :=
  (∀ (p : Fin 6) (data : BitVec 64) (spares : BitVec 4) (s : State), (s.port p.val).phase = .training → pickLanes (bitsOf 64 data.toNat
    ++ (bitsOf 4 spares.toNat).map (64 + ·)) ≠ [] → Answers (.portTrained p data spares) s fun t => (t.port p.val).phase = .verifying ∧
    (t.link p.val).lanes = pickLanes (bitsOf 64 data.toNat ++ (bitsOf 4 spares.toNat).map (64 + ·)) ∧ (t.port p.val).width = widthCode
    (t.link p.val).lanes.length ∧ (t.link p.val).joined = (s.link p.val).joined) ∧
  (∀ (p : Fin 6) (s : State), (s.port p.val).phase = .training → Answers (.linkWaitExpiry p) s fun t => (t.port p.val).phase = .dark ∧
    (t.port p.val).outcome = 4 ∧ t.links = s.links) ∧
  (∀ (p : Fin 6) (s : State), (s.port p.val).phase = .training → Answers (.trainingTimeout p) s fun t => (t.port p.val).phase = .fallow
    ∧ (t.port p.val).width = 0 ∧ getBit t (blkStatus (Reg.fabBlk p.val)) 2 = true) ∧
  (∀ (p : Fin 6) (a : Arrival) (s : State), mayVerify s p = true → nextMsg s (fun m => decide (m.port = p.val ∧ m.msg.cls = 1 ∧ m.msg.op
    = 0x14)) = some a → Answers (.summary p) s fun t => getReg t (Reg.fabPartnerSerial p.val) = word (leAt a.msg.content 8 8) ∧ ((t.port
    p.val).phase ≠ .fallow → (t.port p.val).outcome = (verify s p.val a.msg.content).1 ∧ (t.port p.val).reason = (verify s p.val
    a.msg.content).2 ∧ (t.port p.val).phase = .up)) ∧
  (∀ (p : Fin 6) (s : State), (s.port p.val).phase = .verifying → (s.port p.val).outcome ≠ 1 → Answers (.summaryResend p) s fun t =>
    (t.port p.val) = s.port p.val ∧ t.regs = s.regs ∧ t.msgIds ≠ s.msgIds)

/-- Start steps 11 and 12, life-cycle changes (R66 to R72, R81). -/
def Obligations.StartEndsComplete : Prop :=
  (∀ (s : State), inStep s .west 11 = true → inStep s .east 11 = true → s.west.kind = .cold → s.east.kind = .cold → s.west.seq =
    s.east.seq → Answers (.wipe []) s fun t => t.west.step = 12 ∧ t.east.step = 12 ∧ t.tensors = [] ∧ t.bias = [] ∧ t.t1 = [] ∧ t.poison
    = [] ∧ t.nvs.wipePending = false) ∧
  (∀ (s : State), inStep s .west 12 = true → inStep s .east 12 = true → Answers (.ready) s fun t => t.west.phase = .ready ∧ t.east.phase
    = .ready ∧ t.west.failing = 0 ∧ t.east.failing = 0 ∧ t.hubLink = true ∧ getBit t Reg.devStartCtrl 0 = false) ∧
  (∀ (h : Half) (s : State), inStep s h 12 = true → (s.half h.other).phase = .ready → Answers (.ready) s fun t => (t.half h).phase =
    .ready ∧ (t.half h).failing = 0 ∧ t.half h.other = s.half h.other) ∧
  (∀ (w : RegWrite) (target : BitVec 2) (s : State), isMbox w 4 = true → (servedAt s w).isSome = true → getBit s Reg.devMboxStatus 0 =
    false → getBit s Reg.devLifecycle 3 = false → lcLegal (getFld s Reg.devLifecycle 0 2) target.toNat = true → Answers (.lifecycle w
    true target) s fun t => .lifecycle target.toNat ∈ t.deferred ∧ getBit t Reg.devLifecycle 3 = true ∧ getFld t Reg.devLifecycle 8 2 =
    target.toNat ∧ getBit t Reg.devMboxStatus 0 = false ∧ t.nvs = s.nvs) ∧
  (∀ (n : Nat) (s : State), lcTarget s = some n → lcReady s = true → s.west.phase = .ready → s.east.phase = .ready → s.west.trip = false
    → s.east.trip = false → Answers (.lifecycleChange) s fun t => t.nvs.lcPending = some n ∧ t.nvs.wipePending = true ∧ t.west.phase =
    .starting ∧ t.east.phase = .starting ∧ t.west.kind = .cold ∧ t.east.kind = .cold)

/-- The header registers (R98 to R105, R108, Tables 4.2, 15.1). -/
def Obligations.HeaderWritesComplete : Prop :=
  (∀ (w : RegWrite) (q : Site) (s : State), isHeader w 0x010 = true → servedAt s w = some q → bit w.val 2 = false → Answers (.blkEnable
    w) s fun t => t.deferred = s.deferred ++ [.blkCtrl q.1.base] ∧ getReg t (blkCtrl q.1.base) = w.val &&& 3 ∧ getReg t (blkStatus
    q.1.base) = setBit (getReg s (blkStatus q.1.base)) 4 false) ∧
  (∀ (w : RegWrite) (q : Site) (s : State), isHeader w 0x010 = true → servedAt s w = some q → bit w.val 2 = false → Answers (.blkQuiesce
    w) s fun t => t.deferred = s.deferred ++ [.blkCtrl q.1.base] ∧ getReg t (blkCtrl q.1.base) = w.val &&& 3 ∧ getReg t (blkStatus
    q.1.base) = setBit (getReg s (blkStatus q.1.base)) 4 false) ∧
  (∀ (w : RegWrite) (q : Site) (s : State), isHeader w 0x010 = true → servedAt s w = some q → bit w.val 2 = true → getBit s (blkStatus
    q.1.base) 1 = true → getBit s (blkStatus q.1.base) 3 = false → Answers (.blockReset w) s fun t => getBit t (blkStatus q.1.base) 3 =
    true ∧ getBit t (blkStatus q.1.base) 4 = false ∧ t.deferred = s.deferred ++ [.blkCtrl q.1.base]) ∧
  (∀ (w : RegWrite) (q : Site) (s : State), isHeader w 0x010 = true → servedAt s w = some q → bit w.val 2 = true → getBit s (blkStatus
    q.1.base) 1 = false → Answers (.blockReset w) s fun t => getBit t (blkStatus q.1.base) 3 = getBit s (blkStatus q.1.base) 3 ∧ getBit
    t (blkStatus q.1.base) 4 = true) ∧
  (∀ (w : RegWrite) (q : Site) (s : State), isHeader w 0x028 = true → servedAt s w = some q → Answers (.blkIntEnWrite w) s fun t =>
    getReg t (blkIntEn q.1.base) = w.val &&& word (15 + (2 ^ intCauses q.1.type - 1) * 2 ^ 16) ∧ ∀ off, off ≠ blkIntEn q.1.base → getReg
    t off = getReg s off) ∧
  (∀ (w : RegWrite) (q : Site) (s : State), isHeader w 0x060 = true → servedAt s w = some q → bit w.val 0 = true → snapMerges s q.1.base
    s.clock.now = false → Answers (.blkSnap w) s fun t => getBit t (blkIntRaw q.1.base) 3 = true ∧ t.cnt = s.cnt) ∧
  (∀ (w : RegWrite) (q : Site) (s : State), isHeader w 0x070 = true → servedAt s w = some q → getBit s (blkStatus q.1.base) 1 = true →
    ownerOk (fld w.val 0 8) = true → q.1.type ≠ 0x07 → Answers (.blkOwnerWrite w) s fun t => t.deferred = s.deferred ++ [.owner q.1.base
    (fld w.val 0 8)] ∧ getFld t (blkOwner q.1.base) 32 16 = (getFld s (blkOwner q.1.base) 32 16 + 1) % 2 ^ 16 ∧ getFld t (blkOwner
    q.1.base) 0 16 = getFld s (blkOwner q.1.base) 0 16 ∧ getBit t (blkStatus q.1.base) 5 = false) ∧
  (∀ (w : RegWrite) (q : Site) (s : State), isHeader w 0x070 = true → servedAt s w = some q → getBit s (blkStatus q.1.base) 1 = true →
    ownerOk (fld w.val 0 8) = true → ownerOk (fld w.val 8 8) = true → q.1.type = 0x07 → Answers (.blkOwnerWrite w) s fun t => t.deferred
    = s.deferred ++ [.owner q.1.base (fld w.val 0 16)] ∧ getFld t (blkOwner q.1.base) 32 16 = (getFld s (blkOwner q.1.base) 32 16 + 1) %
    2 ^ 16 ∧ getFld t (blkOwner q.1.base) 0 16 = getFld s (blkOwner q.1.base) 0 16)

/-- Quiescence, block reset, the boundary between steps (R100, R101, R353). -/
def Obligations.BlockStatesComplete : Prop :=
  (∀ (blk : Nat) (p : PageRef) (s : State), blockPage blk = some p → Map.get (fun _ => false) s.quiescing blk = true → blockBusy s p =
    false → exec (.quiesced blk) s = .next (putBit s (blkStatus blk) 1 true)) ∧
  (∀ (blk : Nat) (p : PageRef) (s : State), blockPage blk = some p → getBit s (blkStatus blk) 3 = true → Answers (.blockResetDone blk) s
    fun t => getBit t (blkStatus blk) 3 = false ∧ getReg t (blkIntRaw blk) = 0 ∧ getReg t (blkIntEn blk) = 0) ∧
  (∀ (s : State), betweenSteps s = true → stopState s ≤ 2 → exec (.idleBoundaryChange) s = .next (boundary s false [] [])) ∧
  (∀ (blk : Nat) (s : State), isBlock blk = true → getBit (applyDeferred s (.blkCtrl blk)) (blkStatus blk) 0 = getBit s (blkCtrl blk) 0
    ∧ Map.get (fun _ => false) (applyDeferred s (.blkCtrl blk)).quiescing blk = getBit s (blkCtrl blk) 1)

/-- Register writes by access type, windows, counters, refusals (R11, R92, R96, R103, R109, R498, R538, R539). -/
def Obligations.RegisterWritesComplete : Prop :=
  (∀ (w : RegWrite) (q : Site) (r : RegRow) (i : Nat) (k : PageKind × Nat) (s : State), servedAt s w = some q → q.2.2.2 = some (r, i) →
    writeNames w = some k → k ∈ plainRegisters → configOk s q.1 k.2 w.val = true → k ≠ (.gal3, 0x110) → exec (.registerWrite w) s =
    .next (setReg s q.2.2.1 ((getReg s q.2.2.1 &&& ~~~(word r.rw)) ||| (w.val &&& word r.rw)))) ∧
  (∀ (w : RegWrite) (q : Site) (k : PageKind × Nat) (s : State), servedAt s w = some q → writeNames w = some k → k ∈ plainRegisters →
    configOk s q.1 k.2 w.val = false → exec (.registerWrite w) s = .next (s)) ∧
  (∀ (w : RegWrite) (q : Site) (s : State), namesIndex w = true → servedAt s w = some q → Answers (.windowIndexLatch w) s fun t =>
    latchedIndex t w.who q.2.2.1 = w.val &&& (masksOf q.1 q.2.1 q.2.2.2).rw ∧ getLatch t w.who q.2.2.1 = windowEntry s q.1 q.2.1 (w.val
    &&& (masksOf q.1 q.2.1 q.2.2.2).rw).toNat ∧ t.regs = s.regs) ∧
  (∀ (w : RegWrite) (inc : Nat) (q : Site) (s : State), namesCounter w = true → servedAt s w = some q → fld (getCnt s q.2.2.1) 0 48 +
    inc < 2 ^ 48 → bit w.val 63 = false → exec (.counterWrite w inc) s = .next (setCnt s q.2.2.1 (setFld (getCnt s q.2.2.1) 0 48 (fld
    w.val 0 48)))) ∧
  (∀ (w : RegWrite) (q : Site) (s : State), isReg w .dev0 0x228 = true → servedAt s w = some q → exec (.devAccessErrWrite w) s = .next
    (setReg s Reg.devAccessErr 0)) ∧
  (∀ (w : RegWrite) (q : Site) (s : State), isReg w .hub0 0x110 = true → servedAt s w = some q → fld w.val 16 16 = 0x5A25 → bit w.val 0
    = true → exec (.hubLastgaspClr w) s = .next (setReg s (Reg.hubLastgasp q.1.inst) 0)) ∧
  (∀ (a : Access) (s : State), accessCauses s a false ≠ [] → exec (.refusedRead a) s = .next (refuseAccess s a false (accessCauses s a
    false))) ∧
  (∀ (a : Access) (s : State), accessCauses s a false ≠ [] → a.who.part = none → Answers (.refusedRead a) s fun t => fld (getReg t
    Reg.devAccessErr) 0 32 = satAdd 0xFFFFFFFF (getFld s Reg.devAccessErr 0 32) 1 ∧ getFld t Reg.devAccessLast 0 26 = a.off % 2 ^ 26 ∧ ∀
    off, off ∉ refusalRegs a → getReg t off = getReg s off)

/-- Sector reads and the patrol scrub (R133 to R135, R138, R144, Table 5.8). -/
def Obligations.SectorReadsComplete : Prop :=
  (∀ (da l1 : Nat) (by_ : Consumer) (s : State), da < 2 ^ 38 → da % 64 = 0 → daHole da = false → daServed s da = true → sectorPoisoned s
    da = false → Answers (.sectorRead da l1 1 by_) s fun t => t.t1 = s.t1 ∧ t.poison = s.poison ∧ getFld t (Reg.chLimit (daDie da)
    (daChan da)) 0 16 = satAdd 0xFFFF (getFld s (Reg.chLimit (daDie da) (daChan da)) 0 16) 1) ∧
  (∀ (da l1 l2 : Nat) (s : State), da < 2 ^ 38 → da % 64 = 0 → daHole da = false → daServed s da = true → sectorPoisoned s da = false →
    2 ≤ l2 → Answers (.sectorRead da l1 l2 .host) s fun t => t.t1 = s.t1 ∧ sectorPoisoned t da = true) ∧
  (∀ (da l1 l2 : Nat) (req : Fin 32768) (s : State), da < 2 ^ 38 → da % 64 = 0 → daHole da = false → daServed s da = true →
    sectorPoisoned s da = true → (s.entry req.val).state ≠ 0 → (s.entry req.val).state ≠ 8 → (s.entry req.val).twin ≠ 1 → Answers
    (.sectorRead da l1 l2 (.pageJob req)) s fun t => 0x22 ∈ (t.entry req.val).ends ∧ t.t1 = s.t1 ∧ t.poison = s.poison) ∧
  (∀ (da l1 l2 : Nat) (by_ : Consumer) (s : State), da < 2 ^ 38 → da % 64 = 0 → daHole da = true → exec (.sectorRead da l1 l2 by_) s =
    .next (addrHole s da)) ∧
  (∀ (da l1 : Nat) (s : State), da < 2 ^ 38 → da % 64 = 0 → daHole da = false → daServed s da = true → sectorPoisoned s da = false →
    getFld s Reg.devPwrStatus 32 3 = 0 → Answers (.patrolScrub da l1 1) s fun t => t.t1 = s.t1 ∧ t.poison = s.poison ∧ getFld t
    (Reg.chLimit (daDie da) (daChan da)) 0 16 = satAdd 0xFFFF (getFld s (Reg.chLimit (daDie da) (daChan da)) 0 16) 1) ∧
  (∀ (da l1 l2 : Nat) (s : State), da < 2 ^ 38 → da % 64 = 0 → daHole da = false → daServed s da = true → 0 < getFld s Reg.devPwrStatus
    32 3 → exec (.patrolScrub da l1 l2) s = .next (s))

/-- Full and partial writes, delta parity (R128, R136, R137, R151). -/
def Obligations.SectorWritesComplete : Prop :=
  (∀ (da : Nat) (data : List Byte) (s : State), da < 2 ^ 38 → da % 64 = 0 → daHole da = false → daServed s da = true → data.length = 64
    → Answers (.fullWrite da data) s fun t => readT1 t da 64 = data ∧ sectorPoisoned t da = false ∧ (∀ a, a < da ∨ da + 64 ≤ a → getT1 t
    a = getT1 s a)) ∧
  (∀ (da : Nat) (data : List Byte) (l2 : Nat) (s : State), da < 2 ^ 38 → 0 < data.length → data.length < 64 → da % 64 + data.length ≤ 64
    → daHole da = false → daServed s da = true → sectorPoisoned s da = false → l2 ≤ 1 → Answers (.partialWrite da data l2) s fun t =>
    readT1 t da data.length = data ∧ sectorPoisoned t da = false ∧ (∀ a, a < da ∨ da + data.length ≤ a → getT1 t a = getT1 s a)) ∧
  (∀ (da : Nat) (data : List Byte) (l2 : Nat) (s : State), da < 2 ^ 38 → 0 < data.length → data.length < 64 → da % 64 + data.length ≤ 64
    → daHole da = false → daServed s da = true → sectorPoisoned s da = true ∨ 2 ≤ l2 → Answers (.partialWrite da data l2) s fun t =>
    t.t1 = s.t1 ∧ sectorPoisoned t da = true ∧ getBit t (blkIntRaw (Reg.chBlk (daDie da) (daChan da))) 18 = true) ∧
  (∀ (d : Fin 8) (c : Fin 16) (pa : Nat) (delta : List Byte) (rest : List (Nat × List Byte)) (s : State), (s.chan d.val c.val).deltas =
    (pa, delta) :: rest → delta.length = 64 → daServed s pa = true → sectorPoisoned s pa = false → Answers (.parityXor d c) s fun t =>
    (t.chan d.val c.val).deltas = rest ∧ readT1 t pa 64 = List.zipWith (· ^^^ ·) (readT1 s pa 64) delta ∧ (∀ a, a < pa ∨ pa + 64 ≤ a →
    getT1 t a = getT1 s a)) ∧
  (∀ (d : Fin 8) (c : Fin 16) (s : State), (s.chan d.val c.val).deltas = [] → exec (.parityXor d c) s = .next (s)) ∧
  (∀ (d : Fin 8) (c : Fin 16) (s : State), exec (.appendPromotion d c) s = .next (s))

/-- CE_LIMIT, UE_LIMIT, hardware failure and CH_MAPOUT (R141, R143, R145). -/
def Obligations.MapoutsBegin : Prop :=
  (∀ (d : Fin 8) (c : Fin 16) (s : State), getFld s Reg.devMemCfg 16 16 ≤ getFld s (Reg.chLimit d.val c.val) 0 16 → mapoutRuns s d.val
    c.val none false = false → Answers (.ceLimit d c) s fun t => (t.mapouts.any fun m => decide (m.die = d.val ∧ m.chan = c.val ∧ m.pair
    = none ∧ m.lost = false ∧ m.code = 0xFF01)) = true ∧ getFld t (Reg.chStatus d.val c.val) 0 2 = 1 ∧ getFld t (Reg.chStatus d.val
    c.val) 32 3 = 1 ∧ chanOpen t d.val c.val = false) ∧
  (∀ (d : Fin 8) (c : Fin 16) (s : State), getFld s Reg.devMemCfg 32 8 ≤ getFld s (Reg.chLimit d.val c.val) 16 8 → mapoutRuns s d.val
    c.val none false = false → Answers (.ueLimit d c) s fun t => (t.mapouts.any fun m => decide (m.die = d.val ∧ m.chan = c.val ∧ m.pair
    = none ∧ m.lost = false ∧ m.code = 0xFF02)) = true ∧ getFld t (Reg.chStatus d.val c.val) 0 2 = 1 ∧ getFld t (Reg.chStatus d.val
    c.val) 32 3 = 2 ∧ chanOpen t d.val c.val = false) ∧
  (∀ (d : Fin 8) (c : Fin 16) (s : State), exec (.limitWindowRestart d c false) s = .next (putFld s (Reg.chLimit d.val c.val) 0 16 0)) ∧
  (∀ (d : Fin 8) (c : Fin 16) (s : State), Answers (.limitWindowRestart d c true) s fun t => getFld t (Reg.chLimit d.val c.val) 16 8 = 0
    ∧ (t.chan d.val c.val).ueSeen = [] ∧ getFld t (Reg.chLimit d.val c.val) 0 16 = getFld s (Reg.chLimit d.val c.val) 0 16) ∧
  (∀ (d : Fin 8) (c : Fin 16) (part : Nat) (s : State), 1 ≤ part → part ≤ 4 → channelUp s d.val c.val = true → mapoutRuns s d.val c.val
    none true = false → Answers (.hwFail d c part) s fun t => (t.mapouts.any fun m => decide (m.die = d.val ∧ m.chan = c.val ∧ m.pair =
    none ∧ m.lost = true ∧ m.code = 0x0105)) = true ∧ getFld t (Reg.chStatus d.val c.val) 0 2 = 2 ∧ getFld t (Reg.chStatus d.val c.val)
    32 3 = 3) ∧
  (∀ (w : RegWrite) (q : Site) (s : State), isReg w .ch 0x108 = true → servedAt s w = some q → fld w.val 16 16 = 0x5A25 → bit w.val 0 =
    true → mapoutRuns s (q.1.inst / 256) (q.1.inst % 256) none false = false → Answers (.chMapout w) s fun t => (t.mapouts.any fun m =>
    decide (m.die = q.1.inst / 256 ∧ m.chan = q.1.inst % 256 ∧ m.pair = none ∧ m.lost = false ∧ m.code = 0xFF05)) = true ∧ getFld t
    (Reg.chStatus (q.1.inst / 256) (q.1.inst % 256)) 0 2 = 1 ∧ getFld t (Reg.chStatus (q.1.inst / 256) (q.1.inst % 256)) 32 3 = 5)

/-- Drain copies, restores, rebuilds and parity moves (R146 to R148, R152). -/
def Obligations.MapoutsMove : Prop :=
  (∀ (m : Moved) (s : State), (movedSources s m).any (onMapout s) = true → (movedSources s m).any (onLost s) = false → movedFree s m =
    true → (movedSources s m).any (spanPoisoned s) = false → exec (.drainCopyDone m) s = .next
    ({ s with deferred := s.deferred ++ [movedChange m true] })) ∧
  (∀ (h : Nat) (m : Word) (image : Option (List Byte)) (bytes : List Byte) (s : State), ((movedSources s (.extent h m)).any fun a =>
    onLost s a || (onMapout s a && spanPoisoned s a)) = true → extentImage s h image = some bytes → movedFree s (.extent h m) = true →
    stepWaits s = false → Answers (.restoreDone (.extent h m) image) s fun t => .switchExtent h m false ∈ t.deferred) ∧
  (∀ (req : Fin 32768) (groups : List (Nat × Nat × Nat)) (bytes : List Byte) (s : State), ((movedSources s (.request req groups)).any
    fun a => onLost s a || (onMapout s a && spanPoisoned s a)) = true → movedFree s (.request req groups) = true → bytes.length =
    groups.length * (s.entry req.val).dir.layers * pageBytes (s.entry req.val).dir → Answers (.restoreDone (.request req groups) (some
    bytes)) s fun t => .switchGroups req.val groups false ∈ t.deferred) ∧
  (∀ (req : Fin 32768) (head entry group : Nat) (s : State), quireOf s (s.entry req.val).partition = true → ((movedSources s (.request
    req [(head, entry, group)])).any (onLost s)) = true → movedFree s (.request req [(head, entry, group)]) = true → rebuildable s
    (Map.get zeroAt ((s.entry req.val).dir.head head).list entry) (s.entry req.val).dir.layers = true → Answers (.rebuildDone req head
    entry group) s fun t => .switchGroups req.val [(head, entry, group)] false ∈ t.deferred) ∧
  (∀ (d : Fin 8) (quire k : Nat) (s : State), parityGoes s d.val quire = true → nextParity s d.val quire = some k → ((allSpans s).any
    (Span.meets ⟨d.val, k, quireCla s d.val quire, quireCla s d.val quire + 0x8000⟩)) = false → exec (.quireParityMoved d quire none) s
    = .next ({ s with deferred := s.deferred ++ [.parityMove d.val quire k] }))

/-- QUERY_LOAD and PAGE_JOB (R168 to R172, R322). -/
def Obligations.QueryAndJobsArrive : Prop :=
  (∀ (d : Fin 8) (c : Fin 16) (bytes : List Byte) (s : State), 64 ≤ bytes.length → leAt bytes 0 1 = 2 → bytes.length = 64 + 2 * qlQcount
    bytes * dimOf (qlDim bytes) → loadMalformed bytes = false → (((bitsOf 64 (qlMask bytes)).filter (nbuUp s d.val c.val)).any fun k =>
    setBusy (s.nbu d.val c.val k) (qlSet bytes)) = false → Answers (.queryLoad d c bytes) s fun t => (∀ k ∈ (bitsOf 64 (qlMask
    bytes)).filter (nbuUp s d.val c.val), (t.nbu d.val c.val k).set (qlSet bytes) = loadedSet bytes) ∧ (t.chan d.val c.val).xfers =
    (s.chan d.val c.val).xfers.erase bytes) ∧
  (∀ (d : Fin 8) (c : Fin 16) (bytes : List Byte) (s : State), 64 ≤ bytes.length → leAt bytes 0 1 = 2 → bytes.length = 64 + 2 * qlQcount
    bytes * dimOf (qlDim bytes) → loadMalformed bytes = true → (((bitsOf 64 (qlMask bytes)).filter (nbuUp s d.val c.val)).any fun k =>
    setBusy (s.nbu d.val c.val k) (qlSet bytes)) = false → Answers (.queryLoad d c bytes) s fun t => ∀ k ∈ bitsOf 64 (qlMask bytes),
    ((t.nbu d.val c.val k).set (qlSet bytes)).empty = true) ∧
  (∀ (d : Fin 8) (c : Fin 16) (bytes : List Byte) (s : State), bytes.length = 32 → leAt bytes 0 1 = 1 → pjNoop bytes = false → (s.nbu
    d.val c.val (pjNbu bytes)).jobs.length + (s.nbu d.val c.val (pjNbu bytes)).freed.length < 4 → rowDropped (s.nbu d.val c.val (pjNbu
    bytes)) bytes = false → jobReason s (s.nbu d.val c.val (pjNbu bytes)) bytes = 0 → (s.nbu d.val c.val (pjNbu bytes)).failed = false →
    nbuUp s d.val c.val (pjNbu bytes) = true → (s.nbu d.val c.val (pjNbu bytes)).mark = none ∨ (s.nbu d.val c.val (pjNbu bytes)).jobs ≠
    [] → Answers (.pageJob d c bytes) s fun t => (t.nbu d.val c.val (pjNbu bytes)).jobs = (s.nbu d.val c.val (pjNbu bytes)).jobs ++
    [bytes] ∧ (t.nbu d.val c.val (pjNbu bytes)).prev = some bytes ∧ (t.chan d.val c.val).xfers = (s.chan d.val c.val).xfers.erase bytes) ∧
  (∀ (d : Fin 8) (c : Fin 16) (bytes : List Byte) (s : State), bytes.length = 32 → leAt bytes 0 1 = 1 → pjNoop bytes = false → (s.nbu
    d.val c.val (pjNbu bytes)).jobs.length + (s.nbu d.val c.val (pjNbu bytes)).freed.length < 4 → rowDropped (s.nbu d.val c.val (pjNbu
    bytes)) bytes = false → jobReason s (s.nbu d.val c.val (pjNbu bytes)) bytes ≠ 0 → Answers (.pageJob d c bytes) s fun t => (t.nbu
    d.val c.val (pjNbu bytes)).jobs = (s.nbu d.val c.val (pjNbu bytes)).jobs ∧ (t.nbu d.val c.val (pjNbu bytes)).dropped = (if pjLast
    bytes then none else some (pjReq bytes, pjLayer bytes, pjHead bytes, pjSet bytes))) ∧
  (∀ (d : Fin 8) (c : Fin 16) (bytes : List Byte) (s : State), bytes.length = 32 → leAt bytes 0 1 = 1 → pjNoop bytes = false → 4 ≤
    (s.nbu d.val c.val (pjNbu bytes)).jobs.length + (s.nbu d.val c.val (pjNbu bytes)).freed.length → exec (.pageJob d c bytes) s = .next
    (s))

/-- Pages, records, STATUS and ACK (R173 to R177, R181, R183, R187, R189). -/
def Obligations.PagesRun : Prop :=
  (∀ (d : Fin 8) (c : Fin 16) (k : Fin 64) (waited : Nat) (b : List Byte) (rest : List (List Byte)) (s : State), (s.nbu d.val c.val
    k.val).jobs = b :: rest → (s.nbu d.val c.val k.val).holds = false → (s.nbu d.val c.val k.val).hung = false → nbuUp s d.val c.val
    k.val = true → (s.nbu d.val c.val k.val).page < pjPages b → Answers (.pageStart d c k waited) s fun t => (t.nbu d.val c.val
    k.val).holds = true ∧ (t.nbu d.val c.val k.val).jobs = b :: rest ∧ getBit t (Reg.nbuPairBusy d.val (c.val / 8) (c.val % 8)) k.val =
    true) ∧
  (∀ (d : Fin 8) (c : Fin 16) (k : Fin 64) (b : List Byte) (rest : List (List Byte)) (s : State), (s.nbu d.val c.val k.val).jobs = b ::
    rest → (s.nbu d.val c.val k.val).holds = false → (s.nbu d.val c.val k.val).hung = false → nbuUp s d.val c.val k.val = true → (s.nbu
    d.val c.val k.val).page < pjPages b → Answers (.yieldWindowEnd d c k) s fun t => (t.nbu d.val c.val k.val).holds = true ∧ (t.nbu
    d.val c.val k.val).jobs = b :: rest ∧ getBit t (Reg.nbuPairBusy d.val (c.val / 8) (c.val % 8)) k.val = true) ∧
  (∀ (d : Fin 8) (c : Fin 16) (k : Fin 64) (b : List Byte) (rest : List (List Byte)) (s : State), (s.nbu d.val c.val k.val).jobs = b ::
    rest → (s.nbu d.val c.val k.val).holds = true → (s.nbu d.val c.val k.val).mark = none → ((pageSectors d.val c.val b (s.nbu d.val
    c.val k.val).page).find? (sectorPoisoned s)) = none → (s.nbu d.val c.val k.val).page + 1 < pjPages b → Answers (.pageEnd d c k) s
    fun t => (t.nbu d.val c.val k.val).holds = false ∧ (t.nbu d.val c.val k.val).page = (s.nbu d.val c.val k.val).page + 1 ∧ (t.nbu
    d.val c.val k.val).jobs = b :: rest ∧ (t.nbu d.val c.val k.val).run = (runPage s d.val c.val b ((s.nbu d.val c.val k.val).set (pjSet
    b)) (s.nbu d.val c.val k.val).run (s.nbu d.val c.val k.val).page).1) ∧
  (∀ (d : Fin 8) (c : Fin 16) (k : Fin 64) (b : List Byte) (rest : List (List Byte)) (s : State), (s.nbu d.val c.val k.val).jobs = b ::
    rest → (s.nbu d.val c.val k.val).holds = true → (s.nbu d.val c.val k.val).mark = none → ((pageSectors d.val c.val b (s.nbu d.val
    c.val k.val).page).find? (sectorPoisoned s)) = none → (s.nbu d.val c.val k.val).page + 1 = pjPages b → pjLast b = true → (s.nbu
    d.val c.val k.val).out.length < 2 → Answers (.pageEnd d c k) s fun t => (t.nbu d.val c.val k.val).holds = false ∧ (t.nbu d.val c.val
    k.val).page = 0 ∧ (t.nbu d.val c.val k.val).jobs = rest ∧ (t.nbu d.val c.val k.val).out.length = (s.nbu d.val c.val
    k.val).out.length + 1) ∧
  (∀ (d : Fin 8) (c : Fin 16) (k : Fin 64) (tier : Fin 4) (boost : Bool) (s : State), Answers (.refresh d c k tier boost) s fun t =>
    (t.nbu d.val c.val k.val).tier = tier.val ∧ (t.nbu d.val c.val k.val).jobs = (s.nbu d.val c.val k.val).jobs) ∧
  (∀ (d : Fin 8) (c : Fin 16) (k : Fin 64) (r : OutRec) (core : Nat) (s : State), ((s.nbu d.val c.val k.val).out.find? fun r => !r.sent)
    = some r → coreOf s d.val r.core = some core → Answers (.partialRecord d c k) s fun t => tokenOf t d.val r.tag = (tokenOf s d.val
    r.tag + 1) % 2 ^ 16 ∧ readT0 t d.val r.core r.off r.bytes.length = r.bytes ∧ (t.nbu d.val c.val k.val).out = (s.nbu d.val c.val
    k.val).out.map fun x => if x = r then { x with sent := true } else x) ∧
  (∀ (d : Fin 8) (c : Fin 16) (k : Fin 64) (b : List Byte) (n : Nat) (rest : List (List Byte × Nat)) (s : State), (s.nbu d.val c.val
    k.val).freed = (b, n) :: rest → Answers (.busStatus d c k) s fun t => (t.nbu d.val c.val k.val).freed = rest) ∧
  (∀ (d : Fin 8) (c : Fin 16) (k : Fin 64) (r : OutRec) (s : State), ((s.nbu d.val c.val k.val).out.find? (·.sent)) = some r → (s.nbu
    d.val c.val k.val).jobs = [] → Answers (.busAck d c k none) s fun t => (t.nbu d.val c.val k.val).out = (s.nbu d.val c.val
    k.val).out.erase r ∧ (t.chan d.val c.val).failed = none) ∧
  (∀ (d : Fin 8) (c : Fin 16) (k : Fin 64) (op : BitVec 8) (s : State), (s.chan d.val c.val).failed ≠ some op.toNat → Answers (.busAck d
    c k (some op)) s fun t => (t.chan d.val c.val).failed = some op.toNat ∧ (t.chan d.val c.val).xfers = (s.chan d.val c.val).xfers ∧
    t.nbus = s.nbus)

/-- Faults, NBU_MAPOUT, bias tables (R175, R190, R191, R196 to R198). -/
def Obligations.NearBankFaultsComplete : Prop :=
  (∀ (d : Fin 8) (c : Fin 16) (k : Fin 64) (part : Nat) (s : State), 1 ≤ part → part ≤ 4 → nbuUp s d.val c.val k.val = true → Answers
    (.nbuParity d c k part) s fun t => (t.nbu d.val c.val k.val).parity = satAdd 15 (s.nbu d.val c.val k.val).parity 1 ∧ (t.nbu d.val
    c.val k.val).holds = false ∧ (t.nbu d.val c.val k.val).page = 0 ∧ (getFld s (Reg.nbuCfg d.val (c.val / 8)) 16 8 ≤ (t.nbu d.val c.val
    k.val).parity → (t.nbu d.val c.val k.val).failed = true)) ∧
  (∀ (d : Fin 8) (c : Fin 16) (k : Fin 64) (lost : Bool) (s : State), (s.nbu d.val c.val k.val).holds = true → getBit s (Reg.nbuCfg
    d.val (c.val / 8)) 4 = true → Answers (.nbuHang d c k lost) s fun t => (t.nbu d.val c.val k.val).hung = true ∧ (t.nbu d.val c.val
    k.val).failed = true ∧ (t.nbu d.val c.val k.val).holds = false) ∧
  (∀ (d : Fin 8) (c : Fin 16) (k : Fin 64) (op : BitVec 8) (s : State), (s.chan d.val c.val).failed = some op.toNat → Answers (.busAck d
    c k (some op)) s fun t => (t.chan d.val c.val).failed = none ∧ ∀ j, j < 64 → nbuUp s d.val c.val j = true → (t.nbu d.val c.val
    j).failed = true) ∧
  (∀ (d : Fin 8) (g : Fin 2) (s : State), Answers (.faultWindowRestart d g) s fun t => ∀ (c : Fin 16) (k : Fin 64), (t.nbu d.val c.val
    k.val).parity = if c.val / 8 = g.val then 0 else (s.nbu d.val c.val k.val).parity) ∧
  (∀ (w : RegWrite) (q : Site) (s : State), isReg w .nbu 0x190 = true → servedAt s w = some q → fld w.val 16 16 = 0x5A25 → bit w.val 32
    = true → s.fallow.length < 4096 → mapoutRuns s (q.1.inst / 256) (8 * (q.1.inst % 256) + fld w.val 0 3) (some (fld w.val 3 6)) false
    = false → Answers (.nbuMapout w) s fun t => (t.mapouts.any fun m => decide (m.die = q.1.inst / 256 ∧ m.chan = 8 * (q.1.inst % 256) +
    fld w.val 0 3 ∧ m.pair = some (fld w.val 3 6) ∧ m.lost = false ∧ m.code = 0xFF05)) = true) ∧
  (∀ (w : RegWrite) (q : Site) (vals : List Nat) (s : State), isReg w .nbu 0x220 = true → servedAt s w = some q → bit w.val 0 = true →
    vals = ((List.range 64).map fun i => fld ((getLatch s w.who (Reg.nbuBiasIndex (q.1.inst / 256) (q.1.inst % 256))).getD (i / 4) 0)
    (16 * (i % 4)) 16) → biasReason s w.who (fld (latchedIndex s w.who (Reg.nbuBiasIndex (q.1.inst / 256) (q.1.inst % 256))) 0 4) vals =
    0 → Answers (.nbuBiasCommit w) s fun t => t.deferred = s.deferred ++ [.biasChunk (fld (latchedIndex s w.who (Reg.nbuBiasIndex
    (q.1.inst / 256) (q.1.inst % 256))) 0 4) (fld (latchedIndex s w.who (Reg.nbuBiasIndex (q.1.inst / 256) (q.1.inst % 256))) 4 6) vals]
    ∧ getBit t (Reg.nbuBiasCommit (q.1.inst / 256) (q.1.inst % 256)) 1 = true ∧ getBit t (Reg.nbuBiasCommit (q.1.inst / 256) (q.1.inst %
    256)) 2 = false ∧ t.bias = s.bias) ∧
  (∀ (w : RegWrite) (q : Site) (s : State), isReg w .nbu 0x228 = true ∨ isReg w .nbu 0x230 = true → servedAt s w = some q → Answers
    (.nbuBiasOwnerWrite w) s fun t => t.regs = s.regs ∧ ∀ j, j < 8 → fld w.val (8 * j) 8 ≠ tableOwner s (8 * ((q.2.1 - 0x228) / 8) + j)
    → tableOwnerOk (fld w.val (8 * j) 8) = true → .biasOwner (8 * ((q.2.1 - 0x228) / 8) + j) (fld w.val (8 * j) 8) ∈ t.deferred)

/-- Uncorrectable T0 words, logic parity, hangs, takeover, scrubs (R203 to R205, R230 to R235, R462). -/
def Obligations.CoreFailuresComplete : Prop :=
  (∀ (d : Fin 8) (p : Fin 34) (off : BitVec 23) (engine : Fin 5) (k : Nat) (s : State), (carried s d.val p.val).isSome = true →
    freeSpare s d.val = some k → k ≠ p.val → Answers (.t0Ue d p off engine) s fun t => getBit t (Reg.cdCoreFallow d.val) p.val = true ∧
    getFld t (Reg.coreId d.val p.val) 16 2 = 3 ∧ getFld t (Reg.coreId d.val k) 16 2 = 2 ∧ wakeHold d.val k ∈ t.steps.holds ∧
    t.steps.running = false) ∧
  (∀ (d : Fin 8) (p : Fin 34) (off : BitVec 23) (engine : Fin 5) (s : State), (carried s d.val p.val).isSome = true → freeSpare s d.val
    = none → Answers (.t0Ue d p off engine) s fun t => getBit t (Reg.cdCoreFallow d.val) p.val = true ∧ (t.die d.val).lost = true ∧
    (t.die d.val).fallow = true) ∧
  (∀ (d : Fin 8) (p : Fin 34) (part : Fin 6) (engine : Fin 5) (k : Nat) (s : State), part.val ≠ 0 → (carried s d.val p.val).isSome =
    true → freeSpare s d.val = some k → k ≠ p.val → Answers (.coreParity d p part engine) s fun t => getBit t (Reg.cdCoreFallow d.val)
    p.val = true ∧ getFld t (Reg.coreId d.val p.val) 16 2 = 3 ∧ getFld t (Reg.coreId d.val k) 16 2 = 2 ∧ wakeHold d.val k ∈
    t.steps.holds ∧ t.steps.running = false) ∧
  (∀ (d : Fin 8) (p : Fin 34) (engine : Fin 5) (index : BitVec 16) (k : Nat) (s : State), s.steps.running = true → halted s = false →
    (carried s d.val p.val).isSome = true → freeSpare s d.val = some k → k ≠ p.val → Answers (.coreHang d p engine index) s fun t =>
    getBit t (Reg.cdCoreFallow d.val) p.val = true ∧ getFld t (Reg.coreId d.val p.val) 16 2 = 3 ∧ getFld t (Reg.coreId d.val k) 16 2 = 2
    ∧ wakeHold d.val k ∈ t.steps.holds ∧ t.steps.running = false) ∧
  (∀ (d : Fin 8) (p : Fin 34) (s : State), wakeHold d.val p.val ∈ s.steps.holds → Answers (.spareWake d p) s fun t => spareHold d.val
    p.val ∈ t.steps.holds ∧ wakeHold d.val p.val ∉ t.steps.holds ∧ t.t0 = Map.clearWhere (fun a => decide (a / 2 ^ 23 = 34 * d.val +
    p.val)) s.t0) ∧
  (∀ (d : Fin 8) (p : Fin 34) (old : Nat) (s : State), spareHold d.val p.val ∈ s.steps.holds → coreOf s d.val (getFld s (Reg.coreId
    d.val p.val) 8 5) = some old → Answers (.spareTaken d p) s fun t => coreOf t d.val (getFld s (Reg.coreId d.val p.val) 8 5) = some
    p.val ∧ spareHold d.val p.val ∉ t.steps.holds ∧ getFld t (Reg.cdSpareStatus d.val) 32 16 = (getFld s (Reg.cdSpareStatus d.val) 32 16
    + 1) % 2 ^ 16) ∧
  (∀ (d : Fin 8) (p : Fin 34) (off : BitVec 23) (s : State), getBit s (Reg.coreCfg d.val p.val) 8 = true → (carried s d.val
    p.val).isSome = true → Answers (.t0Scrub d p off 1) s fun t => getBit t (blkIntRaw (Reg.coreBlk d.val (p.val / 2))) 18 = true ∧ t.t0
    = s.t0 ∧ t.steps = s.steps) ∧
  (∀ (d : Fin 8) (p : Fin 34) (off : BitVec 23) (s : State), getBit s (Reg.coreCfg d.val p.val) 8 = true → exec (.t0Scrub d p off 0) s =
    .next (s)) ∧
  (∀ (d : Fin 8) (p : Fin 34) (off : BitVec 23) (k : Nat) (s : State), getBit s (Reg.coreCfg d.val p.val) 8 = true → (carried s d.val
    p.val).isSome = true → freeSpare s d.val = some k → k ≠ p.val → Answers (.t0Scrub d p off 2) s fun t => getBit t (Reg.cdCoreFallow
    d.val) p.val = true ∧ getFld t (Reg.coreId d.val p.val) 16 2 = 3 ∧ getFld t (Reg.coreId d.val k) 16 2 = 2 ∧ wakeHold d.val k ∈
    t.steps.holds ∧ t.steps.running = false)

/-- NOP, STREAM, FETCH, STORE, COPY, SEND (R207, R210, R219, R307, R311 to R314, R322). -/
def Obligations.CopySortsComplete : Prop :=
  (∀ (unit : Fin 256) (engine : Fin 6) (r : RunSort) (s : State), engine.val < 5 → dueSort s unit.val engine.val 0 0 = some r → Answers
    (.nopSort unit engine) s fun t => pcAfter t r 0 = r.index + 1 ∧ t.t0 = s.t0 ∧ t.t1 = s.t1 ∧ t.cores = s.cores) ∧
  (∀ (unit : Fin 256) (r : RunSort) (s : State), unit.val < 128 → dueSort s (256 + unit.val / 16) 5 (unit.val % 16) 0 = some r → Answers
    (.nopSort unit 5) s fun t => pcAfter t r (unit.val % 16) = r.index + 1 ∧ t.t0 = s.t0 ∧ t.t1 = s.t1 ∧ t.chans = s.chans) ∧
  (∀ (core : Fin 256) (r : RunSort) (p : Nat) (s : State), dueSort s core.val 0 0 0x10 = some r → coreOf s r.die (r.seg % 32) = some p →
    ∀ i, i < leAt r.bytes 0x18 2 → (readable s r (streamAddr r.bytes i) (tileBytes (leAt r.bytes 0x1A 1 % 32))).isSome = true → Answers
    (.streamSort core) s fun t => pcAfter t r 0 = r.index + 1 ∧ (t.core r.die p).stream.length = (s.core r.die p).stream.length + leAt
    r.bytes 0x18 2 ∧ t.t0 = s.t0 ∧ t.t1 = s.t1) ∧
  (∀ (core : Fin 256) (r : RunSort) (p : Nat) (bytes : List Byte) (s : State), dueSort s core.val 0 0 0x11 = some r → coreOf s (r.seg /
    32) (r.seg % 32) = some p → readable s r (srtTs r.bytes 0x10) (leAt r.bytes 0x1C 4) = some bytes → Answers (.fetchSort core) s fun t
    => pcAfter t r 0 = r.index + 1 ∧ t0Read t r.seg (srtT0 r.bytes 0x18) bytes.length = bytes ∧ t.t1 = s.t1) ∧
  (∀ (core : Fin 256) (r : RunSort) (s : State), dueSort s core.val 4 0 0x51 = some r → (coreOf s (leAt r.bytes 0x14 1 / 32) (leAt
    r.bytes 0x14 1 % 32)).isSome = true → Answers (.copySort core) s fun t => pcAfter t r 0 = r.index + 1 ∧ t0Read t (leAt r.bytes 0x14
    1) (srtT0 r.bytes 0x18) (leAt r.bytes 0x1C 4) = t0Read s r.seg (srtT0 r.bytes 0x10) (leAt r.bytes 0x1C 4) ∧ t.t1 = s.t1) ∧
  (∀ (core : Fin 256) (r : RunSort) (m : Word) (off : Nat) (s : State), dueSort s core.val 4 0 0x50 = some r → (tensorAccess s (some
    r.pick.part) (srtTs r.bytes 0x18) (leAt r.bytes 0x20 4)).toOption = some (m, off) → 6 ≤ mapStripe m → off % 64 = 0 → leAt r.bytes
    0x20 4 = 64 → Answers (.storeSort core) s fun t => pcAfter t r 0 = r.index + 1 ∧ readT1 t (extentDa m off) 64 = t0Read s r.seg
    (srtT0 r.bytes 0x10) 64 ∧ t.t0 = s.t0) ∧
  (∀ (core : Fin 256) (r : RunSort) (s : State), dueSort s core.val 4 0 0x52 = some r → Answers (.sendSort core) s fun t => pcAfter t r
    0 = r.index + 1 ∧ t.t0 = s.t0 ∧ t.t1 = s.t1 ∧ t.cores = s.cores)

/-- MATMUL, DRAIN, atomic adds, VOP, MERGE, SAMPLE, FOLD, ATTEND (R209 to R263, R291 to R294, R322). -/
def Obligations.ComputeSortsComplete : Prop :=
  (∀ (core : Fin 256) (r : RunSort) (p : Nat) (s : State), dueSort s core.val 1 0 0x20 = some r → coreOf s r.die (r.seg % 32) = some p →
    groupBusy (s.core r.die p) (leAt r.bytes 0x17 1 % 64 * shapeB (leAt r.bytes 0x16 1) * accBytes (shapeMode (leAt r.bytes 0x16 1)))
    ((leAt r.bytes 0x17 1 % 64 + 1) * shapeB (leAt r.bytes 0x16 1) * accBytes (shapeMode (leAt r.bytes 0x16 1))) = false → (matmulTiles
    s r.seg (s.core r.die p) r.bytes).isSome = true → Answers (.matmul core) s fun t => pcAfter t r 0 = r.index + 1 ∧ (t.core r.die
    p).tiles.length = (s.core r.die p).tiles.length + 1 ∧ (∀ x ∈ (s.core r.die p).tiles, x ∈ (t.core r.die p).tiles) ∧ t.t0 = s.t0) ∧
  (∀ (core : Fin 256) (r : RunSort) (p : Nat) (s : State), dueSort s core.val 2 0 0x30 = some r → coreOf s r.die (r.seg % 32) = some p →
    drKind r.bytes = 0 → r.seg < 256 → Answers (.drainSort core) s fun t => pcAfter t r 0 = r.index + 1 ∧ t0Read t r.seg (srtT0 r.bytes
    0x14) (((List.range (drB r.bytes)).map fun v => ((drainElems s r (drainTile (s.core r.die p) r.bytes) v).map
    (·.bytes)).flatten).flatten).length = ((List.range (drB r.bytes)).map fun v => ((drainElems s r (drainTile (s.core r.die p) r.bytes)
    v).map (·.bytes)).flatten).flatten ∧ (∀ x ∈ (t.core r.die p).tiles, ¬ (x.b = drB r.bytes ∧ x.mode = drMode r.bytes ∧ x.group = leAt
    r.bytes 0x10 1))) ∧
  (∀ (core : Fin 256) (r : RunSort) (p : Nat) (s : State), dueSort s core.val 2 0 0x30 = some r → coreOf s r.die (r.seg % 32) = some p →
    drKind r.bytes = 4 → Answers (.drainSort core) s fun t => pcAfter t r 0 = r.index + 1 ∧ s.steps.atomics <+: t.steps.atomics ∧
    t.steps.atomics.length ≠ s.steps.atomics.length ∧ t.t0 = s.t0) ∧
  (∀ (core : Fin 256) (r : RunSort) (p : Nat) (s : State), dueSort s core.val 2 0 0x30 = some r → coreOf s r.die (r.seg % 32) = some p →
    drKind r.bytes = 5 → (tensorAccess s (some r.pick.part) (srtTs r.bytes 0x18) (((List.range (drB r.bytes)).map fun v => ((drainElems
    s r (drainTile (s.core r.die p) r.bytes) v).map (·.bytes)).flatten).flatten).length).toOption.isSome = true → Answers (.drainSort
    core) s fun t => pcAfter t r 0 = r.index + 1) ∧
  (∀ (k : Nat) (x : Contribution) (s : State), s.steps.atomics[k]? = some x → halted s = false → x.inT1 = false → (coreOf s (x.core /
    32) (x.core % 32)).isSome = true → Answers (.atomicAdd k) s fun t => t.steps.atomics = s.steps.atomics.eraseIdx k ∧ t0Read t x.core
    x.at_ (atomicRun x.fmt (t0Read s x.core x.at_ x.bytes.length) x.bytes).1.length = (atomicRun x.fmt (t0Read s x.core x.at_
    x.bytes.length) x.bytes).1) ∧
  (∀ (core : Fin 256) (r : RunSort) (s : State), dueSort s core.val 3 0 0x40 = some r → leAt r.bytes 0x10 1 ≠ 9 ∨ leAt r.bytes 0x11 1 ≠
    leAt r.bytes 0x12 1 → (coreOf s (r.seg / 32) (r.seg % 32)).isSome = true → inT0 (srtT0 r.bytes 0x1C) (convElems (leAt r.bytes 0x12
    1) (vopResult s r)).length = true → Answers (.vop core) s fun t => pcAfter t r 0 = r.index + 1 ∧ t0Read t r.seg (srtT0 r.bytes 0x1C)
    (convElems (leAt r.bytes 0x12 1) (vopResult s r)).length = convElems (leAt r.bytes 0x12 1) (vopResult s r)) ∧
  (∀ (core : Fin 256) (r : RunSort) (p : Nat) (bytes : List Byte) (s : State), dueSort s core.val 3 0 0x41 = some r → coreOf s (r.seg /
    32) (r.seg % 32) = some p → r.seg < 256 → (leAt r.bytes 0x16 1).testBit 0 = false → (mergeAll (mergeInputs s r)).map (partialBytes
    s) = some bytes → Answers (.mergeSort core) s fun t => pcAfter t r 0 = r.index + 1 ∧ t0Read t r.seg (srtT0 r.bytes 0x18)
    bytes.length = bytes) ∧
  (∀ (core : Fin 256) (r : RunSort) (p : Nat) (s : State), dueSort s core.val 3 0 0x41 = some r → coreOf s (r.seg / 32) (r.seg % 32) =
    some p → r.seg < 256 → Answers (.mergeSort core) s fun t => pcAfter t r 0 = r.index + 1) ∧
  (∀ (core : Fin 256) (r : RunSort) (p : Nat) (s : State), dueSort s core.val 3 0 0x42 = some r → coreOf s (r.seg / 32) (r.seg % 32) =
    some p → r.seg < 256 → leAt r.bytes 0x10 1 = 0 → Answers (.sampleSort core) s fun t => pcAfter t r 0 = r.index + 1 ∧ t0Read t r.seg
    (srtT0 r.bytes 0x18) (summaryBytes (shardSummary (readElems s r.seg (srtT0 r.bytes 0x14) 5 (leAt r.bytes 0x1C 4)) (leAt r.bytes 0x20
    4) (invT (sampleEntry s r)) (candLimit (sampleEntry s r)))).length = summaryBytes (shardSummary (readElems s r.seg (srtT0 r.bytes
    0x14) 5 (leAt r.bytes 0x1C 4)) (leAt r.bytes 0x20 4) (invT (sampleEntry s r)) (candLimit (sampleEntry s r)))) ∧
  (∀ (core : Fin 256) (r : RunSort) (p : Nat) (s : State), dueSort s core.val 3 0 0x42 = some r → coreOf s r.die (r.seg % 32) = some p →
    Answers (.sampleSort core) s fun t => pcAfter t r 0 = r.index + 1 ∧ t.t1 = s.t1) ∧
  (∀ (core : Fin 256) (r : RunSort) (p : Nat) (m : Word) (off : Nat) (s : State), dueSort s core.val 3 0 0x43 = some r → coreOf s r.die
    (r.seg % 32) = some p → 2 ^ 63 ≤ leAt r.bytes 0x1C 8 → (tensorAccess s (some r.pick.part) (srtTs r.bytes 0x1C) (convElems (leAt
    r.bytes 0x15 1) (foldElems s r)).length).toOption = some (m, off) → mapBase m % 64 = 0 → 6 ≤ mapStripe m → poisonedIn s m off
    (convElems (leAt r.bytes 0x15 1) (foldElems s r)).length = none → Answers (.foldSort core) s fun t => pcAfter t r 0 = r.index + 1 ∧
    t.t0 = s.t0) ∧
  (∀ (core : Fin 256) (r : RunSort) (p : Nat) (s : State), dueSort s core.val 3 0 0x43 = some r → coreOf s r.die (r.seg % 32) = some p →
    leAt r.bytes 0x1C 8 < 2 ^ 63 → Answers (.foldSort core) s fun t => pcAfter t r 0 = r.index + 1 ∧ t.t1 = s.t1 ∧ t.poison = s.poison) ∧
  (∀ (d : Fin 8) (k : Fin 16) (r : RunSort) (s : State), dueSort s (256 + d.val) 5 k.val 0x60 = some r → Answers (.attendSort d k) s fun
    t => pcAfter t r k.val = r.index + 1)

/-- The step: trigger, stall, watchdog, close (R16, R18, R25, R331 to R334, R353). -/
def Obligations.StepsComplete : Prop :=
  (∀ (ps : List PartPick) (s : State), triggerDue s = true → s.steps.replay = .none → s.steps.committed = some ps → Answers
    (.stepTrigger) s fun t => t.steps.running = true ∧ t.steps.num = s.steps.num + 1 ∧ t.steps.current = ps ∧ t.steps.committed = none ∧
    t.steps.triggerAt = s.clock.now ∧ t.steps.tokens = [] ∧ getReg t Reg.galStepNum = t.steps.num) ∧
  (∀ (s : State), triggerDue s = true → s.steps.replay ≠ .none → Answers (.stepTrigger) s fun t => t.steps.running = true ∧ t.steps.num
    = s.steps.num ∧ t.steps.current = s.steps.current ∧ t.steps.replay = .none ∧ t.steps.replayed = true ∧ t.steps.tokens = []) ∧
  (∀ (d : Fin 8) (core : Fin 256) (engine : Fin 6) (resource : Fin 5) (index : BitVec 32) (s : State), resource.val ≠ 0 → engine.val < 5
    → core.val / 32 = d.val → engine.val = 5 → core.val = 0xFF → s.steps.running = true → halted s = false → s.steps.paced = false → bit
    (stepCfg s) 8 = true → s.steps.failures < 8 → Answers (.creditStall d core engine resource index) s fun t => t.steps.running = false
    ∧ t.steps.replay = .paced) ∧
  (∀ (d : Fin 8) (core : Fin 256) (engine : Fin 6) (resource : Fin 5) (index : BitVec 32) (s : State), resource.val ≠ 0 → engine.val < 5
    → core.val / 32 = d.val → engine.val = 5 → core.val = 0xFF → s.steps.running = true → halted s = false → s.steps.paced = true ∨ bit
    (stepCfg s) 8 = false → Answers (.creditStall d core engine resource index) s fun t => t.steps.running = false ∧ t.steps.replay =
    .none) ∧
  (∀ (part : Fin 64) (s : State), s.steps.running = true → halted s = false → (s.steps.current.any fun p => p.part = part.val) = true →
    s.steps.paced = false → bit (stepCfg s) 8 = true → s.steps.failures < 8 → Answers (.stepWatchdog part) s fun t => t.steps.running =
    false ∧ t.steps.replay = .paced) ∧
  (∀ (part : Fin 64) (s : State), s.steps.running = true → halted s = false → (s.steps.current.any fun p => p.part = part.val) = true →
    s.steps.paced = true ∨ bit (stepCfg s) 8 = false → Answers (.stepWatchdog part) s fun t => t.steps.running = false ∧ t.steps.replay
    = .none) ∧
  (∀ (s : State), s.steps.running = true → stepEnded s = true → halted s = false → mayClose (reportGroups s) = true → exec (.stepClose)
    s = .next (closeStep (reportGroups s)))

/-- Step batch records, turns, the galley reload (R329, R355, R364 to R366, R446, R448, R473). -/
def Obligations.StepEndsComplete : Prop :=
  (∀ (part : Fin 64) (r : Record) (s : State), (s.records.find? fun r => r.part = part.val) = some r → recordAcked s r = true → slotFree
    s part.val = true → halted s = false → partPhase s part.val ≠ 3 → Answers (.stepBatchRecord part) s fun t => t.records =
    s.records.erase r ∧ outTail t part.val = (outTail s part.val + 1) % outSize s part.val) ∧
  (∀ (h : Half) (s : State), Answers (.galleyReload h) s fun t => reloadHold h ∉ t.steps.holds ∧ ∀ x, x ∈ s.steps.holds → x ≠ reloadHold
    h → x ∈ t.steps.holds) ∧
  (∀ (req : Fin 32768) (s : State), (s.entry req.val).turn.isSome = true → exec (.turnCopyDone req) s = .next (s.setEntry req.val
    { s.entry req.val with turnDone := true })) ∧
  (∀ (req : Fin 32768) (s : State), (s.entry req.val).state = 8 → (s.entry req.val).reportedAt.isSome = true → exec (.endedHold req) s =
    .next ({ s with deferred := s.deferred ++ [.entryFree req.val] }))

/-- PROMPT, PROPOSE, PAUSE, RESUME, END, SET_CLASS, MIGRATE of a request (R342, R345, R353, R358, R372, R377). -/
def Obligations.RequestCommandsComplete : Prop :=
  (∀ (x : Cmd) (s : State), actsNext s 2 x = true → (s.entry x.req).promptLen + x.tokens.length ≤ (s.entry x.req).maxLen → Answers
    (.prompt) s fun t => (t.entry x.req).state = 2 ∧ (t.entry x.req).phase = 0 ∧ (t.entry x.req).promptLen = (s.entry x.req).promptLen +
    x.tokens.length ∧ t.arrived = s.arrived.erase x) ∧
  (∀ (x : Cmd) (s : State), actsNext s 3 x = true → x.tokens.length ≤ maxProofs s (s.entry x.req).partition → Answers (.propose) s fun t
    => (t.entry x.req).proofLen = x.tokens.length ∧ (t.entry x.req).state = (s.entry x.req).state ∧ t.arrived = s.arrived.erase x) ∧
  (∀ (x : Cmd) (s : State), actsNext s 4 x = true → (s.entry x.req).state ≠ 7 → Answers (.pauseRequest) s fun t => (t.entry x.req).state
    = 5 ∧ t.arrived = s.arrived.erase x) ∧
  (∀ (x : Cmd) (s : State), actsNext s 4 x = true → (s.entry x.req).state = 7 → Answers (.pauseRequest) s fun t => (t.entry x.req).state
    = 6 ∧ t.arrived = s.arrived.erase x) ∧
  (∀ (x : Cmd) (s : State), actsNext s 5 x = true → (s.entry x.req).state = 5 → Answers (.resumeCommand) s fun t => (t.entry
    x.req).state = byPhase (s.entry x.req) ∧ t.arrived = s.arrived.erase x) ∧
  (∀ (x : Cmd) (s : State), actsNext s 6 x = true → Answers (.endRequest) s fun t => (t.entry x.req).state = 8 ∧ (t.entry x.req).code =
    0x2C ∧ t.arrived = s.arrived.erase x) ∧
  (∀ (x : Cmd) (s : State), actsNext s 9 x = true → (x.op8 0x10).testBit 5 = false → Answers (.setClass) s fun t => (t.entry
    x.req).priority = (if (x.op8 0x10).testBit 1 then x.op8 0x11 % 16 else (s.entry x.req).priority) ∧ (t.entry x.req).state = (s.entry
    x.req).state ∧ t.arrived = s.arrived.erase x) ∧
  (∀ (x : Cmd) (s : State), actsNext s 8 x = true → (s.arrived.any fun x => decide (x.opcode = 8) && !x.names) = false → x.op8 0x14 = 0
    → (s.entry x.req).turn = none → ((t2Regions s (s.entry x.req).partition).any fun r => (List.range ((s.region r).pages + 1)).any
    (t2Free s r (imageUnits (s.entry x.req)))) = true → Answers (.migrate) s fun t => t.moves.length = s.moves.length + 1 ∧ t.arrived =
    s.arrived.erase x)

/-- Fetches, ADMIT, LOAD_TENSOR, MIGRATE of a handle, token fetches (R347, R350 to R353, R447, R545). -/
def Obligations.CommandsArriveComplete : Prop :=
  (∀ (part : Fin 64) (driver : Bool) (bytes : List Byte) (s : State), bytes.length = 64 → mayFetch s part.val driver = true → halted s =
    false → Answers (.commandFetch part driver bytes) s fun t => sqHead t part.val driver = (sqHead s part.val driver + 1) % sqSize s
    part.val driver) ∧
  (∀ (part : Fin 64) (driver : Bool) (s : State), ringRuns s part.val driver = true → sqHead s part.val driver ≠ (s.ring part.val
    driver).sqTail → Answers (.sqFetch part driver) s fun t => ringRuns t part.val driver = false ∧ getFld t (ringStatus part.val
    driver) 48 8 = 1 ∧ getBit t (blkIntRaw (Reg.partBlk part.val)) 19 = true) ∧
  (∀ (x : Cmd) (slot i : Nat) (s : State), halted s = false → (firstCmd s 1 fun c => !c.names) = some x → activeSlot s x.part 0 = some
    slot → liveOf s x.part < getFld s (Reg.partCfg x.part) 32 16 → freeIndex s = some i → lengthOver (s.impo slot) (x.op32 0x14) = false
    → x.op8 0x11 / 16 % 2 = 1 → x.op8 0x10 / 4 % 4 = 0 → (x.op8 0x10).testBit 4 = false → systemFits s (requestSystemBytes (x.op32 0x14)
    (prefillRecord s x.part).directory) = true → Answers (.admitRequest) s fun t => (t.entry i).state = 1 ∧ (t.entry i).partition =
    x.part ∧ (t.entry i).tag = x.tag ∧ (t.entry i).maxLen = x.op32 0x14 ∧ (t.entry i).cls = 1 ∧ (t.entry i).gen = ((s.entry i).gen + 1)
    % 2 ^ 16 ∧ t.arrived = s.arrived.erase x) ∧
  (∀ (x : Cmd) (s : State), halted s = false → (firstCmd s 7 fun c => !c.names) = some x → loadCode s x = 0 → Answers (.loadTensor) s
    fun t => (t.tensor (x.op32 0x10 % 2 ^ 17)).tier = 3 ∧ (t.tensor (x.op32 0x10 % 2 ^ 17)).owner = x.part ∧ (t.tensor (x.op32 0x10 % 2
    ^ 17)).size = x.op32 0x18 ∧ (t.tensor (x.op32 0x10 % 2 ^ 17)).t1map = word (x.op64 0x20) ∧ t.arrived = s.arrived.erase x) ∧
  (∀ (x : Cmd) (s : State), halted s = false → (firstCmd s 8 fun c => !c.names) = some x → handleOk (x.op32 0x10 % 2 ^ 17) = true →
    (s.tensor (x.op32 0x10 % 2 ^ 17)).owner = x.part → (s.tensor (x.op32 0x10 % 2 ^ 17)).tier = 1 ∨ (s.tensor (x.op32 0x10 % 2 ^
    17)).tier = 2 → x.op8 0x14 = 3 → Answers (.migrate) s fun t => (t.tensor (x.op32 0x10 % 2 ^ 17)).tier = 0 ∧ t.arrived =
    s.arrived.erase x) ∧
  (∀ (req : Fin 32768) (data : List Byte) (x : Cmd) (s : State), fetching s req.val = some x → data.length = 4 * x.op32 0x14 → Answers
    (.tokenFetchDone req data true) s fun t => (t.arrived.any fun y => y.ready && decide (y.tokens = (List.range (x.op32 0x14)).map fun
    j => leAt data (4 * j) 4 % 2 ^ 20)) = true ∧ t.arrived.length = s.arrived.length) ∧
  (∀ (req : Fin 32768) (data : List Byte) (x : Cmd) (s : State), fetching s req.val = some x → (s.entry req.val).gen = x.gen → (s.entry
    req.val).state ≠ 0 → (s.entry req.val).state ≠ 8 → Answers (.tokenFetchDone req data false) s fun t => 0x27 ∈ (t.entry req.val).ends
    ∧ t.arrived = s.arrived.erase x)

/-- NOSPACE_WAIT, park, time to live, reads of moves, their ends, the prefix settings (R156, R158, R161, R352, R374, R376, R379). -/
def Obligations.LapsesAndMovesComplete : Prop :=
  (∀ (req : Fin 32768) (s : State), (s.entry req.val).noSlotSince.isSome = true → (s.entry req.val).state ≠ 6 → (s.entry req.val).state
    ≠ 0 → (s.entry req.val).state ≠ 8 → (s.entry req.val).hasSkip skNoSlot = true → Answers (.nospaceWait req) s fun t => 0x2B ∈
    (t.entry req.val).ends) ∧
  (∀ (req : Fin 32768) (s : State), (s.entry req.val).noSlotSince.isSome = true → (s.entry req.val).state = 6 → (s.entry
    req.val).resumePending = true → (s.entry req.val).hasSkip skMoving = false → Answers (.nospaceWait req) s fun t => (t.entry
    req.val).resumePending = false ∧ (t.entry req.val).noSlotSince = none ∧ (t.entry req.val).state = 6) ∧
  (∀ (req : Fin 32768) (s : State), (s.entry req.val).state = 5 → .park req.val ∉ s.deferred → exec (.parkThreshold req) s = .next
    ({ s with deferred := s.deferred ++ [.park req.val] })) ∧
  (∀ (req : Fin 32768) (s : State), (s.entry req.val).state ∈ [1, 5, 6, 7] → Answers (.ttl req) s fun t => 0x2E ∈ (t.entry req.val).ends
    ∧ t.regs = s.regs) ∧
  (∀ (id off : Nat) (data : List Byte) (m : Move) (s : State), (s.moves.find? fun m => m.id = id ∧ m.running ∧ ¬ m.finished ∧
    m.kind.intoT1 = true) = some m → off % 4096 = 0 → off < m.len → data.length = min 4096 (m.len - off) → halted s = false → exec
    (.t2ReadCompletion id off data true) s = .next (setMove s { m with chunks := Map.put m.chunks off data })) ∧
  (∀ (id off : Nat) (data : List Byte) (m : Move) (s : State), (s.moves.find? fun m => m.id = id ∧ m.running ∧ ¬ m.finished ∧
    m.kind.intoT1 = true) = some m → off % 4096 = 0 → off < m.len → halted s = false → Answers (.t2ReadCompletion id off data false) s
    fun t => ∀ x ∈ t.moves, x.id ≠ id) ∧
  (∀ (id : Nat) (m : Move) (s : State), (s.moves.find? fun m => m.id = id ∧ m.running ∧ ¬ m.finished ∧ m.kind.intoT1 = true) = some m →
    Answers (.tierLate false id) s fun t => ∀ x ∈ t.moves, x.id ≠ id) ∧
  (∀ (id : Nat) (x : Cmd) (s : State), fetching s id = some x → (s.entry id).gen = x.gen → (s.entry id).state ≠ 0 → (s.entry id).state ≠
    8 → x.req = id → Answers (.tierLate true id) s fun t => 0x28 ∈ (t.entry id).ends ∧ t.arrived = s.arrived.erase x) ∧
  (∀ (id : Nat) (m : Move) (s : State), (s.moves.find? fun m => m.id = id ∧ m.running ∧ ¬ m.finished) = some m → halted s = false →
    m.kind.intoT1 = false → sourcePoisoned s m = false → Answers (.migrationDone id) s fun t => .moveDone id ∈ t.deferred) ∧
  (∀ (id : Nat) (m : Move) (s : State), (s.moves.find? fun m => m.id = id ∧ m.running ∧ ¬ m.finished) = some m → halted s = false →
    m.kind.intoT1 = true → m.kind ≠ .reload → m.whole = true → requestOf m.handle = none → (convert m.source m.container (s.tensor
    m.handle).size m.bytes).code = 0 → Answers (.migrationDone id) s fun t => .moveDone id ∈ t.deferred) ∧
  (∀ (w : RegWrite) (q : Site) (s : State), isReg w .gal1 0x128 = true → servedAt s w = some q → bit w.val 0 = true → 10 ≤ fld
    ((getLatch s w.who Reg.galPartIndex).getD 0 0) 8 5 → fld ((getLatch s w.who Reg.galPartIndex).getD 0 0) 8 5 ≤ 22 → fld ((getLatch s
    w.who Reg.galPartIndex).getD 0 0) 16 24 ≤ 16777214 → (s.tree (fld (latchedIndex s w.who Reg.galPartIndex) 0 6)).nodes = [] → liveOf
    s (fld (latchedIndex s w.who Reg.galPartIndex) 0 6) = 0 → Answers (.galPartCommit w) s fun t => (t.tree (fld (latchedIndex s w.who
    Reg.galPartIndex) 0 6)).enabled = bit ((getLatch s w.who Reg.galPartIndex).getD 0 0) 0 ∧ (t.tree (fld (latchedIndex s w.who
    Reg.galPartIndex) 0 6)).bucketsLog2 = fld ((getLatch s w.who Reg.galPartIndex).getD 0 0) 8 5 ∧ (t.tree (fld (latchedIndex s w.who
    Reg.galPartIndex) 0 6)).keyLo = (getLatch s w.who Reg.galPartIndex).getD 1 0 ∧ getBit t Reg.galPartCommit 1 = false)

/-- LOAD, the end of a load, ACTIVATE, UNLOAD, CLEAR_SUSPECT (R324 to R328, R335, R336). -/
def Obligations.FormeCommandsComplete : Prop :=
  (∀ (w : RegWrite) (q : Site) (s : State), isReg w .gal3 0x100 = true → fld w.val 32 3 = 1 → servedAt s w = some q → bit w.val 40 =
    true → getBit s Reg.galFormeStatus 0 = false → (s.impo (fld w.val 24 7)).state = 0 → Answers (.loadForme w) s fun t => t.loader =
    some ((fld w.val 24 7), fld w.val 0 17) ∧ (t.impo (fld w.val 24 7)).state = 1 ∧ getBit t Reg.galFormeStatus 0 = true) ∧
  (∀ (k h : Nat) (s : State), s.loader = some (k, h) → halted s = false → (s.impo k).state = 1 → k < 128 → Answers (.formeDone) s fun t
    => t.loader = none ∧ (t.impo k).state = (if loadFormeCode s k h = 0 then 2 else 0) ∧ getFld t Reg.galFormeStatus 16 16 =
    loadFormeCode s k h ∧ getFld t Reg.galFormeStatus 8 7 = k ∧ getBit t Reg.galFormeStatus 0 = false ∧ getBit t (blkIntRaw Reg.galBlk)
    16 = true) ∧
  (∀ (w : RegWrite) (q : Site) (s : State), isReg w .gal3 0x100 = true → fld w.val 32 3 = 2 → servedAt s w = some q → bit w.val 40 =
    true → getBit s Reg.galFormeStatus 0 = false → isGroup s (fld w.val 24 7) = false → Answers (.activate w) s fun t => t.deferred =
    s.deferred ++ [.activate (fld w.val 24 7)] ∧ t.impos = s.impos ∧ getBit t Reg.galFormeStatus 0 = true) ∧
  (∀ (w : RegWrite) (q : Site) (s : State), isReg w .gal3 0x100 = true → fld w.val 32 3 = 2 → servedAt s w = some q → bit w.val 40 =
    true → getBit s Reg.galFormeStatus 0 = false → isGroup s (fld w.val 24 7) = true → isLead s (fld w.val 24 7) = false → Answers
    (.activate w) s fun t => getBit t Reg.galFormeStatus 0 = false ∧ getFld t Reg.galFormeStatus 8 7 = (fld w.val 24 7) ∧ getFld t
    Reg.galFormeStatus 16 16 = 0x40C ∧ getBit t (blkIntRaw Reg.galBlk) 16 = true ∧ t.deferred = s.deferred) ∧
  (∀ (w : RegWrite) (q : Site) (s : State), isReg w .gal3 0x100 = true → fld w.val 32 3 = 3 → servedAt s w = some q → bit w.val 40 =
    true → getBit s Reg.galFormeStatus 0 = false → (s.impo (fld w.val 24 7)).state = 2 → Answers (.unload w) s fun t => (t.impo (fld
    w.val 24 7)).state = 0 ∧ getBit t Reg.galFormeStatus 0 = false ∧ getFld t Reg.galFormeStatus 8 7 = (fld w.val 24 7) ∧ getFld t
    Reg.galFormeStatus 16 16 = 0 ∧ getBit t (blkIntRaw Reg.galBlk) 16 = true) ∧
  (∀ (w : RegWrite) (q : Site) (s : State), isReg w .gal3 0x100 = true → fld w.val 32 3 = 3 → servedAt s w = some q → bit w.val 40 =
    true → getBit s Reg.galFormeStatus 0 = false → (s.impo (fld w.val 24 7)).state = 3 → Answers (.unload w) s fun t => t.impos =
    s.impos ∧ getBit t Reg.galFormeStatus 0 = false ∧ getFld t Reg.galFormeStatus 8 7 = (fld w.val 24 7) ∧ getFld t Reg.galFormeStatus
    16 16 = 0x40D ∧ getBit t (blkIntRaw Reg.galBlk) 16 = true) ∧
  (∀ (w : RegWrite) (q : Site) (s : State), isReg w .gal3 0x100 = true → fld w.val 32 3 = 4 → servedAt s w = some q → bit w.val 40 =
    true → getBit s Reg.galFormeStatus 0 = false → (s.impo (fld w.val 24 7)).state = 3 → Answers (.clearSuspect w) s fun t => (t.impo
    (fld w.val 24 7)).suspect = 0 ∧ (t.impo (fld w.val 24 7)).state = 3 ∧ getBit t Reg.galFormeStatus 0 = false ∧ getFld t
    Reg.galFormeStatus 8 7 = (fld w.val 24 7) ∧ getFld t Reg.galFormeStatus 16 16 = 0 ∧ getBit t (blkIntRaw Reg.galBlk) 16 = true) ∧
  (∀ (w : RegWrite) (q : Site) (s : State), isReg w .gal3 0x100 = true → fld w.val 32 3 = 4 → servedAt s w = some q → bit w.val 40 =
    true → getBit s Reg.galFormeStatus 0 = false → (s.impo (fld w.val 24 7)).state ≠ 3 → Answers (.clearSuspect w) s fun t => t.impos =
    s.impos ∧ getBit t Reg.galFormeStatus 0 = false ∧ getFld t Reg.galFormeStatus 8 7 = (fld w.val 24 7) ∧ getFld t Reg.galFormeStatus
    16 16 = 0x40A ∧ getBit t (blkIntRaw Reg.galBlk) 16 = true)

/-- Data, link-management and idle flits (R389 to R392, R394, R405, R408). -/
def Obligations.FlitsComplete : Prop :=
  (∀ (p : Fin 6) (flit : List Byte) (s : State), flit.length = 256 → flitClass flit = 1 → flitPos flit = 0 → linkOpen s p = true →
    flitOk flit = true → flitSeq flit = (s.link p).rxSeq → flitHops flit < 64 → flitDst flit = myCoord s → linkLocal flit = true ∨
    carries s p 1 = false → opClass (leAt (flitData flit) 0 1) = some 1 → 16 ≤ (flitData flit).length → (flitData flit).length = 16 +
    leAt (flitData flit) 2 2 % 2 ^ 15 → Answers (.dataFlit p flit) s fun t => t.inbox = s.inbox ++ [⟨p, s.clock.now, ⟨flitSlice flit,
    flitSrc flit, flitDst flit, 1, leAt (flitData flit) 0 1, decide (leAt (flitData flit) 1 1 % 2 = 1), leAt (flitData flit) 4 4, word
    (leAt (flitData flit) 8 8), (flitData flit).drop 16⟩⟩] ∧ (t.link p).rxSeq = ((s.link p).rxSeq + 1) % 2 ^ 16) ∧
  (∀ (p : Fin 6) (flit : List Byte) (s : State), flit.length = 256 → flitClass flit < 6 → linkOpen s p = true → flitOk flit = true →
    flitSeq flit = (s.link p).rxSeq → exec (.dataFlit p flit) s = .next (acceptFlit s p flit)) ∧
  (∀ (p : Fin 6) (flit : List Byte) (s : State), flit.length = 256 → flitClass flit < 6 → linkOpen s p = true → flitOk flit = false →
    (s.link p).nak = false → Answers (.dataFlit p flit) s fun t => (t.link p).nak = true ∧ (t.link p).rxSeq = (s.link p).rxSeq ∧ t.inbox
    = s.inbox ∧ t.out.length = s.out.length + 1) ∧
  (∀ (p : Fin 6) (flit : List Byte) (s : State), flit.length = 256 → flitClass flit < 6 → linkOpen s p = true → flitOk flit = true → 2 ^
    15 ≤ (flitSeq flit + 2 ^ 16 - (s.link p).rxSeq) % 2 ^ 16 → exec (.dataFlit p flit) s = .next (s)) ∧
  (∀ (p : Fin 6) (flit : List Byte) (s : State), flit.length = 256 → flitClass flit = 6 → linkOpen s p = true → lmOk flit = true →
    Answers (.linkManagementFlit p flit) s fun t => (t.link p).resvFreed = totals flit 0x08 12 ∧ (t.link p).sharedFreed = totals flit
    0x20 6 ∧ getReg t (Reg.fabLaneGood p) = getReg s (Reg.fabLaneGood p) &&& ~~~(word (leAt flit 0x30 8 ||| (if (leAt flit 1 1).testBit
    2 then 2 ^ (leAt flit 6 2 % 64) else 0)))) ∧
  (∀ (p : Fin 6) (flit : List Byte) (s : State), flit.length = 256 → flitClass flit = 7 → exec (.idleFlit p flit) s = .next (s))

/-- Lane failure, spares, widths, a link that fails, routing around it, resends (R384, R385, R393, R398, R402). -/
def Obligations.LinksComplete : Prop :=
  (∀ (p : Fin 6) (lane : Fin 64) (s : State), (s.port p).phase = .up → getBit s (Reg.fabLaneGood p) lane = true → Answers (.laneFail p
    lane) s fun t => getBit t (Reg.fabLaneGood p) lane = false ∧ getBit t (blkIntRaw (Reg.fabBlk p)) 18 = true) ∧
  (∀ (p : Fin 6) (spare : Fin 4) (lane : Nat) (s : State), (s.link p).spares.find? (fun x => x.1 = spare.val) = some (spare.val, lane) →
    (s.port p).phase = .up → lane < 64 → Answers (.spareLaneTrained p spare true) s fun t => (t.link p).lanes = (s.link p).lanes.set
    lane (64 + spare) ∧ getBit t (Reg.fabLaneGood p) lane = true ∧ (t.link p).spares = (s.link p).spares.erase (spare.val, lane)) ∧
  (∀ (p : Fin 6) (spare : Fin 4) (lane : Nat) (s : State), (s.link p).spares.find? (fun x => x.1 = spare.val) = some (spare.val, lane) →
    (s.port p).phase = .up → Answers (.spareLaneTrained p spare false) s fun t => getBit t (Reg.fabSpareMap p) (8 * spare + 6) = true) ∧
  (∀ (p : Fin 6) (n at_ : Nat) (s : State), (s.port p).phase = .up → (s.link p).widthAt = some (n, at_) → Answers (.widthChange p) s fun
    t => (t.link p).lanes = narrowed s p n ∧ (t.link p).widthAt = none ∧ getReg t (Reg.fabLaneGood p) = ones 0 (narrowed s p n).length) ∧
  (∀ (p : Fin 6) (cause : Fin 5) (s : State), (s.port p).phase = .up → cause.val ≠ 0 → cause.val = 4 → 8 ≤ (s.link p).naks → Answers
    (.linkDown p cause) s fun t => (t.port p).phase = .down ∧ getReg t (Reg.fabLaneGood p) = 0 ∧ getBit t (blkIntRaw (Reg.fabBlk p)) 16
    = true ∧ (t.time p).offer = none) ∧
  (∀ (p : Fin 6) (s : State), (s.port p).phase = .down → (s.link p).joined = true → Answers (.routeAround p) s fun t => (t.link
    p).joined = false) ∧
  (∀ (cls : Fin 6) (id : BitVec 32) (x : Sent) (s : State), s.sent.find? (fun x => x.msg.cls = cls.val ∧ x.msg.id = id.toNat) = some x →
    x.tries < getFld s (Reg.fabArbCfg (resendPort s x.msg)) 16 4 → exec (.resend cls id) s = .next (launch (count
    { s with sent := s.sent.map fun y => if y = x then { y with tries := y.tries + 1 } else y } (Reg.fabResends (resendPort s x.msg)) 1)
    x.msg)) ∧
  (∀ (cls : Fin 6) (id : BitVec 32) (x : Sent) (s : State), s.sent.find? (fun x => x.msg.cls = cls.val ∧ x.msg.id = id.toNat) = some x →
    getFld s (Reg.fabArbCfg (resendPort s x.msg)) 16 4 ≤ x.tries → exec (.resend cls id) s = .next ({ s with sent := s.sent.erase x }))

/-- T0_WRITE, SIGNAL, PARTIAL, APPEND, CHUNK, CLASS0_LOST, STILE, ACK (R283, R293, R314, R392, R393, R402). -/
def Obligations.MessagesComplete : Prop :=
  (∀ (a : Arrival) (s : State), nextMsg s (isOp 0 0x01) = some a → (fld a.msg.target 32 32).testBit 22 = false → Answers (.t0Write) s
    fun t => t.t0 = (t0Write s (fld a.msg.target 0 8) (fld a.msg.target 8 23) (a.msg.content.take (2 ^ 23 - fld a.msg.target 8 23))).t0
    ∧ t.steps = s.steps ∧ t.t1 = s.t1) ∧
  (∀ (a : Arrival) (s : State), nextMsg s (isOp 0 0x03) = some a → (fld a.msg.target 32 32).testBit 22 = false → Answers (.partialMsg) s
    fun t => t.t0 = (t0Write s (fld a.msg.target 0 8) (fld a.msg.target 8 23) (a.msg.content.take (2 ^ 23 - fld a.msg.target 8 23))).t0
    ∧ t.steps = s.steps ∧ t.t1 = s.t1) ∧
  (∀ (g : Nat) (a : Arrival) (s : State), nextMsg s (isOp 0 0x02) = some a → g = fld a.msg.target 32 32 → g.testBit 22 = true → Answers
    (.signalMsg) s fun t => tokenOf t (g / 2 ^ 12 % 8) (tokenBase s ((sliceOwner s a.msg.slice).getD 64) + g % 2 ^ 12) = (tokenOf s (g /
    2 ^ 12 % 8) (tokenBase s ((sliceOwner s a.msg.slice).getD 64) + g % 2 ^ 12) + 1) % 2 ^ 16 ∧ t.t0 = s.t0 ∧ t.t1 = s.t1) ∧
  (∀ (da : Nat) (a : Arrival) (s : State), nextMsg s (isOp 0 0x04) = some a → da = fld a.msg.target 0 38 / 64 * 64 →
    a.msg.content.length = 64 → daHole da = false → daServed s da = true → Answers (.appendMsg) s fun t => readT1 t da 64 =
    a.msg.content ∧ sectorPoisoned t da = false ∧ ∀ x, x < da ∨ da + 64 ≤ x → getT1 t x = getT1 s x) ∧
  (∀ (h off : Nat) (a : Arrival) (s1 : State) (s : State), takeMsg s (isOp 5 0x50) = some (a, true, s1) → h = fld a.msg.target 0 17 →
    off = 4096 * fld a.msg.target 17 31 → (s1.tensor h).tier = 1 → some (s1.tensor h).owner = sliceOwner s1 a.msg.slice → (s1.tensor
    h).grouped = false → off + (a.msg.content.take 4096).length ≤ (s1.tensor h).size → exec (.chunkMsg) s = .next (acknowledge
    (storeExtent s1 (s1.tensor h).t1map off (a.msg.content.take 4096)) a.msg)) ∧
  (∀ (a : Arrival) (s : State), nextMsg s (isOp 1 0x13) = some a → s.steps.running = true → a.msg.target = s.steps.num → Answers
    (.class0Lost) s fun t => t.steps.running = false ∧ (s.steps.failures < 8 → t.steps.replay = .normal ∧ t.steps.failures =
    s.steps.failures + 1)) ∧
  (∀ (x : RegWrite) (a : Arrival) (s1 : State) (s : State), takeMsg s (fun a => decide (a.msg.cls = 3 ∧ a.msg.op = 0x30)) = some (a,
    true, s1) → x.who = .stile → exec (.stileMsg true (some x)) s = .next (acknowledge (runWrite s1 x) a.msg)) ∧
  (∀ (x : RegWrite) (a : Arrival) (s1 : State) (s : State), takeMsg s (fun a => decide (a.msg.cls = 3 ∧ a.msg.op = 0x30)) = some (a,
    true, s1) → x.who = .stile → exec (.stileMsg false (some x)) s = .next (acknowledge s1 a.msg)) ∧
  (∀ (cls : Fin 6) (x : Sent) (a : Arrival) (s : State), nextMsg s (isOp cls.val (ackOp cls.val)) = some a → s.sent.find? (fun x =>
    x.msg.cls = cls.val ∧ x.msg.id = fld a.msg.target 0 32) = some x → cls.val ≠ 4 → Answers (.ackMsg cls) s fun t => t.sent =
    s.sent.erase x) ∧
  (∀ (x : Sent) (a : Arrival) (s : State), nextMsg s (isOp 4 (ackOp 4)) = some a → s.sent.find? (fun x => x.msg.cls = 4 ∧ x.msg.id = fld
    a.msg.target 0 32) = some x → x.msg.op = 0x40 → fld x.msg.target 0 4 = 4 → Answers (.ackMsg 4) s fun t => ∀ y ∈ t.home.steps, y.1 ≠
    x.msg.id)

/-- STEP_REPORT, STEP_ANNOUNCE, CMD_FORWARD; silence of a member or of the lead (R30, R327, R359, R464). -/
def Obligations.GroupMessagesComplete : Prop :=
  (∀ (k : Fin 128) (m : Fin 64) (lacking : Bool) (a : Arrival) (s : State), nextMsg s (fun a => decide (a.msg.cls = 1 ∧ a.msg.op = 0x10
    ∧ a.msg.src = memberCoord s k m)) = some a → isGroup s k = true → isLead s k = true → m.val ∈ (s.group k).awaited → (s.group
    k).abandoned = false → Answers (.stepReport k m false lacking) s fun t => (t.group k).awaited = (s.group k).awaited.erase m.val ∧
    (t.group k).lacking = ((s.group k).lacking || lacking) ∧ t.steps = s.steps) ∧
  (∀ (k : Fin 128) (n : Announce) (a : Arrival) (s1 : State) (s : State), takeMsg s (fun x => decide (x.msg.cls = 1 ∧ x.msg.op = 0x11))
    = some (a, true, s1) → n.activate = none → n.cancel = none → isGroup s k = true → isLead s k = false → exec (.stepAnnounce k n) s =
    .next (acknowledge (takeAnnounce s1 k n) a.msg)) ∧
  (∀ (k : Fin 128) (n : Announce) (a : Arrival) (s : State), nextMsg s (fun x => decide (x.msg.cls = 1 ∧ x.msg.op = 0x11)) = some a →
    n.activate = none → n.cancel = none → isGroup s k = true → isLead s k = false → n.fate = 0 → n.settled = [] → s.steps.running = true
    → stepEnded s = false → Answers (.stepAnnounce k n) s fun t => (t.group k).released = true ∧ (t.group k).reported = false ∧ t.steps
    = { s.steps with tn := n.tn }) ∧
  (∀ (tokens : List Nat) (a : Arrival) (n : Nat) (s : State), nextMsg s (fun x => decide (x.msg.cls = 1 ∧ x.msg.op = 0x12)) = some a →
    a.msg.content.length = 64 → sliceOwner s a.msg.slice = some n → badByte ⟨n, false, true, a.msg.content, 0, true, tokens⟩ = none →
    Cmd.names ⟨n, false, true, a.msg.content, 0, true, tokens⟩ = false → Answers (.cmdForward tokens) s fun t => t.arrived = s.arrived
    ++ [⟨n, false, true, a.msg.content, 0, true, tokens⟩]) ∧
  (∀ (k : Fin 128) (s : State), isGroup s k = true → isLead s k = true → (s.group k).awaited ≠ [] → (s.group k).timeouts = 0 → Answers
    (.groupReportTimeout k) s fun t => (t.group k).timeouts = 1 ∧ (t.group k).awaited = (s.group k).awaited ∧ t.steps = s.steps) ∧
  (∀ (k : Fin 128) (s : State), isGroup s k = true → isLead s k = true → (s.group k).awaited ≠ [] → (s.group k).timeouts ≠ 0 →
    s.steps.running = false → (s.group k).abandoned = false → Answers (.groupReportTimeout k) s fun t => (t.group k).awaited = [] ∧
    (t.group k).lacking = true ∧ ∀ i ∈ liveReqs s (s.impo k).partition, (t.entry i).ends ≠ []) ∧
  (∀ (k : Fin 128) (s : State), isGroup s k = true → isLead s k = false → (s.group k).reported = true → (s.group k).lost = false →
    (s.group k).timeouts = 0 → Answers (.leadLost k) s fun t => (t.group k).timeouts = 1 ∧ t.steps = s.steps ∧ t.arrived = s.arrived) ∧
  (∀ (k : Fin 128) (s : State), isGroup s k = true → isLead s k = false → (s.group k).reported = true → (s.group k).lost = false →
    (s.group k).timeouts ≠ 0 → (s.steps.current.any fun p => p.impo = k.val) = false → Answers (.leadLost k) s fun t => (t.group k).lost
    = true ∧ (t.group k).next = none ∧ ∀ x ∈ t.arrived, x.quiet = true → x.part ≠ (s.impo k).partition)

/-- Exchanges of time, EPOCH_IN (R35, R87, R88, R410 to R413). -/
def Obligations.TimeExchangesComplete : Prop :=
  (∀ (s : State), Answers (.timeExchange) s fun t => ∀ p ∈ timePorts s, p < 6 → (t.time p).t1 = some s.clock.now ∧ (t.time p).xseq =
    ((s.time p).xseq + 1) % 2 ^ 32) ∧
  (∀ (p : Fin 6) (a : Arrival) (s1 : State) (s : State), takeMsg s (fun a => isOp 2 0x20 a && decide (a.port = p.val)) = some (a, true,
    s1) → s.clock.aligned = true → exec (.timeReq p) s = .next (acknowledge (sendPartner s1 p 2 0x21 a.msg.src (timeBytes s1 (leAt
    a.msg.content 0 4) (leAt a.msg.content 8 8) a.at_ s1.clock.now)) a.msg)) ∧
  (∀ (p : Fin 6) (a : Arrival) (t1 : Nat) (s : State), nextMsg s (fun a => isOp 2 0x21 a && decide (a.port = p.val)) = some a → (s.time
    p).t1 = some t1 → leAt a.msg.content 0 4 = (s.time p).xseq → Answers (.timeResp p) s fun t => (t.time p).t1 = none ∧ (t.time
    p).offer = some (leAt a.msg.content 4 1, word (leAt a.msg.content 0x28 8)) ∧ getFld t (Reg.fabTimeStatus p) 48 8 = leAt
    a.msg.content 4 1) ∧
  (∀ (p : Fin 6) (a : Arrival) (s : State), nextMsg s (fun a => isOp 2 0x21 a && decide (a.port = p.val)) = some a → leAt a.msg.content
    0 4 ≠ (s.time p).xseq → Answers (.timeResp p) s fun t => t.times = s.times ∧ t.clock = s.clock) ∧
  (∀ (s : State), s.clock.epochWait = false → exec (.epochIn) s = .next
    ({ s with clock := { s.clock with epochStamp := some s.clock.now } }))

/-- The ports as software closes, patches, retrains and maps them (R403, R404, R407, R415, R417, R422). -/
def Obligations.PortCommandsComplete : Prop :=
  (∀ (w : RegWrite) (q : Site) (s : State), isReg w .fab0 0x108 = true → servedAt s w = some q → fld w.val 16 16 = 0x5A25 → bit w.val 0
    = false → bit w.val 4 = false → (s.port q.1.inst).phase = .dark → Answers (.linkEn w) s fun t => (t.port q.1.inst).phase = .off ∧
    getReg t (Reg.fabCtrl q.1.inst) = w.val &&& 7) ∧
  (∀ (w : RegWrite) (q : Site) (s : State), isReg w .fab0 0x108 = true → servedAt s w = some q → fld w.val 16 16 = 0x5A25 → bit w.val 0
    = true → bit w.val 1 = true → bit w.val 3 = false → bit w.val 4 = false → (s.port q.1.inst).phase = .up → Answers (.drainPort w) s
    fun t => (t.port q.1.inst).phase = .draining ∧ (t.link q.1.inst).joined = false ∧ getReg t (Reg.fabCtrl q.1.inst) = w.val &&& 7) ∧
  (∀ (p : Fin 6) (s : State), (s.port p).phase = .draining → (s.link p).retry = [] → (s.link p).waiting = [] → Answers (.portDrainDone
    p) s fun t => (t.port p).phase = .off ∧ (t.time p).offer = none ∧ getReg t (Reg.fabLaneGood p) = 0) ∧
  (∀ (w : RegWrite) (q : Site) (s : State), isReg w .fab0 0x108 = true → servedAt s w = some q → fld w.val 16 16 = 0x5A25 → bit w.val 0
    = true → bit w.val 2 = true → bit w.val 1 = false → bit w.val 3 = false → bit w.val 4 = false → (s.port q.1.inst).phase = .up →
    Answers (.patchPort w) s fun t => (t.port q.1.inst).phase = .patching ∧ (t.port q.1.inst).width = 0 ∧ (t.link q.1.inst).joined =
    false) ∧
  (∀ (w : RegWrite) (q : Site) (s : State), isReg w .fab0 0x108 = true → servedAt s w = some q → fld w.val 16 16 = 0x5A25 → bit w.val 0
    = true → bit w.val 1 = false → bit w.val 2 = false → bit w.val 3 = true → bit w.val 4 = false → (s.port q.1.inst).phase = .down →
    (s.port q.1.inst).hot = false → exec (.retrain w) s = .next (trainPort (setReg s (Reg.fabCtrl q.1.inst) (w.val &&& 7)) q.1.inst
    false)) ∧
  (∀ (w : RegWrite) (q : Site) (s : State), isReg w .fab0 0x108 = true → servedAt s w = some q → fld w.val 16 16 = 0x5A25 → bit w.val 0
    = true → bit w.val 1 = false → bit w.val 2 = false → bit w.val 3 = false → bit w.val 4 = true → Answers (.rejoin w) s fun t =>
    t.deferred = s.deferred ++ [.rejoin q.1.inst] ∧ t.ports = s.ports) ∧
  (∀ (p : Fin 6) (s : State), (s.port p).phase = .up → (s.port p).outcome = 1 → ((applyDeferred s (.rejoin p)).link p).joined = true) ∧
  (∀ (p : Fin 6) (s : State), (s.port p).phase = .dark → exec (.partnerLight p) s = .next (trainPort s p true)) ∧
  (∀ (p : Fin 6) (s : State), (s.port p).phase = .patching → exec (.partnerLight p) s = .next (trainPort s p false)) ∧
  (∀ (p : Fin 6) (s : State), (s.port p).phase = .patching → Answers (.patchDarkTimeout p) s fun t => (t.port p).phase = .dark ∧ (t.port
    p).outcome = 4) ∧
  (∀ (w : RegWrite) (q : Site) (s : State), isReg w .fab0 0x120 = true → servedAt s w = some q → mapReject s q.1.inst w.val = none →
    exec (.fabMapWrite w) s = .next ({ s with deferred := s.deferred ++ [.fabMap q.1.inst (w.val &&& 15)] })) ∧
  (∀ (w : RegWrite) (q : Site) (r : Nat) (s : State), isReg w .fab0 0x120 = true → servedAt s w = some q → mapReject s q.1.inst w.val =
    some r → Answers (.fabMapWrite w) s fun t => t.deferred = s.deferred ∧ t.ports = s.ports ∧ getReg t (Reg.fabMap q.1.inst) = getReg s
    (Reg.fabMap q.1.inst)) ∧
  (∀ (w : RegWrite) (q : Site) (s : State), isReg w .fab1 0x128 = true → servedAt s w = some q → bit w.val 0 = true → routeOk ((getLatch
    s w.who (Reg.fabRtIndex q.1.inst)).headD 0) = true → Answers (.fabRtCommit w) s fun t => t.deferred = s.deferred ++ [.route (fld
    (latchedIndex s w.who (Reg.fabRtIndex q.1.inst)) 0 12) ((getLatch s w.who (Reg.fabRtIndex q.1.inst)).headD 0)] ∧ getBit t
    (Reg.fabRtCommit q.1.inst) 1 = false ∧ t.routes = s.routes)

/-- Mailbox requests, partition resets, wipes, TAKEOVER (R81, R86, R431 to R436, R455, R474, R482). -/
def Obligations.PartitionCommandsComplete : Prop :=
  (∀ (w : RegWrite) (q : Site) (s : State), isMbox w 1 = true → servedAt s w = some q → getBit s Reg.devMboxStatus 0 = false →
    assignCode s (mboxData s) = 0 → Answers (.mbxPartAssign w) s fun t => t.deferred = s.deferred ++ [.assign (mboxData s)] ∧ getBit t
    Reg.devMboxStatus 0 = true ∧ getReg t (Reg.partPool1 (leAt (mboxData s) 0 1)) = word (leAt (mboxData s) 0x10 4) ∧ getFld t
    (Reg.partCfg (leAt (mboxData s) 0 1)) 16 12 = leAt (mboxData s) 2 2) ∧
  (∀ (w : RegWrite) (q : Site) (s : State), isMbox w 1 = true → servedAt s w = some q → getBit s Reg.devMboxStatus 0 = false →
    assignCode s (mboxData s) ≠ 0 → Answers (.mbxPartAssign w) s fun t => getFld t Reg.devMboxStatus 16 16 = assignCode s (mboxData s) ∧
    getBit t Reg.devMboxStatus 0 = false ∧ t.deferred = s.deferred) ∧
  (∀ (w : RegWrite) (q : Site) (s : State), isMbox w 2 = true → servedAt s w = some q → getBit s Reg.devMboxStatus 0 = false → (leAt
    (mboxData s) 0 1) < 64 → partPhase s (leAt (mboxData s) 0 1) = 1 ∨ partPhase s (leAt (mboxData s) 0 1) = 2 → Answers (.partRelease
    w) s fun t => .release (leAt (mboxData s) 0 1) ∈ t.deferred ∧ .partReset (leAt (mboxData s) 0 1) ∉ t.deferred ∧ getBit t
    Reg.devMboxStatus 0 = true) ∧
  (∀ (w : RegWrite) (q : Site) (s : State), isMbox w 3 = true → servedAt s w = some q → getBit s Reg.devMboxStatus 0 = false → (leAt
    (mboxData s) 0 1) < 64 → canReset s (leAt (mboxData s) 0 1) = true → Answers (.partReset w) s fun t => partPhase t (leAt (mboxData
    s) 0 1) = 2 ∧ .partReset (leAt (mboxData s) 0 1) ∈ t.deferred ∧ ringOn t (leAt (mboxData s) 0 1) false = false ∧ ringOn t (leAt
    (mboxData s) 0 1) true = false ∧ getBit t Reg.devMboxStatus 0 = true) ∧
  (∀ (w : RegWrite) (q : Site) (s : State), isReg w .part 0x158 = true → servedAt s w = some q → bit w.val 0 = true → canReset s
    q.1.inst = true → Answers (.partCtrlReset w) s fun t => partPhase t q.1.inst = 2 ∧ .partReset q.1.inst ∈ t.deferred ∧ ringOn t
    q.1.inst false = false ∧ ringOn t q.1.inst true = false) ∧
  (∀ (part : Fin 64) (s : State), canReset s part.val = true → Answers (.functionLevelReset part) s fun t => partPhase t part.val = 2 ∧
    .partReset part.val ∈ t.deferred ∧ ringOn t part.val false = false ∧ ringOn t part.val true = false) ∧
  (∀ (part : Fin 64) (s : State), canReset s part.val = false → exec (.functionLevelReset part) s = .next (resetVf s part.val)) ∧
  (∀ (part : Fin 64) (s : State), partPhase s part.val = 3 → .coresWiped part.val ∉ s.deferred → waitingRecords s part.val = 0 → Answers
    (.wipeDone part) s fun t => partPhase t part.val = 0 ∧ getReg t (Reg.partCfg part.val) = 0 ∧ getReg t (Reg.partPool1 part.val) = 0 ∧
    (∀ x ∈ t.wiping, x.1 ≠ part.val) ∧ getBit t (blkIntRaw (Reg.partBlk part.val)) 17 = true) ∧
  (∀ (part : Fin 64) (s : State), partPhase s part.val = 2 → .partReset part.val ∉ s.deferred → Answers (.resetDone part) s fun t =>
    partPhase t part.val = 1 ∧ (∀ x ∈ t.wiping, x.1 ≠ part.val) ∧ getBit t (blkIntRaw (Reg.partBlk part.val)) 20 = true) ∧
  (∀ (w : RegWrite) (q : Site) (s : State), isMbox w 5 = true → servedAt s w = some q → getBit s Reg.devMboxStatus 0 = false → Answers
    (.setTwin w) s fun t => t.deferred = s.deferred ++ [.setTwin (word (leAt (mboxData s) 0 8))] ∧ getFld t Reg.devMboxStatus 16 16 = 0
    ∧ getBit t Reg.devMboxStatus 0 = false) ∧
  (∀ (w : RegWrite) (q : Site) (s : State), isMbox w 6 = true → servedAt s w = some q → getBit s Reg.devMboxStatus 0 = false → leAt
    (mboxData s) 0 2 < 2 ^ 14 → s.nvs.ok = true → Answers (.setShape w) s fun t => t.nvs.colophon.shape = leAt (mboxData s) 0 2 ∧
    t.colophon = s.colophon ∧ getFld t Reg.devMboxStatus 16 16 = 0 ∧ getBit t Reg.devMboxStatus 0 = false) ∧
  (∀ (w : RegWrite) (q : Site) (s : State), isMbox w 7 = true → servedAt s w = some q → getBit s Reg.devMboxStatus 0 = false → s.nvs.ok
    = true → Answers (.setEpochBase w) s fun t => t.nvs.colophon.epochBase = word (leAt (mboxData s) 0 8) ∧ t.colophon.epochBase = word
    (leAt (mboxData s) 0 8) ∧ getFld t Reg.devMboxStatus 16 16 = 0 ∧ getBit t Reg.devMboxStatus 0 = false) ∧
  (∀ (w : RegWrite) (q : Site) (s : State), isMbox w 8 = true → servedAt s w = some q → getBit s Reg.devMboxStatus 0 = false → bit
    (inForceReg s Reg.devTwinCfg) 26 = true → (s.mirrors.any fun m => m.2.home = getReg s (Reg.devMboxData 0)) = true → Answers
    (.takeover w) s fun t => (∀ h ∈ t.homes, h.serial = getReg s (Reg.devMboxData 0) → Cover.device ∈ h.adopt) ∧ t.homes.length =
    s.homes.length ∧ getBit t Reg.devMboxStatus 0 = true) ∧
  (∀ (w : RegWrite) (q : Site) (s : State), isMbox w 8 = true → servedAt s w = some q → getBit s Reg.devMboxStatus 0 = false → bit
    (inForceReg s Reg.devTwinCfg) 26 = false → Answers (.takeover w) s fun t => getFld t Reg.devMboxStatus 16 16 = 0x616 ∧ getBit t
    Reg.devMboxStatus 0 = false ∧ t.homes = s.homes)

/-- D3hot, D0, the PCIe links, DEV_REGION_COMMIT, DEV_HOST_ARB (R437, R439 to R441, R451). -/
def Obligations.FunctionsAndRegionsComplete : Prop :=
  (∀ (fn : Option (Fin 64)) (port : Half) (s : State), Answers (.d3hot fn port) s fun t => Map.get (fun _ => false) t.d3hot (d3Key port
    fn) = true ∧ t.out = s.out ∧ t.regs = s.regs) ∧
  (∀ (fn : Option (Fin 64)) (port : Half) (s : State), Answers (.d0Enter fn port) s fun t => Map.get (fun _ => false) t.d3hot (d3Key
    port fn) = false ∧ ∀ x ∈ t.heldOut, portStopped t x.1 = true ∨ inD3 t x.2.1 = true) ∧
  (∀ (port : Half) (s : State), Answers (.pcieLinkDown port) s fun t => portStopped t port.idx = true ∧ t.heldOut = s.heldOut) ∧
  (∀ (port : Half) (s : State), Answers (.pcieLinkUp port true) s fun t => portStopped t port.idx = false ∧ ∀ x ∈ t.heldOut, portStopped
    t x.1 = true ∨ inD3 t x.2.1 = true) ∧
  (∀ (port : Half) (s : State), Answers (.pcieLinkUp port false) s fun t => portStopped t port.idx = true ∧ t.heldOut = s.heldOut) ∧
  (∀ (w : RegWrite) (q : Site) (s : State), isReg w .dev0 0x358 = true → servedAt s w = some q → bit w.val 0 = true → regionReasons s
    (fld (latchedIndex s w.who Reg.devRegionIndex) 0 10) (regionOf ((getLatch s w.who Reg.devRegionIndex).getD 0 0) ((getLatch s w.who
    Reg.devRegionIndex).getD 1 0)) = [] → Answers (.devRegionCommit w) s fun t => t.region (fld (latchedIndex s w.who
    Reg.devRegionIndex) 0 10) = (regionOf ((getLatch s w.who Reg.devRegionIndex).getD 0 0) ((getLatch s w.who Reg.devRegionIndex).getD 1
    0)) ∧ getReg t Reg.devRegionCommit = 0 ∧ ∀ r, r ≠ (fld (latchedIndex s w.who Reg.devRegionIndex) 0 10) → t.region r = s.region r) ∧
  (∀ (w : RegWrite) (q : Site) (s : State), isReg w .dev0 0x358 = true → servedAt s w = some q → bit w.val 0 = true → regionReasons s
    (fld (latchedIndex s w.who Reg.devRegionIndex) 0 10) (regionOf ((getLatch s w.who Reg.devRegionIndex).getD 0 0) ((getLatch s w.who
    Reg.devRegionIndex).getD 1 0)) ≠ [] → Answers (.devRegionCommit w) s fun t => t.regions = s.regions ∧ getBit t Reg.devRegionCommit 1
    = true) ∧
  (∀ (w : RegWrite) (q : Site) (s : State), isReg w .dev0 0x380 = true → servedAt s w = some q → fld w.val 0 2 ≠ 3 → epochSeen s (viaHub
    w.who) < fld w.val 16 48 → Answers (.devHostArbWrite w) s fun t => (t.hub (viaHub w.who)).arb = w.val &&& (ones 0 2 ||| ones 16 48)
    ∧ (hubLinkUp s = true → t.hub (viaHub w.who).other =
    { s.hub (viaHub w.who).other with arb := w.val &&& (ones 0 2 ||| ones 16 48) })) ∧
  (∀ (w : RegWrite) (q : Site) (s : State), isReg w .dev0 0x380 = true → servedAt s w = some q → fld w.val 0 2 = 3 ∨ fld w.val 16 48 ≤
    epochSeen s (viaHub w.who) → exec (.devHostArbWrite w) s = .next (setArb s (viaHub w.who) (setBit (s.hub (viaHub w.who)).arb 3
    true)))

/-- Q_SQ_DB, Q_CQ_DB, Q_OUT_DB, Q_RING_CTRL, PART_DRING_CTRL and the delay of completions (R445, R446, R449, R458, R459). -/
def Obligations.RingsComplete : Prop :=
  (∀ (w : RegWrite) (q : Site) (s : State), (isReg w .q0 0x100 || isReg w .part 0x198) = true → servedAt s w = some q → ringRuns s
    q.1.inst (isDriver q.1) = true → fld w.val 0 16 < sqSize s q.1.inst (isDriver q.1) → outstanding (sqHead s q.1.inst (isDriver q.1))
    (s.ring q.1.inst (isDriver q.1)).sqTail (sqSize s q.1.inst (isDriver q.1)) ≤ outstanding (sqHead s q.1.inst (isDriver q.1)) (fld
    w.val 0 16) (sqSize s q.1.inst (isDriver q.1)) → exec (.qSqDb w) s = .next (s.setRing q.1.inst (isDriver q.1)
    { s.ring q.1.inst (isDriver q.1) with sqTail := fld w.val 0 16 })) ∧
  (∀ (w : RegWrite) (q : Site) (s : State), (isReg w .q0 0x100 || isReg w .part 0x198) = true → servedAt s w = some q → ringRuns s
    q.1.inst (isDriver q.1) = false → exec (.qSqDb w) s = .next (count s (Reg.qDbIgnored q.1.inst) 1)) ∧
  (∀ (w : RegWrite) (q : Site) (s : State), (isReg w .q0 0x100 || isReg w .part 0x198) = true → servedAt s w = some q → ringRuns s
    q.1.inst (isDriver q.1) = true → sqSize s q.1.inst (isDriver q.1) ≤ fld w.val 0 16 → Answers (.qSqDb w) s fun t => t.rings =
    s.rings) ∧
  (∀ (w : RegWrite) (q : Site) (s : State), (isReg w .q0 0x108 || isReg w .part 0x1A0) = true → servedAt s w = some q → ringOn s
    q.1.inst (isDriver q.1) = true → fld w.val 0 16 < cqSize s q.1.inst (isDriver q.1) → outstanding (fld w.val 0 16) (cqTail s q.1.inst
    (isDriver q.1)) (cqSize s q.1.inst (isDriver q.1)) ≤ outstanding (s.ring q.1.inst (isDriver q.1)).cqHead (cqTail s q.1.inst
    (isDriver q.1)) (cqSize s q.1.inst (isDriver q.1)) → outstanding (s.ring q.1.inst (isDriver q.1)).cqHead (fld w.val 0 16) (cqSize s
    q.1.inst (isDriver q.1)) ≤ outstanding (s.ring q.1.inst (isDriver q.1)).cqHead (cqTail s q.1.inst (isDriver q.1)) (cqSize s q.1.inst
    (isDriver q.1)) → exec (.qCqDb w) s = .next (s.setRing q.1.inst (isDriver q.1)
    { s.ring q.1.inst (isDriver q.1) with cqHead := fld w.val 0 16 })) ∧
  (∀ (w : RegWrite) (q : Site) (s : State), isReg w .q0 0x110 = true → servedAt s w = some q → ringOn s q.1.inst false = true → fld
    w.val 0 12 < outSize s q.1.inst → outstanding (s.ring q.1.inst false).outHead (fld w.val 0 12) (outSize s q.1.inst) ≤ outstanding
    (s.ring q.1.inst false).outHead (outTail s q.1.inst) (outSize s q.1.inst) → exec (.qOutDb w) s = .next (s.setRing q.1.inst false
    { s.ring q.1.inst false with outHead := fld w.val 0 12 })) ∧
  (∀ (w : RegWrite) (q : Site) (s : State), (isReg w .q1 0x100 || isReg w .part 0x170) = true → servedAt s w = some q → bit w.val 0 =
    true → ringSizesOk (isDriver q.1) w.val = true → ringOn s q.1.inst (isDriver q.1) = false → enableOk (setReg s (ringCtrl q.1.inst
    (isDriver q.1)) (w.val &&& (if (isDriver q.1) then word 0x1F1F00 else word 0xF1F1F00))) q.1.inst (isDriver q.1) = true → Answers
    (.ringEnable w) s fun t => ringRuns t q.1.inst (isDriver q.1) = true ∧ ringOn t q.1.inst (isDriver q.1) = true ∧ (t.ring q.1.inst
    (isDriver q.1)).sqTail = 0 ∧ sqHead t q.1.inst (isDriver q.1) = 0 ∧ cqTail t q.1.inst (isDriver q.1) = 0) ∧
  (∀ (w : RegWrite) (q : Site) (s : State), (isReg w .q1 0x100 || isReg w .part 0x170) = true → servedAt s w = some q → bit w.val 0 =
    true → ringSizesOk (isDriver q.1) w.val = true → ringOn s q.1.inst (isDriver q.1) = false → enableOk (setReg s (ringCtrl q.1.inst
    (isDriver q.1)) (w.val &&& (if (isDriver q.1) then word 0x1F1F00 else word 0xF1F1F00))) q.1.inst (isDriver q.1) = false → Answers
    (.ringEnable w) s fun t => getFld t (ringStatus q.1.inst (isDriver q.1)) 48 8 = 2 ∧ t.rings = s.rings ∧ ringOn t q.1.inst (isDriver
    q.1) = false) ∧
  (∀ (w : RegWrite) (q : Site) (s : State), (isReg w .q1 0x100 || isReg w .part 0x170) = true → servedAt s w = some q → bit w.val 0 =
    false → ringSizesOk (isDriver q.1) w.val = true → ringOn s q.1.inst (isDriver q.1) = true → Answers (.ringDisable w) s fun t =>
    ringOn t q.1.inst (isDriver q.1) = false ∧ ringRuns t q.1.inst (isDriver q.1) = false) ∧
  (∀ (part : Fin 64) (at_ : Nat) (s : State), (s.ring part.val false).unsignalled = some at_ → exec (.cqDelayExpiry part) s = .next ((if
    getBit s (Reg.qIntCfg part.val) 24 then sendVector (s.setRing part.val false { s.ring part.val false with unsignalled := none })
    (part.val + 1) 0 else s.setRing part.val false { s.ring part.val false with unsignalled := none })))

/-- Heartbeats, the lease, watchdogs, host arbitration, fencing, the loss of the hub link (R467 to R473). -/
def Obligations.LeaseComplete : Prop :=
  (∀ (h : Half) (s : State), hubLinkUp s = true → Answers (.heartbeat h) s fun t => getBit t (Reg.hubMcStatus h.other.idx) 5 = true ∧
    getFld t (Reg.hubMcStatus h.other.idx) 8 8 = 0 ∧ mcRuns t h = true) ∧
  (∀ (h : Half) (s : State), Answers (.mcPeerLost h) s fun t => getBit t (Reg.hubMcStatus h.idx) 5 = false ∧ 3 ≤ getFld t
    (Reg.hubMcStatus h.idx) 8 8) ∧
  (∀ (h : Half) (s : State), hubAlive s h = true → nvsReach s h = true → leaseValid s = false → Answers (.acquire h) s fun t =>
    t.nvs.lease.holder = mcNum h ∧ t.nvs.lease.epoch = (s.nvs.lease.epoch + 1) % 2 ^ 48 ∧ t.nvs.lease.expires = (s.nvs.timer + 5000) % 2
    ^ 32 ∧ mcActs t h = true ∧ mcActs t h.other = false) ∧
  (∀ (h : Half) (s : State), hubAlive s h = true → nvsReach s h = true → leaseValid s = true → s.nvs.lease.holder ≠ mcNum h → Answers
    (.acquire h) s fun t => t.nvs.lease = { s.nvs.lease with queued := mcNum h }) ∧
  (∀ (h : Half) (s : State), nvsReach s h = true → leaseValid s = true → s.nvs.lease.holder = mcNum h → exec (.renew h) s = .next
    (s.setLease { s.nvs.lease with expires := (s.nvs.timer + 5000) % 2 ^ 32, renewals := satAdd 0xFFFFFFFF s.nvs.lease.renewals 1 })) ∧
  (∀ (h : Half) (s : State), nvsReach s h = true → leaseValid s = false ∨ s.nvs.lease.holder ≠ mcNum h → Answers (.renew h) s fun t =>
    mcActs t h = false ∧ t.nvs = s.nvs) ∧
  (∀ (h : Half) (s : State), nvsReach s h = true → s.nvs.lease.holder = mcNum h → s.nvs.lease.queued = 0 → Answers (.release h) s fun t
    => t.nvs.lease = { s.nvs.lease with holder := 0 } ∧ mcActs t h = false) ∧
  (∀ (s : State), s.nvs.lease.holder ≠ 0 → leaseValid s = false → s.nvs.lease.queued = 0 → Answers (.leaseExpiry) s fun t => t.nvs.lease
    = { s.nvs.lease with holder := 0 } ∧ mcActs t (mcHalf s.nvs.lease.holder) = false) ∧
  (∀ (h : Half) (s : State), s.nvs.lease.holder ≠ 0 → leaseValid s = false → s.nvs.lease.queued = mcNum h → Answers (.leaseExpiry) s fun
    t => t.nvs.lease.holder = mcNum h ∧ t.nvs.lease.queued = 0 ∧ mcActs t h = true) ∧
  (∀ (h : Half) (s : State), Answers (.renewTimeout h) s fun t => nvsReach t h = false ∧ (leaseValid s = false → mcActs t h = false) ∧
    t.nvs = s.nvs) ∧
  (∀ (h : Half) (s : State), mcRuns s h = true → mcRuns s h.other = true → s.nvs.lease.queued = 0 → Answers (.mcWatchdog h) s fun t =>
    mcRuns t h = false ∧ mcActs t h = false ∧ t.nvs.lease.holder ≠ mcNum h) ∧
  (∀ (h : Half) (s : State), mcRuns s h = true → mcRuns s h.other = false → Answers (.mcWatchdog h) s fun t => mcRuns t h = false ∧
    getBit t Reg.devFailStatus 0 = true) ∧
  (∀ (h : Half) (s : State), mcRuns s h = true → nvsReach s h = false → (leaseValid s && decide (s.nvs.lease.holder = mcNum h)) = false
    → peerHolds s h = false → arbChooses s h = true → Answers (.hostArbActing h) s fun t => mcActs t h = true ∧ getFld t
    (Reg.hubMcStatus h.idx) 2 2 = 1 ∧ (t.hub h).arbSeen = fld (s.hub h).arb 16 48) ∧
  (∀ (s : State), anyActs s = false → leaseValid s = false → getBit s Reg.devFailStatus 1 = false → Answers (.fenced) s fun t => getBit
    t Reg.devFailStatus 1 = true ∧ getBit t Reg.devFailStatus 0 = true ∧ getFld t (Reg.hubMcStatus 0) 2 2 = 3 ∧ getFld t
    (Reg.hubMcStatus 1) 2 2 = 3) ∧
  (∀ (s : State), hubLinkUp s = true → s.nvs.lease.holder = 1 → exec (.hubLinkLost) s = .next (requestHalf (devEvent
    { s with hubLink := false } 0x033 0 0) .east)) ∧
  (∀ (s : State), hubLinkUp s = true → s.nvs.lease.holder = 2 → exec (.hubLinkLost) s = .next (requestHalf (devEvent
    { s with hubLink := false } 0x033 0 0) .west))

/-- MIRROR messages at the twin (R474, R475, R477, R478, R481, R482, R485). -/
def Obligations.MirrorEntriesComplete : Prop :=
  (∀ (a : Arrival) (s : State), nextMsg s (isMirror 1) = some a → findMirror s a.msg.home a.msg.index a.msg.gen = none → Answers
    (.mirrorOpen) s fun t => (findMirror t a.msg.home a.msg.index a.msg.gen).isSome = (judgeOpen s a.msg).isRight ∧ ((judgeOpen s
    a.msg).isLeft = true → t.mirrors = s.mirrors)) ∧
  (∀ (a : Arrival) (k : Nat) (s : State), nextMsg s (isMirror 2) = some a → findMirror s a.msg.home a.msg.index a.msg.gen = some k →
    Answers (.mirrorTokens) s fun t => ∀ j, j < (a.msg.content.length - 4) / 4 → Map.get zeroAt (t.mirror k).toklog (leAt a.msg.content
    0 4 + j) = leAt a.msg.content (4 + 4 * j) 4 % 2 ^ 20) ∧
  (∀ (a : Arrival) (k : Nat) (s1 : State) (s : State), takeMsg s (isMirror 3) = some (a, true, s1) → findMirror s a.msg.home a.msg.index
    a.msg.gen = some k → exec (.mirrorRows) s = .next (acknowledge (applyRows (countRows (hear s1 a.msg.home) a.msg) k a.msg) a.msg)) ∧
  (∀ (a : Arrival) (s1 : State) (s : State), takeMsg s (fun a => isMirror 4 a && rowsDone s a.msg) = some (a, true, s1) → exec
    (.mirrorStep) s = .next (acknowledge (applyStep (hear s1 a.msg.home) a.msg) a.msg)) ∧
  (∀ (a : Arrival) (k : Nat) (s : State), nextMsg s (isMirror 5) = some a → findMirror s a.msg.home a.msg.index a.msg.gen = some k →
    Answers (.mirrorChange) s fun t => (t.mirror k).image = a.msg.content.take 0x68 ∧ (t.mirror k).toklog = (s.mirror k).toklog) ∧
  (∀ (a : Arrival) (k : Nat) (s : State), nextMsg s (isMirror 6) = some a → findMirror s a.msg.home a.msg.index a.msg.gen = some k →
    Answers (.mirrorEnd) s fun t => t.mirrors = Map.del s.mirrors k) ∧
  (∀ (a : Arrival) (k : Nat) (s1 : State) (s : State), takeMsg s (isMirror 7) = some (a, true, s1) → findMirror s a.msg.home a.msg.index
    a.msg.gen = some k → exec (.mirrorSync) s = .next (acknowledge (applyRows (hear s1 a.msg.home) k a.msg) a.msg)) ∧
  (∀ (a : Arrival) (k : Nat) (s : State), nextMsg s (isMirror 8) = some a → findMirror s a.msg.home a.msg.index a.msg.gen = some k →
    Answers (.syncDone) s fun t => (t.mirror k).sync = 2) ∧
  (∀ (a : Arrival) (s : State), nextMsg s (isMirror 9) = some a → Answers (.beatMsg) s fun t => (∀ h ∈ t.homes, h.serial = a.msg.home →
    h.lastAt = s.clock.now ∧ h.silent = false) ∧ t.homes.length = s.homes.length) ∧
  (∀ (a : Arrival) (s : State), nextMsg s (isMirror 10) = some a → bit (inForceReg s Reg.devTwinCfg) 26 = true → Answers (.declareMsg) s
    fun t => (∀ h ∈ t.homes, h.serial = a.msg.home → (if leAt a.msg.content 0 1 = 0 then Cover.device else .part (leAt a.msg.content 1 1
    % 64)) ∈ h.adopt) ∧ t.homes.length = s.homes.length) ∧
  (∀ (a : Arrival) (k : Nat) (s : State), nextMsg s (isMirror 11) = some a → findMirror s a.msg.home a.msg.index a.msg.gen = some k →
    bit (inForceReg s Reg.devTwinCfg) 26 = true → Answers (.handoffMsg) s fun t => (∀ h ∈ t.homes, h.serial = a.msg.home → Cover.req
    a.msg.index ∈ h.adopt) ∧ t.homes.length = s.homes.length)

/-- HANDOFF, REFUSE, MIRROR_TIMEOUT, ISOLATED, HOME_SILENT (R475, R476, R479, R482, R485). -/
def Obligations.TwinHomesComplete : Prop :=
  (∀ (req : Fin 32768) (s : State), (s.entry req.val).twin = 1 → (s.entry req.val).synced = true → (s.entry req.val).hasSkip skSuspect =
    true → mirrors s = true → req.val ∉ s.home.handed → req.val ∉ s.home.declared → Answers (.handoffSend req) s fun t => t.home.handed
    = s.home.handed ++ [req.val] ∧ t.entries = s.entries) ∧
  (∀ (a : Arrival) (s : State), nextMsg s (isMirror 12) = some a → (s.entry a.msg.index).gen = a.msg.gen → (s.entry a.msg.index).twin ≠
    0 → Answers (.refuseMsg) s fun t => (t.entry a.msg.index).twin = 0 ∧ (t.entry a.msg.index).synced = false ∧ (t.entry
    a.msg.index).state = (s.entry a.msg.index).state) ∧
  (∀ (s : State), s.home.steps ≠ [] → usablePorts s ≠ [] → Answers (.mirrorTimeout none) s fun t => homeState t = 2 ∧ t.home.steps = []
    ∧ t.home.handed = [] ∧ getBit t (blkIntRaw Reg.devBlk) 26 = true) ∧
  (∀ (req : Fin 32768) (s : State), req.val ∈ s.home.handed → Answers (.mirrorTimeout (some req)) s fun t => req.val ∉ t.home.handed ∧
    (t.entry req.val).twin = 0 ∧ (t.entry req.val).state = (s.entry req.val).state) ∧
  (∀ (s : State), s.home.steps ≠ [] → usablePorts s = [] → getBit s Reg.devFailStatus 0 = false → Answers (.isolated) s fun t => getBit
    t Reg.devFailStatus 0 = true ∧ getFld t Reg.devFailStatus 4 4 = 7) ∧
  (∀ (serial : BitVec 64) (s : State), (s.homes.any fun h => h.serial = serial ∧ silentFor s h = true) = true → Answers (.homeSilent
    serial) s fun t => (∀ h ∈ t.homes, h.serial = serial → h.silent = true) ∧ getBit t (blkIntRaw Reg.devBlk) 26 = true)

/-- The writing of records, summaries, the degraded log (R470, R487, R522 to R526). -/
def Obligations.EventLogComplete : Prop :=
  (∀ (westFail eastFail : Bool) (e : EventRec) (rest : List EventRec) (s : State), s.events.queue = e :: rest → logWrites s = true →
    Answers (.eventRecordWrite westFail eastFail) s fun t => t.events.queue = rest ∧ t.nvs.log = Map.put s.nvs.log s.nvs.logNext e ∧
    t.nvs.logNext = (s.nvs.logNext + 1) % 65536 ∧ getBit t (blkIntRaw Reg.nvsBlk) 16 = true) ∧
  (∀ (e : EventRec) (rest : List EventRec) (s : State), s.events.queue = e :: rest → logWrites s = false → Answers (.eventRecordWrite
    true true) s fun t => t.events.queue = rest ∧ t.nvs.log = s.nvs.log ∧ (t.hub .west).mirrorOk = false ∧ (t.hub .east).mirrorOk =
    false) ∧
  (∀ (type : Nat) (x : CoalSlot) (rest : Map CoalSlot) (s : State), s.events.coal = (type, x) :: rest → s.events.queue.length ≤ 256 →
    Answers (.evtSummary) s fun t => t.events.coal = rest ∧ t.events.queue.length = s.events.queue.length + 1 ∧ t.events.summaries =
    s.events.summaries + 1 ∧ t.events.coalescing = decide (rest ≠ [])) ∧
  (∀ (s : State), getBit s Reg.nvsStatus 0 = false → Answers (.logDegraded) s fun t => getBit t Reg.nvsStatus 0 = true ∧ getBit t
    (blkIntRaw Reg.nvsBlk) 18 = true) ∧
  (∀ (s : State), s.nvs.writesStopped = false → getBit s Reg.nvsStatus 0 = true → Answers (.logResumed) s fun t => getBit t
    Reg.nvsStatus 0 = false ∧ t.nvs.ok = true ∧ t.nvs.ledgerHeld = [])

/-- CNT_SNAP_CTRL, captures, automatic snapshots, occupancy counters (R503 to R508, R528, R530). -/
def Obligations.SnapshotsComplete : Prop :=
  (∀ (w : RegWrite) (q : Site) (s : State), isReg w .cnt0 0x100 = true → servedAt s w = some q → bit w.val 32 = true → s.capture = none
    → fld w.val 0 32 &&& reservedGroups = 0 → getFld s Reg.cntSnapAt 0 63 = 0 ∨ s.clock.now + 1000 ≤ getFld s Reg.cntSnapAt 0 63 →
    Answers (.groupSnapshot w) s fun t => t.capture = some ⟨(if getFld s Reg.cntSnapAt 0 63 = 0 then s.clock.now + 1000 else getFld s
    Reg.cntSnapAt 0 63), fld w.val 0 32, bit w.val 33, true⟩ ∧ getBit t Reg.cntSnapStatus 0 = true ∧ getBit t Reg.cntSnapStatus 1 =
    false ∧ t.cnt = s.cnt) ∧
  (∀ (w : RegWrite) (q : Site) (s : State), isReg w .cnt0 0x100 = true → servedAt s w = some q → bit w.val 33 = true → s.capture = none
    → fld w.val 0 32 &&& reservedGroups = 0 → getFld s Reg.cntSnapAt 0 63 = 0 ∨ s.clock.now + 1000 ≤ getFld s Reg.cntSnapAt 0 63 →
    Answers (.groupClear w) s fun t => t.capture = some ⟨(if getFld s Reg.cntSnapAt 0 63 = 0 then s.clock.now + 1000 else getFld s
    Reg.cntSnapAt 0 63), fld w.val 0 32, true, bit w.val 32⟩ ∧ getBit t Reg.cntSnapStatus 0 = true ∧ t.cnt = s.cnt) ∧
  (∀ (w : RegWrite) (q : Site) (s : State), isReg w .cnt0 0x100 = true → servedAt s w = some q → bit w.val 32 = true → s.capture.isSome
    = true → Answers (.groupSnapshot w) s fun t => t.capture = s.capture ∧ getBit t Reg.cntSnapStatus 1 = true) ∧
  (∀ (x : GroupCapture) (g : Nat) (s : State), s.capture = some x → x.at_ ≤ s.clock.now → x.groups = 2 ^ g → g < 14 → x.clear = false →
    x.snap = true → fld (Map.get (fun _ => 0) s.snap (Reg.cntGrpStamp g)) 0 61 = 0 → Answers (.snapshotCapture) s fun t => t.capture =
    none ∧ (∀ off ∈ groupCounters g, Map.get (fun _ => 0) t.snap off = getCnt s off) ∧ t.cnt = s.cnt ∧ getBit t Reg.cntSnapStatus 0 =
    false ∧ getBit t (blkIntRaw Reg.cntBlk) 17 = true) ∧
  (∀ (x : GroupCapture) (g : Nat) (s : State), s.capture = some x → x.at_ ≤ s.clock.now → x.groups = 2 ^ g → g < 14 → x.clear = true →
    x.snap = false → Answers (.snapshotCapture) s fun t => t.capture = none ∧ (∀ off ∈ groupCounters g, getCnt t off = 0) ∧ t.snap =
    s.snap) ∧
  (∀ (s : State), getFld s Reg.cntAuto 0 16 ≠ 0 → stopState s < 3 → exec (.autoSnapshot) s = .next (captureAll s (fun _ => s.clock.now /
    (getFld s Reg.cntAuto 0 16 * 1000) * (getFld s Reg.cntAuto 0 16 * 1000)) (s.clock.now / (getFld s Reg.cntAuto 0 16 * 1000) * (getFld
    s Reg.cntAuto 0 16 * 1000)) false)) ∧
  (∀ (s : State), Answers (.occupancyTick) s fun t => ∀ g, g < 14 → getCnt t (Reg.cntGrpTicks g) = getCnt (count s (Reg.cntGrpTicks g)
    1) (Reg.cntGrpTicks g))

/-- The trace store and its control (R509 to R513, R515, R531). -/
def Obligations.TraceComplete : Prop :=
  (∀ (src : Fin 24) (r : TraceRec) (rest : List TraceRec) (s : State), (s.source src).fifo = r :: rest → (s.hub (traceHub
    src)).trace.frozen = false → (s.hub (traceHub src)).trace.dumping = false → (s.hub (traceHub src)).trace.count < storeSize → Answers
    (.traceRecord src) s fun t => (t.source src).fifo = rest ∧ (t.hub (traceHub src)).trace.count = (s.hub (traceHub src)).trace.count +
    1 ∧ Map.get TraceRec.blank (t.hub (traceHub src)).trace.recs (((s.hub (traceHub src)).trace.oldest + (s.hub (traceHub
    src)).trace.count) % storeSize) = r) ∧
  (∀ (w : RegWrite) (q : Site) (s : State), isReg w .trc 0x100 = true → servedAt s w = some q → bit w.val 3 = true → bit w.val 4 = false
    → Answers (.trcClear w) s fun t => (t.hub (pageHalf q.1)).trace.count = 0 ∧ (t.hub (pageHalf q.1)).trace.recs = [] ∧ (t.hub
    (pageHalf q.1)).trace.frozen = false ∧ getReg t (Reg.trcCtrl (pageHalf q.1).idx) = w.val &&& (ones 0 3 ||| ones 32 32)) ∧
  (∀ (w : RegWrite) (q : Site) (s : State), isReg w .trc 0x100 = true → servedAt s w = some q → bit w.val 3 = false → bit w.val 4 = true
    → exec (.trcMark w) s = .next (trace (setReg s (Reg.trcCtrl (pageHalf q.1).idx) (w.val &&& (ones 0 3 ||| ones 32 32))) (22 +
    (pageHalf q.1).idx) (markRecord (setReg s (Reg.trcCtrl (pageHalf q.1).idx) (w.val &&& (ones 0 3 ||| ones 32 32))) (pageHalf q.1)
    0))) ∧
  (∀ (w : RegWrite) (q : Site) (s : State), isReg w .trc 0x160 = true → servedAt s w = some q → bit w.val 0 = true → (s.hub (pageHalf
    q.1)).trace.dumping = false → ((s.region (baseRegion (getReg s (Reg.trcDumpCtrl (pageHalf q.1).idx)))).devOwned && regionOk s
    (baseRegion (getReg s (Reg.trcDumpCtrl (pageHalf q.1).idx))) (baseOffset (getReg s (Reg.trcDumpCtrl (pageHalf q.1).idx))) (32 *
    (s.hub (pageHalf q.1)).trace.count) (some (pageHalf q.1).idx) 0 true) = true → Answers (.trcDumpGo w) s fun t => (t.hub (pageHalf
    q.1)).trace = { (s.hub (pageHalf q.1)).trace with dumping := true } ∧ getBit t (Reg.trcDumpGo (pageHalf q.1).idx) 1 = false) ∧
  (∀ (w : RegWrite) (q : Site) (s : State), isReg w .trc 0x160 = true → servedAt s w = some q → bit w.val 0 = true → (s.hub (pageHalf
    q.1)).trace.dumping = false → ((s.region (baseRegion (getReg s (Reg.trcDumpCtrl (pageHalf q.1).idx)))).devOwned && regionOk s
    (baseRegion (getReg s (Reg.trcDumpCtrl (pageHalf q.1).idx))) (baseOffset (getReg s (Reg.trcDumpCtrl (pageHalf q.1).idx))) (32 *
    (s.hub (pageHalf q.1)).trace.count) (some (pageHalf q.1).idx) 0 true) = false → Answers (.trcDumpGo w) s fun t => t.hub (pageHalf
    q.1) = s.hub (pageHalf q.1) ∧ getBit t (Reg.trcDumpGo (pageHalf q.1).idx) 1 = true ∧ t.out = s.out) ∧
  (∀ (h : Half) (s : State), (s.hub h).trace.dumping = true → Answers (.dumpDone h) s fun t => (t.hub h).trace.dumping = false ∧ getBit
    t (blkIntRaw (Reg.trcBlk h.idx)) 18 = true)

/-- CNT_STOP_CTRL, boundary and immediate stops, their release (R516 to R521, R529). -/
def Obligations.StopsComplete : Prop :=
  (∀ (w : RegWrite) (q : Site) (s : State), isReg w .cnt0 0x140 = true → servedAt s w = some q → fld w.val 16 16 = 0x5A25 → bit w.val 2
    = true → fld w.val 0 2 = 1 → stopState s = 0 → Answers (.boundaryStopRequest w) s fun t => stopState t = 1 ∧ stopAtBoundary t = true
    ∧ inForceReg t Reg.cntStopAt = getReg s Reg.cntStopAt ∧ getBit t Reg.cntStopStatus 5 = false) ∧
  (∀ (w : RegWrite) (q : Site) (s : State), isReg w .cnt0 0x140 = true → servedAt s w = some q → fld w.val 16 16 = 0x5A25 → bit w.val 2
    = true → fld w.val 0 2 = 2 → stopState s = 0 → Answers (.immediateStopRequest w) s fun t => stopState t = 1 ∧ stopAtBoundary t =
    false ∧ inForceReg t Reg.cntStopAt = (if getReg s Reg.cntStopAt = 0 then word (s.clock.now + 2000) else getReg s Reg.cntStopAt)) ∧
  (∀ (w : RegWrite) (q : Site) (s : State), isReg w .cnt0 0x140 = true → servedAt s w = some q → fld w.val 16 16 = 0x5A25 → bit w.val 2
    = true → fld w.val 0 2 = 2 → stopState s = 1 → stopAtBoundary s = true → Answers (.immediateStopRequest w) s fun t => stopState t =
    1 ∧ stopAtBoundary t = false) ∧
  (∀ (w : RegWrite) (q : Site) (s : State), isReg w .cnt0 0x140 = true → servedAt s w = some q → fld w.val 16 16 = 0x5A25 → bit w.val 2
    = true → 2 < stopState s → Answers (.boundaryStopRequest w) s fun t => stopState t = stopState s ∧ getBit t Reg.cntStopStatus 5 =
    true ∧ t.inForce = s.inForce) ∧
  (∀ (w : RegWrite) (q : Site) (s : State), isReg w .cnt0 0x140 = true → servedAt s w = some q → fld w.val 16 16 = 0x5A25 → bit w.val 2
    = false → bit w.val 3 = true → stopState s = 1 ∨ stopState s = 2 → Answers (.stopRelease w) s fun t => stopState t = 0) ∧
  (∀ (w : RegWrite) (q : Site) (s : State), isReg w .cnt0 0x140 = true → servedAt s w = some q → fld w.val 16 16 = 0x5A25 → bit w.val 2
    = false → bit w.val 3 = true → stopState s = 3 → Answers (.stopRelease w) s fun t => stopState t = 0 ∧ (t.hub .west).trace.frozen =
    false ∧ (t.hub .east).trace.frozen = false) ∧
  (∀ (w : RegWrite) (q : Site) (s : State), isReg w .cnt0 0x140 = true → servedAt s w = some q → fld w.val 16 16 = 0x5A25 → bit w.val 2
    = false → bit w.val 3 = true → stopState s = 4 → Answers (.stopRelease w) s fun t => stopState t = 5 ∧ t.steps = s.steps) ∧
  (∀ (timeout : Bool) (s : State), stopDue s = true → stopState s ≤ 2 → atBoundary s = true → openMsgs s = 0 ∨ timeout = true → Answers
    (.stopBoundary timeout) s fun t => stopState t = 3 ∧ getReg t Reg.cntStopStep = (if s.steps.replay = .none then s.steps.num else
    s.steps.num - 1) ∧ getBit t Reg.cntStopStatus 4 = decide (openMsgs s ≠ 0) ∧ getBit t (blkIntRaw Reg.cntBlk) 16 = true ∧ t.steps =
    s.steps) ∧
  (∀ (s : State), stopDue s = true → stopState s ≤ 2 → atBoundary s = true → openMsgs s ≠ 0 → exec (.stopBoundary false) s = .next
    (setStop s 2)) ∧
  (∀ (offs : List (BitVec 7)) (s : State), offs.length = 24 → stopState s = 1 → stopAtBoundary s = false → stopAt s ≤ s.clock.now →
    haltsOk s (offs.map (·.toNat)) = true → Answers (.stopImmediate offs) s fun t => stopState t = 4 ∧ getReg t Reg.cntStopStep =
    s.steps.num ∧ t.steps = s.steps ∧ getBit t (blkIntRaw Reg.cntBlk) 16 = true) ∧
  (∀ (s : State), stopState s = 5 → Answers (.stopReleased) s fun t => stopState t = 0 ∧ t.steps.running = false)

/-- What a step does with a queue that is not empty: the interface of the block. -/
def Obligations.StepRunsFront : Prop :=
  (∀ (c : Instr) (rest : List Instr) (s : State), s.pending = c :: rest → step s = exec c { s with pending := rest })

/-- The model's choice (log 1): with no command waiting, the time counters run (R86, R410). -/
def Obligations.IdleTick : Prop :=
  (∀ (s : State), s.pending = [] → step s = .next (tick s)) ∧
  (∀ (s : State), (tick s).clock.now = s.clock.now + (slewed s.clock).1 ∧ (slewed s.clock).1 ≤ 2 ∧ tick s =
    { s with clock := (tick s).clock, nvs := { s.nvs with timer := (tick s).nvs.timer } })

/-- No command of the table is refused where its operands are ones that a stimulus can carry. -/
def Obligations.WellFormedRuns : Prop :=
  (∀ (c : Instr) (s : State), c.wf = true → c.fits s = true → Runs c s)

/-- The other side of well-formedness: the one fault of the model. -/
def Obligations.IllFormedFaults : Prop :=
  (∀ (c : Instr) (s : State), (c.wf && c.fits s) = false → exec c s = .fault .illFormed)

/-- What the reset state holds: every register stands at the reset value of its table; that this is the first cold start of a new part is the model's choice (log 80). -/
def Obligations.ResetState : Prop :=
  (∀ (s : State), s = State.reset → s.pending = [] ∧ s.entries = [] ∧ s.tensors = [] ∧ s.impos = [] ∧ s.regions = [] ∧ s.inbox = [] ∧
    s.out = [] ∧ s.west.phase = .starting ∧ s.east.phase = .starting ∧ s.west.step = 1 ∧ s.east.step = 1 ∧ s.west.kind = .cold ∧
    s.nvs.ledger = [] ∧ s.fuses.provisioned = false ∧ s.clock.aligned = false ∧ (∀ off, getReg s off = regReset off) ∧ Canon s)

/-- The canonical form of registers, counters, T1 and T0 is an invariant of every step, from every state. -/
def Obligations.StepKeepsCanon : Prop :=
  (∀ (s t : State), Canon s → step s = .next t → Canon t)

/-- Fuses are one-time (R66), a start number is never taken back (R61, R77), what has left the device stays out. -/
def Obligations.HistoryStays : Prop :=
  (∀ (s t : State), step s = .next t → FuseOneWay s.fuses t.fuses ∧ s.nvs.lastSeq ≤ t.nvs.lastSeq ∧ s.out <+: t.out)

/-- The frame of each of the 261 commands, by groups of state. -/
def Obligations.CommandsKeepFrames : Prop :=
  (∀ (c : Instr) (s t : State) (p : Part), exec c s = .next t → mayChange p c = false → Same p s t) ∧
  (∀ (c : Instr) (s t : State), exec c s = .next t → t.pending = s.pending)

/-- Refusals, and writes to a power-gated die (R94, R96, R98, R538, R539). -/
def Obligations.RegisterAccessRules : Prop :=
  (∀ (w : RegWrite) (s : State), accessCauses s w.access true ≠ [] → Answers (.registerWrite w) s fun t => (∀ off, off ∉ refusalRegs
    w.access → getReg t off = getReg s off) ∧ getFld t Reg.devAccessErr 0 32 = satAdd 0xFFFFFFFF (getFld s Reg.devAccessErr 0 32) 1 ∧
    getReg t Reg.devAccessLast = word (w.off % 2 ^ 26 + 2 ^ 26 + w.who.func * 2 ^ 27 + w.who.port * 2 ^ 34 + (accessCauses s w.access
    true).headD 0 * 2 ^ 35) ∧ t.t1 = s.t1 ∧ t.entries = s.entries ∧ t.latch = s.latch) ∧
  (∀ (a : Access) (s : State), accessCauses s a false ≠ [] → readAccess s a = leBytes a.size 0) ∧
  (∀ (w : RegWrite) (p : PageRef) (off key : Nat) (row : Option (RegRow × Nat)) (s : State), accessCauses s w.access true = [] → resolve
    w.who w.off = some (.reg p off key row) → blkState s p = 3 → writeNames w = some (.core, 0x010) → exec (.registerWrite w) s = .next
    ({ writePlain s p off key row w.val 0 with gatedWrites := s.gatedWrites ++ [(w, getReg s key)] }))

/-- BLK_INT_RAW and the first-error capture (R11, R103, R104). -/
def Obligations.CausesAndCaptures : Prop :=
  (∀ (w : RegWrite) (q : Site) (m : Word) (s : State), isHeader w 0x020 = true → servedAt s w = some q → m = word (15 + (2 ^ intCauses
    q.1.type - 1) * 2 ^ 16) → getFld s (blkIntColl q.1.base) 0 16 < 0xFFFE → Answers (.registerWrite w) s fun t => getReg t (blkIntRaw
    q.1.base) = (getReg s (blkIntRaw q.1.base) &&& ~~~(w.val &&& m)) ||| (w.hwSet &&& m) ∧ getFld t (blkIntColl q.1.base) 0 16 = getFld
    s (blkIntColl q.1.base) 0 16 + (if getReg s (blkIntRaw q.1.base) &&& w.val &&& w.hwSet &&& m ≠ 0 then 1 else 0)) ∧
  (∀ (w : RegWrite) (q : Site) (s : State), isHeader w 0x020 = true → servedAt s w = some q → bit w.val 0 = true → getBit s (blkIntRaw
    q.1.base) 0 = true → bit w.hwSet 0 = false → Answers (.registerWrite w) s fun t => getBit t (blkErrCap q.1.base 0) 63 = false) ∧
  (∀ (blk code source part addr detail : Nat) (s : State), isBlock blk = true → getBit s (blkIntRaw blk) 0 = false → getReg (capture s
    blk code source part addr detail) (blkErrCap blk 0) = word (code % 2 ^ 16 + source % 256 * 2 ^ 32 + part % 256 * 2 ^ 40 + 2 ^ 63) ∧
    getReg (capture s blk code source part addr detail) (blkErrCap blk 1) = stamp s ∧ getReg (capture s blk code source part addr
    detail) (blkErrCap blk 2) = word (addr % 2 ^ 48) ∧ getReg (capture s blk code source part addr detail) (blkErrCap blk 3) = word
    detail ∧ getBit (capture s blk code source part addr detail) (blkIntRaw blk) 0 = true) ∧
  (∀ (blk code source part addr detail : Nat) (s : State), isBlock blk = true → getBit s (blkIntRaw blk) 0 = true → capture s blk code
    source part addr detail = putFld s (blkErrCap blk 0) 16 16 (satAdd 0xFFFF (getFld s (blkErrCap blk 0) 16 16) 1))

/-- Table 15.1 (R501): what a counter holds after a write, with and without an increment in its cycle. -/
def Obligations.CounterWrites : Prop :=
  (∀ (w : RegWrite) (inc : Nat) (q : Site) (s : State), namesCounter w = true → servedAt s w = some q → Answers (.counterWrite w inc) s
    fun t => fld (getCnt t q.2.2.1) 0 48 = fld w.val 0 48 ∧ (∀ off, off ≠ q.2.2.1 → getCnt t off = getCnt s off) ∧ t.snap = s.snap) ∧
  (∀ (w : RegWrite) (inc : Nat) (q : Site) (s : State), namesCounter w = true → servedAt s w = some q → (2 ^ 48 ≤ fld (getCnt s q.2.2.1)
    0 48 + inc) → Answers (.counterWrite w inc) s fun t => bit (getCnt t q.2.2.1) 62 = true ∧ bit (getCnt t q.2.2.1) 63 = true) ∧
  (∀ (w : RegWrite) (inc : Nat) (q : Site) (s : State), namesCounter w = true → servedAt s w = some q → ¬ (2 ^ 48 ≤ fld (getCnt s
    q.2.2.1) 0 48 + inc) → bit w.val 63 = true → Answers (.counterWrite w inc) s fun t => bit (getCnt t q.2.2.1) 62 = false ∧ bit
    (getCnt t q.2.2.1) 63 = false) ∧
  (∀ (w : RegWrite) (inc : Nat) (q : Site) (s : State), namesCounter w = true → servedAt s w = some q → ¬ (2 ^ 48 ≤ fld (getCnt s
    q.2.2.1) 0 48 + inc) → bit w.val 63 = false → Answers (.counterWrite w inc) s fun t => bit (getCnt t q.2.2.1) 62 = bit (getCnt s
    q.2.2.1) 62 ∧ bit (getCnt t q.2.2.1) 63 = bit (getCnt s q.2.2.1) 63)

/-- The event queue (R522, R526). -/
def Obligations.EventsQueued : Prop :=
  (∀ (type part block half : Nat) (d0 d1 : Word) (s : State), evSeverity type ≠ 3 → s.events.coalescing = false → s.events.queue.length
    ≤ 496 → (raiseEvent s type part block half d0 d1).events.queue = s.events.queue ++ [⟨s.events.seq, startSeqField s, type, false,
    false, part, stamp s, block, half, d0, d1, 0⟩] ∧ (raiseEvent s type part block half d0 d1).events.seq = (s.events.seq + 1) % 2 ^ 48) ∧
  (∀ (type part block half : Nat) (d0 d1 : Word) (s : State), evSeverity type ≠ 3 → s.events.coalescing = true ∨ 496 <
    s.events.queue.length → (raiseEvent s type part block half d0 d1).events.queue = s.events.queue ∧ (Map.get CoalSlot.empty
    (raiseEvent s type part block half d0 d1).events.coal type).count = (if (Map.get CoalSlot.empty s.events.coal type).count = 0 then 1
    else satAdd 0xFFFFFFFF (Map.get CoalSlot.empty s.events.coal type).count 1) ∧ (raiseEvent s type part block half d0
    d1).events.coalescing = true) ∧
  (∀ (type part block half : Nat) (d0 d1 : Word) (s : State), evSeverity type = 3 → s.events.queue.length < 512 → (raiseEvent s type
    part block half d0 d1).events.queue.length = s.events.queue.length + 1 ∧ (raiseEvent s type part block half d0 d1).events.seq =
    (s.events.seq + 1) % 2 ^ 48) ∧
  (∀ (type part block half : Nat) (d0 d1 : Word) (s : State), evSeverity type = 3 → 512 ≤ s.events.queue.length → (raiseEvent s type
    part block half d0 d1).events = s.events ∧ getBit (raiseEvent s type part block half d0 d1) (Reg.hubLastgasp 0) 15 = true ∧ getBit
    (raiseEvent s type part block half d0 d1) (Reg.hubLastgasp 1) 15 = true) ∧
  (∀ (type part block half : Nat) (d0 d1 : Word) (s : State), (raiseEvent s type part block half d0 d1).cnt = s.cnt ∧ (raiseEvent s type
    part block half d0 d1).entries = s.entries ∧ (raiseEvent s type part block half d0 d1).t1 = s.t1 ∧ ∀ off, off ∉ eventRegs → getReg
    (raiseEvent s type part block half d0 d1) off = getReg s off)

/-- R499: an event counter adds, wraps at 2^48 with OVF, and reports the first overflow. -/
def Obligations.CountersWrap : Prop :=
  (∀ (off n : Nat) (s : State), fld (getCnt (count s off n) off) 0 48 = (fld (getCnt s off) 0 48 + n) % 2 ^ 48 ∧ bit (getCnt (count s
    off n) off) 63 = (bit (getCnt s off) 63 || decide (2 ^ 48 ≤ (fld (getCnt s off) 0 48 + n))) ∧ ∀ o, o ≠ off → getCnt (count s off n)
    o = getCnt s o) ∧
  (∀ (off n : Nat) (s : State), 2 ^ 48 ≤ (fld (getCnt s off) 0 48 + n) → bit (getCnt s off) 63 = false → (count s off n) = raiseEvent
    (setCnt s off (getCnt (count s off n) off)) 0x004 noPart (blkDir (off / 0x1000 * 0x1000)) (blkHalf (off / 0x1000 * 0x1000)) (word
    off) 0) ∧
  (∀ (off n : Nat) (s : State), (fld (getCnt s off) 0 48 + n) < 2 ^ 48 ∨ bit (getCnt s off) 63 = true → (count s off n) = setCnt s off
    (getCnt (count s off n) off))

/-- R137: full writes store without reading and clear poison; poisoned sectors of freed slots read zero. -/
def Obligations.PoisonCleared : Prop :=
  (∀ (da : Nat) (bs : List Byte) (s : State), da % 64 = 0 → bs.length = 64 → readT1 (Machine.fullWrite s da bs) da 64 = bs ∧
    sectorPoisoned (Machine.fullWrite s da bs) da = false ∧ ∀ x, x < da ∨ da + 64 ≤ x → getT1 (Machine.fullWrite s da bs) x = getT1 s x) ∧
  (∀ (sp : List Span) (sec : Nat) (s : State), inSpans sp sec = true → sectorPoisoned (scrubFreed s sp) (64 * sec) = false ∧
    (sectorPoisoned s (64 * sec) = true → readT1 (scrubFreed s sp) (64 * sec) 64 = List.replicate 64 0))

/-- R328: both leave the weight tensors. -/
def Obligations.UnloadAndClearSuspect : Prop :=
  (∀ (w : RegWrite) (q : Site) (s : State), isReg w .gal3 0x100 = true → fld w.val 32 3 = 3 → servedAt s w = some q → bit w.val 40 =
    true → getBit s Reg.galFormeStatus 0 = false → (s.impo (fld w.val 24 7)).state = 2 → Answers (.unload w) s fun t => t.impo (fld
    w.val 24 7) = { ImpoSlot.empty 0 with generation := (s.impo (fld w.val 24 7)).generation } ∧ t.tensors = s.tensors ∧ t.t1 = s.t1) ∧
  (∀ (w : RegWrite) (q : Site) (s : State), isReg w .gal3 0x100 = true → fld w.val 32 3 = 3 → servedAt s w = some q → bit w.val 40 =
    true → getBit s Reg.galFormeStatus 0 = false → (s.impo (fld w.val 24 7)).state = 0 → Answers (.unload w) s fun t => (t.impo (fld
    w.val 24 7)).state = 0 ∧ t.tensors = s.tensors ∧ t.t1 = s.t1) ∧
  (∀ (w : RegWrite) (q : Site) (s : State), isReg w .gal3 0x100 = true → fld w.val 32 3 = 4 → servedAt s w = some q → bit w.val 40 =
    true → getBit s Reg.galFormeStatus 0 = false → (s.impo (fld w.val 24 7)).state = 3 → Answers (.clearSuspect w) s fun t => t.impo
    (fld w.val 24 7) = { s.impo (fld w.val 24 7) with suspect := 0 } ∧ t.tensors = s.tensors ∧ t.t1 = s.t1)

/-- DEV_TT_INDEX and DEV_TT_DATA (R109, R159). -/
def Obligations.TensorWindow : Prop :=
  (∀ (w : RegWrite) (q : Site) (s : State), isReg w .dev0 0x318 = true → servedAt s w = some q → Answers (.windowIndexLatch w) s fun t
    => getLatch t w.who Reg.devTtIndex = toWords (tensorBytes (s.tensor (fld w.val 0 17))) ∧ (∀ who idx, latchKey who idx ≠ latchKey
    w.who Reg.devTtIndex → latched t who idx = latched s who idx) ∧ t.tensors = s.tensors ∧ t.regs = s.regs) ∧
  (∀ (w : RegWrite) (q : Site) (i : Nat) (s : State), isReg w .dev0 0x318 = true → servedAt s w = some q → i < 4 → accessCauses s
    ⟨w.who, 0x320 + 8 * i, 8⟩ false = [] → Answers (.windowIndexLatch w) s fun t => readAccess t ⟨w.who, 0x320 + 8 * i, 8⟩ =
    ((tensorBytes (s.tensor (fld w.val 0 17))).drop (8 * i)).take 8)
end

