-- ==== Sys2Proof/Decode.lean ====
section
/-!
DEFINITION. Words and commands. The table of operations and events gives no row any bits: a command is a register write, a
record, a message or an event, and none is spelled by a word.
-/
namespace Sys2Proof

/-- The command a word spells: none. -/
def decodeTableWord (_nbits _w : Nat) : Option Instr := none

end Sys2Proof
end

