-- ==== Sys2Proof/Laws/Bits.lean ====
section
/-!
SUPPORT. Laws of the fields of a word: what a field or a bit reads as after another was written.
-/
set_option Elab.async false
set_option linter.all false
namespace Sys2Proof.Machine

theorem getLsbD_ones (lo n i : Nat) : (ones lo n).getLsbD i = (decide (i < 64) && decide (lo ≤ i) && decide (i - lo < n)) := by
  simp only [ones, BitVec.getLsbD_ofNat, Nat.testBit_mul_two_pow, Nat.testBit_two_pow_sub_one, Bool.and_assoc]

/-- A bit of a word whose field has been replaced: of the new value inside the field, of the old word elsewhere. -/
theorem getLsbD_setFld (w : Word) (lo n v i : Nat) : (setFld w lo n v).getLsbD i =
    if lo ≤ i ∧ i < lo + n ∧ i < 64 then v.testBit (i - lo) else w.getLsbD i := by
  simp only [setFld, BitVec.getLsbD_or, BitVec.getLsbD_and, BitVec.getLsbD_not, getLsbD_ones, BitVec.getLsbD_ofNat,
    Nat.testBit_mul_two_pow, Nat.testBit_mod_two_pow]
  by_cases h64 : i < 64 <;> by_cases h1 : lo ≤ i <;> by_cases h2 : i < lo + n
  · simp [h64, h1, h2, show i - lo < n by omega]
  · simp [h64, h1, h2, show ¬ i - lo < n by omega]
  · simp [h64, h1, h2]
  · simp [h64, h1, h2]
  all_goals simp [h64, h1, h2, BitVec.getLsbD_of_ge w i (by omega)]

/-- A bit of a field. -/
theorem testBit_fld (w : Word) (lo n i : Nat) : (fld w lo n).testBit i = (decide (i < n) && w.getLsbD (lo + i)) := by
  simp [fld, Nat.testBit_mod_two_pow, Nat.testBit_div_two_pow, BitVec.getLsbD, Nat.add_comm]

theorem fld_lt (w : Word) (lo n : Nat) : fld w lo n < 2 ^ n := Nat.mod_lt _ (Nat.two_pow_pos n)

/-- A field that lies in the word reads as what was written into it. -/
theorem fld_setFld_same (w : Word) (lo n v : Nat) (h : lo + n ≤ 64) : fld (setFld w lo n v) lo n = v % 2 ^ n := by
  apply Nat.eq_of_testBit_eq
  intro i
  rw [testBit_fld, Nat.testBit_mod_two_pow]
  by_cases hi : i < n
  · rw [getLsbD_setFld, if_pos (by omega), Nat.add_sub_cancel_left]
  · simp [hi]

/-- Another field keeps its value. -/
theorem fld_setFld_other (w : Word) (lo n v lo' n' : Nat) (h : lo' + n' ≤ lo ∨ lo + n ≤ lo') :
    fld (setFld w lo n v) lo' n' = fld w lo' n' := by
  apply Nat.eq_of_testBit_eq
  intro i
  rw [testBit_fld, testBit_fld]
  by_cases hi : i < n'
  · rw [getLsbD_setFld, if_neg (by omega)]
  · simp [hi]

theorem bit_setFld_other (w : Word) (lo n v i : Nat) (h : i < lo ∨ lo + n ≤ i) : bit (setFld w lo n v) i = bit w i := by
  rw [bit, getLsbD_setFld, if_neg (by omega), bit]

@[simp] theorem bit_setBit_same (w : Word) (i : Nat) (b : Bool) (h : i < 64) : bit (setBit w i b) i = b := by
  rw [bit, setBit, getLsbD_setFld, if_pos (by omega), Nat.sub_self]
  cases b <;> rfl

theorem bit_setBit_other (w : Word) (i j : Nat) (b : Bool) (h : j ≠ i) : bit (setBit w i b) j = bit w j :=
  bit_setFld_other w i 1 _ j (by omega)

theorem fld_setBit_other (w : Word) (i : Nat) (b : Bool) (lo n : Nat) (h : i < lo ∨ lo + n ≤ i) :
    fld (setBit w i b) lo n = fld w lo n := fld_setFld_other w i 1 _ lo n (by omega)

/-- The single bit of `bitW`. -/
theorem bit_bitW (i j : Nat) (h : i < 64) : bit (bitW i) j = decide (j = i) := by
  rw [bit, bitW, BitVec.getLsbD_ofNat, Nat.testBit_two_pow]
  by_cases hj : j = i
  · simp [hj, h]
  · simp [hj, Ne.symm hj]

theorem bit_or (a b : Word) (i : Nat) : bit (a ||| b) i = (bit a i || bit b i) := by simp [bit]

end Sys2Proof.Machine
end

