-- ==== Sys2Proof/Laws/Map.lean ====
section
/-!
SUPPORT. Laws of sparse tables: what a read answers after each operation, and that each keeps the canonical form.
-/
set_option Elab.async false
set_option linter.all false
namespace Sys2Proof.Machine

variable {α : Type}

theorem Map.get_put_same (d : Nat → α) (m : Map α) (k : Nat) (v : α) : Map.get d (Map.put m k v) k = v := by
  induction m with
  | nil => simp [Map.put, Map.get]
  | cons e m ih =>
    obtain ⟨k', v'⟩ := e
    by_cases h1 : k' < k
    · simp [Map.put, h1, Map.get, ih, Nat.ne_of_lt h1]
    · by_cases h2 : k' = k
      · simp [Map.put, h2, Map.get]
      · simp [Map.put, h1, h2, Map.get]

theorem Map.get_put_other (d : Nat → α) (m : Map α) (k j : Nat) (v : α) (h : j ≠ k) : Map.get d (Map.put m k v) j = Map.get d m j := by
  induction m with
  | nil => simp [Map.put, Map.get, Ne.symm h]
  | cons e m ih =>
    obtain ⟨k', v'⟩ := e
    by_cases h1 : k' < k
    · simp only [Map.put, if_pos h1, Map.get, ih]
    · by_cases h2 : k' = k
      · subst h2
        simp [Map.put, Map.get, Ne.symm h]
      · simp [Map.put, h1, h2, Map.get, Ne.symm h]

theorem Map.get_del_same (d : Nat → α) (m : Map α) (k : Nat) : Map.get d (Map.del m k) k = d k := by
  induction m with
  | nil => rfl
  | cons e m ih =>
    obtain ⟨k', v'⟩ := e
    by_cases h : k' = k <;> simp [Map.del, Map.get, h, ih]

theorem Map.get_del_other (d : Nat → α) (m : Map α) (k j : Nat) (h : j ≠ k) : Map.get d (Map.del m k) j = Map.get d m j := by
  induction m with
  | nil => rfl
  | cons e m ih =>
    obtain ⟨k', v'⟩ := e
    by_cases hk : k' = k
    · subst hk
      simp [Map.del, Map.get, Ne.symm h, ih]
    · simp [Map.del, Map.get, hk, ih]

/-- A read of the index written gives the value written. -/
@[simp] theorem Map.get_set_same [DecidableEq α] (d : Nat → α) (m : Map α) (k : Nat) (v : α) : Map.get d (Map.set d m k v) k = v := by
  unfold Map.set
  split
  · next h => rw [Map.get_del_same, h]
  · exact Map.get_put_same d m k v

/-- A read of any other index gives what it gave. -/
theorem Map.get_set_other [DecidableEq α] (d : Nat → α) (m : Map α) (k j : Nat) (v : α) (h : j ≠ k) :
    Map.get d (Map.set d m k v) j = Map.get d m j := by
  unfold Map.set
  split
  · exact Map.get_del_other d m k j h
  · exact Map.get_put_other d m k j v h

theorem Map.get_set [DecidableEq α] (d : Nat → α) (m : Map α) (k j : Nat) (v : α) :
    Map.get d (Map.set d m k v) j = if j = k then v else Map.get d m j := by
  split
  · next h => rw [h, Map.get_set_same]
  · next h => exact Map.get_set_other d m k j v h

/-- An index that passes the test holds the default after a clear; any other is unchanged. -/
theorem Map.get_clearWhere (d : Nat → α) (p : Nat → Bool) (m : Map α) (k : Nat) :
    Map.get d (Map.clearWhere p m) k = if p k then d k else Map.get d m k := by
  induction m with
  | nil => simp [Map.clearWhere, Map.get]
  | cons e m ih =>
    obtain ⟨k', v'⟩ := e
    have ih' : Map.get d (List.filter (fun e => !p e.1) m) k = if p k then d k else Map.get d m k := ih
    by_cases hp : p k' = true <;> by_cases hk : k' = k
    · subst hk; simp [Map.clearWhere, Map.get, hp, ih']
    · simp [Map.clearWhere, Map.get, hp, ih', hk]
    · subst hk; simp [Map.clearWhere, Map.get, hp]
    · simp [Map.clearWhere, Map.get, hp, ih', hk]

/-! ### The canonical form -/

variable [DecidableEq α] {d : Nat → α}

theorem Map.wfFrom_mono {lo lo' : Nat} (h : lo' ≤ lo) {m : Map α} (w : Map.wfFrom d lo m = true) : Map.wfFrom d lo' m = true := by
  cases m with
  | nil => rfl
  | cons e m =>
    obtain ⟨k, v⟩ := e
    simp only [Map.wfFrom, Bool.and_eq_true, decide_eq_true_eq] at w ⊢
    exact ⟨⟨Nat.le_trans h w.1.1, w.1.2⟩, w.2⟩

theorem Map.wfFrom_put {lo k : Nat} {v : α} (hk : lo ≤ k) (hv : v ≠ d k) {m : Map α} (w : Map.wfFrom d lo m = true) :
    Map.wfFrom d lo (Map.put m k v) = true := by
  induction m generalizing lo with
  | nil => simp [Map.put, Map.wfFrom, hk, hv]
  | cons e m ih =>
    obtain ⟨k', v'⟩ := e
    simp only [Map.wfFrom, Bool.and_eq_true, decide_eq_true_eq] at w
    by_cases h1 : k' < k
    · simp only [Map.put, if_pos h1, Map.wfFrom, Bool.and_eq_true, decide_eq_true_eq]
      exact ⟨w.1, ih h1 w.2⟩
    · by_cases h2 : k' = k
      · subst h2
        simp only [Map.put, Nat.lt_irrefl, if_false, if_true, Map.wfFrom, Bool.and_eq_true, decide_eq_true_eq]
        exact ⟨⟨hk, hv⟩, w.2⟩
      · simp only [Map.put, if_neg h1, if_neg h2, Map.wfFrom, Bool.and_eq_true, decide_eq_true_eq]
        exact ⟨⟨hk, hv⟩, ⟨by omega, w.1.2⟩, w.2⟩

theorem Map.wfFrom_del {lo k : Nat} {m : Map α} (w : Map.wfFrom d lo m = true) : Map.wfFrom d lo (Map.del m k) = true := by
  induction m generalizing lo with
  | nil => rfl
  | cons e m ih =>
    obtain ⟨k', v'⟩ := e
    simp only [Map.wfFrom, Bool.and_eq_true, decide_eq_true_eq] at w
    by_cases h : k' = k
    · simp only [Map.del, if_pos h]
      exact Map.wfFrom_mono (by omega) (ih w.2)
    · simp only [Map.del, if_neg h, Map.wfFrom, Bool.and_eq_true, decide_eq_true_eq]
      exact ⟨w.1, ih w.2⟩

theorem Map.wfFrom_filter {lo : Nat} {p : Nat × α → Bool} {m : Map α} (w : Map.wfFrom d lo m = true) :
    Map.wfFrom d lo (m.filter p) = true := by
  induction m generalizing lo with
  | nil => rfl
  | cons e m ih =>
    obtain ⟨k, v⟩ := e
    simp only [Map.wfFrom, Bool.and_eq_true, decide_eq_true_eq] at w
    by_cases h : p (k, v) = true
    · simp only [List.filter_cons, h, if_true, Map.wfFrom, Bool.and_eq_true, decide_eq_true_eq]
      exact ⟨w.1, ih w.2⟩
    · simp only [List.filter_cons, h, if_false]
      exact Map.wfFrom_mono (by omega) (ih w.2)

/-- Every operation keeps the canonical form. -/
theorem Map.wf_nil : Map.wf d ([] : Map α) = true := rfl

theorem Map.wf_set {m : Map α} {k : Nat} {v : α} (w : Map.wf d m = true) : Map.wf d (Map.set d m k v) = true := by
  unfold Map.set
  split
  · exact Map.wfFrom_del w
  · next h => exact Map.wfFrom_put (Nat.zero_le k) h w

theorem Map.wf_del {m : Map α} {k : Nat} (w : Map.wf d m = true) : Map.wf d (Map.del m k) = true := Map.wfFrom_del w

theorem Map.wf_filter {m : Map α} {p : Nat × α → Bool} (w : Map.wf d m = true) : Map.wf d (m.filter p) = true := Map.wfFrom_filter w

theorem Map.wf_clearWhere {m : Map α} {p : Nat → Bool} (w : Map.wf d m = true) : Map.wf d (Map.clearWhere p m) = true :=
  Map.wfFrom_filter w


theorem Map.wfFrom_mapVals {lo : Nat} {f : Nat → α → α} {m : Map α} (w : Map.wfFrom d lo m = true) :
    Map.wfFrom d lo (Map.mapVals d f m) = true := by
  induction m generalizing lo with
  | nil => rfl
  | cons e m ih =>
    obtain ⟨k, v⟩ := e
    simp only [Map.wfFrom, Bool.and_eq_true, decide_eq_true_eq] at w
    unfold Map.mapVals
    split
    · exact Map.wfFrom_mono (by omega) (ih w.2)
    · next h =>
      simp only [Map.wfFrom, Bool.and_eq_true, decide_eq_true_eq]
      exact ⟨⟨w.1.1, h⟩, ih w.2⟩

theorem Map.wf_mapVals {m : Map α} {f : Nat → α → α} (w : Map.wf d m = true) : Map.wf d (Map.mapVals d f m) = true :=
  Map.wfFrom_mapVals w

/-- So does a fold of writes. -/
theorem Map.wf_foldl_set {β : Type} (l : List β) (key : β → Nat) (val : Map α → β → α) {m : Map α} (w : Map.wf d m = true) :
    Map.wf d (l.foldl (fun m b => Map.set d m (key b) (val m b)) m) = true := by
  induction l generalizing m with
  | nil => exact w
  | cons b l ih => exact ih (Map.wf_set w)

theorem Map.wf_foldl_del {β : Type} (l : List β) (key : β → Nat) {m : Map α} (w : Map.wf d m = true) :
    Map.wf d (l.foldl (fun m b => Map.del m (key b)) m) = true := by
  induction l generalizing m with
  | nil => exact w
  | cons b l ih => exact ih (Map.wf_del w)

/-- Two tables in canonical form that answer every read alike are the same data. -/
theorem Map.get_of_lt {lo j : Nat} {m : Map α} (w : Map.wfFrom d lo m = true) (h : j < lo) : Map.get d m j = d j := by
  induction m generalizing lo with
  | nil => rfl
  | cons e m ih =>
    obtain ⟨k, v⟩ := e
    simp only [Map.wfFrom, Bool.and_eq_true, decide_eq_true_eq] at w
    have hk : k ≠ j := by omega
    simp only [Map.get, if_neg hk]
    exact ih w.2 (by omega)

end Sys2Proof.Machine
end

