-- ==== Sys2Proof/Laws/Keep.lean ====
section
/-!
SUPPORT. How `Keep` composes: updates of the state, folds, pairs, options, outcomes. The files Keep… beside this one say it of every
operation, in chaining form: what holds of the state it is given holds of the one it answers.
-/
set_option Elab.async false
set_option linter.all false
namespace Sys2Proof.Machine

variable {m : Part → Bool} {s t X : State}

theorem Keep.refl (s : State) : Keep m s s where
  pending := rfl
  fuses := ⟨rfl, id, id⟩
  seq := Nat.le_refl _
  out := List.prefix_refl _
  canon := id
  same := fun p _ => by cases p <;> simp [Same]

theorem Same.trans {p : Part} {a b c : State} (h : Same p a b) (g : Same p b c) : Same p a c := by
  cases p <;> simp_all [Same]

theorem Keep.trans {a b c : State} (h : Keep m a b) (g : Keep m b c) : Keep m a c where
  pending := g.pending.trans h.pending
  fuses := ⟨g.fuses.1.trans h.fuses.1, fun x => g.fuses.2.1 (h.fuses.2.1 x), fun x => g.fuses.2.2 (h.fuses.2.2 x)⟩
  seq := Nat.le_trans h.seq g.seq
  out := h.out.trans g.out
  canon := fun x => g.canon (h.canon x)
  same := fun p hp => (h.same p hp).trans (g.same p hp)

/-- Fewer groups may have changed. -/
theorem Keep.weaken {m' : Part → Bool} (h : Keep m s t) (w : ∀ p, m' p = false → m p = false) : Keep m' s t :=
  ⟨h.pending, h.fuses, h.seq, h.out, h.canon, fun p hp => h.same p (w p hp)⟩

/-- The general update: each group that changes is one that may. -/
theorem Keep.upd (h : Keep m s X) (hp : t.pending = X.pending) (hf : FuseOneWay X.fuses t.fuses) (hq : X.nvs.lastSeq ≤ t.nvs.lastSeq)
    (ho : X.out <+: t.out) (hc : Canon X → Canon t) (hs : ∀ p, m p = false → Same p X t) : Keep m s t :=
  h.trans ⟨hp, hf, hq, ho, hc, hs⟩

/-- A record update: its tables stay canonical, and each group that changes is one that may. -/
theorem keep_mk
    {n_free : Nat}
    {n_clock : Clock}
    {n_regs : Map Word}
    {n_cnt : Map Word}
    {n_snap : Map Word}
    {n_latch : Map (List Word)}
    {n_msix : Map Word}
    {n_west : HalfState}
    {n_east : HalfState}
    {n_hubWest : HubState}
    {n_hubEast : HubState}
    {n_hubLink : Bool}
    {n_governor : Governor}
    {n_dies : Map DiePair}
    {n_nvs : Nvs}
    {n_colophon : Colophon}
    {n_fallow : Map FallowEntry}
    {n_i3c : I3c}
    {n_tap : Tap}
    {n_events : EventState}
    {n_sources : Map TraceSource}
    {n_ports : Map Port}
    {n_capture : Option GroupCapture}
    {n_quiescing : Map Bool}
    {n_inForce : Map Word}
    {n_tensors : Map Tensor}
    {n_moves : List Move}
    {n_moveNext : Nat}
    {n_t1 : Map Byte}
    {n_poison : Map Bool}
    {n_wiping : List (Nat × SlotRun)}
    {n_chans : Map Channel}
    {n_mapouts : List Mapout}
    {n_parityMoved : Map Nat}
    {n_nbus : Map Nbu}
    {n_bias : Map Nat}
    {n_t0 : Map Byte}
    {n_cores : Map CoreState}
    {n_entries : Map Entry}
    {n_trees : Map PrefixTree}
    {n_impos : Map ImpoSlot}
    {n_loader : Option (Nat × Nat)}
    {n_steps : StepState}
    {n_arrived : List Cmd}
    {n_records : List Record}
    {n_due : Map (List RecEntry)}
    {n_regions : Map Region}
    {n_rings : Map RingState}
    {n_d3hot : Map Bool}
    {n_heldOut : List (Nat × Nat × Emit)}
    {n_links : Map Link}
    {n_inbox : List Arrival}
    {n_sent : List Sent}
    {n_applied : Map (List Nat)}
    {n_msgIds : Map Nat}
    {n_routes : Map Word}
    {n_times : Map TimePort}
    {n_mirrors : Map MirrorEntry}
    {n_homes : List ServedHome}
    {n_home : HomeState}
    {n_groups : Map GroupState}
    {n_deferred : List Deferred}
    {n_gatedWrites : List (RegWrite × Word)}
    (h : Keep m s X)
    (w_regs : Map.wf regReset X.regs = true → Map.wf regReset n_regs = true := by first | exact id | (intro w; repeat' (first | exact w | exact Map.wf_nil | apply Map.wf_set | apply Map.wf_clearWhere | apply Map.wf_filter | apply Map.wf_del | apply Map.wf_foldl_set | apply Map.wf_foldl_del)))
    (w_cnt : Map.wf (fun _ => (0 : Word)) X.cnt = true → Map.wf (fun _ => (0 : Word)) n_cnt = true := by first | exact id | (intro w; repeat' (first | exact w | exact Map.wf_nil | apply Map.wf_set | apply Map.wf_clearWhere | apply Map.wf_filter | apply Map.wf_del | apply Map.wf_foldl_set | apply Map.wf_foldl_del)))
    (w_t1 : Map.wf (fun _ => (0 : Byte)) X.t1 = true → Map.wf (fun _ => (0 : Byte)) n_t1 = true := by first | exact id | (intro w; repeat' (first | exact w | exact Map.wf_nil | apply Map.wf_set | apply Map.wf_clearWhere | apply Map.wf_filter | apply Map.wf_del | apply Map.wf_foldl_set | apply Map.wf_foldl_del)))
    (w_t0 : Map.wf (fun _ => (0 : Byte)) X.t0 = true → Map.wf (fun _ => (0 : Byte)) n_t0 = true := by first | exact id | (intro w; repeat' (first | exact w | exact Map.wf_nil | apply Map.wf_set | apply Map.wf_clearWhere | apply Map.wf_filter | apply Map.wf_del | apply Map.wf_foldl_set | apply Map.wf_foldl_del)))
    (w_nvs : X.nvs.lastSeq ≤ n_nvs.lastSeq := by first | exact Nat.le_refl _ | exact Nat.le_succ _ | (subst_vars; exact Nat.le_refl _))
    (c_memory : m .memory = true ∨ (n_t1 = X.t1 ∧ n_poison = X.poison ∧ n_t0 = X.t0 ∧ n_bias = X.bias) := by first | exact Or.inl (by with_reducible assumption) | exact Or.inr ⟨rfl, rfl, rfl, rfl⟩)
    (c_galley : m .galley = true ∨ (n_entries = X.entries ∧ n_trees = X.trees) := by first | exact Or.inl (by with_reducible assumption) | exact Or.inr ⟨rfl, rfl⟩)
    (c_tensors : m .tensors = true ∨ (n_tensors = X.tensors) := by first | exact Or.inl (by with_reducible assumption) | exact Or.inr rfl)
    (c_moves : m .moves = true ∨ (n_moves = X.moves ∧ n_moveNext = X.moveNext) := by first | exact Or.inl (by with_reducible assumption) | exact Or.inr ⟨rfl, rfl⟩)
    (c_impos : m .impos = true ∨ (n_impos = X.impos ∧ n_loader = X.loader) := by first | exact Or.inl (by with_reducible assumption) | exact Or.inr ⟨rfl, rfl⟩)
    (c_steps : m .steps = true ∨ (n_steps = X.steps) := by first | exact Or.inl (by with_reducible assumption) | exact Or.inr rfl)
    (c_groups : m .groups = true ∨ (n_groups = X.groups) := by first | exact Or.inl (by with_reducible assumption) | exact Or.inr rfl)
    (c_halves : m .halves = true ∨ (n_west = X.west ∧ n_east = X.east ∧ n_governor = X.governor) := by first | exact Or.inl (by with_reducible assumption) | exact Or.inr ⟨rfl, rfl, rfl⟩)
    (c_dies : m .dies = true ∨ (n_dies = X.dies) := by first | exact Or.inl (by with_reducible assumption) | exact Or.inr rfl)
    (c_nvs : m .nvs = true ∨ (n_nvs = X.nvs ∧ n_colophon = X.colophon ∧ n_fallow = X.fallow) := by first | exact Or.inl (by with_reducible assumption) | exact Or.inr ⟨rfl, rfl, rfl⟩)
    (c_ports : m .ports = true ∨ (n_ports = X.ports ∧ n_routes = X.routes) := by first | exact Or.inl (by with_reducible assumption) | exact Or.inr ⟨rfl, rfl⟩)
    (c_links : m .links = true ∨ (n_links = X.links ∧ n_inbox = X.inbox ∧ n_sent = X.sent ∧ n_applied = X.applied ∧ n_msgIds = X.msgIds) := by first | exact Or.inl (by with_reducible assumption) | exact Or.inr ⟨rfl, rfl, rfl, rfl, rfl⟩)
    (c_hosts : m .hosts = true ∨ (n_regions = X.regions ∧ n_rings = X.rings ∧ n_d3hot = X.d3hot ∧ n_heldOut = X.heldOut) := by first | exact Or.inl (by with_reducible assumption) | exact Or.inr ⟨rfl, rfl, rfl, rfl⟩)
    (c_commands : m .commands = true ∨ (n_arrived = X.arrived ∧ n_records = X.records ∧ n_due = X.due) := by first | exact Or.inl (by with_reducible assumption) | exact Or.inr ⟨rfl, rfl, rfl⟩)
    (c_twins : m .twins = true ∨ (n_mirrors = X.mirrors ∧ n_homes = X.homes ∧ n_home = X.home) := by first | exact Or.inl (by with_reducible assumption) | exact Or.inr ⟨rfl, rfl, rfl⟩)
    (c_board : m .board = true ∨ (n_i3c = X.i3c ∧ n_tap = X.tap) := by first | exact Or.inl (by with_reducible assumption) | exact Or.inr ⟨rfl, rfl⟩)
    (c_units : m .units = true ∨ (n_chans = X.chans ∧ n_nbus = X.nbus ∧ n_mapouts = X.mapouts ∧ n_parityMoved = X.parityMoved ∧ n_cores = X.cores) := by first | exact Or.inl (by with_reducible assumption) | exact Or.inr ⟨rfl, rfl, rfl, rfl, rfl⟩)
    (c_time : m .time = true ∨ (n_clock = X.clock ∧ n_times = X.times) := by first | exact Or.inl (by with_reducible assumption) | exact Or.inr ⟨rfl, rfl⟩)
    (c_hubs : m .hubs = true ∨ (n_hubWest = X.hubWest ∧ n_hubEast = X.hubEast ∧ n_hubLink = X.hubLink) := by first | exact Or.inl (by with_reducible assumption) | exact Or.inr ⟨rfl, rfl, rfl⟩)
    (c_sources : m .sources = true ∨ (n_sources = X.sources) := by first | exact Or.inl (by with_reducible assumption) | exact Or.inr rfl)
    (c_regs : m .regs = true ∨ (n_regs = X.regs) := by first | exact Or.inl (by with_reducible assumption) | exact Or.inr rfl)
    (c_counters : m .counters = true ∨ (n_cnt = X.cnt ∧ n_snap = X.snap) := by first | exact Or.inl (by with_reducible assumption) | exact Or.inr ⟨rfl, rfl⟩)
    (c_latches : m .latches = true ∨ (n_latch = X.latch) := by first | exact Or.inl (by with_reducible assumption) | exact Or.inr rfl)
    (c_msix : m .msix = true ∨ (n_msix = X.msix) := by first | exact Or.inl (by with_reducible assumption) | exact Or.inr rfl)
    (c_events : m .events = true ∨ (n_events = X.events) := by first | exact Or.inl (by with_reducible assumption) | exact Or.inr rfl)
    (c_waits : m .waits = true ∨ (n_deferred = X.deferred ∧ n_inForce = X.inForce ∧ n_quiescing = X.quiescing ∧ n_capture = X.capture ∧ n_wiping = X.wiping ∧ n_gatedWrites = X.gatedWrites) := by first | exact Or.inl (by with_reducible assumption) | exact Or.inr ⟨rfl, rfl, rfl, rfl, rfl, rfl⟩)
    (c_free : m .free = true ∨ (n_free = X.free) := by first | exact Or.inl (by with_reducible assumption) | exact Or.inr rfl)
    : Keep m s (State.mk X.pending n_free n_clock n_regs n_cnt n_snap n_latch n_msix n_west n_east n_hubWest n_hubEast n_hubLink n_governor n_dies X.fuses n_nvs n_colophon n_fallow n_i3c n_tap n_events n_sources n_ports n_capture n_quiescing n_inForce n_tensors n_moves n_moveNext n_t1 n_poison n_wiping n_chans n_mapouts n_parityMoved n_nbus n_bias n_t0 n_cores n_entries n_trees n_impos n_loader n_steps n_arrived n_records n_due n_regions n_rings n_d3hot n_heldOut n_links n_inbox n_sent n_applied n_msgIds n_routes n_times n_mirrors n_homes n_home n_groups n_deferred n_gatedWrites X.out) :=
  h.upd rfl ⟨rfl, id, id⟩ w_nvs (List.prefix_refl _) (fun c => ⟨w_regs c.1, w_cnt c.2.1, w_t1 c.2.2.1, w_t0 c.2.2.2⟩) (by
    intro p hp
    cases p
    case memory => exact c_memory.elim (fun y => absurd (hp.symm.trans y) (by decide)) id
    case galley => exact c_galley.elim (fun y => absurd (hp.symm.trans y) (by decide)) id
    case tensors => exact c_tensors.elim (fun y => absurd (hp.symm.trans y) (by decide)) id
    case moves => exact c_moves.elim (fun y => absurd (hp.symm.trans y) (by decide)) id
    case impos => exact c_impos.elim (fun y => absurd (hp.symm.trans y) (by decide)) id
    case steps => exact c_steps.elim (fun y => absurd (hp.symm.trans y) (by decide)) id
    case groups => exact c_groups.elim (fun y => absurd (hp.symm.trans y) (by decide)) id
    case halves => exact c_halves.elim (fun y => absurd (hp.symm.trans y) (by decide)) id
    case dies => exact c_dies.elim (fun y => absurd (hp.symm.trans y) (by decide)) id
    case nvs => exact c_nvs.elim (fun y => absurd (hp.symm.trans y) (by decide)) id
    case ports => exact c_ports.elim (fun y => absurd (hp.symm.trans y) (by decide)) id
    case links => exact c_links.elim (fun y => absurd (hp.symm.trans y) (by decide)) id
    case hosts => exact c_hosts.elim (fun y => absurd (hp.symm.trans y) (by decide)) id
    case commands => exact c_commands.elim (fun y => absurd (hp.symm.trans y) (by decide)) id
    case twins => exact c_twins.elim (fun y => absurd (hp.symm.trans y) (by decide)) id
    case board => exact c_board.elim (fun y => absurd (hp.symm.trans y) (by decide)) id
    case units => exact c_units.elim (fun y => absurd (hp.symm.trans y) (by decide)) id
    case time => exact c_time.elim (fun y => absurd (hp.symm.trans y) (by decide)) id
    case hubs => exact c_hubs.elim (fun y => absurd (hp.symm.trans y) (by decide)) id
    case sources => exact c_sources.elim (fun y => absurd (hp.symm.trans y) (by decide)) id
    case regs => exact c_regs.elim (fun y => absurd (hp.symm.trans y) (by decide)) id
    case counters => exact c_counters.elim (fun y => absurd (hp.symm.trans y) (by decide)) id
    case latches => exact c_latches.elim (fun y => absurd (hp.symm.trans y) (by decide)) id
    case msix => exact c_msix.elim (fun y => absurd (hp.symm.trans y) (by decide)) id
    case events => exact c_events.elim (fun y => absurd (hp.symm.trans y) (by decide)) id
    case waits => exact c_waits.elim (fun y => absurd (hp.symm.trans y) (by decide)) id
    case free => exact c_free.elim (fun y => absurd (hp.symm.trans y) (by decide)) id
    case fuses => exact rfl
    case outputs => exact rfl)

/-! ### Pairs, options, outcomes, folds, lets -/

/-- `Keep` of the second, the first part of a pair; of what an option holds; of the next state of an outcome. -/
structure KeepSnd {α : Type} (m : Part → Bool) (s : State) (p : α × State) : Prop where of : Keep m s p.2
structure KeepFst {α : Type} (m : Part → Bool) (s : State) (p : State × α) : Prop where of : Keep m s p.1
structure KeepOpt (m : Part → Bool) (s : State) (o : Option State) : Prop where of : ∀ t, o = some t → Keep m s t
structure KeepOptSnd {α : Type} (m : Part → Bool) (s : State) (o : Option (α × State)) : Prop where of : ∀ p, o = some p → Keep m s p.2
structure KeepOptFst {α : Type} (m : Part → Bool) (s : State) (o : Option (State × α)) : Prop where of : ∀ p, o = some p → Keep m s p.1
structure KeepOptTri {α β : Type} (m : Part → Bool) (s : State) (o : Option (α × β × State)) : Prop where of : ∀ p, o = some p → Keep m s p.2.2
structure KeepRes (m : Part → Bool) (s : State) (r : Result) : Prop where of : ∀ t, r = .next t → Keep m s t

variable {α β : Type}

theorem keepSnd_mk {a : α} (h : Keep m s t) : KeepSnd m s (a, t) := ⟨h⟩
theorem keepFst_mk {a : α} (h : Keep m s t) : KeepFst m s (t, a) := ⟨h⟩
theorem keepSnd_of {p : α × State} {a : α} (h : KeepSnd m s p) (e : p = (a, t)) : Keep m s t := by subst e; exact h.of
theorem keepFst_of {p : State × α} {a : α} (h : KeepFst m s p) (e : p = (t, a)) : Keep m s t := by subst e; exact h.of
theorem keepSnd_pair {a : α} (h : KeepSnd m s (a, t)) : Keep m s t := h.of
theorem keepFst_pair {a : α} (h : KeepFst m s (t, a)) : Keep m s t := h.of
theorem keepSnd_proj {p : α × State} (h : KeepSnd m s p) : Keep m s p.2 := h.of
theorem keepFst_proj {p : State × α} (h : KeepFst m s p) : Keep m s p.1 := h.of
theorem keepOpt_some (h : Keep m s t) : KeepOpt m s (some t) := ⟨fun _ e => by cases e; exact h⟩
theorem keepOpt_none : KeepOpt m s none := ⟨fun _ e => by cases e⟩
theorem keepOpt_pair (h : KeepOpt m s (some t)) : Keep m s t := h.of t rfl
theorem keepOptSnd_pair {a : α} (h : KeepOptSnd m s (some (a, t))) : Keep m s t := h.of _ rfl
theorem keepOptFst_pair {a : α} (h : KeepOptFst m s (some (t, a))) : Keep m s t := h.of _ rfl
theorem keepOpt_of {o : Option State} (h : KeepOpt m s o) (e : o = some t) : Keep m s t := h.of t e
theorem keepOptSnd_some {p : α × State} (h : KeepSnd m s p) : KeepOptSnd m s (some p) := ⟨fun _ e => by cases e; exact h.of⟩
theorem keepOptSnd_none : KeepOptSnd m s (none : Option (α × State)) := ⟨fun _ e => by cases e⟩
theorem keepOptSnd_of {o : Option (α × State)} {a : α} (h : KeepOptSnd m s o) (e : o = some (a, t)) : Keep m s t := h.of _ e
theorem keepOptFst_some {p : State × α} (h : KeepFst m s p) : KeepOptFst m s (some p) := ⟨fun _ e => by cases e; exact h.of⟩
theorem keepOptFst_none : KeepOptFst m s (none : Option (State × α)) := ⟨fun _ e => by cases e⟩
theorem keepOptFst_of {o : Option (State × α)} {a : α} (h : KeepOptFst m s o) (e : o = some (t, a)) : Keep m s t := h.of _ e
theorem keepOptTri_some {a : α} {b : β} (h : Keep m s t) : KeepOptTri m s (some (a, b, t)) := ⟨fun _ e => by cases e; exact h⟩
theorem keepOptTri_none : KeepOptTri m s (none : Option (α × β × State)) := ⟨fun _ e => by cases e⟩
theorem keepOptTri_of {o : Option (α × β × State)} {a : α} {b : β} (h : KeepOptTri m s o) (e : o = some (a, b, t)) : Keep m s t := h.of _ e
theorem keepOpt_map {o : Option α} {f : α → State} (hf : ∀ a, Keep m s (f a)) : KeepOpt m s (o.map f) := ⟨fun t e => by
  cases o with
  | none => cases e
  | some a => cases e; exact hf a⟩
theorem keepOpt_mapTri {o : Option (α × β × State)} {f : α × β × State → State} (h : KeepOptTri m s o)
    (hf : ∀ a, Keep m s a.2.2 → Keep m s (f a)) : KeepOpt m s (o.map f) := ⟨fun t e => by
  cases o with
  | none => cases e
  | some a => cases e; exact hf a (h.of a rfl)⟩
theorem keepOpt_mapSnd {o : Option (α × State)} {f : α × State → State} (h : KeepOptSnd m s o)
    (hf : ∀ a, KeepSnd m s a → Keep m s (f a)) : KeepOpt m s (o.map f) := ⟨fun t e => by
  cases o with
  | none => cases e
  | some a => cases e; exact hf a ⟨h.of a rfl⟩⟩
theorem keepOptTri_map {γ : Type} {o : Option γ} {f : γ → α × β × State} (hf : ∀ a, Keep m s (f a).2.2) : KeepOptTri m s (o.map f) := ⟨fun t e => by
  cases o with
  | none => cases e
  | some a => cases e; exact hf a⟩
theorem keepOptSnd_map {γ : Type} {o : Option γ} {f : γ → α × State} (hf : ∀ a, KeepSnd m s (f a)) : KeepOptSnd m s (o.map f) := ⟨fun t e => by
  cases o with
  | none => cases e
  | some a => cases e; exact (hf a).of⟩
theorem keep_elim {o : Option α} {f : α → State} (h : Keep m s X) (hf : ∀ a, Keep m s (f a)) : Keep m s (o.elim X f) := by
  cases o with
  | none => exact h
  | some a => exact hf a
theorem keepOptFst_map {o : Option State} {f : State → State × α} (h : KeepOpt m s o) (hf : ∀ a, Keep m s a → KeepFst m s (f a)) :
    KeepOptFst m s (o.map f) := ⟨fun t e => by
  cases o with
  | none => cases e
  | some a => cases e; exact (hf a (h.of a rfl)).of⟩
theorem keepOptFst_bind {γ : Type} {o : Option γ} {f : γ → Option (State × α)} (hf : ∀ a, KeepOptFst m s (f a)) :
    KeepOptFst m s (o.bind f) := ⟨fun t e => by
  cases o with
  | none => cases e
  | some a => exact (hf a).of t e⟩
theorem keep_getD {o : Option State} (h : KeepOpt m s o) (k : Keep m s X) : Keep m s (o.getD X) := by
  cases o with
  | none => exact k
  | some a => exact h.of a rfl
theorem keepFst_getD {o : Option (State × α)} {p : State × α} (h : KeepOptFst m s o) (k : KeepFst m s p) : KeepFst m s (o.getD p) := by
  cases o with
  | none => exact k
  | some a => exact ⟨h.of a rfl⟩
theorem keepSnd_getD {o : Option (α × State)} {p : α × State} (h : KeepOptSnd m s o) (k : KeepSnd m s p) : KeepSnd m s (o.getD p) := by
  cases o with
  | none => exact k
  | some a => exact ⟨h.of a rfl⟩
structure KeepSum {α β : Type} (m : Part → Bool) (s : State) (x : α ⊕ β × State) : Prop where of : ∀ q, x = .inr q → Keep m s q.2
theorem keepSum_inl {a : α} : KeepSum m s (.inl a : α ⊕ β × State) := ⟨fun _ e => by cases e⟩
theorem keepSum_inr {p : β × State} (h : KeepSnd m s p) : KeepSum m s (.inr p : α ⊕ β × State) := ⟨fun _ e => by cases e; exact h.of⟩
theorem keepSum_of {x : α ⊕ β × State} {b : β} (h : KeepSum m s x) (e : x = .inr (b, t)) : Keep m s t := h.of _ e
theorem keepOpt_foldl {l : List α} {f : Option State → α → Option State} {o : Option State}
    (hf : ∀ o x, KeepOpt m s o → KeepOpt m s (f o x)) (h : KeepOpt m s o) : KeepOpt m s (l.foldl f o) := by
  induction l generalizing o with
  | nil => exact h
  | cons a l ih => exact ih (hf o a h)
theorem keepOpt_bind {o : Option State} {f : State → Option State} (h : KeepOpt m s o) (hf : ∀ a, Keep m s a → KeepOpt m s (f a)) :
    KeepOpt m s (o.bind f) := ⟨fun t e => by
  cases o with
  | none => cases e
  | some a => exact (hf a (h.of a rfl)).of t e⟩
theorem keepRes_next (h : Keep m s t) : KeepRes m s (.next t) := ⟨fun _ e => by cases e; exact h⟩
theorem keepRes_fault {r : Fault} : KeepRes m s (.fault r) := ⟨fun _ e => by cases e⟩
theorem keepRes_of {r : Result} (h : KeepRes m s r) (e : r = .next t) : Keep m s t := h.of t e
theorem keepRes_guarded {b : Bool} (h : Keep m s t) : KeepRes m s (guarded b t) := ⟨fun x e => by
  unfold guarded at e
  split at e
  · cases e; exact h
  · cases e⟩

theorem keep_foldl {l : List α} {f : State → α → State} (hf : ∀ t x, Keep m s t → Keep m s (f t x)) (h : Keep m s X) :
    Keep m s (l.foldl f X) := by
  induction l generalizing X with
  | nil => exact h
  | cons a l ih => exact ih (hf X a h)

theorem keepSnd_foldl {l : List α} {f : β × State → α → β × State} {p : β × State} (hf : ∀ q x, KeepSnd m s q → KeepSnd m s (f q x))
    (h : KeepSnd m s p) : KeepSnd m s (l.foldl f p) := by
  induction l generalizing p with
  | nil => exact h
  | cons a l ih => exact ih (hf p a h)

theorem keepFst_foldl {l : List α} {f : State × β → α → State × β} {p : State × β} (hf : ∀ q x, KeepFst m s q → KeepFst m s (f q x))
    (h : KeepFst m s p) : KeepFst m s (l.foldl f p) := by
  induction l generalizing p with
  | nil => exact h
  | cons a l ih => exact ih (hf p a h)

/-- A `let`: what is shown of its value once holds of its name from then on. -/
theorem keep_let {v x : State} {P : Prop} (e : x = v) (h : Keep m s v) (k : Keep m s x → P) : P := k (e ▸ h)
theorem keepSnd_let {v x : α × State} {P : Prop} (e : x = v) (h : KeepSnd m s v) (k : KeepSnd m s x → P) : P := k (e ▸ h)
theorem keepOpt_let {v x : Option State} {P : Prop} (e : x = v) (h : KeepOpt m s v) (k : KeepOpt m s x → P) : P := k (e ▸ h)
theorem keepOptSnd_let {v x : Option (α × State)} {P : Prop} (e : x = v) (h : KeepOptSnd m s v) (k : KeepOptSnd m s x → P) : P := k (e ▸ h)
theorem keepOptFst_let {v x : Option (State × α)} {P : Prop} (e : x = v) (h : KeepOptFst m s v) (k : KeepOptFst m s x → P) : P := k (e ▸ h)
theorem keepFst_let {v x : State × α} {P : Prop} (e : x = v) (h : KeepFst m s v) (k : KeepFst m s x → P) : P := k (e ▸ h)

end Sys2Proof.Machine
end

