-- ==== Sys2Proof/Laws/KeepOps.lean ====
section
/-!
SUPPORT. What the operations and meanings of Machine/Ops.lean keep (`Keep`).
-/
set_option Elab.async false
set_option linter.all false
namespace Sys2Proof.Machine

theorem setReg_keep (_m0 : m .regs = true) (h : Keep m s X) : Keep m s (setReg X a1 a2) := by
  unfold setReg
  repeat' (with_reducible first | assumption | refine keep_mk ?_)

theorem putFld_keep (_m0 : m .regs = true) (h : Keep m s X) : Keep m s (putFld X a1 a2 a3 a4) := by
  unfold putFld
  repeat' (with_reducible first | assumption | refine setReg_keep (by assumption) ?_)

theorem putBit_keep (_m0 : m .regs = true) (h : Keep m s X) : Keep m s (putBit X a1 a2 a3) := by
  unfold putBit
  repeat' (with_reducible first | assumption | refine setReg_keep (by assumption) ?_)

theorem State_setHalf_keep (_m0 : m .halves = true) (h : Keep m s X) : Keep m s (State.setHalf X a1 a2) := by
  unfold State.setHalf
  repeat' (first
    | (with_reducible assumption)
    | split
    | (with_reducible refine keep_mk ?_))

theorem State_setHub_keep (_m0 : m .hubs = true) (h : Keep m s X) : Keep m s (State.setHub X a1 a2) := by
  unfold State.setHub
  repeat' (first
    | (with_reducible assumption)
    | split
    | (with_reducible refine keep_mk ?_))

theorem State_setDie_keep (_m0 : m .dies = true) (h : Keep m s X) : Keep m s (State.setDie X a1 a2) := by
  unfold State.setDie
  repeat' (with_reducible first | assumption | refine keep_mk ?_)

theorem wakeMem_keep (_m0 : m .dies = true) (h : Keep m s X) : Keep m s (wakeMem X a1) := by
  unfold wakeMem
  repeat' (first
    | (with_reducible assumption)
    | ((try lift_lets -underBinder); intro x; clear_value (e : x = _); clear e)
    | (with_reducible refine State_setDie_keep (by assumption) ?_)
    | split)

theorem drawFree_keep (_m0 : m .free = true) (h : Keep m s X) : KeepSnd m s (drawFree X) := by
  unfold drawFree
  repeat' (with_reducible first | assumption | refine keepSnd_mk ?_ | refine keep_mk ?_)

theorem emit_keep (_m0 : m .outputs = true) (h : Keep m s X) : Keep m s (emit X a1) :=
  h.upd rfl ⟨rfl, id, id⟩ (Nat.le_refl _) (List.prefix_append _ _) id (fun p hp => by
    cases p
    case outputs => exact absurd (hp.symm.trans _m0) Bool.false_ne_true
    all_goals simp [Same, emit])

theorem setMsix_keep (_m0 : m .msix = true) (h : Keep m s X) : Keep m s (setMsix X a1 a2) := by
  unfold setMsix
  repeat' (with_reducible first | assumption | refine keep_mk ?_)

theorem sendVector_keep (_m0 : m .msix = true) (_m1 : m .outputs = true) (h : Keep m s X) : Keep m s (sendVector X a1 a2) := by
  unfold sendVector
  repeat' (first
    | (with_reducible first
        | assumption | refine setMsix_keep (by assumption) ?_ | refine emit_keep (by assumption) ?_)
    | split)

theorem sendCause_keep (_m0 : m .msix = true) (_m1 : m .outputs = true) (h : Keep m s X) : Keep m s (sendCause X a1 a2) := by
  unfold sendCause
  repeat' (first
    | (with_reducible assumption)
    | ((try lift_lets -underBinder); intro x; clear_value (e : x = _); (with_reducible refine keep_let (m := m) (s := s) e ?_ (fun _ => ?_) <;> clear e))
    | (with_reducible first
        | refine sendVector_keep (by assumption) (by assumption) ?_
        | refine emit_keep (by assumption) ?_)
    | split)

theorem sendRising_keep (_m0 : m .msix = true) (_m1 : m .outputs = true) (h : Keep m s X) : Keep m s (sendRising X a1 a2) := by
  unfold sendRising
  repeat' (first
    | (with_reducible first
        | assumption | refine sendCause_keep (by assumption) (by assumption) ?_
        | refine keep_foldl (fun _ _ _ => ?_) ?_)
    | split)

theorem setCauses_keep (_m0 : m .regs = true) (_m1 : m .msix = true) (_m2 : m .outputs = true) (h : Keep m s X) : Keep m s (setCauses X a1 a2) := by
  unfold setCauses
  repeat' (first
    | (with_reducible assumption)
    | ((try lift_lets -underBinder); intro x; clear_value (e : x = _); first | (with_reducible refine keep_let (m := m) (s := s) e ?_ (fun _ => ?_) <;> clear e) | clear e)
    | (with_reducible first
        | refine setReg_keep (by assumption) ?_
        | refine sendRising_keep (by assumption) (by assumption) ?_
        | refine sendVector_keep (by assumption) (by assumption) ?_)
    | split)

theorem setCause_keep (_m0 : m .regs = true) (_m1 : m .msix = true) (_m2 : m .outputs = true) (h : Keep m s X) : Keep m s (setCause X a1 a2) := by
  unfold setCause
  repeat' (with_reducible first
      | assumption | refine setCauses_keep (by assumption) (by assumption) (by assumption) ?_)

theorem lastGasp_keep (_m0 : m .regs = true) (_m1 : m .msix = true) (_m2 : m .outputs = true) (h : Keep m s X) : Keep m s (lastGasp X a1 a2) := by
  unfold lastGasp
  repeat' (first
    | (with_reducible assumption)
    | ((try lift_lets -underBinder); intro x; clear_value (e : x = _); first | (with_reducible refine keep_let (m := m) (s := s) e ?_ (fun _ => ?_) <;> clear e) | clear e)
    | (with_reducible first
        | refine putBit_keep (by assumption) ?_ | refine setReg_keep (by assumption) ?_
        | refine setCause_keep (by assumption) (by assumption) (by assumption) ?_)
    | split)

theorem enqueueEvent_keep (_m0 : m .events = true) (h : Keep m s X) : Keep m s (enqueueEvent X a1 a2 a3 a4 a5 a6 a7 a8) := by
  unfold enqueueEvent
  repeat' (first
    | (with_reducible assumption)
    | ((try lift_lets -underBinder); intro x; clear_value (e : x = _); clear e)
    | (with_reducible refine keep_mk ?_))

theorem coalesceEvent_keep (_m0 : m .regs = true) (_m1 : m .msix = true) (_m2 : m .events = true) (_m3 : m .outputs = true) (h : Keep m s X) : Keep m s (coalesceEvent X a1 a2) := by
  unfold coalesceEvent
  repeat' (first
    | (with_reducible assumption)
    | ((try lift_lets -underBinder); intro x; clear_value (e : x = _); first | (with_reducible refine keep_let (m := m) (s := s) e ?_ (fun _ => ?_) <;> clear e) | clear e)
    | (with_reducible refine setCause_keep (by assumption) (by assumption) (by assumption) ?_)
    | split
    | (with_reducible refine keep_mk ?_))

theorem raiseEvent_keep (_m0 : m .regs = true) (_m1 : m .msix = true) (_m2 : m .events = true) (_m3 : m .outputs = true) (h : Keep m s X) : Keep m s (raiseEvent X a1 a2 a3 a4 a5 a6) := by
  unfold raiseEvent
  repeat' (first
    | (with_reducible first
        | assumption | refine enqueueEvent_keep (by assumption) ?_
        | refine lastGasp_keep (by assumption) (by assumption) (by assumption) ?_
        | refine coalesceEvent_keep (by assumption) (by assumption) (by assumption) (by assumption) ?_)
    | split)

theorem devEvent_keep (_m0 : m .regs = true) (_m1 : m .msix = true) (_m2 : m .events = true) (_m3 : m .outputs = true) (h : Keep m s X) : Keep m s (devEvent X a1 a2 a3) := by
  unfold devEvent
  repeat' (with_reducible first
      | assumption
      | refine raiseEvent_keep (by assumption) (by assumption) (by assumption) (by assumption) ?_)

theorem halfEvent_keep (_m0 : m .regs = true) (_m1 : m .msix = true) (_m2 : m .events = true) (_m3 : m .outputs = true) (h : Keep m s X) : Keep m s (halfEvent X a1 a2 a3 a4) := by
  unfold halfEvent
  repeat' (with_reducible first
      | assumption
      | refine raiseEvent_keep (by assumption) (by assumption) (by assumption) (by assumption) ?_)

theorem capture_keep (_m0 : m .regs = true) (_m1 : m .msix = true) (_m2 : m .events = true) (_m3 : m .outputs = true) (h : Keep m s X) : Keep m s (capture X a1 a2 a3 a4 a5 a6) := by
  unfold capture
  repeat' (first
    | (with_reducible assumption)
    | ((try lift_lets -underBinder); intro x; clear_value (e : x = _); first | (with_reducible refine keep_let (m := m) (s := s) e ?_ (fun _ => ?_) <;> clear e) | clear e)
    | (with_reducible first
        | refine putFld_keep (by assumption) ?_ | refine setReg_keep (by assumption) ?_
        | refine raiseEvent_keep (by assumption) (by assumption) (by assumption) (by assumption) ?_
        | refine setCause_keep (by assumption) (by assumption) (by assumption) ?_)
    | split)

theorem rearmCapture_keep (_m0 : m .regs = true) (h : Keep m s X) : Keep m s (rearmCapture X a1) := by
  unfold rearmCapture
  repeat' (with_reducible first | assumption | refine putBit_keep (by assumption) ?_)

theorem setCnt_keep (_m0 : m .counters = true) (h : Keep m s X) : Keep m s (setCnt X a1 a2) := by
  unfold setCnt
  repeat' (with_reducible first | assumption | refine keep_mk ?_)

theorem count_keep (_m0 : m .regs = true) (_m1 : m .counters = true) (_m2 : m .msix = true) (_m3 : m .events = true) (_m4 : m .outputs = true) (h : Keep m s X) : Keep m s (count X a1 a2) := by
  unfold count
  repeat' (first
    | (with_reducible assumption)
    | ((try lift_lets -underBinder); intro x; clear_value (e : x = _); first | (with_reducible refine keep_let (m := m) (s := s) e ?_ (fun _ => ?_) <;> clear e) | clear e)
    | (with_reducible first
        | refine setCnt_keep (by assumption) ?_
        | refine raiseEvent_keep (by assumption) (by assumption) (by assumption) (by assumption) ?_)
    | split)

theorem ledgerWrite_keep (_m0 : m .nvs = true) (_m1 : m .regs = true) (h : Keep m s X) : Keep m s (ledgerWrite X a1) := by
  unfold ledgerWrite
  repeat' (first
    | (with_reducible assumption)
    | ((try lift_lets -underBinder); intro x; clear_value (e : x = _); first | (with_reducible refine keep_let (m := m) (s := s) e ?_ (fun _ => ?_) <;> clear e) | (have _ : Nvs := x; subst e) | clear e)
    | (with_reducible refine setReg_keep (by assumption) ?_)
    | split
    | (with_reducible refine keep_mk ?_))

theorem guarded_keep (h : Keep m s X) : KeepRes m s (guarded a0 X) := by
  unfold guarded
  repeat' (first
    | (with_reducible first | assumption | refine keepRes_next ?_ | exact keepRes_fault)
    | split)

end Sys2Proof.Machine
end

