-- ==== Sys2Proof/Laws/KeepFallow.lean ====
section
/-!
SUPPORT. What the operations and meanings of Machine/Fallow.lean keep (`Keep`).
-/
set_option Elab.async false
set_option linter.all false
namespace Sys2Proof.Machine

theorem fallowAdd_keep (_m0 : m .nvs = true) (h : Keep m s X) : Keep m s (fallowAdd X a1 a2 a3 a4 a5) := by
  unfold fallowAdd
  repeat' (first
    | (with_reducible assumption)
    | ((try lift_lets -underBinder); intro x; clear_value (e : x = _); first | (have _ : Nvs := x; subst e) | clear e)
    | split
    | (with_reducible refine keep_mk ?_))

theorem channelFallow_keep (_m0 : m .nvs = true) (_m1 : m .regs = true) (h : Keep m s X) : Keep m s (channelFallow X a1 a2 a3) := by
  unfold channelFallow
  repeat' (with_reducible first
      | assumption | refine fallowAdd_keep (by assumption) ?_
      | refine putBit_keep (by assumption) ?_)

theorem pairFallow_keep (_m0 : m .nvs = true) (_m1 : m .regs = true) (h : Keep m s X) : Keep m s (pairFallow X a1 a2 a3 a4) := by
  unfold pairFallow
  repeat' (first
    | (with_reducible assumption)
    | ((try lift_lets -underBinder); intro x; clear_value (e : x = _); (have _ : Nvs := x; subst e))
    | (with_reducible first
        | refine fallowAdd_keep (by assumption) ?_ | refine putBit_keep (by assumption) ?_
        | refine channelFallow_keep (by assumption) (by assumption) ?_)
    | split
    | (with_reducible refine keep_mk ?_))

theorem setCoreId_keep (_m0 : m .regs = true) (h : Keep m s X) : Keep m s (setCoreId X a1 a2 a3 a4) := by
  unfold setCoreId
  repeat' (with_reducible first | assumption | refine setReg_keep (by assumption) ?_)

theorem mapCore_keep (_m0 : m .regs = true) (h : Keep m s X) : Keep m s (mapCore X a1 a2 a3) := by
  unfold mapCore
  repeat' (with_reducible first | assumption | refine putFld_keep (by assumption) ?_)

theorem mapCores_keep (_m0 : m .regs = true) (h : Keep m s X) : Keep m s (mapCores X a1 a2) := by
  unfold mapCores
  repeat' (first
    | (with_reducible first | assumption | exact keepFst_pair (by with_reducible assumption))
    | ((try lift_lets -underBinder); intro x; clear_value (e : x = _); first | (with_reducible refine keep_let (m := m) (s := s) e ?_ (fun _ => ?_) <;> clear e) | (have _ := fun a => x a; subst e; try dsimp -zeta only) | clear e)
    | (with_reducible first
        | refine setCoreId_keep (by assumption) ?_ | refine mapCore_keep (by assumption) ?_
        | refine setReg_keep (by assumption) ?_ | refine keep_foldl (fun _ _ _ => ?_) ?_
        | refine keepFst_foldl (fun _ _ _ => ?_) ?_ | refine keepFst_proj ?_)
    | split
    | (with_reducible refine keepFst_mk ?_))

theorem dieExhausted_keep (_m0 : m .dies = true) (_m1 : m .nvs = true) (_m2 : m .regs = true) (_m3 : m .msix = true) (_m4 : m .outputs = true) (h : Keep m s X) : Keep m s (dieExhausted X a1 a2) := by
  unfold dieExhausted
  repeat' (first
    | (with_reducible assumption)
    | ((try lift_lets -underBinder); intro x; clear_value (e : x = _); first | (with_reducible refine keep_let (m := m) (s := s) e ?_ (fun _ => ?_) <;> clear e) | clear e)
    | (with_reducible first
        | refine setCause_keep (by assumption) (by assumption) (by assumption) ?_
        | refine State_setDie_keep (by assumption) ?_ | refine fallowAdd_keep (by assumption) ?_))

end Sys2Proof.Machine
end

