-- ==== Sys2Proof/Laws/KeepTrace.lean ====
section
/-!
SUPPORT. What the operations and meanings of Machine/Trace.lean keep (`Keep`).
-/
set_option Elab.async false
set_option linter.all false
namespace Sys2Proof.Machine

theorem State_setSource_keep (_m0 : m .sources = true) (h : Keep m s X) : Keep m s (State.setSource X a1 a2) := by
  unfold State.setSource
  repeat' (with_reducible first | assumption | refine keep_mk ?_)

theorem trace_keep (_m0 : m .sources = true) (_m1 : m .regs = true) (_m2 : m .counters = true) (_m3 : m .msix = true) (_m4 : m .events = true) (_m5 : m .outputs = true) (h : Keep m s X) : Keep m s (trace X a1 a2) := by
  unfold trace
  repeat' (first
    | (with_reducible assumption)
    | ((try lift_lets -underBinder); intro x; clear_value (e : x = _); clear e)
    | (with_reducible first
        | refine setCause_keep (by assumption) (by assumption) (by assumption) ?_
        | refine count_keep (by assumption) (by assumption) (by assumption) (by assumption) (by assumption) ?_
        | refine State_setSource_keep (by assumption) ?_)
    | split)

theorem traceBoth_keep (_m0 : m .sources = true) (_m1 : m .regs = true) (_m2 : m .counters = true) (_m3 : m .msix = true) (_m4 : m .events = true) (_m5 : m .outputs = true) (h : Keep m s X) : Keep m s (traceBoth X a1) := by
  unfold traceBoth
  repeat' (with_reducible first
      | assumption
      | refine trace_keep (by assumption) (by assumption) (by assumption) (by assumption) (by assumption) (by assumption) ?_)

theorem storeRecord_keep (_m0 : m .hubs = true) (_m1 : m .regs = true) (_m2 : m .msix = true) (_m3 : m .outputs = true) (h : Keep m s X) : Keep m s (storeRecord X a1 a2) := by
  unfold storeRecord
  repeat' (first
    | (with_reducible assumption)
    | ((try lift_lets -underBinder); intro x; clear_value (e : x = _); first | (have _ := fun a => x a; subst e; try dsimp -zeta only) | clear e)
    | (with_reducible first
        | refine State_setHub_keep (by assumption) ?_
        | refine setCause_keep (by assumption) (by assumption) (by assumption) ?_)
    | split)

theorem shiftSource_keep (_m0 : m .hubs = true) (_m1 : m .sources = true) (_m2 : m .regs = true) (_m3 : m .msix = true) (_m4 : m .outputs = true) (h : Keep m s X) : Keep m s (shiftSource X a1) := by
  unfold shiftSource
  repeat' (first
    | (with_reducible assumption)
    | ((try lift_lets -underBinder); intro x; clear_value (e : x = _); clear e)
    | (with_reducible first
        | refine storeRecord_keep (by assumption) (by assumption) (by assumption) (by assumption) ?_
        | refine State_setSource_keep (by assumption) ?_)
    | split)

end Sys2Proof.Machine
end

