-- ==== Sys2Proof/Laws/KeepLink.lean ====
section
/-!
SUPPORT. What the operations and meanings of Machine/Link.lean keep (`Keep`).
-/
set_option Elab.async false
set_option linter.all false
namespace Sys2Proof.Machine

theorem State_setPort_keep (_m0 : m .ports = true) (_m1 : m .regs = true) (h : Keep m s X) : Keep m s (State.setPort X a1 a2) := by
  unfold State.setPort
  repeat' (with_reducible first
      | assumption | refine putFld_keep (by assumption) ?_ | refine keep_mk ?_)

theorem State_setLink_keep (_m0 : m .links = true) (h : Keep m s X) : Keep m s (State.setLink X a1 a2) := by
  unfold State.setLink
  repeat' (with_reducible first | assumption | refine keep_mk ?_)

theorem sendOne_keep (_m0 : m .links = true) (_m1 : m .regs = true) (_m2 : m .counters = true) (_m3 : m .msix = true) (_m4 : m .events = true) (_m5 : m .outputs = true) (h : KeepFst m s p) : KeepFst m s (sendOne a0 p a2) := by
  unfold sendOne
  repeat' (first
    | (with_reducible first | assumption | exact keepFst_pair (by with_reducible assumption))
    | ((try lift_lets -underBinder); intro x; clear_value (e : x = _); first | (with_reducible refine keep_let (m := m) (s := s) e ?_ (fun _ => ?_) <;> clear e) | clear e)
    | (with_reducible first
        | refine State_setLink_keep (by assumption) ?_ | refine emit_keep (by assumption) ?_
        | refine count_keep (by assumption) (by assumption) (by assumption) (by assumption) (by assumption) ?_)
    | split
    | (with_reducible refine keepFst_mk ?_))

theorem pump_keep (_m0 : m .links = true) (_m1 : m .regs = true) (_m2 : m .counters = true) (_m3 : m .msix = true) (_m4 : m .events = true) (_m5 : m .outputs = true) (h : Keep m s X) : Keep m s (pump X a1) := by
  unfold pump
  repeat' (first
    | (with_reducible assumption)
    | ((try lift_lets -underBinder); intro x; clear_value (e : x = _); clear e)
    | (with_reducible first
        | refine sendOne_keep (by assumption) (by assumption) (by assumption) (by assumption) (by assumption) (by assumption) ?_
        | refine State_setLink_keep (by assumption) ?_ | refine keepFst_foldl (fun _ _ _ => ?_) ?_
        | refine keepFst_proj ?_ | refine keepFst_mk ?_))

theorem queueFlit_keep (_m0 : m .links = true) (_m1 : m .regs = true) (_m2 : m .counters = true) (_m3 : m .msix = true) (_m4 : m .events = true) (_m5 : m .outputs = true) (h : Keep m s X) : Keep m s (queueFlit X a1 a2) := by
  unfold queueFlit
  repeat' (first
    | (with_reducible assumption)
    | ((try lift_lets -underBinder); intro x; clear_value (e : x = _); clear e)
    | (with_reducible first
        | refine pump_keep (by assumption) (by assumption) (by assumption) (by assumption) (by assumption) (by assumption) ?_
        | refine State_setLink_keep (by assumption) ?_))

theorem sliceDrop_keep (_m0 : m .regs = true) (_m1 : m .counters = true) (_m2 : m .msix = true) (_m3 : m .events = true) (_m4 : m .outputs = true) (h : Keep m s X) : Keep m s (sliceDrop X a1 a2 a3 a4 a5) := by
  unfold sliceDrop
  repeat' (first
    | (with_reducible assumption)
    | ((try lift_lets -underBinder); intro x; clear_value (e : x = _); (with_reducible refine keep_let (m := m) (s := s) e ?_ (fun _ => ?_) <;> clear e))
    | (with_reducible first
        | refine count_keep (by assumption) (by assumption) (by assumption) (by assumption) (by assumption) ?_
        | refine setCause_keep (by assumption) (by assumption) (by assumption) ?_
        | refine capture_keep (by assumption) (by assumption) (by assumption) (by assumption) ?_))

theorem routeFlit_keep (_m0 : m .links = true) (_m1 : m .regs = true) (_m2 : m .counters = true) (_m3 : m .msix = true) (_m4 : m .events = true) (_m5 : m .outputs = true) (h : Keep m s X) : Keep m s (routeFlit X a1 a2) := by
  unfold routeFlit
  repeat' (first
    | (with_reducible assumption)
    | ((try lift_lets -underBinder); intro x; clear_value (e : x = _); first | (with_reducible refine keep_let (m := m) (s := s) e ?_ (fun _ => ?_) <;> clear e) | clear e)
    | (with_reducible first
        | refine sliceDrop_keep (by assumption) (by assumption) (by assumption) (by assumption) (by assumption) ?_
        | refine count_keep (by assumption) (by assumption) (by assumption) (by assumption) (by assumption) ?_
        | refine queueFlit_keep (by assumption) (by assumption) (by assumption) (by assumption) (by assumption) (by assumption) ?_)
    | split)

theorem forwardFlit_keep (_m0 : m .links = true) (_m1 : m .regs = true) (_m2 : m .counters = true) (_m3 : m .msix = true) (_m4 : m .events = true) (_m5 : m .outputs = true) (h : Keep m s X) : Keep m s (forwardFlit X a1 a2) := by
  unfold forwardFlit
  repeat' (first
    | (with_reducible first
        | assumption
        | refine queueFlit_keep (by assumption) (by assumption) (by assumption) (by assumption) (by assumption) (by assumption) ?_
        | refine routeFlit_keep (by assumption) (by assumption) (by assumption) (by assumption) (by assumption) (by assumption) ?_)
    | split)

theorem sendLm_keep (_m0 : m .outputs = true) (h : Keep m s X) : Keep m s (sendLm X a1 a2 a3 a4 a5) := by
  unfold sendLm
  repeat' (with_reducible first | assumption | refine emit_keep (by assumption) ?_)

theorem freeCredit_keep (_m0 : m .links = true) (h : Keep m s X) : Keep m s (freeCredit X a1 a2 a3) := by
  unfold freeCredit
  repeat' (first
    | (with_reducible assumption)
    | ((try lift_lets -underBinder); intro x; clear_value (e : x = _); first | (have _ := fun a => x a; subst e; try dsimp -zeta only) | clear e)
    | (with_reducible refine State_setLink_keep (by assumption) ?_))

theorem arrive_keep (_m0 : m .links = true) (h : Keep m s X) : Keep m s (arrive X a1 a2) := by
  unfold arrive
  repeat' (with_reducible first | assumption | refine keep_mk ?_)

theorem launch_keep (_m0 : m .links = true) (_m1 : m .regs = true) (_m2 : m .counters = true) (_m3 : m .msix = true) (_m4 : m .events = true) (_m5 : m .outputs = true) (h : Keep m s X) : Keep m s (launch X a1) := by
  unfold launch
  repeat' (first
    | (with_reducible first
        | assumption | refine arrive_keep (by assumption) ?_
        | refine forwardFlit_keep (by assumption) (by assumption) (by assumption) (by assumption) (by assumption) (by assumption) ?_
        | refine keep_foldl (fun _ _ _ => ?_) ?_)
    | split)

theorem newMsgId_keep (_m0 : m .links = true) (h : Keep m s X) : KeepSnd m s (newMsgId X a1) := by
  unfold newMsgId
  repeat' (first
    | (with_reducible assumption)
    | ((try lift_lets -underBinder); intro x; clear_value (e : x = _); clear e)
    | (with_reducible first | refine keepSnd_mk ?_ | refine keep_mk ?_))

theorem sendMsg_keep (_m0 : m .links = true) (_m1 : m .regs = true) (_m2 : m .counters = true) (_m3 : m .msix = true) (_m4 : m .events = true) (_m5 : m .outputs = true) (h : Keep m s X) : KeepSnd m s (sendMsg X a1 a2 a3 a4 a5 a6 a7) := by
  unfold sendMsg
  repeat' (first
    | (with_reducible assumption)
    | ((try lift_lets -underBinder); intro x; clear_value (e : x = _); clear e)
    | (with_reducible first
        | refine newMsgId_keep (by assumption) ?_
        | refine launch_keep (by assumption) (by assumption) (by assumption) (by assumption) (by assumption) (by assumption) ?_
        | refine keepSnd_of ?_ (by with_reducible assumption))
    | split
    | (with_reducible first | refine keepSnd_mk ?_ | refine keep_mk ?_))

theorem sendThrough_keep (_m0 : m .links = true) (_m1 : m .regs = true) (_m2 : m .counters = true) (_m3 : m .msix = true) (_m4 : m .events = true) (_m5 : m .outputs = true) (h : Keep m s X) : Keep m s (sendThrough X a1 a2) := by
  unfold sendThrough
  repeat' (with_reducible first
      | assumption
      | refine queueFlit_keep (by assumption) (by assumption) (by assumption) (by assumption) (by assumption) (by assumption) ?_
      | refine keep_foldl (fun _ _ _ => ?_) ?_)

theorem acknowledge_keep (_m0 : m .links = true) (_m1 : m .regs = true) (_m2 : m .counters = true) (_m3 : m .msix = true) (_m4 : m .events = true) (_m5 : m .outputs = true) (h : Keep m s X) : Keep m s (acknowledge X a1) := by
  unfold acknowledge
  repeat' (first
    | (with_reducible first
        | assumption
        | refine sendMsg_keep (by assumption) (by assumption) (by assumption) (by assumption) (by assumption) (by assumption) ?_
        | refine keepSnd_proj ?_)
    | split)

theorem takeMsg_keep (_m0 : m .links = true) (_m1 : m .regs = true) (_m2 : m .counters = true) (_m3 : m .msix = true) (_m4 : m .events = true) (_m5 : m .outputs = true) (h : Keep m s X) : KeepOptTri m s (takeMsg X a1) := by
  unfold takeMsg
  repeat' (first
    | (with_reducible assumption)
    | ((try lift_lets -underBinder); intro x; clear_value (e : x = _); first | (with_reducible refine keep_let (m := m) (s := s) e ?_ (fun _ => ?_) <;> clear e) | clear e)
    | (with_reducible first
        | refine acknowledge_keep (by assumption) (by assumption) (by assumption) (by assumption) (by assumption) (by assumption) ?_
        | refine count_keep (by assumption) (by assumption) (by assumption) (by assumption) (by assumption) ?_
        | refine keepOptTri_some ?_ | exact keepOptTri_none)
    | split
    | (with_reducible refine keep_mk ?_))

theorem onMsg_keep (_m0 : m .links = true) (_m1 : m .regs = true) (_m2 : m .counters = true) (_m3 : m .msix = true) (_m4 : m .events = true) (_m5 : m .outputs = true) (h : Keep m s X) (hf2 : ∀ x0 x1, Keep m s x0 → Keep m s (f2 x0 x1)) : Keep m s (onMsg X a1 f2) := by
  unfold onMsg
  repeat' (first
    | (with_reducible first
        | assumption | apply hf2
        | refine takeMsg_keep (by assumption) (by assumption) (by assumption) (by assumption) (by assumption) (by assumption) ?_
        | refine acknowledge_keep (by assumption) (by assumption) (by assumption) (by assumption) (by assumption) (by assumption) ?_
        | refine keepOptTri_of ?_ (by with_reducible assumption))
    | split)

end Sys2Proof.Machine
end

