-- ==== Sys2Proof/Laws/KeepMem.lean ====
section
/-!
SUPPORT. What the operations and meanings of Machine/Mem.lean keep (`Keep`).
-/
set_option Elab.async false
set_option linter.all false
namespace Sys2Proof.Machine

theorem setPoison_keep (_m0 : m .memory = true) (h : Keep m s X) : Keep m s (setPoison X a1 a2) := by
  unfold setPoison
  repeat' (with_reducible first | assumption | refine keep_mk ?_)

theorem putT1_keep (_m0 : m .memory = true) (h : Keep m s X) : Keep m s (putT1 X a1 a2) := by
  unfold putT1
  repeat' (with_reducible first | assumption | refine keep_mk ?_)

theorem fullWrite_keep (_m0 : m .memory = true) (h : Keep m s X) : Keep m s (fullWrite X a1 a2) := by
  unfold fullWrite
  repeat' (with_reducible first
      | assumption | refine setPoison_keep (by assumption) ?_ | refine putT1_keep (by assumption) ?_
      | refine keep_foldl (fun _ _ _ => ?_) ?_)

theorem putExtent_keep (_m0 : m .memory = true) (h : Keep m s X) : Keep m s (putExtent X a1 a2 a3) := by
  unfold putExtent
  repeat' (with_reducible first | assumption | refine keep_mk ?_)

theorem clearExtentPoison_keep (_m0 : m .memory = true) (h : Keep m s X) : Keep m s (clearExtentPoison X a1 a2 a3) := by
  unfold clearExtentPoison
  repeat' (with_reducible first
      | assumption | refine setPoison_keep (by assumption) ?_
      | refine keep_foldl (fun _ _ _ => ?_) ?_)

theorem State_setTensor_keep (_m0 : m .tensors = true) (h : Keep m s X) : Keep m s (State.setTensor X a1 a2) := by
  unfold State.setTensor
  repeat' (with_reducible first | assumption | refine keep_mk ?_)

theorem freeHandle_keep (_m0 : m .tensors = true) (h : Keep m s X) : Keep m s (freeHandle X a1) := by
  unfold freeHandle
  repeat' (first
    | (with_reducible assumption)
    | ((try lift_lets -underBinder); intro x; clear_value (e : x = _); clear e)
    | (with_reducible refine State_setTensor_keep (by assumption) ?_))

end Sys2Proof.Machine
end

