-- ==== Sys2Proof/Laws/KeepRings.lean ====
section
/-!
SUPPORT. What the operations and meanings of Machine/Rings.lean keep (`Keep`).
-/
set_option Elab.async false
set_option linter.all false
namespace Sys2Proof.Machine

theorem hostOut_keep (_m0 : m .hosts = true) (_m1 : m .outputs = true) (h : Keep m s X) : Keep m s (hostOut X a1 a2 a3) := by
  unfold hostOut
  repeat' (first
    | (with_reducible first | assumption | refine emit_keep (by assumption) ?_)
    | split
    | (with_reducible refine keep_mk ?_))

theorem releaseHeld_keep (_m0 : m .hosts = true) (_m1 : m .outputs = true) (h : Keep m s X) : Keep m s (releaseHeld X) :=
  h.upd rfl ⟨rfl, id, id⟩ (Nat.le_refl _) (List.prefix_append _ _) id (fun p hp => by
    cases p
    case outputs => exact absurd (hp.symm.trans _m1) Bool.false_ne_true
    case hosts => exact absurd (hp.symm.trans _m0) Bool.false_ne_true
    all_goals simp [Same, releaseHeld])

theorem regionWrite_keep (_m0 : m .hosts = true) (_m1 : m .outputs = true) (h : Keep m s X) : Keep m s (regionWrite X a1 a2 a3) := by
  unfold regionWrite
  repeat' (first
    | (with_reducible assumption)
    | ((try lift_lets -underBinder); intro x; clear_value (e : x = _); clear e)
    | (with_reducible refine hostOut_keep (by assumption) (by assumption) ?_))

theorem regionRead_keep (_m0 : m .hosts = true) (_m1 : m .outputs = true) (h : Keep m s X) : Keep m s (regionRead X a1 a2 a3) := by
  unfold regionRead
  repeat' (first
    | (with_reducible assumption)
    | ((try lift_lets -underBinder); intro x; clear_value (e : x = _); clear e)
    | (with_reducible refine hostOut_keep (by assumption) (by assumption) ?_))

theorem State_setRing_keep (_m0 : m .hosts = true) (h : Keep m s X) : Keep m s (State.setRing X a1 a2 a3) := by
  unfold State.setRing
  repeat' (with_reducible first | assumption | refine keep_mk ?_)

theorem writeShadow_keep (_m0 : m .hosts = true) (_m1 : m .outputs = true) (h : Keep m s X) : Keep m s (writeShadow X a1 a2 a3) := by
  unfold writeShadow
  repeat' (first
    | (with_reducible assumption)
    | ((try lift_lets -underBinder); intro x; clear_value (e : x = _); clear e)
    | (with_reducible refine regionWrite_keep (by assumption) (by assumption) ?_))

theorem signalCompletion_keep (_m0 : m .hosts = true) (_m1 : m .msix = true) (_m2 : m .outputs = true) (h : Keep m s X) : Keep m s (signalCompletion X a1) := by
  unfold signalCompletion
  repeat' (first
    | (with_reducible assumption)
    | ((try lift_lets -underBinder); intro x; clear_value (e : x = _); clear e)
    | (with_reducible first
        | refine sendVector_keep (by assumption) (by assumption) ?_
        | refine State_setRing_keep (by assumption) ?_)
    | split)

theorem putCompletion_keep (_m0 : m .hosts = true) (_m1 : m .regs = true) (_m2 : m .msix = true) (_m3 : m .outputs = true) (h : Keep m s X) : Keep m s (putCompletion X a1 a2 a3) := by
  unfold putCompletion
  repeat' (first
    | (with_reducible assumption)
    | ((try lift_lets -underBinder); intro x; clear_value (e : x = _); first | (with_reducible refine keep_let (m := m) (s := s) e ?_ (fun _ => ?_) <;> clear e) | clear e)
    | (with_reducible first
        | refine regionWrite_keep (by assumption) (by assumption) ?_
        | refine putFld_keep (by assumption) ?_
        | refine writeShadow_keep (by assumption) (by assumption) ?_
        | refine signalCompletion_keep (by assumption) (by assumption) (by assumption) ?_)
    | split)

theorem traceCmd_keep (_m0 : m .sources = true) (_m1 : m .regs = true) (_m2 : m .counters = true) (_m3 : m .msix = true) (_m4 : m .events = true) (_m5 : m .outputs = true) (h : Keep m s X) : Keep m s (traceCmd X a1 a2 a3) := by
  unfold traceCmd
  repeat' (first
    | (with_reducible assumption)
    | ((try lift_lets -underBinder); intro x; clear_value (e : x = _); clear e)
    | (with_reducible refine traceBoth_keep (by assumption) (by assumption) (by assumption) (by assumption) (by assumption) (by assumption) ?_))

theorem completeAs_keep (_m0 : m .hosts = true) (_m1 : m .sources = true) (_m2 : m .regs = true) (_m3 : m .counters = true) (_m4 : m .msix = true) (_m5 : m .events = true) (_m6 : m .outputs = true) (h : Keep m s X) : Keep m s (completeAs X a1 a2 a3 a4) := by
  unfold completeAs
  repeat' (first
    | (with_reducible assumption)
    | ((try lift_lets -underBinder); intro x; clear_value (e : x = _); first | (with_reducible refine keep_let (m := m) (s := s) e ?_ (fun _ => ?_) <;> clear e) | clear e)
    | (with_reducible first
        | refine setCause_keep (by assumption) (by assumption) (by assumption) ?_
        | refine count_keep (by assumption) (by assumption) (by assumption) (by assumption) (by assumption) ?_
        | refine traceCmd_keep (by assumption) (by assumption) (by assumption) (by assumption) (by assumption) (by assumption) ?_
        | refine putCompletion_keep (by assumption) (by assumption) (by assumption) (by assumption) ?_
        | refine State_setRing_keep (by assumption) ?_)
    | split)

theorem complete_keep (_m0 : m .hosts = true) (_m1 : m .sources = true) (_m2 : m .regs = true) (_m3 : m .counters = true) (_m4 : m .msix = true) (_m5 : m .events = true) (_m6 : m .outputs = true) (h : Keep m s X) : Keep m s (complete X a1 a2 a3) := by
  unfold complete
  repeat' (with_reducible first
      | assumption
      | refine completeAs_keep (by assumption) (by assumption) (by assumption) (by assumption) (by assumption) (by assumption) (by assumption) ?_)

end Sys2Proof.Machine
end

