-- ==== Sys2Proof/Laws/KeepRequests.lean ====
section
/-!
SUPPORT. What the operations and meanings of Machine/Requests.lean keep (`Keep`).
-/
set_option Elab.async false
set_option linter.all false
namespace Sys2Proof.Machine

theorem State_setEntry_keep (_m0 : m .galley = true) (h : Keep m s X) : Keep m s (State.setEntry X a1 a2) := by
  unfold State.setEntry
  repeat' (with_reducible first | assumption | refine keep_mk ?_)

theorem State_skipEntry_keep (_m0 : m .galley = true) (h : Keep m s X) : Keep m s (State.skipEntry X a1 a2 a3) := by
  unfold State.skipEntry
  repeat' (with_reducible first | assumption | refine State_setEntry_keep (by assumption) ?_)

theorem State_setImpo_keep (_m0 : m .impos = true) (h : Keep m s X) : Keep m s (State.setImpo X a1 a2) := by
  unfold State.setImpo
  repeat' (with_reducible first | assumption | refine keep_mk ?_)

theorem State_setTree_keep (_m0 : m .galley = true) (h : Keep m s X) : Keep m s (State.setTree X a1 a2) := by
  unfold State.setTree
  repeat' (with_reducible first | assumption | refine keep_mk ?_)

theorem scrubFreed_keep (_m0 : m .memory = true) (h : Keep m s X) : Keep m s (scrubFreed X a1) := by
  unfold scrubFreed
  repeat' (first
    | (with_reducible assumption)
    | ((try lift_lets -underBinder); intro x; clear_value (e : x = _); clear e)
    | (with_reducible refine keep_mk ?_))

theorem freeNodeAt_keep (_m0 : m .memory = true) (_m1 : m .galley = true) (h : Keep m s X) : Keep m s (freeNodeAt X a1 a2) := by
  unfold freeNodeAt
  repeat' (first
    | (with_reducible assumption)
    | ((try lift_lets -underBinder); intro x; clear_value (e : x = _); clear e)
    | (with_reducible first
        | refine scrubFreed_keep (by assumption) ?_ | refine State_setTree_keep (by assumption) ?_))

theorem reclaimOne_keep (_m0 : m .memory = true) (_m1 : m .galley = true) (h : Keep m s X) : KeepOpt m s (reclaimOne X) := by
  unfold reclaimOne
  repeat' (first
    | (with_reducible assumption)
    | ((try lift_lets -underBinder); intro x; clear_value (e : x = _); clear e)
    | (with_reducible first
        | refine freeNodeAt_keep (by assumption) (by assumption) ?_
        | refine keepOpt_map (fun _ => ?_)))

theorem placeReclaim_keep (_m0 : m .memory = true) (_m1 : m .galley = true) (h : Keep m s X) : KeepOptSnd m s (placeReclaim a0 X a2 a3 a4 a5 a6) := by
  induction a0 generalizing X a2 a3 a4 a5 a6 with
  | zero =>
    unfold placeReclaim
    repeat' (first
      | (with_reducible first
          | assumption | refine reclaimOne_keep (by assumption) (by assumption) ?_
          | refine keepOptSnd_some ?_ | exact keepOptSnd_none
          | refine keepOpt_of ?_ (by with_reducible assumption))
      | split
      | (with_reducible refine keepSnd_mk ?_))
  | succ _ ih =>
    unfold placeReclaim
    repeat' (first
      | (with_reducible first
          | assumption | refine ih ?_ | refine reclaimOne_keep (by assumption) (by assumption) ?_
          | refine keepOptSnd_some ?_ | exact keepOptSnd_none
          | refine keepOpt_of ?_ (by with_reducible assumption))
      | split
      | (with_reducible refine keepSnd_mk ?_))

theorem dropRefs_keep (_m0 : m .memory = true) (_m1 : m .galley = true) (h : Keep m s X) : Keep m s (dropRefs X a1) := by
  unfold dropRefs
  repeat' (first
    | (with_reducible assumption)
    | ((try lift_lets -underBinder); intro x; clear_value (e : x = _); first | (with_reducible refine keep_let (m := m) (s := s) e ?_ (fun _ => ?_) <;> clear e) | clear e)
    | (with_reducible first
        | refine State_setTree_keep (by assumption) ?_
        | refine freeNodeAt_keep (by assumption) (by assumption) ?_
        | refine State_setEntry_keep (by assumption) ?_ | refine keep_foldl (fun _ _ _ => ?_) ?_)
    | split)

theorem State_setNbu_keep (_m0 : m .units = true) (h : Keep m s X) : Keep m s (State.setNbu X a1 a2 a3 a4) := by
  unfold State.setNbu
  repeat' (with_reducible first | assumption | refine keep_mk ?_)

theorem State_setChan_keep (_m0 : m .units = true) (h : Keep m s X) : Keep m s (State.setChan X a1 a2 a3) := by
  unfold State.setChan
  repeat' (with_reducible first | assumption | refine keep_mk ?_)

theorem State_setCore_keep (_m0 : m .units = true) (h : Keep m s X) : Keep m s (State.setCore X a1 a2 a3) := by
  unfold State.setCore
  repeat' (with_reducible first | assumption | refine keep_mk ?_)

theorem dataWrite_keep (_m0 : m .memory = true) (_m1 : m .units = true) (h : Keep m s X) : Keep m s (dataWrite X a1 a2) := by
  unfold dataWrite
  repeat' (first
    | (with_reducible assumption)
    | ((try lift_lets -underBinder); intro x; clear_value (e : x = _); first | (with_reducible refine keep_let (m := m) (s := s) e ?_ (fun _ => ?_) <;> clear e) | clear e)
    | (with_reducible first
        | refine fullWrite_keep (by assumption) ?_ | refine State_setChan_keep (by assumption) ?_)
    | split)

theorem report_keep (_m0 : m .galley = true) (h : Keep m s X) : Keep m s (report X a1 a2) := by
  unfold report
  repeat' (first
    | (with_reducible assumption)
    | ((try lift_lets -underBinder); intro x; clear_value (e : x = _); clear e)
    | (with_reducible refine State_setEntry_keep (by assumption) ?_))

theorem raiseEnd_keep (_m0 : m .galley = true) (h : Keep m s X) : Keep m s (raiseEnd X a1 a2) := by
  unfold raiseEnd
  repeat' (first
    | (with_reducible assumption)
    | ((try lift_lets -underBinder); intro x; clear_value (e : x = _); clear e)
    | (with_reducible refine State_setEntry_keep (by assumption) ?_)
    | split)

theorem dropMoves_keep (_m0 : m .moves = true) (_m1 : m .hosts = true) (_m2 : m .sources = true) (_m3 : m .regs = true) (_m4 : m .counters = true) (_m5 : m .msix = true) (_m6 : m .events = true) (_m7 : m .outputs = true) (h : Keep m s X) : Keep m s (dropMoves X a1 a2) := by
  unfold dropMoves
  repeat' (first
    | (with_reducible assumption)
    | ((try lift_lets -underBinder); intro x; clear_value (e : x = _); clear e)
    | (with_reducible first
        | refine complete_keep (by assumption) (by assumption) (by assumption) (by assumption) (by assumption) (by assumption) (by assumption) ?_
        | refine keep_foldl (fun _ _ _ => ?_) ?_)
    | split
    | (with_reducible refine keep_mk ?_))

theorem endEntry_keep (_m0 : m .memory = true) (_m1 : m .galley = true) (_m2 : m .tensors = true) (_m3 : m .moves = true) (_m4 : m .hosts = true) (_m5 : m .sources = true) (_m6 : m .regs = true) (_m7 : m .counters = true) (_m8 : m .msix = true) (_m9 : m .events = true) (_m10 : m .outputs = true) (h : Keep m s X) : Keep m s (endEntry X a1 a2) := by
  unfold endEntry
  repeat' (first
    | (with_reducible assumption)
    | ((try lift_lets -underBinder); intro x; clear_value (e : x = _); first | (with_reducible refine keep_let (m := m) (s := s) e ?_ (fun _ => ?_) <;> clear e) | clear e)
    | (with_reducible first
        | refine dropMoves_keep (by assumption) (by assumption) (by assumption) (by assumption) (by assumption) (by assumption) (by assumption) (by assumption) ?_
        | refine dropRefs_keep (by assumption) (by assumption) ?_
        | refine freeHandle_keep (by assumption) ?_ | refine State_setEntry_keep (by assumption) ?_
        | refine count_keep (by assumption) (by assumption) (by assumption) (by assumption) (by assumption) ?_))

theorem freeEntry_keep (_m0 : m .galley = true) (h : Keep m s X) : Keep m s (freeEntry X a1) := by
  unfold freeEntry
  repeat' (first
    | (with_reducible assumption)
    | ((try lift_lets -underBinder); intro x; clear_value (e : x = _); clear e)
    | (with_reducible refine State_setEntry_keep (by assumption) ?_))

theorem wipeRuns_keep (_m0 : m .waits = true) (h : Keep m s X) : Keep m s (wipeRuns X a1 a2) := by
  unfold wipeRuns
  repeat' (with_reducible first | assumption | refine keep_mk ?_)

end Sys2Proof.Machine
end

