-- ==== Sys2Proof/Laws/KeepTwinOps.lean ====
section
/-!
SUPPORT. What the operations and meanings of Machine/TwinOps.lean keep (`Keep`).
-/
set_option Elab.async false
set_option linter.all false
namespace Sys2Proof.Machine

theorem refreshTwin_keep (_m0 : m .twins = true) (_m1 : m .regs = true) (h : Keep m s X) : Keep m s (refreshTwin X) := by
  unfold refreshTwin
  repeat' (first
    | (with_reducible assumption)
    | ((try lift_lets -underBinder); intro x; clear_value (e : x = _); first | (with_reducible refine keep_let (m := m) (s := s) e ?_ (fun _ => ?_) <;> clear e) | clear e)
    | (with_reducible first | refine putFld_keep (by assumption) ?_ | refine keep_mk ?_))

theorem sendMirror_keep (_m0 : m .links = true) (_m1 : m .regs = true) (_m2 : m .counters = true) (_m3 : m .msix = true) (_m4 : m .events = true) (_m5 : m .outputs = true) (h : Keep m s X) : KeepSnd m s (sendMirror X a1 a2 a3 a4) := by
  unfold sendMirror
  repeat' (first
    | (with_reducible first | assumption | exact keepSnd_pair (by with_reducible assumption))
    | ((try lift_lets -underBinder); intro x; clear_value (e : x = _); first | (with_reducible refine keepSnd_let (m := m) (s := s) e ?_ (fun _ => ?_) <;> clear e) | clear e)
    | (with_reducible first
        | refine sendMsg_keep (by assumption) (by assumption) (by assumption) (by assumption) (by assumption) (by assumption) ?_
        | refine count_keep (by assumption) (by assumption) (by assumption) (by assumption) (by assumption) ?_
        | refine keepSnd_mk ?_))

theorem twinChange_keep (_m0 : m .links = true) (_m1 : m .regs = true) (_m2 : m .counters = true) (_m3 : m .msix = true) (_m4 : m .events = true) (_m5 : m .outputs = true) (h : Keep m s X) : Keep m s (twinChange X a1) := by
  unfold twinChange
  repeat' (first
    | (with_reducible first
        | assumption
        | refine sendMirror_keep (by assumption) (by assumption) (by assumption) (by assumption) (by assumption) (by assumption) ?_
        | refine keepSnd_proj ?_)
    | split)

theorem openDone_keep (_m0 : m .hosts = true) (_m1 : m .sources = true) (_m2 : m .regs = true) (_m3 : m .counters = true) (_m4 : m .msix = true) (_m5 : m .events = true) (_m6 : m .outputs = true) (h : Keep m s X) : Keep m s (openDone X a1 a2 a3) := by
  unfold openDone
  repeat' (first
    | (with_reducible first
        | assumption
        | refine completeAs_keep (by assumption) (by assumption) (by assumption) (by assumption) (by assumption) (by assumption) (by assumption) ?_
        | refine complete_keep (by assumption) (by assumption) (by assumption) (by assumption) (by assumption) (by assumption) (by assumption) ?_)
    | split)

theorem dropOpens_keep (_m0 : m .hosts = true) (_m1 : m .twins = true) (_m2 : m .sources = true) (_m3 : m .regs = true) (_m4 : m .counters = true) (_m5 : m .msix = true) (_m6 : m .events = true) (_m7 : m .outputs = true) (h : Keep m s X) : Keep m s (dropOpens X a1) := by
  unfold dropOpens
  repeat' (first
    | (with_reducible assumption)
    | ((try lift_lets -underBinder); intro x; clear_value (e : x = _); first | (with_reducible refine keep_let (m := m) (s := s) e ?_ (fun _ => ?_) <;> clear e) | clear e)
    | (with_reducible first
        | refine openDone_keep (by assumption) (by assumption) (by assumption) (by assumption) (by assumption) (by assumption) (by assumption) ?_
        | refine keep_foldl (fun _ _ _ => ?_) ?_ | refine keep_mk ?_))

theorem twinEnd_keep (_m0 : m .links = true) (_m1 : m .hosts = true) (_m2 : m .twins = true) (_m3 : m .sources = true) (_m4 : m .regs = true) (_m5 : m .counters = true) (_m6 : m .msix = true) (_m7 : m .events = true) (_m8 : m .outputs = true) (h : Keep m s X) : Keep m s (twinEnd X a1) := by
  unfold twinEnd
  repeat' (first
    | (with_reducible assumption)
    | ((try lift_lets -underBinder); intro x; clear_value (e : x = _); (with_reducible refine keep_let (m := m) (s := s) e ?_ (fun _ => ?_) <;> clear e))
    | (with_reducible first
        | refine dropOpens_keep (by assumption) (by assumption) (by assumption) (by assumption) (by assumption) (by assumption) (by assumption) (by assumption) ?_
        | refine sendMirror_keep (by assumption) (by assumption) (by assumption) (by assumption) (by assumption) (by assumption) ?_
        | refine keepSnd_proj ?_)
    | split)

theorem flagNext_keep (_m0 : m .galley = true) (_m1 : m .commands = true) (h : Keep m s X) : Keep m s (flagNext X a1 a2) := by
  unfold flagNext
  repeat' (first
    | (with_reducible first | assumption | refine report_keep (by assumption) ?_)
    | split
    | (with_reducible refine keep_mk ?_))

theorem dropTwin_keep (_m0 : m .galley = true) (_m1 : m .hosts = true) (_m2 : m .commands = true) (_m3 : m .twins = true) (_m4 : m .sources = true) (_m5 : m .regs = true) (_m6 : m .counters = true) (_m7 : m .msix = true) (_m8 : m .events = true) (_m9 : m .outputs = true) (h : Keep m s X) : Keep m s (dropTwin X a1) := by
  unfold dropTwin
  repeat' (first
    | (with_reducible assumption)
    | ((try lift_lets -underBinder); intro x; clear_value (e : x = _); first | (with_reducible refine keep_let (m := m) (s := s) e ?_ (fun _ => ?_) <;> clear e) | clear e)
    | (with_reducible first
        | refine dropOpens_keep (by assumption) (by assumption) (by assumption) (by assumption) (by assumption) (by assumption) (by assumption) (by assumption) ?_
        | refine flagNext_keep (by assumption) (by assumption) ?_
        | refine State_setEntry_keep (by assumption) ?_ | refine keep_mk ?_))

theorem refuseMirror_keep (_m0 : m .memory = true) (_m1 : m .links = true) (_m2 : m .twins = true) (_m3 : m .regs = true) (_m4 : m .counters = true) (_m5 : m .msix = true) (_m6 : m .events = true) (_m7 : m .outputs = true) (h : Keep m s X) : Keep m s (refuseMirror X a1 a2) := by
  unfold refuseMirror
  repeat' (first
    | (with_reducible assumption)
    | ((try lift_lets -underBinder); intro x; clear_value (e : x = _); (with_reducible refine keep_let (m := m) (s := s) e ?_ (fun _ => ?_) <;> clear e))
    | (with_reducible first
        | refine sendMsg_keep (by assumption) (by assumption) (by assumption) (by assumption) (by assumption) (by assumption) ?_
        | refine refreshTwin_keep (by assumption) (by assumption) ?_
        | refine scrubFreed_keep (by assumption) ?_ | refine keepSnd_proj ?_)
    | split
    | (with_reducible refine keep_mk ?_))

theorem twinOpen_keep (_m0 : m .links = true) (_m1 : m .twins = true) (_m2 : m .regs = true) (_m3 : m .counters = true) (_m4 : m .msix = true) (_m5 : m .events = true) (_m6 : m .outputs = true) (h : Keep m s X) : Keep m s (twinOpen X a1 a2) := by
  unfold twinOpen
  repeat' (first
    | (with_reducible assumption)
    | ((try lift_lets -underBinder); intro x; clear_value (e : x = _); clear e)
    | (with_reducible first
        | refine sendMirror_keep (by assumption) (by assumption) (by assumption) (by assumption) (by assumption) (by assumption) ?_
        | refine keepSnd_of ?_ (by with_reducible assumption))
    | split
    | (with_reducible refine keep_mk ?_))

theorem declare_keep (_m0 : m .links = true) (_m1 : m .twins = true) (_m2 : m .regs = true) (_m3 : m .counters = true) (_m4 : m .msix = true) (_m5 : m .events = true) (_m6 : m .outputs = true) (h : Keep m s X) : Keep m s (declare X a1 a2 a3) := by
  unfold declare
  repeat' (first
    | (with_reducible assumption)
    | ((try lift_lets -underBinder); intro x; clear_value (e : x = _); clear e)
    | (with_reducible first
        | refine newMsgId_keep (by assumption) ?_
        | refine sendThrough_keep (by assumption) (by assumption) (by assumption) (by assumption) (by assumption) (by assumption) ?_
        | refine raiseEvent_keep (by assumption) (by assumption) (by assumption) (by assumption) ?_
        | refine count_keep (by assumption) (by assumption) (by assumption) (by assumption) (by assumption) ?_
        | refine putBit_keep (by assumption) ?_ | refine keep_foldl (fun _ _ _ => ?_) ?_
        | refine keepSnd_proj ?_)
    | split
    | (with_reducible refine keep_mk ?_))

theorem handoff_keep (_m0 : m .links = true) (_m1 : m .twins = true) (_m2 : m .regs = true) (_m3 : m .counters = true) (_m4 : m .msix = true) (_m5 : m .events = true) (_m6 : m .outputs = true) (h : Keep m s X) : Keep m s (handoff X a1) := by
  unfold handoff
  repeat' (first
    | (with_reducible assumption)
    | ((try lift_lets -underBinder); intro x; clear_value (e : x = _); clear e)
    | (with_reducible first
        | refine sendMirror_keep (by assumption) (by assumption) (by assumption) (by assumption) (by assumption) (by assumption) ?_
        | refine keepSnd_of ?_ (by with_reducible assumption))
    | split
    | (with_reducible refine keep_mk ?_))

theorem twinLost_keep (_m0 : m .galley = true) (_m1 : m .links = true) (_m2 : m .hosts = true) (_m3 : m .commands = true) (_m4 : m .twins = true) (_m5 : m .sources = true) (_m6 : m .regs = true) (_m7 : m .counters = true) (_m8 : m .msix = true) (_m9 : m .events = true) (_m10 : m .outputs = true) (h : Keep m s X) : Keep m s (twinLost X) := by
  unfold twinLost
  repeat' (first
    | (with_reducible assumption)
    | ((try lift_lets -underBinder); intro x; clear_value (e : x = _); first | (with_reducible refine keep_let (m := m) (s := s) e ?_ (fun _ => ?_) <;> clear e) | clear e)
    | (with_reducible first
        | refine dropTwin_keep (by assumption) (by assumption) (by assumption) (by assumption) (by assumption) (by assumption) (by assumption) (by assumption) (by assumption) (by assumption) ?_
        | refine putFld_keep (by assumption) ?_
        | refine refreshTwin_keep (by assumption) (by assumption) ?_
        | refine raiseEvent_keep (by assumption) (by assumption) (by assumption) (by assumption) ?_
        | refine setCause_keep (by assumption) (by assumption) (by assumption) ?_
        | refine count_keep (by assumption) (by assumption) (by assumption) (by assumption) (by assumption) ?_
        | refine keep_foldl (fun _ _ _ => ?_) ?_ | refine keep_mk ?_))

end Sys2Proof.Machine
end

