-- ==== Sys2Proof/Laws/KeepGroupOps.lean ====
section
/-!
SUPPORT. What the operations and meanings of Machine/GroupOps.lean keep (`Keep`).
-/
set_option Elab.async false
set_option linter.all false
namespace Sys2Proof.Machine

theorem State_setGroup_keep (_m0 : m .groups = true) (h : Keep m s X) : Keep m s (State.setGroup X a1 a2) := by
  unfold State.setGroup
  repeat' (with_reducible first | assumption | refine keep_mk ?_)

theorem sendMember_keep (_m0 : m .links = true) (_m1 : m .regs = true) (_m2 : m .counters = true) (_m3 : m .msix = true) (_m4 : m .events = true) (_m5 : m .outputs = true) (h : Keep m s X) : Keep m s (sendMember X a1 a2 a3 a4 a5) := by
  unfold sendMember
  repeat' (with_reducible first
      | assumption
      | refine sendMsg_keep (by assumption) (by assumption) (by assumption) (by assumption) (by assumption) (by assumption) ?_
      | refine keepSnd_proj ?_)

theorem openContent_keep (_m0 : m .free = true) (h : Keep m s X) : KeepSnd m s (openContent X) := by
  unfold openContent
  repeat' (first
    | (with_reducible first
        | assumption | refine drawFree_keep (by assumption) ?_
        | refine keepSnd_of ?_ (by with_reducible assumption))
    | split
    | (with_reducible refine keepSnd_mk ?_))

theorem sendReport_keep (_m0 : m .groups = true) (_m1 : m .links = true) (_m2 : m .regs = true) (_m3 : m .counters = true) (_m4 : m .msix = true) (_m5 : m .events = true) (_m6 : m .free = true) (_m7 : m .outputs = true) (h : Keep m s X) : Keep m s (sendReport X a1) := by
  unfold sendReport
  repeat' (with_reducible first
      | assumption | refine openContent_keep (by assumption) ?_
      | refine sendMember_keep (by assumption) (by assumption) (by assumption) (by assumption) (by assumption) (by assumption) ?_
      | refine State_setGroup_keep (by assumption) ?_ | refine keepSnd_proj ?_)

theorem sendAnnounce_keep (_m0 : m .groups = true) (_m1 : m .links = true) (_m2 : m .regs = true) (_m3 : m .counters = true) (_m4 : m .msix = true) (_m5 : m .events = true) (_m6 : m .free = true) (_m7 : m .outputs = true) (h : Keep m s X) : Keep m s (sendAnnounce X a1 a2) := by
  unfold sendAnnounce
  repeat' (first
    | (with_reducible assumption)
    | ((try lift_lets -underBinder); intro x; clear_value (e : x = _); first | (with_reducible refine keep_let (m := m) (s := s) e ?_ (fun _ => ?_) <;> clear e) | clear e)
    | (with_reducible first
        | refine openContent_keep (by assumption) ?_
        | refine sendMember_keep (by assumption) (by assumption) (by assumption) (by assumption) (by assumption) (by assumption) ?_
        | refine State_setGroup_keep (by assumption) ?_ | refine keep_foldl (fun _ _ _ => ?_) ?_
        | refine keepSnd_proj ?_))

theorem announceStep_keep (_m0 : m .steps = true) (_m1 : m .groups = true) (_m2 : m .links = true) (_m3 : m .regs = true) (_m4 : m .counters = true) (_m5 : m .msix = true) (_m6 : m .events = true) (_m7 : m .free = true) (_m8 : m .outputs = true) (h : Keep m s X) : Keep m s (announceStep X a1) := by
  unfold announceStep
  repeat' (first
    | (with_reducible assumption)
    | ((try lift_lets -underBinder); intro x; clear_value (e : x = _); clear e)
    | (with_reducible refine sendAnnounce_keep (by assumption) (by assumption) (by assumption) (by assumption) (by assumption) (by assumption) (by assumption) (by assumption) ?_)
    | split
    | (with_reducible refine keep_mk ?_))

theorem lastReport_keep (_m0 : m .steps = true) (_m1 : m .groups = true) (_m2 : m .links = true) (_m3 : m .regs = true) (_m4 : m .counters = true) (_m5 : m .msix = true) (_m6 : m .events = true) (_m7 : m .free = true) (_m8 : m .outputs = true) (h : Keep m s X) : Keep m s (lastReport X a1) := by
  unfold lastReport
  repeat' (first
    | (with_reducible first
        | assumption
        | refine announceStep_keep (by assumption) (by assumption) (by assumption) (by assumption) (by assumption) (by assumption) (by assumption) (by assumption) (by assumption) ?_
        | refine sendAnnounce_keep (by assumption) (by assumption) (by assumption) (by assumption) (by assumption) (by assumption) (by assumption) (by assumption) ?_)
    | split)

theorem groupAbandoned_keep (_m0 : m .steps = true) (_m1 : m .groups = true) (_m2 : m .links = true) (_m3 : m .regs = true) (_m4 : m .counters = true) (_m5 : m .msix = true) (_m6 : m .events = true) (_m7 : m .free = true) (_m8 : m .outputs = true) (h : Keep m s X) : Keep m s (groupAbandoned X a1) := by
  unfold groupAbandoned
  repeat' (first
    | (with_reducible assumption)
    | ((try lift_lets -underBinder); intro x; clear_value (e : x = _); clear e)
    | (with_reducible first
        | refine lastReport_keep (by assumption) (by assumption) (by assumption) (by assumption) (by assumption) (by assumption) (by assumption) (by assumption) (by assumption) ?_
        | refine State_setGroup_keep (by assumption) ?_
        | refine sendReport_keep (by assumption) (by assumption) (by assumption) (by assumption) (by assumption) (by assumption) (by assumption) (by assumption) ?_)
    | split)

theorem announcePicks_keep (_m0 : m .steps = true) (_m1 : m .groups = true) (_m2 : m .links = true) (_m3 : m .regs = true) (_m4 : m .counters = true) (_m5 : m .msix = true) (_m6 : m .events = true) (_m7 : m .free = true) (_m8 : m .outputs = true) (h : Keep m s X) : Keep m s (announcePicks X a1) := by
  unfold announcePicks
  repeat' (first
    | (with_reducible assumption)
    | ((try lift_lets -underBinder); intro x; clear_value (e : x = _); first | (with_reducible refine keep_let (m := m) (s := s) e ?_ (fun _ => ?_) <;> clear e) | clear e)
    | (with_reducible first
        | refine announceStep_keep (by assumption) (by assumption) (by assumption) (by assumption) (by assumption) (by assumption) (by assumption) (by assumption) (by assumption) ?_
        | refine sendAnnounce_keep (by assumption) (by assumption) (by assumption) (by assumption) (by assumption) (by assumption) (by assumption) (by assumption) ?_
        | refine keep_foldl (fun _ _ _ => ?_) ?_)
    | split)

theorem announceKept_keep (_m0 : m .steps = true) (_m1 : m .groups = true) (_m2 : m .links = true) (_m3 : m .regs = true) (_m4 : m .counters = true) (_m5 : m .msix = true) (_m6 : m .events = true) (_m7 : m .free = true) (_m8 : m .outputs = true) (h : Keep m s X) : Keep m s (announceKept X) := by
  unfold announceKept
  repeat' (first
    | (with_reducible first
        | assumption
        | refine lastReport_keep (by assumption) (by assumption) (by assumption) (by assumption) (by assumption) (by assumption) (by assumption) (by assumption) (by assumption) ?_
        | refine announcePicks_keep (by assumption) (by assumption) (by assumption) (by assumption) (by assumption) (by assumption) (by assumption) (by assumption) (by assumption) ?_
        | refine keep_foldl (fun _ _ _ => ?_) ?_)
    | split)

end Sys2Proof.Machine
end

