-- ==== Sys2Proof/Laws/KeepLeaseOps.lean ====
section
/-!
SUPPORT. What the operations and meanings of Machine/LeaseOps.lean keep (`Keep`).
-/
set_option Elab.async false
set_option linter.all false
namespace Sys2Proof.Machine

theorem setMc_keep (_m0 : m .regs = true) (h : Keep m s X) : Keep m s (setMc X a1 a2 a3) := by
  unfold setMc
  repeat' (with_reducible first
      | assumption | refine putFld_keep (by assumption) ?_ | refine putBit_keep (by assumption) ?_)

theorem mcWait_keep (_m0 : m .regs = true) (h : Keep m s X) : Keep m s (mcWait X a1) := by
  unfold mcWait
  repeat' (with_reducible first | assumption | refine setMc_keep (by assumption) ?_)

theorem setEpochSeen_keep (_m0 : m .regs = true) (h : Keep m s X) : Keep m s (setEpochSeen X a1 a2) := by
  unfold setEpochSeen
  repeat' (with_reducible first | assumption | refine putFld_keep (by assumption) ?_)

theorem State_setLease_keep (_m0 : m .nvs = true) (h : Keep m s X) : Keep m s (State.setLease X a1) := by
  unfold State.setLease
  repeat' (first
    | (with_reducible assumption)
    | ((try lift_lets -underBinder); intro x; clear_value (e : x = _); (have _ : Nvs := x; subst e))
    | (with_reducible refine keep_mk ?_))

theorem grantLease_keep (_m0 : m .nvs = true) (_m1 : m .regs = true) (_m2 : m .msix = true) (_m3 : m .events = true) (_m4 : m .outputs = true) (h : Keep m s X) : Keep m s (grantLease X a1) := by
  unfold grantLease
  repeat' (first
    | (with_reducible assumption)
    | ((try lift_lets -underBinder); intro x; clear_value (e : x = _); first | (with_reducible refine keep_let (m := m) (s := s) e ?_ (fun _ => ?_) <;> clear e) | clear e)
    | (with_reducible first
        | refine State_setLease_keep (by assumption) ?_ | refine mcWait_keep (by assumption) ?_
        | refine setEpochSeen_keep (by assumption) ?_ | refine setMc_keep (by assumption) ?_
        | refine devEvent_keep (by assumption) (by assumption) (by assumption) (by assumption) ?_)
    | split)

theorem freeLease_keep (_m0 : m .nvs = true) (_m1 : m .regs = true) (_m2 : m .msix = true) (_m3 : m .events = true) (_m4 : m .outputs = true) (h : Keep m s X) : Keep m s (freeLease X) := by
  unfold freeLease
  repeat' (first
    | (with_reducible assumption)
    | ((try lift_lets -underBinder); intro x; clear_value (e : x = _); first | (with_reducible refine keep_let (m := m) (s := s) e ?_ (fun _ => ?_) <;> clear e) | clear e)
    | (with_reducible first
        | refine State_setLease_keep (by assumption) ?_ | refine mcWait_keep (by assumption) ?_
        | refine grantLease_keep (by assumption) (by assumption) (by assumption) (by assumption) (by assumption) ?_)
    | split)

theorem passLease_keep (_m0 : m .nvs = true) (_m1 : m .regs = true) (_m2 : m .msix = true) (_m3 : m .events = true) (_m4 : m .outputs = true) (h : Keep m s X) : Keep m s (passLease X a1) := by
  unfold passLease
  repeat' (first
    | (with_reducible first
        | assumption
        | refine grantLease_keep (by assumption) (by assumption) (by assumption) (by assumption) (by assumption) ?_)
    | split)

end Sys2Proof.Machine
end

