-- ==== Sys2Proof/Laws/KeepDown.lean ====
section
/-!
SUPPORT. What the operations and meanings of Machine/Down.lean keep (`Keep`).
-/
set_option Elab.async false
set_option linter.all false
namespace Sys2Proof.Machine

theorem releasePairs_keep (_m0 : m .regs = true) (h : Keep m s X) : Keep m s (releasePairs X) := by
  unfold releasePairs
  repeat' (with_reducible first
      | assumption | refine putBit_keep (by assumption) ?_ | refine keep_foldl (fun _ _ _ => ?_) ?_)

theorem clearEngines_keep (_m0 : m .steps = true) (_m1 : m .units = true) (_m2 : m .regs = true) (h : Keep m s X) : Keep m s (clearEngines X) := by
  unfold clearEngines
  repeat' (first
    | (with_reducible assumption)
    | ((try lift_lets -underBinder); intro x; clear_value (e : x = _); first | (with_reducible refine keep_let (m := m) (s := s) e ?_ (fun _ => ?_) <;> clear e) | clear e)
    | (with_reducible first | refine releasePairs_keep (by assumption) ?_ | refine keep_mk ?_))

theorem unpick_keep (_m0 : m .galley = true) (h : Keep m s X) : Keep m s (unpick X a1) := by
  unfold unpick
  repeat' (first
    | (with_reducible assumption)
    | ((try lift_lets -underBinder); intro x; clear_value (e : x = _); clear e)
    | (with_reducible refine State_setEntry_keep (by assumption) ?_)
    | split)

theorem unpickAll_keep (_m0 : m .galley = true) (h : Keep m s X) : Keep m s (unpickAll X a1) := by
  unfold unpickAll
  repeat' (with_reducible first
      | assumption | refine unpick_keep (by assumption) ?_ | refine keep_foldl (fun _ _ _ => ?_) ?_)

theorem markSuspect_keep (_m0 : m .impos = true) (_m1 : m .regs = true) (_m2 : m .counters = true) (_m3 : m .msix = true) (_m4 : m .events = true) (_m5 : m .outputs = true) (h : Keep m s X) : Keep m s (markSuspect X a1 a2) := by
  unfold markSuspect
  repeat' (first
    | (with_reducible assumption)
    | ((try lift_lets -underBinder); intro x; clear_value (e : x = _); first | (with_reducible refine keep_let (m := m) (s := s) e ?_ (fun _ => ?_) <;> clear e) | clear e)
    | (with_reducible first
        | refine setCause_keep (by assumption) (by assumption) (by assumption) ?_
        | refine count_keep (by assumption) (by assumption) (by assumption) (by assumption) (by assumption) ?_
        | refine State_setImpo_keep (by assumption) ?_
        | refine raiseEvent_keep (by assumption) (by assumption) (by assumption) (by assumption) ?_)
    | split)

theorem abandonWith_keep (_m0 : m .galley = true) (_m1 : m .impos = true) (_m2 : m .steps = true) (_m3 : m .groups = true) (_m4 : m .links = true) (_m5 : m .units = true) (_m6 : m .regs = true) (_m7 : m .counters = true) (_m8 : m .msix = true) (_m9 : m .events = true) (_m10 : m .free = true) (_m11 : m .outputs = true) (h : Keep m s X) : Keep m s (abandonWith X a1) := by
  unfold abandonWith
  repeat' (first
    | (with_reducible assumption)
    | ((try lift_lets -underBinder); intro x; clear_value (e : x = _); first | (with_reducible refine keep_let (m := m) (s := s) e ?_ (fun _ => ?_) <;> clear e) | (have _ := fun a => x a; subst e; try dsimp -zeta only) | clear e)
    | (with_reducible first
        | refine count_keep (by assumption) (by assumption) (by assumption) (by assumption) (by assumption) ?_
        | refine clearEngines_keep (by assumption) (by assumption) (by assumption) ?_
        | refine drawFree_keep (by assumption) ?_
        | refine groupAbandoned_keep (by assumption) (by assumption) (by assumption) (by assumption) (by assumption) (by assumption) (by assumption) (by assumption) (by assumption) ?_
        | refine devEvent_keep (by assumption) (by assumption) (by assumption) (by assumption) ?_
        | refine unpickAll_keep (by assumption) ?_
        | refine markSuspect_keep (by assumption) (by assumption) (by assumption) (by assumption) (by assumption) (by assumption) ?_
        | refine keep_foldl (fun _ _ _ => ?_) ?_
        | refine keepSnd_of ?_ (by with_reducible assumption))
    | split
    | (with_reducible refine keep_mk ?_))

theorem abandonStep_keep (_m0 : m .galley = true) (_m1 : m .impos = true) (_m2 : m .steps = true) (_m3 : m .groups = true) (_m4 : m .links = true) (_m5 : m .units = true) (_m6 : m .regs = true) (_m7 : m .counters = true) (_m8 : m .msix = true) (_m9 : m .events = true) (_m10 : m .free = true) (_m11 : m .outputs = true) (h : Keep m s X) : Keep m s (abandonStep X) := by
  unfold abandonStep
  repeat' (first
    | (with_reducible assumption)
    | ((try lift_lets -underBinder); intro x; clear_value (e : x = _); first | (with_reducible refine keep_let (m := m) (s := s) e ?_ (fun _ => ?_) <;> clear e) | clear e)
    | (with_reducible first
        | refine abandonWith_keep (by assumption) (by assumption) (by assumption) (by assumption) (by assumption) (by assumption) (by assumption) (by assumption) (by assumption) (by assumption) (by assumption) (by assumption) ?_
        | refine unpickAll_keep (by assumption) ?_)
    | split
    | (with_reducible refine keep_mk ?_))

theorem halfDown_keep (_m0 : m .galley = true) (_m1 : m .impos = true) (_m2 : m .steps = true) (_m3 : m .groups = true) (_m4 : m .halves = true) (_m5 : m .ports = true) (_m6 : m .links = true) (_m7 : m .twins = true) (_m8 : m .units = true) (_m9 : m .regs = true) (_m10 : m .counters = true) (_m11 : m .msix = true) (_m12 : m .events = true) (_m13 : m .free = true) (_m14 : m .outputs = true) (h : Keep m s X) : Keep m s (halfDown X a1 a2) := by
  unfold halfDown
  repeat' (first
    | (with_reducible assumption)
    | ((try lift_lets -underBinder); intro x; clear_value (e : x = _); first | (with_reducible refine keep_let (m := m) (s := s) e ?_ (fun _ => ?_) <;> clear e) | clear e)
    | (with_reducible first
        | refine lastGasp_keep (by assumption) (by assumption) (by assumption) ?_
        | refine declare_keep (by assumption) (by assumption) (by assumption) (by assumption) (by assumption) (by assumption) (by assumption) ?_
        | refine abandonStep_keep (by assumption) (by assumption) (by assumption) (by assumption) (by assumption) (by assumption) (by assumption) (by assumption) (by assumption) (by assumption) (by assumption) (by assumption) ?_
        | refine putBit_keep (by assumption) ?_ | refine mcWait_keep (by assumption) ?_
        | refine State_setHalf_keep (by assumption) ?_
        | refine State_setPort_keep (by assumption) (by assumption) ?_
        | refine keep_foldl (fun _ _ _ => ?_) ?_)
    | split)

theorem abandonFor_keep (_m0 : m .galley = true) (_m1 : m .impos = true) (_m2 : m .steps = true) (_m3 : m .groups = true) (_m4 : m .links = true) (_m5 : m .units = true) (_m6 : m .regs = true) (_m7 : m .counters = true) (_m8 : m .msix = true) (_m9 : m .events = true) (_m10 : m .free = true) (_m11 : m .outputs = true) (h : Keep m s X) : Keep m s (abandonFor X a1) := by
  unfold abandonFor
  repeat' (first
    | (with_reducible assumption)
    | ((try lift_lets -underBinder); intro x; clear_value (e : x = _); first | (with_reducible refine keep_let (m := m) (s := s) e ?_ (fun _ => ?_) <;> clear e) | clear e)
    | (with_reducible first
        | refine abandonWith_keep (by assumption) (by assumption) (by assumption) (by assumption) (by assumption) (by assumption) (by assumption) (by assumption) (by assumption) (by assumption) (by assumption) (by assumption) ?_
        | refine unpickAll_keep (by assumption) ?_)
    | split
    | (with_reducible refine keep_mk ?_))

theorem dieLost_keep (_m0 : m .galley = true) (_m1 : m .impos = true) (_m2 : m .steps = true) (_m3 : m .groups = true) (_m4 : m .dies = true) (_m5 : m .links = true) (_m6 : m .twins = true) (_m7 : m .units = true) (_m8 : m .regs = true) (_m9 : m .counters = true) (_m10 : m .msix = true) (_m11 : m .events = true) (_m12 : m .waits = true) (_m13 : m .free = true) (_m14 : m .outputs = true) (h : Keep m s X) : Keep m s (dieLost X a1) := by
  unfold dieLost
  repeat' (first
    | (with_reducible assumption)
    | ((try lift_lets -underBinder); intro x; clear_value (e : x = _); first | (with_reducible refine keep_let (m := m) (s := s) e ?_ (fun _ => ?_) <;> clear e) | clear e)
    | (with_reducible first
        | refine abandonFor_keep (by assumption) (by assumption) (by assumption) (by assumption) (by assumption) (by assumption) (by assumption) (by assumption) (by assumption) (by assumption) (by assumption) (by assumption) ?_
        | refine declare_keep (by assumption) (by assumption) (by assumption) (by assumption) (by assumption) (by assumption) (by assumption) ?_
        | refine State_setDie_keep (by assumption) ?_ | refine keep_foldl (fun _ _ _ => ?_) ?_)
    | split
    | (with_reducible refine keep_mk ?_))

theorem failStop_keep (_m0 : m .galley = true) (_m1 : m .impos = true) (_m2 : m .steps = true) (_m3 : m .groups = true) (_m4 : m .links = true) (_m5 : m .twins = true) (_m6 : m .units = true) (_m7 : m .regs = true) (_m8 : m .counters = true) (_m9 : m .msix = true) (_m10 : m .events = true) (_m11 : m .free = true) (_m12 : m .outputs = true) (h : Keep m s X) : Keep m s (failStop X a1) := by
  unfold failStop
  repeat' (first
    | (with_reducible assumption)
    | ((try lift_lets -underBinder); intro x; clear_value (e : x = _); (with_reducible refine keep_let (m := m) (s := s) e ?_ (fun _ => ?_) <;> clear e))
    | (with_reducible first
        | refine declare_keep (by assumption) (by assumption) (by assumption) (by assumption) (by assumption) (by assumption) (by assumption) ?_
        | refine abandonStep_keep (by assumption) (by assumption) (by assumption) (by assumption) (by assumption) (by assumption) (by assumption) (by assumption) (by assumption) (by assumption) (by assumption) (by assumption) ?_
        | refine putFld_keep (by assumption) ?_ | refine putBit_keep (by assumption) ?_
        | refine devEvent_keep (by assumption) (by assumption) (by assumption) (by assumption) ?_
        | refine setCause_keep (by assumption) (by assumption) (by assumption) ?_
        | refine lastGasp_keep (by assumption) (by assumption) (by assumption) ?_)
    | split)

end Sys2Proof.Machine
end

