-- ==== Sys2Proof/Laws/KeepAccess.lean ====
section
/-!
SUPPORT. What the operations and meanings of Machine/Access.lean keep (`Keep`).
-/
set_option Elab.async false
set_option linter.all false
namespace Sys2Proof.Machine

theorem hedgeViolation_keep (_m0 : m .regs = true) (_m1 : m .counters = true) (_m2 : m .msix = true) (_m3 : m .events = true) (_m4 : m .outputs = true) (h : Keep m s X) : Keep m s (hedgeViolation X a1 a2 a3) := by
  unfold hedgeViolation
  repeat' (first
    | (with_reducible assumption)
    | ((try lift_lets -underBinder); intro x; clear_value (e : x = _); first | (with_reducible refine keep_let (m := m) (s := s) e ?_ (fun _ => ?_) <;> clear e) | clear e)
    | (with_reducible first
        | refine count_keep (by assumption) (by assumption) (by assumption) (by assumption) (by assumption) ?_
        | refine capture_keep (by assumption) (by assumption) (by assumption) (by assumption) ?_
        | refine raiseEvent_keep (by assumption) (by assumption) (by assumption) (by assumption) ?_
        | refine setCause_keep (by assumption) (by assumption) (by assumption) ?_))

theorem refuseAccess_keep (_m0 : m .regs = true) (_m1 : m .counters = true) (_m2 : m .msix = true) (_m3 : m .events = true) (_m4 : m .outputs = true) (h : Keep m s X) : Keep m s (refuseAccess X a1 a2 a3) := by
  unfold refuseAccess
  repeat' (first
    | (with_reducible assumption)
    | ((try lift_lets -underBinder); intro x; clear_value (e : x = _); first | (with_reducible refine keep_let (m := m) (s := s) e ?_ (fun _ => ?_) <;> clear e) | clear e)
    | (with_reducible first
        | refine setReg_keep (by assumption) ?_
        | refine setCause_keep (by assumption) (by assumption) (by assumption) ?_
        | refine hedgeViolation_keep (by assumption) (by assumption) (by assumption) (by assumption) (by assumption) ?_)
    | split)

theorem countCollision_keep (_m0 : m .regs = true) (_m1 : m .msix = true) (_m2 : m .outputs = true) (h : Keep m s X) : Keep m s (countCollision X a1 a2) := by
  unfold countCollision
  repeat' (first
    | (with_reducible assumption)
    | ((try lift_lets -underBinder); intro x; clear_value (e : x = _); first | (with_reducible refine keep_let (m := m) (s := s) e ?_ (fun _ => ?_) <;> clear e) | clear e)
    | (with_reducible first
        | refine putFld_keep (by assumption) ?_
        | refine setCause_keep (by assumption) (by assumption) (by assumption) ?_)
    | split)

theorem writeIntRaw_keep (_m0 : m .regs = true) (_m1 : m .msix = true) (_m2 : m .outputs = true) (h : Keep m s X) : Keep m s (writeIntRaw X a1 a2 a3) := by
  unfold writeIntRaw
  repeat' (first
    | (with_reducible assumption)
    | ((try lift_lets -underBinder); intro x; clear_value (e : x = _); first | (with_reducible refine keep_let (m := m) (s := s) e ?_ (fun _ => ?_) <;> clear e) | clear e)
    | (with_reducible first
        | refine setReg_keep (by assumption) ?_ | refine putFld_keep (by assumption) ?_
        | refine rearmCapture_keep (by assumption) ?_
        | refine setCauses_keep (by assumption) (by assumption) (by assumption) ?_
        | refine countCollision_keep (by assumption) (by assumption) (by assumption) ?_)
    | split)

theorem writeIntEn_keep (_m0 : m .regs = true) (_m1 : m .msix = true) (_m2 : m .outputs = true) (h : Keep m s X) : Keep m s (writeIntEn X a1 a2) := by
  unfold writeIntEn
  repeat' (first
    | (with_reducible assumption)
    | ((try lift_lets -underBinder); intro x; clear_value (e : x = _); first | (with_reducible refine keep_let (m := m) (s := s) e ?_ (fun _ => ?_) <;> clear e) | clear e)
    | (with_reducible first
        | refine setReg_keep (by assumption) ?_
        | refine sendRising_keep (by assumption) (by assumption) ?_))

theorem writePlain_keep (_m0 : m .regs = true) (_m1 : m .msix = true) (_m2 : m .outputs = true) (h : Keep m s X) : Keep m s (writePlain X a1 a2 a3 a4 a5 a6) := by
  unfold writePlain
  repeat' (first
    | (with_reducible assumption)
    | ((try lift_lets -underBinder); intro x; clear_value (e : x = _); first | (with_reducible refine keep_let (m := m) (s := s) e ?_ (fun _ => ?_) <;> clear e) | clear e)
    | (with_reducible first
        | refine setReg_keep (by assumption) ?_
        | refine countCollision_keep (by assumption) (by assumption) (by assumption) ?_)
    | split)

theorem writeMsix_keep (_m0 : m .msix = true) (_m1 : m .outputs = true) (h : Keep m s X) : Keep m s (writeMsix X a1 a2 a3 a4) := by
  unfold writeMsix
  repeat' (first
    | (with_reducible assumption)
    | ((try lift_lets -underBinder); intro x; clear_value (e : x = _); first | (with_reducible refine keep_let (m := m) (s := s) e ?_ (fun _ => ?_) <;> clear e) | clear e)
    | (with_reducible first
        | refine setMsix_keep (by assumption) ?_ | refine emit_keep (by assumption) ?_)
    | split)

theorem setLatch_keep (_m0 : m .latches = true) (h : Keep m s X) : Keep m s (setLatch X a1 a2 a3 a4) := by
  unfold setLatch
  repeat' (with_reducible first | assumption | refine keep_mk ?_)

theorem serveWrite_keep (_m0 : m .regs = true) (_m1 : m .counters = true) (_m2 : m .msix = true) (_m3 : m .events = true) (_m4 : m .waits = true) (_m5 : m .outputs = true) (h : Keep m s X) (hf2 : ∀ x0 x1 x2 x3 x4, Keep m s x0 → Keep m s (f2 x0 x1 x2 x3 x4)) : Keep m s (serveWrite X a1 f2) := by
  unfold serveWrite
  repeat' (first
    | (with_reducible assumption)
    | ((try lift_lets -underBinder); intro x; clear_value (e : x = _); (with_reducible refine keep_let (m := m) (s := s) e ?_ (fun _ => ?_) <;> clear e))
    | (with_reducible first
        | apply hf2 | refine writePlain_keep (by assumption) (by assumption) (by assumption) ?_
        | refine writeMsix_keep (by assumption) (by assumption) ?_
        | refine refuseAccess_keep (by assumption) (by assumption) (by assumption) (by assumption) (by assumption) ?_)
    | split
    | (with_reducible refine keep_mk ?_))

end Sys2Proof.Machine
end

