-- ==== Sys2Proof/Laws/KeepMoves.lean ====
section
/-!
SUPPORT. What the operations and meanings of Machine/Moves.lean keep (`Keep`).
-/
set_option Elab.async false
set_option linter.all false
namespace Sys2Proof.Machine

theorem t2Alloc_keep (_m0 : m .free = true) (h : Keep m s X) : KeepOptTri m s (t2Alloc X a1 a2) := by
  unfold t2Alloc
  repeat' (first
    | (with_reducible assumption)
    | ((try lift_lets -underBinder); intro x; clear_value (e : x = _); clear e)
    | (with_reducible first
        | refine drawFree_keep (by assumption) ?_ | refine keepOptTri_map (fun _ => ?_)
        | refine keepSnd_of ?_ (by with_reducible assumption) | refine keepOptTri_some ?_
        | exact keepOptTri_none)
    | split)

theorem putImage_keep (_m0 : m .memory = true) (_m1 : m .units = true) (h : Keep m s X) : Keep m s (putImage X a1 a2 a3) := by
  unfold putImage
  repeat' (first
    | (with_reducible assumption)
    | ((try lift_lets -underBinder); intro x; clear_value (e : x = _); clear e)
    | (with_reducible first
        | refine dataWrite_keep (by assumption) (by assumption) ?_
        | refine keep_foldl (fun _ _ _ => ?_) ?_))

theorem refreshMig_keep (_m0 : m .regs = true) (h : Keep m s X) : Keep m s (refreshMig X) := by
  unfold refreshMig
  repeat' (first
    | (with_reducible assumption)
    | ((try lift_lets -underBinder); intro x; clear_value (e : x = _); first | (have _ := fun a => x a; subst e; try dsimp -zeta only) | clear e)
    | (with_reducible refine putFld_keep (by assumption) ?_))

theorem setMove_keep (_m0 : m .moves = true) (h : Keep m s X) : Keep m s (setMove X a1) := by
  unfold setMove
  repeat' (with_reducible first | assumption | refine keep_mk ?_)

theorem traceMove_keep (_m0 : m .sources = true) (_m1 : m .regs = true) (_m2 : m .counters = true) (_m3 : m .msix = true) (_m4 : m .events = true) (_m5 : m .outputs = true) (h : Keep m s X) : Keep m s (traceMove X a1 a2) := by
  unfold traceMove
  repeat' (first
    | (with_reducible assumption)
    | ((try lift_lets -underBinder); intro x; clear_value (e : x = _); clear e)
    | (with_reducible refine trace_keep (by assumption) (by assumption) (by assumption) (by assumption) (by assumption) (by assumption) ?_))

theorem beginMove_keep (_m0 : m .moves = true) (_m1 : m .dies = true) (_m2 : m .hosts = true) (_m3 : m .sources = true) (_m4 : m .regs = true) (_m5 : m .counters = true) (_m6 : m .msix = true) (_m7 : m .events = true) (_m8 : m .outputs = true) (h : Keep m s X) : Keep m s (beginMove X a1) := by
  unfold beginMove
  repeat' (first
    | (with_reducible assumption)
    | ((try lift_lets -underBinder); intro x; clear_value (e : x = _); first | (with_reducible refine keep_let (m := m) (s := s) e ?_ (fun _ => ?_) <;> clear e) | clear e)
    | (with_reducible first
        | refine wakeMem_keep (by assumption) ?_
        | refine traceMove_keep (by assumption) (by assumption) (by assumption) (by assumption) (by assumption) (by assumption) ?_
        | refine setMove_keep (by assumption) ?_
        | refine regionRead_keep (by assumption) (by assumption) ?_
        | refine regionWrite_keep (by assumption) (by assumption) ?_
        | refine keep_foldl (fun _ _ _ => ?_) ?_)
    | split)

theorem startMovesOn_keep (_m0 : m .moves = true) (_m1 : m .dies = true) (_m2 : m .hosts = true) (_m3 : m .sources = true) (_m4 : m .regs = true) (_m5 : m .counters = true) (_m6 : m .msix = true) (_m7 : m .events = true) (_m8 : m .outputs = true) (h : Keep m s X) : Keep m s (startMovesOn a0 X a2) := by
  induction a0 generalizing X a2 with
  | zero =>
    unfold startMovesOn
    repeat' (first
      | (with_reducible first
          | assumption
          | refine beginMove_keep (by assumption) (by assumption) (by assumption) (by assumption) (by assumption) (by assumption) (by assumption) (by assumption) (by assumption) ?_)
      | split)
  | succ _ ih =>
    unfold startMovesOn
    repeat' (first
      | (with_reducible first
          | assumption | refine ih ?_
          | refine beginMove_keep (by assumption) (by assumption) (by assumption) (by assumption) (by assumption) (by assumption) (by assumption) (by assumption) (by assumption) ?_)
      | split)

theorem startMoves_keep (_m0 : m .moves = true) (_m1 : m .dies = true) (_m2 : m .hosts = true) (_m3 : m .sources = true) (_m4 : m .regs = true) (_m5 : m .counters = true) (_m6 : m .msix = true) (_m7 : m .events = true) (_m8 : m .outputs = true) (h : Keep m s X) : Keep m s (startMoves X) := by
  unfold startMoves
  repeat' (with_reducible first
      | assumption | refine refreshMig_keep (by assumption) ?_
      | refine startMovesOn_keep (by assumption) (by assumption) (by assumption) (by assumption) (by assumption) (by assumption) (by assumption) (by assumption) (by assumption) ?_)

theorem addMove_keep (_m0 : m .moves = true) (_m1 : m .dies = true) (_m2 : m .hosts = true) (_m3 : m .sources = true) (_m4 : m .regs = true) (_m5 : m .counters = true) (_m6 : m .msix = true) (_m7 : m .events = true) (_m8 : m .outputs = true) (h : Keep m s X) : Keep m s (addMove X a1 a2 a3 a4 a5 a6 a7 a8 a9 a10) := by
  unfold addMove
  repeat' (first
    | (with_reducible assumption)
    | ((try lift_lets -underBinder); intro x; clear_value (e : x = _); clear e)
    | (with_reducible first
        | refine startMoves_keep (by assumption) (by assumption) (by assumption) (by assumption) (by assumption) (by assumption) (by assumption) (by assumption) (by assumption) ?_
        | refine keep_mk ?_))

theorem completeMove_keep (_m0 : m .hosts = true) (_m1 : m .sources = true) (_m2 : m .regs = true) (_m3 : m .counters = true) (_m4 : m .msix = true) (_m5 : m .events = true) (_m6 : m .outputs = true) (h : Keep m s X) : Keep m s (completeMove X a1 a2) := by
  unfold completeMove
  repeat' (first
    | (with_reducible first
        | assumption
        | refine complete_keep (by assumption) (by assumption) (by assumption) (by assumption) (by assumption) (by assumption) (by assumption) ?_)
    | split)

theorem dropMove_keep (_m0 : m .moves = true) (_m1 : m .regs = true) (h : Keep m s X) : Keep m s (dropMove X a1) := by
  unfold dropMove
  repeat' (with_reducible first
      | assumption | refine refreshMig_keep (by assumption) ?_ | refine keep_mk ?_)

theorem setMoving_keep (_m0 : m .galley = true) (_m1 : m .tensors = true) (h : Keep m s X) : Keep m s (setMoving X a1 a2) := by
  unfold setMoving
  repeat' (first
    | (with_reducible assumption)
    | ((try lift_lets -underBinder); intro x; clear_value (e : x = _); clear e)
    | (with_reducible first
        | refine State_skipEntry_keep (by assumption) ?_
        | refine State_setTensor_keep (by assumption) ?_))

theorem moveOut_keep (_m0 : m .galley = true) (_m1 : m .tensors = true) (_m2 : m .moves = true) (_m3 : m .dies = true) (_m4 : m .hosts = true) (_m5 : m .sources = true) (_m6 : m .regs = true) (_m7 : m .counters = true) (_m8 : m .msix = true) (_m9 : m .events = true) (_m10 : m .free = true) (_m11 : m .outputs = true) (h : Keep m s X) : KeepOpt m s (moveOut X a1 a2 a3) := by
  unfold moveOut
  repeat' (first
    | (with_reducible assumption)
    | ((try lift_lets -underBinder); intro x; clear_value (e : x = _); clear e)
    | (with_reducible first
        | refine addMove_keep (by assumption) (by assumption) (by assumption) (by assumption) (by assumption) (by assumption) (by assumption) (by assumption) (by assumption) ?_
        | refine setMoving_keep (by assumption) (by assumption) ?_
        | refine t2Alloc_keep (by assumption) ?_ | refine keepOpt_mapTri ?_ (fun _ _ => ?_)))

theorem returnPlace_keep (_m0 : m .memory = true) (_m1 : m .galley = true) (h : Keep m s X) : KeepOptSnd m s (returnPlace X a1) := by
  unfold returnPlace
  repeat' (first
    | (with_reducible assumption)
    | ((try lift_lets -underBinder); intro x; clear_value (e : x = _); clear e)
    | (with_reducible first
        | refine placeReclaim_keep (by assumption) (by assumption) ?_ | exact keepOptSnd_none)
    | split)

theorem moveIn_keep (_m0 : m .memory = true) (_m1 : m .galley = true) (_m2 : m .tensors = true) (_m3 : m .moves = true) (_m4 : m .dies = true) (_m5 : m .hosts = true) (_m6 : m .sources = true) (_m7 : m .regs = true) (_m8 : m .counters = true) (_m9 : m .msix = true) (_m10 : m .events = true) (_m11 : m .outputs = true) (h : Keep m s X) : KeepOpt m s (moveIn X a1 a2 a3) := by
  unfold moveIn
  repeat' (with_reducible first
      | assumption | exact keepSnd_pair (by with_reducible assumption)
      | refine addMove_keep (by assumption) (by assumption) (by assumption) (by assumption) (by assumption) (by assumption) (by assumption) (by assumption) (by assumption) ?_
      | refine setMoving_keep (by assumption) (by assumption) ?_
      | refine returnPlace_keep (by assumption) (by assumption) ?_
      | refine keepOpt_mapSnd ?_ (fun _ _ => ?_))

theorem outDone_keep (_m0 : m .memory = true) (_m1 : m .galley = true) (_m2 : m .tensors = true) (_m3 : m .links = true) (_m4 : m .regs = true) (_m5 : m .counters = true) (_m6 : m .msix = true) (_m7 : m .events = true) (_m8 : m .outputs = true) (h : Keep m s X) : Keep m s (outDone X a1 a2) := by
  unfold outDone
  repeat' (first
    | (with_reducible assumption)
    | ((try lift_lets -underBinder); intro x; clear_value (e : x = _); first | (with_reducible refine keep_let (m := m) (s := s) e ?_ (fun _ => ?_) <;> clear e) | clear e)
    | (with_reducible first
        | refine scrubFreed_keep (by assumption) ?_ | refine State_setTensor_keep (by assumption) ?_
        | refine report_keep (by assumption) ?_ | refine State_setEntry_keep (by assumption) ?_
        | refine twinChange_keep (by assumption) (by assumption) (by assumption) (by assumption) (by assumption) (by assumption) ?_
        | refine count_keep (by assumption) (by assumption) (by assumption) (by assumption) (by assumption) ?_))

theorem inDone_keep (_m0 : m .galley = true) (_m1 : m .tensors = true) (_m2 : m .links = true) (_m3 : m .regs = true) (_m4 : m .counters = true) (_m5 : m .msix = true) (_m6 : m .events = true) (_m7 : m .outputs = true) (h : Keep m s X) : Keep m s (inDone X a1 a2) := by
  unfold inDone
  repeat' (first
    | (with_reducible assumption)
    | ((try lift_lets -underBinder); intro x; clear_value (e : x = _); first | (with_reducible refine keep_let (m := m) (s := s) e ?_ (fun _ => ?_) <;> clear e) | clear e)
    | (with_reducible first
        | refine State_setTensor_keep (by assumption) ?_
        | refine State_setEntry_keep (by assumption) ?_ | refine report_keep (by assumption) ?_
        | refine twinChange_keep (by assumption) (by assumption) (by assumption) (by assumption) (by assumption) (by assumption) ?_
        | refine count_keep (by assumption) (by assumption) (by assumption) (by assumption) (by assumption) ?_)
    | split)

theorem tensorWhole_keep (_m0 : m .tensors = true) (_m1 : m .steps = true) (h : Keep m s X) : Keep m s (tensorWhole X a1) := by
  unfold tensorWhole
  repeat' (first
    | (with_reducible assumption)
    | ((try lift_lets -underBinder); intro x; clear_value (e : x = _); first | (with_reducible refine keep_let (m := m) (s := s) e ?_ (fun _ => ?_) <;> clear e) | clear e)
    | (with_reducible first | refine State_setTensor_keep (by assumption) ?_ | refine keep_mk ?_))

theorem moveDone_keep (_m0 : m .memory = true) (_m1 : m .galley = true) (_m2 : m .tensors = true) (_m3 : m .moves = true) (_m4 : m .steps = true) (_m5 : m .dies = true) (_m6 : m .links = true) (_m7 : m .hosts = true) (_m8 : m .sources = true) (_m9 : m .regs = true) (_m10 : m .counters = true) (_m11 : m .msix = true) (_m12 : m .events = true) (_m13 : m .outputs = true) (h : Keep m s X) : Keep m s (moveDone X a1) := by
  unfold moveDone
  repeat' (first
    | (with_reducible assumption)
    | ((try lift_lets -underBinder); intro x; clear_value (e : x = _); first | (with_reducible refine keep_let (m := m) (s := s) e ?_ (fun _ => ?_) <;> clear e) | clear e)
    | (with_reducible first
        | refine State_setTensor_keep (by assumption) ?_
        | refine tensorWhole_keep (by assumption) (by assumption) ?_
        | refine scrubFreed_keep (by assumption) ?_
        | refine outDone_keep (by assumption) (by assumption) (by assumption) (by assumption) (by assumption) (by assumption) (by assumption) (by assumption) (by assumption) ?_
        | refine inDone_keep (by assumption) (by assumption) (by assumption) (by assumption) (by assumption) (by assumption) (by assumption) (by assumption) ?_
        | refine completeMove_keep (by assumption) (by assumption) (by assumption) (by assumption) (by assumption) (by assumption) (by assumption) ?_
        | refine startMoves_keep (by assumption) (by assumption) (by assumption) (by assumption) (by assumption) (by assumption) (by assumption) (by assumption) (by assumption) ?_
        | refine dropMove_keep (by assumption) (by assumption) ?_
        | refine traceMove_keep (by assumption) (by assumption) (by assumption) (by assumption) (by assumption) (by assumption) ?_)
    | split)

theorem moveFail_keep (_m0 : m .galley = true) (_m1 : m .tensors = true) (_m2 : m .moves = true) (_m3 : m .dies = true) (_m4 : m .hosts = true) (_m5 : m .sources = true) (_m6 : m .regs = true) (_m7 : m .counters = true) (_m8 : m .msix = true) (_m9 : m .events = true) (_m10 : m .outputs = true) (h : Keep m s X) : Keep m s (moveFail X a1 a2) := by
  unfold moveFail
  repeat' (first
    | (with_reducible assumption)
    | ((try lift_lets -underBinder); intro x; clear_value (e : x = _); first | (with_reducible refine keep_let (m := m) (s := s) e ?_ (fun _ => ?_) <;> clear e) | clear e)
    | (with_reducible first
        | refine traceMove_keep (by assumption) (by assumption) (by assumption) (by assumption) (by assumption) (by assumption) ?_
        | refine freeHandle_keep (by assumption) ?_ | refine State_setTensor_keep (by assumption) ?_
        | refine dropMove_keep (by assumption) (by assumption) ?_
        | refine raiseEnd_keep (by assumption) ?_ | refine State_skipEntry_keep (by assumption) ?_
        | refine State_setEntry_keep (by assumption) ?_
        | refine count_keep (by assumption) (by assumption) (by assumption) (by assumption) (by assumption) ?_
        | refine startMoves_keep (by assumption) (by assumption) (by assumption) (by assumption) (by assumption) (by assumption) (by assumption) (by assumption) (by assumption) ?_
        | refine completeMove_keep (by assumption) (by assumption) (by assumption) (by assumption) (by assumption) (by assumption) (by assumption) ?_)
    | split)

end Sys2Proof.Machine
end

