-- ==== Sys2Proof/Laws/KeepGalley.lean ====
section
/-!
SUPPORT. What the operations and meanings of Machine/Galley.lean keep (`Keep`).
-/
set_option Elab.async false
set_option linter.all false
namespace Sys2Proof.Machine

theorem refuseMalformed_keep (_m0 : m .hosts = true) (_m1 : m .sources = true) (_m2 : m .regs = true) (_m3 : m .counters = true) (_m4 : m .msix = true) (_m5 : m .events = true) (_m6 : m .outputs = true) (h : Keep m s X) : Keep m s (refuseMalformed X a1 a2) := by
  unfold refuseMalformed
  repeat' (first
    | (with_reducible assumption)
    | ((try lift_lets -underBinder); intro x; clear_value (e : x = _); clear e)
    | (with_reducible first
        | refine complete_keep (by assumption) (by assumption) (by assumption) (by assumption) (by assumption) (by assumption) (by assumption) ?_
        | refine capture_keep (by assumption) (by assumption) (by assumption) (by assumption) ?_))

theorem fetchTokens_keep (_m0 : m .galley = true) (_m1 : m .hosts = true) (_m2 : m .commands = true) (_m3 : m .outputs = true) (h : Keep m s X) : Keep m s (fetchTokens X a1) := by
  unfold fetchTokens
  repeat' (first
    | (with_reducible assumption)
    | ((try lift_lets -underBinder); intro x; clear_value (e : x = _); (with_reducible refine keep_let (m := m) (s := s) e ?_ (fun _ => ?_) <;> clear e))
    | (with_reducible first
        | refine regionRead_keep (by assumption) (by assumption) ?_
        | refine State_skipEntry_keep (by assumption) ?_ | refine keep_mk ?_))

theorem acceptRequest_keep (_m0 : m .galley = true) (_m1 : m .hosts = true) (_m2 : m .commands = true) (_m3 : m .sources = true) (_m4 : m .regs = true) (_m5 : m .counters = true) (_m6 : m .msix = true) (_m7 : m .events = true) (_m8 : m .outputs = true) (h : Keep m s X) : Keep m s (acceptRequest X a1) := by
  unfold acceptRequest
  repeat' (first
    | (with_reducible assumption)
    | ((try lift_lets -underBinder); intro x; clear_value (e : x = _); first | (with_reducible refine keep_let (m := m) (s := s) e ?_ (fun _ => ?_) <;> clear e) | (have _ := fun a => x a; subst e; try dsimp -zeta only) | clear e)
    | (with_reducible first
        | refine hedgeViolation_keep (by assumption) (by assumption) (by assumption) (by assumption) (by assumption) ?_
        | refine complete_keep (by assumption) (by assumption) (by assumption) (by assumption) (by assumption) (by assumption) (by assumption) ?_
        | refine fetchTokens_keep (by assumption) (by assumption) (by assumption) (by assumption) ?_
        | refine State_setEntry_keep (by assumption) ?_)
    | split
    | (with_reducible refine keep_mk ?_))

theorem acceptCmd_keep (_m0 : m .galley = true) (_m1 : m .hosts = true) (_m2 : m .commands = true) (_m3 : m .sources = true) (_m4 : m .regs = true) (_m5 : m .counters = true) (_m6 : m .msix = true) (_m7 : m .events = true) (_m8 : m .outputs = true) (h : Keep m s X) : Keep m s (acceptCmd X a1) := by
  unfold acceptCmd
  repeat' (first
    | (with_reducible first
        | assumption
        | refine complete_keep (by assumption) (by assumption) (by assumption) (by assumption) (by assumption) (by assumption) (by assumption) ?_
        | refine refuseMalformed_keep (by assumption) (by assumption) (by assumption) (by assumption) (by assumption) (by assumption) (by assumption) ?_
        | refine acceptRequest_keep (by assumption) (by assumption) (by assumption) (by assumption) (by assumption) (by assumption) (by assumption) (by assumption) (by assumption) ?_)
    | split
    | (with_reducible refine keep_mk ?_))

theorem endNow_keep (_m0 : m .memory = true) (_m1 : m .galley = true) (_m2 : m .tensors = true) (_m3 : m .moves = true) (_m4 : m .links = true) (_m5 : m .hosts = true) (_m6 : m .twins = true) (_m7 : m .sources = true) (_m8 : m .regs = true) (_m9 : m .counters = true) (_m10 : m .msix = true) (_m11 : m .events = true) (_m12 : m .waits = true) (_m13 : m .outputs = true) (h : Keep m s X) : Keep m s (endNow X a1 a2) := by
  unfold endNow
  repeat' (first
    | (with_reducible assumption)
    | ((try lift_lets -underBinder); intro x; clear_value (e : x = _); first | (with_reducible refine keep_let (m := m) (s := s) e ?_ (fun _ => ?_) <;> clear e) | clear e)
    | (with_reducible first
        | refine twinEnd_keep (by assumption) (by assumption) (by assumption) (by assumption) (by assumption) (by assumption) (by assumption) (by assumption) (by assumption) ?_
        | refine endEntry_keep (by assumption) (by assumption) (by assumption) (by assumption) (by assumption) (by assumption) (by assumption) (by assumption) (by assumption) (by assumption) (by assumption) ?_
        | refine wipeRuns_keep (by assumption) ?_ | refine scrubFreed_keep (by assumption) ?_)
    | split
    | (with_reducible refine keep_mk ?_))

theorem settleEnd_keep (_m0 : m .memory = true) (_m1 : m .galley = true) (_m2 : m .tensors = true) (_m3 : m .moves = true) (_m4 : m .links = true) (_m5 : m .hosts = true) (_m6 : m .twins = true) (_m7 : m .sources = true) (_m8 : m .regs = true) (_m9 : m .counters = true) (_m10 : m .msix = true) (_m11 : m .events = true) (_m12 : m .waits = true) (_m13 : m .outputs = true) (h : Keep m s X) : Keep m s (settleEnd X a1) := by
  unfold settleEnd
  repeat' (first
    | (with_reducible assumption)
    | ((try lift_lets -underBinder); intro x; clear_value (e : x = _); clear e)
    | (with_reducible first
        | refine endNow_keep (by assumption) (by assumption) (by assumption) (by assumption) (by assumption) (by assumption) (by assumption) (by assumption) (by assumption) (by assumption) (by assumption) (by assumption) (by assumption) (by assumption) ?_
        | refine handoff_keep (by assumption) (by assumption) (by assumption) (by assumption) (by assumption) (by assumption) (by assumption) ?_)
    | split)

theorem startTurn_keep (_m0 : m .memory = true) (_m1 : m .galley = true) (_m2 : m .tensors = true) (h : Keep m s X) : Keep m s (startTurn X a1 a2) := by
  unfold startTurn
  repeat' (first
    | (with_reducible assumption)
    | ((try lift_lets -underBinder); intro x; clear_value (e : x = _); first | (with_reducible refine keep_let (m := m) (s := s) e ?_ (fun _ => ?_) <;> clear e) | clear e)
    | (with_reducible first
        | refine placeReclaim_keep (by assumption) (by assumption) ?_
        | refine State_setEntry_keep (by assumption) ?_
        | refine setMoving_keep (by assumption) (by assumption) ?_ | exact keepOptSnd_none
        | refine keepOptSnd_of ?_ (by with_reducible assumption))
    | split)

theorem loseTurn_keep (_m0 : m .galley = true) (_m1 : m .tensors = true) (h : Keep m s X) : Keep m s (loseTurn X a1) := by
  unfold loseTurn
  repeat' (first
    | (with_reducible assumption)
    | ((try lift_lets -underBinder); intro x; clear_value (e : x = _); first | (with_reducible refine keep_let (m := m) (s := s) e ?_ (fun _ => ?_) <;> clear e) | clear e)
    | (with_reducible first
        | refine setMoving_keep (by assumption) (by assumption) ?_
        | refine State_setEntry_keep (by assumption) ?_)
    | split)

theorem turnDone_keep (_m0 : m .memory = true) (_m1 : m .galley = true) (_m2 : m .tensors = true) (_m3 : m .regs = true) (_m4 : m .counters = true) (_m5 : m .msix = true) (_m6 : m .events = true) (_m7 : m .outputs = true) (h : Keep m s X) : Keep m s (turnDone X a1) := by
  unfold turnDone
  repeat' (first
    | (with_reducible assumption)
    | ((try lift_lets -underBinder); intro x; clear_value (e : x = _); first | (with_reducible refine keep_let (m := m) (s := s) e ?_ (fun _ => ?_) <;> clear e) | clear e)
    | (with_reducible first
        | refine setMoving_keep (by assumption) (by assumption) ?_
        | refine State_setEntry_keep (by assumption) ?_ | refine scrubFreed_keep (by assumption) ?_
        | refine count_keep (by assumption) (by assumption) (by assumption) (by assumption) (by assumption) ?_)
    | split)

theorem countCollisions_keep (_m0 : m .regs = true) (_m1 : m .counters = true) (_m2 : m .msix = true) (_m3 : m .events = true) (_m4 : m .outputs = true) (h : Keep m s X) : Keep m s (countCollisions X a1 a2 a3 a4 a5 a6) := by
  unfold countCollisions
  repeat' (with_reducible first
      | assumption
      | refine capture_keep (by assumption) (by assumption) (by assumption) (by assumption) ?_
      | refine count_keep (by assumption) (by assumption) (by assumption) (by assumption) (by assumption) ?_
      | refine keep_foldl (fun _ _ _ => ?_) ?_)

theorem refNode_keep (_m0 : m .galley = true) (h : Keep m s X) : Keep m s (refNode X a1 a2 a3) := by
  unfold refNode
  repeat' (first
    | (with_reducible assumption)
    | ((try lift_lets -underBinder); intro x; clear_value (e : x = _); clear e)
    | (with_reducible first
        | refine State_setEntry_keep (by assumption) ?_
        | refine State_setTree_keep (by assumption) ?_))

theorem matchBlocks_keep (_m0 : m .galley = true) (_m1 : m .regs = true) (_m2 : m .counters = true) (_m3 : m .msix = true) (_m4 : m .events = true) (_m5 : m .outputs = true) (h : Keep m s X) : KeepSnd m s (matchBlocks a0 X a2 a3) := by
  induction a0 generalizing X a2 a3 with
  | zero =>
    unfold matchBlocks
    repeat' (first
      | (with_reducible assumption)
      | ((try lift_lets -underBinder); intro x; clear_value (e : x = _); first | (with_reducible refine keep_let (m := m) (s := s) e ?_ (fun _ => ?_) <;> clear e) | clear e)
      | (with_reducible first
          | refine countCollisions_keep (by assumption) (by assumption) (by assumption) (by assumption) (by assumption) ?_
          | refine count_keep (by assumption) (by assumption) (by assumption) (by assumption) (by assumption) ?_
          | refine refNode_keep (by assumption) ?_
          | refine keepSnd_of ?_ (by with_reducible assumption))
      | split
      | (with_reducible refine keepSnd_mk ?_))
  | succ _ ih =>
    unfold matchBlocks
    repeat' (first
      | (with_reducible first | assumption | refine ih ?_)
      | ((try lift_lets -underBinder); intro x; clear_value (e : x = _); first | (with_reducible refine keep_let (m := m) (s := s) e ?_ (fun _ => ?_) <;> clear e) | clear e)
      | (with_reducible first
          | refine countCollisions_keep (by assumption) (by assumption) (by assumption) (by assumption) (by assumption) ?_
          | refine count_keep (by assumption) (by assumption) (by assumption) (by assumption) (by assumption) ?_
          | refine refNode_keep (by assumption) ?_
          | refine keepSnd_of ?_ (by with_reducible assumption))
      | split
      | (with_reducible refine keepSnd_mk ?_))

theorem matchPrefix_keep (_m0 : m .galley = true) (_m1 : m .regs = true) (_m2 : m .counters = true) (_m3 : m .msix = true) (_m4 : m .events = true) (_m5 : m .outputs = true) (h : Keep m s X) : KeepSnd m s (matchPrefix X a1) := by
  unfold matchPrefix
  repeat' (first
    | (with_reducible assumption)
    | ((try lift_lets -underBinder); intro x; clear_value (e : x = _); clear e)
    | (with_reducible refine matchBlocks_keep (by assumption) (by assumption) (by assumption) (by assumption) (by assumption) (by assumption) ?_)
    | split
    | (with_reducible refine keepSnd_mk ?_))

theorem noteEntriesLow_keep (_m0 : m .regs = true) (_m1 : m .msix = true) (_m2 : m .outputs = true) (h : Keep m s X) (h1 : Keep m s X1) : Keep m s (noteEntriesLow X X1) := by
  unfold noteEntriesLow
  repeat' (first
    | (with_reducible assumption)
    | ((try lift_lets -underBinder); intro x; clear_value (e : x = _); clear e)
    | (with_reducible refine setCause_keep (by assumption) (by assumption) (by assumption) ?_)
    | split)

theorem systemAddr_keep (_m0 : m .free = true) (h : Keep m s X) : KeepSnd m s (systemAddr X) := by
  unfold systemAddr
  repeat' (first
    | (with_reducible first
        | assumption | refine drawFree_keep (by assumption) ?_
        | refine keepSnd_of ?_ (by with_reducible assumption))
    | split
    | (with_reducible refine keepSnd_mk ?_))

theorem takeEntry_keep (_m0 : m .galley = true) (_m1 : m .tensors = true) (_m2 : m .regs = true) (_m3 : m .counters = true) (_m4 : m .msix = true) (_m5 : m .events = true) (_m6 : m .free = true) (_m7 : m .outputs = true) (h : Keep m s X) : Keep m s (takeEntry X a1 a2 a3 a4) := by
  unfold takeEntry
  repeat' (first
    | (with_reducible assumption)
    | ((try lift_lets -underBinder); intro x; clear_value (e : x = _); clear e)
    | (with_reducible first
        | refine systemAddr_keep (by assumption) ?_ | refine drawFree_keep (by assumption) ?_
        | refine noteEntriesLow_keep (by assumption) (by assumption) (by assumption) ?_ ?_
        | refine count_keep (by assumption) (by assumption) (by assumption) (by assumption) (by assumption) ?_
        | refine State_setTensor_keep (by assumption) ?_
        | refine State_setEntry_keep (by assumption) ?_ | refine keepSnd_proj ?_))

theorem admitCmd_keep (_m0 : m .galley = true) (_m1 : m .tensors = true) (_m2 : m .links = true) (_m3 : m .hosts = true) (_m4 : m .twins = true) (_m5 : m .sources = true) (_m6 : m .regs = true) (_m7 : m .counters = true) (_m8 : m .msix = true) (_m9 : m .events = true) (_m10 : m .free = true) (_m11 : m .outputs = true) (h : Keep m s X) : Keep m s (admitCmd X a1) := by
  unfold admitCmd
  repeat' (first
    | (with_reducible assumption)
    | ((try lift_lets -underBinder); intro x; clear_value (e : x = _); first | (with_reducible refine keep_let (m := m) (s := s) e ?_ (fun _ => ?_) <;> clear e) | clear e)
    | (with_reducible first
        | refine complete_keep (by assumption) (by assumption) (by assumption) (by assumption) (by assumption) (by assumption) (by assumption) ?_
        | refine takeEntry_keep (by assumption) (by assumption) (by assumption) (by assumption) (by assumption) (by assumption) (by assumption) (by assumption) ?_
        | refine refreshTwin_keep (by assumption) (by assumption) ?_
        | refine twinOpen_keep (by assumption) (by assumption) (by assumption) (by assumption) (by assumption) (by assumption) (by assumption) ?_
        | refine State_setEntry_keep (by assumption) ?_
        | refine completeAs_keep (by assumption) (by assumption) (by assumption) (by assumption) (by assumption) (by assumption) (by assumption) ?_)
    | split)

theorem actPrompt_keep (_m0 : m .galley = true) (_m1 : m .tensors = true) (_m2 : m .hosts = true) (_m3 : m .sources = true) (_m4 : m .regs = true) (_m5 : m .counters = true) (_m6 : m .msix = true) (_m7 : m .events = true) (_m8 : m .outputs = true) (h : Keep m s X) : Keep m s (actPrompt X a1 a2) := by
  unfold actPrompt
  repeat' (first
    | (with_reducible assumption)
    | ((try lift_lets -underBinder); intro x; clear_value (e : x = _); first | (with_reducible refine keep_let (m := m) (s := s) e ?_ (fun _ => ?_) <;> clear e) | clear e)
    | (with_reducible first
        | refine complete_keep (by assumption) (by assumption) (by assumption) (by assumption) (by assumption) (by assumption) (by assumption) ?_
        | refine loseTurn_keep (by assumption) (by assumption) ?_
        | refine State_setEntry_keep (by assumption) ?_
        | refine matchPrefix_keep (by assumption) (by assumption) (by assumption) (by assumption) (by assumption) (by assumption) ?_
        | refine keepSnd_proj ?_)
    | split)

theorem actPropose_keep (_m0 : m .galley = true) (_m1 : m .hosts = true) (_m2 : m .sources = true) (_m3 : m .regs = true) (_m4 : m .counters = true) (_m5 : m .msix = true) (_m6 : m .events = true) (_m7 : m .outputs = true) (h : Keep m s X) : Keep m s (actPropose X a1 a2) := by
  unfold actPropose
  repeat' (first
    | (with_reducible assumption)
    | ((try lift_lets -underBinder); intro x; clear_value (e : x = _); clear e)
    | (with_reducible first
        | refine complete_keep (by assumption) (by assumption) (by assumption) (by assumption) (by assumption) (by assumption) (by assumption) ?_
        | refine State_setEntry_keep (by assumption) ?_)
    | split)

theorem actPause_keep (_m0 : m .galley = true) (_m1 : m .tensors = true) (_m2 : m .links = true) (_m3 : m .hosts = true) (_m4 : m .sources = true) (_m5 : m .regs = true) (_m6 : m .counters = true) (_m7 : m .msix = true) (_m8 : m .events = true) (_m9 : m .outputs = true) (h : Keep m s X) : Keep m s (actPause X a1 a2) := by
  unfold actPause
  repeat' (first
    | (with_reducible assumption)
    | ((try lift_lets -underBinder); intro x; clear_value (e : x = _); first | (with_reducible refine keep_let (m := m) (s := s) e ?_ (fun _ => ?_) <;> clear e) | clear e)
    | (with_reducible first
        | refine report_keep (by assumption) ?_ | refine State_setEntry_keep (by assumption) ?_
        | refine loseTurn_keep (by assumption) (by assumption) ?_
        | refine complete_keep (by assumption) (by assumption) (by assumption) (by assumption) (by assumption) (by assumption) (by assumption) ?_
        | refine twinChange_keep (by assumption) (by assumption) (by assumption) (by assumption) (by assumption) (by assumption) ?_)
    | split)

theorem actResume_keep (_m0 : m .memory = true) (_m1 : m .galley = true) (_m2 : m .tensors = true) (_m3 : m .moves = true) (_m4 : m .dies = true) (_m5 : m .links = true) (_m6 : m .hosts = true) (_m7 : m .commands = true) (_m8 : m .sources = true) (_m9 : m .regs = true) (_m10 : m .counters = true) (_m11 : m .msix = true) (_m12 : m .events = true) (_m13 : m .outputs = true) (h : Keep m s X) : Keep m s (actResume X a1 a2) := by
  unfold actResume
  repeat' (first
    | (with_reducible assumption)
    | ((try lift_lets -underBinder); intro x; clear_value (e : x = _); first | (with_reducible refine keep_let (m := m) (s := s) e ?_ (fun _ => ?_) <;> clear e) | clear e)
    | (with_reducible first
        | refine complete_keep (by assumption) (by assumption) (by assumption) (by assumption) (by assumption) (by assumption) (by assumption) ?_
        | refine twinChange_keep (by assumption) (by assumption) (by assumption) (by assumption) (by assumption) (by assumption) ?_
        | refine State_setEntry_keep (by assumption) ?_
        | refine moveIn_keep (by assumption) (by assumption) (by assumption) (by assumption) (by assumption) (by assumption) (by assumption) (by assumption) (by assumption) (by assumption) (by assumption) (by assumption) ?_
        | refine keepOpt_of ?_ (by with_reducible assumption))
    | split
    | (with_reducible refine keep_mk ?_))

theorem actEnd_keep (_m0 : m .memory = true) (_m1 : m .galley = true) (_m2 : m .tensors = true) (_m3 : m .moves = true) (_m4 : m .links = true) (_m5 : m .hosts = true) (_m6 : m .twins = true) (_m7 : m .sources = true) (_m8 : m .regs = true) (_m9 : m .counters = true) (_m10 : m .msix = true) (_m11 : m .events = true) (_m12 : m .waits = true) (_m13 : m .outputs = true) (h : Keep m s X) : Keep m s (actEnd X a1 a2) := by
  unfold actEnd
  repeat' (with_reducible first
      | assumption
      | refine complete_keep (by assumption) (by assumption) (by assumption) (by assumption) (by assumption) (by assumption) (by assumption) ?_
      | refine settleEnd_keep (by assumption) (by assumption) (by assumption) (by assumption) (by assumption) (by assumption) (by assumption) (by assumption) (by assumption) (by assumption) (by assumption) (by assumption) (by assumption) (by assumption) ?_
      | refine raiseEnd_keep (by assumption) ?_)

theorem actMigrate_keep (_m0 : m .memory = true) (_m1 : m .galley = true) (_m2 : m .tensors = true) (_m3 : m .moves = true) (_m4 : m .dies = true) (_m5 : m .hosts = true) (_m6 : m .sources = true) (_m7 : m .regs = true) (_m8 : m .counters = true) (_m9 : m .msix = true) (_m10 : m .events = true) (_m11 : m .free = true) (_m12 : m .outputs = true) (h : Keep m s X) : Keep m s (actMigrate X a1 a2) := by
  unfold actMigrate
  repeat' (first
    | (with_reducible first | assumption | exact keepOpt_pair (by with_reducible assumption))
    | ((try lift_lets -underBinder); intro x; clear_value (e : x = _); (with_reducible refine keepOpt_let (m := m) (s := s) e ?_ (fun _ => ?_) <;> clear e))
    | (with_reducible first
        | refine moveOut_keep (by assumption) (by assumption) (by assumption) (by assumption) (by assumption) (by assumption) (by assumption) (by assumption) (by assumption) (by assumption) (by assumption) (by assumption) ?_
        | refine loseTurn_keep (by assumption) (by assumption) ?_
        | refine moveIn_keep (by assumption) (by assumption) (by assumption) (by assumption) (by assumption) (by assumption) (by assumption) (by assumption) (by assumption) (by assumption) (by assumption) (by assumption) ?_
        | refine complete_keep (by assumption) (by assumption) (by assumption) (by assumption) (by assumption) (by assumption) (by assumption) ?_)
    | split)

theorem actSetClass_keep (_m0 : m .galley = true) (_m1 : m .tensors = true) (_m2 : m .links = true) (_m3 : m .hosts = true) (_m4 : m .twins = true) (_m5 : m .sources = true) (_m6 : m .regs = true) (_m7 : m .counters = true) (_m8 : m .msix = true) (_m9 : m .events = true) (_m10 : m .outputs = true) (h : Keep m s X) : Keep m s (actSetClass X a1 a2) := by
  unfold actSetClass
  repeat' (first
    | (with_reducible assumption)
    | ((try lift_lets -underBinder); intro x; clear_value (e : x = _); first | (with_reducible refine keep_let (m := m) (s := s) e ?_ (fun _ => ?_) <;> clear e) | clear e)
    | (with_reducible first
        | refine State_setTensor_keep (by assumption) ?_
        | refine State_setEntry_keep (by assumption) ?_
        | refine twinEnd_keep (by assumption) (by assumption) (by assumption) (by assumption) (by assumption) (by assumption) (by assumption) (by assumption) (by assumption) ?_
        | refine complete_keep (by assumption) (by assumption) (by assumption) (by assumption) (by assumption) (by assumption) (by assumption) ?_
        | refine refreshTwin_keep (by assumption) (by assumption) ?_
        | refine putFld_keep (by assumption) ?_
        | refine twinOpen_keep (by assumption) (by assumption) (by assumption) (by assumption) (by assumption) (by assumption) (by assumption) ?_
        | refine twinChange_keep (by assumption) (by assumption) (by assumption) (by assumption) (by assumption) (by assumption) ?_)
    | split)

theorem actCmd_keep (_m0 : m .memory = true) (_m1 : m .galley = true) (_m2 : m .tensors = true) (_m3 : m .moves = true) (_m4 : m .dies = true) (_m5 : m .links = true) (_m6 : m .hosts = true) (_m7 : m .commands = true) (_m8 : m .twins = true) (_m9 : m .sources = true) (_m10 : m .regs = true) (_m11 : m .counters = true) (_m12 : m .msix = true) (_m13 : m .events = true) (_m14 : m .waits = true) (_m15 : m .free = true) (_m16 : m .outputs = true) (h : Keep m s X) : Keep m s (actCmd X a1) := by
  unfold actCmd
  repeat' (first
    | (with_reducible assumption)
    | ((try lift_lets -underBinder); intro x; clear_value (e : x = _); clear e)
    | (with_reducible first
        | refine complete_keep (by assumption) (by assumption) (by assumption) (by assumption) (by assumption) (by assumption) (by assumption) ?_
        | refine actPrompt_keep (by assumption) (by assumption) (by assumption) (by assumption) (by assumption) (by assumption) (by assumption) (by assumption) (by assumption) ?_
        | refine actPropose_keep (by assumption) (by assumption) (by assumption) (by assumption) (by assumption) (by assumption) (by assumption) (by assumption) ?_
        | refine actPause_keep (by assumption) (by assumption) (by assumption) (by assumption) (by assumption) (by assumption) (by assumption) (by assumption) (by assumption) (by assumption) ?_
        | refine actResume_keep (by assumption) (by assumption) (by assumption) (by assumption) (by assumption) (by assumption) (by assumption) (by assumption) (by assumption) (by assumption) (by assumption) (by assumption) (by assumption) (by assumption) ?_
        | refine actEnd_keep (by assumption) (by assumption) (by assumption) (by assumption) (by assumption) (by assumption) (by assumption) (by assumption) (by assumption) (by assumption) (by assumption) (by assumption) (by assumption) (by assumption) ?_
        | refine actMigrate_keep (by assumption) (by assumption) (by assumption) (by assumption) (by assumption) (by assumption) (by assumption) (by assumption) (by assumption) (by assumption) (by assumption) (by assumption) (by assumption) ?_
        | refine actSetClass_keep (by assumption) (by assumption) (by assumption) (by assumption) (by assumption) (by assumption) (by assumption) (by assumption) (by assumption) (by assumption) (by assumption) ?_)
    | split)

theorem actCmds_keep (_m0 : m .memory = true) (_m1 : m .galley = true) (_m2 : m .tensors = true) (_m3 : m .moves = true) (_m4 : m .dies = true) (_m5 : m .links = true) (_m6 : m .hosts = true) (_m7 : m .commands = true) (_m8 : m .twins = true) (_m9 : m .sources = true) (_m10 : m .regs = true) (_m11 : m .counters = true) (_m12 : m .msix = true) (_m13 : m .events = true) (_m14 : m .waits = true) (_m15 : m .free = true) (_m16 : m .outputs = true) (h : Keep m s X) : Keep m s (actCmds X) := by
  unfold actCmds
  repeat' (first
    | (with_reducible first | assumption | exact keepFst_pair (by with_reducible assumption))
    | ((try lift_lets -underBinder); intro x; clear_value (e : x = _); (have _ := fun a => x a; subst e; try dsimp -zeta only))
    | (with_reducible first
        | refine actCmd_keep (by assumption) (by assumption) (by assumption) (by assumption) (by assumption) (by assumption) (by assumption) (by assumption) (by assumption) (by assumption) (by assumption) (by assumption) (by assumption) (by assumption) (by assumption) (by assumption) (by assumption) ?_
        | refine keepFst_foldl (fun _ _ _ => ?_) ?_ | refine keepFst_proj ?_)
    | split
    | (with_reducible first | refine keepFst_mk ?_ | refine keep_mk ?_))

end Sys2Proof.Machine
end

