-- ==== Sys2Proof/Laws/KeepParts.lean ====
section
/-!
SUPPORT. What the operations and meanings of Machine/Parts.lean keep (`Keep`).
-/
set_option Elab.async false
set_option linter.all false
namespace Sys2Proof.Machine

theorem mboxDone_keep (_m0 : m .regs = true) (_m1 : m .msix = true) (_m2 : m .outputs = true) (h : Keep m s X) : Keep m s (mboxDone X a1) := by
  unfold mboxDone
  repeat' (first
    | (with_reducible assumption)
    | ((try lift_lets -underBinder); intro x; clear_value (e : x = _); first | (with_reducible refine keep_let (m := m) (s := s) e ?_ (fun _ => ?_) <;> clear e) | clear e)
    | (with_reducible first
        | refine putFld_keep (by assumption) ?_ | refine putBit_keep (by assumption) ?_
        | refine setCause_keep (by assumption) (by assumption) (by assumption) ?_))

theorem mboxGo_keep (_m0 : m .regs = true) (h : Keep m s X) (hf2 : ∀ x0, Keep m s x0 → Keep m s (f2 x0)) : Keep m s (mboxGo X a1 f2) := by
  unfold mboxGo
  repeat' (first
    | (with_reducible first
        | assumption | apply hf2 | refine putBit_keep (by assumption) ?_
        | refine setReg_keep (by assumption) ?_)
    | split)

theorem setPhase_keep (_m0 : m .regs = true) (h : Keep m s X) : Keep m s (setPhase X a1 a2) := by
  unfold setPhase
  repeat' (with_reducible first | assumption | refine putFld_keep (by assumption) ?_)

theorem setCoreOwner_keep (_m0 : m .regs = true) (h : Keep m s X) : Keep m s (setCoreOwner X a1 a2 a3) := by
  unfold setCoreOwner
  repeat' (with_reducible first | assumption | refine putFld_keep (by assumption) ?_)

theorem giveCore_keep (_m0 : m .regs = true) (h : Keep m s X) : Keep m s (giveCore X a1 a2) := by
  unfold giveCore
  repeat' (first
    | (with_reducible first | assumption | refine setCoreOwner_keep (by assumption) ?_)
    | split)

theorem refreshCores_keep (_m0 : m .regs = true) (h : Keep m s X) : Keep m s (refreshCores X a1) := by
  unfold refreshCores
  repeat' (first
    | (with_reducible assumption)
    | ((try lift_lets -underBinder); intro x; clear_value (e : x = _); clear e)
    | (with_reducible first
        | refine setReg_keep (by assumption) ?_ | refine keep_foldl (fun _ _ _ => ?_) ?_))

theorem giveTable_keep (_m0 : m .memory = true) (_m1 : m .regs = true) (h : Keep m s X) : Keep m s (giveTable X a1 a2) := by
  unfold giveTable
  repeat' (first
    | (with_reducible assumption)
    | ((try lift_lets -underBinder); intro x; clear_value (e : x = _); (with_reducible refine keep_let (m := m) (s := s) e ?_ (fun _ => ?_) <;> clear e))
    | (with_reducible first | refine putFld_keep (by assumption) ?_ | refine keep_mk ?_))

theorem setPageOwners_keep (_m0 : m .regs = true) (h : Keep m s X) : Keep m s (setPageOwners X a1 a2) := by
  unfold setPageOwners
  repeat' (with_reducible first
      | assumption | refine putFld_keep (by assumption) ?_ | refine keep_foldl (fun _ _ _ => ?_) ?_)

theorem wipeT0_keep (_m0 : m .memory = true) (h : Keep m s X) : Keep m s (wipeT0 X a1 a2) := by
  unfold wipeT0
  repeat' (with_reducible first | assumption | refine keep_mk ?_)

theorem wipePartT0_keep (_m0 : m .memory = true) (h : Keep m s X) : Keep m s (wipePartT0 X a1) := by
  unfold wipePartT0
  repeat' (first
    | (with_reducible first
        | assumption | refine wipeT0_keep (by assumption) ?_
        | refine keep_foldl (fun _ _ _ => ?_) ?_)
    | split)

theorem putT0_keep (_m0 : m .memory = true) (h : Keep m s X) : Keep m s (putT0 X a1 a2 a3 a4) := by
  unfold putT0
  repeat' (with_reducible first | assumption | refine keep_mk ?_)

theorem writeResident_keep (_m0 : m .memory = true) (_m1 : m .regs = true) (h : Keep m s X) : Keep m s (writeResident X a1 a2) := by
  unfold writeResident
  repeat' (first
    | (with_reducible assumption)
    | ((try lift_lets -underBinder); intro x; clear_value (e : x = _); clear e)
    | (with_reducible first
        | refine setReg_keep (by assumption) ?_ | refine putT0_keep (by assumption) ?_)
    | split)

theorem writeResidents_keep (_m0 : m .memory = true) (_m1 : m .regs = true) (h : Keep m s X) : Keep m s (writeResidents X a1) := by
  unfold writeResidents
  repeat' (with_reducible first
      | assumption | refine writeResident_keep (by assumption) (by assumption) ?_
      | refine keep_foldl (fun _ _ _ => ?_) ?_)

theorem dropSlot_keep (_m0 : m .impos = true) (h : Keep m s X) : Keep m s (dropSlot X a1) := by
  unfold dropSlot
  repeat' (first
    | (with_reducible assumption)
    | ((try lift_lets -underBinder); intro x; clear_value (e : x = _); clear e)
    | (with_reducible refine State_setImpo_keep (by assumption) ?_))

theorem dropImpos_keep (_m0 : m .impos = true) (h : Keep m s X) : Keep m s (dropImpos X a1 a2) := by
  unfold dropImpos
  repeat' (with_reducible first
      | assumption | refine dropSlot_keep (by assumption) ?_
      | refine keep_foldl (fun _ _ _ => ?_) ?_)

theorem freeTree_keep (_m0 : m .galley = true) (_m1 : m .waits = true) (h : Keep m s X) : Keep m s (freeTree X a1) := by
  unfold freeTree
  repeat' (first
    | (with_reducible assumption)
    | ((try lift_lets -underBinder); intro x; clear_value (e : x = _); clear e)
    | (with_reducible first
        | refine State_setTree_keep (by assumption) ?_ | refine wipeRuns_keep (by assumption) ?_))

theorem releaseTensor_keep (_m0 : m .tensors = true) (_m1 : m .moves = true) (_m2 : m .hosts = true) (_m3 : m .sources = true) (_m4 : m .regs = true) (_m5 : m .counters = true) (_m6 : m .msix = true) (_m7 : m .events = true) (_m8 : m .waits = true) (_m9 : m .free = true) (_m10 : m .outputs = true) (h : Keep m s X) : Keep m s (releaseTensor X a1) := by
  unfold releaseTensor
  repeat' (first
    | (with_reducible assumption)
    | ((try lift_lets -underBinder); intro x; clear_value (e : x = _); clear e)
    | (with_reducible first
        | refine drawFree_keep (by assumption) ?_
        | refine dropMoves_keep (by assumption) (by assumption) (by assumption) (by assumption) (by assumption) (by assumption) (by assumption) (by assumption) ?_
        | refine freeHandle_keep (by assumption) ?_ | refine wipeRuns_keep (by assumption) ?_
        | refine keepSnd_proj ?_))

theorem stopRing_keep (_m0 : m .regs = true) (h : Keep m s X) : Keep m s (stopRing X a1 a2) := by
  unfold stopRing
  repeat' (first
    | (with_reducible assumption)
    | ((try lift_lets -underBinder); intro x; clear_value (e : x = _); (with_reducible refine keep_let (m := m) (s := s) e ?_ (fun _ => ?_) <;> clear e))
    | (with_reducible refine putBit_keep (by assumption) ?_)
    | split)

theorem stopRings_keep (_m0 : m .regs = true) (h : Keep m s X) : Keep m s (stopRings X a1) := by
  unfold stopRings
  repeat' (with_reducible first | assumption | refine stopRing_keep (by assumption) ?_)

theorem clearHeld_keep (_m0 : m .regs = true) (h : Keep m s X) : Keep m s (clearHeld X a1) := by
  unfold clearHeld
  repeat' (with_reducible first
      | assumption | refine putFld_keep (by assumption) ?_ | refine putBit_keep (by assumption) ?_)

theorem leavePicks_keep (_m0 : m .steps = true) (h : Keep m s X) : Keep m s (leavePicks X a1) := by
  unfold leavePicks
  repeat' (first
    | (with_reducible assumption)
    | ((try lift_lets -underBinder); intro x; clear_value (e : x = _); first | (have _ := fun a => x a; subst e; try dsimp -zeta only) | clear e)
    | split
    | (with_reducible refine keep_mk ?_))

theorem endAll_keep (_m0 : m .memory = true) (_m1 : m .galley = true) (_m2 : m .tensors = true) (_m3 : m .moves = true) (_m4 : m .steps = true) (_m5 : m .links = true) (_m6 : m .hosts = true) (_m7 : m .twins = true) (_m8 : m .sources = true) (_m9 : m .regs = true) (_m10 : m .counters = true) (_m11 : m .msix = true) (_m12 : m .events = true) (_m13 : m .waits = true) (_m14 : m .outputs = true) (h : Keep m s X) : Keep m s (endAll X a1 a2) := by
  unfold endAll
  repeat' (with_reducible first
      | assumption
      | refine endNow_keep (by assumption) (by assumption) (by assumption) (by assumption) (by assumption) (by assumption) (by assumption) (by assumption) (by assumption) (by assumption) (by assumption) (by assumption) (by assumption) (by assumption) ?_
      | refine leavePicks_keep (by assumption) ?_ | refine keep_foldl (fun _ _ _ => ?_) ?_)

theorem requestAssign_keep (_m0 : m .regs = true) (_m1 : m .msix = true) (_m2 : m .waits = true) (_m3 : m .outputs = true) (h : Keep m s X) : Keep m s (requestAssign X) := by
  unfold requestAssign
  repeat' (first
    | (with_reducible assumption)
    | ((try lift_lets -underBinder); intro x; clear_value (e : x = _); first | (with_reducible refine keep_let (m := m) (s := s) e ?_ (fun _ => ?_) <;> clear e) | clear e)
    | (with_reducible first
        | refine mboxDone_keep (by assumption) (by assumption) (by assumption) ?_
        | refine setReg_keep (by assumption) ?_)
    | split
    | (with_reducible refine keep_mk ?_))

theorem assignNow_keep (_m0 : m .memory = true) (_m1 : m .regs = true) (_m2 : m .msix = true) (_m3 : m .events = true) (_m4 : m .outputs = true) (h : Keep m s X) : Keep m s (assignNow X a1) := by
  unfold assignNow
  repeat' (first
    | (with_reducible assumption)
    | ((try lift_lets -underBinder); intro x; clear_value (e : x = _); first | (with_reducible refine keep_let (m := m) (s := s) e ?_ (fun _ => ?_) <;> clear e) | clear e)
    | (with_reducible first
        | refine giveCore_keep (by assumption) ?_ | refine setPageOwners_keep (by assumption) ?_
        | refine giveTable_keep (by assumption) (by assumption) ?_
        | refine setPhase_keep (by assumption) ?_ | refine putBit_keep (by assumption) ?_
        | refine refreshCores_keep (by assumption) ?_
        | refine mboxDone_keep (by assumption) (by assumption) (by assumption) ?_
        | refine raiseEvent_keep (by assumption) (by assumption) (by assumption) (by assumption) ?_
        | refine keep_foldl (fun _ _ _ => ?_) ?_))

theorem requestRelease_keep (_m0 : m .regs = true) (_m1 : m .msix = true) (_m2 : m .waits = true) (_m3 : m .outputs = true) (h : Keep m s X) : Keep m s (requestRelease X a1) := by
  unfold requestRelease
  repeat' (first
    | (with_reducible assumption)
    | ((try lift_lets -underBinder); intro x; clear_value (e : x = _); clear e)
    | (with_reducible refine mboxDone_keep (by assumption) (by assumption) (by assumption) ?_)
    | split
    | (with_reducible refine keep_mk ?_))

theorem releaseNow_keep (_m0 : m .memory = true) (_m1 : m .galley = true) (_m2 : m .tensors = true) (_m3 : m .moves = true) (_m4 : m .impos = true) (_m5 : m .steps = true) (_m6 : m .links = true) (_m7 : m .hosts = true) (_m8 : m .twins = true) (_m9 : m .sources = true) (_m10 : m .regs = true) (_m11 : m .counters = true) (_m12 : m .msix = true) (_m13 : m .events = true) (_m14 : m .waits = true) (_m15 : m .free = true) (_m16 : m .outputs = true) (h : Keep m s X) : Keep m s (releaseNow X a1) := by
  unfold releaseNow
  repeat' (first
    | (with_reducible assumption)
    | ((try lift_lets -underBinder); intro x; clear_value (e : x = _); first | (with_reducible refine keep_let (m := m) (s := s) e ?_ (fun _ => ?_) <;> clear e) | clear e)
    | (with_reducible first
        | refine setPhase_keep (by assumption) ?_
        | refine freeTree_keep (by assumption) (by assumption) ?_
        | refine dropImpos_keep (by assumption) ?_
        | refine endAll_keep (by assumption) (by assumption) (by assumption) (by assumption) (by assumption) (by assumption) (by assumption) (by assumption) (by assumption) (by assumption) (by assumption) (by assumption) (by assumption) (by assumption) (by assumption) ?_
        | refine wipePartT0_keep (by assumption) ?_
        | refine releaseTensor_keep (by assumption) (by assumption) (by assumption) (by assumption) (by assumption) (by assumption) (by assumption) (by assumption) (by assumption) (by assumption) (by assumption) ?_
        | refine keep_foldl (fun _ _ _ => ?_) ?_ | refine keep_mk ?_))

theorem finishRelease_keep (_m0 : m .hosts = true) (_m1 : m .commands = true) (_m2 : m .regs = true) (h : Keep m s X) : Keep m s (finishRelease X a1) := by
  unfold finishRelease
  repeat' (first
    | (with_reducible assumption)
    | ((try lift_lets -underBinder); intro x; clear_value (e : x = _); (with_reducible refine keep_let (m := m) (s := s) e ?_ (fun _ => ?_) <;> clear e))
    | (with_reducible first
        | refine clearHeld_keep (by assumption) ?_ | refine stopRings_keep (by assumption) ?_
        | refine keep_mk ?_))

theorem coresBack_keep (_m0 : m .memory = true) (_m1 : m .regs = true) (h : Keep m s X) : Keep m s (coresBack X a1) := by
  unfold coresBack
  repeat' (first
    | (with_reducible assumption)
    | ((try lift_lets -underBinder); intro x; clear_value (e : x = _); (with_reducible refine keep_let (m := m) (s := s) e ?_ (fun _ => ?_) <;> clear e))
    | (with_reducible first
        | refine giveCore_keep (by assumption) ?_
        | refine giveTable_keep (by assumption) (by assumption) ?_
        | refine refreshCores_keep (by assumption) ?_ | refine keep_foldl (fun _ _ _ => ?_) ?_))

theorem zeroSlots_keep (_m0 : m .memory = true) (_m1 : m .waits = true) (h : Keep m s X) : Keep m s (zeroSlots X a1) := by
  unfold zeroSlots
  repeat' (first
    | (with_reducible assumption)
    | ((try lift_lets -underBinder); intro x; clear_value (e : x = _); clear e)
    | (with_reducible refine keep_mk ?_))

theorem releaseDone_keep (_m0 : m .memory = true) (_m1 : m .regs = true) (_m2 : m .msix = true) (_m3 : m .events = true) (_m4 : m .waits = true) (_m5 : m .outputs = true) (h : Keep m s X) : Keep m s (releaseDone X a1) := by
  unfold releaseDone
  repeat' (first
    | (with_reducible assumption)
    | ((try lift_lets -underBinder); intro x; clear_value (e : x = _); (with_reducible refine keep_let (m := m) (s := s) e ?_ (fun _ => ?_) <;> clear e))
    | (with_reducible first
        | refine setPageOwners_keep (by assumption) ?_ | refine setPhase_keep (by assumption) ?_
        | refine zeroSlots_keep (by assumption) (by assumption) ?_
        | refine setReg_keep (by assumption) ?_
        | refine setCause_keep (by assumption) (by assumption) (by assumption) ?_
        | refine raiseEvent_keep (by assumption) (by assumption) (by assumption) (by assumption) ?_
        | refine mboxDone_keep (by assumption) (by assumption) (by assumption) ?_
        | refine keep_foldl (fun _ _ _ => ?_) ?_)
    | split)

theorem clearPartCounters_keep (_m0 : m .counters = true) (h : Keep m s X) : Keep m s (clearPartCounters X a1) := by
  unfold clearPartCounters
  repeat' (first
    | (with_reducible assumption)
    | ((try lift_lets -underBinder); intro x; clear_value (e : x = _); (have _ := fun a => x a; subst e; try dsimp -zeta only))
    | (with_reducible refine keep_mk ?_))

theorem resetVf_keep (_m0 : m .hosts = true) (_m1 : m .msix = true) (h : Keep m s X) : Keep m s (resetVf X a1) := by
  unfold resetVf
  repeat' (first
    | (with_reducible assumption)
    | ((try lift_lets -underBinder); intro x; clear_value (e : x = _); clear e)
    | (with_reducible refine keep_mk ?_))

theorem beginPartReset_keep (_m0 : m .hosts = true) (_m1 : m .regs = true) (_m2 : m .counters = true) (_m3 : m .msix = true) (_m4 : m .events = true) (_m5 : m .waits = true) (_m6 : m .free = true) (_m7 : m .outputs = true) (h : Keep m s X) : Keep m s (beginPartReset X a1) := by
  unfold beginPartReset
  repeat' (first
    | (with_reducible assumption)
    | ((try lift_lets -underBinder); intro x; clear_value (e : x = _); (with_reducible refine keep_let (m := m) (s := s) e ?_ (fun _ => ?_) <;> clear e))
    | (with_reducible first
        | refine drawFree_keep (by assumption) ?_
        | refine resetVf_keep (by assumption) (by assumption) ?_
        | refine stopRings_keep (by assumption) ?_
        | refine clearPartCounters_keep (by assumption) ?_ | refine setPhase_keep (by assumption) ?_
        | refine raiseEvent_keep (by assumption) (by assumption) (by assumption) (by assumption) ?_
        | refine keepSnd_of ?_ (by with_reducible assumption))
    | split
    | (with_reducible refine keep_mk ?_))

theorem partResetNow_keep (_m0 : m .memory = true) (_m1 : m .galley = true) (_m2 : m .tensors = true) (_m3 : m .moves = true) (_m4 : m .steps = true) (_m5 : m .links = true) (_m6 : m .hosts = true) (_m7 : m .twins = true) (_m8 : m .sources = true) (_m9 : m .regs = true) (_m10 : m .counters = true) (_m11 : m .msix = true) (_m12 : m .events = true) (_m13 : m .waits = true) (_m14 : m .outputs = true) (h : Keep m s X) : Keep m s (partResetNow X a1) := by
  unfold partResetNow
  repeat' (with_reducible first
      | assumption | refine writeResidents_keep (by assumption) (by assumption) ?_
      | refine wipePartT0_keep (by assumption) ?_
      | refine freeTree_keep (by assumption) (by assumption) ?_
      | refine endAll_keep (by assumption) (by assumption) (by assumption) (by assumption) (by assumption) (by assumption) (by assumption) (by assumption) (by assumption) (by assumption) (by assumption) (by assumption) (by assumption) (by assumption) (by assumption) ?_)

theorem partResetDone_keep (_m0 : m .memory = true) (_m1 : m .regs = true) (_m2 : m .msix = true) (_m3 : m .waits = true) (_m4 : m .outputs = true) (h : Keep m s X) : Keep m s (partResetDone X a1) := by
  unfold partResetDone
  repeat' (first
    | (with_reducible assumption)
    | ((try lift_lets -underBinder); intro x; clear_value (e : x = _); (with_reducible refine keep_let (m := m) (s := s) e ?_ (fun _ => ?_) <;> clear e))
    | (with_reducible first
        | refine setCause_keep (by assumption) (by assumption) (by assumption) ?_
        | refine setPhase_keep (by assumption) ?_
        | refine zeroSlots_keep (by assumption) (by assumption) ?_
        | refine mboxDone_keep (by assumption) (by assumption) (by assumption) ?_)
    | split)

end Sys2Proof.Machine
end

