-- ==== Sys2Proof/Laws/KeepAdopt.lean ====
section
/-!
SUPPORT. What the operations and meanings of Machine/Adopt.lean keep (`Keep`).
-/
set_option Elab.async false
set_option linter.all false
namespace Sys2Proof.Machine

theorem State_setMirror_keep (_m0 : m .twins = true) (h : Keep m s X) : Keep m s (State.setMirror X a1 a2) := by
  unfold State.setMirror
  repeat' (with_reducible first | assumption | refine keep_mk ?_)

theorem freeMirror_keep (_m0 : m .memory = true) (_m1 : m .twins = true) (_m2 : m .regs = true) (h : Keep m s X) : Keep m s (freeMirror X a1) := by
  unfold freeMirror
  repeat' (first
    | (with_reducible assumption)
    | ((try lift_lets -underBinder); intro x; clear_value (e : x = _); first | (with_reducible refine keep_let (m := m) (s := s) e ?_ (fun _ => ?_) <;> clear e) | clear e)
    | (with_reducible first
        | refine scrubFreed_keep (by assumption) ?_
        | refine refreshTwin_keep (by assumption) (by assumption) ?_)
    | split
    | (with_reducible refine keep_mk ?_))

theorem adoptionCompletion_keep (_m0 : m .hosts = true) (_m1 : m .regs = true) (_m2 : m .msix = true) (_m3 : m .outputs = true) (h : Keep m s X) : Keep m s (adoptionCompletion X a1 a2 a3 a4) := by
  unfold adoptionCompletion
  repeat' (first
    | (with_reducible assumption)
    | ((try lift_lets -underBinder); intro x; clear_value (e : x = _); clear e)
    | (with_reducible refine putCompletion_keep (by assumption) (by assumption) (by assumption) (by assumption) ?_)
    | split)

theorem adoptOne_keep (_m0 : m .memory = true) (_m1 : m .galley = true) (_m2 : m .tensors = true) (_m3 : m .moves = true) (_m4 : m .dies = true) (_m5 : m .hosts = true) (_m6 : m .twins = true) (_m7 : m .sources = true) (_m8 : m .regs = true) (_m9 : m .counters = true) (_m10 : m .msix = true) (_m11 : m .events = true) (_m12 : m .free = true) (_m13 : m .outputs = true) (h : Keep m s X) : KeepSnd m s (adoptOne X a1) := by
  unfold adoptOne
  repeat' (first
    | (with_reducible assumption)
    | ((try lift_lets -underBinder); intro x; clear_value (e : x = _); first | (with_reducible refine keep_let (m := m) (s := s) e ?_ (fun _ => ?_) <;> clear e) | clear e)
    | (with_reducible first
        | refine freeMirror_keep (by assumption) (by assumption) (by assumption) ?_
        | refine adoptionCompletion_keep (by assumption) (by assumption) (by assumption) (by assumption) ?_
        | refine systemAddr_keep (by assumption) ?_ | refine State_setTensor_keep (by assumption) ?_
        | refine State_setEntry_keep (by assumption) ?_
        | refine count_keep (by assumption) (by assumption) (by assumption) (by assumption) (by assumption) ?_
        | refine moveIn_keep (by assumption) (by assumption) (by assumption) (by assumption) (by assumption) (by assumption) (by assumption) (by assumption) (by assumption) (by assumption) (by assumption) (by assumption) ?_
        | refine keepSnd_of ?_ (by with_reducible assumption)
        | refine keepOpt_of ?_ (by with_reducible assumption))
    | split
    | (with_reducible first | refine keepSnd_mk ?_ | refine keep_mk ?_))

theorem adoptHome_keep (_m0 : m .memory = true) (_m1 : m .galley = true) (_m2 : m .tensors = true) (_m3 : m .moves = true) (_m4 : m .dies = true) (_m5 : m .hosts = true) (_m6 : m .twins = true) (_m7 : m .sources = true) (_m8 : m .regs = true) (_m9 : m .counters = true) (_m10 : m .msix = true) (_m11 : m .events = true) (_m12 : m .free = true) (_m13 : m .outputs = true) (h : Keep m s X) : Keep m s (adoptHome X a1) := by
  unfold adoptHome
  repeat' (first
    | (with_reducible first | assumption | exact keepSnd_pair (by with_reducible assumption))
    | ((try lift_lets -underBinder); intro x; clear_value (e : x = _); clear e)
    | (with_reducible first
        | refine adoptOne_keep (by assumption) (by assumption) (by assumption) (by assumption) (by assumption) (by assumption) (by assumption) (by assumption) (by assumption) (by assumption) (by assumption) (by assumption) (by assumption) (by assumption) ?_
        | refine refreshTwin_keep (by assumption) (by assumption) ?_
        | refine raiseEvent_keep (by assumption) (by assumption) (by assumption) (by assumption) ?_
        | refine keepSnd_foldl (fun _ _ _ => ?_) ?_
        | refine keepSnd_of ?_ (by with_reducible assumption) | refine keepSnd_proj ?_)
    | split
    | (with_reducible first | refine keepSnd_mk ?_ | refine keep_mk ?_))

theorem takeoverDone_keep (_m0 : m .regs = true) (_m1 : m .msix = true) (_m2 : m .outputs = true) (h : Keep m s X) : Keep m s (takeoverDone X a1) := by
  unfold takeoverDone
  repeat' (first
    | (with_reducible first
        | assumption | refine mboxDone_keep (by assumption) (by assumption) (by assumption) ?_)
    | split)

theorem adoptAll_keep (_m0 : m .memory = true) (_m1 : m .galley = true) (_m2 : m .tensors = true) (_m3 : m .moves = true) (_m4 : m .dies = true) (_m5 : m .hosts = true) (_m6 : m .twins = true) (_m7 : m .sources = true) (_m8 : m .regs = true) (_m9 : m .counters = true) (_m10 : m .msix = true) (_m11 : m .events = true) (_m12 : m .free = true) (_m13 : m .outputs = true) (h : Keep m s X) : Keep m s (adoptAll X) := by
  unfold adoptAll
  repeat' (with_reducible first
      | assumption | refine takeoverDone_keep (by assumption) (by assumption) (by assumption) ?_
      | refine adoptHome_keep (by assumption) (by assumption) (by assumption) (by assumption) (by assumption) (by assumption) (by assumption) (by assumption) (by assumption) (by assumption) (by assumption) (by assumption) (by assumption) (by assumption) ?_
      | refine keep_foldl (fun _ _ _ => ?_) ?_)

end Sys2Proof.Machine
end

