-- ==== Sys2Proof/Laws/KeepImpose.lean ====
section
/-!
SUPPORT. What the operations and meanings of Machine/Impose.lean keep (`Keep`).
-/
set_option Elab.async false
set_option linter.all false
namespace Sys2Proof.Machine

theorem pickBase_keep (_m0 : m .free = true) (h : Keep m s X) : KeepOptSnd m s (pickBase X a1 a2) := by
  unfold pickBase
  repeat' (first
    | (with_reducible first
        | assumption | refine drawFree_keep (by assumption) ?_ | refine keepOptSnd_map (fun _ => ?_)
        | refine keepOptSnd_some ?_ | refine keepSnd_of ?_ (by with_reducible assumption))
    | split
    | (with_reducible refine keepSnd_mk ?_))

theorem formeDone_keep (_m0 : m .regs = true) (_m1 : m .msix = true) (_m2 : m .outputs = true) (h : Keep m s X) : Keep m s (formeDone X a1 a2) := by
  unfold formeDone
  repeat' (first
    | (with_reducible assumption)
    | ((try lift_lets -underBinder); intro x; clear_value (e : x = _); clear e)
    | (with_reducible first
        | refine setCause_keep (by assumption) (by assumption) (by assumption) ?_
        | refine setReg_keep (by assumption) ?_))

theorem makeActive_keep (_m0 : m .impos = true) (h : Keep m s X) : Keep m s (makeActive X a1 a2) := by
  unfold makeActive
  repeat' (first
    | (with_reducible assumption)
    | ((try lift_lets -underBinder); intro x; clear_value (e : x = _); clear e)
    | (with_reducible refine State_setImpo_keep (by assumption) ?_))

theorem replaceSlot_keep (_m0 : m .impos = true) (h : Keep m s X) : Keep m s (replaceSlot X a1) := by
  unfold replaceSlot
  repeat' (first
    | (with_reducible assumption)
    | ((try lift_lets -underBinder); intro x; clear_value (e : x = _); clear e)
    | (with_reducible refine State_setImpo_keep (by assumption) ?_))

theorem liveBias_keep (_m0 : m .memory = true) (h : Keep m s X) : Keep m s (liveBias X a1) := by
  unfold liveBias
  repeat' (first
    | (with_reducible assumption)
    | ((try lift_lets -underBinder); intro x; clear_value (e : x = _); first | (with_reducible refine keep_let (m := m) (s := s) e ?_ (fun _ => ?_) <;> clear e) | (have _ := fun a => x a; subst e; try dsimp -zeta only))
    | (with_reducible first
        | refine keep_elim ?_ (fun _ => ?_) | refine keep_foldl (fun _ _ _ => ?_) ?_
        | refine keep_mk ?_))

theorem dropTree_keep (_m0 : m .memory = true) (_m1 : m .galley = true) (h : Keep m s X) : Keep m s (dropTree X a1) := by
  unfold dropTree
  repeat' (first
    | (with_reducible assumption)
    | ((try lift_lets -underBinder); intro x; clear_value (e : x = _); clear e)
    | (with_reducible first
        | refine scrubFreed_keep (by assumption) ?_ | refine State_setTree_keep (by assumption) ?_))

theorem allocTree_keep (_m0 : m .galley = true) (_m1 : m .regs = true) (_m2 : m .msix = true) (_m3 : m .events = true) (_m4 : m .outputs = true) (h : Keep m s X) : Keep m s (allocTree X a1) := by
  unfold allocTree
  repeat' (first
    | (with_reducible assumption)
    | ((try lift_lets -underBinder); intro x; clear_value (e : x = _); clear e)
    | (with_reducible first
        | refine State_setTree_keep (by assumption) ?_
        | refine raiseEvent_keep (by assumption) (by assumption) (by assumption) (by assumption) ?_
        | refine setCause_keep (by assumption) (by assumption) (by assumption) ?_)
    | split)

theorem reshardEntry_keep (_m0 : m .galley = true) (_m1 : m .tensors = true) (h : Keep m s X) : Keep m s (reshardEntry X a1) := by
  unfold reshardEntry
  repeat' (first
    | (with_reducible assumption)
    | ((try lift_lets -underBinder); intro x; clear_value (e : x = _); first | (with_reducible refine keep_let (m := m) (s := s) e ?_ (fun _ => ?_) <;> clear e) | clear e)
    | (with_reducible first
        | refine loseTurn_keep (by assumption) (by assumption) ?_
        | refine State_setEntry_keep (by assumption) ?_)
    | split)

theorem activated_keep (_m0 : m .groups = true) (_m1 : m .links = true) (_m2 : m .regs = true) (_m3 : m .counters = true) (_m4 : m .msix = true) (_m5 : m .events = true) (_m6 : m .free = true) (_m7 : m .outputs = true) (h : Keep m s X) : Keep m s (activated X a1 a2) := by
  unfold activated
  repeat' (first
    | (with_reducible assumption)
    | ((try lift_lets -underBinder); intro x; clear_value (e : x = _); first | (with_reducible refine keep_let (m := m) (s := s) e ?_ (fun _ => ?_) <;> clear e) | clear e)
    | (with_reducible first
        | refine State_setGroup_keep (by assumption) ?_
        | refine formeDone_keep (by assumption) (by assumption) (by assumption) ?_
        | refine sendAnnounce_keep (by assumption) (by assumption) (by assumption) (by assumption) (by assumption) (by assumption) (by assumption) (by assumption) ?_)
    | split)

theorem activateNow_keep (_m0 : m .memory = true) (_m1 : m .galley = true) (_m2 : m .tensors = true) (_m3 : m .impos = true) (_m4 : m .groups = true) (_m5 : m .links = true) (_m6 : m .regs = true) (_m7 : m .counters = true) (_m8 : m .msix = true) (_m9 : m .events = true) (_m10 : m .free = true) (_m11 : m .outputs = true) (h : Keep m s X) : Keep m s (activateNow X a1) := by
  unfold activateNow
  repeat' (first
    | (with_reducible first
        | assumption | exact keepSnd_pair (by with_reducible assumption)
        | exact keepOpt_pair (by with_reducible assumption))
    | ((try lift_lets -underBinder); intro x; clear_value (e : x = _); first | (with_reducible refine keep_let (m := m) (s := s) e ?_ (fun _ => ?_) <;> clear e) | (with_reducible refine keepOpt_let (m := m) (s := s) e ?_ (fun _ => ?_) <;> clear e) | clear e)
    | (with_reducible first
        | refine activated_keep (by assumption) (by assumption) (by assumption) (by assumption) (by assumption) (by assumption) (by assumption) (by assumption) ?_
        | refine replaceSlot_keep (by assumption) ?_ | refine pickBase_keep (by assumption) ?_
        | refine makeActive_keep (by assumption) ?_
        | refine dropTree_keep (by assumption) (by assumption) ?_
        | refine liveBias_keep (by assumption) ?_
        | refine writeResidents_keep (by assumption) (by assumption) ?_
        | refine allocTree_keep (by assumption) (by assumption) (by assumption) (by assumption) (by assumption) ?_
        | refine reshardEntry_keep (by assumption) (by assumption) ?_
        | refine keepOpt_mapSnd ?_ (fun _ _ => ?_) | refine keep_elim ?_ (fun _ => ?_)
        | refine keep_foldl (fun _ _ _ => ?_) ?_ | refine keepOpt_some ?_
        | refine keepOptSnd_of ?_ (by with_reducible assumption))
    | split)

end Sys2Proof.Machine
end

