-- ==== Sys2Proof/Laws/KeepPick.lean ====
section
/-!
SUPPORT. What the operations and meanings of Machine/Pick.lean keep (`Keep`).
-/
set_option Elab.async false
set_option linter.all false
namespace Sys2Proof.Machine

theorem lackSlot_keep (_m0 : m .galley = true) (h : Keep m s X) : Keep m s (lackSlot X a1) := by
  unfold lackSlot
  repeat' (first
    | (with_reducible assumption)
    | ((try lift_lets -underBinder); intro x; clear_value (e : x = _); clear e)
    | (with_reducible first
        | refine raiseEnd_keep (by assumption) ?_ | refine State_setEntry_keep (by assumption) ?_)
    | split)

theorem skipSuspect_keep (_m0 : m .galley = true) (h : Keep m s X) : Keep m s (skipSuspect X a1) := by
  unfold skipSuspect
  repeat' (first
    | (with_reducible assumption)
    | ((try lift_lets -underBinder); intro x; clear_value (e : x = _); clear e)
    | (with_reducible refine State_setEntry_keep (by assumption) ?_))

theorem unfitAlone_keep (_m0 : m .memory = true) (_m1 : m .galley = true) (_m2 : m .tensors = true) (_m3 : m .regs = true) (_m4 : m .counters = true) (_m5 : m .msix = true) (_m6 : m .events = true) (_m7 : m .outputs = true) (h : Keep m s X) : Keep m s (unfitAlone X a1) := by
  unfold unfitAlone
  repeat' (first
    | (with_reducible first
        | assumption | refine raiseEnd_keep (by assumption) ?_
        | refine startTurn_keep (by assumption) (by assumption) (by assumption) ?_
        | refine count_keep (by assumption) (by assumption) (by assumption) (by assumption) (by assumption) ?_)
    | split)

theorem leftOut_keep (_m0 : m .memory = true) (_m1 : m .galley = true) (_m2 : m .tensors = true) (_m3 : m .regs = true) (_m4 : m .counters = true) (_m5 : m .msix = true) (_m6 : m .events = true) (_m7 : m .outputs = true) (h : Keep m s X) : Keep m s (leftOut X a1 a2) := by
  unfold leftOut
  repeat' (first
    | (with_reducible assumption)
    | ((try lift_lets -underBinder); intro x; clear_value (e : x = _); clear e)
    | (with_reducible first
        | refine lackSlot_keep (by assumption) ?_ | refine raiseEnd_keep (by assumption) ?_
        | refine skipSuspect_keep (by assumption) ?_
        | refine unfitAlone_keep (by assumption) (by assumption) (by assumption) (by assumption) (by assumption) (by assumption) (by assumption) (by assumption) ?_
        | refine State_setEntry_keep (by assumption) ?_)
    | split)

theorem gather_keep (_m0 : m .memory = true) (_m1 : m .galley = true) (_m2 : m .tensors = true) (_m3 : m .regs = true) (_m4 : m .counters = true) (_m5 : m .msix = true) (_m6 : m .events = true) (_m7 : m .outputs = true) (h : KeepFst m s p) : KeepFst m s (gather a0 a1 a2 a3 p) := by
  induction a3 generalizing a0 a1 a2 p with
  | nil =>
    unfold gather
    repeat' (first
      | (with_reducible first | assumption | exact keepFst_pair (by with_reducible assumption))
      | ((try lift_lets -underBinder); intro x; clear_value (e : x = _); clear e)
      | (with_reducible first
          | refine lackSlot_keep (by assumption) ?_
          | refine leftOut_keep (by assumption) (by assumption) (by assumption) (by assumption) (by assumption) (by assumption) (by assumption) (by assumption) ?_)
      | split
      | (with_reducible refine keepFst_mk ?_))
  | cons _ _ ih =>
    unfold gather
    repeat' (first
      | (with_reducible first
          | assumption | refine ih ?_ | exact keepFst_pair (by with_reducible assumption))
      | ((try lift_lets -underBinder); intro x; clear_value (e : x = _); clear e)
      | (with_reducible first
          | refine lackSlot_keep (by assumption) ?_
          | refine leftOut_keep (by assumption) (by assumption) (by assumption) (by assumption) (by assumption) (by assumption) (by assumption) (by assumption) ?_)
      | split
      | (with_reducible refine keepFst_mk ?_))

theorem enterPick_keep (_m0 : m .galley = true) (h : Keep m s X) : Keep m s (enterPick X a1) := by
  unfold enterPick
  repeat' (first
    | (with_reducible assumption)
    | ((try lift_lets -underBinder); intro x; clear_value (e : x = _); clear e)
    | (with_reducible refine State_setEntry_keep (by assumption) ?_))

/-- What a trial batch's state keeps. -/
structure KeepTrial (m : Part → Bool) (s : State) (t : Trial) : Prop where of : ∀ e b, t = .ok e b → Keep m s b.st

theorem keepTrial_of {t : Trial} {e : Nat} {b : Batch} (h : KeepTrial m s t) (w : t = .ok e b) : Keep m s b.st := h.of e b w
theorem keepTrial_noBucket : KeepTrial m s .noBucket := ⟨fun _ _ e => by cases e⟩

theorem openFor_keep {b b' : Batch} (_m0 : m .memory = true) (_m1 : m .galley = true) (h : Keep m s b.st) (e : openFor b n f w = some b') :
    Keep m s b'.st := by
  unfold openFor at e
  extract_lets at e
  split at e
  · cases e
  · rw [Option.map_eq_some_iff] at e
    obtain ⟨p, hp, rfl⟩ := e
    exact (placeReclaim_keep _m0 _m1 h).of p hp

theorem openAll_keep {b : Batch} {ws : List Want} (_m0 : m .memory = true) (_m1 : m .galley = true) (h : Keep m s X)
    (e : openAll X n f ws = some b) : Keep m s b.st := by
  have go : ∀ (ws : List Want) (acc : Option Batch), (∀ b, acc = some b → Keep m s b.st) →
      ∀ b, ws.foldl (fun (acc : Option Batch) w => acc.bind fun b => openFor b n f w) acc = some b → Keep m s b.st := by
    intro ws
    induction ws with
    | nil => exact fun acc ha b hb => ha b hb
    | cons w ws ih =>
      intro acc ha
      refine ih _ fun b' hb' => ?_
      rw [Option.bind_eq_some_iff] at hb'
      obtain ⟨b0, h0, h1⟩ := hb'
      exact openFor_keep _m0 _m1 (ha b0 h0) h1
  exact go ws _ (fun b hb => by cases hb; exact h) b e

theorem findBucket_keep {x : ImpoSlot} {ws : List Want} (_m0 : m .memory = true) (_m1 : m .galley = true) (h : Keep m s X) :
    KeepTrial m s (findBucket X x ws) := by
  unfold findBucket
  have go : ∀ (l : List Nat) (acc : Trial) (f : Trial → Nat → Trial), (∀ t e, KeepTrial m s t → KeepTrial m s (f t e)) →
      KeepTrial m s acc → KeepTrial m s (l.foldl f acc) := by
    intro l
    induction l with
    | nil => exact fun acc f _ ha => ha
    | cons e l ih => exact fun acc f hf ha => ih _ f hf (hf acc e ha)
  refine go _ _ _ (fun t e ht => ?_) keepTrial_noBucket
  split
  · split
    · exact keepTrial_noBucket
    · split
      · exact ⟨fun _ _ e => by cases e⟩
      · next b hb =>
        split
        · split
          · exact ⟨fun _ _ e => by cases e⟩
          · split
            · exact ⟨fun _ _ e => by cases e; exact openAll_keep _m0 _m1 h hb⟩
            · exact ⟨fun _ _ e => by cases e⟩
        · exact keepTrial_noBucket
  · exact ht

theorem pickPart_keep (_m0 : m .memory = true) (_m1 : m .galley = true) (_m2 : m .tensors = true) (_m3 : m .regs = true) (_m4 : m .counters = true) (_m5 : m .msix = true) (_m6 : m .events = true) (_m7 : m .outputs = true) (h : Keep m s X) : KeepFst m s (pickPart X a1) := by
  unfold pickPart
  repeat' (first
    | (with_reducible assumption)
    | ((try lift_lets -underBinder); intro x; clear_value (e : x = _); first | (with_reducible refine keep_let (m := m) (s := s) e ?_ (fun _ => ?_) <;> clear e) | clear e)
    | (with_reducible first
        | refine raiseEnd_keep (by assumption) ?_
        | refine gather_keep (by assumption) (by assumption) (by assumption) (by assumption) (by assumption) (by assumption) (by assumption) (by assumption) ?_
        | refine enterPick_keep (by assumption) ?_
        | refine keepTrial_of ?_ (by with_reducible assumption)
        | refine findBucket_keep (by assumption) (by assumption) ?_ | exact keepTrial_noBucket
        | refine keep_foldl (fun _ _ _ => ?_) ?_
        | refine keepFst_of ?_ (by with_reducible assumption))
    | split
    | (with_reducible refine keepFst_mk ?_))

theorem markNoImposition_keep (_m0 : m .galley = true) (h : Keep m s X) : Keep m s (markNoImposition X) := by
  unfold markNoImposition
  repeat' (first
    | (with_reducible assumption)
    | ((try lift_lets -underBinder); intro x; clear_value (e : x = _); clear e)
    | (with_reducible first
        | refine State_skipEntry_keep (by assumption) ?_ | refine keep_foldl (fun _ _ _ => ?_) ?_)
    | split)

theorem countSkipped_keep (_m0 : m .galley = true) (h : Keep m s X) : Keep m s (countSkipped X) := by
  unfold countSkipped
  repeat' (first
    | (with_reducible assumption)
    | ((try lift_lets -underBinder); intro x; clear_value (e : x = _); clear e)
    | (with_reducible first
        | refine State_setEntry_keep (by assumption) ?_ | refine keep_foldl (fun _ _ _ => ?_) ?_))

theorem adoptSlot_keep (_m0 : m .galley = true) (h : Keep m s X) : Keep m s (adoptSlot a0 a1 X a3) := by
  unfold adoptSlot
  repeat' (first
    | (with_reducible assumption)
    | ((try lift_lets -underBinder); intro x; clear_value (e : x = _); clear e)
    | (with_reducible refine State_setEntry_keep (by assumption) ?_))

theorem adoptPick_keep (_m0 : m .galley = true) (_m1 : m .groups = true) (h : Keep m s X) : KeepFst m s (adoptPick X a1) := by
  unfold adoptPick
  repeat' (first
    | (with_reducible assumption)
    | ((try lift_lets -underBinder); intro x; clear_value (e : x = _); first | (with_reducible refine keep_let (m := m) (s := s) e ?_ (fun _ => ?_) <;> clear e) | clear e)
    | (with_reducible first
        | refine State_setGroup_keep (by assumption) ?_ | refine adoptSlot_keep (by assumption) ?_
        | refine keep_foldl (fun _ _ _ => ?_) ?_)
    | split
    | (with_reducible refine keepFst_mk ?_))

theorem pickStep_keep (_m0 : m .memory = true) (_m1 : m .galley = true) (_m2 : m .tensors = true) (_m3 : m .steps = true) (_m4 : m .groups = true) (_m5 : m .regs = true) (_m6 : m .counters = true) (_m7 : m .msix = true) (_m8 : m .events = true) (_m9 : m .outputs = true) (h : Keep m s X) : Keep m s (pickStep X a1) := by
  unfold pickStep
  repeat' (first
    | (with_reducible first | assumption | exact keepFst_pair (by with_reducible assumption))
    | ((try lift_lets -underBinder); intro x; clear_value (e : x = _); first | (with_reducible refine keep_let (m := m) (s := s) e ?_ (fun _ => ?_) <;> clear e) | clear e)
    | (with_reducible first
        | refine markNoImposition_keep (by assumption) ?_
        | refine pickPart_keep (by assumption) (by assumption) (by assumption) (by assumption) (by assumption) (by assumption) (by assumption) (by assumption) ?_
        | refine adoptPick_keep (by assumption) (by assumption) ?_
        | refine countSkipped_keep (by assumption) ?_ | refine keepFst_foldl (fun _ _ _ => ?_) ?_
        | refine keepFst_of ?_ (by with_reducible assumption))
    | split
    | (with_reducible first | refine keepFst_mk ?_ | refine keep_mk ?_))

end Sys2Proof.Machine
end

