-- ==== Sys2Proof/Laws/KeepClose.lean ====
section
/-!
SUPPORT. What the operations and meanings of Machine/Close.lean keep (`Keep`).
-/
set_option Elab.async false
set_option linter.all false
namespace Sys2Proof.Machine

theorem freeBlock_keep (_m0 : m .memory = true) (h : Keep m s X) : Keep m s (freeBlock X a1 a2) := by
  unfold freeBlock
  repeat' (first
    | (with_reducible assumption)
    | ((try lift_lets -underBinder); intro x; clear_value (e : x = _); clear e)
    | (with_reducible refine scrubFreed_keep (by assumption) ?_))

theorem newNode_keep (_m0 : m .galley = true) (_m1 : m .regs = true) (_m2 : m .counters = true) (_m3 : m .msix = true) (_m4 : m .events = true) (_m5 : m .outputs = true) (h : Keep m s X) : Keep m s (newNode X a1 a2 a3 a4 a5) := by
  unfold newNode
  repeat' (first
    | (with_reducible assumption)
    | ((try lift_lets -underBinder); intro x; clear_value (e : x = _); first | (with_reducible refine keep_let (m := m) (s := s) e ?_ (fun _ => ?_) <;> clear e) | clear e)
    | (with_reducible first
        | refine State_setEntry_keep (by assumption) ?_
        | refine State_setTree_keep (by assumption) ?_
        | refine count_keep (by assumption) (by assumption) (by assumption) (by assumption) (by assumption) ?_))

theorem roomFor_keep (_m0 : m .memory = true) (_m1 : m .galley = true) (h : Keep m s X) : KeepOptSnd m s (roomFor X a1) := by
  unfold roomFor
  repeat' (first
    | (with_reducible first
        | assumption | refine freeNodeAt_keep (by assumption) (by assumption) ?_
        | refine keepOptSnd_map (fun _ => ?_) | refine keepOptSnd_some ?_)
    | split
    | (with_reducible refine keepSnd_mk ?_))

theorem offerBlock_keep (_m0 : m .memory = true) (_m1 : m .galley = true) (_m2 : m .regs = true) (_m3 : m .counters = true) (_m4 : m .msix = true) (_m5 : m .events = true) (_m6 : m .outputs = true) (h : KeepFst m s p) : KeepFst m s (offerBlock p a1 a2) := by
  unfold offerBlock
  repeat' (first
    | (with_reducible first | assumption | exact keepFst_pair (by with_reducible assumption))
    | ((try lift_lets -underBinder); intro x; clear_value (e : x = _); first | (with_reducible refine keep_let (m := m) (s := s) e ?_ (fun _ => ?_) <;> clear e) | clear e)
    | (with_reducible first
        | refine countCollisions_keep (by assumption) (by assumption) (by assumption) (by assumption) (by assumption) ?_
        | refine refNode_keep (by assumption) ?_ | refine freeBlock_keep (by assumption) ?_
        | refine State_setEntry_keep (by assumption) ?_
        | refine roomFor_keep (by assumption) (by assumption) ?_
        | refine newNode_keep (by assumption) (by assumption) (by assumption) (by assumption) (by assumption) (by assumption) ?_
        | refine keepOptSnd_of ?_ (by with_reducible assumption))
    | split
    | (with_reducible refine keepFst_mk ?_))

theorem offerBlocks_keep (_m0 : m .memory = true) (_m1 : m .galley = true) (_m2 : m .regs = true) (_m3 : m .counters = true) (_m4 : m .msix = true) (_m5 : m .events = true) (_m6 : m .outputs = true) (h : KeepFst m s p) : KeepFst m s (offerBlocks p a1 a2) := by
  unfold offerBlocks
  repeat' (with_reducible first
      | assumption
      | refine offerBlock_keep (by assumption) (by assumption) (by assumption) (by assumption) (by assumption) (by assumption) (by assumption) ?_
      | refine keepFst_foldl (fun _ _ _ => ?_) ?_)

theorem dropStale_keep (_m0 : m .memory = true) (_m1 : m .galley = true) (h : Keep m s X) : Keep m s (dropStale X a1) := by
  unfold dropStale
  repeat' (first
    | (with_reducible assumption)
    | ((try lift_lets -underBinder); intro x; clear_value (e : x = _); clear e)
    | (with_reducible first
        | refine scrubFreed_keep (by assumption) ?_ | refine State_setEntry_keep (by assumption) ?_))

theorem settleSlot_keep (_m0 : m .memory = true) (_m1 : m .galley = true) (_m2 : m .regs = true) (_m3 : m .counters = true) (_m4 : m .msix = true) (_m5 : m .events = true) (_m6 : m .outputs = true) (h : KeepFst m s p) : KeepFst m s (settleSlot p a1) := by
  unfold settleSlot
  repeat' (first
    | (with_reducible first | assumption | exact keepFst_pair (by with_reducible assumption))
    | ((try lift_lets -underBinder); intro x; clear_value (e : x = _); first | (with_reducible refine keep_let (m := m) (s := s) e ?_ (fun _ => ?_) <;> clear e) | clear e)
    | (with_reducible first
        | refine dropStale_keep (by assumption) (by assumption) ?_
        | refine State_setEntry_keep (by assumption) ?_
        | refine offerBlocks_keep (by assumption) (by assumption) (by assumption) (by assumption) (by assumption) (by assumption) (by assumption) ?_
        | refine count_keep (by assumption) (by assumption) (by assumption) (by assumption) (by assumption) ?_
        | refine keepFst_of ?_ (by with_reducible assumption))
    | split
    | (with_reducible refine keepFst_mk ?_))

theorem settlePick_keep (_m0 : m .memory = true) (_m1 : m .galley = true) (_m2 : m .impos = true) (_m3 : m .regs = true) (_m4 : m .counters = true) (_m5 : m .msix = true) (_m6 : m .events = true) (_m7 : m .outputs = true) (h : KeepFst m s p) : KeepFst m s (settlePick p a1) := by
  unfold settlePick
  repeat' (first
    | (with_reducible first | assumption | exact keepFst_pair (by with_reducible assumption))
    | ((try lift_lets -underBinder); intro x; clear_value (e : x = _); first | (with_reducible refine keep_let (m := m) (s := s) e ?_ (fun _ => ?_) <;> clear e) | clear e)
    | (with_reducible first
        | refine settleSlot_keep (by assumption) (by assumption) (by assumption) (by assumption) (by assumption) (by assumption) (by assumption) ?_
        | refine markSuspect_keep (by assumption) (by assumption) (by assumption) (by assumption) (by assumption) (by assumption) ?_
        | refine keepFst_foldl (fun _ _ _ => ?_) ?_
        | refine keepFst_of ?_ (by with_reducible assumption))
    | split
    | (with_reducible refine keepFst_mk ?_))

theorem settleStep_keep (_m0 : m .memory = true) (_m1 : m .galley = true) (_m2 : m .impos = true) (_m3 : m .regs = true) (_m4 : m .counters = true) (_m5 : m .msix = true) (_m6 : m .events = true) (_m7 : m .outputs = true) (h : Keep m s X) : KeepFst m s (settleStep X) := by
  unfold settleStep
  repeat' (first
    | (with_reducible assumption)
    | ((try lift_lets -underBinder); intro x; clear_value (e : x = _); (with_reducible refine keep_let (m := m) (s := s) e ?_ (fun _ => ?_) <;> clear e))
    | (with_reducible first
        | refine settlePick_keep (by assumption) (by assumption) (by assumption) (by assumption) (by assumption) (by assumption) (by assumption) (by assumption) ?_
        | refine raiseEvent_keep (by assumption) (by assumption) (by assumption) (by assumption) ?_
        | refine setCause_keep (by assumption) (by assumption) (by assumption) ?_
        | refine keepFst_foldl (fun _ _ _ => ?_) ?_
        | refine keepFst_of ?_ (by with_reducible assumption))
    | split
    | (with_reducible refine keepFst_mk ?_))

theorem mirrorRows_keep (_m0 : m .links = true) (_m1 : m .twins = true) (_m2 : m .regs = true) (_m3 : m .counters = true) (_m4 : m .msix = true) (_m5 : m .events = true) (_m6 : m .outputs = true) (h : Keep m s X) : Keep m s (mirrorRows X a1) := by
  unfold mirrorRows
  repeat' (first
    | (with_reducible assumption)
    | ((try lift_lets -underBinder); intro x; clear_value (e : x = _); clear e)
    | (with_reducible first
        | refine sendMirror_keep (by assumption) (by assumption) (by assumption) (by assumption) (by assumption) (by assumption) ?_
        | refine keep_foldl (fun _ _ _ => ?_) ?_
        | refine keepSnd_of ?_ (by with_reducible assumption))
    | split
    | (with_reducible refine keep_mk ?_))

theorem mirrorStep_keep (_m0 : m .links = true) (_m1 : m .twins = true) (_m2 : m .regs = true) (_m3 : m .counters = true) (_m4 : m .msix = true) (_m5 : m .events = true) (_m6 : m .outputs = true) (h : Keep m s X) : Keep m s (mirrorStep X) := by
  unfold mirrorStep
  repeat' (first
    | (with_reducible assumption)
    | ((try lift_lets -underBinder); intro x; clear_value (e : x = _); first | (with_reducible refine keep_let (m := m) (s := s) e ?_ (fun _ => ?_) <;> clear e) | clear e)
    | (with_reducible first
        | refine mirrorRows_keep (by assumption) (by assumption) (by assumption) (by assumption) (by assumption) (by assumption) (by assumption) ?_
        | refine sendMirror_keep (by assumption) (by assumption) (by assumption) (by assumption) (by assumption) (by assumption) ?_
        | refine keep_foldl (fun _ _ _ => ?_) ?_
        | refine keepSnd_of ?_ (by with_reducible assumption))
    | split
    | (with_reducible refine keep_mk ?_))

theorem holdRecord_keep (_m0 : m .hosts = true) (_m1 : m .regs = true) (_m2 : m .counters = true) (_m3 : m .msix = true) (_m4 : m .events = true) (_m5 : m .waits = true) (_m6 : m .free = true) (_m7 : m .outputs = true) (h : Keep m s X) : Keep m s (holdRecord X a1 a2) := by
  unfold holdRecord
  repeat' (first
    | (with_reducible assumption)
    | ((try lift_lets -underBinder); intro x; clear_value (e : x = _); first | (with_reducible refine keep_let (m := m) (s := s) e ?_ (fun _ => ?_) <;> clear e) | clear e)
    | (with_reducible first
        | refine count_keep (by assumption) (by assumption) (by assumption) (by assumption) (by assumption) ?_
        | refine putFld_keep (by assumption) ?_ | refine putBit_keep (by assumption) ?_
        | refine setCause_keep (by assumption) (by assumption) (by assumption) ?_
        | refine beginPartReset_keep (by assumption) (by assumption) (by assumption) (by assumption) (by assumption) (by assumption) (by assumption) (by assumption) ?_
        | refine raiseEvent_keep (by assumption) (by assumption) (by assumption) (by assumption) ?_
        | refine capture_keep (by assumption) (by assumption) (by assumption) (by assumption) ?_)
    | split)

theorem makeRecord_keep (_m0 : m .galley = true) (_m1 : m .hosts = true) (_m2 : m .commands = true) (_m3 : m .regs = true) (_m4 : m .counters = true) (_m5 : m .msix = true) (_m6 : m .events = true) (_m7 : m .waits = true) (_m8 : m .free = true) (_m9 : m .outputs = true) (h : Keep m s X) : Keep m s (makeRecord X a1 a2 a3 a4) := by
  unfold makeRecord
  repeat' (first
    | (with_reducible assumption)
    | ((try lift_lets -underBinder); intro x; clear_value (e : x = _); first | (with_reducible refine keep_let (m := m) (s := s) e ?_ (fun _ => ?_) <;> clear e) | clear e)
    | (with_reducible first
        | refine State_setEntry_keep (by assumption) ?_
        | refine count_keep (by assumption) (by assumption) (by assumption) (by assumption) (by assumption) ?_
        | refine holdRecord_keep (by assumption) (by assumption) (by assumption) (by assumption) (by assumption) (by assumption) (by assumption) (by assumption) ?_
        | refine keep_foldl (fun _ _ _ => ?_) ?_)
    | split
    | (with_reducible refine keep_mk ?_))

theorem makeRecords_keep (_m0 : m .galley = true) (_m1 : m .hosts = true) (_m2 : m .commands = true) (_m3 : m .regs = true) (_m4 : m .counters = true) (_m5 : m .msix = true) (_m6 : m .events = true) (_m7 : m .waits = true) (_m8 : m .free = true) (_m9 : m .outputs = true) (h : Keep m s X) : Keep m s (makeRecords X a1 a2 a3) := by
  unfold makeRecords
  repeat' (first
    | (with_reducible assumption)
    | ((try lift_lets -underBinder); intro x; clear_value (e : x = _); clear e)
    | (with_reducible first
        | refine makeRecord_keep (by assumption) (by assumption) (by assumption) (by assumption) (by assumption) (by assumption) (by assumption) (by assumption) (by assumption) (by assumption) ?_
        | refine keep_foldl (fun _ _ _ => ?_) ?_)
    | split
    | (with_reducible refine keep_mk ?_))

end Sys2Proof.Machine
end

