-- ==== Sys2Proof/Laws/KeepMapout.lean ====
section
/-!
SUPPORT. What the operations and meanings of Machine/Mapout.lean keep (`Keep`).
-/
set_option Elab.async false
set_option linter.all false
namespace Sys2Proof.Machine

theorem chCapture_keep (_m0 : m .regs = true) (_m1 : m .msix = true) (_m2 : m .events = true) (_m3 : m .outputs = true) (h : Keep m s X) : Keep m s (chCapture X a1 a2 a3) := by
  unfold chCapture
  repeat' (first
    | (with_reducible assumption)
    | ((try lift_lets -underBinder); intro x; clear_value (e : x = _); clear e)
    | (with_reducible refine capture_keep (by assumption) (by assumption) (by assumption) (by assumption) ?_))

theorem tensorDamaged_keep (_m0 : m .galley = true) (_m1 : m .tensors = true) (_m2 : m .moves = true) (_m3 : m .impos = true) (_m4 : m .steps = true) (_m5 : m .groups = true) (_m6 : m .dies = true) (_m7 : m .links = true) (_m8 : m .hosts = true) (_m9 : m .units = true) (_m10 : m .sources = true) (_m11 : m .regs = true) (_m12 : m .counters = true) (_m13 : m .msix = true) (_m14 : m .events = true) (_m15 : m .free = true) (_m16 : m .outputs = true) (h : Keep m s X) : Keep m s (tensorDamaged X a1) := by
  unfold tensorDamaged
  repeat' (first
    | (with_reducible assumption)
    | ((try lift_lets -underBinder); intro x; clear_value (e : x = _); first | (with_reducible refine keep_let (m := m) (s := s) e ?_ (fun _ => ?_) <;> clear e) | clear e)
    | (with_reducible first
        | refine State_setTensor_keep (by assumption) ?_
        | refine abandonWith_keep (by assumption) (by assumption) (by assumption) (by assumption) (by assumption) (by assumption) (by assumption) (by assumption) (by assumption) (by assumption) (by assumption) (by assumption) ?_
        | refine addMove_keep (by assumption) (by assumption) (by assumption) (by assumption) (by assumption) (by assumption) (by assumption) (by assumption) (by assumption) ?_)
    | split
    | (with_reducible refine keep_mk ?_))

theorem requestLost_keep (_m0 : m .galley = true) (_m1 : m .regs = true) (h : Keep m s X) : KeepFst m s (requestLost X a1 a2) := by
  unfold requestLost
  repeat' (first
    | (with_reducible assumption)
    | ((try lift_lets -underBinder); intro x; clear_value (e : x = _); clear e)
    | (with_reducible first
        | refine putFld_keep (by assumption) ?_ | refine State_skipEntry_keep (by assumption) ?_
        | refine raiseEnd_keep (by assumption) ?_)
    | split
    | (with_reducible refine keepFst_mk ?_))

theorem nodesLost_keep (_m0 : m .memory = true) (_m1 : m .galley = true) (h : Keep m s X) : Keep m s (nodesLost X a1) := by
  unfold nodesLost
  repeat' (first
    | (with_reducible assumption)
    | ((try lift_lets -underBinder); intro x; clear_value (e : x = _); clear e)
    | (with_reducible first
        | refine freeNodeAt_keep (by assumption) (by assumption) ?_
        | refine State_setTree_keep (by assumption) ?_ | refine keep_foldl (fun _ _ _ => ?_) ?_)
    | split)

theorem exposeQuires_keep (_m0 : m .regs = true) (h : Keep m s X) : Keep m s (exposeQuires X a1) := by
  unfold exposeQuires
  repeat' (first
    | (with_reducible assumption)
    | ((try lift_lets -underBinder); intro x; clear_value (e : x = _); clear e)
    | (with_reducible refine putFld_keep (by assumption) ?_))

theorem contentsLost_keep (_m0 : m .memory = true) (_m1 : m .galley = true) (_m2 : m .tensors = true) (_m3 : m .moves = true) (_m4 : m .impos = true) (_m5 : m .steps = true) (_m6 : m .groups = true) (_m7 : m .dies = true) (_m8 : m .links = true) (_m9 : m .hosts = true) (_m10 : m .twins = true) (_m11 : m .units = true) (_m12 : m .sources = true) (_m13 : m .regs = true) (_m14 : m .counters = true) (_m15 : m .msix = true) (_m16 : m .events = true) (_m17 : m .free = true) (_m18 : m .outputs = true) (h : Keep m s X) : Keep m s (contentsLost X a1) := by
  unfold contentsLost
  repeat' (first
    | (with_reducible first | assumption | exact keepFst_pair (by with_reducible assumption))
    | ((try lift_lets -underBinder); intro x; clear_value (e : x = _); first | (with_reducible refine keep_let (m := m) (s := s) e ?_ (fun _ => ?_) <;> clear e) | clear e)
    | (with_reducible first
        | refine tensorDamaged_keep (by assumption) (by assumption) (by assumption) (by assumption) (by assumption) (by assumption) (by assumption) (by assumption) (by assumption) (by assumption) (by assumption) (by assumption) (by assumption) (by assumption) (by assumption) (by assumption) (by assumption) ?_
        | refine requestLost_keep (by assumption) (by assumption) ?_
        | refine nodesLost_keep (by assumption) (by assumption) ?_
        | refine exposeQuires_keep (by assumption) ?_
        | refine refuseMirror_keep (by assumption) (by assumption) (by assumption) (by assumption) (by assumption) (by assumption) (by assumption) (by assumption) ?_
        | refine keep_foldl (fun _ _ _ => ?_) ?_ | refine keepFst_foldl (fun _ _ _ => ?_) ?_
        | refine keepFst_of ?_ (by with_reducible assumption))
    | split
    | (with_reducible first | refine keepFst_mk ?_ | refine keep_mk ?_))

theorem beginMapout_keep (_m0 : m .memory = true) (_m1 : m .galley = true) (_m2 : m .tensors = true) (_m3 : m .moves = true) (_m4 : m .impos = true) (_m5 : m .steps = true) (_m6 : m .groups = true) (_m7 : m .dies = true) (_m8 : m .links = true) (_m9 : m .hosts = true) (_m10 : m .twins = true) (_m11 : m .units = true) (_m12 : m .sources = true) (_m13 : m .regs = true) (_m14 : m .counters = true) (_m15 : m .msix = true) (_m16 : m .events = true) (_m17 : m .free = true) (_m18 : m .outputs = true) (h : Keep m s X) : Keep m s (beginMapout X a1 a2 a3 a4 a5 a6 a7) := by
  unfold beginMapout
  repeat' (first
    | (with_reducible assumption)
    | ((try lift_lets -underBinder); intro x; clear_value (e : x = _); first | (with_reducible refine keep_let (m := m) (s := s) e ?_ (fun _ => ?_) <;> clear e) | clear e)
    | (with_reducible first
        | refine putFld_keep (by assumption) ?_
        | refine raiseEvent_keep (by assumption) (by assumption) (by assumption) (by assumption) ?_
        | refine contentsLost_keep (by assumption) (by assumption) (by assumption) (by assumption) (by assumption) (by assumption) (by assumption) (by assumption) (by assumption) (by assumption) (by assumption) (by assumption) (by assumption) (by assumption) (by assumption) (by assumption) (by assumption) (by assumption) (by assumption) ?_
        | refine State_skipEntry_keep (by assumption) ?_ | refine keep_foldl (fun _ _ _ => ?_) ?_)
    | split
    | (with_reducible refine keep_mk ?_))

theorem copySectors_keep (_m0 : m .memory = true) (_m1 : m .units = true) (h : Keep m s X) : Keep m s (copySectors X a1 a2 a3) := by
  unfold copySectors
  repeat' (first
    | (with_reducible assumption)
    | ((try lift_lets -underBinder); intro x; clear_value (e : x = _); clear e)
    | (with_reducible first
        | refine setPoison_keep (by assumption) ?_
        | refine dataWrite_keep (by assumption) (by assumption) ?_
        | refine keep_foldl (fun _ _ _ => ?_) ?_))

theorem copyGroup_keep (_m0 : m .memory = true) (_m1 : m .units = true) (h : Keep m s X) : Keep m s (copyGroup X a1 a2 a3) := by
  unfold copyGroup
  repeat' (with_reducible first
      | assumption | refine copySectors_keep (by assumption) (by assumption) ?_
      | refine keep_foldl (fun _ _ _ => ?_) ?_)

theorem switchExtentNow_keep (_m0 : m .memory = true) (_m1 : m .tensors = true) (_m2 : m .steps = true) (h : Keep m s X) : Keep m s (switchExtentNow X a1 a2 a3) := by
  unfold switchExtentNow
  repeat' (first
    | (with_reducible assumption)
    | ((try lift_lets -underBinder); intro x; clear_value (e : x = _); first | (with_reducible refine keep_let (m := m) (s := s) e ?_ (fun _ => ?_) <;> clear e) | clear e)
    | (with_reducible first
        | refine setPoison_keep (by assumption) ?_
        | refine clearExtentPoison_keep (by assumption) ?_
        | refine putExtent_keep (by assumption) ?_ | refine scrubFreed_keep (by assumption) ?_
        | refine State_setTensor_keep (by assumption) ?_
        | refine tensorWhole_keep (by assumption) (by assumption) ?_
        | refine keep_foldl (fun _ _ _ => ?_) ?_)
    | split)

theorem switchGroupsNow_keep (_m0 : m .memory = true) (_m1 : m .galley = true) (_m2 : m .units = true) (h : Keep m s X) : Keep m s (switchGroupsNow X a1 a2 a3) := by
  unfold switchGroupsNow
  repeat' (first
    | (with_reducible assumption)
    | ((try lift_lets -underBinder); intro x; clear_value (e : x = _); first | (with_reducible refine keep_let (m := m) (s := s) e ?_ (fun _ => ?_) <;> clear e) | (have _ := fun a => x a; subst e; try dsimp -zeta only) | clear e)
    | (with_reducible first
        | refine copyGroup_keep (by assumption) (by assumption) ?_
        | refine State_setEntry_keep (by assumption) ?_ | refine scrubFreed_keep (by assumption) ?_
        | refine keep_foldl (fun _ _ _ => ?_) ?_)
    | split)

theorem switchNodeNow_keep (_m0 : m .memory = true) (_m1 : m .galley = true) (_m2 : m .units = true) (h : Keep m s X) : Keep m s (switchNodeNow X a1 a2 a3) := by
  unfold switchNodeNow
  repeat' (first
    | (with_reducible assumption)
    | ((try lift_lets -underBinder); intro x; clear_value (e : x = _); first | (with_reducible refine keep_let (m := m) (s := s) e ?_ (fun _ => ?_) <;> clear e) | (have _ := fun a => x a; subst e; try dsimp -zeta only) | clear e)
    | (with_reducible first
        | refine copyGroup_keep (by assumption) (by assumption) ?_
        | refine State_setTree_keep (by assumption) ?_
        | refine State_setEntry_keep (by assumption) ?_ | refine scrubFreed_keep (by assumption) ?_
        | refine keep_foldl (fun _ _ _ => ?_) ?_)
    | split)

theorem switchMirrorNow_keep (_m0 : m .memory = true) (_m1 : m .twins = true) (_m2 : m .units = true) (h : Keep m s X) : Keep m s (switchMirrorNow X a1 a2) := by
  unfold switchMirrorNow
  repeat' (first
    | (with_reducible assumption)
    | ((try lift_lets -underBinder); intro x; clear_value (e : x = _); first | (with_reducible refine keep_let (m := m) (s := s) e ?_ (fun _ => ?_) <;> clear e) | (have _ := fun a => x a; subst e; try dsimp -zeta only))
    | (with_reducible first
        | refine copyGroup_keep (by assumption) (by assumption) ?_
        | refine scrubFreed_keep (by assumption) ?_ | refine keep_foldl (fun _ _ _ => ?_) ?_)
    | split
    | (with_reducible refine keep_mk ?_))

theorem parityMoveNow_keep (_m0 : m .memory = true) (_m1 : m .units = true) (_m2 : m .regs = true) (h : Keep m s X) : Keep m s (parityMoveNow X a1 a2 a3) := by
  unfold parityMoveNow
  repeat' (first
    | (with_reducible assumption)
    | ((try lift_lets -underBinder); intro x; clear_value (e : x = _); first | (with_reducible refine keep_let (m := m) (s := s) e ?_ (fun _ => ?_) <;> clear e) | clear e)
    | (with_reducible first
        | refine fullWrite_keep (by assumption) ?_ | refine putFld_keep (by assumption) ?_)
    | split
    | (with_reducible refine keep_mk ?_))

theorem finishMapout_keep (_m0 : m .nvs = true) (_m1 : m .units = true) (_m2 : m .regs = true) (_m3 : m .msix = true) (_m4 : m .events = true) (_m5 : m .outputs = true) (h : Keep m s X) : Keep m s (finishMapout X a1) := by
  unfold finishMapout
  repeat' (first
    | (with_reducible assumption)
    | ((try lift_lets -underBinder); intro x; clear_value (e : x = _); first | (with_reducible refine keep_let (m := m) (s := s) e ?_ (fun _ => ?_) <;> clear e) | clear e)
    | (with_reducible first
        | refine exposeQuires_keep (by assumption) ?_
        | refine setCause_keep (by assumption) (by assumption) (by assumption) ?_
        | refine putFld_keep (by assumption) ?_
        | refine channelFallow_keep (by assumption) (by assumption) ?_
        | refine pairFallow_keep (by assumption) (by assumption) ?_
        | refine raiseEvent_keep (by assumption) (by assumption) (by assumption) (by assumption) ?_)
    | split
    | (with_reducible refine keep_mk ?_))

theorem restoredRequests_keep (_m0 : m .galley = true) (h : Keep m s X) : Keep m s (restoredRequests X) := by
  unfold restoredRequests
  repeat' (first
    | (with_reducible assumption)
    | ((try lift_lets -underBinder); intro x; clear_value (e : x = _); clear e)
    | (with_reducible first
        | refine State_skipEntry_keep (by assumption) ?_ | refine keep_foldl (fun _ _ _ => ?_) ?_)
    | split)

theorem finishMapouts_keep (_m0 : m .galley = true) (_m1 : m .nvs = true) (_m2 : m .units = true) (_m3 : m .regs = true) (_m4 : m .msix = true) (_m5 : m .events = true) (_m6 : m .outputs = true) (h : Keep m s X) : Keep m s (finishMapouts X) := by
  unfold finishMapouts
  repeat' (with_reducible first
      | assumption | refine restoredRequests_keep (by assumption) ?_
      | refine finishMapout_keep (by assumption) (by assumption) (by assumption) (by assumption) (by assumption) (by assumption) ?_
      | refine keep_foldl (fun _ _ _ => ?_) ?_)

theorem poisonedRequest_keep (_m0 : m .galley = true) (h : Keep m s X) : Keep m s (poisonedRequest X a1 a2) := by
  unfold poisonedRequest
  repeat' (first
    | (with_reducible first
        | assumption | refine State_skipEntry_keep (by assumption) ?_
        | refine raiseEnd_keep (by assumption) ?_)
    | split)

theorem poisonedAccess_keep (_m0 : m .galley = true) (_m1 : m .tensors = true) (_m2 : m .moves = true) (_m3 : m .impos = true) (_m4 : m .steps = true) (_m5 : m .groups = true) (_m6 : m .dies = true) (_m7 : m .links = true) (_m8 : m .hosts = true) (_m9 : m .units = true) (_m10 : m .sources = true) (_m11 : m .regs = true) (_m12 : m .counters = true) (_m13 : m .msix = true) (_m14 : m .events = true) (_m15 : m .free = true) (_m16 : m .outputs = true) (h : Keep m s X) : Keep m s (poisonedAccess X a1) := by
  unfold poisonedAccess
  repeat' (first
    | (with_reducible first
        | assumption | refine raiseEnd_keep (by assumption) ?_
        | refine tensorDamaged_keep (by assumption) (by assumption) (by assumption) (by assumption) (by assumption) (by assumption) (by assumption) (by assumption) (by assumption) (by assumption) (by assumption) (by assumption) (by assumption) (by assumption) (by assumption) (by assumption) (by assumption) ?_)
    | split)

end Sys2Proof.Machine
end

