-- ==== Sys2Proof/Laws/KeepStartOps.lean ====
section
/-!
SUPPORT. What the operations and meanings of Machine/StartOps.lean keep (`Keep`).
-/
set_option Elab.async false
set_option linter.all false
namespace Sys2Proof.Machine

theorem refreshRails_keep (_m0 : m .regs = true) (h : Keep m s X) : Keep m s (refreshRails X a1 a2) := by
  unfold refreshRails
  repeat' (first
    | (with_reducible assumption)
    | ((try lift_lets -underBinder); intro x; clear_value (e : x = _); clear e)
    | (with_reducible refine setReg_keep (by assumption) ?_))

theorem railAlert_keep (_m0 : m .regs = true) (_m1 : m .msix = true) (_m2 : m .outputs = true) (h : Keep m s X) : Keep m s (railAlert X a1) := by
  unfold railAlert
  repeat' (with_reducible first
      | assumption | refine setCause_keep (by assumption) (by assumption) (by assumption) ?_)

theorem enterStep_keep (_m0 : m .halves = true) (h : Keep m s X) : Keep m s (enterStep X a1 a2) := by
  unfold enterStep
  repeat' (first
    | (with_reducible assumption)
    | ((try lift_lets -underBinder); intro x; clear_value (e : x = _); clear e)
    | (with_reducible refine State_setHalf_keep (by assumption) ?_))

theorem trainPort_keep (_m0 : m .ports = true) (_m1 : m .links = true) (_m2 : m .regs = true) (h : Keep m s X) : Keep m s (trainPort X a1 a2) := by
  unfold trainPort
  repeat' (first
    | (with_reducible assumption)
    | ((try lift_lets -underBinder); intro x; clear_value (e : x = _); clear e)
    | (with_reducible first
        | refine State_setPort_keep (by assumption) (by assumption) ?_
        | refine State_setLink_keep (by assumption) ?_))

theorem portEight_keep (_m0 : m .nvs = true) (_m1 : m .ports = true) (_m2 : m .links = true) (_m3 : m .regs = true) (h : Keep m s X) : Keep m s (portEight a0 X a2) := by
  unfold portEight
  repeat' (first
    | (with_reducible assumption)
    | ((try lift_lets -underBinder); intro x; clear_value (e : x = _); first | (with_reducible refine keep_let (m := m) (s := s) e ?_ (fun _ => ?_) <;> clear e) | clear e)
    | (with_reducible first
        | refine State_setPort_keep (by assumption) (by assumption) ?_
        | refine putBit_keep (by assumption) ?_
        | refine ledgerWrite_keep (by assumption) (by assumption) ?_
        | refine trainPort_keep (by assumption) (by assumption) (by assumption) ?_)
    | split)

theorem portNine_keep (_m0 : m .halves = true) (_m1 : m .nvs = true) (_m2 : m .ports = true) (_m3 : m .regs = true) (h : Keep m s X) : Keep m s (portNine a0 X a2) := by
  unfold portNine
  repeat' (first
    | (with_reducible assumption)
    | ((try lift_lets -underBinder); intro x; clear_value (e : x = _); first | (with_reducible refine keep_let (m := m) (s := s) e ?_ (fun _ => ?_) <;> clear e) | clear e)
    | (with_reducible first
        | refine State_setPort_keep (by assumption) (by assumption) ?_
        | refine State_setHalf_keep (by assumption) ?_
        | refine ledgerWrite_keep (by assumption) (by assumption) ?_)
    | split)

theorem enterNine_keep (_m0 : m .halves = true) (_m1 : m .nvs = true) (_m2 : m .ports = true) (_m3 : m .regs = true) (h : Keep m s X) : Keep m s (enterNine X a1) := by
  unfold enterNine
  repeat' (first
    | (with_reducible assumption)
    | ((try lift_lets -underBinder); intro x; clear_value (e : x = _); (with_reducible refine keep_let (m := m) (s := s) e ?_ (fun _ => ?_) <;> clear e))
    | (with_reducible first
        | refine portNine_keep (by assumption) (by assumption) (by assumption) (by assumption) ?_
        | refine enterStep_keep (by assumption) ?_ | refine keep_foldl (fun _ _ _ => ?_) ?_)
    | split)

theorem enterEight_keep (_m0 : m .halves = true) (_m1 : m .nvs = true) (_m2 : m .ports = true) (_m3 : m .links = true) (_m4 : m .regs = true) (h : Keep m s X) : Keep m s (enterEight X a1) := by
  unfold enterEight
  repeat' (first
    | (with_reducible assumption)
    | ((try lift_lets -underBinder); intro x; clear_value (e : x = _); (with_reducible refine keep_let (m := m) (s := s) e ?_ (fun _ => ?_) <;> clear e))
    | (with_reducible first
        | refine portEight_keep (by assumption) (by assumption) (by assumption) (by assumption) ?_
        | refine enterStep_keep (by assumption) ?_
        | refine enterNine_keep (by assumption) (by assumption) (by assumption) (by assumption) ?_
        | refine keep_foldl (fun _ _ _ => ?_) ?_)
    | split)

theorem leaveStep_keep (_m0 : m .halves = true) (_m1 : m .nvs = true) (_m2 : m .ports = true) (_m3 : m .links = true) (_m4 : m .regs = true) (h : Keep m s X) : Keep m s (leaveStep X a1) := by
  unfold leaveStep
  repeat' (first
    | (with_reducible assumption)
    | ((try lift_lets -underBinder); intro x; clear_value (e : x = _); clear e)
    | (with_reducible first
        | refine enterEight_keep (by assumption) (by assumption) (by assumption) (by assumption) (by assumption) ?_
        | refine enterNine_keep (by assumption) (by assumption) (by assumption) (by assumption) ?_
        | refine enterStep_keep (by assumption) ?_)
    | split)

theorem takeTime_keep (_m0 : m .halves = true) (_m1 : m .nvs = true) (_m2 : m .regs = true) (h : Keep m s X) : Keep m s (takeTime X a1) := by
  unfold takeTime
  repeat' (first
    | (with_reducible first
        | assumption | refine enterStep_keep (by assumption) ?_
        | refine ledgerWrite_keep (by assumption) (by assumption) ?_)
    | split)

theorem doneInstance_keep (_m0 : m .halves = true) (_m1 : m .nvs = true) (_m2 : m .ports = true) (_m3 : m .links = true) (_m4 : m .regs = true) (h : Keep m s X) : Keep m s (doneInstance X a1 a2) := by
  unfold doneInstance
  repeat' (first
    | (with_reducible assumption)
    | ((try lift_lets -underBinder); intro x; clear_value (e : x = _); first | (with_reducible refine keep_let (m := m) (s := s) e ?_ (fun _ => ?_) <;> clear e) | clear e)
    | (with_reducible first
        | refine State_setHalf_keep (by assumption) ?_
        | refine takeTime_keep (by assumption) (by assumption) (by assumption) ?_
        | refine leaveStep_keep (by assumption) (by assumption) (by assumption) (by assumption) (by assumption) ?_)
    | split)

theorem withoutDie_keep (_m0 : m .halves = true) (_m1 : m .nvs = true) (_m2 : m .ports = true) (_m3 : m .links = true) (_m4 : m .regs = true) (h : Keep m s X) : Keep m s (withoutDie X a1) := by
  unfold withoutDie
  repeat' (first
    | (with_reducible assumption)
    | ((try lift_lets -underBinder); intro x; clear_value (e : x = _); clear e)
    | (with_reducible first
        | refine takeTime_keep (by assumption) (by assumption) (by assumption) ?_
        | refine leaveStep_keep (by assumption) (by assumption) (by assumption) (by assumption) (by assumption) ?_)
    | split)

theorem failStart_keep (_m0 : m .galley = true) (_m1 : m .impos = true) (_m2 : m .steps = true) (_m3 : m .groups = true) (_m4 : m .halves = true) (_m5 : m .links = true) (_m6 : m .twins = true) (_m7 : m .units = true) (_m8 : m .regs = true) (_m9 : m .counters = true) (_m10 : m .msix = true) (_m11 : m .events = true) (_m12 : m .free = true) (_m13 : m .outputs = true) (h : Keep m s X) : Keep m s (failStart X a1 a2) := by
  unfold failStart
  repeat' (first
    | (with_reducible assumption)
    | ((try lift_lets -underBinder); intro x; clear_value (e : x = _); first | (with_reducible refine keep_let (m := m) (s := s) e ?_ (fun _ => ?_) <;> clear e) | clear e)
    | (with_reducible first
        | refine State_setHalf_keep (by assumption) ?_
        | refine failStop_keep (by assumption) (by assumption) (by assumption) (by assumption) (by assumption) (by assumption) (by assumption) (by assumption) (by assumption) (by assumption) (by assumption) (by assumption) (by assumption) ?_)
    | split)

theorem endStep_keep (_m0 : m .galley = true) (_m1 : m .impos = true) (_m2 : m .steps = true) (_m3 : m .groups = true) (_m4 : m .halves = true) (_m5 : m .nvs = true) (_m6 : m .ports = true) (_m7 : m .links = true) (_m8 : m .twins = true) (_m9 : m .units = true) (_m10 : m .regs = true) (_m11 : m .counters = true) (_m12 : m .msix = true) (_m13 : m .events = true) (_m14 : m .free = true) (_m15 : m .outputs = true) (h : Keep m s X) : Keep m s (endStep X a1 a2 a3 a4 a5 a6) := by
  unfold endStep
  repeat' (first
    | (with_reducible assumption)
    | ((try lift_lets -underBinder); intro x; clear_value (e : x = _); (with_reducible refine keep_let (m := m) (s := s) e ?_ (fun _ => ?_) <;> clear e))
    | (with_reducible first
        | refine ledgerWrite_keep (by assumption) (by assumption) ?_
        | refine State_setHalf_keep (by assumption) ?_
        | refine failStart_keep (by assumption) (by assumption) (by assumption) (by assumption) (by assumption) (by assumption) (by assumption) (by assumption) (by assumption) (by assumption) (by assumption) (by assumption) (by assumption) (by assumption) ?_
        | refine doneInstance_keep (by assumption) (by assumption) (by assumption) (by assumption) (by assumption) ?_)
    | split)

theorem beginHalf_keep (_m0 : m .halves = true) (h : Keep m s X) : Keep m s (beginHalf X a1 a2 a3 a4) := by
  unfold beginHalf
  repeat' (first
    | (with_reducible assumption)
    | ((try lift_lets -underBinder); intro x; clear_value (e : x = _); clear e)
    | (with_reducible refine State_setHalf_keep (by assumption) ?_))

theorem discardReset_keep (_m0 : m .nvs = true) (_m1 : m .regs = true) (h : Keep m s X) : Keep m s (discardReset X a1 a2 a3 a4) := by
  unfold discardReset
  repeat' (with_reducible first
      | assumption | refine ledgerWrite_keep (by assumption) (by assumption) ?_)

theorem supersede_keep (_m0 : m .nvs = true) (_m1 : m .regs = true) (h : Keep m s X) : Keep m s (supersede X a1 a2) := by
  unfold supersede
  repeat' (first
    | (with_reducible first
        | assumption | refine ledgerWrite_keep (by assumption) (by assumption) ?_)
    | split)

end Sys2Proof.Machine
end

