-- ==== Sys2Proof/Laws/KeepPortOps.lean ====
section
/-!
SUPPORT. What the operations and meanings of Machine/PortOps.lean keep (`Keep`).
-/
set_option Elab.async false
set_option linter.all false
namespace Sys2Proof.Machine

theorem State_setTime_keep (_m0 : m .time = true) (h : Keep m s X) : Keep m s (State.setTime X a1 a2) := by
  unfold State.setTime
  repeat' (with_reducible first | assumption | refine keep_mk ?_)

theorem setAligned_keep (_m0 : m .time = true) (_m1 : m .regs = true) (h : Keep m s X) : Keep m s (setAligned X a1) := by
  unfold setAligned
  repeat' (first
    | (with_reducible assumption)
    | ((try lift_lets -underBinder); intro x; clear_value (e : x = _); clear e)
    | (with_reducible first | refine putBit_keep (by assumption) ?_ | refine keep_mk ?_))

theorem setClock_keep (_m0 : m .halves = true) (_m1 : m .time = true) (h : Keep m s X) : Keep m s (setClock X a1) := by
  unfold setClock
  repeat' (first
    | (with_reducible assumption)
    | ((try lift_lets -underBinder); intro x; clear_value (e : x = _); first | (have _ := fun a => x a; subst e; try dsimp -zeta only) | clear e)
    | (with_reducible refine keep_mk ?_))

theorem setParent_keep (_m0 : m .time = true) (_m1 : m .regs = true) (h : Keep m s X) : Keep m s (setParent X a1) := by
  unfold setParent
  repeat' (first
    | (with_reducible assumption)
    | ((try lift_lets -underBinder); intro x; clear_value (e : x = _); first | (with_reducible refine keep_let (m := m) (s := s) e ?_ (fun _ => ?_) <;> clear e) | clear e)
    | (with_reducible first
        | refine putBit_keep (by assumption) ?_ | refine keep_foldl (fun _ _ _ => ?_) ?_)
    | split
    | (with_reducible refine keep_mk ?_))

theorem chooseParent_keep (_m0 : m .time = true) (_m1 : m .regs = true) (h : Keep m s X) : Keep m s (chooseParent X) := by
  unfold chooseParent
  repeat' (first
    | (with_reducible assumption)
    | ((try lift_lets -underBinder); intro x; clear_value (e : x = _); first | (with_reducible refine keep_let (m := m) (s := s) e ?_ (fun _ => ?_) <;> clear e) | clear e)
    | (with_reducible refine setParent_keep (by assumption) (by assumption) ?_)
    | split
    | (with_reducible refine keep_mk ?_))

theorem noteConflict_keep (_m0 : m .time = true) (_m1 : m .regs = true) (_m2 : m .msix = true) (_m3 : m .events = true) (_m4 : m .outputs = true) (h : Keep m s X) : Keep m s (noteConflict X) := by
  unfold noteConflict
  repeat' (first
    | (with_reducible assumption)
    | ((try lift_lets -underBinder); intro x; clear_value (e : x = _); clear e)
    | (with_reducible refine raiseEvent_keep (by assumption) (by assumption) (by assumption) (by assumption) ?_)
    | split
    | (with_reducible refine keep_mk ?_))

theorem considerOffers_keep (_m0 : m .time = true) (_m1 : m .regs = true) (_m2 : m .msix = true) (_m3 : m .events = true) (_m4 : m .outputs = true) (h : Keep m s X) : Keep m s (considerOffers X) := by
  unfold considerOffers
  repeat' (first
    | (with_reducible assumption)
    | ((try lift_lets -underBinder); intro x; clear_value (e : x = _); clear e)
    | (with_reducible first
        | refine noteConflict_keep (by assumption) (by assumption) (by assumption) (by assumption) (by assumption) ?_
        | refine chooseParent_keep (by assumption) (by assumption) ?_)
    | split)

theorem endTen_keep (_m0 : m .halves = true) (_m1 : m .nvs = true) (_m2 : m .ports = true) (_m3 : m .links = true) (_m4 : m .regs = true) (h : Keep m s X) : Keep m s (endTen X a1 a2 a3) := by
  unfold endTen
  repeat' (first
    | (with_reducible first
        | assumption
        | refine doneInstance_keep (by assumption) (by assumption) (by assumption) (by assumption) (by assumption) ?_
        | refine ledgerWrite_keep (by assumption) (by assumption) ?_)
    | split)

theorem becomeSource_keep (_m0 : m .halves = true) (_m1 : m .nvs = true) (_m2 : m .ports = true) (_m3 : m .links = true) (_m4 : m .time = true) (_m5 : m .regs = true) (h : Keep m s X) : Keep m s (becomeSource X a1) := by
  unfold becomeSource
  repeat' (first
    | (with_reducible assumption)
    | ((try lift_lets -underBinder); intro x; clear_value (e : x = _); first | (with_reducible refine keep_let (m := m) (s := s) e ?_ (fun _ => ?_) <;> clear e) | clear e)
    | (with_reducible first
        | refine setAligned_keep (by assumption) (by assumption) ?_
        | refine setClock_keep (by assumption) (by assumption) ?_
        | refine endTen_keep (by assumption) (by assumption) (by assumption) (by assumption) (by assumption) ?_
        | refine keep_mk ?_))

theorem sendPartner_keep (_m0 : m .links = true) (_m1 : m .regs = true) (_m2 : m .counters = true) (_m3 : m .msix = true) (_m4 : m .events = true) (_m5 : m .outputs = true) (h : Keep m s X) : Keep m s (sendPartner X a1 a2 a3 a4 a5) := by
  unfold sendPartner
  repeat' (with_reducible first
      | assumption | refine newMsgId_keep (by assumption) ?_
      | refine sendThrough_keep (by assumption) (by assumption) (by assumption) (by assumption) (by assumption) (by assumption) ?_
      | refine keepSnd_proj ?_)

theorem endPort_keep (_m0 : m .galley = true) (_m1 : m .impos = true) (_m2 : m .steps = true) (_m3 : m .groups = true) (_m4 : m .halves = true) (_m5 : m .nvs = true) (_m6 : m .ports = true) (_m7 : m .links = true) (_m8 : m .twins = true) (_m9 : m .units = true) (_m10 : m .regs = true) (_m11 : m .counters = true) (_m12 : m .msix = true) (_m13 : m .events = true) (_m14 : m .free = true) (_m15 : m .outputs = true) (h : Keep m s X) : Keep m s (endPort X a1 a2 a3 a4 a5) := by
  unfold endPort
  repeat' (first
    | (with_reducible assumption)
    | ((try lift_lets -underBinder); intro x; clear_value (e : x = _); clear e)
    | (with_reducible first
        | refine endStep_keep (by assumption) (by assumption) (by assumption) (by assumption) (by assumption) (by assumption) (by assumption) (by assumption) (by assumption) (by assumption) (by assumption) (by assumption) (by assumption) (by assumption) (by assumption) (by assumption) ?_
        | refine ledgerWrite_keep (by assumption) (by assumption) ?_)
    | split)

theorem portFallow_keep (_m0 : m .galley = true) (_m1 : m .impos = true) (_m2 : m .steps = true) (_m3 : m .groups = true) (_m4 : m .halves = true) (_m5 : m .nvs = true) (_m6 : m .ports = true) (_m7 : m .links = true) (_m8 : m .twins = true) (_m9 : m .units = true) (_m10 : m .regs = true) (_m11 : m .counters = true) (_m12 : m .msix = true) (_m13 : m .events = true) (_m14 : m .free = true) (_m15 : m .outputs = true) (h : Keep m s X) : Keep m s (portFallow X a1 a2) := by
  unfold portFallow
  repeat' (first
    | (with_reducible assumption)
    | ((try lift_lets -underBinder); intro x; clear_value (e : x = _); first | (with_reducible refine keep_let (m := m) (s := s) e ?_ (fun _ => ?_) <;> clear e) | clear e)
    | (with_reducible first
        | refine State_setPort_keep (by assumption) (by assumption) ?_
        | refine putBit_keep (by assumption) ?_
        | refine endPort_keep (by assumption) (by assumption) (by assumption) (by assumption) (by assumption) (by assumption) (by assumption) (by assumption) (by assumption) (by assumption) (by assumption) (by assumption) (by assumption) (by assumption) (by assumption) (by assumption) ?_
        | refine fallowAdd_keep (by assumption) ?_))

theorem showSpares_keep (_m0 : m .regs = true) (h : Keep m s X) : Keep m s (showSpares X a1 a2) := by
  unfold showSpares
  repeat' (first
    | (with_reducible assumption)
    | ((try lift_lets -underBinder); intro x; clear_value (e : x = _); (with_reducible refine keep_let (m := m) (s := s) e ?_ (fun _ => ?_) <;> clear e))
    | (with_reducible first
        | refine putFld_keep (by assumption) ?_ | refine putBit_keep (by assumption) ?_
        | refine keep_foldl (fun _ _ _ => ?_) ?_)
    | split)

theorem setLanes_keep (_m0 : m .ports = true) (_m1 : m .links = true) (_m2 : m .regs = true) (h : Keep m s X) : Keep m s (setLanes X a1 a2) := by
  unfold setLanes
  repeat' (first
    | (with_reducible assumption)
    | ((try lift_lets -underBinder); intro x; clear_value (e : x = _); first | (with_reducible refine keep_let (m := m) (s := s) e ?_ (fun _ => ?_) <;> clear e) | clear e)
    | (with_reducible first
        | refine State_setLink_keep (by assumption) ?_
        | refine State_setPort_keep (by assumption) (by assumption) ?_
        | refine showSpares_keep (by assumption) ?_ | refine setReg_keep (by assumption) ?_))

theorem sendSummary_keep (_m0 : m .links = true) (_m1 : m .regs = true) (_m2 : m .counters = true) (_m3 : m .msix = true) (_m4 : m .events = true) (_m5 : m .outputs = true) (h : Keep m s X) : Keep m s (sendSummary X a1) := by
  unfold sendSummary
  repeat' (first
    | (with_reducible assumption)
    | ((try lift_lets -underBinder); intro x; clear_value (e : x = _); clear e)
    | (with_reducible refine sendPartner_keep (by assumption) (by assumption) (by assumption) (by assumption) (by assumption) (by assumption) ?_))

theorem showPartner_keep (_m0 : m .regs = true) (h : Keep m s X) : Keep m s (showPartner X a1 a2) := by
  unfold showPartner
  repeat' (first
    | (with_reducible assumption)
    | ((try lift_lets -underBinder); intro x; clear_value (e : x = _); first | (with_reducible refine keep_let (m := m) (s := s) e ?_ (fun _ => ?_) <;> clear e) | clear e)
    | (with_reducible first
        | refine setReg_keep (by assumption) ?_ | refine putFld_keep (by assumption) ?_))

theorem retireSpares_keep (_m0 : m .galley = true) (_m1 : m .impos = true) (_m2 : m .steps = true) (_m3 : m .groups = true) (_m4 : m .halves = true) (_m5 : m .nvs = true) (_m6 : m .ports = true) (_m7 : m .links = true) (_m8 : m .twins = true) (_m9 : m .units = true) (_m10 : m .regs = true) (_m11 : m .counters = true) (_m12 : m .msix = true) (_m13 : m .events = true) (_m14 : m .free = true) (_m15 : m .outputs = true) (h : Keep m s X) : Keep m s (retireSpares X a1) := by
  unfold retireSpares
  repeat' (first
    | (with_reducible assumption)
    | ((try lift_lets -underBinder); intro x; clear_value (e : x = _); clear e)
    | (with_reducible first
        | refine portFallow_keep (by assumption) (by assumption) (by assumption) (by assumption) (by assumption) (by assumption) (by assumption) (by assumption) (by assumption) (by assumption) (by assumption) (by assumption) (by assumption) (by assumption) (by assumption) (by assumption) ?_
        | refine setLanes_keep (by assumption) (by assumption) (by assumption) ?_)
    | split)

theorem portUp_keep (_m0 : m .ports = true) (_m1 : m .links = true) (_m2 : m .regs = true) (_m3 : m .msix = true) (_m4 : m .events = true) (_m5 : m .waits = true) (_m6 : m .outputs = true) (h : Keep m s X) : Keep m s (portUp X a1) := by
  unfold portUp
  repeat' (first
    | (with_reducible assumption)
    | ((try lift_lets -underBinder); intro x; clear_value (e : x = _); first | (with_reducible refine keep_let (m := m) (s := s) e ?_ (fun _ => ?_) <;> clear e) | clear e)
    | (with_reducible first
        | refine State_setPort_keep (by assumption) (by assumption) ?_
        | refine State_setLink_keep (by assumption) ?_
        | refine raiseEvent_keep (by assumption) (by assumption) (by assumption) (by assumption) ?_
        | refine setCause_keep (by assumption) (by assumption) (by assumption) ?_)
    | split
    | (with_reducible refine keep_mk ?_))

theorem takeSummary_keep (_m0 : m .galley = true) (_m1 : m .impos = true) (_m2 : m .steps = true) (_m3 : m .groups = true) (_m4 : m .halves = true) (_m5 : m .nvs = true) (_m6 : m .ports = true) (_m7 : m .links = true) (_m8 : m .twins = true) (_m9 : m .units = true) (_m10 : m .regs = true) (_m11 : m .counters = true) (_m12 : m .msix = true) (_m13 : m .events = true) (_m14 : m .waits = true) (_m15 : m .free = true) (_m16 : m .outputs = true) (h : Keep m s X) : Keep m s (takeSummary X a1 a2) := by
  unfold takeSummary
  repeat' (first
    | (with_reducible assumption)
    | ((try lift_lets -underBinder); intro x; clear_value (e : x = _); first | (with_reducible refine keep_let (m := m) (s := s) e ?_ (fun _ => ?_) <;> clear e) | clear e)
    | (with_reducible first
        | refine showPartner_keep (by assumption) ?_
        | refine State_setPort_keep (by assumption) (by assumption) ?_
        | refine raiseEvent_keep (by assumption) (by assumption) (by assumption) (by assumption) ?_
        | refine setCause_keep (by assumption) (by assumption) (by assumption) ?_
        | refine retireSpares_keep (by assumption) (by assumption) (by assumption) (by assumption) (by assumption) (by assumption) (by assumption) (by assumption) (by assumption) (by assumption) (by assumption) (by assumption) (by assumption) (by assumption) (by assumption) (by assumption) ?_
        | refine portUp_keep (by assumption) (by assumption) (by assumption) (by assumption) (by assumption) (by assumption) (by assumption) ?_
        | refine endPort_keep (by assumption) (by assumption) (by assumption) (by assumption) (by assumption) (by assumption) (by assumption) (by assumption) (by assumption) (by assumption) (by assumption) (by assumption) (by assumption) (by assumption) (by assumption) (by assumption) ?_
        | refine sendSummary_keep (by assumption) (by assumption) (by assumption) (by assumption) (by assumption) (by assumption) ?_)
    | split)

theorem linkDown_keep (_m0 : m .ports = true) (_m1 : m .time = true) (_m2 : m .regs = true) (_m3 : m .msix = true) (_m4 : m .events = true) (_m5 : m .outputs = true) (h : Keep m s X) : Keep m s (linkDown X a1 a2) := by
  unfold linkDown
  repeat' (first
    | (with_reducible assumption)
    | ((try lift_lets -underBinder); intro x; clear_value (e : x = _); first | (with_reducible refine keep_let (m := m) (s := s) e ?_ (fun _ => ?_) <;> clear e) | clear e)
    | (with_reducible first
        | refine setReg_keep (by assumption) ?_
        | refine State_setPort_keep (by assumption) (by assumption) ?_
        | refine setCause_keep (by assumption) (by assumption) (by assumption) ?_
        | refine capture_keep (by assumption) (by assumption) (by assumption) (by assumption) ?_
        | refine raiseEvent_keep (by assumption) (by assumption) (by assumption) (by assumption) ?_
        | refine State_setTime_keep (by assumption) ?_
        | refine chooseParent_keep (by assumption) (by assumption) ?_)
    | split)

theorem fabMapNow_keep (_m0 : m .links = true) (_m1 : m .regs = true) (_m2 : m .counters = true) (_m3 : m .msix = true) (_m4 : m .events = true) (_m5 : m .outputs = true) (h : Keep m s X) : Keep m s (fabMapNow X a1 a2) := by
  unfold fabMapNow
  repeat' (first
    | (with_reducible assumption)
    | ((try lift_lets -underBinder); intro x; clear_value (e : x = _); first | (with_reducible refine keep_let (m := m) (s := s) e ?_ (fun _ => ?_) <;> clear e) | clear e)
    | (with_reducible first
        | refine putBit_keep (by assumption) ?_ | refine setReg_keep (by assumption) ?_
        | refine sendSummary_keep (by assumption) (by assumption) (by assumption) (by assumption) (by assumption) (by assumption) ?_)
    | split)

theorem rejoinNow_keep (_m0 : m .links = true) (h : Keep m s X) : Keep m s (rejoinNow X a1) := by
  unfold rejoinNow
  repeat' (first
    | (with_reducible assumption)
    | ((try lift_lets -underBinder); intro x; clear_value (e : x = _); clear e)
    | (with_reducible refine State_setLink_keep (by assumption) ?_)
    | split)

end Sys2Proof.Machine
end

