-- ==== Sys2Proof/Laws/KeepBoundary.lean ====
section
/-!
SUPPORT. What the operations and meanings of Machine/Boundary.lean keep (`Keep`).
-/
set_option Elab.async false
set_option linter.all false
namespace Sys2Proof.Machine

theorem blkCtrlNow_keep (_m0 : m .regs = true) (_m1 : m .waits = true) (h : Keep m s X) : Keep m s (blkCtrlNow X a1) := by
  unfold blkCtrlNow
  repeat' (first
    | (with_reducible assumption)
    | ((try lift_lets -underBinder); intro x; clear_value (e : x = _); first | (with_reducible refine keep_let (m := m) (s := s) e ?_ (fun _ => ?_) <;> clear e) | clear e)
    | (with_reducible refine putBit_keep (by assumption) ?_)
    | split
    | (with_reducible refine keep_mk ?_))

theorem setTwinNow_keep (_m0 : m .galley = true) (_m1 : m .nvs = true) (_m2 : m .links = true) (_m3 : m .hosts = true) (_m4 : m .commands = true) (_m5 : m .twins = true) (_m6 : m .sources = true) (_m7 : m .regs = true) (_m8 : m .counters = true) (_m9 : m .msix = true) (_m10 : m .events = true) (_m11 : m .outputs = true) (h : Keep m s X) : Keep m s (setTwinNow X a1) := by
  unfold setTwinNow
  repeat' (first
    | (with_reducible assumption)
    | ((try lift_lets -underBinder); intro x; clear_value (e : x = _); first | (with_reducible refine keep_let (m := m) (s := s) e ?_ (fun _ => ?_) <;> clear e) | (have _ : Nvs := x; subst e) | clear e)
    | (with_reducible first
        | refine dropTwin_keep (by assumption) (by assumption) (by assumption) (by assumption) (by assumption) (by assumption) (by assumption) (by assumption) (by assumption) (by assumption) ?_
        | refine twinEnd_keep (by assumption) (by assumption) (by assumption) (by assumption) (by assumption) (by assumption) (by assumption) (by assumption) (by assumption) ?_
        | refine refreshTwin_keep (by assumption) (by assumption) ?_
        | refine putFld_keep (by assumption) ?_ | refine keep_foldl (fun _ _ _ => ?_) ?_)
    | split
    | (with_reducible refine keep_mk ?_))

theorem dieLostNow_keep (_m0 : m .memory = true) (_m1 : m .galley = true) (_m2 : m .tensors = true) (_m3 : m .moves = true) (_m4 : m .impos = true) (_m5 : m .steps = true) (_m6 : m .links = true) (_m7 : m .hosts = true) (_m8 : m .twins = true) (_m9 : m .sources = true) (_m10 : m .regs = true) (_m11 : m .counters = true) (_m12 : m .msix = true) (_m13 : m .events = true) (_m14 : m .waits = true) (_m15 : m .outputs = true) (h : Keep m s X) : Keep m s (dieLostNow X a1) := by
  unfold dieLostNow
  repeat' (first
    | (with_reducible assumption)
    | ((try lift_lets -underBinder); intro x; clear_value (e : x = _); (with_reducible refine keep_let (m := m) (s := s) e ?_ (fun _ => ?_) <;> clear e))
    | (with_reducible first
        | refine dropImpos_keep (by assumption) ?_
        | refine settleEnd_keep (by assumption) (by assumption) (by assumption) (by assumption) (by assumption) (by assumption) (by assumption) (by assumption) (by assumption) (by assumption) (by assumption) (by assumption) (by assumption) (by assumption) ?_
        | refine raiseEnd_keep (by assumption) ?_ | refine leavePicks_keep (by assumption) ?_
        | refine keep_foldl (fun _ _ _ => ?_) ?_))

theorem ownerNow_keep (_m0 : m .regs = true) (h : Keep m s X) : Keep m s (ownerNow X a1 a2) := by
  unfold ownerNow
  repeat' (first
    | (with_reducible assumption)
    | ((try lift_lets -underBinder); intro x; clear_value (e : x = _); (with_reducible refine keep_let (m := m) (s := s) e ?_ (fun _ => ?_) <;> clear e))
    | (with_reducible first
        | refine putFld_keep (by assumption) ?_ | refine refreshCores_keep (by assumption) ?_
        | refine keep_foldl (fun _ _ _ => ?_) ?_)
    | split)

theorem biasChunkNow_keep (_m0 : m .memory = true) (_m1 : m .regs = true) (h : Keep m s X) : Keep m s (biasChunkNow X a1 a2 a3) := by
  unfold biasChunkNow
  repeat' (first
    | (with_reducible assumption)
    | ((try lift_lets -underBinder); intro x; clear_value (e : x = _); (with_reducible refine keep_let (m := m) (s := s) e ?_ (fun _ => ?_) <;> clear e))
    | (with_reducible first
        | refine putBit_keep (by assumption) ?_ | refine keep_foldl (fun _ _ _ => ?_) ?_
        | refine keep_mk ?_))

theorem freeEnded_keep (_m0 : m .galley = true) (h : Keep m s X) : Keep m s (freeEnded X a1) := by
  unfold freeEnded
  repeat' (first
    | (with_reducible first | assumption | refine freeEntry_keep (by assumption) ?_)
    | split)

theorem startPark_keep (_m0 : m .galley = true) (_m1 : m .tensors = true) (_m2 : m .moves = true) (_m3 : m .dies = true) (_m4 : m .hosts = true) (_m5 : m .sources = true) (_m6 : m .regs = true) (_m7 : m .counters = true) (_m8 : m .msix = true) (_m9 : m .events = true) (_m10 : m .free = true) (_m11 : m .outputs = true) (h : Keep m s X) : Keep m s (startPark X a1) := by
  unfold startPark
  repeat' (first
    | (with_reducible first
        | assumption
        | refine moveOut_keep (by assumption) (by assumption) (by assumption) (by assumption) (by assumption) (by assumption) (by assumption) (by assumption) (by assumption) (by assumption) (by assumption) (by assumption) ?_
        | refine keep_getD ?_ ?_)
    | split)

theorem applyDeferred_keep (_m0 : m .memory = true) (_m1 : m .galley = true) (_m2 : m .tensors = true) (_m3 : m .moves = true) (_m4 : m .impos = true) (_m5 : m .steps = true) (_m6 : m .groups = true) (_m7 : m .dies = true) (_m8 : m .nvs = true) (_m9 : m .ports = true) (_m10 : m .links = true) (_m11 : m .hosts = true) (_m12 : m .commands = true) (_m13 : m .twins = true) (_m14 : m .units = true) (_m15 : m .sources = true) (_m16 : m .regs = true) (_m17 : m .counters = true) (_m18 : m .msix = true) (_m19 : m .events = true) (_m20 : m .waits = true) (_m21 : m .free = true) (_m22 : m .outputs = true) (h : Keep m s X) : Keep m s (applyDeferred X a1) := by
  unfold applyDeferred
  repeat' (first
    | (with_reducible first
        | assumption | refine blkCtrlNow_keep (by assumption) (by assumption) ?_
        | refine failStop_keep (by assumption) (by assumption) (by assumption) (by assumption) (by assumption) (by assumption) (by assumption) (by assumption) (by assumption) (by assumption) (by assumption) (by assumption) (by assumption) ?_
        | refine ownerNow_keep (by assumption) ?_
        | refine biasChunkNow_keep (by assumption) (by assumption) ?_
        | refine giveTable_keep (by assumption) (by assumption) ?_
        | refine switchExtentNow_keep (by assumption) (by assumption) (by assumption) ?_
        | refine switchGroupsNow_keep (by assumption) (by assumption) (by assumption) ?_
        | refine switchNodeNow_keep (by assumption) (by assumption) (by assumption) ?_
        | refine switchMirrorNow_keep (by assumption) (by assumption) (by assumption) ?_
        | refine parityMoveNow_keep (by assumption) (by assumption) (by assumption) ?_
        | refine moveDone_keep (by assumption) (by assumption) (by assumption) (by assumption) (by assumption) (by assumption) (by assumption) (by assumption) (by assumption) (by assumption) (by assumption) (by assumption) (by assumption) (by assumption) ?_
        | refine turnDone_keep (by assumption) (by assumption) (by assumption) (by assumption) (by assumption) (by assumption) (by assumption) (by assumption) ?_
        | refine activateNow_keep (by assumption) (by assumption) (by assumption) (by assumption) (by assumption) (by assumption) (by assumption) (by assumption) (by assumption) (by assumption) (by assumption) (by assumption) ?_
        | refine fabMapNow_keep (by assumption) (by assumption) (by assumption) (by assumption) (by assumption) (by assumption) ?_
        | refine rejoinNow_keep (by assumption) ?_
        | refine assignNow_keep (by assumption) (by assumption) (by assumption) (by assumption) (by assumption) ?_
        | refine releaseNow_keep (by assumption) (by assumption) (by assumption) (by assumption) (by assumption) (by assumption) (by assumption) (by assumption) (by assumption) (by assumption) (by assumption) (by assumption) (by assumption) (by assumption) (by assumption) (by assumption) (by assumption) ?_
        | refine partResetNow_keep (by assumption) (by assumption) (by assumption) (by assumption) (by assumption) (by assumption) (by assumption) (by assumption) (by assumption) (by assumption) (by assumption) (by assumption) (by assumption) (by assumption) (by assumption) ?_
        | refine coresBack_keep (by assumption) (by assumption) ?_
        | refine setTwinNow_keep (by assumption) (by assumption) (by assumption) (by assumption) (by assumption) (by assumption) (by assumption) (by assumption) (by assumption) (by assumption) (by assumption) (by assumption) ?_
        | refine dieLostNow_keep (by assumption) (by assumption) (by assumption) (by assumption) (by assumption) (by assumption) (by assumption) (by assumption) (by assumption) (by assumption) (by assumption) (by assumption) (by assumption) (by assumption) (by assumption) (by assumption) ?_
        | refine dropSlot_keep (by assumption) ?_ | refine freeEnded_keep (by assumption) ?_
        | refine startPark_keep (by assumption) (by assumption) (by assumption) (by assumption) (by assumption) (by assumption) (by assumption) (by assumption) (by assumption) (by assumption) (by assumption) (by assumption) ?_)
    | split
    | (with_reducible refine keep_mk ?_))

theorem applyAll_keep (_m0 : m .memory = true) (_m1 : m .galley = true) (_m2 : m .tensors = true) (_m3 : m .moves = true) (_m4 : m .impos = true) (_m5 : m .steps = true) (_m6 : m .groups = true) (_m7 : m .dies = true) (_m8 : m .nvs = true) (_m9 : m .ports = true) (_m10 : m .links = true) (_m11 : m .hosts = true) (_m12 : m .commands = true) (_m13 : m .twins = true) (_m14 : m .units = true) (_m15 : m .sources = true) (_m16 : m .regs = true) (_m17 : m .counters = true) (_m18 : m .msix = true) (_m19 : m .events = true) (_m20 : m .waits = true) (_m21 : m .free = true) (_m22 : m .outputs = true) (h : Keep m s X) : Keep m s (applyAll X) := by
  unfold applyAll
  repeat' (first
    | (with_reducible first
        | assumption
        | refine applyDeferred_keep (by assumption) (by assumption) (by assumption) (by assumption) (by assumption) (by assumption) (by assumption) (by assumption) (by assumption) (by assumption) (by assumption) (by assumption) (by assumption) (by assumption) (by assumption) (by assumption) (by assumption) (by assumption) (by assumption) (by assumption) (by assumption) (by assumption) (by assumption) ?_
        | refine keep_foldl (fun _ _ _ => ?_) ?_)
    | split
    | (with_reducible refine keep_mk ?_))

theorem settleAll_keep (_m0 : m .memory = true) (_m1 : m .galley = true) (_m2 : m .tensors = true) (_m3 : m .moves = true) (_m4 : m .links = true) (_m5 : m .hosts = true) (_m6 : m .twins = true) (_m7 : m .sources = true) (_m8 : m .regs = true) (_m9 : m .counters = true) (_m10 : m .msix = true) (_m11 : m .events = true) (_m12 : m .waits = true) (_m13 : m .outputs = true) (h : Keep m s X) : Keep m s (settleAll X) := by
  unfold settleAll
  repeat' (with_reducible first
      | assumption
      | refine settleEnd_keep (by assumption) (by assumption) (by assumption) (by assumption) (by assumption) (by assumption) (by assumption) (by assumption) (by assumption) (by assumption) (by assumption) (by assumption) (by assumption) (by assumption) ?_
      | refine keep_foldl (fun _ _ _ => ?_) ?_)

theorem noSpace_keep (_m0 : m .galley = true) (_m1 : m .hosts = true) (_m2 : m .commands = true) (_m3 : m .sources = true) (_m4 : m .regs = true) (_m5 : m .counters = true) (_m6 : m .msix = true) (_m7 : m .events = true) (_m8 : m .outputs = true) (h : Keep m s X) : Keep m s (noSpace X a1) := by
  unfold noSpace
  repeat' (first
    | (with_reducible assumption)
    | ((try lift_lets -underBinder); intro x; clear_value (e : x = _); first | (with_reducible refine keep_let (m := m) (s := s) e ?_ (fun _ => ?_) <;> clear e) | (have _ := fun a => x a; subst e; try dsimp -zeta only) | clear e)
    | (with_reducible first
        | refine State_setEntry_keep (by assumption) ?_
        | refine complete_keep (by assumption) (by assumption) (by assumption) (by assumption) (by assumption) (by assumption) (by assumption) ?_
        | refine raiseEnd_keep (by assumption) ?_ | refine keep_foldl (fun _ _ _ => ?_) ?_)
    | split
    | (with_reducible refine keep_mk ?_))

theorem expireEntry_keep (_m0 : m .galley = true) (_m1 : m .tensors = true) (_m2 : m .moves = true) (_m3 : m .dies = true) (_m4 : m .hosts = true) (_m5 : m .commands = true) (_m6 : m .sources = true) (_m7 : m .regs = true) (_m8 : m .counters = true) (_m9 : m .msix = true) (_m10 : m .events = true) (_m11 : m .free = true) (_m12 : m .outputs = true) (h : Keep m s X) : Keep m s (expireEntry X a1) := by
  unfold expireEntry
  repeat' (first
    | (with_reducible assumption)
    | ((try lift_lets -underBinder); intro x; clear_value (e : x = _); first | (with_reducible refine keep_let (m := m) (s := s) e ?_ (fun _ => ?_) <;> clear e) | clear e)
    | (with_reducible first
        | refine raiseEnd_keep (by assumption) ?_ | refine freeEntry_keep (by assumption) ?_
        | refine noSpace_keep (by assumption) (by assumption) (by assumption) (by assumption) (by assumption) (by assumption) (by assumption) (by assumption) (by assumption) ?_
        | refine startPark_keep (by assumption) (by assumption) (by assumption) (by assumption) (by assumption) (by assumption) (by assumption) (by assumption) (by assumption) (by assumption) (by assumption) (by assumption) ?_)
    | split)

theorem expireAll_keep (_m0 : m .galley = true) (_m1 : m .tensors = true) (_m2 : m .moves = true) (_m3 : m .dies = true) (_m4 : m .hosts = true) (_m5 : m .commands = true) (_m6 : m .sources = true) (_m7 : m .regs = true) (_m8 : m .counters = true) (_m9 : m .msix = true) (_m10 : m .events = true) (_m11 : m .free = true) (_m12 : m .outputs = true) (h : Keep m s X) : Keep m s (expireAll X) := by
  unfold expireAll
  repeat' (with_reducible first
      | assumption
      | refine expireEntry_keep (by assumption) (by assumption) (by assumption) (by assumption) (by assumption) (by assumption) (by assumption) (by assumption) (by assumption) (by assumption) (by assumption) (by assumption) (by assumption) ?_
      | refine keep_foldl (fun _ _ _ => ?_) ?_)

theorem releaseOne_keep (_m0 : m .galley = true) (_m1 : m .tensors = true) (_m2 : m .moves = true) (_m3 : m .dies = true) (_m4 : m .hosts = true) (_m5 : m .sources = true) (_m6 : m .regs = true) (_m7 : m .counters = true) (_m8 : m .msix = true) (_m9 : m .events = true) (_m10 : m .free = true) (_m11 : m .outputs = true) (h : Keep m s X) : KeepOptFst m s (releaseOne X a1) := by
  unfold releaseOne
  repeat' (first
    | (with_reducible first
        | assumption
        | refine moveOut_keep (by assumption) (by assumption) (by assumption) (by assumption) (by assumption) (by assumption) (by assumption) (by assumption) (by assumption) (by assumption) (by assumption) (by assumption) ?_
        | refine loseTurn_keep (by assumption) (by assumption) ?_
        | refine keepOptFst_map ?_ (fun _ _ => ?_) | refine keepOptFst_bind (fun _ => ?_))
    | split
    | (with_reducible refine keepFst_mk ?_))

theorem releaseEvery_keep (_m0 : m .galley = true) (_m1 : m .tensors = true) (_m2 : m .moves = true) (_m3 : m .dies = true) (_m4 : m .hosts = true) (_m5 : m .sources = true) (_m6 : m .regs = true) (_m7 : m .counters = true) (_m8 : m .msix = true) (_m9 : m .events = true) (_m10 : m .free = true) (_m11 : m .outputs = true) (h : KeepFst m s p) : KeepFst m s (releaseEvery a0 p) := by
  induction a0 generalizing p with
  | zero =>
    unfold releaseEvery
    repeat' (first
      | (with_reducible first
          | assumption | exact keepFst_pair (by with_reducible assumption)
          | refine releaseOne_keep (by assumption) (by assumption) (by assumption) (by assumption) (by assumption) (by assumption) (by assumption) (by assumption) (by assumption) (by assumption) (by assumption) (by assumption) ?_
          | refine keepOptFst_of ?_ (by with_reducible assumption))
      | split
      | (with_reducible refine keepFst_mk ?_))
  | succ _ ih =>
    unfold releaseEvery
    repeat' (first
      | (with_reducible first
          | assumption | refine ih ?_ | exact keepFst_pair (by with_reducible assumption)
          | refine releaseOne_keep (by assumption) (by assumption) (by assumption) (by assumption) (by assumption) (by assumption) (by assumption) (by assumption) (by assumption) (by assumption) (by assumption) (by assumption) ?_
          | refine keepOptFst_of ?_ (by with_reducible assumption))
      | split
      | (with_reducible refine keepFst_mk ?_))

theorem releases_keep (_m0 : m .galley = true) (_m1 : m .tensors = true) (_m2 : m .moves = true) (_m3 : m .dies = true) (_m4 : m .hosts = true) (_m5 : m .sources = true) (_m6 : m .regs = true) (_m7 : m .counters = true) (_m8 : m .msix = true) (_m9 : m .events = true) (_m10 : m .free = true) (_m11 : m .outputs = true) (h : Keep m s X) : KeepFst m s (releases X) := by
  unfold releases
  repeat' (first
    | (with_reducible first | assumption | exact keepFst_pair (by with_reducible assumption))
    | ((try lift_lets -underBinder); intro x; clear_value (e : x = _); (with_reducible refine keepFst_let (m := m) (s := s) e ?_ (fun _ => ?_) <;> clear e))
    | (with_reducible first
        | refine releaseEvery_keep (by assumption) (by assumption) (by assumption) (by assumption) (by assumption) (by assumption) (by assumption) (by assumption) (by assumption) (by assumption) (by assumption) (by assumption) ?_
        | refine releaseOne_keep (by assumption) (by assumption) (by assumption) (by assumption) (by assumption) (by assumption) (by assumption) (by assumption) (by assumption) (by assumption) (by assumption) (by assumption) ?_
        | refine keepFst_getD ?_ ?_ | refine keepFst_foldl (fun _ _ _ => ?_) ?_
        | refine keepOptFst_of ?_ (by with_reducible assumption))
    | split
    | (with_reducible refine keepFst_mk ?_))

theorem swapIn_keep (_m0 : m .memory = true) (_m1 : m .galley = true) (_m2 : m .tensors = true) (_m3 : m .moves = true) (_m4 : m .dies = true) (_m5 : m .hosts = true) (_m6 : m .sources = true) (_m7 : m .regs = true) (_m8 : m .counters = true) (_m9 : m .msix = true) (_m10 : m .events = true) (_m11 : m .outputs = true) (h : Keep m s X) : Keep m s (swapIn X) := by
  unfold swapIn
  repeat' (first
    | (with_reducible first
        | assumption
        | refine moveIn_keep (by assumption) (by assumption) (by assumption) (by assumption) (by assumption) (by assumption) (by assumption) (by assumption) (by assumption) (by assumption) (by assumption) (by assumption) ?_
        | refine keep_getD ?_ ?_)
    | split)

theorem retryReturns_keep (_m0 : m .memory = true) (_m1 : m .galley = true) (_m2 : m .tensors = true) (_m3 : m .moves = true) (_m4 : m .dies = true) (_m5 : m .hosts = true) (_m6 : m .commands = true) (_m7 : m .sources = true) (_m8 : m .regs = true) (_m9 : m .counters = true) (_m10 : m .msix = true) (_m11 : m .events = true) (_m12 : m .outputs = true) (h : Keep m s X) : Keep m s (retryReturns X) := by
  unfold retryReturns
  repeat' (first
    | (with_reducible assumption)
    | ((try lift_lets -underBinder); intro x; clear_value (e : x = _); first | (have _ := fun a => x a; subst e; try dsimp -zeta only) | clear e)
    | (with_reducible first
        | refine moveIn_keep (by assumption) (by assumption) (by assumption) (by assumption) (by assumption) (by assumption) (by assumption) (by assumption) (by assumption) (by assumption) (by assumption) (by assumption) ?_
        | refine State_setEntry_keep (by assumption) ?_ | refine keep_foldl (fun _ _ _ => ?_) ?_
        | refine keepOpt_of ?_ (by with_reducible assumption))
    | split
    | (with_reducible refine keep_mk ?_))

theorem startTurns_keep (_m0 : m .memory = true) (_m1 : m .galley = true) (_m2 : m .tensors = true) (h : Keep m s X) : Keep m s (startTurns X) := by
  unfold startTurns
  repeat' (with_reducible first
      | assumption | refine startTurn_keep (by assumption) (by assumption) (by assumption) ?_
      | refine keep_foldl (fun _ _ _ => ?_) ?_)

theorem finishTurns_keep (_m0 : m .memory = true) (_m1 : m .galley = true) (_m2 : m .tensors = true) (_m3 : m .regs = true) (_m4 : m .counters = true) (_m5 : m .msix = true) (_m6 : m .events = true) (_m7 : m .outputs = true) (h : Keep m s X) : Keep m s (finishTurns X) := by
  unfold finishTurns
  repeat' (with_reducible first
      | assumption
      | refine turnDone_keep (by assumption) (by assumption) (by assumption) (by assumption) (by assumption) (by assumption) (by assumption) (by assumption) ?_
      | refine keep_foldl (fun _ _ _ => ?_) ?_)

theorem ownMoves_keep (_m0 : m .memory = true) (_m1 : m .galley = true) (_m2 : m .tensors = true) (_m3 : m .moves = true) (_m4 : m .dies = true) (_m5 : m .hosts = true) (_m6 : m .commands = true) (_m7 : m .sources = true) (_m8 : m .regs = true) (_m9 : m .counters = true) (_m10 : m .msix = true) (_m11 : m .events = true) (_m12 : m .free = true) (_m13 : m .outputs = true) (h : Keep m s X) : Keep m s (ownMoves X) := by
  unfold ownMoves
  repeat' (first
    | (with_reducible first
        | assumption
        | refine releases_keep (by assumption) (by assumption) (by assumption) (by assumption) (by assumption) (by assumption) (by assumption) (by assumption) (by assumption) (by assumption) (by assumption) (by assumption) ?_
        | refine retryReturns_keep (by assumption) (by assumption) (by assumption) (by assumption) (by assumption) (by assumption) (by assumption) (by assumption) (by assumption) (by assumption) (by assumption) (by assumption) (by assumption) ?_
        | refine startTurns_keep (by assumption) (by assumption) (by assumption) ?_
        | refine swapIn_keep (by assumption) (by assumption) (by assumption) (by assumption) (by assumption) (by assumption) (by assumption) (by assumption) (by assumption) (by assumption) (by assumption) (by assumption) ?_
        | refine keepFst_proj ?_)
    | split)

theorem endReleases_keep (_m0 : m .hosts = true) (_m1 : m .commands = true) (_m2 : m .regs = true) (h : Keep m s X) : Keep m s (endReleases X) := by
  unfold endReleases
  repeat' (first
    | (with_reducible first
        | assumption | refine finishRelease_keep (by assumption) (by assumption) (by assumption) ?_
        | refine keep_foldl (fun _ _ _ => ?_) ?_)
    | split)

theorem lcEnds_keep (_m0 : m .memory = true) (_m1 : m .galley = true) (_m2 : m .tensors = true) (_m3 : m .moves = true) (_m4 : m .links = true) (_m5 : m .hosts = true) (_m6 : m .twins = true) (_m7 : m .sources = true) (_m8 : m .regs = true) (_m9 : m .counters = true) (_m10 : m .msix = true) (_m11 : m .events = true) (_m12 : m .waits = true) (_m13 : m .outputs = true) (h : Keep m s X) : Keep m s (lcEnds X) := by
  unfold lcEnds
  repeat' (first
    | (with_reducible first
        | assumption
        | refine endNow_keep (by assumption) (by assumption) (by assumption) (by assumption) (by assumption) (by assumption) (by assumption) (by assumption) (by assumption) (by assumption) (by assumption) (by assumption) (by assumption) (by assumption) ?_
        | refine keep_foldl (fun _ _ _ => ?_) ?_)
    | split)

theorem freeSilent_keep (_m0 : m .galley = true) (h : Keep m s X) : Keep m s (freeSilent X) := by
  unfold freeSilent
  repeat' (with_reducible first
      | assumption | refine freeEntry_keep (by assumption) ?_
      | refine keep_foldl (fun _ _ _ => ?_) ?_)

theorem boundary_keep (_m0 : m .memory = true) (_m1 : m .galley = true) (_m2 : m .tensors = true) (_m3 : m .moves = true) (_m4 : m .impos = true) (_m5 : m .steps = true) (_m6 : m .groups = true) (_m7 : m .dies = true) (_m8 : m .nvs = true) (_m9 : m .ports = true) (_m10 : m .links = true) (_m11 : m .hosts = true) (_m12 : m .commands = true) (_m13 : m .twins = true) (_m14 : m .units = true) (_m15 : m .sources = true) (_m16 : m .regs = true) (_m17 : m .counters = true) (_m18 : m .msix = true) (_m19 : m .events = true) (_m20 : m .waits = true) (_m21 : m .free = true) (_m22 : m .outputs = true) (h : Keep m s X) : Keep m s (boundary X a1 a2 a3) := by
  unfold boundary
  repeat' (first
    | (with_reducible assumption)
    | ((try lift_lets -underBinder); intro x; clear_value (e : x = _); (with_reducible refine keep_let (m := m) (s := s) e ?_ (fun _ => ?_) <;> clear e))
    | (with_reducible first
        | refine settleAll_keep (by assumption) (by assumption) (by assumption) (by assumption) (by assumption) (by assumption) (by assumption) (by assumption) (by assumption) (by assumption) (by assumption) (by assumption) (by assumption) (by assumption) ?_
        | refine actCmds_keep (by assumption) (by assumption) (by assumption) (by assumption) (by assumption) (by assumption) (by assumption) (by assumption) (by assumption) (by assumption) (by assumption) (by assumption) (by assumption) (by assumption) (by assumption) (by assumption) (by assumption) ?_
        | refine lcEnds_keep (by assumption) (by assumption) (by assumption) (by assumption) (by assumption) (by assumption) (by assumption) (by assumption) (by assumption) (by assumption) (by assumption) (by assumption) (by assumption) (by assumption) ?_
        | refine finishTurns_keep (by assumption) (by assumption) (by assumption) (by assumption) (by assumption) (by assumption) (by assumption) (by assumption) ?_
        | refine finishMapouts_keep (by assumption) (by assumption) (by assumption) (by assumption) (by assumption) (by assumption) (by assumption) ?_
        | refine applyAll_keep (by assumption) (by assumption) (by assumption) (by assumption) (by assumption) (by assumption) (by assumption) (by assumption) (by assumption) (by assumption) (by assumption) (by assumption) (by assumption) (by assumption) (by assumption) (by assumption) (by assumption) (by assumption) (by assumption) (by assumption) (by assumption) (by assumption) (by assumption) ?_
        | refine adoptAll_keep (by assumption) (by assumption) (by assumption) (by assumption) (by assumption) (by assumption) (by assumption) (by assumption) (by assumption) (by assumption) (by assumption) (by assumption) (by assumption) (by assumption) ?_
        | refine ownMoves_keep (by assumption) (by assumption) (by assumption) (by assumption) (by assumption) (by assumption) (by assumption) (by assumption) (by assumption) (by assumption) (by assumption) (by assumption) (by assumption) (by assumption) ?_
        | refine expireAll_keep (by assumption) (by assumption) (by assumption) (by assumption) (by assumption) (by assumption) (by assumption) (by assumption) (by assumption) (by assumption) (by assumption) (by assumption) (by assumption) ?_
        | refine pickStep_keep (by assumption) (by assumption) (by assumption) (by assumption) (by assumption) (by assumption) (by assumption) (by assumption) (by assumption) (by assumption) ?_
        | refine announcePicks_keep (by assumption) (by assumption) (by assumption) (by assumption) (by assumption) (by assumption) (by assumption) (by assumption) (by assumption) ?_
        | refine endReleases_keep (by assumption) (by assumption) (by assumption) ?_
        | refine freeSilent_keep (by assumption) ?_
        | refine makeRecords_keep (by assumption) (by assumption) (by assumption) (by assumption) (by assumption) (by assumption) (by assumption) (by assumption) (by assumption) (by assumption) ?_))

end Sys2Proof.Machine
end

