-- ==== Sys2Proof/Laws/KeepSequencer.lean ====
section
/-!
SUPPORT. What the operations and meanings of Machine/Sequencer.lean keep (`Keep`).
-/
set_option Elab.async false
set_option linter.all false
namespace Sys2Proof.Machine

theorem triggerStep_keep (_m0 : m .steps = true) (_m1 : m .groups = true) (_m2 : m .twins = true) (_m3 : m .units = true) (_m4 : m .sources = true) (_m5 : m .regs = true) (_m6 : m .counters = true) (_m7 : m .msix = true) (_m8 : m .events = true) (_m9 : m .waits = true) (_m10 : m .outputs = true) (h : Keep m s X) : Keep m s (triggerStep X a1) := by
  unfold triggerStep
  repeat' (first
    | (with_reducible assumption)
    | ((try lift_lets -underBinder); intro x; clear_value (e : x = _); clear e)
    | (with_reducible first
        | refine clearEngines_keep (by assumption) (by assumption) (by assumption) ?_
        | refine traceBoth_keep (by assumption) (by assumption) (by assumption) (by assumption) (by assumption) (by assumption) ?_
        | refine setReg_keep (by assumption) ?_
        | refine count_keep (by assumption) (by assumption) (by assumption) (by assumption) (by assumption) ?_)
    | split
    | (with_reducible refine keep_mk ?_))

theorem execStepTrigger_keep (_m0 : m .steps = true) (_m1 : m .groups = true) (_m2 : m .twins = true) (_m3 : m .units = true) (_m4 : m .sources = true) (_m5 : m .regs = true) (_m6 : m .counters = true) (_m7 : m .msix = true) (_m8 : m .events = true) (_m9 : m .waits = true) (_m10 : m .outputs = true) (h : Keep m s X) : KeepRes m s (execStepTrigger X) := by
  unfold execStepTrigger
  repeat' (first
    | (with_reducible first
        | assumption
        | refine triggerStep_keep (by assumption) (by assumption) (by assumption) (by assumption) (by assumption) (by assumption) (by assumption) (by assumption) (by assumption) (by assumption) (by assumption) ?_
        | refine keepRes_next ?_)
    | split)

theorem reportGroups_keep (_m0 : m .groups = true) (_m1 : m .links = true) (_m2 : m .regs = true) (_m3 : m .counters = true) (_m4 : m .msix = true) (_m5 : m .events = true) (_m6 : m .free = true) (_m7 : m .outputs = true) (h : Keep m s X) : Keep m s (reportGroups X) := by
  unfold reportGroups
  repeat' (first
    | (with_reducible first
        | assumption
        | refine sendReport_keep (by assumption) (by assumption) (by assumption) (by assumption) (by assumption) (by assumption) (by assumption) (by assumption) ?_
        | refine keep_foldl (fun _ _ _ => ?_) ?_)
    | split)

theorem clearLeft_keep (_m0 : m .regs = true) (_m1 : m .counters = true) (_m2 : m .msix = true) (_m3 : m .events = true) (_m4 : m .outputs = true) (h : Keep m s X) : Keep m s (clearLeft X) := by
  unfold clearLeft
  repeat' (first
    | (with_reducible assumption)
    | ((try lift_lets -underBinder); intro x; clear_value (e : x = _); clear e)
    | (with_reducible first
        | refine capture_keep (by assumption) (by assumption) (by assumption) (by assumption) ?_
        | refine count_keep (by assumption) (by assumption) (by assumption) (by assumption) (by assumption) ?_
        | refine keep_foldl (fun _ _ _ => ?_) ?_)
    | split)

theorem closeStep_keep (_m0 : m .memory = true) (_m1 : m .galley = true) (_m2 : m .tensors = true) (_m3 : m .moves = true) (_m4 : m .impos = true) (_m5 : m .steps = true) (_m6 : m .groups = true) (_m7 : m .dies = true) (_m8 : m .nvs = true) (_m9 : m .ports = true) (_m10 : m .links = true) (_m11 : m .hosts = true) (_m12 : m .commands = true) (_m13 : m .twins = true) (_m14 : m .units = true) (_m15 : m .sources = true) (_m16 : m .regs = true) (_m17 : m .counters = true) (_m18 : m .msix = true) (_m19 : m .events = true) (_m20 : m .waits = true) (_m21 : m .free = true) (_m22 : m .outputs = true) (h : Keep m s X) : Keep m s (closeStep X) := by
  unfold closeStep
  repeat' (first
    | (with_reducible assumption)
    | ((try lift_lets -underBinder); intro x; clear_value (e : x = _); first | (with_reducible refine keep_let (m := m) (s := s) e ?_ (fun _ => ?_) <;> clear e) | clear e)
    | (with_reducible first
        | refine settleStep_keep (by assumption) (by assumption) (by assumption) (by assumption) (by assumption) (by assumption) (by assumption) (by assumption) ?_
        | refine clearLeft_keep (by assumption) (by assumption) (by assumption) (by assumption) (by assumption) ?_
        | refine mirrorStep_keep (by assumption) (by assumption) (by assumption) (by assumption) (by assumption) (by assumption) (by assumption) ?_
        | refine boundary_keep (by assumption) (by assumption) (by assumption) (by assumption) (by assumption) (by assumption) (by assumption) (by assumption) (by assumption) (by assumption) (by assumption) (by assumption) (by assumption) (by assumption) (by assumption) (by assumption) (by assumption) (by assumption) (by assumption) (by assumption) (by assumption) (by assumption) (by assumption) ?_
        | refine traceBoth_keep (by assumption) (by assumption) (by assumption) (by assumption) (by assumption) (by assumption) ?_
        | refine keepFst_proj ?_ | refine keep_mk ?_))

theorem execStepClose_keep (_m0 : m .memory = true) (_m1 : m .galley = true) (_m2 : m .tensors = true) (_m3 : m .moves = true) (_m4 : m .impos = true) (_m5 : m .steps = true) (_m6 : m .groups = true) (_m7 : m .dies = true) (_m8 : m .nvs = true) (_m9 : m .ports = true) (_m10 : m .links = true) (_m11 : m .hosts = true) (_m12 : m .commands = true) (_m13 : m .twins = true) (_m14 : m .units = true) (_m15 : m .sources = true) (_m16 : m .regs = true) (_m17 : m .counters = true) (_m18 : m .msix = true) (_m19 : m .events = true) (_m20 : m .waits = true) (_m21 : m .free = true) (_m22 : m .outputs = true) (h : Keep m s X) : KeepRes m s (execStepClose X) := by
  unfold execStepClose
  repeat' (first
    | (with_reducible assumption)
    | ((try lift_lets -underBinder); intro x; clear_value (e : x = _); (with_reducible refine keep_let (m := m) (s := s) e ?_ (fun _ => ?_) <;> clear e))
    | (with_reducible first
        | refine reportGroups_keep (by assumption) (by assumption) (by assumption) (by assumption) (by assumption) (by assumption) (by assumption) (by assumption) ?_
        | refine closeStep_keep (by assumption) (by assumption) (by assumption) (by assumption) (by assumption) (by assumption) (by assumption) (by assumption) (by assumption) (by assumption) (by assumption) (by assumption) (by assumption) (by assumption) (by assumption) (by assumption) (by assumption) (by assumption) (by assumption) (by assumption) (by assumption) (by assumption) (by assumption) ?_
        | refine keepRes_next ?_)
    | split)

theorem execIdleBoundaryChange_keep (_m0 : m .memory = true) (_m1 : m .galley = true) (_m2 : m .tensors = true) (_m3 : m .moves = true) (_m4 : m .impos = true) (_m5 : m .steps = true) (_m6 : m .groups = true) (_m7 : m .dies = true) (_m8 : m .nvs = true) (_m9 : m .ports = true) (_m10 : m .links = true) (_m11 : m .hosts = true) (_m12 : m .commands = true) (_m13 : m .twins = true) (_m14 : m .units = true) (_m15 : m .sources = true) (_m16 : m .regs = true) (_m17 : m .counters = true) (_m18 : m .msix = true) (_m19 : m .events = true) (_m20 : m .waits = true) (_m21 : m .free = true) (_m22 : m .outputs = true) (h : Keep m s X) : KeepRes m s (execIdleBoundaryChange X) := by
  unfold execIdleBoundaryChange
  repeat' (first
    | (with_reducible first
        | assumption
        | refine boundary_keep (by assumption) (by assumption) (by assumption) (by assumption) (by assumption) (by assumption) (by assumption) (by assumption) (by assumption) (by assumption) (by assumption) (by assumption) (by assumption) (by assumption) (by assumption) (by assumption) (by assumption) (by assumption) (by assumption) (by assumption) (by assumption) (by assumption) (by assumption) ?_
        | refine keepRes_next ?_)
    | split)

theorem paceOrSuspect_keep (_m0 : m .galley = true) (_m1 : m .impos = true) (_m2 : m .steps = true) (_m3 : m .groups = true) (_m4 : m .links = true) (_m5 : m .units = true) (_m6 : m .regs = true) (_m7 : m .counters = true) (_m8 : m .msix = true) (_m9 : m .events = true) (_m10 : m .free = true) (_m11 : m .outputs = true) (h : Keep m s X) : Keep m s (paceOrSuspect X a1) := by
  unfold paceOrSuspect
  repeat' (first
    | (with_reducible assumption)
    | ((try lift_lets -underBinder); intro x; clear_value (e : x = _); clear e)
    | (with_reducible first
        | refine markSuspect_keep (by assumption) (by assumption) (by assumption) (by assumption) (by assumption) (by assumption) ?_
        | refine abandonWith_keep (by assumption) (by assumption) (by assumption) (by assumption) (by assumption) (by assumption) (by assumption) (by assumption) (by assumption) (by assumption) (by assumption) (by assumption) ?_
        | refine keep_foldl (fun _ _ _ => ?_) ?_)
    | split)

theorem execCreditStall_keep (_m0 : m .galley = true) (_m1 : m .impos = true) (_m2 : m .steps = true) (_m3 : m .groups = true) (_m4 : m .links = true) (_m5 : m .units = true) (_m6 : m .regs = true) (_m7 : m .counters = true) (_m8 : m .msix = true) (_m9 : m .events = true) (_m10 : m .free = true) (_m11 : m .outputs = true) (h : Keep m s X) : KeepRes m s (execCreditStall a0 a1 a2 a3 a4 X) := by
  unfold execCreditStall
  repeat' (first
    | (with_reducible assumption)
    | ((try lift_lets -underBinder); intro x; clear_value (e : x = _); first | (with_reducible refine keep_let (m := m) (s := s) e ?_ (fun _ => ?_) <;> clear e) | clear e)
    | (with_reducible first
        | refine guarded_keep ?_
        | refine capture_keep (by assumption) (by assumption) (by assumption) (by assumption) ?_
        | refine count_keep (by assumption) (by assumption) (by assumption) (by assumption) (by assumption) ?_
        | refine paceOrSuspect_keep (by assumption) (by assumption) (by assumption) (by assumption) (by assumption) (by assumption) (by assumption) (by assumption) (by assumption) (by assumption) (by assumption) (by assumption) ?_)
    | split)

theorem execStepWatchdog_keep (_m0 : m .galley = true) (_m1 : m .impos = true) (_m2 : m .steps = true) (_m3 : m .groups = true) (_m4 : m .links = true) (_m5 : m .units = true) (_m6 : m .regs = true) (_m7 : m .counters = true) (_m8 : m .msix = true) (_m9 : m .events = true) (_m10 : m .free = true) (_m11 : m .outputs = true) (h : Keep m s X) : KeepRes m s (execStepWatchdog a0 X) := by
  unfold execStepWatchdog
  repeat' (first
    | (with_reducible assumption)
    | ((try lift_lets -underBinder); intro x; clear_value (e : x = _); clear e)
    | (with_reducible first
        | refine paceOrSuspect_keep (by assumption) (by assumption) (by assumption) (by assumption) (by assumption) (by assumption) (by assumption) (by assumption) (by assumption) (by assumption) (by assumption) (by assumption) ?_
        | refine capture_keep (by assumption) (by assumption) (by assumption) (by assumption) ?_
        | refine keepRes_next ?_)
    | split)

theorem execGalleyReload_keep (_m0 : m .steps = true) (_m1 : m .regs = true) (_m2 : m .msix = true) (_m3 : m .events = true) (_m4 : m .outputs = true) (h : Keep m s X) : KeepRes m s (execGalleyReload a0 X) := by
  unfold execGalleyReload
  repeat' (first
    | (with_reducible assumption)
    | ((try lift_lets -underBinder); intro x; clear_value (e : x = _); clear e)
    | (with_reducible first
        | refine devEvent_keep (by assumption) (by assumption) (by assumption) (by assumption) ?_
        | refine keepRes_next ?_ | refine keep_mk ?_))

theorem signalRecord_keep (_m0 : m .hosts = true) (_m1 : m .msix = true) (_m2 : m .outputs = true) (h : Keep m s X) : Keep m s (signalRecord X a1 a2) := by
  unfold signalRecord
  repeat' (first
    | (with_reducible assumption)
    | ((try lift_lets -underBinder); intro x; clear_value (e : x = _); first | (with_reducible refine keep_let (m := m) (s := s) e ?_ (fun _ => ?_) <;> clear e) | clear e)
    | (with_reducible first
        | refine State_setRing_keep (by assumption) ?_
        | refine sendVector_keep (by assumption) (by assumption) ?_)
    | split)

theorem putRecord_keep (_m0 : m .hosts = true) (_m1 : m .regs = true) (_m2 : m .outputs = true) (h : Keep m s X) : Keep m s (putRecord X a1 a2) := by
  unfold putRecord
  repeat' (first
    | (with_reducible assumption)
    | ((try lift_lets -underBinder); intro x; clear_value (e : x = _); first | (with_reducible refine keep_let (m := m) (s := s) e ?_ (fun _ => ?_) <;> clear e) | clear e)
    | (with_reducible first
        | refine regionWrite_keep (by assumption) (by assumption) ?_
        | refine putFld_keep (by assumption) ?_ | refine State_setRing_keep (by assumption) ?_
        | refine writeShadow_keep (by assumption) (by assumption) ?_))

theorem noteReported_keep (_m0 : m .galley = true) (h : Keep m s X) : Keep m s (noteReported X a1) := by
  unfold noteReported
  repeat' (first
    | (with_reducible assumption)
    | ((try lift_lets -underBinder); intro x; clear_value (e : x = _); clear e)
    | (with_reducible first
        | refine State_setEntry_keep (by assumption) ?_ | refine keep_foldl (fun _ _ _ => ?_) ?_)
    | split)

theorem oneHeldLess_keep (_m0 : m .regs = true) (h : Keep m s X) : Keep m s (oneHeldLess X a1) := by
  unfold oneHeldLess
  repeat' (first
    | (with_reducible assumption)
    | ((try lift_lets -underBinder); intro x; clear_value (e : x = _); first | (with_reducible refine keep_let (m := m) (s := s) e ?_ (fun _ => ?_) <;> clear e) | clear e)
    | (with_reducible first
        | refine putFld_keep (by assumption) ?_ | refine putBit_keep (by assumption) ?_)
    | split)

theorem execStepBatchRecord_keep (_m0 : m .galley = true) (_m1 : m .hosts = true) (_m2 : m .commands = true) (_m3 : m .regs = true) (_m4 : m .counters = true) (_m5 : m .msix = true) (_m6 : m .events = true) (_m7 : m .outputs = true) (h : Keep m s X) : KeepRes m s (execStepBatchRecord a0 X) := by
  unfold execStepBatchRecord
  repeat' (first
    | (with_reducible assumption)
    | ((try lift_lets -underBinder); intro x; clear_value (e : x = _); first | (with_reducible refine keep_let (m := m) (s := s) e ?_ (fun _ => ?_) <;> clear e) | clear e)
    | (with_reducible first
        | refine oneHeldLess_keep (by assumption) ?_
        | refine signalRecord_keep (by assumption) (by assumption) (by assumption) ?_
        | refine noteReported_keep (by assumption) ?_
        | refine putRecord_keep (by assumption) (by assumption) (by assumption) ?_
        | refine count_keep (by assumption) (by assumption) (by assumption) (by assumption) (by assumption) ?_
        | refine finishRelease_keep (by assumption) (by assumption) (by assumption) ?_
        | refine keepRes_next ?_)
    | split
    | (with_reducible refine keep_mk ?_))

theorem execTurnCopyDone_keep (_m0 : m .galley = true) (h : Keep m s X) : KeepRes m s (execTurnCopyDone a0 X) := by
  unfold execTurnCopyDone
  repeat' (first
    | (with_reducible assumption)
    | ((try lift_lets -underBinder); intro x; clear_value (e : x = _); clear e)
    | (with_reducible first
        | refine State_setEntry_keep (by assumption) ?_ | refine keepRes_next ?_)
    | split)

theorem execEndedHold_keep (_m0 : m .waits = true) (h : Keep m s X) : KeepRes m s (execEndedHold a0 X) := by
  unfold execEndedHold
  repeat' (first
    | (with_reducible assumption)
    | ((try lift_lets -underBinder); intro x; clear_value (e : x = _); clear e)
    | (with_reducible refine keepRes_next ?_)
    | split
    | (with_reducible refine keep_mk ?_))

end Sys2Proof.Machine
end

