-- ==== Sys2Proof/Laws/KeepGalleyRows.lean ====
section
/-!
SUPPORT. What the operations and meanings of Machine/GalleyRows.lean keep (`Keep`).
-/
set_option Elab.async false
set_option linter.all false
namespace Sys2Proof.Machine

theorem forwardCmd_keep (_m0 : m .links = true) (_m1 : m .regs = true) (_m2 : m .counters = true) (_m3 : m .msix = true) (_m4 : m .events = true) (_m5 : m .outputs = true) (h : Keep m s X) : Keep m s (forwardCmd X a1) := by
  unfold forwardCmd
  repeat' (first
    | (with_reducible first
        | assumption
        | refine sendMember_keep (by assumption) (by assumption) (by assumption) (by assumption) (by assumption) (by assumption) ?_
        | refine keep_foldl (fun _ _ _ => ?_) ?_)
    | split)

theorem execCommandFetch_keep (_m0 : m .galley = true) (_m1 : m .links = true) (_m2 : m .hosts = true) (_m3 : m .commands = true) (_m4 : m .sources = true) (_m5 : m .regs = true) (_m6 : m .counters = true) (_m7 : m .msix = true) (_m8 : m .events = true) (_m9 : m .outputs = true) (h : Keep m s X) : KeepRes m s (execCommandFetch a0 a1 a2 X) := by
  unfold execCommandFetch
  repeat' (first
    | (with_reducible assumption)
    | ((try lift_lets -underBinder); intro x; clear_value (e : x = _); first | (with_reducible refine keep_let (m := m) (s := s) e ?_ (fun _ => ?_) <;> clear e) | clear e)
    | (with_reducible first
        | refine guarded_keep ?_ | refine regionRead_keep (by assumption) (by assumption) ?_
        | refine putFld_keep (by assumption) ?_ | refine State_setRing_keep (by assumption) ?_
        | refine writeShadow_keep (by assumption) (by assumption) ?_
        | refine acceptCmd_keep (by assumption) (by assumption) (by assumption) (by assumption) (by assumption) (by assumption) (by assumption) (by assumption) (by assumption) ?_
        | refine forwardCmd_keep (by assumption) (by assumption) (by assumption) (by assumption) (by assumption) (by assumption) ?_
        | refine traceCmd_keep (by assumption) (by assumption) (by assumption) (by assumption) (by assumption) (by assumption) ?_)
    | split)

theorem execSqFetch_keep (_m0 : m .regs = true) (_m1 : m .msix = true) (_m2 : m .events = true) (_m3 : m .outputs = true) (h : Keep m s X) : KeepRes m s (execSqFetch a0 a1 X) := by
  unfold execSqFetch
  repeat' (first
    | (with_reducible assumption)
    | ((try lift_lets -underBinder); intro x; clear_value (e : x = _); first | (with_reducible refine keep_let (m := m) (s := s) e ?_ (fun _ => ?_) <;> clear e) | clear e)
    | (with_reducible first
        | refine putFld_keep (by assumption) ?_ | refine putBit_keep (by assumption) ?_
        | refine setCause_keep (by assumption) (by assumption) (by assumption) ?_
        | refine capture_keep (by assumption) (by assumption) (by assumption) (by assumption) ?_
        | refine keepRes_next ?_)
    | split)

theorem settleFetch_keep (_m0 : m .galley = true) (h : Keep m s X) : Keep m s (settleFetch X a1) := by
  unfold settleFetch
  repeat' (first
    | (with_reducible first | assumption | refine State_skipEntry_keep (by assumption) ?_)
    | split)

theorem failFetch_keep (_m0 : m .galley = true) (_m1 : m .hosts = true) (_m2 : m .commands = true) (_m3 : m .sources = true) (_m4 : m .regs = true) (_m5 : m .counters = true) (_m6 : m .msix = true) (_m7 : m .events = true) (_m8 : m .outputs = true) (h : Keep m s X) : Keep m s (failFetch X a1 a2) := by
  unfold failFetch
  repeat' (first
    | (with_reducible assumption)
    | ((try lift_lets -underBinder); intro x; clear_value (e : x = _); first | (with_reducible refine keep_let (m := m) (s := s) e ?_ (fun _ => ?_) <;> clear e) | clear e)
    | (with_reducible first
        | refine settleFetch_keep (by assumption) ?_
        | refine capture_keep (by assumption) (by assumption) (by assumption) (by assumption) ?_
        | refine complete_keep (by assumption) (by assumption) (by assumption) (by assumption) (by assumption) (by assumption) (by assumption) ?_
        | refine raiseEnd_keep (by assumption) ?_)
    | split
    | (with_reducible refine keep_mk ?_))

theorem execTokenFetchDone_keep (_m0 : m .galley = true) (_m1 : m .hosts = true) (_m2 : m .commands = true) (_m3 : m .sources = true) (_m4 : m .regs = true) (_m5 : m .counters = true) (_m6 : m .msix = true) (_m7 : m .events = true) (_m8 : m .outputs = true) (h : Keep m s X) : KeepRes m s (execTokenFetchDone a0 a1 a2 X) := by
  unfold execTokenFetchDone
  repeat' (first
    | (with_reducible assumption)
    | ((try lift_lets -underBinder); intro x; clear_value (e : x = _); clear e)
    | (with_reducible first
        | refine guarded_keep ?_ | refine settleFetch_keep (by assumption) ?_
        | refine failFetch_keep (by assumption) (by assumption) (by assumption) (by assumption) (by assumption) (by assumption) (by assumption) (by assumption) (by assumption) ?_
        | refine keepRes_next ?_)
    | split
    | (with_reducible refine keep_mk ?_))

theorem foreignRegion_keep (_m0 : m .regs = true) (_m1 : m .counters = true) (_m2 : m .msix = true) (_m3 : m .events = true) (_m4 : m .outputs = true) (h : Keep m s X) : Keep m s (foreignRegion X a1 a2) := by
  unfold foreignRegion
  repeat' (first
    | (with_reducible assumption)
    | ((try lift_lets -underBinder); intro x; clear_value (e : x = _); clear e)
    | (with_reducible refine hedgeViolation_keep (by assumption) (by assumption) (by assumption) (by assumption) (by assumption) ?_)
    | split)

theorem zeroExtent_keep (_m0 : m .memory = true) (h : Keep m s X) : Keep m s (zeroExtent X a1 a2) := by
  unfold zeroExtent
  repeat' (first
    | (with_reducible assumption)
    | ((try lift_lets -underBinder); intro x; clear_value (e : x = _); clear e)
    | (with_reducible refine keep_mk ?_))

theorem loadTensor_keep (_m0 : m .memory = true) (_m1 : m .tensors = true) (_m2 : m .moves = true) (_m3 : m .dies = true) (_m4 : m .hosts = true) (_m5 : m .sources = true) (_m6 : m .regs = true) (_m7 : m .counters = true) (_m8 : m .msix = true) (_m9 : m .events = true) (_m10 : m .waits = true) (_m11 : m .outputs = true) (h : Keep m s X) : Keep m s (loadTensor X a1) := by
  unfold loadTensor
  repeat' (first
    | (with_reducible assumption)
    | ((try lift_lets -underBinder); intro x; clear_value (e : x = _); first | (with_reducible refine keep_let (m := m) (s := s) e ?_ (fun _ => ?_) <;> clear e) | clear e)
    | (with_reducible first
        | refine count_keep (by assumption) (by assumption) (by assumption) (by assumption) (by assumption) ?_
        | refine foreignRegion_keep (by assumption) (by assumption) (by assumption) (by assumption) (by assumption) ?_
        | refine hedgeViolation_keep (by assumption) (by assumption) (by assumption) (by assumption) (by assumption) ?_
        | refine complete_keep (by assumption) (by assumption) (by assumption) (by assumption) (by assumption) (by assumption) (by assumption) ?_
        | refine State_setTensor_keep (by assumption) ?_ | refine zeroExtent_keep (by assumption) ?_
        | refine addMove_keep (by assumption) (by assumption) (by assumption) (by assumption) (by assumption) (by assumption) (by assumption) (by assumption) (by assumption) ?_)
    | split
    | (with_reducible refine keep_mk ?_))

theorem freeTensor_keep (_m0 : m .memory = true) (_m1 : m .tensors = true) (h : Keep m s X) : Keep m s (freeTensor X a1) := by
  unfold freeTensor
  repeat' (first
    | (with_reducible assumption)
    | ((try lift_lets -underBinder); intro x; clear_value (e : x = _); clear e)
    | (with_reducible first
        | refine freeHandle_keep (by assumption) ?_ | refine scrubFreed_keep (by assumption) ?_)
    | split)

theorem extentOut_keep (_m0 : m .tensors = true) (_m1 : m .moves = true) (_m2 : m .dies = true) (_m3 : m .hosts = true) (_m4 : m .sources = true) (_m5 : m .regs = true) (_m6 : m .counters = true) (_m7 : m .msix = true) (_m8 : m .events = true) (_m9 : m .free = true) (_m10 : m .outputs = true) (h : Keep m s X) : Keep m s (extentOut X a1 a2 a3) := by
  unfold extentOut
  repeat' (first
    | (with_reducible assumption)
    | ((try lift_lets -underBinder); intro x; clear_value (e : x = _); clear e)
    | (with_reducible first
        | refine t2Alloc_keep (by assumption) ?_
        | refine complete_keep (by assumption) (by assumption) (by assumption) (by assumption) (by assumption) (by assumption) (by assumption) ?_
        | refine addMove_keep (by assumption) (by assumption) (by assumption) (by assumption) (by assumption) (by assumption) (by assumption) (by assumption) (by assumption) ?_
        | refine State_setTensor_keep (by assumption) ?_
        | refine keepOptTri_of ?_ (by with_reducible assumption))
    | split)

theorem migrateHandle_keep (_m0 : m .memory = true) (_m1 : m .tensors = true) (_m2 : m .moves = true) (_m3 : m .dies = true) (_m4 : m .hosts = true) (_m5 : m .sources = true) (_m6 : m .regs = true) (_m7 : m .counters = true) (_m8 : m .msix = true) (_m9 : m .events = true) (_m10 : m .free = true) (_m11 : m .outputs = true) (h : Keep m s X) : Keep m s (migrateHandle X a1) := by
  unfold migrateHandle
  repeat' (first
    | (with_reducible assumption)
    | ((try lift_lets -underBinder); intro x; clear_value (e : x = _); clear e)
    | (with_reducible first
        | refine complete_keep (by assumption) (by assumption) (by assumption) (by assumption) (by assumption) (by assumption) (by assumption) ?_
        | refine hedgeViolation_keep (by assumption) (by assumption) (by assumption) (by assumption) (by assumption) ?_
        | refine freeTensor_keep (by assumption) (by assumption) ?_
        | refine addMove_keep (by assumption) (by assumption) (by assumption) (by assumption) (by assumption) (by assumption) (by assumption) (by assumption) (by assumption) ?_
        | refine State_setTensor_keep (by assumption) ?_
        | refine extentOut_keep (by assumption) (by assumption) (by assumption) (by assumption) (by assumption) (by assumption) (by assumption) (by assumption) (by assumption) (by assumption) (by assumption) ?_)
    | split)

theorem actAtOnce_keep (_m0 : m .commands = true) (h : Keep m s X) (hf2 : ∀ x0 x1, Keep m s x0 → Keep m s (f2 x0 x1)) : Keep m s (actAtOnce X a1 f2) := by
  unfold actAtOnce
  repeat' (first
    | (with_reducible first | assumption | apply hf2)
    | split
    | (with_reducible refine keep_mk ?_))

theorem actBetween_keep (_m0 : m .memory = true) (_m1 : m .galley = true) (_m2 : m .tensors = true) (_m3 : m .moves = true) (_m4 : m .dies = true) (_m5 : m .links = true) (_m6 : m .hosts = true) (_m7 : m .commands = true) (_m8 : m .twins = true) (_m9 : m .sources = true) (_m10 : m .regs = true) (_m11 : m .counters = true) (_m12 : m .msix = true) (_m13 : m .events = true) (_m14 : m .waits = true) (_m15 : m .free = true) (_m16 : m .outputs = true) (h : Keep m s X) : Keep m s (actBetween X a1) := by
  unfold actBetween
  repeat' (first
    | (with_reducible first
        | assumption
        | refine settleEnd_keep (by assumption) (by assumption) (by assumption) (by assumption) (by assumption) (by assumption) (by assumption) (by assumption) (by assumption) (by assumption) (by assumption) (by assumption) (by assumption) (by assumption) ?_
        | refine actCmd_keep (by assumption) (by assumption) (by assumption) (by assumption) (by assumption) (by assumption) (by assumption) (by assumption) (by assumption) (by assumption) (by assumption) (by assumption) (by assumption) (by assumption) (by assumption) (by assumption) (by assumption) ?_)
    | split
    | (with_reducible refine keep_mk ?_))

theorem execAdmitRequest_keep (_m0 : m .galley = true) (_m1 : m .tensors = true) (_m2 : m .links = true) (_m3 : m .hosts = true) (_m4 : m .commands = true) (_m5 : m .twins = true) (_m6 : m .sources = true) (_m7 : m .regs = true) (_m8 : m .counters = true) (_m9 : m .msix = true) (_m10 : m .events = true) (_m11 : m .free = true) (_m12 : m .outputs = true) (h : Keep m s X) : KeepRes m s (execAdmitRequest X) := by
  unfold execAdmitRequest
  repeat' (first
    | (with_reducible first
        | assumption | refine actAtOnce_keep (by assumption) ?_ (fun _ _ _ => ?_)
        | refine admitCmd_keep (by assumption) (by assumption) (by assumption) (by assumption) (by assumption) (by assumption) (by assumption) (by assumption) (by assumption) (by assumption) (by assumption) (by assumption) ?_
        | refine keepRes_next ?_)
    | split)

theorem execPrompt_keep (_m0 : m .memory = true) (_m1 : m .galley = true) (_m2 : m .tensors = true) (_m3 : m .moves = true) (_m4 : m .dies = true) (_m5 : m .links = true) (_m6 : m .hosts = true) (_m7 : m .commands = true) (_m8 : m .twins = true) (_m9 : m .sources = true) (_m10 : m .regs = true) (_m11 : m .counters = true) (_m12 : m .msix = true) (_m13 : m .events = true) (_m14 : m .waits = true) (_m15 : m .free = true) (_m16 : m .outputs = true) (h : Keep m s X) : KeepRes m s (execPrompt X) := by
  unfold execPrompt
  repeat' (with_reducible first
      | assumption
      | refine actBetween_keep (by assumption) (by assumption) (by assumption) (by assumption) (by assumption) (by assumption) (by assumption) (by assumption) (by assumption) (by assumption) (by assumption) (by assumption) (by assumption) (by assumption) (by assumption) (by assumption) (by assumption) ?_
      | refine keepRes_next ?_)

theorem execPropose_keep (_m0 : m .memory = true) (_m1 : m .galley = true) (_m2 : m .tensors = true) (_m3 : m .moves = true) (_m4 : m .dies = true) (_m5 : m .links = true) (_m6 : m .hosts = true) (_m7 : m .commands = true) (_m8 : m .twins = true) (_m9 : m .sources = true) (_m10 : m .regs = true) (_m11 : m .counters = true) (_m12 : m .msix = true) (_m13 : m .events = true) (_m14 : m .waits = true) (_m15 : m .free = true) (_m16 : m .outputs = true) (h : Keep m s X) : KeepRes m s (execPropose X) := by
  unfold execPropose
  repeat' (with_reducible first
      | assumption
      | refine actBetween_keep (by assumption) (by assumption) (by assumption) (by assumption) (by assumption) (by assumption) (by assumption) (by assumption) (by assumption) (by assumption) (by assumption) (by assumption) (by assumption) (by assumption) (by assumption) (by assumption) (by assumption) ?_
      | refine keepRes_next ?_)

theorem execPauseRequest_keep (_m0 : m .memory = true) (_m1 : m .galley = true) (_m2 : m .tensors = true) (_m3 : m .moves = true) (_m4 : m .dies = true) (_m5 : m .links = true) (_m6 : m .hosts = true) (_m7 : m .commands = true) (_m8 : m .twins = true) (_m9 : m .sources = true) (_m10 : m .regs = true) (_m11 : m .counters = true) (_m12 : m .msix = true) (_m13 : m .events = true) (_m14 : m .waits = true) (_m15 : m .free = true) (_m16 : m .outputs = true) (h : Keep m s X) : KeepRes m s (execPauseRequest X) := by
  unfold execPauseRequest
  repeat' (with_reducible first
      | assumption
      | refine actBetween_keep (by assumption) (by assumption) (by assumption) (by assumption) (by assumption) (by assumption) (by assumption) (by assumption) (by assumption) (by assumption) (by assumption) (by assumption) (by assumption) (by assumption) (by assumption) (by assumption) (by assumption) ?_
      | refine keepRes_next ?_)

theorem execResumeCommand_keep (_m0 : m .memory = true) (_m1 : m .galley = true) (_m2 : m .tensors = true) (_m3 : m .moves = true) (_m4 : m .dies = true) (_m5 : m .links = true) (_m6 : m .hosts = true) (_m7 : m .commands = true) (_m8 : m .twins = true) (_m9 : m .sources = true) (_m10 : m .regs = true) (_m11 : m .counters = true) (_m12 : m .msix = true) (_m13 : m .events = true) (_m14 : m .waits = true) (_m15 : m .free = true) (_m16 : m .outputs = true) (h : Keep m s X) : KeepRes m s (execResumeCommand X) := by
  unfold execResumeCommand
  repeat' (with_reducible first
      | assumption
      | refine actBetween_keep (by assumption) (by assumption) (by assumption) (by assumption) (by assumption) (by assumption) (by assumption) (by assumption) (by assumption) (by assumption) (by assumption) (by assumption) (by assumption) (by assumption) (by assumption) (by assumption) (by assumption) ?_
      | refine keepRes_next ?_)

theorem execEndRequest_keep (_m0 : m .memory = true) (_m1 : m .galley = true) (_m2 : m .tensors = true) (_m3 : m .moves = true) (_m4 : m .dies = true) (_m5 : m .links = true) (_m6 : m .hosts = true) (_m7 : m .commands = true) (_m8 : m .twins = true) (_m9 : m .sources = true) (_m10 : m .regs = true) (_m11 : m .counters = true) (_m12 : m .msix = true) (_m13 : m .events = true) (_m14 : m .waits = true) (_m15 : m .free = true) (_m16 : m .outputs = true) (h : Keep m s X) : KeepRes m s (execEndRequest X) := by
  unfold execEndRequest
  repeat' (with_reducible first
      | assumption
      | refine actBetween_keep (by assumption) (by assumption) (by assumption) (by assumption) (by assumption) (by assumption) (by assumption) (by assumption) (by assumption) (by assumption) (by assumption) (by assumption) (by assumption) (by assumption) (by assumption) (by assumption) (by assumption) ?_
      | refine keepRes_next ?_)

theorem execSetClass_keep (_m0 : m .memory = true) (_m1 : m .galley = true) (_m2 : m .tensors = true) (_m3 : m .moves = true) (_m4 : m .dies = true) (_m5 : m .links = true) (_m6 : m .hosts = true) (_m7 : m .commands = true) (_m8 : m .twins = true) (_m9 : m .sources = true) (_m10 : m .regs = true) (_m11 : m .counters = true) (_m12 : m .msix = true) (_m13 : m .events = true) (_m14 : m .waits = true) (_m15 : m .free = true) (_m16 : m .outputs = true) (h : Keep m s X) : KeepRes m s (execSetClass X) := by
  unfold execSetClass
  repeat' (with_reducible first
      | assumption
      | refine actBetween_keep (by assumption) (by assumption) (by assumption) (by assumption) (by assumption) (by assumption) (by assumption) (by assumption) (by assumption) (by assumption) (by assumption) (by assumption) (by assumption) (by assumption) (by assumption) (by assumption) (by assumption) ?_
      | refine keepRes_next ?_)

theorem execLoadTensor_keep (_m0 : m .memory = true) (_m1 : m .tensors = true) (_m2 : m .moves = true) (_m3 : m .dies = true) (_m4 : m .hosts = true) (_m5 : m .commands = true) (_m6 : m .sources = true) (_m7 : m .regs = true) (_m8 : m .counters = true) (_m9 : m .msix = true) (_m10 : m .events = true) (_m11 : m .waits = true) (_m12 : m .outputs = true) (h : Keep m s X) : KeepRes m s (execLoadTensor X) := by
  unfold execLoadTensor
  repeat' (first
    | (with_reducible first
        | assumption | refine actAtOnce_keep (by assumption) ?_ (fun _ _ _ => ?_)
        | refine loadTensor_keep (by assumption) (by assumption) (by assumption) (by assumption) (by assumption) (by assumption) (by assumption) (by assumption) (by assumption) (by assumption) (by assumption) (by assumption) ?_
        | refine keepRes_next ?_)
    | split)

theorem execMigrate_keep (_m0 : m .memory = true) (_m1 : m .galley = true) (_m2 : m .tensors = true) (_m3 : m .moves = true) (_m4 : m .dies = true) (_m5 : m .links = true) (_m6 : m .hosts = true) (_m7 : m .commands = true) (_m8 : m .twins = true) (_m9 : m .sources = true) (_m10 : m .regs = true) (_m11 : m .counters = true) (_m12 : m .msix = true) (_m13 : m .events = true) (_m14 : m .waits = true) (_m15 : m .free = true) (_m16 : m .outputs = true) (h : Keep m s X) : KeepRes m s (execMigrate X) := by
  unfold execMigrate
  repeat' (first
    | (with_reducible first
        | assumption | refine actAtOnce_keep (by assumption) ?_ (fun _ _ _ => ?_)
        | refine migrateHandle_keep (by assumption) (by assumption) (by assumption) (by assumption) (by assumption) (by assumption) (by assumption) (by assumption) (by assumption) (by assumption) (by assumption) (by assumption) ?_
        | refine actBetween_keep (by assumption) (by assumption) (by assumption) (by assumption) (by assumption) (by assumption) (by assumption) (by assumption) (by assumption) (by assumption) (by assumption) (by assumption) (by assumption) (by assumption) (by assumption) (by assumption) (by assumption) ?_
        | refine keepRes_next ?_)
    | split)

theorem execT2ReadCompletion_keep (_m0 : m .galley = true) (_m1 : m .tensors = true) (_m2 : m .moves = true) (_m3 : m .dies = true) (_m4 : m .hosts = true) (_m5 : m .sources = true) (_m6 : m .regs = true) (_m7 : m .counters = true) (_m8 : m .msix = true) (_m9 : m .events = true) (_m10 : m .outputs = true) (h : Keep m s X) : KeepRes m s (execT2ReadCompletion a0 a1 a2 a3 X) := by
  unfold execT2ReadCompletion
  repeat' (first
    | (with_reducible first
        | assumption | refine guarded_keep ?_ | refine setMove_keep (by assumption) ?_
        | refine moveFail_keep (by assumption) (by assumption) (by assumption) (by assumption) (by assumption) (by assumption) (by assumption) (by assumption) (by assumption) (by assumption) (by assumption) ?_
        | refine keepRes_next ?_)
    | split)

theorem execTierLate_keep (_m0 : m .galley = true) (_m1 : m .tensors = true) (_m2 : m .moves = true) (_m3 : m .dies = true) (_m4 : m .hosts = true) (_m5 : m .commands = true) (_m6 : m .sources = true) (_m7 : m .regs = true) (_m8 : m .counters = true) (_m9 : m .msix = true) (_m10 : m .events = true) (_m11 : m .outputs = true) (h : Keep m s X) : KeepRes m s (execTierLate a0 a1 X) := by
  unfold execTierLate
  repeat' (first
    | (with_reducible first
        | assumption
        | refine failFetch_keep (by assumption) (by assumption) (by assumption) (by assumption) (by assumption) (by assumption) (by assumption) (by assumption) (by assumption) ?_
        | refine moveFail_keep (by assumption) (by assumption) (by assumption) (by assumption) (by assumption) (by assumption) (by assumption) (by assumption) (by assumption) (by assumption) (by assumption) ?_
        | refine keepRes_next ?_)
    | split)

theorem finishMove_keep (_m0 : m .moves = true) (_m1 : m .dies = true) (_m2 : m .hosts = true) (_m3 : m .sources = true) (_m4 : m .regs = true) (_m5 : m .counters = true) (_m6 : m .msix = true) (_m7 : m .events = true) (_m8 : m .waits = true) (_m9 : m .outputs = true) (h : Keep m s X) : Keep m s (finishMove X a1) := by
  unfold finishMove
  repeat' (first
    | (with_reducible assumption)
    | ((try lift_lets -underBinder); intro x; clear_value (e : x = _); (with_reducible refine keep_let (m := m) (s := s) e ?_ (fun _ => ?_) <;> clear e))
    | (with_reducible first
        | refine count_keep (by assumption) (by assumption) (by assumption) (by assumption) (by assumption) ?_
        | refine startMoves_keep (by assumption) (by assumption) (by assumption) (by assumption) (by assumption) (by assumption) (by assumption) (by assumption) (by assumption) ?_
        | refine setMove_keep (by assumption) ?_ | refine keep_mk ?_))

theorem landExtent_keep (_m0 : m .memory = true) (_m1 : m .galley = true) (_m2 : m .tensors = true) (_m3 : m .moves = true) (_m4 : m .steps = true) (_m5 : m .dies = true) (_m6 : m .links = true) (_m7 : m .hosts = true) (_m8 : m .sources = true) (_m9 : m .regs = true) (_m10 : m .counters = true) (_m11 : m .msix = true) (_m12 : m .events = true) (_m13 : m .waits = true) (_m14 : m .outputs = true) (h : Keep m s X) : Keep m s (landExtent X a1) := by
  unfold landExtent
  repeat' (first
    | (with_reducible assumption)
    | ((try lift_lets -underBinder); intro x; clear_value (e : x = _); first | (with_reducible refine keep_let (m := m) (s := s) e ?_ (fun _ => ?_) <;> clear e) | clear e)
    | (with_reducible first
        | refine count_keep (by assumption) (by assumption) (by assumption) (by assumption) (by assumption) ?_
        | refine moveFail_keep (by assumption) (by assumption) (by assumption) (by assumption) (by assumption) (by assumption) (by assumption) (by assumption) (by assumption) (by assumption) (by assumption) ?_
        | refine clearExtentPoison_keep (by assumption) ?_
        | refine putExtent_keep (by assumption) ?_
        | refine moveDone_keep (by assumption) (by assumption) (by assumption) (by assumption) (by assumption) (by assumption) (by assumption) (by assumption) (by assumption) (by assumption) (by assumption) (by assumption) (by assumption) (by assumption) ?_
        | refine finishMove_keep (by assumption) (by assumption) (by assumption) (by assumption) (by assumption) (by assumption) (by assumption) (by assumption) (by assumption) (by assumption) ?_)
    | split)

theorem execMigrationDone_keep (_m0 : m .memory = true) (_m1 : m .galley = true) (_m2 : m .tensors = true) (_m3 : m .moves = true) (_m4 : m .steps = true) (_m5 : m .dies = true) (_m6 : m .links = true) (_m7 : m .hosts = true) (_m8 : m .units = true) (_m9 : m .sources = true) (_m10 : m .regs = true) (_m11 : m .counters = true) (_m12 : m .msix = true) (_m13 : m .events = true) (_m14 : m .waits = true) (_m15 : m .outputs = true) (h : Keep m s X) : KeepRes m s (execMigrationDone a0 X) := by
  unfold execMigrationDone
  repeat' (first
    | (with_reducible first
        | assumption
        | refine finishMove_keep (by assumption) (by assumption) (by assumption) (by assumption) (by assumption) (by assumption) (by assumption) (by assumption) (by assumption) (by assumption) ?_
        | refine putImage_keep (by assumption) (by assumption) ?_
        | refine landExtent_keep (by assumption) (by assumption) (by assumption) (by assumption) (by assumption) (by assumption) (by assumption) (by assumption) (by assumption) (by assumption) (by assumption) (by assumption) (by assumption) (by assumption) (by assumption) ?_
        | refine moveFail_keep (by assumption) (by assumption) (by assumption) (by assumption) (by assumption) (by assumption) (by assumption) (by assumption) (by assumption) (by assumption) (by assumption) ?_
        | refine keepRes_next ?_)
    | split)

theorem execNospaceWait_keep (_m0 : m .galley = true) (_m1 : m .hosts = true) (_m2 : m .commands = true) (_m3 : m .sources = true) (_m4 : m .regs = true) (_m5 : m .counters = true) (_m6 : m .msix = true) (_m7 : m .events = true) (_m8 : m .outputs = true) (h : Keep m s X) : KeepRes m s (execNospaceWait a0 X) := by
  unfold execNospaceWait
  repeat' (first
    | (with_reducible first
        | assumption
        | refine noSpace_keep (by assumption) (by assumption) (by assumption) (by assumption) (by assumption) (by assumption) (by assumption) (by assumption) (by assumption) ?_
        | refine keepRes_next ?_)
    | split)

theorem execParkThreshold_keep (_m0 : m .waits = true) (h : Keep m s X) : KeepRes m s (execParkThreshold a0 X) := by
  unfold execParkThreshold
  repeat' (first
    | (with_reducible first | assumption | refine keepRes_next ?_)
    | split
    | (with_reducible refine keep_mk ?_))

theorem execTtl_keep (_m0 : m .galley = true) (h : Keep m s X) : KeepRes m s (execTtl a0 X) := by
  unfold execTtl
  repeat' (first
    | (with_reducible first
        | assumption | refine raiseEnd_keep (by assumption) ?_ | refine keepRes_next ?_)
    | split)

theorem freeUnreferenced_keep (_m0 : m .memory = true) (_m1 : m .galley = true) (h : Keep m s X) : Keep m s (freeUnreferenced a0 X a2) := by
  induction a0 generalizing X a2 with
  | zero =>
    unfold freeUnreferenced
    repeat' (first
      | (with_reducible first
          | assumption | refine freeNodeAt_keep (by assumption) (by assumption) ?_)
      | split)
  | succ _ ih =>
    unfold freeUnreferenced
    repeat' (first
      | (with_reducible first
          | assumption | refine ih ?_ | refine freeNodeAt_keep (by assumption) (by assumption) ?_)
      | split)

theorem commitTree_keep (_m0 : m .memory = true) (_m1 : m .galley = true) (_m2 : m .regs = true) (h : Keep m s X) : Keep m s (commitTree X a1 a2) := by
  unfold commitTree
  repeat' (first
    | (with_reducible assumption)
    | ((try lift_lets -underBinder); intro x; clear_value (e : x = _); (with_reducible refine keep_let (m := m) (s := s) e ?_ (fun _ => ?_) <;> clear e))
    | (with_reducible first
        | refine putBit_keep (by assumption) ?_ | refine State_setTree_keep (by assumption) ?_
        | refine freeUnreferenced_keep (by assumption) (by assumption) ?_)
    | split
    | (with_reducible refine keep_mk ?_))

theorem execGalPartCommit_keep (_m0 : m .memory = true) (_m1 : m .galley = true) (_m2 : m .regs = true) (_m3 : m .counters = true) (_m4 : m .msix = true) (_m5 : m .events = true) (_m6 : m .waits = true) (_m7 : m .outputs = true) (h : Keep m s X) : KeepRes m s (execGalPartCommit a0 X) := by
  unfold execGalPartCommit
  repeat' (first
    | (with_reducible first
        | assumption | refine guarded_keep ?_
        | refine serveWrite_keep (by assumption) (by assumption) (by assumption) (by assumption) (by assumption) (by assumption) ?_ (fun _ _ _ _ _ _ => ?_)
        | refine commitTree_keep (by assumption) (by assumption) (by assumption) ?_)
    | split)

end Sys2Proof.Machine
end

