-- ==== Sys2Proof/Laws/KeepChannels.lean ====
section
/-!
SUPPORT. What the operations and meanings of Machine/Channels.lean keep (`Keep`).
-/
set_option Elab.async false
set_option linter.all false
namespace Sys2Proof.Machine

theorem sectorUncorrectable_keep (_m0 : m .memory = true) (_m1 : m .galley = true) (_m2 : m .tensors = true) (_m3 : m .moves = true) (_m4 : m .impos = true) (_m5 : m .steps = true) (_m6 : m .groups = true) (_m7 : m .dies = true) (_m8 : m .links = true) (_m9 : m .hosts = true) (_m10 : m .twins = true) (_m11 : m .units = true) (_m12 : m .sources = true) (_m13 : m .regs = true) (_m14 : m .counters = true) (_m15 : m .msix = true) (_m16 : m .events = true) (_m17 : m .free = true) (_m18 : m .outputs = true) (h : Keep m s X) : Keep m s (sectorUncorrectable X a1 a2) := by
  unfold sectorUncorrectable
  repeat' (first
    | (with_reducible assumption)
    | ((try lift_lets -underBinder); intro x; clear_value (e : x = _); first | (with_reducible refine keep_let (m := m) (s := s) e ?_ (fun _ => ?_) <;> clear e) | clear e)
    | (with_reducible first
        | refine chCapture_keep (by assumption) (by assumption) (by assumption) (by assumption) ?_
        | refine setCause_keep (by assumption) (by assumption) (by assumption) ?_
        | refine count_keep (by assumption) (by assumption) (by assumption) (by assumption) (by assumption) ?_
        | refine setPoison_keep (by assumption) ?_ | refine putFld_keep (by assumption) ?_
        | refine State_setChan_keep (by assumption) ?_
        | refine beginMapout_keep (by assumption) (by assumption) (by assumption) (by assumption) (by assumption) (by assumption) (by assumption) (by assumption) (by assumption) (by assumption) (by assumption) (by assumption) (by assumption) (by assumption) (by assumption) (by assumption) (by assumption) (by assumption) (by assumption) ?_)
    | split)

theorem sectorCorrected_keep (_m0 : m .regs = true) (_m1 : m .counters = true) (_m2 : m .msix = true) (_m3 : m .events = true) (_m4 : m .outputs = true) (h : Keep m s X) : Keep m s (sectorCorrected X a1 a2) := by
  unfold sectorCorrected
  repeat' (with_reducible first
      | assumption | refine putFld_keep (by assumption) ?_
      | refine count_keep (by assumption) (by assumption) (by assumption) (by assumption) (by assumption) ?_)

theorem sectorRead_keep (_m0 : m .memory = true) (_m1 : m .galley = true) (_m2 : m .tensors = true) (_m3 : m .moves = true) (_m4 : m .impos = true) (_m5 : m .steps = true) (_m6 : m .groups = true) (_m7 : m .dies = true) (_m8 : m .links = true) (_m9 : m .hosts = true) (_m10 : m .twins = true) (_m11 : m .units = true) (_m12 : m .sources = true) (_m13 : m .regs = true) (_m14 : m .counters = true) (_m15 : m .msix = true) (_m16 : m .events = true) (_m17 : m .free = true) (_m18 : m .outputs = true) (h : Keep m s X) : Keep m s (sectorRead X a1 a2 a3) := by
  unfold sectorRead
  repeat' (first
    | (with_reducible assumption)
    | ((try lift_lets -underBinder); intro x; clear_value (e : x = _); first | (with_reducible refine keep_let (m := m) (s := s) e ?_ (fun _ => ?_) <;> clear e) | clear e)
    | (with_reducible first
        | refine count_keep (by assumption) (by assumption) (by assumption) (by assumption) (by assumption) ?_
        | refine chCapture_keep (by assumption) (by assumption) (by assumption) (by assumption) ?_
        | refine sectorCorrected_keep (by assumption) (by assumption) (by assumption) (by assumption) (by assumption) ?_
        | refine sectorUncorrectable_keep (by assumption) (by assumption) (by assumption) (by assumption) (by assumption) (by assumption) (by assumption) (by assumption) (by assumption) (by assumption) (by assumption) (by assumption) (by assumption) (by assumption) (by assumption) (by assumption) (by assumption) (by assumption) (by assumption) ?_)
    | split)

theorem consume_keep (_m0 : m .galley = true) (_m1 : m .tensors = true) (_m2 : m .moves = true) (_m3 : m .impos = true) (_m4 : m .steps = true) (_m5 : m .groups = true) (_m6 : m .dies = true) (_m7 : m .links = true) (_m8 : m .hosts = true) (_m9 : m .units = true) (_m10 : m .sources = true) (_m11 : m .regs = true) (_m12 : m .counters = true) (_m13 : m .msix = true) (_m14 : m .events = true) (_m15 : m .free = true) (_m16 : m .outputs = true) (h : Keep m s X) : Keep m s (consume X a1 a2) := by
  unfold consume
  repeat' (first
    | (with_reducible first
        | assumption | refine poisonedRequest_keep (by assumption) ?_
        | refine poisonedAccess_keep (by assumption) (by assumption) (by assumption) (by assumption) (by assumption) (by assumption) (by assumption) (by assumption) (by assumption) (by assumption) (by assumption) (by assumption) (by assumption) (by assumption) (by assumption) (by assumption) (by assumption) ?_
        | refine moveFail_keep (by assumption) (by assumption) (by assumption) (by assumption) (by assumption) (by assumption) (by assumption) (by assumption) (by assumption) (by assumption) (by assumption) ?_)
    | split)

theorem addrHole_keep (_m0 : m .regs = true) (_m1 : m .msix = true) (_m2 : m .events = true) (_m3 : m .outputs = true) (h : Keep m s X) : Keep m s (addrHole X a1) := by
  unfold addrHole
  repeat' (with_reducible first
      | assumption
      | refine chCapture_keep (by assumption) (by assumption) (by assumption) (by assumption) ?_)

theorem execSectorRead_keep (_m0 : m .memory = true) (_m1 : m .galley = true) (_m2 : m .tensors = true) (_m3 : m .moves = true) (_m4 : m .impos = true) (_m5 : m .steps = true) (_m6 : m .groups = true) (_m7 : m .dies = true) (_m8 : m .links = true) (_m9 : m .hosts = true) (_m10 : m .twins = true) (_m11 : m .units = true) (_m12 : m .sources = true) (_m13 : m .regs = true) (_m14 : m .counters = true) (_m15 : m .msix = true) (_m16 : m .events = true) (_m17 : m .free = true) (_m18 : m .outputs = true) (h : Keep m s X) : KeepRes m s (execSectorRead a0 a1 a2 a3 X) := by
  unfold execSectorRead
  repeat' (first
    | (with_reducible assumption)
    | ((try lift_lets -underBinder); intro x; clear_value (e : x = _); (with_reducible refine keep_let (m := m) (s := s) e ?_ (fun _ => ?_) <;> clear e))
    | (with_reducible first
        | refine guarded_keep ?_
        | refine addrHole_keep (by assumption) (by assumption) (by assumption) (by assumption) ?_
        | refine sectorRead_keep (by assumption) (by assumption) (by assumption) (by assumption) (by assumption) (by assumption) (by assumption) (by assumption) (by assumption) (by assumption) (by assumption) (by assumption) (by assumption) (by assumption) (by assumption) (by assumption) (by assumption) (by assumption) (by assumption) ?_
        | refine consume_keep (by assumption) (by assumption) (by assumption) (by assumption) (by assumption) (by assumption) (by assumption) (by assumption) (by assumption) (by assumption) (by assumption) (by assumption) (by assumption) (by assumption) (by assumption) (by assumption) (by assumption) ?_)
    | split)

theorem execPatrolScrub_keep (_m0 : m .memory = true) (_m1 : m .galley = true) (_m2 : m .tensors = true) (_m3 : m .moves = true) (_m4 : m .impos = true) (_m5 : m .steps = true) (_m6 : m .groups = true) (_m7 : m .dies = true) (_m8 : m .links = true) (_m9 : m .hosts = true) (_m10 : m .twins = true) (_m11 : m .units = true) (_m12 : m .sources = true) (_m13 : m .regs = true) (_m14 : m .counters = true) (_m15 : m .msix = true) (_m16 : m .events = true) (_m17 : m .free = true) (_m18 : m .outputs = true) (h : Keep m s X) : KeepRes m s (execPatrolScrub a0 a1 a2 X) := by
  unfold execPatrolScrub
  repeat' (first
    | (with_reducible first
        | assumption | refine guarded_keep ?_
        | refine sectorRead_keep (by assumption) (by assumption) (by assumption) (by assumption) (by assumption) (by assumption) (by assumption) (by assumption) (by assumption) (by assumption) (by assumption) (by assumption) (by assumption) (by assumption) (by assumption) (by assumption) (by assumption) (by assumption) (by assumption) ?_)
    | split)

theorem execFullWrite_keep (_m0 : m .memory = true) (_m1 : m .units = true) (_m2 : m .regs = true) (_m3 : m .msix = true) (_m4 : m .events = true) (_m5 : m .outputs = true) (h : Keep m s X) : KeepRes m s (execFullWrite a0 a1 X) := by
  unfold execFullWrite
  repeat' (first
    | (with_reducible first
        | assumption | refine guarded_keep ?_
        | refine addrHole_keep (by assumption) (by assumption) (by assumption) (by assumption) ?_
        | refine dataWrite_keep (by assumption) (by assumption) ?_)
    | split)

theorem mergeRefused_keep (_m0 : m .galley = true) (_m1 : m .tensors = true) (_m2 : m .moves = true) (_m3 : m .impos = true) (_m4 : m .steps = true) (_m5 : m .groups = true) (_m6 : m .dies = true) (_m7 : m .links = true) (_m8 : m .hosts = true) (_m9 : m .units = true) (_m10 : m .sources = true) (_m11 : m .regs = true) (_m12 : m .counters = true) (_m13 : m .msix = true) (_m14 : m .events = true) (_m15 : m .free = true) (_m16 : m .outputs = true) (h : Keep m s X) : Keep m s (mergeRefused X a1 a2) := by
  unfold mergeRefused
  repeat' (first
    | (with_reducible assumption)
    | ((try lift_lets -underBinder); intro x; clear_value (e : x = _); first | (with_reducible refine keep_let (m := m) (s := s) e ?_ (fun _ => ?_) <;> clear e) | clear e)
    | (with_reducible first
        | refine chCapture_keep (by assumption) (by assumption) (by assumption) (by assumption) ?_
        | refine setCause_keep (by assumption) (by assumption) (by assumption) ?_
        | refine count_keep (by assumption) (by assumption) (by assumption) (by assumption) (by assumption) ?_
        | refine raiseEnd_keep (by assumption) ?_
        | refine tensorDamaged_keep (by assumption) (by assumption) (by assumption) (by assumption) (by assumption) (by assumption) (by assumption) (by assumption) (by assumption) (by assumption) (by assumption) (by assumption) (by assumption) (by assumption) (by assumption) (by assumption) (by assumption) ?_)
    | split)

theorem partialWrite_keep (_m0 : m .memory = true) (_m1 : m .galley = true) (_m2 : m .tensors = true) (_m3 : m .moves = true) (_m4 : m .impos = true) (_m5 : m .steps = true) (_m6 : m .groups = true) (_m7 : m .dies = true) (_m8 : m .links = true) (_m9 : m .hosts = true) (_m10 : m .twins = true) (_m11 : m .units = true) (_m12 : m .sources = true) (_m13 : m .regs = true) (_m14 : m .counters = true) (_m15 : m .msix = true) (_m16 : m .events = true) (_m17 : m .free = true) (_m18 : m .outputs = true) (h : Keep m s X) : Keep m s (partialWrite X a1 a2 a3) := by
  unfold partialWrite
  repeat' (first
    | (with_reducible assumption)
    | ((try lift_lets -underBinder); intro x; clear_value (e : x = _); first | (with_reducible refine keep_let (m := m) (s := s) e ?_ (fun _ => ?_) <;> clear e) | clear e)
    | (with_reducible first
        | refine mergeRefused_keep (by assumption) (by assumption) (by assumption) (by assumption) (by assumption) (by assumption) (by assumption) (by assumption) (by assumption) (by assumption) (by assumption) (by assumption) (by assumption) (by assumption) (by assumption) (by assumption) (by assumption) ?_
        | refine sectorUncorrectable_keep (by assumption) (by assumption) (by assumption) (by assumption) (by assumption) (by assumption) (by assumption) (by assumption) (by assumption) (by assumption) (by assumption) (by assumption) (by assumption) (by assumption) (by assumption) (by assumption) (by assumption) (by assumption) (by assumption) ?_
        | refine sectorCorrected_keep (by assumption) (by assumption) (by assumption) (by assumption) (by assumption) ?_
        | refine dataWrite_keep (by assumption) (by assumption) ?_)
    | split)

theorem execPartialWrite_keep (_m0 : m .memory = true) (_m1 : m .galley = true) (_m2 : m .tensors = true) (_m3 : m .moves = true) (_m4 : m .impos = true) (_m5 : m .steps = true) (_m6 : m .groups = true) (_m7 : m .dies = true) (_m8 : m .links = true) (_m9 : m .hosts = true) (_m10 : m .twins = true) (_m11 : m .units = true) (_m12 : m .sources = true) (_m13 : m .regs = true) (_m14 : m .counters = true) (_m15 : m .msix = true) (_m16 : m .events = true) (_m17 : m .free = true) (_m18 : m .outputs = true) (h : Keep m s X) : KeepRes m s (execPartialWrite a0 a1 a2 X) := by
  unfold execPartialWrite
  repeat' (first
    | (with_reducible first
        | assumption | refine guarded_keep ?_
        | refine addrHole_keep (by assumption) (by assumption) (by assumption) (by assumption) ?_
        | refine partialWrite_keep (by assumption) (by assumption) (by assumption) (by assumption) (by assumption) (by assumption) (by assumption) (by assumption) (by assumption) (by assumption) (by assumption) (by assumption) (by assumption) (by assumption) (by assumption) (by assumption) (by assumption) (by assumption) (by assumption) ?_)
    | split)

theorem xorParity_keep (_m0 : m .memory = true) (_m1 : m .galley = true) (_m2 : m .tensors = true) (_m3 : m .moves = true) (_m4 : m .impos = true) (_m5 : m .steps = true) (_m6 : m .groups = true) (_m7 : m .dies = true) (_m8 : m .links = true) (_m9 : m .hosts = true) (_m10 : m .units = true) (_m11 : m .sources = true) (_m12 : m .regs = true) (_m13 : m .counters = true) (_m14 : m .msix = true) (_m15 : m .events = true) (_m16 : m .free = true) (_m17 : m .outputs = true) (h : Keep m s X) : Keep m s (xorParity X a1 a2) := by
  unfold xorParity
  repeat' (first
    | (with_reducible assumption)
    | ((try lift_lets -underBinder); intro x; clear_value (e : x = _); clear e)
    | (with_reducible first
        | refine mergeRefused_keep (by assumption) (by assumption) (by assumption) (by assumption) (by assumption) (by assumption) (by assumption) (by assumption) (by assumption) (by assumption) (by assumption) (by assumption) (by assumption) (by assumption) (by assumption) (by assumption) (by assumption) ?_
        | refine putT1_keep (by assumption) ?_ | refine keep_foldl (fun _ _ _ => ?_) ?_)
    | split)

theorem execParityXor_keep (_m0 : m .memory = true) (_m1 : m .galley = true) (_m2 : m .tensors = true) (_m3 : m .moves = true) (_m4 : m .impos = true) (_m5 : m .steps = true) (_m6 : m .groups = true) (_m7 : m .dies = true) (_m8 : m .links = true) (_m9 : m .hosts = true) (_m10 : m .units = true) (_m11 : m .sources = true) (_m12 : m .regs = true) (_m13 : m .counters = true) (_m14 : m .msix = true) (_m15 : m .events = true) (_m16 : m .free = true) (_m17 : m .outputs = true) (h : Keep m s X) : KeepRes m s (execParityXor a0 a1 X) := by
  unfold execParityXor
  repeat' (first
    | (with_reducible assumption)
    | ((try lift_lets -underBinder); intro x; clear_value (e : x = _); first | (with_reducible refine keep_let (m := m) (s := s) e ?_ (fun _ => ?_) <;> clear e) | clear e)
    | (with_reducible first
        | refine State_setChan_keep (by assumption) ?_
        | refine xorParity_keep (by assumption) (by assumption) (by assumption) (by assumption) (by assumption) (by assumption) (by assumption) (by assumption) (by assumption) (by assumption) (by assumption) (by assumption) (by assumption) (by assumption) (by assumption) (by assumption) (by assumption) (by assumption) ?_
        | refine keepRes_next ?_)
    | split)

theorem execAppendPromotion_keep (h : Keep m s X) : KeepRes m s (execAppendPromotion a0 a1 X) := by
  unfold execAppendPromotion
  repeat' (with_reducible first | assumption | refine keepRes_next ?_)

theorem execCeLimit_keep (_m0 : m .memory = true) (_m1 : m .galley = true) (_m2 : m .tensors = true) (_m3 : m .moves = true) (_m4 : m .impos = true) (_m5 : m .steps = true) (_m6 : m .groups = true) (_m7 : m .dies = true) (_m8 : m .links = true) (_m9 : m .hosts = true) (_m10 : m .twins = true) (_m11 : m .units = true) (_m12 : m .sources = true) (_m13 : m .regs = true) (_m14 : m .counters = true) (_m15 : m .msix = true) (_m16 : m .events = true) (_m17 : m .free = true) (_m18 : m .outputs = true) (h : Keep m s X) : KeepRes m s (execCeLimit a0 a1 X) := by
  unfold execCeLimit
  repeat' (first
    | (with_reducible assumption)
    | ((try lift_lets -underBinder); intro x; clear_value (e : x = _); clear e)
    | (with_reducible first
        | refine beginMapout_keep (by assumption) (by assumption) (by assumption) (by assumption) (by assumption) (by assumption) (by assumption) (by assumption) (by assumption) (by assumption) (by assumption) (by assumption) (by assumption) (by assumption) (by assumption) (by assumption) (by assumption) (by assumption) (by assumption) ?_
        | refine setCause_keep (by assumption) (by assumption) (by assumption) ?_
        | refine keepRes_next ?_)
    | split)

theorem execUeLimit_keep (_m0 : m .memory = true) (_m1 : m .galley = true) (_m2 : m .tensors = true) (_m3 : m .moves = true) (_m4 : m .impos = true) (_m5 : m .steps = true) (_m6 : m .groups = true) (_m7 : m .dies = true) (_m8 : m .links = true) (_m9 : m .hosts = true) (_m10 : m .twins = true) (_m11 : m .units = true) (_m12 : m .sources = true) (_m13 : m .regs = true) (_m14 : m .counters = true) (_m15 : m .msix = true) (_m16 : m .events = true) (_m17 : m .free = true) (_m18 : m .outputs = true) (h : Keep m s X) : KeepRes m s (execUeLimit a0 a1 X) := by
  unfold execUeLimit
  repeat' (first
    | (with_reducible first
        | assumption
        | refine beginMapout_keep (by assumption) (by assumption) (by assumption) (by assumption) (by assumption) (by assumption) (by assumption) (by assumption) (by assumption) (by assumption) (by assumption) (by assumption) (by assumption) (by assumption) (by assumption) (by assumption) (by assumption) (by assumption) (by assumption) ?_
        | refine keepRes_next ?_)
    | split)

theorem execLimitWindowRestart_keep (_m0 : m .units = true) (_m1 : m .regs = true) (h : Keep m s X) : KeepRes m s (execLimitWindowRestart a0 a1 a2 X) := by
  unfold execLimitWindowRestart
  repeat' (first
    | (with_reducible assumption)
    | ((try lift_lets -underBinder); intro x; clear_value (e : x = _); clear e)
    | (with_reducible first
        | refine putFld_keep (by assumption) ?_ | refine State_setChan_keep (by assumption) ?_
        | refine keepRes_next ?_)
    | split)

theorem execHwFail_keep (_m0 : m .memory = true) (_m1 : m .galley = true) (_m2 : m .tensors = true) (_m3 : m .moves = true) (_m4 : m .impos = true) (_m5 : m .steps = true) (_m6 : m .groups = true) (_m7 : m .dies = true) (_m8 : m .links = true) (_m9 : m .hosts = true) (_m10 : m .twins = true) (_m11 : m .units = true) (_m12 : m .sources = true) (_m13 : m .regs = true) (_m14 : m .counters = true) (_m15 : m .msix = true) (_m16 : m .events = true) (_m17 : m .free = true) (_m18 : m .outputs = true) (h : Keep m s X) : KeepRes m s (execHwFail a0 a1 a2 X) := by
  unfold execHwFail
  repeat' (first
    | (with_reducible first
        | assumption | refine guarded_keep ?_
        | refine beginMapout_keep (by assumption) (by assumption) (by assumption) (by assumption) (by assumption) (by assumption) (by assumption) (by assumption) (by assumption) (by assumption) (by assumption) (by assumption) (by assumption) (by assumption) (by assumption) (by assumption) (by assumption) (by assumption) (by assumption) ?_
        | refine capture_keep (by assumption) (by assumption) (by assumption) (by assumption) ?_)
    | split)

theorem execChMapout_keep (_m0 : m .memory = true) (_m1 : m .galley = true) (_m2 : m .tensors = true) (_m3 : m .moves = true) (_m4 : m .impos = true) (_m5 : m .steps = true) (_m6 : m .groups = true) (_m7 : m .dies = true) (_m8 : m .links = true) (_m9 : m .hosts = true) (_m10 : m .twins = true) (_m11 : m .units = true) (_m12 : m .sources = true) (_m13 : m .regs = true) (_m14 : m .counters = true) (_m15 : m .msix = true) (_m16 : m .events = true) (_m17 : m .waits = true) (_m18 : m .free = true) (_m19 : m .outputs = true) (h : Keep m s X) : KeepRes m s (execChMapout a0 X) := by
  unfold execChMapout
  repeat' (first
    | (with_reducible first
        | assumption | refine guarded_keep ?_
        | refine serveWrite_keep (by assumption) (by assumption) (by assumption) (by assumption) (by assumption) (by assumption) ?_ (fun _ _ _ _ _ _ => ?_)
        | refine refuseAccess_keep (by assumption) (by assumption) (by assumption) (by assumption) (by assumption) ?_
        | refine beginMapout_keep (by assumption) (by assumption) (by assumption) (by assumption) (by assumption) (by assumption) (by assumption) (by assumption) (by assumption) (by assumption) (by assumption) (by assumption) (by assumption) (by assumption) (by assumption) (by assumption) (by assumption) (by assumption) (by assumption) ?_)
    | split)

theorem copyLost_keep (_m0 : m .memory = true) (_m1 : m .galley = true) (_m2 : m .tensors = true) (_m3 : m .moves = true) (_m4 : m .impos = true) (_m5 : m .steps = true) (_m6 : m .groups = true) (_m7 : m .dies = true) (_m8 : m .links = true) (_m9 : m .hosts = true) (_m10 : m .twins = true) (_m11 : m .units = true) (_m12 : m .sources = true) (_m13 : m .regs = true) (_m14 : m .counters = true) (_m15 : m .msix = true) (_m16 : m .events = true) (_m17 : m .free = true) (_m18 : m .outputs = true) (h : Keep m s X) : Keep m s (copyLost X a1) := by
  unfold copyLost
  repeat' (first
    | (with_reducible assumption)
    | ((try lift_lets -underBinder); intro x; clear_value (e : x = _); clear e)
    | (with_reducible first
        | refine tensorDamaged_keep (by assumption) (by assumption) (by assumption) (by assumption) (by assumption) (by assumption) (by assumption) (by assumption) (by assumption) (by assumption) (by assumption) (by assumption) (by assumption) (by assumption) (by assumption) (by assumption) (by assumption) ?_
        | refine State_skipEntry_keep (by assumption) ?_ | refine raiseEnd_keep (by assumption) ?_
        | refine State_setTree_keep (by assumption) ?_
        | refine refuseMirror_keep (by assumption) (by assumption) (by assumption) (by assumption) (by assumption) (by assumption) (by assumption) (by assumption) ?_)
    | split)

theorem execDrainCopyDone_keep (_m0 : m .memory = true) (_m1 : m .galley = true) (_m2 : m .tensors = true) (_m3 : m .moves = true) (_m4 : m .impos = true) (_m5 : m .steps = true) (_m6 : m .groups = true) (_m7 : m .dies = true) (_m8 : m .links = true) (_m9 : m .hosts = true) (_m10 : m .twins = true) (_m11 : m .units = true) (_m12 : m .sources = true) (_m13 : m .regs = true) (_m14 : m .counters = true) (_m15 : m .msix = true) (_m16 : m .events = true) (_m17 : m .waits = true) (_m18 : m .free = true) (_m19 : m .outputs = true) (h : Keep m s X) : KeepRes m s (execDrainCopyDone a0 X) := by
  unfold execDrainCopyDone
  repeat' (first
    | (with_reducible assumption)
    | ((try lift_lets -underBinder); intro x; clear_value (e : x = _); clear e)
    | (with_reducible first
        | refine copyLost_keep (by assumption) (by assumption) (by assumption) (by assumption) (by assumption) (by assumption) (by assumption) (by assumption) (by assumption) (by assumption) (by assumption) (by assumption) (by assumption) (by assumption) (by assumption) (by assumption) (by assumption) (by assumption) (by assumption) ?_
        | refine keepRes_next ?_)
    | split
    | (with_reducible refine keep_mk ?_))

theorem noteRestored_keep (_m0 : m .units = true) (h : Keep m s X) : Keep m s (noteRestored X a1 a2) := by
  unfold noteRestored
  repeat' (first
    | (with_reducible assumption)
    | split
    | (with_reducible refine keep_mk ?_))

theorem restoreExtent_keep (_m0 : m .memory = true) (_m1 : m .galley = true) (_m2 : m .tensors = true) (_m3 : m .moves = true) (_m4 : m .steps = true) (_m5 : m .dies = true) (_m6 : m .nvs = true) (_m7 : m .hosts = true) (_m8 : m .units = true) (_m9 : m .sources = true) (_m10 : m .regs = true) (_m11 : m .counters = true) (_m12 : m .msix = true) (_m13 : m .events = true) (_m14 : m .waits = true) (_m15 : m .outputs = true) (h : Keep m s X) : Keep m s (restoreExtent X a1 a2 a3) := by
  unfold restoreExtent
  repeat' (first
    | (with_reducible assumption)
    | ((try lift_lets -underBinder); intro x; clear_value (e : x = _); (with_reducible refine keep_let (m := m) (s := s) e ?_ (fun _ => ?_) <;> clear e))
    | (with_reducible first
        | refine clearExtentPoison_keep (by assumption) ?_
        | refine putExtent_keep (by assumption) ?_
        | refine startMoves_keep (by assumption) (by assumption) (by assumption) (by assumption) (by assumption) (by assumption) (by assumption) (by assumption) (by assumption) ?_
        | refine finishMapouts_keep (by assumption) (by assumption) (by assumption) (by assumption) (by assumption) (by assumption) (by assumption) ?_
        | refine switchExtentNow_keep (by assumption) (by assumption) (by assumption) ?_)
    | split
    | (with_reducible refine keep_mk ?_))

theorem restoreFails_keep (_m0 : m .galley = true) (_m1 : m .impos = true) (_m2 : m .steps = true) (_m3 : m .groups = true) (_m4 : m .links = true) (_m5 : m .twins = true) (_m6 : m .units = true) (_m7 : m .regs = true) (_m8 : m .counters = true) (_m9 : m .msix = true) (_m10 : m .events = true) (_m11 : m .free = true) (_m12 : m .outputs = true) (h : Keep m s X) : Keep m s (restoreFails X a1) := by
  unfold restoreFails
  repeat' (first
    | (with_reducible first
        | assumption
        | refine failStop_keep (by assumption) (by assumption) (by assumption) (by assumption) (by assumption) (by assumption) (by assumption) (by assumption) (by assumption) (by assumption) (by assumption) (by assumption) (by assumption) ?_
        | refine noteRestored_keep (by assumption) ?_ | refine raiseEnd_keep (by assumption) ?_)
    | split)

theorem restoreRequest_keep (_m0 : m .memory = true) (_m1 : m .units = true) (_m2 : m .waits = true) (h : Keep m s X) : Keep m s (restoreRequest X a1 a2 a3) := by
  unfold restoreRequest
  repeat' (first
    | (with_reducible assumption)
    | ((try lift_lets -underBinder); intro x; clear_value (e : x = _); (with_reducible refine keep_let (m := m) (s := s) e ?_ (fun _ => ?_) <;> clear e))
    | (with_reducible first
        | refine putImage_keep (by assumption) (by assumption) ?_ | refine keep_mk ?_))

theorem execRestoreDone_keep (_m0 : m .memory = true) (_m1 : m .galley = true) (_m2 : m .tensors = true) (_m3 : m .moves = true) (_m4 : m .impos = true) (_m5 : m .steps = true) (_m6 : m .groups = true) (_m7 : m .dies = true) (_m8 : m .nvs = true) (_m9 : m .links = true) (_m10 : m .hosts = true) (_m11 : m .twins = true) (_m12 : m .units = true) (_m13 : m .sources = true) (_m14 : m .regs = true) (_m15 : m .counters = true) (_m16 : m .msix = true) (_m17 : m .events = true) (_m18 : m .waits = true) (_m19 : m .free = true) (_m20 : m .outputs = true) (h : Keep m s X) : KeepRes m s (execRestoreDone a0 a1 X) := by
  unfold execRestoreDone
  repeat' (first
    | (with_reducible assumption)
    | ((try lift_lets -underBinder); intro x; clear_value (e : x = _); clear e)
    | (with_reducible first
        | refine restoreExtent_keep (by assumption) (by assumption) (by assumption) (by assumption) (by assumption) (by assumption) (by assumption) (by assumption) (by assumption) (by assumption) (by assumption) (by assumption) (by assumption) (by assumption) (by assumption) (by assumption) ?_
        | refine noteRestored_keep (by assumption) ?_
        | refine restoreFails_keep (by assumption) (by assumption) (by assumption) (by assumption) (by assumption) (by assumption) (by assumption) (by assumption) (by assumption) (by assumption) (by assumption) (by assumption) (by assumption) ?_
        | refine restoreRequest_keep (by assumption) (by assumption) (by assumption) ?_
        | refine keepRes_next ?_)
    | split)

theorem rebuildPage_keep (_m0 : m .memory = true) (_m1 : m .galley = true) (_m2 : m .tensors = true) (_m3 : m .moves = true) (_m4 : m .impos = true) (_m5 : m .steps = true) (_m6 : m .groups = true) (_m7 : m .dies = true) (_m8 : m .links = true) (_m9 : m .hosts = true) (_m10 : m .units = true) (_m11 : m .sources = true) (_m12 : m .regs = true) (_m13 : m .counters = true) (_m14 : m .msix = true) (_m15 : m .events = true) (_m16 : m .free = true) (_m17 : m .outputs = true) (h : Keep m s X) : Keep m s (rebuildPage X a1 a2 a3) := by
  unfold rebuildPage
  repeat' (first
    | (with_reducible assumption)
    | ((try lift_lets -underBinder); intro x; clear_value (e : x = _); first | (with_reducible refine keep_let (m := m) (s := s) e ?_ (fun _ => ?_) <;> clear e) | clear e)
    | (with_reducible first
        | refine dataWrite_keep (by assumption) (by assumption) ?_
        | refine xorParity_keep (by assumption) (by assumption) (by assumption) (by assumption) (by assumption) (by assumption) (by assumption) (by assumption) (by assumption) (by assumption) (by assumption) (by assumption) (by assumption) (by assumption) (by assumption) (by assumption) (by assumption) (by assumption) ?_)
    | split)

theorem execRebuildDone_keep (_m0 : m .memory = true) (_m1 : m .galley = true) (_m2 : m .tensors = true) (_m3 : m .moves = true) (_m4 : m .impos = true) (_m5 : m .steps = true) (_m6 : m .groups = true) (_m7 : m .dies = true) (_m8 : m .links = true) (_m9 : m .hosts = true) (_m10 : m .units = true) (_m11 : m .sources = true) (_m12 : m .regs = true) (_m13 : m .counters = true) (_m14 : m .msix = true) (_m15 : m .events = true) (_m16 : m .waits = true) (_m17 : m .free = true) (_m18 : m .outputs = true) (h : Keep m s X) : KeepRes m s (execRebuildDone a0 a1 a2 a3 X) := by
  unfold execRebuildDone
  repeat' (first
    | (with_reducible assumption)
    | ((try lift_lets -underBinder); intro x; clear_value (e : x = _); first | (with_reducible refine keep_let (m := m) (s := s) e ?_ (fun _ => ?_) <;> clear e) | clear e)
    | (with_reducible first
        | refine rebuildPage_keep (by assumption) (by assumption) (by assumption) (by assumption) (by assumption) (by assumption) (by assumption) (by assumption) (by assumption) (by assumption) (by assumption) (by assumption) (by assumption) (by assumption) (by assumption) (by assumption) (by assumption) (by assumption) ?_
        | refine noteRestored_keep (by assumption) ?_ | refine putFld_keep (by assumption) ?_
        | refine keep_foldl (fun _ _ _ => ?_) ?_ | refine keepRes_next ?_)
    | split
    | (with_reducible refine keep_mk ?_))

theorem execQuireParityMoved_keep (_m0 : m .waits = true) (h : Keep m s X) : KeepRes m s (execQuireParityMoved a0 a1 a2 X) := by
  unfold execQuireParityMoved
  repeat' (first
    | (with_reducible assumption)
    | ((try lift_lets -underBinder); intro x; clear_value (e : x = _); clear e)
    | (with_reducible refine keepRes_next ?_)
    | split
    | (with_reducible refine keep_mk ?_))

end Sys2Proof.Machine
end

