-- ==== Sys2Proof/Laws/KeepUnits.lean ====
section
/-!
SUPPORT. What the operations and meanings of Machine/Units.lean keep (`Keep`).
-/
set_option Elab.async false
set_option linter.all false
namespace Sys2Proof.Machine

theorem writeT0_keep (_m0 : m .memory = true) (h : Keep m s X) : Keep m s (writeT0 X a1 a2 a3 a4) := by
  unfold writeT0
  repeat' (first
    | (with_reducible assumption)
    | split
    | (with_reducible refine keep_mk ?_))

theorem signalToken_keep (_m0 : m .steps = true) (h : Keep m s X) : Keep m s (signalToken X a1 a2) := by
  unfold signalToken
  repeat' (first
    | (with_reducible assumption)
    | ((try lift_lets -underBinder); intro x; clear_value (e : x = _); clear e)
    | (with_reducible refine keep_mk ?_))

theorem onSlots_keep (_m0 : m .steps = true) (h : Keep m s X) : Keep m s (onSlots X a1 a2 a3) := by
  unfold onSlots
  repeat' (first
    | (with_reducible assumption)
    | ((try lift_lets -underBinder); intro x; clear_value (e : x = _); first | (have _ := fun a => x a; subst e; try dsimp -zeta only) | clear e)
    | (with_reducible refine keep_mk ?_))

theorem voidRequest_keep (_m0 : m .steps = true) (h : Keep m s X) : Keep m s (voidRequest X a1 a2) := by
  unfold voidRequest
  repeat' (with_reducible first | assumption | refine onSlots_keep (by assumption) ?_)

theorem flagRequest_keep (_m0 : m .steps = true) (h : Keep m s X) : Keep m s (flagRequest X a1 a2 a3) := by
  unfold flagRequest
  repeat' (with_reducible first | assumption | refine onSlots_keep (by assumption) ?_)

end Sys2Proof.Machine
end

