-- ==== Sys2Proof/Laws/KeepCoreDie.lean ====
section
/-!
SUPPORT. What the operations and meanings of Machine/CoreDie.lean keep (`Keep`).
-/
set_option Elab.async false
set_option linter.all false
namespace Sys2Proof.Machine

theorem coreCapture_keep (_m0 : m .regs = true) (_m1 : m .msix = true) (_m2 : m .events = true) (_m3 : m .outputs = true) (h : Keep m s X) : Keep m s (coreCapture X a1 a2 a3 a4 a5 a6) := by
  unfold coreCapture
  repeat' (with_reducible first
      | assumption
      | refine capture_keep (by assumption) (by assumption) (by assumption) (by assumption) ?_)

theorem addHold_keep (_m0 : m .steps = true) (h : Keep m s X) : Keep m s (addHold X a1) := by
  unfold addHold
  repeat' (first
    | (with_reducible assumption)
    | ((try lift_lets -underBinder); intro x; clear_value (e : x = _); clear e)
    | (with_reducible refine keep_mk ?_))

theorem dropHold_keep (_m0 : m .steps = true) (h : Keep m s X) : Keep m s (dropHold X a1) := by
  unfold dropHold
  repeat' (first
    | (with_reducible assumption)
    | ((try lift_lets -underBinder); intro x; clear_value (e : x = _); clear e)
    | (with_reducible refine keep_mk ?_))

theorem failCore_keep (_m0 : m .galley = true) (_m1 : m .impos = true) (_m2 : m .steps = true) (_m3 : m .groups = true) (_m4 : m .dies = true) (_m5 : m .nvs = true) (_m6 : m .links = true) (_m7 : m .twins = true) (_m8 : m .units = true) (_m9 : m .regs = true) (_m10 : m .counters = true) (_m11 : m .msix = true) (_m12 : m .events = true) (_m13 : m .waits = true) (_m14 : m .free = true) (_m15 : m .outputs = true) (h : Keep m s X) : Keep m s (failCore X a1 a2 a3 a4 a5) := by
  unfold failCore
  repeat' (first
    | (with_reducible assumption)
    | ((try lift_lets -underBinder); intro x; clear_value (e : x = _); (with_reducible refine keep_let (m := m) (s := s) e ?_ (fun _ => ?_) <;> clear e))
    | (with_reducible first
        | refine setCause_keep (by assumption) (by assumption) (by assumption) ?_
        | refine coreCapture_keep (by assumption) (by assumption) (by assumption) (by assumption) ?_
        | refine fallowAdd_keep (by assumption) ?_ | refine setCoreId_keep (by assumption) ?_
        | refine putBit_keep (by assumption) ?_
        | refine abandonWith_keep (by assumption) (by assumption) (by assumption) (by assumption) (by assumption) (by assumption) (by assumption) (by assumption) (by assumption) (by assumption) (by assumption) (by assumption) ?_
        | refine addHold_keep (by assumption) ?_
        | refine dieLost_keep (by assumption) (by assumption) (by assumption) (by assumption) (by assumption) (by assumption) (by assumption) (by assumption) (by assumption) (by assumption) (by assumption) (by assumption) (by assumption) (by assumption) (by assumption) ?_
        | refine dieExhausted_keep (by assumption) (by assumption) (by assumption) (by assumption) (by assumption) ?_)
    | split)

theorem execT0Ue_keep (_m0 : m .galley = true) (_m1 : m .impos = true) (_m2 : m .steps = true) (_m3 : m .groups = true) (_m4 : m .dies = true) (_m5 : m .nvs = true) (_m6 : m .links = true) (_m7 : m .twins = true) (_m8 : m .units = true) (_m9 : m .regs = true) (_m10 : m .counters = true) (_m11 : m .msix = true) (_m12 : m .events = true) (_m13 : m .waits = true) (_m14 : m .free = true) (_m15 : m .outputs = true) (h : Keep m s X) : KeepRes m s (execT0Ue a0 a1 a2 a3 X) := by
  unfold execT0Ue
  repeat' (with_reducible first
      | assumption
      | refine failCore_keep (by assumption) (by assumption) (by assumption) (by assumption) (by assumption) (by assumption) (by assumption) (by assumption) (by assumption) (by assumption) (by assumption) (by assumption) (by assumption) (by assumption) (by assumption) (by assumption) ?_
      | refine keepRes_next ?_)

theorem execCoreParity_keep (_m0 : m .galley = true) (_m1 : m .impos = true) (_m2 : m .steps = true) (_m3 : m .groups = true) (_m4 : m .dies = true) (_m5 : m .nvs = true) (_m6 : m .links = true) (_m7 : m .twins = true) (_m8 : m .units = true) (_m9 : m .regs = true) (_m10 : m .counters = true) (_m11 : m .msix = true) (_m12 : m .events = true) (_m13 : m .waits = true) (_m14 : m .free = true) (_m15 : m .outputs = true) (h : Keep m s X) : KeepRes m s (execCoreParity a0 a1 a2 a3 X) := by
  unfold execCoreParity
  repeat' (with_reducible first
      | assumption | refine guarded_keep ?_
      | refine failCore_keep (by assumption) (by assumption) (by assumption) (by assumption) (by assumption) (by assumption) (by assumption) (by assumption) (by assumption) (by assumption) (by assumption) (by assumption) (by assumption) (by assumption) (by assumption) (by assumption) ?_)

theorem execCoreHang_keep (_m0 : m .galley = true) (_m1 : m .impos = true) (_m2 : m .steps = true) (_m3 : m .groups = true) (_m4 : m .dies = true) (_m5 : m .nvs = true) (_m6 : m .links = true) (_m7 : m .twins = true) (_m8 : m .units = true) (_m9 : m .regs = true) (_m10 : m .counters = true) (_m11 : m .msix = true) (_m12 : m .events = true) (_m13 : m .waits = true) (_m14 : m .free = true) (_m15 : m .outputs = true) (h : Keep m s X) : KeepRes m s (execCoreHang a0 a1 a2 a3 X) := by
  unfold execCoreHang
  repeat' (first
    | (with_reducible first
        | assumption
        | refine failCore_keep (by assumption) (by assumption) (by assumption) (by assumption) (by assumption) (by assumption) (by assumption) (by assumption) (by assumption) (by assumption) (by assumption) (by assumption) (by assumption) (by assumption) (by assumption) (by assumption) ?_
        | refine keepRes_next ?_)
    | split)

theorem execSpareWake_keep (_m0 : m .memory = true) (_m1 : m .steps = true) (h : Keep m s X) : KeepRes m s (execSpareWake a0 a1 X) := by
  unfold execSpareWake
  repeat' (first
    | (with_reducible first
        | assumption | refine addHold_keep (by assumption) ?_
        | refine dropHold_keep (by assumption) ?_ | refine wipeT0_keep (by assumption) ?_
        | refine keepRes_next ?_)
    | split)

theorem noteTakeover_keep (_m0 : m .regs = true) (h : Keep m s X) : Keep m s (noteTakeover X a1 a2 a3) := by
  unfold noteTakeover
  repeat' (first
    | (with_reducible assumption)
    | ((try lift_lets -underBinder); intro x; clear_value (e : x = _); first | (with_reducible refine keep_let (m := m) (s := s) e ?_ (fun _ => ?_) <;> clear e) | clear e)
    | (with_reducible first
        | refine putBit_keep (by assumption) ?_ | refine putFld_keep (by assumption) ?_)
    | split)

theorem takeOver_keep (_m0 : m .memory = true) (_m1 : m .regs = true) (_m2 : m .msix = true) (_m3 : m .events = true) (_m4 : m .outputs = true) (h : Keep m s X) : Keep m s (takeOver X a1 a2 a3 a4) := by
  unfold takeOver
  repeat' (first
    | (with_reducible assumption)
    | ((try lift_lets -underBinder); intro x; clear_value (e : x = _); first | (with_reducible refine keep_let (m := m) (s := s) e ?_ (fun _ => ?_) <;> clear e) | clear e)
    | (with_reducible first
        | refine setCoreOwner_keep (by assumption) ?_ | refine setCoreId_keep (by assumption) ?_
        | refine mapCore_keep (by assumption) ?_
        | refine writeResident_keep (by assumption) (by assumption) ?_
        | refine raiseEvent_keep (by assumption) (by assumption) (by assumption) (by assumption) ?_
        | refine noteTakeover_keep (by assumption) ?_)
    | split)

theorem execSpareTaken_keep (_m0 : m .memory = true) (_m1 : m .steps = true) (_m2 : m .regs = true) (_m3 : m .msix = true) (_m4 : m .events = true) (_m5 : m .outputs = true) (h : Keep m s X) : KeepRes m s (execSpareTaken a0 a1 X) := by
  unfold execSpareTaken
  repeat' (first
    | (with_reducible assumption)
    | ((try lift_lets -underBinder); intro x; clear_value (e : x = _); clear e)
    | (with_reducible first
        | refine takeOver_keep (by assumption) (by assumption) (by assumption) (by assumption) (by assumption) ?_
        | refine dropHold_keep (by assumption) ?_ | refine keepRes_next ?_)
    | split)

theorem t0Corrected_keep (_m0 : m .regs = true) (_m1 : m .counters = true) (_m2 : m .msix = true) (_m3 : m .events = true) (_m4 : m .outputs = true) (h : Keep m s X) : Keep m s (t0Corrected X a1 a2) := by
  unfold t0Corrected
  repeat' (with_reducible first
      | assumption | refine setCause_keep (by assumption) (by assumption) (by assumption) ?_
      | refine count_keep (by assumption) (by assumption) (by assumption) (by assumption) (by assumption) ?_)

theorem execT0Scrub_keep (_m0 : m .galley = true) (_m1 : m .impos = true) (_m2 : m .steps = true) (_m3 : m .groups = true) (_m4 : m .dies = true) (_m5 : m .nvs = true) (_m6 : m .links = true) (_m7 : m .twins = true) (_m8 : m .units = true) (_m9 : m .regs = true) (_m10 : m .counters = true) (_m11 : m .msix = true) (_m12 : m .events = true) (_m13 : m .waits = true) (_m14 : m .free = true) (_m15 : m .outputs = true) (h : Keep m s X) : KeepRes m s (execT0Scrub a0 a1 a2 a3 X) := by
  unfold execT0Scrub
  repeat' (first
    | (with_reducible first
        | assumption
        | refine t0Corrected_keep (by assumption) (by assumption) (by assumption) (by assumption) (by assumption) ?_
        | refine failCore_keep (by assumption) (by assumption) (by assumption) (by assumption) (by assumption) (by assumption) (by assumption) (by assumption) (by assumption) (by assumption) (by assumption) (by assumption) (by assumption) (by assumption) (by assumption) (by assumption) ?_
        | refine keepRes_next ?_)
    | split)

end Sys2Proof.Machine
end

