-- ==== Sys2Proof/Laws/KeepFormes.lean ====
section
/-!
SUPPORT. What the operations and meanings of Machine/Formes.lean keep (`Keep`).
-/
set_option Elab.async false
set_option linter.all false
namespace Sys2Proof.Machine

theorem formeOp_keep (_m0 : m .regs = true) (_m1 : m .counters = true) (_m2 : m .msix = true) (_m3 : m .events = true) (_m4 : m .waits = true) (_m5 : m .outputs = true) (h : Keep m s X) (hf3 : ∀ x0 x1, Keep m s x0 → Keep m s (f3 x0 x1)) : KeepRes m s (formeOp a0 a1 X f3) := by
  unfold formeOp
  repeat' (first
    | (with_reducible assumption)
    | ((try lift_lets -underBinder); intro x; clear_value (e : x = _); first | (with_reducible refine keep_let (m := m) (s := s) e ?_ (fun _ => ?_) <;> clear e) | clear e)
    | (with_reducible first
        | apply hf3 | refine guarded_keep ?_
        | refine serveWrite_keep (by assumption) (by assumption) (by assumption) (by assumption) (by assumption) (by assumption) ?_ (fun _ _ _ _ _ _ => ?_)
        | refine writePlain_keep (by assumption) (by assumption) (by assumption) ?_
        | refine putFld_keep (by assumption) ?_ | refine putBit_keep (by assumption) ?_)
    | split)

theorem execLoadForme_keep (_m0 : m .impos = true) (_m1 : m .regs = true) (_m2 : m .counters = true) (_m3 : m .msix = true) (_m4 : m .events = true) (_m5 : m .waits = true) (_m6 : m .outputs = true) (h : Keep m s X) : KeepRes m s (execLoadForme a0 X) := by
  unfold execLoadForme
  repeat' (first
    | (with_reducible assumption)
    | ((try lift_lets -underBinder); intro x; clear_value (e : x = _); first | (with_reducible refine keep_let (m := m) (s := s) e ?_ (fun _ => ?_) <;> clear e) | clear e)
    | (with_reducible first
        | refine formeOp_keep (by assumption) (by assumption) (by assumption) (by assumption) (by assumption) (by assumption) ?_ (fun _ _ _ => ?_)
        | refine State_setImpo_keep (by assumption) ?_)
    | split
    | (with_reducible refine keep_mk ?_))

theorem execFormeDone_keep (_m0 : m .impos = true) (_m1 : m .regs = true) (_m2 : m .counters = true) (_m3 : m .msix = true) (_m4 : m .events = true) (_m5 : m .outputs = true) (h : Keep m s X) : KeepRes m s (execFormeDone X) := by
  unfold execFormeDone
  repeat' (first
    | (with_reducible assumption)
    | ((try lift_lets -underBinder); intro x; clear_value (e : x = _); first | (with_reducible refine keep_let (m := m) (s := s) e ?_ (fun _ => ?_) <;> clear e) | clear e)
    | (with_reducible first
        | refine formeDone_keep (by assumption) (by assumption) (by assumption) ?_
        | refine State_setImpo_keep (by assumption) ?_
        | refine hedgeViolation_keep (by assumption) (by assumption) (by assumption) (by assumption) (by assumption) ?_
        | refine keepRes_next ?_)
    | split
    | (with_reducible refine keep_mk ?_))

theorem execActivate_keep (_m0 : m .groups = true) (_m1 : m .links = true) (_m2 : m .regs = true) (_m3 : m .counters = true) (_m4 : m .msix = true) (_m5 : m .events = true) (_m6 : m .waits = true) (_m7 : m .free = true) (_m8 : m .outputs = true) (h : Keep m s X) : KeepRes m s (execActivate a0 X) := by
  unfold execActivate
  repeat' (first
    | (with_reducible assumption)
    | ((try lift_lets -underBinder); intro x; clear_value (e : x = _); (with_reducible refine keep_let (m := m) (s := s) e ?_ (fun _ => ?_) <;> clear e))
    | (with_reducible first
        | refine formeOp_keep (by assumption) (by assumption) (by assumption) (by assumption) (by assumption) (by assumption) ?_ (fun _ _ _ => ?_)
        | refine formeDone_keep (by assumption) (by assumption) (by assumption) ?_
        | refine sendAnnounce_keep (by assumption) (by assumption) (by assumption) (by assumption) (by assumption) (by assumption) (by assumption) (by assumption) ?_)
    | split
    | (with_reducible refine keep_mk ?_))

theorem execUnload_keep (_m0 : m .impos = true) (_m1 : m .regs = true) (_m2 : m .counters = true) (_m3 : m .msix = true) (_m4 : m .events = true) (_m5 : m .waits = true) (_m6 : m .outputs = true) (h : Keep m s X) : KeepRes m s (execUnload a0 X) := by
  unfold execUnload
  repeat' (first
    | (with_reducible first
        | assumption
        | refine formeOp_keep (by assumption) (by assumption) (by assumption) (by assumption) (by assumption) (by assumption) ?_ (fun _ _ _ => ?_)
        | refine formeDone_keep (by assumption) (by assumption) (by assumption) ?_
        | refine dropSlot_keep (by assumption) ?_)
    | split)

theorem execClearSuspect_keep (_m0 : m .impos = true) (_m1 : m .regs = true) (_m2 : m .counters = true) (_m3 : m .msix = true) (_m4 : m .events = true) (_m5 : m .waits = true) (_m6 : m .outputs = true) (h : Keep m s X) : KeepRes m s (execClearSuspect a0 X) := by
  unfold execClearSuspect
  repeat' (first
    | (with_reducible assumption)
    | ((try lift_lets -underBinder); intro x; clear_value (e : x = _); clear e)
    | (with_reducible first
        | refine formeOp_keep (by assumption) (by assumption) (by assumption) (by assumption) (by assumption) (by assumption) ?_ (fun _ _ _ => ?_)
        | refine formeDone_keep (by assumption) (by assumption) (by assumption) ?_
        | refine State_setImpo_keep (by assumption) ?_)
    | split)

end Sys2Proof.Machine
end

