-- ==== Sys2Proof/Laws/KeepSortRun.lean ====
section
/-!
SUPPORT. What the operations and meanings of Machine/SortRun.lean keep (`Keep`).
-/
set_option Elab.async false
set_option linter.all false
namespace Sys2Proof.Machine

theorem sendPeer_keep (_m0 : m .links = true) (_m1 : m .regs = true) (_m2 : m .counters = true) (_m3 : m .msix = true) (_m4 : m .events = true) (_m5 : m .outputs = true) (h : Keep m s X) : Keep m s (sendPeer X a1 a2 a3 a4 a5) := by
  unfold sendPeer
  repeat' (with_reducible first
      | assumption
      | refine sendMsg_keep (by assumption) (by assumption) (by assumption) (by assumption) (by assumption) (by assumption) ?_
      | refine keepSnd_proj ?_)

theorem sortSignal_keep (_m0 : m .steps = true) (_m1 : m .links = true) (_m2 : m .regs = true) (_m3 : m .counters = true) (_m4 : m .msix = true) (_m5 : m .events = true) (_m6 : m .outputs = true) (h : Keep m s X) : Keep m s (sortSignal X a1 a2) := by
  unfold sortSignal
  repeat' (first
    | (with_reducible first
        | assumption
        | refine sendPeer_keep (by assumption) (by assumption) (by assumption) (by assumption) (by assumption) (by assumption) ?_
        | refine signalToken_keep (by assumption) ?_)
    | split)

theorem advance_keep (_m0 : m .steps = true) (h : Keep m s X) : Keep m s (advance X a1 a2) := by
  unfold advance
  repeat' (first
    | (with_reducible assumption)
    | ((try lift_lets -underBinder); intro x; clear_value (e : x = _); clear e)
    | (with_reducible refine keep_mk ?_))

theorem traceSort_keep (_m0 : m .sources = true) (_m1 : m .regs = true) (_m2 : m .counters = true) (_m3 : m .msix = true) (_m4 : m .events = true) (_m5 : m .outputs = true) (h : Keep m s X) : Keep m s (traceSort X a1 a2 a3) := by
  unfold traceSort
  repeat' (first
    | (with_reducible assumption)
    | ((try lift_lets -underBinder); intro x; clear_value (e : x = _); clear e)
    | (with_reducible refine trace_keep (by assumption) (by assumption) (by assumption) (by assumption) (by assumption) (by assumption) ?_))

theorem completeSort_keep (_m0 : m .steps = true) (_m1 : m .links = true) (_m2 : m .sources = true) (_m3 : m .regs = true) (_m4 : m .counters = true) (_m5 : m .msix = true) (_m6 : m .events = true) (_m7 : m .outputs = true) (h : Keep m s X) : Keep m s (completeSort X a1) := by
  unfold completeSort
  repeat' (first
    | (with_reducible assumption)
    | ((try lift_lets -underBinder); intro x; clear_value (e : x = _); (with_reducible refine keep_let (m := m) (s := s) e ?_ (fun _ => ?_) <;> clear e))
    | (with_reducible first
        | refine count_keep (by assumption) (by assumption) (by assumption) (by assumption) (by assumption) ?_
        | refine sortSignal_keep (by assumption) (by assumption) (by assumption) (by assumption) (by assumption) (by assumption) (by assumption) ?_
        | refine traceSort_keep (by assumption) (by assumption) (by assumption) (by assumption) (by assumption) (by assumption) ?_)
    | split)

theorem finishSort_keep (_m0 : m .steps = true) (_m1 : m .links = true) (_m2 : m .sources = true) (_m3 : m .regs = true) (_m4 : m .counters = true) (_m5 : m .msix = true) (_m6 : m .events = true) (_m7 : m .outputs = true) (h : Keep m s X) : Keep m s (finishSort X a1) := by
  unfold finishSort
  repeat' (with_reducible first
      | assumption
      | refine completeSort_keep (by assumption) (by assumption) (by assumption) (by assumption) (by assumption) (by assumption) (by assumption) (by assumption) ?_
      | refine advance_keep (by assumption) ?_)

theorem refuseSort_keep (_m0 : m .galley = true) (_m1 : m .impos = true) (_m2 : m .steps = true) (_m3 : m .groups = true) (_m4 : m .links = true) (_m5 : m .units = true) (_m6 : m .regs = true) (_m7 : m .counters = true) (_m8 : m .msix = true) (_m9 : m .events = true) (_m10 : m .free = true) (_m11 : m .outputs = true) (h : Keep m s X) : Keep m s (refuseSort X a1 a2 a3) := by
  unfold refuseSort
  repeat' (first
    | (with_reducible assumption)
    | ((try lift_lets -underBinder); intro x; clear_value (e : x = _); first | (with_reducible refine keep_let (m := m) (s := s) e ?_ (fun _ => ?_) <;> clear e) | clear e)
    | (with_reducible first
        | refine capture_keep (by assumption) (by assumption) (by assumption) (by assumption) ?_
        | refine hedgeViolation_keep (by assumption) (by assumption) (by assumption) (by assumption) (by assumption) ?_
        | refine markSuspect_keep (by assumption) (by assumption) (by assumption) (by assumption) (by assumption) (by assumption) ?_
        | refine abandonWith_keep (by assumption) (by assumption) (by assumption) (by assumption) (by assumption) (by assumption) (by assumption) (by assumption) (by assumption) (by assumption) (by assumption) (by assumption) ?_)
    | split)

theorem poisonSort_keep (_m0 : m .galley = true) (_m1 : m .tensors = true) (_m2 : m .moves = true) (_m3 : m .impos = true) (_m4 : m .steps = true) (_m5 : m .groups = true) (_m6 : m .dies = true) (_m7 : m .links = true) (_m8 : m .hosts = true) (_m9 : m .units = true) (_m10 : m .sources = true) (_m11 : m .regs = true) (_m12 : m .counters = true) (_m13 : m .msix = true) (_m14 : m .events = true) (_m15 : m .free = true) (_m16 : m .outputs = true) (h : Keep m s X) : Keep m s (poisonSort X a1) := by
  unfold poisonSort
  repeat' (first
    | (with_reducible assumption)
    | ((try lift_lets -underBinder); intro x; clear_value (e : x = _); (with_reducible refine keep_let (m := m) (s := s) e ?_ (fun _ => ?_) <;> clear e))
    | (with_reducible first
        | refine poisonedAccess_keep (by assumption) (by assumption) (by assumption) (by assumption) (by assumption) (by assumption) (by assumption) (by assumption) (by assumption) (by assumption) (by assumption) (by assumption) (by assumption) (by assumption) (by assumption) (by assumption) (by assumption) ?_
        | refine abandonWith_keep (by assumption) (by assumption) (by assumption) (by assumption) (by assumption) (by assumption) (by assumption) (by assumption) (by assumption) (by assumption) (by assumption) (by assumption) ?_)
    | split)

theorem runSort_keep (_m0 : m .galley = true) (_m1 : m .impos = true) (_m2 : m .steps = true) (_m3 : m .groups = true) (_m4 : m .links = true) (_m5 : m .units = true) (_m6 : m .sources = true) (_m7 : m .regs = true) (_m8 : m .counters = true) (_m9 : m .msix = true) (_m10 : m .events = true) (_m11 : m .free = true) (_m12 : m .outputs = true) (h : Keep m s X) (hf4 : ∀ x0 x1, Keep m s x0 → Keep m s (f4 x0 x1)) : Keep m s (runSort X a1 a2 a3 f4) := by
  unfold runSort
  repeat' (first
    | (with_reducible first
        | assumption | apply hf4
        | refine traceSort_keep (by assumption) (by assumption) (by assumption) (by assumption) (by assumption) (by assumption) ?_
        | refine refuseSort_keep (by assumption) (by assumption) (by assumption) (by assumption) (by assumption) (by assumption) (by assumption) (by assumption) (by assumption) (by assumption) (by assumption) (by assumption) ?_)
    | split)

theorem t0Write_keep (_m0 : m .memory = true) (h : Keep m s X) : Keep m s (t0Write X a1 a2 a3) := by
  unfold t0Write
  repeat' (with_reducible first | assumption | refine writeT0_keep (by assumption) ?_)

theorem tensorRead_keep (_m0 : m .galley = true) (_m1 : m .tensors = true) (_m2 : m .moves = true) (_m3 : m .impos = true) (_m4 : m .steps = true) (_m5 : m .groups = true) (_m6 : m .dies = true) (_m7 : m .links = true) (_m8 : m .hosts = true) (_m9 : m .units = true) (_m10 : m .sources = true) (_m11 : m .regs = true) (_m12 : m .counters = true) (_m13 : m .msix = true) (_m14 : m .events = true) (_m15 : m .free = true) (_m16 : m .outputs = true) (h : Keep m s X) (hf4 : ∀ x0, Keep m s (f4 x0)) : Keep m s (tensorRead X a1 a2 a3 f4) := by
  unfold tensorRead
  repeat' (first
    | (with_reducible first
        | assumption | apply hf4
        | refine refuseSort_keep (by assumption) (by assumption) (by assumption) (by assumption) (by assumption) (by assumption) (by assumption) (by assumption) (by assumption) (by assumption) (by assumption) (by assumption) ?_
        | refine poisonSort_keep (by assumption) (by assumption) (by assumption) (by assumption) (by assumption) (by assumption) (by assumption) (by assumption) (by assumption) (by assumption) (by assumption) (by assumption) (by assumption) (by assumption) (by assumption) (by assumption) (by assumption) ?_)
    | split)

theorem sectorStore_keep (_m0 : m .memory = true) (_m1 : m .galley = true) (_m2 : m .tensors = true) (_m3 : m .moves = true) (_m4 : m .impos = true) (_m5 : m .steps = true) (_m6 : m .groups = true) (_m7 : m .dies = true) (_m8 : m .links = true) (_m9 : m .hosts = true) (_m10 : m .twins = true) (_m11 : m .units = true) (_m12 : m .sources = true) (_m13 : m .regs = true) (_m14 : m .counters = true) (_m15 : m .msix = true) (_m16 : m .events = true) (_m17 : m .free = true) (_m18 : m .outputs = true) (h : Keep m s X) : Keep m s (sectorStore X a1 a2) := by
  unfold sectorStore
  repeat' (first
    | (with_reducible first
        | assumption | refine dataWrite_keep (by assumption) (by assumption) ?_
        | refine partialWrite_keep (by assumption) (by assumption) (by assumption) (by assumption) (by assumption) (by assumption) (by assumption) (by assumption) (by assumption) (by assumption) (by assumption) (by assumption) (by assumption) (by assumption) (by assumption) (by assumption) (by assumption) (by assumption) (by assumption) ?_)
    | split)

theorem storeExtent_keep (_m0 : m .memory = true) (_m1 : m .galley = true) (_m2 : m .tensors = true) (_m3 : m .moves = true) (_m4 : m .impos = true) (_m5 : m .steps = true) (_m6 : m .groups = true) (_m7 : m .dies = true) (_m8 : m .links = true) (_m9 : m .hosts = true) (_m10 : m .twins = true) (_m11 : m .units = true) (_m12 : m .sources = true) (_m13 : m .regs = true) (_m14 : m .counters = true) (_m15 : m .msix = true) (_m16 : m .events = true) (_m17 : m .free = true) (_m18 : m .outputs = true) (h : Keep m s X) : Keep m s (storeExtent X a1 a2 a3) := by
  unfold storeExtent
  repeat' (with_reducible first
      | assumption
      | refine sectorStore_keep (by assumption) (by assumption) (by assumption) (by assumption) (by assumption) (by assumption) (by assumption) (by assumption) (by assumption) (by assumption) (by assumption) (by assumption) (by assumption) (by assumption) (by assumption) (by assumption) (by assumption) (by assumption) (by assumption) ?_
      | refine keep_foldl (fun _ _ _ => ?_) ?_)

theorem tensorWrite_keep (_m0 : m .memory = true) (_m1 : m .galley = true) (_m2 : m .tensors = true) (_m3 : m .moves = true) (_m4 : m .impos = true) (_m5 : m .steps = true) (_m6 : m .groups = true) (_m7 : m .dies = true) (_m8 : m .links = true) (_m9 : m .hosts = true) (_m10 : m .twins = true) (_m11 : m .units = true) (_m12 : m .sources = true) (_m13 : m .regs = true) (_m14 : m .counters = true) (_m15 : m .msix = true) (_m16 : m .events = true) (_m17 : m .free = true) (_m18 : m .outputs = true) (h : Keep m s X) (hf4 : ∀ x0, Keep m s x0 → Keep m s (f4 x0)) : Keep m s (tensorWrite X a1 a2 a3 f4) := by
  unfold tensorWrite
  repeat' (first
    | (with_reducible assumption)
    | ((try lift_lets -underBinder); intro x; clear_value (e : x = _); (with_reducible refine keep_let (m := m) (s := s) e ?_ (fun _ => ?_) <;> clear e))
    | (with_reducible first
        | apply hf4
        | refine refuseSort_keep (by assumption) (by assumption) (by assumption) (by assumption) (by assumption) (by assumption) (by assumption) (by assumption) (by assumption) (by assumption) (by assumption) (by assumption) ?_
        | refine storeExtent_keep (by assumption) (by assumption) (by assumption) (by assumption) (by assumption) (by assumption) (by assumption) (by assumption) (by assumption) (by assumption) (by assumption) (by assumption) (by assumption) (by assumption) (by assumption) (by assumption) (by assumption) (by assumption) (by assumption) ?_)
    | split)

theorem execNopSort_keep (_m0 : m .galley = true) (_m1 : m .impos = true) (_m2 : m .steps = true) (_m3 : m .groups = true) (_m4 : m .links = true) (_m5 : m .units = true) (_m6 : m .sources = true) (_m7 : m .regs = true) (_m8 : m .counters = true) (_m9 : m .msix = true) (_m10 : m .events = true) (_m11 : m .free = true) (_m12 : m .outputs = true) (h : Keep m s X) : KeepRes m s (execNopSort a0 a1 X) := by
  unfold execNopSort
  repeat' (first
    | (with_reducible assumption)
    | ((try lift_lets -underBinder); intro x; clear_value (e : x = _); first | (with_reducible refine keep_let (m := m) (s := s) e ?_ (fun _ => ?_) <;> clear e) | clear e)
    | (with_reducible first
        | refine guarded_keep ?_
        | refine runSort_keep (by assumption) (by assumption) (by assumption) (by assumption) (by assumption) (by assumption) (by assumption) (by assumption) (by assumption) (by assumption) (by assumption) (by assumption) (by assumption) ?_ (fun _ _ _ => ?_)
        | refine finishSort_keep (by assumption) (by assumption) (by assumption) (by assumption) (by assumption) (by assumption) (by assumption) (by assumption) ?_
        | refine refuseSort_keep (by assumption) (by assumption) (by assumption) (by assumption) (by assumption) (by assumption) (by assumption) (by assumption) (by assumption) (by assumption) (by assumption) (by assumption) ?_
        | refine advance_keep (by assumption) ?_
        | refine traceSort_keep (by assumption) (by assumption) (by assumption) (by assumption) (by assumption) (by assumption) ?_
        | refine completeSort_keep (by assumption) (by assumption) (by assumption) (by assumption) (by assumption) (by assumption) (by assumption) (by assumption) ?_)
    | split)

theorem streamTiles_keep (_m0 : m .galley = true) (_m1 : m .tensors = true) (_m2 : m .moves = true) (_m3 : m .impos = true) (_m4 : m .steps = true) (_m5 : m .groups = true) (_m6 : m .dies = true) (_m7 : m .links = true) (_m8 : m .hosts = true) (_m9 : m .units = true) (_m10 : m .sources = true) (_m11 : m .regs = true) (_m12 : m .counters = true) (_m13 : m .msix = true) (_m14 : m .events = true) (_m15 : m .free = true) (_m16 : m .outputs = true) (h : Keep m s X) : Keep m s (streamTiles a0 a1 a2 a3 X) := by
  induction a3 generalizing a0 a1 a2 X with
  | nil =>
    unfold streamTiles
    repeat' (first
      | (with_reducible assumption)
      | ((try lift_lets -underBinder); intro x; clear_value (e : x = _); clear e)
      | (with_reducible first
          | refine finishSort_keep (by assumption) (by assumption) (by assumption) (by assumption) (by assumption) (by assumption) (by assumption) (by assumption) ?_
          | refine tensorRead_keep (by assumption) (by assumption) (by assumption) (by assumption) (by assumption) (by assumption) (by assumption) (by assumption) (by assumption) (by assumption) (by assumption) (by assumption) (by assumption) (by assumption) (by assumption) (by assumption) (by assumption) ?_ (fun _ => ?_)
          | refine State_setCore_keep (by assumption) ?_))
  | cons _ _ ih =>
    unfold streamTiles
    repeat' (first
      | (with_reducible first | assumption | refine ih ?_)
      | ((try lift_lets -underBinder); intro x; clear_value (e : x = _); clear e)
      | (with_reducible first
          | refine finishSort_keep (by assumption) (by assumption) (by assumption) (by assumption) (by assumption) (by assumption) (by assumption) (by assumption) ?_
          | refine tensorRead_keep (by assumption) (by assumption) (by assumption) (by assumption) (by assumption) (by assumption) (by assumption) (by assumption) (by assumption) (by assumption) (by assumption) (by assumption) (by assumption) (by assumption) (by assumption) (by assumption) (by assumption) ?_ (fun _ => ?_)
          | refine State_setCore_keep (by assumption) ?_))

theorem execStreamSort_keep (_m0 : m .galley = true) (_m1 : m .tensors = true) (_m2 : m .moves = true) (_m3 : m .impos = true) (_m4 : m .steps = true) (_m5 : m .groups = true) (_m6 : m .dies = true) (_m7 : m .links = true) (_m8 : m .hosts = true) (_m9 : m .units = true) (_m10 : m .sources = true) (_m11 : m .regs = true) (_m12 : m .counters = true) (_m13 : m .msix = true) (_m14 : m .events = true) (_m15 : m .free = true) (_m16 : m .outputs = true) (h : Keep m s X) : KeepRes m s (execStreamSort a0 X) := by
  unfold execStreamSort
  repeat' (first
    | (with_reducible first
        | assumption
        | refine runSort_keep (by assumption) (by assumption) (by assumption) (by assumption) (by assumption) (by assumption) (by assumption) (by assumption) (by assumption) (by assumption) (by assumption) (by assumption) (by assumption) ?_ (fun _ _ _ => ?_)
        | refine streamTiles_keep (by assumption) (by assumption) (by assumption) (by assumption) (by assumption) (by assumption) (by assumption) (by assumption) (by assumption) (by assumption) (by assumption) (by assumption) (by assumption) (by assumption) (by assumption) (by assumption) (by assumption) ?_
        | refine keepRes_next ?_)
    | split)

theorem execFetchSort_keep (_m0 : m .memory = true) (_m1 : m .galley = true) (_m2 : m .tensors = true) (_m3 : m .moves = true) (_m4 : m .impos = true) (_m5 : m .steps = true) (_m6 : m .groups = true) (_m7 : m .dies = true) (_m8 : m .links = true) (_m9 : m .hosts = true) (_m10 : m .units = true) (_m11 : m .sources = true) (_m12 : m .regs = true) (_m13 : m .counters = true) (_m14 : m .msix = true) (_m15 : m .events = true) (_m16 : m .free = true) (_m17 : m .outputs = true) (h : Keep m s X) : KeepRes m s (execFetchSort a0 X) := by
  unfold execFetchSort
  repeat' (with_reducible first
      | assumption
      | refine runSort_keep (by assumption) (by assumption) (by assumption) (by assumption) (by assumption) (by assumption) (by assumption) (by assumption) (by assumption) (by assumption) (by assumption) (by assumption) (by assumption) ?_ (fun _ _ _ => ?_)
      | refine tensorRead_keep (by assumption) (by assumption) (by assumption) (by assumption) (by assumption) (by assumption) (by assumption) (by assumption) (by assumption) (by assumption) (by assumption) (by assumption) (by assumption) (by assumption) (by assumption) (by assumption) (by assumption) ?_ (fun _ => ?_)
      | refine finishSort_keep (by assumption) (by assumption) (by assumption) (by assumption) (by assumption) (by assumption) (by assumption) (by assumption) ?_
      | refine t0Write_keep (by assumption) ?_ | refine keepRes_next ?_)

theorem execStoreSort_keep (_m0 : m .memory = true) (_m1 : m .galley = true) (_m2 : m .tensors = true) (_m3 : m .moves = true) (_m4 : m .impos = true) (_m5 : m .steps = true) (_m6 : m .groups = true) (_m7 : m .dies = true) (_m8 : m .links = true) (_m9 : m .hosts = true) (_m10 : m .twins = true) (_m11 : m .units = true) (_m12 : m .sources = true) (_m13 : m .regs = true) (_m14 : m .counters = true) (_m15 : m .msix = true) (_m16 : m .events = true) (_m17 : m .free = true) (_m18 : m .outputs = true) (h : Keep m s X) : KeepRes m s (execStoreSort a0 X) := by
  unfold execStoreSort
  repeat' (with_reducible first
      | assumption
      | refine runSort_keep (by assumption) (by assumption) (by assumption) (by assumption) (by assumption) (by assumption) (by assumption) (by assumption) (by assumption) (by assumption) (by assumption) (by assumption) (by assumption) ?_ (fun _ _ _ => ?_)
      | refine tensorWrite_keep (by assumption) (by assumption) (by assumption) (by assumption) (by assumption) (by assumption) (by assumption) (by assumption) (by assumption) (by assumption) (by assumption) (by assumption) (by assumption) (by assumption) (by assumption) (by assumption) (by assumption) (by assumption) (by assumption) ?_ (fun _ _ => ?_)
      | refine finishSort_keep (by assumption) (by assumption) (by assumption) (by assumption) (by assumption) (by assumption) (by assumption) (by assumption) ?_
      | refine keepRes_next ?_)

theorem execCopySort_keep (_m0 : m .memory = true) (_m1 : m .galley = true) (_m2 : m .impos = true) (_m3 : m .steps = true) (_m4 : m .groups = true) (_m5 : m .links = true) (_m6 : m .units = true) (_m7 : m .sources = true) (_m8 : m .regs = true) (_m9 : m .counters = true) (_m10 : m .msix = true) (_m11 : m .events = true) (_m12 : m .free = true) (_m13 : m .outputs = true) (h : Keep m s X) : KeepRes m s (execCopySort a0 X) := by
  unfold execCopySort
  repeat' (with_reducible first
      | assumption
      | refine runSort_keep (by assumption) (by assumption) (by assumption) (by assumption) (by assumption) (by assumption) (by assumption) (by assumption) (by assumption) (by assumption) (by assumption) (by assumption) (by assumption) ?_ (fun _ _ _ => ?_)
      | refine finishSort_keep (by assumption) (by assumption) (by assumption) (by assumption) (by assumption) (by assumption) (by assumption) (by assumption) ?_
      | refine t0Write_keep (by assumption) ?_ | refine keepRes_next ?_)

theorem sendPieces_keep (_m0 : m .links = true) (_m1 : m .regs = true) (_m2 : m .counters = true) (_m3 : m .msix = true) (_m4 : m .events = true) (_m5 : m .outputs = true) (h : Keep m s X) : Keep m s (sendPieces X a1 a2 a3 a4) := by
  unfold sendPieces
  repeat' (first
    | (with_reducible assumption)
    | ((try lift_lets -underBinder); intro x; clear_value (e : x = _); clear e)
    | (with_reducible first
        | refine sendPeer_keep (by assumption) (by assumption) (by assumption) (by assumption) (by assumption) (by assumption) ?_
        | refine keep_foldl (fun _ _ _ => ?_) ?_))

theorem execSendSort_keep (_m0 : m .galley = true) (_m1 : m .impos = true) (_m2 : m .steps = true) (_m3 : m .groups = true) (_m4 : m .links = true) (_m5 : m .units = true) (_m6 : m .sources = true) (_m7 : m .regs = true) (_m8 : m .counters = true) (_m9 : m .msix = true) (_m10 : m .events = true) (_m11 : m .free = true) (_m12 : m .outputs = true) (h : Keep m s X) : KeepRes m s (execSendSort a0 X) := by
  unfold execSendSort
  repeat' (first
    | (with_reducible assumption)
    | ((try lift_lets -underBinder); intro x; clear_value (e : x = _); first | (with_reducible refine keep_let (m := m) (s := s) e ?_ (fun _ => ?_) <;> clear e) | clear e)
    | (with_reducible first
        | refine runSort_keep (by assumption) (by assumption) (by assumption) (by assumption) (by assumption) (by assumption) (by assumption) (by assumption) (by assumption) (by assumption) (by assumption) (by assumption) (by assumption) ?_ (fun _ _ _ => ?_)
        | refine sendPieces_keep (by assumption) (by assumption) (by assumption) (by assumption) (by assumption) (by assumption) ?_
        | refine finishSort_keep (by assumption) (by assumption) (by assumption) (by assumption) (by assumption) (by assumption) (by assumption) (by assumption) ?_
        | refine keepRes_next ?_))

end Sys2Proof.Machine
end

