-- ==== Sys2Proof/Laws/KeepNbuOps.lean ====
section
/-!
SUPPORT. What the operations and meanings of Machine/NbuOps.lean keep (`Keep`).
-/
set_option Elab.async false
set_option linter.all false
namespace Sys2Proof.Machine

theorem traceJob_keep (_m0 : m .sources = true) (_m1 : m .regs = true) (_m2 : m .counters = true) (_m3 : m .msix = true) (_m4 : m .events = true) (_m5 : m .outputs = true) (h : Keep m s X) : Keep m s (traceJob X a1 a2 a3 a4 a5 a6) := by
  unfold traceJob
  repeat' (first
    | (with_reducible assumption)
    | ((try lift_lets -underBinder); intro x; clear_value (e : x = _); clear e)
    | (with_reducible refine trace_keep (by assumption) (by assumption) (by assumption) (by assumption) (by assumption) (by assumption) ?_))

theorem landRecord_keep (_m0 : m .memory = true) (_m1 : m .steps = true) (_m2 : m .sources = true) (_m3 : m .regs = true) (_m4 : m .counters = true) (_m5 : m .msix = true) (_m6 : m .events = true) (_m7 : m .outputs = true) (h : Keep m s X) : Keep m s (landRecord X a1 a2) := by
  unfold landRecord
  repeat' (first
    | (with_reducible assumption)
    | ((try lift_lets -underBinder); intro x; clear_value (e : x = _); clear e)
    | (with_reducible first
        | refine signalToken_keep (by assumption) ?_
        | refine traceJob_keep (by assumption) (by assumption) (by assumption) (by assumption) (by assumption) (by assumption) ?_
        | refine writeT0_keep (by assumption) ?_))

theorem controllerRecord_keep (_m0 : m .memory = true) (_m1 : m .steps = true) (_m2 : m .sources = true) (_m3 : m .regs = true) (_m4 : m .counters = true) (_m5 : m .msix = true) (_m6 : m .events = true) (_m7 : m .outputs = true) (h : Keep m s X) : Keep m s (controllerRecord X a1 a2 a3 a4) := by
  unfold controllerRecord
  repeat' (with_reducible first
      | assumption
      | refine landRecord_keep (by assumption) (by assumption) (by assumption) (by assumption) (by assumption) (by assumption) (by assumption) (by assumption) ?_)

theorem nbuCapture_keep (_m0 : m .regs = true) (_m1 : m .msix = true) (_m2 : m .events = true) (_m3 : m .outputs = true) (h : Keep m s X) : Keep m s (nbuCapture X a1 a2 a3 a4 a5 a6) := by
  unfold nbuCapture
  repeat' (with_reducible first
      | assumption
      | refine capture_keep (by assumption) (by assumption) (by assumption) (by assumption) ?_)

theorem refuseJob_keep (_m0 : m .memory = true) (_m1 : m .steps = true) (_m2 : m .units = true) (_m3 : m .sources = true) (_m4 : m .regs = true) (_m5 : m .counters = true) (_m6 : m .msix = true) (_m7 : m .events = true) (_m8 : m .outputs = true) (h : Keep m s X) : Keep m s (refuseJob X a1 a2 a3 a4) := by
  unfold refuseJob
  repeat' (first
    | (with_reducible assumption)
    | ((try lift_lets -underBinder); intro x; clear_value (e : x = _); first | (with_reducible refine keep_let (m := m) (s := s) e ?_ (fun _ => ?_) <;> clear e) | clear e)
    | (with_reducible first
        | refine nbuCapture_keep (by assumption) (by assumption) (by assumption) (by assumption) ?_
        | refine hedgeViolation_keep (by assumption) (by assumption) (by assumption) (by assumption) (by assumption) ?_
        | refine State_setNbu_keep (by assumption) ?_
        | refine controllerRecord_keep (by assumption) (by assumption) (by assumption) (by assumption) (by assumption) (by assumption) (by assumption) (by assumption) ?_
        | refine count_keep (by assumption) (by assumption) (by assumption) (by assumption) (by assumption) ?_
        | refine onSlots_keep (by assumption) ?_)
    | split)

end Sys2Proof.Machine
end

