-- ==== Sys2Proof/Laws/KeepNbu.lean ====
section
/-!
SUPPORT. What the operations and meanings of Machine/Nbu.lean keep (`Keep`).
-/
set_option Elab.async false
set_option linter.all false
namespace Sys2Proof.Machine

theorem takeXfer_keep (_m0 : m .units = true) (h : Keep m s X) : Keep m s (takeXfer X a1 a2 a3) := by
  unfold takeXfer
  repeat' (first
    | (with_reducible assumption)
    | ((try lift_lets -underBinder); intro x; clear_value (e : x = _); clear e)
    | (with_reducible refine State_setChan_keep (by assumption) ?_))

theorem loadSets_keep (_m0 : m .units = true) (h : Keep m s X) : Keep m s (loadSets X a1 a2 a3 a4 a5) := by
  unfold loadSets
  repeat' (with_reducible first
      | assumption | refine State_setNbu_keep (by assumption) ?_
      | refine keep_foldl (fun _ _ _ => ?_) ?_)

theorem refuseLoad_keep (_m0 : m .units = true) (_m1 : m .regs = true) (_m2 : m .msix = true) (_m3 : m .events = true) (_m4 : m .outputs = true) (h : Keep m s X) : Keep m s (refuseLoad X a1 a2 a3) := by
  unfold refuseLoad
  repeat' (first
    | (with_reducible assumption)
    | ((try lift_lets -underBinder); intro x; clear_value (e : x = _); clear e)
    | (with_reducible first
        | refine nbuCapture_keep (by assumption) (by assumption) (by assumption) (by assumption) ?_
        | refine loadSets_keep (by assumption) ?_))

theorem execQueryLoad_keep (_m0 : m .units = true) (_m1 : m .regs = true) (_m2 : m .msix = true) (_m3 : m .events = true) (_m4 : m .outputs = true) (h : Keep m s X) : KeepRes m s (execQueryLoad a0 a1 a2 X) := by
  unfold execQueryLoad
  repeat' (first
    | (with_reducible assumption)
    | ((try lift_lets -underBinder); intro x; clear_value (e : x = _); first | (with_reducible refine keep_let (m := m) (s := s) e ?_ (fun _ => ?_) <;> clear e) | clear e)
    | (with_reducible first
        | refine guarded_keep ?_ | refine takeXfer_keep (by assumption) ?_
        | refine refuseLoad_keep (by assumption) (by assumption) (by assumption) (by assumption) (by assumption) ?_
        | refine loadSets_keep (by assumption) ?_)
    | split)

theorem sendJob_keep (_m0 : m .units = true) (h : Keep m s X) : Keep m s (sendJob X a1 a2 a3) := by
  unfold sendJob
  repeat' (first
    | (with_reducible assumption)
    | ((try lift_lets -underBinder); intro x; clear_value (e : x = _); clear e)
    | (with_reducible refine State_setNbu_keep (by assumption) ?_))

theorem acceptJob_keep (_m0 : m .memory = true) (_m1 : m .steps = true) (_m2 : m .units = true) (_m3 : m .sources = true) (_m4 : m .regs = true) (_m5 : m .counters = true) (_m6 : m .msix = true) (_m7 : m .events = true) (_m8 : m .outputs = true) (h : Keep m s X) : Keep m s (acceptJob X a1 a2 a3) := by
  unfold acceptJob
  repeat' (first
    | (with_reducible assumption)
    | ((try lift_lets -underBinder); intro x; clear_value (e : x = _); clear e)
    | (with_reducible first
        | refine State_setNbu_keep (by assumption) ?_
        | refine refuseJob_keep (by assumption) (by assumption) (by assumption) (by assumption) (by assumption) (by assumption) (by assumption) (by assumption) (by assumption) ?_
        | refine controllerRecord_keep (by assumption) (by assumption) (by assumption) (by assumption) (by assumption) (by assumption) (by assumption) (by assumption) ?_
        | refine sendJob_keep (by assumption) ?_)
    | split)

theorem execPageJob_keep (_m0 : m .memory = true) (_m1 : m .steps = true) (_m2 : m .units = true) (_m3 : m .sources = true) (_m4 : m .regs = true) (_m5 : m .counters = true) (_m6 : m .msix = true) (_m7 : m .events = true) (_m8 : m .outputs = true) (h : Keep m s X) : KeepRes m s (execPageJob a0 a1 a2 X) := by
  unfold execPageJob
  repeat' (first
    | (with_reducible assumption)
    | ((try lift_lets -underBinder); intro x; clear_value (e : x = _); clear e)
    | (with_reducible first
        | refine guarded_keep ?_
        | refine acceptJob_keep (by assumption) (by assumption) (by assumption) (by assumption) (by assumption) (by assumption) (by assumption) (by assumption) (by assumption) ?_
        | refine takeXfer_keep (by assumption) ?_)
    | split)

theorem holdPair_keep (_m0 : m .units = true) (_m1 : m .regs = true) (h : Keep m s X) : Keep m s (holdPair X a1 a2 a3 a4 a5) := by
  unfold holdPair
  repeat' (with_reducible first
      | assumption | refine putBit_keep (by assumption) ?_
      | refine State_setNbu_keep (by assumption) ?_)

theorem startPage_keep (_m0 : m .units = true) (_m1 : m .sources = true) (_m2 : m .regs = true) (_m3 : m .counters = true) (_m4 : m .msix = true) (_m5 : m .events = true) (_m6 : m .outputs = true) (h : Keep m s X) : Keep m s (startPage X a1 a2 a3) := by
  unfold startPage
  repeat' (first
    | (with_reducible assumption)
    | ((try lift_lets -underBinder); intro x; clear_value (e : x = _); clear e)
    | (with_reducible first
        | refine holdPair_keep (by assumption) (by assumption) ?_
        | refine traceJob_keep (by assumption) (by assumption) (by assumption) (by assumption) (by assumption) (by assumption) ?_)
    | split)

theorem execPageStart_keep (_m0 : m .units = true) (_m1 : m .sources = true) (_m2 : m .regs = true) (_m3 : m .counters = true) (_m4 : m .msix = true) (_m5 : m .events = true) (_m6 : m .outputs = true) (h : Keep m s X) : KeepRes m s (execPageStart a0 a1 a2 a3 X) := by
  unfold execPageStart
  repeat' (first
    | (with_reducible first
        | assumption
        | refine startPage_keep (by assumption) (by assumption) (by assumption) (by assumption) (by assumption) (by assumption) (by assumption) ?_
        | refine count_keep (by assumption) (by assumption) (by assumption) (by assumption) (by assumption) ?_
        | refine keepRes_next ?_)
    | split)

theorem pagePoisoned_keep (_m0 : m .galley = true) (_m1 : m .units = true) (_m2 : m .regs = true) (_m3 : m .msix = true) (_m4 : m .events = true) (_m5 : m .outputs = true) (h : Keep m s X) : Keep m s (pagePoisoned X a1 a2 a3 a4 a5) := by
  unfold pagePoisoned
  repeat' (first
    | (with_reducible assumption)
    | ((try lift_lets -underBinder); intro x; clear_value (e : x = _); first | (with_reducible refine keep_let (m := m) (s := s) e ?_ (fun _ => ?_) <;> clear e) | clear e)
    | (with_reducible first
        | refine nbuCapture_keep (by assumption) (by assumption) (by assumption) (by assumption) ?_
        | refine setCause_keep (by assumption) (by assumption) (by assumption) ?_
        | refine chCapture_keep (by assumption) (by assumption) (by assumption) (by assumption) ?_
        | refine poisonedRequest_keep (by assumption) ?_
        | refine holdPair_keep (by assumption) (by assumption) ?_))

theorem endPage_keep (_m0 : m .units = true) (_m1 : m .regs = true) (_m2 : m .counters = true) (_m3 : m .msix = true) (_m4 : m .events = true) (_m5 : m .outputs = true) (h : Keep m s X) : Keep m s (endPage X a1 a2 a3 a4) := by
  unfold endPage
  repeat' (first
    | (with_reducible assumption)
    | ((try lift_lets -underBinder); intro x; clear_value (e : x = _); clear e)
    | (with_reducible first
        | refine count_keep (by assumption) (by assumption) (by assumption) (by assumption) (by assumption) ?_
        | refine holdPair_keep (by assumption) (by assumption) ?_)
    | split)

theorem execPageEnd_keep (_m0 : m .galley = true) (_m1 : m .units = true) (_m2 : m .regs = true) (_m3 : m .counters = true) (_m4 : m .msix = true) (_m5 : m .events = true) (_m6 : m .outputs = true) (h : Keep m s X) : KeepRes m s (execPageEnd a0 a1 a2 X) := by
  unfold execPageEnd
  repeat' (first
    | (with_reducible assumption)
    | ((try lift_lets -underBinder); intro x; clear_value (e : x = _); clear e)
    | (with_reducible first
        | refine pagePoisoned_keep (by assumption) (by assumption) (by assumption) (by assumption) (by assumption) (by assumption) ?_
        | refine endPage_keep (by assumption) (by assumption) (by assumption) (by assumption) (by assumption) (by assumption) ?_
        | refine keepRes_next ?_)
    | split)

theorem execYieldWindowEnd_keep (_m0 : m .units = true) (_m1 : m .sources = true) (_m2 : m .regs = true) (_m3 : m .counters = true) (_m4 : m .msix = true) (_m5 : m .events = true) (_m6 : m .outputs = true) (h : Keep m s X) : KeepRes m s (execYieldWindowEnd a0 a1 a2 X) := by
  unfold execYieldWindowEnd
  repeat' (with_reducible first
      | assumption
      | refine startPage_keep (by assumption) (by assumption) (by assumption) (by assumption) (by assumption) (by assumption) (by assumption) ?_
      | refine count_keep (by assumption) (by assumption) (by assumption) (by assumption) (by assumption) ?_
      | refine keepRes_next ?_)

theorem execRefresh_keep (_m0 : m .units = true) (_m1 : m .regs = true) (_m2 : m .counters = true) (_m3 : m .msix = true) (_m4 : m .events = true) (_m5 : m .outputs = true) (h : Keep m s X) : KeepRes m s (execRefresh a0 a1 a2 a3 a4 X) := by
  unfold execRefresh
  repeat' (first
    | (with_reducible assumption)
    | ((try lift_lets -underBinder); intro x; clear_value (e : x = _); first | (with_reducible refine keep_let (m := m) (s := s) e ?_ (fun _ => ?_) <;> clear e) | clear e)
    | (with_reducible first
        | refine State_setNbu_keep (by assumption) ?_
        | refine count_keep (by assumption) (by assumption) (by assumption) (by assumption) (by assumption) ?_
        | refine keepRes_next ?_)
    | split)

theorem execPartialRecord_keep (_m0 : m .memory = true) (_m1 : m .steps = true) (_m2 : m .units = true) (_m3 : m .sources = true) (_m4 : m .regs = true) (_m5 : m .counters = true) (_m6 : m .msix = true) (_m7 : m .events = true) (_m8 : m .outputs = true) (h : Keep m s X) : KeepRes m s (execPartialRecord a0 a1 a2 X) := by
  unfold execPartialRecord
  repeat' (first
    | (with_reducible assumption)
    | ((try lift_lets -underBinder); intro x; clear_value (e : x = _); first | (with_reducible refine keep_let (m := m) (s := s) e ?_ (fun _ => ?_) <;> clear e) | clear e)
    | (with_reducible first
        | refine State_setNbu_keep (by assumption) ?_
        | refine count_keep (by assumption) (by assumption) (by assumption) (by assumption) (by assumption) ?_
        | refine landRecord_keep (by assumption) (by assumption) (by assumption) (by assumption) (by assumption) (by assumption) (by assumption) (by assumption) ?_
        | refine keepRes_next ?_)
    | split)

theorem execBusStatus_keep (_m0 : m .units = true) (_m1 : m .sources = true) (_m2 : m .regs = true) (_m3 : m .counters = true) (_m4 : m .msix = true) (_m5 : m .events = true) (_m6 : m .outputs = true) (h : Keep m s X) : KeepRes m s (execBusStatus a0 a1 a2 X) := by
  unfold execBusStatus
  repeat' (first
    | (with_reducible assumption)
    | ((try lift_lets -underBinder); intro x; clear_value (e : x = _); clear e)
    | (with_reducible first
        | refine traceJob_keep (by assumption) (by assumption) (by assumption) (by assumption) (by assumption) (by assumption) ?_
        | refine State_setNbu_keep (by assumption) ?_ | refine keepRes_next ?_)
    | split)

theorem ackRecord_keep (_m0 : m .units = true) (h : Keep m s X) : Keep m s (ackRecord X a1 a2 a3) := by
  unfold ackRecord
  repeat' (first
    | (with_reducible assumption)
    | ((try lift_lets -underBinder); intro x; clear_value (e : x = _); clear e)
    | (with_reducible refine State_setNbu_keep (by assumption) ?_)
    | split)

theorem nbuFails_keep (_m0 : m .memory = true) (_m1 : m .galley = true) (_m2 : m .tensors = true) (_m3 : m .moves = true) (_m4 : m .impos = true) (_m5 : m .steps = true) (_m6 : m .groups = true) (_m7 : m .dies = true) (_m8 : m .links = true) (_m9 : m .hosts = true) (_m10 : m .twins = true) (_m11 : m .units = true) (_m12 : m .sources = true) (_m13 : m .regs = true) (_m14 : m .counters = true) (_m15 : m .msix = true) (_m16 : m .events = true) (_m17 : m .free = true) (_m18 : m .outputs = true) (h : Keep m s X) : Keep m s (nbuFails X a1 a2 a3 a4 a5) := by
  unfold nbuFails
  repeat' (first
    | (with_reducible assumption)
    | ((try lift_lets -underBinder); intro x; clear_value (e : x = _); clear e)
    | (with_reducible first
        | refine beginMapout_keep (by assumption) (by assumption) (by assumption) (by assumption) (by assumption) (by assumption) (by assumption) (by assumption) (by assumption) (by assumption) (by assumption) (by assumption) (by assumption) (by assumption) (by assumption) (by assumption) (by assumption) (by assumption) (by assumption) ?_
        | refine State_setNbu_keep (by assumption) ?_))

theorem busFails_keep (_m0 : m .memory = true) (_m1 : m .galley = true) (_m2 : m .tensors = true) (_m3 : m .moves = true) (_m4 : m .impos = true) (_m5 : m .steps = true) (_m6 : m .groups = true) (_m7 : m .dies = true) (_m8 : m .links = true) (_m9 : m .hosts = true) (_m10 : m .twins = true) (_m11 : m .units = true) (_m12 : m .sources = true) (_m13 : m .regs = true) (_m14 : m .counters = true) (_m15 : m .msix = true) (_m16 : m .events = true) (_m17 : m .free = true) (_m18 : m .outputs = true) (h : Keep m s X) : Keep m s (busFails X a1 a2 a3) := by
  unfold busFails
  repeat' (first
    | (with_reducible assumption)
    | ((try lift_lets -underBinder); intro x; clear_value (e : x = _); first | (with_reducible refine keep_let (m := m) (s := s) e ?_ (fun _ => ?_) <;> clear e) | (have _ := fun a => x a; subst e; try dsimp -zeta only) | clear e)
    | (with_reducible first
        | refine nbuCapture_keep (by assumption) (by assumption) (by assumption) (by assumption) ?_
        | refine setCause_keep (by assumption) (by assumption) (by assumption) ?_
        | refine State_setNbu_keep (by assumption) ?_ | refine setReg_keep (by assumption) ?_
        | refine State_setChan_keep (by assumption) ?_
        | refine controllerRecord_keep (by assumption) (by assumption) (by assumption) (by assumption) (by assumption) (by assumption) (by assumption) (by assumption) ?_
        | refine count_keep (by assumption) (by assumption) (by assumption) (by assumption) (by assumption) ?_
        | refine landRecord_keep (by assumption) (by assumption) (by assumption) (by assumption) (by assumption) (by assumption) (by assumption) (by assumption) ?_
        | refine nbuFails_keep (by assumption) (by assumption) (by assumption) (by assumption) (by assumption) (by assumption) (by assumption) (by assumption) (by assumption) (by assumption) (by assumption) (by assumption) (by assumption) (by assumption) (by assumption) (by assumption) (by assumption) (by assumption) (by assumption) ?_
        | refine keep_foldl (fun _ _ _ => ?_) ?_))

theorem execBusAck_keep (_m0 : m .memory = true) (_m1 : m .galley = true) (_m2 : m .tensors = true) (_m3 : m .moves = true) (_m4 : m .impos = true) (_m5 : m .steps = true) (_m6 : m .groups = true) (_m7 : m .dies = true) (_m8 : m .links = true) (_m9 : m .hosts = true) (_m10 : m .twins = true) (_m11 : m .units = true) (_m12 : m .sources = true) (_m13 : m .regs = true) (_m14 : m .counters = true) (_m15 : m .msix = true) (_m16 : m .events = true) (_m17 : m .free = true) (_m18 : m .outputs = true) (h : Keep m s X) : KeepRes m s (execBusAck a0 a1 a2 a3 X) := by
  unfold execBusAck
  repeat' (first
    | (with_reducible assumption)
    | ((try lift_lets -underBinder); intro x; clear_value (e : x = _); first | (with_reducible refine keep_let (m := m) (s := s) e ?_ (fun _ => ?_) <;> clear e) | clear e)
    | (with_reducible first
        | refine ackRecord_keep (by assumption) ?_ | refine State_setChan_keep (by assumption) ?_
        | refine busFails_keep (by assumption) (by assumption) (by assumption) (by assumption) (by assumption) (by assumption) (by assumption) (by assumption) (by assumption) (by assumption) (by assumption) (by assumption) (by assumption) (by assumption) (by assumption) (by assumption) (by assumption) (by assumption) (by assumption) ?_
        | refine nbuCapture_keep (by assumption) (by assumption) (by assumption) (by assumption) ?_
        | refine count_keep (by assumption) (by assumption) (by assumption) (by assumption) (by assumption) ?_
        | refine keepRes_next ?_)
    | split)

theorem execNbuParity_keep (_m0 : m .memory = true) (_m1 : m .galley = true) (_m2 : m .tensors = true) (_m3 : m .moves = true) (_m4 : m .impos = true) (_m5 : m .steps = true) (_m6 : m .groups = true) (_m7 : m .dies = true) (_m8 : m .links = true) (_m9 : m .hosts = true) (_m10 : m .twins = true) (_m11 : m .units = true) (_m12 : m .sources = true) (_m13 : m .regs = true) (_m14 : m .counters = true) (_m15 : m .msix = true) (_m16 : m .events = true) (_m17 : m .free = true) (_m18 : m .outputs = true) (h : Keep m s X) : KeepRes m s (execNbuParity a0 a1 a2 a3 X) := by
  unfold execNbuParity
  repeat' (first
    | (with_reducible assumption)
    | ((try lift_lets -underBinder); intro x; clear_value (e : x = _); first | (with_reducible refine keep_let (m := m) (s := s) e ?_ (fun _ => ?_) <;> clear e) | clear e)
    | (with_reducible first
        | refine guarded_keep ?_
        | refine nbuCapture_keep (by assumption) (by assumption) (by assumption) (by assumption) ?_
        | refine setCause_keep (by assumption) (by assumption) (by assumption) ?_
        | refine holdPair_keep (by assumption) (by assumption) ?_
        | refine nbuFails_keep (by assumption) (by assumption) (by assumption) (by assumption) (by assumption) (by assumption) (by assumption) (by assumption) (by assumption) (by assumption) (by assumption) (by assumption) (by assumption) (by assumption) (by assumption) (by assumption) (by assumption) (by assumption) (by assumption) ?_)
    | split)

theorem execNbuHang_keep (_m0 : m .memory = true) (_m1 : m .galley = true) (_m2 : m .tensors = true) (_m3 : m .moves = true) (_m4 : m .impos = true) (_m5 : m .steps = true) (_m6 : m .groups = true) (_m7 : m .dies = true) (_m8 : m .links = true) (_m9 : m .hosts = true) (_m10 : m .twins = true) (_m11 : m .units = true) (_m12 : m .sources = true) (_m13 : m .regs = true) (_m14 : m .counters = true) (_m15 : m .msix = true) (_m16 : m .events = true) (_m17 : m .free = true) (_m18 : m .outputs = true) (h : Keep m s X) : KeepRes m s (execNbuHang a0 a1 a2 a3 X) := by
  unfold execNbuHang
  repeat' (first
    | (with_reducible assumption)
    | ((try lift_lets -underBinder); intro x; clear_value (e : x = _); first | (with_reducible refine keep_let (m := m) (s := s) e ?_ (fun _ => ?_) <;> clear e) | clear e)
    | (with_reducible first
        | refine nbuCapture_keep (by assumption) (by assumption) (by assumption) (by assumption) ?_
        | refine setCause_keep (by assumption) (by assumption) (by assumption) ?_
        | refine holdPair_keep (by assumption) (by assumption) ?_
        | refine nbuFails_keep (by assumption) (by assumption) (by assumption) (by assumption) (by assumption) (by assumption) (by assumption) (by assumption) (by assumption) (by assumption) (by assumption) (by assumption) (by assumption) (by assumption) (by assumption) (by assumption) (by assumption) (by assumption) (by assumption) ?_
        | refine keepRes_next ?_)
    | split)

theorem execFaultWindowRestart_keep (_m0 : m .units = true) (h : Keep m s X) : KeepRes m s (execFaultWindowRestart a0 a1 X) := by
  unfold execFaultWindowRestart
  repeat' (with_reducible first | assumption | refine keepRes_next ?_ | refine keep_mk ?_)

theorem execNbuMapout_keep (_m0 : m .memory = true) (_m1 : m .galley = true) (_m2 : m .tensors = true) (_m3 : m .moves = true) (_m4 : m .impos = true) (_m5 : m .steps = true) (_m6 : m .groups = true) (_m7 : m .dies = true) (_m8 : m .links = true) (_m9 : m .hosts = true) (_m10 : m .twins = true) (_m11 : m .units = true) (_m12 : m .sources = true) (_m13 : m .regs = true) (_m14 : m .counters = true) (_m15 : m .msix = true) (_m16 : m .events = true) (_m17 : m .waits = true) (_m18 : m .free = true) (_m19 : m .outputs = true) (h : Keep m s X) : KeepRes m s (execNbuMapout a0 X) := by
  unfold execNbuMapout
  repeat' (first
    | (with_reducible first
        | assumption | refine guarded_keep ?_
        | refine serveWrite_keep (by assumption) (by assumption) (by assumption) (by assumption) (by assumption) (by assumption) ?_ (fun _ _ _ _ _ _ => ?_)
        | refine refuseAccess_keep (by assumption) (by assumption) (by assumption) (by assumption) (by assumption) ?_
        | refine beginMapout_keep (by assumption) (by assumption) (by assumption) (by assumption) (by assumption) (by assumption) (by assumption) (by assumption) (by assumption) (by assumption) (by assumption) (by assumption) (by assumption) (by assumption) (by assumption) (by assumption) (by assumption) (by assumption) (by assumption) ?_)
    | split)

theorem commitBias_keep (_m0 : m .regs = true) (_m1 : m .counters = true) (_m2 : m .msix = true) (_m3 : m .events = true) (_m4 : m .waits = true) (_m5 : m .outputs = true) (h : Keep m s X) : Keep m s (commitBias X a1 a2 a3 a4) := by
  unfold commitBias
  repeat' (first
    | (with_reducible assumption)
    | ((try lift_lets -underBinder); intro x; clear_value (e : x = _); first | (with_reducible refine keep_let (m := m) (s := s) e ?_ (fun _ => ?_) <;> clear e) | clear e)
    | (with_reducible first
        | refine putBit_keep (by assumption) ?_
        | refine capture_keep (by assumption) (by assumption) (by assumption) (by assumption) ?_
        | refine hedgeViolation_keep (by assumption) (by assumption) (by assumption) (by assumption) (by assumption) ?_)
    | split
    | (with_reducible refine keep_mk ?_))

theorem execNbuBiasCommit_keep (_m0 : m .regs = true) (_m1 : m .counters = true) (_m2 : m .msix = true) (_m3 : m .events = true) (_m4 : m .waits = true) (_m5 : m .outputs = true) (h : Keep m s X) : KeepRes m s (execNbuBiasCommit a0 X) := by
  unfold execNbuBiasCommit
  repeat' (first
    | (with_reducible assumption)
    | ((try lift_lets -underBinder); intro x; clear_value (e : x = _); clear e)
    | (with_reducible first
        | refine guarded_keep ?_
        | refine serveWrite_keep (by assumption) (by assumption) (by assumption) (by assumption) (by assumption) (by assumption) ?_ (fun _ _ _ _ _ _ => ?_)
        | refine commitBias_keep (by assumption) (by assumption) (by assumption) (by assumption) (by assumption) (by assumption) ?_)
    | split)

theorem execNbuBiasOwnerWrite_keep (_m0 : m .regs = true) (_m1 : m .counters = true) (_m2 : m .msix = true) (_m3 : m .events = true) (_m4 : m .waits = true) (_m5 : m .outputs = true) (h : Keep m s X) : KeepRes m s (execNbuBiasOwnerWrite a0 X) := by
  unfold execNbuBiasOwnerWrite
  repeat' (first
    | (with_reducible assumption)
    | ((try lift_lets -underBinder); intro x; clear_value (e : x = _); clear e)
    | (with_reducible first
        | refine guarded_keep ?_
        | refine serveWrite_keep (by assumption) (by assumption) (by assumption) (by assumption) (by assumption) (by assumption) ?_ (fun _ _ _ _ _ _ => ?_)
        | refine keep_mk ?_))

end Sys2Proof.Machine
end

