-- ==== Sys2Proof/Laws/KeepOutPath.lean ====
section
/-!
SUPPORT. What the operations and meanings of Machine/OutPath.lean keep (`Keep`).
-/
set_option Elab.async false
set_option linter.all false
namespace Sys2Proof.Machine

theorem drainFlags_keep (_m0 : m .steps = true) (_m1 : m .units = true) (_m2 : m .regs = true) (_m3 : m .counters = true) (_m4 : m .msix = true) (_m5 : m .events = true) (_m6 : m .outputs = true) (h : Keep m s X) : Keep m s (drainFlags a0 a1 a2 a3 X a5 a6) := by
  unfold drainFlags
  repeat' (first
    | (with_reducible assumption)
    | ((try lift_lets -underBinder); intro x; clear_value (e : x = _); first | (with_reducible refine keep_let (m := m) (s := s) e ?_ (fun _ => ?_) <;> clear e) | clear e)
    | (with_reducible first
        | refine count_keep (by assumption) (by assumption) (by assumption) (by assumption) (by assumption) ?_
        | refine State_setCore_keep (by assumption) ?_
        | refine coreCapture_keep (by assumption) (by assumption) (by assumption) (by assumption) ?_
        | refine flagRequest_keep (by assumption) ?_)
    | split)

theorem appendBad_keep (_m0 : m .galley = true) (_m1 : m .steps = true) (_m2 : m .regs = true) (_m3 : m .msix = true) (_m4 : m .events = true) (_m5 : m .outputs = true) (h : Keep m s X) : Keep m s (appendBad X a1 a2 a3 a4 a5 a6) := by
  unfold appendBad
  repeat' (first
    | (with_reducible assumption)
    | ((try lift_lets -underBinder); intro x; clear_value (e : x = _); (with_reducible refine keep_let (m := m) (s := s) e ?_ (fun _ => ?_) <;> clear e))
    | (with_reducible first
        | refine coreCapture_keep (by assumption) (by assumption) (by assumption) (by assumption) ?_
        | refine raiseEnd_keep (by assumption) ?_ | refine voidRequest_keep (by assumption) ?_))

theorem appendRow_keep (_m0 : m .memory = true) (_m1 : m .galley = true) (_m2 : m .steps = true) (_m3 : m .links = true) (_m4 : m .units = true) (_m5 : m .regs = true) (_m6 : m .counters = true) (_m7 : m .msix = true) (_m8 : m .events = true) (_m9 : m .outputs = true) (h : Keep m s X) : Keep m s (appendRow X a1 a2 a3 a4) := by
  unfold appendRow
  repeat' (first
    | (with_reducible assumption)
    | ((try lift_lets -underBinder); intro x; clear_value (e : x = _); first | (with_reducible refine keep_let (m := m) (s := s) e ?_ (fun _ => ?_) <;> clear e) | clear e)
    | (with_reducible first
        | refine appendBad_keep (by assumption) (by assumption) (by assumption) (by assumption) (by assumption) (by assumption) ?_
        | refine count_keep (by assumption) (by assumption) (by assumption) (by assumption) (by assumption) ?_
        | refine dataWrite_keep (by assumption) (by assumption) ?_
        | refine sendPeer_keep (by assumption) (by assumption) (by assumption) (by assumption) (by assumption) (by assumption) ?_)
    | split)

theorem issueAtomics_keep (_m0 : m .steps = true) (_m1 : m .regs = true) (_m2 : m .counters = true) (_m3 : m .msix = true) (_m4 : m .events = true) (_m5 : m .outputs = true) (h : Keep m s X) : Keep m s (issueAtomics X a1 a2 a3) := by
  unfold issueAtomics
  repeat' (first
    | (with_reducible assumption)
    | ((try lift_lets -underBinder); intro x; clear_value (e : x = _); first | (with_reducible refine keep_let (m := m) (s := s) e ?_ (fun _ => ?_) <;> clear e) | clear e)
    | (with_reducible first
        | refine advance_keep (by assumption) ?_
        | refine count_keep (by assumption) (by assumption) (by assumption) (by assumption) (by assumption) ?_
        | refine keep_mk ?_))

theorem applyAtomic_keep (_m0 : m .memory = true) (_m1 : m .galley = true) (_m2 : m .tensors = true) (_m3 : m .moves = true) (_m4 : m .impos = true) (_m5 : m .steps = true) (_m6 : m .groups = true) (_m7 : m .dies = true) (_m8 : m .links = true) (_m9 : m .hosts = true) (_m10 : m .units = true) (_m11 : m .sources = true) (_m12 : m .regs = true) (_m13 : m .counters = true) (_m14 : m .msix = true) (_m15 : m .events = true) (_m16 : m .free = true) (_m17 : m .outputs = true) (h : Keep m s X) : KeepFst m s (applyAtomic X a1) := by
  unfold applyAtomic
  repeat' (first
    | (with_reducible assumption)
    | ((try lift_lets -underBinder); intro x; clear_value (e : x = _); first | (with_reducible refine keep_let (m := m) (s := s) e ?_ (fun _ => ?_) <;> clear e) | clear e)
    | (with_reducible first
        | refine mergeRefused_keep (by assumption) (by assumption) (by assumption) (by assumption) (by assumption) (by assumption) (by assumption) (by assumption) (by assumption) (by assumption) (by assumption) (by assumption) (by assumption) (by assumption) (by assumption) (by assumption) (by assumption) ?_
        | refine dataWrite_keep (by assumption) (by assumption) ?_
        | refine t0Write_keep (by assumption) ?_
        | refine count_keep (by assumption) (by assumption) (by assumption) (by assumption) (by assumption) ?_)
    | split
    | (with_reducible refine keepFst_mk ?_))

theorem atomicDone_keep (_m0 : m .steps = true) (_m1 : m .links = true) (_m2 : m .sources = true) (_m3 : m .regs = true) (_m4 : m .counters = true) (_m5 : m .msix = true) (_m6 : m .events = true) (_m7 : m .outputs = true) (h : Keep m s X) : Keep m s (atomicDone X a1 a2) := by
  unfold atomicDone
  repeat' (first
    | (with_reducible assumption)
    | ((try lift_lets -underBinder); intro x; clear_value (e : x = _); first | (with_reducible refine keep_let (m := m) (s := s) e ?_ (fun _ => ?_) <;> clear e) | clear e)
    | (with_reducible first
        | refine count_keep (by assumption) (by assumption) (by assumption) (by assumption) (by assumption) ?_
        | refine coreCapture_keep (by assumption) (by assumption) (by assumption) (by assumption) ?_
        | refine completeSort_keep (by assumption) (by assumption) (by assumption) (by assumption) (by assumption) (by assumption) (by assumption) (by assumption) ?_)
    | split)

theorem execAtomicAdd_keep (_m0 : m .memory = true) (_m1 : m .galley = true) (_m2 : m .tensors = true) (_m3 : m .moves = true) (_m4 : m .impos = true) (_m5 : m .steps = true) (_m6 : m .groups = true) (_m7 : m .dies = true) (_m8 : m .links = true) (_m9 : m .hosts = true) (_m10 : m .units = true) (_m11 : m .sources = true) (_m12 : m .regs = true) (_m13 : m .counters = true) (_m14 : m .msix = true) (_m15 : m .events = true) (_m16 : m .free = true) (_m17 : m .outputs = true) (h : Keep m s X) : KeepRes m s (execAtomicAdd a0 X) := by
  unfold execAtomicAdd
  repeat' (first
    | (with_reducible assumption)
    | ((try lift_lets -underBinder); intro x; clear_value (e : x = _); first | (with_reducible refine keep_let (m := m) (s := s) e ?_ (fun _ => ?_) <;> clear e) | clear e)
    | (with_reducible first
        | refine applyAtomic_keep (by assumption) (by assumption) (by assumption) (by assumption) (by assumption) (by assumption) (by assumption) (by assumption) (by assumption) (by assumption) (by assumption) (by assumption) (by assumption) (by assumption) (by assumption) (by assumption) (by assumption) (by assumption) ?_
        | refine atomicDone_keep (by assumption) (by assumption) (by assumption) (by assumption) (by assumption) (by assumption) (by assumption) (by assumption) ?_
        | refine abandonWith_keep (by assumption) (by assumption) (by assumption) (by assumption) (by assumption) (by assumption) (by assumption) (by assumption) (by assumption) (by assumption) (by assumption) (by assumption) ?_
        | refine keepRes_next ?_ | refine keepFst_of ?_ (by with_reducible assumption))
    | split
    | (with_reducible refine keep_mk ?_))

theorem drainWrite_keep (_m0 : m .memory = true) (_m1 : m .galley = true) (_m2 : m .impos = true) (_m3 : m .steps = true) (_m4 : m .groups = true) (_m5 : m .links = true) (_m6 : m .units = true) (_m7 : m .sources = true) (_m8 : m .regs = true) (_m9 : m .counters = true) (_m10 : m .msix = true) (_m11 : m .events = true) (_m12 : m .free = true) (_m13 : m .outputs = true) (h : Keep m s X) : Keep m s (drainWrite X a1 a2 a3) := by
  unfold drainWrite
  repeat' (first
    | (with_reducible assumption)
    | ((try lift_lets -underBinder); intro x; clear_value (e : x = _); clear e)
    | (with_reducible first
        | refine finishSort_keep (by assumption) (by assumption) (by assumption) (by assumption) (by assumption) (by assumption) (by assumption) (by assumption) ?_
        | refine t0Write_keep (by assumption) ?_
        | refine issueAtomics_keep (by assumption) (by assumption) (by assumption) (by assumption) (by assumption) (by assumption) ?_
        | refine refuseSort_keep (by assumption) (by assumption) (by assumption) (by assumption) (by assumption) (by assumption) (by assumption) (by assumption) (by assumption) (by assumption) (by assumption) (by assumption) ?_
        | refine appendRow_keep (by assumption) (by assumption) (by assumption) (by assumption) (by assumption) (by assumption) (by assumption) (by assumption) (by assumption) (by assumption) ?_
        | refine keep_foldl (fun _ _ _ => ?_) ?_)
    | split)

theorem runDrain_keep (_m0 : m .memory = true) (_m1 : m .galley = true) (_m2 : m .impos = true) (_m3 : m .steps = true) (_m4 : m .groups = true) (_m5 : m .links = true) (_m6 : m .units = true) (_m7 : m .sources = true) (_m8 : m .regs = true) (_m9 : m .counters = true) (_m10 : m .msix = true) (_m11 : m .events = true) (_m12 : m .free = true) (_m13 : m .outputs = true) (h : Keep m s X) : Keep m s (runDrain X a1 a2) := by
  unfold runDrain
  repeat' (first
    | (with_reducible assumption)
    | ((try lift_lets -underBinder); intro x; clear_value (e : x = _); first | (with_reducible refine keep_let (m := m) (s := s) e ?_ (fun _ => ?_) <;> clear e) | clear e)
    | (with_reducible first
        | refine drawFree_keep (by assumption) ?_ | refine State_setCore_keep (by assumption) ?_
        | refine drainFlags_keep (by assumption) (by assumption) (by assumption) (by assumption) (by assumption) (by assumption) (by assumption) ?_
        | refine drainWrite_keep (by assumption) (by assumption) (by assumption) (by assumption) (by assumption) (by assumption) (by assumption) (by assumption) (by assumption) (by assumption) (by assumption) (by assumption) (by assumption) (by assumption) ?_
        | refine keep_foldl (fun _ _ _ => ?_) ?_ | refine keepSnd_proj ?_)
    | split)

theorem execDrainSort_keep (_m0 : m .memory = true) (_m1 : m .galley = true) (_m2 : m .impos = true) (_m3 : m .steps = true) (_m4 : m .groups = true) (_m5 : m .links = true) (_m6 : m .units = true) (_m7 : m .sources = true) (_m8 : m .regs = true) (_m9 : m .counters = true) (_m10 : m .msix = true) (_m11 : m .events = true) (_m12 : m .free = true) (_m13 : m .outputs = true) (h : Keep m s X) : KeepRes m s (execDrainSort a0 X) := by
  unfold execDrainSort
  repeat' (first
    | (with_reducible first
        | assumption
        | refine runSort_keep (by assumption) (by assumption) (by assumption) (by assumption) (by assumption) (by assumption) (by assumption) (by assumption) (by assumption) (by assumption) (by assumption) (by assumption) (by assumption) ?_ (fun _ _ _ => ?_)
        | refine runDrain_keep (by assumption) (by assumption) (by assumption) (by assumption) (by assumption) (by assumption) (by assumption) (by assumption) (by assumption) (by assumption) (by assumption) (by assumption) (by assumption) (by assumption) ?_
        | refine keepRes_next ?_)
    | split)

end Sys2Proof.Machine
end

