-- ==== Sys2Proof/Laws/KeepVecOps.lean ====
section
/-!
SUPPORT. What the operations and meanings of Machine/VecOps.lean keep (`Keep`).
-/
set_option Elab.async false
set_option linter.all false
namespace Sys2Proof.Machine

theorem execVop_keep (_m0 : m .memory = true) (_m1 : m .galley = true) (_m2 : m .impos = true) (_m3 : m .steps = true) (_m4 : m .groups = true) (_m5 : m .links = true) (_m6 : m .units = true) (_m7 : m .sources = true) (_m8 : m .regs = true) (_m9 : m .counters = true) (_m10 : m .msix = true) (_m11 : m .events = true) (_m12 : m .free = true) (_m13 : m .outputs = true) (h : Keep m s X) : KeepRes m s (execVop a0 X) := by
  unfold execVop
  repeat' (first
    | (with_reducible assumption)
    | ((try lift_lets -underBinder); intro x; clear_value (e : x = _); clear e)
    | (with_reducible first
        | refine runSort_keep (by assumption) (by assumption) (by assumption) (by assumption) (by assumption) (by assumption) (by assumption) (by assumption) (by assumption) (by assumption) (by assumption) (by assumption) (by assumption) ?_ (fun _ _ _ => ?_)
        | refine finishSort_keep (by assumption) (by assumption) (by assumption) (by assumption) (by assumption) (by assumption) (by assumption) (by assumption) ?_
        | refine t0Write_keep (by assumption) ?_
        | refine refuseSort_keep (by assumption) (by assumption) (by assumption) (by assumption) (by assumption) (by assumption) (by assumption) (by assumption) (by assumption) (by assumption) (by assumption) (by assumption) ?_
        | refine keepRes_next ?_)
    | split)

theorem mergeFlags_keep (_m0 : m .steps = true) (h : Keep m s X) : Keep m s (mergeFlags X a1 a2) := by
  unfold mergeFlags
  repeat' (first
    | (with_reducible assumption)
    | ((try lift_lets -underBinder); intro x; clear_value (e : x = _); (with_reducible refine keep_let (m := m) (s := s) e ?_ (fun _ => ?_) <;> clear e))
    | (with_reducible first
        | refine voidRequest_keep (by assumption) ?_ | refine flagRequest_keep (by assumption) ?_)
    | split)

theorem noteEmpty_keep (_m0 : m .steps = true) (_m1 : m .regs = true) (_m2 : m .counters = true) (_m3 : m .msix = true) (_m4 : m .events = true) (_m5 : m .outputs = true) (h : Keep m s X) : Keep m s (noteEmpty X a1 a2 a3) := by
  unfold noteEmpty
  repeat' (first
    | (with_reducible assumption)
    | ((try lift_lets -underBinder); intro x; clear_value (e : x = _); first | (with_reducible refine keep_let (m := m) (s := s) e ?_ (fun _ => ?_) <;> clear e) | clear e)
    | (with_reducible first
        | refine count_keep (by assumption) (by assumption) (by assumption) (by assumption) (by assumption) ?_
        | refine flagRequest_keep (by assumption) ?_)
    | split)

theorem runMerge_keep (_m0 : m .memory = true) (_m1 : m .steps = true) (_m2 : m .links = true) (_m3 : m .sources = true) (_m4 : m .regs = true) (_m5 : m .counters = true) (_m6 : m .msix = true) (_m7 : m .events = true) (_m8 : m .outputs = true) (h : Keep m s X) : Keep m s (runMerge X a1 a2) := by
  unfold runMerge
  repeat' (first
    | (with_reducible assumption)
    | ((try lift_lets -underBinder); intro x; clear_value (e : x = _); first | (with_reducible refine keep_let (m := m) (s := s) e ?_ (fun _ => ?_) <;> clear e) | clear e)
    | (with_reducible first
        | refine finishSort_keep (by assumption) (by assumption) (by assumption) (by assumption) (by assumption) (by assumption) (by assumption) (by assumption) ?_
        | refine mergeFlags_keep (by assumption) ?_
        | refine count_keep (by assumption) (by assumption) (by assumption) (by assumption) (by assumption) ?_
        | refine t0Write_keep (by assumption) ?_
        | refine noteEmpty_keep (by assumption) (by assumption) (by assumption) (by assumption) (by assumption) (by assumption) ?_
        | refine keep_foldl (fun _ _ _ => ?_) ?_)
    | split)

theorem execMergeSort_keep (_m0 : m .memory = true) (_m1 : m .galley = true) (_m2 : m .impos = true) (_m3 : m .steps = true) (_m4 : m .groups = true) (_m5 : m .links = true) (_m6 : m .units = true) (_m7 : m .sources = true) (_m8 : m .regs = true) (_m9 : m .counters = true) (_m10 : m .msix = true) (_m11 : m .events = true) (_m12 : m .free = true) (_m13 : m .outputs = true) (h : Keep m s X) : KeepRes m s (execMergeSort a0 X) := by
  unfold execMergeSort
  repeat' (first
    | (with_reducible first
        | assumption
        | refine runSort_keep (by assumption) (by assumption) (by assumption) (by assumption) (by assumption) (by assumption) (by assumption) (by assumption) (by assumption) (by assumption) (by assumption) (by assumption) (by assumption) ?_ (fun _ _ _ => ?_)
        | refine runMerge_keep (by assumption) (by assumption) (by assumption) (by assumption) (by assumption) (by assumption) (by assumption) (by assumption) (by assumption) ?_
        | refine keepRes_next ?_)
    | split)

theorem chooseOne_keep (_m0 : m .steps = true) (_m1 : m .regs = true) (_m2 : m .counters = true) (_m3 : m .msix = true) (_m4 : m .events = true) (_m5 : m .outputs = true) (h : Keep m s X) : Keep m s (chooseOne a0 a1 a2 X a4) := by
  unfold chooseOne
  repeat' (first
    | (with_reducible assumption)
    | ((try lift_lets -underBinder); intro x; clear_value (e : x = _); clear e)
    | (with_reducible first
        | refine coreCapture_keep (by assumption) (by assumption) (by assumption) (by assumption) ?_
        | refine onSlots_keep (by assumption) ?_
        | refine count_keep (by assumption) (by assumption) (by assumption) (by assumption) (by assumption) ?_)
    | split)

theorem runSample_keep (_m0 : m .memory = true) (_m1 : m .steps = true) (_m2 : m .links = true) (_m3 : m .sources = true) (_m4 : m .regs = true) (_m5 : m .counters = true) (_m6 : m .msix = true) (_m7 : m .events = true) (_m8 : m .outputs = true) (h : Keep m s X) : Keep m s (runSample X a1 a2) := by
  unfold runSample
  repeat' (first
    | (with_reducible assumption)
    | ((try lift_lets -underBinder); intro x; clear_value (e : x = _); clear e)
    | (with_reducible first
        | refine finishSort_keep (by assumption) (by assumption) (by assumption) (by assumption) (by assumption) (by assumption) (by assumption) (by assumption) ?_
        | refine t0Write_keep (by assumption) ?_
        | refine chooseOne_keep (by assumption) (by assumption) (by assumption) (by assumption) (by assumption) (by assumption) ?_
        | refine keep_foldl (fun _ _ _ => ?_) ?_)
    | split)

theorem execSampleSort_keep (_m0 : m .memory = true) (_m1 : m .galley = true) (_m2 : m .impos = true) (_m3 : m .steps = true) (_m4 : m .groups = true) (_m5 : m .links = true) (_m6 : m .units = true) (_m7 : m .sources = true) (_m8 : m .regs = true) (_m9 : m .counters = true) (_m10 : m .msix = true) (_m11 : m .events = true) (_m12 : m .free = true) (_m13 : m .outputs = true) (h : Keep m s X) : KeepRes m s (execSampleSort a0 X) := by
  unfold execSampleSort
  repeat' (first
    | (with_reducible first
        | assumption
        | refine runSort_keep (by assumption) (by assumption) (by assumption) (by assumption) (by assumption) (by assumption) (by assumption) (by assumption) (by assumption) (by assumption) (by assumption) (by assumption) (by assumption) ?_ (fun _ _ _ => ?_)
        | refine runSample_keep (by assumption) (by assumption) (by assumption) (by assumption) (by assumption) (by assumption) (by assumption) (by assumption) (by assumption) ?_
        | refine keepRes_next ?_)
    | split)

theorem execFoldSort_keep (_m0 : m .memory = true) (_m1 : m .galley = true) (_m2 : m .tensors = true) (_m3 : m .moves = true) (_m4 : m .impos = true) (_m5 : m .steps = true) (_m6 : m .groups = true) (_m7 : m .dies = true) (_m8 : m .links = true) (_m9 : m .hosts = true) (_m10 : m .twins = true) (_m11 : m .units = true) (_m12 : m .sources = true) (_m13 : m .regs = true) (_m14 : m .counters = true) (_m15 : m .msix = true) (_m16 : m .events = true) (_m17 : m .free = true) (_m18 : m .outputs = true) (h : Keep m s X) : KeepRes m s (execFoldSort a0 X) := by
  unfold execFoldSort
  repeat' (first
    | (with_reducible assumption)
    | ((try lift_lets -underBinder); intro x; clear_value (e : x = _); first | (with_reducible refine keep_let (m := m) (s := s) e ?_ (fun _ => ?_) <;> clear e) | clear e)
    | (with_reducible first
        | refine runSort_keep (by assumption) (by assumption) (by assumption) (by assumption) (by assumption) (by assumption) (by assumption) (by assumption) (by assumption) (by assumption) (by assumption) (by assumption) (by assumption) ?_ (fun _ _ _ => ?_)
        | refine count_keep (by assumption) (by assumption) (by assumption) (by assumption) (by assumption) ?_
        | refine tensorWrite_keep (by assumption) (by assumption) (by assumption) (by assumption) (by assumption) (by assumption) (by assumption) (by assumption) (by assumption) (by assumption) (by assumption) (by assumption) (by assumption) (by assumption) (by assumption) (by assumption) (by assumption) (by assumption) (by assumption) ?_ (fun _ _ => ?_)
        | refine finishSort_keep (by assumption) (by assumption) (by assumption) (by assumption) (by assumption) (by assumption) (by assumption) (by assumption) ?_
        | refine t0Write_keep (by assumption) ?_ | refine keepRes_next ?_)
    | split)

end Sys2Proof.Machine
end

