-- ==== Sys2Proof/Laws/KeepAttend.lean ====
section
/-!
SUPPORT. What the operations and meanings of Machine/Attend.lean keep (`Keep`).
-/
set_option Elab.async false
set_option linter.all false
namespace Sys2Proof.Machine

theorem Build_noop_keep (_m0 : m .memory = true) (_m1 : m .steps = true) (_m2 : m .sources = true) (_m3 : m .regs = true) (_m4 : m .counters = true) (_m5 : m .msix = true) (_m6 : m .events = true) (_m7 : m .outputs = true) (h : Keep m s X) : Keep m s (Build.noop X a1 a2 a3 a4 a5 a6) := by
  unfold Build.noop
  repeat' (with_reducible first
      | assumption
      | refine controllerRecord_keep (by assumption) (by assumption) (by assumption) (by assumption) (by assumption) (by assumption) (by assumption) (by assumption) ?_)

theorem Build_rows_keep (_m0 : m .memory = true) (_m1 : m .steps = true) (_m2 : m .units = true) (_m3 : m .sources = true) (_m4 : m .regs = true) (_m5 : m .counters = true) (_m6 : m .msix = true) (_m7 : m .events = true) (_m8 : m .outputs = true) (h : Keep m s X) : Keep m s (Build.rows a0 a1 a2 a3 a4 a5 X) := by
  unfold Build.rows
  repeat' (first
    | (with_reducible assumption)
    | ((try lift_lets -underBinder); intro x; clear_value (e : x = _); first | (with_reducible refine keep_let (m := m) (s := s) e ?_ (fun _ => ?_) <;> clear e) | (have _ := fun a => x a; subst e; try dsimp -zeta only) | clear e)
    | (with_reducible first
        | refine State_setChan_keep (by assumption) ?_
        | refine Build_noop_keep (by assumption) (by assumption) (by assumption) (by assumption) (by assumption) (by assumption) (by assumption) (by assumption) ?_
        | refine keep_foldl (fun _ _ _ => ?_) ?_)
    | split)

theorem Build_check_keep (_m0 : m .galley = true) (_m1 : m .steps = true) (_m2 : m .regs = true) (_m3 : m .msix = true) (_m4 : m .events = true) (_m5 : m .outputs = true) (h : Keep m s X) : KeepSnd m s (Build.check a0 X) := by
  unfold Build.check
  repeat' (first
    | (with_reducible first | assumption | exact keepSnd_pair (by with_reducible assumption))
    | ((try lift_lets -underBinder); intro x; clear_value (e : x = _); first | (with_reducible refine keep_let (m := m) (s := s) e ?_ (fun _ => ?_) <;> clear e) | clear e)
    | (with_reducible first
        | refine nbuCapture_keep (by assumption) (by assumption) (by assumption) (by assumption) ?_
        | refine raiseEnd_keep (by assumption) ?_ | refine voidRequest_keep (by assumption) ?_
        | refine keepSnd_foldl (fun _ _ _ => ?_) ?_)
    | split
    | (with_reducible refine keepSnd_mk ?_))

theorem Build_all_keep (_m0 : m .memory = true) (_m1 : m .galley = true) (_m2 : m .steps = true) (_m3 : m .units = true) (_m4 : m .sources = true) (_m5 : m .regs = true) (_m6 : m .counters = true) (_m7 : m .msix = true) (_m8 : m .events = true) (_m9 : m .outputs = true) (h : Keep m s X) : Keep m s (Build.all a0 X) := by
  unfold Build.all
  repeat' (first
    | (with_reducible assumption)
    | ((try lift_lets -underBinder); intro x; clear_value (e : x = _); clear e)
    | (with_reducible first
        | refine Build_check_keep (by assumption) (by assumption) (by assumption) (by assumption) (by assumption) (by assumption) ?_
        | refine Build_rows_keep (by assumption) (by assumption) (by assumption) (by assumption) (by assumption) (by assumption) (by assumption) (by assumption) (by assumption) ?_
        | refine keep_foldl (fun _ _ _ => ?_) ?_ | refine keepSnd_proj ?_))

theorem execAttendSort_keep (_m0 : m .memory = true) (_m1 : m .galley = true) (_m2 : m .impos = true) (_m3 : m .steps = true) (_m4 : m .groups = true) (_m5 : m .links = true) (_m6 : m .units = true) (_m7 : m .sources = true) (_m8 : m .regs = true) (_m9 : m .counters = true) (_m10 : m .msix = true) (_m11 : m .events = true) (_m12 : m .free = true) (_m13 : m .outputs = true) (h : Keep m s X) : KeepRes m s (execAttendSort a0 a1 X) := by
  unfold execAttendSort
  repeat' (first
    | (with_reducible assumption)
    | ((try lift_lets -underBinder); intro x; clear_value (e : x = _); first | (with_reducible refine keep_let (m := m) (s := s) e ?_ (fun _ => ?_) <;> clear e) | clear e)
    | (with_reducible first
        | refine refuseSort_keep (by assumption) (by assumption) (by assumption) (by assumption) (by assumption) (by assumption) (by assumption) (by assumption) (by assumption) (by assumption) (by assumption) (by assumption) ?_
        | refine advance_keep (by assumption) ?_
        | refine Build_all_keep (by assumption) (by assumption) (by assumption) (by assumption) (by assumption) (by assumption) (by assumption) (by assumption) (by assumption) (by assumption) ?_
        | refine traceSort_keep (by assumption) (by assumption) (by assumption) (by assumption) (by assumption) (by assumption) ?_
        | refine completeSort_keep (by assumption) (by assumption) (by assumption) (by assumption) (by assumption) (by assumption) (by assumption) (by assumption) ?_
        | refine keepRes_next ?_)
    | split)

end Sys2Proof.Machine
end

