-- ==== Sys2Proof/Laws/KeepResetOps.lean ====
section
/-!
SUPPORT. What the operations and meanings of Machine/ResetOps.lean keep (`Keep`).
-/
set_option Elab.async false
set_option linter.all false
namespace Sys2Proof.Machine

theorem keepLevels_keep (_m0 : m .regs = true) (h : Keep m s X) (h1 : Keep m s X1) : Keep m s (keepLevels X X1 a2) := by
  unfold keepLevels
  repeat' (first
    | (with_reducible assumption)
    | ((try lift_lets -underBinder); intro x; clear_value (e : x = _); (with_reducible refine keep_let (m := m) (s := s) e ?_ (fun _ => ?_) <;> clear e))
    | (with_reducible first
        | refine setReg_keep (by assumption) ?_ | refine putFld_keep (by assumption) ?_))

theorem ownReference_keep (_m0 : m .regs = true) (h : Keep m s X) : Keep m s (ownReference X a1) := by
  unfold ownReference
  repeat' (with_reducible first | assumption | refine putBit_keep (by assumption) ?_)

theorem beginCold_keep (_m0 : m .memory = true) (_m1 : m .galley = true) (_m2 : m .tensors = true) (_m3 : m .moves = true) (_m4 : m .impos = true) (_m5 : m .steps = true) (_m6 : m .groups = true) (_m7 : m .halves = true) (_m8 : m .dies = true) (_m9 : m .nvs = true) (_m10 : m .ports = true) (_m11 : m .links = true) (_m12 : m .hosts = true) (_m13 : m .commands = true) (_m14 : m .twins = true) (_m15 : m .units = true) (_m16 : m .time = true) (_m17 : m .hubs = true) (_m18 : m .sources = true) (_m19 : m .regs = true) (_m20 : m .counters = true) (_m21 : m .latches = true) (_m22 : m .msix = true) (_m23 : m .events = true) (_m24 : m .waits = true) (h : Keep m s X) : Keep m s (beginCold X a1) := by
  unfold beginCold
  refine ledgerWrite_keep (by assumption) (by assumption) (putBit_keep (by assumption) (ownReference_keep (by assumption) (ownReference_keep (by assumption) (keepLevels_keep (by assumption) h ?_))))
  refine h.upd rfl ⟨rfl, id, id⟩ (Nat.le_succ _) (List.prefix_refl _) (fun _ => ⟨rfl, rfl, rfl, rfl⟩) (fun p hp => ?_)
  cases p <;> simp_all [Same]

theorem clearPorts_keep (_m0 : m .ports = true) (_m1 : m .links = true) (_m2 : m .time = true) (_m3 : m .regs = true) (h : Keep m s X) : Keep m s (clearPorts X a1) := by
  unfold clearPorts
  repeat' (first
    | (with_reducible assumption)
    | ((try lift_lets -underBinder); intro x; clear_value (e : x = _); first | (with_reducible refine keep_let (m := m) (s := s) e ?_ (fun _ => ?_) <;> clear e) | (have _ := fun a => x a; subst e; try dsimp -zeta only))
    | (with_reducible refine chooseParent_keep (by assumption) (by assumption) ?_)
    | split
    | (with_reducible refine keep_mk ?_))

theorem clearPcie_keep (_m0 : m .moves = true) (_m1 : m .hosts = true) (h : Keep m s X) : Keep m s (clearPcie X a1) := by
  unfold clearPcie
  repeat' (with_reducible first | assumption | refine keep_mk ?_)

theorem restDies_keep (_m0 : m .dies = true) (h : Keep m s X) : Keep m s (restDies X a1) := by
  unfold restDies
  repeat' (first
    | (with_reducible assumption)
    | ((try lift_lets -underBinder); intro x; clear_value (e : x = _); clear e)
    | (with_reducible first
        | refine State_setDie_keep (by assumption) ?_ | refine keep_foldl (fun _ _ _ => ?_) ?_))

theorem loseDies_keep (_m0 : m .galley = true) (_m1 : m .impos = true) (_m2 : m .steps = true) (_m3 : m .groups = true) (_m4 : m .dies = true) (_m5 : m .links = true) (_m6 : m .twins = true) (_m7 : m .units = true) (_m8 : m .regs = true) (_m9 : m .counters = true) (_m10 : m .msix = true) (_m11 : m .events = true) (_m12 : m .waits = true) (_m13 : m .free = true) (_m14 : m .outputs = true) (h : Keep m s X) : Keep m s (loseDies X a1) := by
  unfold loseDies
  repeat' (with_reducible first
      | assumption
      | refine dieLost_keep (by assumption) (by assumption) (by assumption) (by assumption) (by assumption) (by assumption) (by assumption) (by assumption) (by assumption) (by assumption) (by assumption) (by assumption) (by assumption) (by assumption) (by assumption) ?_
      | refine keep_foldl (fun _ _ _ => ?_) ?_)

theorem clearHalf_keep (_m0 : m .moves = true) (_m1 : m .dies = true) (_m2 : m .ports = true) (_m3 : m .links = true) (_m4 : m .hosts = true) (_m5 : m .units = true) (_m6 : m .time = true) (_m7 : m .hubs = true) (_m8 : m .sources = true) (_m9 : m .regs = true) (_m10 : m .counters = true) (_m11 : m .waits = true) (h : Keep m s X) : Keep m s (clearHalf X a1) := by
  unfold clearHalf
  repeat' (first
    | (with_reducible assumption)
    | ((try lift_lets -underBinder); intro x; clear_value (e : x = _); first | (with_reducible refine keep_let (m := m) (s := s) e ?_ (fun _ => ?_) <;> clear e) | (have _ := fun a => x a; subst e; try dsimp -zeta only))
    | (with_reducible first
        | refine clearPcie_keep (by assumption) (by assumption) ?_
        | refine clearPorts_keep (by assumption) (by assumption) (by assumption) (by assumption) ?_
        | refine State_setHub_keep (by assumption) ?_ | refine keep_mk ?_))

theorem endStop_keep (_m0 : m .links = true) (_m1 : m .regs = true) (_m2 : m .waits = true) (h : Keep m s X) : Keep m s (endStop X) := by
  unfold endStop
  repeat' (with_reducible first
      | assumption | refine setReg_keep (by assumption) ?_ | refine keep_mk ?_)

theorem beginHalfReset_keep (_m0 : m .galley = true) (_m1 : m .moves = true) (_m2 : m .impos = true) (_m3 : m .steps = true) (_m4 : m .groups = true) (_m5 : m .halves = true) (_m6 : m .dies = true) (_m7 : m .nvs = true) (_m8 : m .ports = true) (_m9 : m .links = true) (_m10 : m .hosts = true) (_m11 : m .twins = true) (_m12 : m .units = true) (_m13 : m .time = true) (_m14 : m .hubs = true) (_m15 : m .sources = true) (_m16 : m .regs = true) (_m17 : m .counters = true) (_m18 : m .msix = true) (_m19 : m .events = true) (_m20 : m .waits = true) (_m21 : m .free = true) (_m22 : m .outputs = true) (h : Keep m s X) : Keep m s (beginHalfReset X a1) := by
  unfold beginHalfReset
  repeat' (first
    | (with_reducible assumption)
    | ((try lift_lets -underBinder); intro x; clear_value (e : x = _); first | (with_reducible refine keep_let (m := m) (s := s) e ?_ (fun _ => ?_) <;> clear e) | (have _ : Nvs := x; subst e) | (have _ : Nat := x; subst e) | clear e)
    | (with_reducible first
        | refine clearHalf_keep (by assumption) (by assumption) (by assumption) (by assumption) (by assumption) (by assumption) (by assumption) (by assumption) (by assumption) (by assumption) (by assumption) (by assumption) ?_
        | refine abandonStep_keep (by assumption) (by assumption) (by assumption) (by assumption) (by assumption) (by assumption) (by assumption) (by assumption) (by assumption) (by assumption) (by assumption) (by assumption) ?_
        | refine passLease_keep (by assumption) (by assumption) (by assumption) (by assumption) (by assumption) ?_
        | refine endStop_keep (by assumption) (by assumption) (by assumption) ?_
        | refine restDies_keep (by assumption) ?_
        | refine loseDies_keep (by assumption) (by assumption) (by assumption) (by assumption) (by assumption) (by assumption) (by assumption) (by assumption) (by assumption) (by assumption) (by assumption) (by assumption) (by assumption) (by assumption) (by assumption) ?_
        | refine ledgerWrite_keep (by assumption) (by assumption) ?_
        | refine ownReference_keep (by assumption) ?_ | refine beginHalf_keep (by assumption) ?_)
    | split
    | (with_reducible refine keep_mk ?_))

theorem wakeDie_keep (_m0 : m .dies = true) (h : Keep m s X) : Keep m s (wakeDie X a1) := by
  unfold wakeDie
  repeat' (first
    | (with_reducible assumption)
    | ((try lift_lets -underBinder); intro x; clear_value (e : x = _); clear e)
    | (with_reducible refine State_setDie_keep (by assumption) ?_)
    | split)

theorem beginWarm_keep (_m0 : m .galley = true) (_m1 : m .impos = true) (_m2 : m .steps = true) (_m3 : m .groups = true) (_m4 : m .halves = true) (_m5 : m .dies = true) (_m6 : m .nvs = true) (_m7 : m .links = true) (_m8 : m .units = true) (_m9 : m .regs = true) (_m10 : m .counters = true) (_m11 : m .msix = true) (_m12 : m .events = true) (_m13 : m .waits = true) (_m14 : m .free = true) (_m15 : m .outputs = true) (h : Keep m s X) : Keep m s (beginWarm X) := by
  unfold beginWarm
  repeat' (first
    | (with_reducible assumption)
    | ((try lift_lets -underBinder); intro x; clear_value (e : x = _); first | (with_reducible refine keep_let (m := m) (s := s) e ?_ (fun _ => ?_) <;> clear e) | (have _ : Nvs := x; subst e) | (have _ : Nat := x; subst e) | (have _ := fun a => x a; subst e; try dsimp -zeta only))
    | (with_reducible first
        | refine abandonStep_keep (by assumption) (by assumption) (by assumption) (by assumption) (by assumption) (by assumption) (by assumption) (by assumption) (by assumption) (by assumption) (by assumption) (by assumption) ?_
        | refine wakeDie_keep (by assumption) ?_ | refine mcWait_keep (by assumption) ?_
        | refine endStop_keep (by assumption) (by assumption) (by assumption) ?_
        | refine ledgerWrite_keep (by assumption) (by assumption) ?_
        | refine beginHalf_keep (by assumption) ?_ | refine keep_foldl (fun _ _ _ => ?_) ?_)
    | split
    | (with_reducible refine keep_mk ?_))

theorem requestCold_keep (_m0 : m .memory = true) (_m1 : m .galley = true) (_m2 : m .tensors = true) (_m3 : m .moves = true) (_m4 : m .impos = true) (_m5 : m .steps = true) (_m6 : m .groups = true) (_m7 : m .halves = true) (_m8 : m .dies = true) (_m9 : m .nvs = true) (_m10 : m .ports = true) (_m11 : m .links = true) (_m12 : m .hosts = true) (_m13 : m .commands = true) (_m14 : m .twins = true) (_m15 : m .units = true) (_m16 : m .time = true) (_m17 : m .hubs = true) (_m18 : m .sources = true) (_m19 : m .regs = true) (_m20 : m .counters = true) (_m21 : m .latches = true) (_m22 : m .msix = true) (_m23 : m .events = true) (_m24 : m .waits = true) (h : Keep m s X) : Keep m s (requestCold X a1) := by
  unfold requestCold
  repeat' (first
    | (with_reducible first
        | assumption | refine discardReset_keep (by assumption) (by assumption) ?_
        | refine beginCold_keep (by assumption) (by assumption) (by assumption) (by assumption) (by assumption) (by assumption) (by assumption) (by assumption) (by assumption) (by assumption) (by assumption) (by assumption) (by assumption) (by assumption) (by assumption) (by assumption) (by assumption) (by assumption) (by assumption) (by assumption) (by assumption) (by assumption) (by assumption) (by assumption) (by assumption) ?_
        | refine supersede_keep (by assumption) (by assumption) ?_)
    | split)

theorem requestHalf_keep (_m0 : m .galley = true) (_m1 : m .moves = true) (_m2 : m .impos = true) (_m3 : m .steps = true) (_m4 : m .groups = true) (_m5 : m .halves = true) (_m6 : m .dies = true) (_m7 : m .nvs = true) (_m8 : m .ports = true) (_m9 : m .links = true) (_m10 : m .hosts = true) (_m11 : m .twins = true) (_m12 : m .units = true) (_m13 : m .time = true) (_m14 : m .hubs = true) (_m15 : m .sources = true) (_m16 : m .regs = true) (_m17 : m .counters = true) (_m18 : m .msix = true) (_m19 : m .events = true) (_m20 : m .waits = true) (_m21 : m .free = true) (_m22 : m .outputs = true) (h : Keep m s X) : Keep m s (requestHalf X a1) := by
  unfold requestHalf
  repeat' (first
    | (with_reducible first
        | assumption | refine discardReset_keep (by assumption) (by assumption) ?_
        | refine beginHalfReset_keep (by assumption) (by assumption) (by assumption) (by assumption) (by assumption) (by assumption) (by assumption) (by assumption) (by assumption) (by assumption) (by assumption) (by assumption) (by assumption) (by assumption) (by assumption) (by assumption) (by assumption) (by assumption) (by assumption) (by assumption) (by assumption) (by assumption) (by assumption) ?_
        | refine supersede_keep (by assumption) (by assumption) ?_)
    | split)

theorem requestWarm_keep (_m0 : m .memory = true) (_m1 : m .galley = true) (_m2 : m .tensors = true) (_m3 : m .moves = true) (_m4 : m .impos = true) (_m5 : m .steps = true) (_m6 : m .groups = true) (_m7 : m .halves = true) (_m8 : m .dies = true) (_m9 : m .nvs = true) (_m10 : m .ports = true) (_m11 : m .links = true) (_m12 : m .hosts = true) (_m13 : m .commands = true) (_m14 : m .twins = true) (_m15 : m .units = true) (_m16 : m .time = true) (_m17 : m .hubs = true) (_m18 : m .sources = true) (_m19 : m .regs = true) (_m20 : m .counters = true) (_m21 : m .latches = true) (_m22 : m .msix = true) (_m23 : m .events = true) (_m24 : m .waits = true) (_m25 : m .free = true) (_m26 : m .outputs = true) (h : Keep m s X) : Keep m s (requestWarm X) := by
  unfold requestWarm
  repeat' (first
    | (with_reducible first
        | assumption | refine discardReset_keep (by assumption) (by assumption) ?_
        | refine beginCold_keep (by assumption) (by assumption) (by assumption) (by assumption) (by assumption) (by assumption) (by assumption) (by assumption) (by assumption) (by assumption) (by assumption) (by assumption) (by assumption) (by assumption) (by assumption) (by assumption) (by assumption) (by assumption) (by assumption) (by assumption) (by assumption) (by assumption) (by assumption) (by assumption) (by assumption) ?_
        | refine beginWarm_keep (by assumption) (by assumption) (by assumption) (by assumption) (by assumption) (by assumption) (by assumption) (by assumption) (by assumption) (by assumption) (by assumption) (by assumption) (by assumption) (by assumption) (by assumption) (by assumption) ?_)
    | split)

end Sys2Proof.Machine
end

