-- ==== Sys2Proof/Laws/KeepPower.lean ====
section
/-!
SUPPORT. What the operations and meanings of Machine/Power.lean keep (`Keep`).
-/
set_option Elab.async false
set_option linter.all false
namespace Sys2Proof.Machine

theorem heathLost_keep (_m0 : m .halves = true) (_m1 : m .nvs = true) (_m2 : m .regs = true) (h : Keep m s X) : Keep m s (heathLost X) := by
  unfold heathLost
  repeat' (first
    | (with_reducible assumption)
    | ((try lift_lets -underBinder); intro x; clear_value (e : x = _); first | (with_reducible refine keep_let (m := m) (s := s) e ?_ (fun _ => ?_) <;> clear e) | (have _ : Nvs := x; subst e) | (have _ := fun a => x a; subst e; try dsimp -zeta only))
    | (with_reducible first
        | refine setReg_keep (by assumption) ?_ | refine putFld_keep (by assumption) ?_
        | refine keep_mk ?_))

theorem execVddHeathInTolerance_keep (_m0 : m .memory = true) (_m1 : m .galley = true) (_m2 : m .tensors = true) (_m3 : m .moves = true) (_m4 : m .impos = true) (_m5 : m .steps = true) (_m6 : m .groups = true) (_m7 : m .halves = true) (_m8 : m .dies = true) (_m9 : m .nvs = true) (_m10 : m .ports = true) (_m11 : m .links = true) (_m12 : m .hosts = true) (_m13 : m .commands = true) (_m14 : m .twins = true) (_m15 : m .units = true) (_m16 : m .time = true) (_m17 : m .hubs = true) (_m18 : m .sources = true) (_m19 : m .regs = true) (_m20 : m .counters = true) (_m21 : m .latches = true) (_m22 : m .msix = true) (_m23 : m .events = true) (_m24 : m .waits = true) (h : Keep m s X) : KeepRes m s (execVddHeathInTolerance a0 X) := by
  unfold execVddHeathInTolerance
  repeat' (first
    | (with_reducible assumption)
    | ((try lift_lets -underBinder); intro x; clear_value (e : x = _); first | (with_reducible refine keep_let (m := m) (s := s) e ?_ (fun _ => ?_) <;> clear e) | clear e)
    | (with_reducible first
        | refine putBit_keep (by assumption) ?_
        | refine beginCold_keep (by assumption) (by assumption) (by assumption) (by assumption) (by assumption) (by assumption) (by assumption) (by assumption) (by assumption) (by assumption) (by assumption) (by assumption) (by assumption) (by assumption) (by assumption) (by assumption) (by assumption) (by assumption) (by assumption) (by assumption) (by assumption) (by assumption) (by assumption) (by assumption) (by assumption) ?_
        | refine State_setHalf_keep (by assumption) ?_ | refine beginHalf_keep (by assumption) ?_
        | refine keepRes_next ?_)
    | split)

theorem execVddHeathRemoval_keep (_m0 : m .halves = true) (_m1 : m .nvs = true) (_m2 : m .regs = true) (h : Keep m s X) : KeepRes m s (execVddHeathRemoval a0 X) := by
  unfold execVddHeathRemoval
  repeat' (first
    | (with_reducible assumption)
    | ((try lift_lets -underBinder); intro x; clear_value (e : x = _); first | (with_reducible refine keep_let (m := m) (s := s) e ?_ (fun _ => ?_) <;> clear e) | clear e)
    | (with_reducible first
        | refine putBit_keep (by assumption) ?_ | refine setReg_keep (by assumption) ?_
        | refine State_setHalf_keep (by assumption) ?_
        | refine heathLost_keep (by assumption) (by assumption) (by assumption) ?_
        | refine keepRes_next ?_)
    | split)

theorem holdRailSeq_keep (_m0 : m .halves = true) (_m1 : m .nvs = true) (_m2 : m .regs = true) (_m3 : m .msix = true) (_m4 : m .outputs = true) (h : Keep m s X) : Keep m s (holdRailSeq X a1 a2) := by
  unfold holdRailSeq
  repeat' (first
    | (with_reducible assumption)
    | ((try lift_lets -underBinder); intro x; clear_value (e : x = _); first | (with_reducible refine keep_let (m := m) (s := s) e ?_ (fun _ => ?_) <;> clear e) | clear e)
    | (with_reducible first
        | refine State_setHalf_keep (by assumption) ?_
        | refine railAlert_keep (by assumption) (by assumption) (by assumption) ?_
        | refine ledgerWrite_keep (by assumption) (by assumption) ?_))

theorem execPwrgdAssert_keep (_m0 : m .galley = true) (_m1 : m .moves = true) (_m2 : m .impos = true) (_m3 : m .steps = true) (_m4 : m .groups = true) (_m5 : m .halves = true) (_m6 : m .dies = true) (_m7 : m .nvs = true) (_m8 : m .ports = true) (_m9 : m .links = true) (_m10 : m .hosts = true) (_m11 : m .twins = true) (_m12 : m .units = true) (_m13 : m .time = true) (_m14 : m .hubs = true) (_m15 : m .sources = true) (_m16 : m .regs = true) (_m17 : m .counters = true) (_m18 : m .msix = true) (_m19 : m .events = true) (_m20 : m .waits = true) (_m21 : m .free = true) (_m22 : m .outputs = true) (h : Keep m s X) : KeepRes m s (execPwrgdAssert a0 a1 X) := by
  unfold execPwrgdAssert
  repeat' (first
    | (with_reducible assumption)
    | ((try lift_lets -underBinder); intro x; clear_value (e : x = _); first | (with_reducible refine keep_let (m := m) (s := s) e ?_ (fun _ => ?_) <;> clear e) | clear e)
    | (with_reducible first
        | refine drawFree_keep (by assumption) ?_ | refine refreshRails_keep (by assumption) ?_
        | refine putBit_keep (by assumption) ?_ | refine State_setHalf_keep (by assumption) ?_
        | refine holdRailSeq_keep (by assumption) (by assumption) (by assumption) (by assumption) (by assumption) ?_
        | refine beginHalf_keep (by assumption) ?_
        | refine requestHalf_keep (by assumption) (by assumption) (by assumption) (by assumption) (by assumption) (by assumption) (by assumption) (by assumption) (by assumption) (by assumption) (by assumption) (by assumption) (by assumption) (by assumption) (by assumption) (by assumption) (by assumption) (by assumption) (by assumption) (by assumption) (by assumption) (by assumption) (by assumption) ?_
        | refine keepRes_next ?_ | refine keepSnd_of ?_ (by with_reducible assumption))
    | split)

theorem execPwrgdDeassert_keep (_m0 : m .galley = true) (_m1 : m .impos = true) (_m2 : m .steps = true) (_m3 : m .groups = true) (_m4 : m .halves = true) (_m5 : m .ports = true) (_m6 : m .links = true) (_m7 : m .twins = true) (_m8 : m .units = true) (_m9 : m .regs = true) (_m10 : m .counters = true) (_m11 : m .msix = true) (_m12 : m .events = true) (_m13 : m .free = true) (_m14 : m .outputs = true) (h : Keep m s X) : KeepRes m s (execPwrgdDeassert a0 X) := by
  unfold execPwrgdDeassert
  repeat' (first
    | (with_reducible assumption)
    | ((try lift_lets -underBinder); intro x; clear_value (e : x = _); (with_reducible refine keep_let (m := m) (s := s) e ?_ (fun _ => ?_) <;> clear e))
    | (with_reducible first
        | refine putBit_keep (by assumption) ?_
        | refine halfDown_keep (by assumption) (by assumption) (by assumption) (by assumption) (by assumption) (by assumption) (by assumption) (by assumption) (by assumption) (by assumption) (by assumption) (by assumption) (by assumption) (by assumption) (by assumption) ?_
        | refine halfEvent_keep (by assumption) (by assumption) (by assumption) (by assumption) ?_
        | refine keepRes_next ?_)
    | split)

theorem noteRailFault_keep (_m0 : m .regs = true) (_m1 : m .msix = true) (_m2 : m .events = true) (_m3 : m .outputs = true) (h : Keep m s X) : Keep m s (noteRailFault X a1) := by
  unfold noteRailFault
  repeat' (first
    | (with_reducible assumption)
    | ((try lift_lets -underBinder); intro x; clear_value (e : x = _); (with_reducible refine keep_let (m := m) (s := s) e ?_ (fun _ => ?_) <;> clear e))
    | (with_reducible first
        | refine putBit_keep (by assumption) ?_ | refine putFld_keep (by assumption) ?_
        | refine halfEvent_keep (by assumption) (by assumption) (by assumption) (by assumption) ?_
        | refine railAlert_keep (by assumption) (by assumption) (by assumption) ?_))

theorem execRailFault_keep (_m0 : m .galley = true) (_m1 : m .impos = true) (_m2 : m .steps = true) (_m3 : m .groups = true) (_m4 : m .halves = true) (_m5 : m .dies = true) (_m6 : m .nvs = true) (_m7 : m .ports = true) (_m8 : m .links = true) (_m9 : m .twins = true) (_m10 : m .units = true) (_m11 : m .regs = true) (_m12 : m .counters = true) (_m13 : m .msix = true) (_m14 : m .events = true) (_m15 : m .waits = true) (_m16 : m .free = true) (_m17 : m .outputs = true) (h : Keep m s X) : KeepRes m s (execRailFault a0 X) := by
  unfold execRailFault
  repeat' (first
    | (with_reducible assumption)
    | ((try lift_lets -underBinder); intro x; clear_value (e : x = _); first | (with_reducible refine keep_let (m := m) (s := s) e ?_ (fun _ => ?_) <;> clear e) | clear e)
    | (with_reducible first
        | refine noteRailFault_keep (by assumption) (by assumption) (by assumption) (by assumption) ?_
        | refine withoutDie_keep (by assumption) (by assumption) (by assumption) (by assumption) (by assumption) ?_
        | refine dieLost_keep (by assumption) (by assumption) (by assumption) (by assumption) (by assumption) (by assumption) (by assumption) (by assumption) (by assumption) (by assumption) (by assumption) (by assumption) (by assumption) (by assumption) (by assumption) ?_
        | refine State_setDie_keep (by assumption) ?_ | refine State_setHalf_keep (by assumption) ?_
        | refine halfDown_keep (by assumption) (by assumption) (by assumption) (by assumption) (by assumption) (by assumption) (by assumption) (by assumption) (by assumption) (by assumption) (by assumption) (by assumption) (by assumption) (by assumption) (by assumption) ?_
        | refine supersede_keep (by assumption) (by assumption) ?_
        | refine heathLost_keep (by assumption) (by assumption) (by assumption) ?_
        | refine keepRes_next ?_)
    | split)

theorem execColdRstN_keep (_m0 : m .memory = true) (_m1 : m .galley = true) (_m2 : m .tensors = true) (_m3 : m .moves = true) (_m4 : m .impos = true) (_m5 : m .steps = true) (_m6 : m .groups = true) (_m7 : m .halves = true) (_m8 : m .dies = true) (_m9 : m .nvs = true) (_m10 : m .ports = true) (_m11 : m .links = true) (_m12 : m .hosts = true) (_m13 : m .commands = true) (_m14 : m .twins = true) (_m15 : m .units = true) (_m16 : m .time = true) (_m17 : m .hubs = true) (_m18 : m .sources = true) (_m19 : m .regs = true) (_m20 : m .counters = true) (_m21 : m .latches = true) (_m22 : m .msix = true) (_m23 : m .events = true) (_m24 : m .waits = true) (h : Keep m s X) : KeepRes m s (execColdRstN X) := by
  unfold execColdRstN
  repeat' (first
    | (with_reducible assumption)
    | ((try lift_lets -underBinder); intro x; clear_value (e : x = _); first | (with_reducible refine keep_let (m := m) (s := s) e ?_ (fun _ => ?_) <;> clear e) | (have _ := fun a => x a; subst e; try dsimp -zeta only) | clear e)
    | (with_reducible first
        | refine State_setHalf_keep (by assumption) ?_ | refine putFld_keep (by assumption) ?_
        | refine requestCold_keep (by assumption) (by assumption) (by assumption) (by assumption) (by assumption) (by assumption) (by assumption) (by assumption) (by assumption) (by assumption) (by assumption) (by assumption) (by assumption) (by assumption) (by assumption) (by assumption) (by assumption) (by assumption) (by assumption) (by assumption) (by assumption) (by assumption) (by assumption) (by assumption) (by assumption) ?_
        | refine keepRes_next ?_))

theorem setLevel_keep (_m0 : m .halves = true) (_m1 : m .regs = true) (_m2 : m .msix = true) (_m3 : m .events = true) (_m4 : m .outputs = true) (h : Keep m s X) : Keep m s (setLevel X a1 a2 a3) := by
  unfold setLevel
  repeat' (first
    | (with_reducible assumption)
    | ((try lift_lets -underBinder); intro x; clear_value (e : x = _); first | (with_reducible refine keep_let (m := m) (s := s) e ?_ (fun _ => ?_) <;> clear e) | clear e)
    | (with_reducible first
        | refine putFld_keep (by assumption) ?_
        | refine devEvent_keep (by assumption) (by assumption) (by assumption) (by assumption) ?_)
    | split
    | (with_reducible refine keep_mk ?_))

theorem loadAverages_keep (_m0 : m .regs = true) (h : Keep m s X) : Keep m s (loadAverages X a1) := by
  unfold loadAverages
  repeat' (with_reducible first | assumption | refine putFld_keep (by assumption) ?_)

theorem execGovernorEvaluation_keep (_m0 : m .halves = true) (_m1 : m .regs = true) (_m2 : m .msix = true) (_m3 : m .events = true) (_m4 : m .outputs = true) (h : Keep m s X) : KeepRes m s (execGovernorEvaluation a0 X) := by
  unfold execGovernorEvaluation
  repeat' (first
    | (with_reducible assumption)
    | ((try lift_lets -underBinder); intro x; clear_value (e : x = _); first | (with_reducible refine keep_let (m := m) (s := s) e ?_ (fun _ => ?_) <;> clear e) | clear e)
    | (with_reducible first
        | refine loadAverages_keep (by assumption) ?_
        | refine setLevel_keep (by assumption) (by assumption) (by assumption) (by assumption) (by assumption) ?_
        | refine keepRes_next ?_)
    | split)

theorem execRailOvercurrent_keep (_m0 : m .halves = true) (_m1 : m .regs = true) (_m2 : m .msix = true) (_m3 : m .events = true) (_m4 : m .outputs = true) (h : Keep m s X) : KeepRes m s (execRailOvercurrent a0 a1 X) := by
  unfold execRailOvercurrent
  repeat' (first
    | (with_reducible assumption)
    | ((try lift_lets -underBinder); intro x; clear_value (e : x = _); (with_reducible refine keep_let (m := m) (s := s) e ?_ (fun _ => ?_) <;> clear e))
    | (with_reducible first
        | refine putBit_keep (by assumption) ?_ | refine loadAverages_keep (by assumption) ?_
        | refine setCause_keep (by assumption) (by assumption) (by assumption) ?_
        | refine setLevel_keep (by assumption) (by assumption) (by assumption) (by assumption) (by assumption) ?_
        | refine keepRes_next ?_))

theorem execThrottleLevelFall_keep (_m0 : m .halves = true) (_m1 : m .regs = true) (_m2 : m .msix = true) (_m3 : m .events = true) (_m4 : m .outputs = true) (h : Keep m s X) : KeepRes m s (execThrottleLevelFall a0 X) := by
  unfold execThrottleLevelFall
  repeat' (first
    | (with_reducible assumption)
    | ((try lift_lets -underBinder); intro x; clear_value (e : x = _); first | (with_reducible refine keep_let (m := m) (s := s) e ?_ (fun _ => ?_) <;> clear e) | clear e)
    | (with_reducible first
        | refine loadAverages_keep (by assumption) ?_
        | refine setLevel_keep (by assumption) (by assumption) (by assumption) (by assumption) (by assumption) ?_
        | refine keepRes_next ?_)
    | split)

theorem execLimitUnmet_keep (_m0 : m .regs = true) (_m1 : m .msix = true) (_m2 : m .events = true) (_m3 : m .outputs = true) (h : Keep m s X) : KeepRes m s (execLimitUnmet a0 X) := by
  unfold execLimitUnmet
  repeat' (first
    | (with_reducible assumption)
    | ((try lift_lets -underBinder); intro x; clear_value (e : x = _); (with_reducible refine keep_let (m := m) (s := s) e ?_ (fun _ => ?_) <;> clear e))
    | (with_reducible first
        | refine putBit_keep (by assumption) ?_ | refine loadAverages_keep (by assumption) ?_
        | refine devEvent_keep (by assumption) (by assumption) (by assumption) (by assumption) ?_
        | refine setCause_keep (by assumption) (by assumption) (by assumption) ?_
        | refine keepRes_next ?_)
    | split)

theorem opticalTemp_keep (_m0 : m .ports = true) (_m1 : m .time = true) (_m2 : m .regs = true) (_m3 : m .msix = true) (_m4 : m .events = true) (_m5 : m .outputs = true) (h : Keep m s X) : Keep m s (opticalTemp X a1 a2) := by
  unfold opticalTemp
  repeat' (first
    | (with_reducible assumption)
    | ((try lift_lets -underBinder); intro x; clear_value (e : x = _); first | (with_reducible refine keep_let (m := m) (s := s) e ?_ (fun _ => ?_) <;> clear e) | clear e)
    | (with_reducible first
        | refine State_setPort_keep (by assumption) (by assumption) ?_
        | refine linkDown_keep (by assumption) (by assumption) (by assumption) (by assumption) (by assumption) (by assumption) ?_)
    | split)

theorem setNbuStep_keep (_m0 : m .regs = true) (h : Keep m s X) : Keep m s (setNbuStep X a1 a2) := by
  unfold setNbuStep
  repeat' (with_reducible first | assumption | refine putFld_keep (by assumption) ?_)

theorem nbuThermalRise_keep (_m0 : m .regs = true) (h : Keep m s X) : Keep m s (nbuThermalRise X a1 a2) := by
  unfold nbuThermalRise
  repeat' (with_reducible first | assumption | refine setNbuStep_keep (by assumption) ?_)

theorem execNbuThermalStepFall_keep (_m0 : m .regs = true) (h : Keep m s X) : KeepRes m s (execNbuThermalStepFall a0 a1 X) := by
  unfold execNbuThermalStepFall
  repeat' (first
    | (with_reducible assumption)
    | ((try lift_lets -underBinder); intro x; clear_value (e : x = _); clear e)
    | (with_reducible first | refine setNbuStep_keep (by assumption) ?_ | refine keepRes_next ?_)
    | split)

theorem execThermalSample_keep (_m0 : m .halves = true) (_m1 : m .nvs = true) (_m2 : m .ports = true) (_m3 : m .time = true) (_m4 : m .regs = true) (_m5 : m .msix = true) (_m6 : m .events = true) (_m7 : m .outputs = true) (h : Keep m s X) : KeepRes m s (execThermalSample a0 X) := by
  unfold execThermalSample
  repeat' (first
    | (with_reducible assumption)
    | ((try lift_lets -underBinder); intro x; clear_value (e : x = _); first | (with_reducible refine keep_let (m := m) (s := s) e ?_ (fun _ => ?_) <;> clear e) | (have _ : Nvs := x; subst e) | (have _ := fun a => x a; subst e; try dsimp -zeta only) | clear e)
    | (with_reducible first
        | refine setReg_keep (by assumption) ?_
        | refine setCause_keep (by assumption) (by assumption) (by assumption) ?_
        | refine opticalTemp_keep (by assumption) (by assumption) (by assumption) (by assumption) (by assumption) (by assumption) ?_
        | refine nbuThermalRise_keep (by assumption) ?_ | refine putBit_keep (by assumption) ?_
        | refine keep_foldl (fun _ _ _ => ?_) ?_ | refine keepRes_next ?_)
    | split
    | (with_reducible refine keep_mk ?_))

theorem execThermalTrip_keep (_m0 : m .galley = true) (_m1 : m .impos = true) (_m2 : m .steps = true) (_m3 : m .groups = true) (_m4 : m .halves = true) (_m5 : m .ports = true) (_m6 : m .links = true) (_m7 : m .twins = true) (_m8 : m .units = true) (_m9 : m .regs = true) (_m10 : m .counters = true) (_m11 : m .msix = true) (_m12 : m .events = true) (_m13 : m .free = true) (_m14 : m .outputs = true) (h : Keep m s X) : KeepRes m s (execThermalTrip a0 a1 X) := by
  unfold execThermalTrip
  repeat' (first
    | (with_reducible assumption)
    | ((try lift_lets -underBinder); intro x; clear_value (e : x = _); first | (with_reducible refine keep_let (m := m) (s := s) e ?_ (fun _ => ?_) <;> clear e) | clear e)
    | (with_reducible first
        | refine putBit_keep (by assumption) ?_
        | refine halfEvent_keep (by assumption) (by assumption) (by assumption) (by assumption) ?_
        | refine halfDown_keep (by assumption) (by assumption) (by assumption) (by assumption) (by assumption) (by assumption) (by assumption) (by assumption) (by assumption) (by assumption) (by assumption) (by assumption) (by assumption) (by assumption) (by assumption) ?_
        | refine State_setHalf_keep (by assumption) ?_
        | refine failStop_keep (by assumption) (by assumption) (by assumption) (by assumption) (by assumption) (by assumption) (by assumption) (by assumption) (by assumption) (by assumption) (by assumption) (by assumption) (by assumption) ?_
        | refine keepRes_next ?_)
    | split)

theorem execNvsWriteResume_keep (_m0 : m .nvs = true) (_m1 : m .regs = true) (h : Keep m s X) : KeepRes m s (execNvsWriteResume X) := by
  unfold execNvsWriteResume
  repeat' (first
    | (with_reducible assumption)
    | ((try lift_lets -underBinder); intro x; clear_value (e : x = _); (have _ : Nvs := x; subst e))
    | (with_reducible first
        | refine putBit_keep (by assumption) ?_ | refine keepRes_next ?_ | refine keep_mk ?_))

theorem timeLost_keep (_m0 : m .galley = true) (_m1 : m .impos = true) (_m2 : m .steps = true) (_m3 : m .groups = true) (_m4 : m .links = true) (_m5 : m .twins = true) (_m6 : m .units = true) (_m7 : m .regs = true) (_m8 : m .counters = true) (_m9 : m .msix = true) (_m10 : m .events = true) (_m11 : m .waits = true) (_m12 : m .free = true) (_m13 : m .outputs = true) (h : Keep m s X) : Keep m s (timeLost X) := by
  unfold timeLost
  repeat' (first
    | (with_reducible assumption)
    | ((try lift_lets -underBinder); intro x; clear_value (e : x = _); (with_reducible refine keep_let (m := m) (s := s) e ?_ (fun _ => ?_) <;> clear e))
    | (with_reducible first
        | refine devEvent_keep (by assumption) (by assumption) (by assumption) (by assumption) ?_
        | refine putBit_keep (by assumption) ?_
        | refine failStop_keep (by assumption) (by assumption) (by assumption) (by assumption) (by assumption) (by assumption) (by assumption) (by assumption) (by assumption) (by assumption) (by assumption) (by assumption) (by assumption) ?_)
    | split
    | (with_reducible refine keep_mk ?_))

theorem execRefclkLoss_keep (_m0 : m .galley = true) (_m1 : m .impos = true) (_m2 : m .steps = true) (_m3 : m .groups = true) (_m4 : m .links = true) (_m5 : m .twins = true) (_m6 : m .units = true) (_m7 : m .regs = true) (_m8 : m .counters = true) (_m9 : m .msix = true) (_m10 : m .events = true) (_m11 : m .waits = true) (_m12 : m .free = true) (_m13 : m .outputs = true) (h : Keep m s X) : KeepRes m s (execRefclkLoss a0 X) := by
  unfold execRefclkLoss
  repeat' (first
    | (with_reducible assumption)
    | ((try lift_lets -underBinder); intro x; clear_value (e : x = _); (with_reducible refine keep_let (m := m) (s := s) e ?_ (fun _ => ?_) <;> clear e))
    | (with_reducible first
        | refine putBit_keep (by assumption) ?_
        | refine timeLost_keep (by assumption) (by assumption) (by assumption) (by assumption) (by assumption) (by assumption) (by assumption) (by assumption) (by assumption) (by assumption) (by assumption) (by assumption) (by assumption) (by assumption) ?_
        | refine putFld_keep (by assumption) ?_
        | refine halfEvent_keep (by assumption) (by assumption) (by assumption) (by assumption) ?_
        | refine setCause_keep (by assumption) (by assumption) (by assumption) ?_
        | refine keepRes_next ?_)
    | split)

theorem execRefclkReturn_keep (_m0 : m .regs = true) (h : Keep m s X) : KeepRes m s (execRefclkReturn a0 X) := by
  unfold execRefclkReturn
  repeat' (with_reducible first
      | assumption | refine putBit_keep (by assumption) ?_ | refine keepRes_next ?_)

theorem execStrapReread_keep (_m0 : m .regs = true) (_m1 : m .msix = true) (_m2 : m .events = true) (_m3 : m .outputs = true) (h : Keep m s X) : KeepRes m s (execStrapReread a0 a1 X) := by
  unfold execStrapReread
  repeat' (first
    | (with_reducible assumption)
    | ((try lift_lets -underBinder); intro x; clear_value (e : x = _); clear e)
    | (with_reducible first
        | refine halfEvent_keep (by assumption) (by assumption) (by assumption) (by assumption) ?_
        | refine setCause_keep (by assumption) (by assumption) (by assumption) ?_
        | refine keepRes_next ?_)
    | split)

theorem execClockGate_keep (_m0 : m .dies = true) (h : Keep m s X) : KeepRes m s (execClockGate a0 X) := by
  unfold execClockGate
  repeat' (first
    | (with_reducible assumption)
    | ((try lift_lets -underBinder); intro x; clear_value (e : x = _); clear e)
    | (with_reducible first
        | refine State_setDie_keep (by assumption) ?_ | refine keepRes_next ?_)
    | split)

theorem clearDieT0_keep (_m0 : m .memory = true) (h : Keep m s X) : Keep m s (clearDieT0 X a1) := by
  unfold clearDieT0
  repeat' (with_reducible first | assumption | refine keep_mk ?_)

theorem execPowerGate_keep (_m0 : m .memory = true) (_m1 : m .dies = true) (h : Keep m s X) : KeepRes m s (execPowerGate a0 X) := by
  unfold execPowerGate
  repeat' (first
    | (with_reducible assumption)
    | ((try lift_lets -underBinder); intro x; clear_value (e : x = _); clear e)
    | (with_reducible first
        | refine clearDieT0_keep (by assumption) ?_ | refine State_setDie_keep (by assumption) ?_
        | refine keepRes_next ?_)
    | split)

theorem execSelfRefreshExit_keep (_m0 : m .dies = true) (h : Keep m s X) : KeepRes m s (execSelfRefreshExit a0 X) := by
  unfold execSelfRefreshExit
  repeat' (first
    | (with_reducible assumption)
    | ((try lift_lets -underBinder); intro x; clear_value (e : x = _); clear e)
    | (with_reducible first
        | refine State_setDie_keep (by assumption) ?_ | refine keepRes_next ?_))

theorem execPerstN_keep (_m0 : m .hosts = true) (_m1 : m .regs = true) (_m2 : m .msix = true) (h : Keep m s X) : KeepRes m s (execPerstN a0 X) := by
  unfold execPerstN
  repeat' (first
    | (with_reducible assumption)
    | ((try lift_lets -underBinder); intro x; clear_value (e : x = _); first | (with_reducible refine keep_let (m := m) (s := s) e ?_ (fun _ => ?_) <;> clear e) | (have _ := fun a => x a; subst e; try dsimp -zeta only))
    | (with_reducible first
        | refine putBit_keep (by assumption) ?_ | refine keepRes_next ?_ | refine keep_mk ?_))

end Sys2Proof.Machine
end

