-- ==== Sys2Proof/Laws/KeepBoard.lean ====
section
/-!
SUPPORT. What the operations and meanings of Machine/Board.lean keep (`Keep`).
-/
set_option Elab.async false
set_option linter.all false
namespace Sys2Proof.Machine

theorem showColophon_keep (_m0 : m .regs = true) (h : Keep m s X) : Keep m s (showColophon X a1) := by
  unfold showColophon
  repeat' (with_reducible first
      | assumption | refine setReg_keep (by assumption) ?_ | refine keep_foldl (fun _ _ _ => ?_) ?_)

theorem execEntdaa_keep (_m0 : m .board = true) (h : Keep m s X) : KeepRes m s (execEntdaa a0 X) := by
  unfold execEntdaa
  repeat' (first
    | (with_reducible assumption)
    | ((try lift_lets -underBinder); intro x; clear_value (e : x = _); clear e)
    | (with_reducible refine keepRes_next ?_)
    | split
    | (with_reducible refine keep_mk ?_))

theorem execSetdasa_keep (_m0 : m .board = true) (h : Keep m s X) : KeepRes m s (execSetdasa a0 a1 X) := by
  unfold execSetdasa
  repeat' (first
    | (with_reducible assumption)
    | ((try lift_lets -underBinder); intro x; clear_value (e : x = _); clear e)
    | (with_reducible refine keepRes_next ?_)
    | split
    | (with_reducible refine keep_mk ?_))

theorem i3cWriteReg_keep (_m0 : m .regs = true) (_m1 : m .msix = true) (_m2 : m .outputs = true) (h : Keep m s X) : Keep m s (i3cWriteReg X a1 a2) := by
  unfold i3cWriteReg
  repeat' (first
    | (with_reducible assumption)
    | ((try lift_lets -underBinder); intro x; clear_value (e : x = _); clear e)
    | (with_reducible refine writePlain_keep (by assumption) (by assumption) (by assumption) ?_)
    | split)

theorem execI3cPrivateWrite_keep (_m0 : m .board = true) (_m1 : m .regs = true) (_m2 : m .msix = true) (_m3 : m .outputs = true) (h : Keep m s X) : KeepRes m s (execI3cPrivateWrite a0 a1 X) := by
  unfold execI3cPrivateWrite
  repeat' (first
    | (with_reducible assumption)
    | ((try lift_lets -underBinder); intro x; clear_value (e : x = _); first | (with_reducible refine keep_let (m := m) (s := s) e ?_ (fun _ => ?_) <;> clear e) | clear e)
    | (with_reducible first
        | refine i3cWriteReg_keep (by assumption) (by assumption) (by assumption) ?_
        | refine keepRes_next ?_)
    | split
    | (with_reducible refine keep_mk ?_))

theorem execI3cPrivateRead_keep (_m0 : m .board = true) (_m1 : m .outputs = true) (h : Keep m s X) : KeepRes m s (execI3cPrivateRead a0 X) := by
  unfold execI3cPrivateRead
  repeat' (first
    | (with_reducible assumption)
    | ((try lift_lets -underBinder); intro x; clear_value (e : x = _); clear e)
    | (with_reducible first | refine emit_keep (by assumption) ?_ | refine keepRes_next ?_)
    | split
    | (with_reducible refine keep_mk ?_))

theorem tapBypass_keep (_m0 : m .board = true) (_m1 : m .outputs = true) (h : Keep m s X) : Keep m s (tapBypass X a1) := by
  unfold tapBypass
  repeat' (first
    | (with_reducible assumption)
    | ((try lift_lets -underBinder); intro x; clear_value (e : x = _); clear e)
    | (with_reducible first | refine emit_keep (by assumption) ?_ | refine keep_mk ?_))

theorem execBypass_keep (_m0 : m .board = true) (_m1 : m .outputs = true) (h : Keep m s X) : KeepRes m s (execBypass a0 X) := by
  unfold execBypass
  repeat' (with_reducible first
      | assumption | refine tapBypass_keep (by assumption) (by assumption) ?_
      | refine keepRes_next ?_)

theorem execIdcode_keep (_m0 : m .board = true) (_m1 : m .outputs = true) (h : Keep m s X) : KeepRes m s (execIdcode a0 X) := by
  unfold execIdcode
  repeat' (first
    | (with_reducible assumption)
    | ((try lift_lets -underBinder); intro x; clear_value (e : x = _); clear e)
    | (with_reducible first
        | refine emit_keep (by assumption) ?_ | refine keepRes_next ?_ | refine keep_mk ?_))

theorem execSamplePreload_keep (_m0 : m .board = true) (_m1 : m .outputs = true) (h : Keep m s X) : KeepRes m s (execSamplePreload a0 a1 X) := by
  unfold execSamplePreload
  repeat' (first
    | (with_reducible first
        | assumption | refine tapBypass_keep (by assumption) (by assumption) ?_
        | refine emit_keep (by assumption) ?_ | refine keepRes_next ?_)
    | split
    | (with_reducible refine keep_mk ?_))

theorem execExtest_keep (_m0 : m .board = true) (_m1 : m .outputs = true) (h : Keep m s X) : KeepRes m s (execExtest a0 a1 X) := by
  unfold execExtest
  repeat' (first
    | (with_reducible first
        | assumption | refine tapBypass_keep (by assumption) (by assumption) ?_
        | refine emit_keep (by assumption) ?_ | refine keepRes_next ?_)
    | split
    | (with_reducible refine keep_mk ?_))

theorem execClamp_keep (_m0 : m .board = true) (_m1 : m .outputs = true) (h : Keep m s X) : KeepRes m s (execClamp a0 X) := by
  unfold execClamp
  repeat' (first
    | (with_reducible assumption)
    | ((try lift_lets -underBinder); intro x; clear_value (e : x = _); clear e)
    | (with_reducible first
        | refine tapBypass_keep (by assumption) (by assumption) ?_
        | refine emit_keep (by assumption) ?_ | refine keepRes_next ?_)
    | split
    | (with_reducible refine keep_mk ?_))

theorem execHighz_keep (_m0 : m .board = true) (_m1 : m .outputs = true) (h : Keep m s X) : KeepRes m s (execHighz a0 X) := by
  unfold execHighz
  repeat' (first
    | (with_reducible assumption)
    | ((try lift_lets -underBinder); intro x; clear_value (e : x = _); clear e)
    | (with_reducible first
        | refine tapBypass_keep (by assumption) (by assumption) ?_
        | refine emit_keep (by assumption) ?_ | refine keepRes_next ?_)
    | split
    | (with_reducible refine keep_mk ?_))

end Sys2Proof.Machine
end

