-- ==== Sys2Proof/Laws/KeepPorts.lean ====
section
/-!
SUPPORT. What the operations and meanings of Machine/Ports.lean keep (`Keep`).
-/
set_option Elab.async false
set_option linter.all false
namespace Sys2Proof.Machine

theorem execPortTrained_keep (_m0 : m .galley = true) (_m1 : m .impos = true) (_m2 : m .steps = true) (_m3 : m .groups = true) (_m4 : m .halves = true) (_m5 : m .nvs = true) (_m6 : m .ports = true) (_m7 : m .links = true) (_m8 : m .twins = true) (_m9 : m .units = true) (_m10 : m .regs = true) (_m11 : m .counters = true) (_m12 : m .msix = true) (_m13 : m .events = true) (_m14 : m .free = true) (_m15 : m .outputs = true) (h : Keep m s X) : KeepRes m s (execPortTrained a0 a1 a2 X) := by
  unfold execPortTrained
  repeat' (first
    | (with_reducible assumption)
    | ((try lift_lets -underBinder); intro x; clear_value (e : x = _); first | (with_reducible refine keep_let (m := m) (s := s) e ?_ (fun _ => ?_) <;> clear e) | clear e)
    | (with_reducible first
        | refine portFallow_keep (by assumption) (by assumption) (by assumption) (by assumption) (by assumption) (by assumption) (by assumption) (by assumption) (by assumption) (by assumption) (by assumption) (by assumption) (by assumption) (by assumption) (by assumption) (by assumption) ?_
        | refine putBit_keep (by assumption) ?_
        | refine setLanes_keep (by assumption) (by assumption) (by assumption) ?_
        | refine endPort_keep (by assumption) (by assumption) (by assumption) (by assumption) (by assumption) (by assumption) (by assumption) (by assumption) (by assumption) (by assumption) (by assumption) (by assumption) (by assumption) (by assumption) (by assumption) (by assumption) ?_
        | refine State_setPort_keep (by assumption) (by assumption) ?_
        | refine sendSummary_keep (by assumption) (by assumption) (by assumption) (by assumption) (by assumption) (by assumption) ?_
        | refine keep_foldl (fun _ _ _ => ?_) ?_ | refine keepRes_next ?_)
    | split)

theorem execLinkWaitExpiry_keep (_m0 : m .halves = true) (_m1 : m .nvs = true) (_m2 : m .ports = true) (_m3 : m .links = true) (_m4 : m .regs = true) (h : Keep m s X) : KeepRes m s (execLinkWaitExpiry a0 X) := by
  unfold execLinkWaitExpiry
  repeat' (first
    | (with_reducible assumption)
    | ((try lift_lets -underBinder); intro x; clear_value (e : x = _); first | (with_reducible refine keep_let (m := m) (s := s) e ?_ (fun _ => ?_) <;> clear e) | clear e)
    | (with_reducible first
        | refine State_setPort_keep (by assumption) (by assumption) ?_
        | refine doneInstance_keep (by assumption) (by assumption) (by assumption) (by assumption) (by assumption) ?_
        | refine ledgerWrite_keep (by assumption) (by assumption) ?_ | refine keepRes_next ?_)
    | split)

theorem execTrainingTimeout_keep (_m0 : m .galley = true) (_m1 : m .impos = true) (_m2 : m .steps = true) (_m3 : m .groups = true) (_m4 : m .halves = true) (_m5 : m .nvs = true) (_m6 : m .ports = true) (_m7 : m .links = true) (_m8 : m .twins = true) (_m9 : m .units = true) (_m10 : m .regs = true) (_m11 : m .counters = true) (_m12 : m .msix = true) (_m13 : m .events = true) (_m14 : m .free = true) (_m15 : m .outputs = true) (h : Keep m s X) : KeepRes m s (execTrainingTimeout a0 X) := by
  unfold execTrainingTimeout
  repeat' (first
    | (with_reducible first
        | assumption
        | refine portFallow_keep (by assumption) (by assumption) (by assumption) (by assumption) (by assumption) (by assumption) (by assumption) (by assumption) (by assumption) (by assumption) (by assumption) (by assumption) (by assumption) (by assumption) (by assumption) (by assumption) ?_
        | refine keepRes_next ?_)
    | split)

theorem execPartnerLight_keep (_m0 : m .ports = true) (_m1 : m .links = true) (_m2 : m .regs = true) (h : Keep m s X) : KeepRes m s (execPartnerLight a0 X) := by
  unfold execPartnerLight
  repeat' (first
    | (with_reducible first
        | assumption | refine trainPort_keep (by assumption) (by assumption) (by assumption) ?_
        | refine keepRes_next ?_)
    | split)

theorem execPatchDarkTimeout_keep (_m0 : m .ports = true) (_m1 : m .regs = true) (_m2 : m .msix = true) (_m3 : m .events = true) (_m4 : m .outputs = true) (h : Keep m s X) : KeepRes m s (execPatchDarkTimeout a0 X) := by
  unfold execPatchDarkTimeout
  repeat' (first
    | (with_reducible assumption)
    | ((try lift_lets -underBinder); intro x; clear_value (e : x = _); clear e)
    | (with_reducible first
        | refine capture_keep (by assumption) (by assumption) (by assumption) (by assumption) ?_
        | refine State_setPort_keep (by assumption) (by assumption) ?_ | refine keepRes_next ?_)
    | split)

theorem execSummary_keep (_m0 : m .galley = true) (_m1 : m .impos = true) (_m2 : m .steps = true) (_m3 : m .groups = true) (_m4 : m .halves = true) (_m5 : m .nvs = true) (_m6 : m .ports = true) (_m7 : m .links = true) (_m8 : m .twins = true) (_m9 : m .units = true) (_m10 : m .regs = true) (_m11 : m .counters = true) (_m12 : m .msix = true) (_m13 : m .events = true) (_m14 : m .waits = true) (_m15 : m .free = true) (_m16 : m .outputs = true) (h : Keep m s X) : KeepRes m s (execSummary a0 X) := by
  unfold execSummary
  repeat' (first
    | (with_reducible first
        | assumption
        | refine onMsg_keep (by assumption) (by assumption) (by assumption) (by assumption) (by assumption) (by assumption) ?_ (fun _ _ _ => ?_)
        | refine takeSummary_keep (by assumption) (by assumption) (by assumption) (by assumption) (by assumption) (by assumption) (by assumption) (by assumption) (by assumption) (by assumption) (by assumption) (by assumption) (by assumption) (by assumption) (by assumption) (by assumption) (by assumption) ?_
        | refine keepRes_next ?_)
    | split)

theorem execSummaryResend_keep (_m0 : m .links = true) (_m1 : m .regs = true) (_m2 : m .counters = true) (_m3 : m .msix = true) (_m4 : m .events = true) (_m5 : m .outputs = true) (h : Keep m s X) : KeepRes m s (execSummaryResend a0 X) := by
  unfold execSummaryResend
  repeat' (first
    | (with_reducible assumption)
    | ((try lift_lets -underBinder); intro x; clear_value (e : x = _); clear e)
    | (with_reducible first
        | refine sendSummary_keep (by assumption) (by assumption) (by assumption) (by assumption) (by assumption) (by assumption) ?_
        | refine keepRes_next ?_)
    | split)

theorem closePort_keep (_m0 : m .galley = true) (_m1 : m .impos = true) (_m2 : m .steps = true) (_m3 : m .groups = true) (_m4 : m .halves = true) (_m5 : m .nvs = true) (_m6 : m .ports = true) (_m7 : m .links = true) (_m8 : m .twins = true) (_m9 : m .units = true) (_m10 : m .regs = true) (_m11 : m .counters = true) (_m12 : m .msix = true) (_m13 : m .events = true) (_m14 : m .free = true) (_m15 : m .outputs = true) (h : Keep m s X) : Keep m s (closePort X a1 a2) := by
  unfold closePort
  repeat' (first
    | (with_reducible assumption)
    | ((try lift_lets -underBinder); intro x; clear_value (e : x = _); first | (with_reducible refine keep_let (m := m) (s := s) e ?_ (fun _ => ?_) <;> clear e) | clear e)
    | (with_reducible first
        | refine State_setLink_keep (by assumption) ?_
        | refine State_setPort_keep (by assumption) (by assumption) ?_
        | refine endPort_keep (by assumption) (by assumption) (by assumption) (by assumption) (by assumption) (by assumption) (by assumption) (by assumption) (by assumption) (by assumption) (by assumption) (by assumption) (by assumption) (by assumption) (by assumption) (by assumption) ?_)
    | split)

theorem patchPort_keep (_m0 : m .ports = true) (_m1 : m .links = true) (_m2 : m .regs = true) (h : Keep m s X) : Keep m s (patchPort X a1) := by
  unfold patchPort
  repeat' (first
    | (with_reducible assumption)
    | ((try lift_lets -underBinder); intro x; clear_value (e : x = _); first | (with_reducible refine keep_let (m := m) (s := s) e ?_ (fun _ => ?_) <;> clear e) | clear e)
    | (with_reducible first
        | refine State_setLink_keep (by assumption) ?_
        | refine State_setPort_keep (by assumption) (by assumption) ?_)
    | split)

theorem retrainPort_keep (_m0 : m .ports = true) (_m1 : m .links = true) (_m2 : m .regs = true) (h : Keep m s X) : Keep m s (retrainPort X a1) := by
  unfold retrainPort
  repeat' (first
    | (with_reducible assumption)
    | ((try lift_lets -underBinder); intro x; clear_value (e : x = _); clear e)
    | (with_reducible refine trainPort_keep (by assumption) (by assumption) (by assumption) ?_)
    | split)

theorem fabCtrl_keep (_m0 : m .galley = true) (_m1 : m .impos = true) (_m2 : m .steps = true) (_m3 : m .groups = true) (_m4 : m .halves = true) (_m5 : m .nvs = true) (_m6 : m .ports = true) (_m7 : m .links = true) (_m8 : m .twins = true) (_m9 : m .units = true) (_m10 : m .regs = true) (_m11 : m .counters = true) (_m12 : m .msix = true) (_m13 : m .events = true) (_m14 : m .waits = true) (_m15 : m .free = true) (_m16 : m .outputs = true) (h : Keep m s X) : Keep m s (fabCtrl X a1 a2) := by
  unfold fabCtrl
  repeat' (first
    | (with_reducible assumption)
    | ((try lift_lets -underBinder); intro x; clear_value (e : x = _); (with_reducible refine keep_let (m := m) (s := s) e ?_ (fun _ => ?_) <;> clear e))
    | (with_reducible first
        | refine setReg_keep (by assumption) ?_
        | refine closePort_keep (by assumption) (by assumption) (by assumption) (by assumption) (by assumption) (by assumption) (by assumption) (by assumption) (by assumption) (by assumption) (by assumption) (by assumption) (by assumption) (by assumption) (by assumption) (by assumption) ?_
        | refine patchPort_keep (by assumption) (by assumption) (by assumption) ?_
        | refine retrainPort_keep (by assumption) (by assumption) (by assumption) ?_)
    | split
    | (with_reducible refine keep_mk ?_))

theorem fabCtrlRow_keep (_m0 : m .galley = true) (_m1 : m .impos = true) (_m2 : m .steps = true) (_m3 : m .groups = true) (_m4 : m .halves = true) (_m5 : m .nvs = true) (_m6 : m .ports = true) (_m7 : m .links = true) (_m8 : m .twins = true) (_m9 : m .units = true) (_m10 : m .regs = true) (_m11 : m .counters = true) (_m12 : m .msix = true) (_m13 : m .events = true) (_m14 : m .waits = true) (_m15 : m .free = true) (_m16 : m .outputs = true) (h : Keep m s X) : KeepRes m s (fabCtrlRow a0 X) := by
  unfold fabCtrlRow
  repeat' (with_reducible first
      | assumption | refine guarded_keep ?_
      | refine serveWrite_keep (by assumption) (by assumption) (by assumption) (by assumption) (by assumption) (by assumption) ?_ (fun _ _ _ _ _ _ => ?_)
      | refine fabCtrl_keep (by assumption) (by assumption) (by assumption) (by assumption) (by assumption) (by assumption) (by assumption) (by assumption) (by assumption) (by assumption) (by assumption) (by assumption) (by assumption) (by assumption) (by assumption) (by assumption) (by assumption) ?_)

theorem execLinkEn_keep (_m0 : m .galley = true) (_m1 : m .impos = true) (_m2 : m .steps = true) (_m3 : m .groups = true) (_m4 : m .halves = true) (_m5 : m .nvs = true) (_m6 : m .ports = true) (_m7 : m .links = true) (_m8 : m .twins = true) (_m9 : m .units = true) (_m10 : m .regs = true) (_m11 : m .counters = true) (_m12 : m .msix = true) (_m13 : m .events = true) (_m14 : m .waits = true) (_m15 : m .free = true) (_m16 : m .outputs = true) (h : Keep m s X) : KeepRes m s (execLinkEn a0 X) := by
  unfold execLinkEn
  repeat' (with_reducible first
      | assumption
      | refine fabCtrlRow_keep (by assumption) (by assumption) (by assumption) (by assumption) (by assumption) (by assumption) (by assumption) (by assumption) (by assumption) (by assumption) (by assumption) (by assumption) (by assumption) (by assumption) (by assumption) (by assumption) (by assumption) ?_)

theorem execDrainPort_keep (_m0 : m .galley = true) (_m1 : m .impos = true) (_m2 : m .steps = true) (_m3 : m .groups = true) (_m4 : m .halves = true) (_m5 : m .nvs = true) (_m6 : m .ports = true) (_m7 : m .links = true) (_m8 : m .twins = true) (_m9 : m .units = true) (_m10 : m .regs = true) (_m11 : m .counters = true) (_m12 : m .msix = true) (_m13 : m .events = true) (_m14 : m .waits = true) (_m15 : m .free = true) (_m16 : m .outputs = true) (h : Keep m s X) : KeepRes m s (execDrainPort a0 X) := by
  unfold execDrainPort
  repeat' (with_reducible first
      | assumption
      | refine fabCtrlRow_keep (by assumption) (by assumption) (by assumption) (by assumption) (by assumption) (by assumption) (by assumption) (by assumption) (by assumption) (by assumption) (by assumption) (by assumption) (by assumption) (by assumption) (by assumption) (by assumption) (by assumption) ?_)

theorem execPatchPort_keep (_m0 : m .galley = true) (_m1 : m .impos = true) (_m2 : m .steps = true) (_m3 : m .groups = true) (_m4 : m .halves = true) (_m5 : m .nvs = true) (_m6 : m .ports = true) (_m7 : m .links = true) (_m8 : m .twins = true) (_m9 : m .units = true) (_m10 : m .regs = true) (_m11 : m .counters = true) (_m12 : m .msix = true) (_m13 : m .events = true) (_m14 : m .waits = true) (_m15 : m .free = true) (_m16 : m .outputs = true) (h : Keep m s X) : KeepRes m s (execPatchPort a0 X) := by
  unfold execPatchPort
  repeat' (with_reducible first
      | assumption
      | refine fabCtrlRow_keep (by assumption) (by assumption) (by assumption) (by assumption) (by assumption) (by assumption) (by assumption) (by assumption) (by assumption) (by assumption) (by assumption) (by assumption) (by assumption) (by assumption) (by assumption) (by assumption) (by assumption) ?_)

theorem execRetrain_keep (_m0 : m .galley = true) (_m1 : m .impos = true) (_m2 : m .steps = true) (_m3 : m .groups = true) (_m4 : m .halves = true) (_m5 : m .nvs = true) (_m6 : m .ports = true) (_m7 : m .links = true) (_m8 : m .twins = true) (_m9 : m .units = true) (_m10 : m .regs = true) (_m11 : m .counters = true) (_m12 : m .msix = true) (_m13 : m .events = true) (_m14 : m .waits = true) (_m15 : m .free = true) (_m16 : m .outputs = true) (h : Keep m s X) : KeepRes m s (execRetrain a0 X) := by
  unfold execRetrain
  repeat' (with_reducible first
      | assumption
      | refine fabCtrlRow_keep (by assumption) (by assumption) (by assumption) (by assumption) (by assumption) (by assumption) (by assumption) (by assumption) (by assumption) (by assumption) (by assumption) (by assumption) (by assumption) (by assumption) (by assumption) (by assumption) (by assumption) ?_)

theorem execRejoin_keep (_m0 : m .galley = true) (_m1 : m .impos = true) (_m2 : m .steps = true) (_m3 : m .groups = true) (_m4 : m .halves = true) (_m5 : m .nvs = true) (_m6 : m .ports = true) (_m7 : m .links = true) (_m8 : m .twins = true) (_m9 : m .units = true) (_m10 : m .regs = true) (_m11 : m .counters = true) (_m12 : m .msix = true) (_m13 : m .events = true) (_m14 : m .waits = true) (_m15 : m .free = true) (_m16 : m .outputs = true) (h : Keep m s X) : KeepRes m s (execRejoin a0 X) := by
  unfold execRejoin
  repeat' (with_reducible first
      | assumption
      | refine fabCtrlRow_keep (by assumption) (by assumption) (by assumption) (by assumption) (by assumption) (by assumption) (by assumption) (by assumption) (by assumption) (by assumption) (by assumption) (by assumption) (by assumption) (by assumption) (by assumption) (by assumption) (by assumption) ?_)

theorem execPortDrainDone_keep (_m0 : m .ports = true) (_m1 : m .time = true) (_m2 : m .regs = true) (h : Keep m s X) : KeepRes m s (execPortDrainDone a0 X) := by
  unfold execPortDrainDone
  repeat' (first
    | (with_reducible assumption)
    | ((try lift_lets -underBinder); intro x; clear_value (e : x = _); first | (with_reducible refine keep_let (m := m) (s := s) e ?_ (fun _ => ?_) <;> clear e) | clear e)
    | (with_reducible first
        | refine setReg_keep (by assumption) ?_
        | refine State_setPort_keep (by assumption) (by assumption) ?_
        | refine State_setTime_keep (by assumption) ?_
        | refine chooseParent_keep (by assumption) (by assumption) ?_ | refine keepRes_next ?_)
    | split)

theorem execFabMapWrite_keep (_m0 : m .regs = true) (_m1 : m .counters = true) (_m2 : m .msix = true) (_m3 : m .events = true) (_m4 : m .waits = true) (_m5 : m .outputs = true) (h : Keep m s X) : KeepRes m s (execFabMapWrite a0 X) := by
  unfold execFabMapWrite
  repeat' (first
    | (with_reducible first
        | assumption | refine guarded_keep ?_
        | refine serveWrite_keep (by assumption) (by assumption) (by assumption) (by assumption) (by assumption) (by assumption) ?_ (fun _ _ _ _ _ _ => ?_)
        | refine capture_keep (by assumption) (by assumption) (by assumption) (by assumption) ?_)
    | split
    | (with_reducible refine keep_mk ?_))

theorem execFabRtCommit_keep (_m0 : m .regs = true) (_m1 : m .counters = true) (_m2 : m .msix = true) (_m3 : m .events = true) (_m4 : m .waits = true) (_m5 : m .outputs = true) (h : Keep m s X) : KeepRes m s (execFabRtCommit a0 X) := by
  unfold execFabRtCommit
  repeat' (first
    | (with_reducible assumption)
    | ((try lift_lets -underBinder); intro x; clear_value (e : x = _); first | (with_reducible refine keep_let (m := m) (s := s) e ?_ (fun _ => ?_) <;> clear e) | clear e)
    | (with_reducible first
        | refine guarded_keep ?_
        | refine serveWrite_keep (by assumption) (by assumption) (by assumption) (by assumption) (by assumption) (by assumption) ?_ (fun _ _ _ _ _ _ => ?_)
        | refine putBit_keep (by assumption) ?_)
    | split
    | (with_reducible refine keep_mk ?_))

theorem replaceLane_keep (_m0 : m .ports = true) (_m1 : m .links = true) (_m2 : m .time = true) (_m3 : m .regs = true) (_m4 : m .msix = true) (_m5 : m .events = true) (_m6 : m .free = true) (_m7 : m .outputs = true) (h : Keep m s X) : Keep m s (replaceLane X a1 a2) := by
  unfold replaceLane
  repeat' (first
    | (with_reducible assumption)
    | ((try lift_lets -underBinder); intro x; clear_value (e : x = _); first | (with_reducible refine keep_let (m := m) (s := s) e ?_ (fun _ => ?_) <;> clear e) | clear e)
    | (with_reducible first
        | refine State_setLink_keep (by assumption) ?_ | refine sendLm_keep (by assumption) ?_
        | refine linkDown_keep (by assumption) (by assumption) (by assumption) (by assumption) (by assumption) (by assumption) ?_
        | refine drawFree_keep (by assumption) ?_ | refine keepSnd_proj ?_)
    | split)

theorem execLaneFail_keep (_m0 : m .ports = true) (_m1 : m .links = true) (_m2 : m .time = true) (_m3 : m .regs = true) (_m4 : m .msix = true) (_m5 : m .events = true) (_m6 : m .free = true) (_m7 : m .outputs = true) (h : Keep m s X) : KeepRes m s (execLaneFail a0 a1 X) := by
  unfold execLaneFail
  repeat' (first
    | (with_reducible first
        | assumption | refine drawFree_keep (by assumption) ?_
        | refine setCause_keep (by assumption) (by assumption) (by assumption) ?_
        | refine capture_keep (by assumption) (by assumption) (by assumption) (by assumption) ?_
        | refine putBit_keep (by assumption) ?_
        | refine replaceLane_keep (by assumption) (by assumption) (by assumption) (by assumption) (by assumption) (by assumption) (by assumption) (by assumption) ?_
        | refine raiseEvent_keep (by assumption) (by assumption) (by assumption) (by assumption) ?_
        | refine keepRes_next ?_ | refine keepSnd_proj ?_)
    | split)

theorem execSpareLaneTrained_keep (_m0 : m .ports = true) (_m1 : m .links = true) (_m2 : m .time = true) (_m3 : m .regs = true) (_m4 : m .msix = true) (_m5 : m .events = true) (_m6 : m .free = true) (_m7 : m .outputs = true) (h : Keep m s X) : KeepRes m s (execSpareLaneTrained a0 a1 a2 X) := by
  unfold execSpareLaneTrained
  repeat' (first
    | (with_reducible assumption)
    | ((try lift_lets -underBinder); intro x; clear_value (e : x = _); first | (with_reducible refine keep_let (m := m) (s := s) e ?_ (fun _ => ?_) <;> clear e) | clear e)
    | (with_reducible first
        | refine State_setLink_keep (by assumption) ?_ | refine showSpares_keep (by assumption) ?_
        | refine putBit_keep (by assumption) ?_
        | refine replaceLane_keep (by assumption) (by assumption) (by assumption) (by assumption) (by assumption) (by assumption) (by assumption) (by assumption) ?_
        | refine keepRes_next ?_)
    | split)

theorem execWidthChange_keep (_m0 : m .ports = true) (_m1 : m .links = true) (_m2 : m .regs = true) (h : Keep m s X) : KeepRes m s (execWidthChange a0 X) := by
  unfold execWidthChange
  repeat' (first
    | (with_reducible first
        | assumption | refine setLanes_keep (by assumption) (by assumption) (by assumption) ?_
        | refine keepRes_next ?_)
    | split)

theorem execLinkDown_keep (_m0 : m .ports = true) (_m1 : m .time = true) (_m2 : m .regs = true) (_m3 : m .msix = true) (_m4 : m .events = true) (_m5 : m .outputs = true) (h : Keep m s X) : KeepRes m s (execLinkDown a0 a1 X) := by
  unfold execLinkDown
  repeat' (first
    | (with_reducible first
        | assumption | refine guarded_keep ?_
        | refine linkDown_keep (by assumption) (by assumption) (by assumption) (by assumption) (by assumption) (by assumption) ?_)
    | split)

theorem sendLost_keep (_m0 : m .links = true) (_m1 : m .regs = true) (_m2 : m .counters = true) (_m3 : m .msix = true) (_m4 : m .events = true) (_m5 : m .outputs = true) (h : Keep m s X) : Keep m s (sendLost X a1 a2) := by
  unfold sendLost
  repeat' (with_reducible first
      | assumption
      | refine sendMsg_keep (by assumption) (by assumption) (by assumption) (by assumption) (by assumption) (by assumption) ?_
      | refine keepSnd_proj ?_)

theorem execRouteAround_keep (_m0 : m .links = true) (_m1 : m .regs = true) (_m2 : m .counters = true) (_m3 : m .msix = true) (_m4 : m .events = true) (_m5 : m .outputs = true) (h : Keep m s X) : KeepRes m s (execRouteAround a0 X) := by
  unfold execRouteAround
  repeat' (first
    | (with_reducible assumption)
    | ((try lift_lets -underBinder); intro x; clear_value (e : x = _); first | (with_reducible refine keep_let (m := m) (s := s) e ?_ (fun _ => ?_) <;> clear e) | clear e)
    | (with_reducible first
        | refine State_setLink_keep (by assumption) ?_
        | refine capture_keep (by assumption) (by assumption) (by assumption) (by assumption) ?_
        | refine sendLost_keep (by assumption) (by assumption) (by assumption) (by assumption) (by assumption) (by assumption) ?_
        | refine forwardFlit_keep (by assumption) (by assumption) (by assumption) (by assumption) (by assumption) (by assumption) ?_
        | refine keep_foldl (fun _ _ _ => ?_) ?_ | refine keepRes_next ?_)
    | split)

end Sys2Proof.Machine
end

