-- ==== Sys2Proof/Laws/KeepChroni.lean ====
section
/-!
SUPPORT. What the operations and meanings of Machine/Chroni.lean keep (`Keep`).
-/
set_option Elab.async false
set_option linter.all false
namespace Sys2Proof.Machine

theorem askAgain_keep (_m0 : m .links = true) (_m1 : m .outputs = true) (h : Keep m s X) : Keep m s (askAgain X a1) := by
  unfold askAgain
  repeat' (first
    | (with_reducible assumption)
    | ((try lift_lets -underBinder); intro x; clear_value (e : x = _); clear e)
    | (with_reducible first
        | refine sendLm_keep (by assumption) ?_ | refine State_setLink_keep (by assumption) ?_)
    | split)

theorem takeMessage_keep (_m0 : m .links = true) (_m1 : m .regs = true) (_m2 : m .msix = true) (_m3 : m .events = true) (_m4 : m .outputs = true) (h : Keep m s X) : Keep m s (takeMessage X a1 a2 a3) := by
  unfold takeMessage
  repeat' (first
    | (with_reducible assumption)
    | ((try lift_lets -underBinder); intro x; clear_value (e : x = _); clear e)
    | (with_reducible first
        | refine capture_keep (by assumption) (by assumption) (by assumption) (by assumption) ?_
        | refine arrive_keep (by assumption) ?_)
    | split)

theorem gatherFlit_keep (_m0 : m .links = true) (_m1 : m .regs = true) (_m2 : m .msix = true) (_m3 : m .events = true) (_m4 : m .outputs = true) (h : Keep m s X) : Keep m s (gatherFlit X a1 a2) := by
  unfold gatherFlit
  repeat' (first
    | (with_reducible assumption)
    | ((try lift_lets -underBinder); intro x; clear_value (e : x = _); first | (have _ := fun a => x a; subst e; try dsimp -zeta only) | clear e)
    | (with_reducible first
        | refine State_setLink_keep (by assumption) ?_
        | refine takeMessage_keep (by assumption) (by assumption) (by assumption) (by assumption) (by assumption) ?_)
    | split)

theorem handleFlit_keep (_m0 : m .links = true) (_m1 : m .regs = true) (_m2 : m .counters = true) (_m3 : m .msix = true) (_m4 : m .events = true) (_m5 : m .outputs = true) (h : Keep m s X) : Keep m s (handleFlit X a1 a2) := by
  unfold handleFlit
  repeat' (first
    | (with_reducible assumption)
    | ((try lift_lets -underBinder); intro x; clear_value (e : x = _); clear e)
    | (with_reducible first
        | refine capture_keep (by assumption) (by assumption) (by assumption) (by assumption) ?_
        | refine count_keep (by assumption) (by assumption) (by assumption) (by assumption) (by assumption) ?_
        | refine gatherFlit_keep (by assumption) (by assumption) (by assumption) (by assumption) (by assumption) ?_
        | refine sliceDrop_keep (by assumption) (by assumption) (by assumption) (by assumption) (by assumption) ?_
        | refine forwardFlit_keep (by assumption) (by assumption) (by assumption) (by assumption) (by assumption) (by assumption) ?_)
    | split)

theorem passFlit_keep (_m0 : m .links = true) (_m1 : m .regs = true) (_m2 : m .counters = true) (_m3 : m .msix = true) (_m4 : m .events = true) (_m5 : m .outputs = true) (h : Keep m s X) : Keep m s (passFlit X a1 a2) := by
  unfold passFlit
  repeat' (with_reducible first
      | assumption | refine freeCredit_keep (by assumption) ?_
      | refine handleFlit_keep (by assumption) (by assumption) (by assumption) (by assumption) (by assumption) (by assumption) ?_)

theorem holdFlit_keep (_m0 : m .links = true) (_m1 : m .regs = true) (_m2 : m .counters = true) (_m3 : m .msix = true) (_m4 : m .events = true) (_m5 : m .outputs = true) (h : Keep m s X) : Keep m s (holdFlit X a1 a2) := by
  unfold holdFlit
  repeat' (first
    | (with_reducible assumption)
    | ((try lift_lets -underBinder); intro x; clear_value (e : x = _); clear e)
    | (with_reducible first
        | refine State_setLink_keep (by assumption) ?_ | refine freeCredit_keep (by assumption) ?_
        | refine passFlit_keep (by assumption) (by assumption) (by assumption) (by assumption) (by assumption) (by assumption) ?_)
    | split)

theorem acceptFlit_keep (_m0 : m .links = true) (_m1 : m .regs = true) (_m2 : m .counters = true) (_m3 : m .msix = true) (_m4 : m .events = true) (_m5 : m .outputs = true) (h : Keep m s X) : Keep m s (acceptFlit X a1 a2) := by
  unfold acceptFlit
  repeat' (first
    | (with_reducible assumption)
    | ((try lift_lets -underBinder); intro x; clear_value (e : x = _); first | (with_reducible refine keep_let (m := m) (s := s) e ?_ (fun _ => ?_) <;> clear e) | clear e)
    | (with_reducible first
        | refine count_keep (by assumption) (by assumption) (by assumption) (by assumption) (by assumption) ?_
        | refine State_setLink_keep (by assumption) ?_ | refine sendLm_keep (by assumption) ?_
        | refine holdFlit_keep (by assumption) (by assumption) (by assumption) (by assumption) (by assumption) (by assumption) ?_
        | refine passFlit_keep (by assumption) (by assumption) (by assumption) (by assumption) (by assumption) (by assumption) ?_)
    | split)

theorem execDataFlit_keep (_m0 : m .links = true) (_m1 : m .regs = true) (_m2 : m .counters = true) (_m3 : m .msix = true) (_m4 : m .events = true) (_m5 : m .outputs = true) (h : Keep m s X) : KeepRes m s (execDataFlit a0 a1 X) := by
  unfold execDataFlit
  repeat' (first
    | (with_reducible first
        | assumption | refine guarded_keep ?_
        | refine askAgain_keep (by assumption) (by assumption) ?_
        | refine acceptFlit_keep (by assumption) (by assumption) (by assumption) (by assumption) (by assumption) (by assumption) ?_)
    | split
    | (with_reducible refine keep_mk ?_))

theorem resendFrom_keep (_m0 : m .links = true) (_m1 : m .regs = true) (_m2 : m .counters = true) (_m3 : m .msix = true) (_m4 : m .events = true) (_m5 : m .outputs = true) (h : Keep m s X) : Keep m s (resendFrom X a1 a2) := by
  unfold resendFrom
  repeat' (first
    | (with_reducible assumption)
    | ((try lift_lets -underBinder); intro x; clear_value (e : x = _); first | (with_reducible refine keep_let (m := m) (s := s) e ?_ (fun _ => ?_) <;> clear e) | clear e)
    | (with_reducible first
        | refine State_setLink_keep (by assumption) ?_ | refine emit_keep (by assumption) ?_
        | refine count_keep (by assumption) (by assumption) (by assumption) (by assumption) (by assumption) ?_
        | refine keep_foldl (fun _ _ _ => ?_) ?_)
    | split)

theorem execLinkManagementFlit_keep (_m0 : m .links = true) (_m1 : m .regs = true) (_m2 : m .counters = true) (_m3 : m .msix = true) (_m4 : m .events = true) (_m5 : m .outputs = true) (h : Keep m s X) : KeepRes m s (execLinkManagementFlit a0 a1 X) := by
  unfold execLinkManagementFlit
  repeat' (first
    | (with_reducible assumption)
    | ((try lift_lets -underBinder); intro x; clear_value (e : x = _); first | (with_reducible refine keep_let (m := m) (s := s) e ?_ (fun _ => ?_) <;> clear e) | clear e)
    | (with_reducible first
        | refine guarded_keep ?_ | refine State_setLink_keep (by assumption) ?_
        | refine setReg_keep (by assumption) ?_
        | refine resendFrom_keep (by assumption) (by assumption) (by assumption) (by assumption) (by assumption) (by assumption) ?_
        | refine pump_keep (by assumption) (by assumption) (by assumption) (by assumption) (by assumption) (by assumption) ?_)
    | split)

theorem execIdleFlit_keep (h : Keep m s X) : KeepRes m s (execIdleFlit a0 a1 X) := by
  unfold execIdleFlit
  repeat' (first
    | (with_reducible assumption)
    | ((try lift_lets -underBinder); intro x; clear_value (e : x = _); clear e)
    | (with_reducible refine guarded_keep ?_))

theorem execResend_keep (_m0 : m .links = true) (_m1 : m .regs = true) (_m2 : m .counters = true) (_m3 : m .msix = true) (_m4 : m .events = true) (_m5 : m .outputs = true) (h : Keep m s X) : KeepRes m s (execResend a0 a1 X) := by
  unfold execResend
  repeat' (first
    | (with_reducible assumption)
    | ((try lift_lets -underBinder); intro x; clear_value (e : x = _); first | (with_reducible refine keep_let (m := m) (s := s) e ?_ (fun _ => ?_) <;> clear e) | clear e)
    | (with_reducible first
        | refine launch_keep (by assumption) (by assumption) (by assumption) (by assumption) (by assumption) (by assumption) ?_
        | refine count_keep (by assumption) (by assumption) (by assumption) (by assumption) (by assumption) ?_
        | refine keepRes_next ?_)
    | split
    | (with_reducible refine keep_mk ?_))

theorem applySignal_keep (_m0 : m .steps = true) (h : Keep m s X) : Keep m s (applySignal X a1 a2) := by
  unfold applySignal
  repeat' (first
    | (with_reducible first | assumption | refine signalToken_keep (by assumption) ?_)
    | split)

theorem applyT0_keep (_m0 : m .memory = true) (_m1 : m .steps = true) (h : Keep m s X) : Keep m s (applyT0 X a1) := by
  unfold applyT0
  repeat' (first
    | (with_reducible assumption)
    | ((try lift_lets -underBinder); intro x; clear_value (e : x = _); clear e)
    | (with_reducible first
        | refine applySignal_keep (by assumption) ?_ | refine t0Write_keep (by assumption) ?_))

theorem execT0Write_keep (_m0 : m .memory = true) (_m1 : m .steps = true) (_m2 : m .links = true) (_m3 : m .regs = true) (_m4 : m .counters = true) (_m5 : m .msix = true) (_m6 : m .events = true) (_m7 : m .outputs = true) (h : Keep m s X) : KeepRes m s (execT0Write X) := by
  unfold execT0Write
  repeat' (with_reducible first
      | assumption
      | refine onMsg_keep (by assumption) (by assumption) (by assumption) (by assumption) (by assumption) (by assumption) ?_ (fun _ _ _ => ?_)
      | refine applyT0_keep (by assumption) (by assumption) ?_ | refine keepRes_next ?_)

theorem execSignalMsg_keep (_m0 : m .steps = true) (_m1 : m .links = true) (_m2 : m .regs = true) (_m3 : m .counters = true) (_m4 : m .msix = true) (_m5 : m .events = true) (_m6 : m .outputs = true) (h : Keep m s X) : KeepRes m s (execSignalMsg X) := by
  unfold execSignalMsg
  repeat' (with_reducible first
      | assumption
      | refine onMsg_keep (by assumption) (by assumption) (by assumption) (by assumption) (by assumption) (by assumption) ?_ (fun _ _ _ => ?_)
      | refine applySignal_keep (by assumption) ?_ | refine keepRes_next ?_)

theorem execPartialMsg_keep (_m0 : m .memory = true) (_m1 : m .steps = true) (_m2 : m .links = true) (_m3 : m .regs = true) (_m4 : m .counters = true) (_m5 : m .msix = true) (_m6 : m .events = true) (_m7 : m .outputs = true) (h : Keep m s X) : KeepRes m s (execPartialMsg X) := by
  unfold execPartialMsg
  repeat' (with_reducible first
      | assumption
      | refine onMsg_keep (by assumption) (by assumption) (by assumption) (by assumption) (by assumption) (by assumption) ?_ (fun _ _ _ => ?_)
      | refine applyT0_keep (by assumption) (by assumption) ?_ | refine keepRes_next ?_)

theorem storeSectors_keep (_m0 : m .memory = true) (_m1 : m .units = true) (_m2 : m .regs = true) (_m3 : m .msix = true) (_m4 : m .events = true) (_m5 : m .outputs = true) (h : Keep m s X) : Keep m s (storeSectors X a1 a2) := by
  unfold storeSectors
  repeat' (first
    | (with_reducible assumption)
    | ((try lift_lets -underBinder); intro x; clear_value (e : x = _); clear e)
    | (with_reducible first
        | refine addrHole_keep (by assumption) (by assumption) (by assumption) (by assumption) ?_
        | refine dataWrite_keep (by assumption) (by assumption) ?_
        | refine keep_foldl (fun _ _ _ => ?_) ?_)
    | split)

theorem execAppendMsg_keep (_m0 : m .memory = true) (_m1 : m .links = true) (_m2 : m .units = true) (_m3 : m .regs = true) (_m4 : m .counters = true) (_m5 : m .msix = true) (_m6 : m .events = true) (_m7 : m .outputs = true) (h : Keep m s X) : KeepRes m s (execAppendMsg X) := by
  unfold execAppendMsg
  repeat' (with_reducible first
      | assumption
      | refine onMsg_keep (by assumption) (by assumption) (by assumption) (by assumption) (by assumption) (by assumption) ?_ (fun _ _ _ => ?_)
      | refine storeSectors_keep (by assumption) (by assumption) (by assumption) (by assumption) (by assumption) (by assumption) ?_
      | refine keepRes_next ?_)

theorem storePages_keep (_m0 : m .memory = true) (_m1 : m .galley = true) (_m2 : m .units = true) (_m3 : m .regs = true) (_m4 : m .msix = true) (_m5 : m .events = true) (_m6 : m .outputs = true) (h : Keep m s X) : Keep m s (storePages X a1 a2 a3) := by
  unfold storePages
  repeat' (first
    | (with_reducible assumption)
    | ((try lift_lets -underBinder); intro x; clear_value (e : x = _); first | (with_reducible refine keep_let (m := m) (s := s) e ?_ (fun _ => ?_) <;> clear e) | clear e)
    | (with_reducible first
        | refine storeSectors_keep (by assumption) (by assumption) (by assumption) (by assumption) (by assumption) (by assumption) ?_
        | refine State_skipEntry_keep (by assumption) ?_)
    | split)

theorem execChunkMsg_keep (_m0 : m .memory = true) (_m1 : m .galley = true) (_m2 : m .tensors = true) (_m3 : m .moves = true) (_m4 : m .impos = true) (_m5 : m .steps = true) (_m6 : m .groups = true) (_m7 : m .dies = true) (_m8 : m .links = true) (_m9 : m .hosts = true) (_m10 : m .twins = true) (_m11 : m .units = true) (_m12 : m .sources = true) (_m13 : m .regs = true) (_m14 : m .counters = true) (_m15 : m .msix = true) (_m16 : m .events = true) (_m17 : m .free = true) (_m18 : m .outputs = true) (h : Keep m s X) : KeepRes m s (execChunkMsg X) := by
  unfold execChunkMsg
  repeat' (first
    | (with_reducible assumption)
    | ((try lift_lets -underBinder); intro x; clear_value (e : x = _); clear e)
    | (with_reducible first
        | refine onMsg_keep (by assumption) (by assumption) (by assumption) (by assumption) (by assumption) (by assumption) ?_ (fun _ _ _ => ?_)
        | refine storePages_keep (by assumption) (by assumption) (by assumption) (by assumption) (by assumption) (by assumption) (by assumption) ?_
        | refine storeExtent_keep (by assumption) (by assumption) (by assumption) (by assumption) (by assumption) (by assumption) (by assumption) (by assumption) (by assumption) (by assumption) (by assumption) (by assumption) (by assumption) (by assumption) (by assumption) (by assumption) (by assumption) (by assumption) (by assumption) ?_
        | refine keepRes_next ?_)
    | split)

theorem execClass0Lost_keep (_m0 : m .galley = true) (_m1 : m .impos = true) (_m2 : m .steps = true) (_m3 : m .groups = true) (_m4 : m .links = true) (_m5 : m .units = true) (_m6 : m .regs = true) (_m7 : m .counters = true) (_m8 : m .msix = true) (_m9 : m .events = true) (_m10 : m .free = true) (_m11 : m .outputs = true) (h : Keep m s X) : KeepRes m s (execClass0Lost X) := by
  unfold execClass0Lost
  repeat' (first
    | (with_reducible first
        | assumption
        | refine onMsg_keep (by assumption) (by assumption) (by assumption) (by assumption) (by assumption) (by assumption) ?_ (fun _ _ _ => ?_)
        | refine abandonWith_keep (by assumption) (by assumption) (by assumption) (by assumption) (by assumption) (by assumption) (by assumption) (by assumption) (by assumption) (by assumption) (by assumption) (by assumption) ?_
        | refine keepRes_next ?_)
    | split)

theorem askTime_keep (_m0 : m .links = true) (_m1 : m .time = true) (_m2 : m .regs = true) (_m3 : m .counters = true) (_m4 : m .msix = true) (_m5 : m .events = true) (_m6 : m .outputs = true) (h : Keep m s X) : Keep m s (askTime X a1) := by
  unfold askTime
  repeat' (first
    | (with_reducible assumption)
    | ((try lift_lets -underBinder); intro x; clear_value (e : x = _); first | (with_reducible refine keep_let (m := m) (s := s) e ?_ (fun _ => ?_) <;> clear e) | clear e)
    | (with_reducible first
        | refine State_setTime_keep (by assumption) ?_
        | refine sendPartner_keep (by assumption) (by assumption) (by assumption) (by assumption) (by assumption) (by assumption) ?_))

theorem execTimeExchange_keep (_m0 : m .links = true) (_m1 : m .time = true) (_m2 : m .regs = true) (_m3 : m .counters = true) (_m4 : m .msix = true) (_m5 : m .events = true) (_m6 : m .outputs = true) (h : Keep m s X) : KeepRes m s (execTimeExchange X) := by
  unfold execTimeExchange
  repeat' (with_reducible first
      | assumption
      | refine askTime_keep (by assumption) (by assumption) (by assumption) (by assumption) (by assumption) (by assumption) (by assumption) ?_
      | refine keep_foldl (fun _ _ _ => ?_) ?_ | refine keepRes_next ?_)

theorem execTimeReq_keep (_m0 : m .links = true) (_m1 : m .regs = true) (_m2 : m .counters = true) (_m3 : m .msix = true) (_m4 : m .events = true) (_m5 : m .outputs = true) (h : Keep m s X) : KeepRes m s (execTimeReq a0 X) := by
  unfold execTimeReq
  repeat' (first
    | (with_reducible assumption)
    | ((try lift_lets -underBinder); intro x; clear_value (e : x = _); clear e)
    | (with_reducible first
        | refine onMsg_keep (by assumption) (by assumption) (by assumption) (by assumption) (by assumption) (by assumption) ?_ (fun _ _ _ => ?_)
        | refine sendPartner_keep (by assumption) (by assumption) (by assumption) (by assumption) (by assumption) (by assumption) ?_
        | refine keepRes_next ?_)
    | split)

theorem alignNow_keep (_m0 : m .halves = true) (_m1 : m .nvs = true) (_m2 : m .ports = true) (_m3 : m .links = true) (_m4 : m .time = true) (_m5 : m .regs = true) (h : Keep m s X) : Keep m s (alignNow X a1) := by
  unfold alignNow
  repeat' (first
    | (with_reducible assumption)
    | ((try lift_lets -underBinder); intro x; clear_value (e : x = _); (with_reducible refine keep_let (m := m) (s := s) e ?_ (fun _ => ?_) <;> clear e))
    | (with_reducible first
        | refine setAligned_keep (by assumption) (by assumption) ?_
        | refine setClock_keep (by assumption) (by assumption) ?_
        | refine endTen_keep (by assumption) (by assumption) (by assumption) (by assumption) (by assumption) ?_))

theorem followParent_keep (_m0 : m .halves = true) (_m1 : m .nvs = true) (_m2 : m .ports = true) (_m3 : m .links = true) (_m4 : m .time = true) (_m5 : m .regs = true) (_m6 : m .msix = true) (_m7 : m .events = true) (_m8 : m .outputs = true) (h : Keep m s X) : Keep m s (followParent X a1 a2) := by
  unfold followParent
  repeat' (first
    | (with_reducible assumption)
    | ((try lift_lets -underBinder); intro x; clear_value (e : x = _); first | (with_reducible refine keep_let (m := m) (s := s) e ?_ (fun _ => ?_) <;> clear e) | clear e)
    | (with_reducible first
        | refine State_setTime_keep (by assumption) ?_
        | refine alignNow_keep (by assumption) (by assumption) (by assumption) (by assumption) (by assumption) (by assumption) ?_
        | refine capture_keep (by assumption) (by assumption) (by assumption) (by assumption) ?_
        | refine setAligned_keep (by assumption) (by assumption) ?_
        | refine raiseEvent_keep (by assumption) (by assumption) (by assumption) (by assumption) ?_
        | refine putBit_keep (by assumption) ?_)
    | split
    | (with_reducible refine keep_mk ?_))

theorem execTimeResp_keep (_m0 : m .halves = true) (_m1 : m .nvs = true) (_m2 : m .ports = true) (_m3 : m .links = true) (_m4 : m .time = true) (_m5 : m .regs = true) (_m6 : m .counters = true) (_m7 : m .msix = true) (_m8 : m .events = true) (_m9 : m .outputs = true) (h : Keep m s X) : KeepRes m s (execTimeResp a0 X) := by
  unfold execTimeResp
  repeat' (first
    | (with_reducible assumption)
    | ((try lift_lets -underBinder); intro x; clear_value (e : x = _); first | (with_reducible refine keep_let (m := m) (s := s) e ?_ (fun _ => ?_) <;> clear e) | clear e)
    | (with_reducible first
        | refine onMsg_keep (by assumption) (by assumption) (by assumption) (by assumption) (by assumption) (by assumption) ?_ (fun _ _ _ => ?_)
        | refine State_setTime_keep (by assumption) ?_ | refine putFld_keep (by assumption) ?_
        | refine considerOffers_keep (by assumption) (by assumption) (by assumption) (by assumption) (by assumption) ?_
        | refine followParent_keep (by assumption) (by assumption) (by assumption) (by assumption) (by assumption) (by assumption) (by assumption) (by assumption) (by assumption) ?_
        | refine keepRes_next ?_)
    | split)

theorem execNoParentTimeout_keep (_m0 : m .time = true) (_m1 : m .regs = true) (h : Keep m s X) : KeepRes m s (execNoParentTimeout X) := by
  unfold execNoParentTimeout
  repeat' (first
    | (with_reducible first
        | assumption | refine setAligned_keep (by assumption) (by assumption) ?_
        | refine keepRes_next ?_)
    | split)

theorem execOriginListenExpiry_keep (_m0 : m .time = true) (h : Keep m s X) : KeepRes m s (execOriginListenExpiry X) := by
  unfold execOriginListenExpiry
  repeat' (first
    | (with_reducible assumption)
    | ((try lift_lets -underBinder); intro x; clear_value (e : x = _); clear e)
    | (with_reducible refine keepRes_next ?_)
    | split
    | (with_reducible refine keep_mk ?_))

theorem execEpochAbsent_keep (_m0 : m .halves = true) (_m1 : m .nvs = true) (_m2 : m .ports = true) (_m3 : m .links = true) (_m4 : m .time = true) (_m5 : m .regs = true) (h : Keep m s X) : KeepRes m s (execEpochAbsent X) := by
  unfold execEpochAbsent
  repeat' (first
    | (with_reducible first
        | assumption
        | refine becomeSource_keep (by assumption) (by assumption) (by assumption) (by assumption) (by assumption) (by assumption) ?_
        | refine keepRes_next ?_)
    | split)

theorem execTimeNoSource_keep (_m0 : m .halves = true) (_m1 : m .nvs = true) (_m2 : m .ports = true) (_m3 : m .links = true) (_m4 : m .regs = true) (h : Keep m s X) : KeepRes m s (execTimeNoSource X) := by
  unfold execTimeNoSource
  repeat' (first
    | (with_reducible first
        | assumption
        | refine endTen_keep (by assumption) (by assumption) (by assumption) (by assumption) (by assumption) ?_
        | refine keepRes_next ?_)
    | split)

theorem execEpochIn_keep (_m0 : m .halves = true) (_m1 : m .nvs = true) (_m2 : m .ports = true) (_m3 : m .links = true) (_m4 : m .time = true) (_m5 : m .regs = true) (h : Keep m s X) : KeepRes m s (execEpochIn X) := by
  unfold execEpochIn
  repeat' (first
    | (with_reducible assumption)
    | ((try lift_lets -underBinder); intro x; clear_value (e : x = _); first | (with_reducible refine keep_let (m := m) (s := s) e ?_ (fun _ => ?_) <;> clear e) | clear e)
    | (with_reducible first
        | refine becomeSource_keep (by assumption) (by assumption) (by assumption) (by assumption) (by assumption) (by assumption) ?_
        | refine keepRes_next ?_)
    | split
    | (with_reducible refine keep_mk ?_))

end Sys2Proof.Machine
end

