-- ==== Sys2Proof/Laws/KeepControl.lean ====
section
/-!
SUPPORT. What the operations and meanings of Machine/Control.lean keep (`Keep`).
-/
set_option Elab.async false
set_option linter.all false
namespace Sys2Proof.Machine

theorem mcBack_keep (_m0 : m .regs = true) (h : Keep m s X) : Keep m s (mcBack X a1) := by
  unfold mcBack
  repeat' (with_reducible first | assumption | refine putBit_keep (by assumption) ?_)

theorem seeEpoch_keep (_m0 : m .regs = true) (h : Keep m s X) : Keep m s (seeEpoch X a1 a2) := by
  unfold seeEpoch
  repeat' (first
    | (with_reducible assumption)
    | ((try lift_lets -underBinder); intro x; clear_value (e : x = _); (with_reducible refine keep_let (m := m) (s := s) e ?_ (fun _ => ?_) <;> clear e))
    | (with_reducible first
        | refine setEpochSeen_keep (by assumption) ?_ | refine mcWait_keep (by assumption) ?_)
    | split)

theorem execHeartbeat_keep (_m0 : m .hubs = true) (_m1 : m .regs = true) (h : Keep m s X) : KeepRes m s (execHeartbeat a0 X) := by
  unfold execHeartbeat
  repeat' (first
    | (with_reducible assumption)
    | ((try lift_lets -underBinder); intro x; clear_value (e : x = _); first | (with_reducible refine keep_let (m := m) (s := s) e ?_ (fun _ => ?_) <;> clear e) | clear e)
    | (with_reducible first
        | refine putFld_keep (by assumption) ?_ | refine putBit_keep (by assumption) ?_
        | refine mcBack_keep (by assumption) ?_ | refine State_setHub_keep (by assumption) ?_
        | refine seeEpoch_keep (by assumption) ?_ | refine keepRes_next ?_)
    | split)

theorem execMcPeerLost_keep (_m0 : m .regs = true) (_m1 : m .msix = true) (_m2 : m .events = true) (_m3 : m .outputs = true) (h : Keep m s X) : KeepRes m s (execMcPeerLost a0 X) := by
  unfold execMcPeerLost
  repeat' (first
    | (with_reducible assumption)
    | ((try lift_lets -underBinder); intro x; clear_value (e : x = _); clear e)
    | (with_reducible first
        | refine devEvent_keep (by assumption) (by assumption) (by assumption) (by assumption) ?_
        | refine putBit_keep (by assumption) ?_ | refine putFld_keep (by assumption) ?_
        | refine keepRes_next ?_))

theorem execAcquire_keep (_m0 : m .nvs = true) (_m1 : m .regs = true) (_m2 : m .msix = true) (_m3 : m .events = true) (_m4 : m .outputs = true) (h : Keep m s X) : KeepRes m s (execAcquire a0 X) := by
  unfold execAcquire
  repeat' (first
    | (with_reducible assumption)
    | ((try lift_lets -underBinder); intro x; clear_value (e : x = _); first | (with_reducible refine keep_let (m := m) (s := s) e ?_ (fun _ => ?_) <;> clear e) | clear e)
    | (with_reducible first
        | refine mcBack_keep (by assumption) ?_
        | refine grantLease_keep (by assumption) (by assumption) (by assumption) (by assumption) (by assumption) ?_
        | refine State_setLease_keep (by assumption) ?_ | refine keepRes_next ?_)
    | split)

theorem execRenew_keep (_m0 : m .nvs = true) (_m1 : m .regs = true) (h : Keep m s X) : KeepRes m s (execRenew a0 X) := by
  unfold execRenew
  repeat' (first
    | (with_reducible assumption)
    | ((try lift_lets -underBinder); intro x; clear_value (e : x = _); clear e)
    | (with_reducible first
        | refine State_setLease_keep (by assumption) ?_ | refine seeEpoch_keep (by assumption) ?_
        | refine mcWait_keep (by assumption) ?_ | refine keepRes_next ?_)
    | split)

theorem execRelease_keep (_m0 : m .nvs = true) (_m1 : m .regs = true) (_m2 : m .msix = true) (_m3 : m .events = true) (_m4 : m .outputs = true) (h : Keep m s X) : KeepRes m s (execRelease a0 X) := by
  unfold execRelease
  repeat' (first
    | (with_reducible first
        | assumption
        | refine freeLease_keep (by assumption) (by assumption) (by assumption) (by assumption) (by assumption) ?_
        | refine keepRes_next ?_)
    | split)

theorem execLeaseExpiry_keep (_m0 : m .nvs = true) (_m1 : m .regs = true) (_m2 : m .msix = true) (_m3 : m .events = true) (_m4 : m .outputs = true) (h : Keep m s X) : KeepRes m s (execLeaseExpiry X) := by
  unfold execLeaseExpiry
  repeat' (first
    | (with_reducible first
        | assumption
        | refine freeLease_keep (by assumption) (by assumption) (by assumption) (by assumption) (by assumption) ?_
        | refine keepRes_next ?_)
    | split)

theorem execRenewTimeout_keep (_m0 : m .regs = true) (h : Keep m s X) : KeepRes m s (execRenewTimeout a0 X) := by
  unfold execRenewTimeout
  repeat' (first
    | (with_reducible assumption)
    | ((try lift_lets -underBinder); intro x; clear_value (e : x = _); (with_reducible refine keep_let (m := m) (s := s) e ?_ (fun _ => ?_) <;> clear e))
    | (with_reducible first
        | refine putBit_keep (by assumption) ?_ | refine mcWait_keep (by assumption) ?_
        | refine keepRes_next ?_)
    | split)

theorem execMcWatchdog_keep (_m0 : m .galley = true) (_m1 : m .impos = true) (_m2 : m .steps = true) (_m3 : m .groups = true) (_m4 : m .nvs = true) (_m5 : m .links = true) (_m6 : m .twins = true) (_m7 : m .units = true) (_m8 : m .regs = true) (_m9 : m .counters = true) (_m10 : m .msix = true) (_m11 : m .events = true) (_m12 : m .free = true) (_m13 : m .outputs = true) (h : Keep m s X) : KeepRes m s (execMcWatchdog a0 X) := by
  unfold execMcWatchdog
  repeat' (first
    | (with_reducible assumption)
    | ((try lift_lets -underBinder); intro x; clear_value (e : x = _); (with_reducible refine keep_let (m := m) (s := s) e ?_ (fun _ => ?_) <;> clear e))
    | (with_reducible first
        | refine lastGasp_keep (by assumption) (by assumption) (by assumption) ?_
        | refine mcWait_keep (by assumption) ?_ | refine putBit_keep (by assumption) ?_
        | refine devEvent_keep (by assumption) (by assumption) (by assumption) (by assumption) ?_
        | refine freeLease_keep (by assumption) (by assumption) (by assumption) (by assumption) (by assumption) ?_
        | refine failStop_keep (by assumption) (by assumption) (by assumption) (by assumption) (by assumption) (by assumption) (by assumption) (by assumption) (by assumption) (by assumption) (by assumption) (by assumption) (by assumption) ?_
        | refine keepRes_next ?_)
    | split)

theorem execHostArbActing_keep (_m0 : m .hubs = true) (_m1 : m .regs = true) (_m2 : m .msix = true) (_m3 : m .events = true) (_m4 : m .outputs = true) (h : Keep m s X) : KeepRes m s (execHostArbActing a0 X) := by
  unfold execHostArbActing
  repeat' (first
    | (with_reducible assumption)
    | ((try lift_lets -underBinder); intro x; clear_value (e : x = _); clear e)
    | (with_reducible first
        | refine devEvent_keep (by assumption) (by assumption) (by assumption) (by assumption) ?_
        | refine setMc_keep (by assumption) ?_ | refine State_setHub_keep (by assumption) ?_
        | refine keepRes_next ?_)
    | split)

theorem execFenced_keep (_m0 : m .galley = true) (_m1 : m .impos = true) (_m2 : m .steps = true) (_m3 : m .groups = true) (_m4 : m .links = true) (_m5 : m .twins = true) (_m6 : m .units = true) (_m7 : m .regs = true) (_m8 : m .counters = true) (_m9 : m .msix = true) (_m10 : m .events = true) (_m11 : m .free = true) (_m12 : m .outputs = true) (h : Keep m s X) : KeepRes m s (execFenced X) := by
  unfold execFenced
  repeat' (first
    | (with_reducible assumption)
    | ((try lift_lets -underBinder); intro x; clear_value (e : x = _); (with_reducible refine keep_let (m := m) (s := s) e ?_ (fun _ => ?_) <;> clear e))
    | (with_reducible first
        | refine setMc_keep (by assumption) ?_
        | refine failStop_keep (by assumption) (by assumption) (by assumption) (by assumption) (by assumption) (by assumption) (by assumption) (by assumption) (by assumption) (by assumption) (by assumption) (by assumption) (by assumption) ?_
        | refine devEvent_keep (by assumption) (by assumption) (by assumption) (by assumption) ?_
        | refine putBit_keep (by assumption) ?_ | refine keepRes_next ?_)
    | split)

theorem linkLoser_keep (_m0 : m .free = true) (h : Keep m s X) : KeepSnd m s (linkLoser X) := by
  unfold linkLoser
  repeat' (first
    | (with_reducible first
        | assumption | refine drawFree_keep (by assumption) ?_
        | refine keepSnd_of ?_ (by with_reducible assumption))
    | split
    | (with_reducible refine keepSnd_mk ?_))

theorem execHubLinkLost_keep (_m0 : m .galley = true) (_m1 : m .moves = true) (_m2 : m .impos = true) (_m3 : m .steps = true) (_m4 : m .groups = true) (_m5 : m .halves = true) (_m6 : m .dies = true) (_m7 : m .nvs = true) (_m8 : m .ports = true) (_m9 : m .links = true) (_m10 : m .hosts = true) (_m11 : m .twins = true) (_m12 : m .units = true) (_m13 : m .time = true) (_m14 : m .hubs = true) (_m15 : m .sources = true) (_m16 : m .regs = true) (_m17 : m .counters = true) (_m18 : m .msix = true) (_m19 : m .events = true) (_m20 : m .waits = true) (_m21 : m .free = true) (_m22 : m .outputs = true) (h : Keep m s X) : KeepRes m s (execHubLinkLost X) := by
  unfold execHubLinkLost
  repeat' (first
    | (with_reducible first
        | assumption | refine linkLoser_keep (by assumption) ?_
        | refine requestHalf_keep (by assumption) (by assumption) (by assumption) (by assumption) (by assumption) (by assumption) (by assumption) (by assumption) (by assumption) (by assumption) (by assumption) (by assumption) (by assumption) (by assumption) (by assumption) (by assumption) (by assumption) (by assumption) (by assumption) (by assumption) (by assumption) (by assumption) (by assumption) ?_
        | refine devEvent_keep (by assumption) (by assumption) (by assumption) (by assumption) ?_
        | refine keepRes_next ?_ | refine keepSnd_proj ?_)
    | split
    | (with_reducible refine keep_mk ?_))

end Sys2Proof.Machine
end

