-- ==== Sys2Proof/Laws/KeepHostRows.lean ====
section
/-!
SUPPORT. What the operations and meanings of Machine/HostRows.lean keep (`Keep`).
-/
set_option Elab.async false
set_option linter.all false
namespace Sys2Proof.Machine

theorem execPcieLinkDown_keep (_m0 : m .regs = true) (h : Keep m s X) : KeepRes m s (execPcieLinkDown a0 X) := by
  unfold execPcieLinkDown
  repeat' (with_reducible first
      | assumption | refine putBit_keep (by assumption) ?_ | refine keepRes_next ?_)

theorem execPcieLinkUp_keep (_m0 : m .hosts = true) (_m1 : m .regs = true) (_m2 : m .msix = true) (_m3 : m .events = true) (_m4 : m .outputs = true) (h : Keep m s X) : KeepRes m s (execPcieLinkUp a0 a1 X) := by
  unfold execPcieLinkUp
  repeat' (first
    | (with_reducible first
        | assumption | refine releaseHeld_keep (by assumption) (by assumption) ?_
        | refine putBit_keep (by assumption) ?_
        | refine devEvent_keep (by assumption) (by assumption) (by assumption) (by assumption) ?_
        | refine keepRes_next ?_)
    | split)

theorem execD3hot_keep (_m0 : m .hosts = true) (h : Keep m s X) : KeepRes m s (execD3hot a0 a1 X) := by
  unfold execD3hot
  repeat' (with_reducible first | assumption | refine keepRes_next ?_ | refine keep_mk ?_)

theorem sendPending_keep (_m0 : m .msix = true) (_m1 : m .outputs = true) (h : Keep m s X) : Keep m s (sendPending X a1) := by
  unfold sendPending
  repeat' (first
    | (with_reducible assumption)
    | ((try lift_lets -underBinder); intro x; clear_value (e : x = _); clear e)
    | (with_reducible first
        | refine emit_keep (by assumption) ?_ | refine setMsix_keep (by assumption) ?_
        | refine keep_foldl (fun _ _ _ => ?_) ?_)
    | split)

theorem execD0Enter_keep (_m0 : m .hosts = true) (_m1 : m .msix = true) (_m2 : m .outputs = true) (h : Keep m s X) : KeepRes m s (execD0Enter a0 a1 X) := by
  unfold execD0Enter
  repeat' (with_reducible first
      | assumption | refine releaseHeld_keep (by assumption) (by assumption) ?_
      | refine sendPending_keep (by assumption) (by assumption) ?_ | refine keepRes_next ?_
      | refine keep_mk ?_)

theorem commitRegion_keep (_m0 : m .hosts = true) (_m1 : m .regs = true) (_m2 : m .free = true) (h : Keep m s X) : Keep m s (commitRegion X a1 a2) := by
  unfold commitRegion
  repeat' (first
    | (with_reducible assumption)
    | ((try lift_lets -underBinder); intro x; clear_value (e : x = _); (with_reducible refine keep_let (m := m) (s := s) e ?_ (fun _ => ?_) <;> clear e))
    | (with_reducible first
        | refine setReg_keep (by assumption) ?_ | refine drawFree_keep (by assumption) ?_
        | refine keepSnd_proj ?_)
    | split
    | (with_reducible refine keep_mk ?_))

theorem execDevRegionCommit_keep (_m0 : m .hosts = true) (_m1 : m .regs = true) (_m2 : m .counters = true) (_m3 : m .msix = true) (_m4 : m .events = true) (_m5 : m .waits = true) (_m6 : m .free = true) (_m7 : m .outputs = true) (h : Keep m s X) : KeepRes m s (execDevRegionCommit a0 X) := by
  unfold execDevRegionCommit
  repeat' (first
    | (with_reducible assumption)
    | ((try lift_lets -underBinder); intro x; clear_value (e : x = _); clear e)
    | (with_reducible first
        | refine guarded_keep ?_
        | refine serveWrite_keep (by assumption) (by assumption) (by assumption) (by assumption) (by assumption) (by assumption) ?_ (fun _ _ _ _ _ _ => ?_)
        | refine commitRegion_keep (by assumption) (by assumption) (by assumption) ?_)
    | split)

theorem setArb_keep (_m0 : m .hubs = true) (h : Keep m s X) : Keep m s (setArb X a1 a2) := by
  unfold setArb
  repeat' (first
    | (with_reducible assumption)
    | ((try lift_lets -underBinder); intro x; clear_value (e : x = _); clear e)
    | (with_reducible refine State_setHub_keep (by assumption) ?_))

theorem writeArb_keep (_m0 : m .hubs = true) (h : Keep m s X) : Keep m s (writeArb X a1 a2) := by
  unfold writeArb
  repeat' (first
    | (with_reducible assumption)
    | ((try lift_lets -underBinder); intro x; clear_value (e : x = _); first | (with_reducible refine keep_let (m := m) (s := s) e ?_ (fun _ => ?_) <;> clear e) | clear e)
    | (with_reducible refine setArb_keep (by assumption) ?_)
    | split)

theorem execDevHostArbWrite_keep (_m0 : m .hubs = true) (_m1 : m .regs = true) (_m2 : m .counters = true) (_m3 : m .msix = true) (_m4 : m .events = true) (_m5 : m .waits = true) (_m6 : m .outputs = true) (h : Keep m s X) : KeepRes m s (execDevHostArbWrite a0 X) := by
  unfold execDevHostArbWrite
  repeat' (with_reducible first
      | assumption | refine guarded_keep ?_
      | refine serveWrite_keep (by assumption) (by assumption) (by assumption) (by assumption) (by assumption) (by assumption) ?_ (fun _ _ _ _ _ _ => ?_)
      | refine writeArb_keep (by assumption) ?_)

theorem dbIgnored_keep (_m0 : m .regs = true) (_m1 : m .counters = true) (_m2 : m .msix = true) (_m3 : m .events = true) (_m4 : m .outputs = true) (h : Keep m s X) : Keep m s (dbIgnored X a1) := by
  unfold dbIgnored
  repeat' (with_reducible first
      | assumption
      | refine count_keep (by assumption) (by assumption) (by assumption) (by assumption) (by assumption) ?_)

theorem dbBad_keep (_m0 : m .regs = true) (_m1 : m .counters = true) (_m2 : m .msix = true) (_m3 : m .events = true) (_m4 : m .outputs = true) (h : Keep m s X) : Keep m s (dbBad X a1 a2 a3) := by
  unfold dbBad
  repeat' (with_reducible first
      | assumption
      | refine hedgeViolation_keep (by assumption) (by assumption) (by assumption) (by assumption) (by assumption) ?_
      | refine capture_keep (by assumption) (by assumption) (by assumption) (by assumption) ?_)

theorem sqDoorbell_keep (_m0 : m .hosts = true) (_m1 : m .regs = true) (_m2 : m .counters = true) (_m3 : m .msix = true) (_m4 : m .events = true) (_m5 : m .outputs = true) (h : Keep m s X) : Keep m s (sqDoorbell X a1 a2 a3 a4) := by
  unfold sqDoorbell
  repeat' (first
    | (with_reducible assumption)
    | ((try lift_lets -underBinder); intro x; clear_value (e : x = _); clear e)
    | (with_reducible first
        | refine dbIgnored_keep (by assumption) (by assumption) (by assumption) (by assumption) (by assumption) ?_
        | refine dbBad_keep (by assumption) (by assumption) (by assumption) (by assumption) (by assumption) ?_
        | refine State_setRing_keep (by assumption) ?_)
    | split)

theorem cqDoorbell_keep (_m0 : m .hosts = true) (_m1 : m .regs = true) (_m2 : m .counters = true) (_m3 : m .msix = true) (_m4 : m .events = true) (_m5 : m .outputs = true) (h : Keep m s X) : Keep m s (cqDoorbell X a1 a2 a3 a4) := by
  unfold cqDoorbell
  repeat' (first
    | (with_reducible assumption)
    | ((try lift_lets -underBinder); intro x; clear_value (e : x = _); clear e)
    | (with_reducible first
        | refine dbIgnored_keep (by assumption) (by assumption) (by assumption) (by assumption) (by assumption) ?_
        | refine dbBad_keep (by assumption) (by assumption) (by assumption) (by assumption) (by assumption) ?_
        | refine State_setRing_keep (by assumption) ?_)
    | split)

theorem outDoorbell_keep (_m0 : m .hosts = true) (_m1 : m .regs = true) (_m2 : m .counters = true) (_m3 : m .msix = true) (_m4 : m .events = true) (_m5 : m .outputs = true) (h : Keep m s X) : Keep m s (outDoorbell X a1 a2 a3) := by
  unfold outDoorbell
  repeat' (first
    | (with_reducible assumption)
    | ((try lift_lets -underBinder); intro x; clear_value (e : x = _); clear e)
    | (with_reducible first
        | refine dbIgnored_keep (by assumption) (by assumption) (by assumption) (by assumption) (by assumption) ?_
        | refine dbBad_keep (by assumption) (by assumption) (by assumption) (by assumption) (by assumption) ?_
        | refine State_setRing_keep (by assumption) ?_)
    | split)

theorem execQSqDb_keep (_m0 : m .hosts = true) (_m1 : m .regs = true) (_m2 : m .counters = true) (_m3 : m .msix = true) (_m4 : m .events = true) (_m5 : m .waits = true) (_m6 : m .outputs = true) (h : Keep m s X) : KeepRes m s (execQSqDb a0 X) := by
  unfold execQSqDb
  repeat' (with_reducible first
      | assumption | refine guarded_keep ?_
      | refine serveWrite_keep (by assumption) (by assumption) (by assumption) (by assumption) (by assumption) (by assumption) ?_ (fun _ _ _ _ _ _ => ?_)
      | refine sqDoorbell_keep (by assumption) (by assumption) (by assumption) (by assumption) (by assumption) (by assumption) ?_)

theorem execQCqDb_keep (_m0 : m .hosts = true) (_m1 : m .regs = true) (_m2 : m .counters = true) (_m3 : m .msix = true) (_m4 : m .events = true) (_m5 : m .waits = true) (_m6 : m .outputs = true) (h : Keep m s X) : KeepRes m s (execQCqDb a0 X) := by
  unfold execQCqDb
  repeat' (with_reducible first
      | assumption | refine guarded_keep ?_
      | refine serveWrite_keep (by assumption) (by assumption) (by assumption) (by assumption) (by assumption) (by assumption) ?_ (fun _ _ _ _ _ _ => ?_)
      | refine cqDoorbell_keep (by assumption) (by assumption) (by assumption) (by assumption) (by assumption) (by assumption) ?_)

theorem execQOutDb_keep (_m0 : m .hosts = true) (_m1 : m .regs = true) (_m2 : m .counters = true) (_m3 : m .msix = true) (_m4 : m .events = true) (_m5 : m .waits = true) (_m6 : m .outputs = true) (h : Keep m s X) : KeepRes m s (execQOutDb a0 X) := by
  unfold execQOutDb
  repeat' (with_reducible first
      | assumption | refine guarded_keep ?_
      | refine serveWrite_keep (by assumption) (by assumption) (by assumption) (by assumption) (by assumption) (by assumption) ?_ (fun _ _ _ _ _ _ => ?_)
      | refine outDoorbell_keep (by assumption) (by assumption) (by assumption) (by assumption) (by assumption) (by assumption) ?_)

theorem startRing_keep (_m0 : m .hosts = true) (_m1 : m .regs = true) (_m2 : m .outputs = true) (h : Keep m s X) : Keep m s (startRing X a1 a2) := by
  unfold startRing
  repeat' (first
    | (with_reducible assumption)
    | ((try lift_lets -underBinder); intro x; clear_value (e : x = _); first | (with_reducible refine keep_let (m := m) (s := s) e ?_ (fun _ => ?_) <;> clear e) | clear e)
    | (with_reducible first
        | refine putBit_keep (by assumption) ?_ | refine setReg_keep (by assumption) ?_
        | refine State_setRing_keep (by assumption) ?_
        | refine writeShadow_keep (by assumption) (by assumption) ?_)
    | split)

theorem writeRingCtrl_keep (_m0 : m .hosts = true) (_m1 : m .regs = true) (_m2 : m .outputs = true) (h : Keep m s X) : Keep m s (writeRingCtrl X a1 a2 a3) := by
  unfold writeRingCtrl
  repeat' (first
    | (with_reducible assumption)
    | ((try lift_lets -underBinder); intro x; clear_value (e : x = _); first | (with_reducible refine keep_let (m := m) (s := s) e ?_ (fun _ => ?_) <;> clear e) | clear e)
    | (with_reducible first
        | refine stopRing_keep (by assumption) ?_ | refine setReg_keep (by assumption) ?_
        | refine startRing_keep (by assumption) (by assumption) (by assumption) ?_
        | refine putFld_keep (by assumption) ?_)
    | split)

theorem ringRow_keep (_m0 : m .hosts = true) (_m1 : m .regs = true) (_m2 : m .counters = true) (_m3 : m .msix = true) (_m4 : m .events = true) (_m5 : m .waits = true) (_m6 : m .outputs = true) (h : Keep m s X) : KeepRes m s (ringRow a0 a1 X) := by
  unfold ringRow
  repeat' (with_reducible first
      | assumption | refine guarded_keep ?_
      | refine serveWrite_keep (by assumption) (by assumption) (by assumption) (by assumption) (by assumption) (by assumption) ?_ (fun _ _ _ _ _ _ => ?_)
      | refine writeRingCtrl_keep (by assumption) (by assumption) (by assumption) ?_)

theorem execRingEnable_keep (_m0 : m .hosts = true) (_m1 : m .regs = true) (_m2 : m .counters = true) (_m3 : m .msix = true) (_m4 : m .events = true) (_m5 : m .waits = true) (_m6 : m .outputs = true) (h : Keep m s X) : KeepRes m s (execRingEnable a0 X) := by
  unfold execRingEnable
  repeat' (with_reducible first
      | assumption
      | refine ringRow_keep (by assumption) (by assumption) (by assumption) (by assumption) (by assumption) (by assumption) (by assumption) ?_)

theorem execRingDisable_keep (_m0 : m .hosts = true) (_m1 : m .regs = true) (_m2 : m .counters = true) (_m3 : m .msix = true) (_m4 : m .events = true) (_m5 : m .waits = true) (_m6 : m .outputs = true) (h : Keep m s X) : KeepRes m s (execRingDisable a0 X) := by
  unfold execRingDisable
  repeat' (with_reducible first
      | assumption
      | refine ringRow_keep (by assumption) (by assumption) (by assumption) (by assumption) (by assumption) (by assumption) (by assumption) ?_)

theorem execCqDelayExpiry_keep (_m0 : m .hosts = true) (_m1 : m .msix = true) (_m2 : m .outputs = true) (h : Keep m s X) : KeepRes m s (execCqDelayExpiry a0 X) := by
  unfold execCqDelayExpiry
  repeat' (first
    | (with_reducible assumption)
    | ((try lift_lets -underBinder); intro x; clear_value (e : x = _); first | (with_reducible refine keep_let (m := m) (s := s) e ?_ (fun _ => ?_) <;> clear e) | clear e)
    | (with_reducible first
        | refine State_setRing_keep (by assumption) ?_
        | refine sendVector_keep (by assumption) (by assumption) ?_ | refine keepRes_next ?_)
    | split)

end Sys2Proof.Machine
end

