-- ==== Sys2Proof/Laws/KeepPartRows.lean ====
section
/-!
SUPPORT. What the operations and meanings of Machine/PartRows.lean keep (`Keep`).
-/
set_option Elab.async false
set_option linter.all false
namespace Sys2Proof.Machine

theorem mboxRow_keep (_m0 : m .regs = true) (_m1 : m .counters = true) (_m2 : m .msix = true) (_m3 : m .events = true) (_m4 : m .waits = true) (_m5 : m .outputs = true) (hf2 : ∀ x0, Keep m s x0 → Keep m s (f2 x0)) (h : Keep m s X) : KeepRes m s (mboxRow a0 a1 f2 X) := by
  unfold mboxRow
  repeat' (with_reducible first
      | assumption | apply hf2 | refine guarded_keep ?_
      | refine serveWrite_keep (by assumption) (by assumption) (by assumption) (by assumption) (by assumption) (by assumption) ?_ (fun _ _ _ _ _ _ => ?_)
      | refine mboxGo_keep (by assumption) ?_ (fun _ _ => ?_))

theorem execMbxPartAssign_keep (_m0 : m .regs = true) (_m1 : m .counters = true) (_m2 : m .msix = true) (_m3 : m .events = true) (_m4 : m .waits = true) (_m5 : m .outputs = true) (h : Keep m s X) : KeepRes m s (execMbxPartAssign a0 X) := by
  unfold execMbxPartAssign
  repeat' (with_reducible first
      | assumption
      | refine mboxRow_keep (by assumption) (by assumption) (by assumption) (by assumption) (by assumption) (by assumption) (fun _ _ => ?_) ?_
      | refine requestAssign_keep (by assumption) (by assumption) (by assumption) (by assumption) ?_)

theorem mboxPart_keep (_m0 : m .regs = true) (_m1 : m .msix = true) (_m2 : m .outputs = true) (h : Keep m s X) (hf1 : ∀ x0 x1, Keep m s x0 → Keep m s (f1 x0 x1)) : Keep m s (mboxPart X f1) := by
  unfold mboxPart
  repeat' (first
    | (with_reducible assumption)
    | ((try lift_lets -underBinder); intro x; clear_value (e : x = _); clear e)
    | (with_reducible first
        | apply hf1 | refine mboxDone_keep (by assumption) (by assumption) (by assumption) ?_)
    | split)

theorem execPartRelease_keep (_m0 : m .regs = true) (_m1 : m .counters = true) (_m2 : m .msix = true) (_m3 : m .events = true) (_m4 : m .waits = true) (_m5 : m .outputs = true) (h : Keep m s X) : KeepRes m s (execPartRelease a0 X) := by
  unfold execPartRelease
  repeat' (with_reducible first
      | assumption
      | refine mboxRow_keep (by assumption) (by assumption) (by assumption) (by assumption) (by assumption) (by assumption) (fun _ _ => ?_) ?_
      | refine mboxPart_keep (by assumption) (by assumption) (by assumption) ?_ (fun _ _ _ => ?_)
      | refine requestRelease_keep (by assumption) (by assumption) (by assumption) (by assumption) ?_)

theorem execPartReset_keep (_m0 : m .hosts = true) (_m1 : m .regs = true) (_m2 : m .counters = true) (_m3 : m .msix = true) (_m4 : m .events = true) (_m5 : m .waits = true) (_m6 : m .free = true) (_m7 : m .outputs = true) (h : Keep m s X) : KeepRes m s (execPartReset a0 X) := by
  unfold execPartReset
  repeat' (first
    | (with_reducible first
        | assumption
        | refine mboxRow_keep (by assumption) (by assumption) (by assumption) (by assumption) (by assumption) (by assumption) (fun _ _ => ?_) ?_
        | refine mboxPart_keep (by assumption) (by assumption) (by assumption) ?_ (fun _ _ _ => ?_)
        | refine beginPartReset_keep (by assumption) (by assumption) (by assumption) (by assumption) (by assumption) (by assumption) (by assumption) (by assumption) ?_
        | refine mboxDone_keep (by assumption) (by assumption) (by assumption) ?_)
    | split)

theorem execPartCtrlReset_keep (_m0 : m .hosts = true) (_m1 : m .regs = true) (_m2 : m .counters = true) (_m3 : m .msix = true) (_m4 : m .events = true) (_m5 : m .waits = true) (_m6 : m .free = true) (_m7 : m .outputs = true) (h : Keep m s X) : KeepRes m s (execPartCtrlReset a0 X) := by
  unfold execPartCtrlReset
  repeat' (first
    | (with_reducible first
        | assumption | refine guarded_keep ?_
        | refine serveWrite_keep (by assumption) (by assumption) (by assumption) (by assumption) (by assumption) (by assumption) ?_ (fun _ _ _ _ _ _ => ?_)
        | refine beginPartReset_keep (by assumption) (by assumption) (by assumption) (by assumption) (by assumption) (by assumption) (by assumption) (by assumption) ?_)
    | split)

theorem execWipeDone_keep (_m0 : m .memory = true) (_m1 : m .regs = true) (_m2 : m .msix = true) (_m3 : m .events = true) (_m4 : m .waits = true) (_m5 : m .outputs = true) (h : Keep m s X) : KeepRes m s (execWipeDone a0 X) := by
  unfold execWipeDone
  repeat' (first
    | (with_reducible assumption)
    | ((try lift_lets -underBinder); intro x; clear_value (e : x = _); clear e)
    | (with_reducible first
        | refine releaseDone_keep (by assumption) (by assumption) (by assumption) (by assumption) (by assumption) (by assumption) ?_
        | refine keepRes_next ?_)
    | split)

theorem execResetDone_keep (_m0 : m .memory = true) (_m1 : m .regs = true) (_m2 : m .msix = true) (_m3 : m .waits = true) (_m4 : m .outputs = true) (h : Keep m s X) : KeepRes m s (execResetDone a0 X) := by
  unfold execResetDone
  repeat' (first
    | (with_reducible assumption)
    | ((try lift_lets -underBinder); intro x; clear_value (e : x = _); clear e)
    | (with_reducible first
        | refine partResetDone_keep (by assumption) (by assumption) (by assumption) (by assumption) (by assumption) ?_
        | refine keepRes_next ?_)
    | split)

theorem execFunctionLevelReset_keep (_m0 : m .hosts = true) (_m1 : m .regs = true) (_m2 : m .counters = true) (_m3 : m .msix = true) (_m4 : m .events = true) (_m5 : m .waits = true) (_m6 : m .free = true) (_m7 : m .outputs = true) (h : Keep m s X) : KeepRes m s (execFunctionLevelReset a0 X) := by
  unfold execFunctionLevelReset
  repeat' (first
    | (with_reducible assumption)
    | ((try lift_lets -underBinder); intro x; clear_value (e : x = _); clear e)
    | (with_reducible first
        | refine beginPartReset_keep (by assumption) (by assumption) (by assumption) (by assumption) (by assumption) (by assumption) (by assumption) (by assumption) ?_
        | refine resetVf_keep (by assumption) (by assumption) ?_ | refine keepRes_next ?_)
    | split)

theorem storeColophon_keep (_m0 : m .nvs = true) (_m1 : m .regs = true) (h : Keep m s X) : Keep m s (storeColophon X a1) := by
  unfold storeColophon
  repeat' (first
    | (with_reducible assumption)
    | ((try lift_lets -underBinder); intro x; clear_value (e : x = _); first | (with_reducible refine keep_let (m := m) (s := s) e ?_ (fun _ => ?_) <;> clear e) | (have _ : Nvs := x; subst e))
    | (with_reducible refine showColophon_keep (by assumption) ?_)
    | split
    | (with_reducible refine keep_mk ?_))

theorem execSetTwin_keep (_m0 : m .regs = true) (_m1 : m .counters = true) (_m2 : m .msix = true) (_m3 : m .events = true) (_m4 : m .waits = true) (_m5 : m .outputs = true) (h : Keep m s X) : KeepRes m s (execSetTwin a0 X) := by
  unfold execSetTwin
  repeat' (first
    | (with_reducible assumption)
    | ((try lift_lets -underBinder); intro x; clear_value (e : x = _); clear e)
    | (with_reducible first
        | refine mboxRow_keep (by assumption) (by assumption) (by assumption) (by assumption) (by assumption) (by assumption) (fun _ _ => ?_) ?_
        | refine mboxDone_keep (by assumption) (by assumption) (by assumption) ?_
        | refine keep_mk ?_))

theorem execSetShape_keep (_m0 : m .nvs = true) (_m1 : m .regs = true) (_m2 : m .counters = true) (_m3 : m .msix = true) (_m4 : m .events = true) (_m5 : m .waits = true) (_m6 : m .outputs = true) (h : Keep m s X) : KeepRes m s (execSetShape a0 X) := by
  unfold execSetShape
  repeat' (first
    | (with_reducible assumption)
    | ((try lift_lets -underBinder); intro x; clear_value (e : x = _); clear e)
    | (with_reducible first
        | refine mboxRow_keep (by assumption) (by assumption) (by assumption) (by assumption) (by assumption) (by assumption) (fun _ _ => ?_) ?_
        | refine mboxDone_keep (by assumption) (by assumption) (by assumption) ?_
        | refine storeColophon_keep (by assumption) (by assumption) ?_)
    | split)

theorem execSetEpochBase_keep (_m0 : m .nvs = true) (_m1 : m .regs = true) (_m2 : m .counters = true) (_m3 : m .msix = true) (_m4 : m .events = true) (_m5 : m .waits = true) (_m6 : m .outputs = true) (h : Keep m s X) : KeepRes m s (execSetEpochBase a0 X) := by
  unfold execSetEpochBase
  repeat' (first
    | (with_reducible assumption)
    | ((try lift_lets -underBinder); intro x; clear_value (e : x = _); first | (with_reducible refine keep_let (m := m) (s := s) e ?_ (fun _ => ?_) <;> clear e) | clear e)
    | (with_reducible first
        | refine mboxRow_keep (by assumption) (by assumption) (by assumption) (by assumption) (by assumption) (by assumption) (fun _ _ => ?_) ?_
        | refine mboxDone_keep (by assumption) (by assumption) (by assumption) ?_
        | refine storeColophon_keep (by assumption) (by assumption) ?_ | refine keep_mk ?_))

theorem coverHome_keep (_m0 : m .twins = true) (h : Keep m s X) : Keep m s (coverHome X a1 a2) := by
  unfold coverHome
  repeat' (first
    | (with_reducible assumption)
    | split
    | (with_reducible refine keep_mk ?_))

theorem execTakeover_keep (_m0 : m .twins = true) (_m1 : m .regs = true) (_m2 : m .counters = true) (_m3 : m .msix = true) (_m4 : m .events = true) (_m5 : m .waits = true) (_m6 : m .outputs = true) (h : Keep m s X) : KeepRes m s (execTakeover a0 X) := by
  unfold execTakeover
  repeat' (first
    | (with_reducible assumption)
    | ((try lift_lets -underBinder); intro x; clear_value (e : x = _); clear e)
    | (with_reducible first
        | refine mboxRow_keep (by assumption) (by assumption) (by assumption) (by assumption) (by assumption) (by assumption) (fun _ _ => ?_) ?_
        | refine mboxDone_keep (by assumption) (by assumption) (by assumption) ?_
        | refine coverHome_keep (by assumption) ?_)
    | split)

end Sys2Proof.Machine
end

