-- ==== Sys2Proof/Laws/KeepTwin.lean ====
section
/-!
SUPPORT. What the operations and meanings of Machine/Twin.lean keep (`Keep`).
-/
set_option Elab.async false
set_option linter.all false
namespace Sys2Proof.Machine

theorem hear_keep (_m0 : m .twins = true) (h : Keep m s X) : Keep m s (hear X a1) := by
  unfold hear
  repeat' (with_reducible first | assumption | refine keep_mk ?_)

theorem onMirror_keep (_m0 : m .links = true) (_m1 : m .twins = true) (_m2 : m .regs = true) (_m3 : m .counters = true) (_m4 : m .msix = true) (_m5 : m .events = true) (_m6 : m .outputs = true) (h : Keep m s X) (hf2 : ∀ x0 x1, Keep m s x0 → Keep m s (f2 x0 x1)) : Keep m s (onMirror X a1 f2) := by
  unfold onMirror
  repeat' (with_reducible first
      | assumption | apply hf2
      | refine onMsg_keep (by assumption) (by assumption) (by assumption) (by assumption) (by assumption) (by assumption) ?_ (fun _ _ _ => ?_)
      | refine hear_keep (by assumption) ?_)

theorem onEntry_keep (_m0 : m .links = true) (_m1 : m .twins = true) (_m2 : m .regs = true) (_m3 : m .counters = true) (_m4 : m .msix = true) (_m5 : m .events = true) (_m6 : m .outputs = true) (h : Keep m s X) (hf2 : ∀ x0 x1 x2, Keep m s x0 → Keep m s (f2 x0 x1 x2)) : Keep m s (onEntry X a1 f2) := by
  unfold onEntry
  repeat' (first
    | (with_reducible first
        | assumption | apply hf2
        | refine onMirror_keep (by assumption) (by assumption) (by assumption) (by assumption) (by assumption) (by assumption) (by assumption) ?_ (fun _ _ _ => ?_))
    | split)

theorem warmPlace_keep (_m0 : m .free = true) (h : Keep m s X) : KeepOptSnd m s (warmPlace X a1) := by
  unfold warmPlace
  repeat' (first
    | (with_reducible assumption)
    | ((try lift_lets -underBinder); intro x; clear_value (e : x = _); clear e)
    | (with_reducible first
        | refine drawFree_keep (by assumption) ?_ | refine keepOptSnd_map (fun _ => ?_)
        | refine keepOptSnd_some ?_ | exact keepOptSnd_none
        | refine keepSnd_of ?_ (by with_reducible assumption))
    | split
    | (with_reducible refine keepSnd_mk ?_))

theorem judgeOpen_keep (_m0 : m .free = true) (h : Keep m s X) : KeepSum m s (judgeOpen X a1) := by
  unfold judgeOpen
  repeat' (first
    | (with_reducible assumption)
    | ((try lift_lets -underBinder); intro x; clear_value (e : x = _); clear e)
    | (with_reducible first
        | refine warmPlace_keep (by assumption) ?_ | exact keepSum_inl | refine keepSum_inr ?_
        | refine keepOptSnd_some ?_ | exact keepOptSnd_none
        | refine keepOptSnd_of ?_ (by with_reducible assumption))
    | split
    | (with_reducible refine keepSnd_mk ?_))

theorem keepMirror_keep (_m0 : m .twins = true) (_m1 : m .regs = true) (h : Keep m s X) : Keep m s (keepMirror X a1) := by
  unfold keepMirror
  repeat' (first
    | (with_reducible assumption)
    | ((try lift_lets -underBinder); intro x; clear_value (e : x = _); (with_reducible refine keep_let (m := m) (s := s) e ?_ (fun _ => ?_) <;> clear e))
    | (with_reducible first
        | refine State_setMirror_keep (by assumption) ?_
        | refine refreshTwin_keep (by assumption) (by assumption) ?_
        | refine hear_keep (by assumption) ?_)
    | split
    | (with_reducible refine keep_mk ?_))

theorem execMirrorOpen_keep (_m0 : m .memory = true) (_m1 : m .links = true) (_m2 : m .twins = true) (_m3 : m .regs = true) (_m4 : m .counters = true) (_m5 : m .msix = true) (_m6 : m .events = true) (_m7 : m .free = true) (_m8 : m .outputs = true) (h : Keep m s X) : KeepRes m s (execMirrorOpen X) := by
  unfold execMirrorOpen
  repeat' (first
    | (with_reducible assumption)
    | ((try lift_lets -underBinder); intro x; clear_value (e : x = _); first | (with_reducible refine keep_let (m := m) (s := s) e ?_ (fun _ => ?_) <;> clear e) | clear e)
    | (with_reducible first
        | refine judgeOpen_keep (by assumption) ?_
        | refine freeMirror_keep (by assumption) (by assumption) (by assumption) ?_
        | refine onMirror_keep (by assumption) (by assumption) (by assumption) (by assumption) (by assumption) (by assumption) (by assumption) ?_ (fun _ _ _ => ?_)
        | refine keepMirror_keep (by assumption) (by assumption) ?_
        | refine hear_keep (by assumption) ?_
        | refine sendMsg_keep (by assumption) (by assumption) (by assumption) (by assumption) (by assumption) (by assumption) ?_
        | refine keepSum_of ?_ (by with_reducible assumption) | refine keep_elim ?_ (fun _ => ?_)
        | refine keepRes_next ?_ | refine keepSnd_proj ?_)
    | split
    | (with_reducible refine keep_mk ?_))

theorem execMirrorTokens_keep (_m0 : m .links = true) (_m1 : m .twins = true) (_m2 : m .regs = true) (_m3 : m .counters = true) (_m4 : m .msix = true) (_m5 : m .events = true) (_m6 : m .outputs = true) (h : Keep m s X) : KeepRes m s (execMirrorTokens X) := by
  unfold execMirrorTokens
  repeat' (first
    | (with_reducible assumption)
    | ((try lift_lets -underBinder); intro x; clear_value (e : x = _); clear e)
    | (with_reducible first
        | refine onEntry_keep (by assumption) (by assumption) (by assumption) (by assumption) (by assumption) (by assumption) (by assumption) ?_ (fun _ _ _ _ => ?_)
        | refine State_setMirror_keep (by assumption) ?_ | refine keepRes_next ?_))

theorem storeRow_keep (_m0 : m .memory = true) (_m1 : m .dies = true) (_m2 : m .hosts = true) (_m3 : m .units = true) (_m4 : m .outputs = true) (h : Keep m s X) : Keep m s (storeRow X a1 a2 a3 a4 a5 a6 a7) := by
  unfold storeRow
  repeat' (first
    | (with_reducible assumption)
    | ((try lift_lets -underBinder); intro x; clear_value (e : x = _); clear e)
    | (with_reducible first
        | refine dataWrite_keep (by assumption) (by assumption) ?_
        | refine wakeMem_keep (by assumption) ?_
        | refine regionWrite_keep (by assumption) (by assumption) ?_)
    | split)

theorem applyRows_keep (_m0 : m .memory = true) (_m1 : m .dies = true) (_m2 : m .links = true) (_m3 : m .hosts = true) (_m4 : m .twins = true) (_m5 : m .units = true) (_m6 : m .regs = true) (_m7 : m .counters = true) (_m8 : m .msix = true) (_m9 : m .events = true) (_m10 : m .outputs = true) (h : Keep m s X) : Keep m s (applyRows X a1 a2) := by
  unfold applyRows
  repeat' (first
    | (with_reducible assumption)
    | ((try lift_lets -underBinder); intro x; clear_value (e : x = _); first | (have _ := fun a => x a; subst e; try dsimp -zeta only) | clear e)
    | (with_reducible first
        | refine storeRow_keep (by assumption) (by assumption) (by assumption) (by assumption) (by assumption) ?_
        | refine State_setMirror_keep (by assumption) ?_
        | refine refuseMirror_keep (by assumption) (by assumption) (by assumption) (by assumption) (by assumption) (by assumption) (by assumption) (by assumption) ?_
        | refine keepOpt_foldl (fun _ _ _ => ?_) ?_ | refine keepOpt_bind ?_ (fun _ _ => ?_)
        | refine keepOpt_map (fun _ => ?_) | refine keepOpt_some ?_
        | refine keepOpt_of ?_ (by with_reducible assumption))
    | split)

theorem execMirrorSync_keep (_m0 : m .memory = true) (_m1 : m .dies = true) (_m2 : m .links = true) (_m3 : m .hosts = true) (_m4 : m .twins = true) (_m5 : m .units = true) (_m6 : m .regs = true) (_m7 : m .counters = true) (_m8 : m .msix = true) (_m9 : m .events = true) (_m10 : m .outputs = true) (h : Keep m s X) : KeepRes m s (execMirrorSync X) := by
  unfold execMirrorSync
  repeat' (with_reducible first
      | assumption
      | refine onEntry_keep (by assumption) (by assumption) (by assumption) (by assumption) (by assumption) (by assumption) (by assumption) ?_ (fun _ _ _ _ => ?_)
      | refine applyRows_keep (by assumption) (by assumption) (by assumption) (by assumption) (by assumption) (by assumption) (by assumption) (by assumption) (by assumption) (by assumption) (by assumption) ?_
      | refine keepRes_next ?_)

theorem countRows_keep (_m0 : m .twins = true) (h : Keep m s X) : Keep m s (countRows X a1) := by
  unfold countRows
  repeat' (with_reducible first | assumption | refine keep_mk ?_)

theorem execMirrorRows_keep (_m0 : m .memory = true) (_m1 : m .dies = true) (_m2 : m .links = true) (_m3 : m .hosts = true) (_m4 : m .twins = true) (_m5 : m .units = true) (_m6 : m .regs = true) (_m7 : m .counters = true) (_m8 : m .msix = true) (_m9 : m .events = true) (_m10 : m .outputs = true) (h : Keep m s X) : KeepRes m s (execMirrorRows X) := by
  unfold execMirrorRows
  repeat' (first
    | (with_reducible assumption)
    | ((try lift_lets -underBinder); intro x; clear_value (e : x = _); (with_reducible refine keep_let (m := m) (s := s) e ?_ (fun _ => ?_) <;> clear e))
    | (with_reducible first
        | refine onMirror_keep (by assumption) (by assumption) (by assumption) (by assumption) (by assumption) (by assumption) (by assumption) ?_ (fun _ _ _ => ?_)
        | refine countRows_keep (by assumption) ?_
        | refine applyRows_keep (by assumption) (by assumption) (by assumption) (by assumption) (by assumption) (by assumption) (by assumption) (by assumption) (by assumption) (by assumption) (by assumption) ?_
        | refine keepRes_next ?_)
    | split)

theorem fillTokens_keep (_m0 : m .free = true) (h : Keep m s X) : KeepSnd m s (fillTokens X a1 a2 a3) := by
  unfold fillTokens
  repeat' (first
    | (with_reducible first
        | assumption | exact keepSnd_pair (by with_reducible assumption)
        | refine drawFree_keep (by assumption) ?_ | refine keepSnd_foldl (fun _ _ _ => ?_) ?_
        | refine keepSnd_of ?_ (by with_reducible assumption))
    | split
    | (with_reducible refine keepSnd_mk ?_))

theorem applyStepRec_keep (_m0 : m .twins = true) (_m1 : m .free = true) (h : Keep m s X) : Keep m s (applyStepRec a0 X a2) := by
  unfold applyStepRec
  repeat' (first
    | (with_reducible assumption)
    | ((try lift_lets -underBinder); intro x; clear_value (e : x = _); clear e)
    | (with_reducible first
        | refine fillTokens_keep (by assumption) ?_ | refine State_setMirror_keep (by assumption) ?_
        | refine keepSnd_proj ?_)
    | split)

theorem applyStep_keep (_m0 : m .twins = true) (_m1 : m .free = true) (h : Keep m s X) : Keep m s (applyStep X a1) := by
  unfold applyStep
  repeat' (first
    | (with_reducible assumption)
    | ((try lift_lets -underBinder); intro x; clear_value (e : x = _); first | (with_reducible refine keep_let (m := m) (s := s) e ?_ (fun _ => ?_) <;> clear e) | clear e)
    | (with_reducible first
        | refine applyStepRec_keep (by assumption) (by assumption) ?_
        | refine keep_foldl (fun _ _ _ => ?_) ?_)
    | split
    | (with_reducible refine keep_mk ?_))

theorem execMirrorStep_keep (_m0 : m .links = true) (_m1 : m .twins = true) (_m2 : m .regs = true) (_m3 : m .counters = true) (_m4 : m .msix = true) (_m5 : m .events = true) (_m6 : m .free = true) (_m7 : m .outputs = true) (h : Keep m s X) : KeepRes m s (execMirrorStep X) := by
  unfold execMirrorStep
  repeat' (with_reducible first
      | assumption
      | refine onMsg_keep (by assumption) (by assumption) (by assumption) (by assumption) (by assumption) (by assumption) ?_ (fun _ _ _ => ?_)
      | refine applyStep_keep (by assumption) (by assumption) ?_
      | refine hear_keep (by assumption) ?_ | refine keepRes_next ?_)

theorem execMirrorChange_keep (_m0 : m .links = true) (_m1 : m .twins = true) (_m2 : m .regs = true) (_m3 : m .counters = true) (_m4 : m .msix = true) (_m5 : m .events = true) (_m6 : m .outputs = true) (h : Keep m s X) : KeepRes m s (execMirrorChange X) := by
  unfold execMirrorChange
  repeat' (first
    | (with_reducible assumption)
    | ((try lift_lets -underBinder); intro x; clear_value (e : x = _); clear e)
    | (with_reducible first
        | refine onEntry_keep (by assumption) (by assumption) (by assumption) (by assumption) (by assumption) (by assumption) (by assumption) ?_ (fun _ _ _ _ => ?_)
        | refine State_setMirror_keep (by assumption) ?_ | refine keepRes_next ?_))

theorem execMirrorEnd_keep (_m0 : m .memory = true) (_m1 : m .links = true) (_m2 : m .twins = true) (_m3 : m .regs = true) (_m4 : m .counters = true) (_m5 : m .msix = true) (_m6 : m .events = true) (_m7 : m .outputs = true) (h : Keep m s X) : KeepRes m s (execMirrorEnd X) := by
  unfold execMirrorEnd
  repeat' (with_reducible first
      | assumption
      | refine onEntry_keep (by assumption) (by assumption) (by assumption) (by assumption) (by assumption) (by assumption) (by assumption) ?_ (fun _ _ _ _ => ?_)
      | refine freeMirror_keep (by assumption) (by assumption) (by assumption) ?_
      | refine keepRes_next ?_)

theorem execSyncDone_keep (_m0 : m .links = true) (_m1 : m .twins = true) (_m2 : m .regs = true) (_m3 : m .counters = true) (_m4 : m .msix = true) (_m5 : m .events = true) (_m6 : m .outputs = true) (h : Keep m s X) : KeepRes m s (execSyncDone X) := by
  unfold execSyncDone
  repeat' (first
    | (with_reducible assumption)
    | ((try lift_lets -underBinder); intro x; clear_value (e : x = _); clear e)
    | (with_reducible first
        | refine onEntry_keep (by assumption) (by assumption) (by assumption) (by assumption) (by assumption) (by assumption) (by assumption) ?_ (fun _ _ _ _ => ?_)
        | refine State_setMirror_keep (by assumption) ?_ | refine keepRes_next ?_))

theorem execBeatMsg_keep (_m0 : m .links = true) (_m1 : m .twins = true) (_m2 : m .regs = true) (_m3 : m .counters = true) (_m4 : m .msix = true) (_m5 : m .events = true) (_m6 : m .outputs = true) (h : Keep m s X) : KeepRes m s (execBeatMsg X) := by
  unfold execBeatMsg
  repeat' (with_reducible first
      | assumption
      | refine onMirror_keep (by assumption) (by assumption) (by assumption) (by assumption) (by assumption) (by assumption) (by assumption) ?_ (fun _ _ _ => ?_)
      | refine keepRes_next ?_)

theorem execDeclareMsg_keep (_m0 : m .links = true) (_m1 : m .twins = true) (_m2 : m .regs = true) (_m3 : m .counters = true) (_m4 : m .msix = true) (_m5 : m .events = true) (_m6 : m .outputs = true) (h : Keep m s X) : KeepRes m s (execDeclareMsg X) := by
  unfold execDeclareMsg
  repeat' (first
    | (with_reducible first
        | assumption
        | refine onMirror_keep (by assumption) (by assumption) (by assumption) (by assumption) (by assumption) (by assumption) (by assumption) ?_ (fun _ _ _ => ?_)
        | refine coverHome_keep (by assumption) ?_ | refine keepRes_next ?_)
    | split)

theorem execHandoffMsg_keep (_m0 : m .links = true) (_m1 : m .twins = true) (_m2 : m .regs = true) (_m3 : m .counters = true) (_m4 : m .msix = true) (_m5 : m .events = true) (_m6 : m .outputs = true) (h : Keep m s X) : KeepRes m s (execHandoffMsg X) := by
  unfold execHandoffMsg
  repeat' (first
    | (with_reducible first
        | assumption
        | refine onEntry_keep (by assumption) (by assumption) (by assumption) (by assumption) (by assumption) (by assumption) (by assumption) ?_ (fun _ _ _ _ => ?_)
        | refine coverHome_keep (by assumption) ?_ | refine keepRes_next ?_)
    | split)

theorem execHomeSilent_keep (_m0 : m .twins = true) (_m1 : m .regs = true) (_m2 : m .msix = true) (_m3 : m .events = true) (_m4 : m .outputs = true) (h : Keep m s X) : KeepRes m s (execHomeSilent a0 X) := by
  unfold execHomeSilent
  repeat' (first
    | (with_reducible assumption)
    | ((try lift_lets -underBinder); intro x; clear_value (e : x = _); (with_reducible refine keep_let (m := m) (s := s) e ?_ (fun _ => ?_) <;> clear e))
    | (with_reducible first
        | refine raiseEvent_keep (by assumption) (by assumption) (by assumption) (by assumption) ?_
        | refine setCause_keep (by assumption) (by assumption) (by assumption) ?_
        | refine keepRes_next ?_)
    | split
    | (with_reducible refine keep_mk ?_))

theorem execMirrorTimeout_keep (_m0 : m .galley = true) (_m1 : m .links = true) (_m2 : m .hosts = true) (_m3 : m .commands = true) (_m4 : m .twins = true) (_m5 : m .sources = true) (_m6 : m .regs = true) (_m7 : m .counters = true) (_m8 : m .msix = true) (_m9 : m .events = true) (_m10 : m .outputs = true) (h : Keep m s X) : KeepRes m s (execMirrorTimeout a0 X) := by
  unfold execMirrorTimeout
  repeat' (first
    | (with_reducible assumption)
    | ((try lift_lets -underBinder); intro x; clear_value (e : x = _); clear e)
    | (with_reducible first
        | refine twinLost_keep (by assumption) (by assumption) (by assumption) (by assumption) (by assumption) (by assumption) (by assumption) (by assumption) (by assumption) (by assumption) (by assumption) ?_
        | refine refreshTwin_keep (by assumption) (by assumption) ?_
        | refine dropTwin_keep (by assumption) (by assumption) (by assumption) (by assumption) (by assumption) (by assumption) (by assumption) (by assumption) (by assumption) (by assumption) ?_
        | refine keepRes_next ?_)
    | split
    | (with_reducible refine keep_mk ?_))

theorem execIsolated_keep (_m0 : m .galley = true) (_m1 : m .impos = true) (_m2 : m .steps = true) (_m3 : m .groups = true) (_m4 : m .links = true) (_m5 : m .twins = true) (_m6 : m .units = true) (_m7 : m .regs = true) (_m8 : m .counters = true) (_m9 : m .msix = true) (_m10 : m .events = true) (_m11 : m .free = true) (_m12 : m .outputs = true) (h : Keep m s X) : KeepRes m s (execIsolated X) := by
  unfold execIsolated
  repeat' (first
    | (with_reducible first
        | assumption
        | refine failStop_keep (by assumption) (by assumption) (by assumption) (by assumption) (by assumption) (by assumption) (by assumption) (by assumption) (by assumption) (by assumption) (by assumption) (by assumption) (by assumption) ?_
        | refine keepRes_next ?_)
    | split)

theorem execHandoffSend_keep (_m0 : m .links = true) (_m1 : m .twins = true) (_m2 : m .regs = true) (_m3 : m .counters = true) (_m4 : m .msix = true) (_m5 : m .events = true) (_m6 : m .outputs = true) (h : Keep m s X) : KeepRes m s (execHandoffSend a0 X) := by
  unfold execHandoffSend
  repeat' (first
    | (with_reducible assumption)
    | ((try lift_lets -underBinder); intro x; clear_value (e : x = _); clear e)
    | (with_reducible first
        | refine handoff_keep (by assumption) (by assumption) (by assumption) (by assumption) (by assumption) (by assumption) (by assumption) ?_
        | refine keepRes_next ?_)
    | split)

theorem unsend_keep (_m0 : m .links = true) (h : Keep m s X) : Keep m s (unsend X a1 a2) := by
  unfold unsend
  repeat' (with_reducible first | assumption | refine keep_mk ?_)

theorem execRefuseMsg_keep (_m0 : m .galley = true) (_m1 : m .links = true) (_m2 : m .hosts = true) (_m3 : m .commands = true) (_m4 : m .twins = true) (_m5 : m .sources = true) (_m6 : m .regs = true) (_m7 : m .counters = true) (_m8 : m .msix = true) (_m9 : m .events = true) (_m10 : m .outputs = true) (h : Keep m s X) : KeepRes m s (execRefuseMsg X) := by
  unfold execRefuseMsg
  repeat' (first
    | (with_reducible assumption)
    | ((try lift_lets -underBinder); intro x; clear_value (e : x = _); clear e)
    | (with_reducible first
        | refine onMsg_keep (by assumption) (by assumption) (by assumption) (by assumption) (by assumption) (by assumption) ?_ (fun _ _ _ => ?_)
        | refine refreshTwin_keep (by assumption) (by assumption) ?_
        | refine dropOpens_keep (by assumption) (by assumption) (by assumption) (by assumption) (by assumption) (by assumption) (by assumption) (by assumption) ?_
        | refine unsend_keep (by assumption) ?_ | refine State_setEntry_keep (by assumption) ?_
        | refine dropTwin_keep (by assumption) (by assumption) (by assumption) (by assumption) (by assumption) (by assumption) (by assumption) (by assumption) (by assumption) (by assumption) ?_
        | refine keepRes_next ?_)
    | split)

theorem sendTokens_keep (_m0 : m .links = true) (_m1 : m .regs = true) (_m2 : m .counters = true) (_m3 : m .msix = true) (_m4 : m .events = true) (_m5 : m .outputs = true) (h : Keep m s X) : Keep m s (sendTokens X a1) := by
  unfold sendTokens
  repeat' (first
    | (with_reducible assumption)
    | ((try lift_lets -underBinder); intro x; clear_value (e : x = _); clear e)
    | (with_reducible first
        | refine sendMirror_keep (by assumption) (by assumption) (by assumption) (by assumption) (by assumption) (by assumption) ?_
        | refine keep_foldl (fun _ _ _ => ?_) ?_ | refine keepSnd_proj ?_))

theorem sendSync_keep (_m0 : m .links = true) (_m1 : m .regs = true) (_m2 : m .counters = true) (_m3 : m .msix = true) (_m4 : m .events = true) (_m5 : m .outputs = true) (h : Keep m s X) : Keep m s (sendSync X a1) := by
  unfold sendSync
  repeat' (first
    | (with_reducible assumption)
    | ((try lift_lets -underBinder); intro x; clear_value (e : x = _); first | (with_reducible refine keep_let (m := m) (s := s) e ?_ (fun _ => ?_) <;> clear e) | clear e)
    | (with_reducible first
        | refine sendTokens_keep (by assumption) (by assumption) (by assumption) (by assumption) (by assumption) (by assumption) ?_
        | refine sendMirror_keep (by assumption) (by assumption) (by assumption) (by assumption) (by assumption) (by assumption) ?_
        | refine keep_foldl (fun _ _ _ => ?_) ?_ | refine keepSnd_proj ?_))

theorem pumpSync_keep (_m0 : m .links = true) (_m1 : m .twins = true) (_m2 : m .regs = true) (_m3 : m .counters = true) (_m4 : m .msix = true) (_m5 : m .events = true) (_m6 : m .outputs = true) (h : Keep m s X) : Keep m s (pumpSync X) := by
  unfold pumpSync
  repeat' (first
    | (with_reducible assumption)
    | ((try lift_lets -underBinder); intro x; clear_value (e : x = _); clear e)
    | (with_reducible first
        | refine sendSync_keep (by assumption) (by assumption) (by assumption) (by assumption) (by assumption) (by assumption) ?_
        | refine keep_foldl (fun _ _ _ => ?_) ?_)
    | split
    | (with_reducible refine keep_mk ?_))

theorem openAccepted_keep (_m0 : m .hosts = true) (_m1 : m .twins = true) (_m2 : m .sources = true) (_m3 : m .regs = true) (_m4 : m .counters = true) (_m5 : m .msix = true) (_m6 : m .events = true) (_m7 : m .outputs = true) (h : Keep m s X) : Keep m s (openAccepted X a1) := by
  unfold openAccepted
  repeat' (first
    | (with_reducible assumption)
    | ((try lift_lets -underBinder); intro x; clear_value (e : x = _); first | (with_reducible refine keep_let (m := m) (s := s) e ?_ (fun _ => ?_) <;> clear e) | clear e)
    | (with_reducible first
        | refine refreshTwin_keep (by assumption) (by assumption) ?_
        | refine openDone_keep (by assumption) (by assumption) (by assumption) (by assumption) (by assumption) (by assumption) (by assumption) ?_
        | refine keep_foldl (fun _ _ _ => ?_) ?_)
    | split
    | (with_reducible refine keep_mk ?_))

theorem handoffDone_keep (_m0 : m .twins = true) (_m1 : m .regs = true) (_m2 : m .counters = true) (_m3 : m .msix = true) (_m4 : m .events = true) (_m5 : m .outputs = true) (h : Keep m s X) : Keep m s (handoffDone X a1) := by
  unfold handoffDone
  repeat' (first
    | (with_reducible assumption)
    | ((try lift_lets -underBinder); intro x; clear_value (e : x = _); first | (with_reducible refine keep_let (m := m) (s := s) e ?_ (fun _ => ?_) <;> clear e) | clear e)
    | (with_reducible refine count_keep (by assumption) (by assumption) (by assumption) (by assumption) (by assumption) ?_)
    | split
    | (with_reducible refine keep_mk ?_))

theorem mirrorAcked_keep (_m0 : m .galley = true) (_m1 : m .hosts = true) (_m2 : m .twins = true) (_m3 : m .sources = true) (_m4 : m .regs = true) (_m5 : m .counters = true) (_m6 : m .msix = true) (_m7 : m .events = true) (_m8 : m .outputs = true) (h : Keep m s X) : Keep m s (mirrorAcked X a1) := by
  unfold mirrorAcked
  repeat' (first
    | (with_reducible assumption)
    | ((try lift_lets -underBinder); intro x; clear_value (e : x = _); clear e)
    | (with_reducible first
        | refine openAccepted_keep (by assumption) (by assumption) (by assumption) (by assumption) (by assumption) (by assumption) (by assumption) (by assumption) ?_
        | refine State_setEntry_keep (by assumption) ?_
        | refine handoffDone_keep (by assumption) (by assumption) (by assumption) (by assumption) (by assumption) (by assumption) ?_)
    | split
    | (with_reducible refine keep_mk ?_))

theorem execAckMsg_keep (_m0 : m .galley = true) (_m1 : m .links = true) (_m2 : m .hosts = true) (_m3 : m .twins = true) (_m4 : m .sources = true) (_m5 : m .regs = true) (_m6 : m .counters = true) (_m7 : m .msix = true) (_m8 : m .events = true) (_m9 : m .outputs = true) (h : Keep m s X) : KeepRes m s (execAckMsg a0 X) := by
  unfold execAckMsg
  repeat' (first
    | (with_reducible assumption)
    | ((try lift_lets -underBinder); intro x; clear_value (e : x = _); (with_reducible refine keep_let (m := m) (s := s) e ?_ (fun _ => ?_) <;> clear e))
    | (with_reducible first
        | refine onMsg_keep (by assumption) (by assumption) (by assumption) (by assumption) (by assumption) (by assumption) ?_ (fun _ _ _ => ?_)
        | refine pumpSync_keep (by assumption) (by assumption) (by assumption) (by assumption) (by assumption) (by assumption) (by assumption) ?_
        | refine mirrorAcked_keep (by assumption) (by assumption) (by assumption) (by assumption) (by assumption) (by assumption) (by assumption) (by assumption) (by assumption) ?_
        | refine keepRes_next ?_)
    | split
    | (with_reducible refine keep_mk ?_))

end Sys2Proof.Machine
end

