-- ==== Sys2Proof/Laws/KeepViews.lean ====
section
/-!
SUPPORT. What the operations and meanings of Machine/Views.lean keep (`Keep`).
-/
set_option Elab.async false
set_option linter.all false
namespace Sys2Proof.Machine

theorem latchWindow_keep (_m0 : m .latches = true) (h : Keep m s X) : Keep m s (latchWindow X a1 a2 a3 a4 a5 a6) := by
  unfold latchWindow
  repeat' (first
    | (with_reducible assumption)
    | ((try lift_lets -underBinder); intro x; clear_value (e : x = _); clear e)
    | (with_reducible refine setLatch_keep (by assumption) ?_))

theorem execRefusedRead_keep (_m0 : m .regs = true) (_m1 : m .counters = true) (_m2 : m .msix = true) (_m3 : m .events = true) (_m4 : m .outputs = true) (h : Keep m s X) : KeepRes m s (execRefusedRead a0 X) := by
  unfold execRefusedRead
  repeat' (first
    | (with_reducible first
        | assumption
        | refine refuseAccess_keep (by assumption) (by assumption) (by assumption) (by assumption) (by assumption) ?_
        | refine keepRes_next ?_)
    | split)

end Sys2Proof.Machine
end

