-- ==== Sys2Proof/Laws/KeepCounters.lean ====
section
/-!
SUPPORT. What the operations and meanings of Machine/Counters.lean keep (`Keep`).
-/
set_option Elab.async false
set_option linter.all false
namespace Sys2Proof.Machine

theorem writeCounter_keep (_m0 : m .regs = true) (_m1 : m .counters = true) (_m2 : m .msix = true) (_m3 : m .events = true) (_m4 : m .outputs = true) (h : Keep m s X) : Keep m s (writeCounter X a1 a2 a3) := by
  unfold writeCounter
  repeat' (first
    | (with_reducible assumption)
    | ((try lift_lets -underBinder); intro x; clear_value (e : x = _); clear e)
    | (with_reducible first
        | refine raiseEvent_keep (by assumption) (by assumption) (by assumption) (by assumption) ?_
        | refine setCnt_keep (by assumption) ?_)
    | split)

theorem snapAll_keep (_m0 : m .counters = true) (h : Keep m s X) : Keep m s (snapAll X a1) := by
  unfold snapAll
  repeat' (with_reducible first | assumption | refine keep_mk ?_)

theorem loadSnap_keep (_m0 : m .counters = true) (h : Keep m s X) : Keep m s (loadSnap X a1 a2) := by
  unfold loadSnap
  repeat' (with_reducible first | assumption | refine keep_mk ?_)

theorem snapGalley_keep (_m0 : m .counters = true) (h : Keep m s X) : Keep m s (snapGalley X) := by
  unfold snapGalley
  repeat' (with_reducible first | assumption | refine loadSnap_keep (by assumption) ?_)

theorem snapRest_keep (_m0 : m .counters = true) (h : Keep m s X) : Keep m s (snapRest X a1 a2) := by
  unfold snapRest
  repeat' (first
    | (with_reducible first
        | assumption | refine snapGalley_keep (by assumption) ?_
        | refine loadSnap_keep (by assumption) ?_ | refine keep_foldl (fun _ _ _ => ?_) ?_)
    | split)

theorem snapBlock_keep (_m0 : m .regs = true) (_m1 : m .counters = true) (h : Keep m s X) : Keep m s (snapBlock X a1 a2) := by
  unfold snapBlock
  repeat' (with_reducible first
      | assumption | refine setReg_keep (by assumption) ?_ | refine snapRest_keep (by assumption) ?_
      | refine snapAll_keep (by assumption) ?_)

theorem triggerSnap_keep (_m0 : m .regs = true) (_m1 : m .counters = true) (_m2 : m .msix = true) (_m3 : m .outputs = true) (h : Keep m s X) : Keep m s (triggerSnap X a1) := by
  unfold triggerSnap
  repeat' (first
    | (with_reducible first
        | assumption | refine setCause_keep (by assumption) (by assumption) (by assumption) ?_
        | refine snapBlock_keep (by assumption) (by assumption) ?_)
    | split)

theorem captureGroup_keep (_m0 : m .regs = true) (_m1 : m .counters = true) (h : Keep m s X) : Keep m s (captureGroup X a1 a2 a3 a4) := by
  unfold captureGroup
  repeat' (first
    | (with_reducible assumption)
    | ((try lift_lets -underBinder); intro x; clear_value (e : x = _); clear e)
    | (with_reducible first
        | refine loadSnap_keep (by assumption) ?_ | refine snapAll_keep (by assumption) ?_
        | refine snapBlock_keep (by assumption) (by assumption) ?_
        | refine keep_foldl (fun _ _ _ => ?_) ?_)
    | split)

theorem clearGroup_keep (_m0 : m .counters = true) (h : Keep m s X) : Keep m s (clearGroup X a1) := by
  unfold clearGroup
  repeat' (first
    | (with_reducible assumption)
    | ((try lift_lets -underBinder); intro x; clear_value (e : x = _); clear e)
    | (with_reducible refine keep_mk ?_))

theorem captureAll_keep (_m0 : m .regs = true) (_m1 : m .counters = true) (h : Keep m s X) : Keep m s (captureAll X a1 a2 a3) := by
  unfold captureAll
  repeat' (with_reducible first
      | assumption | refine captureGroup_keep (by assumption) (by assumption) ?_
      | refine keep_foldl (fun _ _ _ => ?_) ?_)

theorem snapCtrl_keep (_m0 : m .regs = true) (_m1 : m .waits = true) (h : Keep m s X) : Keep m s (snapCtrl X a1) := by
  unfold snapCtrl
  repeat' (first
    | (with_reducible assumption)
    | ((try lift_lets -underBinder); intro x; clear_value (e : x = _); first | (with_reducible refine keep_let (m := m) (s := s) e ?_ (fun _ => ?_) <;> clear e) | clear e)
    | (with_reducible first
        | refine setReg_keep (by assumption) ?_ | refine putBit_keep (by assumption) ?_)
    | split
    | (with_reducible refine keep_mk ?_))

theorem execSnapshotCapture_keep (_m0 : m .regs = true) (_m1 : m .counters = true) (_m2 : m .msix = true) (_m3 : m .waits = true) (_m4 : m .outputs = true) (h : Keep m s X) : KeepRes m s (execSnapshotCapture X) := by
  unfold execSnapshotCapture
  repeat' (first
    | (with_reducible assumption)
    | ((try lift_lets -underBinder); intro x; clear_value (e : x = _); first | (with_reducible refine keep_let (m := m) (s := s) e ?_ (fun _ => ?_) <;> clear e) | clear e)
    | (with_reducible first
        | refine clearGroup_keep (by assumption) ?_
        | refine captureGroup_keep (by assumption) (by assumption) ?_
        | refine setCause_keep (by assumption) (by assumption) (by assumption) ?_
        | refine putBit_keep (by assumption) ?_ | refine keep_foldl (fun _ _ _ => ?_) ?_
        | refine keepRes_next ?_)
    | split
    | (with_reducible refine keep_mk ?_))

theorem execAutoSnapshot_keep (_m0 : m .regs = true) (_m1 : m .counters = true) (h : Keep m s X) : KeepRes m s (execAutoSnapshot X) := by
  unfold execAutoSnapshot
  repeat' (first
    | (with_reducible assumption)
    | ((try lift_lets -underBinder); intro x; clear_value (e : x = _); clear e)
    | (with_reducible first
        | refine captureAll_keep (by assumption) (by assumption) ?_ | refine keepRes_next ?_)
    | split)

theorem execOccupancyTick_keep (_m0 : m .regs = true) (_m1 : m .counters = true) (_m2 : m .msix = true) (_m3 : m .events = true) (_m4 : m .outputs = true) (h : Keep m s X) : KeepRes m s (execOccupancyTick X) := by
  unfold execOccupancyTick
  repeat' (first
    | (with_reducible assumption)
    | ((try lift_lets -underBinder); intro x; clear_value (e : x = _); clear e)
    | (with_reducible first
        | refine count_keep (by assumption) (by assumption) (by assumption) (by assumption) (by assumption) ?_
        | refine keep_foldl (fun _ _ _ => ?_) ?_ | refine keepRes_next ?_)
    | split)

end Sys2Proof.Machine
end

