-- ==== Sys2Proof/Laws/KeepEventLog.lean ====
section
/-!
SUPPORT. What the operations and meanings of Machine/EventLog.lean keep (`Keep`).
-/
set_option Elab.async false
set_option linter.all false
namespace Sys2Proof.Machine

theorem appendLog_keep (_m0 : m .nvs = true) (h : Keep m s X) : Keep m s (appendLog X a1) := by
  unfold appendLog
  repeat' (first
    | (with_reducible assumption)
    | ((try lift_lets -underBinder); intro x; clear_value (e : x = _); first | (have _ : Nvs := x; subst e) | clear e)
    | (with_reducible refine keep_mk ?_))

theorem putMirror_keep (_m0 : m .hubs = true) (h : Keep m s X) : Keep m s (putMirror X a1 a2) := by
  unfold putMirror
  repeat' (first
    | (with_reducible assumption)
    | ((try lift_lets -underBinder); intro x; clear_value (e : x = _); clear e)
    | (with_reducible refine State_setHub_keep (by assumption) ?_))

theorem mirrorOrGasp_keep (_m0 : m .hubs = true) (_m1 : m .regs = true) (_m2 : m .msix = true) (_m3 : m .outputs = true) (h : Keep m s X) : Keep m s (mirrorOrGasp a0 a1 X a3) := by
  unfold mirrorOrGasp
  repeat' (first
    | (with_reducible first
        | assumption | refine putMirror_keep (by assumption) ?_
        | refine lastGasp_keep (by assumption) (by assumption) (by assumption) ?_)
    | split)

theorem noteMirror_keep (_m0 : m .hubs = true) (h : Keep m s X) : Keep m s (noteMirror a0 X a2) := by
  unfold noteMirror
  repeat' (first
    | (with_reducible assumption)
    | ((try lift_lets -underBinder); intro x; clear_value (e : x = _); clear e)
    | (with_reducible refine State_setHub_keep (by assumption) ?_)
    | split)

theorem execEventRecordWrite_keep (_m0 : m .nvs = true) (_m1 : m .hubs = true) (_m2 : m .regs = true) (_m3 : m .msix = true) (_m4 : m .events = true) (_m5 : m .outputs = true) (h : Keep m s X) : KeepRes m s (execEventRecordWrite a0 a1 X) := by
  unfold execEventRecordWrite
  repeat' (first
    | (with_reducible assumption)
    | ((try lift_lets -underBinder); intro x; clear_value (e : x = _); first | (with_reducible refine keep_let (m := m) (s := s) e ?_ (fun _ => ?_) <;> clear e) | clear e)
    | (with_reducible first
        | refine noteMirror_keep (by assumption) ?_ | refine appendLog_keep (by assumption) ?_
        | refine mirrorOrGasp_keep (by assumption) (by assumption) (by assumption) (by assumption) ?_
        | refine setCause_keep (by assumption) (by assumption) (by assumption) ?_
        | refine keepRes_next ?_)
    | split
    | (with_reducible refine keep_mk ?_))

theorem execEvtSummary_keep (_m0 : m .events = true) (h : Keep m s X) : KeepRes m s (execEvtSummary X) := by
  unfold execEvtSummary
  repeat' (first
    | (with_reducible assumption)
    | ((try lift_lets -underBinder); intro x; clear_value (e : x = _); first | (with_reducible refine keep_let (m := m) (s := s) e ?_ (fun _ => ?_) <;> clear e) | clear e)
    | (with_reducible first
        | refine enqueueEvent_keep (by assumption) ?_ | refine keepRes_next ?_)
    | split
    | (with_reducible refine keep_mk ?_))

theorem execLogDegraded_keep (_m0 : m .regs = true) (_m1 : m .msix = true) (_m2 : m .outputs = true) (h : Keep m s X) : KeepRes m s (execLogDegraded X) := by
  unfold execLogDegraded
  repeat' (first
    | (with_reducible first
        | assumption | refine setCause_keep (by assumption) (by assumption) (by assumption) ?_
        | refine putBit_keep (by assumption) ?_ | refine keepRes_next ?_)
    | split)

theorem adoptLease_keep (_m0 : m .nvs = true) (_m1 : m .regs = true) (_m2 : m .msix = true) (_m3 : m .events = true) (_m4 : m .outputs = true) (h : Keep m s X) : Keep m s (adoptLease X a1) := by
  unfold adoptLease
  repeat' (first
    | (with_reducible assumption)
    | ((try lift_lets -underBinder); intro x; clear_value (e : x = _); first | (with_reducible refine keep_let (m := m) (s := s) e ?_ (fun _ => ?_) <;> clear e) | clear e)
    | (with_reducible first
        | refine State_setLease_keep (by assumption) ?_ | refine mcWait_keep (by assumption) ?_
        | refine setEpochSeen_keep (by assumption) ?_ | refine setMc_keep (by assumption) ?_
        | refine devEvent_keep (by assumption) (by assumption) (by assumption) (by assumption) ?_)
    | split)

theorem reachNvs_keep (_m0 : m .regs = true) (h : Keep m s X) : Keep m s (reachNvs X) := by
  unfold reachNvs
  repeat' (first
    | (with_reducible first
        | assumption | refine putBit_keep (by assumption) ?_
        | refine keep_foldl (fun _ _ _ => ?_) ?_)
    | split)

theorem execLogResumed_keep (_m0 : m .nvs = true) (_m1 : m .regs = true) (_m2 : m .msix = true) (_m3 : m .events = true) (_m4 : m .outputs = true) (h : Keep m s X) : KeepRes m s (execLogResumed X) := by
  unfold execLogResumed
  repeat' (first
    | (with_reducible assumption)
    | ((try lift_lets -underBinder); intro x; clear_value (e : x = _); first | (with_reducible refine keep_let (m := m) (s := s) e ?_ (fun _ => ?_) <;> clear e) | (have _ : Nvs := x; subst e) | clear e)
    | (with_reducible first
        | refine appendLog_keep (by assumption) ?_ | refine reachNvs_keep (by assumption) ?_
        | refine putBit_keep (by assumption) ?_
        | refine ledgerWrite_keep (by assumption) (by assumption) ?_
        | refine adoptLease_keep (by assumption) (by assumption) (by assumption) (by assumption) (by assumption) ?_
        | refine devEvent_keep (by assumption) (by assumption) (by assumption) (by assumption) ?_
        | refine keep_foldl (fun _ _ _ => ?_) ?_ | refine keepRes_next ?_)
    | split
    | (with_reducible refine keep_mk ?_))

end Sys2Proof.Machine
end

