-- ==== Sys2Proof/Laws/KeepStart.lean ====
section
/-!
SUPPORT. What the operations and meanings of Machine/Start.lean keep (`Keep`).
-/
set_option Elab.async false
set_option linter.all false
namespace Sys2Proof.Machine

theorem resetCtrl_keep (_m0 : m .memory = true) (_m1 : m .galley = true) (_m2 : m .tensors = true) (_m3 : m .moves = true) (_m4 : m .impos = true) (_m5 : m .steps = true) (_m6 : m .groups = true) (_m7 : m .halves = true) (_m8 : m .dies = true) (_m9 : m .nvs = true) (_m10 : m .ports = true) (_m11 : m .links = true) (_m12 : m .hosts = true) (_m13 : m .commands = true) (_m14 : m .twins = true) (_m15 : m .units = true) (_m16 : m .time = true) (_m17 : m .hubs = true) (_m18 : m .sources = true) (_m19 : m .regs = true) (_m20 : m .counters = true) (_m21 : m .latches = true) (_m22 : m .msix = true) (_m23 : m .events = true) (_m24 : m .waits = true) (_m25 : m .free = true) (_m26 : m .outputs = true) (h : Keep m s X) : Keep m s (resetCtrl X a1) := by
  unfold resetCtrl
  repeat' (first
    | (with_reducible first
        | assumption
        | refine requestCold_keep (by assumption) (by assumption) (by assumption) (by assumption) (by assumption) (by assumption) (by assumption) (by assumption) (by assumption) (by assumption) (by assumption) (by assumption) (by assumption) (by assumption) (by assumption) (by assumption) (by assumption) (by assumption) (by assumption) (by assumption) (by assumption) (by assumption) (by assumption) (by assumption) (by assumption) ?_
        | refine requestHalf_keep (by assumption) (by assumption) (by assumption) (by assumption) (by assumption) (by assumption) (by assumption) (by assumption) (by assumption) (by assumption) (by assumption) (by assumption) (by assumption) (by assumption) (by assumption) (by assumption) (by assumption) (by assumption) (by assumption) (by assumption) (by assumption) (by assumption) (by assumption) ?_
        | refine requestWarm_keep (by assumption) (by assumption) (by assumption) (by assumption) (by assumption) (by assumption) (by assumption) (by assumption) (by assumption) (by assumption) (by assumption) (by assumption) (by assumption) (by assumption) (by assumption) (by assumption) (by assumption) (by assumption) (by assumption) (by assumption) (by assumption) (by assumption) (by assumption) (by assumption) (by assumption) (by assumption) (by assumption) ?_)
    | split)

theorem resetRow_keep (_m0 : m .memory = true) (_m1 : m .galley = true) (_m2 : m .tensors = true) (_m3 : m .moves = true) (_m4 : m .impos = true) (_m5 : m .steps = true) (_m6 : m .groups = true) (_m7 : m .halves = true) (_m8 : m .dies = true) (_m9 : m .nvs = true) (_m10 : m .ports = true) (_m11 : m .links = true) (_m12 : m .hosts = true) (_m13 : m .commands = true) (_m14 : m .twins = true) (_m15 : m .units = true) (_m16 : m .time = true) (_m17 : m .hubs = true) (_m18 : m .sources = true) (_m19 : m .regs = true) (_m20 : m .counters = true) (_m21 : m .latches = true) (_m22 : m .msix = true) (_m23 : m .events = true) (_m24 : m .waits = true) (_m25 : m .free = true) (_m26 : m .outputs = true) (h : Keep m s X) : KeepRes m s (resetRow a0 a1 X) := by
  unfold resetRow
  repeat' (with_reducible first
      | assumption | refine guarded_keep ?_
      | refine serveWrite_keep (by assumption) (by assumption) (by assumption) (by assumption) (by assumption) (by assumption) ?_ (fun _ _ _ _ _ _ => ?_)
      | refine resetCtrl_keep (by assumption) (by assumption) (by assumption) (by assumption) (by assumption) (by assumption) (by assumption) (by assumption) (by assumption) (by assumption) (by assumption) (by assumption) (by assumption) (by assumption) (by assumption) (by assumption) (by assumption) (by assumption) (by assumption) (by assumption) (by assumption) (by assumption) (by assumption) (by assumption) (by assumption) (by assumption) (by assumption) ?_)

theorem execColdReset_keep (_m0 : m .memory = true) (_m1 : m .galley = true) (_m2 : m .tensors = true) (_m3 : m .moves = true) (_m4 : m .impos = true) (_m5 : m .steps = true) (_m6 : m .groups = true) (_m7 : m .halves = true) (_m8 : m .dies = true) (_m9 : m .nvs = true) (_m10 : m .ports = true) (_m11 : m .links = true) (_m12 : m .hosts = true) (_m13 : m .commands = true) (_m14 : m .twins = true) (_m15 : m .units = true) (_m16 : m .time = true) (_m17 : m .hubs = true) (_m18 : m .sources = true) (_m19 : m .regs = true) (_m20 : m .counters = true) (_m21 : m .latches = true) (_m22 : m .msix = true) (_m23 : m .events = true) (_m24 : m .waits = true) (_m25 : m .free = true) (_m26 : m .outputs = true) (h : Keep m s X) : KeepRes m s (execColdReset a0 X) := by
  unfold execColdReset
  repeat' (with_reducible first
      | assumption
      | refine resetRow_keep (by assumption) (by assumption) (by assumption) (by assumption) (by assumption) (by assumption) (by assumption) (by assumption) (by assumption) (by assumption) (by assumption) (by assumption) (by assumption) (by assumption) (by assumption) (by assumption) (by assumption) (by assumption) (by assumption) (by assumption) (by assumption) (by assumption) (by assumption) (by assumption) (by assumption) (by assumption) (by assumption) ?_)

theorem execHalfReset_keep (_m0 : m .memory = true) (_m1 : m .galley = true) (_m2 : m .tensors = true) (_m3 : m .moves = true) (_m4 : m .impos = true) (_m5 : m .steps = true) (_m6 : m .groups = true) (_m7 : m .halves = true) (_m8 : m .dies = true) (_m9 : m .nvs = true) (_m10 : m .ports = true) (_m11 : m .links = true) (_m12 : m .hosts = true) (_m13 : m .commands = true) (_m14 : m .twins = true) (_m15 : m .units = true) (_m16 : m .time = true) (_m17 : m .hubs = true) (_m18 : m .sources = true) (_m19 : m .regs = true) (_m20 : m .counters = true) (_m21 : m .latches = true) (_m22 : m .msix = true) (_m23 : m .events = true) (_m24 : m .waits = true) (_m25 : m .free = true) (_m26 : m .outputs = true) (h : Keep m s X) : KeepRes m s (execHalfReset a0 X) := by
  unfold execHalfReset
  repeat' (with_reducible first
      | assumption
      | refine resetRow_keep (by assumption) (by assumption) (by assumption) (by assumption) (by assumption) (by assumption) (by assumption) (by assumption) (by assumption) (by assumption) (by assumption) (by assumption) (by assumption) (by assumption) (by assumption) (by assumption) (by assumption) (by assumption) (by assumption) (by assumption) (by assumption) (by assumption) (by assumption) (by assumption) (by assumption) (by assumption) (by assumption) ?_)

theorem execWarmReset_keep (_m0 : m .memory = true) (_m1 : m .galley = true) (_m2 : m .tensors = true) (_m3 : m .moves = true) (_m4 : m .impos = true) (_m5 : m .steps = true) (_m6 : m .groups = true) (_m7 : m .halves = true) (_m8 : m .dies = true) (_m9 : m .nvs = true) (_m10 : m .ports = true) (_m11 : m .links = true) (_m12 : m .hosts = true) (_m13 : m .commands = true) (_m14 : m .twins = true) (_m15 : m .units = true) (_m16 : m .time = true) (_m17 : m .hubs = true) (_m18 : m .sources = true) (_m19 : m .regs = true) (_m20 : m .counters = true) (_m21 : m .latches = true) (_m22 : m .msix = true) (_m23 : m .events = true) (_m24 : m .waits = true) (_m25 : m .free = true) (_m26 : m .outputs = true) (h : Keep m s X) : KeepRes m s (execWarmReset a0 X) := by
  unfold execWarmReset
  repeat' (with_reducible first
      | assumption
      | refine resetRow_keep (by assumption) (by assumption) (by assumption) (by assumption) (by assumption) (by assumption) (by assumption) (by assumption) (by assumption) (by assumption) (by assumption) (by assumption) (by assumption) (by assumption) (by assumption) (by assumption) (by assumption) (by assumption) (by assumption) (by assumption) (by assumption) (by assumption) (by assumption) (by assumption) (by assumption) (by assumption) (by assumption) ?_)

theorem countFromPowerGood_keep (_m0 : m .time = true) (h : Keep m s X) : Keep m s (countFromPowerGood X a1) := by
  unfold countFromPowerGood
  repeat' (first
    | (with_reducible assumption)
    | ((try lift_lets -underBinder); intro x; clear_value (e : x = _); clear e)
    | split
    | (with_reducible refine keep_mk ?_))

theorem execHeathPowerGood_keep (_m0 : m .galley = true) (_m1 : m .impos = true) (_m2 : m .steps = true) (_m3 : m .groups = true) (_m4 : m .halves = true) (_m5 : m .nvs = true) (_m6 : m .ports = true) (_m7 : m .links = true) (_m8 : m .twins = true) (_m9 : m .units = true) (_m10 : m .time = true) (_m11 : m .regs = true) (_m12 : m .counters = true) (_m13 : m .msix = true) (_m14 : m .events = true) (_m15 : m .free = true) (_m16 : m .outputs = true) (h : Keep m s X) : KeepRes m s (execHeathPowerGood a0 a1 a2 X) := by
  unfold execHeathPowerGood
  repeat' (first
    | (with_reducible assumption)
    | ((try lift_lets -underBinder); intro x; clear_value (e : x = _); first | (with_reducible refine keep_let (m := m) (s := s) e ?_ (fun _ => ?_) <;> clear e) | clear e)
    | (with_reducible first
        | refine refreshRails_keep (by assumption) ?_
        | refine holdRailSeq_keep (by assumption) (by assumption) (by assumption) (by assumption) (by assumption) ?_
        | refine ledgerWrite_keep (by assumption) (by assumption) ?_
        | refine State_setHalf_keep (by assumption) ?_
        | refine countFromPowerGood_keep (by assumption) ?_
        | refine endStep_keep (by assumption) (by assumption) (by assumption) (by assumption) (by assumption) (by assumption) (by assumption) (by assumption) (by assumption) (by assumption) (by assumption) (by assumption) (by assumption) (by assumption) (by assumption) (by assumption) ?_
        | refine keepRes_next ?_)
    | split)

theorem flushLedger_keep (_m0 : m .nvs = true) (_m1 : m .regs = true) (h : Keep m s X) : Keep m s (flushLedger X) := by
  unfold flushLedger
  repeat' (first
    | (with_reducible assumption)
    | ((try lift_lets -underBinder); intro x; clear_value (e : x = _); (have _ : Nvs := x; subst e))
    | (with_reducible first
        | refine ledgerWrite_keep (by assumption) (by assumption) ?_
        | refine keep_foldl (fun _ _ _ => ?_) ?_ | refine keep_mk ?_))

theorem nvsAlternate_keep (_m0 : m .galley = true) (_m1 : m .impos = true) (_m2 : m .steps = true) (_m3 : m .groups = true) (_m4 : m .halves = true) (_m5 : m .nvs = true) (_m6 : m .ports = true) (_m7 : m .links = true) (_m8 : m .twins = true) (_m9 : m .units = true) (_m10 : m .regs = true) (_m11 : m .counters = true) (_m12 : m .msix = true) (_m13 : m .events = true) (_m14 : m .free = true) (_m15 : m .outputs = true) (h : Keep m s X) : Keep m s (nvsAlternate X a1) := by
  unfold nvsAlternate
  repeat' (first
    | (with_reducible assumption)
    | ((try lift_lets -underBinder); intro x; clear_value (e : x = _); first | (with_reducible refine keep_let (m := m) (s := s) e ?_ (fun _ => ?_) <;> clear e) | clear e)
    | (with_reducible first
        | refine State_setHalf_keep (by assumption) ?_
        | refine setCause_keep (by assumption) (by assumption) (by assumption) ?_
        | refine putBit_keep (by assumption) ?_
        | refine endStep_keep (by assumption) (by assumption) (by assumption) (by assumption) (by assumption) (by assumption) (by assumption) (by assumption) (by assumption) (by assumption) (by assumption) (by assumption) (by assumption) (by assumption) (by assumption) (by assumption) ?_
        | refine putFld_keep (by assumption) ?_ | refine keep_mk ?_))

theorem applyFallow_keep (_m0 : m .dies = true) (_m1 : m .regs = true) (h : Keep m s X) : Keep m s (applyFallow X a1) := by
  unfold applyFallow
  repeat' (first
    | (with_reducible assumption)
    | ((try lift_lets -underBinder); intro x; clear_value (e : x = _); clear e)
    | (with_reducible first
        | refine putBit_keep (by assumption) ?_ | refine State_setDie_keep (by assumption) ?_
        | refine keep_foldl (fun _ _ _ => ?_) ?_)
    | split)

theorem nvsNormal_keep (_m0 : m .galley = true) (_m1 : m .impos = true) (_m2 : m .steps = true) (_m3 : m .groups = true) (_m4 : m .halves = true) (_m5 : m .dies = true) (_m6 : m .nvs = true) (_m7 : m .ports = true) (_m8 : m .links = true) (_m9 : m .twins = true) (_m10 : m .units = true) (_m11 : m .regs = true) (_m12 : m .counters = true) (_m13 : m .msix = true) (_m14 : m .events = true) (_m15 : m .free = true) (_m16 : m .outputs = true) (h : Keep m s X) : Keep m s (nvsNormal X a1) := by
  unfold nvsNormal
  repeat' (first
    | (with_reducible assumption)
    | ((try lift_lets -underBinder); intro x; clear_value (e : x = _); first | (with_reducible refine keep_let (m := m) (s := s) e ?_ (fun _ => ?_) <;> clear e) | (have _ : Nvs := x; subst e))
    | (with_reducible first
        | refine applyFallow_keep (by assumption) (by assumption) ?_
        | refine flushLedger_keep (by assumption) (by assumption) ?_
        | refine showColophon_keep (by assumption) ?_ | refine putBit_keep (by assumption) ?_
        | refine putFld_keep (by assumption) ?_
        | refine endStep_keep (by assumption) (by assumption) (by assumption) (by assumption) (by assumption) (by assumption) (by assumption) (by assumption) (by assumption) (by assumption) (by assumption) (by assumption) (by assumption) (by assumption) (by assumption) (by assumption) ?_
        | refine keep_mk ?_))

theorem execNvsRead_keep (_m0 : m .galley = true) (_m1 : m .impos = true) (_m2 : m .steps = true) (_m3 : m .groups = true) (_m4 : m .halves = true) (_m5 : m .dies = true) (_m6 : m .nvs = true) (_m7 : m .ports = true) (_m8 : m .links = true) (_m9 : m .twins = true) (_m10 : m .units = true) (_m11 : m .regs = true) (_m12 : m .counters = true) (_m13 : m .msix = true) (_m14 : m .events = true) (_m15 : m .free = true) (_m16 : m .outputs = true) (h : Keep m s X) : KeepRes m s (execNvsRead a0 a1 X) := by
  unfold execNvsRead
  repeat' (first
    | (with_reducible first
        | assumption
        | refine nvsAlternate_keep (by assumption) (by assumption) (by assumption) (by assumption) (by assumption) (by assumption) (by assumption) (by assumption) (by assumption) (by assumption) (by assumption) (by assumption) (by assumption) (by assumption) (by assumption) (by assumption) ?_
        | refine nvsNormal_keep (by assumption) (by assumption) (by assumption) (by assumption) (by assumption) (by assumption) (by assumption) (by assumption) (by assumption) (by assumption) (by assumption) (by assumption) (by assumption) (by assumption) (by assumption) (by assumption) (by assumption) ?_
        | refine endStep_keep (by assumption) (by assumption) (by assumption) (by assumption) (by assumption) (by assumption) (by assumption) (by assumption) (by assumption) (by assumption) (by assumption) (by assumption) (by assumption) (by assumption) (by assumption) (by assumption) ?_
        | refine keepRes_next ?_)
    | split)

theorem execHubSelfTest_keep (_m0 : m .galley = true) (_m1 : m .impos = true) (_m2 : m .steps = true) (_m3 : m .groups = true) (_m4 : m .halves = true) (_m5 : m .nvs = true) (_m6 : m .ports = true) (_m7 : m .links = true) (_m8 : m .twins = true) (_m9 : m .units = true) (_m10 : m .regs = true) (_m11 : m .counters = true) (_m12 : m .msix = true) (_m13 : m .events = true) (_m14 : m .free = true) (_m15 : m .outputs = true) (h : Keep m s X) : KeepRes m s (execHubSelfTest a0 a1 X) := by
  unfold execHubSelfTest
  repeat' (first
    | (with_reducible first
        | assumption
        | refine endStep_keep (by assumption) (by assumption) (by assumption) (by assumption) (by assumption) (by assumption) (by assumption) (by assumption) (by assumption) (by assumption) (by assumption) (by assumption) (by assumption) (by assumption) (by assumption) (by assumption) ?_
        | refine keepRes_next ?_)
    | split)

theorem identityPass_keep (_m0 : m .galley = true) (_m1 : m .impos = true) (_m2 : m .steps = true) (_m3 : m .groups = true) (_m4 : m .halves = true) (_m5 : m .nvs = true) (_m6 : m .ports = true) (_m7 : m .links = true) (_m8 : m .twins = true) (_m9 : m .units = true) (_m10 : m .regs = true) (_m11 : m .counters = true) (_m12 : m .msix = true) (_m13 : m .events = true) (_m14 : m .free = true) (_m15 : m .outputs = true) (h : Keep m s X) : Keep m s (identityPass X a1 a2 a3 a4) := by
  unfold identityPass
  repeat' (first
    | (with_reducible assumption)
    | ((try lift_lets -underBinder); intro x; clear_value (e : x = _); first | (have _ : Nvs := x; subst e) | clear e)
    | (with_reducible first
        | refine showColophon_keep (by assumption) ?_ | refine putFld_keep (by assumption) ?_
        | refine putBit_keep (by assumption) ?_ | refine State_setHalf_keep (by assumption) ?_
        | refine endStep_keep (by assumption) (by assumption) (by assumption) (by assumption) (by assumption) (by assumption) (by assumption) (by assumption) (by assumption) (by assumption) (by assumption) (by assumption) (by assumption) (by assumption) (by assumption) (by assumption) ?_)
    | split
    | (with_reducible refine keep_mk ?_))

theorem execIdentityAndFuses_keep (_m0 : m .galley = true) (_m1 : m .impos = true) (_m2 : m .steps = true) (_m3 : m .groups = true) (_m4 : m .halves = true) (_m5 : m .nvs = true) (_m6 : m .ports = true) (_m7 : m .links = true) (_m8 : m .twins = true) (_m9 : m .units = true) (_m10 : m .regs = true) (_m11 : m .counters = true) (_m12 : m .msix = true) (_m13 : m .events = true) (_m14 : m .free = true) (_m15 : m .outputs = true) (h : Keep m s X) : KeepRes m s (execIdentityAndFuses a0 a1 a2 a3 X) := by
  unfold execIdentityAndFuses
  repeat' (first
    | (with_reducible assumption)
    | ((try lift_lets -underBinder); intro x; clear_value (e : x = _); clear e)
    | (with_reducible first
        | refine identityPass_keep (by assumption) (by assumption) (by assumption) (by assumption) (by assumption) (by assumption) (by assumption) (by assumption) (by assumption) (by assumption) (by assumption) (by assumption) (by assumption) (by assumption) (by assumption) (by assumption) ?_
        | refine endStep_keep (by assumption) (by assumption) (by assumption) (by assumption) (by assumption) (by assumption) (by assumption) (by assumption) (by assumption) (by assumption) (by assumption) (by assumption) (by assumption) (by assumption) (by assumption) (by assumption) ?_
        | refine keepRes_next ?_)
    | split)

theorem execMemoryDieTraining_keep (_m0 : m .galley = true) (_m1 : m .impos = true) (_m2 : m .steps = true) (_m3 : m .groups = true) (_m4 : m .halves = true) (_m5 : m .dies = true) (_m6 : m .nvs = true) (_m7 : m .ports = true) (_m8 : m .links = true) (_m9 : m .twins = true) (_m10 : m .units = true) (_m11 : m .regs = true) (_m12 : m .counters = true) (_m13 : m .msix = true) (_m14 : m .events = true) (_m15 : m .free = true) (_m16 : m .outputs = true) (h : Keep m s X) : KeepRes m s (execMemoryDieTraining a0 a1 X) := by
  unfold execMemoryDieTraining
  repeat' (first
    | (with_reducible assumption)
    | ((try lift_lets -underBinder); intro x; clear_value (e : x = _); clear e)
    | (with_reducible first
        | refine endStep_keep (by assumption) (by assumption) (by assumption) (by assumption) (by assumption) (by assumption) (by assumption) (by assumption) (by assumption) (by assumption) (by assumption) (by assumption) (by assumption) (by assumption) (by assumption) (by assumption) ?_
        | refine State_setDie_keep (by assumption) ?_ | refine keepRes_next ?_)
    | split)

theorem endTest_keep (_m0 : m .halves = true) (_m1 : m .nvs = true) (_m2 : m .ports = true) (_m3 : m .links = true) (_m4 : m .regs = true) (h : Keep m s X) : Keep m s (endTest X a1 a2 a3 a4 a5 a6) := by
  unfold endTest
  repeat' (first
    | (with_reducible assumption)
    | ((try lift_lets -underBinder); intro x; clear_value (e : x = _); first | (with_reducible refine keep_let (m := m) (s := s) e ?_ (fun _ => ?_) <;> clear e) | clear e)
    | (with_reducible first
        | refine State_setHalf_keep (by assumption) ?_
        | refine ledgerWrite_keep (by assumption) (by assumption) ?_
        | refine doneInstance_keep (by assumption) (by assumption) (by assumption) (by assumption) (by assumption) ?_))

theorem execMemorySelfTest_keep (_m0 : m .halves = true) (_m1 : m .nvs = true) (_m2 : m .ports = true) (_m3 : m .links = true) (_m4 : m .regs = true) (h : Keep m s X) : KeepRes m s (execMemorySelfTest a0 a1 a2 a3 X) := by
  unfold execMemorySelfTest
  repeat' (first
    | (with_reducible assumption)
    | ((try lift_lets -underBinder); intro x; clear_value (e : x = _); first | (with_reducible refine keep_let (m := m) (s := s) e ?_ (fun _ => ?_) <;> clear e) | clear e)
    | (with_reducible first
        | refine pairFallow_keep (by assumption) (by assumption) ?_
        | refine channelFallow_keep (by assumption) (by assumption) ?_
        | refine endTest_keep (by assumption) (by assumption) (by assumption) (by assumption) (by assumption) ?_
        | refine keep_foldl (fun _ _ _ => ?_) ?_ | refine keepRes_next ?_ | exact keepRes_fault)
    | split)

theorem execComputeDieSelfTest_keep (_m0 : m .halves = true) (_m1 : m .dies = true) (_m2 : m .nvs = true) (_m3 : m .ports = true) (_m4 : m .links = true) (_m5 : m .regs = true) (_m6 : m .msix = true) (_m7 : m .outputs = true) (h : Keep m s X) : KeepRes m s (execComputeDieSelfTest a0 a1 a2 X) := by
  unfold execComputeDieSelfTest
  repeat' (first
    | (with_reducible assumption)
    | ((try lift_lets -underBinder); intro x; clear_value (e : x = _); first | (with_reducible refine keep_let (m := m) (s := s) e ?_ (fun _ => ?_) <;> clear e) | clear e)
    | (with_reducible first
        | refine mapCores_keep (by assumption) ?_
        | refine endTest_keep (by assumption) (by assumption) (by assumption) (by assumption) (by assumption) ?_
        | refine dieExhausted_keep (by assumption) (by assumption) (by assumption) (by assumption) (by assumption) ?_
        | refine keepRes_next ?_)
    | split)

theorem execStartStepTimeout_keep (_m0 : m .galley = true) (_m1 : m .impos = true) (_m2 : m .steps = true) (_m3 : m .groups = true) (_m4 : m .halves = true) (_m5 : m .nvs = true) (_m6 : m .ports = true) (_m7 : m .links = true) (_m8 : m .twins = true) (_m9 : m .units = true) (_m10 : m .regs = true) (_m11 : m .counters = true) (_m12 : m .msix = true) (_m13 : m .events = true) (_m14 : m .free = true) (_m15 : m .outputs = true) (h : Keep m s X) : KeepRes m s (execStartStepTimeout a0 a1 X) := by
  unfold execStartStepTimeout
  repeat' (first
    | (with_reducible assumption)
    | ((try lift_lets -underBinder); intro x; clear_value (e : x = _); clear e)
    | (with_reducible first
        | refine doneInstance_keep (by assumption) (by assumption) (by assumption) (by assumption) (by assumption) ?_
        | refine ledgerWrite_keep (by assumption) (by assumption) ?_
        | refine endStep_keep (by assumption) (by assumption) (by assumption) (by assumption) (by assumption) (by assumption) (by assumption) (by assumption) (by assumption) (by assumption) (by assumption) (by assumption) (by assumption) (by assumption) (by assumption) (by assumption) ?_
        | refine keepRes_next ?_)
    | split)

theorem restartHalf_keep (_m0 : m .halves = true) (_m1 : m .nvs = true) (_m2 : m .regs = true) (h : Keep m s X) : Keep m s (restartHalf X a1) := by
  unfold restartHalf
  repeat' (first
    | (with_reducible assumption)
    | ((try lift_lets -underBinder); intro x; clear_value (e : x = _); first | (with_reducible refine keep_let (m := m) (s := s) e ?_ (fun _ => ?_) <;> clear e) | (have _ : Nvs := x; subst e) | (have _ : Nat := x; subst e) | clear e)
    | (with_reducible first
        | refine ledgerWrite_keep (by assumption) (by assumption) ?_
        | refine beginHalf_keep (by assumption) ?_ | refine keep_mk ?_))

theorem execAutoRestart_keep (_m0 : m .halves = true) (_m1 : m .nvs = true) (_m2 : m .regs = true) (h : Keep m s X) : KeepRes m s (execAutoRestart a0 X) := by
  unfold execAutoRestart
  repeat' (first
    | (with_reducible assumption)
    | ((try lift_lets -underBinder); intro x; clear_value (e : x = _); first | (with_reducible refine keep_let (m := m) (s := s) e ?_ (fun _ => ?_) <;> clear e) | clear e)
    | (with_reducible first
        | refine State_setHalf_keep (by assumption) ?_
        | refine restartHalf_keep (by assumption) (by assumption) (by assumption) ?_
        | refine keepRes_next ?_)
    | split)

theorem resumeHalf_keep (_m0 : m .halves = true) (_m1 : m .nvs = true) (_m2 : m .regs = true) (h : Keep m s X) : Keep m s (resumeHalf X a1) := by
  unfold resumeHalf
  repeat' (first
    | (with_reducible assumption)
    | ((try lift_lets -underBinder); intro x; clear_value (e : x = _); clear e)
    | (with_reducible first
        | refine restartHalf_keep (by assumption) (by assumption) (by assumption) ?_
        | refine State_setHalf_keep (by assumption) ?_)
    | split)

theorem startCtrl_keep (_m0 : m .halves = true) (_m1 : m .nvs = true) (_m2 : m .regs = true) (h : Keep m s X) : Keep m s (startCtrl X a1) := by
  unfold startCtrl
  repeat' (first
    | (with_reducible assumption)
    | ((try lift_lets -underBinder); intro x; clear_value (e : x = _); (with_reducible refine keep_let (m := m) (s := s) e ?_ (fun _ => ?_) <;> clear e))
    | (with_reducible first
        | refine setReg_keep (by assumption) ?_
        | refine resumeHalf_keep (by assumption) (by assumption) (by assumption) ?_)
    | split)

theorem execResumeHalted_keep (_m0 : m .halves = true) (_m1 : m .nvs = true) (_m2 : m .regs = true) (_m3 : m .counters = true) (_m4 : m .msix = true) (_m5 : m .events = true) (_m6 : m .waits = true) (_m7 : m .outputs = true) (h : Keep m s X) : KeepRes m s (execResumeHalted a0 X) := by
  unfold execResumeHalted
  repeat' (with_reducible first
      | assumption | refine guarded_keep ?_
      | refine serveWrite_keep (by assumption) (by assumption) (by assumption) (by assumption) (by assumption) (by assumption) ?_ (fun _ _ _ _ _ _ => ?_)
      | refine startCtrl_keep (by assumption) (by assumption) (by assumption) ?_)

theorem lcRequest_keep (_m0 : m .regs = true) (_m1 : m .msix = true) (_m2 : m .waits = true) (_m3 : m .outputs = true) (h : Keep m s X) : Keep m s (lcRequest X a1 a2) := by
  unfold lcRequest
  repeat' (first
    | (with_reducible assumption)
    | ((try lift_lets -underBinder); intro x; clear_value (e : x = _); first | (with_reducible refine keep_let (m := m) (s := s) e ?_ (fun _ => ?_) <;> clear e) | (have _ := fun a => x a; subst e; try dsimp -zeta only) | clear e)
    | (with_reducible first
        | refine mboxDone_keep (by assumption) (by assumption) (by assumption) ?_
        | refine putFld_keep (by assumption) ?_ | refine putBit_keep (by assumption) ?_)
    | split
    | (with_reducible refine keep_mk ?_))

theorem execLifecycle_keep (_m0 : m .regs = true) (_m1 : m .counters = true) (_m2 : m .msix = true) (_m3 : m .events = true) (_m4 : m .waits = true) (_m5 : m .outputs = true) (h : Keep m s X) : KeepRes m s (execLifecycle a0 a1 a2 X) := by
  unfold execLifecycle
  repeat' (with_reducible first
      | assumption | refine guarded_keep ?_
      | refine serveWrite_keep (by assumption) (by assumption) (by assumption) (by assumption) (by assumption) (by assumption) ?_ (fun _ _ _ _ _ _ => ?_)
      | refine mboxGo_keep (by assumption) ?_ (fun _ _ => ?_)
      | refine lcRequest_keep (by assumption) (by assumption) (by assumption) (by assumption) ?_)

end Sys2Proof.Machine
end

