-- ==== Sys2Proof/Laws/KeepLifecycle.lean ====
section
/-!
SUPPORT. What the operations and meanings of Machine/Lifecycle.lean keep (`Keep`).
-/
set_option Elab.async false
set_option linter.all false
namespace Sys2Proof.Machine

theorem wipeSram_keep (_m0 : m .memory = true) (_m1 : m .units = true) (h : Keep m s X) : Keep m s (wipeSram X a1) := by
  unfold wipeSram
  repeat' (first
    | (with_reducible assumption)
    | split
    | (with_reducible refine keep_mk ?_))

theorem wipeT1_keep (_m0 : m .memory = true) (_m1 : m .tensors = true) (_m2 : m .dies = true) (_m3 : m .waits = true) (h : Keep m s X) : Keep m s (wipeT1 X a1) := by
  unfold wipeT1
  repeat' (first
    | (with_reducible assumption)
    | ((try lift_lets -underBinder); intro x; clear_value (e : x = _); first | (with_reducible refine keep_let (m := m) (s := s) e ?_ (fun _ => ?_) <;> clear e) | (have _ := fun a => x a; subst e; try dsimp -zeta only) | clear e)
    | (with_reducible first
        | refine State_setDie_keep (by assumption) ?_ | refine keep_foldl (fun _ _ _ => ?_) ?_
        | refine keep_mk ?_))

theorem wipeFail_keep (_m0 : m .nvs = true) (_m1 : m .regs = true) (h : Keep m s X) : Keep m s (wipeFail a0 X a2 a3) := by
  unfold wipeFail
  repeat' (first
    | (with_reducible assumption)
    | ((try lift_lets -underBinder); intro x; clear_value (e : x = _); first | (with_reducible refine keep_let (m := m) (s := s) e ?_ (fun _ => ?_) <;> clear e) | clear e)
    | (with_reducible first
        | refine channelFallow_keep (by assumption) (by assumption) ?_
        | refine ledgerWrite_keep (by assumption) (by assumption) ?_))

theorem wipeHalf_keep (_m0 : m .memory = true) (_m1 : m .tensors = true) (_m2 : m .dies = true) (_m3 : m .nvs = true) (_m4 : m .units = true) (_m5 : m .regs = true) (_m6 : m .waits = true) (h : Keep m s X) : Keep m s (wipeHalf a0 X a2) := by
  unfold wipeHalf
  repeat' (first
    | (with_reducible assumption)
    | ((try lift_lets -underBinder); intro x; clear_value (e : x = _); (with_reducible refine keep_let (m := m) (s := s) e ?_ (fun _ => ?_) <;> clear e))
    | (with_reducible first
        | refine wipeSram_keep (by assumption) (by assumption) ?_
        | refine wipeFail_keep (by assumption) (by assumption) ?_
        | refine wipeT1_keep (by assumption) (by assumption) (by assumption) (by assumption) ?_
        | refine keep_foldl (fun _ _ _ => ?_) ?_)
    | split)

theorem wipeDevice_keep (_m0 : m .memory = true) (_m1 : m .tensors = true) (h : Keep m s X) : Keep m s (wipeDevice X) := by
  unfold wipeDevice
  repeat' (with_reducible first | assumption | refine keep_mk ?_)

theorem lcComplete_keep (_m0 : m .nvs = true) (_m1 : m .regs = true) (_m2 : m .msix = true) (_m3 : m .events = true) (_m4 : m .free = true)
    (_m5 : m .fuses = true) (_m6 : m .outputs = true) (h : Keep m s X) : Keep m s (lcComplete X a1) := by
  unfold lcComplete
  refine devEvent_keep (by assumption) (by assumption) (by assumption) (by assumption) (putFld_keep (by assumption)
    (putFld_keep (by assumption) (putBit_keep (by assumption) (showColophon_keep (by assumption) ?_))))
  refine Keep.upd (X := (drawFree X).2) (drawFree_keep _m4 h).of rfl ⟨rfl, fun e => ?_, fun e => ?_⟩ (Nat.le_refl _) (List.prefix_refl _) id
    (fun p hp => ?_)
  · exact Bool.or_eq_true_iff.mpr (Or.inl e)
  · exact Bool.or_eq_true_iff.mpr (Or.inl e)
  · cases p
    case nvs => exact absurd (hp.symm.trans _m0) Bool.false_ne_true
    case fuses => exact absurd (hp.symm.trans _m5) Bool.false_ne_true
    all_goals simp [Same, drawFree]

theorem wipeMarks_keep (_m0 : m .nvs = true) (_m1 : m .regs = true) (_m2 : m .msix = true) (_m3 : m .events = true) (_m4 : m .free = true) (_m5 : m .fuses = true) (_m6 : m .outputs = true) (h : Keep m s X) : Keep m s (wipeMarks X a1 a2) := by
  unfold wipeMarks
  repeat' (first
    | (with_reducible assumption)
    | ((try lift_lets -underBinder); intro x; clear_value (e : x = _); first | (with_reducible refine keep_let (m := m) (s := s) e ?_ (fun _ => ?_) <;> clear e) | (have _ : Nvs := x; subst e))
    | (with_reducible first
        | refine putBit_keep (by assumption) ?_
        | refine lcComplete_keep (by assumption) (by assumption) (by assumption) (by assumption) (by assumption) (by assumption) (by assumption) ?_)
    | split
    | (with_reducible refine keep_mk ?_))

theorem endWipe_keep (_m0 : m .galley = true) (_m1 : m .impos = true) (_m2 : m .steps = true) (_m3 : m .groups = true) (_m4 : m .halves = true) (_m5 : m .nvs = true) (_m6 : m .ports = true) (_m7 : m .links = true) (_m8 : m .twins = true) (_m9 : m .units = true) (_m10 : m .regs = true) (_m11 : m .counters = true) (_m12 : m .msix = true) (_m13 : m .events = true) (_m14 : m .free = true) (_m15 : m .outputs = true) (h : Keep m s X) : Keep m s (endWipe X a1) := by
  unfold endWipe
  repeat' (first
    | (with_reducible assumption)
    | ((try lift_lets -underBinder); intro x; clear_value (e : x = _); (with_reducible refine keep_let (m := m) (s := s) e ?_ (fun _ => ?_) <;> clear e))
    | (with_reducible first
        | refine endStep_keep (by assumption) (by assumption) (by assumption) (by assumption) (by assumption) (by assumption) (by assumption) (by assumption) (by assumption) (by assumption) (by assumption) (by assumption) (by assumption) (by assumption) (by assumption) (by assumption) ?_
        | refine doneInstance_keep (by assumption) (by assumption) (by assumption) (by assumption) (by assumption) ?_)
    | split)

theorem execWipe_keep (_m0 : m .memory = true) (_m1 : m .galley = true) (_m2 : m .tensors = true) (_m3 : m .impos = true) (_m4 : m .steps = true) (_m5 : m .groups = true) (_m6 : m .halves = true) (_m7 : m .dies = true) (_m8 : m .nvs = true) (_m9 : m .ports = true) (_m10 : m .links = true) (_m11 : m .twins = true) (_m12 : m .units = true) (_m13 : m .regs = true) (_m14 : m .counters = true) (_m15 : m .msix = true) (_m16 : m .events = true) (_m17 : m .waits = true) (_m18 : m .free = true) (_m19 : m .fuses = true) (_m20 : m .outputs = true) (h : Keep m s X) : KeepRes m s (execWipe a0 X) := by
  unfold execWipe
  repeat' (first
    | (with_reducible assumption)
    | ((try lift_lets -underBinder); intro x; clear_value (e : x = _); first | (with_reducible refine keep_let (m := m) (s := s) e ?_ (fun _ => ?_) <;> clear e) | clear e)
    | (with_reducible first
        | refine guarded_keep ?_
        | refine wipeHalf_keep (by assumption) (by assumption) (by assumption) (by assumption) (by assumption) (by assumption) (by assumption) ?_
        | refine wipeDevice_keep (by assumption) (by assumption) ?_
        | refine endWipe_keep (by assumption) (by assumption) (by assumption) (by assumption) (by assumption) (by assumption) (by assumption) (by assumption) (by assumption) (by assumption) (by assumption) (by assumption) (by assumption) (by assumption) (by assumption) (by assumption) ?_
        | refine wipeMarks_keep (by assumption) (by assumption) (by assumption) (by assumption) (by assumption) (by assumption) (by assumption) ?_
        | refine keep_foldl (fun _ _ _ => ?_) ?_)
    | split)

theorem rewriteColophon_keep (_m0 : m .nvs = true) (_m1 : m .regs = true) (h : Keep m s X) : Keep m s (rewriteColophon X a1) := by
  unfold rewriteColophon
  repeat' (first
    | (with_reducible assumption)
    | ((try lift_lets -underBinder); intro x; clear_value (e : x = _); first | (with_reducible refine keep_let (m := m) (s := s) e ?_ (fun _ => ?_) <;> clear e) | (have _ : Nvs := x; subst e))
    | (with_reducible refine showColophon_keep (by assumption) ?_)
    | split
    | (with_reducible refine keep_mk ?_))

theorem readyHalf_keep (_m0 : m .steps = true) (_m1 : m .halves = true) (h : Keep m s X) : Keep m s (readyHalf X a1) := by
  unfold readyHalf
  repeat' (first
    | (with_reducible assumption)
    | ((try lift_lets -underBinder); intro x; clear_value (e : x = _); first | (with_reducible refine keep_let (m := m) (s := s) e ?_ (fun _ => ?_) <;> clear e) | clear e)
    | (with_reducible refine State_setHalf_keep (by assumption) ?_)
    | split
    | (with_reducible refine keep_mk ?_))

theorem readyRecords_keep (_m0 : m .nvs = true) (_m1 : m .regs = true) (h : Keep m s X) : Keep m s (readyRecords X) := by
  unfold readyRecords
  repeat' (first
    | (with_reducible assumption)
    | ((try lift_lets -underBinder); intro x; clear_value (e : x = _); (have _ := fun a => x a; subst e; try dsimp -zeta only))
    | (with_reducible refine ledgerWrite_keep (by assumption) (by assumption) ?_)
    | split)

theorem pairAtStart_keep (_m0 : m .regs = true) (h : Keep m s X) : Keep m s (pairAtStart X a1) := by
  unfold pairAtStart
  repeat' (first
    | (with_reducible first | assumption | refine putFld_keep (by assumption) ?_)
    | split)

theorem readyNow_keep (_m0 : m .memory = true) (_m1 : m .steps = true) (_m2 : m .halves = true) (_m3 : m .nvs = true) (_m4 : m .twins = true) (_m5 : m .hubs = true) (_m6 : m .regs = true) (h : Keep m s X) : Keep m s (readyNow X) := by
  unfold readyNow
  repeat' (first
    | (with_reducible assumption)
    | ((try lift_lets -underBinder); intro x; clear_value (e : x = _); first | (with_reducible refine keep_let (m := m) (s := s) e ?_ (fun _ => ?_) <;> clear e) | clear e)
    | (with_reducible first
        | refine readyHalf_keep (by assumption) (by assumption) ?_
        | refine readyRecords_keep (by assumption) (by assumption) ?_
        | refine pairAtStart_keep (by assumption) ?_ | refine putBit_keep (by assumption) ?_
        | refine rewriteColophon_keep (by assumption) (by assumption) ?_
        | refine refreshTwin_keep (by assumption) (by assumption) ?_
        | refine writeResidents_keep (by assumption) (by assumption) ?_
        | refine keep_foldl (fun _ _ _ => ?_) ?_ | refine keep_mk ?_))

theorem execReady_keep (_m0 : m .memory = true) (_m1 : m .steps = true) (_m2 : m .halves = true) (_m3 : m .nvs = true) (_m4 : m .twins = true) (_m5 : m .hubs = true) (_m6 : m .regs = true) (h : Keep m s X) : KeepRes m s (execReady X) := by
  unfold execReady
  repeat' (first
    | (with_reducible first
        | assumption
        | refine readyNow_keep (by assumption) (by assumption) (by assumption) (by assumption) (by assumption) (by assumption) (by assumption) ?_
        | refine keepRes_next ?_)
    | split)

theorem lcNow_keep (_m0 : m .memory = true) (_m1 : m .galley = true) (_m2 : m .tensors = true) (_m3 : m .moves = true) (_m4 : m .impos = true) (_m5 : m .steps = true) (_m6 : m .groups = true) (_m7 : m .halves = true) (_m8 : m .dies = true) (_m9 : m .nvs = true) (_m10 : m .ports = true) (_m11 : m .links = true) (_m12 : m .hosts = true) (_m13 : m .commands = true) (_m14 : m .twins = true) (_m15 : m .units = true) (_m16 : m .time = true) (_m17 : m .hubs = true) (_m18 : m .sources = true) (_m19 : m .regs = true) (_m20 : m .counters = true) (_m21 : m .latches = true) (_m22 : m .msix = true) (_m23 : m .events = true) (_m24 : m .waits = true) (h : Keep m s X) : Keep m s (lcNow X a1) := by
  unfold lcNow
  repeat' (first
    | (with_reducible assumption)
    | ((try lift_lets -underBinder); intro x; clear_value (e : x = _); (have _ : Nvs := x; subst e))
    | (with_reducible first
        | refine requestCold_keep (by assumption) (by assumption) (by assumption) (by assumption) (by assumption) (by assumption) (by assumption) (by assumption) (by assumption) (by assumption) (by assumption) (by assumption) (by assumption) (by assumption) (by assumption) (by assumption) (by assumption) (by assumption) (by assumption) (by assumption) (by assumption) (by assumption) (by assumption) (by assumption) (by assumption) ?_
        | refine keep_mk ?_))

theorem execLifecycleChange_keep (_m0 : m .memory = true) (_m1 : m .galley = true) (_m2 : m .tensors = true) (_m3 : m .moves = true) (_m4 : m .impos = true) (_m5 : m .steps = true) (_m6 : m .groups = true) (_m7 : m .halves = true) (_m8 : m .dies = true) (_m9 : m .nvs = true) (_m10 : m .ports = true) (_m11 : m .links = true) (_m12 : m .hosts = true) (_m13 : m .commands = true) (_m14 : m .twins = true) (_m15 : m .units = true) (_m16 : m .time = true) (_m17 : m .hubs = true) (_m18 : m .sources = true) (_m19 : m .regs = true) (_m20 : m .counters = true) (_m21 : m .latches = true) (_m22 : m .msix = true) (_m23 : m .events = true) (_m24 : m .waits = true) (h : Keep m s X) : KeepRes m s (execLifecycleChange X) := by
  unfold execLifecycleChange
  repeat' (first
    | (with_reducible first
        | assumption
        | refine lcNow_keep (by assumption) (by assumption) (by assumption) (by assumption) (by assumption) (by assumption) (by assumption) (by assumption) (by assumption) (by assumption) (by assumption) (by assumption) (by assumption) (by assumption) (by assumption) (by assumption) (by assumption) (by assumption) (by assumption) (by assumption) (by assumption) (by assumption) (by assumption) (by assumption) (by assumption) ?_
        | refine keepRes_next ?_)
    | split)

end Sys2Proof.Machine
end

