-- ==== Sys2Proof/Laws/KeepStops.lean ====
section
/-!
SUPPORT. What the operations and meanings of Machine/Stops.lean keep (`Keep`).
-/
set_option Elab.async false
set_option linter.all false
namespace Sys2Proof.Machine

theorem clearStore_keep (_m0 : m .hubs = true) (h : Keep m s X) : Keep m s (clearStore X a1) := by
  unfold clearStore
  repeat' (first
    | (with_reducible assumption)
    | ((try lift_lets -underBinder); intro x; clear_value (e : x = _); clear e)
    | (with_reducible refine State_setHub_keep (by assumption) ?_))

theorem trcCtrl_keep (_m0 : m .hubs = true) (_m1 : m .sources = true) (_m2 : m .regs = true) (_m3 : m .counters = true) (_m4 : m .msix = true) (_m5 : m .events = true) (_m6 : m .outputs = true) (h : Keep m s X) : Keep m s (trcCtrl X a1 a2) := by
  unfold trcCtrl
  repeat' (first
    | (with_reducible assumption)
    | ((try lift_lets -underBinder); intro x; clear_value (e : x = _); (with_reducible refine keep_let (m := m) (s := s) e ?_ (fun _ => ?_) <;> clear e))
    | (with_reducible first
        | refine setReg_keep (by assumption) ?_ | refine clearStore_keep (by assumption) ?_
        | refine trace_keep (by assumption) (by assumption) (by assumption) (by assumption) (by assumption) (by assumption) ?_)
    | split)

theorem trcDump_keep (_m0 : m .hosts = true) (_m1 : m .hubs = true) (_m2 : m .regs = true) (_m3 : m .outputs = true) (h : Keep m s X) : Keep m s (trcDump X a1 a2) := by
  unfold trcDump
  repeat' (first
    | (with_reducible assumption)
    | ((try lift_lets -underBinder); intro x; clear_value (e : x = _); first | (with_reducible refine keep_let (m := m) (s := s) e ?_ (fun _ => ?_) <;> clear e) | clear e)
    | (with_reducible first
        | refine putBit_keep (by assumption) ?_ | refine State_setHub_keep (by assumption) ?_
        | refine regionWrite_keep (by assumption) (by assumption) ?_
        | refine keep_foldl (fun _ _ _ => ?_) ?_)
    | split)

theorem trcRow_keep (_m0 : m .regs = true) (_m1 : m .counters = true) (_m2 : m .msix = true) (_m3 : m .events = true) (_m4 : m .waits = true) (_m5 : m .outputs = true) (hf2 : ∀ x0 x1 x2, Keep m s x0 → Keep m s (f2 x0 x1 x2)) (h : Keep m s X) : KeepRes m s (trcRow a0 a1 f2 X) := by
  unfold trcRow
  repeat' (with_reducible first
      | assumption | apply hf2 | refine guarded_keep ?_
      | refine serveWrite_keep (by assumption) (by assumption) (by assumption) (by assumption) (by assumption) (by assumption) ?_ (fun _ _ _ _ _ _ => ?_))

theorem execTrcClear_keep (_m0 : m .hubs = true) (_m1 : m .sources = true) (_m2 : m .regs = true) (_m3 : m .counters = true) (_m4 : m .msix = true) (_m5 : m .events = true) (_m6 : m .waits = true) (_m7 : m .outputs = true) (h : Keep m s X) : KeepRes m s (execTrcClear a0 X) := by
  unfold execTrcClear
  repeat' (with_reducible first
      | assumption
      | refine trcRow_keep (by assumption) (by assumption) (by assumption) (by assumption) (by assumption) (by assumption) (fun _ _ _ _ => ?_) ?_
      | refine trcCtrl_keep (by assumption) (by assumption) (by assumption) (by assumption) (by assumption) (by assumption) (by assumption) ?_)

theorem execTrcMark_keep (_m0 : m .hubs = true) (_m1 : m .sources = true) (_m2 : m .regs = true) (_m3 : m .counters = true) (_m4 : m .msix = true) (_m5 : m .events = true) (_m6 : m .waits = true) (_m7 : m .outputs = true) (h : Keep m s X) : KeepRes m s (execTrcMark a0 X) := by
  unfold execTrcMark
  repeat' (with_reducible first
      | assumption
      | refine trcRow_keep (by assumption) (by assumption) (by assumption) (by assumption) (by assumption) (by assumption) (fun _ _ _ _ => ?_) ?_
      | refine trcCtrl_keep (by assumption) (by assumption) (by assumption) (by assumption) (by assumption) (by assumption) (by assumption) ?_)

theorem execTrcDumpGo_keep (_m0 : m .hosts = true) (_m1 : m .hubs = true) (_m2 : m .regs = true) (_m3 : m .counters = true) (_m4 : m .msix = true) (_m5 : m .events = true) (_m6 : m .waits = true) (_m7 : m .outputs = true) (h : Keep m s X) : KeepRes m s (execTrcDumpGo a0 X) := by
  unfold execTrcDumpGo
  repeat' (with_reducible first
      | assumption
      | refine trcRow_keep (by assumption) (by assumption) (by assumption) (by assumption) (by assumption) (by assumption) (fun _ _ _ _ => ?_) ?_
      | refine trcDump_keep (by assumption) (by assumption) (by assumption) (by assumption) ?_)

theorem execTraceRecord_keep (_m0 : m .hubs = true) (_m1 : m .sources = true) (_m2 : m .regs = true) (_m3 : m .msix = true) (_m4 : m .outputs = true) (h : Keep m s X) : KeepRes m s (execTraceRecord a0 X) := by
  unfold execTraceRecord
  repeat' (with_reducible first
      | assumption
      | refine shiftSource_keep (by assumption) (by assumption) (by assumption) (by assumption) (by assumption) ?_
      | refine keepRes_next ?_)

theorem execDumpDone_keep (_m0 : m .hubs = true) (_m1 : m .regs = true) (_m2 : m .msix = true) (_m3 : m .outputs = true) (h : Keep m s X) : KeepRes m s (execDumpDone a0 X) := by
  unfold execDumpDone
  repeat' (first
    | (with_reducible assumption)
    | ((try lift_lets -underBinder); intro x; clear_value (e : x = _); clear e)
    | (with_reducible first
        | refine setCause_keep (by assumption) (by assumption) (by assumption) ?_
        | refine State_setHub_keep (by assumption) ?_ | refine keepRes_next ?_)
    | split)

theorem snapCtrlRow_keep (_m0 : m .regs = true) (_m1 : m .counters = true) (_m2 : m .msix = true) (_m3 : m .events = true) (_m4 : m .waits = true) (_m5 : m .outputs = true) (h : Keep m s X) : KeepRes m s (snapCtrlRow a0 X) := by
  unfold snapCtrlRow
  repeat' (with_reducible first
      | assumption | refine guarded_keep ?_
      | refine serveWrite_keep (by assumption) (by assumption) (by assumption) (by assumption) (by assumption) (by assumption) ?_ (fun _ _ _ _ _ _ => ?_)
      | refine snapCtrl_keep (by assumption) (by assumption) ?_)

theorem execGroupSnapshot_keep (_m0 : m .regs = true) (_m1 : m .counters = true) (_m2 : m .msix = true) (_m3 : m .events = true) (_m4 : m .waits = true) (_m5 : m .outputs = true) (h : Keep m s X) : KeepRes m s (execGroupSnapshot a0 X) := by
  unfold execGroupSnapshot
  repeat' (with_reducible first
      | assumption
      | refine snapCtrlRow_keep (by assumption) (by assumption) (by assumption) (by assumption) (by assumption) (by assumption) ?_)

theorem execGroupClear_keep (_m0 : m .regs = true) (_m1 : m .counters = true) (_m2 : m .msix = true) (_m3 : m .events = true) (_m4 : m .waits = true) (_m5 : m .outputs = true) (h : Keep m s X) : KeepRes m s (execGroupClear a0 X) := by
  unfold execGroupClear
  repeat' (with_reducible first
      | assumption
      | refine snapCtrlRow_keep (by assumption) (by assumption) (by assumption) (by assumption) (by assumption) (by assumption) ?_)

theorem setStop_keep (_m0 : m .regs = true) (h : Keep m s X) : Keep m s (setStop X a1) := by
  unfold setStop
  repeat' (with_reducible first | assumption | refine putFld_keep (by assumption) ?_)

theorem armStop_keep (_m0 : m .regs = true) (_m1 : m .waits = true) (h : Keep m s X) : Keep m s (armStop X a1) := by
  unfold armStop
  repeat' (first
    | (with_reducible assumption)
    | ((try lift_lets -underBinder); intro x; clear_value (e : x = _); clear e)
    | (with_reducible first
        | refine setStop_keep (by assumption) ?_ | refine putBit_keep (by assumption) ?_
        | refine setReg_keep (by assumption) ?_ | refine keep_mk ?_))

theorem disarm_keep (_m0 : m .waits = true) (h : Keep m s X) : Keep m s (disarm X) := by
  unfold disarm
  repeat' (with_reducible first | assumption | refine keep_mk ?_)

theorem unfreeze_keep (_m0 : m .hubs = true) (h : Keep m s X) : Keep m s (unfreeze X) := by
  unfold unfreeze
  repeat' (first
    | (with_reducible assumption)
    | ((try lift_lets -underBinder); intro x; clear_value (e : x = _); first | (have _ := fun a => x a; subst e; try dsimp -zeta only) | clear e)
    | (with_reducible refine State_setHub_keep (by assumption) ?_))

theorem resumeAll_keep (_m0 : m .moves = true) (_m1 : m .steps = true) (_m2 : m .groups = true) (_m3 : m .dies = true) (_m4 : m .links = true) (_m5 : m .hosts = true) (_m6 : m .hubs = true) (_m7 : m .sources = true) (_m8 : m .regs = true) (_m9 : m .counters = true) (_m10 : m .msix = true) (_m11 : m .events = true) (_m12 : m .waits = true) (_m13 : m .free = true) (_m14 : m .outputs = true) (h : Keep m s X) : Keep m s (resumeAll X a1) := by
  unfold resumeAll
  repeat' (with_reducible first
      | assumption
      | refine startMoves_keep (by assumption) (by assumption) (by assumption) (by assumption) (by assumption) (by assumption) (by assumption) (by assumption) (by assumption) ?_
      | refine announceKept_keep (by assumption) (by assumption) (by assumption) (by assumption) (by assumption) (by assumption) (by assumption) (by assumption) (by assumption) ?_
      | refine devEvent_keep (by assumption) (by assumption) (by assumption) (by assumption) ?_
      | refine unfreeze_keep (by assumption) ?_ | refine disarm_keep (by assumption) ?_
      | refine setStop_keep (by assumption) ?_)

theorem releaseStop_keep (_m0 : m .moves = true) (_m1 : m .steps = true) (_m2 : m .groups = true) (_m3 : m .dies = true) (_m4 : m .links = true) (_m5 : m .hosts = true) (_m6 : m .hubs = true) (_m7 : m .sources = true) (_m8 : m .regs = true) (_m9 : m .counters = true) (_m10 : m .msix = true) (_m11 : m .events = true) (_m12 : m .waits = true) (_m13 : m .free = true) (_m14 : m .outputs = true) (h : Keep m s X) : Keep m s (releaseStop X) := by
  unfold releaseStop
  repeat' (first
    | (with_reducible assumption)
    | ((try lift_lets -underBinder); intro x; clear_value (e : x = _); clear e)
    | (with_reducible first
        | refine startMoves_keep (by assumption) (by assumption) (by assumption) (by assumption) (by assumption) (by assumption) (by assumption) (by assumption) (by assumption) ?_
        | refine announceKept_keep (by assumption) (by assumption) (by assumption) (by assumption) (by assumption) (by assumption) (by assumption) (by assumption) (by assumption) ?_
        | refine disarm_keep (by assumption) ?_ | refine setStop_keep (by assumption) ?_
        | refine resumeAll_keep (by assumption) (by assumption) (by assumption) (by assumption) (by assumption) (by assumption) (by assumption) (by assumption) (by assumption) (by assumption) (by assumption) (by assumption) (by assumption) (by assumption) (by assumption) ?_)
    | split)

theorem requestStop_keep (_m0 : m .regs = true) (_m1 : m .waits = true) (h : Keep m s X) : Keep m s (requestStop X a1) := by
  unfold requestStop
  repeat' (first
    | (with_reducible assumption)
    | ((try lift_lets -underBinder); intro x; clear_value (e : x = _); clear e)
    | (with_reducible first
        | refine armStop_keep (by assumption) (by assumption) ?_
        | refine putBit_keep (by assumption) ?_)
    | split)

theorem stopCtrl_keep (_m0 : m .moves = true) (_m1 : m .steps = true) (_m2 : m .groups = true) (_m3 : m .dies = true) (_m4 : m .links = true) (_m5 : m .hosts = true) (_m6 : m .hubs = true) (_m7 : m .sources = true) (_m8 : m .regs = true) (_m9 : m .counters = true) (_m10 : m .msix = true) (_m11 : m .events = true) (_m12 : m .waits = true) (_m13 : m .free = true) (_m14 : m .outputs = true) (h : Keep m s X) : Keep m s (stopCtrl X a1) := by
  unfold stopCtrl
  repeat' (first
    | (with_reducible first
        | assumption | refine requestStop_keep (by assumption) (by assumption) ?_
        | refine releaseStop_keep (by assumption) (by assumption) (by assumption) (by assumption) (by assumption) (by assumption) (by assumption) (by assumption) (by assumption) (by assumption) (by assumption) (by assumption) (by assumption) (by assumption) (by assumption) ?_)
    | split)

theorem stopCtrlRow_keep (_m0 : m .moves = true) (_m1 : m .steps = true) (_m2 : m .groups = true) (_m3 : m .dies = true) (_m4 : m .links = true) (_m5 : m .hosts = true) (_m6 : m .hubs = true) (_m7 : m .sources = true) (_m8 : m .regs = true) (_m9 : m .counters = true) (_m10 : m .msix = true) (_m11 : m .events = true) (_m12 : m .waits = true) (_m13 : m .free = true) (_m14 : m .outputs = true) (h : Keep m s X) : KeepRes m s (stopCtrlRow a0 X) := by
  unfold stopCtrlRow
  repeat' (with_reducible first
      | assumption | refine guarded_keep ?_
      | refine serveWrite_keep (by assumption) (by assumption) (by assumption) (by assumption) (by assumption) (by assumption) ?_ (fun _ _ _ _ _ _ => ?_)
      | refine stopCtrl_keep (by assumption) (by assumption) (by assumption) (by assumption) (by assumption) (by assumption) (by assumption) (by assumption) (by assumption) (by assumption) (by assumption) (by assumption) (by assumption) (by assumption) (by assumption) ?_)

theorem execBoundaryStopRequest_keep (_m0 : m .moves = true) (_m1 : m .steps = true) (_m2 : m .groups = true) (_m3 : m .dies = true) (_m4 : m .links = true) (_m5 : m .hosts = true) (_m6 : m .hubs = true) (_m7 : m .sources = true) (_m8 : m .regs = true) (_m9 : m .counters = true) (_m10 : m .msix = true) (_m11 : m .events = true) (_m12 : m .waits = true) (_m13 : m .free = true) (_m14 : m .outputs = true) (h : Keep m s X) : KeepRes m s (execBoundaryStopRequest a0 X) := by
  unfold execBoundaryStopRequest
  repeat' (with_reducible first
      | assumption
      | refine stopCtrlRow_keep (by assumption) (by assumption) (by assumption) (by assumption) (by assumption) (by assumption) (by assumption) (by assumption) (by assumption) (by assumption) (by assumption) (by assumption) (by assumption) (by assumption) (by assumption) ?_)

theorem execImmediateStopRequest_keep (_m0 : m .moves = true) (_m1 : m .steps = true) (_m2 : m .groups = true) (_m3 : m .dies = true) (_m4 : m .links = true) (_m5 : m .hosts = true) (_m6 : m .hubs = true) (_m7 : m .sources = true) (_m8 : m .regs = true) (_m9 : m .counters = true) (_m10 : m .msix = true) (_m11 : m .events = true) (_m12 : m .waits = true) (_m13 : m .free = true) (_m14 : m .outputs = true) (h : Keep m s X) : KeepRes m s (execImmediateStopRequest a0 X) := by
  unfold execImmediateStopRequest
  repeat' (with_reducible first
      | assumption
      | refine stopCtrlRow_keep (by assumption) (by assumption) (by assumption) (by assumption) (by assumption) (by assumption) (by assumption) (by assumption) (by assumption) (by assumption) (by assumption) (by assumption) (by assumption) (by assumption) (by assumption) ?_)

theorem execStopRelease_keep (_m0 : m .moves = true) (_m1 : m .steps = true) (_m2 : m .groups = true) (_m3 : m .dies = true) (_m4 : m .links = true) (_m5 : m .hosts = true) (_m6 : m .hubs = true) (_m7 : m .sources = true) (_m8 : m .regs = true) (_m9 : m .counters = true) (_m10 : m .msix = true) (_m11 : m .events = true) (_m12 : m .waits = true) (_m13 : m .free = true) (_m14 : m .outputs = true) (h : Keep m s X) : KeepRes m s (execStopRelease a0 X) := by
  unfold execStopRelease
  repeat' (with_reducible first
      | assumption
      | refine stopCtrlRow_keep (by assumption) (by assumption) (by assumption) (by assumption) (by assumption) (by assumption) (by assumption) (by assumption) (by assumption) (by assumption) (by assumption) (by assumption) (by assumption) (by assumption) (by assumption) ?_)

theorem stopTraceOf_keep (_m0 : m .hubs = true) (_m1 : m .sources = true) (_m2 : m .regs = true) (_m3 : m .msix = true) (_m4 : m .outputs = true) (h : Keep m s X) : Keep m s (stopTraceOf X a1 a2) := by
  unfold stopTraceOf
  repeat' (first
    | (with_reducible assumption)
    | ((try lift_lets -underBinder); intro x; clear_value (e : x = _); first | (with_reducible refine keep_let (m := m) (s := s) e ?_ (fun _ => ?_) <;> clear e) | clear e)
    | (with_reducible first
        | refine shiftSource_keep (by assumption) (by assumption) (by assumption) (by assumption) (by assumption) ?_
        | refine storeRecord_keep (by assumption) (by assumption) (by assumption) (by assumption) ?_
        | refine State_setHub_keep (by assumption) ?_ | refine keep_foldl (fun _ _ _ => ?_) ?_)
    | split)

theorem stopTrace_keep (_m0 : m .hubs = true) (_m1 : m .sources = true) (_m2 : m .regs = true) (_m3 : m .msix = true) (_m4 : m .outputs = true) (h : Keep m s X) : Keep m s (stopTrace X a1) := by
  unfold stopTrace
  repeat' (with_reducible first
      | assumption
      | refine stopTraceOf_keep (by assumption) (by assumption) (by assumption) (by assumption) (by assumption) ?_)

theorem boundaryCut_keep (_m0 : m .hubs = true) (_m1 : m .sources = true) (_m2 : m .regs = true) (_m3 : m .counters = true) (_m4 : m .msix = true) (_m5 : m .events = true) (_m6 : m .outputs = true) (h : Keep m s X) : Keep m s (boundaryCut X) := by
  unfold boundaryCut
  repeat' (first
    | (with_reducible assumption)
    | ((try lift_lets -underBinder); intro x; clear_value (e : x = _); first | (with_reducible refine keep_let (m := m) (s := s) e ?_ (fun _ => ?_) <;> clear e) | clear e)
    | (with_reducible first
        | refine setReg_keep (by assumption) ?_
        | refine stopTrace_keep (by assumption) (by assumption) (by assumption) (by assumption) (by assumption) ?_
        | refine captureAll_keep (by assumption) (by assumption) ?_
        | refine setCause_keep (by assumption) (by assumption) (by assumption) ?_
        | refine raiseEvent_keep (by assumption) (by assumption) (by assumption) (by assumption) ?_
        | refine keep_foldl (fun _ _ _ => ?_) ?_)
    | split)

theorem execStopBoundary_keep (_m0 : m .hubs = true) (_m1 : m .sources = true) (_m2 : m .regs = true) (_m3 : m .counters = true) (_m4 : m .msix = true) (_m5 : m .events = true) (_m6 : m .outputs = true) (h : Keep m s X) : KeepRes m s (execStopBoundary a0 X) := by
  unfold execStopBoundary
  repeat' (first
    | (with_reducible first
        | assumption | refine setStop_keep (by assumption) ?_
        | refine boundaryCut_keep (by assumption) (by assumption) (by assumption) (by assumption) (by assumption) (by assumption) (by assumption) ?_
        | refine keepRes_next ?_)
    | split)

theorem immediateHalt_keep (_m0 : m .hubs = true) (_m1 : m .sources = true) (_m2 : m .regs = true) (_m3 : m .counters = true) (_m4 : m .msix = true) (_m5 : m .events = true) (_m6 : m .outputs = true) (h : Keep m s X) : Keep m s (immediateHalt X a1) := by
  unfold immediateHalt
  repeat' (first
    | (with_reducible assumption)
    | ((try lift_lets -underBinder); intro x; clear_value (e : x = _); first | (with_reducible refine keep_let (m := m) (s := s) e ?_ (fun _ => ?_) <;> clear e) | (have _ := fun a => x a; subst e; try dsimp -zeta only) | clear e)
    | (with_reducible first
        | refine setReg_keep (by assumption) ?_
        | refine captureGroup_keep (by assumption) (by assumption) ?_
        | refine setCause_keep (by assumption) (by assumption) (by assumption) ?_
        | refine stopTrace_keep (by assumption) (by assumption) (by assumption) (by assumption) (by assumption) ?_
        | refine raiseEvent_keep (by assumption) (by assumption) (by assumption) (by assumption) ?_
        | refine keep_foldl (fun _ _ _ => ?_) ?_))

theorem execStopImmediate_keep (_m0 : m .hubs = true) (_m1 : m .sources = true) (_m2 : m .regs = true) (_m3 : m .counters = true) (_m4 : m .msix = true) (_m5 : m .events = true) (_m6 : m .outputs = true) (h : Keep m s X) : KeepRes m s (execStopImmediate a0 X) := by
  unfold execStopImmediate
  repeat' (first
    | (with_reducible first
        | assumption | refine guarded_keep ?_
        | refine immediateHalt_keep (by assumption) (by assumption) (by assumption) (by assumption) (by assumption) (by assumption) (by assumption) ?_)
    | split)

theorem clearSlots_keep (_m0 : m .units = true) (h : Keep m s X) : Keep m s (clearSlots X) := by
  unfold clearSlots
  repeat' (with_reducible first | assumption | refine keep_mk ?_)

theorem abandonHalted_keep (_m0 : m .galley = true) (_m1 : m .impos = true) (_m2 : m .steps = true) (_m3 : m .groups = true) (_m4 : m .links = true) (_m5 : m .units = true) (_m6 : m .regs = true) (_m7 : m .counters = true) (_m8 : m .msix = true) (_m9 : m .events = true) (_m10 : m .free = true) (_m11 : m .outputs = true) (h : Keep m s X) : Keep m s (abandonHalted X) := by
  unfold abandonHalted
  repeat' (first
    | (with_reducible assumption)
    | ((try lift_lets -underBinder); intro x; clear_value (e : x = _); clear e)
    | (with_reducible first
        | refine sendLost_keep (by assumption) (by assumption) (by assumption) (by assumption) (by assumption) (by assumption) ?_
        | refine abandonWith_keep (by assumption) (by assumption) (by assumption) (by assumption) (by assumption) (by assumption) (by assumption) (by assumption) (by assumption) (by assumption) (by assumption) (by assumption) ?_
        | refine keep_foldl (fun _ _ _ => ?_) ?_)
    | split)

theorem dropClass0_keep (_m0 : m .links = true) (h : Keep m s X) : Keep m s (dropClass0 X) := by
  unfold dropClass0
  repeat' (with_reducible first | assumption | refine keep_mk ?_)

theorem freeStuck_keep (_m0 : m .links = true) (_m1 : m .regs = true) (_m2 : m .counters = true) (_m3 : m .msix = true) (_m4 : m .events = true) (_m5 : m .outputs = true) (h : Keep m s X) : Keep m s (freeStuck X a1 a2) := by
  unfold freeStuck
  repeat' (first
    | (with_reducible first
        | assumption | refine freeCredit_keep (by assumption) ?_
        | refine passFlit_keep (by assumption) (by assumption) (by assumption) (by assumption) (by assumption) (by assumption) ?_)
    | split)

theorem applyHeld_keep (_m0 : m .links = true) (_m1 : m .regs = true) (_m2 : m .counters = true) (_m3 : m .msix = true) (_m4 : m .events = true) (_m5 : m .outputs = true) (h : Keep m s X) : Keep m s (applyHeld X) := by
  unfold applyHeld
  repeat' (first
    | (with_reducible assumption)
    | ((try lift_lets -underBinder); intro x; clear_value (e : x = _); first | (with_reducible refine keep_let (m := m) (s := s) e ?_ (fun _ => ?_) <;> clear e) | clear e)
    | (with_reducible first
        | refine handleFlit_keep (by assumption) (by assumption) (by assumption) (by assumption) (by assumption) (by assumption) ?_
        | refine freeStuck_keep (by assumption) (by assumption) (by assumption) (by assumption) (by assumption) (by assumption) ?_
        | refine keep_foldl (fun _ _ _ => ?_) ?_)
    | split
    | (with_reducible refine keep_mk ?_))

theorem execStopReleased_keep (_m0 : m .galley = true) (_m1 : m .moves = true) (_m2 : m .impos = true) (_m3 : m .steps = true) (_m4 : m .groups = true) (_m5 : m .dies = true) (_m6 : m .links = true) (_m7 : m .hosts = true) (_m8 : m .units = true) (_m9 : m .hubs = true) (_m10 : m .sources = true) (_m11 : m .regs = true) (_m12 : m .counters = true) (_m13 : m .msix = true) (_m14 : m .events = true) (_m15 : m .waits = true) (_m16 : m .free = true) (_m17 : m .outputs = true) (h : Keep m s X) : KeepRes m s (execStopReleased X) := by
  unfold execStopReleased
  repeat' (first
    | (with_reducible first
        | assumption
        | refine resumeAll_keep (by assumption) (by assumption) (by assumption) (by assumption) (by assumption) (by assumption) (by assumption) (by assumption) (by assumption) (by assumption) (by assumption) (by assumption) (by assumption) (by assumption) (by assumption) ?_
        | refine applyHeld_keep (by assumption) (by assumption) (by assumption) (by assumption) (by assumption) (by assumption) ?_
        | refine setStop_keep (by assumption) ?_ | refine dropClass0_keep (by assumption) ?_
        | refine abandonHalted_keep (by assumption) (by assumption) (by assumption) (by assumption) (by assumption) (by assumption) (by assumption) (by assumption) (by assumption) (by assumption) (by assumption) (by assumption) ?_
        | refine clearSlots_keep (by assumption) ?_ | refine keepRes_next ?_)
    | split)

end Sys2Proof.Machine
end

