-- ==== Sys2Proof/Laws/KeepRegisters.lean ====
section
/-!
SUPPORT. What the operations and meanings of Machine/Registers.lean keep (`Keep`).
-/
set_option Elab.async false
set_option linter.all false
namespace Sys2Proof.Machine

theorem blkCtrlWrite_keep (_m0 : m .regs = true) (_m1 : m .waits = true) (h : Keep m s X) : Keep m s (blkCtrlWrite X a1 a2) := by
  unfold blkCtrlWrite
  repeat' (first
    | (with_reducible assumption)
    | ((try lift_lets -underBinder); intro x; clear_value (e : x = _); first | (with_reducible refine keep_let (m := m) (s := s) e ?_ (fun _ => ?_) <;> clear e) | clear e)
    | (with_reducible first
        | refine putBit_keep (by assumption) ?_ | refine setReg_keep (by assumption) ?_)
    | split
    | (with_reducible refine keep_mk ?_))

theorem ownerWrite_keep (_m0 : m .regs = true) (_m1 : m .waits = true) (h : Keep m s X) : Keep m s (ownerWrite X a1 a2) := by
  unfold ownerWrite
  repeat' (first
    | (with_reducible assumption)
    | ((try lift_lets -underBinder); intro x; clear_value (e : x = _); first | (with_reducible refine keep_let (m := m) (s := s) e ?_ (fun _ => ?_) <;> clear e) | clear e)
    | (with_reducible first
        | refine putBit_keep (by assumption) ?_ | refine putFld_keep (by assumption) ?_)
    | split
    | (with_reducible refine keep_mk ?_))

theorem headerWrite_keep (_m0 : m .regs = true) (_m1 : m .counters = true) (_m2 : m .msix = true) (_m3 : m .waits = true) (_m4 : m .outputs = true) (h : Keep m s X) : Keep m s (headerWrite X a1 a2 a3 a4 a5) := by
  unfold headerWrite
  repeat' (first
    | (with_reducible first
        | assumption | refine blkCtrlWrite_keep (by assumption) (by assumption) ?_
        | refine writeIntRaw_keep (by assumption) (by assumption) (by assumption) ?_
        | refine writeIntEn_keep (by assumption) (by assumption) (by assumption) ?_
        | refine triggerSnap_keep (by assumption) (by assumption) (by assumption) (by assumption) ?_
        | refine ownerWrite_keep (by assumption) (by assumption) ?_
        | refine writePlain_keep (by assumption) (by assumption) (by assumption) ?_)
    | split)

theorem writeData_keep (_m0 : m .latches = true) (h : Keep m s X) : Keep m s (writeData X a1 a2 a3 a4 a5 a6) := by
  unfold writeData
  repeat' (first
    | (with_reducible assumption)
    | ((try lift_lets -underBinder); intro x; clear_value (e : x = _); clear e)
    | (with_reducible refine setLatch_keep (by assumption) ?_))

theorem holdForce_keep (_m0 : m .waits = true) (h : Keep m s X) : Keep m s (holdForce X a1) := by
  unfold holdForce
  repeat' (first
    | (with_reducible assumption)
    | split
    | (with_reducible refine keep_mk ?_))

theorem untilBoundary_keep (_m0 : m .waits = true) (h : Keep m s X) : Keep m s (untilBoundary X a1) := by
  unfold untilBoundary
  repeat' (first
    | (with_reducible assumption)
    | ((try lift_lets -underBinder); intro x; clear_value (e : x = _); (with_reducible refine keep_let (m := m) (s := s) e ?_ (fun _ => ?_) <;> clear e))
    | (with_reducible first | refine holdForce_keep (by assumption) ?_ | refine keep_mk ?_))

theorem partCfgWrite_keep (_m0 : m .regs = true) (_m1 : m .waits = true) (h : Keep m s X) : Keep m s (partCfgWrite X a1 a2) := by
  unfold partCfgWrite
  repeat' (first
    | (with_reducible assumption)
    | ((try lift_lets -underBinder); intro x; clear_value (e : x = _); first | (have _ := fun a => x a; subst e; try dsimp -zeta only) | clear e)
    | (with_reducible first
        | refine setReg_keep (by assumption) ?_ | refine untilBoundary_keep (by assumption) ?_)
    | split)

theorem afterWrite_keep (_m0 : m .time = true) (_m1 : m .regs = true) (h : Keep m s X) : Keep m s (afterWrite X a1 a2) := by
  unfold afterWrite
  repeat' (first
    | (with_reducible first
        | assumption | refine chooseParent_keep (by assumption) (by assumption) ?_
        | refine refreshCores_keep (by assumption) ?_ | refine keep_foldl (fun _ _ _ => ?_) ?_)
    | split)

theorem blockWrite_keep (_m0 : m .time = true) (_m1 : m .regs = true) (_m2 : m .counters = true) (_m3 : m .latches = true) (_m4 : m .msix = true) (_m5 : m .events = true) (_m6 : m .waits = true) (_m7 : m .outputs = true) (h : Keep m s X) : Keep m s (blockWrite X a1 a2 a3 a4 a5 a6 a7 a8 a9) := by
  unfold blockWrite
  repeat' (first
    | (with_reducible assumption)
    | ((try lift_lets -underBinder); intro x; clear_value (e : x = _); first | (with_reducible refine keep_let (m := m) (s := s) e ?_ (fun _ => ?_) <;> clear e) | clear e)
    | (with_reducible first
        | refine writeCounter_keep (by assumption) (by assumption) (by assumption) (by assumption) (by assumption) ?_
        | refine writeData_keep (by assumption) ?_ | refine latchWindow_keep (by assumption) ?_
        | refine setReg_keep (by assumption) ?_
        | refine partCfgWrite_keep (by assumption) (by assumption) ?_
        | refine untilBoundary_keep (by assumption) ?_ | refine holdForce_keep (by assumption) ?_
        | refine afterWrite_keep (by assumption) (by assumption) ?_
        | refine writePlain_keep (by assumption) (by assumption) (by assumption) ?_)
    | split)

theorem plainWrite_keep (_m0 : m .time = true) (_m1 : m .regs = true) (_m2 : m .counters = true) (_m3 : m .latches = true) (_m4 : m .msix = true) (_m5 : m .events = true) (_m6 : m .waits = true) (_m7 : m .outputs = true) (h : Keep m s X) : Keep m s (plainWrite a0 a1 X a3 a4 a5 a6) := by
  unfold plainWrite
  repeat' (first
    | (with_reducible first
        | assumption
        | refine headerWrite_keep (by assumption) (by assumption) (by assumption) (by assumption) (by assumption) ?_
        | refine blockWrite_keep (by assumption) (by assumption) (by assumption) (by assumption) (by assumption) (by assumption) (by assumption) (by assumption) ?_)
    | split)

theorem plainRow_keep (_m0 : m .time = true) (_m1 : m .regs = true) (_m2 : m .counters = true) (_m3 : m .latches = true) (_m4 : m .msix = true) (_m5 : m .events = true) (_m6 : m .waits = true) (_m7 : m .outputs = true) (h : Keep m s X) : KeepRes m s (plainRow a0 a1 a2 X) := by
  unfold plainRow
  repeat' (with_reducible first
      | assumption | refine guarded_keep ?_
      | refine serveWrite_keep (by assumption) (by assumption) (by assumption) (by assumption) (by assumption) (by assumption) ?_ (fun _ _ _ _ _ _ => ?_)
      | refine plainWrite_keep (by assumption) (by assumption) (by assumption) (by assumption) (by assumption) (by assumption) (by assumption) (by assumption) ?_)

theorem execBlkEnable_keep (_m0 : m .time = true) (_m1 : m .regs = true) (_m2 : m .counters = true) (_m3 : m .latches = true) (_m4 : m .msix = true) (_m5 : m .events = true) (_m6 : m .waits = true) (_m7 : m .outputs = true) (h : Keep m s X) : KeepRes m s (execBlkEnable a0 X) := by
  unfold execBlkEnable
  repeat' (with_reducible first
      | assumption
      | refine plainRow_keep (by assumption) (by assumption) (by assumption) (by assumption) (by assumption) (by assumption) (by assumption) (by assumption) ?_)

theorem execBlkQuiesce_keep (_m0 : m .time = true) (_m1 : m .regs = true) (_m2 : m .counters = true) (_m3 : m .latches = true) (_m4 : m .msix = true) (_m5 : m .events = true) (_m6 : m .waits = true) (_m7 : m .outputs = true) (h : Keep m s X) : KeepRes m s (execBlkQuiesce a0 X) := by
  unfold execBlkQuiesce
  repeat' (with_reducible first
      | assumption
      | refine plainRow_keep (by assumption) (by assumption) (by assumption) (by assumption) (by assumption) (by assumption) (by assumption) (by assumption) ?_)

theorem execBlockReset_keep (_m0 : m .time = true) (_m1 : m .regs = true) (_m2 : m .counters = true) (_m3 : m .latches = true) (_m4 : m .msix = true) (_m5 : m .events = true) (_m6 : m .waits = true) (_m7 : m .outputs = true) (h : Keep m s X) : KeepRes m s (execBlockReset a0 X) := by
  unfold execBlockReset
  repeat' (with_reducible first
      | assumption
      | refine plainRow_keep (by assumption) (by assumption) (by assumption) (by assumption) (by assumption) (by assumption) (by assumption) (by assumption) ?_)

theorem execBlkIntEnWrite_keep (_m0 : m .time = true) (_m1 : m .regs = true) (_m2 : m .counters = true) (_m3 : m .latches = true) (_m4 : m .msix = true) (_m5 : m .events = true) (_m6 : m .waits = true) (_m7 : m .outputs = true) (h : Keep m s X) : KeepRes m s (execBlkIntEnWrite a0 X) := by
  unfold execBlkIntEnWrite
  repeat' (with_reducible first
      | assumption
      | refine plainRow_keep (by assumption) (by assumption) (by assumption) (by assumption) (by assumption) (by assumption) (by assumption) (by assumption) ?_)

theorem execBlkSnap_keep (_m0 : m .time = true) (_m1 : m .regs = true) (_m2 : m .counters = true) (_m3 : m .latches = true) (_m4 : m .msix = true) (_m5 : m .events = true) (_m6 : m .waits = true) (_m7 : m .outputs = true) (h : Keep m s X) : KeepRes m s (execBlkSnap a0 X) := by
  unfold execBlkSnap
  repeat' (with_reducible first
      | assumption
      | refine plainRow_keep (by assumption) (by assumption) (by assumption) (by assumption) (by assumption) (by assumption) (by assumption) (by assumption) ?_)

theorem execBlkOwnerWrite_keep (_m0 : m .time = true) (_m1 : m .regs = true) (_m2 : m .counters = true) (_m3 : m .latches = true) (_m4 : m .msix = true) (_m5 : m .events = true) (_m6 : m .waits = true) (_m7 : m .outputs = true) (h : Keep m s X) : KeepRes m s (execBlkOwnerWrite a0 X) := by
  unfold execBlkOwnerWrite
  repeat' (with_reducible first
      | assumption
      | refine plainRow_keep (by assumption) (by assumption) (by assumption) (by assumption) (by assumption) (by assumption) (by assumption) (by assumption) ?_)

theorem execDevAccessErrWrite_keep (_m0 : m .time = true) (_m1 : m .regs = true) (_m2 : m .counters = true) (_m3 : m .latches = true) (_m4 : m .msix = true) (_m5 : m .events = true) (_m6 : m .waits = true) (_m7 : m .outputs = true) (h : Keep m s X) : KeepRes m s (execDevAccessErrWrite a0 X) := by
  unfold execDevAccessErrWrite
  repeat' (with_reducible first
      | assumption
      | refine plainRow_keep (by assumption) (by assumption) (by assumption) (by assumption) (by assumption) (by assumption) (by assumption) (by assumption) ?_)

theorem execHubLastgaspClr_keep (_m0 : m .time = true) (_m1 : m .regs = true) (_m2 : m .counters = true) (_m3 : m .latches = true) (_m4 : m .msix = true) (_m5 : m .events = true) (_m6 : m .waits = true) (_m7 : m .outputs = true) (h : Keep m s X) : KeepRes m s (execHubLastgaspClr a0 X) := by
  unfold execHubLastgaspClr
  repeat' (with_reducible first
      | assumption
      | refine plainRow_keep (by assumption) (by assumption) (by assumption) (by assumption) (by assumption) (by assumption) (by assumption) (by assumption) ?_)

theorem execWindowIndexLatch_keep (_m0 : m .time = true) (_m1 : m .regs = true) (_m2 : m .counters = true) (_m3 : m .latches = true) (_m4 : m .msix = true) (_m5 : m .events = true) (_m6 : m .waits = true) (_m7 : m .outputs = true) (h : Keep m s X) : KeepRes m s (execWindowIndexLatch a0 X) := by
  unfold execWindowIndexLatch
  repeat' (with_reducible first
      | assumption
      | refine plainRow_keep (by assumption) (by assumption) (by assumption) (by assumption) (by assumption) (by assumption) (by assumption) (by assumption) ?_)

theorem execCounterWrite_keep (_m0 : m .time = true) (_m1 : m .regs = true) (_m2 : m .counters = true) (_m3 : m .latches = true) (_m4 : m .msix = true) (_m5 : m .events = true) (_m6 : m .waits = true) (_m7 : m .outputs = true) (h : Keep m s X) : KeepRes m s (execCounterWrite a0 a1 X) := by
  unfold execCounterWrite
  repeat' (with_reducible first
      | assumption
      | refine plainRow_keep (by assumption) (by assumption) (by assumption) (by assumption) (by assumption) (by assumption) (by assumption) (by assumption) ?_)

theorem mboxWrite_keep (_m0 : m .nvs = true) (_m1 : m .hosts = true) (_m2 : m .twins = true) (_m3 : m .time = true) (_m4 : m .regs = true) (_m5 : m .counters = true) (_m6 : m .latches = true) (_m7 : m .msix = true) (_m8 : m .events = true) (_m9 : m .waits = true) (_m10 : m .free = true) (_m11 : m .outputs = true) (h : Keep m s X) : KeepRes m s (mboxWrite a0 X) := by
  unfold mboxWrite
  repeat' (first
    | (with_reducible first
        | assumption
        | refine serveWrite_keep (by assumption) (by assumption) (by assumption) (by assumption) (by assumption) (by assumption) ?_ (fun _ _ _ _ _ _ => ?_)
        | refine plainWrite_keep (by assumption) (by assumption) (by assumption) (by assumption) (by assumption) (by assumption) (by assumption) (by assumption) ?_
        | refine execMbxPartAssign_keep (by assumption) (by assumption) (by assumption) (by assumption) (by assumption) (by assumption) ?_
        | refine execPartRelease_keep (by assumption) (by assumption) (by assumption) (by assumption) (by assumption) (by assumption) ?_
        | refine execPartReset_keep (by assumption) (by assumption) (by assumption) (by assumption) (by assumption) (by assumption) (by assumption) (by assumption) ?_
        | refine drawFree_keep (by assumption) ?_
        | refine execLifecycle_keep (by assumption) (by assumption) (by assumption) (by assumption) (by assumption) (by assumption) ?_
        | refine execSetTwin_keep (by assumption) (by assumption) (by assumption) (by assumption) (by assumption) (by assumption) ?_
        | refine execSetShape_keep (by assumption) (by assumption) (by assumption) (by assumption) (by assumption) (by assumption) (by assumption) ?_
        | refine execSetEpochBase_keep (by assumption) (by assumption) (by assumption) (by assumption) (by assumption) (by assumption) (by assumption) ?_
        | refine execTakeover_keep (by assumption) (by assumption) (by assumption) (by assumption) (by assumption) (by assumption) (by assumption) ?_
        | refine mboxGo_keep (by assumption) ?_ (fun _ _ => ?_)
        | refine mboxDone_keep (by assumption) (by assumption) (by assumption) ?_
        | refine keepRes_next ?_ | refine keepSnd_proj ?_)
    | split)

theorem formeWrite_keep (_m0 : m .impos = true) (_m1 : m .groups = true) (_m2 : m .links = true) (_m3 : m .time = true) (_m4 : m .regs = true) (_m5 : m .counters = true) (_m6 : m .latches = true) (_m7 : m .msix = true) (_m8 : m .events = true) (_m9 : m .waits = true) (_m10 : m .free = true) (_m11 : m .outputs = true) (h : Keep m s X) : KeepRes m s (formeWrite a0 X) := by
  unfold formeWrite
  repeat' (first
    | (with_reducible first
        | assumption
        | refine execLoadForme_keep (by assumption) (by assumption) (by assumption) (by assumption) (by assumption) (by assumption) (by assumption) ?_
        | refine execActivate_keep (by assumption) (by assumption) (by assumption) (by assumption) (by assumption) (by assumption) (by assumption) (by assumption) (by assumption) ?_
        | refine execUnload_keep (by assumption) (by assumption) (by assumption) (by assumption) (by assumption) (by assumption) (by assumption) ?_
        | refine execClearSuspect_keep (by assumption) (by assumption) (by assumption) (by assumption) (by assumption) (by assumption) (by assumption) ?_
        | refine serveWrite_keep (by assumption) (by assumption) (by assumption) (by assumption) (by assumption) (by assumption) ?_ (fun _ _ _ _ _ _ => ?_)
        | refine plainWrite_keep (by assumption) (by assumption) (by assumption) (by assumption) (by assumption) (by assumption) (by assumption) (by assumption) ?_
        | refine keepRes_next ?_)
    | split)

theorem anyWrite_keep (_m0 : m .memory = true) (_m1 : m .galley = true) (_m2 : m .tensors = true) (_m3 : m .moves = true) (_m4 : m .impos = true) (_m5 : m .steps = true) (_m6 : m .groups = true) (_m7 : m .halves = true) (_m8 : m .dies = true) (_m9 : m .nvs = true) (_m10 : m .ports = true) (_m11 : m .links = true) (_m12 : m .hosts = true) (_m13 : m .commands = true) (_m14 : m .twins = true) (_m15 : m .units = true) (_m16 : m .time = true) (_m17 : m .hubs = true) (_m18 : m .sources = true) (_m19 : m .regs = true) (_m20 : m .counters = true) (_m21 : m .latches = true) (_m22 : m .msix = true) (_m23 : m .events = true) (_m24 : m .waits = true) (_m25 : m .free = true) (_m26 : m .outputs = true) (h : Keep m s X) : KeepRes m s (anyWrite a0 X) := by
  unfold anyWrite
  repeat' (first
    | (with_reducible first
        | assumption
        | refine serveWrite_keep (by assumption) (by assumption) (by assumption) (by assumption) (by assumption) (by assumption) ?_ (fun _ _ _ _ _ _ => ?_)
        | refine plainWrite_keep (by assumption) (by assumption) (by assumption) (by assumption) (by assumption) (by assumption) (by assumption) (by assumption) ?_
        | refine resetRow_keep (by assumption) (by assumption) (by assumption) (by assumption) (by assumption) (by assumption) (by assumption) (by assumption) (by assumption) (by assumption) (by assumption) (by assumption) (by assumption) (by assumption) (by assumption) (by assumption) (by assumption) (by assumption) (by assumption) (by assumption) (by assumption) (by assumption) (by assumption) (by assumption) (by assumption) (by assumption) (by assumption) ?_
        | refine execResumeHalted_keep (by assumption) (by assumption) (by assumption) (by assumption) (by assumption) (by assumption) (by assumption) (by assumption) ?_
        | refine execDevRegionCommit_keep (by assumption) (by assumption) (by assumption) (by assumption) (by assumption) (by assumption) (by assumption) (by assumption) ?_
        | refine execDevHostArbWrite_keep (by assumption) (by assumption) (by assumption) (by assumption) (by assumption) (by assumption) (by assumption) ?_
        | refine mboxWrite_keep (by assumption) (by assumption) (by assumption) (by assumption) (by assumption) (by assumption) (by assumption) (by assumption) (by assumption) (by assumption) (by assumption) (by assumption) ?_
        | refine execGalPartCommit_keep (by assumption) (by assumption) (by assumption) (by assumption) (by assumption) (by assumption) (by assumption) (by assumption) ?_
        | refine formeWrite_keep (by assumption) (by assumption) (by assumption) (by assumption) (by assumption) (by assumption) (by assumption) (by assumption) (by assumption) (by assumption) (by assumption) (by assumption) ?_
        | refine fabCtrlRow_keep (by assumption) (by assumption) (by assumption) (by assumption) (by assumption) (by assumption) (by assumption) (by assumption) (by assumption) (by assumption) (by assumption) (by assumption) (by assumption) (by assumption) (by assumption) (by assumption) (by assumption) ?_
        | refine execFabMapWrite_keep (by assumption) (by assumption) (by assumption) (by assumption) (by assumption) (by assumption) ?_
        | refine execFabRtCommit_keep (by assumption) (by assumption) (by assumption) (by assumption) (by assumption) (by assumption) ?_
        | refine execChMapout_keep (by assumption) (by assumption) (by assumption) (by assumption) (by assumption) (by assumption) (by assumption) (by assumption) (by assumption) (by assumption) (by assumption) (by assumption) (by assumption) (by assumption) (by assumption) (by assumption) (by assumption) (by assumption) (by assumption) (by assumption) ?_
        | refine execNbuMapout_keep (by assumption) (by assumption) (by assumption) (by assumption) (by assumption) (by assumption) (by assumption) (by assumption) (by assumption) (by assumption) (by assumption) (by assumption) (by assumption) (by assumption) (by assumption) (by assumption) (by assumption) (by assumption) (by assumption) (by assumption) ?_
        | refine execNbuBiasCommit_keep (by assumption) (by assumption) (by assumption) (by assumption) (by assumption) (by assumption) ?_
        | refine execNbuBiasOwnerWrite_keep (by assumption) (by assumption) (by assumption) (by assumption) (by assumption) (by assumption) ?_
        | refine execPartCtrlReset_keep (by assumption) (by assumption) (by assumption) (by assumption) (by assumption) (by assumption) (by assumption) (by assumption) ?_
        | refine ringRow_keep (by assumption) (by assumption) (by assumption) (by assumption) (by assumption) (by assumption) (by assumption) ?_
        | refine execQSqDb_keep (by assumption) (by assumption) (by assumption) (by assumption) (by assumption) (by assumption) (by assumption) ?_
        | refine execQCqDb_keep (by assumption) (by assumption) (by assumption) (by assumption) (by assumption) (by assumption) (by assumption) ?_
        | refine execQOutDb_keep (by assumption) (by assumption) (by assumption) (by assumption) (by assumption) (by assumption) (by assumption) ?_
        | refine snapCtrlRow_keep (by assumption) (by assumption) (by assumption) (by assumption) (by assumption) (by assumption) ?_
        | refine stopCtrlRow_keep (by assumption) (by assumption) (by assumption) (by assumption) (by assumption) (by assumption) (by assumption) (by assumption) (by assumption) (by assumption) (by assumption) (by assumption) (by assumption) (by assumption) (by assumption) ?_
        | refine execTrcClear_keep (by assumption) (by assumption) (by assumption) (by assumption) (by assumption) (by assumption) (by assumption) (by assumption) ?_
        | refine execTrcDumpGo_keep (by assumption) (by assumption) (by assumption) (by assumption) (by assumption) (by assumption) (by assumption) (by assumption) ?_
        | refine keepRes_next ?_)
    | split)

theorem execRegisterWrite_keep (_m0 : m .memory = true) (_m1 : m .galley = true) (_m2 : m .tensors = true) (_m3 : m .moves = true) (_m4 : m .impos = true) (_m5 : m .steps = true) (_m6 : m .groups = true) (_m7 : m .halves = true) (_m8 : m .dies = true) (_m9 : m .nvs = true) (_m10 : m .ports = true) (_m11 : m .links = true) (_m12 : m .hosts = true) (_m13 : m .commands = true) (_m14 : m .twins = true) (_m15 : m .units = true) (_m16 : m .time = true) (_m17 : m .hubs = true) (_m18 : m .sources = true) (_m19 : m .regs = true) (_m20 : m .counters = true) (_m21 : m .latches = true) (_m22 : m .msix = true) (_m23 : m .events = true) (_m24 : m .waits = true) (_m25 : m .free = true) (_m26 : m .outputs = true) (h : Keep m s X) : KeepRes m s (execRegisterWrite a0 X) := by
  unfold execRegisterWrite
  repeat' (with_reducible first
      | assumption
      | refine anyWrite_keep (by assumption) (by assumption) (by assumption) (by assumption) (by assumption) (by assumption) (by assumption) (by assumption) (by assumption) (by assumption) (by assumption) (by assumption) (by assumption) (by assumption) (by assumption) (by assumption) (by assumption) (by assumption) (by assumption) (by assumption) (by assumption) (by assumption) (by assumption) (by assumption) (by assumption) (by assumption) (by assumption) ?_)

theorem runWrite_keep (_m0 : m .memory = true) (_m1 : m .galley = true) (_m2 : m .tensors = true) (_m3 : m .moves = true) (_m4 : m .impos = true) (_m5 : m .steps = true) (_m6 : m .groups = true) (_m7 : m .halves = true) (_m8 : m .dies = true) (_m9 : m .nvs = true) (_m10 : m .ports = true) (_m11 : m .links = true) (_m12 : m .hosts = true) (_m13 : m .commands = true) (_m14 : m .twins = true) (_m15 : m .units = true) (_m16 : m .time = true) (_m17 : m .hubs = true) (_m18 : m .sources = true) (_m19 : m .regs = true) (_m20 : m .counters = true) (_m21 : m .latches = true) (_m22 : m .msix = true) (_m23 : m .events = true) (_m24 : m .waits = true) (_m25 : m .free = true) (_m26 : m .outputs = true) (h : Keep m s X) : Keep m s (runWrite X a1) := by
  unfold runWrite
  repeat' (first
    | (with_reducible first
        | assumption
        | refine anyWrite_keep (by assumption) (by assumption) (by assumption) (by assumption) (by assumption) (by assumption) (by assumption) (by assumption) (by assumption) (by assumption) (by assumption) (by assumption) (by assumption) (by assumption) (by assumption) (by assumption) (by assumption) (by assumption) (by assumption) (by assumption) (by assumption) (by assumption) (by assumption) (by assumption) (by assumption) (by assumption) (by assumption) ?_
        | refine keepRes_of ?_ (by with_reducible assumption))
    | split)

theorem execStileMsg_keep (_m0 : m .memory = true) (_m1 : m .galley = true) (_m2 : m .tensors = true) (_m3 : m .moves = true) (_m4 : m .impos = true) (_m5 : m .steps = true) (_m6 : m .groups = true) (_m7 : m .halves = true) (_m8 : m .dies = true) (_m9 : m .nvs = true) (_m10 : m .ports = true) (_m11 : m .links = true) (_m12 : m .hosts = true) (_m13 : m .commands = true) (_m14 : m .twins = true) (_m15 : m .units = true) (_m16 : m .time = true) (_m17 : m .hubs = true) (_m18 : m .sources = true) (_m19 : m .regs = true) (_m20 : m .counters = true) (_m21 : m .latches = true) (_m22 : m .msix = true) (_m23 : m .events = true) (_m24 : m .waits = true) (_m25 : m .free = true) (_m26 : m .outputs = true) (h : Keep m s X) : KeepRes m s (execStileMsg a0 a1 X) := by
  unfold execStileMsg
  repeat' (first
    | (with_reducible first
        | assumption | refine guarded_keep ?_
        | refine onMsg_keep (by assumption) (by assumption) (by assumption) (by assumption) (by assumption) (by assumption) ?_ (fun _ _ _ => ?_)
        | refine runWrite_keep (by assumption) (by assumption) (by assumption) (by assumption) (by assumption) (by assumption) (by assumption) (by assumption) (by assumption) (by assumption) (by assumption) (by assumption) (by assumption) (by assumption) (by assumption) (by assumption) (by assumption) (by assumption) (by assumption) (by assumption) (by assumption) (by assumption) (by assumption) (by assumption) (by assumption) (by assumption) (by assumption) ?_)
    | split)

theorem execQuiesced_keep (_m0 : m .regs = true) (h : Keep m s X) : KeepRes m s (execQuiesced a0 X) := by
  unfold execQuiesced
  repeat' (first
    | (with_reducible first
        | assumption | refine guarded_keep ?_ | refine putBit_keep (by assumption) ?_)
    | split)

theorem resetFollows_keep (_m0 : m .memory = true) (_m1 : m .hubs = true) (_m2 : m .regs = true) (h : Keep m s X) : Keep m s (resetFollows X a1) := by
  unfold resetFollows
  repeat' (first
    | (with_reducible first
        | assumption | refine setArb_keep (by assumption) ?_
        | refine refreshCores_keep (by assumption) ?_
        | refine giveTable_keep (by assumption) (by assumption) ?_
        | refine stopRing_keep (by assumption) ?_ | refine keep_foldl (fun _ _ _ => ?_) ?_)
    | split)

theorem resetBlock_keep (_m0 : m .memory = true) (_m1 : m .hubs = true) (_m2 : m .regs = true) (_m3 : m .latches = true) (_m4 : m .waits = true) (h : Keep m s X) : Keep m s (resetBlock X a1) := by
  unfold resetBlock
  repeat' (first
    | (with_reducible assumption)
    | ((try lift_lets -underBinder); intro x; clear_value (e : x = _); first | (with_reducible refine keep_let (m := m) (s := s) e ?_ (fun _ => ?_) <;> clear e) | clear e)
    | (with_reducible first
        | refine resetFollows_keep (by assumption) (by assumption) (by assumption) ?_
        | refine putBit_keep (by assumption) ?_)
    | split
    | (with_reducible refine keep_mk ?_))

theorem execBlockResetDone_keep (_m0 : m .memory = true) (_m1 : m .hubs = true) (_m2 : m .regs = true) (_m3 : m .latches = true) (_m4 : m .waits = true) (h : Keep m s X) : KeepRes m s (execBlockResetDone a0 X) := by
  unfold execBlockResetDone
  repeat' (first
    | (with_reducible first
        | assumption | refine guarded_keep ?_
        | refine resetBlock_keep (by assumption) (by assumption) (by assumption) (by assumption) (by assumption) ?_)
    | split)

theorem unshadow_keep (_m0 : m .regs = true) (h : Keep m s X) : Keep m s (unshadow X a1) := by
  unfold unshadow
  repeat' (first
    | (with_reducible first | assumption | refine setReg_keep (by assumption) ?_)
    | split)

theorem deliver_keep (_m0 : m .time = true) (_m1 : m .regs = true) (_m2 : m .counters = true) (_m3 : m .latches = true) (_m4 : m .msix = true) (_m5 : m .events = true) (_m6 : m .waits = true) (_m7 : m .outputs = true) (h : Keep m s X) : Keep m s (deliver X a1) := by
  unfold deliver
  repeat' (first
    | (with_reducible first
        | assumption
        | refine plainWrite_keep (by assumption) (by assumption) (by assumption) (by assumption) (by assumption) (by assumption) (by assumption) (by assumption) ?_)
    | split)

theorem execDieWake_keep (_m0 : m .dies = true) (_m1 : m .time = true) (_m2 : m .regs = true) (_m3 : m .counters = true) (_m4 : m .latches = true) (_m5 : m .msix = true) (_m6 : m .events = true) (_m7 : m .waits = true) (_m8 : m .outputs = true) (h : Keep m s X) : KeepRes m s (execDieWake a0 X) := by
  unfold execDieWake
  repeat' (first
    | (with_reducible assumption)
    | ((try lift_lets -underBinder); intro x; clear_value (e : x = _); first | (with_reducible refine keep_let (m := m) (s := s) e ?_ (fun _ => ?_) <;> clear e) | clear e)
    | (with_reducible first
        | refine State_setDie_keep (by assumption) ?_
        | refine deliver_keep (by assumption) (by assumption) (by assumption) (by assumption) (by assumption) (by assumption) (by assumption) (by assumption) ?_
        | refine unshadow_keep (by assumption) ?_ | refine keep_foldl (fun _ _ _ => ?_) ?_
        | refine keepRes_next ?_)
    | split
    | (with_reducible refine keep_mk ?_))

end Sys2Proof.Machine
end

