-- ==== Sys2Proof/Laws/State.lean ====
section
/-!
SUPPORT. What each update of the state leaves: for each field that it does not write, one lemma; and what a register, a field, a
bit, an entry reads as after an update.
-/
set_option Elab.async false
set_option linter.all false
namespace Sys2Proof.Machine

variable (s : State)

/-! ### Registers -/

@[simp] theorem getReg_setReg_same (a : Nat) (w : Word) : getReg (setReg s a w) a = w := Map.get_set_same ..

theorem getReg_setReg_other (a b : Nat) (w : Word) (h : b ≠ a) : getReg (setReg s a w) b = getReg s b := Map.get_set_other _ _ _ _ _ h

theorem getReg_putFld_other (a l n v b : Nat) (h : b ≠ a) : getReg (putFld s a l n v) b = getReg s b := getReg_setReg_other _ _ _ _ h

theorem getReg_putBit_other (a i : Nat) (x : Bool) (b : Nat) (h : b ≠ a) : getReg (putBit s a i x) b = getReg s b :=
  getReg_setReg_other _ _ _ _ h

theorem getFld_putFld_same (a l n v : Nat) (h : l + n ≤ 64) : getFld (putFld s a l n v) a l n = v % 2 ^ n := by
  rw [getFld, putFld, getReg_setReg_same, fld_setFld_same _ _ _ _ h]

theorem getFld_putFld_disjoint (a l n v l' n' : Nat) (h : l' + n' ≤ l ∨ l + n ≤ l') : getFld (putFld s a l n v) a l' n' = getFld s a l' n' := by
  rw [getFld, putFld, getReg_setReg_same, fld_setFld_other _ _ _ _ _ _ h, getFld]

theorem getFld_putFld_other (a l n v b l' n' : Nat) (h : b ≠ a) : getFld (putFld s a l n v) b l' n' = getFld s b l' n' := by
  rw [getFld, getReg_putFld_other _ _ _ _ _ _ h, getFld]

theorem getFld_putBit_disjoint (a i : Nat) (x : Bool) (l n : Nat) (h : i < l ∨ l + n ≤ i) : getFld (putBit s a i x) a l n = getFld s a l n := by
  rw [getFld, putBit, getReg_setReg_same, fld_setBit_other _ _ _ _ _ h, getFld]

theorem getFld_putBit_other (a i : Nat) (x : Bool) (b l n : Nat) (h : b ≠ a) : getFld (putBit s a i x) b l n = getFld s b l n := by
  rw [getFld, getReg_putBit_other _ _ _ _ _ h, getFld]

theorem getBit_putBit_same (a i : Nat) (x : Bool) (h : i < 64) : getBit (putBit s a i x) a i = x := by
  rw [getBit, putBit, getReg_setReg_same, bit_setBit_same _ _ _ h]

theorem getBit_putBit_disjoint (a i j : Nat) (x : Bool) (h : j ≠ i) : getBit (putBit s a i x) a j = getBit s a j := by
  rw [getBit, putBit, getReg_setReg_same, bit_setBit_other _ _ _ _ h, getBit]

theorem getBit_putBit_other (a i : Nat) (x : Bool) (b j : Nat) (h : b ≠ a) : getBit (putBit s a i x) b j = getBit s b j := by
  rw [getBit, getReg_putBit_other _ _ _ _ _ h, getBit]

theorem getBit_putFld_disjoint (a l n v j : Nat) (h : j < l ∨ l + n ≤ j) : getBit (putFld s a l n v) a j = getBit s a j := by
  rw [getBit, putFld, getReg_setReg_same, bit_setFld_other _ _ _ _ _ h, getBit]

theorem getBit_putFld_other (a l n v b j : Nat) (h : b ≠ a) : getBit (putFld s a l n v) b j = getBit s b j := by
  rw [getBit, getReg_putFld_other _ _ _ _ _ _ h, getBit]

@[simp] theorem getCnt_setCnt_same (a : Nat) (w : Word) : getCnt (setCnt s a w) a = w := Map.get_set_same ..

theorem getCnt_setCnt_other (a b : Nat) (w : Word) (h : b ≠ a) : getCnt (setCnt s a w) b = getCnt s b := Map.get_set_other _ _ _ _ _ h

/-! ### Halves, hubs, and the tables -/

@[simp] theorem half_setHalf_same (h : Half) (x : HalfState) : (s.setHalf h x).half h = x := by cases h <;> rfl
@[simp] theorem half_setHalf_other (h : Half) (x : HalfState) : (s.setHalf h x).half h.other = s.half h.other := by cases h <;> rfl
@[simp] theorem hub_setHub_same (h : Half) (x : HubState) : (s.setHub h x).hub h = x := by cases h <;> rfl
@[simp] theorem hub_setHub_other (h : Half) (x : HubState) : (s.setHub h x).hub h.other = s.hub h.other := by cases h <;> rfl
@[simp] theorem die_setDie_same (d : Nat) (x : DiePair) : (s.setDie d x).die d = x := Map.get_set_same ..
@[simp] theorem link_setLink_same (p : Nat) (x : Link) : (s.setLink p x).link p = x := Map.get_set_same ..
@[simp] theorem time_setTime_same (p : Nat) (x : TimePort) : (s.setTime p x).time p = x := Map.get_set_same ..
@[simp] theorem port_setPort_same (p : Nat) (x : Port) : (s.setPort p x).port p = x := Map.get_set_same ..
@[simp] theorem entry_setEntry_same (i : Nat) (x : Entry) : (s.setEntry i x).entry i = x := Map.get_set_same ..
@[simp] theorem tree_setTree_same (i : Nat) (x : PrefixTree) : (s.setTree i x).tree i = x := Map.get_set_same ..
@[simp] theorem impo_setImpo_same (i : Nat) (x : ImpoSlot) : (s.setImpo i x).impo i = x := Map.get_set_same ..
@[simp] theorem tensor_setTensor_same (i : Nat) (x : Tensor) : (s.setTensor i x).tensor i = x := Map.get_set_same ..
@[simp] theorem ring_setRing_same (n : Nat) (b : Bool) (x : RingState) : (s.setRing n b x).ring n b = x := Map.get_set_same ..
@[simp] theorem source_setSource_same (i : Nat) (x : TraceSource) : (s.setSource i x).source i = x := Map.get_set_same ..
@[simp] theorem mirror_setMirror_same (i : Nat) (x : MirrorEntry) : (s.setMirror i x).mirror i = x := Map.get_set_same ..
@[simp] theorem group_setGroup_same (i : Nat) (x : GroupState) : (s.setGroup i x).group i = x := Map.get_set_same ..
@[simp] theorem chan_setChan_same (d c : Nat) (x : Channel) : (s.setChan d c x).chan d c = x := Map.get_set_same ..
@[simp] theorem nbu_setNbu_same (d c k : Nat) (x : Nbu) : (s.setNbu d c k x).nbu d c k = x := Map.get_set_same ..
@[simp] theorem core_setCore_same (d p : Nat) (x : CoreState) : (s.setCore d p x).core d p = x := Map.get_set_same ..
theorem link_setLink_other (p : Nat) (x : Link) (j : Nat) (h : j ≠ p) : (s.setLink p x).link j = s.link j := Map.get_set_other _ _ _ _ _ h
theorem time_setTime_other (p : Nat) (x : TimePort) (j : Nat) (h : j ≠ p) : (s.setTime p x).time j = s.time j := Map.get_set_other _ _ _ _ _ h
theorem port_setPort_other (p : Nat) (x : Port) (j : Nat) (h : j ≠ p) : (s.setPort p x).port j = s.port j := Map.get_set_other _ _ _ _ _ h
theorem entry_setEntry_other (i : Nat) (x : Entry) (j : Nat) (h : j ≠ i) : (s.setEntry i x).entry j = s.entry j := Map.get_set_other _ _ _ _ _ h
theorem tree_setTree_other (i : Nat) (x : PrefixTree) (j : Nat) (h : j ≠ i) : (s.setTree i x).tree j = s.tree j := Map.get_set_other _ _ _ _ _ h
theorem impo_setImpo_other (i : Nat) (x : ImpoSlot) (j : Nat) (h : j ≠ i) : (s.setImpo i x).impo j = s.impo j := Map.get_set_other _ _ _ _ _ h
theorem tensor_setTensor_other (i : Nat) (x : Tensor) (j : Nat) (h : j ≠ i) : (s.setTensor i x).tensor j = s.tensor j := Map.get_set_other _ _ _ _ _ h
theorem source_setSource_other (i : Nat) (x : TraceSource) (j : Nat) (h : j ≠ i) : (s.setSource i x).source j = s.source j := Map.get_set_other _ _ _ _ _ h
theorem mirror_setMirror_other (i : Nat) (x : MirrorEntry) (j : Nat) (h : j ≠ i) : (s.setMirror i x).mirror j = s.mirror j := Map.get_set_other _ _ _ _ _ h
theorem group_setGroup_other (i : Nat) (x : GroupState) (j : Nat) (h : j ≠ i) : (s.setGroup i x).group j = s.group j := Map.get_set_other _ _ _ _ _ h
theorem die_setDie_other (d : Nat) (x : DiePair) (j : Nat) (h : j ≠ d) : (s.setDie d x).die j = s.die j := Map.get_set_other _ _ _ _ _ h

/-! ### Fields that an update does not write -/

/-- A projection that no register and no port carries is the same after a port is replaced. -/
theorem of_setPort {α : Type} (g : State → α) (hr : ∀ s a w, g (setReg s a w) = g s) (hp : ∀ (s : State) x, g { s with ports := x } = g s)
    (p : Nat) (x : Port) : g (s.setPort p x) = g s := by
  unfold State.setPort putFld
  exact (hr _ _ _).trans (hp _ _)

@[simp] theorem setReg_pending (a : Nat) (w : Word) : (setReg s a w).pending = s.pending := rfl
@[simp] theorem setReg_free (a : Nat) (w : Word) : (setReg s a w).free = s.free := rfl
@[simp] theorem setReg_clock (a : Nat) (w : Word) : (setReg s a w).clock = s.clock := rfl
@[simp] theorem setReg_cnt (a : Nat) (w : Word) : (setReg s a w).cnt = s.cnt := rfl
@[simp] theorem setReg_snap (a : Nat) (w : Word) : (setReg s a w).snap = s.snap := rfl
@[simp] theorem setReg_latch (a : Nat) (w : Word) : (setReg s a w).latch = s.latch := rfl
@[simp] theorem setReg_msix (a : Nat) (w : Word) : (setReg s a w).msix = s.msix := rfl
@[simp] theorem setReg_west (a : Nat) (w : Word) : (setReg s a w).west = s.west := rfl
@[simp] theorem setReg_east (a : Nat) (w : Word) : (setReg s a w).east = s.east := rfl
@[simp] theorem setReg_hubWest (a : Nat) (w : Word) : (setReg s a w).hubWest = s.hubWest := rfl
@[simp] theorem setReg_hubEast (a : Nat) (w : Word) : (setReg s a w).hubEast = s.hubEast := rfl
@[simp] theorem setReg_hubLink (a : Nat) (w : Word) : (setReg s a w).hubLink = s.hubLink := rfl
@[simp] theorem setReg_governor (a : Nat) (w : Word) : (setReg s a w).governor = s.governor := rfl
@[simp] theorem setReg_dies (a : Nat) (w : Word) : (setReg s a w).dies = s.dies := rfl
@[simp] theorem setReg_fuses (a : Nat) (w : Word) : (setReg s a w).fuses = s.fuses := rfl
@[simp] theorem setReg_nvs (a : Nat) (w : Word) : (setReg s a w).nvs = s.nvs := rfl
@[simp] theorem setReg_colophon (a : Nat) (w : Word) : (setReg s a w).colophon = s.colophon := rfl
@[simp] theorem setReg_fallow (a : Nat) (w : Word) : (setReg s a w).fallow = s.fallow := rfl
@[simp] theorem setReg_i3c (a : Nat) (w : Word) : (setReg s a w).i3c = s.i3c := rfl
@[simp] theorem setReg_tap (a : Nat) (w : Word) : (setReg s a w).tap = s.tap := rfl
@[simp] theorem setReg_events (a : Nat) (w : Word) : (setReg s a w).events = s.events := rfl
@[simp] theorem setReg_sources (a : Nat) (w : Word) : (setReg s a w).sources = s.sources := rfl
@[simp] theorem setReg_ports (a : Nat) (w : Word) : (setReg s a w).ports = s.ports := rfl
@[simp] theorem setReg_capture (a : Nat) (w : Word) : (setReg s a w).capture = s.capture := rfl
@[simp] theorem setReg_quiescing (a : Nat) (w : Word) : (setReg s a w).quiescing = s.quiescing := rfl
@[simp] theorem setReg_inForce (a : Nat) (w : Word) : (setReg s a w).inForce = s.inForce := rfl
@[simp] theorem setReg_tensors (a : Nat) (w : Word) : (setReg s a w).tensors = s.tensors := rfl
@[simp] theorem setReg_moves (a : Nat) (w : Word) : (setReg s a w).moves = s.moves := rfl
@[simp] theorem setReg_moveNext (a : Nat) (w : Word) : (setReg s a w).moveNext = s.moveNext := rfl
@[simp] theorem setReg_t1 (a : Nat) (w : Word) : (setReg s a w).t1 = s.t1 := rfl
@[simp] theorem setReg_poison (a : Nat) (w : Word) : (setReg s a w).poison = s.poison := rfl
@[simp] theorem setReg_wiping (a : Nat) (w : Word) : (setReg s a w).wiping = s.wiping := rfl
@[simp] theorem setReg_chans (a : Nat) (w : Word) : (setReg s a w).chans = s.chans := rfl
@[simp] theorem setReg_mapouts (a : Nat) (w : Word) : (setReg s a w).mapouts = s.mapouts := rfl
@[simp] theorem setReg_parityMoved (a : Nat) (w : Word) : (setReg s a w).parityMoved = s.parityMoved := rfl
@[simp] theorem setReg_nbus (a : Nat) (w : Word) : (setReg s a w).nbus = s.nbus := rfl
@[simp] theorem setReg_bias (a : Nat) (w : Word) : (setReg s a w).bias = s.bias := rfl
@[simp] theorem setReg_t0 (a : Nat) (w : Word) : (setReg s a w).t0 = s.t0 := rfl
@[simp] theorem setReg_cores (a : Nat) (w : Word) : (setReg s a w).cores = s.cores := rfl
@[simp] theorem setReg_entries (a : Nat) (w : Word) : (setReg s a w).entries = s.entries := rfl
@[simp] theorem setReg_trees (a : Nat) (w : Word) : (setReg s a w).trees = s.trees := rfl
@[simp] theorem setReg_impos (a : Nat) (w : Word) : (setReg s a w).impos = s.impos := rfl
@[simp] theorem setReg_loader (a : Nat) (w : Word) : (setReg s a w).loader = s.loader := rfl
@[simp] theorem setReg_steps (a : Nat) (w : Word) : (setReg s a w).steps = s.steps := rfl
@[simp] theorem setReg_arrived (a : Nat) (w : Word) : (setReg s a w).arrived = s.arrived := rfl
@[simp] theorem setReg_records (a : Nat) (w : Word) : (setReg s a w).records = s.records := rfl
@[simp] theorem setReg_due (a : Nat) (w : Word) : (setReg s a w).due = s.due := rfl
@[simp] theorem setReg_regions (a : Nat) (w : Word) : (setReg s a w).regions = s.regions := rfl
@[simp] theorem setReg_rings (a : Nat) (w : Word) : (setReg s a w).rings = s.rings := rfl
@[simp] theorem setReg_d3hot (a : Nat) (w : Word) : (setReg s a w).d3hot = s.d3hot := rfl
@[simp] theorem setReg_heldOut (a : Nat) (w : Word) : (setReg s a w).heldOut = s.heldOut := rfl
@[simp] theorem setReg_links (a : Nat) (w : Word) : (setReg s a w).links = s.links := rfl
@[simp] theorem setReg_inbox (a : Nat) (w : Word) : (setReg s a w).inbox = s.inbox := rfl
@[simp] theorem setReg_sent (a : Nat) (w : Word) : (setReg s a w).sent = s.sent := rfl
@[simp] theorem setReg_applied (a : Nat) (w : Word) : (setReg s a w).applied = s.applied := rfl
@[simp] theorem setReg_msgIds (a : Nat) (w : Word) : (setReg s a w).msgIds = s.msgIds := rfl
@[simp] theorem setReg_routes (a : Nat) (w : Word) : (setReg s a w).routes = s.routes := rfl
@[simp] theorem setReg_times (a : Nat) (w : Word) : (setReg s a w).times = s.times := rfl
@[simp] theorem setReg_mirrors (a : Nat) (w : Word) : (setReg s a w).mirrors = s.mirrors := rfl
@[simp] theorem setReg_homes (a : Nat) (w : Word) : (setReg s a w).homes = s.homes := rfl
@[simp] theorem setReg_home (a : Nat) (w : Word) : (setReg s a w).home = s.home := rfl
@[simp] theorem setReg_groups (a : Nat) (w : Word) : (setReg s a w).groups = s.groups := rfl
@[simp] theorem setReg_deferred (a : Nat) (w : Word) : (setReg s a w).deferred = s.deferred := rfl
@[simp] theorem setReg_gatedWrites (a : Nat) (w : Word) : (setReg s a w).gatedWrites = s.gatedWrites := rfl
@[simp] theorem setReg_out (a : Nat) (w : Word) : (setReg s a w).out = s.out := rfl

@[simp] theorem putFld_pending (a l n v : Nat) : (putFld s a l n v).pending = s.pending := setReg_pending ..
@[simp] theorem putFld_free (a l n v : Nat) : (putFld s a l n v).free = s.free := setReg_free ..
@[simp] theorem putFld_clock (a l n v : Nat) : (putFld s a l n v).clock = s.clock := setReg_clock ..
@[simp] theorem putFld_cnt (a l n v : Nat) : (putFld s a l n v).cnt = s.cnt := setReg_cnt ..
@[simp] theorem putFld_snap (a l n v : Nat) : (putFld s a l n v).snap = s.snap := setReg_snap ..
@[simp] theorem putFld_latch (a l n v : Nat) : (putFld s a l n v).latch = s.latch := setReg_latch ..
@[simp] theorem putFld_msix (a l n v : Nat) : (putFld s a l n v).msix = s.msix := setReg_msix ..
@[simp] theorem putFld_west (a l n v : Nat) : (putFld s a l n v).west = s.west := setReg_west ..
@[simp] theorem putFld_east (a l n v : Nat) : (putFld s a l n v).east = s.east := setReg_east ..
@[simp] theorem putFld_hubWest (a l n v : Nat) : (putFld s a l n v).hubWest = s.hubWest := setReg_hubWest ..
@[simp] theorem putFld_hubEast (a l n v : Nat) : (putFld s a l n v).hubEast = s.hubEast := setReg_hubEast ..
@[simp] theorem putFld_hubLink (a l n v : Nat) : (putFld s a l n v).hubLink = s.hubLink := setReg_hubLink ..
@[simp] theorem putFld_governor (a l n v : Nat) : (putFld s a l n v).governor = s.governor := setReg_governor ..
@[simp] theorem putFld_dies (a l n v : Nat) : (putFld s a l n v).dies = s.dies := setReg_dies ..
@[simp] theorem putFld_fuses (a l n v : Nat) : (putFld s a l n v).fuses = s.fuses := setReg_fuses ..
@[simp] theorem putFld_nvs (a l n v : Nat) : (putFld s a l n v).nvs = s.nvs := setReg_nvs ..
@[simp] theorem putFld_colophon (a l n v : Nat) : (putFld s a l n v).colophon = s.colophon := setReg_colophon ..
@[simp] theorem putFld_fallow (a l n v : Nat) : (putFld s a l n v).fallow = s.fallow := setReg_fallow ..
@[simp] theorem putFld_i3c (a l n v : Nat) : (putFld s a l n v).i3c = s.i3c := setReg_i3c ..
@[simp] theorem putFld_tap (a l n v : Nat) : (putFld s a l n v).tap = s.tap := setReg_tap ..
@[simp] theorem putFld_events (a l n v : Nat) : (putFld s a l n v).events = s.events := setReg_events ..
@[simp] theorem putFld_sources (a l n v : Nat) : (putFld s a l n v).sources = s.sources := setReg_sources ..
@[simp] theorem putFld_ports (a l n v : Nat) : (putFld s a l n v).ports = s.ports := setReg_ports ..
@[simp] theorem putFld_capture (a l n v : Nat) : (putFld s a l n v).capture = s.capture := setReg_capture ..
@[simp] theorem putFld_quiescing (a l n v : Nat) : (putFld s a l n v).quiescing = s.quiescing := setReg_quiescing ..
@[simp] theorem putFld_inForce (a l n v : Nat) : (putFld s a l n v).inForce = s.inForce := setReg_inForce ..
@[simp] theorem putFld_tensors (a l n v : Nat) : (putFld s a l n v).tensors = s.tensors := setReg_tensors ..
@[simp] theorem putFld_moves (a l n v : Nat) : (putFld s a l n v).moves = s.moves := setReg_moves ..
@[simp] theorem putFld_moveNext (a l n v : Nat) : (putFld s a l n v).moveNext = s.moveNext := setReg_moveNext ..
@[simp] theorem putFld_t1 (a l n v : Nat) : (putFld s a l n v).t1 = s.t1 := setReg_t1 ..
@[simp] theorem putFld_poison (a l n v : Nat) : (putFld s a l n v).poison = s.poison := setReg_poison ..
@[simp] theorem putFld_wiping (a l n v : Nat) : (putFld s a l n v).wiping = s.wiping := setReg_wiping ..
@[simp] theorem putFld_chans (a l n v : Nat) : (putFld s a l n v).chans = s.chans := setReg_chans ..
@[simp] theorem putFld_mapouts (a l n v : Nat) : (putFld s a l n v).mapouts = s.mapouts := setReg_mapouts ..
@[simp] theorem putFld_parityMoved (a l n v : Nat) : (putFld s a l n v).parityMoved = s.parityMoved := setReg_parityMoved ..
@[simp] theorem putFld_nbus (a l n v : Nat) : (putFld s a l n v).nbus = s.nbus := setReg_nbus ..
@[simp] theorem putFld_bias (a l n v : Nat) : (putFld s a l n v).bias = s.bias := setReg_bias ..
@[simp] theorem putFld_t0 (a l n v : Nat) : (putFld s a l n v).t0 = s.t0 := setReg_t0 ..
@[simp] theorem putFld_cores (a l n v : Nat) : (putFld s a l n v).cores = s.cores := setReg_cores ..
@[simp] theorem putFld_entries (a l n v : Nat) : (putFld s a l n v).entries = s.entries := setReg_entries ..
@[simp] theorem putFld_trees (a l n v : Nat) : (putFld s a l n v).trees = s.trees := setReg_trees ..
@[simp] theorem putFld_impos (a l n v : Nat) : (putFld s a l n v).impos = s.impos := setReg_impos ..
@[simp] theorem putFld_loader (a l n v : Nat) : (putFld s a l n v).loader = s.loader := setReg_loader ..
@[simp] theorem putFld_steps (a l n v : Nat) : (putFld s a l n v).steps = s.steps := setReg_steps ..
@[simp] theorem putFld_arrived (a l n v : Nat) : (putFld s a l n v).arrived = s.arrived := setReg_arrived ..
@[simp] theorem putFld_records (a l n v : Nat) : (putFld s a l n v).records = s.records := setReg_records ..
@[simp] theorem putFld_due (a l n v : Nat) : (putFld s a l n v).due = s.due := setReg_due ..
@[simp] theorem putFld_regions (a l n v : Nat) : (putFld s a l n v).regions = s.regions := setReg_regions ..
@[simp] theorem putFld_rings (a l n v : Nat) : (putFld s a l n v).rings = s.rings := setReg_rings ..
@[simp] theorem putFld_d3hot (a l n v : Nat) : (putFld s a l n v).d3hot = s.d3hot := setReg_d3hot ..
@[simp] theorem putFld_heldOut (a l n v : Nat) : (putFld s a l n v).heldOut = s.heldOut := setReg_heldOut ..
@[simp] theorem putFld_links (a l n v : Nat) : (putFld s a l n v).links = s.links := setReg_links ..
@[simp] theorem putFld_inbox (a l n v : Nat) : (putFld s a l n v).inbox = s.inbox := setReg_inbox ..
@[simp] theorem putFld_sent (a l n v : Nat) : (putFld s a l n v).sent = s.sent := setReg_sent ..
@[simp] theorem putFld_applied (a l n v : Nat) : (putFld s a l n v).applied = s.applied := setReg_applied ..
@[simp] theorem putFld_msgIds (a l n v : Nat) : (putFld s a l n v).msgIds = s.msgIds := setReg_msgIds ..
@[simp] theorem putFld_routes (a l n v : Nat) : (putFld s a l n v).routes = s.routes := setReg_routes ..
@[simp] theorem putFld_times (a l n v : Nat) : (putFld s a l n v).times = s.times := setReg_times ..
@[simp] theorem putFld_mirrors (a l n v : Nat) : (putFld s a l n v).mirrors = s.mirrors := setReg_mirrors ..
@[simp] theorem putFld_homes (a l n v : Nat) : (putFld s a l n v).homes = s.homes := setReg_homes ..
@[simp] theorem putFld_home (a l n v : Nat) : (putFld s a l n v).home = s.home := setReg_home ..
@[simp] theorem putFld_groups (a l n v : Nat) : (putFld s a l n v).groups = s.groups := setReg_groups ..
@[simp] theorem putFld_deferred (a l n v : Nat) : (putFld s a l n v).deferred = s.deferred := setReg_deferred ..
@[simp] theorem putFld_gatedWrites (a l n v : Nat) : (putFld s a l n v).gatedWrites = s.gatedWrites := setReg_gatedWrites ..
@[simp] theorem putFld_out (a l n v : Nat) : (putFld s a l n v).out = s.out := setReg_out ..

@[simp] theorem putBit_pending (a i : Nat) (b : Bool) : (putBit s a i b).pending = s.pending := setReg_pending ..
@[simp] theorem putBit_free (a i : Nat) (b : Bool) : (putBit s a i b).free = s.free := setReg_free ..
@[simp] theorem putBit_clock (a i : Nat) (b : Bool) : (putBit s a i b).clock = s.clock := setReg_clock ..
@[simp] theorem putBit_cnt (a i : Nat) (b : Bool) : (putBit s a i b).cnt = s.cnt := setReg_cnt ..
@[simp] theorem putBit_snap (a i : Nat) (b : Bool) : (putBit s a i b).snap = s.snap := setReg_snap ..
@[simp] theorem putBit_latch (a i : Nat) (b : Bool) : (putBit s a i b).latch = s.latch := setReg_latch ..
@[simp] theorem putBit_msix (a i : Nat) (b : Bool) : (putBit s a i b).msix = s.msix := setReg_msix ..
@[simp] theorem putBit_west (a i : Nat) (b : Bool) : (putBit s a i b).west = s.west := setReg_west ..
@[simp] theorem putBit_east (a i : Nat) (b : Bool) : (putBit s a i b).east = s.east := setReg_east ..
@[simp] theorem putBit_hubWest (a i : Nat) (b : Bool) : (putBit s a i b).hubWest = s.hubWest := setReg_hubWest ..
@[simp] theorem putBit_hubEast (a i : Nat) (b : Bool) : (putBit s a i b).hubEast = s.hubEast := setReg_hubEast ..
@[simp] theorem putBit_hubLink (a i : Nat) (b : Bool) : (putBit s a i b).hubLink = s.hubLink := setReg_hubLink ..
@[simp] theorem putBit_governor (a i : Nat) (b : Bool) : (putBit s a i b).governor = s.governor := setReg_governor ..
@[simp] theorem putBit_dies (a i : Nat) (b : Bool) : (putBit s a i b).dies = s.dies := setReg_dies ..
@[simp] theorem putBit_fuses (a i : Nat) (b : Bool) : (putBit s a i b).fuses = s.fuses := setReg_fuses ..
@[simp] theorem putBit_nvs (a i : Nat) (b : Bool) : (putBit s a i b).nvs = s.nvs := setReg_nvs ..
@[simp] theorem putBit_colophon (a i : Nat) (b : Bool) : (putBit s a i b).colophon = s.colophon := setReg_colophon ..
@[simp] theorem putBit_fallow (a i : Nat) (b : Bool) : (putBit s a i b).fallow = s.fallow := setReg_fallow ..
@[simp] theorem putBit_i3c (a i : Nat) (b : Bool) : (putBit s a i b).i3c = s.i3c := setReg_i3c ..
@[simp] theorem putBit_tap (a i : Nat) (b : Bool) : (putBit s a i b).tap = s.tap := setReg_tap ..
@[simp] theorem putBit_events (a i : Nat) (b : Bool) : (putBit s a i b).events = s.events := setReg_events ..
@[simp] theorem putBit_sources (a i : Nat) (b : Bool) : (putBit s a i b).sources = s.sources := setReg_sources ..
@[simp] theorem putBit_ports (a i : Nat) (b : Bool) : (putBit s a i b).ports = s.ports := setReg_ports ..
@[simp] theorem putBit_capture (a i : Nat) (b : Bool) : (putBit s a i b).capture = s.capture := setReg_capture ..
@[simp] theorem putBit_quiescing (a i : Nat) (b : Bool) : (putBit s a i b).quiescing = s.quiescing := setReg_quiescing ..
@[simp] theorem putBit_inForce (a i : Nat) (b : Bool) : (putBit s a i b).inForce = s.inForce := setReg_inForce ..
@[simp] theorem putBit_tensors (a i : Nat) (b : Bool) : (putBit s a i b).tensors = s.tensors := setReg_tensors ..
@[simp] theorem putBit_moves (a i : Nat) (b : Bool) : (putBit s a i b).moves = s.moves := setReg_moves ..
@[simp] theorem putBit_moveNext (a i : Nat) (b : Bool) : (putBit s a i b).moveNext = s.moveNext := setReg_moveNext ..
@[simp] theorem putBit_t1 (a i : Nat) (b : Bool) : (putBit s a i b).t1 = s.t1 := setReg_t1 ..
@[simp] theorem putBit_poison (a i : Nat) (b : Bool) : (putBit s a i b).poison = s.poison := setReg_poison ..
@[simp] theorem putBit_wiping (a i : Nat) (b : Bool) : (putBit s a i b).wiping = s.wiping := setReg_wiping ..
@[simp] theorem putBit_chans (a i : Nat) (b : Bool) : (putBit s a i b).chans = s.chans := setReg_chans ..
@[simp] theorem putBit_mapouts (a i : Nat) (b : Bool) : (putBit s a i b).mapouts = s.mapouts := setReg_mapouts ..
@[simp] theorem putBit_parityMoved (a i : Nat) (b : Bool) : (putBit s a i b).parityMoved = s.parityMoved := setReg_parityMoved ..
@[simp] theorem putBit_nbus (a i : Nat) (b : Bool) : (putBit s a i b).nbus = s.nbus := setReg_nbus ..
@[simp] theorem putBit_bias (a i : Nat) (b : Bool) : (putBit s a i b).bias = s.bias := setReg_bias ..
@[simp] theorem putBit_t0 (a i : Nat) (b : Bool) : (putBit s a i b).t0 = s.t0 := setReg_t0 ..
@[simp] theorem putBit_cores (a i : Nat) (b : Bool) : (putBit s a i b).cores = s.cores := setReg_cores ..
@[simp] theorem putBit_entries (a i : Nat) (b : Bool) : (putBit s a i b).entries = s.entries := setReg_entries ..
@[simp] theorem putBit_trees (a i : Nat) (b : Bool) : (putBit s a i b).trees = s.trees := setReg_trees ..
@[simp] theorem putBit_impos (a i : Nat) (b : Bool) : (putBit s a i b).impos = s.impos := setReg_impos ..
@[simp] theorem putBit_loader (a i : Nat) (b : Bool) : (putBit s a i b).loader = s.loader := setReg_loader ..
@[simp] theorem putBit_steps (a i : Nat) (b : Bool) : (putBit s a i b).steps = s.steps := setReg_steps ..
@[simp] theorem putBit_arrived (a i : Nat) (b : Bool) : (putBit s a i b).arrived = s.arrived := setReg_arrived ..
@[simp] theorem putBit_records (a i : Nat) (b : Bool) : (putBit s a i b).records = s.records := setReg_records ..
@[simp] theorem putBit_due (a i : Nat) (b : Bool) : (putBit s a i b).due = s.due := setReg_due ..
@[simp] theorem putBit_regions (a i : Nat) (b : Bool) : (putBit s a i b).regions = s.regions := setReg_regions ..
@[simp] theorem putBit_rings (a i : Nat) (b : Bool) : (putBit s a i b).rings = s.rings := setReg_rings ..
@[simp] theorem putBit_d3hot (a i : Nat) (b : Bool) : (putBit s a i b).d3hot = s.d3hot := setReg_d3hot ..
@[simp] theorem putBit_heldOut (a i : Nat) (b : Bool) : (putBit s a i b).heldOut = s.heldOut := setReg_heldOut ..
@[simp] theorem putBit_links (a i : Nat) (b : Bool) : (putBit s a i b).links = s.links := setReg_links ..
@[simp] theorem putBit_inbox (a i : Nat) (b : Bool) : (putBit s a i b).inbox = s.inbox := setReg_inbox ..
@[simp] theorem putBit_sent (a i : Nat) (b : Bool) : (putBit s a i b).sent = s.sent := setReg_sent ..
@[simp] theorem putBit_applied (a i : Nat) (b : Bool) : (putBit s a i b).applied = s.applied := setReg_applied ..
@[simp] theorem putBit_msgIds (a i : Nat) (b : Bool) : (putBit s a i b).msgIds = s.msgIds := setReg_msgIds ..
@[simp] theorem putBit_routes (a i : Nat) (b : Bool) : (putBit s a i b).routes = s.routes := setReg_routes ..
@[simp] theorem putBit_times (a i : Nat) (b : Bool) : (putBit s a i b).times = s.times := setReg_times ..
@[simp] theorem putBit_mirrors (a i : Nat) (b : Bool) : (putBit s a i b).mirrors = s.mirrors := setReg_mirrors ..
@[simp] theorem putBit_homes (a i : Nat) (b : Bool) : (putBit s a i b).homes = s.homes := setReg_homes ..
@[simp] theorem putBit_home (a i : Nat) (b : Bool) : (putBit s a i b).home = s.home := setReg_home ..
@[simp] theorem putBit_groups (a i : Nat) (b : Bool) : (putBit s a i b).groups = s.groups := setReg_groups ..
@[simp] theorem putBit_deferred (a i : Nat) (b : Bool) : (putBit s a i b).deferred = s.deferred := setReg_deferred ..
@[simp] theorem putBit_gatedWrites (a i : Nat) (b : Bool) : (putBit s a i b).gatedWrites = s.gatedWrites := setReg_gatedWrites ..
@[simp] theorem putBit_out (a i : Nat) (b : Bool) : (putBit s a i b).out = s.out := setReg_out ..

@[simp] theorem setCnt_pending (a : Nat) (w : Word) : (setCnt s a w).pending = s.pending := rfl
@[simp] theorem setCnt_free (a : Nat) (w : Word) : (setCnt s a w).free = s.free := rfl
@[simp] theorem setCnt_clock (a : Nat) (w : Word) : (setCnt s a w).clock = s.clock := rfl
@[simp] theorem setCnt_regs (a : Nat) (w : Word) : (setCnt s a w).regs = s.regs := rfl
@[simp] theorem setCnt_snap (a : Nat) (w : Word) : (setCnt s a w).snap = s.snap := rfl
@[simp] theorem setCnt_latch (a : Nat) (w : Word) : (setCnt s a w).latch = s.latch := rfl
@[simp] theorem setCnt_msix (a : Nat) (w : Word) : (setCnt s a w).msix = s.msix := rfl
@[simp] theorem setCnt_west (a : Nat) (w : Word) : (setCnt s a w).west = s.west := rfl
@[simp] theorem setCnt_east (a : Nat) (w : Word) : (setCnt s a w).east = s.east := rfl
@[simp] theorem setCnt_hubWest (a : Nat) (w : Word) : (setCnt s a w).hubWest = s.hubWest := rfl
@[simp] theorem setCnt_hubEast (a : Nat) (w : Word) : (setCnt s a w).hubEast = s.hubEast := rfl
@[simp] theorem setCnt_hubLink (a : Nat) (w : Word) : (setCnt s a w).hubLink = s.hubLink := rfl
@[simp] theorem setCnt_governor (a : Nat) (w : Word) : (setCnt s a w).governor = s.governor := rfl
@[simp] theorem setCnt_dies (a : Nat) (w : Word) : (setCnt s a w).dies = s.dies := rfl
@[simp] theorem setCnt_fuses (a : Nat) (w : Word) : (setCnt s a w).fuses = s.fuses := rfl
@[simp] theorem setCnt_nvs (a : Nat) (w : Word) : (setCnt s a w).nvs = s.nvs := rfl
@[simp] theorem setCnt_colophon (a : Nat) (w : Word) : (setCnt s a w).colophon = s.colophon := rfl
@[simp] theorem setCnt_fallow (a : Nat) (w : Word) : (setCnt s a w).fallow = s.fallow := rfl
@[simp] theorem setCnt_i3c (a : Nat) (w : Word) : (setCnt s a w).i3c = s.i3c := rfl
@[simp] theorem setCnt_tap (a : Nat) (w : Word) : (setCnt s a w).tap = s.tap := rfl
@[simp] theorem setCnt_events (a : Nat) (w : Word) : (setCnt s a w).events = s.events := rfl
@[simp] theorem setCnt_sources (a : Nat) (w : Word) : (setCnt s a w).sources = s.sources := rfl
@[simp] theorem setCnt_ports (a : Nat) (w : Word) : (setCnt s a w).ports = s.ports := rfl
@[simp] theorem setCnt_capture (a : Nat) (w : Word) : (setCnt s a w).capture = s.capture := rfl
@[simp] theorem setCnt_quiescing (a : Nat) (w : Word) : (setCnt s a w).quiescing = s.quiescing := rfl
@[simp] theorem setCnt_inForce (a : Nat) (w : Word) : (setCnt s a w).inForce = s.inForce := rfl
@[simp] theorem setCnt_tensors (a : Nat) (w : Word) : (setCnt s a w).tensors = s.tensors := rfl
@[simp] theorem setCnt_moves (a : Nat) (w : Word) : (setCnt s a w).moves = s.moves := rfl
@[simp] theorem setCnt_moveNext (a : Nat) (w : Word) : (setCnt s a w).moveNext = s.moveNext := rfl
@[simp] theorem setCnt_t1 (a : Nat) (w : Word) : (setCnt s a w).t1 = s.t1 := rfl
@[simp] theorem setCnt_poison (a : Nat) (w : Word) : (setCnt s a w).poison = s.poison := rfl
@[simp] theorem setCnt_wiping (a : Nat) (w : Word) : (setCnt s a w).wiping = s.wiping := rfl
@[simp] theorem setCnt_chans (a : Nat) (w : Word) : (setCnt s a w).chans = s.chans := rfl
@[simp] theorem setCnt_mapouts (a : Nat) (w : Word) : (setCnt s a w).mapouts = s.mapouts := rfl
@[simp] theorem setCnt_parityMoved (a : Nat) (w : Word) : (setCnt s a w).parityMoved = s.parityMoved := rfl
@[simp] theorem setCnt_nbus (a : Nat) (w : Word) : (setCnt s a w).nbus = s.nbus := rfl
@[simp] theorem setCnt_bias (a : Nat) (w : Word) : (setCnt s a w).bias = s.bias := rfl
@[simp] theorem setCnt_t0 (a : Nat) (w : Word) : (setCnt s a w).t0 = s.t0 := rfl
@[simp] theorem setCnt_cores (a : Nat) (w : Word) : (setCnt s a w).cores = s.cores := rfl
@[simp] theorem setCnt_entries (a : Nat) (w : Word) : (setCnt s a w).entries = s.entries := rfl
@[simp] theorem setCnt_trees (a : Nat) (w : Word) : (setCnt s a w).trees = s.trees := rfl
@[simp] theorem setCnt_impos (a : Nat) (w : Word) : (setCnt s a w).impos = s.impos := rfl
@[simp] theorem setCnt_loader (a : Nat) (w : Word) : (setCnt s a w).loader = s.loader := rfl
@[simp] theorem setCnt_steps (a : Nat) (w : Word) : (setCnt s a w).steps = s.steps := rfl
@[simp] theorem setCnt_arrived (a : Nat) (w : Word) : (setCnt s a w).arrived = s.arrived := rfl
@[simp] theorem setCnt_records (a : Nat) (w : Word) : (setCnt s a w).records = s.records := rfl
@[simp] theorem setCnt_due (a : Nat) (w : Word) : (setCnt s a w).due = s.due := rfl
@[simp] theorem setCnt_regions (a : Nat) (w : Word) : (setCnt s a w).regions = s.regions := rfl
@[simp] theorem setCnt_rings (a : Nat) (w : Word) : (setCnt s a w).rings = s.rings := rfl
@[simp] theorem setCnt_d3hot (a : Nat) (w : Word) : (setCnt s a w).d3hot = s.d3hot := rfl
@[simp] theorem setCnt_heldOut (a : Nat) (w : Word) : (setCnt s a w).heldOut = s.heldOut := rfl
@[simp] theorem setCnt_links (a : Nat) (w : Word) : (setCnt s a w).links = s.links := rfl
@[simp] theorem setCnt_inbox (a : Nat) (w : Word) : (setCnt s a w).inbox = s.inbox := rfl
@[simp] theorem setCnt_sent (a : Nat) (w : Word) : (setCnt s a w).sent = s.sent := rfl
@[simp] theorem setCnt_applied (a : Nat) (w : Word) : (setCnt s a w).applied = s.applied := rfl
@[simp] theorem setCnt_msgIds (a : Nat) (w : Word) : (setCnt s a w).msgIds = s.msgIds := rfl
@[simp] theorem setCnt_routes (a : Nat) (w : Word) : (setCnt s a w).routes = s.routes := rfl
@[simp] theorem setCnt_times (a : Nat) (w : Word) : (setCnt s a w).times = s.times := rfl
@[simp] theorem setCnt_mirrors (a : Nat) (w : Word) : (setCnt s a w).mirrors = s.mirrors := rfl
@[simp] theorem setCnt_homes (a : Nat) (w : Word) : (setCnt s a w).homes = s.homes := rfl
@[simp] theorem setCnt_home (a : Nat) (w : Word) : (setCnt s a w).home = s.home := rfl
@[simp] theorem setCnt_groups (a : Nat) (w : Word) : (setCnt s a w).groups = s.groups := rfl
@[simp] theorem setCnt_deferred (a : Nat) (w : Word) : (setCnt s a w).deferred = s.deferred := rfl
@[simp] theorem setCnt_gatedWrites (a : Nat) (w : Word) : (setCnt s a w).gatedWrites = s.gatedWrites := rfl
@[simp] theorem setCnt_out (a : Nat) (w : Word) : (setCnt s a w).out = s.out := rfl

@[simp] theorem setMsix_pending (a : Nat) (w : Word) : (setMsix s a w).pending = s.pending := rfl
@[simp] theorem setMsix_free (a : Nat) (w : Word) : (setMsix s a w).free = s.free := rfl
@[simp] theorem setMsix_clock (a : Nat) (w : Word) : (setMsix s a w).clock = s.clock := rfl
@[simp] theorem setMsix_regs (a : Nat) (w : Word) : (setMsix s a w).regs = s.regs := rfl
@[simp] theorem setMsix_cnt (a : Nat) (w : Word) : (setMsix s a w).cnt = s.cnt := rfl
@[simp] theorem setMsix_snap (a : Nat) (w : Word) : (setMsix s a w).snap = s.snap := rfl
@[simp] theorem setMsix_latch (a : Nat) (w : Word) : (setMsix s a w).latch = s.latch := rfl
@[simp] theorem setMsix_west (a : Nat) (w : Word) : (setMsix s a w).west = s.west := rfl
@[simp] theorem setMsix_east (a : Nat) (w : Word) : (setMsix s a w).east = s.east := rfl
@[simp] theorem setMsix_hubWest (a : Nat) (w : Word) : (setMsix s a w).hubWest = s.hubWest := rfl
@[simp] theorem setMsix_hubEast (a : Nat) (w : Word) : (setMsix s a w).hubEast = s.hubEast := rfl
@[simp] theorem setMsix_hubLink (a : Nat) (w : Word) : (setMsix s a w).hubLink = s.hubLink := rfl
@[simp] theorem setMsix_governor (a : Nat) (w : Word) : (setMsix s a w).governor = s.governor := rfl
@[simp] theorem setMsix_dies (a : Nat) (w : Word) : (setMsix s a w).dies = s.dies := rfl
@[simp] theorem setMsix_fuses (a : Nat) (w : Word) : (setMsix s a w).fuses = s.fuses := rfl
@[simp] theorem setMsix_nvs (a : Nat) (w : Word) : (setMsix s a w).nvs = s.nvs := rfl
@[simp] theorem setMsix_colophon (a : Nat) (w : Word) : (setMsix s a w).colophon = s.colophon := rfl
@[simp] theorem setMsix_fallow (a : Nat) (w : Word) : (setMsix s a w).fallow = s.fallow := rfl
@[simp] theorem setMsix_i3c (a : Nat) (w : Word) : (setMsix s a w).i3c = s.i3c := rfl
@[simp] theorem setMsix_tap (a : Nat) (w : Word) : (setMsix s a w).tap = s.tap := rfl
@[simp] theorem setMsix_events (a : Nat) (w : Word) : (setMsix s a w).events = s.events := rfl
@[simp] theorem setMsix_sources (a : Nat) (w : Word) : (setMsix s a w).sources = s.sources := rfl
@[simp] theorem setMsix_ports (a : Nat) (w : Word) : (setMsix s a w).ports = s.ports := rfl
@[simp] theorem setMsix_capture (a : Nat) (w : Word) : (setMsix s a w).capture = s.capture := rfl
@[simp] theorem setMsix_quiescing (a : Nat) (w : Word) : (setMsix s a w).quiescing = s.quiescing := rfl
@[simp] theorem setMsix_inForce (a : Nat) (w : Word) : (setMsix s a w).inForce = s.inForce := rfl
@[simp] theorem setMsix_tensors (a : Nat) (w : Word) : (setMsix s a w).tensors = s.tensors := rfl
@[simp] theorem setMsix_moves (a : Nat) (w : Word) : (setMsix s a w).moves = s.moves := rfl
@[simp] theorem setMsix_moveNext (a : Nat) (w : Word) : (setMsix s a w).moveNext = s.moveNext := rfl
@[simp] theorem setMsix_t1 (a : Nat) (w : Word) : (setMsix s a w).t1 = s.t1 := rfl
@[simp] theorem setMsix_poison (a : Nat) (w : Word) : (setMsix s a w).poison = s.poison := rfl
@[simp] theorem setMsix_wiping (a : Nat) (w : Word) : (setMsix s a w).wiping = s.wiping := rfl
@[simp] theorem setMsix_chans (a : Nat) (w : Word) : (setMsix s a w).chans = s.chans := rfl
@[simp] theorem setMsix_mapouts (a : Nat) (w : Word) : (setMsix s a w).mapouts = s.mapouts := rfl
@[simp] theorem setMsix_parityMoved (a : Nat) (w : Word) : (setMsix s a w).parityMoved = s.parityMoved := rfl
@[simp] theorem setMsix_nbus (a : Nat) (w : Word) : (setMsix s a w).nbus = s.nbus := rfl
@[simp] theorem setMsix_bias (a : Nat) (w : Word) : (setMsix s a w).bias = s.bias := rfl
@[simp] theorem setMsix_t0 (a : Nat) (w : Word) : (setMsix s a w).t0 = s.t0 := rfl
@[simp] theorem setMsix_cores (a : Nat) (w : Word) : (setMsix s a w).cores = s.cores := rfl
@[simp] theorem setMsix_entries (a : Nat) (w : Word) : (setMsix s a w).entries = s.entries := rfl
@[simp] theorem setMsix_trees (a : Nat) (w : Word) : (setMsix s a w).trees = s.trees := rfl
@[simp] theorem setMsix_impos (a : Nat) (w : Word) : (setMsix s a w).impos = s.impos := rfl
@[simp] theorem setMsix_loader (a : Nat) (w : Word) : (setMsix s a w).loader = s.loader := rfl
@[simp] theorem setMsix_steps (a : Nat) (w : Word) : (setMsix s a w).steps = s.steps := rfl
@[simp] theorem setMsix_arrived (a : Nat) (w : Word) : (setMsix s a w).arrived = s.arrived := rfl
@[simp] theorem setMsix_records (a : Nat) (w : Word) : (setMsix s a w).records = s.records := rfl
@[simp] theorem setMsix_due (a : Nat) (w : Word) : (setMsix s a w).due = s.due := rfl
@[simp] theorem setMsix_regions (a : Nat) (w : Word) : (setMsix s a w).regions = s.regions := rfl
@[simp] theorem setMsix_rings (a : Nat) (w : Word) : (setMsix s a w).rings = s.rings := rfl
@[simp] theorem setMsix_d3hot (a : Nat) (w : Word) : (setMsix s a w).d3hot = s.d3hot := rfl
@[simp] theorem setMsix_heldOut (a : Nat) (w : Word) : (setMsix s a w).heldOut = s.heldOut := rfl
@[simp] theorem setMsix_links (a : Nat) (w : Word) : (setMsix s a w).links = s.links := rfl
@[simp] theorem setMsix_inbox (a : Nat) (w : Word) : (setMsix s a w).inbox = s.inbox := rfl
@[simp] theorem setMsix_sent (a : Nat) (w : Word) : (setMsix s a w).sent = s.sent := rfl
@[simp] theorem setMsix_applied (a : Nat) (w : Word) : (setMsix s a w).applied = s.applied := rfl
@[simp] theorem setMsix_msgIds (a : Nat) (w : Word) : (setMsix s a w).msgIds = s.msgIds := rfl
@[simp] theorem setMsix_routes (a : Nat) (w : Word) : (setMsix s a w).routes = s.routes := rfl
@[simp] theorem setMsix_times (a : Nat) (w : Word) : (setMsix s a w).times = s.times := rfl
@[simp] theorem setMsix_mirrors (a : Nat) (w : Word) : (setMsix s a w).mirrors = s.mirrors := rfl
@[simp] theorem setMsix_homes (a : Nat) (w : Word) : (setMsix s a w).homes = s.homes := rfl
@[simp] theorem setMsix_home (a : Nat) (w : Word) : (setMsix s a w).home = s.home := rfl
@[simp] theorem setMsix_groups (a : Nat) (w : Word) : (setMsix s a w).groups = s.groups := rfl
@[simp] theorem setMsix_deferred (a : Nat) (w : Word) : (setMsix s a w).deferred = s.deferred := rfl
@[simp] theorem setMsix_gatedWrites (a : Nat) (w : Word) : (setMsix s a w).gatedWrites = s.gatedWrites := rfl
@[simp] theorem setMsix_out (a : Nat) (w : Word) : (setMsix s a w).out = s.out := rfl

@[simp] theorem emit_pending (e : Emit) : (emit s e).pending = s.pending := rfl
@[simp] theorem emit_free (e : Emit) : (emit s e).free = s.free := rfl
@[simp] theorem emit_clock (e : Emit) : (emit s e).clock = s.clock := rfl
@[simp] theorem emit_regs (e : Emit) : (emit s e).regs = s.regs := rfl
@[simp] theorem emit_cnt (e : Emit) : (emit s e).cnt = s.cnt := rfl
@[simp] theorem emit_snap (e : Emit) : (emit s e).snap = s.snap := rfl
@[simp] theorem emit_latch (e : Emit) : (emit s e).latch = s.latch := rfl
@[simp] theorem emit_msix (e : Emit) : (emit s e).msix = s.msix := rfl
@[simp] theorem emit_west (e : Emit) : (emit s e).west = s.west := rfl
@[simp] theorem emit_east (e : Emit) : (emit s e).east = s.east := rfl
@[simp] theorem emit_hubWest (e : Emit) : (emit s e).hubWest = s.hubWest := rfl
@[simp] theorem emit_hubEast (e : Emit) : (emit s e).hubEast = s.hubEast := rfl
@[simp] theorem emit_hubLink (e : Emit) : (emit s e).hubLink = s.hubLink := rfl
@[simp] theorem emit_governor (e : Emit) : (emit s e).governor = s.governor := rfl
@[simp] theorem emit_dies (e : Emit) : (emit s e).dies = s.dies := rfl
@[simp] theorem emit_fuses (e : Emit) : (emit s e).fuses = s.fuses := rfl
@[simp] theorem emit_nvs (e : Emit) : (emit s e).nvs = s.nvs := rfl
@[simp] theorem emit_colophon (e : Emit) : (emit s e).colophon = s.colophon := rfl
@[simp] theorem emit_fallow (e : Emit) : (emit s e).fallow = s.fallow := rfl
@[simp] theorem emit_i3c (e : Emit) : (emit s e).i3c = s.i3c := rfl
@[simp] theorem emit_tap (e : Emit) : (emit s e).tap = s.tap := rfl
@[simp] theorem emit_events (e : Emit) : (emit s e).events = s.events := rfl
@[simp] theorem emit_sources (e : Emit) : (emit s e).sources = s.sources := rfl
@[simp] theorem emit_ports (e : Emit) : (emit s e).ports = s.ports := rfl
@[simp] theorem emit_capture (e : Emit) : (emit s e).capture = s.capture := rfl
@[simp] theorem emit_quiescing (e : Emit) : (emit s e).quiescing = s.quiescing := rfl
@[simp] theorem emit_inForce (e : Emit) : (emit s e).inForce = s.inForce := rfl
@[simp] theorem emit_tensors (e : Emit) : (emit s e).tensors = s.tensors := rfl
@[simp] theorem emit_moves (e : Emit) : (emit s e).moves = s.moves := rfl
@[simp] theorem emit_moveNext (e : Emit) : (emit s e).moveNext = s.moveNext := rfl
@[simp] theorem emit_t1 (e : Emit) : (emit s e).t1 = s.t1 := rfl
@[simp] theorem emit_poison (e : Emit) : (emit s e).poison = s.poison := rfl
@[simp] theorem emit_wiping (e : Emit) : (emit s e).wiping = s.wiping := rfl
@[simp] theorem emit_chans (e : Emit) : (emit s e).chans = s.chans := rfl
@[simp] theorem emit_mapouts (e : Emit) : (emit s e).mapouts = s.mapouts := rfl
@[simp] theorem emit_parityMoved (e : Emit) : (emit s e).parityMoved = s.parityMoved := rfl
@[simp] theorem emit_nbus (e : Emit) : (emit s e).nbus = s.nbus := rfl
@[simp] theorem emit_bias (e : Emit) : (emit s e).bias = s.bias := rfl
@[simp] theorem emit_t0 (e : Emit) : (emit s e).t0 = s.t0 := rfl
@[simp] theorem emit_cores (e : Emit) : (emit s e).cores = s.cores := rfl
@[simp] theorem emit_entries (e : Emit) : (emit s e).entries = s.entries := rfl
@[simp] theorem emit_trees (e : Emit) : (emit s e).trees = s.trees := rfl
@[simp] theorem emit_impos (e : Emit) : (emit s e).impos = s.impos := rfl
@[simp] theorem emit_loader (e : Emit) : (emit s e).loader = s.loader := rfl
@[simp] theorem emit_steps (e : Emit) : (emit s e).steps = s.steps := rfl
@[simp] theorem emit_arrived (e : Emit) : (emit s e).arrived = s.arrived := rfl
@[simp] theorem emit_records (e : Emit) : (emit s e).records = s.records := rfl
@[simp] theorem emit_due (e : Emit) : (emit s e).due = s.due := rfl
@[simp] theorem emit_regions (e : Emit) : (emit s e).regions = s.regions := rfl
@[simp] theorem emit_rings (e : Emit) : (emit s e).rings = s.rings := rfl
@[simp] theorem emit_d3hot (e : Emit) : (emit s e).d3hot = s.d3hot := rfl
@[simp] theorem emit_heldOut (e : Emit) : (emit s e).heldOut = s.heldOut := rfl
@[simp] theorem emit_links (e : Emit) : (emit s e).links = s.links := rfl
@[simp] theorem emit_inbox (e : Emit) : (emit s e).inbox = s.inbox := rfl
@[simp] theorem emit_sent (e : Emit) : (emit s e).sent = s.sent := rfl
@[simp] theorem emit_applied (e : Emit) : (emit s e).applied = s.applied := rfl
@[simp] theorem emit_msgIds (e : Emit) : (emit s e).msgIds = s.msgIds := rfl
@[simp] theorem emit_routes (e : Emit) : (emit s e).routes = s.routes := rfl
@[simp] theorem emit_times (e : Emit) : (emit s e).times = s.times := rfl
@[simp] theorem emit_mirrors (e : Emit) : (emit s e).mirrors = s.mirrors := rfl
@[simp] theorem emit_homes (e : Emit) : (emit s e).homes = s.homes := rfl
@[simp] theorem emit_home (e : Emit) : (emit s e).home = s.home := rfl
@[simp] theorem emit_groups (e : Emit) : (emit s e).groups = s.groups := rfl
@[simp] theorem emit_deferred (e : Emit) : (emit s e).deferred = s.deferred := rfl
@[simp] theorem emit_gatedWrites (e : Emit) : (emit s e).gatedWrites = s.gatedWrites := rfl

@[simp] theorem setHalf_pending (h : Half) (x : HalfState) : (s.setHalf h x).pending = s.pending := by cases h <;> rfl
@[simp] theorem setHalf_free (h : Half) (x : HalfState) : (s.setHalf h x).free = s.free := by cases h <;> rfl
@[simp] theorem setHalf_clock (h : Half) (x : HalfState) : (s.setHalf h x).clock = s.clock := by cases h <;> rfl
@[simp] theorem setHalf_regs (h : Half) (x : HalfState) : (s.setHalf h x).regs = s.regs := by cases h <;> rfl
@[simp] theorem setHalf_cnt (h : Half) (x : HalfState) : (s.setHalf h x).cnt = s.cnt := by cases h <;> rfl
@[simp] theorem setHalf_snap (h : Half) (x : HalfState) : (s.setHalf h x).snap = s.snap := by cases h <;> rfl
@[simp] theorem setHalf_latch (h : Half) (x : HalfState) : (s.setHalf h x).latch = s.latch := by cases h <;> rfl
@[simp] theorem setHalf_msix (h : Half) (x : HalfState) : (s.setHalf h x).msix = s.msix := by cases h <;> rfl
@[simp] theorem setHalf_hubWest (h : Half) (x : HalfState) : (s.setHalf h x).hubWest = s.hubWest := by cases h <;> rfl
@[simp] theorem setHalf_hubEast (h : Half) (x : HalfState) : (s.setHalf h x).hubEast = s.hubEast := by cases h <;> rfl
@[simp] theorem setHalf_hubLink (h : Half) (x : HalfState) : (s.setHalf h x).hubLink = s.hubLink := by cases h <;> rfl
@[simp] theorem setHalf_governor (h : Half) (x : HalfState) : (s.setHalf h x).governor = s.governor := by cases h <;> rfl
@[simp] theorem setHalf_dies (h : Half) (x : HalfState) : (s.setHalf h x).dies = s.dies := by cases h <;> rfl
@[simp] theorem setHalf_fuses (h : Half) (x : HalfState) : (s.setHalf h x).fuses = s.fuses := by cases h <;> rfl
@[simp] theorem setHalf_nvs (h : Half) (x : HalfState) : (s.setHalf h x).nvs = s.nvs := by cases h <;> rfl
@[simp] theorem setHalf_colophon (h : Half) (x : HalfState) : (s.setHalf h x).colophon = s.colophon := by cases h <;> rfl
@[simp] theorem setHalf_fallow (h : Half) (x : HalfState) : (s.setHalf h x).fallow = s.fallow := by cases h <;> rfl
@[simp] theorem setHalf_i3c (h : Half) (x : HalfState) : (s.setHalf h x).i3c = s.i3c := by cases h <;> rfl
@[simp] theorem setHalf_tap (h : Half) (x : HalfState) : (s.setHalf h x).tap = s.tap := by cases h <;> rfl
@[simp] theorem setHalf_events (h : Half) (x : HalfState) : (s.setHalf h x).events = s.events := by cases h <;> rfl
@[simp] theorem setHalf_sources (h : Half) (x : HalfState) : (s.setHalf h x).sources = s.sources := by cases h <;> rfl
@[simp] theorem setHalf_ports (h : Half) (x : HalfState) : (s.setHalf h x).ports = s.ports := by cases h <;> rfl
@[simp] theorem setHalf_capture (h : Half) (x : HalfState) : (s.setHalf h x).capture = s.capture := by cases h <;> rfl
@[simp] theorem setHalf_quiescing (h : Half) (x : HalfState) : (s.setHalf h x).quiescing = s.quiescing := by cases h <;> rfl
@[simp] theorem setHalf_inForce (h : Half) (x : HalfState) : (s.setHalf h x).inForce = s.inForce := by cases h <;> rfl
@[simp] theorem setHalf_tensors (h : Half) (x : HalfState) : (s.setHalf h x).tensors = s.tensors := by cases h <;> rfl
@[simp] theorem setHalf_moves (h : Half) (x : HalfState) : (s.setHalf h x).moves = s.moves := by cases h <;> rfl
@[simp] theorem setHalf_moveNext (h : Half) (x : HalfState) : (s.setHalf h x).moveNext = s.moveNext := by cases h <;> rfl
@[simp] theorem setHalf_t1 (h : Half) (x : HalfState) : (s.setHalf h x).t1 = s.t1 := by cases h <;> rfl
@[simp] theorem setHalf_poison (h : Half) (x : HalfState) : (s.setHalf h x).poison = s.poison := by cases h <;> rfl
@[simp] theorem setHalf_wiping (h : Half) (x : HalfState) : (s.setHalf h x).wiping = s.wiping := by cases h <;> rfl
@[simp] theorem setHalf_chans (h : Half) (x : HalfState) : (s.setHalf h x).chans = s.chans := by cases h <;> rfl
@[simp] theorem setHalf_mapouts (h : Half) (x : HalfState) : (s.setHalf h x).mapouts = s.mapouts := by cases h <;> rfl
@[simp] theorem setHalf_parityMoved (h : Half) (x : HalfState) : (s.setHalf h x).parityMoved = s.parityMoved := by cases h <;> rfl
@[simp] theorem setHalf_nbus (h : Half) (x : HalfState) : (s.setHalf h x).nbus = s.nbus := by cases h <;> rfl
@[simp] theorem setHalf_bias (h : Half) (x : HalfState) : (s.setHalf h x).bias = s.bias := by cases h <;> rfl
@[simp] theorem setHalf_t0 (h : Half) (x : HalfState) : (s.setHalf h x).t0 = s.t0 := by cases h <;> rfl
@[simp] theorem setHalf_cores (h : Half) (x : HalfState) : (s.setHalf h x).cores = s.cores := by cases h <;> rfl
@[simp] theorem setHalf_entries (h : Half) (x : HalfState) : (s.setHalf h x).entries = s.entries := by cases h <;> rfl
@[simp] theorem setHalf_trees (h : Half) (x : HalfState) : (s.setHalf h x).trees = s.trees := by cases h <;> rfl
@[simp] theorem setHalf_impos (h : Half) (x : HalfState) : (s.setHalf h x).impos = s.impos := by cases h <;> rfl
@[simp] theorem setHalf_loader (h : Half) (x : HalfState) : (s.setHalf h x).loader = s.loader := by cases h <;> rfl
@[simp] theorem setHalf_steps (h : Half) (x : HalfState) : (s.setHalf h x).steps = s.steps := by cases h <;> rfl
@[simp] theorem setHalf_arrived (h : Half) (x : HalfState) : (s.setHalf h x).arrived = s.arrived := by cases h <;> rfl
@[simp] theorem setHalf_records (h : Half) (x : HalfState) : (s.setHalf h x).records = s.records := by cases h <;> rfl
@[simp] theorem setHalf_due (h : Half) (x : HalfState) : (s.setHalf h x).due = s.due := by cases h <;> rfl
@[simp] theorem setHalf_regions (h : Half) (x : HalfState) : (s.setHalf h x).regions = s.regions := by cases h <;> rfl
@[simp] theorem setHalf_rings (h : Half) (x : HalfState) : (s.setHalf h x).rings = s.rings := by cases h <;> rfl
@[simp] theorem setHalf_d3hot (h : Half) (x : HalfState) : (s.setHalf h x).d3hot = s.d3hot := by cases h <;> rfl
@[simp] theorem setHalf_heldOut (h : Half) (x : HalfState) : (s.setHalf h x).heldOut = s.heldOut := by cases h <;> rfl
@[simp] theorem setHalf_links (h : Half) (x : HalfState) : (s.setHalf h x).links = s.links := by cases h <;> rfl
@[simp] theorem setHalf_inbox (h : Half) (x : HalfState) : (s.setHalf h x).inbox = s.inbox := by cases h <;> rfl
@[simp] theorem setHalf_sent (h : Half) (x : HalfState) : (s.setHalf h x).sent = s.sent := by cases h <;> rfl
@[simp] theorem setHalf_applied (h : Half) (x : HalfState) : (s.setHalf h x).applied = s.applied := by cases h <;> rfl
@[simp] theorem setHalf_msgIds (h : Half) (x : HalfState) : (s.setHalf h x).msgIds = s.msgIds := by cases h <;> rfl
@[simp] theorem setHalf_routes (h : Half) (x : HalfState) : (s.setHalf h x).routes = s.routes := by cases h <;> rfl
@[simp] theorem setHalf_times (h : Half) (x : HalfState) : (s.setHalf h x).times = s.times := by cases h <;> rfl
@[simp] theorem setHalf_mirrors (h : Half) (x : HalfState) : (s.setHalf h x).mirrors = s.mirrors := by cases h <;> rfl
@[simp] theorem setHalf_homes (h : Half) (x : HalfState) : (s.setHalf h x).homes = s.homes := by cases h <;> rfl
@[simp] theorem setHalf_home (h : Half) (x : HalfState) : (s.setHalf h x).home = s.home := by cases h <;> rfl
@[simp] theorem setHalf_groups (h : Half) (x : HalfState) : (s.setHalf h x).groups = s.groups := by cases h <;> rfl
@[simp] theorem setHalf_deferred (h : Half) (x : HalfState) : (s.setHalf h x).deferred = s.deferred := by cases h <;> rfl
@[simp] theorem setHalf_gatedWrites (h : Half) (x : HalfState) : (s.setHalf h x).gatedWrites = s.gatedWrites := by cases h <;> rfl
@[simp] theorem setHalf_out (h : Half) (x : HalfState) : (s.setHalf h x).out = s.out := by cases h <;> rfl

@[simp] theorem setDie_pending (d : Nat) (x : DiePair) : (s.setDie d x).pending = s.pending := rfl
@[simp] theorem setDie_free (d : Nat) (x : DiePair) : (s.setDie d x).free = s.free := rfl
@[simp] theorem setDie_clock (d : Nat) (x : DiePair) : (s.setDie d x).clock = s.clock := rfl
@[simp] theorem setDie_regs (d : Nat) (x : DiePair) : (s.setDie d x).regs = s.regs := rfl
@[simp] theorem setDie_cnt (d : Nat) (x : DiePair) : (s.setDie d x).cnt = s.cnt := rfl
@[simp] theorem setDie_snap (d : Nat) (x : DiePair) : (s.setDie d x).snap = s.snap := rfl
@[simp] theorem setDie_latch (d : Nat) (x : DiePair) : (s.setDie d x).latch = s.latch := rfl
@[simp] theorem setDie_msix (d : Nat) (x : DiePair) : (s.setDie d x).msix = s.msix := rfl
@[simp] theorem setDie_west (d : Nat) (x : DiePair) : (s.setDie d x).west = s.west := rfl
@[simp] theorem setDie_east (d : Nat) (x : DiePair) : (s.setDie d x).east = s.east := rfl
@[simp] theorem setDie_hubWest (d : Nat) (x : DiePair) : (s.setDie d x).hubWest = s.hubWest := rfl
@[simp] theorem setDie_hubEast (d : Nat) (x : DiePair) : (s.setDie d x).hubEast = s.hubEast := rfl
@[simp] theorem setDie_hubLink (d : Nat) (x : DiePair) : (s.setDie d x).hubLink = s.hubLink := rfl
@[simp] theorem setDie_governor (d : Nat) (x : DiePair) : (s.setDie d x).governor = s.governor := rfl
@[simp] theorem setDie_fuses (d : Nat) (x : DiePair) : (s.setDie d x).fuses = s.fuses := rfl
@[simp] theorem setDie_nvs (d : Nat) (x : DiePair) : (s.setDie d x).nvs = s.nvs := rfl
@[simp] theorem setDie_colophon (d : Nat) (x : DiePair) : (s.setDie d x).colophon = s.colophon := rfl
@[simp] theorem setDie_fallow (d : Nat) (x : DiePair) : (s.setDie d x).fallow = s.fallow := rfl
@[simp] theorem setDie_i3c (d : Nat) (x : DiePair) : (s.setDie d x).i3c = s.i3c := rfl
@[simp] theorem setDie_tap (d : Nat) (x : DiePair) : (s.setDie d x).tap = s.tap := rfl
@[simp] theorem setDie_events (d : Nat) (x : DiePair) : (s.setDie d x).events = s.events := rfl
@[simp] theorem setDie_sources (d : Nat) (x : DiePair) : (s.setDie d x).sources = s.sources := rfl
@[simp] theorem setDie_ports (d : Nat) (x : DiePair) : (s.setDie d x).ports = s.ports := rfl
@[simp] theorem setDie_capture (d : Nat) (x : DiePair) : (s.setDie d x).capture = s.capture := rfl
@[simp] theorem setDie_quiescing (d : Nat) (x : DiePair) : (s.setDie d x).quiescing = s.quiescing := rfl
@[simp] theorem setDie_inForce (d : Nat) (x : DiePair) : (s.setDie d x).inForce = s.inForce := rfl
@[simp] theorem setDie_tensors (d : Nat) (x : DiePair) : (s.setDie d x).tensors = s.tensors := rfl
@[simp] theorem setDie_moves (d : Nat) (x : DiePair) : (s.setDie d x).moves = s.moves := rfl
@[simp] theorem setDie_moveNext (d : Nat) (x : DiePair) : (s.setDie d x).moveNext = s.moveNext := rfl
@[simp] theorem setDie_t1 (d : Nat) (x : DiePair) : (s.setDie d x).t1 = s.t1 := rfl
@[simp] theorem setDie_poison (d : Nat) (x : DiePair) : (s.setDie d x).poison = s.poison := rfl
@[simp] theorem setDie_wiping (d : Nat) (x : DiePair) : (s.setDie d x).wiping = s.wiping := rfl
@[simp] theorem setDie_chans (d : Nat) (x : DiePair) : (s.setDie d x).chans = s.chans := rfl
@[simp] theorem setDie_mapouts (d : Nat) (x : DiePair) : (s.setDie d x).mapouts = s.mapouts := rfl
@[simp] theorem setDie_parityMoved (d : Nat) (x : DiePair) : (s.setDie d x).parityMoved = s.parityMoved := rfl
@[simp] theorem setDie_nbus (d : Nat) (x : DiePair) : (s.setDie d x).nbus = s.nbus := rfl
@[simp] theorem setDie_bias (d : Nat) (x : DiePair) : (s.setDie d x).bias = s.bias := rfl
@[simp] theorem setDie_t0 (d : Nat) (x : DiePair) : (s.setDie d x).t0 = s.t0 := rfl
@[simp] theorem setDie_cores (d : Nat) (x : DiePair) : (s.setDie d x).cores = s.cores := rfl
@[simp] theorem setDie_entries (d : Nat) (x : DiePair) : (s.setDie d x).entries = s.entries := rfl
@[simp] theorem setDie_trees (d : Nat) (x : DiePair) : (s.setDie d x).trees = s.trees := rfl
@[simp] theorem setDie_impos (d : Nat) (x : DiePair) : (s.setDie d x).impos = s.impos := rfl
@[simp] theorem setDie_loader (d : Nat) (x : DiePair) : (s.setDie d x).loader = s.loader := rfl
@[simp] theorem setDie_steps (d : Nat) (x : DiePair) : (s.setDie d x).steps = s.steps := rfl
@[simp] theorem setDie_arrived (d : Nat) (x : DiePair) : (s.setDie d x).arrived = s.arrived := rfl
@[simp] theorem setDie_records (d : Nat) (x : DiePair) : (s.setDie d x).records = s.records := rfl
@[simp] theorem setDie_due (d : Nat) (x : DiePair) : (s.setDie d x).due = s.due := rfl
@[simp] theorem setDie_regions (d : Nat) (x : DiePair) : (s.setDie d x).regions = s.regions := rfl
@[simp] theorem setDie_rings (d : Nat) (x : DiePair) : (s.setDie d x).rings = s.rings := rfl
@[simp] theorem setDie_d3hot (d : Nat) (x : DiePair) : (s.setDie d x).d3hot = s.d3hot := rfl
@[simp] theorem setDie_heldOut (d : Nat) (x : DiePair) : (s.setDie d x).heldOut = s.heldOut := rfl
@[simp] theorem setDie_links (d : Nat) (x : DiePair) : (s.setDie d x).links = s.links := rfl
@[simp] theorem setDie_inbox (d : Nat) (x : DiePair) : (s.setDie d x).inbox = s.inbox := rfl
@[simp] theorem setDie_sent (d : Nat) (x : DiePair) : (s.setDie d x).sent = s.sent := rfl
@[simp] theorem setDie_applied (d : Nat) (x : DiePair) : (s.setDie d x).applied = s.applied := rfl
@[simp] theorem setDie_msgIds (d : Nat) (x : DiePair) : (s.setDie d x).msgIds = s.msgIds := rfl
@[simp] theorem setDie_routes (d : Nat) (x : DiePair) : (s.setDie d x).routes = s.routes := rfl
@[simp] theorem setDie_times (d : Nat) (x : DiePair) : (s.setDie d x).times = s.times := rfl
@[simp] theorem setDie_mirrors (d : Nat) (x : DiePair) : (s.setDie d x).mirrors = s.mirrors := rfl
@[simp] theorem setDie_homes (d : Nat) (x : DiePair) : (s.setDie d x).homes = s.homes := rfl
@[simp] theorem setDie_home (d : Nat) (x : DiePair) : (s.setDie d x).home = s.home := rfl
@[simp] theorem setDie_groups (d : Nat) (x : DiePair) : (s.setDie d x).groups = s.groups := rfl
@[simp] theorem setDie_deferred (d : Nat) (x : DiePair) : (s.setDie d x).deferred = s.deferred := rfl
@[simp] theorem setDie_gatedWrites (d : Nat) (x : DiePair) : (s.setDie d x).gatedWrites = s.gatedWrites := rfl
@[simp] theorem setDie_out (d : Nat) (x : DiePair) : (s.setDie d x).out = s.out := rfl

@[simp] theorem setPort_pending (p : Nat) (x : Port) : (s.setPort p x).pending = s.pending := of_setPort s State.pending (fun _ _ _ => rfl) (fun _ _ => rfl) p x
@[simp] theorem setPort_free (p : Nat) (x : Port) : (s.setPort p x).free = s.free := of_setPort s State.free (fun _ _ _ => rfl) (fun _ _ => rfl) p x
@[simp] theorem setPort_clock (p : Nat) (x : Port) : (s.setPort p x).clock = s.clock := of_setPort s State.clock (fun _ _ _ => rfl) (fun _ _ => rfl) p x
@[simp] theorem setPort_cnt (p : Nat) (x : Port) : (s.setPort p x).cnt = s.cnt := of_setPort s State.cnt (fun _ _ _ => rfl) (fun _ _ => rfl) p x
@[simp] theorem setPort_snap (p : Nat) (x : Port) : (s.setPort p x).snap = s.snap := of_setPort s State.snap (fun _ _ _ => rfl) (fun _ _ => rfl) p x
@[simp] theorem setPort_latch (p : Nat) (x : Port) : (s.setPort p x).latch = s.latch := of_setPort s State.latch (fun _ _ _ => rfl) (fun _ _ => rfl) p x
@[simp] theorem setPort_msix (p : Nat) (x : Port) : (s.setPort p x).msix = s.msix := of_setPort s State.msix (fun _ _ _ => rfl) (fun _ _ => rfl) p x
@[simp] theorem setPort_west (p : Nat) (x : Port) : (s.setPort p x).west = s.west := of_setPort s State.west (fun _ _ _ => rfl) (fun _ _ => rfl) p x
@[simp] theorem setPort_east (p : Nat) (x : Port) : (s.setPort p x).east = s.east := of_setPort s State.east (fun _ _ _ => rfl) (fun _ _ => rfl) p x
@[simp] theorem setPort_hubWest (p : Nat) (x : Port) : (s.setPort p x).hubWest = s.hubWest := of_setPort s State.hubWest (fun _ _ _ => rfl) (fun _ _ => rfl) p x
@[simp] theorem setPort_hubEast (p : Nat) (x : Port) : (s.setPort p x).hubEast = s.hubEast := of_setPort s State.hubEast (fun _ _ _ => rfl) (fun _ _ => rfl) p x
@[simp] theorem setPort_hubLink (p : Nat) (x : Port) : (s.setPort p x).hubLink = s.hubLink := of_setPort s State.hubLink (fun _ _ _ => rfl) (fun _ _ => rfl) p x
@[simp] theorem setPort_governor (p : Nat) (x : Port) : (s.setPort p x).governor = s.governor := of_setPort s State.governor (fun _ _ _ => rfl) (fun _ _ => rfl) p x
@[simp] theorem setPort_dies (p : Nat) (x : Port) : (s.setPort p x).dies = s.dies := of_setPort s State.dies (fun _ _ _ => rfl) (fun _ _ => rfl) p x
@[simp] theorem setPort_fuses (p : Nat) (x : Port) : (s.setPort p x).fuses = s.fuses := of_setPort s State.fuses (fun _ _ _ => rfl) (fun _ _ => rfl) p x
@[simp] theorem setPort_nvs (p : Nat) (x : Port) : (s.setPort p x).nvs = s.nvs := of_setPort s State.nvs (fun _ _ _ => rfl) (fun _ _ => rfl) p x
@[simp] theorem setPort_colophon (p : Nat) (x : Port) : (s.setPort p x).colophon = s.colophon := of_setPort s State.colophon (fun _ _ _ => rfl) (fun _ _ => rfl) p x
@[simp] theorem setPort_fallow (p : Nat) (x : Port) : (s.setPort p x).fallow = s.fallow := of_setPort s State.fallow (fun _ _ _ => rfl) (fun _ _ => rfl) p x
@[simp] theorem setPort_i3c (p : Nat) (x : Port) : (s.setPort p x).i3c = s.i3c := of_setPort s State.i3c (fun _ _ _ => rfl) (fun _ _ => rfl) p x
@[simp] theorem setPort_tap (p : Nat) (x : Port) : (s.setPort p x).tap = s.tap := of_setPort s State.tap (fun _ _ _ => rfl) (fun _ _ => rfl) p x
@[simp] theorem setPort_events (p : Nat) (x : Port) : (s.setPort p x).events = s.events := of_setPort s State.events (fun _ _ _ => rfl) (fun _ _ => rfl) p x
@[simp] theorem setPort_sources (p : Nat) (x : Port) : (s.setPort p x).sources = s.sources := of_setPort s State.sources (fun _ _ _ => rfl) (fun _ _ => rfl) p x
@[simp] theorem setPort_capture (p : Nat) (x : Port) : (s.setPort p x).capture = s.capture := of_setPort s State.capture (fun _ _ _ => rfl) (fun _ _ => rfl) p x
@[simp] theorem setPort_quiescing (p : Nat) (x : Port) : (s.setPort p x).quiescing = s.quiescing := of_setPort s State.quiescing (fun _ _ _ => rfl) (fun _ _ => rfl) p x
@[simp] theorem setPort_inForce (p : Nat) (x : Port) : (s.setPort p x).inForce = s.inForce := of_setPort s State.inForce (fun _ _ _ => rfl) (fun _ _ => rfl) p x
@[simp] theorem setPort_tensors (p : Nat) (x : Port) : (s.setPort p x).tensors = s.tensors := of_setPort s State.tensors (fun _ _ _ => rfl) (fun _ _ => rfl) p x
@[simp] theorem setPort_moves (p : Nat) (x : Port) : (s.setPort p x).moves = s.moves := of_setPort s State.moves (fun _ _ _ => rfl) (fun _ _ => rfl) p x
@[simp] theorem setPort_moveNext (p : Nat) (x : Port) : (s.setPort p x).moveNext = s.moveNext := of_setPort s State.moveNext (fun _ _ _ => rfl) (fun _ _ => rfl) p x
@[simp] theorem setPort_t1 (p : Nat) (x : Port) : (s.setPort p x).t1 = s.t1 := of_setPort s State.t1 (fun _ _ _ => rfl) (fun _ _ => rfl) p x
@[simp] theorem setPort_poison (p : Nat) (x : Port) : (s.setPort p x).poison = s.poison := of_setPort s State.poison (fun _ _ _ => rfl) (fun _ _ => rfl) p x
@[simp] theorem setPort_wiping (p : Nat) (x : Port) : (s.setPort p x).wiping = s.wiping := of_setPort s State.wiping (fun _ _ _ => rfl) (fun _ _ => rfl) p x
@[simp] theorem setPort_chans (p : Nat) (x : Port) : (s.setPort p x).chans = s.chans := of_setPort s State.chans (fun _ _ _ => rfl) (fun _ _ => rfl) p x
@[simp] theorem setPort_mapouts (p : Nat) (x : Port) : (s.setPort p x).mapouts = s.mapouts := of_setPort s State.mapouts (fun _ _ _ => rfl) (fun _ _ => rfl) p x
@[simp] theorem setPort_parityMoved (p : Nat) (x : Port) : (s.setPort p x).parityMoved = s.parityMoved := of_setPort s State.parityMoved (fun _ _ _ => rfl) (fun _ _ => rfl) p x
@[simp] theorem setPort_nbus (p : Nat) (x : Port) : (s.setPort p x).nbus = s.nbus := of_setPort s State.nbus (fun _ _ _ => rfl) (fun _ _ => rfl) p x
@[simp] theorem setPort_bias (p : Nat) (x : Port) : (s.setPort p x).bias = s.bias := of_setPort s State.bias (fun _ _ _ => rfl) (fun _ _ => rfl) p x
@[simp] theorem setPort_t0 (p : Nat) (x : Port) : (s.setPort p x).t0 = s.t0 := of_setPort s State.t0 (fun _ _ _ => rfl) (fun _ _ => rfl) p x
@[simp] theorem setPort_cores (p : Nat) (x : Port) : (s.setPort p x).cores = s.cores := of_setPort s State.cores (fun _ _ _ => rfl) (fun _ _ => rfl) p x
@[simp] theorem setPort_entries (p : Nat) (x : Port) : (s.setPort p x).entries = s.entries := of_setPort s State.entries (fun _ _ _ => rfl) (fun _ _ => rfl) p x
@[simp] theorem setPort_trees (p : Nat) (x : Port) : (s.setPort p x).trees = s.trees := of_setPort s State.trees (fun _ _ _ => rfl) (fun _ _ => rfl) p x
@[simp] theorem setPort_impos (p : Nat) (x : Port) : (s.setPort p x).impos = s.impos := of_setPort s State.impos (fun _ _ _ => rfl) (fun _ _ => rfl) p x
@[simp] theorem setPort_loader (p : Nat) (x : Port) : (s.setPort p x).loader = s.loader := of_setPort s State.loader (fun _ _ _ => rfl) (fun _ _ => rfl) p x
@[simp] theorem setPort_steps (p : Nat) (x : Port) : (s.setPort p x).steps = s.steps := of_setPort s State.steps (fun _ _ _ => rfl) (fun _ _ => rfl) p x
@[simp] theorem setPort_arrived (p : Nat) (x : Port) : (s.setPort p x).arrived = s.arrived := of_setPort s State.arrived (fun _ _ _ => rfl) (fun _ _ => rfl) p x
@[simp] theorem setPort_records (p : Nat) (x : Port) : (s.setPort p x).records = s.records := of_setPort s State.records (fun _ _ _ => rfl) (fun _ _ => rfl) p x
@[simp] theorem setPort_due (p : Nat) (x : Port) : (s.setPort p x).due = s.due := of_setPort s State.due (fun _ _ _ => rfl) (fun _ _ => rfl) p x
@[simp] theorem setPort_regions (p : Nat) (x : Port) : (s.setPort p x).regions = s.regions := of_setPort s State.regions (fun _ _ _ => rfl) (fun _ _ => rfl) p x
@[simp] theorem setPort_rings (p : Nat) (x : Port) : (s.setPort p x).rings = s.rings := of_setPort s State.rings (fun _ _ _ => rfl) (fun _ _ => rfl) p x
@[simp] theorem setPort_d3hot (p : Nat) (x : Port) : (s.setPort p x).d3hot = s.d3hot := of_setPort s State.d3hot (fun _ _ _ => rfl) (fun _ _ => rfl) p x
@[simp] theorem setPort_heldOut (p : Nat) (x : Port) : (s.setPort p x).heldOut = s.heldOut := of_setPort s State.heldOut (fun _ _ _ => rfl) (fun _ _ => rfl) p x
@[simp] theorem setPort_links (p : Nat) (x : Port) : (s.setPort p x).links = s.links := of_setPort s State.links (fun _ _ _ => rfl) (fun _ _ => rfl) p x
@[simp] theorem setPort_inbox (p : Nat) (x : Port) : (s.setPort p x).inbox = s.inbox := of_setPort s State.inbox (fun _ _ _ => rfl) (fun _ _ => rfl) p x
@[simp] theorem setPort_sent (p : Nat) (x : Port) : (s.setPort p x).sent = s.sent := of_setPort s State.sent (fun _ _ _ => rfl) (fun _ _ => rfl) p x
@[simp] theorem setPort_applied (p : Nat) (x : Port) : (s.setPort p x).applied = s.applied := of_setPort s State.applied (fun _ _ _ => rfl) (fun _ _ => rfl) p x
@[simp] theorem setPort_msgIds (p : Nat) (x : Port) : (s.setPort p x).msgIds = s.msgIds := of_setPort s State.msgIds (fun _ _ _ => rfl) (fun _ _ => rfl) p x
@[simp] theorem setPort_routes (p : Nat) (x : Port) : (s.setPort p x).routes = s.routes := of_setPort s State.routes (fun _ _ _ => rfl) (fun _ _ => rfl) p x
@[simp] theorem setPort_times (p : Nat) (x : Port) : (s.setPort p x).times = s.times := of_setPort s State.times (fun _ _ _ => rfl) (fun _ _ => rfl) p x
@[simp] theorem setPort_mirrors (p : Nat) (x : Port) : (s.setPort p x).mirrors = s.mirrors := of_setPort s State.mirrors (fun _ _ _ => rfl) (fun _ _ => rfl) p x
@[simp] theorem setPort_homes (p : Nat) (x : Port) : (s.setPort p x).homes = s.homes := of_setPort s State.homes (fun _ _ _ => rfl) (fun _ _ => rfl) p x
@[simp] theorem setPort_home (p : Nat) (x : Port) : (s.setPort p x).home = s.home := of_setPort s State.home (fun _ _ _ => rfl) (fun _ _ => rfl) p x
@[simp] theorem setPort_groups (p : Nat) (x : Port) : (s.setPort p x).groups = s.groups := of_setPort s State.groups (fun _ _ _ => rfl) (fun _ _ => rfl) p x
@[simp] theorem setPort_deferred (p : Nat) (x : Port) : (s.setPort p x).deferred = s.deferred := of_setPort s State.deferred (fun _ _ _ => rfl) (fun _ _ => rfl) p x
@[simp] theorem setPort_gatedWrites (p : Nat) (x : Port) : (s.setPort p x).gatedWrites = s.gatedWrites := of_setPort s State.gatedWrites (fun _ _ _ => rfl) (fun _ _ => rfl) p x
@[simp] theorem setPort_out (p : Nat) (x : Port) : (s.setPort p x).out = s.out := of_setPort s State.out (fun _ _ _ => rfl) (fun _ _ => rfl) p x

@[simp] theorem setLink_pending (p : Nat) (x : Link) : (s.setLink p x).pending = s.pending := rfl
@[simp] theorem setLink_free (p : Nat) (x : Link) : (s.setLink p x).free = s.free := rfl
@[simp] theorem setLink_clock (p : Nat) (x : Link) : (s.setLink p x).clock = s.clock := rfl
@[simp] theorem setLink_regs (p : Nat) (x : Link) : (s.setLink p x).regs = s.regs := rfl
@[simp] theorem setLink_cnt (p : Nat) (x : Link) : (s.setLink p x).cnt = s.cnt := rfl
@[simp] theorem setLink_snap (p : Nat) (x : Link) : (s.setLink p x).snap = s.snap := rfl
@[simp] theorem setLink_latch (p : Nat) (x : Link) : (s.setLink p x).latch = s.latch := rfl
@[simp] theorem setLink_msix (p : Nat) (x : Link) : (s.setLink p x).msix = s.msix := rfl
@[simp] theorem setLink_west (p : Nat) (x : Link) : (s.setLink p x).west = s.west := rfl
@[simp] theorem setLink_east (p : Nat) (x : Link) : (s.setLink p x).east = s.east := rfl
@[simp] theorem setLink_hubWest (p : Nat) (x : Link) : (s.setLink p x).hubWest = s.hubWest := rfl
@[simp] theorem setLink_hubEast (p : Nat) (x : Link) : (s.setLink p x).hubEast = s.hubEast := rfl
@[simp] theorem setLink_hubLink (p : Nat) (x : Link) : (s.setLink p x).hubLink = s.hubLink := rfl
@[simp] theorem setLink_governor (p : Nat) (x : Link) : (s.setLink p x).governor = s.governor := rfl
@[simp] theorem setLink_dies (p : Nat) (x : Link) : (s.setLink p x).dies = s.dies := rfl
@[simp] theorem setLink_fuses (p : Nat) (x : Link) : (s.setLink p x).fuses = s.fuses := rfl
@[simp] theorem setLink_nvs (p : Nat) (x : Link) : (s.setLink p x).nvs = s.nvs := rfl
@[simp] theorem setLink_colophon (p : Nat) (x : Link) : (s.setLink p x).colophon = s.colophon := rfl
@[simp] theorem setLink_fallow (p : Nat) (x : Link) : (s.setLink p x).fallow = s.fallow := rfl
@[simp] theorem setLink_i3c (p : Nat) (x : Link) : (s.setLink p x).i3c = s.i3c := rfl
@[simp] theorem setLink_tap (p : Nat) (x : Link) : (s.setLink p x).tap = s.tap := rfl
@[simp] theorem setLink_events (p : Nat) (x : Link) : (s.setLink p x).events = s.events := rfl
@[simp] theorem setLink_sources (p : Nat) (x : Link) : (s.setLink p x).sources = s.sources := rfl
@[simp] theorem setLink_ports (p : Nat) (x : Link) : (s.setLink p x).ports = s.ports := rfl
@[simp] theorem setLink_capture (p : Nat) (x : Link) : (s.setLink p x).capture = s.capture := rfl
@[simp] theorem setLink_quiescing (p : Nat) (x : Link) : (s.setLink p x).quiescing = s.quiescing := rfl
@[simp] theorem setLink_inForce (p : Nat) (x : Link) : (s.setLink p x).inForce = s.inForce := rfl
@[simp] theorem setLink_tensors (p : Nat) (x : Link) : (s.setLink p x).tensors = s.tensors := rfl
@[simp] theorem setLink_moves (p : Nat) (x : Link) : (s.setLink p x).moves = s.moves := rfl
@[simp] theorem setLink_moveNext (p : Nat) (x : Link) : (s.setLink p x).moveNext = s.moveNext := rfl
@[simp] theorem setLink_t1 (p : Nat) (x : Link) : (s.setLink p x).t1 = s.t1 := rfl
@[simp] theorem setLink_poison (p : Nat) (x : Link) : (s.setLink p x).poison = s.poison := rfl
@[simp] theorem setLink_wiping (p : Nat) (x : Link) : (s.setLink p x).wiping = s.wiping := rfl
@[simp] theorem setLink_chans (p : Nat) (x : Link) : (s.setLink p x).chans = s.chans := rfl
@[simp] theorem setLink_mapouts (p : Nat) (x : Link) : (s.setLink p x).mapouts = s.mapouts := rfl
@[simp] theorem setLink_parityMoved (p : Nat) (x : Link) : (s.setLink p x).parityMoved = s.parityMoved := rfl
@[simp] theorem setLink_nbus (p : Nat) (x : Link) : (s.setLink p x).nbus = s.nbus := rfl
@[simp] theorem setLink_bias (p : Nat) (x : Link) : (s.setLink p x).bias = s.bias := rfl
@[simp] theorem setLink_t0 (p : Nat) (x : Link) : (s.setLink p x).t0 = s.t0 := rfl
@[simp] theorem setLink_cores (p : Nat) (x : Link) : (s.setLink p x).cores = s.cores := rfl
@[simp] theorem setLink_entries (p : Nat) (x : Link) : (s.setLink p x).entries = s.entries := rfl
@[simp] theorem setLink_trees (p : Nat) (x : Link) : (s.setLink p x).trees = s.trees := rfl
@[simp] theorem setLink_impos (p : Nat) (x : Link) : (s.setLink p x).impos = s.impos := rfl
@[simp] theorem setLink_loader (p : Nat) (x : Link) : (s.setLink p x).loader = s.loader := rfl
@[simp] theorem setLink_steps (p : Nat) (x : Link) : (s.setLink p x).steps = s.steps := rfl
@[simp] theorem setLink_arrived (p : Nat) (x : Link) : (s.setLink p x).arrived = s.arrived := rfl
@[simp] theorem setLink_records (p : Nat) (x : Link) : (s.setLink p x).records = s.records := rfl
@[simp] theorem setLink_due (p : Nat) (x : Link) : (s.setLink p x).due = s.due := rfl
@[simp] theorem setLink_regions (p : Nat) (x : Link) : (s.setLink p x).regions = s.regions := rfl
@[simp] theorem setLink_rings (p : Nat) (x : Link) : (s.setLink p x).rings = s.rings := rfl
@[simp] theorem setLink_d3hot (p : Nat) (x : Link) : (s.setLink p x).d3hot = s.d3hot := rfl
@[simp] theorem setLink_heldOut (p : Nat) (x : Link) : (s.setLink p x).heldOut = s.heldOut := rfl
@[simp] theorem setLink_inbox (p : Nat) (x : Link) : (s.setLink p x).inbox = s.inbox := rfl
@[simp] theorem setLink_sent (p : Nat) (x : Link) : (s.setLink p x).sent = s.sent := rfl
@[simp] theorem setLink_applied (p : Nat) (x : Link) : (s.setLink p x).applied = s.applied := rfl
@[simp] theorem setLink_msgIds (p : Nat) (x : Link) : (s.setLink p x).msgIds = s.msgIds := rfl
@[simp] theorem setLink_routes (p : Nat) (x : Link) : (s.setLink p x).routes = s.routes := rfl
@[simp] theorem setLink_times (p : Nat) (x : Link) : (s.setLink p x).times = s.times := rfl
@[simp] theorem setLink_mirrors (p : Nat) (x : Link) : (s.setLink p x).mirrors = s.mirrors := rfl
@[simp] theorem setLink_homes (p : Nat) (x : Link) : (s.setLink p x).homes = s.homes := rfl
@[simp] theorem setLink_home (p : Nat) (x : Link) : (s.setLink p x).home = s.home := rfl
@[simp] theorem setLink_groups (p : Nat) (x : Link) : (s.setLink p x).groups = s.groups := rfl
@[simp] theorem setLink_deferred (p : Nat) (x : Link) : (s.setLink p x).deferred = s.deferred := rfl
@[simp] theorem setLink_gatedWrites (p : Nat) (x : Link) : (s.setLink p x).gatedWrites = s.gatedWrites := rfl
@[simp] theorem setLink_out (p : Nat) (x : Link) : (s.setLink p x).out = s.out := rfl

@[simp] theorem setEntry_pending (i : Nat) (x : Entry) : (s.setEntry i x).pending = s.pending := rfl
@[simp] theorem setEntry_free (i : Nat) (x : Entry) : (s.setEntry i x).free = s.free := rfl
@[simp] theorem setEntry_clock (i : Nat) (x : Entry) : (s.setEntry i x).clock = s.clock := rfl
@[simp] theorem setEntry_regs (i : Nat) (x : Entry) : (s.setEntry i x).regs = s.regs := rfl
@[simp] theorem setEntry_cnt (i : Nat) (x : Entry) : (s.setEntry i x).cnt = s.cnt := rfl
@[simp] theorem setEntry_snap (i : Nat) (x : Entry) : (s.setEntry i x).snap = s.snap := rfl
@[simp] theorem setEntry_latch (i : Nat) (x : Entry) : (s.setEntry i x).latch = s.latch := rfl
@[simp] theorem setEntry_msix (i : Nat) (x : Entry) : (s.setEntry i x).msix = s.msix := rfl
@[simp] theorem setEntry_west (i : Nat) (x : Entry) : (s.setEntry i x).west = s.west := rfl
@[simp] theorem setEntry_east (i : Nat) (x : Entry) : (s.setEntry i x).east = s.east := rfl
@[simp] theorem setEntry_hubWest (i : Nat) (x : Entry) : (s.setEntry i x).hubWest = s.hubWest := rfl
@[simp] theorem setEntry_hubEast (i : Nat) (x : Entry) : (s.setEntry i x).hubEast = s.hubEast := rfl
@[simp] theorem setEntry_hubLink (i : Nat) (x : Entry) : (s.setEntry i x).hubLink = s.hubLink := rfl
@[simp] theorem setEntry_governor (i : Nat) (x : Entry) : (s.setEntry i x).governor = s.governor := rfl
@[simp] theorem setEntry_dies (i : Nat) (x : Entry) : (s.setEntry i x).dies = s.dies := rfl
@[simp] theorem setEntry_fuses (i : Nat) (x : Entry) : (s.setEntry i x).fuses = s.fuses := rfl
@[simp] theorem setEntry_nvs (i : Nat) (x : Entry) : (s.setEntry i x).nvs = s.nvs := rfl
@[simp] theorem setEntry_colophon (i : Nat) (x : Entry) : (s.setEntry i x).colophon = s.colophon := rfl
@[simp] theorem setEntry_fallow (i : Nat) (x : Entry) : (s.setEntry i x).fallow = s.fallow := rfl
@[simp] theorem setEntry_i3c (i : Nat) (x : Entry) : (s.setEntry i x).i3c = s.i3c := rfl
@[simp] theorem setEntry_tap (i : Nat) (x : Entry) : (s.setEntry i x).tap = s.tap := rfl
@[simp] theorem setEntry_events (i : Nat) (x : Entry) : (s.setEntry i x).events = s.events := rfl
@[simp] theorem setEntry_sources (i : Nat) (x : Entry) : (s.setEntry i x).sources = s.sources := rfl
@[simp] theorem setEntry_ports (i : Nat) (x : Entry) : (s.setEntry i x).ports = s.ports := rfl
@[simp] theorem setEntry_capture (i : Nat) (x : Entry) : (s.setEntry i x).capture = s.capture := rfl
@[simp] theorem setEntry_quiescing (i : Nat) (x : Entry) : (s.setEntry i x).quiescing = s.quiescing := rfl
@[simp] theorem setEntry_inForce (i : Nat) (x : Entry) : (s.setEntry i x).inForce = s.inForce := rfl
@[simp] theorem setEntry_tensors (i : Nat) (x : Entry) : (s.setEntry i x).tensors = s.tensors := rfl
@[simp] theorem setEntry_moves (i : Nat) (x : Entry) : (s.setEntry i x).moves = s.moves := rfl
@[simp] theorem setEntry_moveNext (i : Nat) (x : Entry) : (s.setEntry i x).moveNext = s.moveNext := rfl
@[simp] theorem setEntry_t1 (i : Nat) (x : Entry) : (s.setEntry i x).t1 = s.t1 := rfl
@[simp] theorem setEntry_poison (i : Nat) (x : Entry) : (s.setEntry i x).poison = s.poison := rfl
@[simp] theorem setEntry_wiping (i : Nat) (x : Entry) : (s.setEntry i x).wiping = s.wiping := rfl
@[simp] theorem setEntry_chans (i : Nat) (x : Entry) : (s.setEntry i x).chans = s.chans := rfl
@[simp] theorem setEntry_mapouts (i : Nat) (x : Entry) : (s.setEntry i x).mapouts = s.mapouts := rfl
@[simp] theorem setEntry_parityMoved (i : Nat) (x : Entry) : (s.setEntry i x).parityMoved = s.parityMoved := rfl
@[simp] theorem setEntry_nbus (i : Nat) (x : Entry) : (s.setEntry i x).nbus = s.nbus := rfl
@[simp] theorem setEntry_bias (i : Nat) (x : Entry) : (s.setEntry i x).bias = s.bias := rfl
@[simp] theorem setEntry_t0 (i : Nat) (x : Entry) : (s.setEntry i x).t0 = s.t0 := rfl
@[simp] theorem setEntry_cores (i : Nat) (x : Entry) : (s.setEntry i x).cores = s.cores := rfl
@[simp] theorem setEntry_trees (i : Nat) (x : Entry) : (s.setEntry i x).trees = s.trees := rfl
@[simp] theorem setEntry_impos (i : Nat) (x : Entry) : (s.setEntry i x).impos = s.impos := rfl
@[simp] theorem setEntry_loader (i : Nat) (x : Entry) : (s.setEntry i x).loader = s.loader := rfl
@[simp] theorem setEntry_steps (i : Nat) (x : Entry) : (s.setEntry i x).steps = s.steps := rfl
@[simp] theorem setEntry_arrived (i : Nat) (x : Entry) : (s.setEntry i x).arrived = s.arrived := rfl
@[simp] theorem setEntry_records (i : Nat) (x : Entry) : (s.setEntry i x).records = s.records := rfl
@[simp] theorem setEntry_due (i : Nat) (x : Entry) : (s.setEntry i x).due = s.due := rfl
@[simp] theorem setEntry_regions (i : Nat) (x : Entry) : (s.setEntry i x).regions = s.regions := rfl
@[simp] theorem setEntry_rings (i : Nat) (x : Entry) : (s.setEntry i x).rings = s.rings := rfl
@[simp] theorem setEntry_d3hot (i : Nat) (x : Entry) : (s.setEntry i x).d3hot = s.d3hot := rfl
@[simp] theorem setEntry_heldOut (i : Nat) (x : Entry) : (s.setEntry i x).heldOut = s.heldOut := rfl
@[simp] theorem setEntry_links (i : Nat) (x : Entry) : (s.setEntry i x).links = s.links := rfl
@[simp] theorem setEntry_inbox (i : Nat) (x : Entry) : (s.setEntry i x).inbox = s.inbox := rfl
@[simp] theorem setEntry_sent (i : Nat) (x : Entry) : (s.setEntry i x).sent = s.sent := rfl
@[simp] theorem setEntry_applied (i : Nat) (x : Entry) : (s.setEntry i x).applied = s.applied := rfl
@[simp] theorem setEntry_msgIds (i : Nat) (x : Entry) : (s.setEntry i x).msgIds = s.msgIds := rfl
@[simp] theorem setEntry_routes (i : Nat) (x : Entry) : (s.setEntry i x).routes = s.routes := rfl
@[simp] theorem setEntry_times (i : Nat) (x : Entry) : (s.setEntry i x).times = s.times := rfl
@[simp] theorem setEntry_mirrors (i : Nat) (x : Entry) : (s.setEntry i x).mirrors = s.mirrors := rfl
@[simp] theorem setEntry_homes (i : Nat) (x : Entry) : (s.setEntry i x).homes = s.homes := rfl
@[simp] theorem setEntry_home (i : Nat) (x : Entry) : (s.setEntry i x).home = s.home := rfl
@[simp] theorem setEntry_groups (i : Nat) (x : Entry) : (s.setEntry i x).groups = s.groups := rfl
@[simp] theorem setEntry_deferred (i : Nat) (x : Entry) : (s.setEntry i x).deferred = s.deferred := rfl
@[simp] theorem setEntry_gatedWrites (i : Nat) (x : Entry) : (s.setEntry i x).gatedWrites = s.gatedWrites := rfl
@[simp] theorem setEntry_out (i : Nat) (x : Entry) : (s.setEntry i x).out = s.out := rfl

@[simp] theorem setImpo_pending (i : Nat) (x : ImpoSlot) : (s.setImpo i x).pending = s.pending := rfl
@[simp] theorem setImpo_free (i : Nat) (x : ImpoSlot) : (s.setImpo i x).free = s.free := rfl
@[simp] theorem setImpo_clock (i : Nat) (x : ImpoSlot) : (s.setImpo i x).clock = s.clock := rfl
@[simp] theorem setImpo_regs (i : Nat) (x : ImpoSlot) : (s.setImpo i x).regs = s.regs := rfl
@[simp] theorem setImpo_cnt (i : Nat) (x : ImpoSlot) : (s.setImpo i x).cnt = s.cnt := rfl
@[simp] theorem setImpo_snap (i : Nat) (x : ImpoSlot) : (s.setImpo i x).snap = s.snap := rfl
@[simp] theorem setImpo_latch (i : Nat) (x : ImpoSlot) : (s.setImpo i x).latch = s.latch := rfl
@[simp] theorem setImpo_msix (i : Nat) (x : ImpoSlot) : (s.setImpo i x).msix = s.msix := rfl
@[simp] theorem setImpo_west (i : Nat) (x : ImpoSlot) : (s.setImpo i x).west = s.west := rfl
@[simp] theorem setImpo_east (i : Nat) (x : ImpoSlot) : (s.setImpo i x).east = s.east := rfl
@[simp] theorem setImpo_hubWest (i : Nat) (x : ImpoSlot) : (s.setImpo i x).hubWest = s.hubWest := rfl
@[simp] theorem setImpo_hubEast (i : Nat) (x : ImpoSlot) : (s.setImpo i x).hubEast = s.hubEast := rfl
@[simp] theorem setImpo_hubLink (i : Nat) (x : ImpoSlot) : (s.setImpo i x).hubLink = s.hubLink := rfl
@[simp] theorem setImpo_governor (i : Nat) (x : ImpoSlot) : (s.setImpo i x).governor = s.governor := rfl
@[simp] theorem setImpo_dies (i : Nat) (x : ImpoSlot) : (s.setImpo i x).dies = s.dies := rfl
@[simp] theorem setImpo_fuses (i : Nat) (x : ImpoSlot) : (s.setImpo i x).fuses = s.fuses := rfl
@[simp] theorem setImpo_nvs (i : Nat) (x : ImpoSlot) : (s.setImpo i x).nvs = s.nvs := rfl
@[simp] theorem setImpo_colophon (i : Nat) (x : ImpoSlot) : (s.setImpo i x).colophon = s.colophon := rfl
@[simp] theorem setImpo_fallow (i : Nat) (x : ImpoSlot) : (s.setImpo i x).fallow = s.fallow := rfl
@[simp] theorem setImpo_i3c (i : Nat) (x : ImpoSlot) : (s.setImpo i x).i3c = s.i3c := rfl
@[simp] theorem setImpo_tap (i : Nat) (x : ImpoSlot) : (s.setImpo i x).tap = s.tap := rfl
@[simp] theorem setImpo_events (i : Nat) (x : ImpoSlot) : (s.setImpo i x).events = s.events := rfl
@[simp] theorem setImpo_sources (i : Nat) (x : ImpoSlot) : (s.setImpo i x).sources = s.sources := rfl
@[simp] theorem setImpo_ports (i : Nat) (x : ImpoSlot) : (s.setImpo i x).ports = s.ports := rfl
@[simp] theorem setImpo_capture (i : Nat) (x : ImpoSlot) : (s.setImpo i x).capture = s.capture := rfl
@[simp] theorem setImpo_quiescing (i : Nat) (x : ImpoSlot) : (s.setImpo i x).quiescing = s.quiescing := rfl
@[simp] theorem setImpo_inForce (i : Nat) (x : ImpoSlot) : (s.setImpo i x).inForce = s.inForce := rfl
@[simp] theorem setImpo_tensors (i : Nat) (x : ImpoSlot) : (s.setImpo i x).tensors = s.tensors := rfl
@[simp] theorem setImpo_moves (i : Nat) (x : ImpoSlot) : (s.setImpo i x).moves = s.moves := rfl
@[simp] theorem setImpo_moveNext (i : Nat) (x : ImpoSlot) : (s.setImpo i x).moveNext = s.moveNext := rfl
@[simp] theorem setImpo_t1 (i : Nat) (x : ImpoSlot) : (s.setImpo i x).t1 = s.t1 := rfl
@[simp] theorem setImpo_poison (i : Nat) (x : ImpoSlot) : (s.setImpo i x).poison = s.poison := rfl
@[simp] theorem setImpo_wiping (i : Nat) (x : ImpoSlot) : (s.setImpo i x).wiping = s.wiping := rfl
@[simp] theorem setImpo_chans (i : Nat) (x : ImpoSlot) : (s.setImpo i x).chans = s.chans := rfl
@[simp] theorem setImpo_mapouts (i : Nat) (x : ImpoSlot) : (s.setImpo i x).mapouts = s.mapouts := rfl
@[simp] theorem setImpo_parityMoved (i : Nat) (x : ImpoSlot) : (s.setImpo i x).parityMoved = s.parityMoved := rfl
@[simp] theorem setImpo_nbus (i : Nat) (x : ImpoSlot) : (s.setImpo i x).nbus = s.nbus := rfl
@[simp] theorem setImpo_bias (i : Nat) (x : ImpoSlot) : (s.setImpo i x).bias = s.bias := rfl
@[simp] theorem setImpo_t0 (i : Nat) (x : ImpoSlot) : (s.setImpo i x).t0 = s.t0 := rfl
@[simp] theorem setImpo_cores (i : Nat) (x : ImpoSlot) : (s.setImpo i x).cores = s.cores := rfl
@[simp] theorem setImpo_entries (i : Nat) (x : ImpoSlot) : (s.setImpo i x).entries = s.entries := rfl
@[simp] theorem setImpo_trees (i : Nat) (x : ImpoSlot) : (s.setImpo i x).trees = s.trees := rfl
@[simp] theorem setImpo_loader (i : Nat) (x : ImpoSlot) : (s.setImpo i x).loader = s.loader := rfl
@[simp] theorem setImpo_steps (i : Nat) (x : ImpoSlot) : (s.setImpo i x).steps = s.steps := rfl
@[simp] theorem setImpo_arrived (i : Nat) (x : ImpoSlot) : (s.setImpo i x).arrived = s.arrived := rfl
@[simp] theorem setImpo_records (i : Nat) (x : ImpoSlot) : (s.setImpo i x).records = s.records := rfl
@[simp] theorem setImpo_due (i : Nat) (x : ImpoSlot) : (s.setImpo i x).due = s.due := rfl
@[simp] theorem setImpo_regions (i : Nat) (x : ImpoSlot) : (s.setImpo i x).regions = s.regions := rfl
@[simp] theorem setImpo_rings (i : Nat) (x : ImpoSlot) : (s.setImpo i x).rings = s.rings := rfl
@[simp] theorem setImpo_d3hot (i : Nat) (x : ImpoSlot) : (s.setImpo i x).d3hot = s.d3hot := rfl
@[simp] theorem setImpo_heldOut (i : Nat) (x : ImpoSlot) : (s.setImpo i x).heldOut = s.heldOut := rfl
@[simp] theorem setImpo_links (i : Nat) (x : ImpoSlot) : (s.setImpo i x).links = s.links := rfl
@[simp] theorem setImpo_inbox (i : Nat) (x : ImpoSlot) : (s.setImpo i x).inbox = s.inbox := rfl
@[simp] theorem setImpo_sent (i : Nat) (x : ImpoSlot) : (s.setImpo i x).sent = s.sent := rfl
@[simp] theorem setImpo_applied (i : Nat) (x : ImpoSlot) : (s.setImpo i x).applied = s.applied := rfl
@[simp] theorem setImpo_msgIds (i : Nat) (x : ImpoSlot) : (s.setImpo i x).msgIds = s.msgIds := rfl
@[simp] theorem setImpo_routes (i : Nat) (x : ImpoSlot) : (s.setImpo i x).routes = s.routes := rfl
@[simp] theorem setImpo_times (i : Nat) (x : ImpoSlot) : (s.setImpo i x).times = s.times := rfl
@[simp] theorem setImpo_mirrors (i : Nat) (x : ImpoSlot) : (s.setImpo i x).mirrors = s.mirrors := rfl
@[simp] theorem setImpo_homes (i : Nat) (x : ImpoSlot) : (s.setImpo i x).homes = s.homes := rfl
@[simp] theorem setImpo_home (i : Nat) (x : ImpoSlot) : (s.setImpo i x).home = s.home := rfl
@[simp] theorem setImpo_groups (i : Nat) (x : ImpoSlot) : (s.setImpo i x).groups = s.groups := rfl
@[simp] theorem setImpo_deferred (i : Nat) (x : ImpoSlot) : (s.setImpo i x).deferred = s.deferred := rfl
@[simp] theorem setImpo_gatedWrites (i : Nat) (x : ImpoSlot) : (s.setImpo i x).gatedWrites = s.gatedWrites := rfl
@[simp] theorem setImpo_out (i : Nat) (x : ImpoSlot) : (s.setImpo i x).out = s.out := rfl

@[simp] theorem setTensor_pending (i : Nat) (x : Tensor) : (s.setTensor i x).pending = s.pending := rfl
@[simp] theorem setTensor_free (i : Nat) (x : Tensor) : (s.setTensor i x).free = s.free := rfl
@[simp] theorem setTensor_clock (i : Nat) (x : Tensor) : (s.setTensor i x).clock = s.clock := rfl
@[simp] theorem setTensor_regs (i : Nat) (x : Tensor) : (s.setTensor i x).regs = s.regs := rfl
@[simp] theorem setTensor_cnt (i : Nat) (x : Tensor) : (s.setTensor i x).cnt = s.cnt := rfl
@[simp] theorem setTensor_snap (i : Nat) (x : Tensor) : (s.setTensor i x).snap = s.snap := rfl
@[simp] theorem setTensor_latch (i : Nat) (x : Tensor) : (s.setTensor i x).latch = s.latch := rfl
@[simp] theorem setTensor_msix (i : Nat) (x : Tensor) : (s.setTensor i x).msix = s.msix := rfl
@[simp] theorem setTensor_west (i : Nat) (x : Tensor) : (s.setTensor i x).west = s.west := rfl
@[simp] theorem setTensor_east (i : Nat) (x : Tensor) : (s.setTensor i x).east = s.east := rfl
@[simp] theorem setTensor_hubWest (i : Nat) (x : Tensor) : (s.setTensor i x).hubWest = s.hubWest := rfl
@[simp] theorem setTensor_hubEast (i : Nat) (x : Tensor) : (s.setTensor i x).hubEast = s.hubEast := rfl
@[simp] theorem setTensor_hubLink (i : Nat) (x : Tensor) : (s.setTensor i x).hubLink = s.hubLink := rfl
@[simp] theorem setTensor_governor (i : Nat) (x : Tensor) : (s.setTensor i x).governor = s.governor := rfl
@[simp] theorem setTensor_dies (i : Nat) (x : Tensor) : (s.setTensor i x).dies = s.dies := rfl
@[simp] theorem setTensor_fuses (i : Nat) (x : Tensor) : (s.setTensor i x).fuses = s.fuses := rfl
@[simp] theorem setTensor_nvs (i : Nat) (x : Tensor) : (s.setTensor i x).nvs = s.nvs := rfl
@[simp] theorem setTensor_colophon (i : Nat) (x : Tensor) : (s.setTensor i x).colophon = s.colophon := rfl
@[simp] theorem setTensor_fallow (i : Nat) (x : Tensor) : (s.setTensor i x).fallow = s.fallow := rfl
@[simp] theorem setTensor_i3c (i : Nat) (x : Tensor) : (s.setTensor i x).i3c = s.i3c := rfl
@[simp] theorem setTensor_tap (i : Nat) (x : Tensor) : (s.setTensor i x).tap = s.tap := rfl
@[simp] theorem setTensor_events (i : Nat) (x : Tensor) : (s.setTensor i x).events = s.events := rfl
@[simp] theorem setTensor_sources (i : Nat) (x : Tensor) : (s.setTensor i x).sources = s.sources := rfl
@[simp] theorem setTensor_ports (i : Nat) (x : Tensor) : (s.setTensor i x).ports = s.ports := rfl
@[simp] theorem setTensor_capture (i : Nat) (x : Tensor) : (s.setTensor i x).capture = s.capture := rfl
@[simp] theorem setTensor_quiescing (i : Nat) (x : Tensor) : (s.setTensor i x).quiescing = s.quiescing := rfl
@[simp] theorem setTensor_inForce (i : Nat) (x : Tensor) : (s.setTensor i x).inForce = s.inForce := rfl
@[simp] theorem setTensor_moves (i : Nat) (x : Tensor) : (s.setTensor i x).moves = s.moves := rfl
@[simp] theorem setTensor_moveNext (i : Nat) (x : Tensor) : (s.setTensor i x).moveNext = s.moveNext := rfl
@[simp] theorem setTensor_t1 (i : Nat) (x : Tensor) : (s.setTensor i x).t1 = s.t1 := rfl
@[simp] theorem setTensor_poison (i : Nat) (x : Tensor) : (s.setTensor i x).poison = s.poison := rfl
@[simp] theorem setTensor_wiping (i : Nat) (x : Tensor) : (s.setTensor i x).wiping = s.wiping := rfl
@[simp] theorem setTensor_chans (i : Nat) (x : Tensor) : (s.setTensor i x).chans = s.chans := rfl
@[simp] theorem setTensor_mapouts (i : Nat) (x : Tensor) : (s.setTensor i x).mapouts = s.mapouts := rfl
@[simp] theorem setTensor_parityMoved (i : Nat) (x : Tensor) : (s.setTensor i x).parityMoved = s.parityMoved := rfl
@[simp] theorem setTensor_nbus (i : Nat) (x : Tensor) : (s.setTensor i x).nbus = s.nbus := rfl
@[simp] theorem setTensor_bias (i : Nat) (x : Tensor) : (s.setTensor i x).bias = s.bias := rfl
@[simp] theorem setTensor_t0 (i : Nat) (x : Tensor) : (s.setTensor i x).t0 = s.t0 := rfl
@[simp] theorem setTensor_cores (i : Nat) (x : Tensor) : (s.setTensor i x).cores = s.cores := rfl
@[simp] theorem setTensor_entries (i : Nat) (x : Tensor) : (s.setTensor i x).entries = s.entries := rfl
@[simp] theorem setTensor_trees (i : Nat) (x : Tensor) : (s.setTensor i x).trees = s.trees := rfl
@[simp] theorem setTensor_impos (i : Nat) (x : Tensor) : (s.setTensor i x).impos = s.impos := rfl
@[simp] theorem setTensor_loader (i : Nat) (x : Tensor) : (s.setTensor i x).loader = s.loader := rfl
@[simp] theorem setTensor_steps (i : Nat) (x : Tensor) : (s.setTensor i x).steps = s.steps := rfl
@[simp] theorem setTensor_arrived (i : Nat) (x : Tensor) : (s.setTensor i x).arrived = s.arrived := rfl
@[simp] theorem setTensor_records (i : Nat) (x : Tensor) : (s.setTensor i x).records = s.records := rfl
@[simp] theorem setTensor_due (i : Nat) (x : Tensor) : (s.setTensor i x).due = s.due := rfl
@[simp] theorem setTensor_regions (i : Nat) (x : Tensor) : (s.setTensor i x).regions = s.regions := rfl
@[simp] theorem setTensor_rings (i : Nat) (x : Tensor) : (s.setTensor i x).rings = s.rings := rfl
@[simp] theorem setTensor_d3hot (i : Nat) (x : Tensor) : (s.setTensor i x).d3hot = s.d3hot := rfl
@[simp] theorem setTensor_heldOut (i : Nat) (x : Tensor) : (s.setTensor i x).heldOut = s.heldOut := rfl
@[simp] theorem setTensor_links (i : Nat) (x : Tensor) : (s.setTensor i x).links = s.links := rfl
@[simp] theorem setTensor_inbox (i : Nat) (x : Tensor) : (s.setTensor i x).inbox = s.inbox := rfl
@[simp] theorem setTensor_sent (i : Nat) (x : Tensor) : (s.setTensor i x).sent = s.sent := rfl
@[simp] theorem setTensor_applied (i : Nat) (x : Tensor) : (s.setTensor i x).applied = s.applied := rfl
@[simp] theorem setTensor_msgIds (i : Nat) (x : Tensor) : (s.setTensor i x).msgIds = s.msgIds := rfl
@[simp] theorem setTensor_routes (i : Nat) (x : Tensor) : (s.setTensor i x).routes = s.routes := rfl
@[simp] theorem setTensor_times (i : Nat) (x : Tensor) : (s.setTensor i x).times = s.times := rfl
@[simp] theorem setTensor_mirrors (i : Nat) (x : Tensor) : (s.setTensor i x).mirrors = s.mirrors := rfl
@[simp] theorem setTensor_homes (i : Nat) (x : Tensor) : (s.setTensor i x).homes = s.homes := rfl
@[simp] theorem setTensor_home (i : Nat) (x : Tensor) : (s.setTensor i x).home = s.home := rfl
@[simp] theorem setTensor_groups (i : Nat) (x : Tensor) : (s.setTensor i x).groups = s.groups := rfl
@[simp] theorem setTensor_deferred (i : Nat) (x : Tensor) : (s.setTensor i x).deferred = s.deferred := rfl
@[simp] theorem setTensor_gatedWrites (i : Nat) (x : Tensor) : (s.setTensor i x).gatedWrites = s.gatedWrites := rfl
@[simp] theorem setTensor_out (i : Nat) (x : Tensor) : (s.setTensor i x).out = s.out := rfl

@[simp] theorem setRing_pending (n : Nat) (b : Bool) (x : RingState) : (s.setRing n b x).pending = s.pending := rfl
@[simp] theorem setRing_free (n : Nat) (b : Bool) (x : RingState) : (s.setRing n b x).free = s.free := rfl
@[simp] theorem setRing_clock (n : Nat) (b : Bool) (x : RingState) : (s.setRing n b x).clock = s.clock := rfl
@[simp] theorem setRing_regs (n : Nat) (b : Bool) (x : RingState) : (s.setRing n b x).regs = s.regs := rfl
@[simp] theorem setRing_cnt (n : Nat) (b : Bool) (x : RingState) : (s.setRing n b x).cnt = s.cnt := rfl
@[simp] theorem setRing_snap (n : Nat) (b : Bool) (x : RingState) : (s.setRing n b x).snap = s.snap := rfl
@[simp] theorem setRing_latch (n : Nat) (b : Bool) (x : RingState) : (s.setRing n b x).latch = s.latch := rfl
@[simp] theorem setRing_msix (n : Nat) (b : Bool) (x : RingState) : (s.setRing n b x).msix = s.msix := rfl
@[simp] theorem setRing_west (n : Nat) (b : Bool) (x : RingState) : (s.setRing n b x).west = s.west := rfl
@[simp] theorem setRing_east (n : Nat) (b : Bool) (x : RingState) : (s.setRing n b x).east = s.east := rfl
@[simp] theorem setRing_hubWest (n : Nat) (b : Bool) (x : RingState) : (s.setRing n b x).hubWest = s.hubWest := rfl
@[simp] theorem setRing_hubEast (n : Nat) (b : Bool) (x : RingState) : (s.setRing n b x).hubEast = s.hubEast := rfl
@[simp] theorem setRing_hubLink (n : Nat) (b : Bool) (x : RingState) : (s.setRing n b x).hubLink = s.hubLink := rfl
@[simp] theorem setRing_governor (n : Nat) (b : Bool) (x : RingState) : (s.setRing n b x).governor = s.governor := rfl
@[simp] theorem setRing_dies (n : Nat) (b : Bool) (x : RingState) : (s.setRing n b x).dies = s.dies := rfl
@[simp] theorem setRing_fuses (n : Nat) (b : Bool) (x : RingState) : (s.setRing n b x).fuses = s.fuses := rfl
@[simp] theorem setRing_nvs (n : Nat) (b : Bool) (x : RingState) : (s.setRing n b x).nvs = s.nvs := rfl
@[simp] theorem setRing_colophon (n : Nat) (b : Bool) (x : RingState) : (s.setRing n b x).colophon = s.colophon := rfl
@[simp] theorem setRing_fallow (n : Nat) (b : Bool) (x : RingState) : (s.setRing n b x).fallow = s.fallow := rfl
@[simp] theorem setRing_i3c (n : Nat) (b : Bool) (x : RingState) : (s.setRing n b x).i3c = s.i3c := rfl
@[simp] theorem setRing_tap (n : Nat) (b : Bool) (x : RingState) : (s.setRing n b x).tap = s.tap := rfl
@[simp] theorem setRing_events (n : Nat) (b : Bool) (x : RingState) : (s.setRing n b x).events = s.events := rfl
@[simp] theorem setRing_sources (n : Nat) (b : Bool) (x : RingState) : (s.setRing n b x).sources = s.sources := rfl
@[simp] theorem setRing_ports (n : Nat) (b : Bool) (x : RingState) : (s.setRing n b x).ports = s.ports := rfl
@[simp] theorem setRing_capture (n : Nat) (b : Bool) (x : RingState) : (s.setRing n b x).capture = s.capture := rfl
@[simp] theorem setRing_quiescing (n : Nat) (b : Bool) (x : RingState) : (s.setRing n b x).quiescing = s.quiescing := rfl
@[simp] theorem setRing_inForce (n : Nat) (b : Bool) (x : RingState) : (s.setRing n b x).inForce = s.inForce := rfl
@[simp] theorem setRing_tensors (n : Nat) (b : Bool) (x : RingState) : (s.setRing n b x).tensors = s.tensors := rfl
@[simp] theorem setRing_moves (n : Nat) (b : Bool) (x : RingState) : (s.setRing n b x).moves = s.moves := rfl
@[simp] theorem setRing_moveNext (n : Nat) (b : Bool) (x : RingState) : (s.setRing n b x).moveNext = s.moveNext := rfl
@[simp] theorem setRing_t1 (n : Nat) (b : Bool) (x : RingState) : (s.setRing n b x).t1 = s.t1 := rfl
@[simp] theorem setRing_poison (n : Nat) (b : Bool) (x : RingState) : (s.setRing n b x).poison = s.poison := rfl
@[simp] theorem setRing_wiping (n : Nat) (b : Bool) (x : RingState) : (s.setRing n b x).wiping = s.wiping := rfl
@[simp] theorem setRing_chans (n : Nat) (b : Bool) (x : RingState) : (s.setRing n b x).chans = s.chans := rfl
@[simp] theorem setRing_mapouts (n : Nat) (b : Bool) (x : RingState) : (s.setRing n b x).mapouts = s.mapouts := rfl
@[simp] theorem setRing_parityMoved (n : Nat) (b : Bool) (x : RingState) : (s.setRing n b x).parityMoved = s.parityMoved := rfl
@[simp] theorem setRing_nbus (n : Nat) (b : Bool) (x : RingState) : (s.setRing n b x).nbus = s.nbus := rfl
@[simp] theorem setRing_bias (n : Nat) (b : Bool) (x : RingState) : (s.setRing n b x).bias = s.bias := rfl
@[simp] theorem setRing_t0 (n : Nat) (b : Bool) (x : RingState) : (s.setRing n b x).t0 = s.t0 := rfl
@[simp] theorem setRing_cores (n : Nat) (b : Bool) (x : RingState) : (s.setRing n b x).cores = s.cores := rfl
@[simp] theorem setRing_entries (n : Nat) (b : Bool) (x : RingState) : (s.setRing n b x).entries = s.entries := rfl
@[simp] theorem setRing_trees (n : Nat) (b : Bool) (x : RingState) : (s.setRing n b x).trees = s.trees := rfl
@[simp] theorem setRing_impos (n : Nat) (b : Bool) (x : RingState) : (s.setRing n b x).impos = s.impos := rfl
@[simp] theorem setRing_loader (n : Nat) (b : Bool) (x : RingState) : (s.setRing n b x).loader = s.loader := rfl
@[simp] theorem setRing_steps (n : Nat) (b : Bool) (x : RingState) : (s.setRing n b x).steps = s.steps := rfl
@[simp] theorem setRing_arrived (n : Nat) (b : Bool) (x : RingState) : (s.setRing n b x).arrived = s.arrived := rfl
@[simp] theorem setRing_records (n : Nat) (b : Bool) (x : RingState) : (s.setRing n b x).records = s.records := rfl
@[simp] theorem setRing_due (n : Nat) (b : Bool) (x : RingState) : (s.setRing n b x).due = s.due := rfl
@[simp] theorem setRing_regions (n : Nat) (b : Bool) (x : RingState) : (s.setRing n b x).regions = s.regions := rfl
@[simp] theorem setRing_d3hot (n : Nat) (b : Bool) (x : RingState) : (s.setRing n b x).d3hot = s.d3hot := rfl
@[simp] theorem setRing_heldOut (n : Nat) (b : Bool) (x : RingState) : (s.setRing n b x).heldOut = s.heldOut := rfl
@[simp] theorem setRing_links (n : Nat) (b : Bool) (x : RingState) : (s.setRing n b x).links = s.links := rfl
@[simp] theorem setRing_inbox (n : Nat) (b : Bool) (x : RingState) : (s.setRing n b x).inbox = s.inbox := rfl
@[simp] theorem setRing_sent (n : Nat) (b : Bool) (x : RingState) : (s.setRing n b x).sent = s.sent := rfl
@[simp] theorem setRing_applied (n : Nat) (b : Bool) (x : RingState) : (s.setRing n b x).applied = s.applied := rfl
@[simp] theorem setRing_msgIds (n : Nat) (b : Bool) (x : RingState) : (s.setRing n b x).msgIds = s.msgIds := rfl
@[simp] theorem setRing_routes (n : Nat) (b : Bool) (x : RingState) : (s.setRing n b x).routes = s.routes := rfl
@[simp] theorem setRing_times (n : Nat) (b : Bool) (x : RingState) : (s.setRing n b x).times = s.times := rfl
@[simp] theorem setRing_mirrors (n : Nat) (b : Bool) (x : RingState) : (s.setRing n b x).mirrors = s.mirrors := rfl
@[simp] theorem setRing_homes (n : Nat) (b : Bool) (x : RingState) : (s.setRing n b x).homes = s.homes := rfl
@[simp] theorem setRing_home (n : Nat) (b : Bool) (x : RingState) : (s.setRing n b x).home = s.home := rfl
@[simp] theorem setRing_groups (n : Nat) (b : Bool) (x : RingState) : (s.setRing n b x).groups = s.groups := rfl
@[simp] theorem setRing_deferred (n : Nat) (b : Bool) (x : RingState) : (s.setRing n b x).deferred = s.deferred := rfl
@[simp] theorem setRing_gatedWrites (n : Nat) (b : Bool) (x : RingState) : (s.setRing n b x).gatedWrites = s.gatedWrites := rfl
@[simp] theorem setRing_out (n : Nat) (b : Bool) (x : RingState) : (s.setRing n b x).out = s.out := rfl

@[simp] theorem setChan_pending (d c : Nat) (x : Channel) : (s.setChan d c x).pending = s.pending := rfl
@[simp] theorem setChan_free (d c : Nat) (x : Channel) : (s.setChan d c x).free = s.free := rfl
@[simp] theorem setChan_clock (d c : Nat) (x : Channel) : (s.setChan d c x).clock = s.clock := rfl
@[simp] theorem setChan_regs (d c : Nat) (x : Channel) : (s.setChan d c x).regs = s.regs := rfl
@[simp] theorem setChan_cnt (d c : Nat) (x : Channel) : (s.setChan d c x).cnt = s.cnt := rfl
@[simp] theorem setChan_snap (d c : Nat) (x : Channel) : (s.setChan d c x).snap = s.snap := rfl
@[simp] theorem setChan_latch (d c : Nat) (x : Channel) : (s.setChan d c x).latch = s.latch := rfl
@[simp] theorem setChan_msix (d c : Nat) (x : Channel) : (s.setChan d c x).msix = s.msix := rfl
@[simp] theorem setChan_west (d c : Nat) (x : Channel) : (s.setChan d c x).west = s.west := rfl
@[simp] theorem setChan_east (d c : Nat) (x : Channel) : (s.setChan d c x).east = s.east := rfl
@[simp] theorem setChan_hubWest (d c : Nat) (x : Channel) : (s.setChan d c x).hubWest = s.hubWest := rfl
@[simp] theorem setChan_hubEast (d c : Nat) (x : Channel) : (s.setChan d c x).hubEast = s.hubEast := rfl
@[simp] theorem setChan_hubLink (d c : Nat) (x : Channel) : (s.setChan d c x).hubLink = s.hubLink := rfl
@[simp] theorem setChan_governor (d c : Nat) (x : Channel) : (s.setChan d c x).governor = s.governor := rfl
@[simp] theorem setChan_dies (d c : Nat) (x : Channel) : (s.setChan d c x).dies = s.dies := rfl
@[simp] theorem setChan_fuses (d c : Nat) (x : Channel) : (s.setChan d c x).fuses = s.fuses := rfl
@[simp] theorem setChan_nvs (d c : Nat) (x : Channel) : (s.setChan d c x).nvs = s.nvs := rfl
@[simp] theorem setChan_colophon (d c : Nat) (x : Channel) : (s.setChan d c x).colophon = s.colophon := rfl
@[simp] theorem setChan_fallow (d c : Nat) (x : Channel) : (s.setChan d c x).fallow = s.fallow := rfl
@[simp] theorem setChan_i3c (d c : Nat) (x : Channel) : (s.setChan d c x).i3c = s.i3c := rfl
@[simp] theorem setChan_tap (d c : Nat) (x : Channel) : (s.setChan d c x).tap = s.tap := rfl
@[simp] theorem setChan_events (d c : Nat) (x : Channel) : (s.setChan d c x).events = s.events := rfl
@[simp] theorem setChan_sources (d c : Nat) (x : Channel) : (s.setChan d c x).sources = s.sources := rfl
@[simp] theorem setChan_ports (d c : Nat) (x : Channel) : (s.setChan d c x).ports = s.ports := rfl
@[simp] theorem setChan_capture (d c : Nat) (x : Channel) : (s.setChan d c x).capture = s.capture := rfl
@[simp] theorem setChan_quiescing (d c : Nat) (x : Channel) : (s.setChan d c x).quiescing = s.quiescing := rfl
@[simp] theorem setChan_inForce (d c : Nat) (x : Channel) : (s.setChan d c x).inForce = s.inForce := rfl
@[simp] theorem setChan_tensors (d c : Nat) (x : Channel) : (s.setChan d c x).tensors = s.tensors := rfl
@[simp] theorem setChan_moves (d c : Nat) (x : Channel) : (s.setChan d c x).moves = s.moves := rfl
@[simp] theorem setChan_moveNext (d c : Nat) (x : Channel) : (s.setChan d c x).moveNext = s.moveNext := rfl
@[simp] theorem setChan_t1 (d c : Nat) (x : Channel) : (s.setChan d c x).t1 = s.t1 := rfl
@[simp] theorem setChan_poison (d c : Nat) (x : Channel) : (s.setChan d c x).poison = s.poison := rfl
@[simp] theorem setChan_wiping (d c : Nat) (x : Channel) : (s.setChan d c x).wiping = s.wiping := rfl
@[simp] theorem setChan_mapouts (d c : Nat) (x : Channel) : (s.setChan d c x).mapouts = s.mapouts := rfl
@[simp] theorem setChan_parityMoved (d c : Nat) (x : Channel) : (s.setChan d c x).parityMoved = s.parityMoved := rfl
@[simp] theorem setChan_nbus (d c : Nat) (x : Channel) : (s.setChan d c x).nbus = s.nbus := rfl
@[simp] theorem setChan_bias (d c : Nat) (x : Channel) : (s.setChan d c x).bias = s.bias := rfl
@[simp] theorem setChan_t0 (d c : Nat) (x : Channel) : (s.setChan d c x).t0 = s.t0 := rfl
@[simp] theorem setChan_cores (d c : Nat) (x : Channel) : (s.setChan d c x).cores = s.cores := rfl
@[simp] theorem setChan_entries (d c : Nat) (x : Channel) : (s.setChan d c x).entries = s.entries := rfl
@[simp] theorem setChan_trees (d c : Nat) (x : Channel) : (s.setChan d c x).trees = s.trees := rfl
@[simp] theorem setChan_impos (d c : Nat) (x : Channel) : (s.setChan d c x).impos = s.impos := rfl
@[simp] theorem setChan_loader (d c : Nat) (x : Channel) : (s.setChan d c x).loader = s.loader := rfl
@[simp] theorem setChan_steps (d c : Nat) (x : Channel) : (s.setChan d c x).steps = s.steps := rfl
@[simp] theorem setChan_arrived (d c : Nat) (x : Channel) : (s.setChan d c x).arrived = s.arrived := rfl
@[simp] theorem setChan_records (d c : Nat) (x : Channel) : (s.setChan d c x).records = s.records := rfl
@[simp] theorem setChan_due (d c : Nat) (x : Channel) : (s.setChan d c x).due = s.due := rfl
@[simp] theorem setChan_regions (d c : Nat) (x : Channel) : (s.setChan d c x).regions = s.regions := rfl
@[simp] theorem setChan_rings (d c : Nat) (x : Channel) : (s.setChan d c x).rings = s.rings := rfl
@[simp] theorem setChan_d3hot (d c : Nat) (x : Channel) : (s.setChan d c x).d3hot = s.d3hot := rfl
@[simp] theorem setChan_heldOut (d c : Nat) (x : Channel) : (s.setChan d c x).heldOut = s.heldOut := rfl
@[simp] theorem setChan_links (d c : Nat) (x : Channel) : (s.setChan d c x).links = s.links := rfl
@[simp] theorem setChan_inbox (d c : Nat) (x : Channel) : (s.setChan d c x).inbox = s.inbox := rfl
@[simp] theorem setChan_sent (d c : Nat) (x : Channel) : (s.setChan d c x).sent = s.sent := rfl
@[simp] theorem setChan_applied (d c : Nat) (x : Channel) : (s.setChan d c x).applied = s.applied := rfl
@[simp] theorem setChan_msgIds (d c : Nat) (x : Channel) : (s.setChan d c x).msgIds = s.msgIds := rfl
@[simp] theorem setChan_routes (d c : Nat) (x : Channel) : (s.setChan d c x).routes = s.routes := rfl
@[simp] theorem setChan_times (d c : Nat) (x : Channel) : (s.setChan d c x).times = s.times := rfl
@[simp] theorem setChan_mirrors (d c : Nat) (x : Channel) : (s.setChan d c x).mirrors = s.mirrors := rfl
@[simp] theorem setChan_homes (d c : Nat) (x : Channel) : (s.setChan d c x).homes = s.homes := rfl
@[simp] theorem setChan_home (d c : Nat) (x : Channel) : (s.setChan d c x).home = s.home := rfl
@[simp] theorem setChan_groups (d c : Nat) (x : Channel) : (s.setChan d c x).groups = s.groups := rfl
@[simp] theorem setChan_deferred (d c : Nat) (x : Channel) : (s.setChan d c x).deferred = s.deferred := rfl
@[simp] theorem setChan_gatedWrites (d c : Nat) (x : Channel) : (s.setChan d c x).gatedWrites = s.gatedWrites := rfl
@[simp] theorem setChan_out (d c : Nat) (x : Channel) : (s.setChan d c x).out = s.out := rfl

@[simp] theorem setNbu_pending (d c k : Nat) (x : Nbu) : (s.setNbu d c k x).pending = s.pending := rfl
@[simp] theorem setNbu_free (d c k : Nat) (x : Nbu) : (s.setNbu d c k x).free = s.free := rfl
@[simp] theorem setNbu_clock (d c k : Nat) (x : Nbu) : (s.setNbu d c k x).clock = s.clock := rfl
@[simp] theorem setNbu_regs (d c k : Nat) (x : Nbu) : (s.setNbu d c k x).regs = s.regs := rfl
@[simp] theorem setNbu_cnt (d c k : Nat) (x : Nbu) : (s.setNbu d c k x).cnt = s.cnt := rfl
@[simp] theorem setNbu_snap (d c k : Nat) (x : Nbu) : (s.setNbu d c k x).snap = s.snap := rfl
@[simp] theorem setNbu_latch (d c k : Nat) (x : Nbu) : (s.setNbu d c k x).latch = s.latch := rfl
@[simp] theorem setNbu_msix (d c k : Nat) (x : Nbu) : (s.setNbu d c k x).msix = s.msix := rfl
@[simp] theorem setNbu_west (d c k : Nat) (x : Nbu) : (s.setNbu d c k x).west = s.west := rfl
@[simp] theorem setNbu_east (d c k : Nat) (x : Nbu) : (s.setNbu d c k x).east = s.east := rfl
@[simp] theorem setNbu_hubWest (d c k : Nat) (x : Nbu) : (s.setNbu d c k x).hubWest = s.hubWest := rfl
@[simp] theorem setNbu_hubEast (d c k : Nat) (x : Nbu) : (s.setNbu d c k x).hubEast = s.hubEast := rfl
@[simp] theorem setNbu_hubLink (d c k : Nat) (x : Nbu) : (s.setNbu d c k x).hubLink = s.hubLink := rfl
@[simp] theorem setNbu_governor (d c k : Nat) (x : Nbu) : (s.setNbu d c k x).governor = s.governor := rfl
@[simp] theorem setNbu_dies (d c k : Nat) (x : Nbu) : (s.setNbu d c k x).dies = s.dies := rfl
@[simp] theorem setNbu_fuses (d c k : Nat) (x : Nbu) : (s.setNbu d c k x).fuses = s.fuses := rfl
@[simp] theorem setNbu_nvs (d c k : Nat) (x : Nbu) : (s.setNbu d c k x).nvs = s.nvs := rfl
@[simp] theorem setNbu_colophon (d c k : Nat) (x : Nbu) : (s.setNbu d c k x).colophon = s.colophon := rfl
@[simp] theorem setNbu_fallow (d c k : Nat) (x : Nbu) : (s.setNbu d c k x).fallow = s.fallow := rfl
@[simp] theorem setNbu_i3c (d c k : Nat) (x : Nbu) : (s.setNbu d c k x).i3c = s.i3c := rfl
@[simp] theorem setNbu_tap (d c k : Nat) (x : Nbu) : (s.setNbu d c k x).tap = s.tap := rfl
@[simp] theorem setNbu_events (d c k : Nat) (x : Nbu) : (s.setNbu d c k x).events = s.events := rfl
@[simp] theorem setNbu_sources (d c k : Nat) (x : Nbu) : (s.setNbu d c k x).sources = s.sources := rfl
@[simp] theorem setNbu_ports (d c k : Nat) (x : Nbu) : (s.setNbu d c k x).ports = s.ports := rfl
@[simp] theorem setNbu_capture (d c k : Nat) (x : Nbu) : (s.setNbu d c k x).capture = s.capture := rfl
@[simp] theorem setNbu_quiescing (d c k : Nat) (x : Nbu) : (s.setNbu d c k x).quiescing = s.quiescing := rfl
@[simp] theorem setNbu_inForce (d c k : Nat) (x : Nbu) : (s.setNbu d c k x).inForce = s.inForce := rfl
@[simp] theorem setNbu_tensors (d c k : Nat) (x : Nbu) : (s.setNbu d c k x).tensors = s.tensors := rfl
@[simp] theorem setNbu_moves (d c k : Nat) (x : Nbu) : (s.setNbu d c k x).moves = s.moves := rfl
@[simp] theorem setNbu_moveNext (d c k : Nat) (x : Nbu) : (s.setNbu d c k x).moveNext = s.moveNext := rfl
@[simp] theorem setNbu_t1 (d c k : Nat) (x : Nbu) : (s.setNbu d c k x).t1 = s.t1 := rfl
@[simp] theorem setNbu_poison (d c k : Nat) (x : Nbu) : (s.setNbu d c k x).poison = s.poison := rfl
@[simp] theorem setNbu_wiping (d c k : Nat) (x : Nbu) : (s.setNbu d c k x).wiping = s.wiping := rfl
@[simp] theorem setNbu_chans (d c k : Nat) (x : Nbu) : (s.setNbu d c k x).chans = s.chans := rfl
@[simp] theorem setNbu_mapouts (d c k : Nat) (x : Nbu) : (s.setNbu d c k x).mapouts = s.mapouts := rfl
@[simp] theorem setNbu_parityMoved (d c k : Nat) (x : Nbu) : (s.setNbu d c k x).parityMoved = s.parityMoved := rfl
@[simp] theorem setNbu_bias (d c k : Nat) (x : Nbu) : (s.setNbu d c k x).bias = s.bias := rfl
@[simp] theorem setNbu_t0 (d c k : Nat) (x : Nbu) : (s.setNbu d c k x).t0 = s.t0 := rfl
@[simp] theorem setNbu_cores (d c k : Nat) (x : Nbu) : (s.setNbu d c k x).cores = s.cores := rfl
@[simp] theorem setNbu_entries (d c k : Nat) (x : Nbu) : (s.setNbu d c k x).entries = s.entries := rfl
@[simp] theorem setNbu_trees (d c k : Nat) (x : Nbu) : (s.setNbu d c k x).trees = s.trees := rfl
@[simp] theorem setNbu_impos (d c k : Nat) (x : Nbu) : (s.setNbu d c k x).impos = s.impos := rfl
@[simp] theorem setNbu_loader (d c k : Nat) (x : Nbu) : (s.setNbu d c k x).loader = s.loader := rfl
@[simp] theorem setNbu_steps (d c k : Nat) (x : Nbu) : (s.setNbu d c k x).steps = s.steps := rfl
@[simp] theorem setNbu_arrived (d c k : Nat) (x : Nbu) : (s.setNbu d c k x).arrived = s.arrived := rfl
@[simp] theorem setNbu_records (d c k : Nat) (x : Nbu) : (s.setNbu d c k x).records = s.records := rfl
@[simp] theorem setNbu_due (d c k : Nat) (x : Nbu) : (s.setNbu d c k x).due = s.due := rfl
@[simp] theorem setNbu_regions (d c k : Nat) (x : Nbu) : (s.setNbu d c k x).regions = s.regions := rfl
@[simp] theorem setNbu_rings (d c k : Nat) (x : Nbu) : (s.setNbu d c k x).rings = s.rings := rfl
@[simp] theorem setNbu_d3hot (d c k : Nat) (x : Nbu) : (s.setNbu d c k x).d3hot = s.d3hot := rfl
@[simp] theorem setNbu_heldOut (d c k : Nat) (x : Nbu) : (s.setNbu d c k x).heldOut = s.heldOut := rfl
@[simp] theorem setNbu_links (d c k : Nat) (x : Nbu) : (s.setNbu d c k x).links = s.links := rfl
@[simp] theorem setNbu_inbox (d c k : Nat) (x : Nbu) : (s.setNbu d c k x).inbox = s.inbox := rfl
@[simp] theorem setNbu_sent (d c k : Nat) (x : Nbu) : (s.setNbu d c k x).sent = s.sent := rfl
@[simp] theorem setNbu_applied (d c k : Nat) (x : Nbu) : (s.setNbu d c k x).applied = s.applied := rfl
@[simp] theorem setNbu_msgIds (d c k : Nat) (x : Nbu) : (s.setNbu d c k x).msgIds = s.msgIds := rfl
@[simp] theorem setNbu_routes (d c k : Nat) (x : Nbu) : (s.setNbu d c k x).routes = s.routes := rfl
@[simp] theorem setNbu_times (d c k : Nat) (x : Nbu) : (s.setNbu d c k x).times = s.times := rfl
@[simp] theorem setNbu_mirrors (d c k : Nat) (x : Nbu) : (s.setNbu d c k x).mirrors = s.mirrors := rfl
@[simp] theorem setNbu_homes (d c k : Nat) (x : Nbu) : (s.setNbu d c k x).homes = s.homes := rfl
@[simp] theorem setNbu_home (d c k : Nat) (x : Nbu) : (s.setNbu d c k x).home = s.home := rfl
@[simp] theorem setNbu_groups (d c k : Nat) (x : Nbu) : (s.setNbu d c k x).groups = s.groups := rfl
@[simp] theorem setNbu_deferred (d c k : Nat) (x : Nbu) : (s.setNbu d c k x).deferred = s.deferred := rfl
@[simp] theorem setNbu_gatedWrites (d c k : Nat) (x : Nbu) : (s.setNbu d c k x).gatedWrites = s.gatedWrites := rfl
@[simp] theorem setNbu_out (d c k : Nat) (x : Nbu) : (s.setNbu d c k x).out = s.out := rfl

end Sys2Proof.Machine
end

