-- ==== Sys2Proof/Laws/Ops.lean ====
section
/-!
SUPPORT. What the shared operations do to the registers and to the event queue: messages, interrupt causes, events, captures, counters,
last-gasp registers, ledger records. One lemma says of each which registers it may write.
-/
set_option Elab.async false
set_option linter.all false
namespace Sys2Proof.Machine

variable (s : State)

@[simp] theorem regs_sendVector (f v : Nat) : (sendVector s f v).regs = s.regs := by
  unfold sendVector; split <;> rfl

@[simp] theorem events_sendVector (f v : Nat) : (sendVector s f v).events = s.events := by
  unfold sendVector; split <;> rfl

@[simp] theorem cnt_sendVector (f v : Nat) : (sendVector s f v).cnt = s.cnt := by
  unfold sendVector; split <;> rfl

@[simp] theorem deferred_sendVector (f v : Nat) : (sendVector s f v).deferred = s.deferred := by
  unfold sendVector; split <;> rfl

/-- A projection that no message and no in-band interrupt changes is the same after the messages of a list of causes. -/
theorem foldl_sendCause {α : Type} (g : State → α) (hg : ∀ s f v, g (sendVector s f v) = g s) (hi : ∀ s, g (emit s .ibi) = g s) (blk : Nat)
    (l : List Nat) (s : State) : g (l.foldl (fun s i => sendCause s blk i) s) = g s := by
  induction l generalizing s with
  | nil => rfl
  | cons x l ih =>
    refine (ih _).trans ?_
    unfold sendCause
    dsimp only
    split
    · exact (hi _).trans (hg _ _ _)
    · exact hg _ _ _

/-- A projection that no message changes is the same after the messages of rising causes. -/
theorem of_sendRising {α : Type} (g : State → α) (hg : ∀ s f v, g (sendVector s f v) = g s) (hi : ∀ s, g (emit s .ibi) = g s) (blk : Nat)
    (w : Word) :
    g (sendRising s blk w) = g s := by
  unfold sendRising
  split
  · rfl
  · exact foldl_sendCause g hg hi _ _ s

/-- Causes change their block's BLK_INT_RAW, and besides what messages change: any projection that neither changes is the same. -/
theorem of_setCauses {α : Type} (g : State → α) (hg : ∀ s f v, g (sendVector s f v) = g s) (hi : ∀ s, g (emit s .ibi) = g s) (blk : Nat) (w : Word)
    (hr : ∀ x, g (setReg s (blkIntRaw blk) x) = g s) : g (setCauses s blk w) = g s := by
  unfold setCauses
  dsimp only
  split
  · exact (hg _ _ _).trans ((of_sendRising _ g hg hi _ _).trans (hr _))
  · exact (of_sendRising _ g hg hi _ _).trans (hr _)

@[simp] theorem events_setCauses (blk : Nat) (w : Word) : (setCauses s blk w).events = s.events :=
  of_setCauses s State.events (fun s => events_sendVector s) (fun _ => rfl) blk w fun _ => rfl

@[simp] theorem cnt_setCauses (blk : Nat) (w : Word) : (setCauses s blk w).cnt = s.cnt :=
  of_setCauses s State.cnt (fun s => cnt_sendVector s) (fun _ => rfl) blk w fun _ => rfl

@[simp] theorem deferred_setCauses (blk : Nat) (w : Word) : (setCauses s blk w).deferred = s.deferred :=
  of_setCauses s State.deferred (fun s => deferred_sendVector s) (fun _ => rfl) blk w fun _ => rfl

theorem getReg_setCauses_other (blk a : Nat) (w : Word) (h : a ≠ blkIntRaw blk) : getReg (setCauses s blk w) a = getReg s a :=
  of_setCauses s (getReg · a) (fun s f v => by simp only [getReg, regs_sendVector]) (fun _ => rfl) blk w fun x => getReg_setReg_other s _ _ x h

/-- The block's BLK_INT_RAW takes the causes. -/
theorem getReg_setCauses_same (blk : Nat) (w : Word) : getReg (setCauses s blk w) (blkIntRaw blk) = getReg s (blkIntRaw blk) ||| w := by
  have hg : ∀ s f v, getReg (sendVector s f v) (blkIntRaw blk) = getReg s (blkIntRaw blk) := fun s f v => by
    simp only [getReg, regs_sendVector]
  unfold setCauses
  dsimp only
  split
  · exact (hg _ _ _).trans ((of_sendRising _ (getReg · (blkIntRaw blk)) hg (fun _ => rfl) _ _).trans (getReg_setReg_same _ _ _))
  · exact (of_sendRising _ (getReg · (blkIntRaw blk)) hg (fun _ => rfl) _ _).trans (getReg_setReg_same _ _ _)

@[simp] theorem events_setCause (blk i : Nat) : (setCause s blk i).events = s.events := events_setCauses ..
@[simp] theorem cnt_setCause (blk i : Nat) : (setCause s blk i).cnt = s.cnt := cnt_setCauses ..
@[simp] theorem deferred_setCause (blk i : Nat) : (setCause s blk i).deferred = s.deferred := deferred_setCauses ..

theorem getReg_setCause_other (blk i a : Nat) (h : a ≠ blkIntRaw blk) : getReg (setCause s blk i) a = getReg s a :=
  getReg_setCauses_other s blk a _ h

/-- The cause is set. -/
theorem getBit_setCause (blk i j : Nat) (h : i < 64) : getBit (setCause s blk i) (blkIntRaw blk) j = (getBit s (blkIntRaw blk) j || decide (j = i)) := by
  rw [getBit, setCause, getReg_setCauses_same, bit_or, bit_bitW i j h, getBit]

/-! ### Last-gasp registers, events -/

/-- A last-gasp write touches the register and BLK_INT_RAW of its hub. -/
theorem getReg_lastGasp_other (h : Half) (code a : Nat) (h1 : a ≠ Reg.hubLastgasp h.idx) (h2 : a ≠ blkIntRaw (Reg.hubBlk h.idx)) :
    getReg (lastGasp s h code) a = getReg s a := by
  unfold lastGasp
  rw [getReg_setCause_other _ _ _ _ h2]
  split
  · exact getReg_putBit_other _ _ _ _ _ h1
  · exact getReg_setReg_other _ _ _ _ h1

/-- A projection that no message and no register write changes is the same after a last-gasp write. -/
theorem of_lastGasp {α : Type} (g : State → α) (hg : ∀ s f v, g (sendVector s f v) = g s) (hi : ∀ s, g (emit s .ibi) = g s)
    (hr : ∀ s a w, g (setReg s a w) = g s) (h : Half) (code : Nat) : g (lastGasp s h code) = g s := by
  unfold lastGasp
  refine (of_setCauses _ g hg hi _ _ (fun _ => hr _ _ _)).trans ?_
  split
  · exact hr _ _ _
  · exact hr _ _ _

@[simp] theorem events_lastGasp (h : Half) (code : Nat) : (lastGasp s h code).events = s.events :=
  of_lastGasp s State.events (fun s => events_sendVector s) (fun _ => rfl) (fun _ _ _ => rfl) h code

@[simp] theorem cnt_lastGasp (h : Half) (code : Nat) : (lastGasp s h code).cnt = s.cnt :=
  of_lastGasp s State.cnt (fun s => cnt_sendVector s) (fun _ => rfl) (fun _ _ _ => rfl) h code

@[simp] theorem deferred_lastGasp (h : Half) (code : Nat) : (lastGasp s h code).deferred = s.deferred :=
  of_lastGasp s State.deferred (fun s => deferred_sendVector s) (fun _ => rfl) (fun _ _ _ => rfl) h code

theorem getReg_raiseEvent_other (type part block half : Nat) (d0 d1 : Word) (a : Nat) (h : a ∉ eventRegs) :
    getReg (raiseEvent s type part block half d0 d1) a = getReg s a := by
  simp only [eventRegs, List.mem_cons, List.not_mem_nil, or_false, not_or] at h
  unfold raiseEvent
  split
  · split
    · rfl
    · rw [getReg_lastGasp_other _ _ _ _ h.2.2.1 h.2.2.2.2, getReg_lastGasp_other _ _ _ _ h.2.1 h.2.2.2.1]
  · split
    · unfold coalesceEvent
      split
      · rfl
      · rw [getReg_setCause_other _ _ _ _ h.1]; rfl
    · rfl

@[simp] theorem cnt_raiseEvent (type part block half : Nat) (d0 d1 : Word) : (raiseEvent s type part block half d0 d1).cnt = s.cnt := by
  unfold raiseEvent coalesceEvent
  repeat' split
  all_goals simp [enqueueEvent]

@[simp] theorem deferred_raiseEvent (type part block half : Nat) (d0 d1 : Word) :
    (raiseEvent s type part block half d0 d1).deferred = s.deferred := by
  unfold raiseEvent coalesceEvent
  repeat' split
  all_goals simp [enqueueEvent]

/-- An event for which the queue has room, outside an episode of coalescing, enters the queue with the next SEQ. -/
theorem events_raiseEvent_room (type part block half : Nat) (d0 d1 : Word) (hc : s.events.coalescing = false)
    (hq : s.events.queue.length ≤ 496) : (raiseEvent s type part block half d0 d1).events = { s.events with
      seq := (s.events.seq + 1) % 2 ^ 48
      queue := s.events.queue ++ [⟨s.events.seq, startSeqField s, type, false, false, part, stamp s, block, half, d0, d1, 0⟩] } := by
  unfold raiseEvent
  rw [if_pos (show s.events.queue.length < 512 by omega), if_neg (show ¬ (s.events.coalescing ∨ 512 - s.events.queue.length < 16) by
    rw [hc]; simp; omega)]
  split <;> rfl

/-! ### Captures -/

theorem getReg_capture_other (blk code source part addr detail a : Nat) (h : a ∉ captureRegs blk) :
    getReg (capture s blk code source part addr detail) a = getReg s a := by
  simp only [captureRegs, List.mem_cons, not_or] at h
  unfold capture
  split
  · exact getReg_putFld_other _ _ _ _ _ _ h.2.1
  · rw [getReg_raiseEvent_other _ _ _ _ _ _ _ _ h.2.2.2.2.2, getReg_setCause_other _ _ _ _ h.1, getReg_setReg_other _ _ _ _ h.2.2.2.2.1,
      getReg_setReg_other _ _ _ _ h.2.2.2.1, getReg_setReg_other _ _ _ _ h.2.2.1, getReg_setReg_other _ _ _ _ h.2.1]

@[simp] theorem cnt_capture (blk code source part addr detail : Nat) : (capture s blk code source part addr detail).cnt = s.cnt := by
  unfold capture
  split
  · exact putFld_cnt ..
  · rw [cnt_raiseEvent, cnt_setCause, setReg_cnt, setReg_cnt, setReg_cnt, setReg_cnt]

@[simp] theorem deferred_capture (blk code source part addr detail : Nat) : (capture s blk code source part addr detail).deferred = s.deferred := by
  unfold capture
  split
  · exact putFld_deferred ..
  · rw [deferred_raiseEvent, deferred_setCause, setReg_deferred, setReg_deferred, setReg_deferred, setReg_deferred]

/-! ### Counters, ledger -/

theorem getReg_count_other (off n a : Nat) (h : a ∉ eventRegs) : getReg (count s off n) a = getReg s a := by
  unfold count
  dsimp only
  repeat' split
  · rfl
  · rfl
  · rw [getReg_raiseEvent_other _ _ _ _ _ _ _ _ h]; rfl

/-- A counter takes a sum of at most 2^48 − 1 and keeps its flags. -/
theorem getCnt_count (off n : Nat) (h : fld (getCnt s off) 0 48 + n < 2 ^ 48) :
    getCnt (count s off n) off = setFld (getCnt s off) 0 48 (fld (getCnt s off) 0 48 + n) := by
  unfold count
  dsimp only
  rw [if_pos h, getCnt_setCnt_same, Nat.mod_eq_of_lt h]

theorem getCnt_count_other (off n a : Nat) (h : a ≠ off) : getCnt (count s off n) a = getCnt s a := by
  unfold count
  dsimp only
  repeat' split
  · exact getCnt_setCnt_other _ _ _ _ h
  · exact getCnt_setCnt_other _ _ _ _ h
  · rw [getCnt, cnt_raiseEvent]; exact getCnt_setCnt_other _ _ _ _ h

@[simp] theorem deferred_count (off n : Nat) : (count s off n).deferred = s.deferred := by
  unfold count; dsimp only; repeat' split
  all_goals simp

theorem getReg_ledgerWrite_other (r : LedgerRec) (a : Nat) (h : a ≠ Reg.nvsLedgerHead) : getReg (ledgerWrite s r) a = getReg s a := by
  unfold ledgerWrite
  split
  · rw [getReg_setReg_other _ _ _ _ h]; rfl
  · rfl

@[simp] theorem deferred_ledgerWrite (r : LedgerRec) : (ledgerWrite s r).deferred = s.deferred := by
  unfold ledgerWrite; split <;> rfl

end Sys2Proof.Machine
end

