-- ==== Sys2Proof/Laws/Serve.lean ====
section
/-!
SUPPORT. Register writes: a write that is served acts on the register it names; a refused one is counted and changes no other register of
the block it addresses.
-/
set_option Elab.async false
set_option linter.all false
namespace Sys2Proof.Machine

/-- A served write acts on the register that it names. -/
theorem serveWrite_served {s : State} {w : RegWrite} {p : PageRef} {off key : Nat} {row : Option (RegRow × Nat)}
    (h : servedAt s w = some (p, off, key, row)) (act : State → PageRef → Nat → Nat → Option (RegRow × Nat) → State) :
    serveWrite s w act = act s p off key row := by
  unfold servedAt at h
  unfold serveWrite
  split at h
  · next hc =>
    rw [hc]
    split at h
    · next hr =>
      rw [hr]
      split at h
      · cases h
      · next hg => cases h; exact if_neg hg
    · cases h
  · cases h

/-- A refused write does what a refused access does, and nothing else. -/
theorem serveWrite_refused {s : State} {w : RegWrite} {c : Nat} {cs : List Nat} (h : accessCauses s w.access true = c :: cs)
    (act : State → PageRef → Nat → Nat → Option (RegRow × Nat) → State) :
    serveWrite s w act = refuseAccess s w.access true (c :: cs) := by
  unfold serveWrite
  rw [h]

/-- A refused access writes no register but those. -/
theorem getReg_refuseAccess_other (s : State) (a : Access) (wr : Bool) (cs : List Nat) (r : Nat) (h : r ∉ refusalRegs a) :
    getReg (refuseAccess s a wr cs) r = getReg s r := by
  simp only [refusalRegs, List.mem_cons, List.mem_append, not_or] at h
  obtain ⟨⟨h1, h2, h3, h4⟩, h5⟩ := h
  have e1 : ∀ x, getReg (setReg (setReg s Reg.devAccessErr x) Reg.devAccessLast
      (word (a.off % 2 ^ 26 + b2n wr * 2 ^ 26 + a.who.func * 2 ^ 27 + a.who.port * 2 ^ 34 + cs.headD 0 * 2 ^ 35))) r = getReg s r := fun x => by
    rw [getReg_setReg_other _ _ _ _ h2, getReg_setReg_other _ _ _ _ h1]
  have e2 : ∀ (t : State), getReg t r = getReg s r → getReg (match resolve a.who a.off with
      | some (.reg p _ _ _) => setCause t p.base 1
      | _ => t) r = getReg s r := fun t ht => by
    split
    · next p _ _ _ hp =>
      rw [hp] at h3
      rw [getReg_setCause_other _ _ _ _ (by simpa using h3), ht]
    · exact ht
  have e3 : ∀ (t : State), getReg t r = getReg s r → ∀ n, a.who.part = some n → getReg (hedgeViolation t n 1 a.off) r = getReg s r :=
    fun t ht n hn => by
    rw [hn] at h4
    have h4' : r ≠ blkIntRaw (Reg.partBlk n) := fun e => h4 (by simp [captureRegs, e])
    unfold hedgeViolation
    rw [getReg_raiseEvent_other _ _ _ _ _ _ _ _ h5, getReg_setCause_other _ _ _ _ h4', getReg_capture_other _ _ _ _ _ _ _ _ h4,
      getReg_count_other _ _ _ _ h5, ht]
  unfold refuseAccess
  extract_lets e ea eb s1 s2
  have g2 : getReg s2 r = getReg s r := by
    change getReg (if 4 ∈ cs then _ else s1) r = _
    split
    · exact e2 _ (e1 _)
    · exact e1 _
  split
  · next n hn =>
    split
    · exact e3 _ g2 n hn
    · exact g2
  · exact g2

end Sys2Proof.Machine
end

