-- ==== Sys2Proof/Tests/Slice0.lean ====
section
/-!
SUPPORT. Checks of the model: ill-formed operands are refused, the worked examples of the manual, and states that meet the hypotheses of
every statement of Certificates/Slice0/Obligations.lean, clause by clause.
-/
set_option linter.all false
set_option Elab.async false
set_option maxRecDepth 10000
set_option exponentiation.threshold 4096
namespace Sys2Proof.Tests
open Sys2Proof Sys2Proof.Machine

/-- Reset with both halves READY. -/
def ready : State := { State.reset with west := { HalfState.reset with phase := .ready }, east := { HalfState.reset with phase := .ready } }

/-- What the management controller of the west half reads, 8 bytes wide. -/
def rd (s : State) (off : Nat) : Nat := leAt (readAccess s ⟨.mc .west, off, 8⟩) 0 8

/-- The state after a command, where it completes. -/
def after (c : Instr) (s : State) : State := match exec c s with
  | .next t => t
  | .fault _ => s
  | .refused _ => s

/-! ### Ill-formed operands -/

/-- A write to an offset that names no register of a row. -/
def straySite : RegWrite := ⟨.pf .west, 0x8, 8, 0, 0⟩

/-- A row that a register write starts needs a write that names its register. -/
theorem test_wf_register_rows :
    ([
      .coldReset straySite, .halfReset straySite, .warmReset straySite, .resumeHalted straySite, .blkEnable straySite, .blkQuiesce
        straySite, .blockReset straySite, .blkIntEnWrite straySite, .blkSnap straySite, .blkOwnerWrite straySite, .windowIndexLatch
        straySite, .devAccessErrWrite straySite, .chMapout straySite, .nbuMapout straySite, .nbuBiasCommit straySite, .nbuBiasOwnerWrite
        straySite, .galPartCommit straySite, .loadForme straySite, .activate straySite, .unload straySite, .clearSuspect straySite,
        .linkEn straySite, .drainPort straySite, .patchPort straySite, .retrain straySite, .rejoin straySite, .fabMapWrite straySite,
        .fabRtCommit straySite, .mbxPartAssign straySite, .partRelease straySite, .partReset straySite, .partCtrlReset straySite,
        .setTwin straySite, .setShape straySite, .setEpochBase straySite, .takeover straySite, .devRegionCommit straySite,
        .devHostArbWrite straySite, .qSqDb straySite, .qCqDb straySite, .qOutDb straySite, .ringEnable straySite, .ringDisable
        straySite, .hubLastgaspClr straySite, .groupSnapshot straySite, .groupClear straySite, .trcClear straySite, .trcMark straySite,
        .trcDumpGo straySite, .boundaryStopRequest straySite, .immediateStopRequest straySite, .stopRelease straySite, .lifecycle
        straySite true 1, .counterWrite straySite 0] : List Instr).all (fun c => !c.wf) = true := by decide

/-- The register is named, the field that tells the rows apart is not theirs. -/
theorem test_wf_register_fields :
    ([.coldReset ⟨.mc .west, 0x240, 8, 2, 0⟩, .halfReset ⟨.mc .west, 0x240, 8, 1, 0⟩, .warmReset ⟨.mc .west, 0x240, 8, 3, 0⟩,
      .loadForme ⟨.mc .west, Reg.galFormeCtrl, 8, 2 <<< 32, 0⟩, .activate ⟨.mc .west, Reg.galFormeCtrl, 8, 1 <<< 32, 0⟩,
      .unload ⟨.mc .west, Reg.galFormeCtrl, 8, 4 <<< 32, 0⟩, .clearSuspect ⟨.mc .west, Reg.galFormeCtrl, 8, 3 <<< 32, 0⟩,
      .ringEnable ⟨.vf 0 .west, 0x1100, 8, 0, 0⟩, .ringDisable ⟨.vf 0 .west, 0x1100, 8, 1, 0⟩,
      .stileMsg true (some ⟨.mc .west, 0x240, 8, 0, 0⟩)] : List Instr).all (fun c => !c.wf) = true := by decide

/-- Numbers beyond the part, addresses off a sector, data of another length. -/
theorem test_wf_operands :
    ([.memorySelfTest 0 [(16, 0)] 0 true, .memorySelfTest 0 [(0, 64)] 0 true, .wipe [(8, 0)], .wipe [(0, 16)], .quiesced 0x1,
      .blockResetDone 0x999999, .sectorRead 1 0 0 .host, .sectorRead (2 ^ 38) 0 0 .host, .patrolScrub 32 0 0, .patrolScrub (2 ^ 38) 0 0,
      .fullWrite 0 [0], .fullWrite 32 (List.replicate 64 0), .partialWrite 0 [] 0, .partialWrite 0 (List.replicate 64 0) 0,
      .partialWrite 63 [0, 0] 0, .hwFail 0 0 0, .hwFail 0 0 5, .queryLoad 0 0 [2], .queryLoad 0 0 (List.replicate 64 0), .pageJob 0 0 [1],
      .pageJob 0 0 (List.replicate 32 0), .nbuParity 0 0 0 0, .nbuParity 0 0 0 5, .coreParity 0 0 0 0, .nopSort 128 5,
      .creditStall 0 0 0 0 0, .creditStall 1 0 0 1 0, .creditStall 0 0 5 1 0, .commandFetch 0 false [0], .dataFlit 0 [0],
      .linkManagementFlit 0 [6], .idleFlit 0 [7], .linkDown 0 0, .stopImmediate []] : List Instr).all (fun c => !c.wf) = true := by
  decide +kernel

/-- An ill-formed command stops under a name of its own. -/
theorem test_ill_formed_faults : step { ready with pending := [.hwFail 0 0 0] } = .fault .illFormed := rfl

/-! ### The table gives no bits -/

theorem test_decode_none : decodeTableWord 32 0x12345678 = none := rfl
theorem test_with_fetch_word : State.reset.withFetchWord 64 5 = State.reset := rfl

/-! ### Worked examples of the manual -/

/-- Worked example 4.1: BLK_ID and the directory entry of core pair 10 of CD5. -/
theorem test_example_4_1_block : rd ready 0x24B000 = 0x00000001050A1007 := by decide +kernel
theorem test_example_4_1_entry : rd ready (0x1108 + 8 * 112) = 0x0010024B050A0107 := by decide +kernel

/-- Worked example 16.1: an NBU group of MD5 by its register, its block and its entry of the directory. -/
theorem test_example_16_1_block : rd ready 0x452000 = 0x000000010501100A := by decide +kernel
theorem test_example_16_1_entry : rd ready 0x1968 = 0x001004520501010A := by decide +kernel
theorem test_example_16_1_register : Reg.nbuBiasCommit 5 1 = 0x452220 := by decide

/-- Worked example 5.1: the device address of an offset of an EXTENT tensor, its bank and row. -/
theorem test_example_5_1 :
    extentDa (0x0A000000#64 ||| (3#64 <<< 31) ||| (16#64 <<< 34) ||| (0xFFFF#64 <<< 48)) 0x01234567 = 0x198A124567 ∧
      daPair 0x198A124567 = 6 ∧ daRow 0x198A124567 = 4388 ∧ daBank 0x198A124567 = 13 := by decide

/-- Worked example 9.1: the key row and the value row 40 of layer 42 of a page group. -/
theorem test_example_9_1 : grpAddr 0x800F4400 42 (40 * 128) = 0x799951400 ∧ grpAddr 0x800F4400 42 (64 * 128 + 40 * 128) = 0x799953400 := by
  decide

/-- Worked example 7.1: two MXFP4 blocks as a WF4 block pair; block A lies 3, then 7 powers below block B. -/
theorem test_example_7_1 :
    ((mxPair 8 e2m1 ([0x7C, 0x25] ++ List.replicate 15 0 ++ [0x7F] ++ List.replicate 16 0)).1.take 3 = [0x7F, 0x0F, 0x25]) ∧
      ((mxPair 8 e2m1 ([0x78, 0x75] ++ List.replicate 15 0 ++ [0x7F] ++ List.replicate 16 0)).1.take 3 = [0x7F, 0x0F, 0x10]) ∧
      (mxPair 8 e2m1 ([0x78, 0x75] ++ List.replicate 15 0 ++ [0x7F] ++ List.replicate 16 0)).2 = 2 := by decide +kernel

/-- Worked example 0.1: a software write that meets an overflow keeps its value and sets [63] and [62]. -/
theorem test_example_0_1 :
    getCnt (writeCounter (writeCounter ready (Reg.chCeL1 2 9) 0xFFFFFFFFFFFF 0) (Reg.chCeL1 2 9) 0x123 1) (Reg.chCeL1 2 9) =
      0xC000000000000123 := by decide +kernel

/-- Worked example 15.1: the occupancy counter of channel 9 of MD2 lies in group 0 at index 41. -/
theorem test_example_15_1 : (groupCounters 0).getD 42 0 = 0x503258 := by decide +kernel

/-- A device at a coordinate in a 32 x 32 x 16 fabric, all ports verified at both ends, slice 5 routed XYZ over the full torus with detours;
port X- may be DOWN and routed around. -/
def meadow (coord : Nat) (xDown : Bool) : State :=
  let base : State := { ready with
    colophon := { State.reset.colophon with lcState := 1 }
    west := { HalfState.reset with phase := .ready, straps := BitVec.ofNat 16 coord }
    routes := [(5, word (1 + 16 + 0x3F00 + 31 * 2 ^ 21 + 31 * 2 ^ 31 + 15 * 2 ^ 40))] }
  (List.range 6).foldl (fun s p =>
    let gone := xDown && decide (p = 0)
    let s1 := (s.setPort p ⟨if gone then .down else .up, 3, 1, 0, true, 0, 0, false⟩).setLink p { Link.fresh 0 with joined := !gone }
    putBit (putFld s1 (Reg.fabStatus p) 16 16 0x0400) (Reg.fabStatus p) 12 true) base

/-- The three coordinates as one number. -/
def coord (x y z : Nat) : Nat := x + 32 * y + 1024 * z

/-- Where a class-0 frame of slice 5 goes from a device on its way to (29, 2, 5). -/
def hop (x y : Nat) (xDown : Bool) (from_ : Option Nat) (vc : Nat) (was : Bool) : Hop :=
  routeHop (meadow (coord x y 5) xDown) 0 5 (coord 29 2 5) from_ vc was

/-- Worked example 12.2: X- on VC0, VC1 from the wrap on; then Y+ on VC0, and VC1 from its wrap on; at the end, here. -/
theorem test_example_12_2_west : hop 3 30 false none 0 false = .port 0 0 false false ∧ hop 0 30 false (some 0) 0 false = .port 0 1 false false ∧
    hop 31 30 false (some 0) 1 false = .port 0 1 false false := by decide +kernel
theorem test_example_12_2_north : hop 29 30 false (some 0) 1 false = .port 3 0 false false ∧ hop 29 31 false (some 1) 0 false = .port 3 1 false false ∧
    hop 29 2 false (some 1) 1 false = .here := by decide +kernel

/-- Worked example 12.2: with X- of (0, 30, 5) DOWN the frame detours by Y+ on VC1, then goes on by X-. -/
theorem test_example_12_2_detour : hop 0 30 true (some 0) 0 false = .port 3 1 true true ∧
    hop 0 31 false (some 1) 1 true = .port 0 1 true false := by decide +kernel

/-! ### The hypotheses of the statements are met -/


/-- States and operands that meet the hypotheses of `Obligations.RailsComplete`, clause by clause. -/
theorem witness_RailsComplete :
    (∃ (h : Half) (s : State), heathOk s h = false ∧ heathOk s h.other = true ∧ startingAs s h.other .cold = false) ∧
    (∃ (h : Half) (s : State), heathOk s h = false ∧ heathOk s h.other = false ∧ (s.half h).trip = false) ∧
    (∃ (h : Half) (s : State), heathOk s h = true ∧ pwrgd s h = false ∧ heathOk s h.other = true) ∧
    (∃ (h : Half) (rails : BitVec 18) (r : Nat) (s : State), pwrgd s h = false ∧ heathOk s h = true ∧ (s.half h).trip = false ∧ badRail
      h rails = some r) ∧
    (∃ (h : Half) (rails : BitVec 18) (s : State), pwrgd s h = false ∧ heathOk s h = true ∧ (s.half h).phase = .down ∧ (s.half h).trip =
      false ∧ badRail h rails = none ∧ startingAs s h.other .cold = false) ∧
    (∃ (h : Half) (s : State), pwrgd s h = true) ∧
    (∃ (r : Fin 18) (s : State), pwrgd s (railHalf r.val) = true ∧ 8 ≤ r.val ∧ r.val ≠ 12 ∧ r.val ≠ 17) ∧
    (∃ (r : Fin 18) (s : State), pwrgd s (railHalf r.val) = true ∧ r.val < 8 ∧ (s.die r.val).lost = false) ∧
    (∃ (s : State), startingAs s .west .cold = false ∧ startingAs s .east .cold = false ∧ s.west.phase ≠ .unpowered ∧ s.east.phase ≠
      .unpowered) :=
  ⟨⟨.west, putBit ready Reg.devRailStatus 17 true, by decide⟩,
    ⟨.west, State.reset, by decide⟩,
    ⟨.east, putBit (putBit State.reset Reg.devRailStatus 17 true) Reg.devRailStatus 12 true, by decide⟩,
    ⟨.west, 0x3FFFE, 0, putBit State.reset Reg.devRailStatus 12 true, by decide⟩,
    ⟨.west, 0x3FFFF, putBit { ready with west := { HalfState.reset with phase := .down } } Reg.devRailStatus 12 true, by decide⟩,
    ⟨.east, putBit ready Reg.devRailStatus 19 true, by decide⟩,
    ⟨8, putBit ready Reg.devRailStatus 18 true, by decide⟩,
    ⟨7, putBit ready Reg.devRailStatus 19 true, by decide⟩,
    ⟨ready, by decide⟩⟩

/-- States and operands that meet the hypotheses of `Obligations.PowerComplete`, clause by clause. -/
theorem witness_PowerComplete :
    (∃ (h : Half) (s : State), getBit s Reg.devClkStatus h.idx = true ∧ getBit s Reg.devClkStatus h.other.idx = true) ∧
    (∃ (h : Half) (s : State), getBit s Reg.devClkStatus h.idx = true ∧ getBit s Reg.devClkStatus h.other.idx = false ∧ s.steps.running
      = true) ∧
    (∃ (h : Half) (straps : BitVec 16) (s : State), heathOk s h = true ∧ (s.half h).phase = .ready ∧ straps ≠ (s.half h).straps) ∧
    (∃ (p : PowerSample) (s : State), raisedLately s = false ∧ overLimit s p = true) ∧
    (∃ (p : PowerSample) (s : State), raisedLately s = false ∧ overLimit s p = false ∧ s.governor.thermalAt ≤ powerLevel s ∧ 0 <
      powerLevel s ∧ levelSettled s = true ∧ underLimits s p = true ∧ nearThrottle s = false) ∧
    (∃ (p : PowerSample) (s : State), powerLevel s = 6 ∧ overLimit s p = true ∧ sixLong s = true) ∧
    (∃ (die : Fin 24) (temp : Int) (s : State), die.val < 16 ∧ tripAt die.val ≤ temp ∧ (s.half (dieHalf (die.val % 8))).trip = false ∧
      (s.half (dieHalf (die.val % 8)).other).trip = false) ∧
    (∃ (d : Fin 8) (temp : Int) (s : State), nbuStep s d.val ≠ 0 ∧ temp + 2 ≤ nbuThreshold (nbuStep s d.val)) :=
  ⟨⟨.west, putBit (putBit State.reset Reg.devClkStatus 0 true) Reg.devClkStatus 1 true, by decide⟩,
    ⟨.east,
      { putBit (putBit State.reset Reg.devClkStatus 0 false) Reg.devClkStatus 1 true with steps := { State.reset.steps with running := true } },
      by decide⟩,
    ⟨.west, 5, putBit ready Reg.devRailStatus 12 true, by decide⟩,
    ⟨⟨9999, 0, 0, 0, 0, 0⟩, State.reset, by decide⟩,
    ⟨⟨1, 1, 1, 1, 1, 1⟩, putFld State.reset Reg.devPwrStatus 32 3 2, by decide⟩,
    ⟨⟨9999, 0, 0, 0, 0, 0⟩,
      { putFld State.reset Reg.devPwrStatus 32 3 6 with governor := ⟨1, 1, 1, 0, false⟩, clock := { State.reset.clock with now := 10000000 } },
      by decide⟩,
    ⟨15, 105, State.reset, by decide⟩,
    ⟨0, 88, setNbuStep State.reset 0 1, by decide⟩⟩

/-- States and operands that meet the hypotheses of `Obligations.IdleStatesComplete`, clause by clause. -/
theorem witness_IdleStatesComplete :
    (∃ (d : Fin 8) (s : State), getBit s Reg.devPwrCfg 32 = true ∧ idleAllowed s = true ∧ (s.die d.val).power = .on) ∧
    (∃ (d : Fin 8) (s : State), getBit s Reg.devPwrCfg 33 = true ∧ idleAllowed s = true ∧ jobQueued s d.val = false ∧ (s.die
      d.val).power = .clockGated) ∧
    (∃ (d : Fin 8) (s : State), (s.die d.val).power ≠ .on ∧ s.gatedWrites = []) :=
  ⟨⟨3, putBit State.reset Reg.devPwrCfg 32 true, by decide⟩,
    ⟨3, (putBit State.reset Reg.devPwrCfg 33 true).setDie 3 { DiePair.fresh 0 with power := .clockGated }, by decide⟩,
    ⟨3, State.reset.setDie 3 { DiePair.fresh 0 with power := .powerGated }, by decide⟩⟩

/-- States and operands that meet the hypotheses of `Obligations.BoardComplete`, clause by clause. -/
theorem witness_BoardComplete :
    (∃ (a : BitVec 7) (s : State), i3cAlive s = true ∧ s.i3c.dynAddr = none) ∧
    (∃ (a : BitVec 7) (s : State), i3cAlive s = true ∧ s.i3c.dynAddr = none) ∧
    (∃ (a : BitVec 7) (data : List Byte) (s : State), i3cAlive s = true ∧ a = i3cAddr s ∧ data.length = 4) ∧
    (∃ (a : BitVec 7) (s : State), i3cAlive s = true ∧ a = i3cAddr s) ∧
    (∃ (tdi : List Bool) (pins : List Bool) (s : State), tapLocked s = false) ∧
    (∃ (tdi : List Bool) (pins : List Bool) (s : State), tapLocked s = false) ∧
    (∃ (tdi : List Bool) (s : State), tapLocked s = false) ∧
    (∃ (tdi : List Bool) (s : State), tapLocked s = false) ∧
    (∃ (tdi : List Bool) (pins : List Bool) (s : State), tapLocked s = true) :=
  ⟨⟨9, putBit State.reset Reg.devRailStatus 12 true, by decide⟩,
    ⟨9, putBit State.reset Reg.devRailStatus 12 true, by decide⟩,
    ⟨0x50, [8, 2, 0, 0], putBit State.reset Reg.devRailStatus 12 true, by decide⟩,
    ⟨0x50, putBit State.reset Reg.devRailStatus 12 true, by decide⟩,
    ⟨[true], [false, true], State.reset, by decide⟩,
    ⟨[true], [false, true], State.reset, by decide⟩,
    ⟨[true], State.reset, by decide⟩,
    ⟨[true], State.reset, by decide⟩,
    ⟨[true], [], putFld State.reset Reg.devLifecycle 0 3 6, by decide⟩⟩

/-- States and operands that meet the hypotheses of `Obligations.TimeStartComplete`, clause by clause. -/
theorem witness_TimeStartComplete :
    (∃ (s : State), s.clock.epochWait = false) ∧
    (∃ (s : State), s.clock.epochWait = true) ∧
    (∃ (s : State), originAlone s = true) ∧
    (∃ (s : State), s.clock.epochWait = true) ∧
    (∃ (s : State), atTen s = true ∧ s.clock.aligned = false ∧ s.west.kind = .cold ∧ s.east.kind = .cold) ∧
    (∃ (s : State), s.clock.parent = none ∧ s.clock.source = false) :=
  ⟨⟨State.reset, by decide⟩,
    ⟨{ State.reset with clock := { State.reset.clock with epochWait := true } }, by decide⟩,
    ⟨{ State.reset with west := { HalfState.reset with step := 10 }, east := { HalfState.reset with step := 10 } }, by decide⟩,
    ⟨{ State.reset with clock := { State.reset.clock with epochWait := true } }, by decide⟩,
    ⟨{ State.reset with west := { HalfState.reset with step := 10 }, east := { HalfState.reset with step := 10 } }, by decide⟩,
    ⟨State.reset, by decide⟩⟩

/-- States and operands that meet the hypotheses of `Obligations.ResetsComplete`, clause by clause. -/
theorem witness_ResetsComplete :
    (∃ (w : RegWrite) (s : State), isReg w .dev0 0x240 = true ∧ (servedAt s w).isSome = true ∧ fld w.val 16 16 = 0x5A25 ∧ fld w.val 0 2
      = 3 ∧ startingAs s .west .cold = false ∧ startingAs s .east .cold = false ∧ s.west.phase = .ready ∧ s.east.phase = .ready ∧
      s.west.trip = false ∧ s.east.trip = false) ∧
    (∃ (w : RegWrite) (s : State), isReg w .dev0 0x240 = true ∧ (servedAt s w).isSome = true ∧ fld w.val 16 16 = 0x5A25 ∧ fld w.val 0 2
      = 2 ∧ bit w.val 2 = true ∧ s.east.phase = .ready) ∧
    (∃ (w : RegWrite) (s : State), isReg w .dev0 0x240 = true ∧ (servedAt s w).isSome = true ∧ fld w.val 16 16 = 0x5A25 ∧ fld w.val 0 2
      = 1 ∧ s.west.phase = .ready ∧ s.east.phase = .ready ∧ s.nvs.wipePending = false) ∧
    (∃ (h : Half) (s : State), (s.half h).phase = .waiting) ∧
    (∃ (w : RegWrite) (s : State), isReg w .dev0 0x250 = true ∧ (servedAt s w).isSome = true ∧ startCtrlOk w.val = true ∧ bit w.val 2 =
      true ∧ s.west.phase = .halted ∧ s.east.phase ≠ .halted) :=
  ⟨⟨⟨.mc .west, 0x240, 8, 0x5A250003, 0⟩, ready, by decide⟩,
    ⟨⟨.mc .west, 0x240, 8, 0x5A250006, 0⟩, ready, by decide⟩,
    ⟨⟨.mc .west, 0x240, 8, 0x5A250001, 0⟩, ready, by decide⟩,
    ⟨.east, { State.reset with east := { HalfState.reset with phase := .waiting } }, by decide⟩,
    ⟨⟨.mc .west, 0x250, 8, 0x050504, 0⟩, { State.reset with west := { HalfState.reset with phase := .halted } }, by decide⟩⟩

/-- States and operands that meet the hypotheses of `Obligations.StartStepsComplete`, clause by clause. -/
theorem witness_StartStepsComplete :
    (∃ (h : Half) (rails : BitVec 18) (straps : BitVec 16) (s : State), inStep s h 1 = true ∧ (s.half h).kind ≠ .warm ∧ badRail h rails
      = none ∧ rails.getLsbD (12 + 5 * h.idx) = true ∧ pwrgd s h = true ∧ strapMismatch s h straps = false) ∧
    (∃ (h : Half) (s : State), inStep s h 2 = true ∧ (s.half h).kind ≠ .warm ∧ stepForm (s.half h) 2 0 = 0) ∧
    (∃ (h : Half) (s : State), inStep s h 2 = true ∧ (s.half h).kind ≠ .warm ∧ stepForm (s.half h) 2 0 = 0) ∧
    (∃ (h : Half) (s : State), inStep s h 3 = true ∧ (s.half h).kind ≠ .warm) ∧
    (∃ (h : Half) (ok : Bool) (fw : BitVec 32) (s : State), inStep s h 4 = true) ∧
    (∃ (h : Half) (ok : Bool) (fw : BitVec 32) (s : State), inStep s h 4 = true) ∧
    (∃ (d d2 : Fin 8) (s : State), inStep s (dieHalf d.val) 5 = true ∧ d2 ≠ d ∧ d2.val ∈ stepInstances s (dieHalf d.val) 5 ∧ (s.half
      (dieHalf d.val)).done.testBit d2.val = false) ∧
    (∃ (d d2 : Fin 8) (o : Bool) (s : State), inStep s (dieHalf d.val) 6 = true ∧ d2 ≠ d ∧ d2.val ∈ stepInstances s (dieHalf d.val) 6 ∧
      (s.half (dieHalf d.val)).done.testBit d2.val = false) ∧
    (∃ (d d2 : Fin 8) (o : Bool) (s : State), inStep s (dieHalf d.val) 7 = true ∧ d2 ≠ d ∧ d2.val ∈ stepInstances s (dieHalf d.val) 7 ∧
      (s.half (dieHalf d.val)).done.testBit d2.val = false ∧ fallowCores s d.val = 0) ∧
    (∃ (h : Half) (s : State), inStep s h 3 = true ∧ (s.half h).done.testBit 0 = false) :=
  ⟨⟨.west, 0x3FFFF, 7, putBit State.reset Reg.devRailStatus 18 true, by decide⟩,
    ⟨.west, { State.reset with west := { HalfState.reset with step := 2 } }, by decide⟩,
    ⟨.west, { State.reset with west := { HalfState.reset with step := 2 } }, by decide⟩,
    ⟨.west, { State.reset with west := { HalfState.reset with step := 3 } }, by decide⟩,
    ⟨.west, true, 3, { State.reset with west := { HalfState.reset with step := 4 } }, by decide⟩,
    ⟨.west, true, 3, { State.reset with west := { HalfState.reset with step := 4 } }, by decide⟩,
    ⟨0, 1, { State.reset with west := { HalfState.reset with step := 5 } }, by decide⟩,
    ⟨0, 1, true, { State.reset with west := { HalfState.reset with step := 6 } }, by decide⟩,
    ⟨0, 1, true, { State.reset with west := { HalfState.reset with step := 7 } }, by decide⟩,
    ⟨.west, { State.reset with west := { HalfState.reset with step := 3 } }, by decide⟩⟩

/-- States and operands that meet the hypotheses of `Obligations.PortStartComplete`, clause by clause. -/
theorem witness_PortStartComplete :
    (∃ (p : Fin 6) (data : BitVec 64) (spares : BitVec 4) (s : State), (s.port p.val).phase = .training ∧ pickLanes (bitsOf 64
      data.toNat ++ (bitsOf 4 spares.toNat).map (64 + ·)) ≠ []) ∧
    (∃ (p : Fin 6) (s : State), (s.port p.val).phase = .training) ∧
    (∃ (p : Fin 6) (s : State), (s.port p.val).phase = .training) ∧
    (∃ (p : Fin 6) (a : Arrival) (s : State), mayVerify s p = true ∧ nextMsg s (fun m => decide (m.port = p.val ∧ m.msg.cls = 1 ∧
      m.msg.op = 0x14)) = some a) ∧
    (∃ (p : Fin 6) (s : State), (s.port p.val).phase = .verifying ∧ (s.port p.val).outcome ≠ 1) :=
  ⟨⟨0, ~~~1, 3, ({ State.reset with west := { HalfState.reset with step := 8 } }).setPort 0 ⟨.training, 0, 0, 0, true, 0, 0, false⟩, by
      decide⟩,
    ⟨0, ({ State.reset with west := { HalfState.reset with step := 8 } }).setPort 0 ⟨.training, 0, 0, 0, true, 0, 0, false⟩, by decide⟩,
    ⟨0, ({ State.reset with west := { HalfState.reset with step := 8 } }).setPort 0 ⟨.training, 0, 0, 0, true, 0, 0, false⟩, by decide⟩,
    ⟨0, ⟨0, 0, ⟨0, 0, 0, 1, 20, false, 7, 0, List.replicate 64 5⟩⟩,
      { (ready).setPort 0 ⟨.verifying, 0, 0, 0, true, 0, 0, false⟩ with inbox := [⟨0, 0, ⟨0, 0, 0, 1, 20, false, 7, 0, List.replicate 64 5⟩⟩] },
      by decide⟩,
    ⟨0, (ready).setPort 0 ⟨.verifying, 0, 0, 0, true, 0, 0, false⟩, by decide⟩⟩

/-- States and operands that meet the hypotheses of `Obligations.StartEndsComplete`, clause by clause. -/
theorem witness_StartEndsComplete :
    (∃ (s : State), inStep s .west 11 = true ∧ inStep s .east 11 = true ∧ s.west.kind = .cold ∧ s.east.kind = .cold ∧ s.west.seq =
      s.east.seq) ∧
    (∃ (s : State), inStep s .west 12 = true ∧ inStep s .east 12 = true) ∧
    (∃ (h : Half) (s : State), inStep s h 12 = true ∧ (s.half h.other).phase = .ready) ∧
    (∃ (w : RegWrite) (target : BitVec 2) (s : State), isMbox w 4 = true ∧ (servedAt s w).isSome = true ∧ getBit s Reg.devMboxStatus 0 =
      false ∧ getBit s Reg.devLifecycle 3 = false ∧ lcLegal (getFld s Reg.devLifecycle 0 2) target.toNat = true) ∧
    (∃ (n : Nat) (s : State), lcTarget s = some n ∧ lcReady s = true ∧ s.west.phase = .ready ∧ s.east.phase = .ready ∧ s.west.trip =
      false ∧ s.east.trip = false) :=
  ⟨⟨{ State.reset with west := { HalfState.reset with step := 11 }, east := { HalfState.reset with step := 11 } }, by decide⟩,
    ⟨{ State.reset with west := { HalfState.reset with step := 12 }, east := { HalfState.reset with step := 12 } }, by decide⟩,
    ⟨.west, { State.reset with west := { HalfState.reset with step := 12 }, east := { HalfState.reset with phase := .ready } }, by
      decide⟩,
    ⟨⟨.mc .west, 0x400, 8, 0x401, 0⟩, 2, putFld ready Reg.devLifecycle 0 2 1, by decide⟩,
    ⟨2, { ready with deferred := [.lifecycle 2] }, by decide⟩⟩

/-- States and operands that meet the hypotheses of `Obligations.HeaderWritesComplete`, clause by clause. -/
theorem witness_HeaderWritesComplete :
    (∃ (w : RegWrite) (q : Site) (s : State), isHeader w 0x010 = true ∧ servedAt s w = some q ∧ bit w.val 2 = false) ∧
    (∃ (w : RegWrite) (q : Site) (s : State), isHeader w 0x010 = true ∧ servedAt s w = some q ∧ bit w.val 2 = false) ∧
    (∃ (w : RegWrite) (q : Site) (s : State), isHeader w 0x010 = true ∧ servedAt s w = some q ∧ bit w.val 2 = true ∧ getBit s (blkStatus
      q.1.base) 1 = true ∧ getBit s (blkStatus q.1.base) 3 = false) ∧
    (∃ (w : RegWrite) (q : Site) (s : State), isHeader w 0x010 = true ∧ servedAt s w = some q ∧ bit w.val 2 = true ∧ getBit s (blkStatus
      q.1.base) 1 = false) ∧
    (∃ (w : RegWrite) (q : Site) (s : State), isHeader w 0x028 = true ∧ servedAt s w = some q) ∧
    (∃ (w : RegWrite) (q : Site) (s : State), isHeader w 0x060 = true ∧ servedAt s w = some q ∧ bit w.val 0 = true ∧ snapMerges s
      q.1.base s.clock.now = false) ∧
    (∃ (w : RegWrite) (q : Site) (s : State), isHeader w 0x070 = true ∧ servedAt s w = some q ∧ getBit s (blkStatus q.1.base) 1 = true ∧
      ownerOk (fld w.val 0 8) = true ∧ q.1.type ≠ 0x07) ∧
    (∃ (w : RegWrite) (q : Site) (s : State), isHeader w 0x070 = true ∧ servedAt s w = some q ∧ getBit s (blkStatus q.1.base) 1 = true ∧
      ownerOk (fld w.val 0 8) = true ∧ ownerOk (fld w.val 8 8) = true ∧ q.1.type = 0x07) :=
  ⟨⟨⟨.mc .west, 0x40010, 8, 1, 0⟩, (servedAt (ready) ⟨.mc .west, 0x40010, 8, 1, 0⟩).get (by decide), ready, by decide⟩,
    ⟨⟨.mc .west, 0x40010, 8, 3, 0⟩, (servedAt (ready) ⟨.mc .west, 0x40010, 8, 3, 0⟩).get (by decide), ready, by decide⟩,
    ⟨⟨.mc .west, 0x300010, 8, 7, 0⟩, (servedAt (putBit ready (blkStatus 0x300000) 1 true) ⟨.mc .west, 0x300010, 8, 7, 0⟩).get (by
      decide), putBit ready (blkStatus 0x300000) 1 true, by decide⟩,
    ⟨⟨.mc .west, 0x300010, 8, 7, 0⟩, (servedAt (ready) ⟨.mc .west, 0x300010, 8, 7, 0⟩).get (by decide), ready, by decide⟩,
    ⟨⟨.mc .west, 0x40028, 8, 0x7000F, 0⟩, (servedAt (ready) ⟨.mc .west, 0x40028, 8, 0x7000F, 0⟩).get (by decide), ready, by decide⟩,
    ⟨⟨.mc .west, 0x40060, 8, 1, 0⟩, (servedAt (ready) ⟨.mc .west, 0x40060, 8, 1, 0⟩).get (by decide), ready, by decide⟩,
    ⟨⟨.mc .west, 0x310070, 8, 5, 0⟩, (servedAt (putBit ready (blkStatus 0x310000) 1 true) ⟨.mc .west, 0x310070, 8, 5, 0⟩).get (by
      decide), putBit ready (blkStatus 0x310000) 1 true, by decide⟩,
    ⟨⟨.mc .west, 0x101070, 8, 0x605, 0⟩, (servedAt (putBit ready (blkStatus 0x101000) 1 true) ⟨.mc .west, 0x101070, 8, 0x605, 0⟩).get
      (by decide), putBit ready (blkStatus 0x101000) 1 true, by decide⟩⟩

/-- States and operands that meet the hypotheses of `Obligations.BlockStatesComplete`, clause by clause. -/
theorem witness_BlockStatesComplete :
    (∃ (blk : Nat) (p : PageRef) (s : State), blockPage blk = some p ∧ Map.get (fun _ => false) s.quiescing blk = true ∧ blockBusy s p =
      false) ∧
    (∃ (blk : Nat) (p : PageRef) (s : State), blockPage blk = some p ∧ getBit s (blkStatus blk) 3 = true) ∧
    (∃ (s : State), betweenSteps s = true ∧ stopState s ≤ 2) ∧
    (∃ (blk : Nat) (s : State), isBlock blk = true) :=
  ⟨⟨0x40000, (locate 0x40000).get (by decide), { ready with quiescing := [(0x40000, true)] }, by decide⟩,
    ⟨0x40000, (locate 0x40000).get (by decide), putBit ready (blkStatus 0x40000) 3 true, by decide⟩,
    ⟨{ ready with deferred := [.blkCtrl 0x40000] }, by decide⟩,
    ⟨0x40000, ready, by decide⟩⟩

/-- States and operands that meet the hypotheses of `Obligations.RegisterWritesComplete`, clause by clause. -/
theorem witness_RegisterWritesComplete :
    (∃ (w : RegWrite) (q : Site) (r : RegRow) (i : Nat) (k : PageKind × Nat) (s : State), servedAt s w = some q ∧ q.2.2.2 = some (r, i)
      ∧ writeNames w = some k ∧ k ∈ plainRegisters ∧ configOk s q.1 k.2 w.val = true ∧ k ≠ (.gal3, 0x110)) ∧
    (∃ (w : RegWrite) (q : Site) (k : PageKind × Nat) (s : State), servedAt s w = some q ∧ writeNames w = some k ∧ k ∈ plainRegisters ∧
      configOk s q.1 k.2 w.val = false) ∧
    (∃ (w : RegWrite) (q : Site) (s : State), namesIndex w = true ∧ servedAt s w = some q) ∧
    (∃ (w : RegWrite) (inc : Nat) (q : Site) (s : State), namesCounter w = true ∧ servedAt s w = some q ∧ fld (getCnt s q.2.2.1) 0 48 +
      inc < 2 ^ 48 ∧ bit w.val 63 = false) ∧
    (∃ (w : RegWrite) (q : Site) (s : State), isReg w .dev0 0x228 = true ∧ servedAt s w = some q) ∧
    (∃ (w : RegWrite) (q : Site) (s : State), isReg w .hub0 0x110 = true ∧ servedAt s w = some q ∧ fld w.val 16 16 = 0x5A25 ∧ bit w.val
      0 = true) ∧
    (∃ (a : Access) (s : State), accessCauses s a false ≠ []) ∧
    (∃ (a : Access) (s : State), accessCauses s a false ≠ [] ∧ a.who.part = none) :=
  ⟨⟨⟨.mc .west, 0x300100, 8, 0x0102, 0⟩, (servedAt (ready) ⟨.mc .west, 0x300100, 8, 0x0102, 0⟩).get (by decide), (((locate
      0x300000).bind fun p => pageRow p 0x100).get (by decide)).1, 0, (.md, 0x100), ready, by decide⟩,
    ⟨⟨.mc .west, 0x300100, 8, 0x3F7F, 0⟩, (servedAt (ready) ⟨.mc .west, 0x300100, 8, 0x3F7F, 0⟩).get (by decide), (.md, 0x100), ready,
      by decide⟩,
    ⟨⟨.mc .west, 0x318, 8, 5, 0⟩, (servedAt (ready) ⟨.mc .west, 0x318, 8, 5, 0⟩).get (by decide), ready, by decide⟩,
    ⟨⟨.mc .west, 0x11118, 8, 77, 0⟩, 1, (servedAt (ready) ⟨.mc .west, 0x11118, 8, 77, 0⟩).get (by decide), ready, by decide⟩,
    ⟨⟨.mc .west, 0x228, 8, 1, 0⟩, (servedAt (ready) ⟨.mc .west, 0x228, 8, 1, 0⟩).get (by decide), ready, by decide⟩,
    ⟨⟨.mc .west, 0x10110, 8, 0x5A250001, 0⟩, (servedAt (ready) ⟨.mc .west, 0x10110, 8, 0x5A250001, 0⟩).get (by decide), ready, by
      decide⟩,
    ⟨⟨.pf .west, 0x22C, 4⟩, ready, by decide⟩,
    ⟨⟨.pf .west, 0x22C, 4⟩, ready, by decide⟩⟩

/-- States and operands that meet the hypotheses of `Obligations.SectorReadsComplete`, clause by clause. -/
theorem witness_SectorReadsComplete :
    (∃ (da l1 : Nat) (by_ : Consumer) (s : State), da < 2 ^ 38 ∧ da % 64 = 0 ∧ daHole da = false ∧ daServed s da = true ∧ sectorPoisoned
      s da = false) ∧
    (∃ (da l1 l2 : Nat) (s : State), da < 2 ^ 38 ∧ da % 64 = 0 ∧ daHole da = false ∧ daServed s da = true ∧ sectorPoisoned s da = false
      ∧ 2 ≤ l2) ∧
    (∃ (da l1 l2 : Nat) (req : Fin 32768) (s : State), da < 2 ^ 38 ∧ da % 64 = 0 ∧ daHole da = false ∧ daServed s da = true ∧
      sectorPoisoned s da = true ∧ (s.entry req.val).state ≠ 0 ∧ (s.entry req.val).state ≠ 8 ∧ (s.entry req.val).twin ≠ 1) ∧
    (∃ (da l1 l2 : Nat) (by_ : Consumer) (s : State), da < 2 ^ 38 ∧ da % 64 = 0 ∧ daHole da = true) ∧
    (∃ (da l1 : Nat) (s : State), da < 2 ^ 38 ∧ da % 64 = 0 ∧ daHole da = false ∧ daServed s da = true ∧ sectorPoisoned s da = false ∧
      getFld s Reg.devPwrStatus 32 3 = 0) ∧
    (∃ (da l1 l2 : Nat) (s : State), da < 2 ^ 38 ∧ da % 64 = 0 ∧ daHole da = false ∧ daServed s da = true ∧ 0 < getFld s
      Reg.devPwrStatus 32 3) :=
  ⟨⟨64, 2, .host, ready, by decide⟩,
    ⟨64, 2, 3, ready, by decide⟩,
    ⟨0, 0, 0, 5, { ready with poison := [(0, true)], entries := [(5, { Entry.fresh 0 with state := 3 })] }, by decide⟩,
    ⟨0x60000000, 0, 0, .host, ready, by decide⟩,
    ⟨64, 2, ready, by decide⟩,
    ⟨64, 2, 1, putFld ready Reg.devPwrStatus 32 3 2, by decide⟩⟩

/-- States and operands that meet the hypotheses of `Obligations.SectorWritesComplete`, clause by clause. -/
theorem witness_SectorWritesComplete :
    (∃ (da : Nat) (data : List Byte) (s : State), da < 2 ^ 38 ∧ da % 64 = 0 ∧ daHole da = false ∧ daServed s da = true ∧ data.length =
      64) ∧
    (∃ (da : Nat) (data : List Byte) (l2 : Nat) (s : State), da < 2 ^ 38 ∧ 0 < data.length ∧ data.length < 64 ∧ da % 64 + data.length ≤
      64 ∧ daHole da = false ∧ daServed s da = true ∧ sectorPoisoned s da = false ∧ l2 ≤ 1) ∧
    (∃ (da : Nat) (data : List Byte) (l2 : Nat) (s : State), da < 2 ^ 38 ∧ 0 < data.length ∧ data.length < 64 ∧ da % 64 + data.length ≤
      64 ∧ daHole da = false ∧ daServed s da = true ∧ sectorPoisoned s da = true ∨ 2 ≤ l2) ∧
    (∃ (d : Fin 8) (c : Fin 16) (pa : Nat) (delta : List Byte) (rest : List (Nat × List Byte)) (s : State), (s.chan d.val c.val).deltas
      = (pa, delta) :: rest ∧ delta.length = 64 ∧ daServed s pa = true ∧ sectorPoisoned s pa = false) ∧
    (∃ (d : Fin 8) (c : Fin 16) (s : State), (s.chan d.val c.val).deltas = []) :=
  ⟨⟨64, List.replicate 64 7, { ready with poison := [(1, true)] }, by decide⟩,
    ⟨70, [1, 2, 3], 1, ready, by decide⟩,
    ⟨70, [1, 2, 3], 2, ready, by decide⟩,
    ⟨0, 1, 128, List.replicate 64 9, [], ready.setChan 0 1 ⟨[], [], [(128, List.replicate 64 9)], none⟩, by decide⟩,
    ⟨0, 1, ready, by decide⟩⟩

/-- States and operands that meet the hypotheses of `Obligations.MapoutsBegin`, clause by clause. -/
theorem witness_MapoutsBegin :
    (∃ (d : Fin 8) (c : Fin 16) (s : State), getFld s Reg.devMemCfg 16 16 ≤ getFld s (Reg.chLimit d.val c.val) 0 16 ∧ mapoutRuns s d.val
      c.val none false = false) ∧
    (∃ (d : Fin 8) (c : Fin 16) (s : State), getFld s Reg.devMemCfg 32 8 ≤ getFld s (Reg.chLimit d.val c.val) 16 8 ∧ mapoutRuns s d.val
      c.val none false = false) ∧
    (∃ (d : Fin 8) (c : Fin 16) (part : Nat) (s : State), 1 ≤ part ∧ part ≤ 4 ∧ channelUp s d.val c.val = true ∧ mapoutRuns s d.val
      c.val none true = false) ∧
    (∃ (w : RegWrite) (q : Site) (s : State), isReg w .ch 0x108 = true ∧ servedAt s w = some q ∧ fld w.val 16 16 = 0x5A25 ∧ bit w.val 0
      = true ∧ mapoutRuns s (q.1.inst / 256) (q.1.inst % 256) none false = false) :=
  ⟨⟨0, 3, putFld ready (Reg.chLimit 0 3) 0 16 5000, by decide⟩,
    ⟨0, 3, putFld ready (Reg.chLimit 0 3) 16 8 255, by decide⟩,
    ⟨0, 3, 2, ready, by decide⟩,
    ⟨⟨.mc .west, 0x302108, 8, 0x5A250001, 0⟩, (servedAt (ready) ⟨.mc .west, 0x302108, 8, 0x5A250001, 0⟩).get (by decide), ready, by
      decide⟩⟩

/-- States and operands that meet the hypotheses of `Obligations.MapoutsMove`, clause by clause. -/
theorem witness_MapoutsMove :
    (∃ (m : Moved) (s : State), (movedSources s m).any (onMapout s) = true ∧ (movedSources s m).any (onLost s) = false ∧ movedFree s m =
      true ∧ (movedSources s m).any (spanPoisoned s) = false) ∧
    (∃ (h : Nat) (m : Word) (image : Option (List Byte)) (bytes : List Byte) (s : State), ((movedSources s (.extent h m)).any fun a =>
      onLost s a || (onMapout s a && spanPoisoned s a)) = true ∧ extentImage s h image = some bytes ∧ movedFree s (.extent h m) = true ∧
      stepWaits s = false) ∧
    (∃ (req : Fin 32768) (groups : List (Nat × Nat × Nat)) (bytes : List Byte) (s : State), ((movedSources s (.request req groups)).any
      fun a => onLost s a || (onMapout s a && spanPoisoned s a)) = true ∧ movedFree s (.request req groups) = true ∧ bytes.length =
      groups.length * (s.entry req.val).dir.layers * pageBytes (s.entry req.val).dir) ∧
    (∃ (req : Fin 32768) (head entry group : Nat) (s : State), quireOf s (s.entry req.val).partition = true ∧ ((movedSources s (.request
      req [(head, entry, group)])).any (onLost s)) = true ∧ movedFree s (.request req [(head, entry, group)]) = true ∧ rebuildable s
      (Map.get zeroAt ((s.entry req.val).dir.head head).list entry) (s.entry req.val).dir.layers = true) ∧
    (∃ (d : Fin 8) (quire k : Nat) (s : State), parityGoes s d.val quire = true ∧ nextParity s d.val quire = some k ∧ ((allSpans s).any
      (Span.meets ⟨d.val, k, quireCla s d.val quire, quireCla s d.val quire + 0x8000⟩)) = false) :=
  ⟨⟨.extent 5 0x2003000100000,
      { ready with tensors := [(5, ⟨1, false, false, false, false, false, 0, 0, 4096, 0x1003000000000, 0, 0, 0, 0⟩)], mapouts := [⟨0, 0, none, false, 0xFF01, false, 0, 0⟩] },
      by decide⟩,
    ⟨5, 0x2003000100000, some (List.replicate 64 1), List.replicate 64 1,
      { ready with tensors := [(5, ⟨1, false, false, false, false, false, 0, 0, 64, 0x1003000000000, 0, 0, 0, 0⟩)], mapouts := [⟨0, 0, none, true, 0x0105, false, 0, 0⟩] },
      by decide⟩,
    ⟨5, [(0, 0, 0x8001A003)], List.replicate 8192 1,
      { ready with entries := [(5, { Entry.fresh 0 with state := 3, dir := ⟨1, 0, 0, 1, [⟨0, 4, 1, [(0, 0x8000A003)]⟩]⟩ })], mapouts := [⟨0, 0, none, true, 0x0105, false, 0, 0⟩] },
      by decide, by decide, by rw [List.length_replicate]; decide⟩,
    ⟨5, 0, 0, 0x8003A005, putFld (putFld (putBit
      { ready with entries := [(5, { Entry.fresh 0 with state := 3, dir := ⟨1, 0, 0, 1, [⟨0, 4, 1, [(0, 0x8000A003)]⟩]⟩ })], mapouts := [⟨0, 0, none, true, 0x0105, false, 0, 0⟩] }
      (Reg.partCfg 0) 1 true) (Reg.mdQuireCfg 0) 0 6 40) (Reg.mdQuireCfg 0) 6 7 2, by decide⟩,
    ⟨0, 0, 1, putFld (putFld { ready with mapouts := [⟨0, 0, none, true, 0x0105, false, 0, 0⟩] } (Reg.mdQuireCfg 0) 0 6 40)
      (Reg.mdQuireCfg 0) 6 7 2, by decide⟩⟩

/-- States and operands that meet the hypotheses of `Obligations.QueryAndJobsArrive`, clause by clause. -/
theorem witness_QueryAndJobsArrive :
    (∃ (d : Fin 8) (c : Fin 16) (bytes : List Byte) (s : State), 64 ≤ bytes.length ∧ leAt bytes 0 1 = 2 ∧ bytes.length = 64 + 2 *
      qlQcount bytes * dimOf (qlDim bytes) ∧ loadMalformed bytes = false ∧ (((bitsOf 64 (qlMask bytes)).filter (nbuUp s d.val
      c.val)).any fun k => setBusy (s.nbu d.val c.val k) (qlSet bytes)) = false) ∧
    (∃ (d : Fin 8) (c : Fin 16) (bytes : List Byte) (s : State), 64 ≤ bytes.length ∧ leAt bytes 0 1 = 2 ∧ bytes.length = 64 + 2 *
      qlQcount bytes * dimOf (qlDim bytes) ∧ loadMalformed bytes = true ∧ (((bitsOf 64 (qlMask bytes)).filter (nbuUp s d.val c.val)).any
      fun k => setBusy (s.nbu d.val c.val k) (qlSet bytes)) = false) ∧
    (∃ (d : Fin 8) (c : Fin 16) (bytes : List Byte) (s : State), bytes.length = 32 ∧ leAt bytes 0 1 = 1 ∧ pjNoop bytes = false ∧ (s.nbu
      d.val c.val (pjNbu bytes)).jobs.length + (s.nbu d.val c.val (pjNbu bytes)).freed.length < 4 ∧ rowDropped (s.nbu d.val c.val (pjNbu
      bytes)) bytes = false ∧ jobReason s (s.nbu d.val c.val (pjNbu bytes)) bytes = 0 ∧ (s.nbu d.val c.val (pjNbu bytes)).failed = false
      ∧ nbuUp s d.val c.val (pjNbu bytes) = true ∧ (s.nbu d.val c.val (pjNbu bytes)).mark = none ∨ (s.nbu d.val c.val (pjNbu
      bytes)).jobs ≠ []) ∧
    (∃ (d : Fin 8) (c : Fin 16) (bytes : List Byte) (s : State), bytes.length = 32 ∧ leAt bytes 0 1 = 1 ∧ pjNoop bytes = false ∧ (s.nbu
      d.val c.val (pjNbu bytes)).jobs.length + (s.nbu d.val c.val (pjNbu bytes)).freed.length < 4 ∧ rowDropped (s.nbu d.val c.val (pjNbu
      bytes)) bytes = false ∧ jobReason s (s.nbu d.val c.val (pjNbu bytes)) bytes ≠ 0) ∧
    (∃ (d : Fin 8) (c : Fin 16) (bytes : List Byte) (s : State), bytes.length = 32 ∧ leAt bytes 0 1 = 1 ∧ pjNoop bytes = false ∧ 4 ≤
      (s.nbu d.val c.val (pjNbu bytes)).jobs.length + (s.nbu d.val c.val (pjNbu bytes)).freed.length) :=
  ⟨⟨0, 1, [2, 0, 0, 0, 0, 0, 0x80, 0x3F, 0, 0, 0x80, 0x3F, 0, 0, 0, 0, 5] ++ List.replicate 175 0, ready, by decide⟩,
    ⟨0, 1, [2, 0, 0, 0, 0, 0, 0x80, 0x7F, 0, 0, 0x80, 0x3F, 0, 0, 0, 0, 5] ++ List.replicate 175 0, ready, by decide⟩,
    ⟨0, 1, [1, 0, 3, 0, 0, 0, 1, 0, 1, 63, 0, 0, 0, 0, 0, 0, 0, 0, 0, 0, 9, 0, 0, 0, 0, 1, 0, 0, 0, 0, 0, 0], ready.setNbu 0 1 0
      { Nbu.fresh 0 with set0 := ⟨false, 1, 0, 0x3F800000, 0x3F800000, 0, [0], [List.replicate 64 0]⟩ }, by decide⟩,
    ⟨0, 1, [1, 0, 3, 0, 0, 0, 1, 0, 1, 63, 0, 3, 0, 0, 0, 0, 0, 0, 0, 0, 9, 0, 0, 0, 0, 1, 0, 0, 0, 0, 0, 0], ready.setNbu 0 1 0
      { Nbu.fresh 0 with set0 := ⟨false, 1, 0, 0x3F800000, 0x3F800000, 0, [0], [List.replicate 64 0]⟩ }, by decide⟩,
    ⟨0, 1, [1, 0, 3, 0, 0, 0, 1, 0, 1, 63, 0, 0, 0, 0, 0, 0, 0, 0, 0, 0, 9, 0, 0, 0, 0, 1, 0, 0, 0, 0, 0, 0], ready.setNbu 0 1 0
      { Nbu.fresh 0 with set0 := ⟨false, 1, 0, 0x3F800000, 0x3F800000, 0, [0], [List.replicate 64 0]⟩, jobs := [[1, 0, 3, 0, 0, 0, 1, 0, 1, 63, 0, 0, 0, 0, 0, 0, 0, 0, 0, 0, 9, 0, 0, 0, 0, 1, 0, 0, 0, 0, 0, 0], [1, 0, 3, 0, 0, 0, 1, 0, 1, 63, 0, 0, 0, 0, 0, 0, 0, 0, 0, 0, 9, 0, 0, 0, 0, 1, 0, 0, 0, 0, 0, 0], [1, 0, 3, 0, 0, 0, 1, 0, 1, 63, 0, 0, 0, 0, 0, 0, 0, 0, 0, 0, 9, 0, 0, 0, 0, 1, 0, 0, 0, 0, 0, 0], [1, 0, 3, 0, 0, 0, 1, 0, 1, 63, 0, 0, 0, 0, 0, 0, 0, 0, 0, 0, 9, 0, 0, 0, 0, 1, 0, 0, 0, 0, 0, 0]] },
      by decide⟩⟩

/-- States and operands that meet the hypotheses of `Obligations.PagesRun`, clause by clause. -/
theorem witness_PagesRun :
    (∃ (d : Fin 8) (c : Fin 16) (k : Fin 64) (waited : Nat) (b : List Byte) (rest : List (List Byte)) (s : State), (s.nbu d.val c.val
      k.val).jobs = b :: rest ∧ (s.nbu d.val c.val k.val).holds = false ∧ (s.nbu d.val c.val k.val).hung = false ∧ nbuUp s d.val c.val
      k.val = true ∧ (s.nbu d.val c.val k.val).page < pjPages b) ∧
    (∃ (d : Fin 8) (c : Fin 16) (k : Fin 64) (b : List Byte) (rest : List (List Byte)) (s : State), (s.nbu d.val c.val k.val).jobs = b
      :: rest ∧ (s.nbu d.val c.val k.val).holds = false ∧ (s.nbu d.val c.val k.val).hung = false ∧ nbuUp s d.val c.val k.val = true ∧
      (s.nbu d.val c.val k.val).page < pjPages b) ∧
    (∃ (d : Fin 8) (c : Fin 16) (k : Fin 64) (b : List Byte) (rest : List (List Byte)) (s : State), (s.nbu d.val c.val k.val).jobs = b
      :: rest ∧ (s.nbu d.val c.val k.val).holds = true ∧ (s.nbu d.val c.val k.val).mark = none ∧ ((pageSectors d.val c.val b (s.nbu
      d.val c.val k.val).page).find? (sectorPoisoned s)) = none ∧ (s.nbu d.val c.val k.val).page + 1 < pjPages b) ∧
    (∃ (d : Fin 8) (c : Fin 16) (k : Fin 64) (b : List Byte) (rest : List (List Byte)) (s : State), (s.nbu d.val c.val k.val).jobs = b
      :: rest ∧ (s.nbu d.val c.val k.val).holds = true ∧ (s.nbu d.val c.val k.val).mark = none ∧ ((pageSectors d.val c.val b (s.nbu
      d.val c.val k.val).page).find? (sectorPoisoned s)) = none ∧ (s.nbu d.val c.val k.val).page + 1 = pjPages b ∧ pjLast b = true ∧
      (s.nbu d.val c.val k.val).out.length < 2) ∧
    (∃ (d : Fin 8) (c : Fin 16) (k : Fin 64) (r : OutRec) (core : Nat) (s : State), ((s.nbu d.val c.val k.val).out.find? fun r =>
      !r.sent) = some r ∧ coreOf s d.val r.core = some core) ∧
    (∃ (d : Fin 8) (c : Fin 16) (k : Fin 64) (b : List Byte) (n : Nat) (rest : List (List Byte × Nat)) (s : State), (s.nbu d.val c.val
      k.val).freed = (b, n) :: rest) ∧
    (∃ (d : Fin 8) (c : Fin 16) (k : Fin 64) (r : OutRec) (s : State), ((s.nbu d.val c.val k.val).out.find? (·.sent)) = some r ∧ (s.nbu
      d.val c.val k.val).jobs = []) ∧
    (∃ (d : Fin 8) (c : Fin 16) (k : Fin 64) (op : BitVec 8) (s : State), (s.chan d.val c.val).failed ≠ some op.toNat) :=
  ⟨⟨0, 1, 0, 1, [1, 0, 3, 0, 0, 0, 1, 0, 1, 63, 0, 0, 0, 0, 0, 0, 0, 0, 0, 0, 9, 0, 0, 0, 0, 1, 0, 0, 0, 0, 0, 0], [], ready.setNbu 0 1
      0
      { Nbu.fresh 0 with set0 := ⟨false, 1, 0, 0x3F800000, 0x3F800000, 0, [0], [List.replicate 64 0]⟩, jobs := [[1, 0, 3, 0, 0, 0, 1, 0, 1, 63, 0, 0, 0, 0, 0, 0, 0, 0, 0, 0, 9, 0, 0, 0, 0, 1, 0, 0, 0, 0, 0, 0]] },
      by decide⟩,
    ⟨0, 1, 0, [1, 0, 3, 0, 0, 0, 1, 0, 1, 63, 0, 0, 0, 0, 0, 0, 0, 0, 0, 0, 9, 0, 0, 0, 0, 1, 0, 0, 0, 0, 0, 0], [], ready.setNbu 0 1 0
      { Nbu.fresh 0 with set0 := ⟨false, 1, 0, 0x3F800000, 0x3F800000, 0, [0], [List.replicate 64 0]⟩, jobs := [[1, 0, 3, 0, 0, 0, 1, 0, 1, 63, 0, 0, 0, 0, 0, 0, 0, 0, 0, 0, 9, 0, 0, 0, 0, 1, 0, 0, 0, 0, 0, 0]] },
      by decide⟩,
    ⟨0, 1, 0, [1, 0, 3, 0, 0, 0, 1, 0, 2, 63, 0, 0, 0, 0, 0, 0, 0, 0, 0, 0, 9, 0, 0, 0, 0, 1, 0, 0, 0, 0, 0, 0], [], ready.setNbu 0 1 0
      { Nbu.fresh 0 with set0 := ⟨false, 1, 0, 0x3F800000, 0x3F800000, 0, [0], [List.replicate 64 0]⟩, jobs := [[1, 0, 3, 0, 0, 0, 1, 0, 2, 63, 0, 0, 0, 0, 0, 0, 0, 0, 0, 0, 9, 0, 0, 0, 0, 1, 0, 0, 0, 0, 0, 0]], holds := true },
      by decide⟩,
    ⟨0, 1, 0, [1, 0, 3, 0, 0, 0, 1, 0, 1, 63, 0, 0, 0, 0, 0, 0, 0, 0, 0, 0, 9, 0, 0, 0, 0, 1, 0, 0, 0, 0, 0, 0], [], ready.setNbu 0 1 0
      { Nbu.fresh 0 with set0 := ⟨false, 1, 0, 0x3F800000, 0x3F800000, 0, [0], [List.replicate 64 0]⟩, jobs := [[1, 0, 3, 0, 0, 0, 1, 0, 1, 63, 0, 0, 0, 0, 0, 0, 0, 0, 0, 0, 9, 0, 0, 0, 0, 1, 0, 0, 0, 0, 0, 0]], holds := true },
      by decide⟩,
    ⟨0, 1, 0, ⟨0, 256, 9, List.replicate 96 3, false⟩, 7, putFld (ready.setNbu 0 1 0
      { Nbu.fresh 0 with set0 := ⟨false, 1, 0, 0x3F800000, 0x3F800000, 0, [0], [List.replicate 64 0]⟩, out := [⟨0, 256, 9, List.replicate 96 3, false⟩] })
      (Reg.cdCoreMap 0 0) 0 8 0x87, by decide⟩,
    ⟨0, 1, 0, [1, 0, 3, 0, 0, 0, 1, 0, 1, 63, 0, 0, 0, 0, 0, 0, 0, 0, 0, 0, 9, 0, 0, 0, 0, 1, 0, 0, 0, 0, 0, 0], 1, [], ready.setNbu 0 1
      0
      { Nbu.fresh 0 with set0 := ⟨false, 1, 0, 0x3F800000, 0x3F800000, 0, [0], [List.replicate 64 0]⟩, freed := [([1, 0, 3, 0, 0, 0, 1, 0, 1, 63, 0, 0, 0, 0, 0, 0, 0, 0, 0, 0, 9, 0, 0, 0, 0, 1, 0, 0, 0, 0, 0, 0], 1)] },
      by decide⟩,
    ⟨0, 1, 0, ⟨0, 256, 9, List.replicate 96 3, true⟩, ready.setNbu 0 1 0
      { Nbu.fresh 0 with set0 := ⟨false, 1, 0, 0x3F800000, 0x3F800000, 0, [0], [List.replicate 64 0]⟩, out := [⟨0, 256, 9, List.replicate 96 3, true⟩] },
      by decide⟩,
    ⟨0, 1, 0, 1, ready, by decide⟩⟩

/-- States and operands that meet the hypotheses of `Obligations.NearBankFaultsComplete`, clause by clause. -/
theorem witness_NearBankFaultsComplete :
    (∃ (d : Fin 8) (c : Fin 16) (k : Fin 64) (part : Nat) (s : State), 1 ≤ part ∧ part ≤ 4 ∧ nbuUp s d.val c.val k.val = true) ∧
    (∃ (d : Fin 8) (c : Fin 16) (k : Fin 64) (lost : Bool) (s : State), (s.nbu d.val c.val k.val).holds = true ∧ getBit s (Reg.nbuCfg
      d.val (c.val / 8)) 4 = true) ∧
    (∃ (d : Fin 8) (c : Fin 16) (k : Fin 64) (op : BitVec 8) (s : State), (s.chan d.val c.val).failed = some op.toNat) ∧
    (∃ (w : RegWrite) (q : Site) (s : State), isReg w .nbu 0x190 = true ∧ servedAt s w = some q ∧ fld w.val 16 16 = 0x5A25 ∧ bit w.val
      32 = true ∧ s.fallow.length < 4096 ∧ mapoutRuns s (q.1.inst / 256) (8 * (q.1.inst % 256) + fld w.val 0 3) (some (fld w.val 3 6))
      false = false) ∧
    (∃ (w : RegWrite) (q : Site) (vals : List Nat) (s : State), isReg w .nbu 0x220 = true ∧ servedAt s w = some q ∧ bit w.val 0 = true ∧
      vals = ((List.range 64).map fun i => fld ((getLatch s w.who (Reg.nbuBiasIndex (q.1.inst / 256) (q.1.inst % 256))).getD (i / 4) 0)
      (16 * (i % 4)) 16) ∧ biasReason s w.who (fld (latchedIndex s w.who (Reg.nbuBiasIndex (q.1.inst / 256) (q.1.inst % 256))) 0 4) vals
      = 0) ∧
    (∃ (w : RegWrite) (q : Site) (s : State), isReg w .nbu 0x228 = true ∨ isReg w .nbu 0x230 = true ∧ servedAt s w = some q) :=
  ⟨⟨0, 1, 0, 2, ready.setNbu 0 1 0
      { Nbu.fresh 0 with set0 := ⟨false, 1, 0, 0x3F800000, 0x3F800000, 0, [0], [List.replicate 64 0]⟩, jobs := [[1, 0, 3, 0, 0, 0, 1, 0, 1, 63, 0, 0, 0, 0, 0, 0, 0, 0, 0, 0, 9, 0, 0, 0, 0, 1, 0, 0, 0, 0, 0, 0]], holds := true, parity := 1 },
      by decide⟩,
    ⟨0, 1, 0, true, ready.setNbu 0 1 0
      { Nbu.fresh 0 with set0 := ⟨false, 1, 0, 0x3F800000, 0x3F800000, 0, [0], [List.replicate 64 0]⟩, jobs := [[1, 0, 3, 0, 0, 0, 1, 0, 1, 63, 0, 0, 0, 0, 0, 0, 0, 0, 0, 0, 9, 0, 0, 0, 0, 1, 0, 0, 0, 0, 0, 0]], holds := true },
      by decide⟩,
    ⟨0, 1, 0, 1, ready.setChan 0 1 ⟨[], [], [], some 1⟩, by decide⟩,
    ⟨⟨.mc .west, 0x312190, 8, 0x15A25002D, 0⟩, (servedAt (ready) ⟨.mc .west, 0x312190, 8, 0x15A25002D, 0⟩).get (by decide), ready, by
      decide⟩,
    ⟨⟨.mc .west, 0x311220, 8, 1, 0⟩, (servedAt (ready) ⟨.mc .west, 0x311220, 8, 1, 0⟩).get (by decide), List.replicate 64 0, ready, by
      decide⟩,
    ⟨⟨.mc .west, 0x311230, 8, 0xFEFEFEFEFEFEFE05, 0⟩, (servedAt (ready) ⟨.mc .west, 0x311230, 8, 0xFEFEFEFEFEFEFE05, 0⟩).get (by
      decide), ready, by decide⟩⟩

/-- States and operands that meet the hypotheses of `Obligations.CoreFailuresComplete`, clause by clause. -/
theorem witness_CoreFailuresComplete :
    (∃ (d : Fin 8) (p : Fin 34) (off : BitVec 23) (engine : Fin 5) (k : Nat) (s : State), (carried s d.val p.val).isSome = true ∧
      freeSpare s d.val = some k ∧ k ≠ p.val) ∧
    (∃ (d : Fin 8) (p : Fin 34) (off : BitVec 23) (engine : Fin 5) (s : State), (carried s d.val p.val).isSome = true ∧ freeSpare s
      d.val = none) ∧
    (∃ (d : Fin 8) (p : Fin 34) (part : Fin 6) (engine : Fin 5) (k : Nat) (s : State), part.val ≠ 0 ∧ (carried s d.val p.val).isSome =
      true ∧ freeSpare s d.val = some k ∧ k ≠ p.val) ∧
    (∃ (d : Fin 8) (p : Fin 34) (engine : Fin 5) (index : BitVec 16) (k : Nat) (s : State), s.steps.running = true ∧ halted s = false ∧
      (carried s d.val p.val).isSome = true ∧ freeSpare s d.val = some k ∧ k ≠ p.val) ∧
    (∃ (d : Fin 8) (p : Fin 34) (s : State), wakeHold d.val p.val ∈ s.steps.holds) ∧
    (∃ (d : Fin 8) (p : Fin 34) (old : Nat) (s : State), spareHold d.val p.val ∈ s.steps.holds ∧ coreOf s d.val (getFld s (Reg.coreId
      d.val p.val) 8 5) = some old) ∧
    (∃ (d : Fin 8) (p : Fin 34) (off : BitVec 23) (s : State), getBit s (Reg.coreCfg d.val p.val) 8 = true ∧ (carried s d.val
      p.val).isSome = true) ∧
    (∃ (d : Fin 8) (p : Fin 34) (off : BitVec 23) (s : State), getBit s (Reg.coreCfg d.val p.val) 8 = true) ∧
    (∃ (d : Fin 8) (p : Fin 34) (off : BitVec 23) (k : Nat) (s : State), getBit s (Reg.coreCfg d.val p.val) 8 = true ∧ (carried s d.val
      p.val).isSome = true ∧ freeSpare s d.val = some k ∧ k ≠ p.val) :=
  ⟨⟨0, 0, 64, 1, 32, putFld (putFld (putFld ready (Reg.cdCoreMap 0 0) 0 8 0x80) (Reg.coreId 0 32) 16 2 1) (Reg.coreId 0 32) 0 6 32, by
      decide⟩,
    ⟨0, 0, 64, 1, putFld (putFld (putFld (putFld (putFld ready (Reg.cdCoreMap 0 0) 0 8 0x80) (Reg.coreId 0 32) 16 2 1) (Reg.coreId 0 32)
      0 6 32) (Reg.coreId 0 32) 16 2 0) (Reg.coreId 0 33) 16 2 0, by decide⟩,
    ⟨0, 0, 1, 1, 32, putFld (putFld (putFld ready (Reg.cdCoreMap 0 0) 0 8 0x80) (Reg.coreId 0 32) 16 2 1) (Reg.coreId 0 32) 0 6 32, by
      decide⟩,
    ⟨0, 0, 1, 5, 32, putFld (putFld (putFld { ready with steps := { State.reset.steps with running := true } } (Reg.cdCoreMap 0 0) 0 8
      0x80) (Reg.coreId 0 32) 16 2 1) (Reg.coreId 0 32) 0 6 32, by decide⟩,
    ⟨0, 32, { ready with steps := { State.reset.steps with holds := [200032] }, t0 := [(32 * 2 ^ 23 + 5, 7), (33 * 2 ^ 23, 9)] }, by
      decide⟩,
    ⟨0, 32, 0, putFld { ready with steps := { State.reset.steps with holds := [201032] } } (Reg.cdCoreMap 0 0) 0 8 0x80, by decide⟩,
    ⟨0, 0, 64, putFld ready (Reg.cdCoreMap 0 0) 0 8 0x80, by decide⟩,
    ⟨0, 0, 64, ready, by decide⟩,
    ⟨0, 0, 64, 32, putFld (putFld (putFld ready (Reg.cdCoreMap 0 0) 0 8 0x80) (Reg.coreId 0 32) 16 2 1) (Reg.coreId 0 32) 0 6 32, by
      decide⟩⟩

/-- States and operands that meet the hypotheses of `Obligations.CopySortsComplete`, clause by clause. -/
theorem witness_CopySortsComplete :
    (∃ (unit : Fin 256) (engine : Fin 6) (r : RunSort) (s : State), engine.val < 5 ∧ dueSort s unit.val engine.val 0 0 = some r) ∧
    (∃ (unit : Fin 256) (r : RunSort) (s : State), unit.val < 128 ∧ dueSort s (256 + unit.val / 16) 5 (unit.val % 16) 0 = some r) ∧
    (∃ (core : Fin 256) (r : RunSort) (p : Nat) (s : State), dueSort s core.val 0 0 0x10 = some r ∧ coreOf s r.die (r.seg % 32) = some p
      ∧ ∀ i, i < leAt r.bytes 0x18 2 → (readable s r (streamAddr r.bytes i) (tileBytes (leAt r.bytes 0x1A 1 % 32))).isSome = true) ∧
    (∃ (core : Fin 256) (r : RunSort) (p : Nat) (bytes : List Byte) (s : State), dueSort s core.val 0 0 0x11 = some r ∧ coreOf s (r.seg
      / 32) (r.seg % 32) = some p ∧ readable s r (srtTs r.bytes 0x10) (leAt r.bytes 0x1C 4) = some bytes) ∧
    (∃ (core : Fin 256) (r : RunSort) (s : State), dueSort s core.val 4 0 0x51 = some r ∧ (coreOf s (leAt r.bytes 0x14 1 / 32) (leAt
      r.bytes 0x14 1 % 32)).isSome = true) ∧
    (∃ (core : Fin 256) (r : RunSort) (m : Word) (off : Nat) (s : State), dueSort s core.val 4 0 0x50 = some r ∧ (tensorAccess s (some
      r.pick.part) (srtTs r.bytes 0x18) (leAt r.bytes 0x20 4)).toOption = some (m, off) ∧ 6 ≤ mapStripe m ∧ off % 64 = 0 ∧ leAt r.bytes
      0x20 4 = 64) ∧
    (∃ (core : Fin 256) (r : RunSort) (s : State), dueSort s core.val 4 0 0x52 = some r) :=
  ⟨⟨0, 2, (dueSort (putFld
      { ready with steps := { State.reset.steps with running := true, current := [⟨0, 0, 0, []⟩] }, impos := [(0, { ImpoSlot.empty 0 with state := 3, impoId := 7, record := { ImpoRecord.none with groupSize := 1 }, formes := [⟨0, 0, 1, 0, 0, 0, 1, 1, 0, 64, 0, 0, 0, 0, 0, 0, [(0, [([0, 2] ++ List.replicate 62 0)])], []⟩] })] }
      (Reg.cdCoreMap 0 0) 0 16 0x8180) 0 2 0 0).get (by decide), putFld
      { ready with steps := { State.reset.steps with running := true, current := [⟨0, 0, 0, []⟩] }, impos := [(0, { ImpoSlot.empty 0 with state := 3, impoId := 7, record := { ImpoRecord.none with groupSize := 1 }, formes := [⟨0, 0, 1, 0, 0, 0, 1, 1, 0, 64, 0, 0, 0, 0, 0, 0, [(0, [([0, 2] ++ List.replicate 62 0)])], []⟩] })] }
      (Reg.cdCoreMap 0 0) 0 16 0x8180, by decide⟩,
    ⟨3, (dueSort (putFld
      { ready with steps := { State.reset.steps with running := true, current := [⟨0, 0, 0, []⟩] }, impos := [(0, { ImpoSlot.empty 0 with state := 3, impoId := 7, record := { ImpoRecord.none with groupSize := 1 }, formes := [⟨0, 0, 1, 0, 0, 0, 1, 1, 0, 64, 0, 0, 0, 0, 0, 0, [(256, [([0, 5] ++ List.replicate 62 0)])], []⟩] })] }
      (Reg.cdCoreMap 0 0) 0 16 0x8180) 256 5 3 0).get (by decide), putFld
      { ready with steps := { State.reset.steps with running := true, current := [⟨0, 0, 0, []⟩] }, impos := [(0, { ImpoSlot.empty 0 with state := 3, impoId := 7, record := { ImpoRecord.none with groupSize := 1 }, formes := [⟨0, 0, 1, 0, 0, 0, 1, 1, 0, 64, 0, 0, 0, 0, 0, 0, [(256, [([0, 5] ++ List.replicate 62 0)])], []⟩] })] }
      (Reg.cdCoreMap 0 0) 0 16 0x8180, by decide⟩,
    ⟨0, (dueSort (putFld
      { ready with steps := { State.reset.steps with running := true, current := [⟨0, 0, 0, []⟩] }, impos := [(0, { ImpoSlot.empty 0 with state := 3, impoId := 7, record := { ImpoRecord.none with groupSize := 1 }, formes := [⟨0, 0, 1, 0, 0, 0, 1, 1, 0, 64, 0, 0, 0, 0, 0, 0, [(0, [([16, 0, 0, 0, 0, 0, 0, 0, 0, 0, 0, 0, 0, 0, 0, 0, 0, 0, 0, 128, 2, 0, 0, 0, 1, 0, 8] ++ List.replicate 37 0)])], []⟩] })], tensors := [(5, ⟨1, false, false, false, false, false, 0, 0, 8192, 0x1003000000000, 0, 0, 0, 0⟩)] }
      (Reg.cdCoreMap 0 0) 0 16 0x8180) 0 0 0 0x10).get (by decide), 0, putFld
      { ready with steps := { State.reset.steps with running := true, current := [⟨0, 0, 0, []⟩] }, impos := [(0, { ImpoSlot.empty 0 with state := 3, impoId := 7, record := { ImpoRecord.none with groupSize := 1 }, formes := [⟨0, 0, 1, 0, 0, 0, 1, 1, 0, 64, 0, 0, 0, 0, 0, 0, [(0, [([16, 0, 0, 0, 0, 0, 0, 0, 0, 0, 0, 0, 0, 0, 0, 0, 0, 0, 0, 128, 2, 0, 0, 0, 1, 0, 8] ++ List.replicate 37 0)])], []⟩] })], tensors := [(5, ⟨1, false, false, false, false, false, 0, 0, 8192, 0x1003000000000, 0, 0, 0, 0⟩)] }
      (Reg.cdCoreMap 0 0) 0 16 0x8180, by decide⟩,
    ⟨0, (dueSort (putFld
      { ready with steps := { State.reset.steps with running := true, current := [⟨0, 0, 0, []⟩] }, impos := [(0, { ImpoSlot.empty 0 with state := 3, impoId := 7, record := { ImpoRecord.none with groupSize := 1 }, formes := [⟨0, 0, 1, 0, 0, 0, 1, 1, 0, 64, 0, 0, 0, 0, 0, 0, [(0, [([17, 0, 0, 0, 0, 0, 0, 0, 0, 0, 0, 0, 0, 0, 0, 0, 64, 0, 0, 128, 2, 0, 0, 0, 0, 1, 0, 0, 64] ++ List.replicate 35 0)])], []⟩] })], tensors := [(5, ⟨1, false, false, false, false, false, 0, 0, 4096, 0x1003000000000, 0, 0, 0, 0⟩)], t1 := [(70, 9)] }
      (Reg.cdCoreMap 0 0) 0 16 0x8180) 0 0 0 0x11).get (by decide), 0, List.replicate 6 0 ++ [9] ++ List.replicate 57 0, putFld
      { ready with steps := { State.reset.steps with running := true, current := [⟨0, 0, 0, []⟩] }, impos := [(0, { ImpoSlot.empty 0 with state := 3, impoId := 7, record := { ImpoRecord.none with groupSize := 1 }, formes := [⟨0, 0, 1, 0, 0, 0, 1, 1, 0, 64, 0, 0, 0, 0, 0, 0, [(0, [([17, 0, 0, 0, 0, 0, 0, 0, 0, 0, 0, 0, 0, 0, 0, 0, 64, 0, 0, 128, 2, 0, 0, 0, 0, 1, 0, 0, 64] ++ List.replicate 35 0)])], []⟩] })], tensors := [(5, ⟨1, false, false, false, false, false, 0, 0, 4096, 0x1003000000000, 0, 0, 0, 0⟩)], t1 := [(70, 9)] }
      (Reg.cdCoreMap 0 0) 0 16 0x8180, by decide⟩,
    ⟨0, (dueSort (putFld
      { ready with steps := { State.reset.steps with running := true, current := [⟨0, 0, 0, []⟩] }, impos := [(0, { ImpoSlot.empty 0 with state := 3, impoId := 7, record := { ImpoRecord.none with groupSize := 1 }, formes := [⟨0, 0, 1, 0, 0, 0, 1, 1, 0, 64, 0, 0, 0, 0, 0, 0, [(0, [([81, 4, 0, 0, 0, 0, 0, 0, 0, 0, 0, 0, 0, 0, 0, 0, 64, 0, 0, 0, 1, 0, 0, 0, 0, 2, 0, 0, 64] ++ List.replicate 35 0)])], []⟩] })], t0 := [(70, 9)] }
      (Reg.cdCoreMap 0 0) 0 16 0x8180) 0 4 0 0x51).get (by decide), putFld
      { ready with steps := { State.reset.steps with running := true, current := [⟨0, 0, 0, []⟩] }, impos := [(0, { ImpoSlot.empty 0 with state := 3, impoId := 7, record := { ImpoRecord.none with groupSize := 1 }, formes := [⟨0, 0, 1, 0, 0, 0, 1, 1, 0, 64, 0, 0, 0, 0, 0, 0, [(0, [([81, 4, 0, 0, 0, 0, 0, 0, 0, 0, 0, 0, 0, 0, 0, 0, 64, 0, 0, 0, 1, 0, 0, 0, 0, 2, 0, 0, 64] ++ List.replicate 35 0)])], []⟩] })], t0 := [(70, 9)] }
      (Reg.cdCoreMap 0 0) 0 16 0x8180, by decide⟩,
    ⟨0, (dueSort (putFld
      { ready with steps := { State.reset.steps with running := true, current := [⟨0, 0, 0, []⟩] }, impos := [(0, { ImpoSlot.empty 0 with state := 3, impoId := 7, record := { ImpoRecord.none with groupSize := 1 }, formes := [⟨0, 0, 1, 0, 0, 0, 1, 1, 0, 64, 0, 0, 0, 0, 0, 0, [(0, [([80, 4, 0, 0, 0, 0, 0, 0, 0, 0, 0, 0, 0, 0, 0, 0, 64, 0, 0, 0, 0, 0, 0, 0, 128, 0, 0, 128, 2, 0, 0, 0, 64] ++ List.replicate 31 0)])], []⟩] })], t0 := [(70, 9)], tensors := [(5, ⟨1, false, false, false, false, false, 0, 0, 4096, 0x1003000000000, 0, 0, 0, 0⟩)] }
      (Reg.cdCoreMap 0 0) 0 16 0x8180) 0 4 0 0x50).get (by decide), 0x1003000000000, 128, putFld
      { ready with steps := { State.reset.steps with running := true, current := [⟨0, 0, 0, []⟩] }, impos := [(0, { ImpoSlot.empty 0 with state := 3, impoId := 7, record := { ImpoRecord.none with groupSize := 1 }, formes := [⟨0, 0, 1, 0, 0, 0, 1, 1, 0, 64, 0, 0, 0, 0, 0, 0, [(0, [([80, 4, 0, 0, 0, 0, 0, 0, 0, 0, 0, 0, 0, 0, 0, 0, 64, 0, 0, 0, 0, 0, 0, 0, 128, 0, 0, 128, 2, 0, 0, 0, 64] ++ List.replicate 31 0)])], []⟩] })], t0 := [(70, 9)], tensors := [(5, ⟨1, false, false, false, false, false, 0, 0, 4096, 0x1003000000000, 0, 0, 0, 0⟩)] }
      (Reg.cdCoreMap 0 0) 0 16 0x8180, by decide⟩,
    ⟨0, (dueSort (putFld
      { ready with steps := { State.reset.steps with running := true, current := [⟨0, 0, 0, []⟩] }, impos := [(0, { ImpoSlot.empty 0 with state := 3, impoId := 7, record := { ImpoRecord.none with groupSize := 1 }, formes := [⟨0, 0, 1, 0, 0, 0, 1, 1, 0, 64, 0, 0, 0, 0, 0, 0, [(0, [([82, 4, 0, 0, 0, 0, 0, 0, 0, 0, 0, 0, 0, 0, 0, 0, 64, 0, 0, 0, 0, 1, 0, 0, 0, 2, 0, 0, 64] ++ List.replicate 35 0)])], []⟩] })], t0 := [(70, 9)] }
      (Reg.cdCoreMap 0 0) 0 16 0x8180) 0 4 0 0x52).get (by decide), putFld
      { ready with steps := { State.reset.steps with running := true, current := [⟨0, 0, 0, []⟩] }, impos := [(0, { ImpoSlot.empty 0 with state := 3, impoId := 7, record := { ImpoRecord.none with groupSize := 1 }, formes := [⟨0, 0, 1, 0, 0, 0, 1, 1, 0, 64, 0, 0, 0, 0, 0, 0, [(0, [([82, 4, 0, 0, 0, 0, 0, 0, 0, 0, 0, 0, 0, 0, 0, 0, 64, 0, 0, 0, 0, 1, 0, 0, 0, 2, 0, 0, 64] ++ List.replicate 35 0)])], []⟩] })], t0 := [(70, 9)] }
      (Reg.cdCoreMap 0 0) 0 16 0x8180, by decide⟩⟩

/-- States and operands that meet the hypotheses of `Obligations.ComputeSortsComplete`, clause by clause. -/
theorem witness_ComputeSortsComplete :
    (∃ (core : Fin 256) (r : RunSort) (p : Nat) (s : State), dueSort s core.val 1 0 0x20 = some r ∧ coreOf s r.die (r.seg % 32) = some p
      ∧ groupBusy (s.core r.die p) (leAt r.bytes 0x17 1 % 64 * shapeB (leAt r.bytes 0x16 1) * accBytes (shapeMode (leAt r.bytes 0x16
      1))) ((leAt r.bytes 0x17 1 % 64 + 1) * shapeB (leAt r.bytes 0x16 1) * accBytes (shapeMode (leAt r.bytes 0x16 1))) = false ∧
      (matmulTiles s r.seg (s.core r.die p) r.bytes).isSome = true) ∧
    (∃ (core : Fin 256) (r : RunSort) (p : Nat) (s : State), dueSort s core.val 2 0 0x30 = some r ∧ coreOf s r.die (r.seg % 32) = some p
      ∧ drKind r.bytes = 0 ∧ r.seg < 256) ∧
    (∃ (core : Fin 256) (r : RunSort) (p : Nat) (s : State), dueSort s core.val 2 0 0x30 = some r ∧ coreOf s r.die (r.seg % 32) = some p
      ∧ drKind r.bytes = 4) ∧
    (∃ (core : Fin 256) (r : RunSort) (p : Nat) (s : State), dueSort s core.val 2 0 0x30 = some r ∧ coreOf s r.die (r.seg % 32) = some p
      ∧ drKind r.bytes = 5 → (tensorAccess s (some r.pick.part) (srtTs r.bytes 0x18) (((List.range (drB r.bytes)).map fun v =>
      ((drainElems s r (drainTile (s.core r.die p) r.bytes) v).map (·.bytes)).flatten).flatten).length).toOption.isSome = true) ∧
    (∃ (k : Nat) (x : Contribution) (s : State), s.steps.atomics[k]? = some x ∧ halted s = false ∧ x.inT1 = false ∧ (coreOf s (x.core /
      32) (x.core % 32)).isSome = true) ∧
    (∃ (core : Fin 256) (r : RunSort) (s : State), dueSort s core.val 3 0 0x40 = some r ∧ leAt r.bytes 0x10 1 ≠ 9 ∨ leAt r.bytes 0x11 1
      ≠ leAt r.bytes 0x12 1 ∧ (coreOf s (r.seg / 32) (r.seg % 32)).isSome = true ∧ inT0 (srtT0 r.bytes 0x1C) (convElems (leAt r.bytes
      0x12 1) (vopResult s r)).length = true) ∧
    (∃ (core : Fin 256) (r : RunSort) (p : Nat) (bytes : List Byte) (s : State), dueSort s core.val 3 0 0x41 = some r ∧ coreOf s (r.seg
      / 32) (r.seg % 32) = some p ∧ r.seg < 256 ∧ (leAt r.bytes 0x16 1).testBit 0 = false ∧ (mergeAll (mergeInputs s r)).map
      (partialBytes s) = some bytes) ∧
    (∃ (core : Fin 256) (r : RunSort) (p : Nat) (s : State), dueSort s core.val 3 0 0x41 = some r ∧ coreOf s (r.seg / 32) (r.seg % 32) =
      some p ∧ r.seg < 256) ∧
    (∃ (core : Fin 256) (r : RunSort) (p : Nat) (s : State), dueSort s core.val 3 0 0x42 = some r ∧ coreOf s (r.seg / 32) (r.seg % 32) =
      some p ∧ r.seg < 256 ∧ leAt r.bytes 0x10 1 = 0) ∧
    (∃ (core : Fin 256) (r : RunSort) (p : Nat) (s : State), dueSort s core.val 3 0 0x42 = some r ∧ coreOf s r.die (r.seg % 32) = some
      p) ∧
    (∃ (core : Fin 256) (r : RunSort) (p : Nat) (m : Word) (off : Nat) (s : State), dueSort s core.val 3 0 0x43 = some r ∧ coreOf s
      r.die (r.seg % 32) = some p ∧ 2 ^ 63 ≤ leAt r.bytes 0x1C 8 ∧ (tensorAccess s (some r.pick.part) (srtTs r.bytes 0x1C) (convElems
      (leAt r.bytes 0x15 1) (foldElems s r)).length).toOption = some (m, off) ∧ mapBase m % 64 = 0 ∧ 6 ≤ mapStripe m ∧ poisonedIn s m
      off (convElems (leAt r.bytes 0x15 1) (foldElems s r)).length = none) ∧
    (∃ (core : Fin 256) (r : RunSort) (p : Nat) (s : State), dueSort s core.val 3 0 0x43 = some r ∧ coreOf s r.die (r.seg % 32) = some p
      ∧ leAt r.bytes 0x1C 8 < 2 ^ 63) ∧
    (∃ (d : Fin 8) (k : Fin 16) (r : RunSort) (s : State), dueSort s (256 + d.val) 5 k.val 0x60 = some r) :=
  ⟨⟨0, (dueSort (putFld
      { ready with steps := { State.reset.steps with running := true, current := [⟨0, 0, 0, []⟩] }, impos := [(0, { ImpoSlot.empty 0 with state := 3, impoId := 7, record := { ImpoRecord.none with groupSize := 1 }, formes := [⟨0, 0, 1, 0, 0, 0, 1, 1, 0, 64, 0, 0, 0, 0, 0, 0, [(0, [([32, 1, 0, 0, 0, 0, 0, 0, 0, 0, 0, 0, 0, 0, 0, 0, 0, 16, 0, 0, 3, 3, 3, 0, 1, 0, 0, 0, 0, 0, 0, 0, 0, 0, 0, 0, 1, 0, 0, 0, 0, 128] ++ List.replicate 22 0)])], []⟩] })] }
      (Reg.cdCoreMap 0 0) 0 16 0x8180) 0 1 0 0x20).get (by decide), 0, putFld
      { ready with steps := { State.reset.steps with running := true, current := [⟨0, 0, 0, []⟩] }, impos := [(0, { ImpoSlot.empty 0 with state := 3, impoId := 7, record := { ImpoRecord.none with groupSize := 1 }, formes := [⟨0, 0, 1, 0, 0, 0, 1, 1, 0, 64, 0, 0, 0, 0, 0, 0, [(0, [([32, 1, 0, 0, 0, 0, 0, 0, 0, 0, 0, 0, 0, 0, 0, 0, 0, 16, 0, 0, 3, 3, 3, 0, 1, 0, 0, 0, 0, 0, 0, 0, 0, 0, 0, 0, 1, 0, 0, 0, 0, 128] ++ List.replicate 22 0)])], []⟩] })] }
      (Reg.cdCoreMap 0 0) 0 16 0x8180, by decide⟩,
    ⟨0, (dueSort (putFld
      { ready with steps := { State.reset.steps with running := true, current := [⟨0, 0, 0, []⟩] }, impos := [(0, { ImpoSlot.empty 0 with state := 3, impoId := 7, record := { ImpoRecord.none with groupSize := 1 }, formes := [⟨0, 0, 1, 0, 0, 0, 1, 1, 0, 64, 0, 0, 0, 0, 0, 0, [(0, [([48, 2, 0, 0, 0, 0, 0, 0, 0, 0, 0, 0, 0, 0, 0, 0, 0, 3, 3, 0, 0, 64] ++ List.replicate 42 0)])], []⟩] })], cores := [(0, ⟨[⟨8, 0, 0, 0, 0, List.replicate 512 0x3F800000, List.replicate 512 false⟩], [], false⟩)] }
      (Reg.cdCoreMap 0 0) 0 16 0x8180) 0 2 0 0x30).get (by decide), 0, putFld
      { ready with steps := { State.reset.steps with running := true, current := [⟨0, 0, 0, []⟩] }, impos := [(0, { ImpoSlot.empty 0 with state := 3, impoId := 7, record := { ImpoRecord.none with groupSize := 1 }, formes := [⟨0, 0, 1, 0, 0, 0, 1, 1, 0, 64, 0, 0, 0, 0, 0, 0, [(0, [([48, 2, 0, 0, 0, 0, 0, 0, 0, 0, 0, 0, 0, 0, 0, 0, 0, 3, 3, 0, 0, 64] ++ List.replicate 42 0)])], []⟩] })], cores := [(0, ⟨[⟨8, 0, 0, 0, 0, List.replicate 512 0x3F800000, List.replicate 512 false⟩], [], false⟩)] }
      (Reg.cdCoreMap 0 0) 0 16 0x8180, by decide⟩,
    ⟨0, (dueSort (putFld
      { ready with steps := { State.reset.steps with running := true, current := [⟨0, 0, 0, []⟩] }, impos := [(0, { ImpoSlot.empty 0 with state := 3, impoId := 7, record := { ImpoRecord.none with groupSize := 1 }, formes := [⟨0, 0, 1, 0, 0, 0, 1, 1, 0, 64, 0, 0, 0, 0, 0, 0, [(0, [([48, 2, 0, 0, 0, 0, 0, 0, 0, 0, 0, 0, 0, 0, 0, 0, 0, 3, 3, 4, 0, 64] ++ List.replicate 42 0)])], []⟩] })], cores := [(0, ⟨[⟨8, 0, 0, 0, 0, List.replicate 512 0x3F800000, List.replicate 512 false⟩], [], false⟩)] }
      (Reg.cdCoreMap 0 0) 0 16 0x8180) 0 2 0 0x30).get (by decide), 0, putFld
      { ready with steps := { State.reset.steps with running := true, current := [⟨0, 0, 0, []⟩] }, impos := [(0, { ImpoSlot.empty 0 with state := 3, impoId := 7, record := { ImpoRecord.none with groupSize := 1 }, formes := [⟨0, 0, 1, 0, 0, 0, 1, 1, 0, 64, 0, 0, 0, 0, 0, 0, [(0, [([48, 2, 0, 0, 0, 0, 0, 0, 0, 0, 0, 0, 0, 0, 0, 0, 0, 3, 3, 4, 0, 64] ++ List.replicate 42 0)])], []⟩] })], cores := [(0, ⟨[⟨8, 0, 0, 0, 0, List.replicate 512 0x3F800000, List.replicate 512 false⟩], [], false⟩)] }
      (Reg.cdCoreMap 0 0) 0 16 0x8180, by decide⟩,
    ⟨0, (dueSort (putFld
      { ready with steps := { State.reset.steps with running := true, current := [⟨0, 0, 0, []⟩] }, impos := [(0, { ImpoSlot.empty 0 with state := 3, impoId := 7, record := { ImpoRecord.none with groupSize := 1 }, formes := [⟨0, 0, 1, 0, 0, 0, 1, 1, 0, 64, 0, 0, 0, 0, 0, 0, [(0, [([48, 2, 0, 0, 0, 0, 0, 0, 0, 0, 0, 0, 0, 0, 0, 0, 0, 3, 3, 0, 0, 64] ++ List.replicate 42 0)])], []⟩] })], cores := [(0, ⟨[⟨8, 0, 0, 0, 0, List.replicate 512 0x3F800000, List.replicate 512 false⟩], [], false⟩)] }
      (Reg.cdCoreMap 0 0) 0 16 0x8180) 0 2 0 0x30).get (by decide), 0, putFld
      { ready with steps := { State.reset.steps with running := true, current := [⟨0, 0, 0, []⟩] }, impos := [(0, { ImpoSlot.empty 0 with state := 3, impoId := 7, record := { ImpoRecord.none with groupSize := 1 }, formes := [⟨0, 0, 1, 0, 0, 0, 1, 1, 0, 64, 0, 0, 0, 0, 0, 0, [(0, [([48, 2, 0, 0, 0, 0, 0, 0, 0, 0, 0, 0, 0, 0, 0, 0, 0, 3, 3, 0, 0, 64] ++ List.replicate 42 0)])], []⟩] })], cores := [(0, ⟨[⟨8, 0, 0, 0, 0, List.replicate 512 0x3F800000, List.replicate 512 false⟩], [], false⟩)] }
      (Reg.cdCoreMap 0 0) 0 16 0x8180, by decide⟩,
    ⟨0, ⟨0, 0, List.replicate 64 0, 5, false, 1, 512, [0, 0, 0x80, 0x3F]⟩, putFld
      { ready with steps := { State.reset.steps with running := true, current := [⟨0, 0, 0, []⟩], atomics := [⟨0, 0, List.replicate 64 0, 5, false, 1, 512, [0, 0, 0x80, 0x3F]⟩] }, impos := [(0, { ImpoSlot.empty 0 with state := 3, impoId := 7, record := { ImpoRecord.none with groupSize := 1 }, formes := [⟨0, 0, 1, 0, 0, 0, 1, 1, 0, 64, 0, 0, 0, 0, 0, 0, [(0, [([0, 2] ++ List.replicate 62 0)])], []⟩] })], t0 := [(2 ^ 23 + 514, 0x80), (2 ^ 23 + 515, 0x3F)] }
      (Reg.cdCoreMap 0 0) 0 16 0x8180, by decide⟩,
    ⟨0, (dueSort (putFld
      { ready with steps := { State.reset.steps with running := true, current := [⟨0, 0, 0, []⟩] }, impos := [(0, { ImpoSlot.empty 0 with state := 3, impoId := 7, record := { ImpoRecord.none with groupSize := 1 }, formes := [⟨0, 0, 1, 0, 0, 0, 1, 1, 0, 64, 0, 0, 0, 0, 0, 0, [(0, [([64, 3, 0, 0, 0, 0, 0, 0, 0, 0, 0, 0, 0, 0, 0, 0, 6, 5, 5, 0, 0, 1, 0, 0, 0, 2, 0, 0, 0, 3, 0, 0, 4, 0, 0, 0, 1] ++ List.replicate 27 0)])], []⟩] })], t0 := [(0x102, 0x80), (0x103, 0x3F)] }
      (Reg.cdCoreMap 0 0) 0 16 0x8180) 0 3 0 0x40).get (by decide), putFld
      { ready with steps := { State.reset.steps with running := true, current := [⟨0, 0, 0, []⟩] }, impos := [(0, { ImpoSlot.empty 0 with state := 3, impoId := 7, record := { ImpoRecord.none with groupSize := 1 }, formes := [⟨0, 0, 1, 0, 0, 0, 1, 1, 0, 64, 0, 0, 0, 0, 0, 0, [(0, [([64, 3, 0, 0, 0, 0, 0, 0, 0, 0, 0, 0, 0, 0, 0, 0, 6, 5, 5, 0, 0, 1, 0, 0, 0, 2, 0, 0, 0, 3, 0, 0, 4, 0, 0, 0, 1] ++ List.replicate 27 0)])], []⟩] })], t0 := [(0x102, 0x80), (0x103, 0x3F)] }
      (Reg.cdCoreMap 0 0) 0 16 0x8180, by decide⟩,
    ⟨0, (dueSort (putFld
      { ready with steps := { State.reset.steps with running := true, current := [⟨0, 0, 0, []⟩] }, impos := [(0, { ImpoSlot.empty 0 with state := 3, impoId := 7, record := { ImpoRecord.none with groupSize := 1 }, formes := [⟨0, 0, 1, 0, 0, 0, 1, 1, 0, 64, 0, 0, 0, 0, 0, 0, [(0, [([65, 3, 0, 0, 0, 0, 0, 0, 0, 0, 0, 0, 0, 0, 0, 0, 0, 16, 0, 0, 2, 0, 0, 0, 0, 64, 0, 0, 96] ++ List.replicate 35 0)])], []⟩] })] }
      (Reg.cdCoreMap 0 0) 0 16 0x8180) 0 3 0 0x41).get (by decide), 0, ((mergeAll (mergeInputs (putFld
      { ready with steps := { State.reset.steps with running := true, current := [⟨0, 0, 0, []⟩] }, impos := [(0, { ImpoSlot.empty 0 with state := 3, impoId := 7, record := { ImpoRecord.none with groupSize := 1 }, formes := [⟨0, 0, 1, 0, 0, 0, 1, 1, 0, 64, 0, 0, 0, 0, 0, 0, [(0, [([65, 3, 0, 0, 0, 0, 0, 0, 0, 0, 0, 0, 0, 0, 0, 0, 0, 16, 0, 0, 2, 0, 0, 0, 0, 64, 0, 0, 96] ++ List.replicate 35 0)])], []⟩] })] }
      (Reg.cdCoreMap 0 0) 0 16 0x8180) ((dueSort (putFld
      { ready with steps := { State.reset.steps with running := true, current := [⟨0, 0, 0, []⟩] }, impos := [(0, { ImpoSlot.empty 0 with state := 3, impoId := 7, record := { ImpoRecord.none with groupSize := 1 }, formes := [⟨0, 0, 1, 0, 0, 0, 1, 1, 0, 64, 0, 0, 0, 0, 0, 0, [(0, [([65, 3, 0, 0, 0, 0, 0, 0, 0, 0, 0, 0, 0, 0, 0, 0, 0, 16, 0, 0, 2, 0, 0, 0, 0, 64, 0, 0, 96] ++ List.replicate 35 0)])], []⟩] })] }
      (Reg.cdCoreMap 0 0) 0 16 0x8180) 0 3 0 0x41).get (by decide)))).map (partialBytes (putFld
      { ready with steps := { State.reset.steps with running := true, current := [⟨0, 0, 0, []⟩] }, impos := [(0, { ImpoSlot.empty 0 with state := 3, impoId := 7, record := { ImpoRecord.none with groupSize := 1 }, formes := [⟨0, 0, 1, 0, 0, 0, 1, 1, 0, 64, 0, 0, 0, 0, 0, 0, [(0, [([65, 3, 0, 0, 0, 0, 0, 0, 0, 0, 0, 0, 0, 0, 0, 0, 0, 16, 0, 0, 2, 0, 0, 0, 0, 64, 0, 0, 96] ++ List.replicate 35 0)])], []⟩] })] }
      (Reg.cdCoreMap 0 0) 0 16 0x8180))).get (by decide), putFld
      { ready with steps := { State.reset.steps with running := true, current := [⟨0, 0, 0, []⟩] }, impos := [(0, { ImpoSlot.empty 0 with state := 3, impoId := 7, record := { ImpoRecord.none with groupSize := 1 }, formes := [⟨0, 0, 1, 0, 0, 0, 1, 1, 0, 64, 0, 0, 0, 0, 0, 0, [(0, [([65, 3, 0, 0, 0, 0, 0, 0, 0, 0, 0, 0, 0, 0, 0, 0, 0, 16, 0, 0, 2, 0, 0, 0, 0, 64, 0, 0, 96] ++ List.replicate 35 0)])], []⟩] })] }
      (Reg.cdCoreMap 0 0) 0 16 0x8180, by decide⟩,
    ⟨0, (dueSort (putFld
      { ready with steps := { State.reset.steps with running := true, current := [⟨0, 0, 0, []⟩] }, impos := [(0, { ImpoSlot.empty 0 with state := 3, impoId := 7, record := { ImpoRecord.none with groupSize := 1 }, formes := [⟨0, 0, 1, 0, 0, 0, 1, 1, 0, 64, 0, 0, 0, 0, 0, 0, [(0, [([65, 3, 0, 0, 0, 0, 0, 0, 0, 0, 0, 0, 0, 0, 0, 0, 0, 16, 0, 0, 2, 0, 0, 0, 0, 64, 0, 0, 96] ++ List.replicate 35 0)])], []⟩] })] }
      (Reg.cdCoreMap 0 0) 0 16 0x8180) 0 3 0 0x41).get (by decide), 0, putFld
      { ready with steps := { State.reset.steps with running := true, current := [⟨0, 0, 0, []⟩] }, impos := [(0, { ImpoSlot.empty 0 with state := 3, impoId := 7, record := { ImpoRecord.none with groupSize := 1 }, formes := [⟨0, 0, 1, 0, 0, 0, 1, 1, 0, 64, 0, 0, 0, 0, 0, 0, [(0, [([65, 3, 0, 0, 0, 0, 0, 0, 0, 0, 0, 0, 0, 0, 0, 0, 0, 16, 0, 0, 2, 0, 0, 0, 0, 64, 0, 0, 96] ++ List.replicate 35 0)])], []⟩] })] }
      (Reg.cdCoreMap 0 0) 0 16 0x8180, by decide⟩,
    ⟨0, (dueSort (putFld
      { ready with steps := { State.reset.steps with running := true, current := [⟨0, 0, 0, []⟩] }, impos := [(0, { ImpoSlot.empty 0 with state := 3, impoId := 7, record := { ImpoRecord.none with groupSize := 1 }, formes := [⟨0, 0, 1, 0, 0, 0, 1, 1, 0, 64, 0, 0, 0, 0, 0, 0, [(0, [([66, 3, 0, 0, 0, 0, 0, 0, 0, 0, 0, 0, 0, 0, 0, 0, 0, 0, 0, 0, 0, 1, 0, 0, 0, 64, 0, 0, 2] ++ List.replicate 35 0)])], []⟩] })] }
      (Reg.cdCoreMap 0 0) 0 16 0x8180) 0 3 0 0x42).get (by decide), 0, putFld
      { ready with steps := { State.reset.steps with running := true, current := [⟨0, 0, 0, []⟩] }, impos := [(0, { ImpoSlot.empty 0 with state := 3, impoId := 7, record := { ImpoRecord.none with groupSize := 1 }, formes := [⟨0, 0, 1, 0, 0, 0, 1, 1, 0, 64, 0, 0, 0, 0, 0, 0, [(0, [([66, 3, 0, 0, 0, 0, 0, 0, 0, 0, 0, 0, 0, 0, 0, 0, 0, 0, 0, 0, 0, 1, 0, 0, 0, 64, 0, 0, 2] ++ List.replicate 35 0)])], []⟩] })] }
      (Reg.cdCoreMap 0 0) 0 16 0x8180, by decide⟩,
    ⟨0, (dueSort (putFld
      { ready with steps := { State.reset.steps with running := true, current := [⟨0, 0, 0, []⟩] }, impos := [(0, { ImpoSlot.empty 0 with state := 3, impoId := 7, record := { ImpoRecord.none with groupSize := 1 }, formes := [⟨0, 0, 1, 0, 0, 0, 1, 1, 0, 64, 0, 0, 0, 0, 0, 0, [(0, [([66, 3, 0, 0, 0, 0, 0, 0, 0, 0, 0, 0, 0, 0, 0, 0, 1, 0, 0, 0, 0, 1, 0, 0, 0, 64, 0, 0, 2] ++ List.replicate 35 0)])], []⟩] })] }
      (Reg.cdCoreMap 0 0) 0 16 0x8180) 0 3 0 0x42).get (by decide), 0, putFld
      { ready with steps := { State.reset.steps with running := true, current := [⟨0, 0, 0, []⟩] }, impos := [(0, { ImpoSlot.empty 0 with state := 3, impoId := 7, record := { ImpoRecord.none with groupSize := 1 }, formes := [⟨0, 0, 1, 0, 0, 0, 1, 1, 0, 64, 0, 0, 0, 0, 0, 0, [(0, [([66, 3, 0, 0, 0, 0, 0, 0, 0, 0, 0, 0, 0, 0, 0, 0, 1, 0, 0, 0, 0, 1, 0, 0, 0, 64, 0, 0, 2] ++ List.replicate 35 0)])], []⟩] })] }
      (Reg.cdCoreMap 0 0) 0 16 0x8180, by decide⟩,
    ⟨0, (dueSort (putFld
      { ready with steps := { State.reset.steps with running := true, current := [⟨0, 0, 0, []⟩] }, impos := [(0, { ImpoSlot.empty 0 with state := 3, impoId := 7, record := { ImpoRecord.none with groupSize := 1 }, formes := [⟨0, 0, 1, 0, 0, 0, 1, 1, 0, 64, 0, 0, 0, 0, 0, 0, [(0, [([67, 3, 0, 0, 0, 0, 0, 0, 0, 0, 0, 0, 0, 0, 0, 0, 0, 1, 0, 0, 2, 5, 0, 0, 8, 0, 0, 0, 0, 0, 0, 128, 2, 0, 0, 128] ++ List.replicate 28 0)])], []⟩] })], tensors := [(5, ⟨1, false, false, false, false, false, 0, 0, 4096, 0x1003000000000, 0, 0, 0, 0⟩)] }
      (Reg.cdCoreMap 0 0) 0 16 0x8180) 0 3 0 0x43).get (by decide), 0, 0x1003000000000, 0, putFld
      { ready with steps := { State.reset.steps with running := true, current := [⟨0, 0, 0, []⟩] }, impos := [(0, { ImpoSlot.empty 0 with state := 3, impoId := 7, record := { ImpoRecord.none with groupSize := 1 }, formes := [⟨0, 0, 1, 0, 0, 0, 1, 1, 0, 64, 0, 0, 0, 0, 0, 0, [(0, [([67, 3, 0, 0, 0, 0, 0, 0, 0, 0, 0, 0, 0, 0, 0, 0, 0, 1, 0, 0, 2, 5, 0, 0, 8, 0, 0, 0, 0, 0, 0, 128, 2, 0, 0, 128] ++ List.replicate 28 0)])], []⟩] })], tensors := [(5, ⟨1, false, false, false, false, false, 0, 0, 4096, 0x1003000000000, 0, 0, 0, 0⟩)] }
      (Reg.cdCoreMap 0 0) 0 16 0x8180, by decide⟩,
    ⟨0, (dueSort (putFld
      { ready with steps := { State.reset.steps with running := true, current := [⟨0, 0, 0, []⟩] }, impos := [(0, { ImpoSlot.empty 0 with state := 3, impoId := 7, record := { ImpoRecord.none with groupSize := 1 }, formes := [⟨0, 0, 1, 0, 0, 0, 1, 1, 0, 64, 0, 0, 0, 0, 0, 0, [(0, [([67, 3, 0, 0, 0, 0, 0, 0, 0, 0, 0, 0, 0, 0, 0, 0, 0, 1, 0, 0, 2, 5, 0, 0, 8] ++ List.replicate 39 0)])], []⟩] })] }
      (Reg.cdCoreMap 0 0) 0 16 0x8180) 0 3 0 0x43).get (by decide), 0, putFld
      { ready with steps := { State.reset.steps with running := true, current := [⟨0, 0, 0, []⟩] }, impos := [(0, { ImpoSlot.empty 0 with state := 3, impoId := 7, record := { ImpoRecord.none with groupSize := 1 }, formes := [⟨0, 0, 1, 0, 0, 0, 1, 1, 0, 64, 0, 0, 0, 0, 0, 0, [(0, [([67, 3, 0, 0, 0, 0, 0, 0, 0, 0, 0, 0, 0, 0, 0, 0, 0, 1, 0, 0, 2, 5, 0, 0, 8] ++ List.replicate 39 0)])], []⟩] })] }
      (Reg.cdCoreMap 0 0) 0 16 0x8180, by decide⟩,
    ⟨0, 2, (dueSort (putFld
      { ready with steps := { State.reset.steps with running := true, current := [⟨0, 0, 0, []⟩] }, impos := [(0, { ImpoSlot.empty 0 with state := 3, impoId := 7, record := { ImpoRecord.none with groupSize := 1 }, formes := [⟨0, 0, 1, 0, 0, 0, 1, 1, 0, 64, 0, 0, 0, 0, 0, 0, [(256, [([96, 5, 0, 0, 0, 0, 0, 0, 0, 0, 0, 0, 0, 0, 0, 0, 0, 0, 0, 0, 0, 0, 0, 0, 0, 0, 0, 0, 0, 0, 1, 0, 0, 16, 0, 0, 0, 64] ++ List.replicate 26 0)])], []⟩] })] }
      (Reg.cdCoreMap 0 0) 0 16 0x8180) 256 5 2 0x60).get (by decide), putFld
      { ready with steps := { State.reset.steps with running := true, current := [⟨0, 0, 0, []⟩] }, impos := [(0, { ImpoSlot.empty 0 with state := 3, impoId := 7, record := { ImpoRecord.none with groupSize := 1 }, formes := [⟨0, 0, 1, 0, 0, 0, 1, 1, 0, 64, 0, 0, 0, 0, 0, 0, [(256, [([96, 5, 0, 0, 0, 0, 0, 0, 0, 0, 0, 0, 0, 0, 0, 0, 0, 0, 0, 0, 0, 0, 0, 0, 0, 0, 0, 0, 0, 0, 1, 0, 0, 16, 0, 0, 0, 64] ++ List.replicate 26 0)])], []⟩] })] }
      (Reg.cdCoreMap 0 0) 0 16 0x8180, by decide⟩⟩

/-- States and operands that meet the hypotheses of `Obligations.StepsComplete`, clause by clause. -/
theorem witness_StepsComplete :
    (∃ (ps : List PartPick) (s : State), triggerDue s = true ∧ s.steps.replay = .none ∧ s.steps.committed = some ps) ∧
    (∃ (s : State), triggerDue s = true ∧ s.steps.replay ≠ .none) ∧
    (∃ (d : Fin 8) (core : Fin 256) (engine : Fin 6) (resource : Fin 5) (index : BitVec 32) (s : State), resource.val ≠ 0 ∧ engine.val <
      5 → core.val / 32 = d.val ∧ engine.val = 5 → core.val = 0xFF ∧ s.steps.running = true ∧ halted s = false ∧ s.steps.paced = false ∧
      bit (stepCfg s) 8 = true ∧ s.steps.failures < 8) ∧
    (∃ (d : Fin 8) (core : Fin 256) (engine : Fin 6) (resource : Fin 5) (index : BitVec 32) (s : State), resource.val ≠ 0 ∧ engine.val <
      5 → core.val / 32 = d.val ∧ engine.val = 5 → core.val = 0xFF ∧ s.steps.running = true ∧ halted s = false ∧ s.steps.paced = true ∨
      bit (stepCfg s) 8 = false) ∧
    (∃ (part : Fin 64) (s : State), s.steps.running = true ∧ halted s = false ∧ (s.steps.current.any fun p => p.part = part.val) = true
      ∧ s.steps.paced = false ∧ bit (stepCfg s) 8 = true ∧ s.steps.failures < 8) ∧
    (∃ (part : Fin 64) (s : State), s.steps.running = true ∧ halted s = false ∧ (s.steps.current.any fun p => p.part = part.val) = true
      ∧ s.steps.paced = true ∨ bit (stepCfg s) 8 = false) ∧
    (∃ (s : State), s.steps.running = true ∧ stepEnded s = true ∧ halted s = false ∧ mayClose (reportGroups s) = true) :=
  ⟨⟨[⟨0, 0, 0, []⟩], { ready with steps := { State.reset.steps with committed := some [⟨0, 0, 0, []⟩], num := 6 } }, by decide⟩,
    ⟨{ ready with steps := { State.reset.steps with replay := .normal, current := [⟨0, 0, 0, []⟩], num := 6 } }, by decide⟩,
    ⟨0, 1, 2, 1, 9, { ready with steps := { State.reset.steps with running := true, current := [⟨0, 0, 0, []⟩] } }, by decide⟩,
    ⟨0, 1, 2, 1, 9,
      { ready with steps := { State.reset.steps with running := true, paced := true, current := [⟨0, 0, 0, []⟩] }, impos := [(0, { ImpoSlot.empty 0 with state := 3 })] },
      by decide⟩,
    ⟨0, { ready with steps := { State.reset.steps with running := true, current := [⟨0, 0, 0, []⟩] } }, by decide⟩,
    ⟨0,
      { ready with steps := { State.reset.steps with running := true, paced := true, current := [⟨0, 0, 0, []⟩] }, impos := [(0, { ImpoSlot.empty 0 with state := 3 })] },
      by decide⟩,
    ⟨{ ready with steps := { State.reset.steps with running := true, current := [] } }, by decide⟩⟩

/-- States and operands that meet the hypotheses of `Obligations.StepEndsComplete`, clause by clause. -/
theorem witness_StepEndsComplete :
    (∃ (part : Fin 64) (r : Record) (s : State), (s.records.find? fun r => r.part = part.val) = some r ∧ recordAcked s r = true ∧
      slotFree s part.val = true ∧ halted s = false ∧ partPhase s part.val ≠ 3) ∧
    (∃ (req : Fin 32768) (s : State), (s.entry req.val).turn.isSome = true) ∧
    (∃ (req : Fin 32768) (s : State), (s.entry req.val).state = 8 ∧ (s.entry req.val).reportedAt.isSome = true) :=
  ⟨⟨0, ⟨false, 0, 5, 0, 0, 0, 0, 0, []⟩, putFld (putBit ({ ready with records := [⟨false, 0, 5, 0, 0, 0, 0, 0, []⟩] }) (Reg.qRingCtrl
      0) 0 true) (Reg.qRingCtrl 0) 24 4 4, by decide⟩,
    ⟨5, { ready with entries := [(5, { Entry.fresh 0 with state := 3, turn := some (false, Directory.none) })] }, by decide⟩,
    ⟨5, { ready with entries := [(5, { Entry.fresh 0 with state := 8, reportedAt := some 0 })] }, by decide⟩⟩

/-- States and operands that meet the hypotheses of `Obligations.RequestCommandsComplete`, clause by clause. -/
theorem witness_RequestCommandsComplete :
    (∃ (x : Cmd) (s : State), actsNext s 2 x = true ∧ (s.entry x.req).promptLen + x.tokens.length ≤ (s.entry x.req).maxLen) ∧
    (∃ (x : Cmd) (s : State), actsNext s 3 x = true ∧ x.tokens.length ≤ maxProofs s (s.entry x.req).partition) ∧
    (∃ (x : Cmd) (s : State), actsNext s 4 x = true ∧ (s.entry x.req).state ≠ 7) ∧
    (∃ (x : Cmd) (s : State), actsNext s 4 x = true ∧ (s.entry x.req).state = 7) ∧
    (∃ (x : Cmd) (s : State), actsNext s 5 x = true ∧ (s.entry x.req).state = 5) ∧
    (∃ (x : Cmd) (s : State), actsNext s 6 x = true) ∧
    (∃ (x : Cmd) (s : State), actsNext s 9 x = true ∧ (x.op8 0x10).testBit 5 = false) ∧
    (∃ (x : Cmd) (s : State), actsNext s 8 x = true ∧ (s.arrived.any fun x => decide (x.opcode = 8) && !x.names) = false ∧ x.op8 0x14 =
      0 ∧ (s.entry x.req).turn = none ∧ ((t2Regions s (s.entry x.req).partition).any fun r => (List.range ((s.region r).pages + 1)).any
      (t2Free s r (imageUnits (s.entry x.req)))) = true) :=
  ⟨⟨⟨0, false, false, [2, 16, 0, 0, 0, 0, 0, 0, 0, 0, 0, 0, 5, 128] ++ List.replicate 50 0, 0, true, [7, 8]⟩,
      { ready with entries := [(5, { Entry.fresh 0 with state := 1, maxLen := 100 })], arrived := [⟨0, false, false, [2, 16, 0, 0, 0, 0, 0, 0, 0, 0, 0, 0, 5, 128] ++ List.replicate 50 0, 0, true, [7, 8]⟩] },
      by decide⟩,
    ⟨⟨0, false, false, [3, 16, 0, 0, 0, 0, 0, 0, 0, 0, 0, 0, 5, 128] ++ List.replicate 50 0, 0, true, [7, 8]⟩,
      { ready with entries := [(5, { Entry.fresh 0 with state := 3 })], arrived := [⟨0, false, false, [3, 16, 0, 0, 0, 0, 0, 0, 0, 0, 0, 0, 5, 128] ++ List.replicate 50 0, 0, true, [7, 8]⟩], impos := [(0, { ImpoSlot.empty 0 with state := 3, record := { ImpoRecord.none with groupSize := 1, layers := 1, swathLen := 1, heads := [⟨0, 0, 1, 0, 4096⟩] }, formes := [⟨0, 0, 1, 0, 0, 2, 1, 1, 0, 64, 0, 0, 0, 0, 0, 0, [], []⟩] })] },
      by decide⟩,
    ⟨⟨0, false, false, [4, 16, 0, 0, 0, 0, 0, 0, 0, 0, 0, 0, 5, 128] ++ List.replicate 50 0, 0, true, []⟩,
      { ready with entries := [(5, { Entry.fresh 0 with state := 3 })], arrived := [⟨0, false, false, [4, 16, 0, 0, 0, 0, 0, 0, 0, 0, 0, 0, 5, 128] ++ List.replicate 50 0, 0, true, []⟩] },
      by decide⟩,
    ⟨⟨0, false, false, [4, 16, 0, 0, 0, 0, 0, 0, 0, 0, 0, 0, 5, 128] ++ List.replicate 50 0, 0, true, []⟩,
      { ready with entries := [(5, { Entry.fresh 0 with state := 7 })], arrived := [⟨0, false, false, [4, 16, 0, 0, 0, 0, 0, 0, 0, 0, 0, 0, 5, 128] ++ List.replicate 50 0, 0, true, []⟩] },
      by decide⟩,
    ⟨⟨0, false, false, [5, 16, 0, 0, 0, 0, 0, 0, 0, 0, 0, 0, 5, 128] ++ List.replicate 50 0, 0, true, []⟩,
      { ready with entries := [(5, { Entry.fresh 0 with state := 5, phase := 1 })], arrived := [⟨0, false, false, [5, 16, 0, 0, 0, 0, 0, 0, 0, 0, 0, 0, 5, 128] ++ List.replicate 50 0, 0, true, []⟩] },
      by decide⟩,
    ⟨⟨0, false, false, [6, 16, 0, 0, 0, 0, 0, 0, 0, 0, 0, 0, 5, 128] ++ List.replicate 50 0, 0, true, []⟩,
      { ready with entries := [(5, { Entry.fresh 0 with state := 3 })], arrived := [⟨0, false, false, [6, 16, 0, 0, 0, 0, 0, 0, 0, 0, 0, 0, 5, 128] ++ List.replicate 50 0, 0, true, []⟩] },
      by decide⟩,
    ⟨⟨0, false, false, [9, 16, 0, 0, 0, 0, 0, 0, 0, 0, 0, 0, 5, 128, 0, 0, 2, 5] ++ List.replicate 46 0, 0, true, []⟩,
      { ready with entries := [(5, { Entry.fresh 0 with state := 3 })], arrived := [⟨0, false, false, [9, 16, 0, 0, 0, 0, 0, 0, 0, 0, 0, 0, 5, 128, 0, 0, 2, 5] ++ List.replicate 46 0, 0, true, []⟩] },
      by decide⟩,
    ⟨⟨0, false, false, [8, 16, 0, 0, 0, 0, 0, 0, 0, 0, 0, 0, 5, 128] ++ List.replicate 50 0, 0, true, []⟩,
      { ready with entries := [(5, { Entry.fresh 0 with state := 3 })], arrived := [⟨0, false, false, [8, 16, 0, 0, 0, 0, 0, 0, 0, 0, 0, 0, 5, 128] ++ List.replicate 50 0, 0, true, []⟩], regions := [(1, ⟨0, 4, 0, false, 0, false, false, false, true⟩)] },
      by decide⟩⟩

/-- States and operands that meet the hypotheses of `Obligations.CommandsArriveComplete`, clause by clause. -/
theorem witness_CommandsArriveComplete :
    (∃ (part : Fin 64) (driver : Bool) (bytes : List Byte) (s : State), bytes.length = 64 ∧ mayFetch s part.val driver = true ∧ halted s
      = false) ∧
    (∃ (part : Fin 64) (driver : Bool) (s : State), ringRuns s part.val driver = true ∧ sqHead s part.val driver ≠ (s.ring part.val
      driver).sqTail) ∧
    (∃ (x : Cmd) (slot i : Nat) (s : State), halted s = false ∧ (firstCmd s 1 fun c => !c.names) = some x ∧ activeSlot s x.part 0 = some
      slot ∧ liveOf s x.part < getFld s (Reg.partCfg x.part) 32 16 ∧ freeIndex s = some i ∧ lengthOver (s.impo slot) (x.op32 0x14) =
      false ∧ x.op8 0x11 / 16 % 2 = 1 ∧ x.op8 0x10 / 4 % 4 = 0 ∧ (x.op8 0x10).testBit 4 = false ∧ systemFits s (requestSystemBytes
      (x.op32 0x14) (prefillRecord s x.part).directory) = true) ∧
    (∃ (x : Cmd) (s : State), halted s = false ∧ (firstCmd s 7 fun c => !c.names) = some x ∧ loadCode s x = 0) ∧
    (∃ (x : Cmd) (s : State), halted s = false ∧ (firstCmd s 8 fun c => !c.names) = some x ∧ handleOk (x.op32 0x10 % 2 ^ 17) = true ∧
      (s.tensor (x.op32 0x10 % 2 ^ 17)).owner = x.part ∧ (s.tensor (x.op32 0x10 % 2 ^ 17)).tier = 1 ∨ (s.tensor (x.op32 0x10 % 2 ^
      17)).tier = 2 ∧ x.op8 0x14 = 3) ∧
    (∃ (req : Fin 32768) (data : List Byte) (x : Cmd) (s : State), fetching s req.val = some x ∧ data.length = 4 * x.op32 0x14) ∧
    (∃ (req : Fin 32768) (data : List Byte) (x : Cmd) (s : State), fetching s req.val = some x ∧ (s.entry req.val).gen = x.gen ∧
      (s.entry req.val).state ≠ 0 ∧ (s.entry req.val).state ≠ 8) :=
  ⟨⟨0, false, [6, 16] ++ List.replicate 62 0, putFld (putFld (putFld (putBit (putBit
      ({ ready with rings := [(0, { RingState.fresh 0 with sqTail := 2 })] }) (Reg.qRingCtrl 0) 0 true) (Reg.qRingStatus 0) 44 true)
      (Reg.qRingCtrl 0) 8 5 4) (Reg.qRingCtrl 0) 16 5 4) (Reg.qRingCtrl 0) 24 4 4, by decide⟩,
    ⟨0, false, putFld (putFld (putFld (putBit (putBit ({ ready with rings := [(0, { RingState.fresh 0 with sqTail := 2 })] })
      (Reg.qRingCtrl 0) 0 true) (Reg.qRingStatus 0) 44 true) (Reg.qRingCtrl 0) 8 5 4) (Reg.qRingCtrl 0) 16 5 4) (Reg.qRingCtrl 0) 24 4
      4, by decide⟩,
    ⟨⟨0, false, false, [1, 16, 0, 0, 0, 0, 0, 0, 77, 0, 0, 0, 0, 0, 0, 0, 0, 16, 1, 0, 100] ++ List.replicate 43 0, 0, true, []⟩, 0, 0,
      putFld (putFld (putBit
      { ready with arrived := [⟨0, false, false, [1, 16, 0, 0, 0, 0, 0, 0, 77, 0, 0, 0, 0, 0, 0, 0, 0, 16, 1, 0, 100] ++ List.replicate 43 0, 0, true, []⟩], impos := [(0, { ImpoSlot.empty 0 with state := 3, record := { ImpoRecord.none with groupSize := 1, layers := 1, swathLen := 1, heads := [⟨0, 0, 1, 0, 4096⟩] }, formes := [⟨0, 0, 1, 0, 0, 2, 1, 1, 0, 64, 0, 0, 0, 0, 0, 0, [], []⟩] })] }
      (Reg.partCfg 0) 0 true) (Reg.partCfg 0) 32 16 8) (Reg.mdQuireCfg 0) 0 0 0, by decide⟩,
    ⟨⟨0, false, false, [7, 16, 0, 0, 0, 0, 0, 0, 0, 0, 0, 0, 0, 0, 0, 0, 9, 0, 0, 0, 2, 8, 0, 0, 0, 16, 0, 0, 0, 0, 0, 0, 0, 0, 1, 0,
      48, 0, 1] ++ List.replicate 25 0, 0, true, []⟩, putFld
      { ready with arrived := [⟨0, false, false, [7, 16, 0, 0, 0, 0, 0, 0, 0, 0, 0, 0, 0, 0, 0, 0, 9, 0, 0, 0, 2, 8, 0, 0, 0, 16, 0, 0, 0, 0, 0, 0, 0, 0, 1, 0, 48, 0, 1] ++ List.replicate 25 0, 0, true, []⟩] }
      (Reg.partPool1 0) 0 24 100, by decide⟩,
    ⟨⟨0, false, false, [8, 16, 0, 0, 0, 0, 0, 0, 0, 0, 0, 0, 0, 0, 0, 0, 9, 0, 0, 0, 3] ++ List.replicate 43 0, 0, true, []⟩,
      { ready with arrived := [⟨0, false, false, [8, 16, 0, 0, 0, 0, 0, 0, 0, 0, 0, 0, 0, 0, 0, 0, 9, 0, 0, 0, 3] ++ List.replicate 43 0, 0, true, []⟩], tensors := [(9, ⟨1, false, false, false, false, false, 0, 0, 4096, 0x1003000000000, 0, 0, 0, 0⟩)] },
      by decide⟩,
    ⟨5, [9, 0, 0, 0], ⟨0, false, false, [2, 16, 0, 0, 0, 0, 0, 0, 0, 0, 0, 0, 5, 128, 0, 0, 0, 0, 0, 0, 1] ++ List.replicate 43 0, 0,
      false, []⟩,
      { ready with entries := [(5, { Entry.fresh 0 with state := 1 })], arrived := [⟨0, false, false, [2, 16, 0, 0, 0, 0, 0, 0, 0, 0, 0, 0, 5, 128, 0, 0, 0, 0, 0, 0, 1] ++ List.replicate 43 0, 0, false, []⟩] },
      by decide⟩,
    ⟨5, [], ⟨0, false, false, [2, 16, 0, 0, 0, 0, 0, 0, 0, 0, 0, 0, 5, 128, 0, 0, 0, 0, 0, 0, 1] ++ List.replicate 43 0, 0, false, []⟩,
      { ready with entries := [(5, { Entry.fresh 0 with state := 1 })], arrived := [⟨0, false, false, [2, 16, 0, 0, 0, 0, 0, 0, 0, 0, 0, 0, 5, 128, 0, 0, 0, 0, 0, 0, 1] ++ List.replicate 43 0, 0, false, []⟩] },
      by decide⟩⟩

/-- States and operands that meet the hypotheses of `Obligations.LapsesAndMovesComplete`, clause by clause. -/
theorem witness_LapsesAndMovesComplete :
    (∃ (req : Fin 32768) (s : State), (s.entry req.val).noSlotSince.isSome = true ∧ (s.entry req.val).state ≠ 6 ∧ (s.entry
      req.val).state ≠ 0 ∧ (s.entry req.val).state ≠ 8 ∧ (s.entry req.val).hasSkip skNoSlot = true) ∧
    (∃ (req : Fin 32768) (s : State), (s.entry req.val).noSlotSince.isSome = true ∧ (s.entry req.val).state = 6 ∧ (s.entry
      req.val).resumePending = true ∧ (s.entry req.val).hasSkip skMoving = false) ∧
    (∃ (req : Fin 32768) (s : State), (s.entry req.val).state = 5 ∧ .park req.val ∉ s.deferred) ∧
    (∃ (req : Fin 32768) (s : State), (s.entry req.val).state ∈ [1, 5, 6, 7]) ∧
    (∃ (id off : Nat) (data : List Byte) (m : Move) (s : State), (s.moves.find? fun m => m.id = id ∧ m.running ∧ ¬ m.finished ∧
      m.kind.intoT1 = true) = some m ∧ off % 4096 = 0 ∧ off < m.len ∧ data.length = min 4096 (m.len - off) ∧ halted s = false) ∧
    (∃ (id off : Nat) (data : List Byte) (m : Move) (s : State), (s.moves.find? fun m => m.id = id ∧ m.running ∧ ¬ m.finished ∧
      m.kind.intoT1 = true) = some m ∧ off % 4096 = 0 ∧ off < m.len ∧ halted s = false) ∧
    (∃ (id : Nat) (m : Move) (s : State), (s.moves.find? fun m => m.id = id ∧ m.running ∧ ¬ m.finished ∧ m.kind.intoT1 = true) = some m) ∧
    (∃ (id : Nat) (x : Cmd) (s : State), fetching s id = some x ∧ (s.entry id).gen = x.gen ∧ (s.entry id).state ≠ 0 ∧ (s.entry id).state
      ≠ 8 ∧ x.req = id) ∧
    (∃ (id : Nat) (m : Move) (s : State), (s.moves.find? fun m => m.id = id ∧ m.running ∧ ¬ m.finished) = some m ∧ halted s = false ∧
      m.kind.intoT1 = false ∧ sourcePoisoned s m = false) ∧
    (∃ (id : Nat) (m : Move) (s : State), (s.moves.find? fun m => m.id = id ∧ m.running ∧ ¬ m.finished) = some m ∧ halted s = false ∧
      m.kind.intoT1 = true ∧ m.kind ≠ .reload ∧ m.whole = true ∧ requestOf m.handle = none ∧ (convert m.source m.container (s.tensor
      m.handle).size m.bytes).code = 0) ∧
    (∃ (w : RegWrite) (q : Site) (s : State), isReg w .gal1 0x128 = true ∧ servedAt s w = some q ∧ bit w.val 0 = true ∧ 10 ≤ fld
      ((getLatch s w.who Reg.galPartIndex).getD 0 0) 8 5 ∧ fld ((getLatch s w.who Reg.galPartIndex).getD 0 0) 8 5 ≤ 22 ∧ fld ((getLatch
      s w.who Reg.galPartIndex).getD 0 0) 16 24 ≤ 16777214 ∧ (s.tree (fld (latchedIndex s w.who Reg.galPartIndex) 0 6)).nodes = [] ∧
      liveOf s (fld (latchedIndex s w.who Reg.galPartIndex) 0 6) = 0) :=
  ⟨⟨5, { ready with entries := [(5, { Entry.fresh 0 with state := 3, noSlotSince := some 0, skips := 2 ^ skNoSlot })] }, by decide⟩,
    ⟨5, { ready with entries := [(5, { Entry.fresh 0 with state := 6, noSlotSince := some 0, resumePending := true })] }, by decide⟩,
    ⟨5, { ready with entries := [(5, { Entry.fresh 0 with state := 5 })] }, by decide⟩,
    ⟨5, { ready with entries := [(5, { Entry.fresh 0 with state := 5 })] }, by decide⟩,
    ⟨3, 0, List.replicate 4 7, ⟨3, .load, 9, .west, 0, 0, 4, 0, false, 0x1003000000000, [], [], true, false, 0, none⟩,
      { ready with moves := [⟨3, .load, 9, .west, 0, 0, 4, 0, false, 0x1003000000000, [], [], true, false, 0, none⟩], tensors := [(9, ⟨3, false, false, false, false, false, 0, 0, 4096, 0x1003000000000, 0, 0, 0, 0⟩)] },
      by decide⟩,
    ⟨3, 0, [], ⟨3, .load, 9, .west, 0, 0, 4096, 0, false, 0x1003000000000, [], [], true, false, 0, none⟩,
      { ready with moves := [⟨3, .load, 9, .west, 0, 0, 4096, 0, false, 0x1003000000000, [], [], true, false, 0, none⟩], tensors := [(9, ⟨3, false, false, false, false, false, 0, 0, 4096, 0x1003000000000, 0, 0, 0, 0⟩)] },
      by decide⟩,
    ⟨3, ⟨3, .load, 9, .west, 0, 0, 4096, 0, false, 0x1003000000000, [], [], true, false, 0, none⟩,
      { ready with moves := [⟨3, .load, 9, .west, 0, 0, 4096, 0, false, 0x1003000000000, [], [], true, false, 0, none⟩], tensors := [(9, ⟨3, false, false, false, false, false, 0, 0, 4096, 0x1003000000000, 0, 0, 0, 0⟩)] },
      by decide⟩,
    ⟨5, ⟨0, false, false, [2, 16, 0, 0, 0, 0, 0, 0, 0, 0, 0, 0, 5, 128, 0, 0, 0, 0, 0, 0, 1] ++ List.replicate 43 0, 0, false, []⟩,
      { ready with entries := [(5, { Entry.fresh 0 with state := 1 })], arrived := [⟨0, false, false, [2, 16, 0, 0, 0, 0, 0, 0, 0, 0, 0, 0, 5, 128, 0, 0, 0, 0, 0, 0, 1] ++ List.replicate 43 0, 0, false, []⟩] },
      by decide⟩,
    ⟨3, ⟨3, .toT2, 9, .west, 0, 0, 4096, 0, false, 0x1003000000000, [], [], true, false, 0, none⟩,
      { ready with moves := [⟨3, .toT2, 9, .west, 0, 0, 4096, 0, false, 0x1003000000000, [], [], true, false, 0, none⟩], tensors := [(9, ⟨3, false, false, false, false, false, 0, 0, 64, 0x1003000000000, 0, 0, 0, 0⟩)] },
      by decide⟩,
    ⟨3, ⟨3, .toT1, 9, .west, 0, 0, 64, 0, false, 0x1003000000000, [], [(0, List.replicate 64 5)], true, false, 0, none⟩,
      { ready with moves := [⟨3, .toT1, 9, .west, 0, 0, 64, 0, false, 0x1003000000000, [], [(0, List.replicate 64 5)], true, false, 0, none⟩], tensors := [(9, ⟨3, false, false, false, false, false, 0, 0, 64, 0x1003000000000, 0, 0, 0, 0⟩)] },
      by decide⟩,
    ⟨⟨.mc .west, 0x41128, 8, 1, 0⟩, (servedAt (setLatch ready (.mc .west) Reg.galPartIndex 3 [0x0000000000400C01, 5, 6]) ⟨.mc .west,
      0x41128, 8, 1, 0⟩).get (by decide), setLatch ready (.mc .west) Reg.galPartIndex 3 [0x0000000000400C01, 5, 6], by decide⟩⟩

/-- States and operands that meet the hypotheses of `Obligations.FormeCommandsComplete`, clause by clause. -/
theorem witness_FormeCommandsComplete :
    (∃ (w : RegWrite) (q : Site) (s : State), isReg w .gal3 0x100 = true ∧ fld w.val 32 3 = 1 ∧ servedAt s w = some q ∧ bit w.val 40 =
      true ∧ getBit s Reg.galFormeStatus 0 = false ∧ (s.impo (fld w.val 24 7)).state = 0) ∧
    (∃ (k h : Nat) (s : State), s.loader = some (k, h) ∧ halted s = false ∧ (s.impo k).state = 1 ∧ k < 128) ∧
    (∃ (w : RegWrite) (q : Site) (s : State), isReg w .gal3 0x100 = true ∧ fld w.val 32 3 = 2 ∧ servedAt s w = some q ∧ bit w.val 40 =
      true ∧ getBit s Reg.galFormeStatus 0 = false ∧ isGroup s (fld w.val 24 7) = false) ∧
    (∃ (w : RegWrite) (q : Site) (s : State), isReg w .gal3 0x100 = true ∧ fld w.val 32 3 = 2 ∧ servedAt s w = some q ∧ bit w.val 40 =
      true ∧ getBit s Reg.galFormeStatus 0 = false ∧ isGroup s (fld w.val 24 7) = true ∧ isLead s (fld w.val 24 7) = false) ∧
    (∃ (w : RegWrite) (q : Site) (s : State), isReg w .gal3 0x100 = true ∧ fld w.val 32 3 = 3 ∧ servedAt s w = some q ∧ bit w.val 40 =
      true ∧ getBit s Reg.galFormeStatus 0 = false ∧ (s.impo (fld w.val 24 7)).state = 2) ∧
    (∃ (w : RegWrite) (q : Site) (s : State), isReg w .gal3 0x100 = true ∧ fld w.val 32 3 = 3 ∧ servedAt s w = some q ∧ bit w.val 40 =
      true ∧ getBit s Reg.galFormeStatus 0 = false ∧ (s.impo (fld w.val 24 7)).state = 3) ∧
    (∃ (w : RegWrite) (q : Site) (s : State), isReg w .gal3 0x100 = true ∧ fld w.val 32 3 = 4 ∧ servedAt s w = some q ∧ bit w.val 40 =
      true ∧ getBit s Reg.galFormeStatus 0 = false ∧ (s.impo (fld w.val 24 7)).state = 3) ∧
    (∃ (w : RegWrite) (q : Site) (s : State), isReg w .gal3 0x100 = true ∧ fld w.val 32 3 = 4 ∧ servedAt s w = some q ∧ bit w.val 40 =
      true ∧ getBit s Reg.galFormeStatus 0 = false ∧ (s.impo (fld w.val 24 7)).state ≠ 3) :=
  ⟨⟨⟨.mc .west, 0x43100, 8, 0x1010300004D, 0⟩, (servedAt ({ ready with impos := [(3, { ImpoSlot.empty 0 with state := 0 })] }) ⟨.mc
      .west, 0x43100, 8, 0x1010300004D, 0⟩).get (by decide), { ready with impos := [(3, { ImpoSlot.empty 0 with state := 0 })] }, by
      decide⟩,
    ⟨3, 77, { ready with impos := [(3, { ImpoSlot.empty 0 with state := 1 })], loader := some (3, 77) }, by decide⟩,
    ⟨⟨.mc .west, 0x43100, 8, 0x10203000000, 0⟩, (servedAt ({ ready with impos := [(3, { ImpoSlot.empty 0 with state := 2 })] }) ⟨.mc
      .west, 0x43100, 8, 0x10203000000, 0⟩).get (by decide), { ready with impos := [(3, { ImpoSlot.empty 0 with state := 2 })] }, by
      decide⟩,
    ⟨⟨.mc .west, 0x43100, 8, 0x10203000000, 0⟩, (servedAt
      ({ ready with impos := [(3, { ImpoSlot.empty 0 with state := 2, member := 1, record := { ImpoRecord.none with groupSize := 2, lead := 0 } })] })
      ⟨.mc .west, 0x43100, 8, 0x10203000000, 0⟩).get (by decide),
      { ready with impos := [(3, { ImpoSlot.empty 0 with state := 2, member := 1, record := { ImpoRecord.none with groupSize := 2, lead := 0 } })] },
      by decide⟩,
    ⟨⟨.mc .west, 0x43100, 8, 0x10303000000, 0⟩, (servedAt ({ ready with impos := [(3, { ImpoSlot.empty 0 with state := 2 })] }) ⟨.mc
      .west, 0x43100, 8, 0x10303000000, 0⟩).get (by decide), { ready with impos := [(3, { ImpoSlot.empty 0 with state := 2 })] }, by
      decide⟩,
    ⟨⟨.mc .west, 0x43100, 8, 0x10303000000, 0⟩, (servedAt ({ ready with impos := [(3, { ImpoSlot.empty 0 with state := 3 })] }) ⟨.mc
      .west, 0x43100, 8, 0x10303000000, 0⟩).get (by decide), { ready with impos := [(3, { ImpoSlot.empty 0 with state := 3 })] }, by
      decide⟩,
    ⟨⟨.mc .west, 0x43100, 8, 0x10403000000, 0⟩, (servedAt
      ({ ready with impos := [(3, { ImpoSlot.empty 0 with state := 3, suspect := 4 })] }) ⟨.mc .west, 0x43100, 8, 0x10403000000, 0⟩).get
      (by decide), { ready with impos := [(3, { ImpoSlot.empty 0 with state := 3, suspect := 4 })] }, by decide⟩,
    ⟨⟨.mc .west, 0x43100, 8, 0x10403000000, 0⟩, (servedAt ({ ready with impos := [(3, { ImpoSlot.empty 0 with state := 2 })] }) ⟨.mc
      .west, 0x43100, 8, 0x10403000000, 0⟩).get (by decide), { ready with impos := [(3, { ImpoSlot.empty 0 with state := 2 })] }, by
      decide⟩⟩

/-- States and operands that meet the hypotheses of `Obligations.FlitsComplete`, clause by clause. -/
theorem witness_FlitsComplete :
    (∃ (p : Fin 6) (flit : List Byte) (s : State), flit.length = 256 ∧ flitClass flit = 1 ∧ flitPos flit = 0 ∧ linkOpen s p = true ∧
      flitOk flit = true ∧ flitSeq flit = (s.link p).rxSeq ∧ flitHops flit < 64 ∧ flitDst flit = myCoord s ∧ linkLocal flit = true ∨
      carries s p 1 = false ∧ opClass (leAt (flitData flit) 0 1) = some 1 ∧ 16 ≤ (flitData flit).length ∧ (flitData flit).length = 16 +
      leAt (flitData flit) 2 2 % 2 ^ 15) ∧
    (∃ (p : Fin 6) (flit : List Byte) (s : State), flit.length = 256 ∧ flitClass flit < 6 ∧ linkOpen s p = true ∧ flitOk flit = true ∧
      flitSeq flit = (s.link p).rxSeq) ∧
    (∃ (p : Fin 6) (flit : List Byte) (s : State), flit.length = 256 ∧ flitClass flit < 6 ∧ linkOpen s p = true ∧ flitOk flit = false ∧
      (s.link p).nak = false) ∧
    (∃ (p : Fin 6) (flit : List Byte) (s : State), flit.length = 256 ∧ flitClass flit < 6 ∧ linkOpen s p = true ∧ flitOk flit = true ∧ 2
      ^ 15 ≤ (flitSeq flit + 2 ^ 16 - (s.link p).rxSeq) % 2 ^ 16) ∧
    (∃ (p : Fin 6) (flit : List Byte) (s : State), flit.length = 256 ∧ flitClass flit = 6 ∧ linkOpen s p = true ∧ lmOk flit = true) ∧
    (∃ (p : Fin 6) (flit : List Byte) (s : State), flit.length = 256 ∧ flitClass flit = 7) :=
  ⟨⟨1, flitBytes 1 20 0 0 3 0 0 (leBytes 1 0x14 ++ leBytes 1 0 ++ leBytes 2 4 ++ leBytes 4 9 ++ leBytes 8 0 ++ [1, 2, 3, 4]),
      (State.reset).setPort 1 ⟨.up, 0, 0, 0, true, 0, 0, false⟩, by decide +kernel⟩,
    ⟨1, flitBytes 1 20 0 0 3 0 0 (leBytes 1 0x14 ++ leBytes 1 0 ++ leBytes 2 4 ++ leBytes 4 9 ++ leBytes 8 0 ++ [1, 2, 3, 4]),
      (State.reset).setPort 1 ⟨.up, 0, 0, 0, true, 0, 0, false⟩, by decide +kernel⟩,
    ⟨1, List.replicate 256 1, (State.reset).setPort 1 ⟨.up, 0, 0, 0, true, 0, 0, false⟩, by decide +kernel⟩,
    ⟨1, flitBytes 1 20 0 0 3 0 0 (leBytes 1 0x14 ++ leBytes 1 0 ++ leBytes 2 4 ++ leBytes 4 9 ++ leBytes 8 0 ++ [1, 2, 3, 4]),
      ({ State.reset with links := [(1, { Link.fresh 0 with rxSeq := 1 })] }).setPort 1 ⟨.up, 0, 0, 0, true, 0, 0, false⟩, by
      decide +kernel⟩,
    ⟨1, lmFlit State.reset 1 false (some 5) 0x18 none, (State.reset).setPort 1 ⟨.up, 0, 0, 0, true, 0, 0, false⟩, by decide +kernel⟩,
    ⟨1, List.replicate 256 7, (State.reset).setPort 1 ⟨.up, 0, 0, 0, true, 0, 0, false⟩, by decide⟩⟩

/-- States and operands that meet the hypotheses of `Obligations.LinksComplete`, clause by clause. -/
theorem witness_LinksComplete :
    (∃ (p : Fin 6) (lane : Fin 64) (s : State), (s.port p).phase = .up ∧ getBit s (Reg.fabLaneGood p) lane = true) ∧
    (∃ (p : Fin 6) (spare : Fin 4) (lane : Nat) (s : State), (s.link p).spares.find? (fun x => x.1 = spare.val) = some (spare.val, lane)
      ∧ (s.port p).phase = .up ∧ lane < 64) ∧
    (∃ (p : Fin 6) (spare : Fin 4) (lane : Nat) (s : State), (s.link p).spares.find? (fun x => x.1 = spare.val) = some (spare.val, lane)
      ∧ (s.port p).phase = .up) ∧
    (∃ (p : Fin 6) (n at_ : Nat) (s : State), (s.port p).phase = .up ∧ (s.link p).widthAt = some (n, at_)) ∧
    (∃ (p : Fin 6) (cause : Fin 5) (s : State), (s.port p).phase = .up ∧ cause.val ≠ 0 ∧ cause.val = 4 → 8 ≤ (s.link p).naks) ∧
    (∃ (p : Fin 6) (s : State), (s.port p).phase = .down ∧ (s.link p).joined = true) ∧
    (∃ (cls : Fin 6) (id : BitVec 32) (x : Sent) (s : State), s.sent.find? (fun x => x.msg.cls = cls.val ∧ x.msg.id = id.toNat) = some x
      ∧ x.tries < getFld s (Reg.fabArbCfg (resendPort s x.msg)) 16 4) ∧
    (∃ (cls : Fin 6) (id : BitVec 32) (x : Sent) (s : State), s.sent.find? (fun x => x.msg.cls = cls.val ∧ x.msg.id = id.toNat) = some x
      ∧ getFld s (Reg.fabArbCfg (resendPort s x.msg)) 16 4 ≤ x.tries) :=
  ⟨⟨1, 3, putFld ((State.reset).setPort 1 ⟨.up, 0, 0, 0, true, 0, 0, false⟩) (Reg.fabLaneGood 1) 0 64 0xFFFFFFFFFFFFFFFF, by decide⟩,
    ⟨1, 2, 5, ({ State.reset with links := [(1, { Link.fresh 0 with spares := [(2, 5)], lanes := List.range 64 })] }).setPort 1 ⟨.up, 0,
      0, 0, true, 0, 0, false⟩, by decide⟩,
    ⟨1, 2, 5, ({ State.reset with links := [(1, { Link.fresh 0 with spares := [(2, 5)], lanes := List.range 64 })] }).setPort 1 ⟨.up, 0,
      0, 0, true, 0, 0, false⟩, by decide⟩,
    ⟨1, 48, 7, putFld
      (({ State.reset with links := [(1, { Link.fresh 0 with widthAt := some (48, 7), lanes := List.range 64 })] }).setPort 1 ⟨.up, 0,
      0, 0, true, 0, 0, false⟩) (Reg.fabLaneGood 1) 0 64 0xFFFFFFFFFFFFFFFE, by decide⟩,
    ⟨1, 4, ({ State.reset with links := [(1, { Link.fresh 0 with naks := 8 })] }).setPort 1 ⟨.up, 0, 0, 0, true, 0, 0, false⟩, by
      decide⟩,
    ⟨1, ({ State.reset with links := [(1, { Link.fresh 0 with joined := true })] }).setPort 1 ⟨.down, 0, 0, 0, true, 0, 0, false⟩, by
      decide⟩,
    ⟨1, 9, ⟨⟨0, 3, 5, 1, 0x11, true, 9, 0, []⟩, 0⟩, { State.reset with sent := [⟨⟨0, 3, 5, 1, 0x11, true, 9, 0, []⟩, 0⟩] }, by decide⟩,
    ⟨1, 9, ⟨⟨0, 3, 5, 1, 0x11, true, 9, 0, []⟩, 15⟩, { State.reset with sent := [⟨⟨0, 3, 5, 1, 0x11, true, 9, 0, []⟩, 15⟩] }, by decide⟩⟩

/-- States and operands that meet the hypotheses of `Obligations.MessagesComplete`, clause by clause. -/
theorem witness_MessagesComplete :
    (∃ (a : Arrival) (s : State), nextMsg s (isOp 0 0x01) = some a ∧ (fld a.msg.target 32 32).testBit 22 = false) ∧
    (∃ (a : Arrival) (s : State), nextMsg s (isOp 0 0x03) = some a ∧ (fld a.msg.target 32 32).testBit 22 = false) ∧
    (∃ (g : Nat) (a : Arrival) (s : State), nextMsg s (isOp 0 0x02) = some a ∧ g = fld a.msg.target 32 32 ∧ g.testBit 22 = true) ∧
    (∃ (da : Nat) (a : Arrival) (s : State), nextMsg s (isOp 0 0x04) = some a ∧ da = fld a.msg.target 0 38 / 64 * 64 ∧
      a.msg.content.length = 64 ∧ daHole da = false ∧ daServed s da = true) ∧
    (∃ (h off : Nat) (a : Arrival) (s1 : State) (s : State), takeMsg s (isOp 5 0x50) = some (a, true, s1) ∧ h = fld a.msg.target 0 17 ∧
      off = 4096 * fld a.msg.target 17 31 ∧ (s1.tensor h).tier = 1 ∧ some (s1.tensor h).owner = sliceOwner s1 a.msg.slice ∧ (s1.tensor
      h).grouped = false ∧ off + (a.msg.content.take 4096).length ≤ (s1.tensor h).size) ∧
    (∃ (a : Arrival) (s : State), nextMsg s (isOp 1 0x13) = some a ∧ s.steps.running = true ∧ a.msg.target = s.steps.num) ∧
    (∃ (x : RegWrite) (a : Arrival) (s1 : State) (s : State), takeMsg s (fun a => decide (a.msg.cls = 3 ∧ a.msg.op = 0x30)) = some (a,
      true, s1) ∧ x.who = .stile) ∧
    (∃ (x : RegWrite) (a : Arrival) (s1 : State) (s : State), takeMsg s (fun a => decide (a.msg.cls = 3 ∧ a.msg.op = 0x30)) = some (a,
      true, s1) ∧ x.who = .stile) ∧
    (∃ (cls : Fin 6) (x : Sent) (a : Arrival) (s : State), nextMsg s (isOp cls.val (ackOp cls.val)) = some a ∧ s.sent.find? (fun x =>
      x.msg.cls = cls.val ∧ x.msg.id = fld a.msg.target 0 32) = some x ∧ cls.val ≠ 4) ∧
    (∃ (x : Sent) (a : Arrival) (s : State), nextMsg s (isOp 4 (ackOp 4)) = some a ∧ s.sent.find? (fun x => x.msg.cls = 4 ∧ x.msg.id =
      fld a.msg.target 0 32) = some x ∧ x.msg.op = 0x40 ∧ fld x.msg.target 0 4 = 4) :=
  ⟨⟨⟨1, 0, ⟨0, 0, 0, 0, 1, false, 7, 16384, [1, 2, 3]⟩⟩, { ready with inbox := [⟨1, 0, ⟨0, 0, 0, 0, 1, false, 7, 16384, [1, 2, 3]⟩⟩] },
      by decide⟩,
    ⟨⟨1, 0, ⟨0, 0, 0, 0, 3, false, 7, 16384, [1, 2, 3]⟩⟩, { ready with inbox := [⟨1, 0, ⟨0, 0, 0, 0, 3, false, 7, 16384, [1, 2, 3]⟩⟩] },
      by decide⟩,
    ⟨0x400005, ⟨1, 0, ⟨0, 0, 0, 0, 2, false, 7, 18014419984318464, []⟩⟩,
      { ready with inbox := [⟨1, 0, ⟨0, 0, 0, 0, 2, false, 7, 18014419984318464, []⟩⟩] }, by decide⟩,
    ⟨128, ⟨1, 0, ⟨0, 0, 0, 0, 4, false, 7, 128, List.replicate 64 9⟩⟩,
      { ready with inbox := [⟨1, 0, ⟨0, 0, 0, 0, 4, false, 7, 128, List.replicate 64 9⟩⟩] }, by decide⟩,
    ⟨9, 0, ⟨1, 0, ⟨0, 0, 0, 5, 80, false, 7, 9, List.replicate 64 9⟩⟩, ((takeMsg (putBit
      { ready with inbox := [⟨1, 0, ⟨0, 0, 0, 5, 80, false, 7, 9, List.replicate 64 9⟩⟩], tensors := [(9, ⟨1, false, false, false, false, false, 0, 0, 4096, 0x1003000000000, 0, 0, 0, 0⟩)] }
      (Reg.partCfg 0) 0 true) (isOp 5 0x50)).get (by decide)).2.2, putBit
      { ready with inbox := [⟨1, 0, ⟨0, 0, 0, 5, 80, false, 7, 9, List.replicate 64 9⟩⟩], tensors := [(9, ⟨1, false, false, false, false, false, 0, 0, 4096, 0x1003000000000, 0, 0, 0, 0⟩)] }
      (Reg.partCfg 0) 0 true, rfl, by decide⟩,
    ⟨⟨1, 0, ⟨0, 0, 0, 1, 19, false, 7, 4, []⟩⟩,
      { ready with inbox := [⟨1, 0, ⟨0, 0, 0, 1, 19, false, 7, 4, []⟩⟩], steps := { State.reset.steps with running := true, num := 4 } },
      by decide⟩,
    ⟨⟨.stile, 0x300, 8, 0x1234, 0⟩, ⟨1, 0, ⟨0, 0, 0, 3, 48, false, 7, 0, []⟩⟩, ((takeMsg
      ({ ready with inbox := [⟨1, 0, ⟨0, 0, 0, 3, 48, false, 7, 0, []⟩⟩] }) (fun a => decide (a.msg.cls = 3 ∧ a.msg.op = 0x30))).get (by
      decide)).2.2, { ready with inbox := [⟨1, 0, ⟨0, 0, 0, 3, 48, false, 7, 0, []⟩⟩] }, rfl, by decide⟩,
    ⟨⟨.stile, 0x300, 8, 0x1234, 0⟩, ⟨1, 0, ⟨0, 0, 0, 3, 48, false, 7, 0, []⟩⟩, ((takeMsg
      ({ ready with inbox := [⟨1, 0, ⟨0, 0, 0, 3, 48, false, 7, 0, []⟩⟩] }) (fun a => decide (a.msg.cls = 3 ∧ a.msg.op = 0x30))).get (by
      decide)).2.2, { ready with inbox := [⟨1, 0, ⟨0, 0, 0, 3, 48, false, 7, 0, []⟩⟩] }, rfl, by decide⟩,
    ⟨1, ⟨⟨0, 3, 5, 1, 0x11, true, 9, 0, []⟩, 0⟩, ⟨1, 0, ⟨0, 0, 0, 1, 31, false, 7, 9, []⟩⟩,
      { ready with inbox := [⟨1, 0, ⟨0, 0, 0, 1, 31, false, 7, 9, []⟩⟩], sent := [⟨⟨0, 3, 5, 1, 0x11, true, 9, 0, []⟩, 0⟩] }, by decide⟩,
    ⟨⟨⟨0, 3, 5, 4, 0x40, true, 9, 4, []⟩, 0⟩, ⟨1, 0, ⟨0, 0, 0, 4, 79, false, 7, 9, []⟩⟩,
      { ready with inbox := [⟨1, 0, ⟨0, 0, 0, 4, 79, false, 7, 9, []⟩⟩], sent := [⟨⟨0, 3, 5, 4, 0x40, true, 9, 4, []⟩, 0⟩], home := { State.reset.home with steps := [(9, [])] } },
      by decide⟩⟩

/-- States and operands that meet the hypotheses of `Obligations.GroupMessagesComplete`, clause by clause. -/
theorem witness_GroupMessagesComplete :
    (∃ (k : Fin 128) (m : Fin 64) (lacking : Bool) (a : Arrival) (s : State), nextMsg s (fun a => decide (a.msg.cls = 1 ∧ a.msg.op =
      0x10 ∧ a.msg.src = memberCoord s k m)) = some a ∧ isGroup s k = true ∧ isLead s k = true ∧ m.val ∈ (s.group k).awaited ∧ (s.group
      k).abandoned = false) ∧
    (∃ (k : Fin 128) (n : Announce) (a : Arrival) (s1 : State) (s : State), takeMsg s (fun x => decide (x.msg.cls = 1 ∧ x.msg.op =
      0x11)) = some (a, true, s1) ∧ n.activate = none ∧ n.cancel = none ∧ isGroup s k = true ∧ isLead s k = false) ∧
    (∃ (k : Fin 128) (n : Announce) (a : Arrival) (s : State), nextMsg s (fun x => decide (x.msg.cls = 1 ∧ x.msg.op = 0x11)) = some a ∧
      n.activate = none ∧ n.cancel = none ∧ isGroup s k = true ∧ isLead s k = false ∧ n.fate = 0 ∧ n.settled = [] ∧ s.steps.running =
      true ∧ stepEnded s = false) ∧
    (∃ (tokens : List Nat) (a : Arrival) (n : Nat) (s : State), nextMsg s (fun x => decide (x.msg.cls = 1 ∧ x.msg.op = 0x12)) = some a ∧
      a.msg.content.length = 64 ∧ sliceOwner s a.msg.slice = some n ∧ badByte ⟨n, false, true, a.msg.content, 0, true, tokens⟩ = none ∧
      Cmd.names ⟨n, false, true, a.msg.content, 0, true, tokens⟩ = false) ∧
    (∃ (k : Fin 128) (s : State), isGroup s k = true ∧ isLead s k = true ∧ (s.group k).awaited ≠ [] ∧ (s.group k).timeouts = 0) ∧
    (∃ (k : Fin 128) (s : State), isGroup s k = true ∧ isLead s k = true ∧ (s.group k).awaited ≠ [] ∧ (s.group k).timeouts ≠ 0 ∧
      s.steps.running = false ∧ (s.group k).abandoned = false) ∧
    (∃ (k : Fin 128) (s : State), isGroup s k = true ∧ isLead s k = false ∧ (s.group k).reported = true ∧ (s.group k).lost = false ∧
      (s.group k).timeouts = 0) ∧
    (∃ (k : Fin 128) (s : State), isGroup s k = true ∧ isLead s k = false ∧ (s.group k).reported = true ∧ (s.group k).lost = false ∧
      (s.group k).timeouts ≠ 0 ∧ (s.steps.current.any fun p => p.impo = k.val) = false) :=
  ⟨⟨0, 1, true, ⟨1, 0, ⟨0, 9, 0, 1, 16, false, 7, 0, []⟩⟩,
      { ready with inbox := [⟨1, 0, ⟨0, 9, 0, 1, 16, false, 7, 0, []⟩⟩], impos := [(0, { ImpoSlot.empty 0 with state := 3, member := 0, record := { ImpoRecord.none with groupSize := 2, lead := 0, members := [(1, 7), (2, 9)] } })], groups := [(0, { GroupState.fresh 0 with awaited := [1] })] },
      by decide⟩,
    ⟨0, ⟨0, some 50, [], none, none, none⟩, ⟨1, 0, ⟨0, 7, 0, 1, 17, false, 7, 0, []⟩⟩, ((takeMsg
      ({ ready with inbox := [⟨1, 0, ⟨0, 7, 0, 1, 17, false, 7, 0, []⟩⟩], impos := [(0, { ImpoSlot.empty 0 with state := 3, member := 1, record := { ImpoRecord.none with groupSize := 2, lead := 0, members := [(1, 7), (2, 9)] } })] })
      (fun x => decide (x.msg.cls = 1 ∧ x.msg.op = 0x11))).get (by decide)).2.2,
      { ready with inbox := [⟨1, 0, ⟨0, 7, 0, 1, 17, false, 7, 0, []⟩⟩], impos := [(0, { ImpoSlot.empty 0 with state := 3, member := 1, record := { ImpoRecord.none with groupSize := 2, lead := 0, members := [(1, 7), (2, 9)] } })] },
      rfl, by decide⟩,
    ⟨0, ⟨0, some 50, [], none, none, none⟩, ⟨1, 0, ⟨0, 7, 0, 1, 17, false, 7, 0, []⟩⟩, (fun s : State =>
      { s with inbox := [⟨1, 0, ⟨0, 7, 0, 1, 17, false, 7, 0, []⟩⟩] }) ((fun s : State =>
      { s with impos := s.impos.map fun p => (p.1, { p.2 with member := 1 }) }) (putFld
      { ready with steps := { State.reset.steps with running := true, current := [⟨0, 0, 0, []⟩] }, impos := [(0, { ImpoSlot.empty 0 with state := 3, impoId := 7, record := { ImpoRecord.none with groupSize := 2 }, formes := [⟨0, 0, 1, 0, 0, 0, 1, 1, 0, 64, 0, 0, 0, 0, 0, 0, [(0, [([0] ++ List.replicate 63 0)])], []⟩] })] }
      (Reg.cdCoreMap 0 0) 0 16 0x8180)), by decide⟩,
    ⟨[], ⟨1, 0, ⟨0, 0, 0, 1, 18, false, 7, 0, ([1, 0x10, 0, 0, 0, 0, 0, 0, 77, 0, 0, 0, 0, 0, 0, 0, 0, 0x10, 1, 0, 100] ++
      List.replicate 25 0 ++ [0x80, 0x3F] ++ List.replicate 16 0)⟩⟩, 0, putBit
      { ready with inbox := [⟨1, 0, ⟨0, 0, 0, 1, 18, false, 7, 0, ([1, 0x10, 0, 0, 0, 0, 0, 0, 77, 0, 0, 0, 0, 0, 0, 0, 0, 0x10, 1, 0, 100] ++ List.replicate 25 0 ++ [0x80, 0x3F] ++ List.replicate 16 0)⟩⟩] }
      (Reg.partCfg 0) 0 true, by decide⟩,
    ⟨0,
      { ready with groups := [(0, { GroupState.fresh 0 with awaited := [1] })], impos := [(0, { ImpoSlot.empty 0 with state := 3, member := 0, record := { ImpoRecord.none with groupSize := 2, lead := 0, members := [(1, 7), (2, 9)] } })] },
      by decide⟩,
    ⟨0,
      { ready with entries := [(5, { Entry.fresh 0 with state := 3 })], groups := [(0, { GroupState.fresh 0 with awaited := [1], timeouts := 1 })], impos := [(0, { ImpoSlot.empty 0 with state := 3, member := 0, record := { ImpoRecord.none with groupSize := 2, lead := 0, members := [(1, 7), (2, 9)] } })] },
      by decide⟩,
    ⟨0,
      { ready with groups := [(0, { GroupState.fresh 0 with reported := true })], impos := [(0, { ImpoSlot.empty 0 with state := 3, member := 1, record := { ImpoRecord.none with groupSize := 2, lead := 0, members := [(1, 7), (2, 9)] } })] },
      by decide⟩,
    ⟨0,
      { ready with groups := [(0, { GroupState.fresh 0 with reported := true, timeouts := 1 })], impos := [(0, { ImpoSlot.empty 0 with state := 3, member := 1, record := { ImpoRecord.none with groupSize := 2, lead := 0, members := [(1, 7), (2, 9)] } })] },
      by decide⟩⟩

/-- States and operands that meet the hypotheses of `Obligations.TimeExchangesComplete`, clause by clause. -/
theorem witness_TimeExchangesComplete :
    (∃ (p : Fin 6) (a : Arrival) (s1 : State) (s : State), takeMsg s (fun a => isOp 2 0x20 a && decide (a.port = p.val)) = some (a,
      true, s1) ∧ s.clock.aligned = true) ∧
    (∃ (p : Fin 6) (a : Arrival) (t1 : Nat) (s : State), nextMsg s (fun a => isOp 2 0x21 a && decide (a.port = p.val)) = some a ∧
      (s.time p).t1 = some t1 ∧ leAt a.msg.content 0 4 = (s.time p).xseq) ∧
    (∃ (p : Fin 6) (a : Arrival) (s : State), nextMsg s (fun a => isOp 2 0x21 a && decide (a.port = p.val)) = some a ∧ leAt
      a.msg.content 0 4 ≠ (s.time p).xseq) ∧
    (∃ (s : State), s.clock.epochWait = false) :=
  ⟨⟨1, ⟨1, 0, ⟨0, 9, 0, 2, 32, false, 7, 0, leBytes 4 0 ++ leBytes 1 2 ++ leBytes 3 0 ++ leBytes 8 0 ++ leBytes 8 0 ++ leBytes 8 0 ++
      leBytes 8 0 ++ leBytes 8 5⟩⟩, ((takeMsg
      ({ ready with inbox := [⟨1, 0, ⟨0, 9, 0, 2, 32, false, 7, 0, leBytes 4 0 ++ leBytes 1 2 ++ leBytes 3 0 ++ leBytes 8 0 ++ leBytes 8 0 ++ leBytes 8 0 ++ leBytes 8 0 ++ leBytes 8 5⟩⟩], clock := { State.reset.clock with aligned := true } })
      (fun a => isOp 2 0x20 a && decide (a.port = 1))).get (by decide)).2.2,
      { ready with inbox := [⟨1, 0, ⟨0, 9, 0, 2, 32, false, 7, 0, leBytes 4 0 ++ leBytes 1 2 ++ leBytes 3 0 ++ leBytes 8 0 ++ leBytes 8 0 ++ leBytes 8 0 ++ leBytes 8 0 ++ leBytes 8 5⟩⟩], clock := { State.reset.clock with aligned := true } },
      rfl, by decide⟩,
    ⟨1, ⟨1, 0, ⟨0, 9, 0, 2, 33, false, 7, 0, leBytes 4 0 ++ leBytes 1 2 ++ leBytes 3 0 ++ leBytes 8 40 ++ leBytes 8 90 ++ leBytes 8 95
      ++ leBytes 8 0 ++ leBytes 8 5⟩⟩, 40,
      { ready with inbox := [⟨1, 0, ⟨0, 9, 0, 2, 33, false, 7, 0, leBytes 4 0 ++ leBytes 1 2 ++ leBytes 3 0 ++ leBytes 8 40 ++ leBytes 8 90 ++ leBytes 8 95 ++ leBytes 8 0 ++ leBytes 8 5⟩⟩], times := [(1, ⟨0, some 40, [], [], none⟩)] },
      by decide⟩,
    ⟨1, ⟨1, 0, ⟨0, 9, 0, 2, 33, false, 7, 0, leBytes 4 0 ++ leBytes 1 2 ++ leBytes 3 0 ++ leBytes 8 40 ++ leBytes 8 90 ++ leBytes 8 95
      ++ leBytes 8 0 ++ leBytes 8 5⟩⟩,
      { ready with inbox := [⟨1, 0, ⟨0, 9, 0, 2, 33, false, 7, 0, leBytes 4 0 ++ leBytes 1 2 ++ leBytes 3 0 ++ leBytes 8 40 ++ leBytes 8 90 ++ leBytes 8 95 ++ leBytes 8 0 ++ leBytes 8 5⟩⟩], times := [(1, ⟨8, some 40, [], [], none⟩)] },
      by decide⟩,
    ⟨State.reset, by decide⟩⟩

/-- States and operands that meet the hypotheses of `Obligations.PortCommandsComplete`, clause by clause. -/
theorem witness_PortCommandsComplete :
    (∃ (w : RegWrite) (q : Site) (s : State), isReg w .fab0 0x108 = true ∧ servedAt s w = some q ∧ fld w.val 16 16 = 0x5A25 ∧ bit w.val
      0 = false ∧ bit w.val 4 = false ∧ (s.port q.1.inst).phase = .dark) ∧
    (∃ (w : RegWrite) (q : Site) (s : State), isReg w .fab0 0x108 = true ∧ servedAt s w = some q ∧ fld w.val 16 16 = 0x5A25 ∧ bit w.val
      0 = true ∧ bit w.val 1 = true ∧ bit w.val 3 = false ∧ bit w.val 4 = false ∧ (s.port q.1.inst).phase = .up) ∧
    (∃ (p : Fin 6) (s : State), (s.port p).phase = .draining ∧ (s.link p).retry = [] ∧ (s.link p).waiting = []) ∧
    (∃ (w : RegWrite) (q : Site) (s : State), isReg w .fab0 0x108 = true ∧ servedAt s w = some q ∧ fld w.val 16 16 = 0x5A25 ∧ bit w.val
      0 = true ∧ bit w.val 2 = true ∧ bit w.val 1 = false ∧ bit w.val 3 = false ∧ bit w.val 4 = false ∧ (s.port q.1.inst).phase = .up) ∧
    (∃ (w : RegWrite) (q : Site) (s : State), isReg w .fab0 0x108 = true ∧ servedAt s w = some q ∧ fld w.val 16 16 = 0x5A25 ∧ bit w.val
      0 = true ∧ bit w.val 1 = false ∧ bit w.val 2 = false ∧ bit w.val 3 = true ∧ bit w.val 4 = false ∧ (s.port q.1.inst).phase = .down
      ∧ (s.port q.1.inst).hot = false) ∧
    (∃ (w : RegWrite) (q : Site) (s : State), isReg w .fab0 0x108 = true ∧ servedAt s w = some q ∧ fld w.val 16 16 = 0x5A25 ∧ bit w.val
      0 = true ∧ bit w.val 1 = false ∧ bit w.val 2 = false ∧ bit w.val 3 = false ∧ bit w.val 4 = true) ∧
    (∃ (p : Fin 6) (s : State), (s.port p).phase = .up ∧ (s.port p).outcome = 1) ∧
    (∃ (p : Fin 6) (s : State), (s.port p).phase = .dark) ∧
    (∃ (p : Fin 6) (s : State), (s.port p).phase = .patching) ∧
    (∃ (p : Fin 6) (s : State), (s.port p).phase = .patching) ∧
    (∃ (w : RegWrite) (q : Site) (s : State), isReg w .fab0 0x120 = true ∧ servedAt s w = some q ∧ mapReject s q.1.inst w.val = none) ∧
    (∃ (w : RegWrite) (q : Site) (r : Nat) (s : State), isReg w .fab0 0x120 = true ∧ servedAt s w = some q ∧ mapReject s q.1.inst w.val
      = some r) ∧
    (∃ (w : RegWrite) (q : Site) (s : State), isReg w .fab1 0x128 = true ∧ servedAt s w = some q ∧ bit w.val 0 = true ∧ routeOk
      ((getLatch s w.who (Reg.fabRtIndex q.1.inst)).headD 0) = true) :=
  ⟨⟨⟨.mc .west, 0x80108, 8, 0x5A250000, 0⟩, (servedAt ((ready).setPort 0 ⟨.dark, 0, 0, 0, true, 0, 0, false⟩) ⟨.mc .west, 0x80108, 8,
      0x5A250000, 0⟩).get (by decide), (ready).setPort 0 ⟨.dark, 0, 0, 0, true, 0, 0, false⟩, by decide⟩,
    ⟨⟨.mc .west, 0x80108, 8, 0x5A250003, 0⟩, (servedAt ((ready).setPort 0 ⟨.up, 0, 0, 0, true, 0, 0, false⟩) ⟨.mc .west, 0x80108, 8,
      0x5A250003, 0⟩).get (by decide), (ready).setPort 0 ⟨.up, 0, 0, 0, true, 0, 0, false⟩, by decide⟩,
    ⟨1, (State.reset).setPort 1 ⟨.draining, 0, 0, 0, true, 0, 0, false⟩, by decide⟩,
    ⟨⟨.mc .west, 0x80108, 8, 0x5A250005, 0⟩, (servedAt ((ready).setPort 0 ⟨.up, 0, 0, 0, true, 0, 0, false⟩) ⟨.mc .west, 0x80108, 8,
      0x5A250005, 0⟩).get (by decide), (ready).setPort 0 ⟨.up, 0, 0, 0, true, 0, 0, false⟩, by decide⟩,
    ⟨⟨.mc .west, 0x80108, 8, 0x5A250009, 0⟩, (servedAt ((ready).setPort 0 ⟨.down, 0, 0, 0, true, 0, 0, false⟩) ⟨.mc .west, 0x80108, 8,
      0x5A250009, 0⟩).get (by decide), (ready).setPort 0 ⟨.down, 0, 0, 0, true, 0, 0, false⟩, by decide⟩,
    ⟨⟨.mc .west, 0x80108, 8, 0x5A250011, 0⟩, (servedAt ((ready).setPort 0 ⟨.up, 0, 0, 0, true, 0, 0, false⟩) ⟨.mc .west, 0x80108, 8,
      0x5A250011, 0⟩).get (by decide), (ready).setPort 0 ⟨.up, 0, 0, 0, true, 0, 0, false⟩, by decide⟩,
    ⟨1, (State.reset).setPort 1 ⟨.up, 3, 1, 0, true, 0, 0, false⟩, by decide⟩,
    ⟨1, (State.reset).setPort 1 ⟨.dark, 0, 0, 0, true, 0, 0, false⟩, by decide⟩,
    ⟨1, (State.reset).setPort 1 ⟨.patching, 0, 0, 0, true, 0, 0, false⟩, by decide⟩,
    ⟨1, (State.reset).setPort 1 ⟨.patching, 0, 0, 0, true, 0, 0, false⟩, by decide⟩,
    ⟨⟨.mc .west, 0x80120, 8, 3, 0⟩, (servedAt (ready) ⟨.mc .west, 0x80120, 8, 3, 0⟩).get (by decide), ready, by decide⟩,
    ⟨⟨.mc .west, 0x80120, 8, 7, 0⟩, (servedAt (ready) ⟨.mc .west, 0x80120, 8, 7, 0⟩).get (by decide), 0, ready, by decide⟩,
    ⟨⟨.mc .west, 0x81128, 8, 1, 0⟩, (servedAt (ready) ⟨.mc .west, 0x81128, 8, 1, 0⟩).get (by decide), ready, by decide⟩⟩

/-- States and operands that meet the hypotheses of `Obligations.PartitionCommandsComplete`, clause by clause. -/
theorem witness_PartitionCommandsComplete :
    (∃ (w : RegWrite) (q : Site) (s : State), isMbox w 1 = true ∧ servedAt s w = some q ∧ getBit s Reg.devMboxStatus 0 = false ∧
      assignCode s (mboxData s) = 0) ∧
    (∃ (w : RegWrite) (q : Site) (s : State), isMbox w 1 = true ∧ servedAt s w = some q ∧ getBit s Reg.devMboxStatus 0 = false ∧
      assignCode s (mboxData s) ≠ 0) ∧
    (∃ (w : RegWrite) (q : Site) (s : State), isMbox w 2 = true ∧ servedAt s w = some q ∧ getBit s Reg.devMboxStatus 0 = false ∧ (leAt
      (mboxData s) 0 1) < 64 ∧ partPhase s (leAt (mboxData s) 0 1) = 1 ∨ partPhase s (leAt (mboxData s) 0 1) = 2) ∧
    (∃ (w : RegWrite) (q : Site) (s : State), isMbox w 3 = true ∧ servedAt s w = some q ∧ getBit s Reg.devMboxStatus 0 = false ∧ (leAt
      (mboxData s) 0 1) < 64 ∧ canReset s (leAt (mboxData s) 0 1) = true) ∧
    (∃ (w : RegWrite) (q : Site) (s : State), isReg w .part 0x158 = true ∧ servedAt s w = some q ∧ bit w.val 0 = true ∧ canReset s
      q.1.inst = true) ∧
    (∃ (part : Fin 64) (s : State), canReset s part.val = true) ∧
    (∃ (part : Fin 64) (s : State), canReset s part.val = false) ∧
    (∃ (part : Fin 64) (s : State), partPhase s part.val = 3 ∧ .coresWiped part.val ∉ s.deferred ∧ waitingRecords s part.val = 0) ∧
    (∃ (part : Fin 64) (s : State), partPhase s part.val = 2 ∧ .partReset part.val ∉ s.deferred) ∧
    (∃ (w : RegWrite) (q : Site) (s : State), isMbox w 5 = true ∧ servedAt s w = some q ∧ getBit s Reg.devMboxStatus 0 = false) ∧
    (∃ (w : RegWrite) (q : Site) (s : State), isMbox w 6 = true ∧ servedAt s w = some q ∧ getBit s Reg.devMboxStatus 0 = false ∧ leAt
      (mboxData s) 0 2 < 2 ^ 14 ∧ s.nvs.ok = true) ∧
    (∃ (w : RegWrite) (q : Site) (s : State), isMbox w 7 = true ∧ servedAt s w = some q ∧ getBit s Reg.devMboxStatus 0 = false ∧
      s.nvs.ok = true) ∧
    (∃ (w : RegWrite) (q : Site) (s : State), isMbox w 8 = true ∧ servedAt s w = some q ∧ getBit s Reg.devMboxStatus 0 = false ∧ bit
      (inForceReg s Reg.devTwinCfg) 26 = true ∧ (s.mirrors.any fun m => m.2.home = getReg s (Reg.devMboxData 0)) = true) ∧
    (∃ (w : RegWrite) (q : Site) (s : State), isMbox w 8 = true ∧ servedAt s w = some q ∧ getBit s Reg.devMboxStatus 0 = false ∧ bit
      (inForceReg s Reg.devTwinCfg) 26 = false) :=
  ⟨⟨⟨.mc .west, 0x400, 8, 0x101, 0⟩, (servedAt (setReg (setReg ({ ready with colophon := { State.reset.colophon with lcState := 1 } })
      (Reg.devMboxData 0) 0x800070003) (Reg.devMboxData 4) 0x1) ⟨.mc .west, 0x400, 8, 0x101, 0⟩).get (by decide), setReg (setReg
      ({ ready with colophon := { State.reset.colophon with lcState := 1 } }) (Reg.devMboxData 0) 0x800070003) (Reg.devMboxData 4) 0x1,
      by decide⟩,
    ⟨⟨.mc .west, 0x400, 8, 0x101, 0⟩, (servedAt (ready) ⟨.mc .west, 0x400, 8, 0x101, 0⟩).get (by decide), ready, by decide⟩,
    ⟨⟨.mc .west, 0x400, 8, 0x201, 0⟩, (servedAt (setPhase (setReg (ready) (Reg.devMboxData 0) 0x3) 3 1) ⟨.mc .west, 0x400, 8, 0x201,
      0⟩).get (by decide), setPhase (setReg (ready) (Reg.devMboxData 0) 0x3) 3 1, by decide⟩,
    ⟨⟨.mc .west, 0x400, 8, 0x301, 0⟩, (servedAt (setPhase (setReg (ready) (Reg.devMboxData 0) 0x3) 3 1) ⟨.mc .west, 0x400, 8, 0x301,
      0⟩).get (by decide), setPhase (setReg (ready) (Reg.devMboxData 0) 0x3) 3 1, by decide⟩,
    ⟨⟨.mc .west, (Reg.partBlk 3 + 0x158), 8, 1, 0⟩, (servedAt (setPhase (ready) 3 1) ⟨.mc .west, (Reg.partBlk 3 + 0x158), 8, 1, 0⟩).get
      (by decide), setPhase (ready) 3 1, by decide⟩,
    ⟨3, setPhase (ready) 3 1, by decide⟩,
    ⟨3, ready, by decide⟩,
    ⟨3, setPhase (ready) 3 3, by decide⟩,
    ⟨3, setPhase (ready) 3 2, by decide⟩,
    ⟨⟨.mc .west, 0x400, 8, 0x501, 0⟩, (servedAt (setReg (ready) (Reg.devMboxData 0) 0x4D) ⟨.mc .west, 0x400, 8, 0x501, 0⟩).get (by
      decide), setReg (ready) (Reg.devMboxData 0) 0x4D, by decide⟩,
    ⟨⟨.mc .west, 0x400, 8, 0x601, 0⟩, (servedAt (setReg ({ ready with nvs := { State.reset.nvs with ok := true } }) (Reg.devMboxData 0)
      0x405) ⟨.mc .west, 0x400, 8, 0x601, 0⟩).get (by decide), setReg ({ ready with nvs := { State.reset.nvs with ok := true } })
      (Reg.devMboxData 0) 0x405, by decide⟩,
    ⟨⟨.mc .west, 0x400, 8, 0x701, 0⟩, (servedAt (setReg ({ ready with nvs := { State.reset.nvs with ok := true } }) (Reg.devMboxData 0)
      0x405) ⟨.mc .west, 0x400, 8, 0x701, 0⟩).get (by decide), setReg ({ ready with nvs := { State.reset.nvs with ok := true } })
      (Reg.devMboxData 0) 0x405, by decide⟩,
    ⟨⟨.mc .west, 0x400, 8, 0x801, 0⟩, (servedAt ((fun s : State => { s with inForce := Map.put s.inForce Reg.devTwinCfg 0x4000000 })
      (setReg ({ ready with homes := [ServedHome.fresh 9 0], mirrors := [(0, ⟨9, 1, 2, 3, true, [], [], (Entry.fresh 0).dir, 0, 1⟩)] })
      (Reg.devMboxData 0) 0x9)) ⟨.mc .west, 0x400, 8, 0x801, 0⟩).get (by decide), (fun s : State =>
      { s with inForce := Map.put s.inForce Reg.devTwinCfg 0x4000000 }) (setReg
      ({ ready with homes := [ServedHome.fresh 9 0], mirrors := [(0, ⟨9, 1, 2, 3, true, [], [], (Entry.fresh 0).dir, 0, 1⟩)] })
      (Reg.devMboxData 0) 0x9), by decide⟩,
    ⟨⟨.mc .west, 0x400, 8, 0x801, 0⟩, (servedAt ((fun s : State => { s with inForce := Map.put s.inForce Reg.devTwinCfg 0 }) (ready))
      ⟨.mc .west, 0x400, 8, 0x801, 0⟩).get (by decide), (fun s : State => { s with inForce := Map.put s.inForce Reg.devTwinCfg 0 })
      (ready), by decide⟩⟩

/-- States and operands that meet the hypotheses of `Obligations.FunctionsAndRegionsComplete`, clause by clause. -/
theorem witness_FunctionsAndRegionsComplete :
    (∃ (w : RegWrite) (q : Site) (s : State), isReg w .dev0 0x358 = true ∧ servedAt s w = some q ∧ bit w.val 0 = true ∧ regionReasons s
      (fld (latchedIndex s w.who Reg.devRegionIndex) 0 10) (regionOf ((getLatch s w.who Reg.devRegionIndex).getD 0 0) ((getLatch s w.who
      Reg.devRegionIndex).getD 1 0)) = []) ∧
    (∃ (w : RegWrite) (q : Site) (s : State), isReg w .dev0 0x358 = true ∧ servedAt s w = some q ∧ bit w.val 0 = true ∧ regionReasons s
      (fld (latchedIndex s w.who Reg.devRegionIndex) 0 10) (regionOf ((getLatch s w.who Reg.devRegionIndex).getD 0 0) ((getLatch s w.who
      Reg.devRegionIndex).getD 1 0)) ≠ []) ∧
    (∃ (w : RegWrite) (q : Site) (s : State), isReg w .dev0 0x380 = true ∧ servedAt s w = some q ∧ fld w.val 0 2 ≠ 3 ∧ epochSeen s
      (viaHub w.who) < fld w.val 16 48) ∧
    (∃ (w : RegWrite) (q : Site) (s : State), isReg w .dev0 0x380 = true ∧ servedAt s w = some q ∧ fld w.val 0 2 = 3 ∨ fld w.val 16 48 ≤
      epochSeen s (viaHub w.who)) :=
  ⟨⟨⟨.mc .west, 0x358, 8, 1, 0⟩, (servedAt (setLatch ready (.mc .west) Reg.devRegionIndex 3 [0x10000, 0x8000004000000004]) ⟨.mc .west,
      0x358, 8, 1, 0⟩).get (by decide), setLatch ready (.mc .west) Reg.devRegionIndex 3 [0x10000, 0x8000004000000004], by decide⟩,
    ⟨⟨.mc .west, 0x358, 8, 1, 0⟩, (servedAt (setLatch ready (.mc .west) Reg.devRegionIndex 3 [0x10000, 0x8000004000000000]) ⟨.mc .west,
      0x358, 8, 1, 0⟩).get (by decide), setLatch ready (.mc .west) Reg.devRegionIndex 3 [0x10000, 0x8000004000000000], by decide⟩,
    ⟨⟨.pf .west, 0x380, 8, 0x50001, 0⟩, (servedAt (ready) ⟨.pf .west, 0x380, 8, 0x50001, 0⟩).get (by decide), ready, by decide⟩,
    ⟨⟨.pf .west, 0x380, 8, 1, 0⟩, (servedAt (ready) ⟨.pf .west, 0x380, 8, 1, 0⟩).get (by decide), ready, by decide⟩⟩

/-- States and operands that meet the hypotheses of `Obligations.RingsComplete`, clause by clause. -/
theorem witness_RingsComplete :
    (∃ (w : RegWrite) (q : Site) (s : State), (isReg w .q0 0x100 || isReg w .part 0x198) = true ∧ servedAt s w = some q ∧ ringRuns s
      q.1.inst (isDriver q.1) = true ∧ fld w.val 0 16 < sqSize s q.1.inst (isDriver q.1) ∧ outstanding (sqHead s q.1.inst (isDriver
      q.1)) (s.ring q.1.inst (isDriver q.1)).sqTail (sqSize s q.1.inst (isDriver q.1)) ≤ outstanding (sqHead s q.1.inst (isDriver q.1))
      (fld w.val 0 16) (sqSize s q.1.inst (isDriver q.1))) ∧
    (∃ (w : RegWrite) (q : Site) (s : State), (isReg w .q0 0x100 || isReg w .part 0x198) = true ∧ servedAt s w = some q ∧ ringRuns s
      q.1.inst (isDriver q.1) = false) ∧
    (∃ (w : RegWrite) (q : Site) (s : State), (isReg w .q0 0x100 || isReg w .part 0x198) = true ∧ servedAt s w = some q ∧ ringRuns s
      q.1.inst (isDriver q.1) = true ∧ sqSize s q.1.inst (isDriver q.1) ≤ fld w.val 0 16) ∧
    (∃ (w : RegWrite) (q : Site) (s : State), (isReg w .q0 0x108 || isReg w .part 0x1A0) = true ∧ servedAt s w = some q ∧ ringOn s
      q.1.inst (isDriver q.1) = true ∧ fld w.val 0 16 < cqSize s q.1.inst (isDriver q.1) ∧ outstanding (fld w.val 0 16) (cqTail s
      q.1.inst (isDriver q.1)) (cqSize s q.1.inst (isDriver q.1)) ≤ outstanding (s.ring q.1.inst (isDriver q.1)).cqHead (cqTail s
      q.1.inst (isDriver q.1)) (cqSize s q.1.inst (isDriver q.1)) ∧ outstanding (s.ring q.1.inst (isDriver q.1)).cqHead (fld w.val 0 16)
      (cqSize s q.1.inst (isDriver q.1)) ≤ outstanding (s.ring q.1.inst (isDriver q.1)).cqHead (cqTail s q.1.inst (isDriver q.1))
      (cqSize s q.1.inst (isDriver q.1))) ∧
    (∃ (w : RegWrite) (q : Site) (s : State), isReg w .q0 0x110 = true ∧ servedAt s w = some q ∧ ringOn s q.1.inst false = true ∧ fld
      w.val 0 12 < outSize s q.1.inst ∧ outstanding (s.ring q.1.inst false).outHead (fld w.val 0 12) (outSize s q.1.inst) ≤ outstanding
      (s.ring q.1.inst false).outHead (outTail s q.1.inst) (outSize s q.1.inst)) ∧
    (∃ (w : RegWrite) (q : Site) (s : State), (isReg w .q1 0x100 || isReg w .part 0x170) = true ∧ servedAt s w = some q ∧ bit w.val 0 =
      true ∧ ringSizesOk (isDriver q.1) w.val = true ∧ ringOn s q.1.inst (isDriver q.1) = false ∧ enableOk (setReg s (ringCtrl q.1.inst
      (isDriver q.1)) (w.val &&& (if (isDriver q.1) then word 0x1F1F00 else word 0xF1F1F00))) q.1.inst (isDriver q.1) = true) ∧
    (∃ (w : RegWrite) (q : Site) (s : State), (isReg w .q1 0x100 || isReg w .part 0x170) = true ∧ servedAt s w = some q ∧ bit w.val 0 =
      true ∧ ringSizesOk (isDriver q.1) w.val = true ∧ ringOn s q.1.inst (isDriver q.1) = false ∧ enableOk (setReg s (ringCtrl q.1.inst
      (isDriver q.1)) (w.val &&& (if (isDriver q.1) then word 0x1F1F00 else word 0xF1F1F00))) q.1.inst (isDriver q.1) = false) ∧
    (∃ (w : RegWrite) (q : Site) (s : State), (isReg w .q1 0x100 || isReg w .part 0x170) = true ∧ servedAt s w = some q ∧ bit w.val 0 =
      false ∧ ringSizesOk (isDriver q.1) w.val = true ∧ ringOn s q.1.inst (isDriver q.1) = true) ∧
    (∃ (part : Fin 64) (at_ : Nat) (s : State), (s.ring part.val false).unsignalled = some at_) :=
  ⟨⟨⟨.vf 0 .west, 0x100, 8, 5, 0⟩, (servedAt (setPageOwners (putBit (putFld (putFld (putFld (putBit (putBit (ready) (Reg.qRingCtrl 0) 0
      true) (Reg.qRingStatus 0) 44 true) (Reg.qRingCtrl 0) 8 5 6) (Reg.qRingCtrl 0) 16 5 6) (Reg.qRingCtrl 0) 24 4 4) (Reg.partCfg 0) 3
      true) 0 0) ⟨.vf 0 .west, 0x100, 8, 5, 0⟩).get (by decide), setPageOwners (putBit (putFld (putFld (putFld (putBit (putBit (ready)
      (Reg.qRingCtrl 0) 0 true) (Reg.qRingStatus 0) 44 true) (Reg.qRingCtrl 0) 8 5 6) (Reg.qRingCtrl 0) 16 5 6) (Reg.qRingCtrl 0) 24 4
      4) (Reg.partCfg 0) 3 true) 0 0, by decide⟩,
    ⟨⟨.vf 0 .west, 0x100, 8, 5, 0⟩, (servedAt (setPageOwners (putBit (ready) (Reg.partCfg 0) 3 true) 0 0) ⟨.vf 0 .west, 0x100, 8, 5,
      0⟩).get (by decide), setPageOwners (putBit (ready) (Reg.partCfg 0) 3 true) 0 0, by decide⟩,
    ⟨⟨.vf 0 .west, 0x100, 8, 64, 0⟩, (servedAt (setPageOwners (putBit (putFld (putFld (putFld (putBit (putBit (ready) (Reg.qRingCtrl 0)
      0 true) (Reg.qRingStatus 0) 44 true) (Reg.qRingCtrl 0) 8 5 6) (Reg.qRingCtrl 0) 16 5 6) (Reg.qRingCtrl 0) 24 4 4) (Reg.partCfg 0)
      3 true) 0 0) ⟨.vf 0 .west, 0x100, 8, 64, 0⟩).get (by decide), setPageOwners (putBit (putFld (putFld (putFld (putBit (putBit
      (ready) (Reg.qRingCtrl 0) 0 true) (Reg.qRingStatus 0) 44 true) (Reg.qRingCtrl 0) 8 5 6) (Reg.qRingCtrl 0) 16 5 6) (Reg.qRingCtrl
      0) 24 4 4) (Reg.partCfg 0) 3 true) 0 0, by decide⟩,
    ⟨⟨.vf 0 .west, 0x108, 8, 2, 0⟩, (servedAt (setPageOwners (putBit (putFld (putFld (putFld (putFld (putFld (putBit (putBit (ready)
      (Reg.qRingCtrl 0) 0 true) (Reg.qRingStatus 0) 44 true) (Reg.qRingCtrl 0) 8 5 6) (Reg.qRingCtrl 0) 16 5 6) (Reg.qRingCtrl 0) 24 4
      4) (Reg.qRingStatus 0) 16 16 3) (Reg.qRingStatus 0) 32 12 3) (Reg.partCfg 0) 3 true) 0 0) ⟨.vf 0 .west, 0x108, 8, 2, 0⟩).get (by
      decide), setPageOwners (putBit (putFld (putFld (putFld (putFld (putFld (putBit (putBit (ready) (Reg.qRingCtrl 0) 0 true)
      (Reg.qRingStatus 0) 44 true) (Reg.qRingCtrl 0) 8 5 6) (Reg.qRingCtrl 0) 16 5 6) (Reg.qRingCtrl 0) 24 4 4) (Reg.qRingStatus 0) 16
      16 3) (Reg.qRingStatus 0) 32 12 3) (Reg.partCfg 0) 3 true) 0 0, by decide⟩,
    ⟨⟨.vf 0 .west, 0x110, 8, 2, 0⟩, (servedAt (setPageOwners (putBit (putFld (putFld (putFld (putFld (putFld (putBit (putBit (ready)
      (Reg.qRingCtrl 0) 0 true) (Reg.qRingStatus 0) 44 true) (Reg.qRingCtrl 0) 8 5 6) (Reg.qRingCtrl 0) 16 5 6) (Reg.qRingCtrl 0) 24 4
      4) (Reg.qRingStatus 0) 16 16 3) (Reg.qRingStatus 0) 32 12 3) (Reg.partCfg 0) 3 true) 0 0) ⟨.vf 0 .west, 0x110, 8, 2, 0⟩).get (by
      decide), setPageOwners (putBit (putFld (putFld (putFld (putFld (putFld (putBit (putBit (ready) (Reg.qRingCtrl 0) 0 true)
      (Reg.qRingStatus 0) 44 true) (Reg.qRingCtrl 0) 8 5 6) (Reg.qRingCtrl 0) 16 5 6) (Reg.qRingCtrl 0) 24 4 4) (Reg.qRingStatus 0) 16
      16 3) (Reg.qRingStatus 0) 32 12 3) (Reg.partCfg 0) 3 true) 0 0, by decide⟩,
    ⟨⟨.vf 0 .west, 0x1100, 8, 0x4060601, 0⟩, (servedAt (setPageOwners (putBit (setPhase (setReg (setReg (setReg (setReg
      { ready with regions := [(1, ⟨0x100000, 4096, 0, false, 0, false, false, false, true⟩)] } (Reg.qSqBase 0) 1) (Reg.qCqBase 0)
      0x10001) (Reg.qShadowBase 0) 0x20001) (Reg.qOutBase 0) 0x30001) 0 1) (Reg.partCfg 0) 3 true) 0 0) ⟨.vf 0 .west, 0x1100, 8,
      0x4060601, 0⟩).get (by decide), setPageOwners (putBit (setPhase (setReg (setReg (setReg (setReg
      { ready with regions := [(1, ⟨0x100000, 4096, 0, false, 0, false, false, false, true⟩)] } (Reg.qSqBase 0) 1) (Reg.qCqBase 0)
      0x10001) (Reg.qShadowBase 0) 0x20001) (Reg.qOutBase 0) 0x30001) 0 1) (Reg.partCfg 0) 3 true) 0 0, by decide⟩,
    ⟨⟨.vf 0 .west, 0x1100, 8, 0x4060601, 0⟩, (servedAt (setPageOwners (putBit (ready) (Reg.partCfg 0) 3 true) 0 0) ⟨.vf 0 .west, 0x1100,
      8, 0x4060601, 0⟩).get (by decide), setPageOwners (putBit (ready) (Reg.partCfg 0) 3 true) 0 0, by decide⟩,
    ⟨⟨.vf 0 .west, 0x1100, 8, 0x4060600, 0⟩, (servedAt (setPageOwners (putBit (putFld (putFld (putFld (putBit (putBit (ready)
      (Reg.qRingCtrl 0) 0 true) (Reg.qRingStatus 0) 44 true) (Reg.qRingCtrl 0) 8 5 6) (Reg.qRingCtrl 0) 16 5 6) (Reg.qRingCtrl 0) 24 4
      4) (Reg.partCfg 0) 3 true) 0 0) ⟨.vf 0 .west, 0x1100, 8, 0x4060600, 0⟩).get (by decide), setPageOwners (putBit (putFld (putFld
      (putFld (putBit (putBit (ready) (Reg.qRingCtrl 0) 0 true) (Reg.qRingStatus 0) 44 true) (Reg.qRingCtrl 0) 8 5 6) (Reg.qRingCtrl 0)
      16 5 6) (Reg.qRingCtrl 0) 24 4 4) (Reg.partCfg 0) 3 true) 0 0, by decide⟩,
    ⟨0, 5, { ready with rings := [(0, { RingState.fresh 0 with unsignalled := some 5 })] }, by decide⟩⟩

/-- States and operands that meet the hypotheses of `Obligations.LeaseComplete`, clause by clause. -/
theorem witness_LeaseComplete :
    (∃ (h : Half) (s : State), hubLinkUp s = true) ∧
    (∃ (h : Half) (s : State), hubAlive s h = true ∧ nvsReach s h = true ∧ leaseValid s = false) ∧
    (∃ (h : Half) (s : State), hubAlive s h = true ∧ nvsReach s h = true ∧ leaseValid s = true ∧ s.nvs.lease.holder ≠ mcNum h) ∧
    (∃ (h : Half) (s : State), nvsReach s h = true ∧ leaseValid s = true ∧ s.nvs.lease.holder = mcNum h) ∧
    (∃ (h : Half) (s : State), nvsReach s h = true ∧ leaseValid s = false ∨ s.nvs.lease.holder ≠ mcNum h) ∧
    (∃ (h : Half) (s : State), nvsReach s h = true ∧ s.nvs.lease.holder = mcNum h ∧ s.nvs.lease.queued = 0) ∧
    (∃ (s : State), s.nvs.lease.holder ≠ 0 ∧ leaseValid s = false ∧ s.nvs.lease.queued = 0) ∧
    (∃ (h : Half) (s : State), s.nvs.lease.holder ≠ 0 ∧ leaseValid s = false ∧ s.nvs.lease.queued = mcNum h) ∧
    (∃ (h : Half) (s : State), mcRuns s h = true ∧ mcRuns s h.other = true ∧ s.nvs.lease.queued = 0) ∧
    (∃ (h : Half) (s : State), mcRuns s h = true ∧ mcRuns s h.other = false) ∧
    (∃ (h : Half) (s : State), mcRuns s h = true ∧ nvsReach s h = false ∧ (leaseValid s && decide (s.nvs.lease.holder = mcNum h)) =
      false ∧ peerHolds s h = false ∧ arbChooses s h = true) ∧
    (∃ (s : State), anyActs s = false ∧ leaseValid s = false ∧ getBit s Reg.devFailStatus 1 = false) ∧
    (∃ (s : State), hubLinkUp s = true ∧ s.nvs.lease.holder = 1) ∧
    (∃ (s : State), hubLinkUp s = true ∧ s.nvs.lease.holder = 2) :=
  ⟨⟨.west,
      { ready with nvs := { State.reset.nvs with timer := 0, lease := { State.reset.nvs.lease with holder := 0, expires := 0, epoch := 4, queued := 0 } }, hubLink := true },
      by decide⟩,
    ⟨.west, putFld
      ({ ready with nvs := { State.reset.nvs with timer := 0, lease := { State.reset.nvs.lease with holder := 0, expires := 0, epoch := 4, queued := 0 } }, hubLink := true })
      (Reg.hubMcStatus 0) 0 8 0x11, by decide⟩,
    ⟨.west, putFld
      ({ ready with nvs := { State.reset.nvs with timer := 0, lease := { State.reset.nvs.lease with holder := 2, expires := 5000, epoch := 4, queued := 0 } }, hubLink := true })
      (Reg.hubMcStatus 0) 0 8 0x11, by decide⟩,
    ⟨.west, putFld
      ({ ready with nvs := { State.reset.nvs with timer := 0, lease := { State.reset.nvs.lease with holder := 1, expires := 5000, epoch := 4, queued := 0 } }, hubLink := true })
      (Reg.hubMcStatus 0) 0 8 0x13, by decide⟩,
    ⟨.west, putFld
      ({ ready with nvs := { State.reset.nvs with timer := 0, lease := { State.reset.nvs.lease with holder := 2, expires := 5000, epoch := 4, queued := 0 } }, hubLink := true })
      (Reg.hubMcStatus 0) 0 8 0x13, by decide⟩,
    ⟨.west, putFld
      ({ ready with nvs := { State.reset.nvs with timer := 0, lease := { State.reset.nvs.lease with holder := 1, expires := 5000, epoch := 4, queued := 0 } }, hubLink := true })
      (Reg.hubMcStatus 0) 0 8 0x13, by decide⟩,
    ⟨putFld
      ({ ready with nvs := { State.reset.nvs with timer := 5000, lease := { State.reset.nvs.lease with holder := 1, expires := 5000, epoch := 4, queued := 0 } }, hubLink := true })
      (Reg.hubMcStatus 0) 0 8 0x13, by decide⟩,
    ⟨.east, putFld
      ({ ready with nvs := { State.reset.nvs with timer := 5000, lease := { State.reset.nvs.lease with holder := 1, expires := 5000, epoch := 4, queued := 2 } }, hubLink := true })
      (Reg.hubMcStatus 0) 0 8 0x13, by decide⟩,
    ⟨.west, putFld (putFld
      ({ ready with nvs := { State.reset.nvs with timer := 0, lease := { State.reset.nvs.lease with holder := 1, expires := 5000, epoch := 4, queued := 0 } }, hubLink := true })
      (Reg.hubMcStatus 0) 0 8 0x13) (Reg.hubMcStatus 1) 0 8 0x11, by decide⟩,
    ⟨.west, putFld (putFld
      ({ ready with nvs := { State.reset.nvs with timer := 0, lease := { State.reset.nvs.lease with holder := 1, expires := 5000, epoch := 4, queued := 0 } }, hubLink := true })
      (Reg.hubMcStatus 0) 0 8 0x13) (Reg.hubMcStatus 1) 0 8 0x0, by decide⟩,
    ⟨.west, setArb (putFld
      ({ ready with nvs := { State.reset.nvs with timer := 0, lease := { State.reset.nvs.lease with holder := 0, expires := 0, epoch := 4, queued := 0 } }, hubLink := true })
      (Reg.hubMcStatus 0) 0 8 0x1) .west 0x50001, by decide⟩,
    ⟨putFld (putFld
      ({ ready with nvs := { State.reset.nvs with timer := 0, lease := { State.reset.nvs.lease with holder := 0, expires := 0, epoch := 4, queued := 0 } }, hubLink := true })
      (Reg.hubMcStatus 0) 0 8 0x1) (Reg.hubMcStatus 1) 0 8 0x1, by decide⟩,
    ⟨{ ready with nvs := { State.reset.nvs with timer := 0, lease := { State.reset.nvs.lease with holder := 1, expires := 5000, epoch := 4, queued := 0 } }, hubLink := true },
      by decide⟩,
    ⟨{ ready with nvs := { State.reset.nvs with timer := 0, lease := { State.reset.nvs.lease with holder := 2, expires := 5000, epoch := 4, queued := 0 } }, hubLink := true },
      by decide⟩⟩

/-- States and operands that meet the hypotheses of `Obligations.MirrorEntriesComplete`, clause by clause. -/
theorem witness_MirrorEntriesComplete :
    (∃ (a : Arrival) (s : State), nextMsg s (isMirror 1) = some a ∧ findMirror s a.msg.home a.msg.index a.msg.gen = none) ∧
    (∃ (a : Arrival) (k : Nat) (s : State), nextMsg s (isMirror 2) = some a ∧ findMirror s a.msg.home a.msg.index a.msg.gen = some k) ∧
    (∃ (a : Arrival) (k : Nat) (s1 : State) (s : State), takeMsg s (isMirror 3) = some (a, true, s1) ∧ findMirror s a.msg.home
      a.msg.index a.msg.gen = some k) ∧
    (∃ (a : Arrival) (s1 : State) (s : State), takeMsg s (fun a => isMirror 4 a && rowsDone s a.msg) = some (a, true, s1)) ∧
    (∃ (a : Arrival) (k : Nat) (s : State), nextMsg s (isMirror 5) = some a ∧ findMirror s a.msg.home a.msg.index a.msg.gen = some k) ∧
    (∃ (a : Arrival) (k : Nat) (s : State), nextMsg s (isMirror 6) = some a ∧ findMirror s a.msg.home a.msg.index a.msg.gen = some k) ∧
    (∃ (a : Arrival) (k : Nat) (s1 : State) (s : State), takeMsg s (isMirror 7) = some (a, true, s1) ∧ findMirror s a.msg.home
      a.msg.index a.msg.gen = some k) ∧
    (∃ (a : Arrival) (k : Nat) (s : State), nextMsg s (isMirror 8) = some a ∧ findMirror s a.msg.home a.msg.index a.msg.gen = some k) ∧
    (∃ (a : Arrival) (s : State), nextMsg s (isMirror 9) = some a) ∧
    (∃ (a : Arrival) (s : State), nextMsg s (isMirror 10) = some a ∧ bit (inForceReg s Reg.devTwinCfg) 26 = true) ∧
    (∃ (a : Arrival) (k : Nat) (s : State), nextMsg s (isMirror 11) = some a ∧ findMirror s a.msg.home a.msg.index a.msg.gen = some k ∧
      bit (inForceReg s Reg.devTwinCfg) 26 = true) :=
  ⟨⟨⟨1, 0, ⟨0, 9, 0, 4, 0x40, false, 7, 0x100011, []⟩⟩, { ready with inbox := [⟨1, 0, ⟨0, 9, 0, 4, 0x40, false, 7, 0x100011, []⟩⟩] },
      by decide⟩,
    ⟨⟨1, 0, ⟨0, 9, 0, 4, 0x40, false, 7, 0x100012, (leBytes 4 5 ++ leBytes 4 77)⟩⟩, 0,
      { ready with inbox := [⟨1, 0, ⟨0, 9, 0, 4, 0x40, false, 7, 0x100012, (leBytes 4 5 ++ leBytes 4 77)⟩⟩], mirrors := [(0, ⟨Config.serialAt 9, 1, 2, 3, true, [], [], (Entry.fresh 0).dir, 0, 1⟩)], homes := [ServedHome.fresh (Config.serialAt 9) 0] },
      by decide, by simp [findMirror, Map.keysWhere, Msg.home, Msg.index, Msg.gen, fld]⟩,
    ⟨⟨1, 0, ⟨0, 9, 0, 4, 0x40, false, 7, 0x100013, []⟩⟩, 0, ((takeMsg
      ({ ready with inbox := [⟨1, 0, ⟨0, 9, 0, 4, 0x40, false, 7, 0x100013, []⟩⟩], mirrors := [(0, ⟨Config.serialAt 9, 1, 2, 3, true, [], [], (Entry.fresh 0).dir, 0, 1⟩)], homes := [ServedHome.fresh (Config.serialAt 9) 0] })
      (isMirror 3)).get (by decide)).2.2,
      { ready with inbox := [⟨1, 0, ⟨0, 9, 0, 4, 0x40, false, 7, 0x100013, []⟩⟩], mirrors := [(0, ⟨Config.serialAt 9, 1, 2, 3, true, [], [], (Entry.fresh 0).dir, 0, 1⟩)], homes := [ServedHome.fresh (Config.serialAt 9) 0] },
      rfl, by simp [findMirror, Map.keysWhere, Msg.home, Msg.index, Msg.gen, fld]⟩,
    ⟨⟨1, 0, ⟨0, 9, 0, 4, 0x40, false, 7, 0x100014, []⟩⟩, ((takeMsg
      ({ ready with inbox := [⟨1, 0, ⟨0, 9, 0, 4, 0x40, false, 7, 0x100014, []⟩⟩] }) (isMirror 4)).get (by decide)).2.2,
      { ready with inbox := [⟨1, 0, ⟨0, 9, 0, 4, 0x40, false, 7, 0x100014, []⟩⟩] }, rfl⟩,
    ⟨⟨1, 0, ⟨0, 9, 0, 4, 0x40, false, 7, 0x100015, [1, 2, 3]⟩⟩, 0,
      { ready with inbox := [⟨1, 0, ⟨0, 9, 0, 4, 0x40, false, 7, 0x100015, [1, 2, 3]⟩⟩], mirrors := [(0, ⟨Config.serialAt 9, 1, 2, 3, true, [], [], (Entry.fresh 0).dir, 0, 1⟩)], homes := [ServedHome.fresh (Config.serialAt 9) 0] },
      by decide, by simp [findMirror, Map.keysWhere, Msg.home, Msg.index, Msg.gen, fld]⟩,
    ⟨⟨1, 0, ⟨0, 9, 0, 4, 0x40, false, 7, 0x100016, []⟩⟩, 0,
      { ready with inbox := [⟨1, 0, ⟨0, 9, 0, 4, 0x40, false, 7, 0x100016, []⟩⟩], mirrors := [(0, ⟨Config.serialAt 9, 1, 2, 3, true, [], [], (Entry.fresh 0).dir, 0, 1⟩)], homes := [ServedHome.fresh (Config.serialAt 9) 0] },
      by decide, by simp [findMirror, Map.keysWhere, Msg.home, Msg.index, Msg.gen, fld]⟩,
    ⟨⟨1, 0, ⟨0, 9, 0, 4, 0x40, false, 7, 0x100017, []⟩⟩, 0, ((takeMsg
      ({ ready with inbox := [⟨1, 0, ⟨0, 9, 0, 4, 0x40, false, 7, 0x100017, []⟩⟩], mirrors := [(0, ⟨Config.serialAt 9, 1, 2, 3, true, [], [], (Entry.fresh 0).dir, 0, 1⟩)], homes := [ServedHome.fresh (Config.serialAt 9) 0] })
      (isMirror 7)).get (by decide)).2.2,
      { ready with inbox := [⟨1, 0, ⟨0, 9, 0, 4, 0x40, false, 7, 0x100017, []⟩⟩], mirrors := [(0, ⟨Config.serialAt 9, 1, 2, 3, true, [], [], (Entry.fresh 0).dir, 0, 1⟩)], homes := [ServedHome.fresh (Config.serialAt 9) 0] },
      rfl, by simp [findMirror, Map.keysWhere, Msg.home, Msg.index, Msg.gen, fld]⟩,
    ⟨⟨1, 0, ⟨0, 9, 0, 4, 0x40, false, 7, 0x100018, []⟩⟩, 0,
      { ready with inbox := [⟨1, 0, ⟨0, 9, 0, 4, 0x40, false, 7, 0x100018, []⟩⟩], mirrors := [(0, ⟨Config.serialAt 9, 1, 2, 3, true, [], [], (Entry.fresh 0).dir, 0, 1⟩)], homes := [ServedHome.fresh (Config.serialAt 9) 0] },
      by decide, by simp [findMirror, Map.keysWhere, Msg.home, Msg.index, Msg.gen, fld]⟩,
    ⟨⟨1, 0, ⟨0, 9, 0, 4, 0x40, false, 7, 0x100019, []⟩⟩,
      { ready with inbox := [⟨1, 0, ⟨0, 9, 0, 4, 0x40, false, 7, 0x100019, []⟩⟩], mirrors := [(0, ⟨Config.serialAt 9, 1, 2, 3, true, [], [], (Entry.fresh 0).dir, 0, 1⟩)], homes := [ServedHome.fresh (Config.serialAt 9) 0] },
      by decide⟩,
    ⟨⟨1, 0, ⟨0, 9, 0, 4, 0x40, false, 7, 0x10001A, []⟩⟩,
      { ready with inbox := [⟨1, 0, ⟨0, 9, 0, 4, 0x40, false, 7, 0x10001A, []⟩⟩], mirrors := [(0, ⟨Config.serialAt 9, 1, 2, 3, true, [], [], (Entry.fresh 0).dir, 0, 1⟩)], homes := [ServedHome.fresh (Config.serialAt 9) 0] },
      by decide⟩,
    ⟨⟨1, 0, ⟨0, 9, 0, 4, 0x40, false, 7, 0x10001B, []⟩⟩, 0,
      { ready with inbox := [⟨1, 0, ⟨0, 9, 0, 4, 0x40, false, 7, 0x10001B, []⟩⟩], mirrors := [(0, ⟨Config.serialAt 9, 1, 2, 3, true, [], [], (Entry.fresh 0).dir, 0, 1⟩)], homes := [ServedHome.fresh (Config.serialAt 9) 0] },
      by decide, by simp [findMirror, Map.keysWhere, Msg.home, Msg.index, Msg.gen, fld], by decide⟩⟩

/-- States and operands that meet the hypotheses of `Obligations.TwinHomesComplete`, clause by clause. -/
theorem witness_TwinHomesComplete :
    (∃ (req : Fin 32768) (s : State), (s.entry req.val).twin = 1 ∧ (s.entry req.val).synced = true ∧ (s.entry req.val).hasSkip skSuspect
      = true ∧ mirrors s = true ∧ req.val ∉ s.home.handed ∧ req.val ∉ s.home.declared) ∧
    (∃ (a : Arrival) (s : State), nextMsg s (isMirror 12) = some a ∧ (s.entry a.msg.index).gen = a.msg.gen ∧ (s.entry a.msg.index).twin
      ≠ 0) ∧
    (∃ (s : State), s.home.steps ≠ [] ∧ usablePorts s ≠ []) ∧
    (∃ (req : Fin 32768) (s : State), req.val ∈ s.home.handed) ∧
    (∃ (s : State), s.home.steps ≠ [] ∧ usablePorts s = [] ∧ getBit s Reg.devFailStatus 0 = false) ∧
    (∃ (serial : BitVec 64) (s : State), (s.homes.any fun h => h.serial = serial ∧ silentFor s h = true) = true) :=
  ⟨⟨5, putFld
      ({ ready with entries := [(5, { Entry.fresh 0 with state := 3, twin := 1, synced := true, gen := 2, skips := 2 ^ skSuspect })], clock := { State.reset.clock with aligned := true } })
      Reg.devTwinStatus 0 2 1, by decide⟩,
    ⟨⟨1, 0, ⟨0, 9, 0, 4, 0x40, false, 7, 0x10005C, [1, 0]⟩⟩,
      { ready with inbox := [⟨1, 0, ⟨0, 9, 0, 4, 0x40, false, 7, 0x10005C, [1, 0]⟩⟩], entries := [(5, { Entry.fresh 0 with state := 3, twin := 1, synced := true, gen := 2 })] },
      by decide⟩,
    ⟨({ ready with home := { State.reset.home with steps := [(9, [])] } }).setPort 1 ⟨.up, 0, 0, 0, true, 0, 0, false⟩, by decide⟩,
    ⟨5,
      { ready with entries := [(5, { Entry.fresh 0 with state := 3, twin := 1, synced := true, gen := 2 })], home := { State.reset.home with handed := [5] } },
      by decide⟩,
    ⟨{ ready with home := { State.reset.home with steps := [(9, [])] } }, by decide⟩,
    ⟨9, { ready with homes := [ServedHome.fresh 9 0], clock := { State.reset.clock with now := 20000000 } }, by decide⟩⟩

/-- States and operands that meet the hypotheses of `Obligations.EventLogComplete`, clause by clause. -/
theorem witness_EventLogComplete :
    (∃ (westFail eastFail : Bool) (e : EventRec) (rest : List EventRec) (s : State), s.events.queue = e :: rest ∧ logWrites s = true) ∧
    (∃ (e : EventRec) (rest : List EventRec) (s : State), s.events.queue = e :: rest ∧ logWrites s = false) ∧
    (∃ (type : Nat) (x : CoalSlot) (rest : Map CoalSlot) (s : State), s.events.coal = (type, x) :: rest ∧ s.events.queue.length ≤ 256) ∧
    (∃ (s : State), getBit s Reg.nvsStatus 0 = false) ∧
    (∃ (s : State), s.nvs.writesStopped = false ∧ getBit s Reg.nvsStatus 0 = true) :=
  ⟨⟨false, false, ⟨0, 0, 0x40, false, false, 0xFE, 0, 0xFFFF, 2, 0, 0, 0⟩, [],
      { ready with nvs := { State.reset.nvs with ok := true }, events := { State.reset.events with queue := [⟨0, 0, 0x40, false, false, 0xFE, 0, 0xFFFF, 2, 0, 0, 0⟩], coal := [] } },
      by decide⟩,
    ⟨⟨0, 0, 0x40, false, false, 0xFE, 0, 0xFFFF, 2, 0, 0, 0⟩, [],
      { ready with events := { State.reset.events with queue := [⟨0, 0, 0x40, false, false, 0xFE, 0, 0xFFFF, 2, 0, 0, 0⟩], coal := [] } },
      by decide⟩,
    ⟨0x40, ⟨3, 5, 6, 7⟩, [], { ready with events := { State.reset.events with queue := [], coal := [(0x40, ⟨3, 5, 6, 7⟩)] } }, by
      decide⟩,
    ⟨ready, by decide⟩,
    ⟨putBit ready Reg.nvsStatus 0 true, by decide⟩⟩

/-- States and operands that meet the hypotheses of `Obligations.SnapshotsComplete`, clause by clause. -/
theorem witness_SnapshotsComplete :
    (∃ (w : RegWrite) (q : Site) (s : State), isReg w .cnt0 0x100 = true ∧ servedAt s w = some q ∧ bit w.val 32 = true ∧ s.capture =
      none ∧ fld w.val 0 32 &&& reservedGroups = 0 ∧ getFld s Reg.cntSnapAt 0 63 = 0 ∨ s.clock.now + 1000 ≤ getFld s Reg.cntSnapAt 0 63) ∧
    (∃ (w : RegWrite) (q : Site) (s : State), isReg w .cnt0 0x100 = true ∧ servedAt s w = some q ∧ bit w.val 33 = true ∧ s.capture =
      none ∧ fld w.val 0 32 &&& reservedGroups = 0 ∧ getFld s Reg.cntSnapAt 0 63 = 0 ∨ s.clock.now + 1000 ≤ getFld s Reg.cntSnapAt 0 63) ∧
    (∃ (w : RegWrite) (q : Site) (s : State), isReg w .cnt0 0x100 = true ∧ servedAt s w = some q ∧ bit w.val 32 = true ∧
      s.capture.isSome = true) ∧
    (∃ (x : GroupCapture) (g : Nat) (s : State), s.capture = some x ∧ x.at_ ≤ s.clock.now ∧ x.groups = 2 ^ g ∧ g < 14 ∧ x.clear = false
      ∧ x.snap = true ∧ fld (Map.get (fun _ => 0) s.snap (Reg.cntGrpStamp g)) 0 61 = 0) ∧
    (∃ (x : GroupCapture) (g : Nat) (s : State), s.capture = some x ∧ x.at_ ≤ s.clock.now ∧ x.groups = 2 ^ g ∧ g < 14 ∧ x.clear = true ∧
      x.snap = false) ∧
    (∃ (s : State), getFld s Reg.cntAuto 0 16 ≠ 0 ∧ stopState s < 3) :=
  ⟨⟨⟨.mc .west, 0x502100, 8, 0x100000008, 0⟩, (servedAt (ready) ⟨.mc .west, 0x502100, 8, 0x100000008, 0⟩).get (by decide), ready, by
      decide⟩,
    ⟨⟨.mc .west, 0x502100, 8, 0x200000008, 0⟩, (servedAt (ready) ⟨.mc .west, 0x502100, 8, 0x200000008, 0⟩).get (by decide), ready, by
      decide⟩,
    ⟨⟨.mc .west, 0x502100, 8, 0x100000008, 0⟩, (servedAt ({ ready with capture := some ⟨5, 0x8, true, true⟩ }) ⟨.mc .west, 0x502100, 8,
      0x100000008, 0⟩).get (by decide), { ready with capture := some ⟨5, 0x8, true, true⟩ }, by decide⟩,
    ⟨⟨5, 0x8, false, true⟩, 3, { ready with capture := some ⟨5, 0x8, false, true⟩, clock := { State.reset.clock with now := 9 } }, by
      decide⟩,
    ⟨⟨5, 0x8, true, false⟩, 3, { ready with capture := some ⟨5, 0x8, true, false⟩, clock := { State.reset.clock with now := 9 } }, by
      decide⟩,
    ⟨putFld ready Reg.cntAuto 0 16 5, by decide⟩⟩

/-- States and operands that meet the hypotheses of `Obligations.TraceComplete`, clause by clause. -/
theorem witness_TraceComplete :
    (∃ (src : Fin 24) (r : TraceRec) (rest : List TraceRec) (s : State), (s.source src).fifo = r :: rest ∧ (s.hub (traceHub
      src)).trace.frozen = false ∧ (s.hub (traceHub src)).trace.dumping = false ∧ (s.hub (traceHub src)).trace.count < storeSize) ∧
    (∃ (w : RegWrite) (q : Site) (s : State), isReg w .trc 0x100 = true ∧ servedAt s w = some q ∧ bit w.val 3 = true ∧ bit w.val 4 =
      false) ∧
    (∃ (w : RegWrite) (q : Site) (s : State), isReg w .trc 0x100 = true ∧ servedAt s w = some q ∧ bit w.val 3 = false ∧ bit w.val 4 =
      true) ∧
    (∃ (w : RegWrite) (q : Site) (s : State), isReg w .trc 0x160 = true ∧ servedAt s w = some q ∧ bit w.val 0 = true ∧ (s.hub (pageHalf
      q.1)).trace.dumping = false ∧ ((s.region (baseRegion (getReg s (Reg.trcDumpCtrl (pageHalf q.1).idx)))).devOwned && regionOk s
      (baseRegion (getReg s (Reg.trcDumpCtrl (pageHalf q.1).idx))) (baseOffset (getReg s (Reg.trcDumpCtrl (pageHalf q.1).idx))) (32 *
      (s.hub (pageHalf q.1)).trace.count) (some (pageHalf q.1).idx) 0 true) = true) ∧
    (∃ (w : RegWrite) (q : Site) (s : State), isReg w .trc 0x160 = true ∧ servedAt s w = some q ∧ bit w.val 0 = true ∧ (s.hub (pageHalf
      q.1)).trace.dumping = false ∧ ((s.region (baseRegion (getReg s (Reg.trcDumpCtrl (pageHalf q.1).idx)))).devOwned && regionOk s
      (baseRegion (getReg s (Reg.trcDumpCtrl (pageHalf q.1).idx))) (baseOffset (getReg s (Reg.trcDumpCtrl (pageHalf q.1).idx))) (32 *
      (s.hub (pageHalf q.1)).trace.count) (some (pageHalf q.1).idx) 0 true) = false) ∧
    (∃ (h : Half) (s : State), (s.hub h).trace.dumping = true) :=
  ⟨⟨3, { TraceRec.blank 0 with kind := 3, index := 9 }, [],
      { ready with sources := [(3, ⟨[{ TraceRec.blank 0 with kind := 3, index := 9 }], 0⟩)] }, by decide⟩,
    ⟨⟨.mc .west, 0x500100, 8, 9, 0⟩, (servedAt
      ({ ready with hubWest := { State.reset.hubWest with trace := ⟨[(0, { TraceRec.blank 0 with kind := 3, index := 9 })], 1, 0, false, true, false⟩ } })
      ⟨.mc .west, 0x500100, 8, 9, 0⟩).get (by decide),
      { ready with hubWest := { State.reset.hubWest with trace := ⟨[(0, { TraceRec.blank 0 with kind := 3, index := 9 })], 1, 0, false, true, false⟩ } },
      by decide⟩,
    ⟨⟨.mc .west, 0x500100, 8, 0x700000011, 0⟩, (servedAt (ready) ⟨.mc .west, 0x500100, 8, 0x700000011, 0⟩).get (by decide), ready, by
      decide⟩,
    ⟨⟨.mc .west, 0x500160, 8, 1, 0⟩, (servedAt (setReg
      ({ ready with hubWest := { State.reset.hubWest with trace := ⟨[(0, { TraceRec.blank 0 with kind := 3, index := 9 })], 1, 0, false, false, false⟩ }, regions := [(1, ⟨0x100000, 16, 0, true, 0, false, false, false, true⟩)] })
      (Reg.trcDumpCtrl 0) 1) ⟨.mc .west, 0x500160, 8, 1, 0⟩).get (by decide), setReg
      ({ ready with hubWest := { State.reset.hubWest with trace := ⟨[(0, { TraceRec.blank 0 with kind := 3, index := 9 })], 1, 0, false, false, false⟩ }, regions := [(1, ⟨0x100000, 16, 0, true, 0, false, false, false, true⟩)] })
      (Reg.trcDumpCtrl 0) 1, by decide⟩,
    ⟨⟨.mc .west, 0x500160, 8, 1, 0⟩, (servedAt (ready) ⟨.mc .west, 0x500160, 8, 1, 0⟩).get (by decide), ready, by decide⟩,
    ⟨.west, { ready with hubWest := { State.reset.hubWest with trace := { State.reset.hubWest.trace with dumping := true } } }, by
      decide⟩⟩

/-- States and operands that meet the hypotheses of `Obligations.StopsComplete`, clause by clause. -/
theorem witness_StopsComplete :
    (∃ (w : RegWrite) (q : Site) (s : State), isReg w .cnt0 0x140 = true ∧ servedAt s w = some q ∧ fld w.val 16 16 = 0x5A25 ∧ bit w.val
      2 = true ∧ fld w.val 0 2 = 1 ∧ stopState s = 0) ∧
    (∃ (w : RegWrite) (q : Site) (s : State), isReg w .cnt0 0x140 = true ∧ servedAt s w = some q ∧ fld w.val 16 16 = 0x5A25 ∧ bit w.val
      2 = true ∧ fld w.val 0 2 = 2 ∧ stopState s = 0) ∧
    (∃ (w : RegWrite) (q : Site) (s : State), isReg w .cnt0 0x140 = true ∧ servedAt s w = some q ∧ fld w.val 16 16 = 0x5A25 ∧ bit w.val
      2 = true ∧ fld w.val 0 2 = 2 ∧ stopState s = 1 ∧ stopAtBoundary s = true) ∧
    (∃ (w : RegWrite) (q : Site) (s : State), isReg w .cnt0 0x140 = true ∧ servedAt s w = some q ∧ fld w.val 16 16 = 0x5A25 ∧ bit w.val
      2 = true ∧ 2 < stopState s) ∧
    (∃ (w : RegWrite) (q : Site) (s : State), isReg w .cnt0 0x140 = true ∧ servedAt s w = some q ∧ fld w.val 16 16 = 0x5A25 ∧ bit w.val
      2 = false ∧ bit w.val 3 = true ∧ stopState s = 1 ∨ stopState s = 2) ∧
    (∃ (w : RegWrite) (q : Site) (s : State), isReg w .cnt0 0x140 = true ∧ servedAt s w = some q ∧ fld w.val 16 16 = 0x5A25 ∧ bit w.val
      2 = false ∧ bit w.val 3 = true ∧ stopState s = 3) ∧
    (∃ (w : RegWrite) (q : Site) (s : State), isReg w .cnt0 0x140 = true ∧ servedAt s w = some q ∧ fld w.val 16 16 = 0x5A25 ∧ bit w.val
      2 = false ∧ bit w.val 3 = true ∧ stopState s = 4) ∧
    (∃ (timeout : Bool) (s : State), stopDue s = true ∧ stopState s ≤ 2 ∧ atBoundary s = true ∧ openMsgs s = 0 ∨ timeout = true) ∧
    (∃ (s : State), stopDue s = true ∧ stopState s ≤ 2 ∧ atBoundary s = true ∧ openMsgs s ≠ 0) ∧
    (∃ (offs : List (BitVec 7)) (s : State), offs.length = 24 ∧ stopState s = 1 ∧ stopAtBoundary s = false ∧ stopAt s ≤ s.clock.now ∧
      haltsOk s (offs.map (·.toNat)) = true) ∧
    (∃ (s : State), stopState s = 5) :=
  ⟨⟨⟨.mc .west, 0x502140, 8, 0x5A250005, 0⟩, (servedAt (ready) ⟨.mc .west, 0x502140, 8, 0x5A250005, 0⟩).get (by decide), ready, by
      decide⟩,
    ⟨⟨.mc .west, 0x502140, 8, 0x5A250006, 0⟩, (servedAt (ready) ⟨.mc .west, 0x502140, 8, 0x5A250006, 0⟩).get (by decide), ready, by
      decide⟩,
    ⟨⟨.mc .west, 0x502140, 8, 0x5A250006, 0⟩, (servedAt (setReg (setStop ready 1) Reg.cntStopCtrl 1) ⟨.mc .west, 0x502140, 8,
      0x5A250006, 0⟩).get (by decide), setReg (setStop ready 1) Reg.cntStopCtrl 1, by decide⟩,
    ⟨⟨.mc .west, 0x502140, 8, 0x5A250005, 0⟩, (servedAt (setReg (setStop ready 3) Reg.cntStopCtrl 1) ⟨.mc .west, 0x502140, 8,
      0x5A250005, 0⟩).get (by decide), setReg (setStop ready 3) Reg.cntStopCtrl 1, by decide⟩,
    ⟨⟨.mc .west, 0x502140, 8, 0x5A250008, 0⟩, (servedAt (setReg (setStop ready 1) Reg.cntStopCtrl 1) ⟨.mc .west, 0x502140, 8,
      0x5A250008, 0⟩).get (by decide), setReg (setStop ready 1) Reg.cntStopCtrl 1, by decide⟩,
    ⟨⟨.mc .west, 0x502140, 8, 0x5A250008, 0⟩, (servedAt (setReg (setStop ready 3) Reg.cntStopCtrl 1) ⟨.mc .west, 0x502140, 8,
      0x5A250008, 0⟩).get (by decide), setReg (setStop ready 3) Reg.cntStopCtrl 1, by decide⟩,
    ⟨⟨.mc .west, 0x502140, 8, 0x5A250008, 0⟩, (servedAt (setReg (setStop ready 4) Reg.cntStopCtrl 2) ⟨.mc .west, 0x502140, 8,
      0x5A250008, 0⟩).get (by decide), setReg (setStop ready 4) Reg.cntStopCtrl 2, by decide⟩,
    ⟨false, (fun s : State => { s with inForce := Map.put s.inForce Reg.cntStopAt 5 }) (setReg (setStop
      { ready with clock := { State.reset.clock with now := 9 } } 1) Reg.cntStopCtrl 1), by decide⟩,
    ⟨(fun s : State => { s with sent := [⟨⟨0, 3, 5, 1, 0x11, true, 9, 0, []⟩, 0⟩] }) ((fun s : State =>
      { s with inForce := Map.put s.inForce Reg.cntStopAt 5 }) (setReg (setStop
      { ready with clock := { State.reset.clock with now := 9 } } 1) Reg.cntStopCtrl 1)), by decide⟩,
    ⟨List.replicate 24 5, (fun s : State => { s with inForce := Map.put s.inForce Reg.cntStopAt 5 }) (setReg (setStop
      { ready with clock := { State.reset.clock with now := 9 } } 1) Reg.cntStopCtrl 2), by decide⟩,
    ⟨setReg (setStop ready 5) Reg.cntStopCtrl 2, by decide⟩⟩

/-- States and operands that meet the hypotheses of `Obligations.StepRunsFront`, clause by clause. -/
theorem witness_StepRunsFront :
    (∃ (c : Instr) (rest : List Instr) (s : State), s.pending = c :: rest) :=
    ⟨.epochIn, [], { State.reset with pending := [.epochIn] }, by decide⟩

/-- States and operands that meet the hypotheses of `Obligations.IdleTick`, clause by clause. -/
theorem witness_IdleTick :
    (∃ (s : State), s.pending = []) :=
    ⟨State.reset, by decide⟩

/-- States and operands that meet the hypotheses of `Obligations.WellFormedRuns`, clause by clause. -/
theorem witness_WellFormedRuns :
    (∃ (c : Instr) (s : State), c.wf = true ∧ c.fits s = true) :=
    ⟨.epochIn, State.reset, by decide⟩

/-- States and operands that meet the hypotheses of `Obligations.IllFormedFaults`, clause by clause. -/
theorem witness_IllFormedFaults :
    (∃ (c : Instr) (s : State), (c.wf && c.fits s) = false) :=
    ⟨.idleFlit 0 [], State.reset, by decide⟩

/-- States and operands that meet the hypotheses of `Obligations.ResetState`, clause by clause. -/
theorem witness_ResetState :
    (∃ (s : State), s = State.reset) :=
    ⟨State.reset, rfl⟩

/-- States and operands that meet the hypotheses of `Obligations.StepKeepsCanon`, clause by clause. -/
theorem witness_StepKeepsCanon :
    (∃ (s t : State), Canon s ∧ step s = .next t) :=
    ⟨State.reset, tick State.reset, ⟨⟨by decide, by decide, by decide, by decide⟩, rfl⟩⟩

/-- States and operands that meet the hypotheses of `Obligations.HistoryStays`, clause by clause. -/
theorem witness_HistoryStays :
    (∃ (s t : State), step s = .next t) :=
    ⟨State.reset, tick State.reset, rfl⟩

/-- States and operands that meet the hypotheses of `Obligations.CommandsKeepFrames`, clause by clause. -/
theorem witness_CommandsKeepFrames :
    (∃ (c : Instr) (s t : State) (p : Part), exec c s = .next t ∧ mayChange p c = false) ∧
    (∃ (c : Instr) (s t : State), exec c s = .next t) :=
  ⟨⟨.clockGate 3, State.reset, ((fun o => match o with | .next t => t | _ => State.reset) (exec (.clockGate 3) State.reset)), .memory,
      ⟨rfl, rfl⟩⟩,
    ⟨.clockGate 3, State.reset, ((fun o => match o with | .next t => t | _ => State.reset) (exec (.clockGate 3) State.reset)), rfl⟩⟩

/-- States and operands that meet the hypotheses of `Obligations.RegisterAccessRules`, clause by clause. -/
theorem witness_RegisterAccessRules :
    (∃ (w : RegWrite) (s : State), accessCauses s w.access true ≠ []) ∧
    (∃ (a : Access) (s : State), accessCauses s a false ≠ []) ∧
    (∃ (w : RegWrite) (p : PageRef) (off key : Nat) (row : Option (RegRow × Nat)) (s : State), accessCauses s w.access true = [] ∧
      resolve w.who w.off = some (.reg p off key row) ∧ blkState s p = 3 ∧ writeNames w = some (.core, 0x010)) :=
  ⟨⟨⟨.pf .west, 0x300, 4, 5, 0⟩, ready, by decide⟩,
    ⟨⟨.pf .west, 0x22C, 4⟩, ready, by decide⟩,
    ⟨⟨.mc .west, 0x101110, 8, 1, 0⟩, ((locate 0x101000).get (by decide)), 0x110, 0x101110, (((locate 0x101000).bind fun p => some
      (pageRow p 0x110)).get (by decide)), (ready).setDie 0 { State.die (ready) 0 with power := .powerGated }, by decide⟩⟩

/-- States and operands that meet the hypotheses of `Obligations.CausesAndCaptures`, clause by clause. -/
theorem witness_CausesAndCaptures :
    (∃ (w : RegWrite) (q : Site) (m : Word) (s : State), isHeader w 0x020 = true ∧ servedAt s w = some q ∧ m = word (15 + (2 ^ intCauses
      q.1.type - 1) * 2 ^ 16) ∧ getFld s (blkIntColl q.1.base) 0 16 < 0xFFFE) ∧
    (∃ (w : RegWrite) (q : Site) (s : State), isHeader w 0x020 = true ∧ servedAt s w = some q ∧ bit w.val 0 = true ∧ getBit s (blkIntRaw
      q.1.base) 0 = true ∧ bit w.hwSet 0 = false) ∧
    (∃ (blk code source part addr detail : Nat) (s : State), isBlock blk = true ∧ getBit s (blkIntRaw blk) 0 = false) ∧
    (∃ (blk code source part addr detail : Nat) (s : State), isBlock blk = true ∧ getBit s (blkIntRaw blk) 0 = true) :=
  ⟨⟨⟨.mc .west, 0x40020, 8, 0x70001, 0⟩, (servedAt (putFld ready (blkIntRaw 0x40000) 0 64 0x30001) ⟨.mc .west, 0x40020, 8, 0x70001,
      0⟩).get (by decide), word (15 + (2 ^ intCauses ((servedAt (putFld ready (blkIntRaw 0x40000) 0 64 0x30001) (⟨.mc .west, 0x40020, 8,
      0x70001, 0⟩)).get (by decide)).1.type - 1) * 2 ^ 16), putFld ready (blkIntRaw 0x40000) 0 64 0x30001, by decide⟩,
    ⟨⟨.mc .west, 0x40020, 8, 0x70001, 0⟩, (servedAt (putFld ready (blkIntRaw 0x40000) 0 64 0x30001) ⟨.mc .west, 0x40020, 8, 0x70001,
      0⟩).get (by decide), putFld ready (blkIntRaw 0x40000) 0 64 0x30001, by decide⟩,
    ⟨0x40000, 0x405, 0, 3, 0, 9, ready, by decide⟩,
    ⟨0x40000, 0x405, 0, 3, 0, 9, putBit ready (blkIntRaw 0x40000) 0 true, by decide⟩⟩

/-- States and operands that meet the hypotheses of `Obligations.CounterWrites`, clause by clause. -/
theorem witness_CounterWrites :
    (∃ (w : RegWrite) (inc : Nat) (q : Site) (s : State), namesCounter w = true ∧ servedAt s w = some q) ∧
    (∃ (w : RegWrite) (inc : Nat) (q : Site) (s : State), namesCounter w = true ∧ servedAt s w = some q ∧ (2 ^ 48 ≤ fld (getCnt s
      q.2.2.1) 0 48 + inc)) ∧
    (∃ (w : RegWrite) (inc : Nat) (q : Site) (s : State), namesCounter w = true ∧ servedAt s w = some q ∧ ¬ (2 ^ 48 ≤ fld (getCnt s
      q.2.2.1) 0 48 + inc) ∧ bit w.val 63 = true) ∧
    (∃ (w : RegWrite) (inc : Nat) (q : Site) (s : State), namesCounter w = true ∧ servedAt s w = some q ∧ ¬ (2 ^ 48 ≤ fld (getCnt s
      q.2.2.1) 0 48 + inc) ∧ bit w.val 63 = false) :=
  ⟨⟨⟨.mc .west, 0x11118, 8, 77, 0⟩, 1, (servedAt (ready) ⟨.mc .west, 0x11118, 8, 77, 0⟩).get (by decide), ready, by decide⟩,
    ⟨⟨.mc .west, 0x11118, 8, 77, 0⟩, 1, (servedAt (setCnt ready 0x11118 (word (2 ^ 48 - 1 + 2 ^ 63))) ⟨.mc .west, 0x11118, 8, 77,
      0⟩).get (by decide), setCnt ready 0x11118 (word (2 ^ 48 - 1 + 2 ^ 63)), by decide⟩,
    ⟨⟨.mc .west, 0x11118, 8, 0x800000000000004D, 0⟩, 0, (servedAt (setCnt ready 0x11118 (word (2 ^ 48 - 1 + 2 ^ 63))) ⟨.mc .west,
      0x11118, 8, 0x800000000000004D, 0⟩).get (by decide), setCnt ready 0x11118 (word (2 ^ 48 - 1 + 2 ^ 63)), by decide⟩,
    ⟨⟨.mc .west, 0x11118, 8, 77, 0⟩, 0, (servedAt (setCnt ready 0x11118 (word (2 ^ 48 - 1 + 2 ^ 63))) ⟨.mc .west, 0x11118, 8, 77,
      0⟩).get (by decide), setCnt ready 0x11118 (word (2 ^ 48 - 1 + 2 ^ 63)), by decide⟩⟩

/-- States and operands that meet the hypotheses of `Obligations.EventsQueued`, clause by clause. -/
theorem witness_EventsQueued :
    (∃ (type part block half : Nat) (d0 d1 : Word) (s : State), evSeverity type ≠ 3 ∧ s.events.coalescing = false ∧
      s.events.queue.length ≤ 496) ∧
    (∃ (type part block half : Nat) (d0 d1 : Word) (s : State), evSeverity type ≠ 3 ∧ s.events.coalescing = true ∨ 496 <
      s.events.queue.length) ∧
    (∃ (type part block half : Nat) (d0 d1 : Word) (s : State), evSeverity type = 3 ∧ s.events.queue.length < 512) ∧
    (∃ (type part block half : Nat) (d0 d1 : Word) (s : State), evSeverity type = 3 ∧ 512 ≤ s.events.queue.length) :=
  ⟨⟨0x40, 3, 0, 0, 1, 2, ready, by decide⟩,
    ⟨0x40, 3, 0, 0, 1, 2, { ready with events := { State.reset.events with coalescing := true } }, by decide⟩,
    ⟨0x05C, 3, 0, 0, 1, 2, ready, by decide⟩,
    ⟨0x05C, 3, 0, 0, 1, 2,
      { ready with events := { State.reset.events with queue := List.replicate 512 ⟨0, 0, 0x40, false, false, 0xFE, 0, 0xFFFF, 2, 0, 0, 0⟩ } },
      by decide +kernel⟩⟩

/-- States and operands that meet the hypotheses of `Obligations.CountersWrap`, clause by clause. -/
theorem witness_CountersWrap :
    (∃ (off n : Nat) (s : State), 2 ^ 48 ≤ (fld (getCnt s off) 0 48 + n) ∧ bit (getCnt s off) 63 = false) ∧
    (∃ (off n : Nat) (s : State), (fld (getCnt s off) 0 48 + n) < 2 ^ 48 ∨ bit (getCnt s off) 63 = true) :=
  ⟨⟨0x11118, 1, setCnt ready 0x11118 (word (2 ^ 48 - 1)), by decide⟩,
    ⟨0x11118, 1, ready, by decide⟩⟩

/-- States and operands that meet the hypotheses of `Obligations.PoisonCleared`, clause by clause. -/
theorem witness_PoisonCleared :
    (∃ (da : Nat) (bs : List Byte) (s : State), da % 64 = 0 ∧ bs.length = 64) ∧
    (∃ (sp : List Span) (sec : Nat) (s : State), inSpans sp sec = true) :=
  ⟨⟨64, List.replicate 64 7, ready, by decide⟩,
    ⟨[⟨0, 0, 0, 0x8000⟩], 1, { ready with poison := [(1, true)], t1 := [(64, 9)] }, by decide⟩⟩

/-- States and operands that meet the hypotheses of `Obligations.UnloadAndClearSuspect`, clause by clause. -/
theorem witness_UnloadAndClearSuspect :
    (∃ (w : RegWrite) (q : Site) (s : State), isReg w .gal3 0x100 = true ∧ fld w.val 32 3 = 3 ∧ servedAt s w = some q ∧ bit w.val 40 =
      true ∧ getBit s Reg.galFormeStatus 0 = false ∧ (s.impo (fld w.val 24 7)).state = 2) ∧
    (∃ (w : RegWrite) (q : Site) (s : State), isReg w .gal3 0x100 = true ∧ fld w.val 32 3 = 3 ∧ servedAt s w = some q ∧ bit w.val 40 =
      true ∧ getBit s Reg.galFormeStatus 0 = false ∧ (s.impo (fld w.val 24 7)).state = 0) ∧
    (∃ (w : RegWrite) (q : Site) (s : State), isReg w .gal3 0x100 = true ∧ fld w.val 32 3 = 4 ∧ servedAt s w = some q ∧ bit w.val 40 =
      true ∧ getBit s Reg.galFormeStatus 0 = false ∧ (s.impo (fld w.val 24 7)).state = 3) :=
  ⟨⟨⟨.mc .west, 0x43100, 8, 0x10303000000, 0⟩, (servedAt
      ({ ready with impos := [(3, { ImpoSlot.empty 0 with state := 2 })], tensors := [(9, ⟨1, false, false, false, false, false, 0, 0, 4096, 0x1003000000000, 0, 0, 0, 0⟩)] })
      ⟨.mc .west, 0x43100, 8, 0x10303000000, 0⟩).get (by decide),
      { ready with impos := [(3, { ImpoSlot.empty 0 with state := 2 })], tensors := [(9, ⟨1, false, false, false, false, false, 0, 0, 4096, 0x1003000000000, 0, 0, 0, 0⟩)] },
      by decide⟩,
    ⟨⟨.mc .west, 0x43100, 8, 0x10303000000, 0⟩, (servedAt
      ({ ready with impos := [(3, { ImpoSlot.empty 0 with state := 0 })], tensors := [(9, ⟨1, false, false, false, false, false, 0, 0, 4096, 0x1003000000000, 0, 0, 0, 0⟩)] })
      ⟨.mc .west, 0x43100, 8, 0x10303000000, 0⟩).get (by decide),
      { ready with impos := [(3, { ImpoSlot.empty 0 with state := 0 })], tensors := [(9, ⟨1, false, false, false, false, false, 0, 0, 4096, 0x1003000000000, 0, 0, 0, 0⟩)] },
      by decide⟩,
    ⟨⟨.mc .west, 0x43100, 8, 0x10403000000, 0⟩, (servedAt
      ({ ready with impos := [(3, { ImpoSlot.empty 0 with state := 3, suspect := 4 })], tensors := [(9, ⟨1, false, false, false, false, false, 0, 0, 4096, 0x1003000000000, 0, 0, 0, 0⟩)] })
      ⟨.mc .west, 0x43100, 8, 0x10403000000, 0⟩).get (by decide),
      { ready with impos := [(3, { ImpoSlot.empty 0 with state := 3, suspect := 4 })], tensors := [(9, ⟨1, false, false, false, false, false, 0, 0, 4096, 0x1003000000000, 0, 0, 0, 0⟩)] },
      by decide⟩⟩

/-- States and operands that meet the hypotheses of `Obligations.TensorWindow`, clause by clause. -/
theorem witness_TensorWindow :
    (∃ (w : RegWrite) (q : Site) (s : State), isReg w .dev0 0x318 = true ∧ servedAt s w = some q) ∧
    (∃ (w : RegWrite) (q : Site) (i : Nat) (s : State), isReg w .dev0 0x318 = true ∧ servedAt s w = some q ∧ i < 4 ∧ accessCauses s
      ⟨w.who, 0x320 + 8 * i, 8⟩ false = []) :=
  ⟨⟨⟨.mc .west, 0x318, 8, 9, 0⟩, (servedAt
      ({ ready with impos := [(3, { ImpoSlot.empty 0 with state := 0 })], tensors := [(9, ⟨1, false, false, false, false, false, 0, 0, 4096, 0x1003000000000, 0, 0, 0, 0⟩)] })
      ⟨.mc .west, 0x318, 8, 9, 0⟩).get (by decide),
      { ready with impos := [(3, { ImpoSlot.empty 0 with state := 0 })], tensors := [(9, ⟨1, false, false, false, false, false, 0, 0, 4096, 0x1003000000000, 0, 0, 0, 0⟩)] },
      by decide⟩,
    ⟨⟨.mc .west, 0x318, 8, 9, 0⟩, (servedAt
      ({ ready with impos := [(3, { ImpoSlot.empty 0 with state := 0 })], tensors := [(9, ⟨1, false, false, false, false, false, 0, 0, 4096, 0x1003000000000, 0, 0, 0, 0⟩)] })
      ⟨.mc .west, 0x318, 8, 9, 0⟩).get (by decide), 1,
      { ready with impos := [(3, { ImpoSlot.empty 0 with state := 0 })], tensors := [(9, ⟨1, false, false, false, false, false, 0, 0, 4096, 0x1003000000000, 0, 0, 0, 0⟩)] },
      by decide⟩⟩

end Sys2Proof.Tests
end

section
/-!
PROOFS. Register writes by the common rules: which register a served write names, what a write of BLK_INT_RAW does, and what the
first-error capture holds (R11, R100, R103, R104).
-/
namespace Sys2Proof.Machine

/-! ### What a register access names -/

/-- A row that is found holds the offset. -/
theorem findRow_offset {rs : List RegRow} {off i : Nat} {r : RegRow} (h : findRow rs off = some (r, i)) : off = r.off + 8 * i := by
  induction rs with
  | nil => cases h
  | cons x rs ih =>
    unfold findRow at h
    split at h
    · cases h; omega
    · exact ih h

/-- A register of BAR0 of the physical function lies on a page. -/
theorem resolvePf_reg {a : Nat} {p : PageRef} {off key : Nat} {row : Option (RegRow × Nat)}
    (h : resolvePf a = some (.reg p off key row)) : ∃ base o, resolvePage base o = some (.reg p off key row) := by
  unfold resolvePf at h
  split at h
  · cases h
  · split at h
    · cases h
    · split at h
      · exact ⟨_, _, h⟩
      · cases h

/-- A register of BAR0 of a virtual function lies on a page. -/
theorem resolveVf_reg {n a : Nat} {p : PageRef} {off key : Nat} {row : Option (RegRow × Nat)}
    (h : resolveVf n a = some (.reg p off key row)) : ∃ base o, resolvePage base o = some (.reg p off key row) := by
  unfold resolveVf at h
  split at h
  · exact ⟨_, _, h⟩
  · split at h
    · cases h
    · split at h
      · exact ⟨_, _, h⟩
      · cases h

/-- An access that names a register names one of a page. -/
theorem resolve_reg {who : Requester} {a : Nat} {p : PageRef} {off key : Nat} {row : Option (RegRow × Nat)}
    (h : resolve who a = some (.reg p off key row)) : ∃ base o, resolvePage base o = some (.reg p off key row) := by
  unfold resolve at h
  dsimp only at h
  split at h
  · split at h
    · cases h
    · exact resolveVf_reg h
  · split at h
    · cases h
    · exact resolvePf_reg h

/-- A header register has no row; any other one has the row of its page offset. -/
theorem resolvePage_row {base o : Nat} {p : PageRef} {off key : Nat} {row : Option (RegRow × Nat)}
    (h : resolvePage base o = some (.reg p off key row)) : row = none ∨ ∃ x, row = some x ∧ pageRow p off = some x := by
  unfold resolvePage at h
  dsimp only at h
  split at h
  · cases h
  · split at h
    · cases h; exact .inl rfl
    · split at h
      · next x hx => cases h; exact .inr ⟨x, rfl, hx⟩
      · cases h

/-- A write that is served names the register on which it acts. -/
theorem resolve_of_servedAt {s : State} {w : RegWrite} {p : PageRef} {off key : Nat} {row : Option (RegRow × Nat)}
    (h : servedAt s w = some (p, off, key, row)) : resolve w.who w.off = some (.reg p off key row) := by
  unfold servedAt at h
  split at h
  · split at h
    · next hr =>
      split at h
      · cases h
      · cases h; exact hr
    · cases h
  · cases h

/-- No row of a page lies at the offset of BLK_INT_RAW: rows of a CORE_ slice, which start at 0, leave it unused. -/
theorem pageRow_ne_intRaw {p : PageRef} {off i : Nat} {r : RegRow} (h : pageRow p off = some (r, i)) : r.off + 8 * i ≠ 0x020 := by
  unfold pageRow at h
  split at h
  · next hk =>
    split at h
    · intro e
      have unused : findRow PageKind.core.rows 0x020 = none := by decide
      rw [hk, findRow_offset h, e, unused] at h
      cases h
    · cases h
  · split at h
    · cases h
    · split at h
      · cases h
      · have := findRow_offset h
        omega

/-- A served write that names header offset 0x020 acts on BLK_INT_RAW. -/
theorem servedAt_intRaw {s : State} {w : RegWrite} {q : Site} (hw : isHeader w 0x020 = true) (hq : servedAt s w = some q) :
    ∃ p key, q = (p, 0x020, key, none) := by
  obtain ⟨p, off, key, row⟩ := q
  have hr := resolve_of_servedAt hq
  obtain ⟨base, o, hp⟩ := resolve_reg hr
  unfold isHeader writeNames at hw
  rw [hr] at hw
  obtain rfl | ⟨⟨r, i⟩, rfl, hx⟩ := resolvePage_row hp
  · simp only [Nat.reduceLT, decide_true, Bool.and_true, decide_eq_true_eq] at hw
    exact ⟨p, key, by rw [hw]⟩
  · simp only [Nat.reduceLT, decide_true, Bool.and_true, decide_eq_true_eq] at hw
    exact absurd hw (pageRow_ne_intRaw hx)

/-- The register that a write to a header register names. -/
theorem writeNames_of_isHeader {w : RegWrite} {o : Nat} (h : isHeader w o = true) : ∃ k, writeNames w = some (k, o) ∧ o < 0x100 := by
  unfold isHeader at h
  split at h
  · next k o' hn =>
    simp only [Bool.and_eq_true, decide_eq_true_eq] at h
    obtain ⟨rfl, ho⟩ := h
    exact ⟨k, hn, ho⟩
  · cases h

/-- No register with a command of its own lies below page offset 0x100: such a write follows the common rules. -/
theorem anyWrite_below_rows {w : RegWrite} {k : PageKind} {o : Nat} (s : State) (h : writeNames w = some (k, o)) (ho : o < 0x100) :
    anyWrite w s = .next (serveWrite s w (plainWrite w 0)) := by
  unfold anyWrite
  rw [h]
  cases k <;> simp (disch := omega) only [if_neg]

/-- A served write that follows the common rules, by the name of the register. -/
theorem exec_registerWrite_below_rows {w : RegWrite} {k : PageKind} {o off key : Nat} {p : PageRef} {row : Option (RegRow × Nat)} {s : State}
    (hn : writeNames w = some (k, o)) (ho : o < 0x100) (hq : servedAt s w = some (p, off, key, row)) :
    exec (.registerWrite w) s = .next (plainWrite w 0 s p off key row) :=
  (anyWrite_below_rows s hn ho).trans (congrArg _ (serveWrite_served hq _))

/-! ### BLK_CTRL -/

/-- A write of BLK_CTRL leaves a change for the next step boundary, whatever its value (R100). -/
theorem deferred_blkCtrlWrite (s : State) (p : PageRef) (v : Word) : (blkCtrlWrite s p v).deferred = s.deferred ++ [.blkCtrl p.base] := by
  unfold blkCtrlWrite
  dsimp only
  split
  · rw [putBit_deferred, setReg_deferred]
  · split
    · rw [putBit_deferred, putBit_deferred, setReg_deferred]
    · rw [putBit_deferred, putBit_deferred, setReg_deferred]

/-- So it never leaves the state as it was. -/
theorem blkCtrlWrite_ne (s : State) (p : PageRef) (v : Word) : blkCtrlWrite s p v ≠ s := fun e => by
  have grown := congrArg State.deferred e
  rw [deferred_blkCtrlWrite] at grown
  exact absurd (List.append_right_eq_self.mp grown) (List.cons_ne_nil _ _)

/-- BLK_CTRL of core pair 0 of CD0, written with 0: the pair is disabled. -/
def coreDisable : RegWrite := ⟨.mc .west, 0x101010, 8, 0, 0⟩

/-- The page of core pair 0 of CD0. -/
def corePage : PageRef := ⟨.core, 0x07, 0, 1, 0, 0x101000, 12⟩

/-- Right after reset the write is served: it acts on the header of the page. -/
theorem servedAt_coreDisable : servedAt State.reset coreDisable = some (corePage, 0x010, 0x101010, none) := by decide

/-- Header register BLK_CTRL of a CORE_ page bears the name of CORE_CFG, which lies at 0x010 of each slice of the page. -/
theorem writeNames_coreDisable : writeNames coreDisable = some (.core, 0x010) := by decide

/-- Refutes O12, at its second clause. `writeNames` gives a register of a CORE_ page by its offset in the slice, so (.core, 0x010) names
the plain register CORE_CFG and also BLK_CTRL in the header of the page, and the clause does not ask for a row. The range of CORE_CFG
(R235: WDOG, 8 to 255) is then put to the value of BLK_CTRL: disabling a core pair right after reset counts as out of range, yet that
write is not ignored, for the change of ENABLE waits for the step boundary (R100). -/
theorem not_registerWritesComplete : ¬ Obligations.RegisterWritesComplete := by
  unfold Obligations.RegisterWritesComplete
  intro h
  obtain ⟨-, ignored, -⟩ := h
  have claimed : exec (.registerWrite coreDisable) State.reset = .next State.reset :=
    ignored coreDisable _ _ State.reset servedAt_coreDisable writeNames_coreDisable (by decide) (by decide)
  have actual : exec (.registerWrite coreDisable) State.reset = .next (blkCtrlWrite State.reset corePage 0) :=
    exec_registerWrite_below_rows writeNames_coreDisable (by decide) servedAt_coreDisable
  have same : blkCtrlWrite State.reset corePage 0 = State.reset := by
    rw [actual] at claimed
    injection claimed
  exact blkCtrlWrite_ne _ _ _ same

/-! ### BLK_INT_RAW and its collisions (R103) -/

section IntRaw

variable (s : State) (p : PageRef) (v hw : Word)

/-- The causes that a block has: the four common ones and its own. -/
def causeMask (p : PageRef) : Word := word (15 + (2 ^ intCauses p.type - 1) * 2 ^ 16)

/-- The first part of a write of BLK_INT_RAW, its clears; with ERR_CAPTURED the capture is armed again, or MORE counts. -/
def clearCauses : State :=
  let s1 := setReg s (blkIntRaw p.base) (getReg s (blkIntRaw p.base) &&& ~~~(v &&& causeMask p &&& ~~~hw))
  if bit v 0 && getBit s (blkIntRaw p.base) 0 then
    if bit hw 0 then putFld s1 (blkErrCap p.base 0) 16 16 (satAdd 0xFFFF (getFld s1 (blkErrCap p.base 0) 16 16) 1)
    else rearmCapture s1 p.base
  else s1

/-- The clears, then what hardware sets. -/
def takeCauses : State := setCauses (clearCauses s p v hw) p.base (hw &&& causeMask p)

/-- A write of BLK_INT_RAW: the clears, the sets, and the count of a collision. -/
theorem writeIntRaw_eq : writeIntRaw s p v hw =
    if getReg s (blkIntRaw p.base) &&& v &&& hw &&& causeMask p ≠ 0 then countCollision (takeCauses s p v hw) p.base 0
    else takeCauses s p v hw := ite_congr decide_eq_true_eq (fun _ => rfl) (fun _ => rfl)

theorem getReg_clearCauses_raw : getReg (clearCauses s p v hw) (blkIntRaw p.base) =
    getReg s (blkIntRaw p.base) &&& ~~~(v &&& causeMask p &&& ~~~hw) := by
  have apart : blkIntRaw p.base ≠ blkErrCap p.base 0 := by unfold blkIntRaw blkErrCap; omega
  unfold clearCauses rearmCapture
  dsimp only
  split
  · split
    · rw [getReg_putFld_other _ _ _ _ _ _ apart, getReg_setReg_same]
    · rw [getReg_putBit_other _ _ _ _ _ apart, getReg_setReg_same]
  · rw [getReg_setReg_same]

theorem getReg_clearCauses_coll : getReg (clearCauses s p v hw) (blkIntColl p.base) = getReg s (blkIntColl p.base) := by
  have apart : blkIntColl p.base ≠ blkIntRaw p.base := by unfold blkIntColl blkIntRaw; omega
  have apart' : blkIntColl p.base ≠ blkErrCap p.base 0 := by unfold blkIntColl blkErrCap; omega
  unfold clearCauses rearmCapture
  dsimp only
  split
  · split
    · rw [getReg_putFld_other _ _ _ _ _ _ apart', getReg_setReg_other _ _ _ _ apart]
    · rw [getReg_putBit_other _ _ _ _ _ apart', getReg_setReg_other _ _ _ _ apart]
  · rw [getReg_setReg_other _ _ _ _ apart]

/-- Clearing ERR_CAPTURED, with no error in the cycle, clears VALID of the capture (R104). -/
theorem getBit_clearCauses_valid (hv : bit v 0 = true) (ho : getBit s (blkIntRaw p.base) 0 = true) (hn : bit hw 0 = false) :
    getBit (clearCauses s p v hw) (blkErrCap p.base 0) 63 = false := by
  unfold clearCauses rearmCapture
  rw [hv, ho, hn]
  exact getBit_putBit_same _ _ _ _ (by decide)

/-- Set wins over clear, bit by bit. -/
theorem set_wins (old v hw m : Word) : (old &&& ~~~(v &&& m &&& ~~~hw)) ||| (hw &&& m) = (old &&& ~~~(v &&& m)) ||| (hw &&& m) := by
  have each : ∀ o a b c : Bool, (o && !(a && c && !b) || b && c) = (o && !(a && c) || b && c) := by decide
  ext i hi
  simp only [BitVec.getElem_or, BitVec.getElem_and, BitVec.getElem_not]
  exact each _ _ _ _

theorem getReg_takeCauses_raw : getReg (takeCauses s p v hw) (blkIntRaw p.base) =
    (getReg s (blkIntRaw p.base) &&& ~~~(v &&& causeMask p)) ||| (hw &&& causeMask p) := by
  rw [takeCauses, getReg_setCauses_same, getReg_clearCauses_raw, set_wins]

theorem getReg_takeCauses_coll : getReg (takeCauses s p v hw) (blkIntColl p.base) = getReg s (blkIntColl p.base) := by
  rw [takeCauses, getReg_setCauses_other _ _ _ _ (by unfold blkIntColl blkIntRaw; omega), getReg_clearCauses_coll]

/-- A collision below saturation adds one to its counter and does nothing else. -/
theorem countCollision_below (blk i : Nat) (h : getFld s (blkIntColl blk) (16 * i) 16 < 0xFFFE) :
    countCollision s blk i = putFld s (blkIntColl blk) (16 * i) 16 (getFld s (blkIntColl blk) (16 * i) 16 + 1) := by
  have sum : satAdd 0xFFFF (getFld s (blkIntColl blk) (16 * i) 16) 1 = getFld s (blkIntColl blk) (16 * i) 16 + 1 := by
    unfold satAdd; omega
  unfold countCollision
  dsimp only
  rw [if_neg (by omega), sum]

/-- A counted collision leaves every register but its counter and BLK_INT_RAW. -/
theorem getReg_countCollision_other (blk i a : Nat) (hc : a ≠ blkIntColl blk) (hr : a ≠ blkIntRaw blk) :
    getReg (countCollision s blk i) a = getReg s a := by
  unfold countCollision
  dsimp only
  split
  · rw [getReg_setCause_other _ _ _ _ hr, getReg_putFld_other _ _ _ _ _ _ hc]
  · rw [getReg_putFld_other _ _ _ _ _ _ hc]

variable (h : getFld s (blkIntColl p.base) 0 16 < 0xFFFE)
include h

/-- The same for a write of BLK_INT_RAW that collides. -/
theorem countCollision_takeCauses : countCollision (takeCauses s p v hw) p.base 0 =
    putFld (takeCauses s p v hw) (blkIntColl p.base) 0 16 (getFld s (blkIntColl p.base) 0 16 + 1) := by
  have kept : getFld (takeCauses s p v hw) (blkIntColl p.base) 0 16 = getFld s (blkIntColl p.base) 0 16 := by
    rw [getFld, getReg_takeCauses_coll, getFld]
  rw [countCollision_below _ _ _ (kept ▸ h), Nat.mul_zero, kept]

/-- What BLK_INT_RAW holds after a write. -/
theorem getReg_writeIntRaw_raw : getReg (writeIntRaw s p v hw) (blkIntRaw p.base) =
    (getReg s (blkIntRaw p.base) &&& ~~~(v &&& causeMask p)) ||| (hw &&& causeMask p) := by
  rw [writeIntRaw_eq]
  split
  · rw [countCollision_takeCauses s p v hw h, getReg_putFld_other _ _ _ _ _ _ (by unfold blkIntRaw blkIntColl; omega), getReg_takeCauses_raw]
  · exact getReg_takeCauses_raw s p v hw

/-- COLL0 counts a write with a collision, and no other. -/
theorem getFld_writeIntRaw_coll : getFld (writeIntRaw s p v hw) (blkIntColl p.base) 0 16 =
    getFld s (blkIntColl p.base) 0 16 + (if getReg s (blkIntRaw p.base) &&& v &&& hw &&& causeMask p ≠ 0 then 1 else 0) := by
  rw [writeIntRaw_eq]
  split
  · rw [countCollision_takeCauses s p v hw h, getFld_putFld_same _ _ _ _ _ (by decide), Nat.mod_eq_of_lt (by omega)]
  · rw [getFld, getReg_takeCauses_coll, getFld, Nat.add_zero]

omit h

/-- A write of BLK_INT_RAW leaves in BLK_ERR_CAP0 what its clears do. -/
theorem getReg_writeIntRaw_errCap : getReg (writeIntRaw s p v hw) (blkErrCap p.base 0) = getReg (clearCauses s p v hw) (blkErrCap p.base 0) := by
  have apart : blkErrCap p.base 0 ≠ blkIntRaw p.base := by unfold blkErrCap blkIntRaw; omega
  have apart' : blkErrCap p.base 0 ≠ blkIntColl p.base := by unfold blkErrCap blkIntColl; omega
  have taken : getReg (takeCauses s p v hw) (blkErrCap p.base 0) = getReg (clearCauses s p v hw) (blkErrCap p.base 0) :=
    getReg_setCauses_other _ _ _ _ apart
  rw [writeIntRaw_eq]
  split
  · rw [getReg_countCollision_other _ _ _ _ apart' apart, taken]
  · exact taken

/-- So clearing ERR_CAPTURED, with no error in the cycle, arms the capture. -/
theorem getBit_writeIntRaw_valid (hv : bit v 0 = true) (ho : getBit s (blkIntRaw p.base) 0 = true) (hn : bit hw 0 = false) :
    getBit (writeIntRaw s p v hw) (blkErrCap p.base 0) 63 = false := by
  rw [getBit, getReg_writeIntRaw_errCap]
  exact getBit_clearCauses_valid s p v hw hv ho hn

end IntRaw

/-- A served write of BLK_INT_RAW, by name. -/
theorem exec_registerWrite_intRaw {w : RegWrite} {q : Site} {s : State} (hw : isHeader w 0x020 = true) (hq : servedAt s w = some q) :
    exec (.registerWrite w) s = .next (writeIntRaw s q.1 w.val w.hwSet) := by
  obtain ⟨k, hn, ho⟩ := writeNames_of_isHeader hw
  obtain ⟨p, key, rfl⟩ := servedAt_intRaw hw hq
  exact exec_registerWrite_below_rows hn ho hq

/-! ### The first-error capture (R104) -/

/-- Where a block would lie if one of its four capture registers were a register of events. -/
def eventRegPlaces : List Nat := eventRegs.flatMap fun e => (List.range 4).map fun i => e - (0x040 + 8 * i)

/-- No block lies there. -/
theorem isBlock_eventRegPlaces : ∀ b ∈ eventRegPlaces, isBlock b = false := by decide

/-- So no event writes a capture register. -/
theorem errCap_not_mem_eventRegs {blk i : Nat} (h : isBlock blk = true) (hi : i < 4) : blkErrCap blk i ∉ eventRegs := by
  intro hm
  have place : blk ∈ eventRegPlaces :=
    List.mem_flatMap.mpr ⟨_, hm, List.mem_map.mpr ⟨i, List.mem_range.mpr hi, by unfold blkErrCap; omega⟩⟩
  rw [isBlock_eventRegPlaces blk place] at h
  cases h

section Capture

variable (s : State) (blk code source part addr detail : Nat)

/-- BLK_ERR_CAP0 of a new capture. -/
def captureWord : Word := word (code % 2 ^ 16 + source % 256 * 2 ^ 32 + part % 256 * 2 ^ 40 + 2 ^ 63)

/-- The four capture registers take an error. -/
def loadCapture : State :=
  setReg (setReg (setReg (setReg s (blkErrCap blk 0) (captureWord code source part)) (blkErrCap blk 1) (stamp s))
    (blkErrCap blk 2) (word (addr % 2 ^ 48))) (blkErrCap blk 3) (word detail)

/-- The capture registers of a block lie apart. -/
theorem blkErrCap_ne {i j : Nat} (h : i ≠ j) : blkErrCap blk i ≠ blkErrCap blk j := by unfold blkErrCap; omega

theorem getReg_loadCapture_code : getReg (loadCapture s blk code source part addr detail) (blkErrCap blk 0) = captureWord code source part := by
  rw [loadCapture, getReg_setReg_other _ _ _ _ (blkErrCap_ne blk (by decide)), getReg_setReg_other _ _ _ _ (blkErrCap_ne blk (by decide)),
    getReg_setReg_other _ _ _ _ (blkErrCap_ne blk (by decide)), getReg_setReg_same]

theorem getReg_loadCapture_stamp : getReg (loadCapture s blk code source part addr detail) (blkErrCap blk 1) = stamp s := by
  rw [loadCapture, getReg_setReg_other _ _ _ _ (blkErrCap_ne blk (by decide)), getReg_setReg_other _ _ _ _ (blkErrCap_ne blk (by decide)),
    getReg_setReg_same]

theorem getReg_loadCapture_addr : getReg (loadCapture s blk code source part addr detail) (blkErrCap blk 2) = word (addr % 2 ^ 48) := by
  rw [loadCapture, getReg_setReg_other _ _ _ _ (blkErrCap_ne blk (by decide)), getReg_setReg_same]

/-- An error of a block whose capture is armed: it is loaded, ERR_CAPTURED is set, and an event tells of it. -/
theorem capture_armed (h : getBit s (blkIntRaw blk) 0 = false) : capture s blk code source part addr detail =
    raiseEvent (setCause (loadCapture s blk code source part addr detail) blk 0) 0x001 part (blkDir blk) (blkHalf blk)
      (captureWord code source part) (word detail) :=
  if_neg (by rw [h]; exact Bool.false_ne_true)

/-- An error of a block that holds one: MORE counts it. -/
theorem capture_held (h : getBit s (blkIntRaw blk) 0 = true) : capture s blk code source part addr detail =
    putFld s (blkErrCap blk 0) 16 16 (satAdd 0xFFFF (getFld s (blkErrCap blk 0) 16 16) 1) := if_pos h

/-- After a capture they hold what was loaded. -/
theorem getReg_capture_armed {i : Nat} (hb : isBlock blk = true) (h : getBit s (blkIntRaw blk) 0 = false) (hi : i < 4) :
    getReg (capture s blk code source part addr detail) (blkErrCap blk i) =
      getReg (loadCapture s blk code source part addr detail) (blkErrCap blk i) := by
  rw [capture_armed _ _ _ _ _ _ _ h, getReg_raiseEvent_other _ _ _ _ _ _ _ _ (errCap_not_mem_eventRegs hb hi),
    getReg_setCause_other _ _ _ _ (by unfold blkErrCap blkIntRaw; omega)]

/-- A cause that is set clears no bit of any register. -/
theorem getBit_setCause_mono (b i : Nat) {a j : Nat} (hi : i < 64) (h : getBit s a j = true) : getBit (setCause s b i) a j = true := by
  by_cases ha : a = blkIntRaw b
  · rw [ha] at h ⊢
    rw [getBit_setCause _ _ _ _ hi, h, Bool.true_or]
  · rw [getBit, getReg_setCause_other _ _ _ _ ha]
    exact h

/-- Nor does an event that is not fatal. -/
theorem getBit_raiseEvent_mono (type block half : Nat) (d0 d1 : Word) {a j : Nat} (ht : evSeverity type ≠ 3) (h : getBit s a j = true) :
    getBit (raiseEvent s type part block half d0 d1) a j = true := by
  unfold raiseEvent
  rw [if_neg ht]
  split
  · unfold coalesceEvent
    split
    · exact h
    · exact getBit_setCause_mono _ _ _ (by decide) h
  · exact h

/-- After a capture ERR_CAPTURED is set. -/
theorem getBit_capture_armed (h : getBit s (blkIntRaw blk) 0 = false) :
    getBit (capture s blk code source part addr detail) (blkIntRaw blk) 0 = true := by
  rw [capture_armed _ _ _ _ _ _ _ h]
  apply getBit_raiseEvent_mono _ _ _ _ _ _ _ (by decide)
  rw [getBit_setCause _ _ _ _ (by decide), decide_eq_true rfl, Bool.or_true]

end Capture

/-- Settles O54: the write of BLK_INT_RAW is `writeIntRaw`, whose clears, sets and collision act on registers of their own, and an
armed capture loads registers that neither its cause nor its event writes. -/
theorem causesAndCaptures : Obligations.CausesAndCaptures := by
  unfold Obligations.CausesAndCaptures
  refine ⟨?causes, ?rearmed, ?captured, ?held⟩
  case causes =>
    rintro w q m s hw hq rfl hc
    exact ⟨_, exec_registerWrite_intRaw hw hq, getReg_writeIntRaw_raw s q.1 w.val w.hwSet hc, getFld_writeIntRaw_coll s q.1 w.val w.hwSet hc⟩
  case rearmed =>
    intro w q s hw hq hv ho hn
    exact ⟨_, exec_registerWrite_intRaw hw hq, getBit_writeIntRaw_valid s q.1 w.val w.hwSet hv ho hn⟩
  case captured =>
    intro blk code source part addr detail s hb h
    have loaded := fun i (hi : i < 4) => getReg_capture_armed s blk code source part addr detail hb h hi
    rw [loaded 0 (by decide), loaded 1 (by decide), loaded 2 (by decide), loaded 3 (by decide)]
    refine ⟨?_, ?_, ?_, ?_, getBit_capture_armed s blk code source part addr detail h⟩
    · exact getReg_loadCapture_code s blk code source part addr detail
    · exact getReg_loadCapture_stamp s blk code source part addr detail
    · exact getReg_loadCapture_addr s blk code source part addr detail
    · exact getReg_setReg_same _ _ _
  case held =>
    intro blk code source part addr detail s _ h
    exact capture_held s blk code source part addr detail h

end Sys2Proof.Machine
end

section
/-!
PROOFS. The messages of a serving group (R30, R327, R359, R464): what reports, announcements, forwarded commands and silences do, clause
by clause of O32, and the table of entries of which one clause fails.
-/
namespace Sys2Proof.Machine

/-! ### A lost member (R464) -/

/-- At the second silence, with no step running and none abandoned, the lead awaits no one and the requests of the partition end. -/
def loseMember (s : State) (k : Nat) : State := endGroup (s.setGroup k { s.group k with awaited := [], lacking := true }) k

/-- Ends raised on requests of a group change entries alone. -/
theorem keep_endGroup (s : State) (k : Nat) : Keep (fun p => decide (p = .galley)) s (endGroup s k) := endGroup_keep rfl (Keep.refl s)

theorem group_endGroup_setGroup (s : State) (k : Nat) (g : GroupState) : (endGroup (s.setGroup k g) k).group k = g :=
  (congrArg (Map.get GroupState.fresh · k) ((keep_endGroup _ k).same .groups rfl)).trans (group_setGroup_same s k g)

theorem group_loseMember (s : State) (k : Nat) : (loseMember s k).group k = { s.group k with awaited := [], lacking := true } :=
  group_endGroup_setGroup s k _

theorem exec_groupReportTimeout_loseMember {k : Fin 128} {s : State} (hg : isGroup s k = true) (hl : isLead s k = true)
    (ha : (s.group k).awaited ≠ []) (ht : (s.group k).timeouts ≠ 0) (hr : s.steps.running = false) (hb : (s.group k).abandoned = false) :
    exec (.groupReportTimeout k) s = .next (loseMember s k) := by
  have idle : (loseMember s k).steps.running = false := by
    have kept : (loseMember s k).steps = s.steps := (keep_endGroup _ k).same .steps rfl
    rw [kept, hr]
  have silent : lastReport (loseMember s k) k = loseMember s k := by
    unfold lastReport
    rw [group_loseMember, if_pos (by simp [hb])]
  change execGroupReportTimeout k s = _
  unfold execGroupReportTimeout
  rw [if_neg (by simp [hg, hl, ha]), if_neg ht]
  change Host.Outcome.next (if ((loseMember s k).steps.running && _) = true then _ else lastReport (loseMember s k) k) = _
  rw [idle, silent]
  rfl

/-! ### Requests of a lost member -/

/-- In canonical form a search finds the indices whose value passes. -/
theorem Map.get_of_mem_keysWhere {α : Type} [DecidableEq α] {d : Nat → α} {p : Nat → α → Bool} {i lo : Nat} {m : Map α}
    (w : Map.wfFrom d lo m = true) (h : i ∈ Map.keysWhere p m) : p i (Map.get d m i) = true ∧ lo ≤ i := by
  induction m generalizing lo with
  | nil => cases h
  | cons e m ih =>
    obtain ⟨k, v⟩ := e
    simp only [Map.wfFrom, Bool.and_eq_true, decide_eq_true_eq] at w
    obtain ⟨⟨hk, -⟩, w⟩ := w
    have later (h : i ∈ Map.keysWhere p m) : p i (Map.get d ((k, v) :: m) i) = true ∧ lo ≤ i := by
      obtain ⟨hp, hi⟩ := ih w h
      rw [Map.get, if_neg (by omega)]
      exact ⟨hp, by omega⟩
    by_cases hp : p k v = true
    · simp only [Map.keysWhere, List.filter_cons, hp, if_true, List.map_cons, List.mem_cons] at h
      obtain rfl | h := h
      · exact ⟨by rw [Map.get, if_pos rfl, hp], hk⟩
      · exact later h
    · simp only [Map.keysWhere, List.filter_cons, hp] at h
      exact later h

/-- A live request reads as one. -/
theorem live_of_mem_liveReqs {s : State} {n i : Nat} (w : Map.wf Entry.fresh s.entries = true) (h : i ∈ liveReqs s n) :
    (s.entry i).state ≠ 0 ∧ (s.entry i).state ≠ 8 := by
  have found : i ∈ Map.keysWhere (fun _ e => decide (e.state ≠ 0 ∧ e.state ≠ 8 ∧ e.partition = n)) s.entries := h
  obtain ⟨hp, -⟩ := Map.get_of_mem_keysWhere w found
  obtain ⟨h0, h8, -⟩ := of_decide_eq_true hp
  exact ⟨h0, h8⟩

theorem raiseEnd_eq (s : State) (i code : Nat) : raiseEnd s i code =
    if (s.entry i).state = 0 ∨ (s.entry i).state = 8 ∨ code ∈ (s.entry i).ends then s
    else s.setEntry i { s.entry i with ends := (s.entry i).ends ++ [code] } := rfl

/-- Raising an end changes of entries only the ends, which it adds to. -/
theorem entry_raiseEnd (s : State) (j code i : Nat) : ∃ l, (raiseEnd s j code).entry i = { s.entry i with ends := (s.entry i).ends ++ l } := by
  have same : ∃ l, s.entry i = { s.entry i with ends := (s.entry i).ends ++ l } := ⟨[], by rw [List.append_nil]⟩
  rw [raiseEnd_eq]
  split
  · exact same
  · by_cases h : i = j
    · subst h
      exact ⟨[code], entry_setEntry_same ..⟩
    · rw [entry_setEntry_other _ _ _ _ h]
      exact same

/-- On a live request the end is raised. -/
theorem mem_ends_raiseEnd {s : State} {i code : Nat} (h0 : (s.entry i).state ≠ 0) (h8 : (s.entry i).state ≠ 8) :
    code ∈ ((raiseEnd s i code).entry i).ends := by
  rw [raiseEnd_eq]
  split
  · next h =>
    obtain h | h | h := h
    · exact absurd h h0
    · exact absurd h h8
    · exact h
  · rw [entry_setEntry_same]
    exact List.mem_append_right _ (List.mem_singleton_self _)

/-- An end once raised stays while others are raised. -/
theorem mem_ends_foldl_raiseEnd {l : List Nat} {code i : Nat} {s : State} (h : code ∈ (s.entry i).ends) :
    code ∈ ((l.foldl (fun s j => raiseEnd s j code) s).entry i).ends := by
  induction l generalizing s with
  | nil => exact h
  | cons j l ih =>
    obtain ⟨e, he⟩ := entry_raiseEnd s j code i
    exact ih (by rw [he]; exact List.mem_append_left _ h)

/-- Every live request of the list has its end raised. -/
theorem mem_ends_foldl_raiseEnd_of_mem {l : List Nat} {code i : Nat} {s : State} (hi : i ∈ l) (h0 : (s.entry i).state ≠ 0)
    (h8 : (s.entry i).state ≠ 8) : code ∈ ((l.foldl (fun s j => raiseEnd s j code) s).entry i).ends := by
  induction l generalizing s with
  | nil => cases hi
  | cons j l ih =>
    obtain rfl | hi := List.mem_cons.mp hi
    · exact mem_ends_foldl_raiseEnd (s := raiseEnd s i code) (mem_ends_raiseEnd h0 h8)
    · obtain ⟨e, he⟩ := entry_raiseEnd s j code i
      exact ih hi (by rw [he]; exact h0) (by rw [he]; exact h8)

/-- MEMBER_LOST is an end cause of every live request of the partition. -/
theorem mem_ends_loseMember {s : State} {k i : Nat} (w : Map.wf Entry.fresh s.entries = true)
    (hi : i ∈ liveReqs s (s.impo k).partition) : 0x42 ∈ ((loseMember s k).entry i).ends := by
  obtain ⟨h0, h8⟩ := live_of_mem_liveReqs w hi
  exact mem_ends_foldl_raiseEnd_of_mem hi h0 h8

/-- O32, sixth clause, of a table of entries in canonical form: the second silence of a member loses it (R464). -/
theorem groupReportTimeout_second {k : Fin 128} {s : State} (w : Map.wf Entry.fresh s.entries = true) (hg : isGroup s k = true)
    (hl : isLead s k = true) (ha : (s.group k).awaited ≠ []) (ht : (s.group k).timeouts ≠ 0) (hr : s.steps.running = false)
    (hb : (s.group k).abandoned = false) : Answers (.groupReportTimeout k) s fun t => (t.group k).awaited = [] ∧
      (t.group k).lacking = true ∧ ∀ i ∈ liveReqs s (s.impo k).partition, (t.entry i).ends ≠ [] := by
  have group := group_loseMember s k
  exact ⟨_, exec_groupReportTimeout_loseMember hg hl ha ht hr hb, by rw [group], by rw [group],
    fun i hi => List.ne_nil_of_mem (mem_ends_loseMember w hi)⟩

/-! ### Messages taken and sent -/

/-- What sending a message may change. -/
def sendParts : Part → Bool
  | .links | .regs | .counters | .msix | .events | .outputs | .free => true
  | _ => false

theorem keep_acknowledge (s : State) (m : Msg) : Keep sendParts s (acknowledge s m) := acknowledge_keep rfl rfl rfl rfl rfl rfl (Keep.refl s)

@[simp] theorem acknowledge_steps (s : State) (m : Msg) : (acknowledge s m).steps = s.steps := (keep_acknowledge s m).same .steps rfl

@[simp] theorem acknowledge_arrived (s : State) (m : Msg) : (acknowledge s m).arrived = s.arrived :=
  ((keep_acknowledge s m).same .commands rfl).1

@[simp] theorem acknowledge_group (s : State) (m : Msg) (k : Nat) : (acknowledge s m).group k = s.group k :=
  congrArg (Map.get GroupState.fresh · k) ((keep_acknowledge s m).same .groups rfl)

/-- The state with other arrived and other applied messages. -/
def withMail (s : State) (inbox : List Arrival) (applied : Map (List Nat)) : State := { s with inbox := inbox, applied := applied }

@[simp] theorem withMail_group (s : State) (inbox : List Arrival) (applied : Map (List Nat)) (k : Nat) :
    (withMail s inbox applied).group k = s.group k := rfl

@[simp] theorem withMail_sliceOwner (s : State) (inbox : List Arrival) (applied : Map (List Nat)) (slice : Nat) :
    sliceOwner (withMail s inbox applied) slice = sliceOwner s slice := rfl

/-- A message taken for the first time leaves the inbox and is listed as applied; nothing else changes. -/
theorem takeMsg_first {s s1 : State} {p : Arrival → Bool} {a : Arrival} (h : takeMsg s p = some (a, true, s1)) :
    ∃ inbox applied, s1 = withMail s inbox applied := by
  unfold takeMsg at h
  dsimp only at h
  split at h
  · cases h
  · split at h
    · cases h
      exact ⟨_, s.applied, rfl⟩
    · split at h
      · cases h
      · cases h
        exact ⟨_, _, rfl⟩

theorem onMsg_first {s s1 : State} {p : Arrival → Bool} {a : Arrival} (h : takeMsg s p = some (a, true, s1))
    (act : State → Arrival → State) : onMsg s p act = acknowledge (act s1 a) a.msg := by
  unfold onMsg
  rw [h]

theorem takeMsg_of_nextMsg {s : State} {p : Arrival → Bool} {a : Arrival} (h : nextMsg s p = some a) :
    ∃ s1, takeMsg s p = some (a, true, s1) := by
  unfold nextMsg at h
  split at h
  · next s1 ht => cases h; exact ⟨s1, ht⟩
  · cases h

/-! ### Reports, announcements, forwarded commands -/

/-- A member's report on the lead, where no report has spoken of an abandoned step. -/
theorem takeReport_awaited {s : State} {k m : Nat} {lacking : Bool} (hg : isGroup s k = true) (hl : isLead s k = true)
    (hm : m ∈ (s.group k).awaited) (hb : (s.group k).abandoned = false) : takeReport s k m false lacking = s.setGroup k
      { s.group k with awaited := (s.group k).awaited.erase m, lacking := (s.group k).lacking || lacking } := by
  unfold takeReport
  rw [if_neg (by simp [hg, hl, hm])]
  simp only [Bool.or_false, Bool.false_and, Bool.false_eq_true, if_false]
  unfold lastReport
  rw [if_pos (by simp [hb])]

/-- O32, first clause: a report makes one fewer awaited member (R30). -/
theorem stepReport_awaited {k : Fin 128} {m : Fin 64} {lacking : Bool} {a : Arrival} {s : State}
    (ha : nextMsg s (fun a => decide (a.msg.cls = 1 ∧ a.msg.op = 0x10 ∧ a.msg.src = memberCoord s k m)) = some a)
    (hg : isGroup s k = true) (hl : isLead s k = true) (hm : m.val ∈ (s.group k).awaited) (hb : (s.group k).abandoned = false) :
    Answers (.stepReport k m false lacking) s fun t => (t.group k).awaited = (s.group k).awaited.erase m.val ∧
      (t.group k).lacking = ((s.group k).lacking || lacking) ∧ t.steps = s.steps := by
  obtain ⟨s1, ht⟩ := takeMsg_of_nextMsg ha
  obtain ⟨i, ids, rfl⟩ := takeMsg_first ht
  have taken : takeReport (withMail s i ids) k m false lacking = _ := takeReport_awaited hg hl hm hb
  have group := congrArg (State.group · k) taken
  dsimp only at group
  rw [group_setGroup_same, withMail_group] at group
  refine ⟨_, congrArg Host.Outcome.next (onMsg_first ht _), ?_, ?_, ?_⟩
  · rw [acknowledge_group, group]
  · rw [acknowledge_group, group]
  · rw [acknowledge_steps, taken]
    rfl

/-- O32, second clause: what an announcement without an activation does (R327 adds one). -/
theorem exec_stepAnnounce_first {k : Fin 128} {n : Announce} {a : Arrival} {s s1 : State}
    (h : takeMsg s (fun x => decide (x.msg.cls = 1 ∧ x.msg.op = 0x11)) = some (a, true, s1)) (ha : n.activate = none) (hc : n.cancel = none) :
    exec (.stepAnnounce k n) s = .next (acknowledge (takeAnnounce s1 k n) a.msg) := by
  change Host.Outcome.next (onMsg s _ _) = _
  rw [onMsg_first h, ha, hc]
  rfl

/-- The group of a member that has taken an announcement. -/
def announced (g : GroupState) (n : Announce) : GroupState := { g with
  reported := false, released := true, timeouts := 0, abandoned := false
  next := n.pick.map fun x => (x.1, x.2.1, x.2.2.map fun r => r.map slotOfRow) }

/-- The member knows what follows, and T_n. -/
def withAnnounce (s : State) (k : Nat) (n : Announce) : State :=
  { s.setGroup k (announced (s.group k) n) with steps := { s.steps with tn := n.tn } }

/-- A member whose step still runs takes the announcement of a step that closed. -/
theorem takeAnnounce_running {s : State} {k : Nat} {n : Announce} (hg : isGroup s k = true) (hl : isLead s k = false) (hf : n.fate = 0)
    (hs : n.settled = []) (hr : s.steps.running = true) (he : stepEnded s = false) :
    takeAnnounce s k n = withAnnounce s k n := by
  have same : applyFate s k n = s := by
    unfold applyFate
    rw [if_pos hf, hs]
    rfl
  have goesOn : stepEnded (withAnnounce s k n) = false := he
  unfold takeAnnounce
  rw [if_neg (by simp [hg, hl]), same]
  change (if s.steps.running = true then if (stepEnded (withAnnounce s k n) && _ && _) = true then _ else _ else _) = _
  rw [if_pos hr, goesOn]
  rfl

/-- O32, third clause: the member's step goes on, and what follows it is known (R30). -/
theorem stepAnnounce_running {k : Fin 128} {n : Announce} {a : Arrival} {s : State}
    (ha : nextMsg s (fun x => decide (x.msg.cls = 1 ∧ x.msg.op = 0x11)) = some a) (hn : n.activate = none) (hc : n.cancel = none)
    (hg : isGroup s k = true) (hl : isLead s k = false) (hf : n.fate = 0) (hs : n.settled = []) (hr : s.steps.running = true)
    (he : stepEnded s = false) : Answers (.stepAnnounce k n) s fun t => (t.group k).released = true ∧ (t.group k).reported = false ∧
      t.steps = { s.steps with tn := n.tn } := by
  obtain ⟨s1, ht⟩ := takeMsg_of_nextMsg ha
  obtain ⟨i, ids, rfl⟩ := takeMsg_first ht
  have taken : takeAnnounce (withMail s i ids) k n = _ := takeAnnounce_running hg hl hf hs hr he
  have group : (takeAnnounce (withMail s i ids) k n).group k = announced (s.group k) n := by
    rw [taken]
    exact group_setGroup_same ..
  refine ⟨_, exec_stepAnnounce_first ht hn hc, ?_, ?_, ?_⟩
  · rw [acknowledge_group, group]
    rfl
  · rw [acknowledge_group, group]
    rfl
  · rw [acknowledge_steps, taken]
    rfl

/-- O32, fourth clause: a forwarded command is queued (R359). -/
theorem cmdForward_queued {tokens : List Nat} {a : Arrival} {n : Nat} {s : State}
    (ha : nextMsg s (fun x => decide (x.msg.cls = 1 ∧ x.msg.op = 0x12)) = some a) (hc : a.msg.content.length = 64)
    (ho : sliceOwner s a.msg.slice = some n) (hb : badByte ⟨n, false, true, a.msg.content, 0, true, tokens⟩ = none)
    (hn : Cmd.names ⟨n, false, true, a.msg.content, 0, true, tokens⟩ = false) : Answers (.cmdForward tokens) s fun t =>
      t.arrived = s.arrived ++ [⟨n, false, true, a.msg.content, 0, true, tokens⟩] := by
  obtain ⟨s1, ht⟩ := takeMsg_of_nextMsg ha
  obtain ⟨i, ids, rfl⟩ := takeMsg_first ht
  refine ⟨_, congrArg Host.Outcome.next (onMsg_first ht _), ?_⟩
  refine (acknowledge_arrived _ a.msg).trans ?_
  rw [if_neg (not_not_intro hc), withMail_sliceOwner, ho, Option.getD_some]
  dsimp only
  rw [hb, hn]
  rfl

/-! ### The first silence, and the loss of the lead -/

/-- The announcement goes out once more to the members whose reports are awaited. -/
def announceAgain (s : State) (k : Nat) : State :=
  (s.group k).awaited.foldl (fun s m => sendMember (openContent s).2 k m 0x11 0 (openContent s).1) s

/-- O32, fifth clause: at the first silence of a member the announcement goes out once more (R464). -/
theorem groupReportTimeout_first {k : Fin 128} {s : State} (hg : isGroup s k = true) (hl : isLead s k = true)
    (ha : (s.group k).awaited ≠ []) (ht : (s.group k).timeouts = 0) : Answers (.groupReportTimeout k) s fun t =>
      (t.group k).timeouts = 1 ∧ (t.group k).awaited = (s.group k).awaited ∧ t.steps = s.steps := by
  have kept : Keep sendParts s (announceAgain s k) :=
    keep_foldl (fun _ _ h => sendMember_keep rfl rfl rfl rfl rfl rfl (openContent_keep rfl h).of) (Keep.refl s)
  have again : exec (.groupReportTimeout k) s =
      .next ((announceAgain s k).setGroup k { (announceAgain s k).group k with timeouts := 1 }) := by
    change execGroupReportTimeout k s = _
    unfold execGroupReportTimeout
    rw [if_neg (by simp [hg, hl, ha]), if_pos ht]
    rfl
  have group : (announceAgain s k).group k = s.group k := congrArg (Map.get GroupState.fresh · k.val) (kept.same .groups rfl)
  rw [group] at again
  exact ⟨_, again, by rw [group_setGroup_same], by rw [group_setGroup_same], kept.same .steps rfl⟩

/-- What sending a report may change. -/
def reportParts (p : Part) : Bool := sendParts p || decide (p = .groups)

/-- O32, seventh clause: at the first silence of the lead the report goes out once more (R464). -/
theorem leadLost_first {k : Fin 128} {s : State} (hg : isGroup s k = true) (hl : isLead s k = false) (hr : (s.group k).reported = true)
    (hn : (s.group k).lost = false) (ht : (s.group k).timeouts = 0) : Answers (.leadLost k) s fun t =>
      (t.group k).timeouts = 1 ∧ t.steps = s.steps ∧ t.arrived = s.arrived := by
  have kept : Keep reportParts s (sendReport s k) := sendReport_keep rfl rfl rfl rfl rfl rfl rfl rfl (Keep.refl s)
  have again : exec (.leadLost k) s = .next ((sendReport s k).setGroup k { (sendReport s k).group k with timeouts := 1 }) := by
    change execLeadLost k s = _
    unfold execLeadLost
    rw [if_neg (by simp [hg, hl, hr, hn]), if_pos ht]
  obtain ⟨arrived, -, -⟩ := kept.same .commands rfl
  exact ⟨_, again, by rw [group_setGroup_same], kept.same .steps rfl, arrived⟩

/-- What the completion of a command may change. -/
def completionParts : Part → Bool
  | .hosts | .sources | .regs | .counters | .msix | .events | .outputs => true
  | _ => false

/-- Without its lead a member keeps no forwarded command of the partition, and changes nothing of its groups. -/
theorem settleLost_forwarded (s : State) (n : Nat) :
    (settleLost s n).groups = s.groups ∧ ∀ x ∈ (settleLost s n).arrived, x.quiet = true → x.part ≠ n := by
  have kept : Keep completionParts { s with arrived := s.arrived.filter fun c => !(c.quiet && decide (c.part = n)) } (settleLost s n) := by
    unfold settleLost
    split
    · exact keep_foldl (fun _ _ h => complete_keep rfl rfl rfl rfl rfl rfl rfl h) (Keep.refl _)
    · exact Keep.refl _
  obtain ⟨arrived, -, -⟩ := kept.same .commands rfl
  refine ⟨kept.same .groups rfl, fun x hx hq hp => ?_⟩
  rw [arrived] at hx
  simp [hq, hp] at hx

/-- O32, eighth clause: at its second silence the lead is lost (R464). -/
theorem leadLost_second {k : Fin 128} {s : State} (hg : isGroup s k = true) (hl : isLead s k = false) (hr : (s.group k).reported = true)
    (hn : (s.group k).lost = false) (ht : (s.group k).timeouts ≠ 0) (hc : (s.steps.current.any fun p => p.impo = k.val) = false) :
    Answers (.leadLost k) s fun t => (t.group k).lost = true ∧ (t.group k).next = none ∧
      ∀ x ∈ t.arrived, x.quiet = true → x.part ≠ (s.impo k).partition := by
  have lost : exec (.leadLost k) s =
      .next (settleLost (endGroup (s.setGroup k { s.group k with lost := true, next := none }) k) (s.impo k).partition) := by
    change execLeadLost k s = _
    unfold execLeadLost
    rw [if_neg (by simp [hg, hl, hr, hn]), if_neg ht]
    change Host.Outcome.next (settleLost (endGroup (if (s.steps.current.any fun p => p.impo = k.val) = true then _ else _) _) _) = _
    rw [hc]
    rfl
  obtain ⟨groups, forwarded⟩ :=
    settleLost_forwarded (endGroup (s.setGroup k { s.group k with lost := true, next := none }) k) (s.impo k).partition
  have group := (congrArg (Map.get GroupState.fresh · k.val) groups).trans (group_endGroup_setGroup s k _)
  exact ⟨_, lost, congrArg GroupState.lost group, congrArg GroupState.next group, forwarded⟩

/-! ### A table that lists an index twice -/

/-- A lead with one member that has been silent once, and a table of entries that lists index 5 twice: as the FREE entry that a read
gives, and behind it as one that a search for live requests finds. -/
def twiceListed : State := { State.reset with
  entries := [(5, Entry.fresh 0), (5, { Entry.fresh 0 with state := 3 })]
  groups := [(0, { GroupState.fresh 0 with awaited := [1], timeouts := 1 })]
  impos := [(0, { ImpoSlot.empty 0 with
    state := 3, member := 0, record := { ImpoRecord.none with groupSize := 2, lead := 0, members := [(1, 7), (2, 9)] } })] }

/-- Refutes O32, at its sixth clause, which asks for an end of each index in `liveReqs` and not for a table of entries in canonical form.
In `twiceListed` the index found is that of an entry which reads FREE, so R464 raises no end on it. Such a table is not
canonical; of a canonical one the clause holds (`groupReportTimeout_second`), and the other seven hold of every state. -/
theorem not_groupMessagesComplete : ¬ Obligations.GroupMessagesComplete := by
  unfold Obligations.GroupMessagesComplete
  rintro ⟨-, -, -, -, -, lost, -, -⟩
  obtain ⟨t, ht, -, -, ended⟩ := lost 0 twiceListed (by decide) (by decide) (by decide) (by decide) (by decide) (by decide)
  have actual : exec (.groupReportTimeout 0) twiceListed = .next (loseMember twiceListed 0) :=
    exec_groupReportTimeout_loseMember (by decide) (by decide) (by decide) (by decide) (by decide) (by decide)
  obtain rfl : loseMember twiceListed 0 = t := by
    rw [actual] at ht
    injection ht
  exact ended 5 (by decide) (by decide)

end Sys2Proof.Machine
end

section
/-!
PROOFS. The tensor window (R109, R159): what a write of DEV_TT_INDEX latches, and what the latch's requester reads of it.
-/
namespace Sys2Proof.Machine

/-! ### Words and bytes of a structure -/

theorem length_leBytes (n v : Nat) : (leBytes n v).length = n := by
  induction n generalizing v with
  | zero => rfl
  | succ n ih => rw [leBytes, List.length_cons, ih]

/-- The bytes of the number that bytes spell are those bytes. -/
theorem leBytes_ofLe (bs : List Byte) : leBytes bs.length (ofLe bs) = bs := by
  induction bs with
  | nil => rfl
  | cons b bs ih =>
    have low : BitVec.ofNat 8 (b.toNat + 256 * ofLe bs) = b := by
      apply BitVec.eq_of_toNat_eq
      rw [BitVec.toNat_ofNat]
      omega
    have high : (b.toNat + 256 * ofLe bs) / 256 = ofLe bs := by omega
    rw [List.length_cons, ofLe, leBytes, low, high, ih]

theorem ofLe_lt (bs : List Byte) : ofLe bs < 256 ^ bs.length := by
  induction bs with
  | nil => decide
  | cons b bs ih =>
    rw [ofLe, List.length_cons, Nat.pow_succ]
    omega

/-- Read back, a word of a structure gives the 8 bytes that it holds. -/
theorem leBytes_word_leAt {bs : List Byte} {off : Nat} (h : off + 8 ≤ bs.length) :
    leBytes 8 (word (leAt bs off 8)).toNat = (bs.drop off).take 8 := by
  have len : ((bs.drop off).take 8).length = 8 := by rw [List.length_take, List.length_drop]; omega
  have fits : leAt bs off 8 < 2 ^ 64 := by
    have bound := ofLe_lt ((bs.drop off).take 8)
    rw [len] at bound
    exact bound
  have bytes := leBytes_ofLe ((bs.drop off).take 8)
  rw [len] at bytes
  rw [word, BitVec.toNat_ofNat, Nat.mod_eq_of_lt fits, leAt, bytes]

theorem getD_toWords {bs : List Byte} {i : Nat} (h : 8 * i < bs.length) : (toWords bs).getD i 0 = word (leAt bs (8 * i) 8) := by
  have inside : i < (bs.length + 7) / 8 := by omega
  rw [toWords, List.getD_eq_getElem?_getD, List.getElem?_map, List.getElem?_range inside]
  rfl

theorem length_tensorBytes (t : Tensor) : (tensorBytes t).length = 32 := by
  simp only [tensorBytes, List.length_append, length_leBytes]

/-! ### The latch of a requester -/

theorem latched_setLatch_same (s : State) (who : Requester) (idx : Nat) (v : Word) (ws : List Word) :
    latched (setLatch s who idx v ws) who idx = v :: ws := by
  unfold latched setLatch
  dsimp only
  rw [Map.get_set_same]

theorem getLatch_setLatch_same (s : State) (who : Requester) (idx : Nat) (v : Word) (ws : List Word) :
    getLatch (setLatch s who idx v ws) who idx = ws := congrArg (List.drop 1) (latched_setLatch_same s who idx v ws)

theorem latched_setLatch_other (s : State) {who who' : Requester} {idx idx' : Nat} (v : Word) (ws : List Word)
    (h : latchKey who' idx' ≠ latchKey who idx) : latched (setLatch s who idx v ws) who' idx' = latched s who' idx' := by
  unfold latched setLatch
  dsimp only
  rw [Map.get_set_other _ _ _ _ _ h]

/-- No check of an access looks at a latch. -/
theorem accessCauses_setLatch (s : State) (who : Requester) (idx : Nat) (v : Word) (ws : List Word) (a : Access) (write : Bool) :
    accessCauses (setLatch s who idx v ws) a write = accessCauses s a write := rfl

/-! ### The first page of the DEV_ block -/

/-- A value by cases is one of its branches. -/
theorem ite_eq_cases {α : Type} {c : Prop} [Decidable c] {x y z : α} : (if c then x else y) = z ↔ (c ∧ x = z) ∨ (¬ c ∧ y = z) := by
  by_cases h : c
  · rw [if_pos h]
    exact ⟨fun e => .inl ⟨h, e⟩, fun | .inl ⟨_, e⟩ => e | .inr ⟨n, _⟩ => absurd h n⟩
  · rw [if_neg h]
    exact ⟨fun e => .inr ⟨h, e⟩, fun | .inl ⟨c, _⟩ => absurd c h | .inr ⟨_, e⟩ => e⟩

/-- No other page is of its kind. -/
theorem locate_dev0 {a : Nat} {p : PageRef} (h : locate a = some p) (hk : p.kind = .dev0) : a = 0 := by
  refine Decidable.byContradiction fun ha => ?_
  have kind : (locate a).map PageRef.kind = some .dev0 := by rw [h, Option.map_some, hk]
  simp only [locate, if_neg ha, apply_ite (Option.map PageRef.kind), Option.map_some, Option.map_none, ite_eq_cases, Option.some.injEq,
    reduceCtorEq, and_false, or_false] at kind

/-- An access resolved to a register of that page names it by its page offset. -/
theorem resolvePage_dev0 {base o off key : Nat} {p : PageRef} {row : Option (RegRow × Nat)}
    (h : resolvePage base o = some (.reg p off key row)) (hk : p.kind = .dev0) : base = 0 ∧ o = off := by
  unfold resolvePage at h
  split at h
  · cases h
  · next p' hp =>
    dsimp only at h
    split at h
    · cases h
      exact ⟨locate_dev0 hp hk, rfl⟩
    · split at h
      · cases h
        exact ⟨locate_dev0 hp hk, rfl⟩
      · cases h

/-- No virtual function reaches it. -/
theorem resolveVf_ne_dev0 {n a off key : Nat} {p : PageRef} {row : Option (RegRow × Nat)}
    (h : resolveVf n a = some (.reg p off key row)) : p.kind ≠ .dev0 := by
  intro hk
  unfold resolveVf at h
  split at h
  · have base := (resolvePage_dev0 h hk).1
    unfold qBase at base
    omega
  · split at h
    · cases h
    · split at h
      · have base := (resolvePage_dev0 h hk).1
        unfold Reg.partBlk at base
        omega
      · cases h

/-- So whoever reaches it names registers as the management controllers do. -/
theorem resolve_of_dev0 {who : Requester} {a off key : Nat} {p : PageRef} {row : Option (RegRow × Nat)}
    (h : resolve who a = some (.reg p off key row)) (hk : p.kind = .dev0) (b : Nat) : resolve who b = resolve (.mc .west) b := by
  cases who with
  | vf n port =>
    unfold resolve at h
    dsimp only at h
    split at h
    · cases h
    · exact absurd hk (resolveVf_ne_dev0 h)
  | _ => rfl

/-- Off CORE_ pages a row lies at its page offset. -/
theorem pageRow_offset {p : PageRef} {off i : Nat} {r : RegRow} (hk : p.kind ≠ .core) (h : pageRow p off = some (r, i)) :
    off = r.off + 8 * i := by
  unfold pageRow at h
  rw [if_neg hk] at h
  split at h
  · cases h
  · split at h
    · cases h
    · exact findRow_offset h

/-- A write that names a register of that page above the header acts on the register at that offset. -/
theorem resolve_of_isReg_dev0 {s : State} {w : RegWrite} {p : PageRef} {off key o : Nat} {row : Option (RegRow × Nat)}
    (hw : isReg w .dev0 o = true) (hq : servedAt s w = some (p, off, key, row)) :
    p.kind = .dev0 ∧ resolvePage 0 o = some (.reg p off key row) := by
  have hr := resolve_of_servedAt hq
  obtain ⟨base, o', hp⟩ := resolve_reg hr
  unfold isReg writeNames at hw
  rw [hr] at hw
  have named : p.kind = .dev0 ∧ off = o := by
    obtain rfl | ⟨⟨r, i⟩, rfl, hx⟩ := resolvePage_row hp
    · simpa only [decide_eq_true_eq, Option.some.injEq, Prod.mk.injEq] using hw
    · simp only [decide_eq_true_eq, Option.some.injEq, Prod.mk.injEq] at hw
      obtain ⟨hk, ho⟩ := hw
      exact ⟨hk, (pageRow_offset (by rw [hk]; decide) hx).trans ho⟩
  obtain ⟨hk, rfl⟩ := named
  obtain ⟨rfl, rfl⟩ := resolvePage_dev0 hp hk
  exact ⟨hk, hp⟩

/-! ### A write of DEV_TT_INDEX -/

/-- Page 0 of the DEV_ block. -/
def devPage : PageRef := ⟨.dev0, 0x01, 0, 2, 0, 0, 0⟩

/-- DEV_TT_INDEX: HANDLE is [16:0]. -/
def ttIndexRow : RegRow := ⟨0x318, 1, .plain, 0x1ffff, 0, 0, 0, 0⟩

/-- DEV_TT_DATA0 to 3. -/
def ttDataRow : RegRow := ⟨0x320, 4, .latch, 0, 0, 0, 0, 0⟩

/-- Where a served write of DEV_TT_INDEX lands. -/
theorem servedAt_ttIndex {s : State} {w : RegWrite} {q : Site} (hw : isReg w .dev0 0x318 = true) (hq : servedAt s w = some q) :
    q = (devPage, 0x318, 0x318, some (ttIndexRow, 0)) := by
  obtain ⟨p, off, key, row⟩ := q
  have here : resolvePage 0 0x318 = some (.reg devPage 0x318 0x318 (some (ttIndexRow, 0))) := by decide
  obtain ⟨-, hp⟩ := resolve_of_isReg_dev0 hw hq
  rw [here] at hp
  cases hp
  rfl

theorem namesIndex_ttIndex {w : RegWrite} (hw : isReg w .dev0 0x318 = true) : namesIndex w = true := by
  unfold namesIndex
  rw [of_decide_eq_true hw]
  decide

/-- The state with the entry of a handle latched for a requester. -/
def withTensorLatched (s : State) (who : Requester) (v : Word) : State :=
  setLatch s who Reg.devTtIndex (v &&& word ttIndexRow.rw) (toWords (tensorBytes (s.tensor (fld v 0 17))))

/-- HANDLE of a written value. -/
theorem toNat_and_handle (v : Word) : (v &&& word ttIndexRow.rw).toNat % 2 ^ 17 = fld v 0 17 := by
  have mask : (word ttIndexRow.rw).toNat = 2 ^ 17 - 1 := by decide
  rw [BitVec.toNat_and, mask, Nat.and_two_pow_sub_one_eq_mod, Nat.mod_mod, fld, Nat.pow_zero, Nat.div_one]

/-- The write latches the entry of its HANDLE, and does nothing else (R109, R159). -/
theorem exec_windowIndexLatch_ttIndex {s : State} {w : RegWrite} {q : Site} (hw : isReg w .dev0 0x318 = true)
    (hq : servedAt s w = some q) : exec (.windowIndexLatch w) s = .next (withTensorLatched s w.who w.val) := by
  obtain rfl := servedAt_ttIndex hw hq
  have latch : plainWrite w 0 s devPage 0x318 0x318 (some (ttIndexRow, 0)) =
      setLatch s w.who 0x318 (w.val &&& word ttIndexRow.rw)
        (toWords (tensorBytes (s.tensor ((w.val &&& word ttIndexRow.rw).toNat % 2 ^ 17)))) := rfl
  change guarded (namesIndex w) (serveWrite s w (plainWrite w 0)) = _
  rw [namesIndex_ttIndex hw, serveWrite_served hq, latch, toNat_and_handle]
  rfl

/-! ### A read of DEV_TT_DATA -/

/-- DEV_TT_DATAi lies behind DEV_TT_INDEX. -/
theorem resolve_ttData : ∀ i < 4, resolve (.mc .west) (0x320 + 8 * i) =
    some (.reg devPage (0x320 + 8 * i) (0x320 + 8 * i) (some (ttDataRow, i))) := by decide

/-- A DATA register gives a word of what its requester has latched (R109). -/
theorem readReg_latch {s : State} {who : Requester} {p : PageRef} {off key i : Nat} {r : RegRow} {v : Word} {ws : List Word}
    (hc : r.cls = .latch) (h : latched s who (key - off + windowIndex p.kind off) = v :: ws) :
    readReg s who p off key (some (r, i)) = ws.getD ((off - windowIndex p.kind off) / 8 - 1) 0 := by
  unfold readReg
  dsimp only
  rw [hc]
  dsimp only
  rw [h]

/-- DEV_TT_DATAi gives word i. -/
theorem readReg_ttData {s : State} {who : Requester} {v : Word} {ws : List Word} {i : Nat} (h : latched s who Reg.devTtIndex = v :: ws)
    (hi : i < 4) : readReg s who devPage (0x320 + 8 * i) (0x320 + 8 * i) (some (ttDataRow, i)) = ws.getD i 0 := by
  have window : windowIndex devPage.kind (0x320 + 8 * i) = Reg.devTtIndex := if_pos (by omega)
  have place : (0x320 + 8 * i - Reg.devTtIndex) / 8 - 1 = i := by unfold Reg.devTtIndex; omega
  rw [readReg_latch rfl (by rw [window, Nat.sub_self, Nat.zero_add]; exact h), window, place]

/-- A read of a register that passes the checks gives the bytes of its value. -/
theorem readAccess_reg {s : State} {a : Access} {p : PageRef} {off key : Nat} {row : Option (RegRow × Nat)}
    (hc : accessCauses s a false = []) (hr : resolve a.who a.off = some (.reg p off key row)) :
    readAccess s a = leBytes 8 (readReg s a.who p off key row).toNat := by
  unfold readAccess
  rw [if_neg (not_not_intro hc), hr]

/-- Settles O60: the write sets the latch of its requester alone, to the words of the entry; a read of DEV_TT_DATA passes the checks
that it passed before the write, and the word that it gives holds 8 bytes of the entry. -/
theorem tensorWindow : Obligations.TensorWindow := by
  unfold Obligations.TensorWindow
  refine ⟨?latches, ?reads⟩
  case latches =>
    intro w q s hw hq
    exact ⟨_, exec_windowIndexLatch_ttIndex hw hq, getLatch_setLatch_same .., fun who idx h => latched_setLatch_other s _ _ h, rfl, rfl⟩
  case reads =>
    intro w q i s hw hq hi ha
    refine ⟨_, exec_windowIndexLatch_ttIndex hw hq, ?_⟩
    obtain rfl := servedAt_ttIndex hw hq
    have data : resolve w.who (0x320 + 8 * i) = some (.reg devPage (0x320 + 8 * i) (0x320 + 8 * i) (some (ttDataRow, i))) :=
      (resolve_of_dev0 (resolve_of_servedAt hq) rfl _).trans (resolve_ttData i hi)
    have len := length_tensorBytes (s.tensor (fld w.val 0 17))
    calc readAccess (withTensorLatched s w.who w.val) ⟨w.who, 0x320 + 8 * i, 8⟩
      _ = leBytes 8 ((toWords (tensorBytes (s.tensor (fld w.val 0 17)))).getD i 0).toNat := by
        rw [withTensorLatched, readAccess_reg ((accessCauses_setLatch ..).trans ha) data, readReg_ttData (latched_setLatch_same ..) hi]
      _ = ((tensorBytes (s.tensor (fld w.val 0 17))).drop (8 * i)).take 8 := by
        rw [getD_toWords (by omega), leBytes_word_leAt (by omega)]

end Sys2Proof.Machine
end

section
/-!
PROOFS. Quiescence, the block reset and the changes of BLK_CTRL (R100, R101), clause by clause of O11, and the block number of which one
clause fails.
-/
namespace Sys2Proof.Machine

/-! ### A quiesced block -/

theorem isBlock_of_blockPage {blk : Nat} {p : PageRef} (h : blockPage blk = some p) : isBlock blk = true := by
  rw [isBlock, h, Option.isSome_some]

/-- O11, first clause: a quiescing block without outstanding work is QUIESCED. -/
theorem exec_quiesced {blk : Nat} {p : PageRef} {s : State} (hp : blockPage blk = some p)
    (hq : Map.get (fun _ => false) s.quiescing blk = true) (hb : blockBusy s p = false) :
    exec (.quiesced blk) s = .next (putBit s (blkStatus blk) 1 true) := by
  change execQuiesced blk s = _
  unfold execQuiesced
  rw [isBlock_of_blockPage hp, hp]
  dsimp only
  rw [hq, hb]
  rfl

/-! ### The end of a block reset -/

theorem exec_blockResetDone {blk : Nat} {p : PageRef} {s : State} (hp : blockPage blk = some p)
    (hr : getBit s (blkStatus blk) 3 = true) : exec (.blockResetDone blk) s = .next (resetBlock s p) := by
  change execBlockResetDone blk s = _
  unfold execBlockResetDone
  rw [isBlock_of_blockPage hp, hp]
  dsimp only
  rw [hr]
  rfl

theorem locate_of_blockPage {blk : Nat} {p : PageRef} (h : blockPage blk = some p) : locate blk = some p ∧ p.base = blk := by
  simpa [blockPage, Option.filter_eq_some_iff] using h

/-- What a block reset drops: the values of its registers, the latches of its windows, values still in force. -/
def dropBlock (s : State) (p : PageRef) : State := { s with
  regs := s.regs.filter fun x => !resetsWith p.base x.1
  latch := s.latch.filter fun x => !inBlock p.base (x.1 / 8)
  inForce := s.inForce.filter fun x => !inBlock p.base x.1 || decide (x.1 = Reg.cntStopAt) }

/-- Besides, it keeps bit 0 of PART_CFG and ends. -/
theorem resetBlock_eq (s : State) (p : PageRef) : resetBlock s p = putBit
    (if (if p.type = 0x0D then getReg s (Reg.partCfg p.inst) &&& 1 else 0) = 1 then
      putBit (dropBlock (resetFollows s p) p) (Reg.partCfg p.inst) 0 true
    else dropBlock (resetFollows s p) p) (blkStatus p.base) 3 false := rfl

/-- A register that a block reset covers returns to its reset value; any other is left by the drop. -/
theorem getReg_dropBlock (s : State) (p : PageRef) (a : Nat) :
    getReg (dropBlock s p) a = if resetsWith p.base a then regReset a else getReg s a := Map.get_clearWhere ..

theorem getReg_resetBlock (s : State) {p : PageRef} {a : Nat} (hc : a ≠ Reg.partCfg p.inst) (hs : a ≠ blkStatus p.base) :
    getReg (resetBlock s p) a = if resetsWith p.base a then regReset a else getReg (resetFollows s p) a := by
  rw [resetBlock_eq, getReg_putBit_other _ _ _ _ _ hs, apply_ite (getReg · a), getReg_putBit_other _ _ _ _ _ hc, ite_self,
    getReg_dropBlock]

theorem getBit_resetBlock_status (s : State) (p : PageRef) : getBit (resetBlock s p) (blkStatus p.base) 3 = false :=
  getBit_putBit_same _ _ _ _ (by decide)

/-- The interrupt registers of the header of a block at a page boundary are among those that its reset covers; they reset to 0. -/
theorem resetsWith_header {blk o : Nat} {p : PageRef} (hp : blockPage blk = some p) (ha : blk % 0x1000 = 0)
    (ho : o = 0x020 ∨ o = 0x028 ∨ o = 0x038) : resetsWith blk (blk + o) = true ∧ regReset (blk + o) = 0 := by
  obtain ⟨hl, hb⟩ := locate_of_blockPage hp
  have page : (blk + o) / 0x1000 * 0x1000 = blk := by omega
  have off : (blk + o) % 0x1000 = o := by omega
  have header : o < 0x100 := by omega
  constructor
  · unfold resetsWith
    dsimp only
    rw [page, hl, off, Option.any_some, if_pos header, decide_eq_true hb, decide_eq_true ho]
    rfl
  · unfold regReset
    rw [page, hl, off]
    dsimp only
    rw [if_pos header]
    obtain rfl | rfl | rfl := ho
    all_goals rfl

/-- O11, second clause, of a block at a page boundary. -/
theorem blockResetDone_aligned {blk : Nat} {p : PageRef} {s : State} (hp : blockPage blk = some p) (ha : blk % 0x1000 = 0)
    (hr : getBit s (blkStatus blk) 3 = true) : Answers (.blockResetDone blk) s fun t => getBit t (blkStatus blk) 3 = false ∧
      getReg t (blkIntRaw blk) = 0 ∧ getReg t (blkIntEn blk) = 0 := by
  obtain ⟨-, rfl⟩ := locate_of_blockPage hp
  have interrupt {o : Nat} (ho : o = 0x020 ∨ o = 0x028 ∨ o = 0x038) : getReg (resetBlock s p) (p.base + o) = 0 := by
    obtain ⟨covered, zero⟩ := resetsWith_header hp ha ho
    rw [getReg_resetBlock s (by unfold Reg.partCfg; omega) (by unfold blkStatus; omega), if_pos covered, zero]
  exact ⟨_, exec_blockResetDone hp hr, getBit_resetBlock_status s p, interrupt (.inl rfl), interrupt (.inr (.inl rfl))⟩

/-! ### A boundary between steps -/

/-- O11, third clause: between steps the waiting changes are taken by a boundary (R101). -/
theorem exec_idleBoundaryChange {s : State} (hb : betweenSteps s = true) (hs : stopState s ≤ 2) :
    exec (.idleBoundaryChange) s = .next (boundary s false [] []) := by
  change Host.Outcome.next (if (betweenSteps s && decide (stopState s ≤ 2)) = true then _ else _) = _
  rw [hb, decide_eq_true hs]
  rfl

/-- Whether a block is quiescing. -/
def setQuiescing (s : State) (blk : Nat) (q : Bool) : State := { s with quiescing := Map.set (fun _ => false) s.quiescing blk q }

@[simp] theorem getBit_setQuiescing (s : State) (blk : Nat) (q : Bool) (a i : Nat) : getBit (setQuiescing s blk q) a i = getBit s a i := rfl

theorem quiescing_setQuiescing (s : State) (blk : Nat) (q : Bool) :
    Map.get (fun _ => false) (setQuiescing s blk q).quiescing blk = q := Map.get_set_same ..

/-- ENABLE goes to BLK_STATUS; a block that does not quiesce is not QUIESCED. -/
theorem blkCtrlNow_eq (s : State) (blk : Nat) : blkCtrlNow s blk =
    if getBit s (blkCtrl blk) 1 = true then
      setQuiescing (putBit s (blkStatus blk) 0 (getBit s (blkCtrl blk) 0)) blk (getBit s (blkCtrl blk) 1)
    else putBit (setQuiescing (putBit s (blkStatus blk) 0 (getBit s (blkCtrl blk) 0)) blk (getBit s (blkCtrl blk) 1))
      (blkStatus blk) 1 false := rfl

/-- O11, fourth clause: ENABLE and QUIESCE of BLK_CTRL take effect (R100). -/
theorem applyDeferred_blkCtrl (s : State) (blk : Nat) :
    getBit (applyDeferred s (.blkCtrl blk)) (blkStatus blk) 0 = getBit s (blkCtrl blk) 0 ∧
      Map.get (fun _ => false) (applyDeferred s (.blkCtrl blk)).quiescing blk = getBit s (blkCtrl blk) 1 := by
  have applied : applyDeferred s (.blkCtrl blk) = blkCtrlNow s blk := rfl
  rw [applied, blkCtrlNow_eq]
  split
  · rw [getBit_setQuiescing, getBit_putBit_same _ _ _ _ (by decide), quiescing_setQuiescing]
    exact ⟨rfl, rfl⟩
  · rw [getBit_putBit_disjoint _ _ _ _ _ (by decide), getBit_setQuiescing, getBit_putBit_same _ _ _ _ (by decide), putBit_quiescing,
      quiescing_setQuiescing]
    exact ⟨rfl, rfl⟩

/-! ### A block number inside a page -/

/-- An offset inside the page of MD0. The page map takes the offset that it is given for the base of a page of one page alone, so this
one counts as page 0 of a block. -/
def insideMd : Nat := 0x300020

/-- What the page map finds there. -/
def insideMdPage : PageRef := ⟨.md, 0x08, 0, 1, 0, insideMd, 155⟩

theorem blockPage_insideMd : blockPage insideMd = some insideMdPage := by decide

/-- A block reset in progress there, and a set bit where the block would have BLK_INT_RAW. -/
def resetInsideMd : State := setReg (putBit State.reset (blkStatus insideMd) 3 true) (blkIntRaw insideMd) 1

/-- The reset leaves that bit: it lies in the page of another block, MD0. -/
theorem getReg_resetInsideMd : getReg (resetBlock resetInsideMd insideMdPage) (blkIntRaw insideMd) = 1 := by
  have elsewhere : resetsWith insideMdPage.base (blkIntRaw insideMd) = false := by decide
  have follows : resetFollows resetInsideMd insideMdPage = resetInsideMd := rfl
  rw [getReg_resetBlock _ (by decide) (by decide), elsewhere, follows]
  exact getReg_setReg_same ..

/-- Refutes O11, at its second clause, which asks for an end of the reset with the interrupt registers at 0 of every number that counts
as a block, and `insideMd` counts as one without lying at a page boundary: no register behind it is its own. Of a block at a page boundary
the clause holds (`blockResetDone_aligned`), and the other three hold of every state (`exec_quiesced`, `exec_idleBoundaryChange`,
`applyDeferred_blkCtrl`). -/
theorem not_blockStatesComplete : ¬ Obligations.BlockStatesComplete := by
  unfold Obligations.BlockStatesComplete
  rintro ⟨-, resets, -, -⟩
  have inProgress : getBit resetInsideMd (blkStatus insideMd) 3 = true := by decide
  obtain ⟨t, ht, -, raw, -⟩ := resets insideMd insideMdPage resetInsideMd blockPage_insideMd inProgress
  have actual := exec_blockResetDone blockPage_insideMd inProgress
  obtain rfl : resetBlock resetInsideMd insideMdPage = t := by
    rw [actual] at ht
    injection ht
  rw [getReg_resetInsideMd] at raw
  exact absurd raw (by decide)

end Sys2Proof.Machine
end

section
/-!
PROOFS. Writes of the header registers (R98 to R105, R108), clause by clause of O10, and the register that bears the name of one of them,
of which four clauses fail.
-/
namespace Sys2Proof.Machine

/-! ### What a header write acts on -/

/-- A write that names header offset `o` acts on the header register there, or on a register of a CORE_ slice. -/
theorem servedAt_isHeader {s : State} {w : RegWrite} {p : PageRef} {off key o : Nat} {row : Option (RegRow × Nat)}
    (hw : isHeader w o = true) (hq : servedAt s w = some (p, off, key, row)) :
    (row = none ∧ off = o) ∨ (row ≠ none ∧ findRow PageKind.core.rows o ≠ none) := by
  have hr := resolve_of_servedAt hq
  obtain ⟨base, o', hp⟩ := resolve_reg hr
  unfold isHeader writeNames at hw
  rw [hr] at hw
  obtain rfl | ⟨⟨r, i⟩, rfl, hx⟩ := resolvePage_row hp
  · simp only [Bool.and_eq_true, decide_eq_true_eq] at hw
    exact .inl ⟨rfl, hw.1⟩
  · simp only [Bool.and_eq_true, decide_eq_true_eq] at hw
    obtain ⟨ho, header⟩ := hw
    refine .inr ⟨Option.some_ne_none _, ?_⟩
    unfold pageRow at hx
    split at hx
    · next hk =>
      split at hx
      · have place := findRow_offset hx
        rw [hk] at hx
        rw [← ho, ← place, hx]
        exact Option.some_ne_none _
      · cases hx
    · split at hx
      · cases hx
      · split at hx
        · cases hx
        · have place := findRow_offset hx
          omega

/-- Where a CORE_ slice has no register, it acts on the header register. -/
theorem servedAt_header {s : State} {w : RegWrite} {q : Site} {o : Nat} (hc : findRow PageKind.core.rows o = none)
    (hw : isHeader w o = true) (hq : servedAt s w = some q) : ∃ p key, q = (p, o, key, none) := by
  obtain ⟨p, off, key, row⟩ := q
  obtain ⟨rfl, rfl⟩ | ⟨-, slice⟩ := servedAt_isHeader hw hq
  · exact ⟨p, key, rfl⟩
  · exact absurd hc slice

/-- And wherever it acts on a register without a row. -/
theorem offset_of_isHeader {s : State} {w : RegWrite} {p : PageRef} {off key o : Nat} (hw : isHeader w o = true)
    (hq : servedAt s w = some (p, off, key, none)) : off = o := by
  obtain ⟨-, ho⟩ | ⟨hn, -⟩ := servedAt_isHeader hw hq
  · exact ho
  · exact absurd rfl hn

/-- The command of a header register writes it. -/
theorem plainRow_header {s : State} {w : RegWrite} {p : PageRef} {off key : Nat} {ok : Bool} (hw : ok = true)
    (hq : servedAt s w = some (p, off, key, none)) : plainRow w ok 0 s = .next (headerWrite s p off key w.val w.hwSet) := by
  rw [plainRow, hw, serveWrite_served hq]
  rfl

/-- A change waits for the step boundary. -/
def withChange (s : State) (d : Deferred) : State := { s with deferred := s.deferred ++ [d] }

@[simp] theorem getReg_withChange (s : State) (d : Deferred) (a : Nat) : getReg (withChange s d) a = getReg s a := rfl
@[simp] theorem getFld_withChange (s : State) (d : Deferred) (a lo n : Nat) : getFld (withChange s d) a lo n = getFld s a lo n := rfl
@[simp] theorem getBit_withChange (s : State) (d : Deferred) (a i : Nat) : getBit (withChange s d) a i = getBit s a i := rfl
@[simp] theorem deferred_withChange (s : State) (d : Deferred) : (withChange s d).deferred = s.deferred ++ [d] := rfl

/-! ### BLK_CTRL (R100, R101) -/

/-- BLK_CTRL takes its two bits; an error of an earlier reset is forgotten, and the change waits for the boundary. -/
def storeBlkCtrl (s : State) (p : PageRef) (v : Word) : State :=
  withChange (putBit (setReg s (blkCtrl p.base) (v &&& 3)) (blkStatus p.base) 4 false) (.blkCtrl p.base)

theorem blkCtrlWrite_eq (s : State) (p : PageRef) (v : Word) : blkCtrlWrite s p v =
    if (!bit v 2) = true then storeBlkCtrl s p v
    else if (getBit s (blkStatus p.base) 1 && !getBit s (blkStatus p.base) 3) = true then
      putBit (storeBlkCtrl s p v) (blkStatus p.base) 3 true
    else putBit (storeBlkCtrl s p v) (blkStatus p.base) 4 true := rfl

section BlkCtrl

variable (s : State) (p : PageRef) (v : Word)

theorem blkCtrl_ne_blkStatus : blkCtrl p.base ≠ blkStatus p.base := by unfold blkCtrl blkStatus; omega

theorem getReg_storeBlkCtrl_ctrl : getReg (storeBlkCtrl s p v) (blkCtrl p.base) = v &&& 3 := by
  rw [storeBlkCtrl, getReg_withChange, getReg_putBit_other _ _ _ _ _ (blkCtrl_ne_blkStatus p), getReg_setReg_same]

theorem getReg_storeBlkCtrl_status : getReg (storeBlkCtrl s p v) (blkStatus p.base) = setBit (getReg s (blkStatus p.base)) 4 false := by
  rw [storeBlkCtrl, getReg_withChange, putBit, getReg_setReg_same, getReg_setReg_other _ _ _ _ (blkCtrl_ne_blkStatus p).symm]

/-- Without BLOCK_RESET a write stores, and nothing more. -/
theorem blkCtrlWrite_store (h : bit v 2 = false) : blkCtrlWrite s p v = storeBlkCtrl s p v := by
  rw [blkCtrlWrite_eq, h]
  rfl

/-- BLOCK_RESET of a quiesced block begins. -/
theorem blkCtrlWrite_reset (h : bit v 2 = true) (hq : getBit s (blkStatus p.base) 1 = true) (hr : getBit s (blkStatus p.base) 3 = false) :
    blkCtrlWrite s p v = putBit (storeBlkCtrl s p v) (blkStatus p.base) 3 true := by
  rw [blkCtrlWrite_eq, h, hq, hr]
  rfl

/-- BLOCK_RESET of any other block is refused. -/
theorem blkCtrlWrite_refused (h : bit v 2 = true) (hq : getBit s (blkStatus p.base) 1 = false) :
    blkCtrlWrite s p v = putBit (storeBlkCtrl s p v) (blkStatus p.base) 4 true := by
  rw [blkCtrlWrite_eq, h, hq]
  rfl

end BlkCtrl

section BlkCtrlWrites

variable {w : RegWrite} {s : State} {p : PageRef} {off key : Nat} (hw : isHeader w 0x010 = true)
  (hq : servedAt s w = some (p, off, key, none))
include hw hq

/-- A write of BLK_CTRL, where it does not name a register of a CORE_ slice. -/
theorem plainRow_blkCtrl : plainRow w (isHeader w 0x010) 0 s = .next (blkCtrlWrite s p w.val) := by
  obtain rfl := offset_of_isHeader hw hq
  exact plainRow_header hw hq

theorem plainRow_blkCtrl_store (hv : bit w.val 2 = false) : ∃ t, plainRow w (isHeader w 0x010) 0 s = .next t ∧
    t.deferred = s.deferred ++ [.blkCtrl p.base] ∧ getReg t (blkCtrl p.base) = w.val &&& 3 ∧
      getReg t (blkStatus p.base) = setBit (getReg s (blkStatus p.base)) 4 false := by
  refine ⟨_, plainRow_blkCtrl hw hq, deferred_blkCtrlWrite s p w.val, ?_⟩
  rw [blkCtrlWrite_store s p w.val hv]
  exact ⟨getReg_storeBlkCtrl_ctrl s p w.val, getReg_storeBlkCtrl_status s p w.val⟩

/-- O10, first clause, of a site in a header: ENABLE is stored and waits for the boundary. -/
theorem blkEnable_header (hv : bit w.val 2 = false) : Answers (.blkEnable w) s fun t =>
    t.deferred = s.deferred ++ [.blkCtrl p.base] ∧ getReg t (blkCtrl p.base) = w.val &&& 3 ∧
      getReg t (blkStatus p.base) = setBit (getReg s (blkStatus p.base)) 4 false := plainRow_blkCtrl_store hw hq hv

/-- O10, second clause, of a site in a header: so is QUIESCE. -/
theorem blkQuiesce_header (hv : bit w.val 2 = false) : Answers (.blkQuiesce w) s fun t =>
    t.deferred = s.deferred ++ [.blkCtrl p.base] ∧ getReg t (blkCtrl p.base) = w.val &&& 3 ∧
      getReg t (blkStatus p.base) = setBit (getReg s (blkStatus p.base)) 4 false := plainRow_blkCtrl_store hw hq hv

/-- O10, third clause, of a site in a header: BLOCK_RESET begins in a quiesced block. -/
theorem blockReset_begins (hv : bit w.val 2 = true) (h1 : getBit s (blkStatus p.base) 1 = true) (h3 : getBit s (blkStatus p.base) 3 = false) :
    Answers (.blockReset w) s fun t => getBit t (blkStatus p.base) 3 = true ∧ getBit t (blkStatus p.base) 4 = false ∧
      t.deferred = s.deferred ++ [.blkCtrl p.base] := by
  refine ⟨_, plainRow_blkCtrl hw hq, ?_, ?_, deferred_blkCtrlWrite s p w.val⟩
  · rw [blkCtrlWrite_reset s p w.val hv h1 h3, getBit_putBit_same _ _ _ _ (by decide)]
  · rw [blkCtrlWrite_reset s p w.val hv h1 h3, getBit_putBit_disjoint _ _ _ _ _ (by decide), getBit, getReg_storeBlkCtrl_status,
      bit_setBit_same _ _ _ (by decide)]

/-- O10, fourth clause, of a site in a header: in any other block it is refused. -/
theorem blockReset_refused (hv : bit w.val 2 = true) (h1 : getBit s (blkStatus p.base) 1 = false) :
    Answers (.blockReset w) s fun t => getBit t (blkStatus p.base) 3 = getBit s (blkStatus p.base) 3 ∧
      getBit t (blkStatus p.base) 4 = true := by
  refine ⟨_, plainRow_blkCtrl hw hq, ?_, ?_⟩
  · rw [blkCtrlWrite_refused s p w.val hv h1, getBit_putBit_disjoint _ _ _ _ _ (by decide), getBit, getReg_storeBlkCtrl_status,
      bit_setBit_other _ _ _ _ (by decide), getBit]
  · rw [blkCtrlWrite_refused s p w.val hv h1, getBit_putBit_same _ _ _ _ (by decide)]

end BlkCtrlWrites

/-! ### BLK_INT_EN (R102) -/

/-- The messages of causes that rise leave every register. -/
theorem getReg_sendRising (s : State) (blk : Nat) (m : Word) (a : Nat) : getReg (sendRising s blk m) a = getReg s a :=
  of_sendRising s (getReg · a) (fun s f v => by simp only [getReg, regs_sendVector]) (fun _ => rfl) blk m

theorem getReg_writeIntEn (s : State) (p : PageRef) (v : Word) (a : Nat) :
    getReg (writeIntEn s p v) a = getReg (setReg s (blkIntEn p.base) (v &&& causeMask p)) a := getReg_sendRising ..

/-- O10, fifth clause: BLK_INT_EN takes the bits of the causes that the block has, and no other register changes. -/
theorem blkIntEnWrite_takes {w : RegWrite} {q : Site} {s : State} (hw : isHeader w 0x028 = true) (hq : servedAt s w = some q) :
    Answers (.blkIntEnWrite w) s fun t =>
      getReg t (blkIntEn q.1.base) = w.val &&& word (15 + (2 ^ intCauses q.1.type - 1) * 2 ^ 16) ∧
        ∀ off, off ≠ blkIntEn q.1.base → getReg t off = getReg s off := by
  obtain ⟨p, key, rfl⟩ := servedAt_header (by decide) hw hq
  refine ⟨writeIntEn s p w.val, plainRow_header hw hq, ?_, fun off h => ?_⟩
  · rw [getReg_writeIntEn, getReg_setReg_same]
    rfl
  · rw [getReg_writeIntEn, getReg_setReg_other _ _ _ _ h]

/-! ### BLK_SNAP (R105) -/

theorem cnt_loadSnap (s : State) (off : Nat) (v : Word) : (loadSnap s off v).cnt = s.cnt := rfl

theorem cnt_snapRest (s : State) (blk t : Nat) : (snapRest s blk t).cnt = s.cnt := by
  unfold snapRest snapGalley
  split
  · rw [cnt_loadSnap, cnt_loadSnap, cnt_loadSnap]
  · split
    · exact List.foldlRecOn (motive := fun x : State => x.cnt = s.cnt) _ _ rfl fun x h g _ => (cnt_loadSnap x _ _).trans h
    · rfl

/-- A snapshot leaves the live counts. -/
theorem cnt_snapBlock (s : State) (blk t : Nat) : (snapBlock s blk t).cnt = s.cnt := by
  unfold snapBlock
  rw [setReg_cnt, cnt_snapRest]
  rfl

/-- O10, sixth clause: BLK_SNAP with TRIG sets SNAP_DONE. -/
theorem blkSnap_done {w : RegWrite} {q : Site} {s : State} (hw : isHeader w 0x060 = true) (hq : servedAt s w = some q)
    (hv : bit w.val 0 = true) (hm : snapMerges s q.1.base s.clock.now = false) : Answers (.blkSnap w) s fun t =>
      getBit t (blkIntRaw q.1.base) 3 = true ∧ t.cnt = s.cnt := by
  obtain ⟨p, key, rfl⟩ := servedAt_header (by decide) hw hq
  have taken : headerWrite s p 0x060 key w.val w.hwSet = setCause (snapBlock s p.base s.clock.now) p.base 3 := by
    change (if bit w.val 0 = true then triggerSnap s p.base else s) = _
    rw [if_pos hv, triggerSnap, hm]
    rfl
  refine ⟨_, plainRow_header hw hq, ?_, ?_⟩
  · rw [taken, getBit_setCause _ _ _ _ (by decide), decide_eq_true rfl, Bool.or_true]
  · rw [taken, cnt_setCause, cnt_snapBlock]

/-! ### BLK_OWNER (R108) -/

/-- A change of owner is accepted: it waits for the boundary, and OWNER_GEN counts it. -/
def acceptOwner (s : State) (blk o : Nat) : State :=
  withChange (putFld (putBit s (blkStatus blk) 5 false) (blkOwner blk) 32 16 (getFld s (blkOwner blk) 32 16 + 1)) (.owner blk o)

theorem blkOwner_ne_blkStatus (blk : Nat) : blkOwner blk ≠ blkStatus blk := by unfold blkOwner blkStatus; omega

theorem acceptOwner_effect (s : State) (blk o : Nat) : (acceptOwner s blk o).deferred = s.deferred ++ [.owner blk o] ∧
    getFld (acceptOwner s blk o) (blkOwner blk) 32 16 = (getFld s (blkOwner blk) 32 16 + 1) % 2 ^ 16 ∧
    getFld (acceptOwner s blk o) (blkOwner blk) 0 16 = getFld s (blkOwner blk) 0 16 ∧
    getBit (acceptOwner s blk o) (blkStatus blk) 5 = false := by
  unfold acceptOwner
  refine ⟨?_, ?_, ?_, ?_⟩
  · rw [deferred_withChange, putFld_deferred, putBit_deferred]
  · rw [getFld_withChange, getFld_putFld_same _ _ _ _ _ (by decide)]
  · rw [getFld_withChange, getFld_putFld_disjoint _ _ _ _ _ _ _ (by decide), getFld_putBit_other _ _ _ _ _ _ _ (blkOwner_ne_blkStatus blk)]
  · rw [getBit_withChange, getBit_putFld_other _ _ _ _ _ _ _ (blkOwner_ne_blkStatus blk).symm, getBit_putBit_same _ _ _ _ (by decide)]

theorem ownerWrite_eq (s : State) (p : PageRef) (v : Word) : ownerWrite s p v =
    if (!getBit s (blkStatus p.base) 1 || !ownerOk (fld v 0 8) || (decide (p.type = 0x07) && !ownerOk (fld v 8 8))) = true then
      putBit s (blkStatus p.base) 5 true
    else acceptOwner s p.base (if decide (p.type = 0x07) = true then fld v 0 16 else fld v 0 8) := rfl

/-- In a quiesced block values that an owner may hold are accepted; a core pair has two owners. -/
theorem ownerWrite_accepted {s : State} {p : PageRef} {v : Word} (h1 : getBit s (blkStatus p.base) 1 = true)
    (ho : ownerOk (fld v 0 8) = true) (hi : p.type = 0x07 → ownerOk (fld v 8 8) = true) :
    ownerWrite s p v = acceptOwner s p.base (if p.type = 0x07 then fld v 0 16 else fld v 0 8) := by
  rw [ownerWrite_eq, h1, ho, if_neg (by simpa using hi)]
  simp only [decide_eq_true_eq]

/-- A served write of BLK_OWNER. -/
theorem exec_blkOwnerWrite {w : RegWrite} {q : Site} {s : State} (hw : isHeader w 0x070 = true) (hq : servedAt s w = some q) :
    exec (.blkOwnerWrite w) s = .next (ownerWrite s q.1 w.val) := by
  obtain ⟨p, key, rfl⟩ := servedAt_header (by decide) hw hq
  exact plainRow_header hw hq

/-- O10, seventh clause: an owner waits for the boundary, while OWNER_GEN counts it at once. -/
theorem blkOwnerWrite_accepted {w : RegWrite} {q : Site} {s : State} (hw : isHeader w 0x070 = true) (hq : servedAt s w = some q)
    (h1 : getBit s (blkStatus q.1.base) 1 = true) (ho : ownerOk (fld w.val 0 8) = true) (ht : q.1.type ≠ 0x07) :
    Answers (.blkOwnerWrite w) s fun t => t.deferred = s.deferred ++ [.owner q.1.base (fld w.val 0 8)] ∧
      getFld t (blkOwner q.1.base) 32 16 = (getFld s (blkOwner q.1.base) 32 16 + 1) % 2 ^ 16 ∧
      getFld t (blkOwner q.1.base) 0 16 = getFld s (blkOwner q.1.base) 0 16 ∧ getBit t (blkStatus q.1.base) 5 = false := by
  refine ⟨_, exec_blkOwnerWrite hw hq, ?_⟩
  rw [ownerWrite_accepted h1 ho (absurd · ht), if_neg ht]
  exact acceptOwner_effect s q.1.base _

/-- O10, eighth clause: so do the two owners of a core pair. -/
theorem blkOwnerWrite_accepted_core {w : RegWrite} {q : Site} {s : State} (hw : isHeader w 0x070 = true) (hq : servedAt s w = some q)
    (h1 : getBit s (blkStatus q.1.base) 1 = true) (ho : ownerOk (fld w.val 0 8) = true) (hi : ownerOk (fld w.val 8 8) = true)
    (ht : q.1.type = 0x07) : Answers (.blkOwnerWrite w) s fun t => t.deferred = s.deferred ++ [.owner q.1.base (fld w.val 0 16)] ∧
      getFld t (blkOwner q.1.base) 32 16 = (getFld s (blkOwner q.1.base) 32 16 + 1) % 2 ^ 16 ∧
      getFld t (blkOwner q.1.base) 0 16 = getFld s (blkOwner q.1.base) 0 16 := by
  refine ⟨_, exec_blkOwnerWrite hw hq, ?_⟩
  rw [ownerWrite_accepted h1 ho fun _ => hi, if_pos ht]
  obtain ⟨changes, gen, owners, -⟩ := acceptOwner_effect s q.1.base (fld w.val 0 16)
  exact ⟨changes, gen, owners⟩

/-! ### CORE_CFG, which bears the name of BLK_CTRL -/

/-- CORE_CFG of core 0 of CD0, written with the shortest WDOG, 8. -/
def coreWatchdog : RegWrite := ⟨.mc .west, 0x101110, 8, 8, 0⟩

/-- The row of CORE_CFG. -/
def coreCfgRow : RegRow := ⟨0x10, 1, .plain, 0x1ff, 0, 0, 0, 0x132⟩

/-- Right after reset the write is served: it acts on CORE_CFG. -/
theorem servedAt_coreWatchdog : servedAt State.reset coreWatchdog = some (corePage, 0x110, 0x101110, some (coreCfgRow, 0)) := by decide

/-- CORE_CFG lies at 0x010 of its slice. -/
theorem isHeader_coreWatchdog : isHeader coreWatchdog 0x010 = true := by decide

/-- The write of CORE_CFG leaves no change for the boundary. -/
theorem deferred_coreWatchdog : (plainWrite coreWatchdog 0 State.reset corePage 0x110 0x101110 (some (coreCfgRow, 0))).deferred = [] := by
  decide

/-- Refutes O10, at its first clause. `isHeader` takes a register of a CORE_ slice by its offset in the slice, so CORE_CFG, at 0x010 of
each slice, counts as the BLK_CTRL at 0x010 of a header, and the clause does not ask for a site without a row. A write of WDOG to CORE_CFG
right after reset is served, but stores no ENABLE and leaves no change for the boundary. The second, third and fourth clauses name BLK_CTRL
alike; of a site in a header all four hold (`blkEnable_header`, `blkQuiesce_header`, `blockReset_begins`, `blockReset_refused`), and the
others hold of every site (`blkIntEnWrite_takes`, `blkSnap_done`, `blkOwnerWrite_accepted`, `blkOwnerWrite_accepted_core`). -/
theorem not_headerWritesComplete : ¬ Obligations.HeaderWritesComplete := by
  unfold Obligations.HeaderWritesComplete
  rintro ⟨enable, -⟩
  obtain ⟨t, ht, changes, -⟩ := enable coreWatchdog _ State.reset isHeader_coreWatchdog servedAt_coreWatchdog (by decide)
  have actual : exec (.blkEnable coreWatchdog) State.reset =
      .next (plainWrite coreWatchdog 0 State.reset corePage 0x110 0x101110 (some (coreCfgRow, 0))) := by
    change guarded (isHeader coreWatchdog 0x010) (serveWrite State.reset coreWatchdog (plainWrite coreWatchdog 0)) = _
    rw [isHeader_coreWatchdog, serveWrite_served servedAt_coreWatchdog]
    rfl
  obtain rfl : plainWrite coreWatchdog 0 State.reset corePage 0x110 0x101110 (some (coreCfgRow, 0)) = t := by
    rw [actual] at ht
    injection ht
  rw [deferred_coreWatchdog] at changes
  exact absurd changes.symm (List.append_ne_nil_of_right_ne_nil _ (List.cons_ne_nil _ _))

end Sys2Proof.Machine
end

section
/-!
PROOFS. The bytes of T1 and their poison (R133, R136, R137): what a write stores and what it leaves, and what a freed slot holds.
-/
namespace Sys2Proof.Machine

/-- Operands that are well formed let a meaning answer. -/
theorem guarded_next {wf : Bool} (h : wf = true) (s : State) : guarded wf s = .next s := if_pos h

/-! ### Bytes -/

section Stores

variable {s t : State} {da : Nat} {bs : List Byte}

/-- `t` holds `bs` at `da`, and every other byte as `s` does. -/
def Stores (s t : State) (da : Nat) (bs : List Byte) : Prop :=
  ∀ a, getT1 t a = if da ≤ a ∧ a < da + bs.length then bs.getD (a - da) 0 else getT1 s a

theorem length_readT1 (s : State) (da n : Nat) : (readT1 s da n).length = n := by rw [readT1, List.length_map, List.length_range]

theorem getElem_readT1 (s : State) (da n : Nat) {i : Nat} (h : i < (readT1 s da n).length) : (readT1 s da n)[i] = getT1 s (da + i) := by
  simp only [readT1, List.getElem_map, List.getElem_range]

theorem getD_of_lt {l : List Byte} {i : Nat} (h : i < l.length) : l.getD i 0 = l[i] := by
  rw [List.getD_eq_getElem?_getD, List.getElem?_eq_getElem h, Option.getD_some]

theorem getD_readT1 (s : State) (da : Nat) {n i : Nat} (h : i < n) : (readT1 s da n).getD i 0 = getT1 s (da + i) := by
  rw [getD_of_lt (by rwa [length_readT1]), getElem_readT1]

/-- The bytes stored are read back. -/
theorem Stores.read (h : Stores s t da bs) : readT1 t da bs.length = bs := by
  refine List.ext_getElem (length_readT1 _ _ _) fun i _ hi => ?_
  rw [getElem_readT1, h (da + i), if_pos ⟨by omega, by omega⟩, Nat.add_sub_cancel_left, getD_of_lt hi]

theorem Stores.outside (h : Stores s t da bs) {a : Nat} (ha : a < da ∨ da + bs.length ≤ a) : getT1 t a = getT1 s a :=
  (h a).trans (if_neg (by omega))

/-- What is stored is a matter of T1 alone, in either state. -/
theorem Stores.congr {s' t' : State} (h : Stores s t da bs) (hs : s.t1 = s'.t1) (ht : t.t1 = t'.t1) : Stores s' t' da bs := by
  simpa only [Stores, getT1, hs, ht] using h

/-- A byte of T1 after a row of bytes was put in from `da + k` on. -/
theorem get_foldl_set_zipIdx (k a : Nat) (m : Map Byte) :
    Map.get (fun _ => 0) ((bs.zipIdx k).foldl (fun m p => Map.set (fun _ => 0) m (da + p.2) p.1) m) a =
      if da + k ≤ a ∧ a < da + k + bs.length then bs.getD (a - (da + k)) 0 else Map.get (fun _ => 0) m a := by
  induction bs generalizing k m with
  | nil =>
    rw [if_neg (by rw [List.length_nil]; omega)]
    rfl
  | cons b bs ih =>
    rw [List.zipIdx_cons, List.foldl_cons, ih, Map.get_set, List.length_cons]
    obtain h | rfl | h := Nat.lt_trichotomy a (da + k)
    · rw [if_neg (by omega), if_neg (by omega), if_neg (by omega)]
    · rw [if_neg (by omega), if_pos rfl, if_pos (by omega), Nat.sub_self, List.getD_cons_zero]
    · rw [if_neg (show a ≠ da + k by omega), show a - (da + k) = a - (da + (k + 1)) + 1 by omega, List.getD_cons_succ]
      exact ite_congr (propext (by omega)) (fun _ => rfl) fun _ => rfl

theorem stores_putT1 (s : State) (da : Nat) (bs : List Byte) : Stores s (putT1 s da bs) da bs := fun a =>
  get_foldl_set_zipIdx (da := da) 0 a s.t1

/-! ### Whole sectors -/

/-- A write of 64 bytes stores them and clears the marker of their sector. -/
theorem fullWrite_sector (s : State) (da : Nat) (h : bs.length = 64) : fullWrite s da bs = setPoison (putT1 s da bs) da false := by
  rw [fullWrite, h]
  rfl

theorem sectorPoisoned_setPoison (s : State) {da a : Nat} (b : Bool) (h : a / 64 = da / 64) : sectorPoisoned (setPoison s da b) a = b := by
  rw [sectorPoisoned, h]
  exact Map.get_set_same ..

theorem stores_fullWrite (s : State) (da : Nat) (h : bs.length = 64) : Stores s (fullWrite s da bs) da bs :=
  (stores_putT1 s da bs).congr rfl (by rw [fullWrite_sector s da h]; rfl)

theorem sectorPoisoned_fullWrite (s : State) {da a : Nat} (h : bs.length = 64) (ha : a / 64 = da / 64) :
    sectorPoisoned (fullWrite s da bs) a = false := by
  rw [fullWrite_sector s da h, sectorPoisoned_setPoison _ _ ha]

/-- The delta that a write in a quire sends to the parity is no byte of T1 and no marker. -/
theorem memory_dataWrite (s : State) (da : Nat) (bs : List Byte) :
    (dataWrite s da bs).t1 = (fullWrite s da bs).t1 ∧ (dataWrite s da bs).poison = (fullWrite s da bs).poison := by
  unfold dataWrite
  split
  · exact ⟨rfl, rfl⟩
  · exact ⟨rfl, rfl⟩

theorem stores_dataWrite (s : State) (da : Nat) (h : bs.length = 64) : Stores s (dataWrite s da bs) da bs :=
  (stores_fullWrite s da h).congr rfl (memory_dataWrite s da bs).1.symm

theorem sectorPoisoned_dataWrite (s : State) {da a : Nat} (h : bs.length = 64) (ha : a / 64 = da / 64) :
    sectorPoisoned (dataWrite s da bs) a = false := by
  rw [sectorPoisoned, (memory_dataWrite s da bs).2]
  exact sectorPoisoned_fullWrite s h ha

/-! ### Part of a sector -/

theorem length_mergeBytes {old : List Byte} {o : Nat} (h : o + bs.length ≤ old.length) : (mergeBytes old o bs).length = old.length := by
  simp only [mergeBytes, List.length_append, List.length_take, List.length_drop]
  omega

/-- A merged byte is a new one inside the part written, and an old one elsewhere. -/
theorem getD_mergeBytes {old : List Byte} {o i : Nat} (h : o + bs.length ≤ old.length) :
    (mergeBytes old o bs).getD i 0 = if o ≤ i ∧ i < o + bs.length then bs.getD (i - o) 0 else old.getD i 0 := by
  have front : (old.take o).length = o := by rw [List.length_take]; omega
  have middle : (old.take o ++ bs).length = o + bs.length := by rw [List.length_append, front]
  simp only [mergeBytes, List.getD_eq_getElem?_getD]
  by_cases h1 : i < o
  · rw [if_neg (by omega), List.getElem?_append_left (by omega), List.getElem?_append_left (by omega), List.getElem?_take_of_lt h1]
  by_cases h2 : i < o + bs.length
  · rw [if_pos (by omega), List.getElem?_append_left (by omega), List.getElem?_append_right (by omega), front]
  · rw [if_neg (by omega), List.getElem?_append_right (by omega), middle, List.getElem?_drop, Nat.add_sub_cancel' (Nat.le_of_not_lt h2)]

/-- Storing a sector with a part of it merged in stores that part. -/
theorem Stores.of_merge {o : Nat} (ho : o + bs.length ≤ 64) (h : Stores s t da (mergeBytes (readT1 s da 64) o bs)) :
    Stores s t (da + o) bs := fun a => by
  have room : o + bs.length ≤ (readT1 s da 64).length := by rwa [length_readT1]
  rw [h a, length_mergeBytes room, length_readT1, getD_mergeBytes room]
  by_cases ha : da ≤ a ∧ a < da + 64
  · rw [if_pos ha, getD_readT1 s da (by omega), show da + (a - da) = a by omega, show a - da - o = a - (da + o) by omega]
    exact ite_congr (propext (by omega)) (fun _ => rfl) fun _ => rfl
  · rw [if_neg ha, if_neg (by omega)]

end Stores

/-! ### Freed slots -/

theorem Map.get_of_not_mem {α : Type} {d : Nat → α} {m : Map α} {k : Nat} (h : k ∉ m.map (·.1)) : Map.get d m k = d k := by
  induction m with
  | nil => rfl
  | cons e m ih =>
    simp only [List.map_cons, List.mem_cons, not_or] at h
    rw [Map.get, if_neg (Ne.symm h.1), ih h.2]

/-- A sector of a freed slot holds no poison: it is cleared where it was listed, and absent elsewhere. -/
theorem sectorPoisoned_scrubFreed {sp : List Span} {sec : Nat} (s : State) (h : inSpans sp sec = true) :
    sectorPoisoned (scrubFreed s sp) (64 * sec) = false := by
  have place : 64 * sec / 64 = sec := Nat.mul_div_cancel_left _ (by decide)
  unfold sectorPoisoned scrubFreed
  dsimp only
  rw [place, Map.get_clearWhere]
  split
  · rfl
  · next hb =>
    refine Map.get_of_not_mem fun hm => hb ?_
    exact decide_eq_true (List.mem_filter.mpr ⟨hm, h⟩)

theorem getT1_scrubFreed {sp : List Span} {sec i : Nat} (s : State) (h : inSpans sp sec = true)
    (hp : sectorPoisoned s (64 * sec) = true) (hi : i < 64) : getT1 (scrubFreed s sp) (64 * sec + i) = 0 := by
  have listed : sec ∈ s.poison.map (·.1) := by
    refine Decidable.byContradiction fun hm => ?_
    rw [sectorPoisoned, Nat.mul_div_cancel_left _ (by decide), Map.get_of_not_mem hm] at hp
    cases hp
  have bad : sec ∈ (s.poison.map (·.1)).filter (inSpans sp) := List.mem_filter.mpr ⟨listed, h⟩
  unfold getT1 scrubFreed
  dsimp only
  rw [Map.get_clearWhere, show (64 * sec + i) / 64 = sec by omega, if_pos (decide_eq_true bad)]

theorem readT1_scrubFreed {sp : List Span} {sec : Nat} (s : State) (h : inSpans sp sec = true)
    (hp : sectorPoisoned s (64 * sec) = true) : readT1 (scrubFreed s sp) (64 * sec) 64 = List.replicate 64 0 := by
  refine List.eq_replicate_iff.mpr ⟨length_readT1 _ _ _, fun b hb => ?_⟩
  obtain ⟨i, hi, rfl⟩ := List.mem_map.mp hb
  exact getT1_scrubFreed s h hp (List.mem_range.mp hi)

/-- Settles O58: a write of 64 bytes puts them in T1 and clears one marker; a scrub clears the markers listed in the slots that are freed,
and with each the bytes of its sector. -/
theorem poisonCleared : Obligations.PoisonCleared := by
  unfold Obligations.PoisonCleared
  refine ⟨fun da bs s _ hl => ?_, fun sp sec s h => ⟨sectorPoisoned_scrubFreed s h, readT1_scrubFreed s h⟩⟩
  have stored := stores_fullWrite s da hl
  exact ⟨hl ▸ stored.read, sectorPoisoned_fullWrite s hl rfl, fun x hx => stored.outside (by rwa [hl])⟩

end Sys2Proof.Machine
end

section
/-!
PROOFS. What lost contents cost (R135, R147, R148) and what they leave: BLK_INT_RAW and the first register of every block of a memory die,
and the map-outs that run.
-/
namespace Sys2Proof.Machine

/-- The places of BLK_INT_RAW and of the first register in the blocks of the memory dies. -/
def DieRegister (a : Nat) : Prop := 0x300000 ≤ a ∧ a < 0x500000 ∧ (a % 0x1000 = 0x020 ∨ a % 0x1000 = 0x100)

/-- A register, and the map-outs that run. -/
def kept (a : Nat) (s : State) : Word × List Mapout := (getReg s a, s.mapouts)

theorem eventRegs_below : ∀ x ∈ eventRegs, x < 0x300000 := by decide

theorem not_mem_eventRegs {a : Nat} (h : 0x300000 ≤ a) : a ∉ eventRegs := fun hm => by
  have := eventRegs_below a hm
  omega

theorem DieRegister.not_event {a : Nat} (h : DieRegister a) : a ∉ eventRegs := not_mem_eventRegs h.1

section Kept

variable {a : Nat}

/-- An operation that leaves the register, and is not one of the units, leaves both. -/
theorem kept_of_reg {m : Part → Bool} {s t : State} (hr : getReg t a = getReg s a) (h : Keep m s t) (hu : m .units = false) :
    kept a t = kept a s := by
  obtain ⟨-, -, hm, -⟩ := h.same .units hu
  exact Prod.ext hr hm

theorem kept_of_keep {m : Part → Bool} {s t : State} (h : Keep m s t) (hr : m .regs = false) (hu : m .units = false) :
    kept a t = kept a s := by
  have regs : t.regs = s.regs := h.same .regs hr
  exact kept_of_reg (by rw [getReg, regs, getReg]) h hu

theorem kept_foldl {β : Type} {f : State → β → State} {l : List β} {s : State} (hf : ∀ s x, kept a (f s x) = kept a s) :
    kept a (l.foldl f s) = kept a s := by
  induction l generalizing s with
  | nil => rfl
  | cons x l ih => rw [List.foldl_cons, ih, hf]

theorem kept_foldl_fst {β γ : Type} {f : State × γ → β → State × γ} {l : List β} {p : State × γ}
    (hf : ∀ p x, kept a (f p x).1 = kept a p.1) : kept a (l.foldl f p).1 = kept a p.1 := by
  induction l generalizing p with
  | nil => rfl
  | cons x l ih => rw [List.foldl_cons, ih, hf]

variable (s : State)

theorem kept_setLink (p : Nat) (l : Link) : kept a (s.setLink p l) = kept a s := rfl

theorem kept_setGroup (k : Nat) (g : GroupState) : kept a (s.setGroup k g) = kept a s := rfl

theorem kept_drawFree : kept a (drawFree s).2 = kept a s := rfl

theorem kept_openContent : kept a (openContent s).2 = kept a s := rfl

theorem kept_putFld {r l n v : Nat} (h : a ≠ r) : kept a (putFld s r l n v) = kept a s :=
  Prod.ext (getReg_putFld_other _ _ _ _ _ _ h) rfl

theorem kept_putBit {r i : Nat} {b : Bool} (h : a ≠ r) : kept a (putBit s r i b) = kept a s :=
  Prod.ext (getReg_putBit_other _ _ _ _ _ h) rfl

/-- The groups of state that events and causes may change. -/
def eventParts (p : Part) : Bool := decide (p ∈ [Part.regs, .counters, .msix, .events, .outputs])

theorem kept_setCause {blk i : Nat} (h : a ≠ blkIntRaw blk) : kept a (setCause s blk i) = kept a s :=
  kept_of_reg (getReg_setCause_other _ _ _ _ h) (setCause_keep (m := eventParts) rfl rfl rfl (Keep.refl s)) rfl

variable (ha : DieRegister a)
include ha

theorem kept_raiseEvent (type part block half : Nat) (d0 d1 : Word) : kept a (raiseEvent s type part block half d0 d1) = kept a s :=
  kept_of_reg (getReg_raiseEvent_other _ _ _ _ _ _ _ _ ha.not_event)
    (raiseEvent_keep (m := eventParts) rfl rfl rfl rfl (Keep.refl s)) rfl

theorem kept_count (off n : Nat) : kept a (count s off n) = kept a s :=
  kept_of_reg (getReg_count_other _ _ _ _ ha.not_event) (count_keep (m := eventParts) rfl rfl rfl rfl rfl (Keep.refl s)) rfl

theorem kept_capture_port0 (code source part addr detail : Nat) : kept a (capture s (Reg.fabBlk 0) code source part addr detail) = kept a s := by
  have aside : ∀ x ∈ captureRegs (Reg.fabBlk 0), x < 0x300000 := by decide
  refine kept_of_reg (getReg_capture_other _ _ _ _ _ _ _ _ fun hm => ?_)
    (capture_keep (m := eventParts) rfl rfl rfl rfl (Keep.refl s)) rfl
  have := aside a hm
  have := ha.1
  omega

theorem kept_trace (src : Nat) (r : TraceRec) : kept a (trace s src r) = kept a s := by
  have hb : ∀ h : Half, a ≠ blkIntRaw (Reg.trcBlk h.idx) := fun h => by
    have := ha.2.1
    unfold blkIntRaw Reg.trcBlk
    omega
  unfold trace
  extract_lets
  split
  · rfl
  · split
    · exact (kept_setCause _ (hb _)).trans (kept_count _ ha _ _)
    · rfl

/-! ### Messages -/

theorem kept_sendOne (p : Nat) (x : State × List (List Byte)) (f : List Byte) : kept a (sendOne p x f).1 = kept a x.1 := by
  obtain ⟨s, waiting⟩ := x
  unfold sendOne
  dsimp only
  split
  · rfl
  · exact kept_count _ ha _ _

theorem kept_pump (p : Nat) : kept a (pump s p) = kept a s := by
  have sent := kept_foldl_fst (l := (s.link p).waiting) (p := (s.setLink p { s.link p with waiting := [] }, [])) (kept_sendOne ha p)
  unfold pump
  split
  next s1 waiting h =>
    rw [h] at sent
    rw [kept_setLink, sent, kept_setLink]

theorem kept_queueFlit (p : Nat) (f : List Byte) : kept a (queueFlit s p f) = kept a s := by
  rw [queueFlit, kept_pump _ ha, kept_setLink]

/-- A frame of this device's own leaves through a port, or is dropped at port 0. -/
theorem kept_forwardFlit (f : List Byte) : kept a (forwardFlit s none f) = kept a s := by
  have h0 : a ≠ blkIntRaw (Reg.fabBlk 0) := by
    have := ha.1
    have : blkIntRaw (Reg.fabBlk 0) < 0x300000 := by decide
    omega
  unfold forwardFlit
  split
  · exact kept_queueFlit _ ha _ _
  · unfold routeFlit
    extract_lets
    split
    · rfl
    · unfold sliceDrop
      exact (kept_setCause _ h0).trans ((kept_capture_port0 _ ha _ _ _ _ _).trans (kept_count _ ha _ _))
    · exact kept_count _ ha _ _
    · rw [kept_queueFlit _ ha]
      split
      · exact kept_count _ ha _ _
      · rfl

theorem kept_launch (m : Msg) : kept a (launch s m) = kept a s := by
  unfold launch
  split
  · rfl
  · exact kept_foldl fun s f => kept_forwardFlit s ha f

theorem kept_sendMsg (slice cls op dst : Nat) (ackReq : Bool) (target : Word) (content : List Byte) :
    kept a (sendMsg s slice cls op dst ackReq target content).2 = kept a s := by
  unfold sendMsg
  refine (kept_launch _ ha _).trans ?_
  cases ackReq <;> rfl

/-! ### An abandoned step -/

theorem kept_sendMember (k m op : Nat) (target : Word) (content : List Byte) : kept a (sendMember s k m op target content) = kept a s :=
  kept_sendMsg _ ha _ _ _ _ _ _ _

theorem kept_sendReport (k : Nat) : kept a (sendReport s k) = kept a s := by
  unfold sendReport
  split
  next c s1 h => rw [kept_setGroup, kept_sendMember _ ha, ← kept_openContent s, h]

theorem kept_sendAnnounce (k : Nat) (await : Bool) : kept a (sendAnnounce s k await) = kept a s := by
  unfold sendAnnounce
  rw [kept_setGroup]
  refine kept_foldl fun s m => ?_
  split
  next c s1 h => rw [kept_sendMember _ ha, ← kept_openContent s, h]

theorem kept_lastReport (k : Nat) : kept a (lastReport s k) = kept a s := by
  unfold lastReport
  split
  · rfl
  · split
    · unfold announceStep
      extract_lets
      split
      · rfl
      · exact kept_sendAnnounce _ ha _ _
    · exact kept_sendAnnounce _ ha _ _

theorem kept_groupAbandoned (k : Nat) : kept a (groupAbandoned s k) = kept a s := by
  unfold groupAbandoned
  split
  · rfl
  · split
    · rw [kept_lastReport _ ha, kept_setGroup]
    · split
      · rfl
      · exact kept_sendReport _ ha _

theorem kept_markSuspect (k b : Nat) : kept a (markSuspect s k b) = kept a s := by
  have hg : a ≠ blkIntRaw Reg.galBlk := by
    have := ha.1
    have : blkIntRaw Reg.galBlk < 0x300000 := by decide
    omega
  unfold markSuspect
  extract_lets
  split
  · rfl
  · exact (kept_raiseEvent _ ha _ _ _ _ _ _).trans ((kept_setCause _ hg).trans (kept_count _ ha _ _))

theorem kept_clearEngines : kept a (clearEngines s) = kept a s :=
  kept_foldl fun s n => kept_putBit s (by
    obtain ⟨-, -, h⟩ := ha
    unfold Reg.nbuPairBusy
    omega)

omit ha in
theorem kept_unpickAll (ps : List PartPick) : kept a (unpickAll s ps) = kept a s :=
  kept_of_keep (unpickAll_keep (m := fun p => decide (p = .galley)) rfl (Keep.refl s)) rfl rfl

theorem kept_devEvent (type d0 d1 : Nat) : kept a (devEvent s type d0 d1) = kept a s := kept_raiseEvent _ ha _ _ _ _ _ _

/-- A step that is dropped is counted and reported, and the groups that took part are told. -/
theorem kept_stepDropped (ps : List PartPick) (d0 d1 : Nat) :
    kept a (ps.foldl (fun s p => groupAbandoned s p.impo)
      (devEvent (drawFree (count (clearEngines s) Reg.galAbandoned 1)).2 0x030 d0 d1)) = kept a s := by
  rw [kept_foldl fun s p => kept_groupAbandoned s ha _, kept_devEvent _ ha, kept_drawFree, kept_count _ ha, kept_clearEngines _ ha]

theorem kept_abandonWith (r : Replay) : kept a (abandonWith s r) = kept a s := by
  unfold abandonWith
  split
  · rfl
  · dsimp only
    split
    · exact kept_stepDropped _ ha _ _ _
    · split
      · exact (kept_foldl fun s p => kept_markSuspect s ha _ _).trans ((kept_unpickAll _ _).trans (kept_stepDropped _ ha _ _ _))
      · exact (kept_unpickAll _ _).trans (kept_stepDropped _ ha _ _ _)

/-! ### A damaged tensor -/

/-- The groups of state that a transfer, or a die that wakes, may change. -/
def transferParts (p : Part) : Bool := decide (p ∈ [Part.dies, .hosts, .outputs])

theorem kept_beginMove (m : Move) : kept a (beginMove s m) = kept a s := by
  have reads : ∀ (s : State) r off n, kept a (regionRead s r off n) = kept a s := fun s r off n =>
    kept_of_keep (regionRead_keep (m := transferParts) rfl rfl (Keep.refl s)) rfl rfl
  have writes : ∀ (s : State) r off bs, kept a (regionWrite s r off bs) = kept a s := fun s r off bs =>
    kept_of_keep (regionWrite_keep (m := transferParts) rfl rfl (Keep.refl s)) rfl rfl
  unfold beginMove
  extract_lets s1
  have e1 : kept a s1 = kept a s :=
    (kept_foldl fun s d => kept_of_keep (wakeMem_keep (m := transferParts) rfl (Keep.refl s)) rfl rfl).trans (kept_trace _ ha _ _)
  split
  · exact (kept_foldl fun s k => reads ..).trans e1
  · exact (reads ..).trans ((kept_foldl fun s x => writes ..).trans e1)

theorem kept_startMovesOn (fuel : Nat) (h : Half) : kept a (startMovesOn fuel s h) = kept a s := by
  induction fuel generalizing s with
  | zero => rfl
  | succ fuel ih =>
    unfold startMovesOn
    split
    · rfl
    · split
      · rfl
      · exact (ih _).trans (kept_beginMove _ ha _)

theorem kept_refreshMig : kept a (refreshMig s) = kept a s := by
  have hs : ∀ h : Half, a ≠ Reg.hubMigStatus h.idx := fun h => by
    have := ha.1
    have : Reg.hubMigStatus h.idx < 0x300000 := by cases h <;> decide
    omega
  exact (kept_putFld _ (hs .east)).trans ((kept_putFld _ (hs .east)).trans ((kept_putFld _ (hs .west)).trans (kept_putFld _ (hs .west))))

theorem kept_startMoves : kept a (startMoves s) = kept a s :=
  (kept_refreshMig _ ha).trans ((kept_startMovesOn _ ha _ _).trans (kept_startMovesOn _ ha _ _))

theorem kept_tensorDamaged (h : Nat) : kept a (tensorDamaged s h) = kept a s := by
  unfold tensorDamaged
  dsimp only
  split
  · rfl
  · have held : ∀ t : Tensor, kept a (if usedNow s h then
        { abandonWith (s.setTensor h t) .normal with
          steps := { (abandonWith (s.setTensor h t) .normal).steps with
            holds := (abandonWith (s.setTensor h t) .normal).steps.holds ++ [weightHold h] } }
        else s.setTensor h t) = kept a s := fun t => by
      split
      · exact kept_abandonWith _ ha _
      · rfl
    split
    · exact (kept_startMoves _ ha).trans (held _)
    · exact held _

/-! ### Lost capacity -/

theorem ne_mdQuireStatus (d : Nat) : a ≠ Reg.mdQuireStatus d := by
  obtain ⟨-, -, h⟩ := ha
  unfold Reg.mdQuireStatus
  omega

/-- The groups of state that entries and freed pages may change. -/
def pageParts (p : Part) : Bool := decide (p ∈ [Part.memory, .galley])

theorem kept_requestLost (m : Mapout) (i : Nat) : kept a (requestLost s m i).1 = kept a s := by
  have skips : ∀ i r on, kept a (s.skipEntry i r on) = kept a s := fun _ _ _ => rfl
  unfold requestLost
  extract_lets
  split
  · rfl
  · split
    · exact (kept_putFld _ (ne_mdQuireStatus ha _)).trans (skips ..)
    · split
      · exact skips ..
      · exact kept_of_keep (raiseEnd_keep (m := pageParts) rfl (Keep.refl s)) rfl rfl

theorem kept_refreshTwin : kept a (refreshTwin s) = kept a s := by
  have ht : a ≠ Reg.devTwinStatus := by
    have := ha.1
    have : Reg.devTwinStatus < 0x300000 := by decide
    omega
  exact (kept_putFld _ ht).trans ((kept_putFld _ ht).trans (kept_putFld _ ht))

omit ha in
theorem kept_scrubFreed (sp : List Span) : kept a (scrubFreed s sp) = kept a s := rfl

theorem kept_refuseMirror (key reason : Nat) : kept a (refuseMirror s key reason) = kept a s := by
  unfold refuseMirror
  split
  · rfl
  · rw [kept_refreshTwin _ ha, kept_scrubFreed]
    exact kept_sendMsg _ ha _ _ _ _ _ _ _

end Kept

/-! ### What lost capacity costs, in order -/

/-- Tensors with bytes on the capacity are damaged. -/
def tensorsLost (s : State) (m : Mapout) : State :=
  (s.tensors.filter fun t => (t.2.tier = 1 ∨ t.2.tier = 3) ∧ ¬ t.2.grouped ∧ ((extentSpans t.2.t1map t.2.size).any m.covers)).foldl
    (fun s t => tensorDamaged s t.1) s

/-- Requests with pages on it wait or end; the number that end. -/
def requestsLost (s : State) (m : Mapout) : State × Nat :=
  (s.entries.map (·.1)).foldl (fun acc i => ((requestLost acc.1 m i).1, acc.2 + b2n (requestLost acc.1 m i).2)) (s, 0)

/-- Hot mirrors with pages on it are withdrawn. -/
def mirrorsLost (s : State) (m : Mapout) : State :=
  ((s.mirrors.filter fun x => x.2.hot && x.2.dir.groups.any fun g => m.covers (groupSpan g.2.2 x.2.dir.layers)).map (·.1)).foldl
    (fun s k => refuseMirror s k 5) s

/-- The state in which a map-out of lost capacity then notes how many requests ended. -/
def lossTaken (s : State) (m : Mapout) : State :=
  exposeQuires (mirrorsLost (nodesLost (requestsLost (tensorsLost s m) m).1 m) m) m

theorem contentsLost_eq (s : State) (m : Mapout) : contentsLost s m = { lossTaken s m with
    mapouts := (lossTaken s m).mapouts.map fun x =>
      if x = m then { m with ended := (requestsLost (tensorsLost s m) m).2 } else x } := rfl

theorem kept_lossTaken {a : Nat} (ha : DieRegister a) (s : State) (m : Mapout) : kept a (lossTaken s m) = kept a s :=
  calc kept a (lossTaken s m)
    _ = kept a (mirrorsLost (nodesLost (requestsLost (tensorsLost s m) m).1 m) m) := kept_putFld _ (ne_mdQuireStatus ha _)
    _ = kept a (nodesLost (requestsLost (tensorsLost s m) m).1 m) := kept_foldl fun s _ => kept_refuseMirror s ha _ _
    _ = kept a (requestsLost (tensorsLost s m) m).1 := kept_of_keep (nodesLost_keep (m := pageParts) rfl rfl (Keep.refl _)) rfl rfl
    _ = kept a (tensorsLost s m) := kept_foldl_fst (p := (_, 0)) fun p i => kept_requestLost p.1 ha m i
    _ = kept a s := kept_foldl fun s _ => kept_tensorDamaged s ha _

theorem getReg_contentsLost {a : Nat} (ha : DieRegister a) (s : State) (m : Mapout) : getReg (contentsLost s m) a = getReg s a :=
  congrArg Prod.fst (kept_lossTaken ha s m)

/-- The map-outs stay, and the one whose contents are lost has noted the requests that ended. -/
theorem mapouts_contentsLost (s : State) (m : Mapout) : (contentsLost s m).mapouts = s.mapouts.map fun x =>
    if x = m then { m with ended := (requestsLost (tensorsLost s m) m).2 } else x := by
  have same : (lossTaken s m).mapouts = s.mapouts :=
    congrArg Prod.snd (kept_lossTaken (a := 0x300020) ⟨by decide, by decide, by decide⟩ s m)
  rw [contentsLost_eq, same]


end Sys2Proof.Machine
end

section
/-!
PROOFS. The channel controllers at one sector (R133 to R138, R144, R151): what corrected, uncorrectable and poisoned sectors do to reads,
scrubs and writes.
-/
namespace Sys2Proof.Machine

/-! ### What errors leave of T1 -/

/-- The bytes of T1 and the poison markers. -/
def sectors (s : State) : Map Byte × Map Bool := (s.t1, s.poison)

theorem sectors_of_keep {m : Part → Bool} {s t : State} (h : Keep m s t) (hm : m .memory = false) : sectors t = sectors s := by
  obtain ⟨h1, hp, -⟩ := h.same .memory hm
  exact Prod.ext h1 hp

theorem entry_of_keep {m : Part → Bool} {s t : State} (h : Keep m s t) (hm : m .galley = false) (i : Nat) : t.entry i = s.entry i := by
  obtain ⟨he, -⟩ := h.same .galley hm
  rw [State.entry, he, State.entry]

theorem sectorPoisoned_of_sectors {s t : State} (h : sectors t = sectors s) (a : Nat) : sectorPoisoned t a = sectorPoisoned s a := by
  rw [sectorPoisoned, show t.poison = s.poison from congrArg Prod.snd h, sectorPoisoned]

/-- A marker belongs to a whole sector. -/
theorem sectorPoisoned_congr {s : State} {a b : Nat} (h : a / 64 = b / 64) : sectorPoisoned s a = sectorPoisoned s b := by
  rw [sectorPoisoned, h, sectorPoisoned]

theorem keep_count (s : State) (off n : Nat) : Keep eventParts s (count s off n) := count_keep rfl rfl rfl rfl rfl (Keep.refl s)

theorem keep_chCapture (s : State) (da code detail : Nat) : Keep eventParts s (chCapture s da code detail) :=
  chCapture_keep rfl rfl rfl rfl (Keep.refl s)

theorem sectors_raiseEnd (s : State) (i code : Nat) : sectors (raiseEnd s i code) = sectors s :=
  sectors_of_keep (raiseEnd_keep (m := fun p => decide (p = .galley)) rfl (Keep.refl s)) rfl

theorem sectors_tensorDamaged (s : State) (h : Nat) : sectors (tensorDamaged s h) = sectors s :=
  sectors_of_keep (tensorDamaged_keep (m := fun p => decide (p ≠ .memory)) rfl rfl rfl rfl rfl rfl rfl rfl rfl rfl rfl rfl rfl rfl rfl rfl rfl
    (Keep.refl s)) rfl

/-! ### A map-out begins (R145) -/

/-- The map-out is listed in place of those that it takes in, CH_STATUS shows it, and the event is raised. -/
def enterMapout (s : State) (m : Mapout) (cause : Nat) : State :=
  let rest := s.mapouts.filter fun x => !(decide (x.die = m.die ∧ x.chan = m.chan) && (m.pair.isNone || decide (x.pair = m.pair)))
  let s1 := { s with mapouts := rest ++ [m] }
  let s2 := if m.pair.isNone then putFld s1 (Reg.chStatus m.die m.chan) 0 2 (if m.lost then 2 else 1) else s1
  let s3 := if cause ≠ 0 then putFld s2 (Reg.chStatus m.die m.chan) 32 3 cause else s2
  raiseEvent s3 0x021 noPart (blkDir (Reg.chBlk m.die m.chan)) (dieHalf m.die).idx (word m.entry) 0

section Mapouts

variable (s : State) (d c cause code : Nat)

/-- Capacity that can still be read is mapped out unless it is already: a bank pair alone while the fallow map has room (R466). -/
theorem beginMapout_readable (pair : Option Nat) : beginMapout s d c pair false cause code false =
    if mapoutRuns s d c (if s.fallow.length < 4096 then pair else none) false then s
    else enterMapout s ⟨d, c, if s.fallow.length < 4096 then pair else none, false, code, false, 0, 0⟩ cause := rfl

theorem beginMapout_channel (h : mapoutRuns s d c none false = false) :
    beginMapout s d c none false cause code false = enterMapout s ⟨d, c, none, false, code, false, 0, 0⟩ cause := by
  rw [beginMapout_readable, ite_self, h]
  rfl

theorem beginMapout_lost (h : mapoutRuns s d c none true = false) : beginMapout s d c none true cause code false =
    contentsLost (enterMapout s ⟨d, c, none, true, code, false, 0, 0⟩ cause) ⟨d, c, none, true, code, false, 0, 0⟩ := by
  unfold beginMapout
  simp only [ite_self, h]
  rfl

theorem sectors_enterMapout (m : Mapout) : sectors (enterMapout s m cause) = sectors s := by
  unfold enterMapout
  extract_lets rest s1 s2 s3
  have e2 : sectors s2 = sectors s := by
    unfold s2
    split <;> rfl
  have e3 : sectors s3 = sectors s := by
    unfold s3
    split
    · exact e2
    · exact e2
  exact (sectors_of_keep (raiseEvent_keep (m := eventParts) rfl rfl rfl rfl (Keep.refl _)) rfl).trans e3

theorem sectors_beginMapout_readable (pair : Option Nat) : sectors (beginMapout s d c pair false cause code false) = sectors s := by
  rw [beginMapout_readable]
  generalize (if s.fallow.length < 4096 then pair else none) = resource
  split
  · rfl
  · exact sectors_enterMapout ..

end Mapouts

/-! ### Sector reads (R134, R138) -/

section Reads

variable (s : State) (da l1 l2 : Nat)

/-- Columns that the die corrects are counted. -/
def dieCorrected (s : State) (da l1 : Nat) : State := if l1 = 0 then s else count s (Reg.chCeL1 (daDie da) (daChan da)) l1

theorem keep_dieCorrected : Keep eventParts s (dieCorrected s da l1) := by
  unfold dieCorrected
  split
  · exact Keep.refl s
  · exact keep_count s _ l1

theorem getFld_dieCorrected {a : Nat} (ha : 0x300000 ≤ a) (lo n : Nat) : getFld (dieCorrected s da l1) a lo n = getFld s a lo n := by
  unfold dieCorrected
  split
  · rfl
  · rw [getFld, getReg_count_other _ _ _ _ (not_mem_eventRegs ha), getFld]

variable {s da l2}

theorem sectorRead_poisoned (h : sectorPoisoned s da = true) : sectorRead s da l1 l2 = chCapture (dieCorrected s da l1) da 0x0102 0 :=
  if_pos h

theorem sectorRead_corrected (h : sectorPoisoned s da = false) :
    sectorRead s da l1 1 = sectorCorrected (dieCorrected s da l1) (daDie da) (daChan da) := by
  unfold sectorRead
  rw [h]
  rfl

theorem sectorRead_uncorrectable (h : sectorPoisoned s da = false) (hl : 2 ≤ l2) :
    sectorRead s da l1 l2 = sectorUncorrectable (dieCorrected s da l1) da l2 := by
  unfold sectorRead
  extract_lets
  rw [h, if_neg Bool.false_ne_true, if_neg (by omega), if_neg (by omega)]
  rfl

variable (s da l2)

theorem sectors_sectorCorrected (d c : Nat) : sectors (sectorCorrected s d c) = sectors s :=
  sectors_of_keep (m := eventParts) (putFld_keep rfl (keep_count s _ 1)) rfl

theorem getFld_sectorCorrected (d c : Nat) : getFld (sectorCorrected s d c) (Reg.chLimit d c) 0 16 =
    satAdd 0xFFFF (getFld s (Reg.chLimit d c) 0 16) 1 := by
  have small : satAdd 0xFFFF (getFld s (Reg.chLimit d c) 0 16) 1 < 2 ^ 16 := by
    unfold satAdd
    omega
  exact (getFld_putFld_same _ _ _ _ _ (by decide)).trans (Nat.mod_eq_of_lt small)

/-- An uncorrectable sector costs one marker; its bytes stay. -/
theorem sectors_sectorUncorrectable : sectors (sectorUncorrectable s da l2) = sectors (setPoison s da true) := by
  unfold sectorUncorrectable
  extract_lets d c blk s1 s2 seen s3
  have e1 : sectors s1 = sectors s := sectors_of_keep (m := eventParts)
    (chCapture_keep rfl rfl rfl rfl (setCause_keep rfl rfl rfl (keep_count s _ 1))) rfl
  have e2 : sectors s2 = sectors (setPoison s da true) := by
    change (s1.t1, Map.set (fun _ => false) s1.poison (da / 64) true) = _
    rw [show s1.t1 = s.t1 from congrArg Prod.fst e1, show s1.poison = s.poison from congrArg Prod.snd e1]
    rfl
  split
  · exact e2
  · split
    · exact (sectors_beginMapout_readable ..).trans e2
    · exact e2

theorem sectorPoisoned_sectorUncorrectable {a : Nat} (h : a / 64 = da / 64) : sectorPoisoned (sectorUncorrectable s da l2) a = true :=
  (sectorPoisoned_of_sectors (sectors_sectorUncorrectable s da l2) a).trans (sectorPoisoned_setPoison s true h)

end Reads

section ReadCommands

variable {da l1 l2 : Nat} {s : State} (hd : da < 2 ^ 38) (ha : da % 64 = 0)
include hd ha

theorem exec_sectorRead {by_ : Consumer} (hh : daHole da = false) (hs : daServed s da = true) : exec (.sectorRead da l1 l2 by_) s =
    .next (if sectorPoisoned (sectorRead s da l1 l2) da then consume (sectorRead s da l1 l2) da by_ else sectorRead s da l1 l2) := by
  have runs : readServed s da by_ = true := by
    cases by_ with
    | pageJob req =>
      obtain ⟨up, -⟩ := Bool.and_eq_true_iff.mp hs
      exact up
    | sort => exact hs
    | host => exact hs
    | migration id => exact hs
  refine (guarded_next (decide_eq_true ⟨hd, ha⟩) _).trans (congrArg _ ?_)
  rw [hh, runs]
  rfl

theorem exec_patrolScrub (hh : daHole da = false) (hs : daServed s da = true) : exec (.patrolScrub da l1 l2) s =
    .next (if 0 < getFld s Reg.devPwrStatus 32 3 then s else sectorRead s da l1 l2) := by
  refine (guarded_next (decide_eq_true ⟨hd, ha⟩) _).trans (congrArg _ ?_)
  rw [hh, hs]
  simp only [Bool.not_true, Bool.or_self, Bool.false_or, decide_eq_true_eq]

end ReadCommands

/-- One symbol in error: corrected, and counted toward CE_LIMIT. -/
theorem sectorRead_corrected_effect {s : State} {da : Nat} (l1 : Nat) (h : sectorPoisoned s da = false) :
    sectors (sectorRead s da l1 1) = sectors s ∧ getFld (sectorRead s da l1 1) (Reg.chLimit (daDie da) (daChan da)) 0 16 =
      satAdd 0xFFFF (getFld s (Reg.chLimit (daDie da) (daChan da)) 0 16) 1 := by
  rw [sectorRead_corrected l1 h]
  refine ⟨(sectors_sectorCorrected ..).trans (sectors_of_keep (keep_dieCorrected s da l1) rfl), ?_⟩
  rw [getFld_sectorCorrected, getFld_dieCorrected _ _ _ (by unfold Reg.chLimit; omega)]

/-- Poisoned data ends the request of a page job, whose pages no hot twin holds (R135). -/
theorem poisonedRequest_ends {s : State} {i : Nat} (job : Bool) (h : (s.entry i).twin ≠ 1) : poisonedRequest s i job = raiseEnd s i 0x22 :=
  if_neg fun ⟨_, twin, _⟩ => h twin

/-- Settles O13, by the outcomes of a sector read: corrected, uncorrectable, poisoned. A scrub is such a read without a consumer. -/
theorem sectorReadsComplete : Obligations.SectorReadsComplete := by
  unfold Obligations.SectorReadsComplete
  refine ⟨?corrected, ?uncorrectable, ?pageJob, ?hole, ?scrub, ?throttled⟩
  case corrected =>
    intro da l1 by_ s hd ha hh hs hp
    obtain ⟨same, limit⟩ := sectorRead_corrected_effect l1 hp
    refine ⟨_, exec_sectorRead hd ha hh hs, ?_⟩
    rw [sectorPoisoned_of_sectors same, hp]
    exact ⟨congrArg Prod.fst same, congrArg Prod.snd same, limit⟩
  case uncorrectable =>
    intro da l1 l2 s hd ha hh hs hp hl
    refine ⟨sectorRead s da l1 l2, (exec_sectorRead hd ha hh hs).trans (congrArg _ (ite_self _)), ?_⟩
    rw [sectorRead_uncorrectable l1 hp hl]
    have bytes := congrArg Prod.fst (sectors_sectorUncorrectable (dieCorrected s da l1) da l2)
    have counted := congrArg Prod.fst (sectors_of_keep (keep_dieCorrected s da l1) rfl)
    exact ⟨bytes.trans counted, sectorPoisoned_sectorUncorrectable _ da l2 rfl⟩
  case pageJob =>
    intro da l1 l2 req s hd ha hh hs hp h0 h8 ht
    have read : Keep eventParts s (sectorRead s da l1 l2) := by
      rw [sectorRead_poisoned l1 hp]
      exact (keep_dieCorrected s da l1).trans (keep_chCapture _ _ _ _)
    have entry := entry_of_keep read rfl req.val
    have same := sectors_of_keep read rfl
    refine ⟨raiseEnd (sectorRead s da l1 l2) req.val 0x22, ?_, ?_⟩
    · rw [exec_sectorRead hd ha hh hs, sectorPoisoned_of_sectors same, hp, ← poisonedRequest_ends true (by rwa [entry])]
      rfl
    · have after := (sectors_raiseEnd (sectorRead s da l1 l2) req.val 0x22).trans same
      exact ⟨mem_ends_raiseEnd (by rwa [entry]) (by rwa [entry]), congrArg Prod.fst after, congrArg Prod.snd after⟩
  case hole =>
    intro da l1 l2 by_ s hd ha hh
    exact (guarded_next (decide_eq_true ⟨hd, ha⟩) _).trans (congrArg _ (if_pos hh))
  case scrub =>
    intro da l1 s hd ha hh hs hp h0
    obtain ⟨same, limit⟩ := sectorRead_corrected_effect l1 hp
    refine ⟨_, exec_patrolScrub hd ha hh hs, ?_⟩
    rw [if_neg (by omega)]
    exact ⟨congrArg Prod.fst same, congrArg Prod.snd same, limit⟩
  case throttled =>
    intro da l1 l2 s hd ha hh hs h
    rw [exec_patrolScrub hd ha hh hs, if_pos h]

end Sys2Proof.Machine
end

section
/-!
PROOFS. Writes of T1 (R128, R136, R137) and the parity of quires (R151): merges, refused merges, deltas.
-/
namespace Sys2Proof.Machine

/-! ### Full writes -/

theorem exec_fullWrite {da : Nat} {data : List Byte} {s : State} (hd : da < 2 ^ 38) (ha : da % 64 = 0) (hl : data.length = 64)
    (hh : daHole da = false) (hs : daServed s da = true) : exec (.fullWrite da data) s = .next (dataWrite s da data) := by
  refine (guarded_next (decide_eq_true ⟨hd, ha, hl⟩) _).trans (congrArg _ ?_)
  rw [hh, hs]
  rfl

/-! ### Merges -/

section Merges

variable {da l2 : Nat} {data : List Byte} {s : State}

theorem exec_partialWrite (hd : da < 2 ^ 38) (h0 : 0 < data.length) (hl : data.length < 64) (hr : da % 64 + data.length ≤ 64)
    (hh : daHole da = false) (hs : daServed s da = true) : exec (.partialWrite da data l2) s = .next (partialWrite s da l2 data) := by
  refine (guarded_next (decide_eq_true ⟨hd, h0, hl, hr⟩) _).trans (congrArg _ ?_)
  rw [hh, hs]
  rfl

/-- The sector as a merge reads it: one symbol in error is corrected first. -/
def mergeRead (s : State) (da l2 : Nat) : State := if l2 = 1 then sectorCorrected s (daDie da) (daChan da) else s

theorem sectors_mergeRead (s : State) (da l2 : Nat) : sectors (mergeRead s da l2) = sectors s := by
  unfold mergeRead
  split
  · exact sectors_sectorCorrected ..
  · rfl

/-- Bytes are merged into a sector that can be corrected. -/
theorem partialWrite_merges (hp : sectorPoisoned s da = false) (hl : l2 ≤ 1) : partialWrite s da l2 data =
    dataWrite (mergeRead s da l2) (da / 64 * 64) (mergeBytes (readT1 (mergeRead s da l2) (da / 64 * 64) 64) (da % 64) data) := by
  have clean : sectorPoisoned s (da / 64 * 64) = false := (sectorPoisoned_congr (by omega)).trans hp
  unfold partialWrite
  dsimp only
  rw [clean, if_neg Bool.false_ne_true, if_neg (by omega)]
  rfl

theorem stores_partialWrite (hr : da % 64 + data.length ≤ 64) (hp : sectorPoisoned s da = false) (hl : l2 ≤ 1) :
    Stores s (partialWrite s da l2 data) da data ∧ sectorPoisoned (partialWrite s da l2 data) da = false := by
  have room : da % 64 + data.length ≤ (readT1 (mergeRead s da l2) (da / 64 * 64) 64).length := by rwa [length_readT1]
  have whole := (length_mergeBytes room).trans (length_readT1 _ _ _)
  have stored := (stores_dataWrite (mergeRead s da l2) (da / 64 * 64) whole).of_merge hr
  rw [show da / 64 * 64 + da % 64 = da by omega] at stored
  rw [partialWrite_merges hp hl]
  exact ⟨stored.congr (congrArg Prod.fst (sectors_mergeRead s da l2)) rfl, sectorPoisoned_dataWrite _ whole (by omega)⟩

end Merges

/-! ### Refused merges (R136) -/

/-- A refused merge is counted, and captured with its cause. -/
def mergeCaptured (s : State) (da len : Nat) : State :=
  chCapture (setCause (count s (Reg.chMergeRefused (daDie da) (daChan da)) 1) (Reg.chBlk (daDie da) (daChan da)) 18) (da / 64 * 64) 0x0103
    (len % 256 * 2 ^ 48)

/-- Then the request that owns the sector ends, or the tensor is damaged, or no one owns it. -/
theorem mergeRefused_cases (s : State) (da len : Nat) : mergeRefused s da len = mergeCaptured s da len ∨
    (∃ i, mergeRefused s da len = raiseEnd (mergeCaptured s da len) i 0x23) ∨
    ∃ h, mergeRefused s da len = tensorDamaged (mergeCaptured s da len) h := by
  unfold mergeRefused
  dsimp only
  split
  · split
    · exact .inr (.inl ⟨_, rfl⟩)
    · exact .inr (.inr ⟨_, rfl⟩)
  · exact .inl rfl

theorem sectors_mergeRefused (s : State) (da len : Nat) : sectors (mergeRefused s da len) = sectors s := by
  have captured : sectors (mergeCaptured s da len) = sectors s := sectors_of_keep (m := eventParts)
    (chCapture_keep rfl rfl rfl rfl (setCause_keep rfl rfl rfl (keep_count s _ 1))) rfl
  obtain h | ⟨i, h⟩ | ⟨k, h⟩ := mergeRefused_cases s da len
  · rw [h, captured]
  · rw [h, sectors_raiseEnd, captured]
  · rw [h, sectors_tensorDamaged, captured]

/-- A capture clears no bit of a register that is no capture register of its block. -/
theorem getBit_capture_mono {s : State} {blk a j : Nat} (code source part addr detail : Nat) (ha : ∀ i, a ≠ blkErrCap blk i)
    (h : getBit s a j = true) : getBit (capture s blk code source part addr detail) a j = true := by
  unfold capture
  split
  · rwa [getBit_putFld_other _ _ _ _ _ _ _ (ha 0)]
  · refine getBit_raiseEvent_mono _ _ _ _ _ _ _ (by decide) (getBit_setCause_mono _ _ _ (by decide) ?_)
    rw [getBit, getReg_setReg_other _ _ _ _ (ha 3), getReg_setReg_other _ _ _ _ (ha 2), getReg_setReg_other _ _ _ _ (ha 1),
      getReg_setReg_other _ _ _ _ (ha 0)]
    exact h

theorem dieRegister_chRaw (da : Nat) : DieRegister (blkIntRaw (Reg.chBlk (daDie da) (daChan da))) := by
  unfold DieRegister blkIntRaw Reg.chBlk daDie daChan
  omega

/-- MERGE_REFUSED rises in the channel of the sector. -/
theorem getBit_mergeRefused (s : State) (da len : Nat) :
    getBit (mergeRefused s da len) (blkIntRaw (Reg.chBlk (daDie da) (daChan da))) 18 = true := by
  have captured : getBit (mergeCaptured s da len) (blkIntRaw (Reg.chBlk (daDie da) (daChan da))) 18 = true := by
    refine getBit_capture_mono _ _ _ _ _ (fun i => ?_) ?_
    · unfold blkIntRaw blkErrCap Reg.chBlk daDie daChan
      omega
    · rw [getBit_setCause _ _ _ _ (by decide), decide_eq_true rfl, Bool.or_true]
  obtain h | ⟨i, h⟩ | ⟨k, h⟩ := mergeRefused_cases s da len
  · rwa [h]
  · have regs : (raiseEnd (mergeCaptured s da len) i 0x23).regs = (mergeCaptured s da len).regs :=
      (raiseEnd_keep (m := fun p => decide (p = .galley)) rfl (Keep.refl _)).same .regs rfl
    rw [h, getBit, getReg, regs]
    exact captured
  · have same := congrArg Prod.fst (kept_tensorDamaged (mergeCaptured s da len) (dieRegister_chRaw da) k)
    rw [h, getBit, show getReg _ _ = getReg _ _ from same]
    exact captured

/-- A merge with a sector that is poisoned, or that the merge finds uncorrectable, is refused. -/
theorem partialWrite_refused {s : State} {da l2 : Nat} (data : List Byte) (h : sectorPoisoned s da = true ∨ 2 ≤ l2) :
    ∃ u, partialWrite s da l2 data = mergeRefused u da data.length ∧ u.t1 = s.t1 ∧ sectorPoisoned u da = true := by
  have place : da / 64 * 64 / 64 = da / 64 := by omega
  unfold partialWrite
  dsimp only
  rw [sectorPoisoned_congr place]
  split
  · next hp => exact ⟨s, rfl, rfl, hp⟩
  · next hp =>
    rw [if_pos (h.resolve_left hp)]
    exact ⟨_, rfl, congrArg Prod.fst (sectors_sectorUncorrectable s (da / 64 * 64) l2),
      sectorPoisoned_sectorUncorrectable s _ l2 place.symm⟩

/-! ### The parity channel (R151) -/

/-- One sector's delta is XORed into parity that is not poisoned. -/
theorem xorParity_sector {s : State} {pa : Nat} {delta : List Byte} (hl : delta.length = 64) (hp : sectorPoisoned s pa = false) :
    xorParity s pa delta = putT1 s pa (List.zipWith (· ^^^ ·) (readT1 s pa 64) delta) := by
  unfold xorParity
  rw [hl, show List.range (64 / 64) = [0] from rfl]
  simp only [List.foldl_cons, List.foldl_nil, Nat.mul_zero, Nat.add_zero, hp, if_neg Bool.false_ne_true, List.drop_zero]
  rw [← hl, List.take_length]

/-- The deltas of a channel, without the oldest one. -/
def dropDelta (s : State) (d c : Nat) (rest : List (Nat × List Byte)) : State := s.setChan d c { s.chan d c with deltas := rest }

theorem exec_parityXor {d : Fin 8} {c : Fin 16} {pa : Nat} {delta : List Byte} {rest : List (Nat × List Byte)} {s : State}
    (h : (s.chan d.val c.val).deltas = (pa, delta) :: rest) (hs : daServed s pa = true) :
    exec (.parityXor d c) s = .next (xorParity (dropDelta s d.val c.val rest) pa delta) := by
  obtain ⟨up, free⟩ := Bool.and_eq_true_iff.mp hs
  rw [Bool.not_eq_true'] at free
  change execParityXor d c s = _
  unfold execParityXor
  dsimp only
  rw [h]
  dsimp only
  rw [up, free]
  rfl

/-- Settles O14: stores are of whole sectors or merged into one; a refused merge leaves T1 and keeps its sector poisoned; the oldest delta is
XORed in; and a promotion is a matter of order alone. -/
theorem sectorWritesComplete : Obligations.SectorWritesComplete := by
  unfold Obligations.SectorWritesComplete
  refine ⟨?full, ?merged, ?refused, ?parity, ?idle, fun _ _ _ => rfl⟩
  case full =>
    intro da data s hd ha hh hs hl
    have stored := stores_dataWrite s da hl
    exact ⟨_, exec_fullWrite hd ha hl hh hs, hl ▸ stored.read, sectorPoisoned_dataWrite s hl rfl,
      fun a h => stored.outside (by rwa [hl])⟩
  case merged =>
    intro da data l2 s hd h0 hl hr hh hs hp h1
    obtain ⟨stored, clean⟩ := stores_partialWrite hr hp h1
    exact ⟨_, exec_partialWrite hd h0 hl hr hh hs, stored.read, clean, fun a => stored.outside⟩
  case refused =>
    intro da data l2 s hd h0 hl hr hh hs hp
    obtain ⟨u, refused, bytes, poisoned⟩ := partialWrite_refused data hp
    refine ⟨_, exec_partialWrite hd h0 hl hr hh hs, ?_⟩
    rw [refused]
    have same := sectors_mergeRefused u da data.length
    exact ⟨(congrArg Prod.fst same).trans bytes, (sectorPoisoned_of_sectors same da).trans poisoned, getBit_mergeRefused u da _⟩
  case parity =>
    intro d c pa delta rest s h hl hs hp
    have width : (List.zipWith (· ^^^ ·) (readT1 (dropDelta s d.val c.val rest) pa 64) delta).length = 64 := by
      rw [List.length_zipWith, length_readT1, hl, Nat.min_self]
    have stored := stores_putT1 (dropDelta s d.val c.val rest) pa (List.zipWith (· ^^^ ·) (readT1 (dropDelta s d.val c.val rest) pa 64) delta)
    refine ⟨_, exec_parityXor h hs, ?_⟩
    rw [xorParity_sector hl (show sectorPoisoned (dropDelta s d.val c.val rest) pa = false from hp)]
    refine ⟨congrArg Channel.deltas (chan_setChan_same s d.val c.val _), ?_, fun a ha => stored.outside (by rwa [width])⟩
    have back := stored.read
    rw [width] at back
    exact back
  case idle =>
    intro d c s h
    change execParityXor d c s = _
    unfold execParityXor
    dsimp only
    rw [h]

end Sys2Proof.Machine
end

section
/-!
PROOFS. Limits, failures and requests begin a map-out of a channel (R141, R143, R145).
-/
namespace Sys2Proof.Machine

section Begin

variable {s : State} {d c : Nat}

/-- A channel is being mapped out: the map-out is listed, and CH_STATUS shows its STATE and CAUSE. -/
def Underway (t : State) (d c : Nat) (lost : Bool) (cause code : Nat) : Prop :=
  (t.mapouts.any fun m => decide (m.die = d ∧ m.chan = c ∧ m.pair = none ∧ m.lost = lost ∧ m.code = code)) = true ∧
    getFld t (Reg.chStatus d c) 0 2 = (if lost then 2 else 1) ∧ getFld t (Reg.chStatus d c) 32 3 = cause

/-- Such a channel takes no new swath. -/
theorem Underway.closed {t : State} {lost : Bool} {cause code : Nat} (h : Underway t d c lost cause code) : chanOpen t d c = false := by
  obtain ⟨m, hm, listed⟩ := List.any_eq_true.mp h.1
  obtain ⟨die, chan, pair, -⟩ := of_decide_eq_true listed
  have taken : (t.mapouts.any fun m => decide (m.die = d ∧ m.chan = c ∧ m.pair.isNone)) = true :=
    List.any_eq_true.mpr ⟨m, hm, decide_eq_true ⟨die, chan, by rw [pair]; rfl⟩⟩
  rw [chanOpen, taken, Bool.not_true, Bool.and_false]

/-- Whether a map-out of a channel runs is a matter of the channel's BLK_STATUS and the map-outs. -/
theorem mapoutRuns_congr {t : State} {lost : Bool} (hr : getReg t (blkStatus (Reg.chBlk d c)) = getReg s (blkStatus (Reg.chBlk d c)))
    (hm : t.mapouts = s.mapouts) : mapoutRuns t d c none lost = mapoutRuns s d c none lost := by
  unfold mapoutRuns channelUp getBit
  dsimp only
  rw [hr, hm]

theorem mem_mapouts_enterMapout (m : Mapout) (cause : Nat) : m ∈ (enterMapout s m cause).mapouts := by
  unfold enterMapout
  extract_lets rest s1 s2 s3
  have e2 : s2.mapouts = s1.mapouts := by
    unfold s2
    split <;> rfl
  have e3 : s3.mapouts = s2.mapouts := by
    unfold s3
    split <;> rfl
  have raised := (raiseEvent_keep (m := eventParts) (a1 := 0x021) (a2 := noPart) (a3 := blkDir (Reg.chBlk m.die m.chan))
    (a4 := (dieHalf m.die).idx) (a5 := word m.entry) (a6 := 0) rfl rfl rfl rfl (Keep.refl s3)).same .units rfl
  rw [raised.2.2.1, e3, e2]
  exact List.mem_append_right _ (List.mem_singleton_self m)

/-- CH_STATUS of a channel that is entered for a cause. -/
theorem chStatus_enterMapout {m : Mapout} {cause : Nat} (hp : m.pair = none) (h0 : cause ≠ 0) (h8 : cause < 8) :
    getFld (enterMapout s m cause) (Reg.chStatus m.die m.chan) 0 2 = (if m.lost then 2 else 1) ∧
      getFld (enterMapout s m cause) (Reg.chStatus m.die m.chan) 32 3 = cause := by
  have quiet : Reg.chStatus m.die m.chan ∉ eventRegs := not_mem_eventRegs (by unfold Reg.chStatus; omega)
  unfold enterMapout getFld
  rw [getReg_raiseEvent_other _ _ _ _ _ _ _ _ quiet, hp, if_pos h0]
  change getFld (putFld (putFld _ _ _ _ _) _ _ _ _) _ _ _ = _ ∧ getFld (putFld (putFld _ _ _ _ _) _ _ _ _) _ _ _ = _
  rw [getFld_putFld_disjoint _ _ _ _ _ _ _ (by decide), getFld_putFld_same _ _ _ _ _ (by decide),
    getFld_putFld_same _ _ _ _ _ (by decide)]
  exact ⟨by split <;> rfl, Nat.mod_eq_of_lt h8⟩

theorem underway_beginMapout {cause : Nat} (code : Nat) (h : mapoutRuns s d c none false = false) (h0 : cause ≠ 0) (h8 : cause < 8) :
    Underway (beginMapout s d c none false cause code false) d c false cause code := by
  rw [beginMapout_channel s d c cause code h]
  exact ⟨List.any_eq_true.mpr ⟨_, mem_mapouts_enterMapout .., decide_eq_true ⟨rfl, rfl, rfl, rfl, rfl⟩⟩,
    chStatus_enterMapout (m := ⟨d, c, none, false, code, false, 0, 0⟩) rfl h0 h8⟩

/-- Lost contents change neither CH_STATUS nor what a map-out takes. -/
theorem underway_beginMapout_lost {cause : Nat} (code : Nat) (h : mapoutRuns s d c none true = false) (h0 : cause ≠ 0) (h8 : cause < 8)
    (hr : DieRegister (Reg.chStatus d c)) : Underway (beginMapout s d c none true cause code false) d c true cause code := by
  rw [beginMapout_lost s d c cause code h]
  obtain ⟨state, why⟩ := chStatus_enterMapout (s := s) (m := ⟨d, c, none, true, code, false, 0, 0⟩) rfl h0 h8
  refine ⟨?_, ?_, ?_⟩
  · rw [mapouts_contentsLost]
    refine List.any_eq_true.mpr ⟨_, List.mem_map.mpr ⟨_, mem_mapouts_enterMapout .., if_pos rfl⟩, decide_eq_true ⟨rfl, rfl, rfl, rfl, rfl⟩⟩
  · rw [getFld, getReg_contentsLost hr]
    exact state
  · rw [getFld, getReg_contentsLost hr]
    exact why

end Begin

theorem dieRegister_chStatus (d : Fin 8) (c : Fin 16) : DieRegister (Reg.chStatus d.val c.val) := by
  have := d.isLt
  have := c.isLt
  unfold DieRegister Reg.chStatus
  omega

/-! ### What begins it -/

section Causes

variable {d : Fin 8} {c : Fin 16} {s : State}

theorem exec_ceLimit (h : getFld s Reg.devMemCfg 16 16 ≤ getFld s (Reg.chLimit d.val c.val) 0 16) : exec (.ceLimit d c) s =
    .next (beginMapout (setCause s (Reg.chBlk d.val c.val) 16) d.val c.val none false 1 0xFF01 false) :=
  congrArg Host.Outcome.next (if_pos h)

theorem exec_ueLimit (h : getFld s Reg.devMemCfg 32 8 ≤ getFld s (Reg.chLimit d.val c.val) 16 8) : exec (.ueLimit d c) s =
    .next (beginMapout s d.val c.val none false 2 0xFF02 false) :=
  congrArg Host.Outcome.next (if_pos h)

theorem exec_hwFail {part : Nat} (h1 : 1 ≤ part) (h4 : part ≤ 4) (h : channelUp s d.val c.val = true) : exec (.hwFail d c part) s =
    .next (beginMapout (capture s (Reg.chBlk d.val c.val) 0x0105 0 0xFE 0 part) d.val c.val none true 3 0x0105 false) :=
  (guarded_next (decide_eq_true ⟨h1, h4⟩) _).trans (congrArg _ (if_pos h))

theorem exec_chMapout {w : RegWrite} {q : Site} (hw : isReg w .ch 0x108 = true) (hq : servedAt s w = some q)
    (hk : fld w.val 16 16 = 0x5A25) (hv : bit w.val 0 = true) : exec (.chMapout w) s =
    .next (beginMapout s (q.1.inst / 256) (q.1.inst % 256) none false 5 0xFF05 false) := by
  obtain ⟨p, off, key, row⟩ := q
  refine (guarded_next hw _).trans (congrArg _ ?_)
  rw [serveWrite_served hq, if_neg (not_not_intro hk), if_pos hv]

/-- The cause of a limit leaves the channel's BLK_STATUS and the map-outs. -/
theorem mapoutRuns_setCause (d c i : Nat) (lost : Bool) :
    mapoutRuns (setCause s (Reg.chBlk d c) i) d c none lost = mapoutRuns s d c none lost := by
  have aside : blkStatus (Reg.chBlk d c) ≠ blkIntRaw (Reg.chBlk d c) := by
    unfold blkStatus blkIntRaw
    omega
  have same := kept_setCause s (i := i) aside
  exact mapoutRuns_congr (congrArg Prod.fst same) (congrArg Prod.snd same)

/-- So does the capture of a failed part. -/
theorem mapoutRuns_capture (d c code source part addr detail : Nat) (lost : Bool) :
    mapoutRuns (capture s (Reg.chBlk d c) code source part addr detail) d c none lost = mapoutRuns s d c none lost := by
  have aside : blkStatus (Reg.chBlk d c) ∉ captureRegs (Reg.chBlk d c) := by
    have quiet : blkStatus (Reg.chBlk d c) ∉ eventRegs := not_mem_eventRegs (by unfold blkStatus Reg.chBlk; omega)
    simp only [captureRegs, List.mem_cons, not_or]
    unfold blkStatus blkIntRaw blkErrCap at *
    exact ⟨by omega, by omega, by omega, by omega, by omega, quiet⟩
  have units := (capture_keep (m := eventParts) (a1 := Reg.chBlk d c) (a2 := code) (a3 := source) (a4 := part) (a5 := addr) (a6 := detail)
    rfl rfl rfl rfl (Keep.refl s)).same .units rfl
  exact mapoutRuns_congr (getReg_capture_other _ _ _ _ _ _ _ _ aside) units.2.2.1

end Causes

/-- Settles O15: each cause ends in `beginMapout`, which lists the map-out and shows it in CH_STATUS before what its lost contents cost;
and that cost changes neither. -/
theorem mapoutsBegin : Obligations.MapoutsBegin := by
  unfold Obligations.MapoutsBegin
  refine ⟨?ceLimit, ?ueLimit, fun _ _ _ => rfl, ?day, ?failed, ?asked⟩
  case ceLimit =>
    intro d c s h runs
    have begun := underway_beginMapout 0xFF01 ((mapoutRuns_setCause d.val c.val 16 false).trans runs) (cause := 1) (by decide) (by decide)
    have ⟨listed, state, why⟩ := begun
    exact ⟨_, exec_ceLimit h, listed, state, why, begun.closed⟩
  case ueLimit =>
    intro d c s h runs
    have begun := underway_beginMapout 0xFF02 runs (cause := 2) (by decide) (by decide)
    have ⟨listed, state, why⟩ := begun
    exact ⟨_, exec_ueLimit h, listed, state, why, begun.closed⟩
  case day =>
    intro d c s
    refine ⟨_, rfl, ?_, ?_, ?_⟩
    · exact getFld_putFld_same _ _ _ _ _ (by decide)
    · exact congrArg Channel.ueSeen (chan_setChan_same s d.val c.val _)
    · exact getFld_putFld_disjoint _ _ _ _ _ _ _ (by decide)
  case failed =>
    intro d c part s h1 h4 up runs
    exact ⟨_, exec_hwFail h1 h4 up, underway_beginMapout_lost 0x0105 ((mapoutRuns_capture d.val c.val 0x0105 0 0xFE 0 part true).trans runs)
      (by decide) (by decide) (dieRegister_chStatus d c)⟩
  case asked =>
    intro w q s hw hq hk hv runs
    exact ⟨_, exec_chMapout hw hq hk hv, underway_beginMapout 0xFF05 runs (by decide) (by decide)⟩

end Sys2Proof.Machine
end

section
/-!
PROOFS. What a mapped-out channel holds moves (R146 to R148, R152): each copy, restore, rebuild and parity move leaves its change for the
next step boundary.
-/
namespace Sys2Proof.Machine

variable {s : State}

/-! ### Restores (R147, R148) -/

/-- The capacity that a restore answers for: lost, or mapped out with poison in what it held. -/
def restorable (s : State) (m : Moved) : Bool := (movedSources s m).any fun a => onLost s a || (onMapout s a && spanPoisoned s a)

theorem exec_restoreDone_extent {h : Nat} {w : Word} {image : Option (List Byte)} {bytes : List Byte}
    (hr : restorable s (.extent h w) = true) (hi : extentImage s h image = some bytes) (hf : movedFree s (.extent h w) = true) :
    exec (.restoreDone (.extent h w) image) s =
      .next (restoreExtent (noteRestored s (movedSources s (.extent h w)) true) h w bytes) := by
  unfold restorable at hr
  change execRestoreDone (.extent h w) image s = _
  unfold execRestoreDone
  dsimp only
  rw [hr, hi, hf]
  rfl

theorem exec_restoreDone_request {req : Fin 32768} {groups : List (Nat × Nat × Nat)} {bytes : List Byte}
    (hr : restorable s (.request req groups) = true) (hf : movedFree s (.request req groups) = true)
    (hl : bytes.length = groups.length * (s.entry req.val).dir.layers * pageBytes (s.entry req.val).dir) :
    exec (.restoreDone (.request req groups) (some bytes)) s =
      .next (restoreRequest (noteRestored s (movedSources s (.request req groups)) true) req.val groups bytes) := by
  unfold restorable at hr
  change execRestoreDone (.request req groups) (some bytes) s = _
  unfold execRestoreDone
  dsimp only
  rw [hr, if_neg (by decide), if_pos ⟨hf, hl⟩]

/-- The groups of state that moves which begin may change. -/
def moveParts (p : Part) : Bool := eventParts p || transferParts p || decide (p = .moves ∨ p = .sources)

theorem keep_startMoves (s : State) : Keep moveParts s (startMoves s) := startMoves_keep rfl rfl rfl rfl rfl rfl rfl rfl rfl (Keep.refl s)

@[simp] theorem steps_startMoves (s : State) : (startMoves s).steps = s.steps := (keep_startMoves s).same .steps rfl

/-- The bytes of a restored tensor are in their new place, without poison, and its reload is over. -/
def extentLanded (s : State) (h : Nat) (w : Word) (bs : List Byte) : State :=
  let s1 := clearExtentPoison (putExtent s w 0 bs) w 0 bs.length
  startMoves { s1 with moves := s1.moves.filter fun m => ¬ (m.handle = h ∧ m.kind = .reload) }

theorem restoreExtent_eq (s : State) (h : Nat) (w : Word) (bs : List Byte) : restoreExtent s h w bs =
    if stepWaits (extentLanded s h w bs) then finishMapouts (switchExtentNow (extentLanded s h w bs) h w false)
    else { extentLanded s h w bs with deferred := (extentLanded s h w bs).deferred ++ [.switchExtent h w false] } := rfl

theorem steps_extentLanded (s : State) (h : Nat) (w : Word) (bs : List Byte) : (extentLanded s h w bs).steps = s.steps := by
  have written : (clearExtentPoison (putExtent s w 0 bs) w 0 bs.length).steps = s.steps :=
    (clearExtentPoison_keep (m := fun p => decide (p = .memory)) rfl (putExtent_keep rfl (Keep.refl s))).same .steps rfl
  exact (steps_startMoves _).trans written

/-- While no abandoned step waits to run again, the switch waits for the boundary. -/
theorem restoreExtent_switches (h : Nat) (w : Word) (bs : List Byte) (hw : stepWaits s = false) :
    .switchExtent h w false ∈ (restoreExtent s h w bs).deferred := by
  have waits : stepWaits (extentLanded s h w bs) = false := by
    rw [stepWaits, steps_extentLanded]
    exact hw
  rw [restoreExtent_eq, waits, if_neg Bool.false_ne_true]
  exact List.mem_append_right _ (List.mem_singleton_self _)

/-! ### Rebuilds and parity (R152) -/

/-- The pages of a lost group are rebuilt in the new place, and leave the old quire. -/
def rebuilt (s : State) (req : Fin 32768) (head entry group : Nat) : State :=
  let e := s.entry req.val
  let old := Map.get zeroAt (e.dir.head head).list entry
  let s1 := (List.range e.dir.layers).foldl (fun s l => rebuildPage s old group l)
    (noteRestored s (movedSources s (.request req [(head, entry, group)])) true)
  putFld s1 (Reg.mdQuireStatus (grpDie old)) 0 16 (getFld s1 (Reg.mdQuireStatus (grpDie old)) 0 16 - e.dir.layers)

theorem exec_rebuildDone {req : Fin 32768} {head entry group : Nat} (hq : quireOf s (s.entry req.val).partition = true)
    (hl : (movedSources s (.request req [(head, entry, group)])).any (onLost s) = true)
    (hf : movedFree s (.request req [(head, entry, group)]) = true)
    (hr : rebuildable s (Map.get zeroAt ((s.entry req.val).dir.head head).list entry) (s.entry req.val).dir.layers = true) :
    exec (.rebuildDone req head entry group) s = .next { rebuilt s req head entry group with
      deferred := (rebuilt s req head entry group).deferred ++ [.switchGroups req.val [(head, entry, group)] false] } := by
  change execRebuildDone req head entry group s = _
  unfold execRebuildDone
  dsimp only
  rw [hq, hl, hf, hr]
  rfl

/-- Settles O16: a copy, a restore, a rebuild and a parity move each append their change to what waits for the boundary; a restored tensor
does so because neither its bytes nor the moves that then start touch the step. -/
theorem mapoutsMove : Obligations.MapoutsMove := by
  unfold Obligations.MapoutsMove
  refine ⟨?copied, ?extent, ?request, ?rebuilt, ?parity⟩
  case copied =>
    intro m s hm hl hf hp
    change execDrainCopyDone m s = _
    unfold execDrainCopyDone
    dsimp only
    rw [hm, hl, hf, hp]
    rfl
  case extent =>
    intro h w image bytes s hr hi hf hw
    exact ⟨_, exec_restoreDone_extent hr hi hf, restoreExtent_switches h w bytes hw⟩
  case request =>
    intro req groups bytes s hr hf hl
    exact ⟨_, exec_restoreDone_request hr hf hl, List.mem_append_right _ (List.mem_singleton_self _)⟩
  case rebuilt =>
    intro req head entry group s hq hl hf hr
    exact ⟨_, exec_rebuildDone hq hl hf hr, List.mem_append_right _ (List.mem_singleton_self _)⟩
  case parity =>
    intro d quire k s hg hk hf
    change execQuireParityMoved d quire none s = _
    unfold execQuireParityMoved
    rw [hg, hk]
    dsimp only
    rw [hf]
    rfl

end Sys2Proof.Machine
end

section
/-!
PROOFS. What lapses for a request (R156, R158, R352, R374, R376), how moves between the tiers end (R161), and the settings
of a partition's tree (R379).
-/
namespace Sys2Proof.Machine

/-! ### Lapses (R156, R158, R374, R376) -/

section Lapses

variable {s : State} {i : Nat}

theorem noSpace_ends (h6 : (s.entry i).state ≠ 6) (hk : (s.entry i).hasSkip skNoSlot = true) : noSpace s i = raiseEnd s i 0x2B := by
  unfold noSpace
  rw [if_neg fun h => h6 h.1, if_pos hk]

theorem keep_foldl_complete (l : List Cmd) (code : Nat) (s : State) :
    Keep (fun p => decide (p ≠ .galley)) s (l.foldl (fun s c => complete s c code 0) s) :=
  keep_foldl (fun _ _ h => complete_keep rfl rfl rfl rfl rfl rfl rfl h) (Keep.refl s)

/-- A parked request whose return finds no slots stays parked: its RESUME is answered, and it waits no more. -/
theorem entry_noSpace_parked (h6 : (s.entry i).state = 6) (hr : (s.entry i).resumePending = true) (hm : (s.entry i).hasSkip skMoving = false) :
    (noSpace s i).entry i = { s.entry i with resumePending := false, noSlotSince := none } := by
  unfold noSpace
  rw [if_pos ⟨h6, hr, by rw [hm]; exact Bool.false_ne_true⟩]
  exact (entry_of_keep (keep_foldl_complete _ _ _) rfl i).trans (entry_setEntry_same s i _)

theorem exec_nospaceWait {req : Fin 32768} (h : (s.entry req.val).noSlotSince.isSome = true) :
    exec (.nospaceWait req) s = .next (noSpace s req.val) := congrArg Host.Outcome.next (if_pos h)

theorem exec_ttl {req : Fin 32768} (h : (s.entry req.val).state ∈ [1, 5, 6, 7]) :
    exec (.ttl req) s = .next (raiseEnd s req.val 0x2E) := congrArg Host.Outcome.next (if_pos h)

theorem regs_raiseEnd (s : State) (i code : Nat) : (raiseEnd s i code).regs = s.regs :=
  (raiseEnd_keep (m := fun p => decide (p = .galley)) rfl (Keep.refl s)).same .regs rfl

end Lapses

/-! ### Moves that begin keep their numbers -/

theorem ids_setMove (s : State) (m : Move) : (setMove s m).moves.map (·.id) = s.moves.map (·.id) := by
  rw [setMove, List.map_map]
  refine List.map_congr_left fun x _ => ?_
  by_cases h : x.id = m.id
  · rw [Function.comp, if_pos h, h]
  · rw [Function.comp, if_neg h]

theorem ids_beginMove (s : State) (m : Move) : (beginMove s m).moves.map (·.id) = s.moves.map (·.id) := by
  have rest : Keep (fun p => moveParts p && decide (p ≠ .moves)) (setMove s { m with running := true }) (beginMove s m) := by
    unfold beginMove
    extract_lets s1 bs s2
    have h1 : Keep (fun p => moveParts p && decide (p ≠ .moves)) (setMove s { m with running := true }) s1 :=
      keep_foldl (fun _ _ h => wakeMem_keep rfl h) (traceMove_keep rfl rfl rfl rfl rfl rfl (Keep.refl _))
    split
    · exact keep_foldl (fun _ _ h => regionRead_keep rfl rfl h) h1
    · exact regionRead_keep rfl rfl (keep_foldl (fun _ _ h => regionWrite_keep rfl rfl h) h1)
  obtain ⟨moves, -⟩ := rest.same .moves rfl
  rw [moves, ids_setMove]

theorem ids_startMovesOn (fuel : Nat) (s : State) (h : Half) : (startMovesOn fuel s h).moves.map (·.id) = s.moves.map (·.id) := by
  induction fuel generalizing s with
  | zero => rfl
  | succ fuel ih =>
    unfold startMovesOn
    split
    · rfl
    · split
      · rfl
      · rw [ih, ids_beginMove]

theorem moves_refreshMig (s : State) : (refreshMig s).moves = s.moves :=
  ((refreshMig_keep (m := fun p => decide (p = .regs)) rfl (Keep.refl s)).same .moves rfl).1

theorem ids_startMoves (s : State) : (startMoves s).moves.map (·.id) = s.moves.map (·.id) := by
  rw [startMoves, moves_refreshMig, ids_startMovesOn, ids_startMovesOn]

/-- No move bears the number. -/
def Gone (s : State) (id : Nat) : Prop := id ∉ s.moves.map (·.id)

theorem Gone.ne {s : State} {id : Nat} (h : Gone s id) : ∀ x ∈ s.moves, x.id ≠ id := fun _ hx e => h (List.mem_map.mpr ⟨_, hx, e⟩)

theorem Gone.of_keep {m : Part → Bool} {s t : State} {id : Nat} (h : Gone s id) (k : Keep m s t) (hm : m .moves = false) : Gone t id := by
  obtain ⟨moves, -⟩ := k.same .moves hm
  rwa [Gone, moves]

theorem gone_dropMove (s : State) (id : Nat) : Gone (dropMove s id) id := fun h => by
  obtain ⟨x, hx, e⟩ := List.mem_map.mp h
  rw [dropMove, moves_refreshMig] at hx
  obtain ⟨-, other⟩ := List.mem_filter.mp hx
  exact of_decide_eq_true other e

/-- A move that fails is over, and no other takes its number (R161). -/
theorem gone_moveFail (s : State) (id code : Nat) : Gone (moveFail s id code) id := by
  unfold moveFail
  split
  · next none =>
    intro h
    obtain ⟨x, hx, e⟩ := List.mem_map.mp h
    exact absurd e (of_decide_eq_false (Bool.eq_false_iff.mpr (List.find?_eq_none.mp none x hx)))
  · next m _ =>
    extract_lets t back s0 s1 s2 s3 s4
    have rest : Keep (fun p => decide (p ≠ .moves)) s2 s4 := by
      have k3 : Keep (fun p => decide (p ≠ .moves)) s2 s3 := by
        unfold s3
        split
        · exact raiseEnd_keep rfl (State_skipEntry_keep rfl (State_setEntry_keep rfl (Keep.refl s2)))
        · exact Keep.refl s2
      unfold s4
      split
      · exact count_keep rfl rfl rfl rfl rfl k3
      · split
        · exact count_keep rfl rfl rfl rfl rfl k3
        · exact k3
    have completed := completeMove_keep (a1 := m) (a2 := code) rfl rfl rfl rfl rfl rfl rfl rest
    rw [Gone, ids_startMoves]
    exact (gone_dropMove s1 id).of_keep completed rfl

/-! ### Reads of moves -/

section Reads

variable {s : State} {id off : Nat} {m : Move}

/-- The move into T1 that an engine runs under a number. -/
def movingIn (s : State) (id : Nat) : Option Move := s.moves.find? fun m => m.id = id ∧ m.running ∧ ¬ m.finished ∧ m.kind.intoT1 = true

theorem exec_t2ReadCompletion {data : List Byte} {ok : Bool} (hm : movingIn s id = some m) (ho : off % 4096 = 0) (hl : off < m.len)
    (hd : ok = true → data.length = min 4096 (m.len - off)) (hs : halted s = false) : exec (.t2ReadCompletion id off data ok) s =
      .next (if ok then setMove s { m with chunks := Map.put m.chunks off data } else moveFail s id 0x27) := by
  unfold movingIn at hm
  change execT2ReadCompletion id off data ok s = _
  have fits : (decide (off % 4096 = 0 ∧ off < m.len) && (!ok || decide (data.length = min 4096 (m.len - off)))) = true := by
    rw [decide_eq_true ⟨ho, hl⟩, Bool.true_and]
    cases ok with
    | false => rfl
    | true => exact decide_eq_true (hd rfl)
  unfold execT2ReadCompletion
  rw [hm]
  dsimp only
  rw [guarded_next fits, hs]
  rfl

theorem exec_tierLate_move (hm : movingIn s id = some m) : exec (.tierLate false id) s = .next (moveFail s id 0x28) := by
  unfold movingIn at hm
  change execTierLate false id s = _
  unfold execTierLate
  rw [if_neg Bool.false_ne_true, hm]

theorem exec_tierLate_token {x : Cmd} (h : fetching s id = some x) : exec (.tierLate true id) s = .next (failFetch s x 0x28) := by
  change execTierLate true id s = _
  unfold execTierLate
  rw [if_pos rfl, h]

end Reads

/-! ### Token fetches (R352) -/

/-- The command of a failed fetch leaves, and the failure is captured. -/
def fetchDropped (s : State) (c : Cmd) (code : Nat) : State :=
  capture (settleFetch { s with arrived := s.arrived.erase c } c.req) Reg.galBlk 0x0421 (getFld s (Reg.partCfg c.part) 2 1) c.part 0
    (c.req + code * 2 ^ 16 + c.op16 0x18 % 2 ^ 10 * 2 ^ 24)

theorem failFetch_eq (s : State) (c : Cmd) (code : Nat) : failFetch s c code =
    complete (if (s.entry c.req).gen = c.gen then raiseEnd (fetchDropped s c code) c.req code else fetchDropped s c code) c code 0 := rfl

theorem keep_fetchDropped (s : State) (c : Cmd) (code : Nat) :
    Keep (fun p => eventParts p || decide (p = .galley)) { s with arrived := s.arrived.erase c } (fetchDropped s c code) :=
  capture_keep rfl rfl rfl rfl (settleFetch_keep rfl (Keep.refl _))

theorem state_skipEntry (s : State) (i r : Nat) (on : Bool) : ((s.skipEntry i r on).entry i).state = (s.entry i).state :=
  (congrArg Entry.state (entry_setEntry_same s i ((s.entry i).skip r on))).trans rfl

/-- FETCH is a reason to skip, not a state. -/
theorem state_fetchDropped (s : State) (c : Cmd) (code : Nat) : ((fetchDropped s c code).entry c.req).state = (s.entry c.req).state := by
  unfold fetchDropped
  rw [entry_of_keep (capture_keep (m := eventParts) rfl rfl rfl rfl (Keep.refl _)) rfl]
  unfold settleFetch
  split
  · rfl
  · exact state_skipEntry ..

/-- A failed fetch raises its end on the live request that asked for it, and takes the command out. -/
theorem failFetch_ends {s : State} {c : Cmd} {code : Nat} (hg : (s.entry c.req).gen = c.gen) (h0 : (s.entry c.req).state ≠ 0)
    (h8 : (s.entry c.req).state ≠ 8) :
    code ∈ ((failFetch s c code).entry c.req).ends ∧ (failFetch s c code).arrived = s.arrived.erase c := by
  rw [failFetch_eq, if_pos hg]
  have completed : Keep (fun p => decide (p ∉ [Part.galley, .commands])) _ _ :=
    complete_keep (a1 := c) (a2 := code) (a3 := 0) rfl rfl rfl rfl rfl rfl rfl (Keep.refl (raiseEnd (fetchDropped s c code) c.req code))
  have raised : Keep (fun p => eventParts p || decide (p = .galley)) _ _ :=
    raiseEnd_keep (a1 := c.req) (a2 := code) rfl (keep_fetchDropped s c code)
  refine ⟨?_, (completed.same .commands rfl).1.trans (raised.same .commands rfl).1⟩
  rw [entry_of_keep completed rfl]
  exact mem_ends_raiseEnd (by rwa [state_fetchDropped]) (by rwa [state_fetchDropped])

/-! ### Moves that end (R161) -/

section Ends

variable {s : State} {id : Nat} {m : Move}

/-- The move that an engine runs under a number. -/
def moving (s : State) (id : Nat) : Option Move := s.moves.find? fun m => m.id = id ∧ m.running ∧ ¬ m.finished

theorem id_of_moving (h : moving s id = some m) : m.id = id := by
  have found := List.find?_some h
  obtain ⟨same, -⟩ := of_decide_eq_true found
  exact same

/-- A complete move waits for the boundary. -/
theorem finishMove_waits (s : State) (m : Move) : .moveDone m.id ∈ (finishMove s m).deferred := by
  unfold finishMove
  rw [((keep_startMoves _).same .waits rfl).1]
  exact List.mem_append_right _ (List.mem_singleton_self _)

theorem exec_migrationDone_out (hm : moving s id = some m) (hs : halted s = false) (hk : m.kind.intoT1 = false)
    (hp : sourcePoisoned s m = false) : exec (.migrationDone id) s = .next (finishMove s m) := by
  unfold moving at hm
  change execMigrationDone id s = _
  unfold execMigrationDone
  rw [hm]
  dsimp only
  rw [hs, hk, hp, if_neg Bool.false_ne_true, if_neg Bool.false_ne_true, if_neg Bool.false_ne_true]

theorem exec_migrationDone_extent (hm : moving s id = some m) (hs : halted s = false) (hk : m.kind.intoT1 = true) (hr : m.kind ≠ .reload)
    (hw : m.whole = true) (hq : requestOf m.handle = none) : exec (.migrationDone id) s = .next (landExtent s m) := by
  unfold moving at hm
  change execMigrationDone id s = _
  unfold execMigrationDone
  rw [hm]
  dsimp only
  rw [hs, hk, hw, hq, if_neg Bool.false_ne_true, if_pos rfl, decide_eq_false hr, Bool.not_true, Bool.false_and, Bool.or_self,
    if_neg Bool.false_ne_true]

/-- Bytes that pass their check land, and the move is complete. -/
theorem landExtent_lands (hr : m.kind ≠ .reload) (hc : (convert m.source m.container (s.tensor m.handle).size m.bytes).code = 0) :
    ∃ u, landExtent s m = finishMove u m := by
  unfold landExtent
  dsimp only
  rw [hc, if_neg (by decide), if_neg (by decide), if_neg hr]
  exact ⟨_, rfl⟩

end Ends

/-! ### Prefix-tree settings (R379) -/

/-- A tree without nodes has none to free. -/
theorem freeUnreferenced_empty {s : State} {n : Nat} (h : (s.tree n).nodes = []) (fuel : Nat) : freeUnreferenced fuel s n = s := by
  cases fuel with
  | zero => rfl
  | succ fuel =>
    have oldest : (s.tree n).oldest = none := by
      rw [PrefixTree.oldest, h]
      rfl
    rw [freeUnreferenced, oldest]

/-- Settings in range take effect on an empty tree of a partition without requests. -/
theorem commitTree_takes {s : State} {n : Nat} {ws : List Word} (h10 : 10 ≤ fld (ws.getD 0 0) 8 5) (h22 : fld (ws.getD 0 0) 8 5 ≤ 22)
    (hc : fld (ws.getD 0 0) 16 24 ≤ 16777214) (hn : (s.tree n).nodes = []) (hl : liveOf s n = 0) :
    ∃ allocated, commitTree s n ws = (putBit s Reg.galPartCommit 1 false).setTree n { s.tree n with
      enabled := bit (ws.getD 0 0) 0, bucketsLog2 := fld (ws.getD 0 0) 8 5, cap := fld (ws.getD 0 0) 16 24, keyLo := ws.getD 1 0,
      keyHi := ws.getD 2 0, allocated := allocated } := by
  have range : decide (fld (ws.getD 0 0) 8 5 < 10 ∨ 22 < fld (ws.getD 0 0) 8 5 ∨ 16777214 < fld (ws.getD 0 0) 16 24) = false :=
    decide_eq_false (by omega)
  have empty : (decide ((s.tree n).nodes ≠ []) || decide (0 < liveOf s n)) = false := by
    rw [hn, hl]
    rfl
  unfold commitTree
  dsimp only
  rw [range, empty, Bool.and_false, Bool.or_self, if_neg Bool.false_ne_true]
  split
  · exact ⟨_, rfl⟩
  · refine ⟨_, freeUnreferenced_empty ?_ _⟩
    rw [tree_setTree_same]
    exact hn

theorem getBit_setTree (s : State) (n : Nat) (t : PrefixTree) (a i : Nat) : getBit (s.setTree n t) a i = getBit s a i := rfl

theorem exec_galPartCommit {w : RegWrite} {q : Site} {s : State} (hw : isReg w .gal1 0x128 = true) (hq : servedAt s w = some q)
    (hv : bit w.val 0 = true) : exec (.galPartCommit w) s =
      .next (commitTree s (fld (latchedIndex s w.who Reg.galPartIndex) 0 6) (getLatch s w.who Reg.galPartIndex)) := by
  obtain ⟨p, off, key, row⟩ := q
  refine (guarded_next hw _).trans (congrArg _ ?_)
  rw [serveWrite_served hq, if_pos hv]

/-- Settles O27: lapses raise ends or answer a RESUME; a move that fails is dropped and the moves that then start keep their numbers; a move
that ends waits for the boundary; and settings on an empty tree meet no refusal. -/
theorem lapsesAndMovesComplete : Obligations.LapsesAndMovesComplete := by
  unfold Obligations.LapsesAndMovesComplete
  refine ⟨?noSlots, ?parked, ?park, ?ttl, ?read, ?failed, ?late, ?token, ?out, ?extent, ?settings⟩
  case noSlots =>
    intro req s hs h6 h0 h8 hk
    refine ⟨_, exec_nospaceWait hs, ?_⟩
    rw [noSpace_ends h6 hk]
    exact mem_ends_raiseEnd h0 h8
  case parked =>
    intro req s hs h6 hr hm
    have entry := entry_noSpace_parked h6 hr hm
    exact ⟨_, exec_nospaceWait hs, by rw [entry], by rw [entry], by rw [entry]; exact h6⟩
  case park =>
    intro req s h5 hp
    exact congrArg Host.Outcome.next (if_pos ⟨h5, hp⟩)
  case ttl =>
    intro req s h
    refine ⟨_, exec_ttl h, mem_ends_raiseEnd ?_ ?_, regs_raiseEnd ..⟩
    · exact fun e => absurd h (by rw [e]; decide)
    · exact fun e => absurd h (by rw [e]; decide)
  case read =>
    intro id off data m s hm ho hl hd hs
    exact exec_t2ReadCompletion hm ho hl (fun _ => hd) hs
  case failed =>
    intro id off data m s hm ho hl hs
    exact ⟨_, exec_t2ReadCompletion hm ho hl (fun e => nomatch e) hs, (gone_moveFail s id 0x27).ne⟩
  case late =>
    intro id m s hm
    exact ⟨_, exec_tierLate_move hm, (gone_moveFail s id 0x28).ne⟩
  case token =>
    rintro _ x s hx hg h0 h8 rfl
    exact ⟨_, exec_tierLate_token hx, failFetch_ends hg h0 h8⟩
  case out =>
    intro id m s hm hs hk hp
    exact ⟨_, exec_migrationDone_out hm hs hk hp, id_of_moving hm ▸ finishMove_waits s m⟩
  case extent =>
    intro id m s hm hs hk hr hw hq hc
    obtain ⟨u, landed⟩ := landExtent_lands hr hc
    refine ⟨_, exec_migrationDone_extent hm hs hk hr hw hq, ?_⟩
    rw [landed, ← id_of_moving hm]
    exact finishMove_waits u m
  case settings =>
    intro w q s hw hq hv h10 h22 hc hn hl
    obtain ⟨allocated, taken⟩ := commitTree_takes h10 h22 hc hn hl
    refine ⟨_, (exec_galPartCommit hw hq hv).trans (congrArg _ taken), ?_⟩
    dsimp only
    rw [tree_setTree_same, getBit_setTree]
    exact ⟨rfl, rfl, rfl, getBit_putBit_same _ _ _ _ (by decide)⟩

end Sys2Proof.Machine
end

section
/-!
PROOFS. Transfers of the channel bus (R168 to R172): query sets reach the near-bank units of a mask, page jobs join the queue of their unit.
-/
namespace Sys2Proof.Machine

/-! ### Near-bank units that stay -/

/-- An operation that leaves the units leaves each near-bank unit. -/
theorem nbu_of_keep {m : Part → Bool} {s t : State} (h : Keep m s t) (hm : m .units = false) (d c k : Nat) :
    t.nbu d c k = s.nbu d c k := by
  obtain ⟨-, units, -⟩ := h.same .units hm
  rw [State.nbu, units, State.nbu]

/-- The groups of state that a refused transfer may change: its causes and events, and the record that ends its row. -/
def recordParts (p : Part) : Bool := eventParts p || decide (p ∈ [Part.memory, .steps, .sources])

theorem keep_nbuCapture (s : State) (d c code part addr detail : Nat) : Keep eventParts s (nbuCapture s d c code part addr detail) :=
  nbuCapture_keep rfl rfl rfl rfl (Keep.refl s)

section Transfers

variable {s : State} {d c : Nat} {bytes : List Byte}

theorem xfers_takeXfer : ((takeXfer s d c bytes).chan d c).xfers = (s.chan d c).xfers.erase bytes :=
  congrArg Channel.xfers (chan_setChan_same s d c _)

/-! ### Query sets (R168, R169) -/

theorem set_putSet (n : Nbu) (q : Nat) (x : QuerySet) : (n.putSet q x).set q = x := by
  unfold Nbu.set Nbu.putSet
  split
  · rfl
  · rfl

/-- A unit named in the mask holds the set that is loaded; one that held it already keeps it. -/
theorem set_loadSets {q k : Nat} {x : QuerySet} (ks : List Nat) (h : k ∈ ks ∨ (s.nbu d c k).set q = x) :
    ((loadSets s d c ks q x).nbu d c k).set q = x := by
  induction ks generalizing s with
  | nil => exact h.resolve_left List.not_mem_nil
  | cons j ks ih =>
    refine ih ?_
    by_cases hk : k = j
    · rw [hk, nbu_setNbu_same]
      exact .inr (set_putSet ..)
    · have other : (s.setNbu d c j ((s.nbu d c j).putSet q x)).nbu d c k = s.nbu d c k :=
        Map.get_set_other _ _ _ _ _ (by unfold nbuKey; omega)
      rw [other]
      exact h.imp_left fun hm => (List.mem_cons.mp hm).resolve_left hk

theorem chan_loadSets {q : Nat} {x : QuerySet} (ks : List Nat) : (loadSets s d c ks q x).chan d c = s.chan d c := by
  induction ks generalizing s with
  | nil => rfl
  | cons j ks ih => exact ih

/-- A refused load leaves its set EMPTY in every unit that it names. -/
theorem set_refuseLoad {k : Nat} (hk : k ∈ bitsOf 64 (qlMask bytes)) :
    ((refuseLoad s d c bytes).nbu d c k).set (qlSet bytes) = QuerySet.none := by
  unfold refuseLoad
  rw [nbu_of_keep (keep_nbuCapture ..) rfl]
  exact set_loadSets _ (.inl hk)

/-! ### Page jobs (R170 to R172) -/

/-- A job that is sent to a unit without a marked row, or behind other jobs, joins its queue. -/
theorem nbu_sendJob (h : (s.nbu d c (pjNbu bytes)).mark = none ∨ (s.nbu d c (pjNbu bytes)).jobs ≠ []) :
    (sendJob s d c bytes).nbu d c (pjNbu bytes) =
      { s.nbu d c (pjNbu bytes) with jobs := (s.nbu d c (pjNbu bytes)).jobs ++ [bytes], prev := some bytes, dropped := none } := by
  unfold sendJob
  dsimp only
  rw [nbu_setNbu_same]
  split
  · next empty =>
    have unmarked := h.resolve_right (not_not_intro empty)
    simp only [dropMarked, unmarked]
  · rfl

/-- A job of a row that goes on and that fails the check is refused. -/
theorem acceptJob_refused (hd : rowDropped (s.nbu d c (pjNbu bytes)) bytes = false)
    (hr : jobReason s (s.nbu d c (pjNbu bytes)) bytes ≠ 0) :
    acceptJob s d c bytes = refuseJob s d c bytes (jobReason s (s.nbu d c (pjNbu bytes)) bytes) := by
  unfold acceptJob
  dsimp only
  rw [hd, if_neg Bool.false_ne_true, if_pos hr]

/-- One that passes it is sent to its unit in service. -/
theorem acceptJob_sent (hd : rowDropped (s.nbu d c (pjNbu bytes)) bytes = false)
    (hr : jobReason s (s.nbu d c (pjNbu bytes)) bytes = 0) (hn : pjNoop bytes = false) (hf : (s.nbu d c (pjNbu bytes)).failed = false)
    (hu : nbuUp s d c (pjNbu bytes) = true) : acceptJob s d c bytes = sendJob s d c bytes := by
  unfold acceptJob
  dsimp only
  rw [hd, hn, hf, hu, if_neg Bool.false_ne_true, if_neg (not_not_intro hr), if_neg Bool.false_ne_true, if_neg (by decide)]

/-- A refused job leaves its unit but for the row of which later jobs are not sent. -/
theorem nbu_refuseJob (reason : Nat) : (refuseJob s d c bytes reason).nbu d c (pjNbu bytes) =
    { s.nbu d c (pjNbu bytes) with
      dropped := if pjLast bytes then none else some (pjReq bytes, pjLayer bytes, pjHead bytes, pjSet bytes) } := by
  unfold refuseJob
  extract_lets k n s1 foreign s2 s3 s4
  have recorded : Keep recordParts s3 s4 := controllerRecord_keep rfl rfl rfl rfl rfl rfl rfl rfl
    (count_keep rfl rfl rfl rfl rfl (count_keep rfl rfl rfl rfl rfl (Keep.refl s3)))
  rw [nbu_of_keep (onSlots_keep rfl recorded) rfl]
  exact nbu_setNbu_same s2 d c k _

end Transfers

/-! ### The two transfers -/

section Commands

variable {d : Fin 8} {c : Fin 16} {bytes : List Byte} {s : State}

/-- A load whose set no queued job uses is sent, or refused where it is malformed. -/
theorem exec_queryLoad (h64 : 64 ≤ bytes.length) (hop : leAt bytes 0 1 = 2)
    (hl : bytes.length = 64 + 2 * qlQcount bytes * dimOf (qlDim bytes))
    (hb : (((bitsOf 64 (qlMask bytes)).filter (nbuUp s d.val c.val)).any fun k => setBusy (s.nbu d.val c.val k) (qlSet bytes)) = false) :
    exec (.queryLoad d c bytes) s = .next (if loadMalformed bytes then refuseLoad (takeXfer s d.val c.val bytes) d.val c.val bytes
      else loadSets (takeXfer s d.val c.val bytes) d.val c.val ((bitsOf 64 (qlMask bytes)).filter (nbuUp s d.val c.val)) (qlSet bytes)
        (loadedSet bytes)) := by
  refine (guarded_next (decide_eq_true ⟨h64, hop, .inr hl⟩) _).trans (congrArg _ (if_neg ?_))
  rw [hb]
  exact Bool.false_ne_true

/-- A job that finds room in the queue of its unit is accepted from the builder. -/
theorem exec_pageJob_room (hl : bytes.length = 32) (hop : leAt bytes 0 1 = 1)
    (hr : (s.nbu d.val c.val (pjNbu bytes)).jobs.length + (s.nbu d.val c.val (pjNbu bytes)).freed.length < 4) :
    exec (.pageJob d c bytes) s = .next (acceptJob (takeXfer s d.val c.val bytes) d.val c.val bytes) :=
  (guarded_next (decide_eq_true ⟨hl, hop⟩) _).trans (congrArg _ (if_neg fun full => absurd full.1 (Nat.not_le.mpr hr)))

end Commands

/-- Settles O17: a load goes unit by unit through `loadSets`; a page job with room reaches `acceptJob`, which refuses it or sends it; one
without room stays with the builder. -/
theorem queryAndJobsArrive : Obligations.QueryAndJobsArrive := by
  unfold Obligations.QueryAndJobsArrive
  refine ⟨?loaded, ?malformed, ?joins, ?refused, ?waits⟩
  case loaded =>
    intro d c bytes s h64 hop hl hm hb
    refine ⟨_, exec_queryLoad h64 hop hl hb, ?_⟩
    rw [hm, if_neg Bool.false_ne_true]
    exact ⟨fun k hk => set_loadSets _ (.inl hk), (congrArg Channel.xfers (chan_loadSets _)).trans xfers_takeXfer⟩
  case malformed =>
    intro d c bytes s h64 hop hl hm hb
    refine ⟨_, exec_queryLoad h64 hop hl hb, fun k hk => ?_⟩
    rw [hm, if_pos rfl, set_refuseLoad hk]
    rfl
  case joins =>
    intro d c bytes s hl hop hn hr hd h0 hf hu hq
    refine ⟨_, (exec_pageJob_room hl hop hr).trans (congrArg _ (acceptJob_sent (s := takeXfer s d.val c.val bytes) hd h0 hn hf hu)), ?_⟩
    dsimp only
    rw [nbu_sendJob (s := takeXfer s d.val c.val bytes) hq]
    exact ⟨rfl, rfl, xfers_takeXfer⟩
  case refused =>
    intro d c bytes s hl hop hn hr hd h0
    refine ⟨_, (exec_pageJob_room hl hop hr).trans (congrArg _ (acceptJob_refused (s := takeXfer s d.val c.val bytes) hd h0)), ?_⟩
    dsimp only
    rw [nbu_refuseJob]
    exact ⟨rfl, rfl⟩
  case waits =>
    intro d c bytes s hl hop hn hf
    exact (guarded_next (decide_eq_true ⟨hl, hop⟩) _).trans (congrArg _ (if_pos ⟨hf, by rw [hn]; exact Bool.false_ne_true⟩))

end Sys2Proof.Machine
end

section
/-!
PROOFS. Records of near-bank units land in T0 (R176): where they do, and a core that no job can name, for which the record's own trace
moves the core.
-/
namespace Sys2Proof.Machine

/-! ### Where a record lands -/

/-- A record of the trace writes no register but the causes of the two trace blocks and the registers of events. -/
theorem getReg_trace_other (s : State) (src : Nat) (r : TraceRec) {a : Nat} (he : a ∉ eventRegs)
    (ht : ∀ h : Half, a ≠ blkIntRaw (Reg.trcBlk h.idx)) : getReg (trace s src r) a = getReg s a := by
  unfold trace
  extract_lets
  split
  · rfl
  · split
    · exact (getReg_setCause_other _ _ _ _ (ht _)).trans (getReg_count_other _ _ _ _ he)
    · rfl

/-- The map of the 32 logical cores of a compute die is none of these. -/
theorem cdCoreMap_quiet (d : Fin 8) {n : Nat} (hn : n < 32) :
    Reg.cdCoreMap d.val (n / 8) ∉ eventRegs ∧ ∀ h : Half, Reg.cdCoreMap d.val (n / 8) ≠ blkIntRaw (Reg.trcBlk h.idx) := by
  have low : ∀ x ∈ eventRegs, x < 0x100000 := by decide
  have := d.isLt
  refine ⟨fun hm => ?_, fun h => ?_⟩
  · have := low _ hm
    unfold Reg.cdCoreMap at this
    omega
  · unfold Reg.cdCoreMap blkIntRaw Reg.trcBlk
    omega

theorem coreOf_congr {s t : State} {d n : Nat} (h : getReg t (Reg.cdCoreMap d (n / 8)) = getReg s (Reg.cdCoreMap d (n / 8))) :
    coreOf t d n = coreOf s d n := by
  unfold coreOf getFld
  rw [h]

theorem readT0_congr {s t : State} {d l : Nat} (hc : coreOf t d l = coreOf s d l) (ht : t.t0 = s.t0) (off n : Nat) :
    readT0 t d l off n = readT0 s d l off n := by
  unfold readT0
  rw [hc, ht]

theorem tokenOf_congr {s t : State} (h : t.steps = s.steps) (d n : Nat) : tokenOf t d n = tokenOf s d n := by
  rw [tokenOf, h, tokenOf]

/-- A write of T0 is no register and no part of the step. -/
theorem writeT0_frame (s : State) (d l off : Nat) (bs : List Byte) :
    (writeT0 s d l off bs).regs = s.regs ∧ (writeT0 s d l off bs).steps = s.steps := by
  unfold writeT0
  split
  · exact ⟨rfl, rfl⟩
  · exact ⟨rfl, rfl⟩

theorem coreOf_writeT0 (s : State) (d l off : Nat) (bs : List Byte) (n : Nat) : coreOf (writeT0 s d l off bs) d n = coreOf s d n :=
  coreOf_congr (by rw [getReg, (writeT0_frame s d l off bs).1, getReg])

/-- Bytes of T0 that were written are read back. -/
theorem readT0_writeT0 {s : State} {d l core : Nat} (off : Nat) (bs : List Byte) (h : coreOf s d l = some core) :
    readT0 (writeT0 s d l off bs) d l off bs.length = bs := by
  unfold readT0
  rw [coreOf_writeT0, h]
  unfold writeT0
  rw [h]
  refine List.ext_getElem (by rw [List.length_map, List.length_range]) fun i hi _ => ?_
  rw [List.length_map, List.length_range] at hi
  have stored := get_foldl_set_zipIdx (bs := bs) (da := t0Key d core off) 0 (t0Key d core off + i) s.t0
  rw [if_pos (by omega), Nat.add_zero, Nat.add_sub_cancel_left, getD_of_lt hi] at stored
  simp only [List.getElem_map, List.getElem_range, t0Key, ← Nat.add_assoc] at stored ⊢
  exact stored

/-- The bytes of a record are in T0, and the end of its job is in the trace; its TAG is not signalled yet. -/
def recordStored (s : State) (d : Nat) (r : OutRec) : State :=
  traceJob (writeT0 s d r.core r.off r.bytes) d (leAt r.bytes 0xE 2 % 16) 4 (leAt r.bytes 0xD 1) (leAt r.bytes 8 2)
    (jobAux (leAt r.bytes 0xA 1) (leAt r.bytes 0xB 1) (leAt r.bytes 1 1) (leAt r.bytes 0xC 1))

theorem landRecord_eq (s : State) (d : Nat) (r : OutRec) : landRecord s d r = signalToken (recordStored s d r) d r.tag := rfl

/-- The groups of state that a trace record may change. -/
def traceParts (p : Part) : Bool := eventParts p || decide (p = .sources)

theorem keep_traceJob (s : State) (d c kind part req aux : Nat) : Keep traceParts s (traceJob s d c kind part req aux) :=
  traceJob_keep rfl rfl rfl rfl rfl rfl (Keep.refl s)

/-- A record signals its TAG (R176). -/
theorem tokenOf_landRecord (s : State) (d : Nat) (r : OutRec) :
    tokenOf (landRecord s d r) d r.tag = (tokenOf s d r.tag + 1) % 2 ^ 16 := by
  have traced : (recordStored s d r).steps = (writeT0 s d r.core r.off r.bytes).steps := (keep_traceJob ..).same .steps rfl
  rw [← tokenOf_congr (traced.trans (writeT0_frame s d r.core r.off r.bytes).2)]
  exact Map.get_set_same ..

/-- A record for one of the 32 logical cores lands in its T0. -/
theorem readT0_landRecord {s : State} {d : Fin 8} {r : OutRec} {core : Nat} (h : coreOf s d.val r.core = some core)
    (hr : r.core < 32) : readT0 (landRecord s d.val r) d.val r.core r.off r.bytes.length = r.bytes := by
  obtain ⟨quiet, aside⟩ := cdCoreMap_quiet d hr
  obtain ⟨-, -, t0, -⟩ := (keep_traceJob (writeT0 s d.val r.core r.off r.bytes) _ _ _ _ _ _).same .memory rfl
  have map : coreOf (landRecord s d.val r) d.val r.core = coreOf (writeT0 s d.val r.core r.off r.bytes) d.val r.core :=
    coreOf_congr (getReg_trace_other _ _ _ quiet aside)
  exact (readT0_congr map t0 _ _).trans (readT0_writeT0 r.off r.bytes h)

/-! ### PARTIAL_RECORD -/

section Crossing

variable {s : State} {d : Fin 8} {c : Fin 16} {k : Fin 64} {r : OutRec}

/-- The record of `k` has crossed the bus: it awaits its ACK, and is counted. -/
def recordCrossed (s : State) (d c k : Nat) (r : OutRec) : State :=
  let n := s.nbu d c k
  let s1 := count (s.setNbu d c k { n with out := n.out.map fun x => if x = r then { x with sent := true } else x })
    (Reg.nbuRecords d (c / 8)) 1
  if leAt r.bytes 2 1 / 4 % 2 = 1 ∨ leAt r.bytes 2 1 / 16 % 2 = 1 then count s1 (Reg.nbuAborts d (c / 8)) 1 else s1

theorem exec_partialRecord (h : ((s.nbu d.val c.val k.val).out.find? fun r => !r.sent) = some r) :
    exec (.partialRecord d c k) s = .next (landRecord (recordCrossed s d.val c.val k.val r) d.val r) := by
  change execPartialRecord d c k s = _
  unfold execPartialRecord
  dsimp only
  rw [h]
  rfl

/-- A record that crosses counts, and changes its own unit alone. -/
theorem keep_recordCrossed (s : State) (d c k : Nat) (r : OutRec) : Keep eventParts (s.setNbu d c k { s.nbu d c k with
    out := (s.nbu d c k).out.map fun x => if x = r then { x with sent := true } else x }) (recordCrossed s d c k r) := by
  unfold recordCrossed
  extract_lets n s1
  split
  · exact (keep_count ..).trans (keep_count ..)
  · exact keep_count ..

theorem coreOf_recordCrossed (s : State) (d : Fin 8) (c k : Nat) (r : OutRec) {n : Nat} (hn : n < 32) :
    coreOf (recordCrossed s d.val c k r) d.val n = coreOf s d.val n := by
  have quiet := (cdCoreMap_quiet d hn).1
  refine coreOf_congr ?_
  unfold recordCrossed
  extract_lets x s1
  split
  · exact (getReg_count_other _ _ _ _ quiet).trans (getReg_count_other _ _ _ _ quiet)
  · exact getReg_count_other _ _ _ _ quiet

/-- A record for one of the 32 logical cores, all that DEST_CORE of a job can name (Table 6.3), lands in T0 and signals its TAG. -/
theorem partialRecord_lands {core : Nat} (h : ((s.nbu d.val c.val k.val).out.find? fun r => !r.sent) = some r)
    (hc : coreOf s d.val r.core = some core) (hr : r.core < 32) : Answers (.partialRecord d c k) s fun t =>
      tokenOf t d.val r.tag = (tokenOf s d.val r.tag + 1) % 2 ^ 16 ∧ readT0 t d.val r.core r.off r.bytes.length = r.bytes ∧
        (t.nbu d.val c.val k.val).out = (s.nbu d.val c.val k.val).out.map fun x => if x = r then { x with sent := true } else x := by
  refine ⟨_, exec_partialRecord h, ?_, ?_, ?_⟩
  · have steps : (recordCrossed s d.val c.val k.val r).steps = s.steps := (keep_recordCrossed ..).same .steps rfl
    rw [tokenOf_landRecord, tokenOf_congr steps]
  · exact readT0_landRecord ((coreOf_recordCrossed s d c.val k.val r hr).trans hc) hr
  · have landed : Keep recordParts _ (landRecord (recordCrossed s d.val c.val k.val r) d.val r) :=
      landRecord_keep rfl rfl rfl rfl rfl rfl rfl rfl (Keep.refl _)
    rw [nbu_of_keep landed rfl, nbu_of_keep (keep_recordCrossed ..) rfl, nbu_setNbu_same]

end Crossing

/-! ### A core beyond the map -/

/-- A record that finds its source full is lost, which TRC_LOST counts and shows as a cause (R512). -/
theorem trace_full {s : State} {src : Nat} {r : TraceRec} (hr : recording s (traceHub src) = true)
    (ha : filterAdmits (getReg s (Reg.trcFilter0 (traceHub src).idx)) { r with stamp := stamp s, src := src } = true)
    (hl : 256 ≤ (s.source src).fifo.length) : trace s src r =
      setCause (count (s.setSource src { s.source src with dropped := satAdd 0xFFFFFFFF (s.source src).dropped 1 })
        (Reg.trcLost (traceHub src).idx) 1) (Reg.trcBlk (traceHub src).idx) 17 := by
  unfold trace
  extract_lets h f rec x blank gap gaps
  have recorded : (!recording s h || !filterAdmits f rec) = false := by rw [hr, ha]; rfl
  have room : 256 < x.fifo.length + gaps.length + 1 := Nat.lt_succ_of_le (Nat.le_add_right_of_le hl)
  rw [recorded, if_neg Bool.false_ne_true, if_pos room]

/-- A record for logical core 0x3FFF22: the byte of CD_CORE_MAP where that core would lie is byte 2 of BLK_INT_RAW of the trace block. -/
def strayRecord : OutRec := ⟨0x3FFF22, 0, 0, [3], false⟩

/-- That byte maps the core to physical core 0; the trace is on, and the FIFO of the source of memory die 0 is full. -/
def strayCore : State := putFld (putBit { State.reset with
  sources := [(8, ⟨List.replicate 256 (TraceRec.blank 0), 0⟩)]
  nbus := [(nbuKey 0 0 0, { Nbu.fresh 0 with out := [strayRecord] })] } (Reg.trcCtrl 0) 0 true) (blkIntRaw (Reg.trcBlk 0)) 16 8 0x80

/-- The record's own trace takes its core away: the cause that rises in the byte that maps it makes it physical core 2. -/
theorem readT0_strayCore :
    readT0 (landRecord (recordCrossed strayCore 0 0 0 strayRecord) 0 strayRecord) 0 strayRecord.core strayRecord.off 1 = [0] := by
  have full : 256 ≤ ((writeT0 (recordCrossed strayCore 0 0 0 strayRecord) 0 strayRecord.core strayRecord.off strayRecord.bytes).source
      (8 + 0)).fifo.length := Nat.le_of_eq List.length_replicate.symm
  rw [landRecord_eq, recordStored, traceJob, trace_full (by decide) (by decide) full]
  decide

/-- Refutes O18, at its sixth clause, which lets a record name any core and not one of 32. In `strayCore` the end of the job finds that
FIFO full: TRC_LOST rises in the byte that maps the record's core, which then reads as physical core 2, where nothing was written. For
the cores that a job can name the clause holds (`partialRecord_lands`). -/
theorem not_pagesRun : ¬ Obligations.PagesRun := by
  unfold Obligations.PagesRun
  rintro ⟨-, -, -, -, -, lands, -, -, -⟩
  have crosses : ((strayCore.nbu 0 0 0).out.find? fun r => !r.sent) = some strayRecord := by decide
  obtain ⟨t, run, -, bytes, -⟩ := lands 0 0 0 strayRecord 0 strayCore crosses (by decide)
  have actual : exec (.partialRecord 0 0 0) strayCore = .next (landRecord (recordCrossed strayCore 0 0 0 strayRecord) 0 strayRecord) :=
    exec_partialRecord crosses
  obtain rfl := Host.Outcome.next.inj (actual.symm.trans run)
  exact absurd (readT0_strayCore.symm.trans bytes) (by decide)

end Sys2Proof.Machine
end

section
/-!
PROOFS. The fault window of the near-bank units of a group (R190): its restart on a table in canonical form, and on one that lists a unit
twice.
-/
namespace Sys2Proof.Machine

/-- A change of every value, which leaves the default, is read back from a canonical table. -/
theorem Map.get_mapVals {α : Type} [DecidableEq α] {d : Nat → α} {f : Nat → α → α} {m : Map α} {k lo : Nat}
    (hf : f k (d k) = d k) (w : Map.wfFrom d lo m = true) : Map.get d (Map.mapVals d f m) k = f k (Map.get d m k) := by
  induction m generalizing lo with
  | nil => exact hf.symm
  | cons e m ih =>
    obtain ⟨j, v⟩ := e
    simp only [Map.wfFrom, Bool.and_eq_true] at w
    obtain ⟨-, rest⟩ := w
    unfold Map.mapVals
    by_cases hj : j = k
    · subst hj
      rw [Map.get, if_pos rfl]
      split
      · next hd => rw [hd, Map.get_of_lt (Map.wfFrom_mapVals rest) (Nat.lt_succ_self j)]
      · rw [Map.get, if_pos rfl]
    · rw [Map.get, if_neg hj, ← ih rest]
      split
      · rfl
      · rw [Map.get, if_neg hj]

/-- On a canonical table the restart clears the counts of its group and no other. -/
theorem faultWindowRestart_clears {s : State} (d : Fin 8) (g : Fin 2) (w : Map.wf Nbu.fresh s.nbus = true) :
    Answers (.faultWindowRestart d g) s fun t => ∀ (c : Fin 16) (k : Fin 64),
      (t.nbu d.val c.val k.val).parity = if c.val / 8 = g.val then 0 else (s.nbu d.val c.val k.val).parity := by
  refine ⟨_, rfl, fun c k => ?_⟩
  have group : nbuKey d.val c.val k.val / 512 = 2 * d.val + g.val ↔ c.val / 8 = g.val := by
    unfold nbuKey
    omega
  have changed := Map.get_mapVals (d := Nbu.fresh) (k := nbuKey d.val c.val k.val)
    (f := fun k n => if k / 512 = 2 * d.val + g.val then { n with parity := 0 } else n) (ite_self _) w
  refine (congrArg Nbu.parity changed).trans ?_
  simp only [group, apply_ite Nbu.parity]
  rfl

/-- A table that lists unit 0 of channel 0 of CD0 twice: as the idle unit that a read gives, and behind it as one with 3 parity errors. -/
def twiceListedUnit : State := { State.reset with nbus := [(0, Nbu.fresh 0), (0, { Nbu.fresh 0 with parity := 3 })] }

/-- Refutes O19, at its fourth clause, which does not ask for a table of units in canonical form. In `twiceListedUnit` a restart of the
other group drops the idle entry that hides the second one, whose count is then read. Such a table is not canonical; of a canonical one
the clause holds (`faultWindowRestart_clears`). -/
theorem not_nearBankFaultsComplete : ¬ Obligations.NearBankFaultsComplete := by
  unfold Obligations.NearBankFaultsComplete
  rintro ⟨-, -, -, restart, -, -, -⟩
  obtain ⟨t, run, counts⟩ := restart 0 1 twiceListedUnit
  obtain rfl := Host.Outcome.next.inj run
  exact absurd (counts 0 0) (by decide)

end Sys2Proof.Machine
end

section
/-!
PROOFS. A spare that takes over (R231): what the map and CD_SPARE_STATUS hold then, and a map that names a core the die does not have.
-/
namespace Sys2Proof.Machine

/-! ### What a takeover writes -/

/-- The registers of the compute dies are none that an event writes. -/
theorem not_mem_eventRegs_of_die {a : Nat} (h : 0x100000 ≤ a) : a ∉ eventRegs := fun hm => by
  have low : ∀ x ∈ eventRegs, x < 0x100000 := by decide
  have := low a hm
  omega

theorem getReg_writeResident_other (s : State) (n l a : Nat) (h : ∀ c, a ≠ Reg.coreT0Resident (l / 32) c) :
    getReg (writeResident s n l) a = getReg s a := by
  unfold writeResident
  split
  · rfl
  · exact getReg_setReg_other _ _ _ _ (h _)

/-- A core of the die has its bit of CD_SPARE_STATUS below TAKEOVERS, which a takeover counts up. -/
theorem getFld_noteTakeover (s : State) (d : Nat) {old q : Nat} (ho : old < 34) (hq : q < 34) :
    getFld (noteTakeover s d old q) (Reg.cdSpareStatus d) 32 16 = (getFld s (Reg.cdSpareStatus d) 32 16 + 1) % 2 ^ 16 := by
  have freed : getFld (if 32 ≤ old then putBit s (Reg.cdSpareStatus d) (old - 8) false else s) (Reg.cdSpareStatus d) 32 16 =
      getFld s (Reg.cdSpareStatus d) 32 16 := by
    split
    · exact getFld_putBit_disjoint _ _ _ _ _ _ (.inl (by omega))
    · rfl
  unfold noteTakeover
  extract_lets r s1 s2
  have noted : getFld s2 r 32 16 = getFld s r 32 16 :=
    (getFld_putFld_disjoint _ _ _ _ _ _ _ (.inr (by decide))).trans ((getFld_putBit_disjoint _ _ _ _ _ _ (.inl (by omega))).trans freed)
  rw [getFld_putFld_same _ _ _ _ _ (by decide), noted]

theorem getReg_noteTakeover_other (s : State) (d old q : Nat) {a : Nat} (h : a ≠ Reg.cdSpareStatus d) :
    getReg (noteTakeover s d old q) a = getReg s a := by
  unfold noteTakeover
  extract_lets r s1 s2
  refine (getReg_putFld_other _ _ _ _ _ _ h).trans ((getReg_putFld_other _ _ _ _ _ _ h).trans ((getReg_putBit_other _ _ _ _ _ h).trans ?_))
  split
  · exact getReg_putBit_other _ _ _ _ _ h
  · rfl

/-- The map, the identity, the owner and the resident image of spare `q`, before the takeover is noted. -/
def spareInPlace (s : State) (d n old q : Nat) : State :=
  let s1 := setCoreOwner (setCoreId (mapCore s d n (some q)) d q n 0) d q (coreOwner s d old)
  if coreOwner s d old < 64 then writeResident s1 (coreOwner s d old) (32 * d + n) else s1

theorem takeOver_eq (s : State) (d n old q : Nat) : takeOver s d n old q =
    raiseEvent (noteTakeover (spareInPlace s d n old q) d old q) 0x020 noPart (blkDir (Reg.cdBlk d)) (dieHalf d).idx
      (word (d + old * 256)) (word q) := rfl

/-- The registers of the die's first page keep what the map wrote. -/
theorem getReg_spareInPlace (s : State) (d n old q : Nat) {a : Nat} (hn : n < 32) (hl : 0x100000 + 0x40000 * d ≤ a)
    (hh : a < 0x101000 + 0x40000 * d) : getReg (spareInPlace s d n old q) a = getReg (mapCore s d n (some q)) a := by
  have placed : getReg (setCoreOwner (setCoreId (mapCore s d n (some q)) d q n 0) d q (coreOwner s d old)) a =
      getReg (mapCore s d n (some q)) a := by
    refine (getReg_putFld_other _ _ _ _ _ _ ?_).trans (getReg_setReg_other _ _ _ _ ?_)
    · unfold blkOwner Reg.coreBlk
      omega
    · unfold Reg.coreId
      omega
  unfold spareInPlace
  extract_lets s1
  split
  · refine (getReg_writeResident_other _ _ _ _ fun c => ?_).trans placed
    unfold Reg.coreT0Resident
    omega
  · exact placed

theorem coreOf_mapCore (s : State) (d n : Nat) {q : Nat} (hq : q < 64) : coreOf (mapCore s d n (some q)) d n = some q := by
  unfold coreOf mapCore
  extract_lets b
  have entry : b = 0x80 + q := (getFld_putFld_same _ _ _ _ _ (by omega)).trans (Nat.mod_eq_of_lt (show 0x80 + q < 2 ^ 8 by omega))
  rw [entry, if_pos (by omega), show (0x80 + q) % 64 = q by omega]

/-- In a takeover from one of the 34 cores of the die the map then names the spare, and the takeover is counted. -/
theorem takeOver_carries (s : State) {d n old q : Nat} (hn : n < 32) (ho : old < 34) (hq : q < 34) :
    coreOf (takeOver s d n old q) d n = some q ∧
      getFld (takeOver s d n old q) (Reg.cdSpareStatus d) 32 16 = (getFld s (Reg.cdSpareStatus d) 32 16 + 1) % 2 ^ 16 := by
  rw [takeOver_eq]
  constructor
  · rw [← coreOf_mapCore s d n (show q < 64 by omega)]
    refine coreOf_congr ((getReg_raiseEvent_other _ _ _ _ _ _ _ _ (not_mem_eventRegs_of_die ?_)).trans
      ((getReg_noteTakeover_other _ _ _ _ ?_).trans (getReg_spareInPlace s d n old q hn ?_ ?_))) <;>
    simp only [Reg.cdCoreMap, Reg.cdSpareStatus] <;> omega
  · have aside : Reg.cdSpareStatus d ∉ eventRegs := not_mem_eventRegs_of_die (by unfold Reg.cdSpareStatus; omega)
    have placed : getReg (spareInPlace s d n old q) (Reg.cdSpareStatus d) = getReg s (Reg.cdSpareStatus d) := by
      refine (getReg_spareInPlace s d n old q hn ?_ ?_).trans (getReg_putFld_other _ _ _ _ _ _ ?_) <;>
      simp only [Reg.cdCoreMap, Reg.cdSpareStatus] <;> omega
    have noted := getFld_noteTakeover (spareInPlace s d n old q) d ho hq
    simp only [getFld, placed] at noted
    rw [getFld, getReg_raiseEvent_other _ _ _ _ _ _ _ _ aside, noted, getFld]

/-- A spare that takes over from one of the 34 cores of its die does all that the sixth clause of O20 says. -/
theorem spareTaken_carries {d : Fin 8} {p : Fin 34} {old : Nat} {s : State} (held : spareHold d.val p.val ∈ s.steps.holds)
    (hc : coreOf s d.val (getFld s (Reg.coreId d.val p.val) 8 5) = some old) (ho : old < 34) : Answers (.spareTaken d p) s fun t =>
      coreOf t d.val (getFld s (Reg.coreId d.val p.val) 8 5) = some p.val ∧ spareHold d.val p.val ∉ t.steps.holds ∧
        getFld t (Reg.cdSpareStatus d.val) 32 16 = (getFld s (Reg.cdSpareStatus d.val) 32 16 + 1) % 2 ^ 16 := by
  have run : exec (.spareTaken d p) s = .next
      (takeOver (dropHold s (spareHold d.val p.val)) d.val (getFld s (Reg.coreId d.val p.val) 8 5) old p.val) := by
    change execSpareTaken d p s = _
    unfold execSpareTaken
    rw [if_pos held]
    dsimp only
    rw [hc]
  obtain ⟨named, counted⟩ := takeOver_carries (dropHold s (spareHold d.val p.val)) (d := d.val)
    (n := getFld s (Reg.coreId d.val p.val) 8 5) (fld_lt _ _ _) ho p.isLt
  refine ⟨_, run, named, ?_, counted⟩
  have steps : (takeOver (dropHold s (spareHold d.val p.val)) d.val (getFld s (Reg.coreId d.val p.val) 8 5) old p.val).steps =
      (dropHold s (spareHold d.val p.val)).steps :=
    (takeOver_keep (m := fun x => decide (x ≠ .steps)) rfl rfl rfl rfl rfl (Keep.refl _)).same .steps rfl
  rw [steps]
  exact fun h => of_decide_eq_true (List.mem_filter.mp h).2 rfl

/-! ### A core that the die does not have -/

/-- Spare 32 of CD0 is about to take over logical core 0, which the map gives to physical core 40; one takeover has been counted. -/
def strayTakeover : State := putFld (putFld { State.reset with steps := { State.reset.steps with holds := [spareHold 0 32] } }
  (Reg.cdCoreMap 0 0) 0 8 (0x80 + 40)) (Reg.cdSpareStatus 0) 32 16 1

/-- Refutes O20, at its sixth clause, which lets the map name a physical core above 33. In `strayTakeover` core 40 gives its place to
spare 32: its bit of CD_SPARE_STATUS would be bit 32, the lowest of TAKEOVERS, which is cleared before the takeover is counted and so
stays 1. For the 34 cores of a die the clause holds (`spareTaken_carries`). -/
theorem not_coreFailuresComplete : ¬ Obligations.CoreFailuresComplete := by
  unfold Obligations.CoreFailuresComplete
  rintro ⟨-, -, -, -, -, taken, -, -, -⟩
  obtain ⟨t, run, -, -, counted⟩ := taken 0 32 40 strayTakeover (by decide) (by decide)
  obtain rfl := Host.Outcome.next.inj run
  exact absurd counted (by decide)

end Sys2Proof.Machine
end

section
/-!
PROOFS. What happens beside the data of a sort (R209, R237, R256, R312 to R314): counts, captures, trace records, messages, flags and
signals leave T0, T1, the accumulators, the engines' places in their segments, and every register past the header of its page.
-/
namespace Sys2Proof.Machine

/-! ### Registers past the header of a page -/

/-- A register past the header of its page, and none that an event writes. -/
def BodyRegister (a : Nat) : Prop := 0x100 ≤ a % 0x1000 ∧ a ∉ eventRegs

/-- `t` holds those registers as `s` does. -/
def BodySame (s t : State) : Prop := ∀ a, BodyRegister a → getReg t a = getReg s a

theorem BodySame.refl (s : State) : BodySame s s := fun _ _ => rfl

theorem BodySame.trans {a b c : State} (h : BodySame a b) (g : BodySame b c) : BodySame a c := fun x hx => (g x hx).trans (h x hx)

/-- The map of the logical cores of a die consists of such registers. -/
theorem bodyRegister_cdCoreMap (d : Nat) {n : Nat} (hn : n < 32) : BodyRegister (Reg.cdCoreMap d (n / 8)) := by
  have low : ∀ x ∈ eventRegs, x < 0x100000 := by decide
  refine ⟨by unfold Reg.cdCoreMap; omega, fun hm => ?_⟩
  have := low _ hm
  unfold Reg.cdCoreMap at this
  omega

theorem BodySame.coreOf {s t : State} (h : BodySame s t) (d : Nat) {n : Nat} (hn : n < 32) : coreOf t d n = coreOf s d n :=
  coreOf_congr (h _ (bodyRegister_cdCoreMap d hn))

theorem BodyRegister.ne_intRaw {a blk : Nat} (ha : BodyRegister a) (hb : blk % 0x1000 = 0) : a ≠ blkIntRaw blk := by
  obtain ⟨past, -⟩ := ha
  unfold blkIntRaw
  omega

theorem BodyRegister.not_capture {a blk : Nat} (ha : BodyRegister a) (hb : blk % 0x1000 = 0) : a ∉ captureRegs blk := by
  obtain ⟨past, aside⟩ := ha
  simp only [captureRegs, List.mem_cons, not_or, blkIntRaw, blkErrCap]
  exact ⟨by omega, by omega, by omega, by omega, by omega, aside⟩

theorem bodySame_setCause (s : State) {blk : Nat} (i : Nat) (hb : blk % 0x1000 = 0) : BodySame s (setCause s blk i) := fun _ ha =>
  getReg_setCause_other _ _ _ _ (ha.ne_intRaw hb)

theorem bodySame_count (s : State) (off n : Nat) : BodySame s (count s off n) := fun _ ha => getReg_count_other _ _ _ _ ha.2

theorem bodySame_capture (s : State) {blk : Nat} (code source part addr detail : Nat) (hb : blk % 0x1000 = 0) :
    BodySame s (capture s blk code source part addr detail) := fun _ ha => getReg_capture_other _ _ _ _ _ _ _ _ (ha.not_capture hb)

theorem bodySame_trace (s : State) (src : Nat) (r : TraceRec) : BodySame s (trace s src r) := fun _ ha =>
  getReg_trace_other _ _ _ ha.2 fun _ => ha.ne_intRaw (by unfold Reg.trcBlk; omega)

theorem bodySame_foldl {β : Type} {f : State → β → State} {l : List β} {s : State} (hf : ∀ s x, BodySame s (f s x)) :
    BodySame s (l.foldl f s) := by
  induction l generalizing s with
  | nil => exact BodySame.refl s
  | cons x l ih => exact (hf s x).trans ih

theorem bodySame_foldl_fst {β γ : Type} {f : State × γ → β → State × γ} {l : List β} {p : State × γ}
    (hf : ∀ p x, BodySame p.1 (f p x).1) : BodySame p.1 (l.foldl f p).1 := by
  induction l generalizing p with
  | nil => exact BodySame.refl p.1
  | cons x l ih => exact (hf p x).trans ih

/-! ### Messages -/

theorem fabBlk_page (p : Nat) : Reg.fabBlk p % 0x1000 = 0 := by unfold Reg.fabBlk; omega

theorem bodySame_sendOne (p : Nat) (x : State × List (List Byte)) (f : List Byte) : BodySame x.1 (sendOne p x f).1 := by
  obtain ⟨s, waiting⟩ := x
  unfold sendOne
  dsimp only
  split
  · exact BodySame.refl s
  · exact fun a ha => bodySame_count _ _ _ a ha

theorem bodySame_pump (s : State) (p : Nat) : BodySame s (pump s p) := by
  have sent := bodySame_foldl_fst (l := (s.link p).waiting) (p := (s.setLink p { s.link p with waiting := [] }, [])) (bodySame_sendOne p)
  unfold pump
  split
  next s1 waiting h =>
    rw [h] at sent
    exact sent

theorem bodySame_queueFlit (s : State) (p : Nat) (f : List Byte) : BodySame s (queueFlit s p f) := fun a ha =>
  bodySame_pump (s.setLink p { s.link p with waiting := (s.link p).waiting ++ [f] }) p a ha

/-- A frame of this device's own leaves through a port, or is dropped at port 0. -/
theorem bodySame_forwardFlit (s : State) (f : List Byte) : BodySame s (forwardFlit s none f) := by
  unfold forwardFlit
  split
  · exact bodySame_queueFlit _ _ _
  · unfold routeFlit
    extract_lets
    split
    · exact BodySame.refl s
    · exact (bodySame_count _ _ _).trans ((bodySame_capture _ _ _ _ _ _ (fabBlk_page _)).trans (bodySame_setCause _ _ (fabBlk_page _)))
    · exact bodySame_count _ _ _
    · refine BodySame.trans ?_ (bodySame_queueFlit _ _ _)
      split
      · exact bodySame_count _ _ _
      · exact BodySame.refl s

theorem bodySame_sendMsg (s : State) (slice cls op dst : Nat) (ackReq : Bool) (target : Word) (content : List Byte) :
    BodySame s (sendMsg s slice cls op dst ackReq target content).2 := by
  have launched : ∀ (u : State) (m : Msg), BodySame u (launch u m) := fun u m => by
    unfold launch
    split
    · exact BodySame.refl u
    · exact bodySame_foldl bodySame_forwardFlit
  unfold sendMsg
  cases ackReq <;> exact fun a ha => launched _ _ a ha

/-! ### The frame -/

/-- The groups of state that counts, captures, trace records and messages may change. -/
def quietParts (p : Part) : Bool := eventParts p || decide (p ∈ [Part.sources, .links])

/-- And those that flags and signals of a sort may change: what the step knows of its tokens and slots, what a core has captured, the
values drawn. -/
def asideParts (p : Part) : Bool := quietParts p || decide (p ∈ [Part.steps, .units, .free])

/-- From `s` to `t` nothing has happened to the data of sorts: T0, T1, the accumulators, and where the engines stand. -/
structure Aside (s t : State) : Prop where
  kept : Keep asideParts s t
  body : BodySame s t
  pcs : t.steps.pcs = s.steps.pcs
  atomics : t.steps.atomics = s.steps.atomics
  tiles : ∀ d p, (t.core d p).tiles = (s.core d p).tiles

namespace Aside

theorem refl (s : State) : Aside s s := ⟨Keep.refl s, BodySame.refl s, rfl, rfl, fun _ _ => rfl⟩

theorem trans {a b c : State} (h : Aside a b) (g : Aside b c) : Aside a c where
  kept := h.kept.trans g.kept
  body := h.body.trans g.body
  pcs := g.pcs.trans h.pcs
  atomics := g.atomics.trans h.atomics
  tiles := fun d p => (g.tiles d p).trans (h.tiles d p)

theorem foldl {β : Type} {f : State → β → State} {l : List β} {s : State} (hf : ∀ s x, Aside s (f s x)) : Aside s (l.foldl f s) := by
  induction l generalizing s with
  | nil => exact refl s
  | cons x l ih => exact (hf s x).trans ih

/-- What is neither of the step nor of the units changes no more than the register headers. -/
theorem of_quiet {s t : State} (h : Keep quietParts s t) (body : BodySame s t) : Aside s t where
  kept := h.weaken fun p hp => by
    unfold asideParts at hp
    exact (Bool.or_eq_false_iff.mp hp).1
  body := body
  pcs := by rw [show t.steps = s.steps from h.same .steps rfl]
  atomics := by rw [show t.steps = s.steps from h.same .steps rfl]
  tiles := fun d p => by
    obtain ⟨-, -, -, -, cores⟩ := h.same .units rfl
    rw [State.core, cores, State.core]

/-- What changes only the tokens and slots of the step. -/
theorem of_steps {s t : State} (h : Keep (fun p => decide (p = .steps)) s t) (hp : t.steps.pcs = s.steps.pcs)
    (ha : t.steps.atomics = s.steps.atomics) : Aside s t where
  kept := h.weaken fun p hp => decide_eq_false fun e => by rw [e] at hp; cases hp
  body := fun a _ => by rw [getReg, show t.regs = s.regs from h.same .regs rfl, getReg]
  pcs := hp
  atomics := ha
  tiles := fun d p => by
    obtain ⟨-, -, -, -, cores⟩ := h.same .units rfl
    rw [State.core, cores, State.core]

variable {s t : State}

theorem coreOf (h : Aside s t) (d : Nat) {n : Nat} (hn : n < 32) : Machine.coreOf t d n = Machine.coreOf s d n := h.body.coreOf d hn

theorem t0 (h : Aside s t) : t.t0 = s.t0 := (h.kept.same .memory rfl).2.2.1

theorem t1 (h : Aside s t) : t.t1 = s.t1 := (h.kept.same .memory rfl).1

theorem poison (h : Aside s t) : t.poison = s.poison := (h.kept.same .memory rfl).2.1

theorem tensors (h : Aside s t) : t.tensors = s.tensors := h.kept.same .tensors rfl

theorem t0Read (h : Aside s t) (l off n : Nat) : Machine.t0Read t l off n = Machine.t0Read s l off n :=
  readT0_congr (h.coreOf _ (Nat.mod_lt _ (by decide))) h.t0 off n

end Aside

/-- The check of an access depends on the tensor table alone. -/
theorem tensorAccess_congr {s t : State} (h : t.tensors = s.tensors) (part : Option Nat) (addr n : Nat) :
    tensorAccess t part addr n = tensorAccess s part addr n := by
  have same : ∀ i, t.tensor i = s.tensor i := fun i => by rw [State.tensor, h, State.tensor]
  unfold tensorAccess
  dsimp only
  rw [same]

theorem aside_count (s : State) (off n : Nat) : Aside s (count s off n) :=
  .of_quiet (count_keep rfl rfl rfl rfl rfl (Keep.refl s)) (bodySame_count s off n)

theorem aside_setCause (s : State) {blk : Nat} (i : Nat) (hb : blk % 0x1000 = 0) : Aside s (setCause s blk i) :=
  .of_quiet (setCause_keep rfl rfl rfl (Keep.refl s)) (bodySame_setCause s i hb)

theorem coreBlk_page (d i : Nat) : Reg.coreBlk d i % 0x1000 = 0 := by unfold Reg.coreBlk; omega

theorem aside_coreCapture (s : State) (d p code engine addr detail : Nat) : Aside s (coreCapture s d p code engine addr detail) :=
  .of_quiet (coreCapture_keep rfl rfl rfl rfl (Keep.refl s)) (bodySame_capture s _ _ _ _ _ (coreBlk_page _ _))

theorem keep_traceSort (s : State) (r : RunSort) (kind unit : Nat) : Keep traceParts s (traceSort s r kind unit) :=
  traceSort_keep rfl rfl rfl rfl rfl rfl (Keep.refl s)

theorem aside_traceSort (s : State) (r : RunSort) (kind unit : Nat) : Aside s (traceSort s r kind unit) :=
  .of_quiet (traceSort_keep rfl rfl rfl rfl rfl rfl (Keep.refl s)) (bodySame_trace s _ _)

theorem aside_sendPeer (s : State) (p : PartPick) (m op : Nat) (target : Word) (content : List Byte) :
    Aside s (sendPeer s p m op target content) :=
  .of_quiet (sendPeer_keep rfl rfl rfl rfl rfl rfl (Keep.refl s)) (bodySame_sendMsg s _ _ _ _ _ _ _)

theorem aside_signalToken (s : State) (d n : Nat) : Aside s (signalToken s d n) :=
  .of_steps (signalToken_keep rfl (Keep.refl s)) rfl rfl

theorem aside_onSlots (s : State) (part : Nat) (p : Slot → Bool) (f : Slot → Slot) : Aside s (onSlots s part p f) :=
  .of_steps (onSlots_keep rfl (Keep.refl s)) rfl rfl

theorem aside_flagRequest (s : State) (part req b : Nat) : Aside s (flagRequest s part req b) := aside_onSlots ..

theorem aside_voidRequest (s : State) (part req : Nat) : Aside s (voidRequest s part req) := aside_onSlots ..

theorem aside_sortSignal (s : State) (p : PartPick) (b : List Byte) : Aside s (sortSignal s p b) := by
  unfold sortSignal
  split
  · exact Aside.refl s
  · split
    · exact aside_sendPeer ..
    · exact aside_signalToken ..

/-- A sort that completes is counted, traced and signalled. -/
theorem aside_completeSort (s : State) (r : RunSort) : Aside s (completeSort s r) := by
  unfold completeSort
  extract_lets s1
  have counted : Aside s s1 := by
    unfold s1
    split
    · split
      · exact aside_count ..
      · exact Aside.refl s
    · exact Aside.refl s
  exact counted.trans ((aside_traceSort ..).trans (aside_sortSignal ..))

/-! ### The end of a sort -/

theorem pcAfter_advance (s : State) (r : RunSort) (c : Nat) : pcAfter (advance s r c) r c = r.index + 1 :=
  Map.get_set_same zeroAt s.steps.pcs (r.pcKey c) (r.index + 1)

theorem pcAfter_aside {s t : State} (h : Aside s t) (r : RunSort) (c : Nat) : pcAfter t r c = pcAfter s r c := by
  rw [pcAfter, h.pcs, pcAfter]

/-- The engine goes on past a sort that has finished. -/
theorem pcAfter_finishSort (s : State) (r : RunSort) : pcAfter (finishSort s r) r 0 = r.index + 1 :=
  (pcAfter_aside (aside_completeSort (advance s r 0) r) r 0).trans (pcAfter_advance s r 0)

theorem t0_finishSort (s : State) (r : RunSort) : (finishSort s r).t0 = s.t0 := (aside_completeSort (advance s r 0) r).t0

theorem t1_finishSort (s : State) (r : RunSort) : (finishSort s r).t1 = s.t1 := (aside_completeSort (advance s r 0) r).t1

theorem poison_finishSort (s : State) (r : RunSort) : (finishSort s r).poison = s.poison := (aside_completeSort (advance s r 0) r).poison

theorem t0Read_finishSort (s : State) (r : RunSort) (l off n : Nat) : t0Read (finishSort s r) l off n = t0Read s l off n :=
  (aside_completeSort (advance s r 0) r).t0Read l off n

theorem tiles_finishSort (s : State) (r : RunSort) (d p : Nat) : ((finishSort s r).core d p).tiles = (s.core d p).tiles :=
  (aside_completeSort (advance s r 0) r).tiles d p

/-- Bytes written to T0 of a logical core that has a physical one are read back. -/
theorem t0Read_t0Write {s : State} {l : Nat} (off : Nat) (bs : List Byte) (h : (coreOf s (l / 32) (l % 32)).isSome = true) :
    t0Read (t0Write s l off bs) l off bs.length = bs := by
  obtain ⟨p, hp⟩ := Option.isSome_iff_exists.mp h
  exact readT0_writeT0 off bs hp

/-- A sort that ends with a write of T0 leaves those bytes there. -/
theorem t0Write_finishes {s : State} {l : Nat} (r : RunSort) (off : Nat) (bs : List Byte)
    (h : (coreOf s (l / 32) (l % 32)).isSome = true) : pcAfter (finishSort (t0Write s l off bs) r) r 0 = r.index + 1 ∧
      t0Read (finishSort (t0Write s l off bs) r) l off bs.length = bs :=
  ⟨pcAfter_finishSort .., (t0Read_finishSort ..).trans (t0Read_t0Write off bs h)⟩

end Sys2Proof.Machine
end

section
/-!
PROOFS. The sort that is due (R207, R307, R325): what it is, how it runs, and what it reads once its beginning has been traced.
-/
namespace Sys2Proof.Machine

/-! ### A sort that is due -/

theorem nextRun_seg {s : State} {seg engine c : Nat} {r : RunSort} (h : nextRun s seg engine c = some r) :
    r.seg = seg ∧ s.steps.running = true := by
  unfold nextRun at h
  split at h
  · cases h
  · next ready =>
    have running : s.steps.running = true := by
      cases hs : s.steps.running
      · rw [hs] at ready; exact absurd rfl ready
      · rfl
    split at h
    · cases h
    · dsimp only at h
      split at h
      · cases h
      · split at h
        · cases h
          exact ⟨rfl, running⟩
        · cases h

/-- A due sort stands next in its segment, bears its opcode, and is well formed with operands in range. -/
structure Due (s : State) (seg engine c op : Nat) (r : RunSort) : Prop where
  next : nextRun s seg engine c = some r
  op : srtOp r.bytes = op
  shape : sortShape r.seg r.bytes = true
  operands : operandsOk ((s.impo r.pick.impo).ctx r.forme r.seg) r.bytes = true

theorem due_of_dueSort {s : State} {seg engine c op : Nat} {r : RunSort} (h : dueSort s seg engine c op = some r) :
    Due s seg engine c op r := by
  obtain ⟨next, ok⟩ := Option.filter_eq_some_iff.mp h
  simp only [Bool.and_eq_true, decide_eq_true_eq] at ok
  obtain ⟨⟨op, shape⟩, operands⟩ := ok
  exact ⟨next, op, shape, operands⟩

theorem Due.seg {s : State} {seg engine c op : Nat} {r : RunSort} (h : Due s seg engine c op r) : r.seg = seg := (nextRun_seg h.next).1

theorem Due.running {s : State} {seg engine c op : Nat} {r : RunSort} (h : Due s seg engine c op r) : s.steps.running = true :=
  (nextRun_seg h.next).2

/-- An engine runs its due sort once its beginning has been traced. -/
theorem Due.runs {s : State} {core engine op : Nat} {r : RunSort} (h : Due s core engine 0 op r) (act : State → RunSort → State) :
    runSort s core engine op act = act (traceSort s r 1 (core % 32)) r := by
  unfold runSort
  rw [h.next]
  dsimp only
  rw [if_neg (not_not_intro h.op), h.shape, h.operands]
  rfl

/-- The die of a segment of a core, and the core's number there. -/
theorem RunSort.die_eq {r : RunSort} (h : r.seg < 256) : r.die = r.seg / 32 := if_pos h

/-! ### What a traced sort reads -/

section Traced

variable (s : State) (r : RunSort) (kind unit : Nat)

@[simp] theorem t0Read_traceSort (l off n : Nat) : t0Read (traceSort s r kind unit) l off n = t0Read s l off n :=
  (aside_traceSort ..).t0Read l off n

@[simp] theorem entry_traceSort (i : Nat) : (traceSort s r kind unit).entry i = s.entry i :=
  entry_of_keep (keep_traceSort ..) rfl i

@[simp] theorem impo_traceSort (k : Nat) : (traceSort s r kind unit).impo k = s.impo k := by
  obtain ⟨impos, -⟩ := (keep_traceSort s r kind unit).same .impos rfl
  rw [State.impo, impos, State.impo]

@[simp] theorem core_traceSort (d p : Nat) : (traceSort s r kind unit).core d p = s.core d p := by
  obtain ⟨-, -, -, -, cores⟩ := (keep_traceSort s r kind unit).same .units rfl
  rw [State.core, cores, State.core]

@[simp] theorem free_traceSort : (traceSort s r kind unit).free = s.free := (keep_traceSort ..).same .free rfl

@[simp] theorem steps_traceSort : (traceSort s r kind unit).steps = s.steps := (keep_traceSort ..).same .steps rfl

@[simp] theorem colophon_traceSort : (traceSort s r kind unit).colophon = s.colophon := by
  obtain ⟨-, colophon, -⟩ := (keep_traceSort s r kind unit).same .nvs rfl
  exact colophon

@[simp] theorem coreOf_traceSort (d l : Nat) : coreOf (traceSort s r kind unit) d (l % 32) = coreOf s d (l % 32) :=
  (aside_traceSort ..).coreOf d (Nat.mod_lt _ (by decide))

@[simp] theorem phys_traceSort : r.phys (traceSort s r kind unit) = r.phys s := coreOf_traceSort ..

@[simp] theorem readElems_traceSort (l off fmt n : Nat) : readElems (traceSort s r kind unit) l off fmt n = readElems s l off fmt n := by
  simp only [readElems, t0Read_traceSort]

@[simp] theorem matmulTiles_traceSort (l : Nat) (c : CoreState) (b : List Byte) :
    matmulTiles (traceSort s r kind unit) l c b = matmulTiles s l c b := by
  simp only [matmulTiles, t0Read_traceSort]

@[simp] theorem drainElems_traceSort (t : AccTile) (v : Nat) : drainElems (traceSort s r kind unit) r t v = drainElems s r t v := by
  have position : drainPos (traceSort s r kind unit) r v = drainPos s r v := by
    unfold drainPos
    rw [free_traceSort]
  simp only [drainElems, drainFmt, drainStages, drainFreqs, position, t0Read_traceSort, entry_traceSort]

@[simp] theorem gatherVector_traceSort (n : Nat) : gatherVector (traceSort s r kind unit) r n = gatherVector s r n := by
  funext v
  simp only [gatherVector, slotToken, entry_traceSort, impo_traceSort]

@[simp] theorem vopResult_traceSort : vopResult (traceSort s r kind unit) r = vopResult s r := by
  simp only [vopResult, gatherVector_traceSort, readElems_traceSort]

@[simp] theorem mergeInputs_traceSort : mergeInputs (traceSort s r kind unit) r = mergeInputs s r := by
  simp only [mergeInputs, readRecord, t0Read_traceSort]

@[simp] theorem partialBytes_traceSort (x : WRecord) : partialBytes (traceSort s r kind unit) x = partialBytes s x := by
  simp only [partialBytes, colophon_traceSort]

@[simp] theorem sampleEntry_traceSort : sampleEntry (traceSort s r kind unit) r = sampleEntry s r := by
  simp only [sampleEntry, entry_traceSort]

@[simp] theorem foldElems_traceSort : foldElems (traceSort s r kind unit) r = foldElems s r := by
  simp only [foldElems, t0Read_traceSort]

end Traced

end Sys2Proof.Machine
end

section
/-!
PROOFS. MATMUL and DRAIN (R209, R242, R243, R251 to R259): the group that a MATMUL fills, and what a DRAIN clears, writes and issues.
-/
namespace Sys2Proof.Machine

/-! ### MATMUL (R209, R210, R243) -/

/-- Block pairs that are expanded as zero are counted and captured (R218). -/
theorem aside_countBad (s : State) (d p passes : Nat) (tiles : List WTile) : Aside s (countBad s d p passes tiles) := by
  unfold countBad
  refine Aside.foldl fun s t => Aside.foldl fun s n => ?_
  split
  · exact Aside.refl s
  · exact (aside_count ..).trans ((aside_coreCapture ..).trans (aside_setCause _ _ (coreBlk_page _ _)))

/-- A MATMUL whose group is free and whose tiles are there adds one tile to the accumulators of its core. -/
theorem runMatmul_fills {s : State} {r : RunSort} {p : Nat}
    (free : groupBusy (s.core r.die p) (leAt r.bytes 0x17 1 % 64 * shapeB (leAt r.bytes 0x16 1) * accBytes (shapeMode (leAt r.bytes 0x16 1)))
      ((leAt r.bytes 0x17 1 % 64 + 1) * shapeB (leAt r.bytes 0x16 1) * accBytes (shapeMode (leAt r.bytes 0x16 1))) = false)
    (there : (matmulTiles s r.seg (s.core r.die p) r.bytes).isSome = true) : ∃ u c, Aside s u ∧
      (∃ tile, c.tiles = (s.core r.die p).tiles ++ [tile]) ∧ runMatmul s r p = finishSort (u.setCore r.die p c) r := by
  obtain ⟨⟨tiles, rest⟩, taken⟩ := Option.isSome_iff_exists.mp there
  unfold runMatmul
  extract_lets b d sh mode bb g c
  rw [if_neg (by rw [free]; exact Bool.false_ne_true), taken]
  dsimp only
  have counted : ∀ a n a' n' a'' n'' d p passes tiles,
      Aside s (countBad (count (count (count s a n) a' n') a'' n'') d p passes tiles) := fun _ _ _ _ _ _ _ _ _ _ =>
    (aside_count ..).trans ((aside_count ..).trans ((aside_count ..).trans (aside_countBad ..)))
  exact ⟨_, _, counted .., ⟨_, congrArg (· ++ _) ((counted ..).tiles _ _)⟩, rfl⟩

theorem matmul_fills {core : Fin 256} {r : RunSort} {p : Nat} {s : State} (due : dueSort s core.val 1 0 0x20 = some r)
    (hc : coreOf s r.die (r.seg % 32) = some p)
    (free : groupBusy (s.core r.die p) (leAt r.bytes 0x17 1 % 64 * shapeB (leAt r.bytes 0x16 1) * accBytes (shapeMode (leAt r.bytes 0x16 1)))
      ((leAt r.bytes 0x17 1 % 64 + 1) * shapeB (leAt r.bytes 0x16 1) * accBytes (shapeMode (leAt r.bytes 0x16 1))) = false)
    (there : (matmulTiles s r.seg (s.core r.die p) r.bytes).isSome = true) : Answers (.matmul core) s fun t =>
      pcAfter t r 0 = r.index + 1 ∧ (t.core r.die p).tiles.length = (s.core r.die p).tiles.length + 1 ∧
        (∀ x ∈ (s.core r.die p).tiles, x ∈ (t.core r.die p).tiles) ∧ t.t0 = s.t0 := by
  have traced := aside_traceSort s r 1 (core.val % 32)
  obtain ⟨u, c, aside, ⟨tile, added⟩, run⟩ := runMatmul_fills (s := traceSort s r 1 (core.val % 32)) (r := r) (p := p)
    (by rwa [core_traceSort]) (by rwa [core_traceSort, matmulTiles_traceSort])
  have runs : exec (.matmul core) s = .next (finishSort (u.setCore r.die p c) r) := by
    change execMatmul core s = _
    rw [execMatmul, (due_of_dueSort due).runs, phys_traceSort, show r.phys s = some p from hc]
    exact congrArg _ run
  have tiles : ((finishSort (u.setCore r.die p c) r).core r.die p).tiles = (s.core r.die p).tiles ++ [tile] := by
    rw [tiles_finishSort, core_setCore_same, added, core_traceSort]
  refine ⟨_, runs, pcAfter_finishSort .., ?_, fun x hx => ?_, ?_⟩
  · rw [tiles, List.length_append, List.length_singleton]
  · rw [tiles]
    exact List.mem_append_left _ hx
  · exact (t0_finishSort ..).trans (aside.t0.trans traced.t0)

/-! ### DRAIN: the group is cleared and its vectors flagged (R242, R251, R256) -/

/-- The group that a DRAIN names. -/
theorem drainTile_names (c : CoreState) (b : List Byte) :
    (drainTile c b).b = drB b ∧ (drainTile c b).mode = drMode b ∧ (drainTile c b).group = leAt b 0x10 1 := by
  unfold drainTile
  extract_lets bb
  cases h : c.tiles.find? fun t => decide (t.b = bb ∧ t.mode = drMode b ∧ t.group = leAt b 0x10 1) with
  | none => exact ⟨rfl, rfl, rfl⟩
  | some t =>
    have found := List.find?_some h
    exact of_decide_eq_true found

/-- The saturation that a core has captured is no tile. -/
theorem aside_satSeen (s : State) (d p : Nat) : Aside s (s.setCore d p { s.core d p with satSeen := true }) where
  kept := State_setCore_keep rfl (Keep.refl s)
  body := BodySame.refl s
  pcs := rfl
  atomics := rfl
  tiles := fun d' p' => by
    unfold State.core State.setCore
    rw [Map.get_set]
    split
    · next h => rw [h]
    · rfl

theorem aside_drainFlags (r : RunSort) (t : AccTile) (d p : Nat) (s : State) (vec : Nat) (es : List OutElem) :
    Aside s (drainFlags r t d p s vec es) := by
  unfold drainFlags
  extract_lets sats nons s1 core seen s2
  have counted : Aside s s1 := (aside_count ..).trans (aside_count ..)
  have captured : Aside s s2 := by
    unfold s2
    split
    · exact counted.trans ((aside_satSeen ..).trans (aside_coreCapture ..))
    · exact counted
  split
  · extract_lets s3
    have flagged : Aside s s3 := by
      unfold s3
      split
      · exact captured.trans (aside_flagRequest ..)
      · exact captured
    split
    · exact flagged.trans (aside_flagRequest ..)
    · exact flagged
  · exact captured

/-- The bytes of the vectors of a drained group. -/
def drainVectors (s : State) (r : RunSort) (p : Nat) : List (List Byte) :=
  (List.range (drB r.bytes)).map fun v => ((drainElems s r (drainTile (s.core r.die p) r.bytes) v).map (·.bytes)).flatten

/-- The group is cleared; a position that none is stated for has been drawn. -/
def drainCleared (s : State) (r : RunSort) (p : Nat) : State :=
  let c := s.core r.die p
  let t := drainTile c r.bytes
  (if (List.range t.b).any fun v => (drainSlot r v).isNone then (drawFree s).2 else s).setCore r.die p
    { c with tiles := c.tiles.filter fun x => ¬ (x.b = t.b ∧ x.mode = t.mode ∧ x.group = t.group) }

/-- And the vectors have been flagged. -/
def drainFlagged (s : State) (r : RunSort) (p : Nat) : State :=
  let t := drainTile (s.core r.die p) r.bytes
  ((List.range t.b).map (drainElems s r t)).zipIdx.foldl (fun s (x, i) => drainFlags r t r.die p s i x) (drainCleared s r p)

theorem runDrain_eq (s : State) (r : RunSort) (p : Nat) :
    runDrain s r p = drainWrite (drainFlagged s r p) r p (drainVectors s r p) := by
  obtain ⟨width, -, -⟩ := drainTile_names (s.core r.die p) r.bytes
  change drainWrite (drainFlagged s r p) r p (((List.range (drainTile (s.core r.die p) r.bytes).b).map
    (drainElems s r (drainTile (s.core r.die p) r.bytes))).map fun x => (x.map (·.bytes)).flatten) = _
  rw [List.map_map, width]
  rfl

theorem aside_drainFlagged (s : State) (r : RunSort) (p : Nat) : Aside (drainCleared s r p) (drainFlagged s r p) :=
  Aside.foldl fun s x => aside_drainFlags r _ r.die p s x.2 x.1

/-- A cleared group is no byte of T0, no register, no tensor and no part of the step. -/
theorem drainCleared_frame (s : State) (r : RunSort) (p : Nat) : (drainCleared s r p).t0 = s.t0 ∧ (drainCleared s r p).regs = s.regs ∧
    (drainCleared s r p).tensors = s.tensors ∧ (drainCleared s r p).steps = s.steps := by
  unfold drainCleared
  extract_lets c t
  split <;> exact ⟨rfl, rfl, rfl, rfl⟩

/-- No tile of the group is left. -/
theorem tiles_drainCleared (s : State) (r : RunSort) (p : Nat) : ∀ x ∈ ((drainCleared s r p).core r.die p).tiles,
    ¬ (x.b = drB r.bytes ∧ x.mode = drMode r.bytes ∧ x.group = leAt r.bytes 0x10 1) := by
  obtain ⟨width, mode, group⟩ := drainTile_names (s.core r.die p) r.bytes
  intro x hx
  unfold drainCleared at hx
  rw [core_setCore_same, width, mode, group] at hx
  exact of_decide_eq_true (List.mem_filter.mp hx).2

theorem coreOf_drainFlagged (s : State) (r : RunSort) (p d l : Nat) : coreOf (drainFlagged s r p) d (l % 32) = coreOf s d (l % 32) := by
  refine ((aside_drainFlagged s r p).coreOf d (Nat.mod_lt _ (by decide))).trans (coreOf_congr ?_)
  obtain ⟨-, regs, -⟩ := drainCleared_frame s r p
  rw [getReg, regs, getReg]

/-! ### DRAIN: what is written (R253, R257) -/

theorem drainVectors_traceSort (s : State) (r : RunSort) (kind unit p : Nat) :
    drainVectors (traceSort s r kind unit) r p = drainVectors s r p := by
  simp only [drainVectors, core_traceSort, drainElems_traceSort]

section Drains

variable {core : Fin 256} {r : RunSort} {p : Nat} {s : State} (due : dueSort s core.val 2 0 0x30 = some r)
  (hc : coreOf s r.die (r.seg % 32) = some p)
include due hc

theorem exec_drainSort : exec (.drainSort core) s =
    .next (drainWrite (drainFlagged (traceSort s r 1 (core.val % 32)) r p) r p (drainVectors s r p)) := by
  change execDrainSort core s = _
  rw [execDrainSort, (due_of_dueSort due).runs, phys_traceSort, show r.phys s = some p from hc]
  exact congrArg _ ((runDrain_eq ..).trans (by rw [drainVectors_traceSort]))

/-- A DRAIN to its own core clears its group and leaves its vectors in T0. -/
theorem drain_writes (hk : drKind r.bytes = 0) (hs : r.seg < 256) : Answers (.drainSort core) s fun t =>
    pcAfter t r 0 = r.index + 1 ∧ t0Read t r.seg (srtT0 r.bytes 0x14) (drainVectors s r p).flatten.length = (drainVectors s r p).flatten ∧
      ∀ x ∈ (t.core r.die p).tiles, ¬ (x.b = drB r.bytes ∧ x.mode = drMode r.bytes ∧ x.group = leAt r.bytes 0x10 1) := by
  generalize hu : traceSort s r 1 (core.val % 32) = u
  have run : exec (.drainSort core) s =
      .next (finishSort (t0Write (drainFlagged u r p) r.seg (srtT0 r.bytes 0x14) (drainVectors s r p).flatten) r) := by
    rw [exec_drainSort due hc, hu, drainWrite, hk]
    rfl
  have there : (coreOf (drainFlagged u r p) (r.seg / 32) (r.seg % 32)).isSome = true := by
    rw [coreOf_drainFlagged, ← hu, coreOf_traceSort, ← RunSort.die_eq hs, hc]
    rfl
  obtain ⟨past, bytes⟩ := t0Write_finishes r (srtT0 r.bytes 0x14) (drainVectors s r p).flatten there
  refine ⟨_, run, past, bytes, ?_⟩
  have tiles : ((finishSort (t0Write (drainFlagged u r p) r.seg (srtT0 r.bytes 0x14) (drainVectors s r p).flatten) r).core r.die p).tiles =
      ((drainCleared u r p).core r.die p).tiles := by
    have written := t0Write_keep (m := fun x => decide (x = .memory)) (a1 := r.seg) (a2 := srtT0 r.bytes 0x14)
      (a3 := (drainVectors s r p).flatten) rfl (Keep.refl (drainFlagged u r p))
    obtain ⟨-, -, -, -, cores⟩ := written.same .units rfl
    rw [tiles_finishSort, State.core, cores]
    exact (aside_drainFlagged u r p).tiles r.die p
  rw [tiles]
  exact tiles_drainCleared u r p

end Drains

/-! ### DRAIN: contributions (R259) -/

/-- Contributions that are issued join those on their way, and the engine goes on. -/
theorem issueAtomics_issues (s : State) (r : RunSort) (p : Nat) (cs : List Contribution) :
    pcAfter (issueAtomics s r p cs) r 0 = r.index + 1 ∧ (issueAtomics s r p cs).steps.atomics = s.steps.atomics ++ cs ∧
      (issueAtomics s r p cs).t0 = s.t0 := by
  have counted := aside_count s (Reg.coreAtomicOut r.die p) cs.length
  refine ⟨?_, ?_, ?_⟩
  · exact Map.get_set_same zeroAt (count s (Reg.coreAtomicOut r.die p) cs.length).steps.pcs (r.pcKey 0) (r.index + 1)
  · change (count s (Reg.coreAtomicOut r.die p) cs.length).steps.atomics ++ cs = _
    rw [counted.atomics]
  · unfold issueAtomics advance
    exact counted.t0

theorem sectorPieces_ne_nil (fuel off : Nat) {bs : List Byte} (h : bs ≠ []) : sectorPieces (fuel + 1) off 0 bs ≠ [] := by
  rw [sectorPieces, if_neg h]
  exact List.cons_ne_nil _ _

theorem length_rotatePairs (pos : Nat) (ws : List Nat) (xs : List OutVal) : (rotatePairs pos ws xs).length = xs.length := by
  induction ws, xs using rotatePairs.induct (pos := pos) with
  | case1 w ws x y rest ih => simp only [rotatePairs, List.length_cons, ih]
  | case2 ws xs h => rw [rotatePairs.eq_2 _ _ _ h]

theorem length_drainElems (s : State) (r : RunSort) (t : AccTile) (v : Nat) : (drainElems s r t v).length = 64 := by
  simp only [drainElems, drainStages, List.length_map, List.length_zipIdx, length_rotatePairs, List.length_range]

/-- The vectors of a group hold bytes where the output format has some. -/
theorem flatten_drainVectors_ne_nil (s : State) {r : RunSort} (p : Nat) (hk : drKind r.bytes = 4) (hf : fmtBytes (drFmt r.bytes) ≠ 0) :
    (drainVectors s r p).flatten ≠ [] := by
  have format : drainFmt s r 0 = drFmt r.bytes := by
    unfold drainFmt
    rw [hk, if_neg (by decide)]
  have wide : 0 < drB r.bytes := by
    have : 2 ^ (leAt r.bytes 0x11 1 % 4) ≤ 2 ^ 6 := Nat.pow_le_pow_right (by decide) (by omega)
    exact Nat.div_pos this (Nat.two_pow_pos _)
  have some_elem := List.length_pos_iff_exists_mem.mp (show 0 < (drainElems s r (drainTile (s.core r.die p) r.bytes) 0).length by
    rw [length_drainElems]; decide)
  obtain ⟨e, he⟩ := some_elem
  have bytes : e.bytes ≠ [] := by
    simp only [drainElems, format] at he
    obtain ⟨x, -, rfl⟩ := List.mem_map.mp he
    exact fun h => hf ((length_leBytes _ _).symm.trans (congrArg List.length h))
  intro h
  have vector := List.flatten_eq_nil_iff.mp h _ (List.mem_map.mpr ⟨0, List.mem_range.mpr wide, rfl⟩)
  exact bytes (List.flatten_eq_nil_iff.mp vector _ (List.mem_map.mpr ⟨e, he, rfl⟩))

/-- Contributions are FP32 or BF16 (R259). -/
theorem Due.contribution_format {s : State} {core : Nat} {r : RunSort} (due : Due s core 2 0 0x30 r) (hk : drKind r.bytes = 4) :
    fmtBytes (drFmt r.bytes) ≠ 0 := by
  have ok := due.operands
  rw [operandsOk, due.op] at ok
  unfold drainOk at ok
  simp only [Bool.and_eq_true, Bool.or_eq_true, decide_eq_true_eq] at ok
  obtain ⟨⟨⟨⟨⟨-, contribution⟩, -⟩, -⟩, -⟩, -⟩ := ok
  unfold drKind at hk
  unfold drFmt
  obtain ⟨other, -⟩ | bf16 | fp32 := contribution
  · exact absurd hk other
  · rw [bf16]; decide
  · rw [fp32]; decide

section Contributions

variable {core : Fin 256} {r : RunSort} {p : Nat} {s : State} (due : dueSort s core.val 2 0 0x30 = some r)
  (hc : coreOf s r.die (r.seg % 32) = some p)
include due hc

/-- A DRAIN of contributions to T0 issues them. -/
theorem drain_contributes (hk : drKind r.bytes = 4) : Answers (.drainSort core) s fun t =>
    pcAfter t r 0 = r.index + 1 ∧ s.steps.atomics <+: t.steps.atomics ∧ t.steps.atomics.length ≠ s.steps.atomics.length ∧
      t.t0 = s.t0 := by
  have traced := aside_traceSort s r 1 (core.val % 32)
  have flagged := aside_drainFlagged (traceSort s r 1 (core.val % 32)) r p
  obtain ⟨t0, -, -, steps⟩ := drainCleared_frame (traceSort s r 1 (core.val % 32)) r p
  generalize hb : (drainVectors s r p).flatten = bs
  have bytes : bs ≠ [] := hb ▸ flatten_drainVectors_ne_nil s p hk ((due_of_dueSort due).contribution_format hk)
  generalize hcs : contributions r false (leAt r.bytes 0x18 1)
    ((sectorPieces (bs.length / 64 + 2) (srtT0 r.bytes 0x14) 0 bs).map fun x => (srtT0 r.bytes 0x14 + x.1, x.2)) = cs
  have issued : cs.length ≠ 0 := by
    rw [← hcs, contributions, List.length_map, List.length_map]
    exact fun h => sectorPieces_ne_nil (bs.length / 64 + 1) _ bytes (List.length_eq_zero_iff.mp h)
  have run : exec (.drainSort core) s = .next (issueAtomics (drainFlagged (traceSort s r 1 (core.val % 32)) r p) r p cs) := by
    rw [exec_drainSort due hc, drainWrite, hk, ← hcs, ← hb]
    rfl
  obtain ⟨past, atomics, same⟩ := issueAtomics_issues (drainFlagged (traceSort s r 1 (core.val % 32)) r p) r p cs
  have before : (drainFlagged (traceSort s r 1 (core.val % 32)) r p).steps.atomics = s.steps.atomics := by
    rw [flagged.atomics, steps, steps_traceSort]
  rw [before] at atomics
  refine ⟨_, run, past, ?_, ?_, ?_⟩
  · rw [atomics]
    exact List.prefix_append _ _
  · rw [atomics, List.length_append]
    omega
  · rw [same, flagged.t0, t0, traced.t0]

/-- A DRAIN of contributions to a tensor that it may write goes on. -/
theorem drain_contributes_t1 (hk : drKind r.bytes = 5) (ok : (tensorAccess s (some r.pick.part) (srtTs r.bytes 0x18)
    (drainVectors s r p).flatten.length).toOption.isSome = true) : Answers (.drainSort core) s fun t => pcAfter t r 0 = r.index + 1 := by
  generalize hu : drainFlagged (traceSort s r 1 (core.val % 32)) r p = u
  have access : ∀ n, tensorAccess u (some r.pick.part) (srtTs r.bytes 0x18) n = tensorAccess s (some r.pick.part) (srtTs r.bytes 0x18) n := by
    have traced := aside_traceSort s r 1 (core.val % 32)
    have flagged := aside_drainFlagged (traceSort s r 1 (core.val % 32)) r p
    obtain ⟨-, -, tensors, -⟩ := drainCleared_frame (traceSort s r 1 (core.val % 32)) r p
    exact fun n => hu ▸ tensorAccess_congr (flagged.tensors.trans (tensors.trans traced.tensors)) _ _ n
  have run : ∃ cs, exec (.drainSort core) s = .next (issueAtomics u r p cs) := by
    cases h : tensorAccess s (some r.pick.part) (srtTs r.bytes 0x18) (drainVectors s r p).flatten.length with
    | error e =>
      rw [h] at ok
      cases ok
    | ok x =>
      rw [exec_drainSort due hc, hu, drainWrite, hk]
      dsimp only
      rw [access, h]
      exact ⟨_, rfl⟩
  obtain ⟨cs, run⟩ := run
  exact ⟨_, run, (issueAtomics_issues u r p cs).1⟩

end Contributions

/-! ### Atomic adds (R259 to R262) -/

/-- The completion of a contribution goes back to its issuer. -/
theorem aside_atomicDone (s : State) (c : Contribution) (n : Nat) : Aside s (atomicDone s c (some n)) := by
  unfold atomicDone
  extract_lets d
  split
  · extract_lets s1 r
    have counted : Aside s s1 := aside_count ..
    split
    · exact counted
    · exact counted.trans (aside_completeSort ..)
  · exact Aside.refl s

/-- Element by element, the sums that a contribution to T0 leaves there. -/
def contributionSum (s : State) (x : Contribution) : List Byte × Nat :=
  atomicRun x.fmt (t0Read s x.core x.at_ x.bytes.length) x.bytes

theorem applyAtomic_t0 {s : State} {x : Contribution} {p : Nat} (h0 : x.inT1 = false)
    (hp : coreOf s (x.core / 32) (x.core % 32) = some p) : applyAtomic s x =
      (count (t0Write s x.core x.at_ (contributionSum s x).1) (Reg.coreAtomicIn (x.core / 32) p) 1, some (contributionSum s x).2) := by
  unfold applyAtomic
  rw [h0, if_neg Bool.false_ne_true]
  dsimp only
  rw [hp]
  rfl

/-- A contribution that has arrived is no longer on its way. -/
def contributionTaken (s : State) (k : Nat) : State :=
  { s with steps := { s.steps with atomics := s.steps.atomics.eraseIdx k } }

/-- Its completion goes back; a merge that was refused abandons the step. -/
def contributionEnd (x : Contribution) (a : State × Option Nat) : State :=
  if a.2.isNone ∧ (atomicDone a.1 x a.2).steps.running then abandonWith (atomicDone a.1 x a.2) .normal else atomicDone a.1 x a.2

theorem exec_atomicAdd {k : Nat} {x : Contribution} {s : State} (hx : s.steps.atomics[k]? = some x) (hh : halted s = false) :
    exec (.atomicAdd k) s = .next (contributionEnd x (applyAtomic (contributionTaken s k) x)) := by
  change execAtomicAdd k s = _
  unfold execAtomicAdd
  rw [hx]
  dsimp only
  rw [hh, if_neg Bool.false_ne_true]
  rfl

/-- A contribution to T0 that arrives is added element by element, and leaves the list of those on their way. -/
theorem atomicAdd_adds {k : Nat} {x : Contribution} {s : State} (hx : s.steps.atomics[k]? = some x) (hh : halted s = false)
    (h0 : x.inT1 = false) (hc : (coreOf s (x.core / 32) (x.core % 32)).isSome = true) : Answers (.atomicAdd k) s fun t =>
      t.steps.atomics = s.steps.atomics.eraseIdx k ∧
        t0Read t x.core x.at_ (contributionSum s x).1.length = (contributionSum s x).1 := by
  obtain ⟨p, hp⟩ := Option.isSome_iff_exists.mp hc
  have same : contributionSum (contributionTaken s k) x = contributionSum s x := rfl
  have applied := applyAtomic_t0 (s := contributionTaken s k) h0 hp
  rw [same] at applied
  generalize contributionSum s x = sum at applied
  have run : exec (.atomicAdd k) s = .next (atomicDone
      (count (t0Write (contributionTaken s k) x.core x.at_ sum.1) (Reg.coreAtomicIn (x.core / 32) p) 1) x (some sum.2)) := by
    rw [exec_atomicAdd hx hh, applied]
    rfl
  have aside := (aside_count (t0Write (contributionTaken s k) x.core x.at_ sum.1) (Reg.coreAtomicIn (x.core / 32) p) 1).trans (aside_atomicDone _ x sum.2)
  refine ⟨_, run, ?_, ?_⟩
  · rw [aside.atomics, show (t0Write (contributionTaken s k) x.core x.at_ sum.1).steps = _ from (writeT0_frame ..).2]
    rfl
  · rw [aside.t0Read]
    exact t0Read_t0Write x.at_ sum.1 hc

end Sys2Proof.Machine
end

section
/-!
PROOFS. The vector unit (R221 to R223, R263, R291, R293) and the builders (R322): where VOP, MERGE, SAMPLE, FOLD and ATTEND go on, and what
they leave in T0.
-/
namespace Sys2Proof.Machine

/-! ### VOP (R221) -/

theorem vop_writes {core : Fin 256} {r : RunSort} {s : State} (due : dueSort s core.val 3 0 0x40 = some r)
    (hop : leAt r.bytes 0x10 1 ≠ 9 ∨ leAt r.bytes 0x11 1 ≠ leAt r.bytes 0x12 1)
    (hc : (coreOf s (r.seg / 32) (r.seg % 32)).isSome = true)
    (room : inT0 (srtT0 r.bytes 0x1C) (convElems (leAt r.bytes 0x12 1) (vopResult s r)).length = true) : Answers (.vop core) s fun t =>
      pcAfter t r 0 = r.index + 1 ∧ t0Read t r.seg (srtT0 r.bytes 0x1C) (convElems (leAt r.bytes 0x12 1) (vopResult s r)).length =
        convElems (leAt r.bytes 0x12 1) (vopResult s r) := by
  have due := due_of_dueSort due
  generalize hb : convElems (leAt r.bytes 0x12 1) (vopResult s r) = bs at room
  have converts : ¬ (leAt r.bytes 0x10 1 = 9 ∧ leAt r.bytes 0x11 1 = leAt r.bytes 0x12 1) := fun h => hop.elim (· h.1) (· h.2)
  have run : exec (.vop core) s = .next
      (finishSort (t0Write (traceSort s r 1 (core.val % 32)) r.seg (srtT0 r.bytes 0x1C) bs) r) := by
    change execVop core s = _
    rw [execVop, due.runs]
    dsimp only
    rw [if_neg converts, vopResult_traceSort, hb, room, due.seg]
    rfl
  exact ⟨_, run, t0Write_finishes r _ bs (by rwa [coreOf_traceSort])⟩

/-! ### MERGE (R291, R293) -/

theorem aside_mergeFlags (s : State) (part : Nat) (x : WRecord) : Aside s (mergeFlags s part x) := by
  unfold mergeFlags
  extract_lets s1
  have void : Aside s s1 := by
    unfold s1
    split
    · exact aside_voidRequest ..
    · exact Aside.refl s
  split
  · exact void.trans (aside_flagRequest ..)
  · exact void

/-- The records of a MERGE have left their flags, and are counted. -/
def mergeNoted (s : State) (r : RunSort) (p : Nat) : State :=
  count ((mergeInputs s r).foldl (fun s y => mergeFlags s r.pick.part y) s) (Reg.coreMerges r.die p) ((mergeInputs s r).length - 1)

theorem aside_mergeNoted (s : State) (r : RunSort) (p : Nat) : Aside s (mergeNoted s r p) :=
  (Aside.foldl fun s y => aside_mergeFlags s r.pick.part y).trans (aside_count ..)

/-- Without NORMALISE the merged record is written as a partial of this device. -/
theorem runMerge_partial {s : State} {r : RunSort} {p : Nat} {x : WRecord} (hn : (leAt r.bytes 0x16 1).testBit 0 = false)
    (hx : mergeAll (mergeInputs s r) = some x) :
    runMerge s r p = finishSort (t0Write (mergeNoted s r p) r.seg (srtT0 r.bytes 0x18) (partialBytes s x)) r := by
  unfold runMerge
  extract_lets b recs
  rw [hx]
  dsimp only
  rw [hn, if_neg Bool.false_ne_true]
  rfl

theorem runMerge_finishes (s : State) (r : RunSort) (p : Nat) : ∃ u, runMerge s r p = finishSort u r := by
  unfold runMerge
  extract_lets b recs
  split
  · exact ⟨_, rfl⟩
  · dsimp only
    split
    · exact ⟨_, rfl⟩
    · exact ⟨_, rfl⟩

section Merge

variable {core : Fin 256} {r : RunSort} {p : Nat} {bytes : List Byte} {s : State} (due : dueSort s core.val 3 0 0x41 = some r)
  (hc : coreOf s (r.seg / 32) (r.seg % 32) = some p) (hs : r.seg < 256)
include due hc hs

theorem exec_mergeSort : exec (.mergeSort core) s = .next (runMerge (traceSort s r 1 (core.val % 32)) r p) := by
  change execMergeSort core s = _
  rw [execMergeSort, (due_of_dueSort due).runs, phys_traceSort, RunSort.phys, RunSort.die_eq hs, hc]

theorem merge_writes (hn : (leAt r.bytes 0x16 1).testBit 0 = false)
    (hb : (mergeAll (mergeInputs s r)).map (partialBytes s) = some bytes) : Answers (.mergeSort core) s fun t =>
      pcAfter t r 0 = r.index + 1 ∧ t0Read t r.seg (srtT0 r.bytes 0x18) bytes.length = bytes := by
  obtain ⟨x, hx, rfl⟩ := Option.map_eq_some_iff.mp hb
  refine ⟨_, exec_mergeSort due hc hs, ?_⟩
  rw [runMerge_partial hn (by rwa [mergeInputs_traceSort]), partialBytes_traceSort]
  refine t0Write_finishes r _ _ ?_
  rw [(aside_mergeNoted ..).coreOf _ (Nat.mod_lt _ (by decide)), coreOf_traceSort, hc]
  rfl

theorem merge_goes_on : Answers (.mergeSort core) s fun t => pcAfter t r 0 = r.index + 1 := by
  obtain ⟨u, run⟩ := runMerge_finishes (traceSort s r 1 (core.val % 32)) r p
  exact ⟨_, (exec_mergeSort due hc hs).trans (congrArg _ run), pcAfter_finishSort u r⟩

end Merge

/-! ### SAMPLE (R222, R223) -/

theorem t1_t0Write (s : State) (l off : Nat) (bs : List Byte) : (t0Write s l off bs).t1 = s.t1 := by
  unfold t0Write writeT0
  split
  · rfl
  · rfl

theorem aside_chooseOne (r : RunSort) (p : Nat) (sl : Slot) (s : State) (i : Nat) : Aside s (chooseOne r p sl s i) := by
  unfold chooseOne
  extract_lets j
  split
  · exact Aside.refl s
  · split
    · exact aside_coreCapture ..
    · exact (aside_count ..).trans (aside_onSlots ..)

/-- Every phase ends with its sort, and none writes T1. -/
theorem runSample_finishes (s : State) (r : RunSort) (p : Nat) : ∃ u : State, u.t1 = s.t1 ∧ runSample s r p = finishSort u r := by
  unfold runSample
  extract_lets b n src dst e
  split
  · exact ⟨_, t1_t0Write .., rfl⟩
  · split
    · exact ⟨_, t1_t0Write .., rfl⟩
    · exact ⟨s, rfl, rfl⟩
  · split
    · exact ⟨s, rfl, rfl⟩
    · exact ⟨_, (Aside.foldl fun s i => aside_chooseOne r p _ s i).t1, rfl⟩

/-- The summary that the local phase leaves of its logits. -/
def sampleSummary (s : State) (r : RunSort) : List Byte :=
  summaryBytes (shardSummary (readElems s r.seg (srtT0 r.bytes 0x14) 5 (leAt r.bytes 0x1C 4)) (leAt r.bytes 0x20 4)
    (invT (sampleEntry s r)) (candLimit (sampleEntry s r)))

theorem runSample_local {s : State} {r : RunSort} (p : Nat) (h0 : leAt r.bytes 0x10 1 = 0) :
    runSample s r p = finishSort (t0Write s r.seg (srtT0 r.bytes 0x18) (sampleSummary s r)) r := by
  unfold runSample
  extract_lets b n src dst e
  rw [h0]
  rfl

section Sample

variable {core : Fin 256} {r : RunSort} {p : Nat} {s : State} (due : dueSort s core.val 3 0 0x42 = some r)
include due

theorem exec_sampleSort (hc : coreOf s r.die (r.seg % 32) = some p) :
    exec (.sampleSort core) s = .next (runSample (traceSort s r 1 (core.val % 32)) r p) := by
  change execSampleSort core s = _
  rw [execSampleSort, (due_of_dueSort due).runs, phys_traceSort, RunSort.phys, hc]

theorem sample_writes (hc : coreOf s (r.seg / 32) (r.seg % 32) = some p) (hs : r.seg < 256) (h0 : leAt r.bytes 0x10 1 = 0) :
    Answers (.sampleSort core) s fun t => pcAfter t r 0 = r.index + 1 ∧
      t0Read t r.seg (srtT0 r.bytes 0x18) (sampleSummary s r).length = sampleSummary s r := by
  refine ⟨_, exec_sampleSort due (by rwa [RunSort.die_eq hs]), ?_⟩
  have summary : sampleSummary (traceSort s r 1 (core.val % 32)) r = sampleSummary s r := by
    simp only [sampleSummary, readElems_traceSort, sampleEntry_traceSort]
  rw [runSample_local p h0, summary]
  refine t0Write_finishes r _ _ ?_
  rw [coreOf_traceSort, hc]
  rfl

theorem sample_keeps_t1 (hc : coreOf s r.die (r.seg % 32) = some p) :
    Answers (.sampleSort core) s fun t => pcAfter t r 0 = r.index + 1 ∧ t.t1 = s.t1 := by
  obtain ⟨u, t1, run⟩ := runSample_finishes (traceSort s r 1 (core.val % 32)) r p
  refine ⟨_, (exec_sampleSort due hc).trans (congrArg _ run), pcAfter_finishSort u r, ?_⟩
  rw [t1_finishSort, t1, (aside_traceSort ..).t1]

end Sample

/-! ### ATTEND (R322) -/

/-- The builder of a channel goes on past its list; the sort completes with the last channel. -/
theorem attend_goes_on {d : Fin 8} {k : Fin 16} {r : RunSort} {s : State} (due : dueSort s (256 + d.val) 5 k.val 0x60 = some r) :
    Answers (.attendSort d k) s fun t => pcAfter t r k.val = r.index + 1 := by
  have due := due_of_dueSort due
  have run : ∃ u, exec (.attendSort d k) s = .next (advance u r k.val) ∨
      exec (.attendSort d k) s = .next (completeSort (advance u r k.val) r) := by
    change ∃ u, execAttendSort d k s = _ ∨ execAttendSort d k s = _
    unfold execAttendSort
    rw [due.next]
    dsimp only
    rw [if_neg (not_not_intro due.op), due.shape, due.operands, Bool.and_self, Bool.not_true, if_neg Bool.false_ne_true]
    split
    · exact ⟨_, .inr rfl⟩
    · exact ⟨_, .inl rfl⟩
  obtain ⟨u, run | run⟩ := run
  · exact ⟨_, run, pcAfter_advance ..⟩
  · exact ⟨_, run, (pcAfter_aside (aside_completeSort ..) r k.val).trans (pcAfter_advance ..)⟩

end Sys2Proof.Machine
end

section
/-!
PROOFS. FOLD (R263): a sum to T0, and a sum to a tensor whose sectors are clean.
-/
namespace Sys2Proof.Machine

/-! ### Writes of T1 that are not refused (R136, R137) -/

/-- From `s` to `t` bytes were stored in T1: T0 and the step are as before, and no sector has become poisoned. -/
structure Stored (s t : State) : Prop where
  t0 : t.t0 = s.t0
  steps : t.steps = s.steps
  clean : ∀ a, sectorPoisoned s a = false → sectorPoisoned t a = false

namespace Stored

theorem refl (s : State) : Stored s s := ⟨rfl, rfl, fun _ h => h⟩

theorem trans {a b c : State} (h : Stored a b) (g : Stored b c) : Stored a c where
  t0 := g.t0.trans h.t0
  steps := g.steps.trans h.steps
  clean := fun x hx => g.clean x (h.clean x hx)

theorem setPoison (s : State) (da : Nat) : Stored s (setPoison s da false) where
  t0 := rfl
  steps := rfl
  clean := fun a h => by
    refine (Map.get_set (fun _ => false) s.poison (da / 64) (a / 64) false).trans ?_
    split
    · rfl
    · exact h

theorem fullWrite (s : State) (da : Nat) (bs : List Byte) : Stored s (fullWrite s da bs) := by
  have cleared : ∀ (l : List Nat) (u : State), Stored u (l.foldl (fun s i => Machine.setPoison s (da + 64 * i) false) u) := fun l => by
    induction l with
    | nil => exact refl
    | cons i l ih => exact fun u => (setPoison u _).trans (ih _)
  have put : Stored s (putT1 s da bs) := ⟨rfl, rfl, fun _ h => h⟩
  exact put.trans (cleared _ _)

theorem dataWrite (s : State) (da : Nat) (bs : List Byte) : Stored s (dataWrite s da bs) := by
  obtain ⟨t0, steps, clean⟩ := fullWrite s da bs
  have poison := (memory_dataWrite s da bs).2
  refine ⟨?_, ?_, fun a h => ?_⟩
  · rw [← t0, Machine.dataWrite]
    split <;> rfl
  · rw [← steps, Machine.dataWrite]
    split <;> rfl
  · rw [sectorPoisoned, poison]
    exact clean a h

/-- A sector that is clean takes all of its bytes or some of them. -/
theorem sectorStore {s : State} {da : Nat} (bs : List Byte) (h : sectorPoisoned s da = false) : Stored s (sectorStore s da bs) := by
  unfold Machine.sectorStore
  split
  · exact dataWrite s da bs
  · rw [partialWrite_merges h (by decide)]
    exact dataWrite s _ _

end Stored

/-! ### The sectors of an extent (R133) -/

/-- A stripe holds whole sectors, so all bytes of a sector of the tensor lie in one sector of T1. -/
theorem extentDa_sector {m : Word} (hb : mapBase m % 64 = 0) (hs : 6 ≤ mapStripe m) (o : Nat) :
    extentDa m o / 64 = extentDa m (o / 64 * 64) / 64 := by
  obtain ⟨q, hq⟩ : ∃ q, 2 ^ mapStripe m = 64 * q := Nat.pow_dvd_pow 2 hs
  have stripe : o / 64 * 64 / (64 * q) = o / (64 * q) := by
    rw [← Nat.div_div_eq_div_mul, Nat.mul_div_cancel _ (by decide), Nat.div_div_eq_div_mul]
  have within : ∀ x, x % (64 * q) = x % 64 + 64 * (x / 64 % q) := fun x => Nat.mod_mul
  unfold extentDa mkDa
  dsimp only
  rw [hq, stripe, within o, within (o / 64 * 64), Nat.mul_div_cancel _ (by decide : 0 < 64), Nat.mul_left_comm _ 64 q]
  omega

/-- The pieces of a row of bytes begin inside it. -/
theorem sectorPieces_start {fuel at_ done : Nat} {bs : List Byte} {x : Nat × List Byte} (hx : x ∈ sectorPieces fuel at_ done bs) :
    done ≤ x.1 ∧ x.1 < done + bs.length := by
  induction fuel generalizing done bs with
  | zero => cases hx
  | succ fuel ih =>
    unfold sectorPieces at hx
    split at hx
    · cases hx
    next nonempty =>
      have pos : 0 < bs.length := List.length_pos_iff.mpr nonempty
      obtain rfl | later := List.mem_cons.mp hx
      · exact ⟨Nat.le_refl _, by omega⟩
      · have bounds := ih later
        rw [List.length_drop] at bounds
        omega

/-- Where no sector of an extent is poisoned, each byte of it lies in a clean one. -/
theorem clean_of_poisonedIn {s : State} {m : Word} {off n i : Nat} (hb : mapBase m % 64 = 0) (hs : 6 ≤ mapStripe m)
    (h : poisonedIn s m off n = none) (hi : i < n) : sectorPoisoned s (extentDa m (off + i)) = false := by
  have sector := List.find?_eq_none.mp h (extentDa m (off / 64 * 64 + 64 * ((off + i) / 64 - off / 64)))
    (List.mem_map.mpr ⟨(off + i) / 64 - off / 64, List.mem_range.mpr (by omega), rfl⟩)
  rw [show off / 64 * 64 + 64 * ((off + i) / 64 - off / 64) = (off + i) / 64 * 64 by omega] at sector
  rw [sectorPoisoned_congr (extentDa_sector hb hs (off + i))]
  exact Bool.eq_false_iff.mpr sector

/-- A write to an extent whose sectors are clean is stored. -/
theorem stored_storeExtent {s : State} {m : Word} {off : Nat} {bs : List Byte} (hb : mapBase m % 64 = 0) (hs : 6 ≤ mapStripe m)
    (h : poisonedIn s m off bs.length = none) : Stored s (storeExtent s m off bs) := by
  have pieces : ∀ (l : List (Nat × List Byte)) (u : State), (∀ x ∈ l, sectorPoisoned u (extentDa m (off + x.1)) = false) →
      Stored u (l.foldl (fun s x => sectorStore s (extentDa m (off + x.1)) x.2) u) := fun l => by
    induction l with
    | nil => exact fun u _ => Stored.refl u
    | cons x l ih =>
      intro u clean
      have first := Stored.sectorStore x.2 (clean x List.mem_cons_self)
      exact first.trans (ih _ fun y hy => first.clean _ (clean y (List.mem_cons_of_mem x hy)))
  refine pieces _ s fun x hx => clean_of_poisonedIn hb hs h ?_
  have := sectorPieces_start hx
  omega

theorem poisonedIn_congr {s t : State} (h : t.poison = s.poison) (m : Word) (off n : Nat) : poisonedIn t m off n = poisonedIn s m off n := by
  have same : sectorPoisoned t = sectorPoisoned s := funext fun a => by rw [sectorPoisoned, h, sectorPoisoned]
  rw [poisonedIn, same, poisonedIn]

/-- A sort writes to a tensor that it may access and whose sectors are clean, and goes on. -/
theorem tensorWrite_stores {s : State} {r : RunSort} {addr : Nat} {bs : List Byte} {m : Word} {off : Nat} (k : State → State)
    (ha : tensorAccess s (some r.pick.part) addr bs.length = .ok (m, off)) (hb : mapBase m % 64 = 0) (hs : 6 ≤ mapStripe m)
    (hp : poisonedIn s m off bs.length = none) (running : s.steps.running = true) :
    tensorWrite s r addr bs k = k (storeExtent s m off bs) ∧ (storeExtent s m off bs).t0 = s.t0 := by
  have stored := stored_storeExtent hb hs hp
  refine ⟨?_, stored.t0⟩
  unfold tensorWrite
  rw [ha]
  dsimp only
  rw [stored.steps, if_pos running]

/-! ### FOLD (R263) -/

theorem poison_t0Write (s : State) (l off : Nat) (bs : List Byte) : (t0Write s l off bs).poison = s.poison := by
  unfold t0Write writeT0
  split
  · rfl
  · rfl

/-- The beginning of a FOLD is traced, and the FOLD counted. -/
def foldNoted (s : State) (r : RunSort) (unit p : Nat) : State := count (traceSort s r 1 unit) (Reg.coreOrderedFolds r.die p) 1

theorem aside_foldNoted (s : State) (r : RunSort) (unit p : Nat) : Aside s (foldNoted s r unit p) :=
  (aside_traceSort ..).trans (aside_count ..)

theorem steps_foldNoted (s : State) (r : RunSort) (unit p : Nat) : (foldNoted s r unit p).steps = s.steps := by
  have counted : (foldNoted s r unit p).steps = (traceSort s r 1 unit).steps := (keep_count ..).same .steps rfl
  rw [counted, steps_traceSort]

section Fold

variable {core : Fin 256} {r : RunSort} {p : Nat} {m : Word} {off : Nat} {s : State} (due : dueSort s core.val 3 0 0x43 = some r)
  (hc : coreOf s r.die (r.seg % 32) = some p)
include due hc

/-- Bit 63 of the destination tells a tensor from T0. -/
theorem exec_foldSort_tensor (ht : 2 ^ 63 ≤ leAt r.bytes 0x1C 8) : exec (.foldSort core) s =
    .next (tensorWrite (foldNoted s r (core.val % 32) p) r (srtTs r.bytes 0x1C) (convElems (leAt r.bytes 0x15 1) (foldElems s r))
      fun t => finishSort t r) := by
  change execFoldSort core s = _
  rw [execFoldSort, (due_of_dueSort due).runs, phys_traceSort, RunSort.phys, hc]
  dsimp only
  rw [if_pos ht, foldElems_traceSort]
  rfl

theorem exec_foldSort_t0 (ht : leAt r.bytes 0x1C 8 < 2 ^ 63) : ∃ off bs, exec (.foldSort core) s =
    .next (finishSort (t0Write (foldNoted s r (core.val % 32) p) (leAt r.bytes 0x1C 1) off bs) r) := by
  change ∃ off bs, execFoldSort core s = _
  rw [execFoldSort, (due_of_dueSort due).runs, phys_traceSort, RunSort.phys, hc]
  dsimp only
  rw [if_neg (Nat.not_le.mpr ht)]
  exact ⟨_, _, rfl⟩

theorem fold_to_tensor (ht : 2 ^ 63 ≤ leAt r.bytes 0x1C 8)
    (ha : (tensorAccess s (some r.pick.part) (srtTs r.bytes 0x1C) (convElems (leAt r.bytes 0x15 1) (foldElems s r)).length).toOption =
      some (m, off)) (hb : mapBase m % 64 = 0) (hs : 6 ≤ mapStripe m)
    (hp : poisonedIn s m off (convElems (leAt r.bytes 0x15 1) (foldElems s r)).length = none) :
    Answers (.foldSort core) s fun t => pcAfter t r 0 = r.index + 1 ∧ t.t0 = s.t0 := by
  have noted := aside_foldNoted s r (core.val % 32) p
  generalize hout : convElems (leAt r.bytes 0x15 1) (foldElems s r) = out at ha hp
  have access : tensorAccess s (some r.pick.part) (srtTs r.bytes 0x1C) out.length = .ok (m, off) := by
    generalize tensorAccess s (some r.pick.part) (srtTs r.bytes 0x1C) out.length = answer at ha
    cases answer with
    | error e => cases ha
    | ok x => exact congrArg Except.ok (Option.some.inj ha)
  obtain ⟨run, t0⟩ := tensorWrite_stores (fun t => finishSort t r) ((tensorAccess_congr noted.tensors _ _ _).trans access) hb hs
    ((poisonedIn_congr noted.poison m off _).trans hp) (by rw [steps_foldNoted, (due_of_dueSort due).running])
  have runs := exec_foldSort_tensor due hc ht
  rw [hout, run] at runs
  refine ⟨_, runs, pcAfter_finishSort .., ?_⟩
  rw [t0_finishSort, t0, noted.t0]

theorem fold_to_t0 (ht : leAt r.bytes 0x1C 8 < 2 ^ 63) :
    Answers (.foldSort core) s fun t => pcAfter t r 0 = r.index + 1 ∧ t.t1 = s.t1 ∧ t.poison = s.poison := by
  obtain ⟨off, bs, run⟩ := exec_foldSort_t0 due hc ht
  have noted := aside_foldNoted s r (core.val % 32) p
  refine ⟨_, run, pcAfter_finishSort .., ?_, ?_⟩
  · rw [t1_finishSort, t1_t0Write, noted.t1]
  · rw [poison_finishSort, poison_t0Write, noted.poison]

end Fold

/-- Settles O22, sort by sort: each run of a due sort ends with the engine past it, and what it leaves in T0, T1 and the accumulators is
read off the state that it ends in. -/
theorem computeSortsComplete : Obligations.ComputeSortsComplete := by
  unfold Obligations.ComputeSortsComplete
  exact ⟨fun _ _ _ _ => matmul_fills, fun _ _ _ _ => drain_writes, fun _ _ _ _ => drain_contributes,
    fun _ _ _ _ => drain_contributes_t1, fun _ _ _ => atomicAdd_adds, fun _ _ _ => vop_writes, fun _ _ _ _ _ => merge_writes,
    fun _ _ _ _ => merge_goes_on, fun _ _ _ _ => sample_writes, fun _ _ _ _ => sample_keeps_t1, fun _ _ _ _ _ _ => fold_to_tensor,
    fun _ _ _ _ => fold_to_t0, fun _ _ _ _ => attend_goes_on⟩

end Sys2Proof.Machine
end

section
/-!
PROOFS. The messages that arrive (R283, R293, R314, R392, R393, R402, R408), clause by clause of O31: data for T0 and T1, signals, chunks,
the loss of a step's data, requests of the fleet manager, acknowledgements.
-/
namespace Sys2Proof.Machine

/-! ### Applying a message (R393) -/

/-- A command that applies messages of a kind applies the next one, which has left the inbox, and then acknowledges it. -/
theorem answers_of_nextMsg {c : Instr} {p : Arrival → Bool} {act : State → Arrival → State} {a : Arrival} {s : State}
    {P : State → Prop} (run : exec c s = .next (onMsg s p act)) (ha : nextMsg s p = some a)
    (h : ∀ inbox applied, P (acknowledge (act (withMail s inbox applied) a) a.msg)) : Answers c s P := by
  obtain ⟨s1, ht⟩ := takeMsg_of_nextMsg ha
  obtain ⟨inbox, applied, rfl⟩ := takeMsg_first ht
  exact ⟨_, run.trans (congrArg Host.Outcome.next (onMsg_first ht act)), h inbox applied⟩

@[simp] theorem acknowledge_t1 (s : State) (m : Msg) : (acknowledge s m).t1 = s.t1 := ((keep_acknowledge s m).same .memory rfl).1

@[simp] theorem acknowledge_poison (s : State) (m : Msg) : (acknowledge s m).poison = s.poison :=
  ((keep_acknowledge s m).same .memory rfl).2.1

@[simp] theorem acknowledge_t0 (s : State) (m : Msg) : (acknowledge s m).t0 = s.t0 := ((keep_acknowledge s m).same .memory rfl).2.2.1

@[simp] theorem acknowledge_home (s : State) (m : Msg) : (acknowledge s m).home = s.home := ((keep_acknowledge s m).same .twins rfl).2.2

/-! ### What awaits an ACK while an ACK is sent -/

theorem sent_of_keep {m : Part → Bool} {s t : State} (h : Keep m s t) (hl : m .links = false) : t.sent = s.sent :=
  (h.same .links hl).2.2.1

theorem sent_count (s : State) (off n : Nat) : (count s off n).sent = s.sent := sent_of_keep (keep_count s off n) rfl

theorem sent_sliceDrop (s : State) (p slice cls dst reason : Nat) : (sliceDrop s p slice cls dst reason).sent = s.sent :=
  sent_of_keep (m := eventParts) (sliceDrop_keep rfl rfl rfl rfl rfl (Keep.refl s)) rfl

theorem sent_sendOne (p : Nat) (x : State × List (List Byte)) (f : List Byte) : (sendOne p x f).1.sent = x.1.sent := by
  obtain ⟨s, waiting⟩ := x
  unfold sendOne
  dsimp only
  split
  · rfl
  · exact sent_count _ _ _

theorem sent_pump (s : State) (p : Nat) : (pump s p).sent = s.sent :=
  List.foldlRecOn (motive := fun x : State × List (List Byte) => x.1.sent = s.sent) (s.link p).waiting (sendOne p)
    (b := (s.setLink p { s.link p with waiting := [] }, [])) rfl fun x hx f _ => (sent_sendOne p x f).trans hx

theorem sent_queueFlit (s : State) (p : Nat) (f : List Byte) : (queueFlit s p f).sent = s.sent := sent_pump _ p

theorem sent_forwardFlit (s : State) (f : List Byte) : (forwardFlit s none f).sent = s.sent := by
  unfold forwardFlit
  split
  · exact sent_queueFlit ..
  · unfold routeFlit
    extract_lets
    split
    · rfl
    · exact sent_sliceDrop ..
    · exact sent_count ..
    · rw [sent_queueFlit]
      split
      · exact sent_count ..
      · rfl

/-- A message on its way leaves alone what awaits an ACK. -/
theorem sent_launch (s : State) (m : Msg) : (launch s m).sent = s.sent := by
  unfold launch
  split
  · rfl
  · exact List.foldlRecOn (motive := fun t : State => t.sent = s.sent) _ _ rfl fun t ht f _ => (sent_forwardFlit t f).trans ht

/-- An ACK asks for no ACK. -/
theorem sent_acknowledge (s : State) (m : Msg) : (acknowledge s m).sent = s.sent := by
  unfold acknowledge
  split
  · exact sent_launch ..
  · rfl

/-! ### Step data and signals (R283, R293, R314) -/

/-- A word without the bit of a signal signals nothing. -/
theorem applySignal_none {sig : Nat} (s : State) (slice : Nat) (h : sig.testBit 22 = false) : applySignal s slice sig = s :=
  if_neg (by rw [h]; exact Bool.false_ne_true)

theorem applySignal_signals {sig : Nat} (s : State) (slice : Nat) (h : sig.testBit 22 = true) : applySignal s slice sig =
    signalToken s (sig / 2 ^ 12 % 8) (tokenBase s ((sliceOwner s slice).getD 64) + sig % 2 ^ 12) := if_pos h

theorem tokenOf_signalToken_same (s : State) (d t : Nat) : tokenOf (signalToken s d t) d t = (tokenOf s d t + 1) % 2 ^ 16 :=
  Map.get_set_same ..

/-- What a write of T0 leaves there is no matter of the messages. -/
theorem t0_t0Write_withMail (s : State) (inbox : List Arrival) (applied : Map (List Nat)) (l off : Nat) (bs : List Byte) :
    (t0Write (withMail s inbox applied) l off bs).t0 = (t0Write s l off bs).t0 := by
  have core : coreOf (withMail s inbox applied) (l / 32) (l % 32) = coreOf s (l / 32) (l % 32) := rfl
  unfold t0Write writeT0
  rw [core]
  split
  · rfl
  · rfl

theorem steps_t0Write (s : State) (l off : Nat) (bs : List Byte) : (t0Write s l off bs).steps = s.steps :=
  (t0Write_keep (m := fun p => decide (p = .memory)) rfl (Keep.refl s)).same .steps rfl

/-- Data without a signal goes to T0 at its core and offset, cut at 8 MiB (log 139), and nowhere else. -/
theorem applyT0_stores {a : Arrival} (s : State) (inbox : List Arrival) (applied : Map (List Nat))
    (h : (fld a.msg.target 32 32).testBit 22 = false) : (acknowledge (applyT0 (withMail s inbox applied) a) a.msg).t0 =
        (t0Write s (fld a.msg.target 0 8) (fld a.msg.target 8 23) (a.msg.content.take (2 ^ 23 - fld a.msg.target 8 23))).t0 ∧
      (acknowledge (applyT0 (withMail s inbox applied) a) a.msg).steps = s.steps ∧
      (acknowledge (applyT0 (withMail s inbox applied) a) a.msg).t1 = s.t1 := by
  have silent := applySignal_none (t0Write (withMail s inbox applied) (fld a.msg.target 0 8) (fld a.msg.target 8 23)
    (a.msg.content.take (2 ^ 23 - fld a.msg.target 8 23))) a.msg.slice h
  rw [acknowledge_t0, acknowledge_steps, acknowledge_t1, applyT0, silent]
  exact ⟨t0_t0Write_withMail .., steps_t0Write .., t1_t0Write ..⟩

/-- O31, third clause: a signal adds 1 to its token. -/
theorem signalMsg_counts {g : Nat} {a : Arrival} {s : State} (ha : nextMsg s (isOp 0 0x02) = some a)
    (hg : g = fld a.msg.target 32 32) (h : g.testBit 22 = true) : Answers .signalMsg s fun t =>
      tokenOf t (g / 2 ^ 12 % 8) (tokenBase s ((sliceOwner s a.msg.slice).getD 64) + g % 2 ^ 12) =
        (tokenOf s (g / 2 ^ 12 % 8) (tokenBase s ((sliceOwner s a.msg.slice).getD 64) + g % 2 ^ 12) + 1) % 2 ^ 16 ∧
      t.t0 = s.t0 ∧ t.t1 = s.t1 := by
  subst hg
  refine answers_of_nextMsg rfl ha fun inbox applied => ?_
  rw [applySignal_signals _ _ h, acknowledge_t0, acknowledge_t1, tokenOf, acknowledge_steps]
  exact ⟨tokenOf_signalToken_same .., rfl, rfl⟩

/-! ### Appended sectors (R283) -/

/-- One sector goes to T1 where the channel serves it. -/
theorem storeSectors_one {s : State} {da : Nat} {bs : List Byte} (hl : bs.length = 64) (hh : daHole da = false)
    (hs : daServed s da = true) : storeSectors s da bs = dataWrite s da bs := by
  unfold storeSectors
  rw [hl, show List.range (64 / 64) = [0] from rfl]
  simp only [List.foldl_cons, List.foldl_nil, Nat.mul_zero, Nat.add_zero, hh, hs, Bool.not_true, Bool.false_eq_true,
    if_false, List.drop_zero]
  rw [← hl, List.take_length]

/-- O31, fourth clause: an appended sector is stored in T1. -/
theorem appendMsg_stores {da : Nat} {a : Arrival} {s : State} (ha : nextMsg s (isOp 0 0x04) = some a)
    (hd : da = fld a.msg.target 0 38 / 64 * 64) (hl : a.msg.content.length = 64) (hh : daHole da = false)
    (hs : daServed s da = true) : Answers .appendMsg s fun t => readT1 t da 64 = a.msg.content ∧ sectorPoisoned t da = false ∧
      ∀ x, x < da ∨ da + 64 ≤ x → getT1 t x = getT1 s x := by
  subst hd
  refine answers_of_nextMsg rfl ha fun inbox applied => ?_
  have one : storeSectors (withMail s inbox applied) _ a.msg.content = _ := storeSectors_one hl hh hs
  rw [one, sectorPoisoned, acknowledge_poison]
  have stored := (stores_dataWrite (withMail s inbox applied) (fld a.msg.target 0 38 / 64 * 64) hl).congr
    (show _ = s.t1 from rfl) (acknowledge_t1 _ a.msg).symm
  exact ⟨hl ▸ stored.read, sectorPoisoned_dataWrite _ hl rfl, fun x hx => stored.outside (by rwa [hl])⟩

/-! ### Chunks and requests of the fleet manager (R392, R408) -/

/-- O31, fifth clause: a chunk that fits goes to the extent of its tensor (log 137). -/
theorem exec_chunkMsg_extent {a : Arrival} {s s1 : State} (ht : takeMsg s (isOp 5 0x50) = some (a, true, s1))
    (hr : (s1.tensor (fld a.msg.target 0 17)).tier = 1)
    (ho : some (s1.tensor (fld a.msg.target 0 17)).owner = sliceOwner s1 a.msg.slice)
    (hg : (s1.tensor (fld a.msg.target 0 17)).grouped = false)
    (hf : 4096 * fld a.msg.target 17 31 + (a.msg.content.take 4096).length ≤ (s1.tensor (fld a.msg.target 0 17)).size) :
    exec .chunkMsg s = .next (acknowledge (storeExtent s1 (s1.tensor (fld a.msg.target 0 17)).t1map (4096 * fld a.msg.target 17 31)
      (a.msg.content.take 4096)) a.msg) := by
  refine congrArg Host.Outcome.next ((onMsg_first ht _).trans (congrArg (acknowledge · a.msg) ?_))
  dsimp only
  rw [if_neg (by simp [hr, ho]), hg, if_neg Bool.false_ne_true, if_pos hf]

/-- A request of the fleet manager is applied where its signature verifies, and acknowledged in any case. -/
theorem exec_stileMsg {sigOk : Bool} {x : RegWrite} {a : Arrival} {s s1 : State}
    (ht : takeMsg s (fun a => decide (a.msg.cls = 3 ∧ a.msg.op = 0x30)) = some (a, true, s1)) (hx : x.who = .stile) :
    exec (.stileMsg sigOk (some x)) s = .next (acknowledge (if sigOk = true then runWrite s1 x else s1) a.msg) :=
  (guarded_next (decide_eq_true hx) _).trans (congrArg Host.Outcome.next (onMsg_first ht _))

/-! ### The loss of step data (R402, R463) -/

/-- From `s` to `t` the step has changed in its T_n alone. -/
def StepButTn (s t : State) : Prop := ∃ tn, t.steps = { s.steps with tn := tn }

theorem StepButTn.of_steps {s t : State} (h : t.steps = s.steps) : StepButTn s t := ⟨s.steps.tn, h⟩

theorem StepButTn.trans {a b c : State} (h : StepButTn a b) (g : StepButTn b c) : StepButTn a c := by
  obtain ⟨_, hb⟩ := h
  obtain ⟨tn, hc⟩ := g
  exact ⟨tn, by rw [hc, hb]⟩

theorem steps_sendAnnounce (s : State) (k : Nat) (await : Bool) : (sendAnnounce s k await).steps = s.steps :=
  (sendAnnounce_keep (m := reportParts) rfl rfl rfl rfl rfl rfl rfl rfl (Keep.refl s)).same .steps rfl

/-- The last report has the lead set T_n for the step's replay, or give it up. -/
theorem stepButTn_lastReport (s : State) (k : Nat) : StepButTn s (lastReport s k) := by
  unfold lastReport
  split
  · exact .of_steps rfl
  · split
    · unfold announceStep
      extract_lets t
      split
      · exact .of_steps rfl
      · exact ⟨some t, steps_sendAnnounce ..⟩
    · exact .of_steps (steps_sendAnnounce ..)

theorem stepButTn_groupAbandoned (s : State) (k : Nat) : StepButTn s (groupAbandoned s k) := by
  unfold groupAbandoned
  split
  · exact .of_steps rfl
  · split
    · exact stepButTn_lastReport (s.setGroup k { s.group k with abandoned := true }) k
    · split
      · exact .of_steps rfl
      · exact .of_steps ((sendReport_keep (m := reportParts) rfl rfl rfl rfl rfl rfl rfl rfl (Keep.refl s)).same .steps rfl)

theorem steps_clearEngines (s : State) : (clearEngines s).steps = { s.steps with tokens := [], pcs := [], atomics := [] } := rfl

/-- A dropped step is counted and reported, and its groups are told: it runs, and is to be replayed, as before. -/
theorem stepDropped_steps (s : State) (ps : List PartPick) (d0 d1 : Nat) :
    (ps.foldl (fun s p => groupAbandoned s p.impo)
        (devEvent (drawFree (count (clearEngines s) Reg.galAbandoned 1)).2 0x030 d0 d1)).steps.running = s.steps.running ∧
      (ps.foldl (fun s p => groupAbandoned s p.impo)
        (devEvent (drawFree (count (clearEngines s) Reg.galAbandoned 1)).2 0x030 d0 d1)).steps.replay = s.steps.replay := by
  generalize ht : devEvent (drawFree (count (clearEngines s) Reg.galAbandoned 1)).2 0x030 d0 d1 = t
  have counted : (count (clearEngines s) Reg.galAbandoned 1).steps = (clearEngines s).steps := (keep_count ..).same .steps rfl
  have reported : t.steps = { s.steps with tokens := [], pcs := [], atomics := [] } := by
    rw [← ht, ← steps_clearEngines, ← counted]
    exact (devEvent_keep (m := eventParts) rfl rfl rfl rfl (Keep.refl _)).same .steps rfl
  obtain ⟨tn, told⟩ := List.foldlRecOn (motive := StepButTn t) ps (fun s p => groupAbandoned s p.impo) (.of_steps rfl)
    fun u hu p _ => hu.trans (stepButTn_groupAbandoned u p.impo)
  rw [told, reported]
  exact ⟨rfl, rfl⟩

theorem steps_unpickAll (s : State) (ps : List PartPick) : (unpickAll s ps).steps = s.steps :=
  (unpickAll_keep (m := fun p => decide (p = .galley)) rfl (Keep.refl s)).same .steps rfl

/-- What marking a bucket SUSPECT may change. -/
def suspectParts (p : Part) : Bool := eventParts p || decide (p = .impos)

theorem steps_markSuspects (s : State) (ps : List PartPick) : (ps.foldl (fun s p => markSuspect s p.impo p.bucket) s).steps = s.steps :=
  (keep_foldl (m := suspectParts) (fun _ _ h => markSuspect_keep rfl rfl rfl rfl rfl rfl h) (Keep.refl s)).same .steps rfl

/-- An abandoned step runs no more; up to its eighth failure it is to be replayed (R463). -/
theorem abandonWith_normal {s : State} (hr : s.steps.running = true) : (abandonWith s .normal).steps.running = false ∧
    (s.steps.failures < 8 → (abandonWith s .normal).steps.replay = .normal ∧
      (abandonWith s .normal).steps.failures = s.steps.failures + 1) := by
  unfold abandonWith
  rw [if_neg (by rw [hr]; decide)]
  dsimp only
  split
  · obtain ⟨stopped, replayed⟩ := stepDropped_steps _ s.steps.current _ _
    exact ⟨stopped, fun _ => ⟨replayed, rfl⟩⟩
  · next once =>
    obtain ⟨stopped, -⟩ := stepDropped_steps _ s.steps.current _ _
    refine ⟨?_, fun few => absurd ⟨by decide, few⟩ once⟩
    rw [if_pos (by decide), steps_markSuspects, steps_unpickAll]
    exact stopped

/-- O31, sixth clause: the loss of the running step's data abandons the step, which TARGET names (log 138). -/
theorem class0Lost_abandons {a : Arrival} {s : State} (ha : nextMsg s (isOp 1 0x13) = some a) (hr : s.steps.running = true)
    (ht : a.msg.target = s.steps.num) : Answers .class0Lost s fun t => t.steps.running = false ∧
      (s.steps.failures < 8 → t.steps.replay = .normal ∧ t.steps.failures = s.steps.failures + 1) := by
  refine answers_of_nextMsg rfl ha fun inbox applied => ?_
  rw [if_pos ⟨hr, ht⟩, acknowledge_steps]
  exact abandonWith_normal (s := withMail s inbox applied) hr

/-! ### Acknowledgements (R393) -/

/-- O31, ninth clause: an ACK of any class but 4 ends the resends of its message, and does no more. -/
theorem ackMsg_ends_resends {cls : Fin 6} {x : Sent} {a : Arrival} {s : State}
    (ha : nextMsg s (isOp cls.val (ackOp cls.val)) = some a)
    (hx : s.sent.find? (fun x => x.msg.cls = cls.val ∧ x.msg.id = fld a.msg.target 0 32) = some x) (hc : cls.val ≠ 4) :
    Answers (.ackMsg cls) s fun t => t.sent = s.sent.erase x := by
  refine answers_of_nextMsg rfl ha fun inbox applied => (sent_acknowledge ..).trans ?_
  have found : (withMail s inbox applied).sent.find? (fun x => x.msg.cls = cls.val ∧ x.msg.id = fld a.msg.target 0 32) = some x := hx
  rw [found]
  dsimp only
  rw [if_neg fun h => hc h.1]
  rfl

/-- Syncs that are sent leave the STEPs that await their ACK. -/
theorem homeSteps_pumpSync (s : State) : (pumpSync s).home.steps = s.home.steps := by
  unfold pumpSync
  split
  · rfl
  · extract_lets go
    have kept : Keep sendParts { s with home := { s.home with syncing := s.home.syncing.filter fun i => i ∉ go } }
        (go.foldl sendSync { s with home := { s.home with syncing := s.home.syncing.filter fun i => i ∉ go } }) :=
      keep_foldl (fun _ _ h => sendSync_keep rfl rfl rfl rfl rfl rfl h) (Keep.refl _)
    obtain ⟨-, -, home⟩ := kept.same .twins rfl
    rw [home]

/-- The ACK of a MIRROR message of kind 4 takes its STEP off those awaited (R25, R478). -/
theorem mirrorAcked_step {s : State} {m : Msg} (h : fld m.target 0 4 = 4) : mirrorAcked s m =
    { s with home := { s.home with steps := s.home.steps.filter fun x => x.1 ≠ m.id } } := by
  unfold mirrorAcked
  rw [h]
  rfl

/-- O31, tenth clause: the ACK of a STEP of the mirror takes it off those awaited. -/
theorem ackMsg_step {x : Sent} {a : Arrival} {s : State} (ha : nextMsg s (isOp 4 (ackOp 4)) = some a)
    (hx : s.sent.find? (fun x => x.msg.cls = 4 ∧ x.msg.id = fld a.msg.target 0 32) = some x) (ho : x.msg.op = 0x40)
    (hk : fld x.msg.target 0 4 = 4) : Answers (.ackMsg 4) s fun t => ∀ y ∈ t.home.steps, y.1 ≠ x.msg.id := by
  refine answers_of_nextMsg (p := isOp 4 (ackOp 4)) rfl ha fun inbox applied y hy => ?_
  have found : (withMail s inbox applied).sent.find? (fun x => x.msg.cls = (4 : Fin 6).val ∧ x.msg.id = fld a.msg.target 0 32) =
      some x := hx
  rw [acknowledge_home, found] at hy
  dsimp only at hy
  rw [if_pos ⟨rfl, ho⟩, homeSteps_pumpSync, mirrorAcked_step hk] at hy
  exact of_decide_eq_true (List.mem_filter.mp hy).2

/-- Settles O31, clause by clause: the next message of a kind is applied to a state that differs from the one it finds in its messages
alone, and the ACK that follows changes none of what the clause speaks of. -/
theorem messagesComplete : Obligations.MessagesComplete := by
  unfold Obligations.MessagesComplete
  refine ⟨fun _ _ ha h => answers_of_nextMsg rfl ha fun _ _ => applyT0_stores _ _ _ h,
    fun _ _ ha h => answers_of_nextMsg rfl ha fun _ _ => applyT0_stores _ _ _ h,
    fun _ _ _ => signalMsg_counts, fun _ _ _ => appendMsg_stores, ?chunk, fun _ _ => class0Lost_abandons,
    fun _ _ _ _ => exec_stileMsg, fun _ _ _ _ => exec_stileMsg, fun _ _ _ _ => ackMsg_ends_resends, fun _ _ _ => ackMsg_step⟩
  case chunk =>
    rintro _ _ a s1 s ht rfl rfl
    exact exec_chunkMsg_extent ht

end Sys2Proof.Machine
end

section
/-!
PROOFS. The operations of GAL_FORME_CTRL (R324 to R328, R335, R336): where a write of it lands, how an operation begins and completes,
what each one does to its slot, and what it leaves.
-/
namespace Sys2Proof.Machine

/-! ### The last page of the GAL_ block -/

/-- A resolved register lies on the page found at its base, under its page offset. -/
theorem locate_of_resolvePage {base o off key : Nat} {p : PageRef} {row : Option (RegRow × Nat)}
    (h : resolvePage base o = some (.reg p off key row)) : locate base = some p ∧ o = off := by
  unfold resolvePage at h
  split at h
  · cases h
  · next hp =>
    dsimp only at h
    split at h
    · cases h
      exact ⟨hp, rfl⟩
    · split at h
      · cases h
        exact ⟨hp, rfl⟩
      · cases h

/-- Only offsets on that page are located on a page of its kind. -/
theorem locate_gal3 {a : Nat} {p : PageRef} (h : locate a = some p) (hk : p.kind = .gal3) : a / 0x1000 = 0x43 := by
  have kind : (locate a).map PageRef.kind = some .gal3 := by rw [h, Option.map_some, hk]
  simp only [locate, apply_ite (Option.map PageRef.kind), Option.map_some, Option.map_none, ite_eq_cases, Option.some.injEq,
    reduceCtorEq, and_false, and_true, or_false, false_or] at kind
  omega

/-- No virtual function reaches it. -/
theorem resolveVf_ne_gal3 {n a off key : Nat} {p : PageRef} {row : Option (RegRow × Nat)}
    (h : resolveVf n a = some (.reg p off key row)) : p.kind ≠ .gal3 := by
  intro hk
  unfold resolveVf at h
  split at h
  · have base := locate_gal3 (locate_of_resolvePage h).1 hk
    unfold qBase at base
    omega
  · split at h
    · cases h
    · split at h
      · have base := locate_gal3 (locate_of_resolvePage h).1 hk
        unfold Reg.partBlk at base
        omega
      · cases h

/-- An access through the physical function that names a register of it resolves on it. -/
theorem resolvePf_gal3 {a off key : Nat} {p : PageRef} {row : Option (RegRow × Nat)}
    (h : resolvePf a = some (.reg p off key row)) (hk : p.kind = .gal3) : resolvePage 0x43000 off = some (.reg p off key row) := by
  unfold resolvePf at h
  split at h
  · cases h
  · split at h
    · cases h
    · split at h
      · obtain ⟨hp, ho⟩ := locate_of_resolvePage h
        have base : a / 0x1000 * 0x1000 = 0x43000 := by have := locate_gal3 hp hk; omega
        rwa [base, ho] at h
      · cases h

/-- So does every access that names one. -/
theorem resolve_gal3 {who : Requester} {a off key : Nat} {p : PageRef} {row : Option (RegRow × Nat)}
    (h : resolve who a = some (.reg p off key row)) (hk : p.kind = .gal3) : resolvePage 0x43000 off = some (.reg p off key row) := by
  unfold resolve at h
  dsimp only at h
  split at h
  · split at h
    · cases h
    · exact absurd hk (resolveVf_ne_gal3 h)
  · split at h
    · cases h
    · exact resolvePf_gal3 h hk

/-- Off CORE_ pages a write that names a register acts on a page of that kind, at that offset. -/
theorem site_of_isReg {s : State} {w : RegWrite} {k : PageKind} {p : PageRef} {off key o : Nat} {row : Option (RegRow × Nat)}
    (hk : k ≠ .core) (hw : isReg w k o = true) (hq : servedAt s w = some (p, off, key, row)) : p.kind = k ∧ off = o := by
  have hr := resolve_of_servedAt hq
  obtain ⟨base, o', hp⟩ := resolve_reg hr
  unfold isReg writeNames at hw
  rw [hr] at hw
  obtain rfl | ⟨⟨r, i⟩, rfl, hx⟩ := resolvePage_row hp
  · simpa only [decide_eq_true_eq, Option.some.injEq, Prod.mk.injEq] using hw
  · simp only [decide_eq_true_eq, Option.some.injEq, Prod.mk.injEq] at hw
    obtain ⟨rfl, ho⟩ := hw
    exact ⟨rfl, (pageRow_offset hk hx).trans ho⟩

/-! ### A write of GAL_FORME_CTRL -/

/-- Page 3 of the GAL_ block. -/
def formePage : PageRef := ⟨.gal3, 0x04, 0, 4, 3, 0x40000, 4⟩

/-- GAL_FORME_CTRL: HANDLE is [16:0], SLOT [30:24], OP [34:32], GO bit 40. -/
def formeCtrlRow : RegRow := ⟨0x100, 1, .plain, 0x77f01ffff, 0, 0, 0x10000000000, 0⟩

/-- Where a served write of GAL_FORME_CTRL lands. -/
theorem servedAt_formeCtrl {s : State} {w : RegWrite} {q : Site} (hw : isReg w .gal3 0x100 = true) (hq : servedAt s w = some q) :
    q = (formePage, 0x100, Reg.galFormeCtrl, some (formeCtrlRow, 0)) := by
  obtain ⟨p, off, key, row⟩ := q
  have here : resolvePage 0x43000 0x100 = some (.reg formePage 0x100 Reg.galFormeCtrl (some (formeCtrlRow, 0))) := by decide
  obtain ⟨hk, rfl⟩ := site_of_isReg (by decide) hw hq
  have hp := resolve_gal3 (resolve_of_servedAt hq) hk
  rw [here] at hp
  cases hp
  rfl

/-- The value of GAL_FORME_CTRL after a write. -/
def formeCtrlValue (s : State) (w : RegWrite) : Word :=
  written (masksOf formePage 0x100 (some (formeCtrlRow, 0))) (getReg s Reg.galFormeCtrl) w.val w.hwSet

/-- The register has no W1C bit, so its write stores the value and counts no collision. -/
theorem writePlain_formeCtrl (s : State) (w : RegWrite) :
    writePlain s formePage 0x100 Reg.galFormeCtrl (some (formeCtrlRow, 0)) w.val w.hwSet =
      setReg s Reg.galFormeCtrl (formeCtrlValue s w) := by
  have apart : collides (masksOf formePage 0x100 (some (formeCtrlRow, 0))) (getReg s Reg.galFormeCtrl) w.val w.hwSet = false :=
    decide_eq_false (not_not_intro BitVec.and_zero)
  unfold writePlain
  dsimp only
  rw [apart]
  rfl

/-- A bit of type RW takes the value written. -/
theorem getLsbD_written_rw {m : Masks} {i : Nat} (old v hw : Word) (hrw : m.rw.getLsbD i = true) (hc : m.w1c.getLsbD i = false) :
    (written m old v hw).getLsbD i = v.getLsbD i := by
  have absorbed : ∀ a b : Bool, (a || a && b) = a := by decide
  simp only [written, BitVec.getLsbD_or, BitVec.getLsbD_and, BitVec.getLsbD_not, hrw, hc, Bool.not_true, Bool.and_false, Bool.false_and,
    Bool.and_true, Bool.false_or, Bool.or_false, absorbed]

/-- HANDLE takes the value written. -/
theorem fld_formeCtrlValue (s : State) (w : RegWrite) : fld (formeCtrlValue s w) 0 17 = fld w.val 0 17 := by
  have handle : ∀ i < 17, (word formeCtrlRow.rw).getLsbD i = true := by decide
  apply Nat.eq_of_testBit_eq
  intro i
  rw [testBit_fld, testBit_fld, Nat.zero_add]
  by_cases hi : i < 17
  · have stored : (formeCtrlValue s w).getLsbD i = w.val.getLsbD i :=
      getLsbD_written_rw (m := masksOf formePage 0x100 (some (formeCtrlRow, 0))) _ _ _ (handle i hi) BitVec.getLsbD_zero
    rw [stored]
  · simp only [hi, decide_false, Bool.false_and]

/-! ### An operation begins (R335, R336) -/

/-- The state in which an operation finds its slot: the write is stored, and GAL_FORME_STATUS shows BUSY and the slot. -/
def formeBegun (s : State) (w : RegWrite) : State :=
  putFld (putBit (setReg s Reg.galFormeCtrl (formeCtrlValue s w)) Reg.galFormeStatus 0 true) Reg.galFormeStatus 8 7 (fld w.val 24 7)

theorem impo_formeBegun (s : State) (w : RegWrite) (k : Nat) : (formeBegun s w).impo k = s.impo k := rfl

theorem getBit_formeBegun_busy (s : State) (w : RegWrite) : getBit (formeBegun s w) Reg.galFormeStatus 0 = true := by
  rw [formeBegun, getBit_putFld_disjoint _ _ _ _ _ _ (.inl (by decide)), getBit_putBit_same _ _ _ _ (by decide)]

theorem getFld_formeBegun_handle (s : State) (w : RegWrite) : getFld (formeBegun s w) Reg.galFormeCtrl 0 17 = fld w.val 0 17 := by
  have apart : Reg.galFormeCtrl ≠ Reg.galFormeStatus := by decide
  rw [getFld, formeBegun, getReg_putFld_other _ _ _ _ _ _ apart, getReg_putBit_other _ _ _ _ _ apart, getReg_setReg_same,
    fld_formeCtrlValue]

section Begins

variable {s : State} {w : RegWrite} {q : Site} (hw : isReg w .gal3 0x100 = true) (hq : servedAt s w = some q) (hg : bit w.val 40 = true)
  (hb : getBit s Reg.galFormeStatus 0 = false)

include hw hq hg hb

/-- A served write with GO that finds BUSY clear begins its operation on the slot that it names. -/
theorem formeOp_begins {op : Nat} (ho : fld w.val 32 3 = op) (act : State → Nat → State) :
    formeOp w op s act = .next (act (formeBegun s w) (fld w.val 24 7)) := by
  obtain rfl := servedAt_formeCtrl hw hq
  have wellFormed : (isReg w .gal3 0x100 && decide (fld w.val 32 3 = op)) = true := by rw [hw, ho, decide_eq_true rfl]; rfl
  have idle : getBit (setReg s Reg.galFormeCtrl (formeCtrlValue s w)) Reg.galFormeStatus 0 = false := by
    rw [getBit, getReg_setReg_other _ _ _ _ (by decide)]
    exact hb
  unfold formeOp
  rw [guarded_next wellFormed, serveWrite_served hq, writePlain_formeCtrl]
  dsimp only
  rw [hg, idle]
  rfl

/-! ### What each operation does to its slot -/

/-- LOAD of an EMPTY slot (R324). -/
theorem exec_loadForme_empty (ho : fld w.val 32 3 = 1) (he : (s.impo (fld w.val 24 7)).state = 0) : exec (.loadForme w) s =
    .next (State.setImpo { formeBegun s w with loader := some (fld w.val 24 7, fld w.val 0 17) } (fld w.val 24 7)
      { s.impo (fld w.val 24 7) with state := 1 }) := by
  change execLoadForme w s = _
  rw [execLoadForme, formeOp_begins hw hq hg hb ho]
  dsimp only
  rw [getFld_formeBegun_handle, impo_formeBegun, if_pos he]

/-- ACTIVATE of a slot without a group waits for the boundary (R326). -/
theorem exec_activate_alone (ho : fld w.val 32 3 = 2) (hn : isGroup s (fld w.val 24 7) = false) : exec (.activate w) s =
    .next { formeBegun s w with deferred := s.deferred ++ [.activate (fld w.val 24 7)] } := by
  have alone : isGroup (formeBegun s w) (fld w.val 24 7) = false := hn
  change execActivate w s = _
  rw [execActivate, formeOp_begins hw hq hg hb ho, alone]
  rfl

/-- A member that does not lead its group does not take ACTIVATE (R327). -/
theorem exec_activate_member (ho : fld w.val 32 3 = 2) (hn : isGroup s (fld w.val 24 7) = true)
    (hl : isLead s (fld w.val 24 7) = false) :
    exec (.activate w) s = .next (formeDone (formeBegun s w) (fld w.val 24 7) 0x40C) := by
  have grouped : isGroup (formeBegun s w) (fld w.val 24 7) = true := hn
  have member : isLead (formeBegun s w) (fld w.val 24 7) = false := hl
  change execActivate w s = _
  rw [execActivate, formeOp_begins hw hq hg hb ho]
  dsimp only
  rw [grouped, member, Bool.not_true, if_neg Bool.false_ne_true, Bool.not_false, if_pos rfl]

/-- UNLOAD of a READY slot empties it (R328). -/
theorem exec_unload_ready (ho : fld w.val 32 3 = 3) (hr : (s.impo (fld w.val 24 7)).state = 2) :
    exec (.unload w) s = .next (formeDone (dropSlot (formeBegun s w) (fld w.val 24 7)) (fld w.val 24 7) 0) := by
  change execUnload w s = _
  rw [execUnload, formeOp_begins hw hq hg hb ho, impo_formeBegun, hr, if_neg (by decide), if_pos rfl]

/-- UNLOAD of an EMPTY slot completes at once. -/
theorem exec_unload_empty (ho : fld w.val 32 3 = 3) (he : (s.impo (fld w.val 24 7)).state = 0) :
    exec (.unload w) s = .next (formeDone (formeBegun s w) (fld w.val 24 7) 0) := by
  change execUnload w s = _
  rw [execUnload, formeOp_begins hw hq hg hb ho, impo_formeBegun, he, if_neg (by decide), if_neg (by decide)]

/-- UNLOAD of an ACTIVE slot is refused. -/
theorem exec_unload_active (ho : fld w.val 32 3 = 3) (ha : (s.impo (fld w.val 24 7)).state = 3) :
    exec (.unload w) s = .next (formeDone (formeBegun s w) (fld w.val 24 7) 0x40D) := by
  change execUnload w s = _
  rw [execUnload, formeOp_begins hw hq hg hb ho, impo_formeBegun, if_pos ha]

/-- CLEAR_SUSPECT of an ACTIVE slot (R328). -/
theorem exec_clearSuspect_active (ho : fld w.val 32 3 = 4) (ha : (s.impo (fld w.val 24 7)).state = 3) : exec (.clearSuspect w) s =
    .next (formeDone ((formeBegun s w).setImpo (fld w.val 24 7) { s.impo (fld w.val 24 7) with suspect := 0 }) (fld w.val 24 7) 0) := by
  change execClearSuspect w s = _
  rw [execClearSuspect, formeOp_begins hw hq hg hb ho]
  dsimp only
  rw [impo_formeBegun, if_pos ha]

/-- CLEAR_SUSPECT of any other slot is refused. -/
theorem exec_clearSuspect_other (ho : fld w.val 32 3 = 4) (ha : (s.impo (fld w.val 24 7)).state ≠ 3) :
    exec (.clearSuspect w) s = .next (formeDone (formeBegun s w) (fld w.val 24 7) 0x40A) := by
  change execClearSuspect w s = _
  rw [execClearSuspect, formeOp_begins hw hq hg hb ho]
  dsimp only
  rw [impo_formeBegun, if_neg ha]

end Begins

/-! ### An operation completes (R336) -/

/-- The groups of state that the completion of an operation may change. -/
def formeDoneParts (p : Part) : Bool := decide (p ∈ [Part.regs, .msix, .outputs])

theorem keep_formeDone (s : State) (k code : Nat) : Keep formeDoneParts s (formeDone s k code) := formeDone_keep rfl rfl rfl (Keep.refl s)

theorem impos_formeDone (s : State) (k code : Nat) : (formeDone s k code).impos = s.impos :=
  ((keep_formeDone s k code).same .impos rfl).1

theorem loader_formeDone (s : State) (k code : Nat) : (formeDone s k code).loader = s.loader :=
  ((keep_formeDone s k code).same .impos rfl).2

theorem impo_formeDone (s : State) (k code j : Nat) : (formeDone s k code).impo j = s.impo j :=
  congrArg (Map.get ImpoSlot.empty · j) (impos_formeDone s k code)

theorem deferred_formeDone (s : State) (k code : Nat) : (formeDone s k code).deferred = s.deferred :=
  ((keep_formeDone s k code).same .waits rfl).1

theorem tensors_formeDone (s : State) (k code : Nat) : (formeDone s k code).tensors = s.tensors :=
  (keep_formeDone s k code).same .tensors rfl

theorem t1_formeDone (s : State) (k code : Nat) : (formeDone s k code).t1 = s.t1 :=
  ((keep_formeDone s k code).same .memory rfl).1

/-- What GAL_FORME_STATUS holds when an operation has completed. -/
theorem getReg_formeDone_status (s : State) (k code : Nat) : getReg (formeDone s k code) Reg.galFormeStatus =
    word (k % 128 * 2 ^ 8 + code % 2 ^ 16 * 2 ^ 16 + (s.impo k).generation % 2 ^ 16 * 2 ^ 32) := by
  rw [formeDone, getReg_setCause_other _ _ _ _ (by decide), getReg_setReg_same]

/-- BUSY is clear, the slot and the code show, and FORME_DONE has risen. -/
theorem status_formeDone (s : State) {k code : Nat} (hk : k < 128) (hc : code < 2 ^ 16) :
    getBit (formeDone s k code) Reg.galFormeStatus 0 = false ∧ getFld (formeDone s k code) Reg.galFormeStatus 8 7 = k ∧
      getFld (formeDone s k code) Reg.galFormeStatus 16 16 = code ∧ getBit (formeDone s k code) (blkIntRaw Reg.galBlk) 16 = true := by
  have toNat : (getReg (formeDone s k code) Reg.galFormeStatus).toNat =
      k * 2 ^ 8 + code * 2 ^ 16 + (s.impo k).generation % 2 ^ 16 * 2 ^ 32 := by
    rw [getReg_formeDone_status, word, BitVec.toNat_ofNat]
    omega
  refine ⟨?_, ?_, ?_, ?_⟩
  · rw [getBit, bit, BitVec.getLsbD, toNat, Nat.testBit_zero]
    exact decide_eq_false (by omega)
  · rw [getFld, fld, toNat]
    omega
  · rw [getFld, fld, toNat]
    omega
  · rw [formeDone, getBit_setCause _ _ _ _ (by decide), decide_eq_true rfl, Bool.or_true]

/-- A slot number of GAL_FORME_CTRL is one of 128. -/
theorem slot_lt (w : RegWrite) : fld w.val 24 7 < 128 := fld_lt _ _ _

/-! ### The end of a load (R324, R325) -/

theorem loadFormeCode_lt (s : State) (k h : Nat) : loadFormeCode s k h < 2 ^ 16 := by
  unfold loadFormeCode
  extract_lets
  repeat' refine iteInduction (motive := (· < 2 ^ 16)) (fun _ => ?_) fun _ => ?_
  all_goals decide

theorem impo_hedgeViolation (s : State) (n path a j : Nat) : (hedgeViolation s n path a).impo j = s.impo j :=
  congrArg (Map.get ImpoSlot.empty · j)
    ((hedgeViolation_keep (m := eventParts) rfl rfl rfl rfl rfl (Keep.refl s)).same .impos rfl).1

theorem loader_hedgeViolation (s : State) (n path a : Nat) : (hedgeViolation s n path a).loader = s.loader :=
  ((hedgeViolation_keep (m := eventParts) rfl rfl rfl rfl rfl (Keep.refl s)).same .impos rfl).2

/-- A load that ends leaves the loader idle and its slot READY or EMPTY, by its code. -/
theorem exec_formeDone_ends {s : State} {k h : Nat} (hl : s.loader = some (k, h)) (hh : halted s = false) (hk : (s.impo k).state = 1) :
    ∃ s1, exec .formeDone s = .next (formeDone s1 k (loadFormeCode s k h)) ∧ s1.loader = none ∧
      (s1.impo k).state = if loadFormeCode s k h = 0 then 2 else 0 := by
  change ∃ s1, execFormeDone s = _ ∧ _
  unfold execFormeDone
  rw [hl]
  dsimp only
  rw [hh, if_neg Bool.false_ne_true, if_pos hk]
  by_cases hc : loadFormeCode s k h = 0
  · rw [if_pos hc, if_pos hc, hc]
    exact ⟨_, rfl, rfl, congrArg ImpoSlot.state (impo_setImpo_same ..)⟩
  · rw [if_neg hc, if_neg hc]
    refine ⟨_, rfl, ?_, ?_⟩
    · split
      · exact loader_hedgeViolation ..
      · rfl
    · split
      · exact congrArg ImpoSlot.state ((impo_hedgeViolation ..).trans (impo_setImpo_same ..))
      · exact congrArg ImpoSlot.state (impo_setImpo_same ..)

/-! ### The obligations -/

/-- Settles O28, operation by operation: each begins from `formeBegun` on the slot that the write names, and completes by `formeDone`,
which leaves the slots and shows the code; an activation keeps BUSY and waits. -/
theorem formeCommandsComplete : Obligations.FormeCommandsComplete := by
  unfold Obligations.FormeCommandsComplete
  refine ⟨?load, ?loaded, ?alone, ?member, ?unload, ?refused, ?clear, ?inactive⟩
  case load =>
    intro w q s hw ho hq hg hb he
    exact ⟨_, exec_loadForme_empty hw hq hg hb ho he, rfl, congrArg ImpoSlot.state (impo_setImpo_same ..), getBit_formeBegun_busy s w⟩
  case loaded =>
    intro k h s hl hh hk hlt
    obtain ⟨s1, run, idle, slot⟩ := exec_formeDone_ends hl hh hk
    obtain ⟨busy, shown, code, cause⟩ := status_formeDone s1 hlt (loadFormeCode_lt s k h)
    exact ⟨_, run, (loader_formeDone ..).trans idle, (congrArg ImpoSlot.state (impo_formeDone ..)).trans slot, code, shown, busy, cause⟩
  case alone =>
    intro w q s hw ho hq hg hb hn
    exact ⟨_, exec_activate_alone hw hq hg hb ho hn, rfl, rfl, getBit_formeBegun_busy s w⟩
  case member =>
    intro w q s hw ho hq hg hb hn hl
    obtain ⟨busy, shown, code, cause⟩ := status_formeDone (formeBegun s w) (slot_lt w) (code := 0x40C) (by decide)
    exact ⟨_, exec_activate_member hw hq hg hb ho hn hl, busy, shown, code, cause, deferred_formeDone ..⟩
  case unload =>
    intro w q s hw ho hq hg hb hr
    exact ⟨_, exec_unload_ready hw hq hg hb ho hr,
      congrArg ImpoSlot.state ((impo_formeDone ..).trans (impo_setImpo_same ..)), status_formeDone _ (slot_lt w) (by decide)⟩
  case refused =>
    intro w q s hw ho hq hg hb ha
    exact ⟨_, exec_unload_active hw hq hg hb ho ha, impos_formeDone .., status_formeDone _ (slot_lt w) (by decide)⟩
  case clear =>
    intro w q s hw ho hq hg hb ha
    have slot := (impo_formeDone _ (fld w.val 24 7) 0 _).trans
      (impo_setImpo_same (formeBegun s w) (fld w.val 24 7) { s.impo (fld w.val 24 7) with suspect := 0 })
    exact ⟨_, exec_clearSuspect_active hw hq hg hb ho ha, congrArg ImpoSlot.suspect slot,
      (congrArg ImpoSlot.state slot).trans ha, status_formeDone _ (slot_lt w) (by decide)⟩
  case inactive =>
    intro w q s hw ho hq hg hb ha
    exact ⟨_, exec_clearSuspect_other hw hq hg hb ho ha, impos_formeDone .., status_formeDone _ (slot_lt w) (by decide)⟩

/-- Settles O59: UNLOAD and CLEAR_SUSPECT write their slot at most, and the completion of an operation leaves slots, tensors and T1. -/
theorem unloadAndClearSuspect : Obligations.UnloadAndClearSuspect := by
  unfold Obligations.UnloadAndClearSuspect
  refine ⟨?ready, ?empty, ?clear⟩
  case ready =>
    intro w q s hw ho hq hg hb hr
    exact ⟨_, exec_unload_ready hw hq hg hb ho hr, (impo_formeDone ..).trans (impo_setImpo_same ..), tensors_formeDone ..,
      t1_formeDone ..⟩
  case empty =>
    intro w q s hw ho hq hg hb he
    exact ⟨_, exec_unload_empty hw hq hg hb ho he, (congrArg ImpoSlot.state (impo_formeDone ..)).trans he, tensors_formeDone ..,
      t1_formeDone ..⟩
  case clear =>
    intro w q s hw ho hq hg hb ha
    exact ⟨_, exec_clearSuspect_active hw hq hg hb ho ha, (impo_formeDone ..).trans (impo_setImpo_same ..), tensors_formeDone ..,
      t1_formeDone ..⟩

end Sys2Proof.Machine
end

section
/-!
PROOFS. A step batch record leaves for its output ring (R364 to R366, R446, R459): where the tail goes on by one, and a size of ring for
which it cannot.
-/
namespace Sys2Proof.Machine

section Record

variable (s : State) (n : Nat) (r : Record)

/-! ### Registers that a record's way to its ring leaves -/

theorem regs_regionWrite (g off : Nat) (bs : List Byte) : (regionWrite s g off bs).regs = s.regs :=
  (regionWrite_keep (m := fun p => decide (p ∈ [Part.hosts, .outputs])) rfl rfl (Keep.refl s)).same .regs rfl

theorem regs_writeShadow (drv : Bool) (held : Nat) : (writeShadow s n drv held).regs = s.regs :=
  (writeShadow_keep (m := fun p => decide (p ∈ [Part.hosts, .outputs])) rfl rfl (Keep.refl s)).same .regs rfl

theorem regs_signalRecord (held : Bool) : (signalRecord s n held).regs = s.regs :=
  (signalRecord_keep (m := fun p => decide (p ∈ [Part.hosts, .msix, .outputs])) rfl rfl rfl (Keep.refl s)).same .regs rfl

theorem regs_noteReported : (noteReported s r).regs = s.regs :=
  (noteReported_keep (m := fun p => decide (p = Part.galley)) rfl (Keep.refl s)).same .regs rfl

theorem regs_putFld (a lo k v : Nat) : (putFld s a lo k v).regs = Map.set regReset s.regs a (setFld (Map.get regReset s.regs a) lo k v) :=
  rfl

theorem outSize_of_regs {s t : State} (h : t.regs = s.regs) : outSize t n = outSize s n := by
  rw [outSize, getFld, getReg, h, outSize, getFld, getReg]

/-- Of the registers a record in its ring changes OUT_TAIL alone. -/
theorem regs_putRecord : (putRecord s n r).regs =
    (putFld s (Reg.qRingStatus n) 32 12 ((outTail s n + 1) % outSize s n)).regs := by
  unfold putRecord
  extract_lets b t at_ s1 s2 s3 s4
  have stored : s2.regs = s.regs := by simp only [s2, s1, regs_regionWrite]
  rw [regs_writeShadow, setRing_regs, regs_putFld, stored, outSize_of_regs n stored, regs_putFld]

theorem getReg_oneHeldLess_other {a : Nat} (h : a ≠ Reg.partState n) : getReg (oneHeldLess s n) a = getReg s a := by
  unfold oneHeldLess
  dsimp only
  split
  · rw [getReg_putBit_other _ _ _ _ _ h, getReg_putFld_other _ _ _ _ _ _ h]
  · rw [getReg_putFld_other _ _ _ _ _ _ h]

/-- One held record fewer does not change the phase of the partition. -/
theorem partPhase_oneHeldLess : partPhase (oneHeldLess s n) n = partPhase s n := by
  unfold partPhase oneHeldLess
  dsimp only
  split
  · rw [getFld_putBit_disjoint _ _ _ _ _ _ (.inr (by decide)), getFld_putFld_disjoint _ _ _ _ _ _ _ (.inl (by decide))]
  · rw [getFld_putFld_disjoint _ _ _ _ _ _ _ (.inl (by decide))]

/-! ### A record leaves for its ring -/

/-- The state in which a record has left the list, a held one is held no more, and the record is counted. -/
def recordTaken : State :=
  count (if partHeld s n then oneHeldLess { s with records := s.records.erase r } n else { s with records := s.records.erase r })
    Reg.galRecords 1

/-- The state with the record in its ring and the requests and the host told. -/
def recordOut : State := signalRecord (noteReported (putRecord (recordTaken s n r) n r) r) n (partHeld s n)

theorem getReg_recordTaken {a : Nat} (h : 0x300000 ≤ a) (hp : a ≠ Reg.partState n) : getReg (recordTaken s n r) a = getReg s a := by
  unfold recordTaken
  rw [getReg_count_other _ _ _ _ (not_mem_eventRegs h)]
  split
  · exact getReg_oneHeldLess_other _ _ hp
  · rfl

theorem partPhase_recordTaken : partPhase (recordTaken s n r) n = partPhase s n := by
  have high : 0x300000 ≤ Reg.partState n := by unfold Reg.partState; omega
  unfold recordTaken
  rw [partPhase, getFld, getReg_count_other _ _ _ _ (not_mem_eventRegs high)]
  split
  · exact partPhase_oneHeldLess ..
  · rfl

theorem getReg_recordOut (a : Nat) : getReg (recordOut s n r) a = getReg (putFld (recordTaken s n r) (Reg.qRingStatus n) 32 12
    ((outTail (recordTaken s n r) n + 1) % outSize (recordTaken s n r) n)) a := by
  unfold recordOut
  rw [getReg, regs_signalRecord, regs_noteReported, regs_putRecord, getReg]

/-- The tail goes on by one, modulo the size of the ring, as far as its 12 bits hold it. -/
theorem outTail_recordOut : outTail (recordOut s n r) n = (outTail s n + 1) % outSize s n % 2 ^ 12 := by
  have status : getReg (recordTaken s n r) (Reg.qRingStatus n) = getReg s (Reg.qRingStatus n) :=
    getReg_recordTaken _ _ _ (by unfold Reg.qRingStatus qBase; omega) (by unfold Reg.qRingStatus Reg.partState qBase; omega)
  have ctrl : getReg (recordTaken s n r) (Reg.qRingCtrl n) = getReg s (Reg.qRingCtrl n) :=
    getReg_recordTaken _ _ _ (by unfold Reg.qRingCtrl qBase; omega) (by unfold Reg.qRingCtrl Reg.partState qBase; omega)
  rw [outTail, getFld, getReg_recordOut, ← getFld, getFld_putFld_same _ _ _ _ _ (by decide)]
  simp only [outTail, outSize, getFld, status, ctrl]

theorem partPhase_recordOut : partPhase (recordOut s n r) n = partPhase s n := by
  have apart : Reg.partState n ≠ Reg.qRingStatus n := by unfold Reg.qRingStatus Reg.partState qBase; omega
  rw [partPhase, getFld, getReg_recordOut, getReg_putFld_other _ _ _ _ _ _ apart]
  exact partPhase_recordTaken ..

/-- The groups of state that a record may change on its way once it has left the list. -/
def recordOutParts (p : Part) : Bool := decide (p ∈ [Part.galley, .hosts, .regs, .counters, .msix, .events, .outputs])

theorem records_recordOut : (recordOut s n r).records = s.records.erase r := by
  have left : Keep recordOutParts { s with records := s.records.erase r }
      (if partHeld s n then oneHeldLess { s with records := s.records.erase r } n else { s with records := s.records.erase r }) := by
    split
    · exact oneHeldLess_keep rfl (Keep.refl _)
    · exact Keep.refl _
  have way : Keep recordOutParts { s with records := s.records.erase r } (recordOut s n r) :=
    signalRecord_keep rfl rfl rfl (noteReported_keep rfl (putRecord_keep rfl rfl rfl (count_keep rfl rfl rfl rfl rfl left)))
  obtain ⟨-, records, -⟩ := way.same .commands rfl
  exact records

end Record

/-- The oldest record of a partition, acknowledged and with a free slot, leaves. -/
theorem exec_stepBatchRecord_leaves {part : Fin 64} {r : Record} {s : State} (hr : s.records.find? (fun r => r.part = part.val) = some r)
    (ha : recordAcked s r = true) (hf : slotFree s part.val = true) (hh : halted s = false) (hp : partPhase s part.val ≠ 3) :
    exec (.stepBatchRecord part) s = .next (recordOut s part.val r) := by
  have unreleased : ¬ (partPhase (recordOut s part.val r) part.val = 3 ∧ waitingRecords (recordOut s part.val r) part.val = 0 ∧
      Map.get (fun _ => []) (recordOut s part.val r).due part.val = []) := fun ⟨phase, _⟩ => hp (partPhase_recordOut s _ r ▸ phase)
  change execStepBatchRecord part s = _
  unfold execStepBatchRecord
  dsimp only
  rw [hr]
  dsimp only
  rw [ha, hf, hh]
  exact congrArg Host.Outcome.next (if_neg unreleased)

/-- In a ring of a size that OUT_LOG2 may hold (R459) the tail goes on by one. -/
theorem stepBatchRecord_leaves {part : Fin 64} {r : Record} {s : State} (hr : s.records.find? (fun r => r.part = part.val) = some r)
    (ha : recordAcked s r = true) (hf : slotFree s part.val = true) (hh : halted s = false) (hp : partPhase s part.val ≠ 3)
    (size : getFld s (Reg.qRingCtrl part.val) 24 4 ≤ 12) : Answers (.stepBatchRecord part) s fun t =>
      t.records = s.records.erase r ∧ outTail t part.val = (outTail s part.val + 1) % outSize s part.val := by
  have fits : outSize s part.val ≤ 2 ^ 12 := Nat.pow_le_pow_right (by decide) size
  have inside : (outTail s part.val + 1) % outSize s part.val < outSize s part.val := Nat.mod_lt _ (Nat.two_pow_pos _)
  refine ⟨_, exec_stepBatchRecord_leaves hr ha hf hh hp, records_recordOut .., ?_⟩
  rw [outTail_recordOut, Nat.mod_eq_of_lt (by omega)]

/-! ### A ring larger than its tail -/

/-- A record of partition 0 without entries. -/
def bareRecord : Record := ⟨false, 0, 5, 0, 0, 0, 0, 0, []⟩

/-- Partition 0 with a record and an output ring of 2^13 slots, whose tail stands at 4095, the last value that OUT_TAIL can hold. -/
def wideRing : State :=
  putFld (putFld (putBit { State.reset with records := [bareRecord] } (Reg.qRingCtrl 0) 0 true) (Reg.qRingCtrl 0) 24 4 13)
    (Reg.qRingStatus 0) 32 12 4095

/-- Refutes O24, at its first clause, which asks for no size of the ring. In `wideRing` OUT_LOG2 is 13, above the 4 to 12 of R459; the
ring has a free slot, and the tail would have to go on from 4095 to 4096, which the 12 bits of OUT_TAIL do not hold. With a size in range
the clause holds (`stepBatchRecord_leaves`). -/
theorem not_stepEndsComplete : ¬ Obligations.StepEndsComplete := by
  unfold Obligations.StepEndsComplete
  rintro ⟨leaves, -, -, -⟩
  obtain ⟨t, -, -, tail⟩ := leaves 0 bareRecord wideRing (by decide) (by decide) (by decide) (by decide) (by decide)
  have claimed : (outTail wideRing 0 + 1) % outSize wideRing 0 = 4096 := by decide
  have bound : outTail t 0 < 2 ^ 12 := fld_lt _ _ _
  have beyond : outTail t 0 = 4096 := tail.trans claimed
  omega

end Sys2Proof.Machine
end

section
/-!
PROOFS. Host commands that name a request act between steps (R342, R345, R353, R358, R372, R377). The first arrived command of an opcode
that may act is taken (log 28); what each does to its request is read off the entry that it leaves.
-/
namespace Sys2Proof.Machine

/-! ### A command is taken -/

/-- The state in which a command no longer waits. -/
def taken (s : State) (x : Cmd) : State := { s with arrived := s.arrived.erase x }

/-- What `actsNext` says of the request: it takes the command, and no end or handover of it is due. -/
structure Takes (s : State) (x : Cmd) : Prop where
  gen : (s.entry x.req).gen = x.gen
  state : (s.entry x.req).state ∈ acceptStates x
  ends : (s.entry x.req).ends = []
  declared : x.req ∉ s.home.declared
  handed : x.req ∉ s.home.handed

theorem Takes.taken {s : State} {x : Cmd} (h : Takes s x) : Takes (taken s x) x := ⟨h.gen, h.state, h.ends, h.declared, h.handed⟩

section Next

variable {s : State} {op : Nat} {x : Cmd} (h : actsNext s op x = true)
include h

theorem takes_of_actsNext : Takes s x := by
  unfold actsNext at h
  simp only [Bool.and_eq_true] at h
  obtain ⟨-, request⟩ := h
  obtain ⟨gen, state, ends, declared, handed⟩ := of_decide_eq_true request
  exact ⟨gen, state, ends, declared, handed⟩

theorem firstCmd_of_actsNext : firstCmd s op (fun c => c.names && mayAct s c) = some x := by
  unfold actsNext at h
  simp only [Bool.and_eq_true] at h
  obtain ⟨⟨-, first⟩, -⟩ := h
  exact of_decide_eq_true first

theorem passes_of_actsNext : x.opcode = op ∧ mayAct s x = true := by
  have passes := List.find?_some (firstCmd_of_actsNext h)
  simp only [Bool.and_eq_true, decide_eq_true_eq] at passes
  obtain ⟨opcode, -, may⟩ := passes
  exact ⟨opcode, may⟩

theorem stopState_of_actsNext : stopState s ≤ 2 := by
  unfold actsNext at h
  simp only [Bool.and_eq_true] at h
  obtain ⟨⟨⟨-, stop⟩, -⟩, -⟩ := h
  exact of_decide_eq_true stop

/-- A request that may act is in no step, and an END finds no record of its partition held. -/
theorem unblocked_of_actsNext : (s.entry x.req).state ≠ 4 ∧ (op = 6 → partHeld s (s.entry x.req).partition = false) := by
  obtain ⟨opcode, may⟩ := passes_of_actsNext h
  obtain ⟨gen, -, -, -, -⟩ := takes_of_actsNext h
  unfold mayAct mustWait at may
  simp only [gen, opcode, Bool.and_eq_true, Bool.not_eq_true', Bool.or_eq_false_iff, decide_true, Bool.true_and,
    decide_eq_false_iff_not] at may
  obtain ⟨⟨-, ⟨running, -⟩, held⟩, -⟩ := may
  refine ⟨running, fun six => ?_⟩
  rwa [decide_eq_true six, Bool.true_and] at held

end Next

/-- A request in a state that takes the command is neither FREE nor ENDED. -/
theorem live_of_mem_acceptStates {x : Cmd} {n : Nat} (h : n ∈ acceptStates x) : n ≠ 0 ∧ n ≠ 8 := by
  have listed : ∀ l ∈ [[1, 2, 3, 4], [3, 4], [2, 3, 4, 7], [5, 6], [1, 2, 3, 4, 5, 6, 7], [3, 4, 5], [6, 7], []],
    ∀ n ∈ l, n ≠ 0 ∧ n ≠ 8 := by decide
  refine listed _ ?_ n h
  unfold acceptStates
  split
  all_goals (repeat' split)
  all_goals decide

/-- What a command of an opcode does to the request that it names. -/
def actOf (op : Nat) (s : State) (c : Cmd) (i : Nat) : State := match op with
  | 2 => actPrompt s c i
  | 3 => actPropose s c i
  | 4 => actPause s c i
  | 5 => actResume s c i
  | 6 => actEnd s c i
  | 8 => actMigrate s c i
  | _ => actSetClass s c i

/-- A request that takes the command is not refused. -/
theorem actCmd_of_takes {s : State} {x : Cmd} (h : Takes s x) : actCmd s x = actOf x.opcode s x x.req := by
  obtain ⟨gen, state, -, -, -⟩ := h
  obtain ⟨h0, h8⟩ := live_of_mem_acceptStates state
  unfold actCmd
  dsimp only
  rw [if_neg fun gone => gone.elim h0 fun gone => gone.elim h8 (· gen), if_neg (not_not_intro state)]
  rfl

/-- The command acts, and then the ends raised on its request are settled. -/
theorem actBetween_of_actsNext {s : State} {op : Nat} {x : Cmd} (h : actsNext s op x = true) :
    actBetween s op = settleEnd (actOf op (taken s x) x x.req) x.req := by
  obtain ⟨opcode, -⟩ := passes_of_actsNext h
  rw [← opcode, ← actCmd_of_takes (takes_of_actsNext h).taken, opcode]
  have first := firstCmd_of_actsNext h
  unfold actsNext at h
  simp only [Bool.and_eq_true] at h
  obtain ⟨⟨⟨between, stop⟩, -⟩, -⟩ := h
  unfold actBetween
  rw [between, stop, if_neg (by decide), first]
  rfl

/-- A request on which no end is due is left alone. -/
theorem settleEnd_quiet {s : State} {i : Nat} (he : (s.entry i).ends = []) (hd : i ∉ s.home.declared) (hh : i ∉ s.home.handed) :
    settleEnd s i = s := by
  unfold settleEnd
  dsimp only
  rw [if_neg hd, if_neg hh, Entry.endCode, he]
  exact ite_self s

theorem settleEnd_ended {s : State} {i : Nat} (h : (s.entry i).state = 8) : settleEnd s i = s :=
  if_pos (.inr (.inr (.inl h)))

/-! ### The entry that a command leaves -/

/-- `t` differs from `s` in no waiting command and not in the home, and holds `e` as entry `i`. -/
structure Leaves (s t : State) (i : Nat) (e : Entry) : Prop where
  entry : t.entry i = e
  arrived : t.arrived = s.arrived
  home : t.home = s.home

/-- The groups of state that answers to the host and messages to the twin may change. -/
def answerParts (p : Part) : Bool := eventParts p || decide (p ∈ [Part.hosts, .sources, .links])

namespace Leaves

variable {s t u : State} {i : Nat} {e : Entry}

theorem refl (s : State) (i : Nat) : Leaves s s i (s.entry i) := ⟨rfl, rfl, rfl⟩

theorem setEntry (h : Leaves s t i e) (e' : Entry) : Leaves s (t.setEntry i e') i e' := ⟨entry_setEntry_same .., h.arrived, h.home⟩

/-- What is done to no request and no command leaves the entry. -/
theorem of_keep {m : Part → Bool} (h : Leaves s t i e) (k : Keep m t u) (hg : m .galley = false) (hc : m .commands = false)
    (ht : m .twins = false) : Leaves s u i e where
  entry := (entry_of_keep k hg i).trans h.entry
  arrived := (k.same .commands hc).1.trans h.arrived
  home := (k.same .twins ht).2.2.trans h.home

theorem setTensor (h : Leaves s t i e) (k : Nat) (x : Tensor) : Leaves s (t.setTensor k x) i e := ⟨h.entry, h.arrived, h.home⟩

theorem complete (h : Leaves s t i e) (c : Cmd) (code value : Nat) : Leaves s (complete t c code value) i e :=
  h.of_keep (complete_keep (m := answerParts) rfl rfl rfl rfl rfl rfl rfl (Keep.refl t)) rfl rfl rfl

theorem twinChange (h : Leaves s t i e) (j : Nat) : Leaves s (twinChange t j) i e :=
  h.of_keep (twinChange_keep (m := answerParts) rfl rfl rfl rfl rfl rfl (Keep.refl t)) rfl rfl rfl

theorem setMoving (h : Leaves s t i e) (on : Bool) : ∃ k, Leaves s (setMoving t i on) i { e with skips := k } := by
  obtain rfl := h.entry
  exact ⟨_, (h.setTensor (kvHandle i) _).setEntry ((t.entry i).skip skMoving on)⟩

/-- A lost turn costs the request no more than its turn and the reason to skip. -/
theorem loseTurn (h : Leaves s t i e) :
    ∃ k turn done, Leaves s (loseTurn t i) i { e with skips := k, turn := turn, turnDone := done } := by
  unfold Machine.loseTurn
  dsimp only
  split
  · exact ⟨e.skips, e.turn, e.turnDone, h⟩
  · next fit _ _ =>
    have still : ∃ k, Leaves s (if (t.tensor (kvHandle i)).tier = 3 then Machine.setMoving t i false else t) i { e with skips := k } := by
      split
      · exact h.setMoving false
      · exact ⟨e.skips, h⟩
    obtain ⟨k, still⟩ := still
    rw [still.entry]
    exact ⟨_, _, _, still.setEntry _⟩

/-- A matched block gives the request a node, its groups and its tokens. -/
theorem refNode (h : Leaves s t i e) (k b : Nat) :
    ∃ d p l n, Leaves s (refNode t i k b) i { e with dir := d, prefixNode := p, length := l, sharedLen := n } := by
  obtain rfl := h.entry
  unfold Machine.refNode
  exact ⟨_, _, _, _, Leaves.setEntry (t := t.setTree _ _) ⟨h.entry, h.arrived, h.home⟩ _⟩

theorem matchBlocks (fuel : Nat) {t : State} {e : Entry} (b : Nat) (h : Leaves s t i e) :
    ∃ d p l n, Leaves s (matchBlocks fuel t i b).2 i { e with dir := d, prefixNode := p, length := l, sharedLen := n } := by
  induction fuel generalizing t e b with
  | zero => exact ⟨e.dir, e.prefixNode, e.length, e.sharedLen, h⟩
  | succ fuel ih =>
    unfold Machine.matchBlocks
    extract_lets r tree prev toks hash s1
    split
    · exact ⟨e.dir, e.prefixNode, e.length, e.sharedLen,
        h.of_keep (countCollisions_keep (m := eventParts) rfl rfl rfl rfl rfl (Keep.refl t)) rfl rfl rfl⟩
    · next k _ =>
      have counted : Leaves s s1 i e := h.of_keep (countCollisions_keep (m := eventParts) rfl rfl rfl rfl rfl (Keep.refl t)) rfl rfl rfl
      obtain ⟨d, p, l, n, matched⟩ := counted.refNode k b
      obtain ⟨d', p', l', n', rest⟩ := ih (b + 1) (matched.of_keep (keep_count _ Reg.galPrefixHits 1) rfl rfl rfl)
      exact ⟨d', p', l', n', rest⟩

theorem matchPrefix (h : Leaves s t i e) :
    ∃ d p l n, Leaves s (matchPrefix t i).2 i { e with dir := d, prefixNode := p, length := l, sharedLen := n } := by
  unfold Machine.matchPrefix
  dsimp only
  split
  · exact ⟨e.dir, e.prefixNode, e.length, e.sharedLen, h⟩
  · exact h.matchBlocks ..

end Leaves

/-! ### What each command does -/

section Commands

variable (s : State) (c : Cmd) (i : Nat)

/-- PROMPT adds its tokens, and the request is in PREFILL (R361, R368; log 23 has it act on one in PREFILL as well). -/
theorem actPrompt_leaves (h : (s.entry i).promptLen + c.tokens.length ≤ (s.entry i).maxLen) : ∃ e, Leaves s (actPrompt s c i) i e ∧
    e.state = 2 ∧ e.phase = 0 ∧ e.promptLen = (s.entry i).promptLen + c.tokens.length ∧ e.ends = (s.entry i).ends := by
  have turnLost : ∃ k turn done, Leaves s (if (s.entry i).turnPending ∨ (s.entry i).turn.isSome then loseTurn s i else s) i
      { s.entry i with skips := k, turn := turn, turnDone := done } := by
    split
    · exact (Leaves.refl s i).loseTurn
    · exact ⟨_, _, _, Leaves.refl s i⟩
  obtain ⟨k, turn, done, turnLost⟩ := turnLost
  unfold actPrompt
  dsimp only
  rw [if_neg (Nat.not_lt.mpr h), turnLost.entry]
  obtain ⟨d, p, l, n, matched⟩ := (turnLost.setEntry _).matchPrefix
  exact ⟨_, matched.complete .., rfl, rfl, rfl, rfl⟩

/-- PROPOSE sets the proof length. -/
theorem actPropose_leaves (h : c.tokens.length ≤ maxProofs s (s.entry i).partition) : Leaves s (actPropose s c i) i { s.entry i with
    toklog := putTokens (s.entry i).toklog (s.entry i).promptLen c.tokens, proofLen := c.tokens.length } := by
  unfold actPropose
  dsimp only
  rw [if_neg (Nat.not_lt.mpr h)]
  exact ((Leaves.refl s i).setEntry _).complete ..

/-- PAUSE of a request that is not SWAPPED makes it PAUSED; a turn is lost. -/
theorem actPause_leaves_paused (h : (s.entry i).state ≠ 7) :
    ∃ e, Leaves s (actPause s c i) i e ∧ e.state = 5 ∧ e.ends = (s.entry i).ends := by
  unfold actPause
  dsimp only
  rw [if_neg h]
  obtain ⟨k, turn, done, paused⟩ := ((Leaves.refl s i).setEntry _).loseTurn
  exact ⟨_, (paused.twinChange i).complete .., rfl, rfl⟩

/-- PAUSE of a SWAPPED request makes it PARKED. -/
theorem actPause_leaves_parked (h : (s.entry i).state = 7) :
    ∃ e, Leaves s (actPause s c i) i e ∧ e.state = 6 ∧ e.ends = (s.entry i).ends := by
  unfold actPause report
  dsimp only
  rw [if_pos h, entry_setEntry_same]
  exact ⟨_, ((((Leaves.refl s i).setEntry _).setEntry _).twinChange i).complete .., rfl, rfl⟩

/-- RESUME of a PAUSED request makes it eligible by its phase. -/
theorem actResume_leaves (h : (s.entry i).state = 5) : Leaves s (actResume s c i) i { s.entry i with state := byPhase (s.entry i) } := by
  unfold actResume
  dsimp only
  rw [if_pos h]
  exact (((Leaves.refl s i).setEntry _).twinChange i).complete ..

/-- The fields that a SET_CLASS may select are no state and no end, and of the priorities it takes its own where it selects it. -/
theorem setClassFieldsOf_fields (e : Entry) :
    (setClassFieldsOf c e).priority = (if (c.op8 0x10).testBit 1 then c.op8 0x11 % 16 else e.priority) ∧
      (setClassFieldsOf c e).state = e.state ∧ (setClassFieldsOf c e).ends = e.ends := by
  simp only [setClassFieldsOf, apply_ite Entry.priority, apply_ite Entry.state, apply_ite Entry.ends, ite_self, and_self]

/-- SET_CLASS takes the priority that it selects; with its TWIN bit clear it asks for no twin and gives none up. -/
theorem actSetClass_leaves (h : (c.op8 0x10).testBit 5 = false) : ∃ e, Leaves s (actSetClass s c i) i e ∧
    e.priority = (if (c.op8 0x10).testBit 1 then c.op8 0x11 % 16 else (s.entry i).priority) ∧ e.state = (s.entry i).state ∧
    e.ends = (s.entry i).ends := by
  obtain ⟨priority, state, ends⟩ := setClassFieldsOf_fields c (s.entry i)
  unfold actSetClass
  extract_lets e m toRes toSh need refuse e1 e2 k old s1 code tw
  have fields : ∃ cls aside, e2 = { setClassFieldsOf c (s.entry i) with cls := cls, setAside := aside } := by
    unfold e2
    repeat' split
    all_goals exact ⟨_, _, rfl⟩
  obtain ⟨cls, aside, fields⟩ := fields
  have classed : Leaves s s1 i e2 := ((Leaves.refl s i).setEntry e2).setTensor k _
  have untwinned : ¬ m.testBit 5 = true := Bool.not_eq_true _ ▸ h
  rw [if_neg (untwinned ·.1), if_neg (untwinned ·.1)]
  rw [fields] at classed
  exact ⟨_, (classed.twinChange i).complete .., priority, state, ends⟩

/-! ### END and MIGRATE, which end the request and move it -/

/-- An entry that ends is ENDED with its code. -/
theorem entry_endNow (code : Nat) : ((endNow s i code).entry i).state = 8 ∧ ((endNow s i code).entry i).code = code := by
  unfold endNow
  extract_lets e s1 sp s2 s3
  have ended : (s2.entry i).state = 8 ∧ (s2.entry i).code = code := by
    unfold s2 endEntry
    dsimp only
    rw [entry_of_keep (keep_count ..) rfl, entry_setEntry_same]
    exact ⟨rfl, rfl⟩
  have freed : s3.entry i = s2.entry i := by
    unfold s3
    split
    · exact entry_of_keep (wipeRuns_keep (m := fun p => decide (p = .waits)) rfl (Keep.refl s2)) rfl i
    · exact entry_of_keep (scrubFreed_keep (m := fun p => decide (p = .memory)) rfl (Keep.refl s2)) rfl i
  rw [← freed] at ended
  exact ended

/-- A request that neither runs nor is held ends with the lowest end raised, unless it is handed over. -/
theorem settleEnd_ends {s : State} {i code : Nat} (hs : (s.entry i).state ∉ [0, 4, 8]) (hp : partHeld s (s.entry i).partition = false)
    (hd : i ∉ s.home.declared) (hh : i ∉ s.home.handed) (he : (s.entry i).endCode = some code) (ho : handsOver s i code = false) :
    settleEnd s i = endNow s i code := by
  simp only [List.mem_cons, List.not_mem_nil, or_false, not_or] at hs
  obtain ⟨h0, h4, h8⟩ := hs
  have unheld : ¬ partHeld s (s.entry i).partition = true := Bool.not_eq_true _ ▸ hp
  unfold settleEnd
  dsimp only
  rw [if_neg fun stays => stays.elim h4 fun stays => stays.elim h0 fun stays => stays.elim h8 unheld, if_neg hd, if_neg hh, he]
  dsimp only
  rw [ho, if_neg Bool.false_ne_true]

/-- HOST_END is no reason to hand a request over (R485). -/
theorem handsOver_hostEnd : handsOver s i 0x2C = false := Bool.and_false _

/-- END: no other end is due, so the request ends with HOST_END at once (R353). -/
theorem entry_actEnd (ht : Takes s c) (hr : (s.entry c.req).state ≠ 4) (hp : partHeld s (s.entry c.req).partition = false) :
    ((actEnd s c c.req).entry c.req).state = 8 ∧ ((actEnd s c c.req).entry c.req).code = 0x2C := by
  obtain ⟨-, state, ends, declared, handed⟩ := ht
  obtain ⟨h0, h8⟩ := live_of_mem_acceptStates state
  have raised : raiseEnd s c.req 0x2C = s.setEntry c.req { s.entry c.req with ends := [0x2C] } := by
    rw [raiseEnd_eq, ends, if_neg (by simp only [h0, h8, List.not_mem_nil, or_self, not_false_eq_true])]
    rfl
  have entry : (raiseEnd s c.req 0x2C).entry c.req = { s.entry c.req with ends := [0x2C] } := by rw [raised, entry_setEntry_same]
  have home : (raiseEnd s c.req 0x2C).home = s.home := by rw [raised]; rfl
  have settled : settleEnd (raiseEnd s c.req 0x2C) c.req = endNow (raiseEnd s c.req 0x2C) c.req 0x2C := by
    refine settleEnd_ends ?_ ?_ (home ▸ declared) (home ▸ handed) ?_ (handsOver_hostEnd ..)
    · rw [entry]
      simp only [List.mem_cons, List.not_mem_nil, or_false, not_or]
      exact ⟨h0, hr, h8⟩
    · rw [entry, partHeld, getBit, getReg, regs_raiseEnd]
      exact hp
    · rw [entry]
      rfl
  unfold actEnd
  rw [settled, entry_of_keep (complete_keep (m := answerParts) rfl rfl rfl rfl rfl rfl rfl (Keep.refl _)) rfl]
  exact entry_endNow ..

theorem arrived_actEnd : (actEnd s c i).arrived = s.arrived :=
  ((actEnd_keep (m := fun p => decide (p ≠ .commands)) rfl rfl rfl rfl rfl rfl rfl rfl rfl rfl rfl rfl rfl rfl (Keep.refl s)).same
    .commands rfl).1

/-- A number taken modulo the length of a list that is not empty names one of its members. -/
theorem getD_mod_length_mem {α : Type} {l : List α} {a : α} (h : a ∈ l) (n : Nat) (d : α) : l.getD (n % l.length) d ∈ l := by
  have inside : n % l.length < l.length := Nat.mod_lt _ (List.length_pos_of_mem h)
  rw [List.getD_eq_getElem?_getD, List.getElem?_eq_getElem inside, Option.getD_some]
  exact List.getElem_mem inside

/-- A run of `units` is free in region `r`. -/
def runIn (s : State) (units r : Nat) : Bool := (List.range ((s.region r).pages + 1)).any (t2Free s r units)

/-- Where a run of T2 is free, one is found (R160); only a free value is drawn. -/
theorem t2Alloc_finds {n units : Nat} (h : (t2Regions s n).any (runIn s units) = true) :
    ∃ r off, t2Alloc s n units = some (r, off, (drawFree s).2) := by
  obtain ⟨r, hr, free⟩ := List.any_eq_true.mp h
  have member : r ∈ (t2Regions s n).filter (runIn s units) := List.mem_filter.mpr ⟨hr, free⟩
  have each : ∀ r ∈ (t2Regions s n).filter (runIn s units), runIn s units r = true := fun _ hr => (List.mem_filter.mp hr).2
  unfold t2Alloc
  generalize drawFree s = drawn
  obtain ⟨v, s1⟩ := drawn
  dsimp only
  rw [show (fun r => (List.range ((s.region r).pages + 1)).any (t2Free s r units)) = runIn s units from rfl]
  generalize (t2Regions s n).filter (runIn s units) = rs at member each ⊢
  cases rs with
  | nil => cases member
  | cons r0 rest =>
    dsimp only
    split
    · exact ⟨_, _, rfl⟩
    · have run := each _ (getD_mod_length_mem member v.toNat r0)
      obtain ⟨a, found⟩ := Option.isSome_iff_exists.mp ((List.find?_isSome.trans List.any_eq_true.symm).mpr run)
      rw [found]
      exact ⟨_, _, rfl⟩

/-- A move that is queued is one move more, whether or not an engine begins it. -/
theorem length_addMove (kind : MoveKind) (handle region off len fmt : Nat) (container : Bool) (t1map : Word)
    (groups : List (Nat × Nat × Nat)) (cmd : Option Cmd) :
    (addMove s kind handle region off len fmt container t1map groups cmd).moves.length = s.moves.length + 1 := by
  unfold addMove
  extract_lets hub m
  have ids := congrArg List.length (ids_startMoves { s with moves := s.moves ++ [m], moveNext := s.moveNext + 1 })
  rwa [List.length_map, List.length_map, List.length_append] at ids

/-- MIGRATE to T2 of a request without a turn starts a move where a run is free; its end completes the command (R377). -/
theorem actMigrate_leaves (h0 : c.op8 0x14 = 0) (ht : (s.entry i).turn = none)
    (hf : (t2Regions s (s.entry i).partition).any (runIn s (imageUnits (s.entry i))) = true) :
    ∃ k, Leaves s (actMigrate s c i) i { s.entry i with skips := k } ∧ (actMigrate s c i).moves.length = s.moves.length + 1 := by
  obtain ⟨r, off, found⟩ := t2Alloc_finds s hf
  have unturned : loseTurn s i = s := by
    unfold loseTurn
    dsimp only
    rw [ht]
  have drawn : Leaves s (drawFree s).2 i (s.entry i) := ⟨rfl, rfl, rfl⟩
  obtain ⟨k, moving⟩ := drawn.setMoving true
  unfold actMigrate moveOut
  dsimp only
  rw [if_pos h0, unturned, found]
  exact ⟨k, moving.of_keep (addMove_keep (m := moveParts) rfl rfl rfl rfl rfl rfl rfl rfl rfl (Keep.refl _)) rfl rfl rfl,
    length_addMove ..⟩

end Commands

/-! ### The obligation -/

/-- What a command leaves of its request stands when no end is due: no other command has left, and none has come. -/
theorem actBetween_leaves {s : State} {op : Nat} {x : Cmd} {e : Entry} (h : actsNext s op x = true)
    (left : Leaves (taken s x) (actOf op (taken s x) x x.req) x.req e) (ends : e.ends = (s.entry x.req).ends) :
    Leaves (taken s x) (actBetween s op) x.req e ∧ actBetween s op = actOf op (taken s x) x x.req := by
  obtain ⟨-, -, none, declared, handed⟩ := takes_of_actsNext h
  have quiet : actBetween s op = actOf op (taken s x) x x.req := by
    rw [actBetween_of_actsNext h]
    exact settleEnd_quiet (by rw [left.entry, ends, none]) (by rw [left.home]; exact declared) (by rw [left.home]; exact handed)
  exact ⟨quiet ▸ left, quiet⟩

theorem exec_migrate_between {s : State} (hs : stopState s ≤ 2)
    (hn : (s.arrived.any fun x => decide (x.opcode = 8) && !x.names) = false) : exec .migrate s = .next (actBetween s 8) := by
  have going : halted s = false := decide_eq_false (by omega)
  have unnamed : firstCmd s 8 (fun c => !c.names) = none := List.find?_eq_none.mpr (List.any_eq_false.mp hn)
  change execMigrate s = _
  unfold execMigrate
  rw [going, if_neg Bool.false_ne_true, unnamed]

/-- Settles O25: the first arrived command of its opcode acts (log 28), no end is due that would then be settled, and what each command
does is read off the entry that it leaves. -/
theorem requestCommandsComplete : Obligations.RequestCommandsComplete := by
  unfold Obligations.RequestCommandsComplete
  refine ⟨?prompt, ?propose, ?pause, ?park, ?resume, ?ends, ?setClass, ?migrate⟩
  case prompt =>
    intro x s h fits
    obtain ⟨e, left, state, phase, promptLen, ends⟩ := actPrompt_leaves (taken s x) x x.req fits
    obtain ⟨⟨entry, arrived, -⟩, -⟩ := actBetween_leaves h left ends
    exact ⟨_, rfl, by rw [entry, state], by rw [entry, phase], by rw [entry, promptLen]; rfl, arrived⟩
  case propose =>
    intro x s h fits
    obtain ⟨⟨entry, arrived, -⟩, -⟩ := actBetween_leaves h (actPropose_leaves (taken s x) x x.req fits) rfl
    exact ⟨_, rfl, by rw [entry], by rw [entry]; rfl, arrived⟩
  case pause =>
    intro x s h unswapped
    obtain ⟨e, left, state, ends⟩ := actPause_leaves_paused (taken s x) x x.req unswapped
    obtain ⟨⟨entry, arrived, -⟩, -⟩ := actBetween_leaves h left ends
    exact ⟨_, rfl, by rw [entry, state], arrived⟩
  case park =>
    intro x s h swapped
    obtain ⟨e, left, state, ends⟩ := actPause_leaves_parked (taken s x) x x.req swapped
    obtain ⟨⟨entry, arrived, -⟩, -⟩ := actBetween_leaves h left ends
    exact ⟨_, rfl, by rw [entry, state], arrived⟩
  case resume =>
    intro x s h paused
    obtain ⟨⟨entry, arrived, -⟩, -⟩ := actBetween_leaves h (actResume_leaves (taken s x) x x.req paused) rfl
    exact ⟨_, rfl, by rw [entry]; rfl, arrived⟩
  case ends =>
    intro x s h
    obtain ⟨running, held⟩ := unblocked_of_actsNext h
    obtain ⟨ended, code⟩ := entry_actEnd (taken s x) x (takes_of_actsNext h).taken running (held rfl)
    have settled : actBetween s 6 = actEnd (taken s x) x x.req := (actBetween_of_actsNext h).trans (settleEnd_ended ended)
    refine ⟨_, rfl, ?_⟩
    rw [settled]
    exact ⟨ended, code, arrived_actEnd ..⟩
  case setClass =>
    intro x s h untwinned
    obtain ⟨e, left, priority, state, ends⟩ := actSetClass_leaves (taken s x) x x.req untwinned
    obtain ⟨⟨entry, arrived, -⟩, -⟩ := actBetween_leaves h left ends
    exact ⟨_, rfl, by rw [entry, priority]; rfl, by rw [entry, state]; rfl, arrived⟩
  case migrate =>
    intro x s h named toT2 unturned free
    obtain ⟨k, left, moves⟩ := actMigrate_leaves (taken s x) x x.req toT2 unturned free
    obtain ⟨⟨-, arrived, -⟩, acted⟩ := actBetween_leaves h left rfl
    refine ⟨_, exec_migrate_between (stopState_of_actsNext h) named, ?_, arrived⟩
    rw [acted]
    exact moves

end Sys2Proof.Machine
end

section
/-!
PROOFS. A fetched command moves the head of its ring on (R447, R459): where it goes on by one, and a size of ring for which it cannot.
-/
namespace Sys2Proof.Machine

/-! ### Registers of the host's pages while messages leave -/

section HostRegister

variable {a : Nat} (ha : 0x600000 ≤ a) (s : State)
include ha

theorem getReg_count_host (off n : Nat) : getReg (count s off n) a = getReg s a :=
  getReg_count_other _ _ _ _ (not_mem_eventRegs (by omega))

/-- A frame dropped at port 0 is noted in the registers of that port. -/
theorem getReg_sliceDrop_host (slice cls dst reason : Nat) : getReg (sliceDrop s 0 slice cls dst reason) a = getReg s a := by
  have below : ∀ x ∈ captureRegs (Reg.fabBlk 0), x < 0x600000 := by decide
  have aside : a ∉ captureRegs (Reg.fabBlk 0) := fun h => absurd (below a h) (by omega)
  have unraised : a ≠ blkIntRaw (Reg.fabBlk 0) := fun h => aside (List.mem_cons.mpr (.inl h))
  unfold sliceDrop
  dsimp only
  rw [getReg_setCause_other _ _ _ _ unraised, getReg_capture_other _ _ _ _ _ _ _ _ aside, getReg_count_host ha]

theorem getReg_sendOne_host (p : Nat) (x : State × List (List Byte)) (f : List Byte) : getReg (sendOne p x f).1 a = getReg x.1 a := by
  obtain ⟨s, waiting⟩ := x
  unfold sendOne
  dsimp only
  split
  · rfl
  · exact getReg_count_host ha _ _ _

theorem getReg_pump_host (p : Nat) : getReg (pump s p) a = getReg s a :=
  List.foldlRecOn (motive := fun x : State × List (List Byte) => getReg x.1 a = getReg s a) (s.link p).waiting (sendOne p)
    (b := (s.setLink p { s.link p with waiting := [] }, [])) rfl fun x hx f _ => (getReg_sendOne_host ha p x f).trans hx

theorem getReg_queueFlit_host (p : Nat) (f : List Byte) : getReg (queueFlit s p f) a = getReg s a := getReg_pump_host ha _ p

theorem getReg_forwardFlit_host (f : List Byte) : getReg (forwardFlit s none f) a = getReg s a := by
  unfold forwardFlit
  split
  · exact getReg_queueFlit_host ha ..
  · unfold routeFlit
    extract_lets
    split
    · rfl
    · exact getReg_sliceDrop_host ha ..
    · exact getReg_count_host ha ..
    · rw [getReg_queueFlit_host ha]
      split
      · exact getReg_count_host ha ..
      · rfl

theorem getReg_launch_host (m : Msg) : getReg (launch s m) a = getReg s a := by
  unfold launch
  split
  · rfl
  · exact List.foldlRecOn (motive := fun t : State => getReg t a = getReg s a) _ _ rfl
      fun t ht f _ => (getReg_forwardFlit_host ha t f).trans ht

theorem getReg_sendMember_host (k m op : Nat) (target : Word) (content : List Byte) :
    getReg (sendMember s k m op target content) a = getReg s a := getReg_launch_host ha _ _

/-- What a lead sends on to its members is in no register of the host's pages. -/
theorem getReg_forwardCmd_host (c : Cmd) : getReg (forwardCmd s c) a = getReg s a := by
  unfold forwardCmd
  split
  · split
    · exact List.foldlRecOn (motive := fun t : State => getReg t a = getReg s a) _ _ rfl
        fun t ht m _ => (getReg_sendMember_host ha ..).trans ht
    · rfl
  · rfl

theorem getReg_traceCmd_host (c : Cmd) (kind aux : Nat) : getReg (traceCmd s c kind aux) a = getReg s a := by
  have quiet : ∀ h : Half, a ≠ blkIntRaw (Reg.trcBlk h.idx) := fun h => by
    have : blkIntRaw (Reg.trcBlk h.idx) < 0x600000 := by cases h <;> decide
    omega
  unfold traceCmd traceBoth
  rw [getReg_trace_other _ _ _ (not_mem_eventRegs (by omega)) quiet, getReg_trace_other _ _ _ (not_mem_eventRegs (by omega)) quiet]

end HostRegister

/-! ### The head of a ring -/

section Head

variable {n : Nat} {drv : Bool}

theorem ringStatus_host (n : Nat) (drv : Bool) : 0x600000 ≤ ringStatus n drv := by
  unfold ringStatus Reg.partDringStatus Reg.qRingStatus qBase
  split <;> omega

theorem ringStatus_not_event (n : Nat) (drv : Bool) : ringStatus n drv ∉ eventRegs :=
  not_mem_eventRegs (Nat.le_trans (by decide) (ringStatus_host n drv))

/-- The blocks that note what is wrong with a command: the galley, and the page of a partition. -/
def NotesCommands (blk : Nat) : Prop := blk = Reg.galBlk ∨ ∃ k, blk = Reg.partBlk k

/-- The status of a ring is none of the registers in which such a block captures an error. -/
theorem ringStatus_not_captured {blk : Nat} (h : NotesCommands blk) : ringStatus n drv ∉ captureRegs blk := by
  simp only [captureRegs, List.mem_cons, ringStatus_not_event, or_false]
  unfold ringStatus Reg.partDringStatus Reg.qRingStatus qBase blkIntRaw blkErrCap
  obtain rfl | ⟨k, rfl⟩ := h
  · unfold Reg.galBlk
    split <;> omega
  · unfold Reg.partBlk
    split <;> omega

theorem sqHead_of_getReg {s t : State} (h : getReg t (ringStatus n drv) = getReg s (ringStatus n drv)) :
    sqHead t n drv = sqHead s n drv := by
  rw [sqHead, getFld, h, sqHead, getFld]

theorem sqHead_of_regs {s t : State} (h : t.regs = s.regs) : sqHead t n drv = sqHead s n drv :=
  sqHead_of_getReg (by rw [getReg, h, getReg])

variable (s : State)

theorem regs_regionRead (r off k : Nat) : (regionRead s r off k).regs = s.regs :=
  (regionRead_keep (m := fun p => decide (p ∈ [Part.hosts, .outputs])) rfl rfl (Keep.refl s)).same .regs rfl

theorem sqHead_setCause {blk : Nat} (h : NotesCommands blk) (i : Nat) :
    sqHead (setCause s blk i) n drv = sqHead s n drv :=
  sqHead_of_getReg (getReg_setCause_other _ _ _ _ fun e => ringStatus_not_captured h (List.mem_cons.mpr (.inl e)))

theorem sqHead_capture {blk : Nat} (h : NotesCommands blk) (code source part addr detail : Nat) :
    sqHead (capture s blk code source part addr detail) n drv = sqHead s n drv :=
  sqHead_of_getReg (getReg_capture_other _ _ _ _ _ _ _ _ (ringStatus_not_captured h))

theorem sqHead_count (off k : Nat) : sqHead (count s off k) n drv = sqHead s n drv :=
  sqHead_of_getReg (getReg_count_host (ringStatus_host n drv) _ _ _)

theorem sqHead_hedgeViolation (part path addr : Nat) : sqHead (hedgeViolation s part path addr) n drv = sqHead s n drv := by
  unfold hedgeViolation
  dsimp only
  rw [sqHead_of_getReg (getReg_raiseEvent_other _ _ _ _ _ _ _ _ (ringStatus_not_event n drv)), sqHead_setCause _ (.inr ⟨part, rfl⟩),
    sqHead_capture _ (.inr ⟨part, rfl⟩), sqHead_count]

/-- CQ_TAIL moves beside SQ_HEAD. -/
theorem sqHead_putFld_tail (k : Nat) (d : Bool) (v : Nat) : sqHead (putFld s (ringStatus k d) 16 16 v) n drv = sqHead s n drv := by
  by_cases same : ringStatus n drv = ringStatus k d
  · rw [sqHead, same, getFld_putFld_disjoint _ _ _ _ _ _ _ (.inl (by decide)), ← same, sqHead]
  · exact sqHead_of_getReg (getReg_putFld_other _ _ _ _ _ _ same)

theorem sqHead_putCompletion (k : Nat) (d : Bool) (bs : List Byte) : sqHead (putCompletion s k d bs) n drv = sqHead s n drv := by
  unfold putCompletion
  extract_lets tail base s1 s2 s3
  have written : sqHead s3 n drv = sqHead s n drv := by
    rw [sqHead_of_regs (regs_writeShadow ..), sqHead_putFld_tail, sqHead_of_regs (regs_regionWrite ..)]
  split
  · exact written
  · have signalled : (signalCompletion s3 k).regs = s3.regs :=
      (signalCompletion_keep (m := fun p => decide (p ∈ [Part.hosts, .msix, .outputs])) rfl rfl rfl (Keep.refl s3)).same .regs rfl
    rw [sqHead_of_regs signalled, written]

theorem sqHead_complete (c : Cmd) (code value : Nat) : sqHead (complete s c code value) n drv = sqHead s n drv := by
  unfold complete completeAs
  extract_lets s0 x
  have refused : sqHead s0 n drv = sqHead s n drv := by
    unfold s0
    split
    · rw [sqHead_setCause _ (.inl rfl), sqHead_count]
    · rfl
  split
  · exact refused
  · rw [sqHead_of_getReg (getReg_traceCmd_host (ringStatus_host n drv) ..), sqHead_putCompletion,
      sqHead_of_regs (setRing_regs ..), refused]

theorem sqHead_acceptRequest (c : Cmd) : sqHead (acceptRequest s c) n drv = sqHead s n drv := by
  unfold acceptRequest
  extract_lets e s1 pend toks
  split
  · rw [sqHead_complete]
    unfold s1
    split
    · exact sqHead_hedgeViolation ..
    · rfl
  · split
    · exact sqHead_complete ..
    · split
      · split
        · exact sqHead_of_regs (regs_regionRead ..)
        · exact sqHead_complete ..
      · rfl

/-- A command that arrives, refused or not, leaves the heads of the submission rings. -/
theorem sqHead_acceptCmd (c : Cmd) : sqHead (acceptCmd s c) n drv = sqHead s n drv := by
  unfold acceptCmd
  split
  · exact sqHead_complete ..
  · split
    · exact (sqHead_complete ..).trans (sqHead_capture _ (.inl rfl) ..)
    · split
      · exact sqHead_acceptRequest ..
      · rfl

end Head

/-- In a ring of a size that SQ_LOG2 may hold (R459) a command fetched moves the head on by one. -/
theorem commandFetch_advances {part : Fin 64} {driver : Bool} {bytes : List Byte} {s : State} (hl : bytes.length = 64)
    (hm : mayFetch s part.val driver = true) (hh : halted s = false) (size : getFld s (ringCtrl part.val driver) 8 5 ≤ 16) :
    Answers (.commandFetch part driver bytes) s fun t =>
      sqHead t part.val driver = (sqHead s part.val driver + 1) % sqSize s part.val driver := by
  have fits : sqSize s part.val driver ≤ 2 ^ 16 := Nat.pow_le_pow_right (by decide) size
  have inside : (sqHead s part.val driver + 1) % sqSize s part.val driver < sqSize s part.val driver := Nat.mod_lt _ (Nat.two_pow_pos _)
  have sized (r off k : Nat) : sqSize (regionRead s r off k) part.val driver = sqSize s part.val driver := by
    rw [sqSize, getFld, getReg, regs_regionRead, sqSize, getFld, getReg]
  refine ⟨_, guarded_next (decide_eq_true hl) _, ?_⟩
  change sqHead (if (!mayFetch s part.val driver || halted s) = true then s else _) _ _ = _
  rw [hm, hh, if_neg (by decide)]
  extract_lets b h s1 s2 ring s3 s4 c
  have moved : sqHead s3 part.val driver = (sqHead s part.val driver + 1) % sqSize s part.val driver := by
    rw [sqHead_of_regs (setRing_regs ..), sqHead, getFld_putFld_same _ _ _ _ _ (by decide), sized,
      Nat.mod_eq_of_lt (Nat.lt_of_lt_of_le inside fits)]
  have shadowed : sqHead s4 part.val driver = sqHead s3 part.val driver := by
    unfold s4
    split
    · rfl
    · exact sqHead_of_regs (regs_writeShadow ..)
  rw [sqHead_acceptCmd, sqHead_of_getReg (getReg_forwardCmd_host (ringStatus_host ..) ..),
    sqHead_of_getReg (getReg_traceCmd_host (ringStatus_host ..) ..), shadowed, moved]

/-! ### A ring larger than its head -/

/-- Partition 0 with a submission ring of 2^17 entries, whose head stands at 65535, the last value that SQ_HEAD can hold. -/
def overlongRing : State :=
  putFld (putFld (putBit (putBit { State.reset with
    west := { HalfState.reset with phase := .ready }, rings := [(0, { RingState.fresh 0 with sqTail := 5 })] }
    (Reg.qRingCtrl 0) 0 true) (Reg.qRingStatus 0) 44 true) (Reg.qRingCtrl 0) 8 5 17) (Reg.qRingStatus 0) 0 16 65535

/-- Refutes O26, at its first clause, which asks for no size of the ring. In `overlongRing` SQ_LOG2 is 17, above the 6 to 16 of R459; the
ring holds a command that the device may fetch, and the head would have to go on from 65535 to 65536, which the 16 bits of SQ_HEAD do not
hold. With a size in range the clause holds (`commandFetch_advances`). -/
theorem not_commandsArriveComplete : ¬ Obligations.CommandsArriveComplete := by
  unfold Obligations.CommandsArriveComplete
  rintro ⟨fetched, -, -, -, -, -, -⟩
  obtain ⟨t, -, head⟩ := fetched 0 false (List.replicate 64 0) overlongRing (by decide) (by decide) (by decide)
  have claimed : (sqHead overlongRing 0 false + 1) % sqSize overlongRing 0 false = 65536 := by decide
  have bound : sqHead t 0 false < 2 ^ 16 := fld_lt _ _ _
  have beyond : sqHead t 0 false = 65536 := head.trans claimed
  omega

end Sys2Proof.Machine
end

section
/-!
PROOFS. What every command leaves (Laws/Keep*.lean, put together): the frame tables, the canonical form of the tables; and what a step is.
-/
namespace Sys2Proof.Machine

/-- A command changes at most what the frame tables list for it, and keeps what every command keeps: the lemmas of Laws/Keep*.lean, one
for each command, at the masks of the tables. -/
theorem exec_keep (c : Instr) (s : State) : KeepRes (fun p => mayChange p c) s (exec c s) :=
  have h {m : Part → Bool} : Keep m s s := Keep.refl s
  match c with
  | .vddHeathInTolerance .. => execVddHeathInTolerance_keep rfl rfl rfl rfl rfl rfl rfl rfl rfl rfl rfl rfl rfl rfl rfl rfl rfl rfl rfl rfl rfl rfl rfl rfl rfl h
  | .vddHeathRemoval .. => execVddHeathRemoval_keep rfl rfl rfl h
  | .pwrgdAssert .. => execPwrgdAssert_keep rfl rfl rfl rfl rfl rfl rfl rfl rfl rfl rfl rfl rfl rfl rfl rfl rfl rfl rfl rfl rfl rfl rfl h
  | .pwrgdDeassert .. => execPwrgdDeassert_keep rfl rfl rfl rfl rfl rfl rfl rfl rfl rfl rfl rfl rfl rfl rfl h
  | .railFault .. => execRailFault_keep rfl rfl rfl rfl rfl rfl rfl rfl rfl rfl rfl rfl rfl rfl rfl rfl rfl rfl h
  | .coldRstN => execColdRstN_keep rfl rfl rfl rfl rfl rfl rfl rfl rfl rfl rfl rfl rfl rfl rfl rfl rfl rfl rfl rfl rfl rfl rfl rfl rfl h
  | .perstN .. => execPerstN_keep rfl rfl rfl h
  | .epochIn => execEpochIn_keep rfl rfl rfl rfl rfl rfl h
  | .refclkLoss .. => execRefclkLoss_keep rfl rfl rfl rfl rfl rfl rfl rfl rfl rfl rfl rfl rfl rfl h
  | .strapReread .. => execStrapReread_keep rfl rfl rfl rfl h
  | .governorEvaluation .. => execGovernorEvaluation_keep rfl rfl rfl rfl rfl h
  | .railOvercurrent r _ => execRailOvercurrent_keep (a0 := r) rfl rfl rfl rfl rfl h
  | .throttleLevelFall .. => execThrottleLevelFall_keep rfl rfl rfl rfl rfl h
  | .limitUnmet .. => execLimitUnmet_keep rfl rfl rfl rfl h
  | .thermalSample .. => execThermalSample_keep rfl rfl rfl rfl rfl rfl rfl rfl h
  | .thermalTrip .. => execThermalTrip_keep rfl rfl rfl rfl rfl rfl rfl rfl rfl rfl rfl rfl rfl rfl rfl h
  | .nvsWriteResume => execNvsWriteResume_keep rfl rfl h
  | .nbuThermalStepFall .. => execNbuThermalStepFall_keep rfl h
  | .clockGate .. => execClockGate_keep rfl h
  | .powerGate .. => execPowerGate_keep rfl rfl h
  | .dieWake .. => execDieWake_keep rfl rfl rfl rfl rfl rfl rfl rfl rfl h
  | .selfRefreshExit .. => execSelfRefreshExit_keep rfl h
  | .entdaa .. => execEntdaa_keep rfl h
  | .setdasa .. => execSetdasa_keep rfl h
  | .i3cPrivateWrite .. => execI3cPrivateWrite_keep rfl rfl rfl rfl h
  | .i3cPrivateRead .. => execI3cPrivateRead_keep rfl rfl h
  | .bypass .. => execBypass_keep rfl rfl h
  | .idcode .. => execIdcode_keep rfl rfl h
  | .samplePreload .. => execSamplePreload_keep rfl rfl h
  | .extest .. => execExtest_keep rfl rfl h
  | .clamp .. => execClamp_keep rfl rfl h
  | .highz .. => execHighz_keep rfl rfl h
  | .coldReset .. => execColdReset_keep rfl rfl rfl rfl rfl rfl rfl rfl rfl rfl rfl rfl rfl rfl rfl rfl rfl rfl rfl rfl rfl rfl rfl rfl rfl rfl rfl h
  | .halfReset .. => execHalfReset_keep rfl rfl rfl rfl rfl rfl rfl rfl rfl rfl rfl rfl rfl rfl rfl rfl rfl rfl rfl rfl rfl rfl rfl rfl rfl rfl rfl h
  | .warmReset .. => execWarmReset_keep rfl rfl rfl rfl rfl rfl rfl rfl rfl rfl rfl rfl rfl rfl rfl rfl rfl rfl rfl rfl rfl rfl rfl rfl rfl rfl rfl h
  | .heathPowerGood .. => execHeathPowerGood_keep rfl rfl rfl rfl rfl rfl rfl rfl rfl rfl rfl rfl rfl rfl rfl rfl rfl h
  | .nvsRead .. => execNvsRead_keep rfl rfl rfl rfl rfl rfl rfl rfl rfl rfl rfl rfl rfl rfl rfl rfl rfl h
  | .hubSelfTest .. => execHubSelfTest_keep rfl rfl rfl rfl rfl rfl rfl rfl rfl rfl rfl rfl rfl rfl rfl rfl h
  | .identityAndFuses .. => execIdentityAndFuses_keep rfl rfl rfl rfl rfl rfl rfl rfl rfl rfl rfl rfl rfl rfl rfl rfl h
  | .memoryDieTraining .. => execMemoryDieTraining_keep rfl rfl rfl rfl rfl rfl rfl rfl rfl rfl rfl rfl rfl rfl rfl rfl rfl h
  | .memorySelfTest .. => execMemorySelfTest_keep rfl rfl rfl rfl rfl h
  | .computeDieSelfTest .. => execComputeDieSelfTest_keep rfl rfl rfl rfl rfl rfl rfl rfl h
  | .portTrained .. => execPortTrained_keep rfl rfl rfl rfl rfl rfl rfl rfl rfl rfl rfl rfl rfl rfl rfl rfl h
  | .linkWaitExpiry .. => execLinkWaitExpiry_keep rfl rfl rfl rfl rfl h
  | .trainingTimeout .. => execTrainingTimeout_keep rfl rfl rfl rfl rfl rfl rfl rfl rfl rfl rfl rfl rfl rfl rfl rfl h
  | .originListenExpiry => execOriginListenExpiry_keep rfl h
  | .epochAbsent => execEpochAbsent_keep rfl rfl rfl rfl rfl rfl h
  | .timeNoSource => execTimeNoSource_keep rfl rfl rfl rfl rfl h
  | .wipe .. => execWipe_keep rfl rfl rfl rfl rfl rfl rfl rfl rfl rfl rfl rfl rfl rfl rfl rfl rfl rfl rfl rfl rfl h
  | .ready => execReady_keep rfl rfl rfl rfl rfl rfl rfl h
  | .startStepTimeout .. => execStartStepTimeout_keep rfl rfl rfl rfl rfl rfl rfl rfl rfl rfl rfl rfl rfl rfl rfl rfl h
  | .autoRestart .. => execAutoRestart_keep rfl rfl rfl h
  | .resumeHalted .. => execResumeHalted_keep rfl rfl rfl rfl rfl rfl rfl rfl h
  | .lifecycle .. => execLifecycle_keep rfl rfl rfl rfl rfl rfl h
  | .lifecycleChange => execLifecycleChange_keep rfl rfl rfl rfl rfl rfl rfl rfl rfl rfl rfl rfl rfl rfl rfl rfl rfl rfl rfl rfl rfl rfl rfl rfl rfl h
  | .summary .. => execSummary_keep rfl rfl rfl rfl rfl rfl rfl rfl rfl rfl rfl rfl rfl rfl rfl rfl rfl h
  | .summaryResend .. => execSummaryResend_keep rfl rfl rfl rfl rfl rfl h
  | .blkEnable .. => execBlkEnable_keep rfl rfl rfl rfl rfl rfl rfl rfl h
  | .blkQuiesce .. => execBlkQuiesce_keep rfl rfl rfl rfl rfl rfl rfl rfl h
  | .quiesced .. => execQuiesced_keep rfl h
  | .blockReset .. => execBlockReset_keep rfl rfl rfl rfl rfl rfl rfl rfl h
  | .blockResetDone .. => execBlockResetDone_keep rfl rfl rfl rfl rfl h
  | .idleBoundaryChange => execIdleBoundaryChange_keep rfl rfl rfl rfl rfl rfl rfl rfl rfl rfl rfl rfl rfl rfl rfl rfl rfl rfl rfl rfl rfl rfl rfl h
  | .blkIntEnWrite .. => execBlkIntEnWrite_keep rfl rfl rfl rfl rfl rfl rfl rfl h
  | .blkSnap .. => execBlkSnap_keep rfl rfl rfl rfl rfl rfl rfl rfl h
  | .blkOwnerWrite .. => execBlkOwnerWrite_keep rfl rfl rfl rfl rfl rfl rfl rfl h
  | .windowIndexLatch .. => execWindowIndexLatch_keep rfl rfl rfl rfl rfl rfl rfl rfl h
  | .registerWrite .. => execRegisterWrite_keep rfl rfl rfl rfl rfl rfl rfl rfl rfl rfl rfl rfl rfl rfl rfl rfl rfl rfl rfl rfl rfl rfl rfl rfl rfl rfl rfl h
  | .refusedRead .. => execRefusedRead_keep rfl rfl rfl rfl rfl h
  | .devAccessErrWrite .. => execDevAccessErrWrite_keep rfl rfl rfl rfl rfl rfl rfl rfl h
  | .sectorRead .. => execSectorRead_keep rfl rfl rfl rfl rfl rfl rfl rfl rfl rfl rfl rfl rfl rfl rfl rfl rfl rfl rfl h
  | .fullWrite .. => execFullWrite_keep rfl rfl rfl rfl rfl rfl h
  | .partialWrite .. => execPartialWrite_keep rfl rfl rfl rfl rfl rfl rfl rfl rfl rfl rfl rfl rfl rfl rfl rfl rfl rfl rfl h
  | .parityXor .. => execParityXor_keep rfl rfl rfl rfl rfl rfl rfl rfl rfl rfl rfl rfl rfl rfl rfl rfl rfl rfl h
  | .appendPromotion d c => execAppendPromotion_keep (a0 := d) (a1 := c) h
  | .patrolScrub .. => execPatrolScrub_keep rfl rfl rfl rfl rfl rfl rfl rfl rfl rfl rfl rfl rfl rfl rfl rfl rfl rfl rfl h
  | .ceLimit .. => execCeLimit_keep rfl rfl rfl rfl rfl rfl rfl rfl rfl rfl rfl rfl rfl rfl rfl rfl rfl rfl rfl h
  | .ueLimit .. => execUeLimit_keep rfl rfl rfl rfl rfl rfl rfl rfl rfl rfl rfl rfl rfl rfl rfl rfl rfl rfl rfl h
  | .limitWindowRestart .. => execLimitWindowRestart_keep rfl rfl h
  | .hwFail .. => execHwFail_keep rfl rfl rfl rfl rfl rfl rfl rfl rfl rfl rfl rfl rfl rfl rfl rfl rfl rfl rfl h
  | .chMapout .. => execChMapout_keep rfl rfl rfl rfl rfl rfl rfl rfl rfl rfl rfl rfl rfl rfl rfl rfl rfl rfl rfl rfl h
  | .drainCopyDone .. => execDrainCopyDone_keep rfl rfl rfl rfl rfl rfl rfl rfl rfl rfl rfl rfl rfl rfl rfl rfl rfl rfl rfl rfl h
  | .restoreDone .. => execRestoreDone_keep rfl rfl rfl rfl rfl rfl rfl rfl rfl rfl rfl rfl rfl rfl rfl rfl rfl rfl rfl rfl rfl h
  | .rebuildDone .. => execRebuildDone_keep rfl rfl rfl rfl rfl rfl rfl rfl rfl rfl rfl rfl rfl rfl rfl rfl rfl rfl rfl h
  | .quireParityMoved .. => execQuireParityMoved_keep rfl h
  | .nospaceWait .. => execNospaceWait_keep rfl rfl rfl rfl rfl rfl rfl rfl rfl h
  | .parkThreshold .. => execParkThreshold_keep rfl h
  | .ttl .. => execTtl_keep rfl h
  | .t2ReadCompletion .. => execT2ReadCompletion_keep rfl rfl rfl rfl rfl rfl rfl rfl rfl rfl rfl h
  | .tierLate .. => execTierLate_keep rfl rfl rfl rfl rfl rfl rfl rfl rfl rfl rfl rfl h
  | .migrationDone .. => execMigrationDone_keep rfl rfl rfl rfl rfl rfl rfl rfl rfl rfl rfl rfl rfl rfl rfl rfl h
  | .queryLoad .. => execQueryLoad_keep rfl rfl rfl rfl rfl h
  | .pageJob .. => execPageJob_keep rfl rfl rfl rfl rfl rfl rfl rfl rfl h
  | .pageStart .. => execPageStart_keep rfl rfl rfl rfl rfl rfl rfl h
  | .pageEnd .. => execPageEnd_keep rfl rfl rfl rfl rfl rfl rfl h
  | .yieldWindowEnd .. => execYieldWindowEnd_keep rfl rfl rfl rfl rfl rfl rfl h
  | .refresh .. => execRefresh_keep rfl rfl rfl rfl rfl rfl h
  | .partialRecord .. => execPartialRecord_keep rfl rfl rfl rfl rfl rfl rfl rfl rfl h
  | .busStatus .. => execBusStatus_keep rfl rfl rfl rfl rfl rfl rfl h
  | .busAck .. => execBusAck_keep rfl rfl rfl rfl rfl rfl rfl rfl rfl rfl rfl rfl rfl rfl rfl rfl rfl rfl rfl h
  | .nbuParity .. => execNbuParity_keep rfl rfl rfl rfl rfl rfl rfl rfl rfl rfl rfl rfl rfl rfl rfl rfl rfl rfl rfl h
  | .nbuHang .. => execNbuHang_keep rfl rfl rfl rfl rfl rfl rfl rfl rfl rfl rfl rfl rfl rfl rfl rfl rfl rfl rfl h
  | .faultWindowRestart .. => execFaultWindowRestart_keep rfl h
  | .nbuMapout .. => execNbuMapout_keep rfl rfl rfl rfl rfl rfl rfl rfl rfl rfl rfl rfl rfl rfl rfl rfl rfl rfl rfl rfl h
  | .nbuBiasCommit .. => execNbuBiasCommit_keep rfl rfl rfl rfl rfl rfl h
  | .nbuBiasOwnerWrite .. => execNbuBiasOwnerWrite_keep rfl rfl rfl rfl rfl rfl h
  | .t0Ue .. => execT0Ue_keep rfl rfl rfl rfl rfl rfl rfl rfl rfl rfl rfl rfl rfl rfl rfl rfl h
  | .coreParity .. => execCoreParity_keep rfl rfl rfl rfl rfl rfl rfl rfl rfl rfl rfl rfl rfl rfl rfl rfl h
  | .coreHang .. => execCoreHang_keep rfl rfl rfl rfl rfl rfl rfl rfl rfl rfl rfl rfl rfl rfl rfl rfl h
  | .spareWake .. => execSpareWake_keep rfl rfl h
  | .spareTaken .. => execSpareTaken_keep rfl rfl rfl rfl rfl rfl h
  | .nopSort .. => execNopSort_keep rfl rfl rfl rfl rfl rfl rfl rfl rfl rfl rfl rfl rfl h
  | .streamSort .. => execStreamSort_keep rfl rfl rfl rfl rfl rfl rfl rfl rfl rfl rfl rfl rfl rfl rfl rfl rfl h
  | .fetchSort .. => execFetchSort_keep rfl rfl rfl rfl rfl rfl rfl rfl rfl rfl rfl rfl rfl rfl rfl rfl rfl rfl h
  | .matmul .. => execMatmul_keep rfl rfl rfl rfl rfl rfl rfl rfl rfl rfl rfl rfl rfl h
  | .drainSort .. => execDrainSort_keep rfl rfl rfl rfl rfl rfl rfl rfl rfl rfl rfl rfl rfl rfl h
  | .vop .. => execVop_keep rfl rfl rfl rfl rfl rfl rfl rfl rfl rfl rfl rfl rfl rfl h
  | .mergeSort .. => execMergeSort_keep rfl rfl rfl rfl rfl rfl rfl rfl rfl rfl rfl rfl rfl rfl h
  | .sampleSort .. => execSampleSort_keep rfl rfl rfl rfl rfl rfl rfl rfl rfl rfl rfl rfl rfl rfl h
  | .foldSort .. => execFoldSort_keep rfl rfl rfl rfl rfl rfl rfl rfl rfl rfl rfl rfl rfl rfl rfl rfl rfl rfl rfl h
  | .storeSort .. => execStoreSort_keep rfl rfl rfl rfl rfl rfl rfl rfl rfl rfl rfl rfl rfl rfl rfl rfl rfl rfl rfl h
  | .copySort .. => execCopySort_keep rfl rfl rfl rfl rfl rfl rfl rfl rfl rfl rfl rfl rfl rfl h
  | .sendSort .. => execSendSort_keep rfl rfl rfl rfl rfl rfl rfl rfl rfl rfl rfl rfl rfl h
  | .attendSort .. => execAttendSort_keep rfl rfl rfl rfl rfl rfl rfl rfl rfl rfl rfl rfl rfl rfl h
  | .atomicAdd .. => execAtomicAdd_keep rfl rfl rfl rfl rfl rfl rfl rfl rfl rfl rfl rfl rfl rfl rfl rfl rfl rfl h
  | .creditStall .. => execCreditStall_keep rfl rfl rfl rfl rfl rfl rfl rfl rfl rfl rfl rfl h
  | .stepWatchdog .. => execStepWatchdog_keep rfl rfl rfl rfl rfl rfl rfl rfl rfl rfl rfl rfl h
  | .stepTrigger => execStepTrigger_keep rfl rfl rfl rfl rfl rfl rfl rfl rfl rfl rfl h
  | .stepClose => execStepClose_keep rfl rfl rfl rfl rfl rfl rfl rfl rfl rfl rfl rfl rfl rfl rfl rfl rfl rfl rfl rfl rfl rfl rfl h
  | .galleyReload .. => execGalleyReload_keep rfl rfl rfl rfl rfl h
  | .stepBatchRecord .. => execStepBatchRecord_keep rfl rfl rfl rfl rfl rfl rfl rfl h
  | .turnCopyDone .. => execTurnCopyDone_keep rfl h
  | .endedHold .. => execEndedHold_keep rfl h
  | .admitRequest => execAdmitRequest_keep rfl rfl rfl rfl rfl rfl rfl rfl rfl rfl rfl rfl rfl h
  | .prompt => execPrompt_keep rfl rfl rfl rfl rfl rfl rfl rfl rfl rfl rfl rfl rfl rfl rfl rfl rfl h
  | .propose => execPropose_keep rfl rfl rfl rfl rfl rfl rfl rfl rfl rfl rfl rfl rfl rfl rfl rfl rfl h
  | .pauseRequest => execPauseRequest_keep rfl rfl rfl rfl rfl rfl rfl rfl rfl rfl rfl rfl rfl rfl rfl rfl rfl h
  | .endRequest => execEndRequest_keep rfl rfl rfl rfl rfl rfl rfl rfl rfl rfl rfl rfl rfl rfl rfl rfl rfl h
  | .loadTensor => execLoadTensor_keep rfl rfl rfl rfl rfl rfl rfl rfl rfl rfl rfl rfl rfl h
  | .migrate => execMigrate_keep rfl rfl rfl rfl rfl rfl rfl rfl rfl rfl rfl rfl rfl rfl rfl rfl rfl h
  | .setClass => execSetClass_keep rfl rfl rfl rfl rfl rfl rfl rfl rfl rfl rfl rfl rfl rfl rfl rfl rfl h
  | .commandFetch .. => execCommandFetch_keep rfl rfl rfl rfl rfl rfl rfl rfl rfl rfl h
  | .sqFetch .. => execSqFetch_keep rfl rfl rfl rfl h
  | .tokenFetchDone .. => execTokenFetchDone_keep rfl rfl rfl rfl rfl rfl rfl rfl rfl h
  | .galPartCommit .. => execGalPartCommit_keep rfl rfl rfl rfl rfl rfl rfl rfl h
  | .loadForme .. => execLoadForme_keep rfl rfl rfl rfl rfl rfl rfl h
  | .formeDone => execFormeDone_keep rfl rfl rfl rfl rfl rfl h
  | .activate .. => execActivate_keep rfl rfl rfl rfl rfl rfl rfl rfl rfl h
  | .unload .. => execUnload_keep rfl rfl rfl rfl rfl rfl rfl h
  | .clearSuspect .. => execClearSuspect_keep rfl rfl rfl rfl rfl rfl rfl h
  | .dataFlit .. => execDataFlit_keep rfl rfl rfl rfl rfl rfl h
  | .linkManagementFlit .. => execLinkManagementFlit_keep rfl rfl rfl rfl rfl rfl h
  | .idleFlit p _ => execIdleFlit_keep (a0 := p) h
  | .laneFail .. => execLaneFail_keep rfl rfl rfl rfl rfl rfl rfl rfl h
  | .spareLaneTrained .. => execSpareLaneTrained_keep rfl rfl rfl rfl rfl rfl rfl rfl h
  | .widthChange .. => execWidthChange_keep rfl rfl rfl h
  | .linkDown .. => execLinkDown_keep rfl rfl rfl rfl rfl rfl h
  | .routeAround .. => execRouteAround_keep rfl rfl rfl rfl rfl rfl h
  | .resend .. => execResend_keep rfl rfl rfl rfl rfl rfl h
  | .t0Write => execT0Write_keep rfl rfl rfl rfl rfl rfl rfl rfl h
  | .signalMsg => execSignalMsg_keep rfl rfl rfl rfl rfl rfl rfl h
  | .partialMsg => execPartialMsg_keep rfl rfl rfl rfl rfl rfl rfl rfl h
  | .appendMsg => execAppendMsg_keep rfl rfl rfl rfl rfl rfl rfl rfl h
  | .stepReport .. => execStepReport_keep rfl rfl rfl rfl rfl rfl rfl rfl rfl rfl rfl rfl h
  | .stepAnnounce .. => execStepAnnounce_keep rfl rfl rfl rfl rfl rfl rfl rfl rfl rfl rfl rfl rfl rfl rfl rfl rfl rfl rfl rfl rfl rfl rfl h
  | .cmdForward .. => execCmdForward_keep rfl rfl rfl rfl rfl rfl rfl h
  | .class0Lost => execClass0Lost_keep rfl rfl rfl rfl rfl rfl rfl rfl rfl rfl rfl rfl h
  | .ackMsg .. => execAckMsg_keep rfl rfl rfl rfl rfl rfl rfl rfl rfl rfl h
  | .timeExchange => execTimeExchange_keep rfl rfl rfl rfl rfl rfl rfl h
  | .timeReq .. => execTimeReq_keep rfl rfl rfl rfl rfl rfl h
  | .timeResp .. => execTimeResp_keep rfl rfl rfl rfl rfl rfl rfl rfl rfl rfl h
  | .noParentTimeout => execNoParentTimeout_keep rfl rfl h
  | .stileMsg .. => execStileMsg_keep rfl rfl rfl rfl rfl rfl rfl rfl rfl rfl rfl rfl rfl rfl rfl rfl rfl rfl rfl rfl rfl rfl rfl rfl rfl rfl rfl h
  | .chunkMsg => execChunkMsg_keep rfl rfl rfl rfl rfl rfl rfl rfl rfl rfl rfl rfl rfl rfl rfl rfl rfl rfl rfl h
  | .linkEn .. => execLinkEn_keep rfl rfl rfl rfl rfl rfl rfl rfl rfl rfl rfl rfl rfl rfl rfl rfl rfl h
  | .drainPort .. => execDrainPort_keep rfl rfl rfl rfl rfl rfl rfl rfl rfl rfl rfl rfl rfl rfl rfl rfl rfl h
  | .portDrainDone .. => execPortDrainDone_keep rfl rfl rfl h
  | .patchPort .. => execPatchPort_keep rfl rfl rfl rfl rfl rfl rfl rfl rfl rfl rfl rfl rfl rfl rfl rfl rfl h
  | .retrain .. => execRetrain_keep rfl rfl rfl rfl rfl rfl rfl rfl rfl rfl rfl rfl rfl rfl rfl rfl rfl h
  | .rejoin .. => execRejoin_keep rfl rfl rfl rfl rfl rfl rfl rfl rfl rfl rfl rfl rfl rfl rfl rfl rfl h
  | .partnerLight .. => execPartnerLight_keep rfl rfl rfl h
  | .patchDarkTimeout .. => execPatchDarkTimeout_keep rfl rfl rfl rfl rfl h
  | .fabMapWrite .. => execFabMapWrite_keep rfl rfl rfl rfl rfl rfl h
  | .fabRtCommit .. => execFabRtCommit_keep rfl rfl rfl rfl rfl rfl h
  | .mbxPartAssign .. => execMbxPartAssign_keep rfl rfl rfl rfl rfl rfl h
  | .partRelease .. => execPartRelease_keep rfl rfl rfl rfl rfl rfl h
  | .partReset .. => execPartReset_keep rfl rfl rfl rfl rfl rfl rfl rfl h
  | .partCtrlReset .. => execPartCtrlReset_keep rfl rfl rfl rfl rfl rfl rfl rfl h
  | .wipeDone .. => execWipeDone_keep rfl rfl rfl rfl rfl rfl h
  | .resetDone .. => execResetDone_keep rfl rfl rfl rfl rfl h
  | .setTwin .. => execSetTwin_keep rfl rfl rfl rfl rfl rfl h
  | .setShape .. => execSetShape_keep rfl rfl rfl rfl rfl rfl rfl h
  | .setEpochBase .. => execSetEpochBase_keep rfl rfl rfl rfl rfl rfl rfl h
  | .takeover .. => execTakeover_keep rfl rfl rfl rfl rfl rfl rfl h
  | .functionLevelReset .. => execFunctionLevelReset_keep rfl rfl rfl rfl rfl rfl rfl rfl h
  | .d3hot .. => execD3hot_keep rfl h
  | .pcieLinkDown .. => execPcieLinkDown_keep rfl h
  | .devRegionCommit .. => execDevRegionCommit_keep rfl rfl rfl rfl rfl rfl rfl rfl h
  | .devHostArbWrite .. => execDevHostArbWrite_keep rfl rfl rfl rfl rfl rfl rfl h
  | .qSqDb .. => execQSqDb_keep rfl rfl rfl rfl rfl rfl rfl h
  | .qCqDb .. => execQCqDb_keep rfl rfl rfl rfl rfl rfl rfl h
  | .qOutDb .. => execQOutDb_keep rfl rfl rfl rfl rfl rfl rfl h
  | .ringEnable .. => execRingEnable_keep rfl rfl rfl rfl rfl rfl rfl h
  | .ringDisable .. => execRingDisable_keep rfl rfl rfl rfl rfl rfl rfl h
  | .cqDelayExpiry .. => execCqDelayExpiry_keep rfl rfl rfl h
  | .heartbeat .. => execHeartbeat_keep rfl rfl h
  | .mcPeerLost .. => execMcPeerLost_keep rfl rfl rfl rfl h
  | .acquire .. => execAcquire_keep rfl rfl rfl rfl rfl h
  | .renew .. => execRenew_keep rfl rfl h
  | .release .. => execRelease_keep rfl rfl rfl rfl rfl h
  | .leaseExpiry => execLeaseExpiry_keep rfl rfl rfl rfl rfl h
  | .renewTimeout .. => execRenewTimeout_keep rfl h
  | .mcWatchdog .. => execMcWatchdog_keep rfl rfl rfl rfl rfl rfl rfl rfl rfl rfl rfl rfl rfl rfl h
  | .hostArbActing .. => execHostArbActing_keep rfl rfl rfl rfl rfl h
  | .fenced => execFenced_keep rfl rfl rfl rfl rfl rfl rfl rfl rfl rfl rfl rfl rfl h
  | .hubLinkLost => execHubLinkLost_keep rfl rfl rfl rfl rfl rfl rfl rfl rfl rfl rfl rfl rfl rfl rfl rfl rfl rfl rfl rfl rfl rfl rfl h
  | .mirrorOpen => execMirrorOpen_keep rfl rfl rfl rfl rfl rfl rfl rfl rfl h
  | .mirrorTokens => execMirrorTokens_keep rfl rfl rfl rfl rfl rfl rfl h
  | .mirrorRows => execMirrorRows_keep rfl rfl rfl rfl rfl rfl rfl rfl rfl rfl rfl h
  | .mirrorStep => execMirrorStep_keep rfl rfl rfl rfl rfl rfl rfl rfl h
  | .mirrorChange => execMirrorChange_keep rfl rfl rfl rfl rfl rfl rfl h
  | .mirrorEnd => execMirrorEnd_keep rfl rfl rfl rfl rfl rfl rfl rfl h
  | .mirrorSync => execMirrorSync_keep rfl rfl rfl rfl rfl rfl rfl rfl rfl rfl rfl h
  | .syncDone => execSyncDone_keep rfl rfl rfl rfl rfl rfl rfl h
  | .beatMsg => execBeatMsg_keep rfl rfl rfl rfl rfl rfl rfl h
  | .declareMsg => execDeclareMsg_keep rfl rfl rfl rfl rfl rfl rfl h
  | .handoffMsg => execHandoffMsg_keep rfl rfl rfl rfl rfl rfl rfl h
  | .handoffSend .. => execHandoffSend_keep rfl rfl rfl rfl rfl rfl rfl h
  | .refuseMsg => execRefuseMsg_keep rfl rfl rfl rfl rfl rfl rfl rfl rfl rfl rfl h
  | .mirrorTimeout .. => execMirrorTimeout_keep rfl rfl rfl rfl rfl rfl rfl rfl rfl rfl rfl h
  | .isolated => execIsolated_keep rfl rfl rfl rfl rfl rfl rfl rfl rfl rfl rfl rfl rfl h
  | .homeSilent .. => execHomeSilent_keep rfl rfl rfl rfl rfl h
  | .groupReportTimeout .. => execGroupReportTimeout_keep rfl rfl rfl rfl rfl rfl rfl rfl rfl rfl rfl rfl h
  | .leadLost .. => execLeadLost_keep rfl rfl rfl rfl rfl rfl rfl rfl rfl rfl rfl rfl rfl rfl rfl h
  | .hubLastgaspClr .. => execHubLastgaspClr_keep rfl rfl rfl rfl rfl rfl rfl rfl h
  | .logDegraded => execLogDegraded_keep rfl rfl rfl h
  | .logResumed => execLogResumed_keep rfl rfl rfl rfl rfl h
  | .counterWrite .. => execCounterWrite_keep rfl rfl rfl rfl rfl rfl rfl rfl h
  | .groupSnapshot .. => execGroupSnapshot_keep rfl rfl rfl rfl rfl rfl h
  | .groupClear .. => execGroupClear_keep rfl rfl rfl rfl rfl rfl h
  | .snapshotCapture => execSnapshotCapture_keep rfl rfl rfl rfl rfl h
  | .autoSnapshot => execAutoSnapshot_keep rfl rfl h
  | .traceRecord .. => execTraceRecord_keep rfl rfl rfl rfl rfl h
  | .trcClear .. => execTrcClear_keep rfl rfl rfl rfl rfl rfl rfl rfl h
  | .trcMark .. => execTrcMark_keep rfl rfl rfl rfl rfl rfl rfl rfl h
  | .trcDumpGo .. => execTrcDumpGo_keep rfl rfl rfl rfl rfl rfl rfl rfl h
  | .dumpDone .. => execDumpDone_keep rfl rfl rfl rfl h
  | .boundaryStopRequest .. => execBoundaryStopRequest_keep rfl rfl rfl rfl rfl rfl rfl rfl rfl rfl rfl rfl rfl rfl rfl h
  | .immediateStopRequest .. => execImmediateStopRequest_keep rfl rfl rfl rfl rfl rfl rfl rfl rfl rfl rfl rfl rfl rfl rfl h
  | .stopRelease .. => execStopRelease_keep rfl rfl rfl rfl rfl rfl rfl rfl rfl rfl rfl rfl rfl rfl rfl h
  | .stopImmediate .. => execStopImmediate_keep rfl rfl rfl rfl rfl rfl rfl h
  | .stopBoundary .. => execStopBoundary_keep rfl rfl rfl rfl rfl rfl rfl h
  | .stopReleased => execStopReleased_keep rfl rfl rfl rfl rfl rfl rfl rfl rfl rfl rfl rfl rfl rfl rfl rfl rfl rfl h
  | .eventRecordWrite .. => execEventRecordWrite_keep rfl rfl rfl rfl rfl rfl h
  | .evtSummary => execEvtSummary_keep rfl h
  | .resumeCommand => execResumeCommand_keep rfl rfl rfl rfl rfl rfl rfl rfl rfl rfl rfl rfl rfl rfl rfl rfl rfl h
  | .pcieLinkUp .. => execPcieLinkUp_keep rfl rfl rfl rfl rfl h
  | .refclkReturn .. => execRefclkReturn_keep rfl h
  | .d0Enter .. => execD0Enter_keep rfl rfl rfl h
  | .occupancyTick => execOccupancyTick_keep rfl rfl rfl rfl rfl h
  | .t0Scrub .. => execT0Scrub_keep rfl rfl rfl rfl rfl rfl rfl rfl rfl rfl rfl rfl rfl rfl rfl rfl h

/-- A step keeps what every command keeps; an idle one changes the time alone. -/
theorem canon_step {s t : State} (hs : Canon s) (h : step s = .next t) : Canon t := by
  unfold step at h
  split at h
  · cases h
    exact hs
  · exact ((exec_keep _ _).of _ h).canon hs

/-- Settles O50: the front command keeps the canonical form, as every command does, and a tick writes no table. -/
theorem stepKeepsCanon : Obligations.StepKeepsCanon := by
  unfold Obligations.StepKeepsCanon
  intro s t hs h
  exact canon_step hs h

/-- Settles O52: both clauses are read off `exec_keep`. -/
theorem commandsKeepFrames : Obligations.CommandsKeepFrames := by
  unfold Obligations.CommandsKeepFrames
  refine ⟨?frames, ?queue⟩
  case frames =>
    intro c s t p h hp
    exact ((exec_keep c s).of t h).same p hp
  case queue =>
    intro c s t h
    exact ((exec_keep c s).of t h).pending

/-- Settles O45: `step` looks at the queue alone. -/
theorem stepRunsFront : Obligations.StepRunsFront := by
  unfold Obligations.StepRunsFront
  intro c rest s h
  unfold step
  rw [h]

/-- The servo adds 0, 1 or 2 ns in a tick. -/
theorem slewed_le (c : Clock) : (slewed c).1 ≤ 2 := by
  unfold slewed
  split
  · exact Nat.le_succ 1
  · split
    · exact Nat.le_refl 2
    · exact Nat.zero_le 2

/-- Of the NVS a tick changes the timer alone. -/
theorem tick_nvs (s : State) : (tick s).nvs = { s.nvs with timer := (tick s).nvs.timer } := by
  unfold tick
  dsimp only
  split <;> rfl

/-- Settles O46: the definition of a tick, with the bound of the servo. -/
theorem idleTick : Obligations.IdleTick := by
  unfold Obligations.IdleTick
  refine ⟨?idle, ?ticks⟩
  case idle =>
    intro s h
    unfold step
    rw [h]
  case ticks =>
    intro s
    refine ⟨rfl, slewed_le s.clock, ?_⟩
    rw [← tick_nvs]
    rfl

/-- Settles O49: the reset state is a literal whose tables list nothing, so each register reads as its reset value. -/
theorem resetState : Obligations.ResetState := by
  unfold Obligations.ResetState
  rintro s rfl
  refine ⟨rfl, rfl, rfl, rfl, rfl, rfl, rfl, rfl, rfl, rfl, rfl, rfl, rfl, rfl, rfl, fun off => rfl, ?canon⟩
  case canon => exact ⟨rfl, rfl, rfl, rfl⟩

end Sys2Proof.Machine
end

section
/-!
PROOFS. Where a command faults: each answers a next state exactly where its operands are well formed and fit the state.
-/
namespace Sys2Proof.Machine

/-- The result is a next state where `b` holds and faults elsewhere. -/
def Meets (b : Bool) (r : Result) : Prop := ∃ t, r = guarded b t

theorem meets_next (t : State) : Meets true (.next t) := ⟨t, rfl⟩

theorem meets_guarded {b : Bool} (h : b = true) (t : State) : Meets true (guarded b t) := ⟨t, by rw [h]⟩

/-- A write names the register of a row where it names that register. -/
theorem isReg_of_writeNames {w : RegWrite} {k : PageKind} {o : Nat} (h : writeNames w = some (k, o)) : isReg w k o = true :=
  decide_eq_true h

/-- A request of the mailbox is run by the row of its opcode. -/
theorem mboxWrite_meets {w : RegWrite} (s : State) (h : writeNames w = some (.dev0, 0x400)) : Meets true (mboxWrite w s) := by
  unfold mboxWrite
  split
  · exact meets_next _
  · next hgo =>
    have asked {op : Nat} (ho : fld w.val 8 8 = op) : isMbox w op = true := by
      unfold isMbox
      rw [isReg_of_writeNames h, ho]
      simpa using hgo
    split
    case h_9 => exact meets_next _
    all_goals exact meets_guarded (asked ‹_›) _

/-- An operation on a forme is run by the row of its OP. -/
theorem formeWrite_meets {w : RegWrite} (s : State) (h : writeNames w = some (.gal3, 0x100)) : Meets true (formeWrite w s) := by
  have asked {op : Nat} (ho : fld w.val 32 3 = op) : (isReg w .gal3 0x100 && decide (fld w.val 32 3 = op)) = true := by
    rw [isReg_of_writeNames h, ho, decide_eq_true rfl, Bool.and_true]
  unfold formeWrite
  split
  · exact meets_guarded (asked ‹_›) _
  · exact meets_guarded (asked ‹_›) _
  · exact meets_guarded (asked ‹_›) _
  · exact meets_guarded (asked ‹_›) _
  · exact meets_next _

/-- A register write always answers: the command of a register with one of its own is guarded by the name of that register. -/
theorem anyWrite_meets (w : RegWrite) (s : State) : Meets true (anyWrite w s) := by
  unfold anyWrite
  split
  · exact meets_next _
  · next k o hn =>
    cases k
    all_goals dsimp only
    case dev0 =>
      repeat' split
      case isFalse.isFalse.isFalse.isFalse.isTrue ho => exact mboxWrite_meets s (ho ▸ hn)
      case isFalse.isFalse.isFalse.isFalse.isFalse => exact meets_next _
      all_goals exact meets_guarded (by simp [isReg, *]) _
    case gal3 =>
      split
      · next ho => exact formeWrite_meets s (ho ▸ hn)
      · exact meets_next _
    all_goals repeat' split
    any_goals exact meets_next _
    all_goals exact meets_guarded (by simp [isReg, *]) _

/-- MEMORY_SELF_TEST asks for bank pairs of the die. -/
theorem execMemorySelfTest_meets (d : Fin 8) (pairs : List (Nat × Nat)) (channels : BitVec 16) (optDone : Bool) (s : State) :
    Meets (pairs.all fun x => decide (x.1 < 16 ∧ x.2 < 64)) (execMemorySelfTest d pairs channels optDone s) := by
  unfold execMemorySelfTest
  cases pairs.all fun x => decide (x.1 < 16 ∧ x.2 < 64)
  · exact ⟨s, rfl⟩
  · dsimp only
    rw [Bool.not_true, if_neg Bool.false_ne_true]
    split
    · exact meets_next _
    · exact meets_next _

/-- The data of a read of a move is as long as was asked for. -/
theorem execT2ReadCompletion_meets (id off : Nat) (data : List Byte) (ok : Bool) (s : State) :
    Meets ((Instr.t2ReadCompletion id off data ok).fits s) (execT2ReadCompletion id off data ok s) := by
  unfold execT2ReadCompletion Instr.fits
  dsimp only
  split
  · next h =>
    rw [h]
    exact meets_next s
  · next h =>
    rw [h]
    exact ⟨_, rfl⟩

/-- So are the tokens of a fetch. -/
theorem execTokenFetchDone_meets (req : Fin 32768) (data : List Byte) (ok : Bool) (s : State) :
    Meets ((Instr.tokenFetchDone req data ok).fits s) (execTokenFetchDone req data ok s) := by
  unfold execTokenFetchDone Instr.fits
  dsimp only
  split
  · next h =>
    rw [h]
    exact meets_next s
  · next h =>
    rw [h]
    exact ⟨_, rfl⟩

/-- Every command answers a next state where its operands are well formed and fit the state, and faults elsewhere. -/
theorem exec_meets (c : Instr) (s : State) : Meets (c.wf && c.fits s) (exec c s) := by
  cases c
  case t2ReadCompletion => exact execT2ReadCompletion_meets ..
  case tokenFetchDone => exact execTokenFetchDone_meets ..
  all_goals
    change Meets (_ && true) _
    rw [Bool.and_true]
  case registerWrite w => exact anyWrite_meets w s
  case ringEnable w =>
    change Meets (_ && bit w.val 0) _
    rw [← beq_true (bit w.val 0)]
    exact ⟨_, rfl⟩
  case ringDisable w =>
    change Meets (_ && !bit w.val 0) _
    rw [← beq_false (bit w.val 0)]
    exact ⟨_, rfl⟩
  case memorySelfTest => exact execMemorySelfTest_meets ..
  case vddHeathInTolerance | vddHeathRemoval | pwrgdAssert | pwrgdDeassert | railFault | refclkLoss | strapReread | governorEvaluation
      | throttleLevelFall | limitUnmet | thermalTrip | clockGate | powerGate | entdaa | setdasa | i3cPrivateWrite | i3cPrivateRead
      | samplePreload | extest | clamp | highz | heathPowerGood | nvsRead | hubSelfTest | identityAndFuses | memoryDieTraining
      | computeDieSelfTest | startStepTimeout | autoRestart =>
    unfold exec
    simp only [execVddHeathInTolerance, execVddHeathRemoval, execPwrgdAssert, execPwrgdDeassert, execRailFault, execRefclkLoss, execStrapReread,
      execGovernorEvaluation, execThrottleLevelFall, execLimitUnmet, execThermalTrip, execClockGate, execPowerGate, execEntdaa, execSetdasa,
      execI3cPrivateWrite, execI3cPrivateRead, execSamplePreload, execExtest, execClamp, execHighz, execHeathPowerGood, execNvsRead,
      execHubSelfTest, execIdentityAndFuses, execMemoryDieTraining, execComputeDieSelfTest, execStartStepTimeout, execAutoRestart]
    repeat' split
    all_goals exact meets_next _
  all_goals exact ⟨_, rfl⟩

/-- Settles O47: a guard that holds answers the next state. -/
theorem wellFormedRuns : Obligations.WellFormedRuns := by
  unfold Obligations.WellFormedRuns
  intro c s hw hf
  obtain ⟨t, ht⟩ := exec_meets c s
  rw [hw, hf] at ht
  exact ⟨t, ht, trivial⟩

/-- Settles O48: a guard that fails is the fault. -/
theorem illFormedFaults : Obligations.IllFormedFaults := by
  unfold Obligations.IllFormedFaults
  intro c s h
  obtain ⟨t, ht⟩ := exec_meets c s
  rw [h] at ht
  exact ht

end Sys2Proof.Machine
end

section
/-!
PROOFS. Counters (R499, R501) and the event queue (R522, R526).
-/
namespace Sys2Proof.Machine

/-! ### What an event leaves -/

theorem keep_raiseEvent (s : State) (type part block half : Nat) (d0 d1 : Word) :
    Keep (fun p => decide (p ∈ [Part.regs, .msix, .events, .outputs])) s (raiseEvent s type part block half d0 d1) :=
  raiseEvent_keep rfl rfl rfl rfl (Keep.refl s)

theorem snap_raiseEvent (s : State) (type part block half : Nat) (d0 d1 : Word) : (raiseEvent s type part block half d0 d1).snap = s.snap :=
  ((keep_raiseEvent s type part block half d0 d1).same .counters rfl).2

theorem getCnt_raiseEvent (s : State) (type part block half : Nat) (d0 d1 : Word) (off : Nat) :
    getCnt (raiseEvent s type part block half d0 d1) off = getCnt s off := by
  rw [getCnt, cnt_raiseEvent, getCnt]

/-! ### Counters count (R499) -/

section Count

variable (s : State) (off n : Nat)

/-- The event of a counter whose OVF rises. -/
def overflowEvent (s : State) (off : Nat) : State :=
  raiseEvent s 0x004 noPart (blkDir (off / 0x1000 * 0x1000)) (blkHalf (off / 0x1000 * 0x1000)) (word off) 0

/-- What a counter holds after an increment: the low 48 bits of the sum, and OVF with a sum that passes them. -/
def counted (c : Word) (n : Nat) : Word :=
  let low := setFld c 0 48 ((fld c 0 48 + n) % 2 ^ 48)
  if fld c 0 48 + n < 2 ^ 48 then low else setBit low 63 true

/-- An increment loads its counter, and raises the event where OVF goes from 0 to 1. -/
theorem count_eq : count s off n = if 2 ^ 48 ≤ fld (getCnt s off) 0 48 + n ∧ bit (getCnt s off) 63 = false then
    overflowEvent (setCnt s off (counted (getCnt s off) n)) off else setCnt s off (counted (getCnt s off) n) := by
  unfold count counted
  dsimp only
  by_cases hs : fld (getCnt s off) 0 48 + n < 2 ^ 48
  · rw [if_pos hs, if_pos hs, if_neg (fun h => absurd h.1 (by omega))]
  · rw [if_neg hs, if_neg hs]
    cases hb : bit (getCnt s off) 63
    · rw [if_neg Bool.false_ne_true, if_pos ⟨by omega, rfl⟩]
      rfl
    · rw [if_pos rfl, if_neg (fun h => absurd h.2 (by decide))]

theorem getCnt_count_same : getCnt (count s off n) off = counted (getCnt s off) n := by
  rw [count_eq]
  split
  · rw [overflowEvent, getCnt_raiseEvent, getCnt_setCnt_same]
  · exact getCnt_setCnt_same ..

theorem fld_counted (c : Word) : fld (counted c n) 0 48 = (fld c 0 48 + n) % 2 ^ 48 := by
  have low : fld (setFld c 0 48 ((fld c 0 48 + n) % 2 ^ 48)) 0 48 = (fld c 0 48 + n) % 2 ^ 48 := by
    rw [fld_setFld_same _ _ _ _ (by decide), Nat.mod_mod]
  unfold counted
  dsimp only
  split
  · exact low
  · rw [fld_setBit_other _ _ _ _ _ (by decide), low]

theorem bit_counted (c : Word) : bit (counted c n) 63 = (bit c 63 || decide (2 ^ 48 ≤ fld c 0 48 + n)) := by
  unfold counted
  dsimp only
  split
  · rw [bit_setFld_other _ _ _ _ _ (by decide), decide_eq_false (by omega), Bool.or_false]
  · rw [bit_setBit_same _ _ _ (by decide), decide_eq_true (by omega), Bool.or_true]

end Count

/-- Settles O57: an increment is a load of `counted`, with the event where OVF rises. -/
theorem countersWrap : Obligations.CountersWrap := by
  unfold Obligations.CountersWrap
  refine ⟨?wraps, ?overflows, ?counts⟩
  case wraps =>
    intro off n s
    rw [getCnt_count_same]
    exact ⟨fld_counted .., bit_counted .., fun o h => getCnt_count_other s off n o h⟩
  case overflows =>
    intro off n s hs hb
    rw [getCnt_count_same, count_eq, if_pos ⟨hs, hb⟩]
    rfl
  case counts =>
    intro off n s h
    rw [getCnt_count_same, count_eq, if_neg]
    rintro ⟨hs, hb⟩
    rcases h with below | set
    · omega
    · rw [set] at hb
      cases hb

/-! ### Counters written (R501, Table 15.1) -/

/-- A served write of a counter writes the counter that it names. -/
theorem exec_counterWrite {w : RegWrite} {q : Site} {s : State} (inc : Nat) (hw : namesCounter w = true) (hq : servedAt s w = some q) :
    exec (.counterWrite w inc) s = .next (writeCounter s q.2.2.1 w.val inc) := by
  obtain ⟨p, off, key, row⟩ := q
  have hr := resolve_of_servedAt hq
  have hn := hw
  unfold namesCounter at hn
  rw [hr] at hn
  obtain _ | ⟨r, i⟩ := row
  · cases hn
  · have written : plainWrite w inc s p off key (some (r, i)) = writeCounter s key w.val inc := by
      unfold plainWrite blockWrite
      exact if_pos (of_decide_eq_true hn)
    change guarded (namesCounter w) (serveWrite s w (plainWrite w inc)) = _
    rw [hw, serveWrite_served hq, written]
    rfl

section Write

variable (s : State) (off : Nat) (v : Word) (inc : Nat)

/-- What a counter holds after a write with an increment in its cycle. -/
def countWritten (c v : Word) (inc : Nat) : Word :=
  let low := setFld c 0 48 (fld v 0 48)
  if 2 ^ 48 ≤ fld c 0 48 + inc then setBit (setBit low 62 true) 63 true
  else if bit v 63 then setBit (setBit low 62 false) 63 false
  else low

theorem writeCounter_eq : writeCounter s off v inc = if 2 ^ 48 ≤ fld (getCnt s off) 0 48 + inc then
    overflowEvent (setCnt s off (countWritten (getCnt s off) v inc)) off else setCnt s off (countWritten (getCnt s off) v inc) := by
  unfold writeCounter countWritten
  dsimp only
  split
  · rfl
  · split
    · rfl
    · rfl

theorem getCnt_writeCounter_same : getCnt (writeCounter s off v inc) off = countWritten (getCnt s off) v inc := by
  rw [writeCounter_eq]
  split
  · rw [overflowEvent, getCnt_raiseEvent, getCnt_setCnt_same]
  · exact getCnt_setCnt_same ..

theorem getCnt_writeCounter_other {o : Nat} (h : o ≠ off) : getCnt (writeCounter s off v inc) o = getCnt s o := by
  rw [writeCounter_eq]
  split
  · rw [overflowEvent, getCnt_raiseEvent, getCnt_setCnt_other _ _ _ _ h]
  · exact getCnt_setCnt_other _ _ _ _ h

theorem snap_writeCounter : (writeCounter s off v inc).snap = s.snap := by
  rw [writeCounter_eq]
  split
  · exact snap_raiseEvent ..
  · rfl

theorem fld_countWritten (c : Word) : fld (countWritten c v inc) 0 48 = fld v 0 48 := by
  have low : fld (setFld c 0 48 (fld v 0 48)) 0 48 = fld v 0 48 := by
    rw [fld_setFld_same _ _ _ _ (by decide), Nat.mod_eq_of_lt (fld_lt ..)]
  unfold countWritten
  dsimp only
  split
  · rw [fld_setBit_other _ _ _ _ _ (by decide), fld_setBit_other _ _ _ _ _ (by decide), low]
  · split
    · rw [fld_setBit_other _ _ _ _ _ (by decide), fld_setBit_other _ _ _ _ _ (by decide), low]
    · exact low

/-- OVF and OVF_IN_WRITE. -/
theorem bits_setBoth (c : Word) (b : Bool) : bit (setBit (setBit c 62 b) 63 b) 62 = b ∧ bit (setBit (setBit c 62 b) 63 b) 63 = b :=
  ⟨by rw [bit_setBit_other _ _ _ _ (by decide), bit_setBit_same _ _ _ (by decide)], bit_setBit_same _ _ _ (by decide)⟩

end Write

/-- Settles O55: a served write is `writeCounter`, which loads `countWritten`; its three cases are the rows of Table 15.1. -/
theorem counterWrites : Obligations.CounterWrites := by
  unfold Obligations.CounterWrites
  refine ⟨?count, ?overflow, ?clear, ?keep⟩
  case count =>
    intro w inc q s hw hq
    refine ⟨_, exec_counterWrite inc hw hq, ?_, fun o h => getCnt_writeCounter_other s _ _ _ h, snap_writeCounter ..⟩
    rw [getCnt_writeCounter_same, fld_countWritten]
  case overflow =>
    intro w inc q s hw hq hs
    refine ⟨_, exec_counterWrite inc hw hq, ?_⟩
    dsimp only
    rw [getCnt_writeCounter_same, countWritten, if_pos hs]
    exact bits_setBoth _ true
  case clear =>
    intro w inc q s hw hq hs hv
    refine ⟨_, exec_counterWrite inc hw hq, ?_⟩
    dsimp only
    rw [getCnt_writeCounter_same, countWritten, if_neg hs, if_pos hv]
    exact bits_setBoth _ false
  case keep =>
    intro w inc q s hw hq hs hv
    refine ⟨_, exec_counterWrite inc hw hq, ?_⟩
    dsimp only
    rw [getCnt_writeCounter_same, countWritten, if_neg hs, if_neg (by rw [hv]; decide)]
    exact ⟨bit_setFld_other _ _ _ _ _ (by decide), bit_setFld_other _ _ _ _ _ (by decide)⟩

/-! ### The event queue -/

section Events

variable (s : State) (type part block half : Nat) (d0 d1 : Word)

/-- An event that is not FATAL, while an episode runs or fewer than 16 entries are free, is coalesced. -/
theorem raiseEvent_coalesced (ht : evSeverity type ≠ 3) (h : s.events.coalescing = true ∨ 496 < s.events.queue.length) :
    raiseEvent s type part block half d0 d1 = coalesceEvent s type block := by
  unfold raiseEvent
  rw [if_neg ht, if_pos (h.imp id fun hq => by omega)]

/-- What coalescing does to the event logic. -/
theorem events_coalesceEvent : (coalesceEvent s type block).events = { s.events with
    coal := Map.set CoalSlot.empty s.events.coal type
      (if (Map.get CoalSlot.empty s.events.coal type).count = 0 then ⟨1, block, stamp s, stamp s⟩
        else ⟨satAdd 0xFFFFFFFF (Map.get CoalSlot.empty s.events.coal type).count 1, (Map.get CoalSlot.empty s.events.coal type).block,
          (Map.get CoalSlot.empty s.events.coal type).first, stamp s⟩)
    coalescing := true } := by
  unfold coalesceEvent
  dsimp only
  split
  · rfl
  · exact events_setCause ..

/-- A FATAL event takes any free entry. -/
theorem raiseEvent_fatal (ht : evSeverity type = 3) (h : s.events.queue.length < 512) :
    raiseEvent s type part block half d0 d1 = enqueueEvent s type false part block half d0 d1 0 := by
  unfold raiseEvent
  rw [if_pos ht, if_pos h]

/-- With none free it goes to the last-gasp registers. -/
theorem raiseEvent_fatal_full (ht : evSeverity type = 3) (h : 512 ≤ s.events.queue.length) :
    raiseEvent s type part block half d0 d1 = lastGasp (lastGasp s .west (0x800 + type)) .east (0x800 + type) := by
  unfold raiseEvent
  rw [if_pos ht, if_neg (by omega)]

end Events

/-- VALID of a last-gasp value: a code of 12 bits and TIME_LOCAL lie below it. -/
theorem bit_lastGaspWord (code t : Nat) (b : Bool) : bit (word (code % 2 ^ 12 + b2n b * 2 ^ 12 + 2 ^ 15 + t * 2 ^ 16)) 15 = true := by
  have flag : b2n b ≤ 1 := by cases b <;> decide
  rw [bit, word, BitVec.getLsbD_ofNat, Nat.testBit_eq_decide_div_mod_eq, Bool.and_eq_true, decide_eq_true_eq, decide_eq_true_eq]
  omega

/-- A last-gasp write leaves VALID set. -/
theorem getBit_lastGasp (s : State) (h : Half) (code : Nat) : getBit (lastGasp s h code) (Reg.hubLastgasp h.idx) 15 = true := by
  have apart : Reg.hubLastgasp h.idx ≠ blkIntRaw (Reg.hubBlk h.idx) := by unfold Reg.hubLastgasp blkIntRaw Reg.hubBlk; omega
  unfold lastGasp
  dsimp only
  rw [getBit, getReg_setCause_other _ _ _ _ apart]
  split
  · next valid =>
    change getBit _ _ 15 = true
    rw [getBit_putBit_disjoint _ _ _ _ _ (by decide), valid]
  · rw [getReg_setReg_same]
    exact bit_lastGaspWord ..

/-- The other hub's register stays. -/
theorem getBit_lastGasp_east (s : State) (code i : Nat) : getBit (lastGasp s .east code) (Reg.hubLastgasp 0) i = getBit s (Reg.hubLastgasp 0) i := by
  rw [getBit, getReg_lastGasp_other _ _ _ _ (by decide) (by decide), getBit]

/-- Settles O56: the branches of `raiseEvent`, and the groups of state that it keeps. -/
theorem eventsQueued : Obligations.EventsQueued := by
  unfold Obligations.EventsQueued
  refine ⟨?queued, ?coalesced, ?fatal, ?full, ?frame⟩
  case queued =>
    intro type part block half d0 d1 s ht hc hq
    rw [events_raiseEvent_room s type part block half d0 d1 hc hq]
    exact ⟨rfl, rfl⟩
  case coalesced =>
    intro type part block half d0 d1 s ht h
    rw [raiseEvent_coalesced s type part block half d0 d1 ht h, events_coalesceEvent]
    refine ⟨rfl, ?_, rfl⟩
    rw [Map.get_set_same]
    split
    · rfl
    · rfl
  case fatal =>
    intro type part block half d0 d1 s ht h
    rw [raiseEvent_fatal s type part block half d0 d1 ht h]
    exact ⟨List.length_append, rfl⟩
  case full =>
    intro type part block half d0 d1 s ht h
    rw [raiseEvent_fatal_full s type part block half d0 d1 ht h]
    refine ⟨by rw [events_lastGasp, events_lastGasp], ?_, getBit_lastGasp _ .east _⟩
    rw [getBit_lastGasp_east]
    exact getBit_lastGasp s .west _
  case frame =>
    intro type part block half d0 d1 s
    have kept := keep_raiseEvent s type part block half d0 d1
    exact ⟨(kept.same .counters rfl).1, (kept.same .galley rfl).1, (kept.same .memory rfl).1,
      fun off h => getReg_raiseEvent_other s type part block half d0 d1 off h⟩

end Sys2Proof.Machine
end

section
/-!
PROOFS. PCIe functions and ports (R437, R439), host memory regions (R440, R441), DEV_HOST_ARB (R451).
-/
namespace Sys2Proof.Machine

/-! ### Held transfers -/

/-- After a release only transfers whose port or function is stopped wait. -/
theorem heldOut_releaseHeld {s : State} {x : Nat × Nat × Emit} (h : x ∈ (releaseHeld s).heldOut) :
    portStopped (releaseHeld s) x.1 = true ∨ inD3 (releaseHeld s) x.2.1 = true := by
  have stopped := (List.mem_filter.mp h).2
  rw [Bool.not_not, Bool.or_eq_true] at stopped
  exact stopped

theorem portStopped_releaseHeld (s : State) (p : Nat) : portStopped (releaseHeld s) p = portStopped s p := rfl

/-- Messages of a function that were pending go out: the functions in D3hot stay. -/
theorem d3hot_sendPending (s : State) (fn : Nat) : (sendPending s fn).d3hot = s.d3hot :=
  ((sendPending_keep (m := fun p => decide (p ∈ [Part.msix, .outputs])) (a1 := fn) rfl rfl (Keep.refl s)).same .hosts rfl).2.2.1

theorem heldOut_devEvent (s : State) (type d0 d1 : Nat) : (devEvent s type d0 d1).heldOut = s.heldOut :=
  ((keep_raiseEvent s type noPart noBlock 2 (word d0) (word d1)).same .hosts rfl).2.2.2

theorem portStopped_stop (s : State) (port : Half) (b : Bool) : portStopped (putBit s (Reg.hubMigStatus port.idx) 16 b) port.idx = b :=
  getBit_putBit_same s _ 16 b (by decide)

theorem portStopped_devEvent {s : State} (type d0 d1 : Nat) {p : Nat} (ht : evSeverity type ≠ 3) (h : portStopped s p = true) :
    portStopped (devEvent s type d0 d1) p = true :=
  getBit_raiseEvent_mono s noPart type noBlock 2 (word d0) (word d1) ht h

/-! ### Region commits (R440, R441) -/

theorem exec_devRegionCommit {w : RegWrite} {q : Site} {s : State} (hw : isReg w .dev0 0x358 = true) (hq : servedAt s w = some q)
    (hb : bit w.val 0 = true) : exec (.devRegionCommit w) s = .next (commitRegion s
      (fld (latchedIndex s w.who Reg.devRegionIndex) 0 10)
      (regionOf ((getLatch s w.who Reg.devRegionIndex).getD 0 0) ((getLatch s w.who Reg.devRegionIndex).getD 1 0))) := by
  change guarded (isReg w .dev0 0x358) (serveWrite s w _) = _
  rw [hw, serveWrite_served hq, hb]
  rfl

/-- A commit with no reason of refusal loads its entry. -/
theorem commitRegion_takes {s : State} {r : Nat} {g : Region} (h : regionReasons s r g = []) :
    commitRegion s r g = { setReg s Reg.devRegionCommit 0 with regions := Map.set Region.none s.regions r g } := by
  unfold commitRegion
  rw [h]

/-- DEV_REGION_COMMIT with the bit REFUSED and a reason. -/
theorem bit_refusedWord (k : Nat) : bit (word (2 + k * 16)) 1 = true := by
  have low : 2 + k * 16 = 2 ^ 2 * (4 * k) + 2 := by omega
  rw [bit, word, BitVec.getLsbD_ofNat, low, Nat.testBit_two_pow_mul_add _ (by decide)]
  rfl

/-- A commit with a reason of refusal leaves the regions and sets REFUSED. -/
theorem commitRegion_refuses {s : State} {r : Nat} {g : Region} (h : regionReasons s r g ≠ []) :
    (commitRegion s r g).regions = s.regions ∧ getBit (commitRegion s r g) Reg.devRegionCommit 1 = true := by
  unfold commitRegion
  cases hr : regionReasons s r g with
  | nil => exact absurd hr h
  | cons x xs =>
    refine ⟨rfl, ?_⟩
    change bit (getReg (setReg _ Reg.devRegionCommit _) Reg.devRegionCommit) 1 = true
    rw [getReg_setReg_same]
    exact bit_refusedWord _

/-! ### DEV_HOST_ARB (R451) -/

theorem exec_devHostArbWrite {w : RegWrite} {q : Site} {s : State} (hw : isReg w .dev0 0x380 = true) (hq : servedAt s w = some q) :
    exec (.devHostArbWrite w) s = .next (writeArb s (viaHub w.who) w.val) := by
  change guarded (isReg w .dev0 0x380) (serveWrite s w _) = _
  rw [hw, serveWrite_served hq]
  rfl

theorem hub_setHub_back (s : State) (h : Half) (x : HubState) : (s.setHub h.other x).hub h = s.hub h := by cases h <;> rfl

/-- A write of DEV_HOST_ARB under a newer epoch is the copy of its hub, and of the other hub where the link carries. -/
theorem hub_writeArb {s : State} {h : Half} {v : Word} (hc : fld v 0 2 ≠ 3) (he : epochSeen s h < fld v 16 48) :
    ((writeArb s h v).hub h).arb = v &&& (ones 0 2 ||| ones 16 48) ∧ (hubLinkUp s = true →
      (writeArb s h v).hub h.other = { s.hub h.other with arb := v &&& (ones 0 2 ||| ones 16 48) }) := by
  unfold writeArb
  rw [if_neg (fun x => x.elim hc (fun y => by omega))]
  dsimp only
  cases hl : hubLinkUp s
  · rw [if_neg Bool.false_ne_true, setArb, hub_setHub_same]
    exact ⟨rfl, fun x => nomatch x⟩
  · rw [if_pos rfl]
    refine ⟨?_, fun _ => ?_⟩
    · rw [setArb, hub_setHub_back, setArb, hub_setHub_same]
    · rw [setArb, hub_setHub_same, setArb, hub_setHub_other]

/-- Settles O36: held transfers go by `releaseHeld`, regions by `commitRegion`, the arbitration word by `writeArb`. -/
theorem functionsAndRegionsComplete : Obligations.FunctionsAndRegionsComplete := by
  unfold Obligations.FunctionsAndRegionsComplete
  refine ⟨?sleeps, ?wakes, ?down, ?up, ?noFlit, ?commits, ?refuses, ?arbTakes, ?arbRefuses⟩
  case sleeps =>
    intro fn port s
    exact ⟨_, rfl, Map.get_set_same (fun _ => false) s.d3hot (d3Key port fn) true, rfl, rfl⟩
  case wakes =>
    intro fn port s
    refine ⟨_, rfl, ?_, fun x hx => heldOut_releaseHeld hx⟩
    change Map.get _ (sendPending _ _).d3hot _ = false
    rw [d3hot_sendPending]
    exact Map.get_del_same ..
  case down =>
    intro port s
    exact ⟨_, rfl, portStopped_stop s port true, putFld_heldOut ..⟩
  case up =>
    intro port s
    have runs : exec (.pcieLinkUp port true) s = .next (releaseHeld (putBit s (Reg.hubMigStatus port.idx) 16 false)) := rfl
    exact ⟨_, runs, (portStopped_releaseHeld _ _).trans (portStopped_stop s port false), fun x hx => heldOut_releaseHeld hx⟩
  case noFlit =>
    intro port s
    have stopped : exec (.pcieLinkUp port false) s =
        .next (devEvent (putBit s (Reg.hubMigStatus port.idx) 16 true) 0x046 port.idx 0) := rfl
    exact ⟨_, stopped, portStopped_devEvent _ _ _ (by decide) (portStopped_stop s port true),
      (heldOut_devEvent ..).trans (putFld_heldOut ..)⟩
  case commits =>
    intro w q s hw hq hb hr
    refine ⟨_, exec_devRegionCommit hw hq hb, ?_⟩
    rw [commitRegion_takes hr]
    refine ⟨Map.get_set_same Region.none s.regions _ _, getReg_setReg_same s Reg.devRegionCommit 0, fun r h => Map.get_set_other _ _ _ _ _ h⟩
  case refuses =>
    intro w q s hw hq hb hr
    exact ⟨_, exec_devRegionCommit hw hq hb, commitRegion_refuses hr⟩
  case arbTakes =>
    intro w q s hw hq hc he
    exact ⟨_, exec_devHostArbWrite hw hq, hub_writeArb hc he⟩
  case arbRefuses =>
    intro w q s hw hq hr
    rw [exec_devHostArbWrite hw hq, writeArb, if_pos hr]

end Sys2Proof.Machine
end

section
/-!
PROOFS. Doorbells, ring control and the delay of completions (R445, R446, R449, R458, R459).
-/
namespace Sys2Proof.Machine

/-! ### The registers of a queue set -/

section Registers

variable (n : Nat) (drv : Bool)

theorem ringStatus_ne_ringCtrl : ringStatus n drv ≠ ringCtrl n drv := by
  unfold ringStatus ringCtrl Reg.partDringStatus Reg.qRingStatus Reg.partDringCtrl Reg.qRingCtrl
  split <;> omega

theorem ringStatus_ne_partState : ringStatus n drv ≠ Reg.partState n := by
  unfold ringStatus Reg.partDringStatus Reg.qRingStatus Reg.partState qBase
  split <;> omega

theorem ringCtrl_ne_partState : ringCtrl n drv ≠ Reg.partState n := by
  unfold ringCtrl Reg.partDringCtrl Reg.qRingCtrl Reg.partState qBase
  split <;> omega

end Registers

/-! ### Doorbells (R446, R458) -/

section Doorbells

variable {w : RegWrite} {q : Site} {s : State}

theorem exec_qSqDb (hw : (isReg w .q0 0x100 || isReg w .part 0x198) = true) (hq : servedAt s w = some q) :
    exec (.qSqDb w) s = .next (sqDoorbell s q.1.inst (isDriver q.1) q.2.1 (fld w.val 0 16)) := by
  change guarded (isReg w .q0 0x100 || isReg w .part 0x198) (serveWrite s w _) = _
  rw [hw, serveWrite_served hq]
  rfl

theorem exec_qCqDb (hw : (isReg w .q0 0x108 || isReg w .part 0x1A0) = true) (hq : servedAt s w = some q) :
    exec (.qCqDb w) s = .next (cqDoorbell s q.1.inst (isDriver q.1) q.2.1 (fld w.val 0 16)) := by
  change guarded (isReg w .q0 0x108 || isReg w .part 0x1A0) (serveWrite s w _) = _
  rw [hw, serveWrite_served hq]
  rfl

theorem exec_qOutDb (hw : isReg w .q0 0x110 = true) (hq : servedAt s w = some q) :
    exec (.qOutDb w) s = .next (outDoorbell s q.1.inst q.2.1 (fld w.val 0 12)) := by
  change guarded (isReg w .q0 0x110) (serveWrite s w _) = _
  rw [hw, serveWrite_served hq]
  rfl

theorem exec_ringRow {on : Bool} (hw : (isReg w .q1 0x100 || isReg w .part 0x170) = true) (hq : servedAt s w = some q)
    (hb : bit w.val 0 = on) : ringRow w on s = .next (writeRingCtrl s q.1.inst (isDriver q.1) w.val) := by
  unfold ringRow
  rw [hw, hb, beq_self_eq_true, serveWrite_served hq]
  rfl

end Doorbells

section Moves

variable {s : State} {n off v : Nat} {drv : Bool}

theorem sqDoorbell_moves (hr : ringRuns s n drv = true) (hv : v < sqSize s n drv)
    (ho : outstanding (sqHead s n drv) (s.ring n drv).sqTail (sqSize s n drv) ≤ outstanding (sqHead s n drv) v (sqSize s n drv)) :
    sqDoorbell s n drv off v = s.setRing n drv { s.ring n drv with sqTail := v } := by
  unfold sqDoorbell
  rw [hr, Bool.not_true, if_neg Bool.false_ne_true]
  exact if_neg (by omega)

theorem sqDoorbell_stopped (hr : ringRuns s n drv = false) : sqDoorbell s n drv off v = dbIgnored s n := by
  unfold sqDoorbell
  rw [hr]
  rfl

theorem sqDoorbell_beyond (hr : ringRuns s n drv = true) (hv : sqSize s n drv ≤ v) : sqDoorbell s n drv off v = dbBad s n off v := by
  unfold sqDoorbell
  rw [hr, Bool.not_true, if_neg Bool.false_ne_true]
  exact if_pos (.inl hv)

theorem cqDoorbell_moves (hr : ringOn s n drv = true) (hv : v < cqSize s n drv)
    (ho : outstanding (s.ring n drv).cqHead v (cqSize s n drv) ≤ outstanding (s.ring n drv).cqHead (cqTail s n drv) (cqSize s n drv)) :
    cqDoorbell s n drv off v = s.setRing n drv { s.ring n drv with cqHead := v } := by
  unfold cqDoorbell
  rw [hr, Bool.not_true, if_neg Bool.false_ne_true]
  exact if_neg (by omega)

theorem outDoorbell_moves (hr : ringOn s n false = true) (hv : v < outSize s n)
    (ho : outstanding (s.ring n false).outHead v (outSize s n) ≤ outstanding (s.ring n false).outHead (outTail s n) (outSize s n)) :
    outDoorbell s n off v = s.setRing n false { s.ring n false with outHead := v } := by
  unfold outDoorbell
  rw [hr, Bool.not_true, if_neg Bool.false_ne_true]
  exact if_neg (by omega)

/-- A doorbell with a bad value moves no ring. -/
theorem rings_dbBad : (dbBad s n off v).rings = s.rings :=
  ((hedgeViolation_keep (m := eventParts) rfl rfl rfl rfl rfl (capture_keep rfl rfl rfl rfl (Keep.refl s))).same .hosts rfl).2.1

end Moves

/-! ### Ring control (R445, R459) -/

section Control

variable {s : State} {n : Nat} {drv : Bool} {v : Word}

theorem rings_writeShadow (s : State) (n : Nat) (drv : Bool) (held : Nat) : (writeShadow s n drv held).rings = s.rings := by
  unfold writeShadow regionWrite hostOut
  dsimp only
  split
  · rfl
  · rfl

/-- Rings that start: RUNNING and ENABLE, the indices 0; the shadow block is still to be written. -/
def ringZeroed (s : State) (n : Nat) (drv : Bool) : State :=
  let s1 := putBit (setReg s (ringStatus n drv) (bitW 44)) (ringCtrl n drv) 0 true
  let s2 := s1.setRing n drv { RingState.fresh 0 with fetched := (s1.ring n drv).fetched, lastStep := (s1.ring n drv).lastStep }
  if drv then s2 else putBit s2 (Reg.partState n) 3 true

theorem startRing_eq : startRing s n drv = writeShadow (ringZeroed s n drv) n drv (heldRecords (ringZeroed s n drv) n) := rfl

theorem regs_startRing : (startRing s n drv).regs = (ringZeroed s n drv).regs := by rw [startRing_eq, regs_writeShadow]

theorem ring_ringZeroed : ((ringZeroed s n drv).ring n drv).sqTail = 0 := by
  unfold ringZeroed
  extract_lets s1 blank s2
  have tail : (s2.ring n drv).sqTail = 0 := congrArg RingState.sqTail (ring_setRing_same ..)
  cases drv
  · rw [if_neg Bool.false_ne_true, State.ring, putBit_rings]
    exact tail
  · exact tail

theorem ring_startRing : ((startRing s n drv).ring n drv).sqTail = 0 := by
  rw [startRing_eq, State.ring, rings_writeShadow]
  exact ring_ringZeroed

/-- A register beside PART_STATE is as ENABLE leaves it. -/
theorem getReg_ringZeroed {a : Nat} (h : a ≠ Reg.partState n) :
    getReg (ringZeroed s n drv) a = getReg (putBit (setReg s (ringStatus n drv) (bitW 44)) (ringCtrl n drv) 0 true) a := by
  unfold ringZeroed
  extract_lets s1 blank s2
  have kept : getReg s2 a = getReg s1 a := by rw [getReg, setRing_regs, getReg]
  cases drv
  · rw [if_neg Bool.false_ne_true, getReg_putBit_other _ _ _ _ _ h]
    exact kept
  · exact kept

theorem getReg_startRing_status : getReg (startRing s n drv) (ringStatus n drv) = bitW 44 := by
  rw [getReg, regs_startRing, ← getReg, getReg_ringZeroed (ringStatus_ne_partState n drv),
    getReg_putBit_other _ _ _ _ _ (ringStatus_ne_ringCtrl n drv), getReg_setReg_same]

theorem ringOn_startRing : ringOn (startRing s n drv) n drv = true := by
  rw [ringOn, getBit, getReg, regs_startRing, ← getReg, getReg_ringZeroed (ringCtrl_ne_partState n drv)]
  exact getBit_putBit_same _ _ _ _ (by decide)

theorem ringOn_stopRing : ringOn (stopRing s n drv) n drv = false := by
  have off : ringOn (putBit (putBit s (ringCtrl n drv) 0 false) (ringStatus n drv) 44 false) n drv = false := by
    rw [ringOn, getBit_putBit_other _ _ _ _ _ _ (ringStatus_ne_ringCtrl n drv).symm, getBit_putBit_same _ _ _ _ (by decide)]
  unfold stopRing
  cases drv
  · exact (getBit_putBit_other _ _ _ _ _ _ (ringCtrl_ne_partState n false)).trans off
  · exact off

theorem ringRuns_stopRing : ringRuns (stopRing s n drv) n drv = false := by
  have off : ringRuns (putBit (putBit s (ringCtrl n drv) 0 false) (ringStatus n drv) 44 false) n drv = false :=
    getBit_putBit_same _ _ _ _ (by decide)
  unfold stopRing
  cases drv
  · exact (getBit_putBit_other _ _ _ _ _ _ (ringStatus_ne_partState n false)).trans off
  · exact off

/-- Q_RING_CTRL or PART_DRING_CTRL holds the sizes of a write, and ENABLE 0. -/
def ringSized (s : State) (n : Nat) (drv : Bool) (v : Word) : State :=
  setReg s (ringCtrl n drv) (v &&& (if drv then word 0x1F1F00 else word 0xF1F1F00))

theorem ringOn_ringSized : ringOn (ringSized s n drv v) n drv = false := by
  have low : bit (if drv then word 0x1F1F00 else word 0xF1F1F00) 0 = false := by cases drv <;> rfl
  rw [ringOn, getBit, ringSized, getReg_setReg_same]
  unfold bit at low ⊢
  rw [BitVec.getLsbD_and, low, Bool.and_false]

theorem writeRingCtrl_sized (hz : ringSizesOk drv v = true) (hn : ringOn s n drv = false) (hb : bit v 0 = true) :
    writeRingCtrl s n drv v = if enableOk (ringSized s n drv v) n drv then startRing (ringSized s n drv v) n drv
      else putFld (ringSized s n drv v) (ringStatus n drv) 48 8 2 := by
  unfold writeRingCtrl
  rw [hz, hn, hb]
  rfl

theorem writeRingCtrl_stops (hz : ringSizesOk drv v = true) (hn : ringOn s n drv = true) (hb : bit v 0 = false) :
    writeRingCtrl s n drv v = stopRing s n drv := by
  unfold writeRingCtrl
  rw [hz, hn, hb]
  rfl

end Control

/-- Settles O37: a doorbell moves one index, counts or captures; ring control starts, faults or stops by `writeRingCtrl`. -/
theorem ringsComplete : Obligations.RingsComplete := by
  unfold Obligations.RingsComplete
  refine ⟨?sqMoves, ?sqStopped, ?sqBad, ?cqMoves, ?outMoves, ?starts, ?faults, ?stops, ?delay⟩
  case sqMoves =>
    intro w q s hw hq hr hv ho
    rw [exec_qSqDb hw hq, sqDoorbell_moves hr hv ho]
  case sqStopped =>
    intro w q s hw hq hr
    rw [exec_qSqDb hw hq, sqDoorbell_stopped hr, dbIgnored]
  case sqBad =>
    intro w q s hw hq hr hv
    refine ⟨_, exec_qSqDb hw hq, ?_⟩
    rw [sqDoorbell_beyond hr hv]
    exact rings_dbBad
  case cqMoves =>
    intro w q s hw hq hr hv _ ho
    rw [exec_qCqDb hw hq, cqDoorbell_moves hr hv ho]
  case outMoves =>
    intro w q s hw hq hr hv ho
    rw [exec_qOutDb hw hq, outDoorbell_moves hr hv ho]
  case starts =>
    intro w q s hw hq hb hz hn he
    refine ⟨_, exec_ringRow hw hq hb, ?_⟩
    have fits : enableOk (ringSized s q.1.inst (isDriver q.1) w.val) q.1.inst (isDriver q.1) = true := he
    rw [writeRingCtrl_sized hz hn hb, if_pos fits]
    dsimp only
    rw [ringRuns, sqHead, cqTail, getBit, getFld, getFld, getReg_startRing_status]
    exact ⟨rfl, ringOn_startRing, ring_startRing, rfl, rfl⟩
  case faults =>
    intro w q s hw hq hb hz hn he
    refine ⟨_, exec_ringRow hw hq hb, ?_⟩
    have fault : enableOk (ringSized s q.1.inst (isDriver q.1) w.val) q.1.inst (isDriver q.1) ≠ true := by
      rw [ringSized, he]
      exact Bool.false_ne_true
    rw [writeRingCtrl_sized hz hn hb, if_neg fault]
    refine ⟨getFld_putFld_same _ _ _ _ _ (by decide), putFld_rings .., ?_⟩
    rw [ringOn, getBit_putFld_other _ _ _ _ _ _ _ (ringStatus_ne_ringCtrl _ _).symm]
    exact ringOn_ringSized
  case stops =>
    intro w q s hw hq hb hz hn
    refine ⟨_, exec_ringRow hw hq hb, ?_⟩
    rw [writeRingCtrl_stops hz hn hb]
    exact ⟨ringOn_stopRing, ringRuns_stopRing⟩
  case delay =>
    intro part at_ s h
    change Host.Outcome.next (match (s.ring part.val false).unsignalled with | none => _ | some _ => _) = _
    rw [h]

end Sys2Proof.Machine
end

section
/-!
PROOFS. The trace store of a hub and its control (R509, R511 to R513, R515, R531).
-/
namespace Sys2Proof.Machine

/-! ### What leaves a hub -/

theorem hub_of_keep {m : Part → Bool} {s t : State} (h : Keep m s t) (hm : m .hubs = false) (x : Half) : t.hub x = s.hub x := by
  obtain ⟨west, east, -⟩ := h.same .hubs hm
  cases x
  · exact west
  · exact east

theorem getReg_setHub (s : State) (h : Half) (x : HubState) (a : Nat) : getReg (s.setHub h x) a = getReg s a := by cases h <;> rfl

theorem source_of_keep {m : Part → Bool} {s t : State} (h : Keep m s t) (hm : m .sources = false) (i : Nat) : t.source i = s.source i := by
  rw [State.source, h.same .sources hm, State.source]

/-- The groups of state that an interrupt cause may change. -/
def causeParts : Part → Bool := fun p => decide (p ∈ [Part.regs, .msix, .outputs])

theorem keep_setCause (s : State) (blk i : Nat) : Keep causeParts s (setCause s blk i) := setCause_keep rfl rfl rfl (Keep.refl s)

/-- The groups of state that a write into a region may change. -/
def hostParts : Part → Bool := fun p => decide (p ∈ [Part.hosts, .outputs])

theorem keep_regionWrite (s : State) (r off : Nat) (bs : List Byte) : Keep hostParts s (regionWrite s r off bs) :=
  regionWrite_keep rfl rfl (Keep.refl s)

/-! ### A record reaches its store -/

section Store

variable {s : State} {h : Half} {r : TraceRec}

/-- The store of a hub with one record more. -/
def storeWith (t : TraceStore) (r : TraceRec) : TraceStore :=
  { t with recs := Map.set TraceRec.blank t.recs ((t.oldest + t.count) % storeSize) r, count := t.count + 1 }

theorem hub_fullCause (s : State) (h : Half) (full : Bool) :
    (if full then s else setCause s (Reg.trcBlk h.idx) 16).hub h = s.hub h := by
  cases full
  · exact hub_of_keep (keep_setCause ..) rfl h
  · rfl

/-- A store that is not frozen, not being dumped and has room takes the record; with it a FILL store may be full. -/
theorem trace_storeRecord (hz : (s.hub h).trace.frozen = false) (hd : (s.hub h).trace.dumping = false)
    (hc : (s.hub h).trace.count < storeSize) : ∃ b, ((storeRecord s h r).hub h).trace = { storeWith (s.hub h).trace r with full := b } := by
  have open_ : ¬ ((s.hub h).trace.frozen = true ∨ (getBit s (Reg.trcCtrl h.idx) 1 = true ∧ (s.hub h).trace.dumping = true)) := by
    rw [hz, hd]
    exact fun e => e.elim Bool.false_ne_true fun e => Bool.false_ne_true e.2
  unfold storeRecord
  dsimp only
  rw [if_neg open_, if_neg (by omega), if_neg (by omega)]
  split
  · rw [hub_fullCause, hub_setHub_same]
    exact ⟨true, rfl⟩
  · rw [hub_setHub_same]
    exact ⟨(s.hub h).trace.full, rfl⟩

theorem keep_storeRecord (s : State) (h : Half) (r : TraceRec) :
    Keep (fun p => decide (p ∈ [Part.hubs, .regs, .msix, .outputs])) s (storeRecord s h r) :=
  storeRecord_keep rfl rfl rfl rfl (Keep.refl s)

/-- A source whose first record has left its FIFO. -/
def sourceShifted (s : State) (src : Nat) (rest : List TraceRec) : State := s.setSource src { s.source src with fifo := rest }

theorem hub_sourceShifted (s : State) (src : Nat) (rest : List TraceRec) (h : Half) : (sourceShifted s src rest).hub h = s.hub h := by
  cases h <;> rfl

theorem fifo_sourceShifted (s : State) (src : Nat) (rest : List TraceRec) : ((sourceShifted s src rest).source src).fifo = rest := by
  rw [sourceShifted, source_setSource_same]

theorem shiftSource_cons {src : Nat} {rest : List TraceRec} (hf : (s.source src).fifo = r :: rest) :
    shiftSource s src = storeRecord (sourceShifted s src rest) (traceHub src) r := by
  unfold shiftSource sourceShifted
  rw [hf]

end Store

/-! ### TRC_CTRL and TRC_DUMP_GO (R513, R515, R531) -/

section Control

variable {s : State} {h : Half}

theorem trcRow_served {w : RegWrite} {q : Site} {off : Nat} (act : State → Half → Word → State) (hw : isReg w .trc off = true)
    (hq : servedAt s w = some q) : trcRow w off act s = .next (act s (pageHalf q.1) w.val) := by
  unfold trcRow
  rw [hw, serveWrite_served hq]
  rfl

/-- The region of a dump is the device's, and the records fit in it. -/
def dumpFits (s : State) (h : Half) : Bool :=
  let c := getReg s (Reg.trcDumpCtrl h.idx)
  (s.region (baseRegion c)).devOwned && regionOk s (baseRegion c) (baseOffset c) (32 * (s.hub h).trace.count) (some h.idx) 0 true

/-- A dump has begun: REFUSED reads 0. -/
def dumpBegun (s : State) (h : Half) : State :=
  (putBit s (Reg.trcDumpGo h.idx) 1 false).setHub h { s.hub h with trace := { (s.hub h).trace with dumping := true } }

theorem hub_putBit (s : State) (a i : Nat) (b : Bool) (x : Half) : (putBit s a i b).hub x = s.hub x := by cases x <;> rfl

theorem trcDump_fits {v : Word} (hb : bit v 0 = true) (hd : (s.hub h).trace.dumping = false) (hf : dumpFits s h = true) :
    Keep hostParts (dumpBegun s h) (trcDump s h v) := by
  unfold trcDump dumpBegun
  unfold dumpFits at hf
  extract_lets c at hf
  obtain ⟨own, ok⟩ := Bool.and_eq_true_iff.mp hf
  dsimp only
  rw [hb, hd, if_neg (by decide), if_neg (by rw [own, ok]; decide), hub_putBit]
  exact keep_foldl (fun _ _ k => regionWrite_keep rfl rfl k) (Keep.refl _)

theorem trcDump_refused {v : Word} (hb : bit v 0 = true) (hd : (s.hub h).trace.dumping = false) (hf : dumpFits s h = false) :
    trcDump s h v = putBit (putBit s (Reg.trcDumpGo h.idx) 1 false) (Reg.trcDumpGo h.idx) 1 true := by
  unfold trcDump
  unfold dumpFits at hf
  extract_lets c at hf
  dsimp only
  rw [hb, hd, if_neg (by decide), if_pos (by rw [← Bool.not_and, hf]; rfl)]

end Control

/-- Settles O43: `storeRecord` on a store with room, `trcCtrl`, and `trcDump` with a region that fits or does not. -/
theorem traceComplete : Obligations.TraceComplete := by
  unfold Obligations.TraceComplete
  refine ⟨?stores, ?clears, ?marks, ?dumps, ?refuses, ?ends⟩
  case stores =>
    intro src r rest s hf hz hd hc
    have shifted : exec (.traceRecord src) s = .next (shiftSource s src.val) := rfl
    refine ⟨_, shifted, ?_⟩
    rw [shiftSource_cons hf]
    dsimp only
    rw [← hub_sourceShifted s src.val rest] at hz hd hc ⊢
    obtain ⟨b, hb⟩ := trace_storeRecord (r := r) hz hd hc
    rw [source_of_keep (keep_storeRecord ..) rfl, fifo_sourceShifted, hb]
    exact ⟨rfl, rfl, Map.get_set_same TraceRec.blank _ _ r⟩
  case clears =>
    intro w q s hw hq h3 h4
    refine ⟨_, trcRow_served trcCtrl hw hq, ?_⟩
    unfold trcCtrl
    dsimp only
    rw [h3, h4, if_pos rfl, if_neg Bool.false_ne_true, clearStore, hub_setHub_same]
    refine ⟨rfl, rfl, rfl, ?_⟩
    rw [getReg_setHub, getReg_setReg_same]
  case marks =>
    intro w q s hw hq h3 h4
    refine (trcRow_served trcCtrl hw hq).trans ?_
    unfold trcCtrl
    dsimp only
    rw [h3, h4, if_neg Bool.false_ne_true, if_pos rfl]
  case dumps =>
    intro w q s hw hq hb hd hf
    have kept := trcDump_fits hb hd (h := pageHalf q.1) hf
    refine ⟨_, trcRow_served trcDump hw hq, ?_, ?_⟩
    · rw [hub_of_keep kept rfl, dumpBegun, hub_setHub_same]
    · rw [getBit, getReg, kept.same .regs rfl, ← getReg, dumpBegun, getReg_setHub]
      exact getBit_putBit_same _ _ _ _ (by decide)
  case refuses =>
    intro w q s hw hq hb hd hf
    refine ⟨_, trcRow_served trcDump hw hq, ?_⟩
    rw [trcDump_refused hb hd hf]
    exact ⟨by rw [hub_putBit, hub_putBit], getBit_putBit_same _ _ _ _ (by decide), rfl⟩
  case ends =>
    intro h s hd
    have ended : exec (.dumpDone h) s = .next (setCause (s.setHub h { s.hub h with trace := { (s.hub h).trace with dumping := false } })
        (Reg.trcBlk h.idx) 18) := by
      change Host.Outcome.next (if (s.hub h).trace.dumping then _ else _) = _
      rw [hd]
      rfl
    refine ⟨_, ended, ?_, ?_⟩
    · rw [hub_of_keep (keep_setCause ..) rfl, hub_setHub_same]
    · rw [getBit_setCause _ _ _ _ (by decide)]
      exact Bool.or_true _

end Sys2Proof.Machine
end

section
/-!
PROOFS. More operations that leave every register past the header of its page: announcements to groups (R327, R464), moves that begin,
snapshots of the counters (R105, R507) and the trace store (R513).
-/
namespace Sys2Proof.Machine

theorem BodySame.of_regs {s t : State} (h : t.regs = s.regs) : BodySame s t := fun _ _ => by rw [getReg, h, getReg]

theorem BodySame.of_keep {m : Part → Bool} {s t : State} (h : Keep m s t) (hr : m .regs = false) : BodySame s t :=
  .of_regs (h.same .regs hr)

/-- A register of the body reads as before, so each of its bits and fields does. -/
theorem BodySame.getBit {s t : State} (h : BodySame s t) {a : Nat} (ha : BodyRegister a) (i : Nat) : Machine.getBit t a i = Machine.getBit s a i := by
  rw [Machine.getBit, h a ha, Machine.getBit]

theorem BodySame.getFld {s t : State} (h : BodySame s t) {a : Nat} (ha : BodyRegister a) (lo n : Nat) :
    Machine.getFld t a lo n = Machine.getFld s a lo n := by
  rw [Machine.getFld, h a ha, Machine.getFld]

theorem bodySame_foldl_mem {β : Type} {f : State → β → State} {l : List β} {s : State} (hf : ∀ s, ∀ x ∈ l, BodySame s (f s x)) :
    BodySame s (l.foldl f s) :=
  List.foldlRecOn (motive := BodySame s) l f (.refl s) fun u hu x hx => hu.trans (hf u x hx)

theorem bodySame_raiseEvent (s : State) (type part block half : Nat) (d0 d1 : Word) : BodySame s (raiseEvent s type part block half d0 d1) :=
  fun _ ha => getReg_raiseEvent_other _ _ _ _ _ _ _ _ ha.2

/-! ### Announcements to groups -/

section Groups

variable (s : State) (k : Nat)

theorem bodySame_sendAnnounce (await : Bool) : BodySame s (sendAnnounce s k await) := by
  have told : BodySame s ((otherMembers s k).foldl (fun s m => sendMember (openContent s).2 k m 0x11 0 (openContent s).1) s) :=
    bodySame_foldl fun u m => (bodySame_sendMsg (openContent u).2 _ _ _ _ _ _ _ : BodySame (openContent u).2 _)
  exact told

theorem bodySame_announceStep : BodySame s (announceStep s k) := by
  unfold announceStep
  extract_lets t
  split
  · exact .refl s
  · exact bodySame_sendAnnounce { s with steps := { s.steps with tn := some t } } k true

theorem bodySame_lastReport : BodySame s (lastReport s k) := by
  unfold lastReport
  split
  · exact .refl s
  · split
    · exact bodySame_announceStep s k
    · exact bodySame_sendAnnounce s k false

theorem bodySame_announcePicks (closed : List PartPick) : BodySame s (announcePicks s closed) := by
  unfold announcePicks
  refine (bodySame_foldl fun u p => ?_).trans (bodySame_foldl fun u p => ?_)
  · split
    · exact bodySame_announceStep u p.impo
    · exact .refl u
  · split
    · exact bodySame_sendAnnounce u p.impo false
    · exact .refl u

theorem bodySame_announceKept : BodySame s (announceKept s) := by
  unfold announceKept
  split
  · exact .refl s
  · split
    · refine bodySame_foldl fun u p => ?_
      split
      · exact bodySame_lastReport u p.impo
      · exact .refl u
    · exact bodySame_announcePicks s []

end Groups

/-! ### Moves that begin -/

theorem bodySame_beginMove (s : State) (m : Move) : BodySame s (beginMove s m) := by
  have reads : ∀ (u : State) r off n, BodySame u (regionRead u r off n) := fun u r off n => .of_regs (regs_regionRead u r off n)
  have writes : ∀ (u : State) r off bs, BodySame u (regionWrite u r off bs) := fun u r off bs => .of_regs (regs_regionWrite u r off bs)
  unfold beginMove
  extract_lets s1 bs s2
  have begun : BodySame s s1 := (bodySame_trace (setMove s { m with running := true }) _ _).trans
    (bodySame_foldl fun u d => .of_keep (wakeMem_keep (m := transferParts) rfl (Keep.refl u)) rfl)
  split
  · exact begun.trans (bodySame_foldl fun u k => reads _ _ _ _)
  · exact begun.trans ((bodySame_foldl fun u x => writes _ _ _ _).trans (reads _ _ _ _))

theorem bodySame_startMovesOn (fuel : Nat) (s : State) (h : Half) : BodySame s (startMovesOn fuel s h) := by
  induction fuel generalizing s with
  | zero => exact .refl s
  | succ fuel ih =>
    unfold startMovesOn
    split
    · exact .refl s
    · split
      · exact .refl s
      · exact (bodySame_beginMove s _).trans (ih _)

/-- Moves that begin change the count of moves of each hub, and no register past the dies. -/
theorem getReg_startMoves (s : State) {a : Nat} (ha : BodyRegister a) (h3 : 0x300000 ≤ a) : getReg (startMoves s) a = getReg s a := by
  have hs : ∀ h : Half, a ≠ Reg.hubMigStatus h.idx := fun h => by
    have : Reg.hubMigStatus h.idx < 0x300000 := by cases h <;> decide
    omega
  have counted : getReg (startMoves s) a = getReg (startMovesOn 8 (startMovesOn 8 s .west) .east) a := by
    unfold startMoves refreshMig
    rw [getReg_putFld_other _ _ _ _ _ _ (hs .east), getReg_putFld_other _ _ _ _ _ _ (hs .east),
      getReg_putFld_other _ _ _ _ _ _ (hs .west), getReg_putFld_other _ _ _ _ _ _ (hs .west)]
  exact counted.trans (((bodySame_startMovesOn 8 s .west).trans (bodySame_startMovesOn 8 _ .east)) a ha)

/-! ### Snapshots -/

theorem dirBase_page (i : Nat) : dirBase i % 0x1000 = 0 := by
  unfold dirBase
  split_ifs <;> omega

theorem bodySame_snapBlock (s : State) {blk : Nat} (t : Nat) (hb : blk % 0x1000 = 0) : BodySame s (snapBlock s blk t) := by
  have stamped : ∀ u v, BodySame u (setReg u (blkSnapStamp blk) v) := fun u v a ha => by
    obtain ⟨past, -⟩ := ha
    exact getReg_setReg_other _ _ _ _ (by unfold blkSnapStamp; omega)
  unfold snapBlock
  refine BodySame.trans (.of_keep ?_ (m := fun p => decide (p = .counters)) rfl) (stamped _ _)
  exact snapRest_keep rfl (snapAll_keep rfl (Keep.refl s))

theorem groupBlocks_page {g b : Nat} (h : b ∈ groupBlocks g) : b % 0x1000 = 0 := by
  unfold groupBlocks at h
  obtain ⟨i, -, rfl⟩ := List.mem_map.mp (List.mem_filter.mp h).1
  exact dirBase_page i

theorem bodySame_captureGroup (s : State) (stampOf : Nat → Nat) (t : Nat) (smeared : Bool) (g : Nat) :
    BodySame s (captureGroup s stampOf t smeared g) := by
  unfold captureGroup
  split
  · dsimp only
    split
    · exact .refl s
    · exact .of_keep (m := fun p => decide (p = .counters)) (loadSnap_keep rfl (snapAll_keep rfl (Keep.refl s))) rfl
  · refine bodySame_foldl_mem fun u b hb => ?_
    split
    · exact .refl u
    · exact bodySame_snapBlock u _ (groupBlocks_page hb)

theorem bodySame_captureAll (s : State) (stampOf : Nat → Nat) (t : Nat) (smeared : Bool) : BodySame s (captureAll s stampOf t smeared) :=
  bodySame_foldl fun u g => bodySame_captureGroup u stampOf t smeared g

/-! ### The trace store -/

theorem trcBlk_page (h : Nat) : Reg.trcBlk h % 0x1000 = 0 := by unfold Reg.trcBlk; omega

theorem bodySame_setHub (s : State) (h : Half) (x : HubState) : BodySame s (s.setHub h x) := fun _ _ => by cases h <;> rfl

theorem bodySame_storeRecord (s : State) (h : Half) (r : TraceRec) : BodySame s (storeRecord s h r) := by
  have full : ∀ u b, BodySame u (if b = true then u else setCause u (Reg.trcBlk h.idx) 16) := fun u b => by
    split
    · exact .refl u
    · exact bodySame_setCause u 16 (trcBlk_page _)
  unfold storeRecord
  dsimp only
  split
  · exact .refl s
  · split
    · exact (bodySame_setHub _ _ _).trans (full _ _)
    · split
      · exact bodySame_setHub _ _ _
      · split
        · exact (bodySame_setHub _ _ _).trans (full _ _)
        · exact bodySame_setHub _ _ _

theorem bodySame_shiftSource (s : State) (src : Nat) : BodySame s (shiftSource s src) := by
  cases hf : (s.source src).fifo with
  | nil =>
    unfold shiftSource
    rw [hf]
    exact .refl s
  | cons r rest =>
    rw [shiftSource_cons hf]
    exact (bodySame_storeRecord (sourceShifted s src rest) (traceHub src) r : BodySame _ _)

theorem bodySame_stopTraceOf (s : State) (kind : Nat) (h : Half) : BodySame s (stopTraceOf s kind h) := by
  unfold stopTraceOf
  extract_lets src s1 r s2
  have shifted : BodySame s s1 := bodySame_foldl fun u _ => bodySame_shiftSource u src
  have stored : BodySame s s2 := by
    refine shifted.trans ?_
    dsimp only [s2]
    split
    · exact bodySame_storeRecord s1 h r
    · exact .refl s1
  split
  · exact stored.trans (bodySame_setHub _ _ _)
  · exact stored

theorem bodySame_stopTrace (s : State) (kind : Nat) : BodySame s (stopTrace s kind) :=
  (bodySame_stopTraceOf s kind .west).trans (bodySame_stopTraceOf _ kind .east)

end Sys2Proof.Machine
end

section
/-!
PROOFS. Stops: requests, the cut at a boundary, the halt of the engines, releases (R516 to R521, R529).
-/
namespace Sys2Proof.Machine

/-! ### The registers of a stop -/

theorem bodyRegister_cntStopStatus : BodyRegister Reg.cntStopStatus := ⟨by decide, by decide⟩

theorem bodyRegister_cntStopStep : BodyRegister Reg.cntStopStep := ⟨by decide, by decide⟩

theorem stopState_of_body {s t : State} (h : BodySame s t) : stopState t = stopState s := h.getFld bodyRegister_cntStopStatus 0 3

theorem stopState_setStop (s : State) (n : Nat) : stopState (setStop s n) = n % 2 ^ 3 := getFld_putFld_same _ _ _ _ _ (by decide)

theorem stopState_startMoves (s : State) : stopState (startMoves s) = stopState s := by
  rw [stopState, getFld, getReg_startMoves s bodyRegister_cntStopStatus (by decide), stopState, getFld]

theorem stopState_announceKept (s : State) : stopState (announceKept s) = stopState s := stopState_of_body (bodySame_announceKept s)

/-- The bits of a word that is a sum of a low part and a multiple of a power of 2. -/
theorem testBit_low {a i n : Nat} (b : Nat) (ha : a < 2 ^ n) (hi : i < n) : (a + 2 ^ n * b).testBit i = a.testBit i := by
  rw [Nat.add_comm, Nat.testBit_two_pow_mul_add _ ha, if_pos hi]

/-! ### Requests (R516) -/

section Requests

variable {s : State} {w : RegWrite} {q : Site}

theorem stopCtrlRow_served (hw : isReg w .cnt0 0x140 = true) (hq : servedAt s w = some q) : stopCtrlRow w s = .next (stopCtrl s w.val) := by
  unfold stopCtrlRow
  rw [hw, serveWrite_served hq]
  rfl

variable {v : Word}

theorem stopCtrl_go (hk : fld v 16 16 = 0x5A25) (hg : bit v 2 = true) : stopCtrl s v = requestStop s (fld v 0 2) := by
  unfold stopCtrl
  rw [if_neg (fun h => h hk), if_pos hg]

theorem stopCtrl_release (hk : fld v 16 16 = 0x5A25) (hg : bit v 2 = false) (hr : bit v 3 = true) : stopCtrl s v = releaseStop s := by
  unfold stopCtrl
  rw [if_neg (fun h => h hk), hg, if_neg Bool.false_ne_true, if_pos hr]

theorem requestStop_free {kind : Nat} (h : stopState s = 0 ∧ (kind = 1 ∨ kind = 2) ∨
    (kind = 2 ∧ (stopState s = 1 ∨ stopState s = 2)) ∧ stopAtBoundary s = true) : requestStop s kind = armStop s kind := by
  unfold requestStop
  dsimp only
  refine if_pos ?_
  rwa [Bool.or_eq_true, Bool.and_eq_true, decide_eq_true_eq, decide_eq_true_eq]

theorem requestStop_taken (kind : Nat) (h : 2 < stopState s) : requestStop s kind = putBit s Reg.cntStopStatus 5 true := by
  unfold requestStop
  dsimp only
  refine if_neg ?_
  rw [Bool.or_eq_true, Bool.and_eq_true, decide_eq_true_eq, decide_eq_true_eq]
  omega

variable (s) (kind : Nat)

/-- The time of a stop that is armed. -/
def armTime (s : State) (kind : Nat) : Word :=
  if kind = 2 ∧ getReg s Reg.cntStopAt = 0 then word (s.clock.now + 2000) else getReg s Reg.cntStopAt

theorem stopState_armStop : stopState (armStop s kind) = 1 := stopState_setStop _ 1

theorem cntStopCtrl_armStop : getReg (armStop s kind) Reg.cntStopCtrl = word kind := by
  unfold armStop setStop
  dsimp only
  rw [getReg_putFld_other _ _ _ _ _ _ (by decide), getReg_putBit_other _ _ _ _ _ (by decide), getReg_setReg_same]

theorem stopAtBoundary_armStop : stopAtBoundary (armStop s kind) = decide (fld (word kind) 0 2 = 1) := by
  rw [stopAtBoundary, getFld, cntStopCtrl_armStop]

theorem inForce_armStop : (armStop s kind).inForce = Map.put s.inForce Reg.cntStopAt (armTime s kind) := by
  unfold armStop setStop
  dsimp only
  rw [putFld_inForce, putBit_inForce]
  rfl

theorem inForceReg_armStop : inForceReg (armStop s kind) Reg.cntStopAt = armTime s kind := by
  rw [inForceReg, inForce_armStop]
  exact Map.get_put_same ..

theorem refused_armStop : getBit (armStop s kind) Reg.cntStopStatus 5 = false := by
  unfold armStop setStop
  dsimp only
  rw [getBit_putFld_disjoint _ _ _ _ _ _ (by decide), getBit_putBit_same _ _ _ _ (by decide)]

end Requests

/-! ### Releases (R520, R521) -/

section Releases

variable (s : State)

theorem stopState_disarmed (n : Nat) : stopState (disarm (setStop s n)) = n % 2 ^ 3 := stopState_setStop s n

theorem releaseStop_armed (h : stopState s = 1 ∨ stopState s = 2) :
    releaseStop s = startMoves (announceKept (disarm (setStop s 0))) := if_pos h

theorem releaseStop_boundary (h : stopState s = 3) : releaseStop s = resumeAll s 1 := by
  unfold releaseStop
  rw [h]
  rfl

theorem releaseStop_immediate (h : stopState s = 4) : releaseStop s = setStop s 5 := by
  unfold releaseStop
  rw [h]
  rfl

theorem getReg_unfreeze (a : Nat) : getReg (unfreeze s) a = getReg s a := rfl

theorem frozen_unfreeze (h : Half) : ((unfreeze s).hub h).trace.frozen = false := by cases h <;> rfl

theorem stopState_resumeAll (kind : Nat) : stopState (resumeAll s kind) = 0 := by
  unfold resumeAll
  rw [stopState_startMoves, stopState_announceKept, devEvent, stopState_of_body (bodySame_raiseEvent _ _ _ _ _ _ _), stopState, getFld, getReg_unfreeze]
  exact stopState_disarmed s 0

/-- The groups of state that a resumption may change once the stores are open again. -/
def resumedParts (p : Part) : Bool := moveParts p || decide (p ∈ [Part.steps, .groups, .links, .free])

theorem frozen_resumeAll (kind : Nat) (h : Half) : ((resumeAll s kind).hub h).trace.frozen = false := by
  have kept : Keep resumedParts (unfreeze (disarm (setStop s 0))) (resumeAll s kind) :=
    startMoves_keep rfl rfl rfl rfl rfl rfl rfl rfl rfl (announceKept_keep rfl rfl rfl rfl rfl rfl rfl rfl rfl
      (devEvent_keep rfl rfl rfl rfl (Keep.refl _)))
  rw [hub_of_keep kept rfl, frozen_unfreeze]

end Releases

/-! ### The cut of a boundary stop (R517) -/

section Cut

variable (s : State)

/-- CNT_STOP_STATUS at a cut. -/
def cutStatus (s : State) : Word :=
  word (3 + b2n (decide (openMsgs s ≠ 0)) * 2 ^ 4 + b2n (getBit s Reg.cntStopStatus 5) * 2 ^ 5 + min 0xFFFF (openMsgs s) * 2 ^ 32)

theorem cutStatus_state : fld (cutStatus s) 0 3 = 3 := by
  unfold cutStatus fld word
  rw [BitVec.toNat_ofNat]
  omega

theorem cutStatus_open : bit (cutStatus s) 4 = decide (openMsgs s ≠ 0) := by
  have low : 3 + b2n (decide (openMsgs s ≠ 0)) * 2 ^ 4 + b2n (getBit s Reg.cntStopStatus 5) * 2 ^ 5 + min 0xFFFF (openMsgs s) * 2 ^ 32 =
      (3 + b2n (decide (openMsgs s ≠ 0)) * 2 ^ 4) + 2 ^ 5 * (b2n (getBit s Reg.cntStopStatus 5) + min 0xFFFF (openMsgs s) * 2 ^ 27) := by
    omega
  unfold cutStatus bit word
  rw [BitVec.getLsbD_ofNat, low, testBit_low _ (by cases decide (openMsgs s ≠ 0) <;> decide) (by decide)]
  cases decide (openMsgs s ≠ 0) <;> rfl

/-- The registers that say where a stop has come: its state, the step, and no stamp yet. -/
def stopNoted (s : State) (status step : Word) (stamps : Nat → Word) : State :=
  (List.range 24).foldl (fun s i => setReg s (Reg.cntStopStamp i) (stamps i)) (setReg (setReg s Reg.cntStopStatus status) Reg.cntStopStep step)

variable (status step : Word) (stamps : Nat → Word)

theorem getReg_stopNoted {a : Nat} (h : ∀ i, a ≠ Reg.cntStopStamp i) :
    getReg (stopNoted s status step stamps) a = getReg (setReg (setReg s Reg.cntStopStatus status) Reg.cntStopStep step) a :=
  List.foldlRecOn (motive := fun t => getReg t a = getReg (setReg (setReg s Reg.cntStopStatus status) Reg.cntStopStep step) a)
    (List.range 24) _ rfl fun _ ht i _ => (getReg_setReg_other _ _ _ _ (h i)).trans ht

theorem status_stopNoted : getReg (stopNoted s status step stamps) Reg.cntStopStatus = status := by
  rw [getReg_stopNoted s status step stamps (fun i => by unfold Reg.cntStopStatus Reg.cntStopStamp; omega),
    getReg_setReg_other _ _ _ _ (by decide), getReg_setReg_same]

theorem step_stopNoted : getReg (stopNoted s status step stamps) Reg.cntStopStep = step := by
  rw [getReg_stopNoted s status step stamps (fun i => by unfold Reg.cntStopStep Reg.cntStopStamp; omega), getReg_setReg_same]

/-- What follows the notes of a stop: the cause STOP_TAKEN, further causes, and an event. -/
def stopReported (s : State) (more : Bool) (type : Nat) (d0 d1 : Word) : State :=
  let s1 := setCause s Reg.cntBlk 16
  raiseEvent (if more then setCause s1 Reg.cntBlk 18 else s1) type noPart noBlock 2 d0 d1

variable (more : Bool) (type : Nat) (d0 d1 : Word)

theorem stopReported_alone : stopReported s false type d0 d1 = raiseEvent (setCause s Reg.cntBlk 16) type noPart noBlock 2 d0 d1 := by
  unfold stopReported
  dsimp only
  rw [if_neg Bool.false_ne_true]

theorem stopReported_more : stopReported s true type d0 d1 =
    raiseEvent (setCause (setCause s Reg.cntBlk 16) Reg.cntBlk 18) type noPart noBlock 2 d0 d1 := by
  unfold stopReported
  dsimp only
  rw [if_pos rfl]

theorem bodySame_stopReported : BodySame s (stopReported s more type d0 d1) := by
  have page : Reg.cntBlk % 0x1000 = 0 := by decide
  refine (bodySame_setCause s 16 page).trans (BodySame.trans ?_ (bodySame_raiseEvent _ _ _ _ _ _ _))
  cases more
  · exact .refl _
  · exact bodySame_setCause _ 18 page

theorem cause_stopReported (ht : evSeverity type ≠ 3) : getBit (stopReported s more type d0 d1) (blkIntRaw Reg.cntBlk) 16 = true := by
  have taken : getBit (setCause s Reg.cntBlk 16) (blkIntRaw Reg.cntBlk) 16 = true := by
    rw [getBit_setCause _ _ _ _ (by decide)]
    exact Bool.or_true _
  unfold stopReported
  refine getBit_raiseEvent_mono _ _ _ _ _ _ _ ht ?_
  cases more
  · exact taken
  · exact getBit_setCause_mono _ _ _ (by decide) taken

/-- The groups of state that a stop which takes the device may change. -/
def stopParts (p : Part) : Bool := eventParts p || decide (p ∈ [Part.hubs, .sources])

theorem keep_stopReported : Keep stopParts s (stopReported s more type d0 d1) := by
  refine raiseEvent_keep rfl rfl rfl rfl ?_
  cases more
  · exact setCause_keep rfl rfl rfl (Keep.refl s)
  · exact setCause_keep rfl rfl rfl (setCause_keep rfl rfl rfl (Keep.refl s))

theorem keep_stopNoted : Keep stopParts s (stopNoted s status step stamps) :=
  keep_foldl (fun _ _ k => setReg_keep rfl k) (setReg_keep rfl (setReg_keep rfl (Keep.refl s)))

/-- The number of the step that a boundary stop closes. -/
def cutStep (s : State) : Word := if s.steps.replay = .none then s.steps.num else s.steps.num - 1

/-- The device at a cut, before it is reported: the counters captured, the trace marked. -/
def cutTaken (s : State) : State :=
  stopTrace (captureAll (stopNoted s (cutStatus s) (cutStep s) fun _ => 0) (fun _ => s.clock.now) s.clock.now false) 1

theorem bodySame_cutTaken : BodySame (stopNoted s (cutStatus s) (cutStep s) fun _ => 0) (cutTaken s) :=
  (bodySame_captureAll _ _ _ _).trans (bodySame_stopTrace _ 1)

theorem keep_cutTaken : Keep stopParts s (cutTaken s) :=
  stopTrace_keep rfl rfl rfl rfl rfl (captureAll_keep rfl rfl (keep_stopNoted s _ _ _))

theorem boundaryCut_eq : boundaryCut s = stopReported (cutTaken s) (!decide (openMsgs s = 0)) 0x070 (stamp s) (word (openMsgs s)) := by
  have taken : boundaryCut s = raiseEvent (if openMsgs s = 0 then setCause (cutTaken s) Reg.cntBlk 16
      else setCause (setCause (cutTaken s) Reg.cntBlk 16) Reg.cntBlk 18) 0x070 noPart noBlock 2 (stamp s) (word (openMsgs s)) := by
    unfold boundaryCut cutTaken stopNoted cutStatus cutStep
    rfl
  rw [taken]
  by_cases h : openMsgs s = 0
  · rw [if_pos h, decide_eq_true h, Bool.not_true, stopReported_alone]
  · rw [if_neg h, decide_eq_false h, Bool.not_false, stopReported_more]

theorem execStopBoundary_cuts {timeout : Bool} (hd : stopDue s = true) (hs : stopState s ≤ 2) (ha : atBoundary s = true)
    (ho : openMsgs s = 0 ∨ timeout = true) : exec (.stopBoundary timeout) s = .next (boundaryCut s) := by
  change Host.Outcome.next (if !stopDue s || decide (2 < stopState s) || !atBoundary s then s
    else if openMsgs s ≠ 0 ∧ ¬ timeout then setStop s 2 else boundaryCut s) = _
  rw [hd, ha, decide_eq_false (by omega), if_neg (by decide), if_neg]
  rintro ⟨h1, h2⟩
  exact ho.elim h1 h2

theorem execStopBoundary_waits (hd : stopDue s = true) (hs : stopState s ≤ 2) (ha : atBoundary s = true) (ho : openMsgs s ≠ 0) :
    exec (.stopBoundary false) s = .next (setStop s 2) := by
  change Host.Outcome.next (if !stopDue s || decide (2 < stopState s) || !atBoundary s then s
    else if openMsgs s ≠ 0 ∧ ¬ false then setStop s 2 else boundaryCut s) = _
  rw [hd, ha, decide_eq_false (by omega), if_neg (by decide), if_pos ⟨ho, Bool.false_ne_true⟩]

end Cut

/-! ### The halt of an immediate stop (R518, R519) -/

section Halt

variable (s : State) (offs : List Nat)

/-- CNT_STOP_STATUS at a halt with a spread. -/
def haltStatus (s : State) (spread : Nat) : Word :=
  word (4 + 2 ^ 3 + b2n (getBit s Reg.cntStopStatus 5) * 2 ^ 5 + min 0xFFFF spread * 2 ^ 16)

theorem haltStatus_state (spread : Nat) : fld (haltStatus s spread) 0 3 = 4 := by
  unfold haltStatus fld word
  rw [BitVec.toNat_ofNat]
  omega

theorem immediateHalt_eq : ∃ spread stamps t, BodySame (stopNoted s (haltStatus s spread) s.steps.num stamps) t ∧
    Keep stopParts (stopNoted s (haltStatus s spread) s.steps.num stamps) t ∧
      ∃ d0, immediateHalt s offs = stopReported t false 0x071 d0 (word spread) := by
  unfold immediateHalt
  extract_lets at_time at_ halts first spread status s1 s2 s3 s4
  exact ⟨spread, _, stopTrace s3 2,
    (bodySame_foldl fun u g => bodySame_captureGroup u _ _ _ g : BodySame s2 s3).trans (bodySame_stopTrace s3 2),
    stopTrace_keep rfl rfl rfl rfl rfl (keep_foldl (fun _ _ k => captureGroup_keep rfl rfl k) (Keep.refl s2)), _,
    (stopReported_alone ..).symm⟩

theorem execStopImmediate_halts {bits : List (BitVec 7)} (hl : bits.length = 24) (h1 : stopState s = 1) (hb : stopAtBoundary s = false)
    (ha : stopAt s ≤ s.clock.now) (hh : haltsOk s (bits.map (·.toNat)) = true) :
    exec (.stopImmediate bits) s = .next (immediateHalt s (bits.map (·.toNat))) := by
  change guarded (decide (bits.length = 24)) (if stopState s ≠ 1 ∨ stopAtBoundary s = true ∨ s.clock.now < stopAt s ∨
    ¬ haltsOk s (bits.map (·.toNat)) = true then s else immediateHalt s (bits.map (·.toNat))) = _
  rw [decide_eq_true hl, if_neg]
  · rfl
  · rw [hb, hh]
    rintro (h | h | h | h)
    · exact h h1
    · exact Bool.false_ne_true h
    · omega
    · exact h rfl

end Halt

/-! ### The release of an immediate stop (R520) -/

section Released

variable (s : State)

theorem steps_sendLost (slice dst : Nat) : (sendLost s slice dst).steps = s.steps :=
  (sendLost_keep (m := quietParts) rfl rfl rfl rfl rfl rfl (Keep.refl s)).same .steps rfl

theorem running_abandonHalted : (abandonHalted s).steps.running = false := by
  unfold abandonHalted
  cases hr : s.steps.running
  · exact hr
  · rw [Bool.not_true, if_neg Bool.false_ne_true]
    refine List.foldlRecOn (motive := fun t : State => t.steps.running = false) _ _ (abandonWith_normal hr).1 fun t ht x _ => ?_
    rw [steps_sendLost]
    exact ht

theorem StepButTn.running {s t : State} (h : StepButTn s t) : t.steps.running = s.steps.running := by
  obtain ⟨tn, h⟩ := h
  rw [h]

theorem stepButTn_announceStep (k : Nat) : StepButTn s (announceStep s k) := by
  unfold announceStep
  extract_lets t
  split
  · exact .of_steps rfl
  · exact ⟨some t, steps_sendAnnounce ..⟩

theorem stepButTn_foldl {β : Type} {f : State → β → State} (l : List β) (hf : ∀ s x, StepButTn s (f s x)) : StepButTn s (l.foldl f s) :=
  List.foldlRecOn (motive := StepButTn s) l f (.of_steps rfl) fun t ht x _ => ht.trans (hf t x)

theorem stepButTn_announceKept : StepButTn s (announceKept s) := by
  unfold announceKept
  split
  · exact .of_steps rfl
  · split
    · refine stepButTn_foldl _ _ fun u p => ?_
      split
      · exact stepButTn_lastReport u p.impo
      · exact .of_steps rfl
    · refine stepButTn_foldl _ _ fun u p => ?_
      split
      · exact stepButTn_announceStep u p.impo
      · exact .of_steps rfl

theorem running_resumeAll (kind : Nat) : (resumeAll s kind).steps.running = s.steps.running := by
  have event : (devEvent (unfreeze (disarm (setStop s 0))) 0x072 kind 0).steps = (unfreeze (disarm (setStop s 0))).steps :=
    (devEvent_keep (m := eventParts) rfl rfl rfl rfl (Keep.refl _)).same .steps rfl
  have opened : (unfreeze (disarm (setStop s 0))).steps = s.steps := rfl
  unfold resumeAll
  rw [steps_startMoves, (stepButTn_announceKept _).running, event, opened]

/-- The interrupted step is abandoned, and frames that were held are applied. -/
def haltCleared (s : State) : State := applyHeld (setStop (dropClass0 (abandonHalted (clearSlots s))) 0)

theorem running_haltCleared : (haltCleared s).steps.running = false := by
  have held : Keep quietParts (dropClass0 (abandonHalted (clearSlots s))) (haltCleared s) :=
    applyHeld_keep rfl rfl rfl rfl rfl rfl (setStop_keep rfl (Keep.refl _))
  have dropped : (dropClass0 (abandonHalted (clearSlots s))).steps = (abandonHalted (clearSlots s)).steps := rfl
  rw [held.same .steps rfl, dropped]
  exact running_abandonHalted (clearSlots s)

end Released

/-- Settles O44: requests arm or are refused by `requestStop`, a stop notes where it came by `stopNoted`, releases go by `resumeAll`. -/
theorem stopsComplete : Obligations.StopsComplete := by
  unfold Obligations.StopsComplete
  refine ⟨?armsBoundary, ?armsImmediate, ?replaces, ?refuses, ?disarms, ?ends, ?lets, ?cuts, ?waits, ?halts, ?released⟩
  case armsBoundary =>
    intro w q s hw hq hk hg hkind h0
    refine ⟨_, stopCtrlRow_served hw hq, ?_⟩
    rw [stopCtrl_go hk hg, hkind, requestStop_free (.inl ⟨h0, .inl rfl⟩)]
    exact ⟨stopState_armStop s 1, stopAtBoundary_armStop s 1, inForceReg_armStop s 1, refused_armStop s 1⟩
  case armsImmediate =>
    intro w q s hw hq hk hg hkind h0
    refine ⟨_, stopCtrlRow_served hw hq, ?_⟩
    rw [stopCtrl_go hk hg, hkind, requestStop_free (.inl ⟨h0, .inr rfl⟩)]
    refine ⟨stopState_armStop s 2, stopAtBoundary_armStop s 2, (inForceReg_armStop s 2).trans ?_⟩
    unfold armTime
    simp only [true_and]
  case replaces =>
    intro w q s hw hq hk hg hkind h1 hb
    refine ⟨_, stopCtrlRow_served hw hq, ?_⟩
    rw [stopCtrl_go hk hg, hkind, requestStop_free (.inr ⟨⟨rfl, .inl h1⟩, hb⟩)]
    exact ⟨stopState_armStop s 2, stopAtBoundary_armStop s 2⟩
  case refuses =>
    intro w q s hw hq hk hg h2
    refine ⟨_, stopCtrlRow_served hw hq, ?_⟩
    rw [stopCtrl_go hk hg, requestStop_taken _ h2]
    exact ⟨getFld_putBit_disjoint _ _ _ _ _ _ (by decide), getBit_putBit_same _ _ _ _ (by decide), putBit_inForce ..⟩
  case disarms =>
    intro w q s hw hq hk hg hr hs
    refine ⟨_, stopCtrlRow_served hw hq, ?_⟩
    rw [stopCtrl_release hk hg hr, releaseStop_armed s hs]
    dsimp only
    rw [stopState_startMoves, stopState_announceKept]
    exact stopState_disarmed s 0
  case ends =>
    intro w q s hw hq hk hg hr hs
    refine ⟨_, stopCtrlRow_served hw hq, ?_⟩
    rw [stopCtrl_release hk hg hr, releaseStop_boundary s hs]
    exact ⟨stopState_resumeAll s 1, frozen_resumeAll s 1 .west, frozen_resumeAll s 1 .east⟩
  case lets =>
    intro w q s hw hq hk hg hr hs
    refine ⟨_, stopCtrlRow_served hw hq, ?_⟩
    rw [stopCtrl_release hk hg hr, releaseStop_immediate s hs]
    exact ⟨stopState_setStop s 5, putFld_steps ..⟩
  case cuts =>
    intro timeout s hd hs ha ho
    refine ⟨_, execStopBoundary_cuts s hd hs ha ho, ?_⟩
    have body := (bodySame_cutTaken s).trans (bodySame_stopReported (cutTaken s) (!decide (openMsgs s = 0)) 0x070 (stamp s) (word (openMsgs s)))
    rw [boundaryCut_eq]
    dsimp only
    rw [stopState, getFld, getBit, body _ bodyRegister_cntStopStatus, body _ bodyRegister_cntStopStep, status_stopNoted, step_stopNoted]
    refine ⟨cutStatus_state s, rfl, cutStatus_open s, cause_stopReported _ _ _ _ _ (by decide), ?_⟩
    exact ((keep_cutTaken s).trans (keep_stopReported ..)).same .steps rfl
  case waits => exact execStopBoundary_waits
  case halts =>
    intro offs s hl h1 hb ha hh
    refine ⟨_, execStopImmediate_halts s hl h1 hb ha hh, ?_⟩
    obtain ⟨spread, stamps, t, body, kept, d0, e⟩ := immediateHalt_eq s (offs.map (·.toNat))
    have all := body.trans (bodySame_stopReported t false 0x071 d0 (word spread))
    rw [e]
    rw [stopState, getFld, all _ bodyRegister_cntStopStatus, all _ bodyRegister_cntStopStep, status_stopNoted, step_stopNoted]
    refine ⟨haltStatus_state s spread, rfl, ?_, cause_stopReported _ _ _ _ _ (by decide)⟩
    exact ((keep_stopNoted s _ _ _).trans (kept.trans (keep_stopReported t _ _ d0 _))).same .steps rfl
  case released =>
    intro s h5
    have runs : exec .stopReleased s = .next (resumeAll (haltCleared s) 2) := by
      change Host.Outcome.next (if stopState s ≠ 5 then s else resumeAll (haltCleared s) 2) = _
      rw [if_neg (fun h => h h5)]
    exact ⟨_, runs, stopState_resumeAll _ 2, (running_resumeAll _ 2).trans (running_haltCleared s)⟩

end Sys2Proof.Machine
end

section
/-!
PROOFS. The ports as software closes, patches, retrains and maps them (R403, R404, R407, R415, R417, R422).
-/
namespace Sys2Proof.Machine

/-! ### Port records and registers -/

/-- A replaced port shows in FAB_STATUS, and in no other register. -/
theorem getReg_setPort_other (s : State) (p : Nat) (x : Port) {a : Nat} (h : a ≠ Reg.fabStatus p) :
    getReg (s.setPort p x) a = getReg s a := getReg_putFld_other _ _ _ _ _ _ h

theorem link_setPort (s : State) (p : Nat) (x : Port) (j : Nat) : (s.setPort p x).link j = s.link j := rfl

theorem time_setReg (s : State) (a : Nat) (w : Word) (j : Nat) : (setReg s a w).time j = s.time j := rfl

theorem fabCtrl_ne_fabStatus (p : Nat) : Reg.fabCtrl p ≠ Reg.fabStatus p := by unfold Reg.fabCtrl Reg.fabStatus; omega

/-! ### FAB_CTRL (R403, R404, R415) -/

section Control

variable {s : State} {w : RegWrite} {q : Site}

theorem fabCtrlRow_served (hw : isReg w .fab0 0x108 = true) (hq : servedAt s w = some q) :
    fabCtrlRow w s = .next (fabCtrl s q.1.inst w.val) := by
  unfold fabCtrlRow
  rw [hw, serveWrite_served hq]
  rfl

/-- FAB_CTRL holds LINK_EN, DRAIN and PATCH of a write. -/
def fabNoted (s : State) (p : Nat) (v : Word) : State := setReg s (Reg.fabCtrl p) (v &&& 7)

variable {p : Nat} {v : Word}

theorem fabCtrl_closes (hk : fld v 16 16 = 0x5A25) (h0 : bit v 0 = false) (h4 : bit v 4 = false) :
    fabCtrl s p v = closePort (fabNoted s p v) p true := by
  unfold fabCtrl
  rw [if_neg (fun h => h hk), h0, h4]
  rfl

theorem fabCtrl_drains (hk : fld v 16 16 = 0x5A25) (h0 : bit v 0 = true) (h1 : bit v 1 = true) (h3 : bit v 3 = false)
    (h4 : bit v 4 = false) : fabCtrl s p v = closePort (fabNoted s p v) p false := by
  unfold fabCtrl
  rw [if_neg (fun h => h hk), h0, h1, h3, h4, Bool.not_true, Bool.and_false, Bool.and_false]
  rfl

theorem fabCtrl_patches (hk : fld v 16 16 = 0x5A25) (h0 : bit v 0 = true) (h1 : bit v 1 = false) (h2 : bit v 2 = true)
    (h3 : bit v 3 = false) (h4 : bit v 4 = false) : fabCtrl s p v = patchPort (fabNoted s p v) p := by
  unfold fabCtrl
  rw [if_neg (fun h => h hk), h0, h1, h2, h3, h4]
  rfl

theorem fabCtrl_retrains (hk : fld v 16 16 = 0x5A25) (h0 : bit v 0 = true) (h1 : bit v 1 = false) (h2 : bit v 2 = false)
    (h3 : bit v 3 = true) (h4 : bit v 4 = false) : fabCtrl s p v = retrainPort (fabNoted s p v) p := by
  unfold fabCtrl
  rw [if_neg (fun h => h hk), h0, h1, h2, h3, h4]
  rfl

theorem fabCtrl_rejoins (hk : fld v 16 16 = 0x5A25) (h0 : bit v 0 = true) (h1 : bit v 1 = false) (h2 : bit v 2 = false)
    (h3 : bit v 3 = false) (h4 : bit v 4 = true) :
    fabCtrl s p v = { fabNoted s p v with deferred := (fabNoted s p v).deferred ++ [.rejoin p] } := by
  unfold fabCtrl
  rw [if_neg (fun h => h hk), h0, h1, h2, h3, h4]
  rfl

/-- A port that leaves routing, in a new phase. -/
def portAside (s : State) (p : Nat) (x : Port) : State := (s.setLink p { s.link p with joined := false }).setPort p x

theorem port_portAside (x : Port) : (portAside s p x).port p = x := port_setPort_same ..

theorem joined_portAside (x : Port) : ((portAside s p x).link p).joined = false := by
  rw [portAside, link_setPort, link_setLink_same]

theorem getReg_portAside (x : Port) : getReg (portAside (fabNoted s p v) p x) (Reg.fabCtrl p) = v &&& 7 := by
  rw [portAside, getReg_setPort_other _ _ _ (fabCtrl_ne_fabStatus p)]
  exact getReg_setReg_same s _ _

theorem closePort_dark (h : (s.port p).phase = .dark) : closePort s p true = portAside s p { s.port p with phase := .off } := by
  unfold closePort portAside
  rw [h]
  rfl

theorem closePort_up (off : Bool) (h : (s.port p).phase = .up) :
    closePort s p off = portAside s p { s.port p with phase := .draining } := by
  unfold closePort portAside
  rw [h]

theorem patchPort_up (h : (s.port p).phase = .up) :
    patchPort s p = portAside s p { s.port p with phase := .patching, width := 0, joins := false } := by
  unfold patchPort portAside
  rw [h]
  rfl

theorem retrainPort_down (h : (s.port p).phase = .down) (hh : (s.port p).hot = false) : retrainPort s p = trainPort s p false := by
  unfold retrainPort
  dsimp only
  rw [h, hh]
  rfl

end Control

/-! ### A port that has drained -/

section Drained

variable (s : State) (p : Nat)

theorem times_setParent (x : Option Nat) : (setParent s x).times = s.times :=
  List.foldlRecOn (motive := fun t : State => t.times = s.times) (List.range 6) _ rfl fun t ht q _ => by
    dsimp only
    split
    · exact ht
    · exact ht

theorem getReg_setParent (x : Option Nat) {a : Nat} (hs : ∀ q, a ≠ Reg.fabStatus q) (ht : ∀ q, a ≠ Reg.fabTimeStatus q) :
    getReg (setParent s x) a = getReg s a :=
  List.foldlRecOn (motive := fun t => getReg t a = getReg s a) (List.range 6) _ rfl fun t h q _ => by
    dsimp only
    split
    · rw [getReg_putBit_other _ _ _ _ _ (hs q), h]
    · rw [getReg_putBit_other _ _ _ _ _ (ht q), getReg_putBit_other _ _ _ _ _ (hs q), h]

theorem times_chooseParent : (chooseParent s).times = s.times := by
  unfold chooseParent
  split
  · exact times_setParent s none
  · exact times_setParent s _

theorem getReg_chooseParent {a : Nat} (hs : ∀ q, a ≠ Reg.fabStatus q) (ht : ∀ q, a ≠ Reg.fabTimeStatus q) :
    getReg (chooseParent s) a = getReg s a := by
  unfold chooseParent
  split
  · exact getReg_setParent s none hs ht
  · exact getReg_setParent s _ hs ht

theorem ports_chooseParent : (chooseParent s).ports = s.ports :=
  ((chooseParent_keep (m := fun p => decide (p ∈ [Part.regs, .time])) rfl rfl (Keep.refl s)).same .ports rfl).1

/-- A port that has drained: OFF, with no lane and no time offer. -/
def portDrained (s : State) (p : Nat) : State :=
  let s1 := setReg (s.setPort p { s.port p with phase := .off, width := 0, outcome := 0, reason := 0 }) (Reg.fabLaneGood p) 0
  s1.setTime p { s1.time p with offer := none, t1 := none }

theorem exec_portDrainDone (q : Fin 6) (hd : (s.port q).phase = .draining) (hr : (s.link q).retry = []) (hw : (s.link q).waiting = []) :
    exec (.portDrainDone q) s = .next (if (portDrained s q).clock.parent = some q.val then chooseParent (portDrained s q) else portDrained s q) := by
  change Host.Outcome.next (if (s.port q).phase = .draining ∧ (s.link q).retry = [] ∧ (s.link q).waiting = [] then _ else s) = _
  rw [if_pos ⟨hd, hr, hw⟩]
  rfl

theorem port_portDrained : ((portDrained s p).port p).phase = .off := congrArg Port.phase (port_setPort_same ..)

theorem offer_portDrained : ((portDrained s p).time p).offer = none := congrArg TimePort.offer (time_setTime_same ..)

theorem laneGood_portDrained : getReg (portDrained s p) (Reg.fabLaneGood p) = 0 := getReg_setReg_same ..

end Drained

/-! ### FAB_MAP and the routing table (R403, R407, R417, R422) -/

section Maps

variable {s : State} {w : RegWrite} {q : Site}

/-- Page 0 of a port lies at the base of its block. -/
theorem base_of_locate_fab0 {a : Nat} {p : PageRef} (h : locate a = some p) (hk : p.kind = .fab0) : p.base % 0x1000 = 0 := by
  have place : (locate a).map (fun p => (p.kind, p.base)) = some (.fab0, p.base) := by rw [h, Option.map_some, hk]
  simp only [locate, apply_ite (Option.map fun p : PageRef => (p.kind, p.base)), Option.map_some, Option.map_none, ite_eq_cases,
    Option.some.injEq, Prod.mk.injEq, reduceCtorEq, false_and, and_false, and_true, or_false, false_or] at place
  omega

theorem base_of_servedAt_fab0 {o : Nat} (hw : isReg w .fab0 o = true) (hq : servedAt s w = some q) : q.1.base % 0x1000 = 0 := by
  obtain ⟨p, off, key, row⟩ := q
  obtain ⟨_, _, hp⟩ := resolve_reg (resolve_of_servedAt hq)
  exact base_of_locate_fab0 (locate_of_resolvePage hp).1 (site_of_isReg (by decide) hw hq).1

theorem bodyRegister_fabMap (p : Nat) : BodyRegister (Reg.fabMap p) := by
  have aside : ∀ x ∈ eventRegs, x % 0x1000 ≠ 0x120 := by decide
  have place : Reg.fabMap p % 0x1000 = 0x120 := by unfold Reg.fabMap; omega
  exact ⟨by omega, fun h => aside _ h place⟩

theorem exec_fabMapWrite (hw : isReg w .fab0 0x120 = true) (hq : servedAt s w = some q) :
    exec (.fabMapWrite w) s = .next (match mapReject s q.1.inst w.val with
      | some r => capture s q.1.base 0x0506 0 noPart 0 (fld w.val 0 3 + r * 2 ^ 3)
      | none => { s with deferred := s.deferred ++ [.fabMap q.1.inst (w.val &&& 15)] }) := by
  change guarded (isReg w .fab0 0x120) (serveWrite s w _) = _
  rw [hw, serveWrite_served hq]
  rfl

/-- FAB_RT_COMMIT reads as not refused. -/
def routeTaken (s : State) (p : Nat) : State := putBit s (Reg.fabRtCommit p) 1 false

theorem exec_fabRtCommit (hw : isReg w .fab1 0x128 = true) (hq : servedAt s w = some q) (hb : bit w.val 0 = true)
    (hr : routeOk ((getLatch s w.who (Reg.fabRtIndex q.1.inst)).headD 0) = true) : exec (.fabRtCommit w) s =
      .next { routeTaken s q.1.inst with deferred := (routeTaken s q.1.inst).deferred ++ [.route
        (fld (latchedIndex s w.who (Reg.fabRtIndex q.1.inst)) 0 12) ((getLatch s w.who (Reg.fabRtIndex q.1.inst)).headD 0)] } := by
  change guarded (isReg w .fab1 0x128) (serveWrite s w _) = _
  rw [hw, serveWrite_served hq]
  dsimp only
  rw [hb, hr]
  rfl

end Maps

/-! ### Light -/

theorem exec_partnerLight_dark (p : Fin 6) (s : State) (h : (s.port p).phase = .dark) :
    exec (.partnerLight p) s = .next (trainPort s p true) := by
  change Host.Outcome.next (match (s.port p).phase with | .dark => _ | .patching => _ | _ => s) = _
  rw [h]

theorem exec_partnerLight_patching (p : Fin 6) (s : State) (h : (s.port p).phase = .patching) :
    exec (.partnerLight p) s = .next (trainPort s p false) := by
  change Host.Outcome.next (match (s.port p).phase with | .dark => _ | .patching => _ | _ => s) = _
  rw [h]

/-- A port whose light has not come back in time. -/
def portGivenUp (s : State) (p : Nat) : State := s.setPort p { s.port p with phase := .dark, outcome := 4 }

theorem exec_patchDarkTimeout (p : Fin 6) (s : State) (h : (s.port p).phase = .patching) :
    exec (.patchDarkTimeout p) s = .next (capture (portGivenUp s p) (Reg.fabBlk p) 0x0501 0 noPart 0 1) := by
  change Host.Outcome.next (if (s.port p).phase = .patching then _ else s) = _
  rw [if_pos h]
  rfl

theorem ports_capture (s : State) (blk code source part addr detail : Nat) : (capture s blk code source part addr detail).ports = s.ports :=
  ((capture_keep (m := eventParts) rfl rfl rfl rfl (Keep.refl s)).same .ports rfl).1

theorem port_capture (s : State) (blk code source part addr detail j : Nat) :
    (capture s blk code source part addr detail).port j = s.port j := by rw [State.port, ports_capture, State.port]

/-- Settles O34: FAB_CTRL acts by `fabCtrl`, one lemma for each of its bits; FAB_MAP and routes wait in `deferred`. -/
theorem portCommandsComplete : Obligations.PortCommandsComplete := by
  unfold Obligations.PortCommandsComplete
  refine ⟨?closes, ?drains, ?drained, ?patches, ?retrains, ?rejoins, ?joins, ?lightDark, ?lightPatched, ?timeout, ?mapped, ?mapRefused,
    ?routed⟩
  case closes =>
    intro w q s hw hq hk h0 h4 hd
    refine ⟨_, fabCtrlRow_served hw hq, ?_⟩
    rw [fabCtrl_closes hk h0 h4, closePort_dark (s := fabNoted s _ _) hd]
    exact ⟨congrArg Port.phase (port_portAside _), getReg_portAside _⟩
  case drains =>
    intro w q s hw hq hk h0 h1 h3 h4 hu
    refine ⟨_, fabCtrlRow_served hw hq, ?_⟩
    rw [fabCtrl_drains hk h0 h1 h3 h4, closePort_up (s := fabNoted s _ _) false hu]
    exact ⟨congrArg Port.phase (port_portAside _), joined_portAside _, getReg_portAside _⟩
  case drained =>
    intro p s hd hr hw
    refine ⟨_, exec_portDrainDone s p hd hr hw, ?_⟩
    split
    · rw [State.port, State.time, ports_chooseParent, times_chooseParent, getReg_chooseParent]
      · exact ⟨port_portDrained s p, offer_portDrained s p, laneGood_portDrained s p⟩
      · intro q
        unfold Reg.fabLaneGood Reg.fabStatus
        omega
      · intro q
        unfold Reg.fabLaneGood Reg.fabTimeStatus
        omega
    · exact ⟨port_portDrained s p, offer_portDrained s p, laneGood_portDrained s p⟩
  case patches =>
    intro w q s hw hq hk h0 h2 h1 h3 h4 hu
    refine ⟨_, fabCtrlRow_served hw hq, ?_⟩
    rw [fabCtrl_patches hk h0 h1 h2 h3 h4, patchPort_up (s := fabNoted s _ _) hu]
    exact ⟨congrArg Port.phase (port_portAside _), congrArg Port.width (port_portAside _), joined_portAside _⟩
  case retrains =>
    intro w q s hw hq hk h0 h1 h2 h3 h4 hd hh
    refine (fabCtrlRow_served hw hq).trans ?_
    rw [fabCtrl_retrains hk h0 h1 h2 h3 h4, retrainPort_down (s := fabNoted s _ _) hd hh]
    rfl
  case rejoins =>
    intro w q s hw hq hk h0 h1 h2 h3 h4
    refine ⟨_, fabCtrlRow_served hw hq, ?_⟩
    rw [fabCtrl_rejoins hk h0 h1 h2 h3 h4]
    exact ⟨rfl, rfl⟩
  case joins =>
    intro p s hu ho
    have joined : applyDeferred s (.rejoin p) = s.setLink p { s.link p with joined := true } := if_pos ⟨hu, .inl ho⟩
    rw [joined, link_setLink_same]
  case lightDark => exact exec_partnerLight_dark
  case lightPatched => exact exec_partnerLight_patching
  case timeout =>
    intro p s h
    refine ⟨_, exec_patchDarkTimeout p s h, ?_⟩
    dsimp only
    rw [port_capture]
    exact ⟨congrArg Port.phase (port_setPort_same s p _), congrArg Port.outcome (port_setPort_same s p _)⟩
  case mapped =>
    intro w q s hw hq hr
    rw [exec_fabMapWrite hw hq, hr]
  case mapRefused =>
    intro w q r s hw hq hr
    refine ⟨_, exec_fabMapWrite hw hq, ?_⟩
    rw [hr]
    exact ⟨deferred_capture .., ports_capture .., bodySame_capture s _ _ _ _ _ (base_of_servedAt_fab0 hw hq) _ (bodyRegister_fabMap _)⟩
  case routed =>
    intro w q s hw hq hb hr
    refine ⟨_, exec_fabRtCommit hw hq hb hr, ?_, ?_, ?_⟩
    · dsimp only
      rw [routeTaken, putBit_deferred]
    · exact getBit_putBit_same s _ 1 false (by decide)
    · exact putBit_routes s (Reg.fabRtCommit q.1.inst) 1 false

end Sys2Proof.Machine
end

section
/-!
PROOFS. A fail-stop (R472): the registers that it sets, and those below the memory dies that the abandoned step, DECLARE and the last-gasp
records leave.
-/
namespace Sys2Proof.Machine

/-- A register of the body below the memory dies. -/
def LowRegister (a : Nat) : Prop := BodyRegister a ∧ a < 0x300000

/-! ### An abandoned step -/

theorem bodySame_sendReport (s : State) (k : Nat) : BodySame s (sendReport s k) := by
  have told : BodySame (openContent s).2 (sendMember (openContent s).2 k (s.impo k).record.lead 0x10 0 (openContent s).1) :=
    bodySame_sendMsg _ _ _ _ _ _ _ _
  exact told

theorem bodySame_groupAbandoned (s : State) (k : Nat) : BodySame s (groupAbandoned s k) := by
  unfold groupAbandoned
  split
  · exact .refl s
  · split
    · exact bodySame_lastReport (s.setGroup k { s.group k with abandoned := true }) k
    · split
      · exact .refl s
      · exact bodySame_sendReport s k

theorem bodySame_markSuspect (s : State) (k b : Nat) : BodySame s (markSuspect s k b) := by
  have page : Reg.galBlk % 0x1000 = 0 := by decide
  unfold markSuspect
  extract_lets x s1
  split
  · exact .refl s
  · have counted := bodySame_count (s.setImpo k { x with suspect := x.suspect ||| 2 ^ b }) Reg.galSuspects 1
    exact (show BodySame s _ from counted).trans ((bodySame_setCause _ 17 page).trans (bodySame_raiseEvent _ _ _ _ _ _ _))

theorem bodySame_unpickAll (s : State) (ps : List PartPick) : BodySame s (unpickAll s ps) :=
  .of_keep (unpickAll_keep (m := fun p => decide (p = .galley)) rfl (Keep.refl s)) rfl

section Low

variable {a : Nat} (ha : LowRegister a)
include ha

theorem getReg_releasePairs (s : State) : getReg (releasePairs s) a = getReg s a := by
  unfold releasePairs
  refine List.foldlRecOn (motive := fun t => getReg t a = getReg s a) (s.nbus.filter fun n => n.2.holds) _ rfl fun t ht n _ => ?_
  have low := ha.2
  rw [getReg_putBit_other _ _ _ _ _ (by unfold Reg.nbuPairBusy; omega), ht]

theorem getReg_clearEngines (s : State) : getReg (clearEngines s) a = getReg s a := getReg_releasePairs ha s

/-- A step that is dropped is counted and reported, and the groups that took part are told. -/
theorem getReg_stepDropped (s : State) (ps : List PartPick) (d0 d1 : Nat) :
    getReg (ps.foldl (fun s p => groupAbandoned s p.impo)
      (devEvent (drawFree (count (clearEngines s) Reg.galAbandoned 1)).2 0x030 d0 d1)) a = getReg s a := by
  have told := bodySame_foldl (f := fun s (p : PartPick) => groupAbandoned s p.impo) (l := ps)
    (s := devEvent (drawFree (count (clearEngines s) Reg.galAbandoned 1)).2 0x030 d0 d1) fun s p => bodySame_groupAbandoned s p.impo
  rw [told a ha.1, devEvent, bodySame_raiseEvent _ _ _ _ _ _ _ a ha.1]
  exact (bodySame_count (clearEngines s) Reg.galAbandoned 1 a ha.1).trans (getReg_clearEngines ha s)

theorem getReg_abandonWith (s : State) (r : Replay) : getReg (abandonWith s r) a = getReg s a := by
  unfold abandonWith
  split
  · rfl
  · dsimp only
    split
    · exact getReg_stepDropped ha _ _ _ _
    · split
      · refine (bodySame_foldl (fun s (p : PartPick) => bodySame_markSuspect s p.impo p.bucket) a ha.1).trans ?_
        exact (bodySame_unpickAll _ _ a ha.1).trans (getReg_stepDropped ha _ _ _ _)
      · exact (bodySame_unpickAll _ _ a ha.1).trans (getReg_stepDropped ha _ _ _ _)

theorem getReg_abandonStep (s : State) : getReg (abandonStep s) a = getReg s a := by
  unfold abandonStep
  extract_lets s1 undone steps s2
  have given : getReg s2 a = getReg s a := by
    refine Eq.trans ?_ (getReg_abandonWith ha s .none)
    dsimp only [s2]
    split
    · exact bodySame_unpickAll s1 _ a ha.1
    · rfl
  split
  · exact (bodySame_unpickAll s2 _ a ha.1).trans given
  · exact given

/-! ### DECLARE and last gasps -/

theorem getReg_declare (s : State) (scope part reason : Nat) (ht : a ≠ Reg.devTwinStatus) : getReg (declare s scope part reason) a = getReg s a := by
  unfold declare
  extract_lets cov
  split
  · rfl
  · dsimp only
    rw [bodySame_raiseEvent _ _ _ _ _ _ _ a ha.1, bodySame_count _ _ _ a ha.1, getReg_putBit_other _ _ _ _ _ ht]
    exact bodySame_foldl (fun u p => bodySame_foldl fun u f => bodySame_queueFlit u p f) a ha.1

theorem getReg_lastGasp (s : State) (h : Half) (code : Nat) : getReg (lastGasp s h code) a = getReg s a := by
  obtain ⟨past, aside⟩ := ha.1
  refine getReg_lastGasp_other s h code a ?_ ?_
  · cases h <;> exact fun e => aside (e ▸ by decide)
  · cases h <;> exact fun e => aside (e ▸ by decide)

/-- A fail-stop writes DEV_FAIL_STATUS, and shows a DECLARE in DEV_TWIN_STATUS. -/
theorem getReg_failStop (s : State) (reason : Nat) (hf : a ≠ Reg.devFailStatus) (ht : a ≠ Reg.devTwinStatus) :
    getReg (failStop s reason) a = getReg s a := by
  unfold failStop
  split
  · rfl
  · have page : Reg.devBlk % 0x1000 = 0 := by decide
    dsimp only
    rw [devEvent, bodySame_raiseEvent _ _ _ _ _ _ _ a ha.1, bodySame_setCause _ _ page a ha.1, getReg_lastGasp ha, getReg_lastGasp ha,
      getReg_putFld_other _ _ _ _ _ _ hf, getReg_putFld_other _ _ _ _ _ _ hf, getReg_putBit_other _ _ _ _ _ hf,
      getReg_declare ha _ _ _ _ ht, getReg_abandonStep ha]

end Low

/-! ### DEV_FAIL_STATUS -/

theorem lowRegister_devFailStatus : LowRegister Reg.devFailStatus := ⟨⟨by decide, by decide⟩, by decide⟩

section Fail

variable {s : State} {reason : Nat}

/-- DEV_FAIL_STATUS of a device that fail-stops. -/
def failShown (s : State) (reason : Nat) : State :=
  putFld (putFld (putBit (declare (abandonStep s) 0 0 reason) Reg.devFailStatus 0 true) Reg.devFailStatus 4 4 reason) Reg.devFailStatus 16 48
    (s.clock.now / 2 ^ 10 % 2 ^ 48)

theorem failStatus_failStop (h : getBit s Reg.devFailStatus 0 = false) :
    getReg (failStop s reason) Reg.devFailStatus = getReg (failShown s reason) Reg.devFailStatus := by
  have page : Reg.devBlk % 0x1000 = 0 := by decide
  unfold failStop failShown
  rw [h, if_neg Bool.false_ne_true]
  dsimp only
  rw [devEvent, bodySame_raiseEvent _ _ _ _ _ _ _ _ lowRegister_devFailStatus.1, bodySame_setCause _ _ page _ lowRegister_devFailStatus.1,
    getReg_lastGasp lowRegister_devFailStatus, getReg_lastGasp lowRegister_devFailStatus]

/-- A device that fail-stops is FAILED. -/
theorem failed_failStop : getBit (failStop s reason) Reg.devFailStatus 0 = true := by
  cases h : getBit s Reg.devFailStatus 0
  · rw [getBit, failStatus_failStop h, ← getBit, failShown, getBit_putFld_disjoint _ _ _ _ _ _ (by decide),
      getBit_putFld_disjoint _ _ _ _ _ _ (by decide), getBit_putBit_same _ _ _ _ (by decide)]
  · unfold failStop
    rw [h, if_pos rfl, h]

theorem fenced_failStop : getBit (failStop s reason) Reg.devFailStatus 1 = getBit s Reg.devFailStatus 1 := by
  cases h : getBit s Reg.devFailStatus 0
  · rw [getBit, failStatus_failStop h, ← getBit, failShown, getBit_putFld_disjoint _ _ _ _ _ _ (by decide),
      getBit_putFld_disjoint _ _ _ _ _ _ (by decide), getBit_putBit_disjoint _ _ _ _ _ (by decide), getBit,
      getReg_declare lowRegister_devFailStatus _ _ _ _ (by decide), getReg_abandonStep lowRegister_devFailStatus, getBit]
  · unfold failStop
    rw [h, if_pos rfl]

theorem reason_failStop (h : getBit s Reg.devFailStatus 0 = false) (hr : reason < 2 ^ 4) :
    getFld (failStop s reason) Reg.devFailStatus 4 4 = reason := by
  rw [getFld, failStatus_failStop h, ← getFld, failShown, getFld_putFld_disjoint _ _ _ _ _ _ _ (by decide),
    getFld_putFld_same _ _ _ _ _ (by decide), Nat.mod_eq_of_lt hr]

end Fail

end Sys2Proof.Machine
end

section
/-!
PROOFS. The management controllers (R467 to R473): heartbeats, the lease, watchdogs, host arbitration, fencing, the hub-to-hub link.
-/
namespace Sys2Proof.Machine

/-! ### HUB_MC_STATUS -/

theorem lowRegister_hubMcStatus (h : Half) : LowRegister (Reg.hubMcStatus h.idx) := by
  cases h <;> exact ⟨⟨by decide, by decide⟩, by decide⟩

theorem hubMcStatus_other (h : Half) : Reg.hubMcStatus h.other.idx ≠ Reg.hubMcStatus h.idx := by cases h <;> decide

theorem hubMcStatus_ne_devFailStatus (h : Half) : Reg.hubMcStatus h.idx ≠ Reg.devFailStatus := by cases h <;> decide

theorem hubMcStatus_ne_devTwinStatus (h : Half) : Reg.hubMcStatus h.idx ≠ Reg.devTwinStatus := by cases h <;> decide

theorem hubMcStatus_ne_nvsStatus (h : Half) : Reg.hubMcStatus h.idx ≠ Reg.nvsStatus := by cases h <;> decide

theorem mcHalf_mcNum (h : Half) : mcHalf (mcNum h) = h := by cases h <;> rfl

theorem eq_other_of_ne {x h : Half} (hx : x ≠ h) : x = h.other := by
  cases x <;> cases h
  · exact absurd rfl hx
  · rfl
  · rfl
  · exact absurd rfl hx

theorem mcNum_ne_zero (h : Half) : mcNum h ≠ 0 := Nat.succ_ne_zero _

section Status

variable (s : State) (h : Half)

/-- A controller is as its register says; an event leaves that register. -/
theorem hubMcStatus_devEvent (type d0 d1 : Nat) : getReg (devEvent s type d0 d1) (Reg.hubMcStatus h.idx) = getReg s (Reg.hubMcStatus h.idx) :=
  bodySame_raiseEvent _ _ _ _ _ _ _ _ (lowRegister_hubMcStatus h).1

theorem bodySame_devEvent (type d0 d1 : Nat) : BodySame s (devEvent s type d0 d1) := bodySame_raiseEvent _ _ _ _ _ _ _

theorem mcActs_devEvent (type d0 d1 : Nat) : mcActs (devEvent s type d0 d1) h = mcActs s h := by
  rw [mcActs, getBit, hubMcStatus_devEvent, mcActs, getBit]

theorem mcRuns_devEvent (type d0 d1 : Nat) : mcRuns (devEvent s type d0 d1) h = mcRuns s h := by
  rw [mcRuns, getBit, hubMcStatus_devEvent, mcRuns, getBit]

theorem nvs_devEvent (type d0 d1 : Nat) : (devEvent s type d0 d1).nvs = s.nvs :=
  ((devEvent_keep (m := eventParts) rfl rfl rfl rfl (Keep.refl s)).same .nvs rfl).1

/-! ### LEASE_HELD and MODE -/

variable (held : Bool) (mode : Nat)

theorem mcActs_setMc : mcActs (setMc s h held mode) h = held := by
  rw [mcActs, setMc, getBit_putFld_disjoint _ _ _ _ _ _ (by decide), getBit_putBit_same _ _ _ _ (by decide)]

theorem mode_setMc : getFld (setMc s h held mode) (Reg.hubMcStatus h.idx) 2 2 = mode % 2 ^ 2 := getFld_putFld_same _ _ _ _ _ (by decide)

theorem getBit_setMc {i : Nat} (hi : i = 0 ∨ 4 ≤ i) :
    getBit (setMc s h held mode) (Reg.hubMcStatus h.idx) i = getBit s (Reg.hubMcStatus h.idx) i := by
  rw [setMc, getBit_putFld_disjoint _ _ _ _ _ _ (by omega), getBit_putBit_disjoint _ _ _ _ _ (by omega)]

theorem getFld_setMc {lo n : Nat} (hl : 4 ≤ lo) : getFld (setMc s h held mode) (Reg.hubMcStatus h.idx) lo n = getFld s (Reg.hubMcStatus h.idx) lo n := by
  rw [setMc, getFld_putFld_disjoint _ _ _ _ _ _ _ (by omega), getFld_putBit_disjoint _ _ _ _ _ _ (by omega)]

theorem getReg_setMc_other {a : Nat} (ha : a ≠ Reg.hubMcStatus h.idx) : getReg (setMc s h held mode) a = getReg s a := by
  rw [setMc, getReg_putFld_other _ _ _ _ _ _ ha, getReg_putBit_other _ _ _ _ _ ha]

theorem nvs_setMc : (setMc s h held mode).nvs = s.nvs := by rw [setMc, putFld_nvs, putBit_nvs]

theorem hub_setMc (x : Half) : (setMc s h held mode).hub x = s.hub x :=
  hub_of_keep (setMc_keep (m := fun p => decide (p = .regs)) rfl (Keep.refl s)) rfl x

/-! ### The epoch that a controller has seen -/

variable (e : Nat)

theorem getBit_setEpochSeen {i : Nat} (hi : i < 16) :
    getBit (setEpochSeen s h e) (Reg.hubMcStatus h.idx) i = getBit s (Reg.hubMcStatus h.idx) i := by
  rw [setEpochSeen, getBit_putFld_disjoint _ _ _ _ _ _ (.inl hi)]

theorem getFld_setEpochSeen {lo n : Nat} (hl : lo + n ≤ 16) :
    getFld (setEpochSeen s h e) (Reg.hubMcStatus h.idx) lo n = getFld s (Reg.hubMcStatus h.idx) lo n := by
  rw [setEpochSeen, getFld_putFld_disjoint _ _ _ _ _ _ _ (.inl hl)]

theorem getReg_seeEpoch_other {a : Nat} (ha : a ≠ Reg.hubMcStatus h.idx) : getReg (seeEpoch s h e) a = getReg s a := by
  have noted : getReg (setEpochSeen s h e) a = getReg s a := getReg_putFld_other _ _ _ _ _ _ ha
  unfold seeEpoch
  split
  · dsimp only
    split
    · exact (getReg_setMc_other _ _ _ _ ha).trans noted
    · exact noted
  · rfl

theorem getBit_seeEpoch {i : Nat} (h4 : 4 ≤ i) (hi : i < 16) :
    getBit (seeEpoch s h e) (Reg.hubMcStatus h.idx) i = getBit s (Reg.hubMcStatus h.idx) i := by
  unfold seeEpoch
  split
  · dsimp only
    split
    · rw [mcWait, getBit_setMc _ _ _ _ (.inr h4), getBit_setEpochSeen _ _ _ hi]
    · exact getBit_setEpochSeen _ _ _ hi
  · rfl

theorem getFld_seeEpoch {lo n : Nat} (h4 : 4 ≤ lo) (hl : lo + n ≤ 16) :
    getFld (seeEpoch s h e) (Reg.hubMcStatus h.idx) lo n = getFld s (Reg.hubMcStatus h.idx) lo n := by
  unfold seeEpoch
  split
  · dsimp only
    split
    · rw [mcWait, getFld_setMc _ _ _ _ h4, getFld_setEpochSeen _ _ _ hl]
    · exact getFld_setEpochSeen _ _ _ hl
  · rfl

/-- A controller that does not act does not act on seeing an epoch. -/
theorem mcActs_seeEpoch (hs : mcActs s h = false) : mcActs (seeEpoch s h e) h = false := by
  unfold seeEpoch
  split
  · dsimp only
    split
    · exact mcActs_setMc _ _ _ _
    · rw [mcActs, getBit_setEpochSeen _ _ _ (by decide)]
      exact hs
  · exact hs

theorem nvs_seeEpoch : (seeEpoch s h e).nvs = s.nvs :=
  ((seeEpoch_keep (m := fun p => decide (p = .regs)) rfl (Keep.refl s)).same .nvs rfl).1

end Status

/-! ### The lease (R468, R469) -/

section Lease

variable (s : State) (h : Half)

/-- The lease that a grant makes. -/
def granted (s : State) (h : Half) : Lease := { s.nvs.lease with
  holder := mcNum h
  epoch := (s.nvs.lease.epoch + 1) % 2 ^ 48
  expires := (s.nvs.timer + 5000) % 2 ^ 32
  renewals := 0
  acquired := s.clock.now
  queued := 0
  last := mcNum h }

/-- The controllers after a grant. -/
def grantShown (s : State) (h : Half) : State :=
  mcWait (setEpochSeen (setMc (s.setLease (granted s h)) h true 0) h ((s.nvs.lease.epoch + 1) % 2 ^ 48)) h.other

theorem grantLease_eq : grantLease s h = grantShown s h ∨ grantLease s h = devEvent (grantShown s h) 0x051 (mcNum h)
    ((s.nvs.lease.epoch + 1) % 2 ^ 48) := by
  unfold grantLease
  dsimp only
  split
  · exact .inr rfl
  · exact .inl rfl

theorem nvs_grantShown : (grantShown s h).nvs = { s.nvs with lease := granted s h } := by
  rw [grantShown, mcWait, nvs_setMc, setEpochSeen, putFld_nvs, nvs_setMc, State.setLease]

theorem lease_grantLease : (grantLease s h).nvs.lease = granted s h := by
  obtain e | e := grantLease_eq s h <;> rw [e]
  · rw [nvs_grantShown]
  · rw [nvs_devEvent, nvs_grantShown]

theorem hubMcStatus_grantLease (x : Half) : getReg (grantLease s h) (Reg.hubMcStatus x.idx) = getReg (grantShown s h) (Reg.hubMcStatus x.idx) := by
  obtain e | e := grantLease_eq s h <;> rw [e]
  exact hubMcStatus_devEvent ..

theorem mcActs_grantLease : mcActs (grantLease s h) h = true := by
  rw [mcActs, getBit, hubMcStatus_grantLease, grantShown, mcWait, getReg_setMc_other _ _ _ _ (hubMcStatus_other h).symm, ← getBit,
    getBit_setEpochSeen _ _ _ (by decide)]
  exact mcActs_setMc _ _ _ _

theorem mcActs_grantLease_other : mcActs (grantLease s h) h.other = false := by
  rw [mcActs, getBit, hubMcStatus_grantLease, grantShown, ← getBit]
  exact mcActs_setMc _ _ _ _

/-- A grant starts and stops no controller. -/
theorem mcRuns_grantLease (x : Half) : mcRuns (grantLease s h) x = mcRuns s x := by
  have own : mcRuns (setEpochSeen (setMc (s.setLease (granted s h)) h true 0) h ((s.nvs.lease.epoch + 1) % 2 ^ 48)) h = mcRuns s h := by
    rw [mcRuns, getBit_setEpochSeen _ _ _ (by decide), getBit_setMc _ _ _ _ (.inl rfl)]
    rfl
  have peer : mcRuns (setEpochSeen (setMc (s.setLease (granted s h)) h true 0) h ((s.nvs.lease.epoch + 1) % 2 ^ 48)) h.other =
      mcRuns s h.other := by
    rw [mcRuns, setEpochSeen, getBit_putFld_other _ _ _ _ _ _ _ (hubMcStatus_other h), getBit, getReg_setMc_other _ _ _ _ (hubMcStatus_other h)]
    rfl
  rw [mcRuns, getBit, hubMcStatus_grantLease, grantShown, mcWait, ← getBit]
  by_cases hx : x = h
  · rw [hx, getBit, getReg_setMc_other _ _ _ _ (hubMcStatus_other h).symm]
    exact own
  · obtain rfl := eq_other_of_ne hx
    rw [getBit_setMc _ _ _ _ (.inl rfl)]
    exact peer

/-- The lease after its release, before a controller that is queued takes it. -/
def leaseFreed (s : State) : State :=
  let s1 := s.setLease { s.nvs.lease with holder := 0, queued := 0 }
  if s.nvs.lease.holder = 0 then s1 else mcWait s1 (mcHalf s.nvs.lease.holder)

theorem freeLease_eq : freeLease s = if s.nvs.lease.queued = 0 then leaseFreed s else grantLease (leaseFreed s) (mcHalf s.nvs.lease.queued) := rfl

theorem nvs_leaseFreed : (leaseFreed s).nvs = { s.nvs with lease := { s.nvs.lease with holder := 0, queued := 0 } } := by
  unfold leaseFreed
  dsimp only
  split
  · rfl
  · rw [mcWait, nvs_setMc, State.setLease]

theorem mcRuns_leaseFreed (x : Half) : mcRuns (leaseFreed s) x = mcRuns s x := by
  unfold leaseFreed
  dsimp only
  split
  · rfl
  · by_cases hx : Reg.hubMcStatus x.idx = Reg.hubMcStatus (mcHalf s.nvs.lease.holder).idx
    · rw [mcRuns, hx, mcWait, getBit_setMc _ _ _ _ (.inl rfl), mcRuns, hx]
      rfl
    · rw [mcRuns, mcWait, getBit, getReg_setMc_other _ _ _ _ hx]
      rfl

theorem mcActs_leaseFreed (hh : s.nvs.lease.holder ≠ 0) : mcActs (leaseFreed s) (mcHalf s.nvs.lease.holder) = false := by
  unfold leaseFreed
  dsimp only
  rw [if_neg hh]
  exact mcActs_setMc _ _ _ _

theorem mcRuns_freeLease (x : Half) : mcRuns (freeLease s) x = mcRuns s x := by
  rw [freeLease_eq]
  split
  · exact mcRuns_leaseFreed s x
  · exact (mcRuns_grantLease ..).trans (mcRuns_leaseFreed s x)

/-- A lease that no controller awaits is free after its release, and its holder acts no more. -/
theorem freeLease_unqueued (hq : s.nvs.lease.queued = 0) : freeLease s = leaseFreed s ∧ (leaseFreed s).nvs.lease = { s.nvs.lease with holder := 0 } := by
  refine ⟨by rw [freeLease_eq, if_pos hq], ?_⟩
  rw [nvs_leaseFreed, ← hq]

end Lease

/-! ### Controllers -/

section Controllers

variable (s : State) (h : Half)

/-- What a heartbeat shows at the controller that hears it. -/
def heard (s : State) (h : Half) : State :=
  putFld (putBit (mcBack s h) (Reg.hubMcStatus h.other.idx) 5 true) (Reg.hubMcStatus h.other.idx) 8 8 0

/-- And, while the sender holds the lease, that it does. -/
def heardHolding (s : State) (h : Half) : State :=
  if leaseValid (heard s h) && decide ((heard s h).nvs.lease.holder = mcNum h) then
    (heard s h).setHub h.other { (heard s h).hub h.other with peerHeld := some (heard s h).clock.now }
  else heard s h

theorem exec_heartbeat (hl : hubLinkUp s = true) :
    exec (.heartbeat h) s = .next (seeEpoch (heardHolding s h) h.other (epochSeen (heardHolding s h) h)) := by
  change execHeartbeat h s = _
  unfold execHeartbeat heardHolding heard
  rw [hl, Bool.not_true, if_neg Bool.false_ne_true]

theorem getReg_heardHolding (a : Nat) : getReg (heardHolding s h) a = getReg (heard s h) a := by
  unfold heardHolding
  split
  · exact getReg_setHub ..
  · rfl

/-- A watchdog that expires stops its controller. -/
def watchdogShown (s : State) (h : Half) : State :=
  devEvent (lastGasp (mcWait (putBit s (Reg.hubMcStatus h.idx) 0 false) h) h 0x004) 0x052 (mcNum h) 0

/-- And gives its lease back. -/
def watchdogFreed (s : State) (h : Half) : State :=
  if (watchdogShown s h).nvs.lease.holder = mcNum h then freeLease (watchdogShown s h) else watchdogShown s h

theorem exec_mcWatchdog (hr : mcRuns s h = true) : exec (.mcWatchdog h) s =
    .next (if mcRuns (watchdogFreed s h) h.other then watchdogFreed s h else failStop (watchdogFreed s h) 1) := by
  change execMcWatchdog h s = _
  unfold execMcWatchdog watchdogFreed watchdogShown
  rw [hr, Bool.not_true, if_neg Bool.false_ne_true]

theorem hubMcStatus_watchdogShown (x : Half) : getReg (watchdogShown s h) (Reg.hubMcStatus x.idx) =
    getReg (mcWait (putBit s (Reg.hubMcStatus h.idx) 0 false) h) (Reg.hubMcStatus x.idx) := by
  rw [watchdogShown, hubMcStatus_devEvent, getReg_lastGasp (lowRegister_hubMcStatus x)]

theorem nvs_watchdogShown : (watchdogShown s h).nvs = s.nvs := by
  have gasp : ∀ u, (lastGasp u h 0x004).nvs = u.nvs := fun u => ((lastGasp_keep (m := causeParts) rfl rfl rfl (Keep.refl u)).same .nvs rfl).1
  rw [watchdogShown, nvs_devEvent, gasp, mcWait, nvs_setMc, putBit_nvs]

theorem mcRuns_watchdogShown : mcRuns (watchdogShown s h) h = false := by
  rw [mcRuns, getBit, hubMcStatus_watchdogShown, ← getBit, mcWait, getBit_setMc _ _ _ _ (.inl rfl)]
  exact getBit_putBit_same _ _ _ _ (by decide)

theorem mcActs_watchdogShown : mcActs (watchdogShown s h) h = false := by
  rw [mcActs, getBit, hubMcStatus_watchdogShown, ← getBit]
  exact mcActs_setMc _ _ _ _

theorem mcRuns_watchdogShown_other : mcRuns (watchdogShown s h) h.other = mcRuns s h.other := by
  rw [mcRuns, getBit, hubMcStatus_watchdogShown, mcWait, getReg_setMc_other _ _ _ _ (hubMcStatus_other h),
    getReg_putBit_other _ _ _ _ _ (hubMcStatus_other h), mcRuns, getBit]

theorem mcRuns_watchdogFreed (x : Half) : mcRuns (watchdogFreed s h) x = mcRuns (watchdogShown s h) x := by
  unfold watchdogFreed
  split
  · exact mcRuns_freeLease _ x
  · rfl

/-- With no controller queued the lease is not held by the one that stopped, and it does not act. -/
theorem watchdogFreed_unqueued (hq : s.nvs.lease.queued = 0) :
    mcActs (watchdogFreed s h) h = false ∧ (watchdogFreed s h).nvs.lease.holder ≠ mcNum h := by
  unfold watchdogFreed
  split
  · next held =>
    obtain ⟨freed, lease⟩ := freeLease_unqueued (watchdogShown s h) (by rw [nvs_watchdogShown]; exact hq)
    have stops := mcActs_leaseFreed (watchdogShown s h) (by rw [held]; exact mcNum_ne_zero h)
    rw [held, mcHalf_mcNum] at stops
    rw [freed, lease]
    exact ⟨stops, (mcNum_ne_zero h).symm⟩
  · next other => exact ⟨mcActs_watchdogShown s h, other⟩

/-- The device is fenced: both controllers show it. -/
def fenceShown (s : State) : State :=
  devEvent (putBit (setMc (setMc s .west false 3) .east false 3) Reg.devFailStatus 1 true) 0x054 0 0

theorem exec_fenced (ha : anyActs s = false) (hl : leaseValid s = false) (hf : getBit s Reg.devFailStatus 1 = false) :
    exec .fenced s = .next (failStop (fenceShown s) 2) := by
  change Host.Outcome.next (if anyActs s = true ∨ leaseValid s = true ∨ getBit s Reg.devFailStatus 1 = true then s else _) = _
  rw [ha, hl, hf, if_neg (by decide)]
  rfl

theorem mode_fenceShown : getFld (fenceShown s) (Reg.hubMcStatus h.idx) 2 2 = 3 := by
  rw [getFld, fenceShown, hubMcStatus_devEvent, getReg_putBit_other _ _ _ _ _ (hubMcStatus_ne_devFailStatus h), ← getFld]
  cases h
  · rw [getFld, getReg_setMc_other _ _ _ _ (by decide), ← getFld]
    exact mode_setMc s .west false 3
  · exact mode_setMc _ .east false 3

theorem fenced_fenceShown : getBit (fenceShown s) Reg.devFailStatus 1 = true := by
  rw [getBit, fenceShown, devEvent, bodySame_raiseEvent _ _ _ _ _ _ _ _ lowRegister_devFailStatus.1, ← getBit,
    getBit_putBit_same _ _ _ _ (by decide)]

/-- A controller without the NVS that the host has chosen acts. -/
def arbShown (s : State) (h : Half) : State :=
  devEvent (setMc (s.setHub h { s.hub h with arbSeen := fld (s.hub h).arb 16 48 }) h true 1) 0x053 (mcNum h) (fld (s.hub h).arb 16 48)

theorem exec_hostArbActing (hr : mcRuns s h = true) (hn : nvsReach s h = false)
    (hl : (leaseValid s && decide (s.nvs.lease.holder = mcNum h)) = false) (hp : peerHolds s h = false) (ha : arbChooses s h = true) :
    exec (.hostArbActing h) s = .next (arbShown s h) := by
  change Host.Outcome.next (if (!mcRuns s h) = true ∨ nvsReach s h = true ∨ (leaseValid s && decide (s.nvs.lease.holder = mcNum h)) = true ∨
    peerHolds s h = true ∨ (!arbChooses s h) = true then s else _) = _
  rw [hr, hn, hl, hp, ha, if_neg (by decide)]
  rfl

/-- A controller whose peer is lost. -/
def peerMissed (s : State) (h : Half) : State :=
  let r := Reg.hubMcStatus h.idx
  devEvent (putBit (putFld s r 8 8 (max 3 (satAdd 255 (getFld s r 8 8) 3))) r 5 false) 0x050 (mcNum h) 0

/-- A controller whose RENEW is not answered. -/
def nvsMissed (s : State) (h : Half) : State := putBit (putBit s (Reg.hubMcStatus h.idx) 4 false) Reg.nvsStatus (1 + h.idx) false

theorem hubMcStatus_nvsMissed : getReg (nvsMissed s h) (Reg.hubMcStatus h.idx) = getReg (putBit s (Reg.hubMcStatus h.idx) 4 false) (Reg.hubMcStatus h.idx) :=
  getReg_putBit_other _ _ _ _ _ (hubMcStatus_ne_nvsStatus h)

theorem exec_renewTimeout : exec (.renewTimeout h) s =
    .next (if mcActs s h = true ∧ (!leaseValid s) = true then mcWait (nvsMissed s h) h else nvsMissed s h) := rfl

theorem nvs_mcBack : (mcBack s h).nvs = s.nvs := putBit_nvs ..

theorem leaseValid_mcBack : leaseValid (mcBack s h) = leaseValid s := by
  unfold leaseValid
  rw [nvs_mcBack]

section Holders

variable {s h}

theorem exec_acquire (ha : hubAlive s h = true) (hn : nvsReach s h = true) : exec (.acquire h) s =
    .next (if !leaseValid s then grantLease (mcBack s h) h else if s.nvs.lease.holder = mcNum h then mcBack s h
      else (mcBack s h).setLease { s.nvs.lease with queued := mcNum h }) := by
  change execAcquire h s = _
  unfold execAcquire
  rw [ha, hn, if_neg (by decide)]
  dsimp only
  rw [leaseValid_mcBack, nvs_mcBack]

theorem exec_renew_holder (hn : nvsReach s h = true) (hl : leaseValid s = true) (hh : s.nvs.lease.holder = mcNum h) : exec (.renew h) s =
    .next (s.setLease { s.nvs.lease with expires := (s.nvs.timer + 5000) % 2 ^ 32, renewals := satAdd 0xFFFFFFFF s.nvs.lease.renewals 1 }) := by
  change execRenew h s = _
  unfold execRenew
  rw [hn, Bool.not_true, if_neg Bool.false_ne_true]
  dsimp only
  rw [if_pos ⟨hl, hh⟩]

theorem exec_renew_other (hn : nvsReach s h = true) (ho : leaseValid s = false ∨ s.nvs.lease.holder ≠ mcNum h) : exec (.renew h) s =
    .next (seeEpoch (if mcActs s h then mcWait s h else s) h s.nvs.lease.epoch) := by
  have fails : ¬ (leaseValid s = true ∧ s.nvs.lease.holder = mcNum h) := fun ⟨valid, holds⟩ =>
    ho.elim (fun e => Bool.false_ne_true (e.symm.trans valid)) fun e => e holds
  change execRenew h s = _
  unfold execRenew
  rw [hn, Bool.not_true, if_neg Bool.false_ne_true]
  dsimp only
  rw [if_neg fails]

theorem exec_release_holder (hn : nvsReach s h = true) (hh : s.nvs.lease.holder = mcNum h) : exec (.release h) s = .next (freeLease s) := by
  change execRelease h s = _
  unfold execRelease
  rw [if_pos ⟨hn, hh⟩]

theorem exec_leaseExpiry_held (hh : s.nvs.lease.holder ≠ 0) (hl : leaseValid s = false) : exec .leaseExpiry s = .next (freeLease s) := by
  change execLeaseExpiry s = _
  unfold execLeaseExpiry
  rw [if_pos ⟨hh, by rw [hl]; rfl⟩]

/-- A controller that stops on a failed RENEW does not act. -/
theorem renewRefused_waits : mcActs (if mcActs s h then mcWait s h else s) h = false := by
  cases acts : mcActs s h
  · exact acts
  · exact mcActs_setMc _ _ _ _

theorem renewRefused_nvs : (if mcActs s h then mcWait s h else s).nvs = s.nvs := by
  split
  · exact nvs_setMc _ _ _ _
  · rfl

end Holders

end Controllers

/-- Settles O38: each command is one operation on HUB_MC_STATUS and the lease; grants and releases by `grantLease` and `freeLease`. -/
theorem leaseComplete : Obligations.LeaseComplete := by
  unfold Obligations.LeaseComplete
  refine ⟨?beats, ?lost, ?takes, ?queues, ?renews, ?late, ?frees, ?expires, ?passes, ?unreached, ?watchdog, ?both, ?chosen, ?fences, ?west,
    ?east⟩
  case beats =>
    intro h s hl
    refine ⟨_, exec_heartbeat s h hl, ?_⟩
    dsimp only
    rw [getBit_seeEpoch _ _ _ (by decide) (by decide), getFld_seeEpoch _ _ _ (by decide) (by decide), mcRuns, getBit, getFld, getBit,
      getReg_seeEpoch_other _ _ _ (hubMcStatus_other h).symm, getReg_heardHolding, getReg_heardHolding, ← getBit, ← getBit, ← getFld, heard]
    refine ⟨?_, getFld_putFld_same _ _ _ _ _ (by decide), ?_⟩
    · rw [getBit_putFld_disjoint _ _ _ _ _ _ (by decide), getBit_putBit_same _ _ _ _ (by decide)]
    · rw [getBit_putFld_other _ _ _ _ _ _ _ (hubMcStatus_other h).symm, getBit_putBit_other _ _ _ _ _ _ (hubMcStatus_other h).symm]
      exact getBit_putBit_same _ _ _ _ (by decide)
  case lost =>
    intro h s
    have missed : exec (.mcPeerLost h) s = .next (peerMissed s h) := rfl
    refine ⟨_, missed, ?_⟩
    rw [peerMissed]
    dsimp only
    rw [(bodySame_devEvent _ _ _ _).getBit (lowRegister_hubMcStatus h).1, (bodySame_devEvent _ _ _ _).getFld (lowRegister_hubMcStatus h).1,
      getFld_putBit_disjoint _ _ _ _ _ _ (by decide),
      getFld_putFld_same _ _ _ _ _ (by decide)]
    refine ⟨getBit_putBit_same _ _ _ _ (by decide), ?_⟩
    unfold satAdd
    omega
  case takes =>
    intro h s ha hn hl
    refine ⟨_, exec_acquire ha hn, ?_⟩
    rw [hl, Bool.not_false, if_pos rfl]
    dsimp only
    rw [lease_grantLease, granted, nvs_mcBack]
    exact ⟨rfl, rfl, rfl, mcActs_grantLease _ h, mcActs_grantLease_other _ h⟩
  case queues =>
    intro h s ha hn hl hh
    refine ⟨_, exec_acquire ha hn, ?_⟩
    rw [hl, Bool.not_true, if_neg Bool.false_ne_true, if_neg hh]
    rfl
  case renews => exact fun h s hn hl hh => exec_renew_holder hn hl hh
  case late =>
    intro h s hn ho
    refine ⟨_, exec_renew_other hn ho, mcActs_seeEpoch _ _ _ renewRefused_waits, ?_⟩
    rw [nvs_seeEpoch, renewRefused_nvs]
  case frees =>
    intro h s hn hh hq
    obtain ⟨freed, lease⟩ := freeLease_unqueued s hq
    have stops := mcActs_leaseFreed s (hh ▸ mcNum_ne_zero h)
    rw [hh, mcHalf_mcNum] at stops
    exact ⟨_, exec_release_holder hn hh, by rw [freed, lease], by rw [freed]; exact stops⟩
  case expires =>
    intro s hh hl hq
    obtain ⟨freed, lease⟩ := freeLease_unqueued s hq
    exact ⟨_, exec_leaseExpiry_held hh hl, by rw [freed, lease], by rw [freed]; exact mcActs_leaseFreed s hh⟩
  case passes =>
    intro h s hh hl hq
    refine ⟨_, exec_leaseExpiry_held hh hl, ?_⟩
    rw [freeLease_eq, hq, if_neg (mcNum_ne_zero h), mcHalf_mcNum]
    dsimp only
    rw [lease_grantLease]
    exact ⟨rfl, rfl, mcActs_grantLease _ h⟩
  case unreached =>
    intro h s
    refine ⟨_, exec_renewTimeout s h, ?_, ?_, ?_⟩
    · split
      · rw [nvsReach, mcWait, getBit_setMc _ _ _ _ (.inr (by decide)), getBit, hubMcStatus_nvsMissed]
        exact getBit_putBit_same _ _ _ _ (by decide)
      · rw [nvsReach, getBit, hubMcStatus_nvsMissed]
        exact getBit_putBit_same _ _ _ _ (by decide)
    · intro hl
      split
      · exact mcActs_setMc _ _ _ _
      · next idle =>
        rw [mcActs, getBit, hubMcStatus_nvsMissed, ← getBit, getBit_putBit_disjoint _ _ _ _ _ (by decide)]
        rw [hl] at idle
        exact Bool.eq_false_iff.mpr fun acts => idle ⟨acts, rfl⟩
    · split
      · rw [mcWait, nvs_setMc, nvsMissed, putBit_nvs, putBit_nvs]
      · rw [nvsMissed, putBit_nvs, putBit_nvs]
  case watchdog =>
    intro h s hr ho hq
    refine ⟨_, exec_mcWatchdog s h hr, ?_⟩
    rw [mcRuns_watchdogFreed, mcRuns_watchdogShown_other, ho, if_pos rfl]
    dsimp only
    rw [mcRuns_watchdogFreed, mcRuns_watchdogShown]
    exact ⟨rfl, watchdogFreed_unqueued s h hq⟩
  case both =>
    intro h s hr ho
    refine ⟨_, exec_mcWatchdog s h hr, ?_⟩
    rw [mcRuns_watchdogFreed, mcRuns_watchdogShown_other, ho, if_neg Bool.false_ne_true]
    refine ⟨?_, failed_failStop⟩
    rw [mcRuns, getBit, getReg_failStop (lowRegister_hubMcStatus h) _ _ (hubMcStatus_ne_devFailStatus h) (hubMcStatus_ne_devTwinStatus h)]
    exact (mcRuns_watchdogFreed s h h).trans (mcRuns_watchdogShown s h)
  case chosen =>
    intro h s hr hn hl hp ha
    refine ⟨_, exec_hostArbActing s h hr hn hl hp ha, ?_⟩
    rw [arbShown]
    dsimp only
    rw [mcActs_devEvent, getFld, hubMcStatus_devEvent]
    refine ⟨mcActs_setMc _ _ _ _, mode_setMc _ _ _ _, ?_⟩
    rw [hub_of_keep (devEvent_keep (m := eventParts) rfl rfl rfl rfl (Keep.refl _)) rfl, hub_setMc, hub_setHub_same]
  case fences =>
    intro s ha hl hf
    refine ⟨_, exec_fenced s ha hl hf, ?_⟩
    have modes : ∀ h : Half, getFld (failStop (fenceShown s) 2) (Reg.hubMcStatus h.idx) 2 2 = 3 := fun h => by
      rw [getFld, getReg_failStop (lowRegister_hubMcStatus h) _ _ (hubMcStatus_ne_devFailStatus h) (hubMcStatus_ne_devTwinStatus h), ← getFld,
        mode_fenceShown]
    exact ⟨fenced_failStop.trans (fenced_fenceShown s), failed_failStop, modes .west, modes .east⟩
  case west =>
    intro s hl hh
    change execHubLinkLost s = _
    unfold execHubLinkLost linkLoser
    rw [hl, Bool.not_true, if_neg Bool.false_ne_true, if_pos hh]
  case east =>
    intro s hl hh
    change execHubLinkLost s = _
    unfold execHubLinkLost linkLoser
    rw [hl, Bool.not_true, if_neg Bool.false_ne_true, if_neg (fun one => absurd (one.symm.trans hh) (by decide)), if_pos hh]

end Sys2Proof.Machine
end

section
/-!
PROOFS. The twin takes what its homes mirror (R474, R475, R477, R478, R481, R482, R485), clause by clause of O39: a message acts on the
state in which its home has been heard.
-/
namespace Sys2Proof.Machine

/-! ### Mirror entries and served homes under the operations of the state -/

@[simp] theorem acknowledge_mirrors (s : State) (m : Msg) : (acknowledge s m).mirrors = s.mirrors := ((keep_acknowledge s m).same .twins rfl).1

@[simp] theorem acknowledge_homes (s : State) (m : Msg) : (acknowledge s m).homes = s.homes := ((keep_acknowledge s m).same .twins rfl).2.1

@[simp] theorem acknowledge_mirror (s : State) (m : Msg) (k : Nat) : (acknowledge s m).mirror k = s.mirror k :=
  congrArg (Map.get MirrorEntry.free · k) (acknowledge_mirrors s m)

theorem findMirror_congr {s t : State} (h : t.mirrors = s.mirrors) (home : Word) (index gen : Nat) :
    findMirror t home index gen = findMirror s home index gen := by rw [findMirror, h, findMirror]

theorem Map.mem_put {α : Type} (m : Map α) (k : Nat) (v : α) : (k, v) ∈ Map.put m k v := by
  induction m with
  | nil => exact List.mem_singleton.mpr rfl
  | cons e m ih =>
    obtain ⟨j, w⟩ := e
    unfold Map.put
    split
    · exact List.mem_cons_of_mem _ ih
    · split <;> exact List.mem_cons_self

/-- A listed mirror entry of a home's request is found. -/
theorem findMirror_isSome {s : State} {k : Nat} {x : MirrorEntry} (h : (k, x) ∈ s.mirrors) :
    (findMirror s x.home x.index x.gen).isSome = true := by
  have listed : k ∈ Map.keysWhere (fun _ m => decide (m.home = x.home ∧ m.index = x.index ∧ m.gen = x.gen)) s.mirrors :=
    List.mem_map_of_mem (List.mem_filter.mpr ⟨h, by simp⟩ : (k, x) ∈ _)
  unfold findMirror
  exact List.isSome_head?.mpr (List.ne_nil_of_mem listed)

/-- A mirror entry in use is listed once it is kept. -/
theorem mem_mirrors_setMirror (s : State) (k : Nat) {x : MirrorEntry} (h : x.sync ≠ 0) : (k, x) ∈ (s.setMirror k x).mirrors := by
  have inUse : x ≠ MirrorEntry.free k := fun e => h (congrArg MirrorEntry.sync e)
  rw [State.setMirror, Map.set, if_neg inUse]
  exact Map.mem_put ..

/-! ### MIRROR messages (R477) -/

section Messages

variable {s s1 : State} {a : Arrival} {kind k : Nat}

theorem onMirror_first (h : takeMsg s (isMirror kind) = some (a, true, s1)) (act : State → Msg → State) :
    onMirror s kind act = acknowledge (act (hear s1 a.msg.home) a.msg) a.msg := onMsg_first h _

/-- A message that names a mirror entry acts on it. -/
theorem onEntry_first (h : takeMsg s (isMirror kind) = some (a, true, s1)) (hk : findMirror s a.msg.home a.msg.index a.msg.gen = some k)
    (act : State → Nat → Msg → State) : onEntry s kind act = acknowledge (act (hear s1 a.msg.home) k a.msg) a.msg := by
  obtain ⟨inbox, applied, rfl⟩ := takeMsg_first h
  have found : findMirror (hear (withMail s inbox applied) a.msg.home) a.msg.home a.msg.index a.msg.gen = some k := hk
  unfold onEntry
  rw [onMirror_first h, found]

theorem answers_onMirror {c : Instr} {act : State → Msg → State} {P : State → Prop} (run : exec c s = .next (onMirror s kind act))
    (ha : nextMsg s (isMirror kind) = some a)
    (h : ∀ inbox applied, P (acknowledge (act (hear (withMail s inbox applied) a.msg.home) a.msg) a.msg)) : Answers c s P :=
  answers_of_nextMsg run ha h

theorem answers_onEntry {c : Instr} {act : State → Nat → Msg → State} {P : State → Prop} (run : exec c s = .next (onEntry s kind act))
    (ha : nextMsg s (isMirror kind) = some a) (hk : findMirror s a.msg.home a.msg.index a.msg.gen = some k)
    (h : ∀ inbox applied, P (acknowledge (act (hear (withMail s inbox applied) a.msg.home) k a.msg) a.msg)) : Answers c s P := by
  obtain ⟨s1, ht⟩ := takeMsg_of_nextMsg ha
  obtain ⟨inbox, applied, rfl⟩ := takeMsg_first ht
  exact ⟨_, run.trans (congrArg Host.Outcome.next (onEntry_first ht hk act)), h inbox applied⟩

/-- A message taken for the first time is the first that no stop holds; with an ACK it is not among those applied. -/
theorem takeMsg_fresh {p : Arrival → Bool} (h : takeMsg s p = some (a, true, s1)) (hc : a.msg.cls = 4) :
    s.inbox.find? (fun a => p a && !stopHolds s a.msg.cls) = some a ∧
      a.msg.id ∉ Map.get (fun _ => []) s.applied (appliedKey a.msg) := by
  unfold takeMsg at h
  dsimp only at h
  split at h
  · cases h
  · next found =>
    split at h
    · next hcls => cases h; omega
    · split at h
      · cases h
      · next fresh => cases h; exact ⟨found, fresh⟩

theorem cls_of_isMirror (h : isMirror kind a = true) : a.msg.cls = 4 := by
  simp only [isMirror, isOp, Bool.and_eq_true, decide_eq_true_eq] at h
  obtain ⟨⟨cls, -⟩, -⟩ := h
  exact cls

/-- A stop holds every MIRROR message while the device is halted. -/
theorem isMirror_held (s : State) (kind : Nat) : (fun a => isMirror kind a && !stopHolds s a.msg.cls) =
    fun a => isMirror kind a && !halted s := by
  funext a
  cases h : isMirror kind a
  · rfl
  · rw [stopHolds, cls_of_isMirror h]
    simp

theorem isMirror_of_nextMsg (ha : nextMsg s (isMirror kind) = some a) : isMirror kind a = true := by
  obtain ⟨s1, ht⟩ := takeMsg_of_nextMsg ha
  unfold takeMsg at ht
  split at ht
  · cases ht
  · next b found =>
    have kinded := List.find?_some found
    simp only [Bool.and_eq_true] at kinded
    dsimp only at ht
    split at ht
    · cases ht; exact kinded.1
    · split at ht
      · cases ht
      · cases ht; exact kinded.1

/-- The next MIRROR message is the first that has arrived while the device is not halted, and it has not been applied. -/
theorem mirror_of_nextMsg (ha : nextMsg s (isMirror kind) = some a) : s.inbox.find? (fun a => isMirror kind a && !halted s) = some a ∧
    a.msg.id ∉ Map.get (fun _ => []) s.applied (appliedKey a.msg) := by
  obtain ⟨s1, ht⟩ := takeMsg_of_nextMsg ha
  rw [← isMirror_held]
  exact takeMsg_fresh ht (cls_of_isMirror (isMirror_of_nextMsg ha))

end Messages

/-! ### The judgement of an OPEN (R475) -/

section Open

variable {s : State} {m : Msg}

/-- The state in which a message has been taken and its home is heard. -/
def heardHome (s : State) (inbox : List Arrival) (applied : Map (List Nat)) (home : Word) : State := hear (withMail s inbox applied) home

theorem homes_heardHome (s : State) (inbox : List Arrival) (applied : Map (List Nat)) (home : Word) :
    (heardHome s inbox applied home).homes.length = s.homes.length := List.length_map _

/-- A home that is heard is served as before. -/
theorem served_heardHome (s : State) (inbox : List Arrival) (applied : Map (List Nat)) (home serial : Word) :
    ((heardHome s inbox applied home).homes.any fun h => h.serial = serial) = s.homes.any fun h => h.serial = serial := by
  change (s.homes.map _).any _ = _
  rw [List.any_map]
  congr 1
  funext h
  dsimp only [Function.comp]
  split <;> rfl

/-- A run of free units for a warm mirror exists in WARM_REGION. -/
def warmRoom (s : State) (units : Nat) : Bool :=
  let r := fld (inForceReg s Reg.devTwinCfg) 16 10
  (s.region r).valid && (s.region r).devOwned && (List.range ((s.region r).pages + 1)).any (t2Free s r units)

/-- A free value chooses the place, and not whether there is one. -/
theorem warmPlace_isSome (s : State) (units : Nat) : (warmPlace s units).isSome = warmRoom s units := by
  unfold warmPlace warmRoom drawFree
  dsimp only
  split
  · next closed =>
    revert closed
    cases (s.region (fld (inForceReg s Reg.devTwinCfg) 16 10)).valid <;>
      cases (s.region (fld (inForceReg s Reg.devTwinCfg) 16 10)).devOwned <;> simp
  · next usable =>
    simp only [Bool.or_eq_true, Bool.not_eq_true', not_or, Bool.not_eq_false] at usable
    obtain ⟨valid, owned⟩ := usable
    rw [valid, owned]
    split
    · next free =>
      exact (List.any_eq_true.mpr ⟨_, List.mem_range.mpr (Nat.mod_lt _ (Nat.succ_pos _)), free⟩).symm
    · rw [Option.isSome_map, List.isSome_find?]
      rfl

/-- The room that an OPEN asks for: slots for a hot request, units for a warm one. -/
def openRoom (s : State) (n : Nat) (x : MirrorEntry) : Bool :=
  if x.hot then canReserve s n (reserveNeed (decodeRecord s n) (leAt x.image 0x18 4 % 2 ^ 23) (quireOf s n)) else warmRoom s x.warmUnits

/-- What an OPEN is judged by, next to the homes that are served already. -/
def openFits (s : State) (m : Msg) : Bool :=
  (sliceOwner s m.slice).any fun n => bit (inForceReg s Reg.devTwinCfg) 26 &&
    (if partPhase s n = 1 then activeSlot s n 0 else none).any fun k =>
      Config.twinLayout m.home (s.impo k).impoId && decide ((decodeRecord s n).groupSize = 1) &&
        !decide (getFld s (Reg.partCfg n) 32 16 ≤ liveOf s n + (s.mirrors.filter fun y => y.2.part = n).length ∨
          32768 ≤ liveAll s + s.mirrors.length) && openRoom s n (openEntry s n m)

/-- No more homes can be served, and this one is not among them. -/
def homesFull (s : State) (serial : Word) : Bool := decide (16 ≤ s.homes.length ∧ ¬ s.homes.any fun h => h.serial = serial)

/-- A place for what an OPEN asks for. -/
def openPlace (s : State) (n : Nat) (x : MirrorEntry) : Option (Nat × State) :=
  if x.hot then (if canReserve s n (reserveNeed (decodeRecord s n) (leAt x.image 0x18 4 % 2 ^ 23) (quireOf s n)) then some (0, s) else none)
  else warmPlace s x.warmUnits

theorem openPlace_isSome (s : State) (n : Nat) (x : MirrorEntry) : (openPlace s n x).isSome = openRoom s n x := by
  unfold openPlace openRoom
  split
  · cases canReserve s n (reserveNeed (decodeRecord s n) (leAt x.image 0x18 4 % 2 ^ 23) (quireOf s n)) <;> rfl
  · exact warmPlace_isSome s x.warmUnits

theorem judgeOpen_isRight (s : State) (m : Msg) : (judgeOpen s m).isRight = (openFits s m && !homesFull s m.home) := by
  unfold judgeOpen openFits homesFull
  cases sliceOwner s m.slice with
  | none => rfl
  | some n =>
    dsimp only [Option.any_some]
    cases bit (inForceReg s Reg.devTwinCfg) 26
    · rfl
    · cases (if partPhase s n = 1 then activeSlot s n 0 else none) with
      | none => rfl
      | some k =>
        simp only [Option.any_some, Bool.not_true, Bool.false_eq_true, if_false, Bool.true_and]
        cases Config.twinLayout m.home (s.impo k).impoId
        · rfl
        · rw [Bool.not_true, if_neg Bool.false_ne_true, Bool.true_and]
          by_cases one : (decodeRecord s n).groupSize = 1
          · rw [if_neg (not_not.mpr one), decide_eq_true one, Bool.true_and]
            split
            · next limit => rw [decide_eq_true limit]; rfl
            · next limit =>
              have place := openPlace_isSome s n (openEntry s n m)
              unfold openPlace at place
              rw [decide_eq_false limit, ← place]
              split
              · next missing => rw [missing]; rfl
              · next found =>
                rw [found]
                split
                · next full => rw [decide_eq_true full]; rfl
                · next full => rw [decide_eq_false full]; rfl
          · rw [if_pos one, decide_eq_false one]; rfl

theorem judgeOpen_heardHome (s : State) (inbox : List Arrival) (applied : Map (List Nat)) (home : Word) (m : Msg) :
    (judgeOpen (heardHome s inbox applied home) m).isRight = (judgeOpen s m).isRight := by
  have fits : openFits (heardHome s inbox applied home) m = openFits s m := rfl
  rw [judgeOpen_isRight, judgeOpen_isRight, fits, homesFull, homes_heardHome, served_heardHome, homesFull]

/-- The entry that an accepted OPEN asks for is of the request that the OPEN names, and its sync is under way. -/
theorem judgeOpen_accepted {x : MirrorEntry} {s1 : State} (h : judgeOpen s m = .inr (x, s1)) :
    x.home = m.home ∧ x.index = m.index ∧ x.gen = m.gen ∧ x.sync = 1 := by
  unfold judgeOpen at h
  dsimp only at h
  repeat' split at h
  all_goals cases h
  exact ⟨rfl, rfl, rfl, rfl⟩

/-- What an accepted OPEN does at the twin: an older entry of the request goes, and the new one is kept. -/
def takeOpen (s : State) (m : Msg) : State :=
  (judgeOpen ((findMirror s m.home m.index m.gen).elim s (freeMirror s)) m).elim (fun _ => s) fun p => keepMirror p.2 p.1

variable {a : Arrival}

theorem mirrors_keepMirror (s : State) (x : MirrorEntry) : (keepMirror s x).mirrors = (s.setMirror (mirrorKey s) x).mirrors := by
  unfold keepMirror
  dsimp only
  split <;> rfl

theorem findMirror_keepMirror (s : State) {x : MirrorEntry} (h : x.sync ≠ 0) :
    (findMirror (keepMirror s x) x.home x.index x.gen).isSome = true := by
  refine findMirror_isSome (k := mirrorKey s) ?_
  rw [mirrors_keepMirror]
  exact mem_mirrors_setMirror s _ h

theorem exec_mirrorOpen_accepted (ha : nextMsg s (isMirror 1) = some a) (hn : findMirror s a.msg.home a.msg.index a.msg.gen = none)
    (h : (judgeOpen s a.msg).isRight = true) : exec (.mirrorOpen) s = .next (onMirror s 1 takeOpen) := by
  obtain ⟨found, -⟩ := mirror_of_nextMsg ha
  have taken : takeOpen = fun s m => match judgeOpen ((findMirror s m.home m.index m.gen).elim s (freeMirror s)) m with
      | .inl _ => s
      | .inr (x, s1) => keepMirror s1 x := by
    funext s m
    unfold takeOpen
    cases judgeOpen ((findMirror s m.home m.index m.gen).elim s (freeMirror s)) m <;> rfl
  change execMirrorOpen s = _
  unfold execMirrorOpen
  rw [found]
  dsimp only
  rw [hn, Option.elim_none]
  cases judged : judgeOpen s a.msg with
  | inl reason => rw [judged] at h; cases h
  | inr p => exact congrArg (fun act => Host.Outcome.next (onMirror s 1 act)) taken.symm

/-- The state after a refused OPEN: the message has left the inbox, its home is heard, and a REFUSE is out. -/
def openRefused (s : State) (a : Arrival) (reason : Nat) : State :=
  (sendMsg (hear { s with inbox := s.inbox.erase a } a.msg.home) a.msg.slice 4 0x40 a.msg.src true
    (mirrorTarget 12 a.msg.index a.msg.gen 0) (leBytes 2 reason)).2

theorem exec_mirrorOpen_refused {reason : Nat} (ha : nextMsg s (isMirror 1) = some a)
    (hn : findMirror s a.msg.home a.msg.index a.msg.gen = none) (h : judgeOpen s a.msg = .inl reason) :
    exec (.mirrorOpen) s = .next (openRefused s a reason) := by
  obtain ⟨found, fresh⟩ := mirror_of_nextMsg ha
  change execMirrorOpen s = _
  unfold execMirrorOpen
  rw [found]
  dsimp only
  rw [hn, Option.elim_none, h]
  dsimp only
  rw [if_neg fresh, openRefused]

theorem mirrors_openRefused (s : State) (a : Arrival) (reason : Nat) : (openRefused s a reason).mirrors = s.mirrors :=
  ((sendMsg_keep (m := sendParts) rfl rfl rfl rfl rfl rfl (Keep.refl _)).of.same .twins rfl).1

theorem takeOpen_heardHome (hn : findMirror s m.home m.index m.gen = none) (h : (judgeOpen s m).isRight = true) (inbox : List Arrival)
    (applied : Map (List Nat)) (home : Word) :
    (findMirror (takeOpen (heardHome s inbox applied home) m) m.home m.index m.gen).isSome = true := by
  have none_ : findMirror (heardHome s inbox applied home) m.home m.index m.gen = none := hn
  rw [← judgeOpen_heardHome s inbox applied home] at h
  unfold takeOpen
  rw [none_, Option.elim_none]
  cases judged : judgeOpen (heardHome s inbox applied home) m with
  | inl reason => rw [judged] at h; cases h
  | inr p =>
    obtain ⟨x, s1⟩ := p
    obtain ⟨ofHome, ofIndex, ofGen, inUse⟩ := judgeOpen_accepted judged
    have kept := findMirror_keepMirror s1 (x := x) (by rw [inUse]; decide)
    rwa [ofHome, ofIndex, ofGen] at kept

/-- O39, first clause: an OPEN has a mirror entry afterwards exactly where nothing refuses it. -/
theorem mirrorOpen_answers (ha : nextMsg s (isMirror 1) = some a) (hn : findMirror s a.msg.home a.msg.index a.msg.gen = none) :
    Answers (.mirrorOpen) s fun t =>
      (findMirror t a.msg.home a.msg.index a.msg.gen).isSome = (judgeOpen s a.msg).isRight ∧
        ((judgeOpen s a.msg).isLeft = true → t.mirrors = s.mirrors) := by
  cases judged : judgeOpen s a.msg with
  | inl reason =>
    refine ⟨_, exec_mirrorOpen_refused ha hn judged, ?_, fun _ => mirrors_openRefused s a reason⟩
    rw [findMirror_congr (mirrors_openRefused s a reason), hn]
    rfl
  | inr p =>
    have accepted : (judgeOpen s a.msg).isRight = true := by rw [judged]; rfl
    refine answers_onMirror (exec_mirrorOpen_accepted ha hn accepted) ha fun inbox applied => ⟨?_, fun h => by cases h⟩
    rw [findMirror_congr (acknowledge_mirrors _ _)]
    exact takeOpen_heardHome hn accepted inbox applied a.msg.home

end Open

/-! ### Tokens, rows, changes -/

section Content

variable {a : Arrival} {k : Nat} {s s1 : State}

/-- Values set at consecutive positions are read back there. -/
theorem Map.get_foldl_set {α : Type} [DecidableEq α] (d : Nat → α) (f : Nat → α) (first n : Nat) (m : Map α) {j : Nat} (h : j < n) :
    Map.get d ((List.range n).foldl (fun l j => Map.set d l (first + j) (f j)) m) (first + j) = f j := by
  induction n with
  | zero => omega
  | succ n ih =>
    rw [List.range_succ, List.foldl_append, List.foldl_cons, List.foldl_nil]
    by_cases last : j = n
    · rw [last, Map.get_set_same]
    · rw [Map.get_set_other _ _ _ _ _ (by omega), ih (by omega)]

theorem mirrorTokens_stores (ha : nextMsg s (isMirror 2) = some a) (hk : findMirror s a.msg.home a.msg.index a.msg.gen = some k) :
    Answers (.mirrorTokens) s fun t => ∀ j, j < (a.msg.content.length - 4) / 4 →
      Map.get zeroAt (t.mirror k).toklog (leAt a.msg.content 0 4 + j) = leAt a.msg.content (4 + 4 * j) 4 % 2 ^ 20 :=
  answers_onEntry rfl ha hk fun inbox applied j hj => by
    rw [acknowledge_mirror]
    dsimp only
    rw [mirror_setMirror_same]
    exact Map.get_foldl_set zeroAt _ _ _ _ hj

theorem exec_mirrorRows (ht : takeMsg s (isMirror 3) = some (a, true, s1)) (hk : findMirror s a.msg.home a.msg.index a.msg.gen = some k) :
    exec (.mirrorRows) s = .next (acknowledge (applyRows (countRows (hear s1 a.msg.home) a.msg) k a.msg) a.msg) := by
  have found : findMirror (countRows (hear s1 a.msg.home) a.msg) a.msg.home a.msg.index a.msg.gen = some k := by
    obtain ⟨inbox, applied, rfl⟩ := takeMsg_first ht
    exact hk
  change execMirrorRows s = _
  unfold execMirrorRows
  rw [onMirror_first ht]
  dsimp only
  rw [found]

theorem mirrorChange_images (ha : nextMsg s (isMirror 5) = some a) (hk : findMirror s a.msg.home a.msg.index a.msg.gen = some k) :
    Answers (.mirrorChange) s fun t => (t.mirror k).image = a.msg.content.take 0x68 ∧ (t.mirror k).toklog = (s.mirror k).toklog :=
  answers_onEntry rfl ha hk fun inbox applied => by
    rw [acknowledge_mirror]
    dsimp only
    rw [mirror_setMirror_same]
    exact ⟨rfl, rfl⟩

theorem mirrors_freeMirror (s : State) (k : Nat) : (freeMirror s k).mirrors = Map.del s.mirrors k := by
  unfold freeMirror
  dsimp only
  split <;> rfl

theorem mirrorEnd_frees (ha : nextMsg s (isMirror 6) = some a) (hk : findMirror s a.msg.home a.msg.index a.msg.gen = some k) :
    Answers (.mirrorEnd) s fun t => t.mirrors = Map.del s.mirrors k :=
  answers_onEntry rfl ha hk fun inbox applied => by
    rw [acknowledge_mirrors]
    exact mirrors_freeMirror ..

theorem syncDone_syncs (ha : nextMsg s (isMirror 8) = some a) (hk : findMirror s a.msg.home a.msg.index a.msg.gen = some k) :
    Answers (.syncDone) s fun t => (t.mirror k).sync = 2 :=
  answers_onEntry rfl ha hk fun inbox applied => by
    rw [acknowledge_mirror]
    dsimp only
    rw [mirror_setMirror_same]

end Content

/-! ### Homes (R481, R482, R485) -/

section Homes

variable {a : Arrival} {k : Nat} {s : State}

theorem mem_homes_hear {serial : Word} {h : ServedHome} (hh : h ∈ (hear s serial).homes) (hs : h.serial = serial) :
    h.lastAt = s.clock.now ∧ h.silent = false := by
  obtain ⟨g, -, rfl⟩ := List.mem_map.mp hh
  by_cases same : g.serial = serial
  · rw [if_pos same]
    exact ⟨rfl, rfl⟩
  · rw [if_neg same] at hs
    exact absurd hs same

theorem beatMsg_hears (ha : nextMsg s (isMirror 9) = some a) : Answers (.beatMsg) s fun t =>
    (∀ h ∈ t.homes, h.serial = a.msg.home → h.lastAt = s.clock.now ∧ h.silent = false) ∧ t.homes.length = s.homes.length :=
  answers_onMirror rfl ha fun inbox applied => by
    rw [acknowledge_homes]
    exact ⟨fun h hh hs => mem_homes_hear (s := withMail s inbox applied) hh hs, homes_heardHome s inbox applied a.msg.home⟩

/-- A covering is due at every home of the serial. -/
theorem mem_adopt_coverHome {serial : Word} {c : Cover} {h : ServedHome} (hh : h ∈ (coverHome s serial c).homes)
    (hs : h.serial = serial) : c ∈ h.adopt := by
  unfold coverHome at hh
  split at hh
  · obtain ⟨g, -, rfl⟩ := List.mem_map.mp hh
    by_cases same : g.serial = serial
    · rw [if_pos same]
      exact List.mem_append_right _ (List.mem_singleton.mpr rfl)
    · rw [if_neg same] at hs
      exact absurd hs same
  · next unserved => exact absurd (List.any_eq_true.mpr ⟨h, hh, decide_eq_true hs⟩) unserved

theorem homes_coverHome (s : State) (serial : Word) (c : Cover) : (coverHome s serial c).homes.length = s.homes.length := by
  unfold coverHome
  split
  · exact List.length_map _
  · rfl

/-- A covering that a message brings, where adoption is enabled. -/
theorem covered_answers (inbox : List Arrival) (applied : Map (List Nat)) (m : Msg) (c : Cover)
    (he : bit (inForceReg s Reg.devTwinCfg) 26 = true) :
    (∀ h ∈ (acknowledge (if bit (inForceReg (heardHome s inbox applied m.home) Reg.devTwinCfg) 26 then
        coverHome (heardHome s inbox applied m.home) m.home c else heardHome s inbox applied m.home) m).homes,
      h.serial = m.home → c ∈ h.adopt) ∧
    (acknowledge (if bit (inForceReg (heardHome s inbox applied m.home) Reg.devTwinCfg) 26 then
      coverHome (heardHome s inbox applied m.home) m.home c else heardHome s inbox applied m.home) m).homes.length = s.homes.length := by
  have enabled : bit (inForceReg (heardHome s inbox applied m.home) Reg.devTwinCfg) 26 = true := he
  rw [acknowledge_homes, if_pos enabled]
  exact ⟨fun h hh hs => mem_adopt_coverHome hh hs, (homes_coverHome _ _ _).trans (homes_heardHome s inbox applied m.home)⟩

end Homes

/-- Settles O39: each message is applied to the mirror entry or the home that it names, and acknowledged. -/
theorem mirrorEntriesComplete : Obligations.MirrorEntriesComplete := by
  unfold Obligations.MirrorEntriesComplete
  refine ⟨fun _ _ => mirrorOpen_answers, fun _ _ _ => mirrorTokens_stores, fun _ _ _ _ => exec_mirrorRows, ?steps,
    fun _ _ _ => mirrorChange_images, fun _ _ _ => mirrorEnd_frees, ?syncs, fun _ _ _ => syncDone_syncs, fun _ _ => beatMsg_hears,
    ?declares, ?handoffs⟩
  case steps => exact fun a s1 s ht => congrArg Host.Outcome.next (onMsg_first ht _)
  case syncs => exact fun a k s1 s ht hk => congrArg Host.Outcome.next (onEntry_first ht hk applyRows)
  case declares => exact fun a s ha he => answers_onMirror rfl ha fun inbox applied => covered_answers inbox applied a.msg _ he
  case handoffs => exact fun a k s ha hk he => answers_onEntry rfl ha hk fun inbox applied => covered_answers inbox applied a.msg _ he

end Sys2Proof.Machine
end

section
/-!
PROOFS. What a home does about its twin (R475, R476, R479, R482, R485), clause by clause of O40: a HANDOFF, a REFUSE, a twin that does not
answer, a device cut off from its twin, and at the twin a home that is silent.
-/
namespace Sys2Proof.Machine

/-! ### The end of twin-keeping (R479) -/

section Drop

variable (s : State) (i : Nat)

theorem entries_refreshTwin : (refreshTwin s).entries = s.entries := rfl

theorem home_refreshTwin : (refreshTwin s).home = s.home := rfl

theorem entry_refreshTwin : (refreshTwin s).entry i = s.entry i := rfl

theorem keep_openDone (c : Option Cmd) (granted : Nat) : Keep completionParts s (openDone s i c granted) :=
  openDone_keep rfl rfl rfl rfl rfl rfl rfl (Keep.refl s)

/-- The home without the OPENs of an entry and without its sync. -/
def homeClosed (h : HomeState) (i : Nat) : HomeState :=
  { h with opens := h.opens.filter fun o => o.1 ≠ i, syncing := h.syncing.filter (· ≠ i) }

theorem dropOpens_frame : (dropOpens s i).entries = s.entries ∧ (dropOpens s i).home = homeClosed s.home i := by
  unfold dropOpens
  dsimp only
  refine List.foldlRecOn (motive := fun t : State => t.entries = s.entries ∧ t.home = homeClosed s.home i) _ _ ⟨rfl, rfl⟩
    fun t ht o _ => ?_
  have kept := keep_openDone t i o.2 0
  obtain ⟨entries, home⟩ := ht
  exact ⟨(kept.same .galley rfl).1.trans entries, (kept.same .twins rfl).2.2.trans home⟩

theorem entry_dropOpens (j : Nat) : (dropOpens s i).entry j = s.entry j := congrArg (Map.get Entry.fresh · j) (dropOpens_frame s i).1

theorem handed_dropOpens : (dropOpens s i).home.handed = s.home.handed :=
  (congrArg HomeState.handed (dropOpens_frame s i).2 :)

theorem entry_flagNext (b : Nat) : ∃ r, (flagNext s i b).entry i = { s.entry i with recFlags := r } := by
  unfold flagNext report
  split
  · exact ⟨(s.entry i).recFlags, rfl⟩
  · exact ⟨_, entry_setEntry_same ..⟩

theorem home_flagNext (b : Nat) : (flagNext s i b).home = s.home := by
  unfold flagNext
  split <;> rfl

/-- A request that is dropped is kept no longer; but for its record flags it is as before. -/
theorem entry_dropTwin : ∃ r, (dropTwin s i).entry i = { s.entry i with twin := 0, synced := false, recFlags := r } := by
  obtain ⟨r, flagged⟩ := entry_flagNext (s.setEntry i { s.entry i with twin := 0, synced := false }) i rfTwinDropped
  rw [entry_setEntry_same] at flagged
  exact ⟨r, (entry_dropOpens _ i i).trans flagged⟩

theorem handed_dropTwin : (dropTwin s i).home.handed = s.home.handed := by
  refine (handed_dropOpens _ i).trans ?_
  rw [home_flagNext, setEntry_home]

end Drop

/-! ### HANDOFF and REFUSE (R475, R476, R485) -/

theorem handoff_hands {s : State} {i : Nat} (h : i ∉ s.home.handed) (d : i ∉ s.home.declared) :
    (handoff s i).home.handed = s.home.handed ++ [i] ∧ (handoff s i).entries = s.entries := by
  have told : Keep sendParts s (sendMirror s 11 i 0 []).2 := (sendMirror_keep rfl rfl rfl rfl rfl rfl (Keep.refl s)).of
  unfold handoff
  rw [if_neg (not_or.mpr ⟨h, d⟩)]
  exact ⟨congrArg (HomeState.handed · ++ [i]) (told.same .twins rfl).2.2, (told.same .galley rfl).1⟩

theorem handoffSend_hands {req : Fin 32768} {s : State} (ht : (s.entry req.val).twin = 1) (hs : (s.entry req.val).synced = true)
    (hk : (s.entry req.val).hasSkip skSuspect = true) (hm : mirrors s = true) (hh : req.val ∉ s.home.handed)
    (hd : req.val ∉ s.home.declared) :
    Answers (.handoffSend req) s fun t => t.home.handed = s.home.handed ++ [req.val] ∧ t.entries = s.entries := by
  refine ⟨handoff s req.val, ?_, handoff_hands hh hd⟩
  change execHandoffSend req s = _
  unfold execHandoffSend
  dsimp only
  rw [if_pos ⟨ht, hs, hk, hm⟩]

/-- What a REFUSE does at the home. -/
def takeRefuse (s : State) (a : Arrival) : State :=
  let i := a.msg.index
  let e := s.entry i
  if e.gen ≠ a.msg.gen ∨ e.twin = 0 then s
  else if s.home.opens.any fun o => o.1 = i then
    refreshTwin (dropOpens (unsend (s.setEntry i { e with twin := 0, synced := false }) 1 i) i)
  else refreshTwin (dropTwin s i)

/-- A REFUSE of a request that is kept, or whose OPEN is out, ends its keeping. -/
theorem entry_takeRefuse {s : State} {a : Arrival} (hg : (s.entry a.msg.index).gen = a.msg.gen) (ht : (s.entry a.msg.index).twin ≠ 0) :
    ((takeRefuse s a).entry a.msg.index).twin = 0 ∧ ((takeRefuse s a).entry a.msg.index).synced = false ∧
      ((takeRefuse s a).entry a.msg.index).state = (s.entry a.msg.index).state := by
  unfold takeRefuse
  dsimp only
  rw [if_neg (not_or.mpr ⟨not_not.mpr hg, ht⟩)]
  split
  · have unsent : ∀ u : State, (unsend u 1 a.msg.index).entry a.msg.index = u.entry a.msg.index := fun _ => rfl
    rw [entry_refreshTwin, entry_dropOpens, unsent, entry_setEntry_same]
    exact ⟨rfl, rfl, rfl⟩
  · obtain ⟨r, dropped⟩ := entry_dropTwin s a.msg.index
    rw [entry_refreshTwin, dropped]
    exact ⟨rfl, rfl, rfl⟩

@[simp] theorem acknowledge_entry (s : State) (m : Msg) (i : Nat) : (acknowledge s m).entry i = s.entry i :=
  congrArg (Map.get Entry.fresh · i) ((keep_acknowledge s m).same .galley rfl).1

theorem refuseMsg_ends {a : Arrival} {s : State} (ha : nextMsg s (isMirror 12) = some a) (hg : (s.entry a.msg.index).gen = a.msg.gen)
    (ht : (s.entry a.msg.index).twin ≠ 0) : Answers (.refuseMsg) s fun t => (t.entry a.msg.index).twin = 0 ∧
      (t.entry a.msg.index).synced = false ∧ (t.entry a.msg.index).state = (s.entry a.msg.index).state :=
  answers_of_nextMsg (act := takeRefuse) rfl ha fun inbox applied => by
    rw [acknowledge_entry]
    exact entry_takeRefuse (s := withMail s inbox applied) hg ht

/-! ### A twin that does not answer (R479, R482) -/

section Lost

variable {s : State}

theorem homeState_refreshTwin : homeState (refreshTwin s) = homeState s := by
  unfold homeState refreshTwin
  rw [getFld_putFld_disjoint _ _ _ _ _ _ _ (by decide), getFld_putFld_disjoint _ _ _ _ _ _ _ (by decide),
    getFld_putFld_disjoint _ _ _ _ _ _ _ (by decide), getFld, getReg, getFld, getReg]

theorem getReg_refreshTwin {a : Nat} (h : a ≠ Reg.devTwinStatus) : getReg (refreshTwin s) a = getReg s a := by
  unfold refreshTwin
  rw [getReg_putFld_other _ _ _ _ _ _ h, getReg_putFld_other _ _ _ _ _ _ h, getReg_putFld_other _ _ _ _ _ _ h, getReg, getReg]

theorem bodyRegister_devTwinStatus : BodyRegister Reg.devTwinStatus := ⟨by decide, by decide⟩

/-- The twin is lost once the home no longer waits for it: the counter, the cause and the event of it (R479). -/
def lossReported (s : State) (twin : Word) : State :=
  refreshTwin (raiseEvent (setCause (count s Reg.devMirrorTimeouts 1) Reg.devBlk 26) 0x058 noPart noBlock 2 twin 0)

theorem homeState_lossReported (twin : Word) : homeState (lossReported s twin) = homeState s := by
  have page : Reg.devBlk % 0x1000 = 0 := by decide
  have told := ((bodySame_count s Reg.devMirrorTimeouts 1).trans (bodySame_setCause _ 26 page)).trans
    (bodySame_raiseEvent _ 0x058 noPart noBlock 2 twin 0)
  rw [lossReported, homeState_refreshTwin, homeState, told.getFld bodyRegister_devTwinStatus, homeState]

theorem home_lossReported (twin : Word) : (lossReported s twin).home = s.home :=
  have told : Keep eventParts s (raiseEvent (setCause (count s Reg.devMirrorTimeouts 1) Reg.devBlk 26) 0x058 noPart noBlock 2 twin 0) :=
    raiseEvent_keep rfl rfl rfl rfl (setCause_keep rfl rfl rfl (keep_count s _ 1))
  (home_refreshTwin _).trans (told.same .twins rfl).2.2

/-- The cause TWIN of the device block is set, and an event that is not fatal leaves it. -/
theorem getBit_twinCause (type part block half : Nat) (d0 d1 : Word) (ht : evSeverity type ≠ 3) :
    getBit (raiseEvent (setCause s Reg.devBlk 26) type part block half d0 d1) (blkIntRaw Reg.devBlk) 26 = true :=
  getBit_raiseEvent_mono _ _ _ _ _ _ _ ht (by
    rw [getBit_setCause _ _ _ _ (by decide), decide_eq_true rfl, Bool.or_true])

theorem getBit_lossReported (twin : Word) : getBit (lossReported s twin) (blkIntRaw Reg.devBlk) 26 = true := by
  rw [lossReported, getBit, getReg_refreshTwin (by decide), ← getBit]
  exact getBit_twinCause _ _ _ _ _ _ (by decide)

/-- The home that waits for its twin no longer. -/
def homeAlone (s : State) : State :=
  let s1 := (twinKept s).foldl dropTwin s
  putFld { s1 with
    home := { s1.home with steps := [], handed := [] }
    sent := s1.sent.filter fun x => x.msg.cls ≠ 4 ∨ x.msg.src ≠ myCoord s1 ∨ fld x.msg.target 0 4 = 10 ∨
      fld x.msg.target 0 4 = 12 } Reg.devTwinStatus 0 2 2

theorem twinLost_eq (s : State) : twinLost s = lossReported (homeAlone s) s.colophon.twinSerial := rfl

theorem homeState_homeAlone : homeState (homeAlone s) = 2 := getFld_putFld_same _ _ _ _ _ (by decide)

theorem mirrorTimeout_loses (hs : s.home.steps ≠ []) (hp : usablePorts s ≠ []) : Answers (.mirrorTimeout none) s fun t =>
    homeState t = 2 ∧ t.home.steps = [] ∧ t.home.handed = [] ∧ getBit t (blkIntRaw Reg.devBlk) 26 = true := by
  refine ⟨twinLost s, ?_, ?_⟩
  · change execMirrorTimeout none s = _
    unfold execMirrorTimeout
    dsimp only
    rw [if_pos ⟨hs, hp⟩]
  · rw [twinLost_eq]
    dsimp only
    rw [homeState_lossReported, home_lossReported]
    exact ⟨homeState_homeAlone, rfl, rfl, getBit_lossReported _⟩

theorem mirrorTimeout_gives_back {req : Fin 32768} (h : req.val ∈ s.home.handed) : Answers (.mirrorTimeout (some req)) s fun t =>
    req.val ∉ t.home.handed ∧ (t.entry req.val).twin = 0 ∧ (t.entry req.val).state = (s.entry req.val).state := by
  refine ⟨refreshTwin (dropTwin { s with home := { s.home with handed := s.home.handed.filter (· ≠ req.val) } } req.val), ?_, ?_⟩
  · change execMirrorTimeout (some req) s = _
    unfold execMirrorTimeout
    dsimp only
    rw [if_pos h]
  · obtain ⟨r, dropped⟩ := entry_dropTwin { s with home := { s.home with handed := s.home.handed.filter (· ≠ req.val) } } req.val
    rw [home_refreshTwin, handed_dropTwin, entry_refreshTwin, dropped]
    exact ⟨fun listed => of_decide_eq_true (List.mem_filter.mp listed).2 rfl, rfl, rfl⟩

theorem isolated_failStops (hs : s.home.steps ≠ []) (hp : usablePorts s = []) (hf : getBit s Reg.devFailStatus 0 = false) :
    Answers (.isolated) s fun t => getBit t Reg.devFailStatus 0 = true ∧ getFld t Reg.devFailStatus 4 4 = 7 := by
  refine ⟨failStop s 7, ?_, failed_failStop, reason_failStop hf (by decide)⟩
  change execIsolated s = _
  unfold execIsolated
  rw [if_pos ⟨hs, hp⟩]

/-- The home of a serial is marked silent. -/
def silenced (s : State) (serial : Word) : State :=
  { s with homes := s.homes.map fun (h : ServedHome) => if h.serial = serial then { h with silent := true } else h }

theorem silent_silenced {serial : Word} {h : ServedHome} (hh : h ∈ (silenced s serial).homes) (hs : h.serial = serial) : h.silent = true := by
  obtain ⟨g, -, rfl⟩ := List.mem_map.mp hh
  by_cases same : g.serial = serial
  · rw [if_pos same]
  · rw [if_neg same] at hs
    exact absurd hs same

theorem homeSilent_marks {serial : BitVec 64} (h : (s.homes.any fun h => h.serial = serial ∧ silentFor s h = true) = true) :
    Answers (.homeSilent serial) s fun t =>
      (∀ h ∈ t.homes, h.serial = serial → h.silent = true) ∧ getBit t (blkIntRaw Reg.devBlk) 26 = true := by
  refine ⟨raiseEvent (setCause (silenced s serial) Reg.devBlk 26) 0x059 noPart noBlock 2 serial 0, ?_, ?_, ?_⟩
  · change execHomeSilent serial s = _
    unfold execHomeSilent
    rw [if_pos h, silenced]
  · have told : Keep eventParts (silenced s serial)
        (raiseEvent (setCause (silenced s serial) Reg.devBlk 26) 0x059 noPart noBlock 2 serial 0) :=
      raiseEvent_keep rfl rfl rfl rfl (setCause_keep rfl rfl rfl (Keep.refl _))
    rw [(told.same .twins rfl).2.1]
    exact fun h hh hs => silent_silenced hh hs
  · exact getBit_twinCause _ _ _ _ _ _ (by decide)

end Lost

/-- Settles O40: what the home and the twin do about each other, command by command. -/
theorem twinHomesComplete : Obligations.TwinHomesComplete := by
  unfold Obligations.TwinHomesComplete
  exact ⟨fun _ _ => handoffSend_hands, fun _ _ => refuseMsg_ends, fun _ => mirrorTimeout_loses, fun _ _ => mirrorTimeout_gives_back,
    fun _ => isolated_failStops, fun _ _ => homeSilent_marks⟩

end Sys2Proof.Machine
end

section
/-!
PROOFS. What every step keeps of the past (R61, R66, R77): fuses, start numbers, outputs.
-/
namespace Sys2Proof.Machine

/-- START_SEQ of the last start is not the tick's business, which runs the NVS timer alone. -/
theorem lastSeq_tick (s : State) : (tick s).nvs.lastSeq = s.nvs.lastSeq := by rw [tick_nvs]

/-- Settles O51: a tick touches neither fuses nor outputs, and what a command keeps of the past is read off `exec_keep`. -/
theorem historyStays : Obligations.HistoryStays := by
  unfold Obligations.HistoryStays
  intro s t h
  unfold step at h
  split at h
  · cases h
    exact ⟨⟨rfl, id, id⟩, (lastSeq_tick s).ge, List.prefix_refl _⟩
  · next c rest _ =>
    have kept := (exec_keep c { s with pending := rest }).of t h
    exact ⟨kept.fuses, kept.seq, kept.out⟩

end Sys2Proof.Machine
end

section
/-!
PROOFS. Step 4 of a half whose die pairs have all lost their power (R43, R60): the start passes over the steps of the dies.
-/
namespace Sys2Proof.Machine

/-- A die pair that a rail fault of its VDD_CD has stopped (R43). -/
def stoppedPair : DiePair := { DiePair.fresh 0 with stopped := true }

/-- The west half in step 4 of a cold start, after rail faults of its four die pairs. -/
def diesStopped : State := { State.reset with
  west := { HalfState.reset with step := 4 }
  dies := [(0, stoppedPair), (1, stoppedPair), (2, stoppedPair), (3, stoppedPair)] }

/-- Refutes O7, at its fifth clause, which names step 5 as the one after step 4 of every start but a warm one. In `diesStopped` the half has
no die pair with power, so it passes over steps 5 to 7 (`leaveStep`, R43) and enters step 8, where its ports train. -/
theorem not_startStepsComplete : ¬ Obligations.StartStepsComplete := by
  unfold Obligations.StartStepsComplete
  rintro ⟨-, -, -, -, identity, -, -, -, -, -⟩
  obtain ⟨t, runs, -, -, step⟩ := identity .west true 0 diesStopped (by decide)
  have entered : exec (.identityAndFuses .west true true 0) diesStopped = .next t → t.west.step = 8 := by
    rintro h
    cases h
    decide
  have claimed : t.west.step = 5 := step
  exact absurd (claimed.symm.trans (entered runs)) (by decide)

end Sys2Proof.Machine
end

section
/-!
PROOFS. Idle states of the dies (R53 to R55, R98), the I3C target and the test access port (R37, R38, R541).
-/
namespace Sys2Proof.Machine

/-! ### Idle states -/

theorem t0_clearDieT0 (s : State) (d a : Nat) : Map.get (fun _ => (0 : Byte)) (clearDieT0 s d).t0 a =
    if a / 2 ^ 23 / 34 = d then 0 else Map.get (fun _ => (0 : Byte)) s.t0 a := by
  simp only [clearDieT0, Map.get_clearWhere, decide_eq_true_eq]

theorem die_clearDieT0 (s : State) (d j : Nat) : (clearDieT0 s d).die j = s.die j := rfl

/-- A die pair that wakes with no write waiting for any page (R98). -/
theorem exec_dieWake {d : Fin 8} {s : State} (hp : (s.die d.val).power ≠ .on) (hw : s.gatedWrites = []) :
    exec (.dieWake d) s = .next (s.setDie d.val { s.die d.val with power := .on, selfRefresh := false }) := by
  change execDieWake d s = _
  unfold execDieWake
  dsimp only
  simp only [if_neg hp, hw, List.filter_nil, List.reverse_nil, List.foldl_nil]
  rw [← hw]
  rfl

/-- Settles O3: gating changes the power state of one die, and a die that loses its power loses the T0 of its cores. -/
theorem idleStatesComplete : Obligations.IdleStatesComplete := by
  unfold Obligations.IdleStatesComplete
  refine ⟨?clock, ?power, fun _ _ => exec_dieWake, fun _ _ => rfl⟩
  case clock =>
    intro d s hc hi hp
    exact if_pos ⟨hc, hi, hp⟩
  case power =>
    intro d s hc hi hj hp
    exact ⟨_, if_pos ⟨hc, hi, hj, .inr hp⟩, (die_clearDieT0 ..).trans (die_setDie_same s d.val _), rfl, t0_clearDieT0 _ _⟩

/-! ### I3C -/

/-- A write of 4 bytes sets the transfer address, and no more. -/
theorem exec_i3cPrivateWrite_addr {a : BitVec 7} {data : List Byte} {s : State} (hb : i3cAlive s = true) (ha : a = i3cAddr s)
    (hl : data.length = 4) : exec (.i3cPrivateWrite a data) s =
      .next { s with i3c := { s.i3c with addr := BitVec.ofNat 32 (ofLe data) } } := by
  have answered : ¬ ((!i3cAlive s) = true ∨ a ≠ i3cAddr s ∨ (data.length ≠ 4 ∧ data.length ≠ 12)) := by
    rw [hb, hl]
    simp [ha]
  change execI3cPrivateWrite a data s = _
  unfold execI3cPrivateWrite
  rw [if_neg answered]
  dsimp only
  rw [if_neg (by omega), List.take_of_length_le hl.le]

theorem exec_i3cPrivateRead {a : BitVec 7} {s : State} (hb : i3cAlive s = true) (ha : a = i3cAddr s) : exec (.i3cPrivateRead a) s =
    .next { s with i3c := { s.i3c with addr := s.i3c.addr + 8 }, out := s.out ++ [.i3c (i3cRead s s.i3c.addr.toNat)] } := by
  have answered : ¬ ((!i3cAlive s) = true ∨ a ≠ i3cAddr s) := by
    rw [hb]
    simp [ha]
  change execI3cPrivateRead a s = _
  unfold execI3cPrivateRead
  rw [if_neg answered]
  rfl

/-! ### The test access port -/

/-- A port that is not locked carries an instruction out. -/
theorem tap_unlocked {tdi : List Bool} {s : State} (hl : tapLocked s = false) (t : State) :
    (if tapLocked s = true then Host.Outcome.next (tapBypass s tdi) else .next t : Result) = .next t := if_neg (Bool.eq_false_iff.mp hl)

/-- A locked port carries it out as BYPASS (R38). -/
theorem tap_locked {tdi : List Bool} {s : State} (hl : tapLocked s = true) (t : State) :
    (if tapLocked s = true then Host.Outcome.next (tapBypass s tdi) else .next t : Result) = .next (tapBypass s tdi) := if_pos hl

/-- Settles O4: the bus answers at its address; the instructions of the test port are those of a port that is not locked, or BYPASS. -/
theorem boardComplete : Obligations.BoardComplete := by
  unfold Obligations.BoardComplete
  refine ⟨?entdaa, ?setdasa, fun _ _ _ => exec_i3cPrivateWrite_addr, fun _ _ => exec_i3cPrivateRead, fun _ _ => rfl, fun _ _ => rfl,
    fun _ _ _ => (tap_unlocked · _), fun _ _ _ => (tap_unlocked · _), fun _ _ => (tap_unlocked · _), fun _ _ => (tap_unlocked · _), ?locked⟩
  case entdaa =>
    intro a s hb hd
    exact if_pos ⟨hb, hd⟩
  case setdasa =>
    intro a s hb hd
    exact if_pos ⟨hb, hd, rfl⟩
  case locked =>
    intro tdi pins s hl
    exact ⟨tap_locked hl _, tap_locked hl _, tap_locked hl _, tap_locked hl _⟩

end Sys2Proof.Machine
end

section
/-!
PROOFS. How a start goes on (R60, R71 to R74): what records leave of the halves and of the NVS, and the half that a step leaves when its only
part has passed.
-/
namespace Sys2Proof.Machine

/-! ### What a frame says of one half, one die, one port -/

section Frames

variable {m : Part → Bool} {s t : State} (k : Keep m s t)
include k

theorem half_of_keep (hm : m .halves = false) (h : Half) : t.half h = s.half h := by
  obtain ⟨west, east, -⟩ := k.same .halves hm
  cases h
  · exact west
  · exact east

theorem nvs_of_keep (hm : m .nvs = false) : t.nvs = s.nvs := (k.same .nvs hm).1

theorem clock_of_keep (hm : m .time = false) : t.clock = s.clock := (k.same .time hm).1

theorem deferred_of_keep (hm : m .waits = false) : t.deferred = s.deferred := (k.same .waits hm).1

theorem die_of_keep (hm : m .dies = false) (d : Nat) : t.die d = s.die d := by
  rw [State.die, show t.dies = s.dies from k.same .dies hm, State.die]

end Frames

@[simp] theorem half_setReg (s : State) (a : Nat) (w : Word) (h : Half) : (setReg s a w).half h = s.half h := by cases h <;> rfl

@[simp] theorem half_putBit (s : State) (a i : Nat) (b : Bool) (h : Half) : (putBit s a i b).half h = s.half h := half_setReg ..

/-! ### Records (R77) -/

/-- What a ledger record writes. -/
def ledgerParts (p : Part) : Bool := decide (p ∈ [Part.nvs, .regs])

theorem keep_ledgerWrite (s : State) (r : LedgerRec) : Keep ledgerParts s (ledgerWrite s r) := ledgerWrite_keep rfl rfl (Keep.refl s)

@[simp] theorem half_ledgerWrite (s : State) (r : LedgerRec) (h : Half) : (ledgerWrite s r).half h = s.half h :=
  half_of_keep (keep_ledgerWrite s r) rfl h

/-- Of the NVS a record changes the ledger alone. -/
theorem nvs_ledgerWrite (s : State) (r : LedgerRec) : ∃ l n w held, (ledgerWrite s r).nvs =
    { s.nvs with ledger := l, ledgerNext := n, ledgerWrapped := w, ledgerHeld := held } := by
  unfold ledgerWrite
  split
  · exact ⟨_, _, _, _, rfl⟩
  · exact ⟨_, _, _, _, rfl⟩

@[simp] theorem lastSeq_ledgerWrite (s : State) (r : LedgerRec) : (ledgerWrite s r).nvs.lastSeq = s.nvs.lastSeq := by
  obtain ⟨l, n, w, held, nvs⟩ := nvs_ledgerWrite s r
  rw [nvs]

/-! ### From step to step -/

/-- `y` is the half `x` gone on to step `n`. -/
def WentOn (x y : HalfState) (n : Nat) : Prop :=
  ∃ done began stamp fails, y = { x with step := n, done := done, began := began, beganStamp := stamp, fails := fails }

/-- A step of the half, which has one part to end. -/
def Single (n : Nat) : Prop := n < 5 ∨ 9 < n

theorem stepInstances_single (s : State) (h : Half) {n : Nat} (hn : Single n) : stepInstances s h n = [0] := by
  unfold Single at hn
  unfold stepInstances
  rw [if_neg (by omega), if_neg (by omega), if_neg (by omega)]

/-- The next step is entered at once when it is one of the half, or one of the dies and a die pair has power. -/
theorem leaveStep_enters {s : State} {h : Half} {n : Nat} (hn : nextStep (s.half h).kind (s.half h).step = n) (h8 : n ≠ 8) (h9 : n ≠ 9)
    (hd : n < 5 ∨ 7 < n ∨ stepInstances s h n ≠ []) : leaveStep s h = enterStep s h n := by
  have present : ¬ (5 ≤ n ∧ n ≤ 7 ∧ stepInstances s h n = []) := fun ⟨lo, hi, empty⟩ => by
    rcases hd with lt | gt | powered
    · omega
    · omega
    · exact powered empty
  unfold leaveStep
  dsimp only
  rw [hn, if_neg present, if_neg h8, if_neg h9]

theorem takeTime_elsewhere {s : State} {h : Half} (hs : (s.half h).step ≠ 10) : takeTime s h = s := if_neg fun ⟨_, ten, _⟩ => hs ten

/-- The only part of a step has ended: the half marks it and enters the next step. -/
theorem doneInstance_single {s : State} {h : Half} {n : Nat} (hs : Single (s.half h).step)
    (hn : nextStep (s.half h).kind (s.half h).step = n) (h89 : n < 8 ∨ 10 < n)
    (hd : n < 5 ∨ 7 < n ∨ stepInstances s h n ≠ []) :
    doneInstance s h 0 = enterStep (s.setHalf h { s.half h with done := (s.half h).done ||| 2 ^ 0 }) h n := by
  have all : ((stepInstances (s.setHalf h { s.half h with done := (s.half h).done ||| 2 ^ 0 }) h (s.half h).step).all fun i =>
      ((s.half h).done ||| 2 ^ 0).testBit i) = true := by
    rw [stepInstances_single _ _ hs]
    simp
  have instances : stepInstances (s.setHalf h { s.half h with done := (s.half h).done ||| 2 ^ 0 }) h n = stepInstances s h n := by
    cases h <;> rfl
  unfold doneInstance
  dsimp only
  rw [if_pos all, leaveStep_enters (n := n) (by rw [half_setHalf_same]; exact hn) (by omega) (by omega) (by rwa [instances]),
    takeTime_elsewhere]
  rw [enterStep, half_setHalf_same]
  dsimp only
  omega

theorem stepInstances_congr {s t : State} (hd : t.dies = s.dies) (h : Half) {n : Nat} (hn : n < 8 ∨ 10 < n) :
    stepInstances t h n = stepInstances s h n := by
  unfold stepInstances State.die
  rw [hd, if_neg (show ¬ n = 8 by omega), if_neg (show ¬ n = 9 by omega), if_neg (show ¬ n = 8 by omega), if_neg (show ¬ n = 9 by omega)]

theorem setHalf_setHalf (s : State) (h : Half) (x y : HalfState) : (s.setHalf h x).setHalf h y = s.setHalf h y := by cases h <;> rfl

/-- Besides, a record is written and the half keeps count of its failures. -/
theorem endStep_passed {s : State} {h : Half} {n : Nat} (form : Nat) {outcome : Nat} (code detail : Nat) (hs : Single (s.half h).step)
    (ho : ¬ (outcome = 1 ∨ outcome = 2)) (hn : nextStep (s.half h).kind (s.half h).step = n) (h89 : n < 8 ∨ 10 < n)
    (hd : n < 5 ∨ 7 < n ∨ stepInstances s h n ≠ []) :
    ∃ r x, WentOn (s.half h) x n ∧ endStep s h 0 form outcome code detail = (ledgerWrite s r).setHalf h x := by
  have written (r : LedgerRec) : (ledgerWrite s r).dies = s.dies := (keep_ledgerWrite s r).same .dies rfl
  have noted (r : LedgerRec) (x : HalfState) : ((ledgerWrite s r).setHalf h x).dies = s.dies := by rw [setHalf_dies, written]
  unfold endStep
  dsimp only
  rw [if_neg ho, doneInstance_single (n := n) (by rw [half_setHalf_same, half_ledgerWrite]; exact hs)
    (by rw [half_setHalf_same, half_ledgerWrite]; exact hn) h89 (by rwa [stepInstances_congr (noted _ _) h h89]), enterStep, setHalf_setHalf,
    setHalf_setHalf, half_setHalf_same, half_setHalf_same, half_ledgerWrite]
  exact ⟨_, _, ⟨_, _, _, _, rfl⟩, rfl⟩

end Sys2Proof.Machine
end

section
/-!
PROOFS. Fabric time: start step 10 and the source of the time (R35, R86 to R88, R411), and the exchanges by which a device follows its parent
(R410, R413).
-/
namespace Sys2Proof.Machine

/-! ### Start step 10 -/

theorem step_of_inStep {s : State} {h : Half} {n : Nat} (hs : inStep s h n = true) : (s.half h).phase = .starting ∧ (s.half h).step = n :=
  of_decide_eq_true hs

theorem nextStep_ten (k : ResetKind) : nextStep k 10 = 11 ∨ nextStep k 10 = 12 := by cases k <;> decide

/-- The half leaves step 10. -/
theorem doneInstance_ten {s : State} {h : Half} {n : Nat} (hs : (s.half h).step = 10) (hn : nextStep (s.half h).kind 10 = n) :
    ∃ x, WentOn (s.half h) x n ∧ doneInstance s h 0 = s.setHalf h x := by
  have later : n = 11 ∨ n = 12 := hn ▸ nextStep_ten _
  rw [doneInstance_single (n := n) (by rw [hs]; exact .inr (by decide)) (by rw [hs, hn]) (by omega) (by omega), enterStep, setHalf_setHalf,
    half_setHalf_same]
  exact ⟨_, ⟨_, _, _, _, rfl⟩, rfl⟩

/-- Both halves leave step 10 with one record. -/
theorem endTen_ends (s : State) (outcome code detail : Nat) (hs : atTen s = true) : ∃ r x y,
    WentOn s.west x (nextStep s.west.kind 10) ∧ WentOn s.east y (nextStep s.east.kind 10) ∧
      endTen s outcome code detail = ((ledgerWrite s r).setHalf .west x).setHalf .east y := by
  obtain ⟨west, east⟩ := Bool.and_eq_true_iff.mp hs
  have written (r : LedgerRec) : ∃ x y, WentOn s.west x (nextStep s.west.kind 10) ∧ WentOn s.east y (nextStep s.east.kind 10) ∧
      doneInstance (doneInstance (ledgerWrite s r) .west 0) .east 0 = ((ledgerWrite s r).setHalf .west x).setHalf .east y := by
    obtain ⟨x, hx, ex⟩ := doneInstance_ten (s := ledgerWrite s r) (h := .west) (by rw [half_ledgerWrite]; exact (step_of_inStep west).2) rfl
    rw [half_ledgerWrite] at hx
    have other : ((ledgerWrite s r).setHalf .west x).half .east = s.east := half_ledgerWrite s r .east
    obtain ⟨y, hy, ey⟩ := doneInstance_ten (s := (ledgerWrite s r).setHalf .west x) (h := .east)
      (by rw [other]; exact (step_of_inStep east).2) rfl
    rw [other] at hy
    exact ⟨x, y, hx, hy, by rw [ex, ey]⟩
  unfold endTen
  rw [if_pos hs]
  obtain ⟨x, y, hx, hy, e⟩ := written _
  exact ⟨_, x, y, hx, hy, e⟩

/-- Away from step 10 of both halves nothing ends. -/
theorem endTen_elsewhere (s : State) (outcome code detail : Nat) (hs : atTen s = false) : endTen s outcome code detail = s :=
  if_neg (Bool.eq_false_iff.mp hs)

/-- What the end of step 10 may change. -/
def tenParts (p : Part) : Bool := decide (p ∈ [Part.halves, .nvs, .ports, .links, .regs])

theorem keep_endTen (s : State) (outcome code detail : Nat) : Keep tenParts s (endTen s outcome code detail) :=
  endTen_keep rfl rfl rfl rfl rfl (Keep.refl s)

/-- The origin is the source of an aligned time, which begins at EPOCH_BASE (R86). -/
theorem clock_becomeSource (s : State) (code : Nat) : (becomeSource s code).clock.aligned = true ∧ (becomeSource s code).clock.source = true ∧
    (becomeSource s code).clock.hop = 0 ∧ (becomeSource s code).clock.now = s.colophon.epochBase.toNat := by
  unfold becomeSource
  dsimp only
  rw [clock_of_keep (keep_endTen _ _ _ _) rfl]
  exact ⟨rfl, rfl, rfl, rfl⟩

/-- The edge of EPOCH_IN is stamped with the counter. -/
def edgeStamped (s : State) : State := { s with clock := { s.clock with epochStamp := some s.clock.now } }

theorem exec_epochIn (s : State) : exec (.epochIn) s = .next (edgeStamped (if s.clock.epochWait = true then becomeSource s 0 else s)) := rfl

theorem exec_epochIn_stamps {s : State} (hw : s.clock.epochWait = false) : exec (.epochIn) s = .next (edgeStamped s) := by
  rw [exec_epochIn, if_neg (Bool.eq_false_iff.mp hw)]

/-- Settles O5: the origin becomes the source by `becomeSource`, whose clock step 10 leaves; step 10 without a source ends by `endTen`. -/
theorem timeStartComplete : Obligations.TimeStartComplete := by
  unfold Obligations.TimeStartComplete
  refine ⟨fun _ => exec_epochIn_stamps, ?edge, ?listened, ?absent, ?noSource, ?noParent⟩
  case edge =>
    intro s hw
    refine ⟨_, exec_epochIn s, ?_⟩
    rw [if_pos hw]
    exact clock_becomeSource s 0
  case listened =>
    intro s ho
    exact congrArg Host.Outcome.next (if_pos ho)
  case absent =>
    intro s hw
    refine ⟨_, congrArg Host.Outcome.next (if_pos hw), clock_becomeSource s 0x0042⟩
  case noSource =>
    intro s ht ha hw he
    obtain ⟨r, x, y, ⟨_, _, _, _, rfl⟩, ⟨_, _, _, _, rfl⟩, e⟩ := endTen_ends s 2 0x0040 0 ht
    have runs : exec (.timeNoSource) s = .next (endTen s 2 0x0040 0) := congrArg Host.Outcome.next (if_pos ⟨ht, Bool.eq_false_iff.mp ha⟩)
    refine ⟨_, runs, ?_⟩
    dsimp only
    rw [clock_of_keep (keep_endTen _ _ _ _) rfl, e, hw, he]
    exact ⟨rfl, rfl, (step_of_inStep (Bool.and_eq_true_iff.mp ht).1).1, rfl⟩
  case noParent =>
    intro s hp hs
    exact ⟨_, congrArg Host.Outcome.next (if_pos ⟨hp, Bool.eq_false_iff.mp hs⟩), rfl, getBit_putBit_same _ _ _ _ (by decide),
      fun off ho => getReg_putBit_other _ _ _ _ _ ho⟩

/-! ### Exchanges: a port that is asked -/

theorem keep_sendPartner (s : State) (p cls op dst : Nat) (content : List Byte) : Keep sendParts s (sendPartner s p cls op dst content) :=
  sendPartner_keep rfl rfl rfl rfl rfl rfl (Keep.refl s)

theorem time_of_keep {m : Part → Bool} {s t : State} (k : Keep m s t) (hm : m .time = false) (p : Nat) : t.time p = s.time p := by
  rw [State.time, (k.same .time hm).2, State.time]

/-- A port that has been asked under its next number. -/
def asked (s : State) (p : Nat) : TimePort := { s.time p with xseq := ((s.time p).xseq + 1) % 2 ^ 32, t1 := some s.clock.now }

theorem askTime_eq (s : State) (p : Nat) : askTime s p = sendPartner (s.setTime p (asked s p)) p 2 0x20 (partnerCoord s p)
    (timeBytes s (asked s p).xseq s.clock.now 0 0) := rfl

theorem clock_askTime (s : State) (p : Nat) : (askTime s p).clock = s.clock := by
  rw [askTime_eq, clock_of_keep (keep_sendPartner _ _ _ _ _ _) rfl]
  rfl

theorem time_askTime_same (s : State) (p : Nat) : (askTime s p).time p = asked s p := by
  rw [askTime_eq, time_of_keep (keep_sendPartner _ _ _ _ _ _) rfl, time_setTime_same]

theorem time_askTime_other (s : State) {p j : Nat} (h : j ≠ p) : (askTime s p).time j = s.time j := by
  rw [askTime_eq, time_of_keep (keep_sendPartner _ _ _ _ _ _) rfl, time_setTime_other _ _ _ _ h]

theorem time_askTimes_other (l : List Nat) (s : State) {j : Nat} (h : j ∉ l) : (l.foldl askTime s).time j = s.time j := by
  induction l generalizing s with
  | nil => rfl
  | cons p l ih =>
    obtain ⟨ne, rest⟩ : j ≠ p ∧ j ∉ l := by simpa using h
    exact (ih (askTime s p) rest).trans (time_askTime_other s ne)

/-- Each port of a list without repeats is asked once. -/
theorem time_askTimes (l : List Nat) (hl : l.Nodup) (s : State) {p : Nat} (h : p ∈ l) : (l.foldl askTime s).time p = asked s p := by
  induction l generalizing s with
  | nil => cases h
  | cons q l ih =>
    obtain ⟨fresh, rest⟩ := List.nodup_cons.mp hl
    rcases List.mem_cons.mp h with rfl | later
    · exact (time_askTimes_other l (askTime s p) fresh).trans (time_askTime_same s p)
    · have ne : p ≠ q := fun e => fresh (e ▸ later)
      refine (ih rest (askTime s q) later).trans ?_
      rw [asked, clock_askTime, time_askTime_other s ne, asked]

theorem nodup_timePorts (s : State) : (timePorts s).Nodup := by
  unfold timePorts
  split
  · exact List.nodup_singleton _
  · split
    · exact List.nodup_nil
    · exact List.nodup_range.filter _

/-! ### Exchanges: a response that is taken -/

/-- The request in progress, the offer and the hop count of a port are as before. -/
def OfferKept (p : Nat) (s t : State) : Prop :=
  (t.time p).t1 = (s.time p).t1 ∧ (t.time p).offer = (s.time p).offer ∧ getFld t (Reg.fabTimeStatus p) 48 8 = getFld s (Reg.fabTimeStatus p) 48 8

theorem OfferKept.trans {p : Nat} {a b c : State} (h : OfferKept p a b) (g : OfferKept p b c) : OfferKept p a c := by
  obtain ⟨t1, offer, hop⟩ := h
  obtain ⟨t1', offer', hop'⟩ := g
  exact ⟨t1'.trans t1, offer'.trans offer, hop'.trans hop⟩

theorem OfferKept.of_times {p : Nat} {s t : State} (h : t.times = s.times)
    (hr : getFld t (Reg.fabTimeStatus p) 48 8 = getFld s (Reg.fabTimeStatus p) 48 8) : OfferKept p s t :=
  ⟨by rw [State.time, h, State.time], by rw [State.time, h, State.time], hr⟩

theorem bodyRegister_fabTimeStatus (p : Nat) : BodyRegister (Reg.fabTimeStatus p) := by
  have aside : ∀ x ∈ eventRegs, x % 0x1000 ≠ 0x110 := by decide
  have place : Reg.fabTimeStatus p % 0x1000 = 0x110 := by unfold Reg.fabTimeStatus; omega
  exact ⟨by omega, fun h => aside _ h place⟩

/-- Messages, causes, captures and events keep it. -/
theorem OfferKept.of_body {p : Nat} {m : Part → Bool} {s t : State} (k : Keep m s t) (hm : m .time = false) (b : BodySame s t) :
    OfferKept p s t := .of_times (k.same .time hm).2 (b.getFld (bodyRegister_fabTimeStatus p) 48 8)

section Response

variable (s : State) (p : Nat)

theorem fabTimeStatus_ne_fabStatus (q : Nat) : Reg.fabTimeStatus p ≠ Reg.fabStatus q := by
  unfold Reg.fabTimeStatus Reg.fabStatus
  omega

theorem hop_putBit_locked (q : Nat) (b : Bool) :
    getFld (putBit s (Reg.fabTimeStatus q) 56 b) (Reg.fabTimeStatus p) 48 8 = getFld s (Reg.fabTimeStatus p) 48 8 := by
  by_cases h : Reg.fabTimeStatus p = Reg.fabTimeStatus q
  · rw [h, getFld_putBit_disjoint _ _ _ _ _ _ (by decide)]
  · rw [getFld_putBit_other _ _ _ _ _ _ _ h]

theorem hop_setParent (x : Option Nat) : getFld (setParent s x) (Reg.fabTimeStatus p) 48 8 = getFld s (Reg.fabTimeStatus p) 48 8 :=
  List.foldlRecOn (motive := fun t => getFld t (Reg.fabTimeStatus p) 48 8 = getFld s (Reg.fabTimeStatus p) 48 8) (List.range 6) _ rfl
    fun t h q _ => by
      dsimp only
      split
      · rw [getFld_putBit_other _ _ _ _ _ _ _ (fabTimeStatus_ne_fabStatus p q), h]
      · rw [hop_putBit_locked, getFld_putBit_other _ _ _ _ _ _ _ (fabTimeStatus_ne_fabStatus p q), h]

theorem offerKept_chooseParent : OfferKept p s (chooseParent s) := by
  refine .of_times (times_chooseParent s) ?_
  unfold chooseParent
  split
  · exact hop_setParent s p none
  · exact hop_setParent s p _

theorem offerKept_noteConflict : OfferKept p s (noteConflict s) := by
  unfold noteConflict
  split
  · exact ⟨rfl, rfl, rfl⟩
  · next o _ =>
    split
    · exact ⟨rfl, rfl, rfl⟩
    · exact .of_body (s := { s with clock := { s.clock with rejected := some o } }) (m := sendParts)
        (raiseEvent_keep rfl rfl rfl rfl (Keep.refl _)) rfl (bodySame_raiseEvent _ _ _ _ _ _ _)

theorem offerKept_considerOffers : OfferKept p s (considerOffers s) := by
  unfold considerOffers
  dsimp only
  split
  · exact (offerKept_chooseParent s p).trans (offerKept_noteConflict _ p)
  · exact offerKept_noteConflict s p

theorem offerKept_setAligned (b : Bool) : OfferKept p s (setAligned s b) :=
  .of_times rfl (getFld_putBit_other _ _ _ _ _ _ _ (by unfold Reg.fabTimeStatus Reg.devStartStatus; omega))

theorem getReg_endTen_other (outcome code detail : Nat) {a : Nat} (h : a ≠ Reg.nvsLedgerHead) :
    getReg (endTen s outcome code detail) a = getReg s a := by
  cases ht : atTen s
  · rw [endTen_elsewhere _ _ _ _ ht]
  · obtain ⟨r, x, y, -, -, e⟩ := endTen_ends s outcome code detail ht
    rw [e, getReg, setHalf_regs, setHalf_regs, ← getReg, getReg_ledgerWrite_other _ _ _ h]

theorem offerKept_alignNow (offs : List Int) : OfferKept p s (alignNow s offs) := by
  have ended (u : State) : OfferKept p u (endTen u 0 0 0) := .of_times ((keep_endTen u 0 0 0).same .time rfl).2 (by
    rw [getFld, getReg_endTen_other _ _ _ _ (by unfold Reg.fabTimeStatus Reg.nvsLedgerHead; omega), getFld])
  have set (n : Nat) : OfferKept p s (setClock s n) := ⟨rfl, rfl, rfl⟩
  unfold alignNow
  exact (set _).trans ((offerKept_setAligned _ p true).trans (ended _))

/-- A servo that takes an offset in, or loses its alignment, leaves the port's offer. -/
theorem offerKept_followParent (off : Int) : OfferKept p s (followParent s p off) := by
  have noted (l : List Int) : OfferKept p s (s.setTime p { s.time p with offsets := l }) :=
    ⟨by rw [time_setTime_same], by rw [time_setTime_same], rfl⟩
  unfold followParent
  dsimp only
  split
  · split
    · exact noted _
    · exact (noted _).trans (offerKept_alignNow _ p _)
  · split
    · refine (offerKept_setAligned s p false).trans ?_
      exact .of_body (m := sendParts) (raiseEvent_keep rfl rfl rfl rfl (capture_keep rfl rfl rfl rfl (Keep.refl _))) rfl
        ((bodySame_capture _ _ _ _ _ _ (fabBlk_page p)).trans (bodySame_raiseEvent _ _ _ _ _ _ _))
    · exact .of_times rfl (hop_putBit_locked _ p p _)

theorem leAt_lt (bs : List Byte) (off n : Nat) : leAt bs off n < 256 ^ n :=
  (ofLe_lt _).trans_le (Nat.pow_le_pow_right (by decide) (List.length_take_le ..))

/-- A response is shown: the exchange is over, the offer and the round trip stand, and FAB_TIME_STATUS shows them. -/
def responseShown (a : Arrival) (rtt : Nat) (off : Int) : State :=
  putFld (putFld (putFld (s.setTime p { s.time p with
    t1 := none, rtts := (rtt :: (s.time p).rtts).take 16, offer := some (leAt a.msg.content 4 1, word (leAt a.msg.content 0x28 8)) })
    (Reg.fabTimeStatus p) 0 32 (twosSat 32 off)) (Reg.fabTimeStatus p) 32 16 (min 0xFFFF rtt)) (Reg.fabTimeStatus p) 48 8 (leAt a.msg.content 4 1)

/-- The port's offer and its hop count are those of the response. -/
def ResponseTaken (p : Nat) (a : Arrival) (t : State) : Prop :=
  (t.time p).t1 = none ∧ (t.time p).offer = some (leAt a.msg.content 4 1, word (leAt a.msg.content 0x28 8)) ∧
    getFld t (Reg.fabTimeStatus p) 48 8 = leAt a.msg.content 4 1

theorem responseTaken_shown (a : Arrival) (rtt : Nat) (off : Int) : ResponseTaken p a (responseShown s p a rtt off) := by
  have byte : leAt a.msg.content 4 1 < 2 ^ 8 := leAt_lt a.msg.content 4 1
  refine ⟨?_, ?_, ?_⟩
  · exact congrArg TimePort.t1 (time_setTime_same s p _)
  · exact congrArg TimePort.offer (time_setTime_same s p _)
  · exact (getFld_putFld_same _ _ _ _ _ (by decide)).trans (Nat.mod_eq_of_lt byte)

theorem ResponseTaken.kept {p : Nat} {a : Arrival} {s t : State} (h : ResponseTaken p a s) (k : OfferKept p s t) : ResponseTaken p a t := by
  obtain ⟨t1, offer, hop⟩ := h
  obtain ⟨t1', offer', hop'⟩ := k
  exact ⟨t1'.trans t1, offer'.trans offer, hop'.trans hop⟩

theorem offerKept_acknowledge (m : Msg) : OfferKept p s (acknowledge s m) := by
  unfold acknowledge
  split
  · exact .of_body (m := sendParts) (sendMsg_keep rfl rfl rfl rfl rfl rfl (Keep.refl s)).of rfl (bodySame_sendMsg _ _ _ _ _ _ _ _)
  · exact ⟨rfl, rfl, rfl⟩

end Response

/-- Settles O33: a list of ports is asked port by port; what follows a response keeps the offer that it brought. -/
theorem timeExchangesComplete : Obligations.TimeExchangesComplete := by
  unfold Obligations.TimeExchangesComplete
  refine ⟨?asks, ?answers, ?takes, ?stale, fun _ => exec_epochIn_stamps⟩
  case asks =>
    intro s
    refine ⟨_, rfl, fun p hp _ => ?_⟩
    rw [time_askTimes _ (nodup_timePorts s) s hp]
    exact ⟨rfl, rfl⟩
  case answers =>
    intro p a s1 s ht ha
    refine congrArg Host.Outcome.next ((onMsg_first ht _).trans ?_)
    obtain ⟨inbox, applied, rfl⟩ := takeMsg_first ht
    have aligned : (withMail s inbox applied).clock.aligned = true := ha
    rw [aligned]
    rfl
  case takes =>
    intro p a t1 s ha ht hx
    refine answers_of_nextMsg rfl ha fun inbox applied => ?_
    have asking : ((withMail s inbox applied).time p).t1 = some t1 := ht
    have number : ¬ leAt a.msg.content 0 4 ≠ ((withMail s inbox applied).time p).xseq := not_not_intro hx
    dsimp only
    rw [asking]
    dsimp only
    rw [if_neg number]
    have shown := responseTaken_shown (withMail s inbox applied) p a
      ((a.at_ : Int) - t1 - ((leAt a.msg.content 0x18 8 : Int) - leAt a.msg.content 0x10 8)).toNat
      (offsetOf (withMail s inbox applied) p t1 a.at_ a.msg.content)
    refine ResponseTaken.kept ?_ (offerKept_acknowledge _ p a.msg)
    split
    · exact shown.kept (offerKept_considerOffers _ p)
    · exact (shown.kept (offerKept_considerOffers _ p)).kept (offerKept_followParent _ p _)
  case stale =>
    intro p a s ha hx
    refine answers_of_nextMsg rfl ha fun inbox applied => ?_
    have number : leAt a.msg.content 0 4 ≠ ((withMail s inbox applied).time p).xseq := hx
    have kept (u : State) : (acknowledge u a.msg).times = u.times ∧ (acknowledge u a.msg).clock = u.clock :=
      ((keep_acknowledge u a.msg).same .time rfl).symm
    dsimp only
    split
    · exact kept (withMail s inbox applied)
    · rw [if_pos number]
      exact kept (withMail s inbox applied)

end Sys2Proof.Machine
end

section
/-!
PROOFS. How resets begin (R60 to R63, R65, R70, R73, R92): cold, half and warm, by request or by restart.
-/
namespace Sys2Proof.Machine

/-! ### A cold reset -/

/-- The half in a cold start that begins. -/
def coldBegun (s : State) (clearTrip : Bool) (h : Half) : HalfState :=
  { coldHalf (s.half h) clearTrip with seq := s.nvs.lastSeq + 1, began := s.clock.now, fullTest := getBit s Reg.devStartCtrl 0 }

/-- The registers that stand at the beginning of a cold start, and the records of the NVS, are all that is written after the reset. -/
theorem beginCold_eq (s : State) (clearTrip : Bool) : ∃ regs r, beginCold s clearTrip = ledgerWrite { State.reset with
    pending := s.pending, free := s.free, out := s.out
    clock := { State.reset.clock with now := s.clock.now }
    fuses := s.fuses, i3c := s.i3c, tap := s.tap, nvs := s.nvs.cold
    west := coldBegun s clearTrip .west, east := coldBegun s clearTrip .east, regs := regs } r := ⟨_, _, rfl⟩

theorem half_beginCold (s : State) (clearTrip : Bool) (h : Half) : (beginCold s clearTrip).half h = coldBegun s clearTrip h := by
  obtain ⟨regs, r, e⟩ := beginCold_eq s clearTrip
  rw [e, half_ledgerWrite]
  cases h <;> rfl

/-- Of the NVS a cold reset changes what `Nvs.cold` says, and the ledger. -/
theorem nvs_beginCold (s : State) (clearTrip : Bool) : (beginCold s clearTrip).nvs.lastSeq = s.nvs.lastSeq + 1 ∧
    (beginCold s clearTrip).nvs.wipePending = true ∧ (beginCold s clearTrip).nvs.lcPending = s.nvs.lcPending := by
  obtain ⟨regs, r, e⟩ := beginCold_eq s clearTrip
  obtain ⟨l, n, w, held, nvs⟩ := nvs_ledgerWrite { State.reset with
    pending := s.pending, free := s.free, out := s.out
    clock := { State.reset.clock with now := s.clock.now }
    fuses := s.fuses, i3c := s.i3c, tap := s.tap, nvs := s.nvs.cold
    west := coldBegun s clearTrip .west, east := coldBegun s clearTrip .east, regs := regs } r
  rw [e, nvs]
  exact ⟨rfl, rfl, rfl⟩

/-- A half with power and without a trip that stays starts cold, from step 1. -/
theorem coldBegun_starts {s : State} {clearTrip : Bool} {h : Half} (hp : (s.half h).phase ≠ .unpowered)
    (ht : (s.half h).trip = false ∨ clearTrip = true) : (coldBegun s clearTrip h).phase = .starting ∧ (coldBegun s clearTrip h).kind = .cold ∧
      (coldBegun s clearTrip h).step = 1 := by
  have cleared : ¬ ((s.half h).trip = true ∧ ¬ clearTrip = true) := fun ⟨trip, kept⟩ => by
    rcases ht with no | yes
    · exact absurd (trip.symm.trans no) (by decide)
    · exact kept yes
  refine ⟨?_, rfl, rfl⟩
  unfold coldBegun coldHalf
  dsimp only
  rw [if_neg hp, if_neg cleared]

/-- The record of an abandoned start changes nothing of the halves, and no start number. -/
theorem half_supersede (s : State) (h : Half) (k : ResetKind) (x : Half) : (supersede s h k).half x = s.half x :=
  half_of_keep (m := ledgerParts) (supersede_keep rfl rfl (Keep.refl s)) rfl x

theorem lastSeq_supersede (s : State) (h : Half) (k : ResetKind) : (supersede s h k).nvs.lastSeq = s.nvs.lastSeq := by
  unfold supersede
  split
  · exact lastSeq_ledgerWrite ..
  · rfl

/-- A cold reset that is requested with no cold start running begins one on each half that can start. -/
theorem requestCold_begins {s : State} (clearTrip : Bool) (hw : startingAs s .west .cold = false) (he : startingAs s .east .cold = false) :
    ∃ u : State, (∀ h, u.half h = s.half h) ∧ u.nvs.lastSeq = s.nvs.lastSeq ∧ requestCold s clearTrip = beginCold u clearTrip := by
  refine ⟨supersede (supersede s .west .cold) .east .cold, fun h => by rw [half_supersede, half_supersede],
    by rw [lastSeq_supersede, lastSeq_supersede], ?_⟩
  unfold requestCold
  rw [hw, he]
  rfl

theorem startingAs_of_phase {s : State} {h : Half} (hp : (s.half h).phase ≠ .starting) (k : ResetKind) : startingAs s h k = false :=
  decide_eq_false fun ⟨starting, _⟩ => hp starting

/-- Both halves start cold. -/
theorem requestCold_starts {s : State} {clearTrip : Bool} (hw : startingAs s .west .cold = false) (he : startingAs s .east .cold = false)
    (hp : ∀ h, (s.half h).phase ≠ .unpowered) (ht : ∀ h, (s.half h).trip = false ∨ clearTrip = true) :
    (∀ h, ((requestCold s clearTrip).half h).phase = .starting ∧ ((requestCold s clearTrip).half h).kind = .cold ∧
      ((requestCold s clearTrip).half h).step = 1) ∧ (requestCold s clearTrip).nvs.lastSeq = s.nvs.lastSeq + 1 := by
  obtain ⟨u, halves, seq, e⟩ := requestCold_begins clearTrip hw he
  rw [e]
  refine ⟨fun h => ?_, by rw [(nvs_beginCold u clearTrip).1, seq]⟩
  rw [half_beginCold]
  exact coldBegun_starts (by rw [halves]; exact hp h) (by rw [halves]; exact ht h)

/-! ### Half resets, warm resets, restarts -/

/-- No half and no start number differs. -/
def StartsKept (s t : State) : Prop := (∀ h, t.half h = s.half h) ∧ t.nvs.lastSeq = s.nvs.lastSeq

theorem StartsKept.trans {s t u : State} (a : StartsKept s t) (b : StartsKept t u) : StartsKept s u :=
  ⟨fun h => (b.1 h).trans (a.1 h), b.2.trans a.2⟩

theorem startsKept_of_keep {m : Part → Bool} {s t : State} (k : Keep m s t) (hh : m .halves = false) (hn : m .nvs = false) : StartsKept s t :=
  ⟨half_of_keep k hh, by rw [nvs_of_keep k hn]⟩

/-- What an operation changes at most that touches neither the halves nor the NVS. -/
def besideStarts (p : Part) : Bool := decide (p ∉ [Part.halves, .nvs])

theorem startsKept_abandonStep (s : State) : StartsKept s (abandonStep s) :=
  startsKept_of_keep (m := besideStarts) (abandonStep_keep rfl rfl rfl rfl rfl rfl rfl rfl rfl rfl rfl rfl (Keep.refl s)) rfl rfl

theorem startsKept_clearHalf (s : State) (h : Half) : StartsKept s (clearHalf s h) :=
  startsKept_of_keep (m := besideStarts) (clearHalf_keep rfl rfl rfl rfl rfl rfl rfl rfl rfl rfl rfl rfl (Keep.refl s)) rfl rfl

theorem startsKept_restDies (s : State) (h : Half) : StartsKept s (restDies s h) :=
  startsKept_of_keep (m := besideStarts) (restDies_keep rfl (Keep.refl s)) rfl rfl

theorem startsKept_loseDies (s : State) (h : Half) : StartsKept s (loseDies s h) :=
  startsKept_of_keep (m := besideStarts) (loseDies_keep rfl rfl rfl rfl rfl rfl rfl rfl rfl rfl rfl rfl rfl rfl rfl (Keep.refl s)) rfl rfl

theorem startsKept_endStop (s : State) : StartsKept s (endStop s) :=
  startsKept_of_keep (m := besideStarts) (endStop_keep rfl rfl rfl (Keep.refl s)) rfl rfl

theorem startsKept_mcWait (s : State) (h : Half) : StartsKept s (mcWait s h) :=
  startsKept_of_keep (m := besideStarts) (mcWait_keep rfl (Keep.refl s)) rfl rfl

theorem startsKept_wakeDies (s : State) (ds : List Nat) : StartsKept s (ds.foldl wakeDie s) :=
  startsKept_of_keep (m := besideStarts) (keep_foldl (fun _ _ k => wakeDie_keep rfl k) (Keep.refl s)) rfl rfl

theorem startsKept_passLease (s : State) (h : Half) : StartsKept s (passLease s h) := by
  refine ⟨half_of_keep (m := fun p => decide (p ≠ .halves)) (passLease_keep rfl rfl rfl rfl rfl (Keep.refl s)) rfl, ?_⟩
  unfold passLease
  split
  · obtain e | e := grantLease_eq (s := s) (h := h.other) <;> rw [e]
    · rw [nvs_grantShown]
    · rw [nvs_devEvent, nvs_grantShown]
  · rfl

theorem startsKept_ledgerWrite (s : State) (r : LedgerRec) : StartsKept s (ledgerWrite s r) := ⟨half_ledgerWrite s r, lastSeq_ledgerWrite s r⟩

theorem half_beginHalf (s : State) (h : Half) (kind : ResetKind) (seq step : Nat) : (beginHalf s h kind seq step).half h = { s.half h with
    phase := .starting, kind := kind, ordinal := (s.half h).ordinal + 1, seq := seq, step := step, done := 0
    began := s.clock.now, beganStamp := stamp s, fullTest := getBit s Reg.devStartCtrl 0
    nvsAlt := if kind = .warm then (s.half h).nvsAlt else false } := half_setHalf_same ..

@[simp] theorem half_beginHalf_other (s : State) (h : Half) (kind : ResetKind) (seq step : Nat) :
    (beginHalf s h kind seq step).half h.other = s.half h.other := half_setHalf_other ..

@[simp] theorem nvs_beginHalf (s : State) (h : Half) (kind : ResetKind) (seq step : Nat) : (beginHalf s h kind seq step).nvs = s.nvs :=
  setHalf_nvs ..

/-- The next start number is taken; the mark of a wipe is set where the T1 is lost. -/
def seqTaken (s : State) (wipe : Bool) : State := { s with nvs := { s.nvs with lastSeq := s.nvs.lastSeq + 1, wipePending := wipe } }

/-- The half is cleared and the step in progress abandoned. -/
def halfCleared (s : State) (h : Half) : State := clearHalf (abandonStep s) h

theorem startsKept_halfCleared (s : State) (h : Half) : StartsKept s (halfCleared s h) :=
  (startsKept_abandonStep s).trans (startsKept_clearHalf _ h)

/-- The dies of the half rest, or are lost. -/
def diesLeft (s : State) (h : Half) (kept : Bool) : State := if kept then restDies s h else loseDies s h

theorem startsKept_diesLeft (s : State) (h : Half) (kept : Bool) : StartsKept s (diesLeft s h kept) := by
  cases kept
  · exact startsKept_loseDies s h
  · exact startsKept_restDies s h

/-- What a half reset does before its record. -/
def halfResetPrepared (s : State) (h : Half) : State :=
  endStop (diesLeft (passLease (seqTaken (halfCleared s h) ((halfCleared s h).nvs.wipePending || !(s.half h).t1Kept)) h) h (s.half h).t1Kept)

theorem startsKept_halfResetPrepared (s : State) (h : Half) (wipe : Bool) (w : wipe = ((halfCleared s h).nvs.wipePending || !(s.half h).t1Kept)) :
    StartsKept (seqTaken (halfCleared s h) wipe) (halfResetPrepared s h) := by
  rw [w]
  exact (startsKept_passLease _ h).trans ((startsKept_diesLeft _ h _).trans (startsKept_endStop _))

theorem beginHalfReset_eq (s : State) (h : Half) : ∃ r, beginHalfReset s h =
    ownReference (beginHalf (ledgerWrite (halfResetPrepared s h) r) h .half ((halfCleared s h).nvs.lastSeq + 1) 1) h := ⟨_, rfl⟩

/-- A half reset clears the half, takes the next start number and begins. -/
theorem beginHalfReset_begins (s : State) (h : Half) : ∃ u : State, (∀ x, u.half x = s.half x) ∧ u.nvs.lastSeq = s.nvs.lastSeq + 1 ∧
    beginHalfReset s h = ownReference (beginHalf u h .half (s.nvs.lastSeq + 1) 1) h := by
  obtain ⟨r, begun⟩ := beginHalfReset_eq s h
  obtain ⟨cleared, same⟩ := startsKept_halfCleared s h
  obtain ⟨halves, seq⟩ := (startsKept_halfResetPrepared s h _ rfl).trans (startsKept_ledgerWrite _ r)
  rw [same] at begun
  exact ⟨_, fun x => (halves x).trans (cleared x), seq.trans (congrArg (· + 1) same), begun⟩

/-- A half in service goes on with a warm start. -/
def warmHalf (s : State) (h : Half) (seq : Nat) : State := if (s.half h).phase = .ready then beginHalf s h .warm seq 4 else s

/-- What a warm reset does before its record: the dies are awake and both controllers wait. -/
def warmPrepared (s : State) : State :=
  (List.range 8).foldl wakeDie (mcWait (mcWait (endStop s) .west) .east)

theorem startsKept_warmPrepared (s : State) : StartsKept s (warmPrepared s) :=
  (((startsKept_endStop s).trans (startsKept_mcWait _ .west)).trans (startsKept_mcWait _ .east)).trans (startsKept_wakeDies _ _)

/-- The next start number is taken, the registers of the compute dies are reset and the lease is contested. -/
def warmTaken (s : State) : State := { s with
  regs := Map.clearWhere computeOwns s.regs
  gatedWrites := []
  nvs := { s.nvs with lastSeq := s.nvs.lastSeq + 1, lease := s.nvs.lease.contest } }

theorem beginWarm_eq (s : State) : ∃ r, beginWarm s =
    warmHalf (warmHalf (ledgerWrite (warmPrepared (warmTaken (abandonStep s))) r) .west ((abandonStep s).nvs.lastSeq + 1)) .east
      ((abandonStep s).nvs.lastSeq + 1) := ⟨_, rfl⟩

theorem beginWarm_begins (s : State) : ∃ u : State, (∀ x, u.half x = s.half x) ∧ u.nvs.lastSeq = s.nvs.lastSeq + 1 ∧
    beginWarm s = warmHalf (warmHalf u .west (s.nvs.lastSeq + 1)) .east (s.nvs.lastSeq + 1) := by
  obtain ⟨r, begun⟩ := beginWarm_eq s
  obtain ⟨abandoned, same⟩ := startsKept_abandonStep s
  obtain ⟨halves, seq⟩ := (startsKept_warmPrepared (warmTaken (abandonStep s))).trans (startsKept_ledgerWrite _ r)
  rw [same] at begun
  exact ⟨_, fun x => (halves x).trans (abandoned x), seq.trans (congrArg (· + 1) same), begun⟩

theorem restartHalf_eq (s : State) (h : Half) : ∃ r k, restartHalf s h =
    beginHalf (ledgerWrite (seqTaken s s.nvs.wipePending) r) h k (s.nvs.lastSeq + 1) 1 := ⟨_, _, rfl⟩

/-- A half that restarts takes the next start number and begins from step 1. -/
theorem restartHalf_begins (s : State) (h : Half) : ∃ (u : State) (k : ResetKind), (∀ x, u.half x = s.half x) ∧
    u.nvs.lastSeq = s.nvs.lastSeq + 1 ∧ restartHalf s h = beginHalf u h k (s.nvs.lastSeq + 1) 1 := by
  obtain ⟨r, k, begun⟩ := restartHalf_eq s h
  obtain ⟨halves, seq⟩ := startsKept_ledgerWrite (seqTaken s s.nvs.wipePending) r
  exact ⟨_, k, halves, seq, begun⟩

/-- The half that restarts keeps count of its failing starts and its restarts. -/
theorem restartHalf_starts (s : State) (h : Half) : ((restartHalf s h).half h).phase = .starting ∧ ((restartHalf s h).half h).step = 1 ∧
    ((restartHalf s h).half h).restarts = (s.half h).restarts ∧ ((restartHalf s h).half h).failing = (s.half h).failing ∧
    ((restartHalf s h).half h).ordinal = (s.half h).ordinal + 1 ∧ (restartHalf s h).nvs.lastSeq = s.nvs.lastSeq + 1 := by
  obtain ⟨u, k, halves, seq, begun⟩ := restartHalf_begins s h
  rw [begun, half_beginHalf, nvs_beginHalf, halves, seq]
  exact ⟨rfl, rfl, rfl, rfl, rfl, rfl⟩

theorem half_restartHalf_other (s : State) (h : Half) : (restartHalf s h).half h.other = s.half h.other := by
  obtain ⟨u, k, halves, -, begun⟩ := restartHalf_begins s h
  rw [begun, half_beginHalf_other, halves]

/-- A half that waits counts the restart. -/
def restartCounted (s : State) (h : Half) : State := s.setHalf h { s.half h with restarts := min 3 ((s.half h).restarts + 1) }

theorem execAutoRestart_waiting {s : State} {h : Half} (hp : (s.half h).phase = .waiting) :
    exec (.autoRestart h) s = .next (restartHalf (restartCounted s h) h) := by
  change execAutoRestart h s = _
  unfold execAutoRestart
  rw [if_pos hp]
  rfl

/-- A half that is halted counts its failing starts anew. -/
def countsCleared (s : State) (h : Half) : State := s.setHalf h { s.half h with failing := 0, restarts := 0 }

theorem resumeHalf_halted {s : State} {h : Half} (hp : (s.half h).phase = .halted) :
    resumeHalf s h = restartHalf (countsCleared s h) h := if_pos hp

theorem resumeHalf_other {s : State} {h : Half} (hp : (s.half h).phase ≠ .halted) : resumeHalf s h = s := if_neg hp

theorem half_resumed_other (s : State) (h : Half) : (restartHalf (countsCleared s h) h).half h.other = s.half h.other := by
  rw [half_restartHalf_other, countsCleared, half_setHalf_other]

/-- RESUME with one half halted leaves the other. -/
theorem resumeHalf_west {s : State} (west : (s.half .west).phase = .halted) (east : (s.half .east).phase ≠ .halted) :
    resumeHalf (resumeHalf s .west) .east = restartHalf (countsCleared s .west) .west := by
  rw [resumeHalf_halted west]
  exact resumeHalf_other fun halted => east ((congrArg HalfState.phase (half_resumed_other s .west)).symm.trans halted)

theorem startCtrl_resume {s : State} {v : Word} (hv : startCtrlOk v = true) (hr : bit v 2 = true) :
    startCtrl s v = resumeHalf (resumeHalf (setReg s Reg.devStartCtrl (v &&& word 0xFFFF03)) .west) .east := by
  unfold startCtrl
  dsimp only
  rw [hv, if_neg (by decide), if_pos hr]

/-! ### The obligation -/

/-- A write of DEV_RESET_CTRL that names the KIND of its row is acted on. -/
theorem resetRow_served {w : RegWrite} {kind : Nat} {s : State} (hw : isReg w .dev0 0x240 = true) (hq : (servedAt s w).isSome = true)
    (hk : fld w.val 0 2 = kind) : resetRow w kind s = .next (resetCtrl s w.val) := by
  obtain ⟨⟨p, off, key, row⟩, served⟩ := Option.isSome_iff_exists.mp hq
  have wf : (isReg w .dev0 0x240 && decide (fld w.val 0 2 = kind ∨ fld w.val 0 2 = 0)) = true := by
    rw [hw, decide_eq_true (.inl hk)]
    rfl
  rw [resetRow, guarded_next wf, serveWrite_served served]

theorem execColdReset_starts {w : RegWrite} {s : State} (hw : isReg w .dev0 0x240 = true) (hq : (servedAt s w).isSome = true)
    (key : fld w.val 16 16 = 0x5A25) (kind : fld w.val 0 2 = 3) : exec (.coldReset w) s = .next (requestCold s false) := by
  change resetRow w 3 s = _
  rw [resetRow_served hw hq kind, resetCtrl, if_neg (not_not_intro key), if_pos kind]

theorem execHalfReset_starts {w : RegWrite} {s : State} (hw : isReg w .dev0 0x240 = true) (hq : (servedAt s w).isSome = true)
    (key : fld w.val 16 16 = 0x5A25) (kind : fld w.val 0 2 = 2) :
    exec (.halfReset w) s = .next (requestHalf s (if bit w.val 2 then .east else .west)) := by
  change resetRow w 2 s = _
  rw [resetRow_served hw hq kind, resetCtrl, if_neg (not_not_intro key), kind, if_neg (by decide), if_pos rfl]

theorem execWarmReset_starts {w : RegWrite} {s : State} (hw : isReg w .dev0 0x240 = true) (hq : (servedAt s w).isSome = true)
    (key : fld w.val 16 16 = 0x5A25) (kind : fld w.val 0 2 = 1) : exec (.warmReset w) s = .next (requestWarm s) := by
  change resetRow w 1 s = _
  rw [resetRow_served hw hq kind, resetCtrl, if_neg (not_not_intro key), kind, if_neg (by decide), if_neg (by decide), if_pos rfl]

/-- A half that is not starting begins a half reset when one is asked for. -/
theorem requestHalf_begins {s : State} {h : Half} (hp : (s.half h).phase ≠ .starting) : ((requestHalf s h).half h).phase = .starting ∧
    ((requestHalf s h).half h).kind = .half ∧ ((requestHalf s h).half h).step = 1 ∧ (requestHalf s h).nvs.lastSeq = s.nvs.lastSeq + 1 := by
  obtain ⟨u, -, seq, begun⟩ := beginHalfReset_begins (supersede s h .half) h
  rw [requestHalf, startingAs_of_phase hp, startingAs_of_phase hp, if_neg Bool.false_ne_true, if_neg Bool.false_ne_true, begun, ownReference,
    half_putBit, half_beginHalf, putBit_nvs, nvs_beginHalf, seq, lastSeq_supersede]
  exact ⟨rfl, rfl, rfl, rfl⟩

theorem warmHalf_ready {s : State} {h : Half} (hp : (s.half h).phase = .ready) (seq : Nat) :
    warmHalf s h seq = beginHalf s h .warm seq 4 := if_pos hp

/-- Both halves in service start warm, from step 4. -/
theorem beginWarm_starts {s : State} (hp : ∀ h, (s.half h).phase = .ready) : (∀ h, ((beginWarm s).half h).phase = .starting ∧
    ((beginWarm s).half h).kind = .warm ∧ ((beginWarm s).half h).step = 4) ∧ (beginWarm s).nvs.lastSeq = s.nvs.lastSeq + 1 := by
  obtain ⟨u, halves, seq, begun⟩ := beginWarm_begins s
  have east : ((beginHalf u .west .warm (s.nvs.lastSeq + 1) 4).half .east).phase = .ready := by
    rw [show Half.east = Half.west.other from rfl, half_beginHalf_other, halves]
    exact hp _
  rw [begun, warmHalf_ready ((congrArg HalfState.phase (halves _)).trans (hp _)), warmHalf_ready east]
  refine ⟨fun h => ?_, by rw [nvs_beginHalf, nvs_beginHalf, seq]⟩
  cases h
  · exact ⟨rfl, rfl, rfl⟩
  · exact ⟨rfl, rfl, rfl⟩

/-- Settles O6: a served request of each KIND and each restart reduces to the beginning of a start, of which the lemmas above say the halves
and the number. -/
theorem resetsComplete : Obligations.ResetsComplete := by
  unfold Obligations.ResetsComplete
  refine ⟨?cold, ?half, ?warm, ?restart, ?resume⟩
  case cold =>
    intro w s hw hq key kind noWest noEast west east wt et
    obtain ⟨starts, seq⟩ := requestCold_starts (clearTrip := false) noWest noEast
      (fun h => by cases h <;> simp [State.half, west, east]) (fun h => .inl (by cases h <;> assumption))
    obtain ⟨wp, wk, ws⟩ := starts .west
    obtain ⟨ep, ek, es⟩ := starts .east
    exact ⟨_, execColdReset_starts hw hq key kind, wp, ep, wk, ek, ws, es, seq⟩
  case half =>
    intro w s hw hq key kind east ready
    have begun := requestHalf_begins (s := s) (h := .east) (by rw [State.half, ready]; decide)
    refine ⟨_, execHalfReset_starts hw hq key kind, ?_⟩
    rw [if_pos east]
    exact begun
  case warm =>
    intro w s hw hq key kind west east unmarked
    obtain ⟨starts, seq⟩ := beginWarm_starts (s := s) (fun h => by cases h <;> assumption)
    have runs : requestWarm s = beginWarm s := by
      rw [requestWarm, west, east, unmarked, if_neg (by decide), if_neg (by decide), if_neg (by decide)]
    obtain ⟨wp, wk, ws⟩ := starts .west
    obtain ⟨ep, ek, es⟩ := starts .east
    refine ⟨_, execWarmReset_starts hw hq key kind, ?_⟩
    dsimp only
    rw [runs]
    generalize beginWarm s = t at *
    exact ⟨wp, ep, wk, ek, ws, es, seq⟩
  case restart =>
    intro h s waiting
    obtain ⟨phase, step, restarts, -, ordinal, seq⟩ := restartHalf_starts (restartCounted s h) h
    rw [restartCounted, half_setHalf_same] at restarts ordinal
    rw [restartCounted, setHalf_nvs] at seq
    exact ⟨_, execAutoRestart_waiting waiting, phase, step, restarts, ordinal, seq⟩
  case resume =>
    intro w s hw hq inRange resume west east
    obtain ⟨q, served⟩ := Option.isSome_iff_exists.mp hq
    have runs : exec (.resumeHalted w) s = .next (startCtrl s w.val) := by
      change execResumeHalted w s = _
      rw [execResumeHalted, guarded_next hw, serveWrite_served served]
    have westOnly := startCtrl_resume (s := s) inRange resume
    generalize opened : setReg s Reg.devStartCtrl (w.val &&& word 0xFFFF03) = u at westOnly
    have halves (h : Half) : u.half h = s.half h := by rw [← opened, half_setReg]
    obtain ⟨phase, step, -, failing, -, -⟩ := restartHalf_starts (countsCleared u .west) .west
    have other := (half_resumed_other u .west).trans (halves _)
    rw [countsCleared, half_setHalf_same, ← countsCleared] at failing
    rw [resumeHalf_west (by rw [halves]; exact west) (by rw [halves]; exact east)] at westOnly
    refine ⟨_, runs, ?_⟩
    dsimp only
    rw [westOnly]
    exact ⟨phase, step, failing, other⟩

end Sys2Proof.Machine
end

section
/-!
PROOFS. A summary that is sent again as the counter of the flits wraps and the event queue is nearly full (R406, R499, R522, R526).
-/
namespace Sys2Proof.Machine

/-- Port 0 verifies its link; FAB_FLITS_TX is at its last value and the event queue has coalescing slots left only. -/
def countersFull : State := { State.reset with
  ports := [(0, { Port.fresh 0 with phase := .verifying })]
  cnt := [(Reg.fabFlitsTx 0, word (2 ^ 48 - 1))]
  events := { State.reset.events with queue := List.replicate 500 ⟨0, 0, 0, false, false, 0, 0, 0, 0, 0, 0, 0⟩ } }

/-- The flit of the summary wraps its counter; the event of the overflow finds the queue nearly full, which is a cause of the NVS block. -/
theorem blkIntRaw_of_countersFull : (match exec (.summaryResend 0) countersFull with
    | .next t => getReg t (blkIntRaw Reg.nvsBlk)
    | _ => 0) = bitW 19 := by decide +kernel

/-- Refutes O8, at its last clause, which says that a summary sent again leaves every register as it was. In `countersFull` it raises a
cause in BLK_INT_RAW of the NVS block, which was 0. -/
theorem not_portStartComplete : ¬ Obligations.PortStartComplete := by
  unfold Obligations.PortStartComplete
  rintro ⟨-, -, -, -, resent⟩
  obtain ⟨t, runs, -, regs, -⟩ := resent 0 countersFull (by decide) (by decide)
  have raised : getReg t (blkIntRaw Reg.nvsBlk) = bitW 19 := by
    have evaluated := blkIntRaw_of_countersFull
    rw [runs] at evaluated
    exact evaluated
  have kept : getReg t (blkIntRaw Reg.nvsBlk) = getReg countersFull (blkIntRaw Reg.nvsBlk) := by rw [getReg, getReg, regs]
  exact absurd (raised.symm.trans kept) (by decide)

end Sys2Proof.Machine
end

section
/-!
PROOFS. The mailbox (R431, R436): a request that begins and one that completes, over the registers and the rest of the state.
-/
namespace Sys2Proof.Machine

/-- The mailbox with a request in progress. -/
def mboxBusy (s : State) (v : Word) : State := putBit (setReg s Reg.devMboxCtrl (v &&& word 0xFF00)) Reg.devMboxStatus 0 true

theorem mboxGo_begins {s : State} (idle : getBit s Reg.devMboxStatus 0 = false) (v : Word) (act : State → State) :
    mboxGo s v act = act (mboxBusy s v) := if_neg (Bool.eq_false_iff.mp idle)

/-- What a change of registers alone can change. -/
def regsAlone (p : Part) : Bool := decide (p = .regs)

theorem keep_mboxBusy (s : State) (v : Word) : Keep regsAlone s (mboxBusy s v) := putBit_keep rfl (setReg_keep rfl (Keep.refl s))

theorem getReg_mboxBusy_other (s : State) (v : Word) {a : Nat} (h : a ≠ Reg.devMboxCtrl) (h' : a ≠ Reg.devMboxStatus) :
    getReg (mboxBusy s v) a = getReg s a := by
  rw [mboxBusy, getReg_putBit_other _ _ _ _ _ h', getReg_setReg_other _ _ _ _ h]

theorem getBit_mboxBusy (s : State) (v : Word) : getBit (mboxBusy s v) Reg.devMboxStatus 0 = true := getBit_putBit_same _ _ _ _ (by decide)

/-- The data of a request are not among the registers that its GO writes. -/
theorem mboxData_mboxBusy (s : State) (v : Word) : mboxData (mboxBusy s v) = mboxData s := by
  unfold mboxData
  refine List.flatMap_congr fun i hi => ?_
  have inRange := List.mem_range.mp hi
  rw [getReg_mboxBusy_other s v (by unfold Reg.devMboxData Reg.devMboxCtrl; omega) (by unfold Reg.devMboxData Reg.devMboxStatus; omega)]

theorem keep_mboxDone (s : State) (code : Nat) : Keep causeParts s (mboxDone s code) := mboxDone_keep rfl rfl rfl (Keep.refl s)

theorem getReg_mboxDone_other (s : State) (code : Nat) {a : Nat} (h : a ≠ Reg.devMboxStatus) (b : a ≠ blkIntRaw Reg.devBlk) :
    getReg (mboxDone s code) a = getReg s a := by
  unfold mboxDone
  dsimp only
  rw [getReg_setCause_other _ _ _ _ b, getReg_putFld_other _ _ _ _ _ _ h, getReg_putFld_other _ _ _ _ _ _ h, getReg_putBit_other _ _ _ _ _ h]

/-- A completed request is no longer in progress and shows its code. -/
theorem mboxStatus_mboxDone (s : State) (code : Nat) : getBit (mboxDone s code) Reg.devMboxStatus 0 = false ∧
    getFld (mboxDone s code) Reg.devMboxStatus 16 16 = code % 2 ^ 16 := by
  have apart : Reg.devMboxStatus ≠ blkIntRaw Reg.devBlk := by decide
  unfold mboxDone
  dsimp only
  constructor
  · rw [getBit, getReg_setCause_other _ _ _ _ apart, ← getBit, getBit_putFld_disjoint _ _ _ _ _ _ (by decide),
      getBit_putFld_disjoint _ _ _ _ _ _ (by decide), getBit_putBit_same _ _ _ _ (by decide)]
  · rw [getFld, getReg_setCause_other _ _ _ _ apart, ← getFld, getFld_putFld_disjoint _ _ _ _ _ _ _ (by decide),
      getFld_putFld_same _ _ _ _ _ (by decide)]

/-- A mailbox row whose write is served and finds the mailbox idle does its request. -/
theorem mboxServed {w : RegWrite} {q : Site} {s : State} {op : Nat} (hw : isMbox w op = true) (hq : servedAt s w = some q)
    (idle : getBit s Reg.devMboxStatus 0 = false) (act : State → State) :
    guarded (isMbox w op) (serveWrite s w fun s _ _ _ _ => mboxGo s w.val act) = .next (act (mboxBusy s w.val)) := by
  rw [guarded_next hw, serveWrite_served hq, mboxGo_begins idle]

end Sys2Proof.Machine
end

section
/-!
PROOFS. The end of a start (R66 to R72, R81): the wipe of step 11, step 12 and the change of the life cycle.
-/
namespace Sys2Proof.Machine

/-! ### The wipe of the memories -/

/-- T1 without a listed byte and without a listed poison mark. -/
def Blank (s : State) : Prop := s.t1 = [] ∧ s.poison = []

theorem memory_wipeT1 (s : State) (h : Half) :
    (wipeT1 s h).t1 = Map.clearWhere (fun a => decide (dieHalf (daDie a) = h)) s.t1 ∧
      (wipeT1 s h).poison = Map.clearWhere (fun k => decide (dieHalf (daDie (64 * k)) = h)) s.poison := by
  unfold wipeT1
  dsimp only
  obtain ⟨t1, poison, -, -⟩ := (keep_foldl (m := fun p => decide (p = .dies)) (l := List.range 4)
    (f := fun s i => s.setDie (4 * h.idx + i) { s.die (4 * h.idx + i) with lost := false })
    (fun _ _ k => State_setDie_keep rfl k) (Keep.refl _)).same .memory rfl
  exact ⟨t1, poison⟩

/-- A half that starts cold wipes its memory dies. -/
theorem memory_wipeHalf {s : State} {h : Half} (cold : (s.half h).kind = .cold) :
    (wipeHalf [] s h).t1 = Map.clearWhere (fun a => decide (dieHalf (daDie a) = h)) s.t1 ∧
      (wipeHalf [] s h).poison = Map.clearWhere (fun k => decide (dieHalf (daDie (64 * k)) = h)) s.poison := by
  have wipes : wipesT1 s h = true := by rw [wipesT1, cold]
  have runs : wipeHalf [] s h = wipeT1 (wipeSram s h) h := by
    unfold wipeHalf
    dsimp only
    rw [wipes, Bool.not_true, if_neg Bool.false_ne_true, List.filter_nil, List.foldl_nil]
  rw [runs]
  exact memory_wipeT1 _ _

/-- What is cleared for both halves is empty: every die is of one of them. -/
theorem clearWhere_both {α : Type} (f : Nat → Half) (m : Map α) :
    Map.clearWhere (fun a => decide (f a = .east)) (Map.clearWhere (fun a => decide (f a = .west)) m) = [] := by
  unfold Map.clearWhere
  rw [List.filter_filter, List.filter_eq_nil_iff]
  intro e _
  cases half : f e.1 <;> simp [half]

theorem half_wipeHalf (errs : List (Nat × Nat)) (s : State) (h x : Half) : (wipeHalf errs s h).half x = s.half x :=
  half_of_keep (m := fun p => decide (p ≠ .halves)) (wipeHalf_keep rfl rfl rfl rfl rfl rfl rfl (Keep.refl s)) rfl x

theorem blank_wipeHalves {s : State} (west : s.west.kind = .cold) (east : s.east.kind = .cold) :
    Blank (wipeHalf [] (wipeHalf [] s .west) .east) := by
  obtain ⟨t1w, pw⟩ := memory_wipeHalf (s := s) (h := .west) west
  obtain ⟨t1e, pe⟩ := memory_wipeHalf (s := wipeHalf [] s .west) (h := .east) (by rw [half_wipeHalf]; exact east)
  exact ⟨by rw [t1e, t1w, clearWhere_both], by rw [pe, pw, clearWhere_both]⟩

/-! ### The marks that the wipe clears -/

theorem wipePending_lcComplete (s : State) (t : Nat) : (lcComplete s t).nvs.wipePending = s.nvs.wipePending := by
  have drawn : (drawFree s).2.nvs = s.nvs :=
    nvs_of_keep (m := fun p => decide (p ≠ .nvs)) (drawFree_keep rfl (Keep.refl s)).of rfl
  have shown (u : State) (c : Colophon) : (showColophon u c).nvs = u.nvs := nvs_of_keep (m := regsAlone) (showColophon_keep rfl (Keep.refl u)) rfl
  unfold lcComplete
  dsimp only
  rw [nvs_devEvent, putFld_nvs, putFld_nvs, putBit_nvs, shown]
  change (drawFree s).2.nvs.wipePending = _
  exact congrArg Nvs.wipePending drawn

theorem wipePending_wipeMarks {s : State} {done : List Half} (none : wipeLeft s done = false) (device : Bool) :
    (wipeMarks s done device).nvs.wipePending = false := by
  unfold wipeMarks
  dsimp only
  rw [none, if_neg Bool.false_ne_true]
  split
  · split
    · rw [wipePending_lcComplete, putBit_nvs]
    · rw [putBit_nvs]
  · rw [putBit_nvs]

/-- No half is left to wipe when both are done. -/
theorem wipeLeft_both (s : State) : wipeLeft s [.west, .east] = false := by simp [wipeLeft]

/-! ### Step 11 ends -/

/-- Neither half waits for the other: both are in step 11. -/
theorem wipeHalves_both {s : State} (west : inStep s .west 11 = true) (east : inStep s .east 11 = true) :
    wipeHalves s = [.west, .east] := by
  have at11 (h : Half) : inStep s h 11 = true := by cases h <;> assumption
  have taken (h : Half) : (inStep s h 11 && !(decide ((s.half h.other).phase = .starting ∧ (s.half h.other).seq = (s.half h).seq ∧
      (s.half h.other).step < 11))) = true := by
    obtain ⟨-, step⟩ := of_decide_eq_true (at11 h.other)
    rw [at11 h, step]
    simp
  unfold wipeHalves
  rw [List.filter_eq_self]
  exact fun h _ => taken h

/-- What the wipe of both halves leaves before its records. -/
def wipedBoth (s : State) : State := wipeMarks (wipeDevice (wipeHalf [] (wipeHalf [] s .west) .east)) [.west, .east] true

theorem half_wipedBoth (s : State) (h : Half) : (wipedBoth s).half h = s.half h := by
  have marked (u : State) : (wipeMarks u [.west, .east] true).half h = u.half h :=
    half_of_keep (m := fun p => decide (p ≠ .halves)) (wipeMarks_keep rfl rfl rfl rfl rfl rfl rfl (Keep.refl u)) rfl h
  have emptied (u : State) : (wipeDevice u).half h = u.half h := by cases h <;> rfl
  rw [wipedBoth, marked, emptied, half_wipeHalf, half_wipeHalf]

/-- The parts of the state that the wipe empties. -/
def Emptied (s : State) : Prop := s.tensors = [] ∧ s.bias = [] ∧ s.t1 = [] ∧ s.poison = [] ∧ s.nvs.wipePending = false

theorem emptied_wipedBoth {s : State} (west : s.west.kind = .cold) (east : s.east.kind = .cold) : Emptied (wipedBoth s) := by
  obtain ⟨t1, poison⟩ := blank_wipeHalves west east
  have marked := wipeMarks_keep (m := fun p => decide (p ∉ [Part.memory, .tensors])) (a1 := [.west, .east]) (a2 := true)
    rfl rfl rfl rfl rfl rfl rfl (Keep.refl (wipeDevice (wipeHalf [] (wipeHalf [] s .west) .east)))
  obtain ⟨t1', poison', -, bias'⟩ := marked.same .memory rfl
  have tensors' : (wipedBoth s).tensors = _ := marked.same .tensors rfl
  exact ⟨tensors', bias', t1'.trans t1, poison'.trans poison, wipePending_wipeMarks (wipeLeft_both _) true⟩

theorem execWipe_both {s : State} (west : inStep s .west 11 = true) (east : inStep s .east 11 = true) (cold : s.west.kind = .cold) :
    exec (.wipe []) s = .next (endWipe (wipedBoth s) [.west, .east]) := by
  change execWipe [] s = _
  unfold execWipe
  rw [guarded_next (List.all_nil ..), wipeHalves_both west east]
  dsimp only
  rw [decide_eq_true (show (s.half .west).kind = .cold from cold)]
  rfl

/-- One start of both halves leaves step 11 with both. -/
theorem endWipe_both {s : State} (west : s.west.step = 11) (east : s.east.step = 11) (wk : s.west.kind = .cold) (ek : s.east.kind = .cold)
    (seq : s.west.seq = s.east.seq) : ∃ r x y, x.step = 12 ∧ y.step = 12 ∧
      endWipe s [.west, .east] = ((ledgerWrite s r).setHalf .west x).setHalf .east y := by
  obtain ⟨r, x, ⟨_, _, _, _, gone⟩, ended⟩ := endStep_passed (s := s) (h := .west) (n := 12) 0 (outcome := 0) 0 0 (by
    rw [State.half, west]; exact .inr (by decide)) (by decide) (by rw [State.half, west, wk]; rfl) (by decide) (.inr (.inl (by decide)))
  have other : ((ledgerWrite s r).setHalf .west x).half .east = s.half .east := by
    rw [show Half.east = Half.west.other from rfl, half_setHalf_other, half_ledgerWrite]
  have runs : endWipe s [.west, .east] = doneInstance (endStep s .west 0 0 0 0 0) .east 0 := if_pos seq
  rw [runs, ended, doneInstance_single (n := 12) (by rw [other, State.half, east]; exact .inr (by decide))
    (by rw [other, State.half, east, ek]; rfl) (by decide) (.inr (.inl (by decide))), enterStep, setHalf_setHalf]
  exact ⟨r, x, _, by rw [gone], rfl, rfl⟩

/-! ### Step 12 -/

/-- A half in step 12 enters service; another stays as it is. -/
def inService (s : State) (h : Half) : HalfState :=
  if inStep s h 12 then { noteStep (s.half h) 0 0 0 with phase := .ready, failing := 0, restarts := 0, t1Kept := true } else s.half h

theorem half_readyHalf (s : State) (h : Half) : (readyHalf s h).half h = inService s h := by
  unfold readyHalf inService
  dsimp only
  cases inStep s h 12
  · rfl
  · rw [Bool.not_true, if_neg Bool.false_ne_true, if_pos rfl]
    split
    · cases h <;> rfl
    · exact half_setHalf_same ..

theorem half_readyHalf_other (s : State) (h : Half) : (readyHalf s h).half h.other = s.half h.other := by
  unfold readyHalf
  dsimp only
  split
  · rfl
  · split
    · cases h <;> rfl
    · exact half_setHalf_other ..

/-- What step 12 writes after the halves have entered service. -/
def readyShown (s : State) (h : Half) (cold : Bool) : State :=
  { pairAtStart (putBit (rewriteColophon s h) Reg.devStartCtrl 0 false) cold with hubLink := true }

theorem readyNow_eq (s : State) : ∃ (h : Half) (cold : Bool) (ns : List Nat), readyNow s =
    ns.foldl writeResidents (refreshTwin (readyShown (readyHalf (readyHalf (readyRecords s) .west) .east) h cold)) := ⟨_, _, _, rfl⟩

/-- A fold keeps what each of its steps keeps. -/
theorem foldl_same {α β γ : Type} (g : α → γ) {f : α → β → α} (hf : ∀ a b, g (f a b) = g a) (l : List β) (a : α) : g (l.foldl f a) = g a :=
  List.foldlRecOn (motive := fun x => g x = g a) l f rfl fun x same b _ => (hf x b).trans same

theorem getReg_writeResidents_dev (s : State) (n : Nat) {a : Nat} (ha : a < 0x1000) : getReg (writeResidents s n) a = getReg s a :=
  foldl_same (getReg · a) (fun s l => getReg_writeResident_other s n l a fun c => by unfold Reg.coreT0Resident; omega) _ _

/-- FULL_TEST is not among what the residents and the twin's registers write. -/
theorem devStartCtrl_readyShown (s : State) (h : Half) (cold : Bool) (ns : List Nat) :
    getBit (ns.foldl writeResidents (refreshTwin (readyShown s h cold))) Reg.devStartCtrl 0 = false := by
  have paired : getReg (readyShown s h cold) Reg.devStartCtrl = getReg (putBit (rewriteColophon s h) Reg.devStartCtrl 0 false) Reg.devStartCtrl := by
    cases cold
    · rfl
    · exact getReg_putFld_other _ _ _ _ _ _ (by decide)
  rw [getBit, foldl_same (getReg · Reg.devStartCtrl) fun s n => getReg_writeResidents_dev s n (by decide)]
  rw [getReg_refreshTwin (by decide), paired, ← getBit, getBit_putBit_same _ _ _ _ (by decide)]

/-- The halves are not among what is written after they have entered service; the link of the halves is. -/
theorem readyShown_stays (s : State) (h : Half) (cold : Bool) (ns : List Nat) :
    (∀ x, (ns.foldl writeResidents (refreshTwin (readyShown s h cold))).half x = s.half x) ∧
      (ns.foldl writeResidents (refreshTwin (readyShown s h cold))).hubLink = true := by
  have later : Keep (fun p => decide (p ∈ [Part.memory, .twins, .regs])) (readyShown s h cold)
      (ns.foldl writeResidents (refreshTwin (readyShown s h cold))) :=
    keep_foldl (fun _ _ k => writeResidents_keep rfl rfl k) (refreshTwin_keep rfl rfl (Keep.refl _))
  have shown : Keep (fun p => decide (p ∈ [Part.nvs, .regs])) s (pairAtStart (putBit (rewriteColophon s h) Reg.devStartCtrl 0 false) cold) :=
    pairAtStart_keep rfl (putBit_keep rfl (rewriteColophon_keep rfl rfl (Keep.refl s)))
  refine ⟨fun x => ?_, (later.same .hubs rfl).2.2⟩
  rw [half_of_keep later rfl, readyShown, ← half_of_keep shown rfl]
  cases x <;> rfl

/-- After step 12 each half that was in it is in service, and no other half differs. -/
theorem readyNow_leaves (s : State) : (∀ x, (readyNow s).half x = inService s x) ∧ (readyNow s).hubLink = true ∧
    getBit (readyNow s) Reg.devStartCtrl 0 = false := by
  obtain ⟨h, cold, ns, runs⟩ := readyNow_eq s
  have recorded (x : Half) : (readyRecords s).half x = s.half x :=
    half_of_keep (m := ledgerParts) (readyRecords_keep rfl rfl (Keep.refl s)) rfl x
  have served (u v : State) (x : Half) (e : u.half x = v.half x) : inService u x = inService v x := by
    rw [inService, inStep, e, inService, inStep]
  obtain ⟨halves, link⟩ := readyShown_stays (readyHalf (readyHalf (readyRecords s) .west) .east) h cold ns
  rw [runs]
  refine ⟨fun x => (halves x).trans ?_, link, devStartCtrl_readyShown _ h cold ns⟩
  cases x with
  | west =>
    refine (half_readyHalf_other _ .east).trans ?_
    exact (half_readyHalf ..).trans (served _ _ _ (recorded _))
  | east =>
    refine (half_readyHalf _ .east).trans (served _ _ _ ?_)
    exact (half_readyHalf_other _ .west).trans (recorded _)

theorem inService_at12 {s : State} {h : Half} (hs : inStep s h 12 = true) : (inService s h).phase = .ready ∧ (inService s h).failing = 0 := by
  rw [inService, if_pos hs]
  exact ⟨rfl, rfl⟩

theorem execReady_due {s : State} (due : readyDue s = true) : exec .ready s = .next (readyNow s) := by
  change Host.Outcome.next (if readyDue s = true then readyNow s else s) = _
  rw [if_pos due]

/-! ### The change of the life cycle -/

/-- The lock of the change and its target, which DEV_LIFECYCLE shows while the change waits. -/
def lcShown (s : State) (target : Nat) : State := putFld (putBit s Reg.devLifecycle 3 true) Reg.devLifecycle 8 2 target

/-- A request that passes its checks waits for the boundary. -/
theorem lcRequest_accepted {s : State} {target : Nat} (free : getBit s Reg.devLifecycle 3 = false)
    (legal : lcLegal (getFld s Reg.devLifecycle 0 2) target = true) : lcRequest s true target =
    mboxDone (putFld { lcShown s target with deferred := s.deferred ++ [.lifecycle target] } Reg.devLifecycle 16 16 0) 0 := by
  unfold lcRequest
  dsimp only
  rw [free, legal, Bool.not_true, if_neg Bool.false_ne_true, if_neg Bool.false_ne_true, if_neg Bool.false_ne_true]
  rfl

theorem supersede_other {s : State} {h : Half} (hp : (s.half h).phase ≠ .starting) (k : ResetKind) : supersede s h k = s := if_neg hp

/-- A cold reset in which neither half has a start to abandon. -/
theorem requestCold_idle {s : State} {clearTrip : Bool} (hp : ∀ h, (s.half h).phase ≠ .starting) :
    requestCold s clearTrip = beginCold s clearTrip := by
  unfold requestCold
  rw [startingAs_of_phase (hp _), startingAs_of_phase (hp _), supersede_other (hp _), supersede_other (hp _), if_neg Bool.false_ne_true,
    if_neg Bool.false_ne_true]

/-- The NVS holds the target and the mark of the wipe. -/
def lcNoted (s : State) (n : Nat) : State := { s with nvs := { s.nvs with lcPending := some n, wipePending := true } }

theorem execLifecycleChange_ready {s : State} {n : Nat} (target : lcTarget s = some n) (ready : lcReady s = true) :
    exec .lifecycleChange s = .next (requestCold (lcNoted s n) false) := by
  change execLifecycleChange s = _
  unfold execLifecycleChange
  rw [target]
  dsimp only
  rw [if_pos ready]
  rfl

/-! ### The obligation -/

/-- Settles O9: the wipe empties what it takes and the records leave step 11; step 12 puts each of its halves in service; a change of the
life cycle waits with its target and begins a cold start. -/
theorem startEndsComplete : Obligations.StartEndsComplete := by
  unfold Obligations.StartEndsComplete
  refine ⟨?wipe, ?both, ?one, ?request, ?change⟩
  case wipe =>
    intro s west east wk ek seq
    obtain ⟨-, ws⟩ := of_decide_eq_true west
    obtain ⟨-, es⟩ := of_decide_eq_true east
    have hw : (wipedBoth s).west = s.west := half_wipedBoth s .west
    have he : (wipedBoth s).east = s.east := half_wipedBoth s .east
    obtain ⟨r, x, y, hx, hy, ended⟩ := endWipe_both (s := wipedBoth s) (by rw [hw]; exact ws) (by rw [he]; exact es) (by rw [hw, wk])
      (by rw [he, ek]) (by rw [hw, he, seq])
    obtain ⟨tensors, bias, t1, poison, pending⟩ := emptied_wipedBoth (s := s) wk ek
    have recorded := keep_ledgerWrite (wipedBoth s) r
    obtain ⟨t1', poison', -, bias'⟩ := recorded.same .memory rfl
    obtain ⟨l, n, w, held, nvs⟩ := nvs_ledgerWrite (wipedBoth s) r
    refine ⟨_, execWipe_both west east wk, ?_⟩
    rw [ended]
    refine ⟨hx, hy, Eq.trans (recorded.same .tensors rfl) tensors, bias'.trans bias, t1'.trans t1, poison'.trans poison, ?_⟩
    rw [setHalf_nvs, setHalf_nvs, nvs]
    exact pending
  case both =>
    intro s west east
    obtain ⟨halves, link, test⟩ := readyNow_leaves s
    obtain ⟨wp, wf⟩ := inService_at12 west
    obtain ⟨ep, ef⟩ := inService_at12 east
    rw [← halves] at wp wf ep ef
    exact ⟨_, execReady_due (by simp [readyDue, west, east]), wp, ep, wf, ef, link, test⟩
  case one =>
    intro h s at12 other
    obtain ⟨halves, -, -⟩ := readyNow_leaves s
    obtain ⟨phase, failing⟩ := inService_at12 at12
    have stays : inService s h.other = s.half h.other := if_neg fun at12' => by
      obtain ⟨starting, -⟩ := of_decide_eq_true at12'
      exact absurd (other.symm.trans starting) (by decide)
    rw [← halves] at phase failing
    have due : readyDue s = true := by
      cases h
      · have east : s.east.phase = .ready := other
        simp [readyDue, at12, east]
      · have west : s.west.phase = .ready := other
        simp [readyDue, at12, west]
    exact ⟨_, execReady_due due, phase, failing, (halves _).trans stays⟩
  case request =>
    intro w target s hw hq idle free legal
    obtain ⟨q, served⟩ := Option.isSome_iff_exists.mp hq
    have lifecycle : getReg (mboxBusy s w.val) Reg.devLifecycle = getReg s Reg.devLifecycle := getReg_mboxBusy_other _ _ (by decide) (by decide)
    have runs : exec (.lifecycle w true target) s = .next (lcRequest (mboxBusy s w.val) true target.toNat) := mboxServed hw served idle _
    rw [lcRequest_accepted (by rw [getBit, lifecycle]; exact free) (by rw [getFld, lifecycle]; exact legal)] at runs
    have done := keep_mboxDone (putFld { lcShown (mboxBusy s w.val) target.toNat with deferred := (mboxBusy s w.val).deferred ++
      [.lifecycle target.toNat] } Reg.devLifecycle 16 16 0) 0
    obtain ⟨ready, -⟩ := mboxStatus_mboxDone (putFld { lcShown (mboxBusy s w.val) target.toNat with deferred := (mboxBusy s w.val).deferred ++
      [.lifecycle target.toNat] } Reg.devLifecycle 16 16 0) 0
    have small : target.toNat % 2 ^ 2 = target.toNat := Nat.mod_eq_of_lt target.isLt
    refine ⟨_, runs, ?_, ?_, ?_, ready, (nvs_of_keep done rfl).trans rfl⟩
    · rw [deferred_of_keep done rfl]
      exact List.mem_append_right _ (List.mem_singleton.mpr rfl)
    · rw [getBit, getReg_mboxDone_other _ _ (by decide) (by decide), ← getBit, getBit_putFld_disjoint _ _ _ _ _ _ (by decide)]
      change getBit (lcShown (mboxBusy s w.val) target.toNat) Reg.devLifecycle 3 = true
      rw [lcShown, getBit_putFld_disjoint _ _ _ _ _ _ (by decide), getBit_putBit_same _ _ _ _ (by decide)]
    · rw [getFld, getReg_mboxDone_other _ _ (by decide) (by decide), ← getFld, getFld_putFld_disjoint _ _ _ _ _ _ _ (by decide)]
      change getFld (lcShown (mboxBusy s w.val) target.toNat) Reg.devLifecycle 8 2 = _
      rw [lcShown, getFld_putFld_same _ _ _ _ _ (by decide), small]
  case change =>
    intro n s target ready west east wt et
    have idle (h : Half) : ((lcNoted s n).half h).phase ≠ .starting := by
      cases h
      · exact fun e => absurd (west.symm.trans e) (by decide)
      · exact fun e => absurd (east.symm.trans e) (by decide)
    have begun := requestCold_idle (clearTrip := false) idle
    obtain ⟨-, pending, target'⟩ := nvs_beginCold (lcNoted s n) false
    have starts (h : Half) : (coldBegun (lcNoted s n) false h).phase = .starting ∧ (coldBegun (lcNoted s n) false h).kind = .cold ∧
        (coldBegun (lcNoted s n) false h).step = 1 := by
      cases h
      · exact coldBegun_starts (fun e => absurd (west.symm.trans e) (by decide)) (.inl wt)
      · exact coldBegun_starts (fun e => absurd (east.symm.trans e) (by decide)) (.inl et)
    obtain ⟨wp, wk, -⟩ := starts .west
    obtain ⟨ep, ek, -⟩ := starts .east
    rw [← half_beginCold] at wp wk ep ek
    refine ⟨_, execLifecycleChange_ready target ready, ?_⟩
    rw [begun]
    exact ⟨target', pending, wp, ep, wk, ek⟩

end Sys2Proof.Machine
end

section
/-!
PROOFS. The commands of partitions (R431 to R436, R455): the mailbox, the reset of a partition and the end of its wipe.
-/
namespace Sys2Proof.Machine

/-! ### Registers by their place on a page -/

/-- A register whose offset on its page is that of no event register. -/
theorem bodyRegister_of_offset {a o : Nat} (h : a % 0x1000 = o) (ho : 0x100 ≤ o) (aside : ∀ x ∈ eventRegs, x % 0x1000 ≠ o) : BodyRegister a :=
  ⟨h ▸ ho, fun mem => aside a mem h⟩

theorem bodyRegister_partState (n : Nat) : BodyRegister (Reg.partState n) :=
  bodyRegister_of_offset (o := 0x130) (by unfold Reg.partState; omega) (by decide) (by decide)

theorem bodyRegister_partCfg (n : Nat) : BodyRegister (Reg.partCfg n) :=
  bodyRegister_of_offset (o := 0x100) (by unfold Reg.partCfg; omega) (by decide) (by decide)

theorem bodyRegister_partPool1 (n : Nat) : BodyRegister (Reg.partPool1 n) :=
  bodyRegister_of_offset (o := 0x118) (by unfold Reg.partPool1; omega) (by decide) (by decide)

theorem bodyRegister_ringCtrl (n : Nat) (drv : Bool) : BodyRegister (ringCtrl n drv) := by
  cases drv
  · exact bodyRegister_of_offset (o := 0x100) (by simp only [ringCtrl, Reg.qRingCtrl, qBase, Bool.false_eq_true, if_false]; omega) (by decide) (by decide)
  · exact bodyRegister_of_offset (o := 0x170) (by simp only [ringCtrl, Reg.partDringCtrl, if_true]; omega) (by decide) (by decide)

theorem bodyRegister_devMboxStatus : BodyRegister Reg.devMboxStatus :=
  bodyRegister_of_offset (o := 0x408) (by decide) (by decide) (by decide)

theorem partPhase_congr {s t : State} (n : Nat) (h : getReg t (Reg.partState n) = getReg s (Reg.partState n)) : partPhase t n = partPhase s n := by
  rw [partPhase, getFld, h, partPhase, getFld]

/-! ### What a request that completes leaves of other registers -/

theorem bodySame_mboxDone (s : State) (code : Nat) {a : Nat} (ha : BodyRegister a) (h : a ≠ Reg.devMboxStatus) :
    getReg (mboxDone s code) a = getReg s a := getReg_mboxDone_other s code h (ha.ne_intRaw (by decide))

/-- A cause that is set stays set. -/
theorem getBit_mboxDone_mono {s : State} (code : Nat) {a j : Nat} (h : a ≠ Reg.devMboxStatus) (set : getBit s a j = true) :
    getBit (mboxDone s code) a j = true := by
  unfold mboxDone
  dsimp only
  refine getBit_setCause_mono _ _ _ (by decide) ?_
  rw [getBit, getReg_putFld_other _ _ _ _ _ _ h, getReg_putFld_other _ _ _ _ _ _ h, getReg_putBit_other _ _ _ _ _ h]
  exact set

/-! ### The checks of an assignment -/

/-- `t` holds every register as `s` does but those of the mailbox that its GO writes, and the life cycle. -/
def MailboxAside (s t : State) : Prop :=
  (∀ a, a ≠ Reg.devMboxCtrl → a ≠ Reg.devMboxStatus → getReg t a = getReg s a) ∧ t.colophon = s.colophon

theorem mailboxAside_mboxBusy (s : State) (v : Word) : MailboxAside s (mboxBusy s v) :=
  ⟨fun _ h h' => getReg_mboxBusy_other s v h h', rfl⟩

section Checks

variable {s t : State} (k : MailboxAside s t)
include k

theorem MailboxAside.getReg_far {a : Nat} (h : 0x1000 ≤ a) : getReg t a = getReg s a :=
  k.1 a (by unfold Reg.devMboxCtrl; omega) (by unfold Reg.devMboxStatus; omega)

theorem MailboxAside.getFld_far {a : Nat} (l n : Nat) (h : 0x1000 ≤ a) : getFld t a l n = getFld s a l n := by
  rw [getFld, k.getReg_far h, getFld]

theorem MailboxAside.getBit_far {a : Nat} (i : Nat) (h : 0x1000 ≤ a) : getBit t a i = getBit s a i := by
  rw [getBit, k.getReg_far h, getBit]

theorem MailboxAside.partPhase (n : Nat) : partPhase t n = partPhase s n :=
  k.getFld_far _ _ (by unfold Reg.partState; omega)

theorem MailboxAside.logicalOwner (l : Nat) : logicalOwner t l = logicalOwner s l := by
  have core : coreOf t (l / 32) (l % 32) = coreOf s (l / 32) (l % 32) := by
    rw [coreOf, k.getFld_far _ _ (by unfold Reg.cdCoreMap; omega), coreOf]
  have owner (p : Nat) : coreOwner t (l / 32) p = coreOwner s (l / 32) p := by
    rw [coreOwner, k.getFld_far _ _ (by unfold blkOwner Reg.coreBlk; omega), coreOwner]
  unfold Machine.logicalOwner
  rw [core]
  split
  · exact owner _
  · rfl

theorem MailboxAside.biasOwner (i : Nat) : biasOwner t i = biasOwner s i :=
  k.getFld_far _ _ (by unfold biasOwnerReg Reg.nbuBiasOwner; omega)

theorem MailboxAside.t1Slots : t1Slots t = t1Slots s := by
  have channel (d c : Nat) : channelUp t d c = channelUp s d c := by
    rw [channelUp, k.getBit_far _ (by unfold blkStatus Reg.chBlk; omega), channelUp]
  have pair (d c i : Nat) : pairUp t d c i = pairUp s d c i := by
    rw [pairUp, channel, k.getBit_far _ (by unfold Reg.nbuFallow; omega), pairUp]
  simp only [Machine.t1Slots, channel, pair]

theorem MailboxAside.poolsTaken : poolsTaken t = poolsTaken s := by
  have pool0 (n : Nat) : getFld t (Reg.partPool0 n) 0 24 = getFld s (Reg.partPool0 n) 0 24 := k.getFld_far _ _ (by unfold Reg.partPool0; omega)
  have pool1 (n : Nat) : getFld t (Reg.partPool1 n) 0 24 = getFld s (Reg.partPool1 n) 0 24 := k.getFld_far _ _ (by unfold Reg.partPool1; omega)
  simp only [Machine.poolsTaken, k.partPhase, pool0, pool1]

/-- The checks read nothing that the mailbox's GO writes. -/
theorem MailboxAside.assignCode (d : List Byte) : assignCode t d = assignCode s d := by
  have system : systemSlots t = systemSlots s := by
    rw [systemSlots, getFld, k.1 _ (by decide) (by decide), systemSlots, getFld]
  simp only [Machine.assignCode, k.2, k.partPhase, k.logicalOwner, k.biasOwner, k.t1Slots, system, k.poolsTaken]

end Checks

/-- Every code of an assignment fits DEV_MBOX_STATUS. -/
theorem assignCode_lt (s : State) (d : List Byte) : assignCode s d < 2 ^ 16 := by
  unfold assignCode
  repeat' split
  all_goals decide

/-- No check of the fields has failed. -/
theorem assignBad_of_assignCode {s : State} {d : List Byte} (h : assignCode s d = 0) : assignBad d = false := by
  by_contra bad
  rw [assignCode, if_pos (Bool.eq_true_of_not_eq_false bad)] at h
  exact absurd h (by decide)

/-! ### The settings of an assignment -/

/-- PART_CFG of an assignment, with its WEIGHT in bits 27:16. -/
def assignedCfg (d : List Byte) : Nat :=
  leAt d 1 1 % 2 * 2 + leAt d 1 1 / 2 % 2 * 4 + 8 + leAt d 2 2 * 2 ^ 16 + leAt d 4 4 * 2 ^ 32

theorem weight_assignedCfg {d : List Byte} (ok : assignBad d = false) : fld (word (assignedCfg d)) 16 12 = leAt d 2 2 := by
  have bounds := of_decide_eq_false ok
  simp only [not_or, not_le, not_lt] at bounds
  obtain ⟨-, -, weight, -, limit, -⟩ := bounds
  have fits : assignedCfg d < 2 ^ 64 := by
    unfold assignedCfg
    omega
  rw [fld, word, BitVec.toNat_ofNat, Nat.mod_eq_of_lt fits]
  unfold assignedCfg
  omega

/-- The settings of partition `n`, as an assignment's data give them. -/
def settingsWritten (s : State) (n : Nat) (d : List Byte) : State :=
  setReg (setReg (setReg s (Reg.partCfg n) (word (assignedCfg d))) (Reg.partPool0 n) (word (leAt d 8 4 + leAt d 0xC 4 * 2 ^ 24)))
    (Reg.partPool1 n) (word (leAt d 0x10 4))

/-- The settings written, the assignment waits for the boundary. -/
def assigned (s : State) (n : Nat) (d : List Byte) : State :=
  { settingsWritten s n d with deferred := (settingsWritten s n d).deferred ++ [.assign d] }

theorem requestAssign_passed {s : State} (h : assignCode s (mboxData s) = 0) :
    requestAssign s = assigned s (leAt (mboxData s) 0 1) (mboxData s) := by
  unfold requestAssign
  generalize mboxData s = d at *
  dsimp only
  rw [if_neg (not_not_intro h)]
  rfl

theorem requestAssign_failed {s : State} (h : assignCode s (mboxData s) ≠ 0) :
    requestAssign s = mboxDone s (assignCode s (mboxData s)) := by
  unfold requestAssign
  generalize mboxData s = d at *
  exact if_pos h

theorem getReg_withDeferred (s : State) (ds : List Deferred) (a : Nat) : getReg { s with deferred := ds } a = getReg s a := rfl

theorem getReg_assigned (s : State) (n : Nat) (d : List Byte) (a : Nat) : getReg (assigned s n d) a = getReg (settingsWritten s n d) a :=
  getReg_withDeferred ..

theorem deferred_assigned (s : State) (n : Nat) (d : List Byte) : (assigned s n d).deferred = s.deferred ++ [.assign d] := by
  have written : Keep regsAlone s (settingsWritten s n d) := setReg_keep rfl (setReg_keep rfl (setReg_keep rfl (Keep.refl s)))
  exact congrArg (· ++ [.assign d]) (deferred_of_keep written rfl)

theorem getReg_assigned_other (s : State) (n : Nat) (d : List Byte) {a : Nat} (h0 : a ≠ Reg.partCfg n) (h1 : a ≠ Reg.partPool0 n)
    (h2 : a ≠ Reg.partPool1 n) : getReg (assigned s n d) a = getReg s a := by
  rw [getReg_assigned, settingsWritten, getReg_setReg_other _ _ _ _ h2, getReg_setReg_other _ _ _ _ h1, getReg_setReg_other _ _ _ _ h0]

theorem partPool1_assigned (s : State) (n : Nat) (d : List Byte) : getReg (assigned s n d) (Reg.partPool1 n) = word (leAt d 0x10 4) := by
  rw [getReg_assigned, settingsWritten, getReg_setReg_same]

theorem partCfg_assigned (s : State) (n : Nat) (d : List Byte) : getReg (assigned s n d) (Reg.partCfg n) = word (assignedCfg d) := by
  rw [getReg_assigned, settingsWritten, getReg_setReg_other _ _ _ _ (by unfold Reg.partCfg Reg.partPool1; omega),
    getReg_setReg_other _ _ _ _ (by unfold Reg.partCfg Reg.partPool0; omega), getReg_setReg_same]

/-! ### The reset of a partition -/

theorem getBit_stopRing_ctrl (s : State) (n : Nat) (drv : Bool) : ringOn (stopRing s n drv) n drv = false := by
  have status : ringCtrl n drv ≠ ringStatus n drv := by
    cases drv
    · unfold ringCtrl ringStatus Reg.qRingCtrl Reg.qRingStatus; simp
    · unfold ringCtrl ringStatus Reg.partDringCtrl Reg.partDringStatus; simp
  have stopped : getBit (putBit (putBit s (ringCtrl n drv) 0 false) (ringStatus n drv) 44 false) (ringCtrl n drv) 0 = false := by
    rw [getBit_putBit_other _ _ _ _ _ _ status, getBit_putBit_same _ _ _ _ (by decide)]
  cases drv
  · refine (getBit_putBit_other _ _ _ _ _ _ ?_).trans stopped
    unfold ringCtrl Reg.qRingCtrl Reg.partState qBase
    simp only [Bool.false_eq_true, if_false]
    omega
  · exact stopped

theorem getReg_stopRing_other (s : State) (n : Nat) (drv : Bool) {a : Nat} (h0 : a ≠ ringCtrl n drv) (h1 : a ≠ ringStatus n drv)
    (h2 : a ≠ Reg.partState n) : getReg (stopRing s n drv) a = getReg s a := by
  have stopped : getReg (putBit (putBit s (ringCtrl n drv) 0 false) (ringStatus n drv) 44 false) a = getReg s a := by
    rw [getReg_putBit_other _ _ _ _ _ h1, getReg_putBit_other _ _ _ _ _ h0]
  cases drv
  · exact (getReg_putBit_other _ _ _ _ _ h2).trans stopped
  · exact stopped

/-- The phase of a partition is no register of its rings. -/
theorem partPhase_stopRing (s : State) (n : Nat) (drv : Bool) : partPhase (stopRing s n drv) n = partPhase s n := by
  have ctrl : Reg.partState n ≠ ringCtrl n drv := by
    cases drv <;> simp only [ringCtrl, Reg.qRingCtrl, Reg.partDringCtrl, qBase, Reg.partState, Bool.false_eq_true, if_false, if_true] <;> omega
  have status : Reg.partState n ≠ ringStatus n drv := by
    cases drv <;> simp only [ringStatus, Reg.qRingStatus, Reg.partDringStatus, qBase, Reg.partState, Bool.false_eq_true, if_false, if_true] <;> omega
  have stopped : partPhase (putBit (putBit s (ringCtrl n drv) 0 false) (ringStatus n drv) 44 false) n = partPhase s n :=
    partPhase_congr n (by rw [getReg_putBit_other _ _ _ _ _ status, getReg_putBit_other _ _ _ _ _ ctrl])
  cases drv
  · exact (getFld_putBit_disjoint _ _ _ _ _ _ (by decide)).trans stopped
  · exact stopped

theorem ringOn_stopRings (s : State) (n : Nat) (drv : Bool) : ringOn (stopRings s n) n drv = false := by
  cases drv
  · rw [stopRings, ringOn, getBit, getReg_stopRing_other]
    · exact getBit_stopRing_ctrl s n false
    all_goals
      simp only [ringCtrl, ringStatus, Reg.qRingCtrl, Reg.partDringCtrl, Reg.partDringStatus, qBase, Reg.partState, Bool.false_eq_true,
        if_false, if_true]
      omega
  · exact getBit_stopRing_ctrl _ n true

/-- The state of the reset that begins, before its event. -/
def partResetPrepared (s : State) (n : Nat) : State := resetVf (stopRings (clearPartCounters (setPhase (drawFree s).2 n 2) n) n) n

/-- The reset waits for the boundary, reported. -/
def partResetBegun (s : State) (n : Nat) (v : Word) : State :=
  raiseEvent (partResetPrepared s n) 0x063 n (blkDir (Reg.partBlk n)) 2 (word n) v

theorem beginPartReset_eq (s : State) (n : Nat) : ∃ v, beginPartReset s n =
    { partResetBegun s n v with deferred := (partResetBegun s n v).deferred ++ [.partReset n] } := ⟨_, rfl⟩

theorem getReg_beginPartReset (s : State) (n : Nat) {a : Nat} (ha : BodyRegister a) :
    getReg (beginPartReset s n) a = getReg (partResetPrepared s n) a := by
  obtain ⟨v, begun⟩ := beginPartReset_eq s n
  rw [begun, getReg_withDeferred]
  exact bodySame_raiseEvent _ _ _ _ _ _ _ _ ha

theorem getReg_resetVf (s : State) (n a : Nat) : getReg (resetVf s n) a = getReg s a := rfl

theorem getReg_clearPartCounters (s : State) (n a : Nat) : getReg (clearPartCounters s n) a = getReg s a := rfl

theorem getReg_partResetPrepared (s : State) (n a : Nat) :
    getReg (partResetPrepared s n) a = getReg (stopRings (clearPartCounters (setPhase (drawFree s).2 n 2) n) n) a := getReg_resetVf ..

/-- A reset of a partition leaves it RESETTING with its rings down. -/
theorem beginPartReset_leaves (s : State) (n : Nat) : partPhase (beginPartReset s n) n = 2 ∧ .partReset n ∈ (beginPartReset s n).deferred ∧
    ringOn (beginPartReset s n) n false = false ∧ ringOn (beginPartReset s n) n true = false := by
  have ring (drv : Bool) : ringOn (beginPartReset s n) n drv = false := by
    rw [ringOn, getBit, getReg_beginPartReset s n (bodyRegister_ringCtrl n drv), getReg_partResetPrepared]
    exact ringOn_stopRings _ n drv
  refine ⟨?_, ?_, ring false, ring true⟩
  · rw [partPhase_congr n (getReg_beginPartReset s n (bodyRegister_partState n)), partPhase_congr n (getReg_partResetPrepared s n _), stopRings,
      partPhase_stopRing, partPhase_stopRing, partPhase_congr n (getReg_clearPartCounters _ n _)]
    exact getFld_putFld_same _ _ _ _ _ (by decide)
  · obtain ⟨v, begun⟩ := beginPartReset_eq s n
    generalize partResetBegun s n v = u at begun
    rw [begun]
    exact List.mem_append_right _ (List.mem_singleton.mpr rfl)

/-- The mailbox goes on with its request as a partition's reset begins. -/
theorem devMboxStatus_beginPartReset (s : State) (n : Nat) : getReg (beginPartReset s n) Reg.devMboxStatus = getReg s Reg.devMboxStatus := by
  have ring (u : State) (drv : Bool) : getReg (stopRing u n drv) Reg.devMboxStatus = getReg u Reg.devMboxStatus := by
    refine getReg_stopRing_other u n drv ?_ ?_ ?_
    all_goals
      cases drv <;> simp only [ringCtrl, ringStatus, Reg.qRingCtrl, Reg.qRingStatus, Reg.partDringCtrl, Reg.partDringStatus, qBase,
        Reg.partState, Reg.devMboxStatus, Bool.false_eq_true, if_false, if_true] <;> omega
  have drawn : getReg (drawFree s).2 Reg.devMboxStatus = getReg s Reg.devMboxStatus := by
    rw [getReg, show (drawFree s).2.regs = s.regs from (drawFree_keep (m := fun p => decide (p = .free)) rfl (Keep.refl s)).of.same .regs rfl, getReg]
  rw [getReg_beginPartReset s n bodyRegister_devMboxStatus, getReg_partResetPrepared, stopRings, ring, ring, getReg_clearPartCounters]
  refine Eq.trans ?_ drawn
  exact getReg_putFld_other _ _ _ _ _ _ (by unfold Reg.partState Reg.devMboxStatus; omega)

/-! ### The end of a wipe -/

/-- The released partition is FREE, its settings cleared. -/
def partFreed (s : State) (n : Nat) : State :=
  setReg (setReg (setReg (setPageOwners (setPhase (zeroSlots s n) n 0) n 0xFF) (Reg.partCfg n) 0) (Reg.partPool0 n) 0) (Reg.partPool1 n) 0

/-- Its end is reported. -/
def releaseReported (s : State) (n : Nat) : State :=
  setCause (raiseEvent (partFreed s n) 0x062 n (blkDir (Reg.partBlk n)) 2 (word n) 0) (Reg.partBlk n) 17

/-- A request that waits for the end completes. -/
def mboxEnded (s : State) (op n : Nat) : State := if mboxOn s op n then mboxDone s 0 else s

theorem releaseDone_eq (s : State) (n : Nat) : releaseDone s n = mboxEnded (releaseReported s n) 2 n := rfl

theorem partResetDone_eq (s : State) (n : Nat) :
    partResetDone s n = mboxEnded (setCause (setPhase (zeroSlots s n) n 1) (Reg.partBlk n) 20) 3 n := rfl

theorem getReg_mboxEnded (s : State) (op n : Nat) {a : Nat} (ha : BodyRegister a) (h : a ≠ Reg.devMboxStatus) :
    getReg (mboxEnded s op n) a = getReg s a := by
  unfold mboxEnded
  split
  · exact bodySame_mboxDone s 0 ha h
  · rfl

theorem getBit_mboxEnded {s : State} (op n : Nat) {a j : Nat} (h : a ≠ Reg.devMboxStatus) (set : getBit s a j = true) :
    getBit (mboxEnded s op n) a j = true := by
  unfold mboxEnded
  split
  · exact getBit_mboxDone_mono 0 h set
  · exact set

theorem wiping_mboxEnded (s : State) (op n : Nat) : (mboxEnded s op n).wiping = s.wiping := by
  unfold mboxEnded
  split
  · obtain ⟨-, -, -, -, wiping, -⟩ := (keep_mboxDone s 0).same .waits rfl
    exact wiping
  · rfl

/-- No slot of the partition waits for its wipe. -/
theorem wiping_zeroSlots (s : State) (n : Nat) : ∀ x ∈ (zeroSlots s n).wiping, x.1 ≠ n := fun _ hx =>
  of_decide_eq_true (List.mem_filter.mp hx).2

theorem getReg_releaseReported (s : State) (n : Nat) {a : Nat} (ha : BodyRegister a) :
    getReg (releaseReported s n) a = getReg (partFreed s n) a := by
  have base : Reg.partBlk n % 0x1000 = 0 := by unfold Reg.partBlk; omega
  rw [releaseReported, bodySame_setCause _ _ base _ ha]
  exact bodySame_raiseEvent _ _ _ _ _ _ _ _ ha

theorem wiping_releaseReported (s : State) (n : Nat) : (releaseReported s n).wiping = (zeroSlots s n).wiping := by
  have reported : Keep (fun p => decide (p ∈ [Part.regs, .msix, .events, .outputs])) (zeroSlots s n) (releaseReported s n) :=
    setCause_keep rfl rfl rfl (raiseEvent_keep rfl rfl rfl rfl (setReg_keep rfl (setReg_keep rfl (setReg_keep rfl
      (setPageOwners_keep rfl (setPhase_keep rfl (Keep.refl _)))))))
  obtain ⟨-, -, -, -, wiping, -⟩ := reported.same .waits rfl
  exact wiping

/-- BLK_OWNER lies in the header of a page. -/
theorem getReg_setPageOwners (s : State) (n o : Nat) {a : Nat} (ha : BodyRegister a) : getReg (setPageOwners s n o) a = getReg s a := by
  obtain ⟨past, -⟩ := ha
  have header (u : State) {b : Nat} (hb : b % 0x1000 = 0) : getReg (putFld u (blkOwner b) 0 8 o) a = getReg u a :=
    getReg_putFld_other _ _ _ _ _ _ (by unfold blkOwner; omega)
  rw [setPageOwners, List.foldl_cons, List.foldl_cons, List.foldl_cons, List.foldl_nil, header _ (by unfold qBase; omega),
    header _ (by unfold qBase; omega), header _ (by unfold Reg.partBlk; omega)]

theorem partPhase_setPhase (s : State) (n v : Nat) : partPhase (setPhase s n v) n = v % 2 ^ 2 := getFld_putFld_same _ _ _ _ _ (by decide)

theorem partFreed_leaves (s : State) (n : Nat) : partPhase (partFreed s n) n = 0 ∧ getReg (partFreed s n) (Reg.partCfg n) = 0 ∧
    getReg (partFreed s n) (Reg.partPool1 n) = 0 := by
  refine ⟨?_, ?_, getReg_setReg_same ..⟩
  · refine (partPhase_congr n ?_).trans (partPhase_setPhase (zeroSlots s n) n 0)
    rw [partFreed, getReg_setReg_other _ _ _ _ (by unfold Reg.partState Reg.partPool1; omega),
      getReg_setReg_other _ _ _ _ (by unfold Reg.partState Reg.partPool0; omega),
      getReg_setReg_other _ _ _ _ (by unfold Reg.partState Reg.partCfg; omega), getReg_setPageOwners _ _ _ (bodyRegister_partState n)]
  · rw [partFreed, getReg_setReg_other _ _ _ _ (by unfold Reg.partCfg Reg.partPool1; omega),
      getReg_setReg_other _ _ _ _ (by unfold Reg.partCfg Reg.partPool0; omega), getReg_setReg_same]

theorem ne_devMboxStatus {a : Nat} (h : 0x1000 ≤ a) : a ≠ Reg.devMboxStatus := by unfold Reg.devMboxStatus; omega

/-- The wipe of a released partition leaves it FREE without settings. -/
theorem releaseDone_leaves (s : State) (n : Nat) : partPhase (releaseDone s n) n = 0 ∧ getReg (releaseDone s n) (Reg.partCfg n) = 0 ∧
    getReg (releaseDone s n) (Reg.partPool1 n) = 0 ∧ (∀ x ∈ (releaseDone s n).wiping, x.1 ≠ n) ∧
    getBit (releaseDone s n) (blkIntRaw (Reg.partBlk n)) 17 = true := by
  obtain ⟨phase, cfg, pool⟩ := partFreed_leaves s n
  have kept {a : Nat} (ha : BodyRegister a) (far : 0x1000 ≤ a) : getReg (releaseDone s n) a = getReg (partFreed s n) a := by
    rw [releaseDone_eq, getReg_mboxEnded _ _ _ ha (ne_devMboxStatus far), getReg_releaseReported _ _ ha]
  refine ⟨?_, ?_, ?_, ?_, ?_⟩
  · exact (partPhase_congr n (kept (bodyRegister_partState n) (by unfold Reg.partState; omega))).trans phase
  · exact (kept (bodyRegister_partCfg n) (by unfold Reg.partCfg; omega)).trans cfg
  · exact (kept (bodyRegister_partPool1 n) (by unfold Reg.partPool1; omega)).trans pool
  · rw [releaseDone_eq, wiping_mboxEnded, wiping_releaseReported]
    exact wiping_zeroSlots s n
  · rw [releaseDone_eq]
    refine getBit_mboxEnded _ _ (ne_devMboxStatus (by unfold blkIntRaw Reg.partBlk; omega)) ?_
    rw [releaseReported, getBit_setCause _ _ _ _ (by decide), decide_eq_true rfl, Bool.or_true]

/-- The wipe of a reset leaves the partition ACTIVE. -/
theorem partResetDone_leaves (s : State) (n : Nat) : partPhase (partResetDone s n) n = 1 ∧
    (∀ x ∈ (partResetDone s n).wiping, x.1 ≠ n) ∧ getBit (partResetDone s n) (blkIntRaw (Reg.partBlk n)) 20 = true := by
  have base : Reg.partBlk n % 0x1000 = 0 := by unfold Reg.partBlk; omega
  refine ⟨?_, ?_, ?_⟩
  · refine (partPhase_congr n ?_).trans (partPhase_setPhase (zeroSlots s n) n 1)
    rw [partResetDone_eq, getReg_mboxEnded _ _ _ (bodyRegister_partState n) (ne_devMboxStatus (by unfold Reg.partState; omega)),
      bodySame_setCause _ _ base _ (bodyRegister_partState n)]
  · have shown : Keep causeParts (zeroSlots s n) (setCause (setPhase (zeroSlots s n) n 1) (Reg.partBlk n) 20) :=
      setCause_keep rfl rfl rfl (setPhase_keep rfl (Keep.refl _))
    obtain ⟨-, -, -, -, wiping, -⟩ := shown.same .waits rfl
    rw [partResetDone_eq, wiping_mboxEnded, wiping]
    exact wiping_zeroSlots s n
  · rw [partResetDone_eq]
    refine getBit_mboxEnded _ _ (ne_devMboxStatus (by unfold blkIntRaw Reg.partBlk; omega)) ?_
    rw [getBit_setCause _ _ _ _ (by decide), decide_eq_true rfl, Bool.or_true]

/-! ### The colophon -/

theorem storeColophon_ok {s : State} (ok : s.nvs.ok = true) (f : Colophon → Colophon) :
    storeColophon s f = showColophon { s with nvs := { s.nvs with colophon := f s.nvs.colophon } } (f s.nvs.colophon) := if_pos ok

/-- The record of the NVS changes, not the colophon in force. -/
theorem storeColophon_stores {s : State} (ok : s.nvs.ok = true) (f : Colophon → Colophon) :
    (storeColophon s f).nvs.colophon = f s.nvs.colophon ∧ (storeColophon s f).colophon = s.colophon := by
  rw [storeColophon_ok ok]
  obtain ⟨nvs, colophon, -⟩ := (showColophon_keep (m := regsAlone) (a1 := f s.nvs.colophon) rfl
    (Keep.refl { s with nvs := { s.nvs with colophon := f s.nvs.colophon } })).same .nvs rfl
  exact ⟨congrArg Nvs.colophon nvs, colophon⟩

theorem colophons_mboxDone (s : State) (code : Nat) : (mboxDone s code).nvs = s.nvs ∧ (mboxDone s code).colophon = s.colophon := by
  obtain ⟨nvs, colophon, -⟩ := (keep_mboxDone s code).same .nvs rfl
  exact ⟨nvs, colophon⟩

/-! ### A takeover -/

/-- The home that is covered has the covering among those of its adoption. -/
theorem adopt_coverHome (s : State) (serial : Word) (c : Cover) : ∀ h ∈ (coverHome s serial c).homes, h.serial = serial → c ∈ h.adopt := by
  unfold coverHome
  intro h hm hs
  split at hm
  · obtain ⟨g, -, rfl⟩ := List.mem_map.mp hm
    split at hs
    · next same =>
      rw [if_pos same]
      exact List.mem_append_right _ (List.mem_singleton.mpr rfl)
    · next other => exact absurd hs other
  · next none => exact absurd (List.any_eq_true.mpr ⟨h, hm, decide_eq_true hs⟩) none

theorem getReg_coverHome (s : State) (serial : Word) (c : Cover) (a : Nat) : getReg (coverHome s serial c) a = getReg s a := by
  unfold coverHome
  split
  · rfl
  · rfl

/-- A value that is not listed is that of the default at its own key. -/
theorem Map.get_congr_default {α : Type} {d d' : Nat → α} {k : Nat} (h : d k = d' k) (m : Map α) : Map.get d m k = Map.get d' m k := by
  induction m with
  | nil => exact h
  | cons e m ih => rw [Map.get, ih, Map.get]

theorem inForceReg_mboxBusy (s : State) (v : Word) {a : Nat} (h : a ≠ Reg.devMboxCtrl) (h' : a ≠ Reg.devMboxStatus) :
    inForceReg (mboxBusy s v) a = inForceReg s a := Map.get_congr_default (getReg_mboxBusy_other s v h h') _

/-! ### The rows of the mailbox -/

section Rows

variable {w : RegWrite} {q : Site} {s : State}

/-- Of a request that names its partition within range, the partition acts. -/
theorem mboxPart_named {s : State} {act : State → Nat → State} (h : leAt (mboxData s) 0 1 < 64) :
    mboxPart s act = act s (leAt (mboxData s) 0 1) := if_neg (by omega)

theorem requestRelease_accepted {s : State} {n : Nat} (h : partPhase s n = 1 ∨ partPhase s n = 2) :
    requestRelease s n = { s with deferred := s.deferred.filter (fun x => !decide (x = .partReset n)) ++ [.release n] } := by
  unfold requestRelease
  dsimp only
  rw [if_neg (by omega)]

theorem execPartRelease_accepted (hw : isMbox w 2 = true) (hq : servedAt s w = some q) (idle : getBit s Reg.devMboxStatus 0 = false)
    (inRange : leAt (mboxData s) 0 1 < 64) (phase : partPhase s (leAt (mboxData s) 0 1) = 1 ∨ partPhase s (leAt (mboxData s) 0 1) = 2) :
    exec (.partRelease w) s = .next { mboxBusy s w.val with
      deferred := s.deferred.filter (fun x => !decide (x = .partReset (leAt (mboxData s) 0 1))) ++ [.release (leAt (mboxData s) 0 1)] } := by
  have data := mboxData_mboxBusy s w.val
  have runs : exec (.partRelease w) s = .next (mboxPart (mboxBusy s w.val) requestRelease) := mboxServed hw hq idle _
  rw [runs, mboxPart_named (by rw [data]; exact inRange), data,
    requestRelease_accepted (by rw [(mailboxAside_mboxBusy s w.val).partPhase]; exact phase)]
  rfl

theorem execPartReset_accepted (hw : isMbox w 3 = true) (hq : servedAt s w = some q) (idle : getBit s Reg.devMboxStatus 0 = false)
    (inRange : leAt (mboxData s) 0 1 < 64) (can : canReset s (leAt (mboxData s) 0 1) = true) :
    exec (.partReset w) s = .next (beginPartReset (mboxBusy s w.val) (leAt (mboxData s) 0 1)) := by
  have data := mboxData_mboxBusy s w.val
  have can' : canReset (mboxBusy s w.val) (leAt (mboxData s) 0 1) = true := by
    rw [canReset, (mailboxAside_mboxBusy s w.val).partPhase]
    exact can
  have runs : exec (.partReset w) s = .next (mboxPart (mboxBusy s w.val) fun s n => if canReset s n then beginPartReset s n else mboxDone s 0x611) :=
    mboxServed hw hq idle _
  rw [runs, mboxPart_named (by rw [data]; exact inRange), data, if_pos can']

theorem execPartCtrlReset_accepted (hw : isReg w .part 0x158 = true) (hq : servedAt s w = some q) (reset : bit w.val 0 = true)
    (can : canReset s q.1.inst = true) : exec (.partCtrlReset w) s = .next (beginPartReset s q.1.inst) := by
  change execPartCtrlReset w s = _
  obtain ⟨p, off, key, row⟩ := q
  rw [execPartCtrlReset, guarded_next hw, serveWrite_served hq, reset, can, Bool.true_and, if_pos rfl]

theorem execSetTwin_served (hw : isMbox w 5 = true) (hq : servedAt s w = some q) (idle : getBit s Reg.devMboxStatus 0 = false) :
    exec (.setTwin w) s = .next (mboxDone { mboxBusy s w.val with deferred := s.deferred ++ [.setTwin (word (leAt (mboxData s) 0 8))] } 0) := by
  have runs : exec (.setTwin w) s = .next (mboxDone { mboxBusy s w.val with
      deferred := (mboxBusy s w.val).deferred ++ [.setTwin (word (leAt (mboxData (mboxBusy s w.val)) 0 8))] } 0) := mboxServed hw hq idle _
  rw [runs, mboxData_mboxBusy]
  rfl

theorem execSetShape_served (hw : isMbox w 6 = true) (hq : servedAt s w = some q) (idle : getBit s Reg.devMboxStatus 0 = false)
    (inRange : leAt (mboxData s) 0 2 < 2 ^ 14) :
    exec (.setShape w) s = .next (mboxDone (storeColophon (mboxBusy s w.val) fun c => { c with shape := leAt (mboxData s) 0 2 }) 0) := by
  have runs : exec (.setShape w) s = .next (if 2 ^ 14 ≤ leAt (mboxData (mboxBusy s w.val)) 0 2 then mboxDone (mboxBusy s w.val) 0x610 else
      mboxDone (storeColophon (mboxBusy s w.val) fun c => { c with shape := leAt (mboxData (mboxBusy s w.val)) 0 2 }) 0) := mboxServed hw hq idle _
  rw [runs, mboxData_mboxBusy, if_neg (by omega)]

/-- The colophon in force takes EPOCH_BASE. -/
def epochBaseTaken (s : State) (v : Word) : State := { s with colophon := { s.colophon with epochBase := v } }

theorem execSetEpochBase_served (hw : isMbox w 7 = true) (hq : servedAt s w = some q) (idle : getBit s Reg.devMboxStatus 0 = false) :
    exec (.setEpochBase w) s = .next (mboxDone (storeColophon (epochBaseTaken (mboxBusy s w.val) (word (leAt (mboxData s) 0 8)))
      fun c => { c with epochBase := word (leAt (mboxData s) 0 8) }) 0) := by
  have runs : exec (.setEpochBase w) s = .next (mboxDone (storeColophon (epochBaseTaken (mboxBusy s w.val)
      (word (leAt (mboxData (mboxBusy s w.val)) 0 8))) fun c => { c with epochBase := word (leAt (mboxData (mboxBusy s w.val)) 0 8) }) 0) :=
    mboxServed hw hq idle _
  rw [runs, mboxData_mboxBusy]

theorem execTakeover_served (hw : isMbox w 8 = true) (hq : servedAt s w = some q) (idle : getBit s Reg.devMboxStatus 0 = false) :
    exec (.takeover w) s = .next (if !bit (inForceReg s Reg.devTwinCfg) 26 then mboxDone (mboxBusy s w.val) 0x616
      else if !(s.mirrors.any fun m => m.2.home = getReg s (Reg.devMboxData 0)) then mboxDone (mboxBusy s w.val) 0x615
      else coverHome (mboxBusy s w.val) (getReg s (Reg.devMboxData 0)) .device) := by
  have runs : exec (.takeover w) s = .next (if !bit (inForceReg (mboxBusy s w.val) Reg.devTwinCfg) 26 then mboxDone (mboxBusy s w.val) 0x616
      else if !((mboxBusy s w.val).mirrors.any fun m => m.2.home = getReg (mboxBusy s w.val) (Reg.devMboxData 0)) then
        mboxDone (mboxBusy s w.val) 0x615
      else coverHome (mboxBusy s w.val) (getReg (mboxBusy s w.val) (Reg.devMboxData 0)) .device) := mboxServed hw hq idle _
  rw [runs, inForceReg_mboxBusy s w.val (by decide) (by decide), getReg_mboxBusy_other s w.val (by decide) (by decide)]
  rfl

end Rows

/-! ### The obligation -/

/-- Settles O35: each row does its request on the mailbox that is busy with it, and the lemmas above say what the request leaves. -/
theorem partitionCommandsComplete : Obligations.PartitionCommandsComplete := by
  unfold Obligations.PartitionCommandsComplete
  refine ⟨?assign, ?refused, ?release, ?reset, ?ctrl, ?flr, ?flrIgnored, ?wiped, ?resetWiped, ?twin, ?shape, ?epoch, ?takeover, ?adoptOff⟩
  case assign =>
    intro w q s hw hq idle passed
    have data := mboxData_mboxBusy s w.val
    have runs : exec (.mbxPartAssign w) s = .next (requestAssign (mboxBusy s w.val)) := mboxServed hw hq idle _
    rw [requestAssign_passed (by rw [data, (mailboxAside_mboxBusy s w.val).assignCode]; exact passed), data] at runs
    have weight := weight_assignedCfg (assignBad_of_assignCode passed)
    generalize mboxData s = d at *
    generalize leAt d 0 1 = n at *
    refine ⟨_, runs, (deferred_assigned _ n d).trans (by rw [deferred_of_keep (keep_mboxBusy s w.val) rfl]), ?_, partPool1_assigned .., ?_⟩
    · rw [getBit, getReg_assigned_other, ← getBit, getBit_mboxBusy]
      · unfold Reg.partCfg Reg.devMboxStatus; omega
      · unfold Reg.partPool0 Reg.devMboxStatus; omega
      · unfold Reg.partPool1 Reg.devMboxStatus; omega
    · rw [getFld, partCfg_assigned, weight]
  case refused =>
    intro w q s hw hq idle failed
    have runs : exec (.mbxPartAssign w) s = .next (requestAssign (mboxBusy s w.val)) := mboxServed hw hq idle _
    have code : assignCode (mboxBusy s w.val) (mboxData (mboxBusy s w.val)) = assignCode s (mboxData s) := by
      rw [mboxData_mboxBusy, (mailboxAside_mboxBusy s w.val).assignCode]
    rw [requestAssign_failed (by rw [code]; exact failed), code] at runs
    obtain ⟨ready, shown⟩ := mboxStatus_mboxDone (mboxBusy s w.val) (assignCode s (mboxData s))
    rw [Nat.mod_eq_of_lt (assignCode_lt s _)] at shown
    have deferred := (deferred_of_keep (keep_mboxDone (mboxBusy s w.val) (assignCode s (mboxData s))) rfl).trans
      (deferred_of_keep (keep_mboxBusy s w.val) rfl)
    generalize assignCode s (mboxData s) = c at *
    exact ⟨_, runs, shown, ready, deferred⟩
  case release =>
    intro w q s hw hq idle inRange phase
    have runs := execPartRelease_accepted hw hq idle inRange phase
    have busy := getBit_mboxBusy s w.val
    generalize leAt (mboxData s) 0 1 = n at *
    generalize mboxBusy s w.val = u at *
    refine ⟨_, runs, List.mem_append_right _ (List.mem_singleton.mpr rfl), fun mem => ?_, busy⟩
    obtain kept | new := List.mem_append.mp mem
    · simp at kept
    · simp at new
  case reset =>
    intro w q s hw hq idle inRange can
    obtain ⟨phase, waits, queue, driver⟩ := beginPartReset_leaves (mboxBusy s w.val) (leAt (mboxData s) 0 1)
    refine ⟨_, execPartReset_accepted hw hq idle inRange can, phase, waits, queue, driver, ?_⟩
    rw [getBit, devMboxStatus_beginPartReset, ← getBit, getBit_mboxBusy]
  case ctrl =>
    intro w q s hw hq bit0 can
    exact ⟨_, execPartCtrlReset_accepted hw hq bit0 can, beginPartReset_leaves s _⟩
  case flr =>
    intro part s can
    exact ⟨_, congrArg Host.Outcome.next (if_pos can), beginPartReset_leaves s _⟩
  case flrIgnored =>
    intro part s cannot
    exact congrArg Host.Outcome.next (if_neg (Bool.eq_false_iff.mp cannot))
  case wiped =>
    intro part s phase cores records
    exact ⟨_, congrArg Host.Outcome.next (if_pos ⟨phase, cores, records⟩), releaseDone_leaves s _⟩
  case resetWiped =>
    intro part s phase boundary
    exact ⟨_, congrArg Host.Outcome.next (if_pos ⟨phase, boundary⟩), partResetDone_leaves s _⟩
  case twin =>
    intro w q s hw hq idle
    obtain ⟨ready, shown⟩ := mboxStatus_mboxDone { mboxBusy s w.val with
      deferred := s.deferred ++ [.setTwin (word (leAt (mboxData s) 0 8))] } 0
    exact ⟨_, execSetTwin_served hw hq idle, deferred_of_keep (keep_mboxDone _ _) rfl, shown, ready⟩
  case shape =>
    intro w q s hw hq idle inRange ok
    obtain ⟨stored, inForce⟩ := storeColophon_stores (s := mboxBusy s w.val) ok fun c => { c with shape := leAt (mboxData s) 0 2 }
    obtain ⟨nvs, colophon⟩ := colophons_mboxDone (storeColophon (mboxBusy s w.val) fun c => { c with shape := leAt (mboxData s) 0 2 }) 0
    obtain ⟨ready, shown⟩ := mboxStatus_mboxDone (storeColophon (mboxBusy s w.val) fun c => { c with shape := leAt (mboxData s) 0 2 }) 0
    refine ⟨_, execSetShape_served hw hq idle inRange, ?_, colophon.trans inForce, shown, ready⟩
    rw [nvs, stored]
  case epoch =>
    intro w q s hw hq idle ok
    have served := execSetEpochBase_served hw hq idle
    generalize word (leAt (mboxData s) 0 8) = v at *
    obtain ⟨stored, inForce⟩ := storeColophon_stores (s := epochBaseTaken (mboxBusy s w.val) v) ok fun c => { c with epochBase := v }
    obtain ⟨nvs, colophon⟩ := colophons_mboxDone (storeColophon (epochBaseTaken (mboxBusy s w.val) v) fun c => { c with epochBase := v }) 0
    obtain ⟨ready, shown⟩ := mboxStatus_mboxDone (storeColophon (epochBaseTaken (mboxBusy s w.val) v) fun c => { c with epochBase := v }) 0
    refine ⟨_, served, ?_, ?_, shown, ready⟩
    · rw [nvs, stored]
    · rw [colophon, inForce]
      rfl
  case takeover =>
    intro w q s hw hq idle enabled mirrored
    have runs := execTakeover_served hw hq idle
    rw [enabled, mirrored, Bool.not_true, if_neg Bool.false_ne_true, if_neg Bool.false_ne_true] at runs
    refine ⟨_, runs, adopt_coverHome _ _ _, homes_coverHome _ _ _, ?_⟩
    rw [getBit, getReg_coverHome, ← getBit, getBit_mboxBusy]
  case adoptOff =>
    intro w q s hw hq idle disabled
    have runs := execTakeover_served hw hq idle
    rw [disabled, Bool.not_false, if_pos rfl] at runs
    obtain ⟨ready, shown⟩ := mboxStatus_mboxDone (mboxBusy s w.val) 0x616
    obtain ⟨-, homes, -⟩ := (keep_mboxDone (mboxBusy s w.val) 0x616).same .twins rfl
    exact ⟨_, runs, shown, ready, homes⟩

end Sys2Proof.Machine
end

section
/-!
PROOFS. Power rails, PWRGD and the reset pins (R41 to R43, R437, R544).
-/
namespace Sys2Proof.Machine

/-! ### A half that goes down, a die that is lost -/

/-- The ports of a half are off. -/
def portsOff (s : State) (h : Half) : State := [0, 1, 2, 3, 4, 5].foldl (fun s p =>
  if portHalf p = h then s.setPort p { s.port p with phase := .off, width := 0, outcome := 0, reason := 0, joins := false } else s) s

theorem half_portsOff (s : State) (h x : Half) : (portsOff s h).half x = s.half x := by
  refine half_of_keep (m := fun p => decide (p ∈ [Part.ports, .regs])) (keep_foldl (fun u p k => ?_) (Keep.refl s)) rfl x
  split
  · exact State_setPort_keep rfl rfl k
  · exact k

/-- What a half leaves before it goes down: the step, its requests, its last gasp. -/
def lastActs (s : State) (h : Half) (code : Nat) : State := lastGasp (declare (abandonStep s) 0 0 code) h code

theorem half_lastActs (s : State) (h : Half) (code : Nat) (x : Half) : (lastActs s h code).half x = s.half x :=
  half_of_keep (m := fun p => decide (p ≠ .halves)) (lastGasp_keep rfl rfl rfl (declare_keep rfl rfl rfl rfl rfl rfl rfl
    (abandonStep_keep rfl rfl rfl rfl rfl rfl rfl rfl rfl rfl rfl rfl (Keep.refl s)))) rfl x

theorem halfDown_eq (s : State) (h : Half) (code : Nat) : halfDown s h code = portsOff (putBit (mcWait ((lastActs s h code).setHalf h
    { (lastActs s h code).half h with phase := .down }) h) (Reg.hubMcStatus h.idx) 0 false) h := rfl

@[simp] theorem half_mcWait (s : State) (h x : Half) : (mcWait s h).half x = s.half x := (startsKept_mcWait s h).1 x

/-- Of the halves a half that goes down changes its own phase alone. -/
theorem half_halfDown (s : State) (h : Half) (code : Nat) : (halfDown s h code).half h = { s.half h with phase := .down } := by
  rw [halfDown_eq, half_portsOff, half_putBit, half_mcWait, half_setHalf_same, half_lastActs]

/-- A die pair that was not lost is, and what uses it ends at the boundary. -/
theorem dieLost_loses {s : State} {d : Nat} (present : (s.die d).lost = false) :
    (dieLost s d).die d = { s.die d with lost := true } ∧ .dieLost d ∈ (dieLost s d).deferred := by
  have left (parts : List Nat) : (abandonFor s parts).die d = s.die d :=
    die_of_keep (m := fun p => decide (p ≠ .dies)) (abandonFor_keep rfl rfl rfl rfl rfl rfl rfl rfl rfl rfl rfl rfl (Keep.refl s)) rfl d
  have declared (u : State) (parts : List Nat) : (parts.foldl (fun s n => declare s 1 n 0xFF10) u).die d = u.die d :=
    die_of_keep (m := fun p => decide (p ≠ .dies)) (keep_foldl (fun _ _ k => declare_keep rfl rfl rfl rfl rfl rfl rfl k) (Keep.refl u)) rfl d
  have waiting (u : State) (ds : List Deferred) (x : Nat) : State.die { u with deferred := ds } x = u.die x := rfl
  unfold dieLost
  dsimp only
  rw [present, if_neg Bool.false_ne_true]
  exact ⟨by rw [waiting, declared, die_setDie_same, left], List.mem_append_right _ (List.mem_singleton.mpr rfl)⟩

theorem withoutDie_stays (s : State) (h : Half) (d : Nat) : (withoutDie s h).die d = s.die d ∧ (withoutDie s h).deferred = s.deferred := by
  have kept := withoutDie_keep (m := fun p => decide (p ∉ [Part.dies, .waits])) (a1 := h) rfl rfl rfl rfl rfl (Keep.refl s)
  exact ⟨die_of_keep kept rfl d, deferred_of_keep kept rfl⟩

/-! ### VDD_HEATH -/

theorem heathOk_putBit (s : State) (h : Half) (b : Bool) : heathOk (putBit s Reg.devRailStatus (12 + 5 * h.idx) b) h = b :=
  getBit_putBit_same _ _ _ _ (by cases h <;> decide)

/-- The half whose VDD_HEATH is in tolerance again. -/
def heathReturned (s : State) (h : Half) : State :=
  (putBit s Reg.devRailStatus (12 + 5 * h.idx) true).setHalf h { s.half h with phase := .down }

/-- Beside a half that runs, or is in a start other than a cold one, the half stays down. -/
theorem execVddHeathInTolerance_beside {h : Half} {s : State} (out : heathOk s h = false) (other : heathOk s h.other = true)
    (noCold : startingAs s h.other .cold = false) : exec (.vddHeathInTolerance h) s = .next (heathReturned s h) := by
  change execVddHeathInTolerance h s = _
  unfold execVddHeathInTolerance
  dsimp only
  rw [out, other, noCold, if_neg Bool.false_ne_true, Bool.not_true, if_neg Bool.false_ne_true, if_neg (fun both => Bool.false_ne_true both.1),
    half_putBit]
  rfl

theorem execVddHeathInTolerance_alone {h : Half} {s : State} (out : heathOk s h = false) (other : heathOk s h.other = false) :
    exec (.vddHeathInTolerance h) s = .next (beginCold (heathReturned s h) false) := by
  change execVddHeathInTolerance h s = _
  unfold execVddHeathInTolerance
  dsimp only
  rw [out, other, if_neg Bool.false_ne_true, Bool.not_false, if_pos rfl, half_putBit]
  rfl

/-- The half whose VDD_HEATH has left, its alert and its last gasp cleared. -/
def heathLeft (s : State) (h : Half) : State :=
  (setReg (putBit (putBit s Reg.devRailStatus (12 + 5 * h.idx) false) Reg.devThermStatus (39 + h.idx) false) (Reg.hubLastgasp h.idx) 0).setHalf h
    { s.half h with phase := .unpowered, trip := false, t1Kept := false }

theorem execVddHeathRemoval_beside {h : Half} {s : State} (ok : heathOk s h = true) (low : pwrgd s h = false)
    (other : heathOk s h.other = true) : exec (.vddHeathRemoval h) s = .next (heathLeft s h) := by
  change execVddHeathRemoval h s = _
  unfold execVddHeathRemoval
  dsimp only
  rw [ok, low, other, if_neg (by decide), if_pos rfl, half_setReg, half_putBit, half_putBit]
  rfl

theorem getReg_setHalf (s : State) (h : Half) (x : HalfState) (a : Nat) : getReg (s.setHalf h x) a = getReg s a := by cases h <;> rfl

theorem heathOk_heathLeft (s : State) (h : Half) : heathOk (heathLeft s h) h = false := by
  have lastgasp : Reg.devRailStatus ≠ Reg.hubLastgasp h.idx := by cases h <;> decide
  rw [heathLeft, heathOk, railOk, getBit, getReg_setHalf, getReg_setReg_other _ _ _ _ lastgasp, getReg_putBit_other _ _ _ _ _ (by decide)]
  exact heathOk_putBit s h false

/-! ### PWRGD -/

/-- The half at PWRGD's rise: the reading of its rails, and whether its T1 is kept. -/
def railsRead (s : State) (h : Half) (rails : BitVec 18) : State :=
  let read := refreshRails (putBit (drawFree s).2 Reg.devRailStatus (18 + h.idx) true) h rails
  read.setHalf h { read.half h with t1Kept := (read.half h).t1Kept && memRailsOk h rails && bit (drawFree s).1 0 }

theorem half_railsRead (s : State) (h : Half) (rails : BitVec 18) : (∃ kept, (railsRead s h rails).half h = { s.half h with t1Kept := kept }) ∧
    (railsRead s h rails).half h.other = s.half h.other := by
  have read (x : Half) : (refreshRails (putBit (drawFree s).2 Reg.devRailStatus (18 + h.idx) true) h rails).half x = s.half x :=
    half_of_keep (m := fun p => decide (p ≠ .halves)) (refreshRails_keep rfl (putBit_keep rfl (drawFree_keep rfl (Keep.refl s)).of)) rfl x
  unfold railsRead
  dsimp only
  refine ⟨⟨_, by rw [half_setHalf_same, read]⟩, by rw [half_setHalf_other, read]⟩

theorem execPwrgdAssert_bad {h : Half} {rails : BitVec 18} {r : Nat} {s : State} (low : pwrgd s h = false) (ok : heathOk s h = true)
    (trip : (s.half h).trip = false) (bad : badRail h rails = some r) :
    exec (.pwrgdAssert h rails) s = .next (holdRailSeq (railsRead s h rails) h r) := by
  obtain ⟨⟨kept, same⟩, -⟩ := half_railsRead s h rails
  have untripped : ((railsRead s h rails).half h).trip = false := by rw [same]; exact trip
  change execPwrgdAssert h rails s = _
  unfold execPwrgdAssert
  rw [low, ok, if_neg (by decide)]
  change (if ((railsRead s h rails).half h).trip = true then _ else _) = _
  rw [untripped, if_neg Bool.false_ne_true, bad]
  rfl

theorem execPwrgdAssert_good {h : Half} {rails : BitVec 18} {s : State} (low : pwrgd s h = false) (ok : heathOk s h = true)
    (down : (s.half h).phase = .down) (trip : (s.half h).trip = false) (good : badRail h rails = none)
    (noCold : startingAs s h.other .cold = false) : exec (.pwrgdAssert h rails) s = .next (requestHalf (railsRead s h rails) h) := by
  obtain ⟨⟨kept, same⟩, other⟩ := half_railsRead s h rails
  have untripped : ((railsRead s h rails).half h).trip = false := by rw [same]; exact trip
  have waits : ((railsRead s h rails).half h).phase ≠ .starting := by rw [same]; exact fun e => absurd (down.symm.trans e) (by decide)
  have beside : startingAs (railsRead s h rails) h.other .cold = false := by rw [startingAs, other]; exact noCold
  change execPwrgdAssert h rails s = _
  unfold execPwrgdAssert
  rw [low, ok, if_neg (by decide)]
  change (if ((railsRead s h rails).half h).trip = true then _ else _) = _
  rw [untripped, if_neg Bool.false_ne_true, good]
  change (if ((railsRead s h rails).half h).phase = .starting then _ else _) = _
  rw [if_neg waits]
  change (if startingAs (railsRead s h rails) h.other .cold = true then _ else _) = _
  rw [beside, if_neg Bool.false_ne_true]
  rfl

theorem half_holdRailSeq (s : State) (h : Half) (r : Nat) :
    ((holdRailSeq s h r).half h).phase = .heldRail ∧ ((holdRailSeq s h r).half h).failCode = 1 := by
  have alerted (u : State) : (railAlert u h).half h = u.half h :=
    half_of_keep (m := fun p => decide (p ≠ .halves)) (railAlert_keep rfl rfl rfl (Keep.refl u)) rfl h
  unfold holdRailSeq
  dsimp only
  rw [alerted, half_ledgerWrite, half_setHalf_same]
  exact ⟨rfl, rfl⟩

theorem half_halfEvent (s : State) (h : Half) (type d0 d1 : Nat) (x : Half) : (halfEvent s h type d0 d1).half x = s.half x :=
  half_of_keep (m := eventParts) (halfEvent_keep rfl rfl rfl rfl (Keep.refl s)) rfl x

/-! ### Rail faults -/

theorem execPwrgdDeassert_high {h : Half} {s : State} (high : pwrgd s h = true) : exec (.pwrgdDeassert h) s =
    .next (halfEvent (halfDown (putBit s Reg.devRailStatus (18 + h.idx) false) h 0x001) h 0x012 h.idx 0) := by
  change execPwrgdDeassert h s = _
  unfold execPwrgdDeassert
  rw [high, Bool.not_true, if_neg Bool.false_ne_true]

/-- A fault of a rail of the half, but of VDD_HEATH, takes it down. -/
theorem execRailFault_half {r : Fin 18} {s : State} (high : pwrgd s (railHalf r.val) = true) (notDie : 8 ≤ r.val) (notWest : r.val ≠ 12)
    (notEast : r.val ≠ 17) : ∃ u, exec (.railFault r) s = .next (halfDown u (railHalf r.val) 0x002) := by
  change ∃ u, execRailFault r s = .next (halfDown u (railHalf r.val) 0x002)
  unfold execRailFault
  dsimp only
  rw [high, Bool.not_true, if_neg Bool.false_ne_true, if_neg (by omega), if_neg (by omega)]
  exact ⟨_, rfl⟩

/-- The die pair whose VDD_CD has failed stops. -/
def dieStopped (s : State) (d : Nat) : State := s.setDie d { s.die d with stopped := true }

theorem die_dieStopped (s : State) (d : Nat) : (dieStopped s d).die d = { s.die d with stopped := true } := die_setDie_same ..

theorem execRailFault_die {r : Fin 18} {s : State} (high : pwrgd s (railHalf r.val) = true) (die : r.val < 8) :
    exec (.railFault r) s = .next (withoutDie (dieLost (dieStopped (noteRailFault s r.val) r.val) r.val) (railHalf r.val)) := by
  change execRailFault r s = _
  unfold execRailFault
  dsimp only
  rw [high, Bool.not_true, if_neg Bool.false_ne_true, if_pos die]
  rfl

theorem die_noteRailFault (s : State) (r d : Nat) : (noteRailFault s r).die d = s.die d :=
  die_of_keep (m := eventParts) (noteRailFault_keep rfl rfl rfl rfl (Keep.refl s)) rfl d

/-! ### The reset pins -/

/-- The trip of a half is cleared. -/
def untripped (s : State) (h : Half) : State := s.setHalf h { s.half h with trip := false }

/-- The trips that COLD_RST_N clears. -/
def tripsCleared (s : State) : State := untripped (untripped (putFld s Reg.devThermStatus 39 2 0) .west) .east

theorem half_tripsCleared (s : State) (h : Half) : (tripsCleared s).half h = { s.half h with trip := false } := by cases h <;> rfl

theorem trip_coldBegun {s : State} {clearTrip : Bool} {h : Half} (ht : (s.half h).trip = false) : (coldBegun s clearTrip h).trip = false := by
  unfold coldBegun coldHalf
  dsimp only
  rw [ht, Bool.false_and]

/-- The functions that reach the host through a port: its physical function and the partitions of the port. -/
def functionsOf (s : State) (port : Half) (k : Nat) : Bool :=
  decide (k = port.idx) || (decide (2 ≤ k) && (decide (k - 2 < 64) && decide (getFld s (Reg.partCfg (k - 2)) 2 1 = port.idx)))

/-- PERST_N returns the functions of its port to D0 and stops its DMA. -/
theorem execPerstN_leaves (port : Half) (s : State) : Answers (.perstN port) s fun t =>
    Map.get (fun _ => false) t.d3hot port.idx = false ∧ getBit t (Reg.hubMigStatus port.idx) 16 = true ∧
      ∀ off, off ≠ Reg.hubMigStatus port.idx → getReg t off = getReg s off := by
  refine ⟨_, rfl, ?_, getBit_putBit_same _ _ _ _ (by decide), fun off far => getReg_putBit_other _ _ _ _ _ far⟩
  change Map.get (fun _ => false) (Map.clearWhere (functionsOf s port) s.d3hot) port.idx = false
  rw [Map.get_clearWhere, functionsOf, decide_eq_true rfl, Bool.true_or, if_pos rfl]

/-! ### The obligation -/

/-- Settles O1: rail by rail and pin by pin, each row reduces to a beginning start or to a half that goes down. -/
theorem railsComplete : Obligations.RailsComplete := by
  unfold Obligations.RailsComplete
  refine ⟨?back, ?alone, ?left, ?bad, ?good, ?falls, ?fault, ?die, ?cold, ?perst⟩
  case back =>
    intro h s out other noCold
    exact execVddHeathInTolerance_beside out other noCold
  case alone =>
    intro h s out other trip
    have half : (heathReturned s h).half h = { s.half h with phase := .down } := half_setHalf_same ..
    have starts := coldBegun_starts (s := heathReturned s h) (clearTrip := false) (h := h) (by rw [half]; exact fun e => by cases e)
      (.inl (by rw [half]; exact trip))
    obtain ⟨seq, -, -⟩ := nvs_beginCold (heathReturned s h) false
    rw [← half_beginCold] at starts
    obtain ⟨phase, kind, step⟩ := starts
    refine ⟨_, execVddHeathInTolerance_alone out other, phase, kind, step, ?_⟩
    rw [seq, heathReturned, setHalf_nvs, putBit_nvs]
  case left =>
    intro h s ok low other
    refine ⟨_, execVddHeathRemoval_beside ok low other, ?_, ?_, ?_, heathOk_heathLeft s h⟩
    · rw [heathLeft, half_setHalf_same]
    · rw [heathLeft, half_setHalf_other, half_setReg, half_putBit, half_putBit]
    · rw [heathLeft, getReg_setHalf, getReg_setReg_same]
  case bad =>
    intro h rails r s low ok trip bad
    exact ⟨_, execPwrgdAssert_bad low ok trip bad, half_holdRailSeq _ h r⟩
  case good =>
    intro h rails s low ok down trip good noCold
    obtain ⟨⟨kept, same⟩, -⟩ := half_railsRead s h rails
    obtain ⟨phase, kind, step, -⟩ := requestHalf_begins (s := railsRead s h rails) (h := h)
      (by rw [same]; exact fun e => absurd (down.symm.trans e) (by decide))
    exact ⟨_, execPwrgdAssert_good low ok down trip good noCold, phase, kind, step⟩
  case falls =>
    intro h s high
    refine ⟨_, execPwrgdDeassert_high high, ?_⟩
    dsimp only
    rw [half_halfEvent, half_halfDown]
  case fault =>
    intro r s high notDie notWest notEast
    obtain ⟨u, runs⟩ := execRailFault_half high notDie notWest notEast
    refine ⟨_, runs, ?_⟩
    dsimp only
    rw [half_halfDown]
  case die =>
    intro r s high die present
    obtain ⟨lost, waits⟩ := dieLost_loses (s := dieStopped (noteRailFault s r.val) r.val) (d := r.val)
      (by rw [die_dieStopped, die_noteRailFault]; exact present)
    obtain ⟨dies, deferred⟩ := withoutDie_stays (dieLost (dieStopped (noteRailFault s r.val) r.val) r.val) (railHalf r.val) r.val
    rw [← dies, die_dieStopped] at lost
    rw [← deferred] at waits
    exact ⟨_, execRailFault_die high die, by rw [lost], by rw [lost], waits⟩
  case cold =>
    intro s noWest noEast west east
    have clear (h : Half) : startingAs (tripsCleared s) h .cold = startingAs s h .cold := by
      rw [startingAs, half_tripsCleared, startingAs]
    obtain ⟨u, halves, seq, begun⟩ := requestCold_begins (s := tripsCleared s) true ((clear _).trans noWest) ((clear _).trans noEast)
    have half (h : Half) : u.half h = { s.half h with trip := false } := (halves h).trans (half_tripsCleared s h)
    have starts (h : Half) (hp : (s.half h).phase ≠ .unpowered) := coldBegun_starts (s := u) (clearTrip := true) (h := h)
      (by rw [half]; exact hp) (.inr rfl)
    have calm (h : Half) := trip_coldBegun (s := u) (clearTrip := true) (h := h) (by rw [half])
    obtain ⟨wp, wk, ws⟩ := starts .west west
    obtain ⟨ep, ek, es⟩ := starts .east east
    have wt := calm .west
    have et := calm .east
    rw [← half_beginCold] at wp wk ws ep ek es wt et
    refine ⟨requestCold (tripsCleared s) true, rfl, ?_⟩
    rw [begun]
    have number : (beginCold u true).nvs.lastSeq = s.nvs.lastSeq + 1 := by
      rw [(nvs_beginCold u true).1, seq]
      rfl
    generalize beginCold u true = t at *
    exact ⟨wp, ep, wk, ek, ws, es, wt, et, number⟩
  case perst => exact execPerstN_leaves

end Sys2Proof.Machine
end

section
/-!
PROOFS. Reference clocks, straps, the governor and temperatures (R44 to R48, R51, R188).
-/
namespace Sys2Proof.Machine

/-! ### The registers of clocks and power -/

theorem bodyRegister_devClkStatus : BodyRegister Reg.devClkStatus := bodyRegister_of_offset (o := 0x218) (by decide) (by decide) (by decide)

theorem bodyRegister_devPwrStatus : BodyRegister Reg.devPwrStatus := bodyRegister_of_offset (o := 0x208) (by decide) (by decide) (by decide)

theorem getReg_devCause (s : State) (i : Nat) {a : Nat} (ha : BodyRegister a) : getReg (setCause s Reg.devBlk i) a = getReg s a :=
  bodySame_setCause s i (by decide) a ha

theorem getReg_halfEvent (s : State) (h : Half) (type d0 d1 : Nat) {a : Nat} (ha : BodyRegister a) :
    getReg (halfEvent s h type d0 d1) a = getReg s a := bodySame_raiseEvent _ _ _ _ _ _ _ _ ha

/-- A cause of DEV_, set before an event that is not fatal. -/
theorem devCause_halfEvent (s : State) (h : Half) {i : Nat} (type d0 d1 : Nat) (hi : i < 64) (ht : evSeverity type ≠ 3) :
    getBit (halfEvent (setCause s Reg.devBlk i) h type d0 d1) (blkIntRaw Reg.devBlk) i = true := by
  refine getBit_raiseEvent_mono _ _ _ _ _ _ _ ht ?_
  rw [getBit_setCause _ _ _ _ hi, decide_eq_true rfl, Bool.or_true]

/-! ### Reference clocks -/

/-- The half runs from the other reference, a change that is counted. -/
def refclkMoved (s : State) (h : Half) : State :=
  let marked := putBit (putBit s Reg.devClkStatus h.idx false) Reg.devClkStatus (2 + h.idx) true
  putFld marked Reg.devClkStatus 16 16 (getFld marked Reg.devClkStatus 16 16 + 1)

theorem refclkMoved_marks (s : State) (h : Half) : getBit (refclkMoved s h) Reg.devClkStatus h.idx = false ∧
    getBit (refclkMoved s h) Reg.devClkStatus (2 + h.idx) = true := by
  have low : h.idx < 2 := by cases h <;> decide
  unfold refclkMoved
  dsimp only
  constructor
  · rw [getBit_putFld_disjoint _ _ _ _ _ _ (.inl (by omega)), getBit_putBit_disjoint _ _ _ _ _ (by omega), getBit_putBit_same _ _ _ _ (by omega)]
  · rw [getBit_putFld_disjoint _ _ _ _ _ _ (.inl (by omega)), getBit_putBit_same _ _ _ _ (by omega)]

theorem otherReference {s : State} {h : Half} (b : Bool) :
    getBit (putBit s Reg.devClkStatus h.idx b) Reg.devClkStatus h.other.idx = getBit s Reg.devClkStatus h.other.idx :=
  getBit_putBit_disjoint _ _ _ _ _ (by cases h <;> decide)

theorem execRefclkLoss_one {h : Half} {s : State} (present : getBit s Reg.devClkStatus h.idx = true)
    (other : getBit s Reg.devClkStatus h.other.idx = true) : exec (.refclkLoss h) s =
      .next (halfEvent (setCause (refclkMoved s h) Reg.devBlk (21 + h.idx)) h 0x016 h.idx 0) := by
  change execRefclkLoss h s = _
  unfold execRefclkLoss
  dsimp only
  rw [otherReference, present, other, Bool.not_true, if_neg Bool.false_ne_true, if_neg Bool.false_ne_true]
  rfl

theorem execRefclkLoss_both {h : Half} {s : State} (present : getBit s Reg.devClkStatus h.idx = true)
    (other : getBit s Reg.devClkStatus h.other.idx = false) :
    exec (.refclkLoss h) s = .next (timeLost (putBit s Reg.devClkStatus h.idx false)) := by
  change execRefclkLoss h s = _
  unfold execRefclkLoss
  dsimp only
  rw [otherReference, present, other, Bool.not_true, if_neg Bool.false_ne_true, Bool.not_false, if_pos rfl]

/-- Without both references a step that runs ends first, and the device fail-stops at its boundary. -/
theorem timeLost_running {s : State} (running : s.steps.running = true) : getBit (timeLost s) Reg.devClkStatus 9 = true ∧
    (timeLost s).deferred = s.deferred ++ [.failStop 3] := by
  have told := devEvent_keep (m := eventParts) (a1 := 0x017) (a2 := 0) (a3 := 0) rfl rfl rfl rfl (Keep.refl (putBit s Reg.devClkStatus 9 true))
  have steps : (devEvent (putBit s Reg.devClkStatus 9 true) 0x017 0 0).steps = s.steps := told.same .steps rfl
  have deferred := (deferred_of_keep told rfl).trans (show (putBit s Reg.devClkStatus 9 true).deferred = s.deferred from rfl)
  have shown : getBit (devEvent (putBit s Reg.devClkStatus 9 true) 0x017 0 0) Reg.devClkStatus 9 = true := by
    rw [getBit, bodySame_devEvent _ _ _ _ _ bodyRegister_devClkStatus, ← getBit, getBit_putBit_same _ _ _ _ (by decide)]
  unfold timeLost
  dsimp only
  generalize devEvent (putBit s Reg.devClkStatus 9 true) 0x017 0 0 = u at *
  rw [if_pos (by rw [stepRunning, steps]; exact running)]
  exact ⟨shown, congrArg (· ++ [.failStop 3]) deferred⟩

/-! ### The governor -/

/-- The low bits of a field. -/
theorem getFld_low (s : State) (a lo : Nat) {k n : Nat} (h : k ≤ n) : getFld s a lo k = getFld s a lo n % 2 ^ k :=
  (Nat.mod_mod_of_dvd _ (pow_dvd_pow 2 h)).symm

/-- The level and its two reasons are one field, whose low bits are the level. -/
theorem powerLevel_putFld (s : State) {new : Nat} (h : new ≤ 6) (thermal power : Bool) :
    powerLevel (putFld s Reg.devPwrStatus 32 5 (new + 8 * b2n thermal + 16 * b2n power)) = new := by
  rw [powerLevel, getFld_low _ _ _ (show 3 ≤ 5 by decide), getFld_putFld_same _ _ _ _ _ (by decide)]
  cases thermal <;> cases power <;> simp only [b2n] <;> omega

/-- A change of the level writes DEV_PWR_STATUS in that field alone. -/
theorem devPwrStatus_setLevel (s : State) (new : Nat) (thermal power : Bool) : getReg (setLevel s new thermal power) Reg.devPwrStatus =
    getReg (putFld s Reg.devPwrStatus 32 5 (new + 8 * b2n thermal + 16 * b2n power)) Reg.devPwrStatus := by
  have governed (u : State) (g : Governor) : getReg { u with governor := g } Reg.devPwrStatus = getReg u Reg.devPwrStatus := rfl
  unfold setLevel
  dsimp only
  split
  · rfl
  · rw [bodySame_devEvent _ _ _ _ _ bodyRegister_devPwrStatus, governed, getReg_putFld_other _ _ _ _ _ _ (by decide)]

theorem powerLevel_setLevel (s : State) {new : Nat} (h : new ≤ 6) (thermal power : Bool) : powerLevel (setLevel s new thermal power) = new := by
  rw [powerLevel, getFld, devPwrStatus_setLevel, ← getFld]
  exact powerLevel_putFld s h thermal power

/-- The bits above that field stay. -/
theorem getBit_setLevel (s : State) (new : Nat) (thermal power : Bool) {i : Nat} (h : 37 ≤ i) :
    getBit (setLevel s new thermal power) Reg.devPwrStatus i = getBit s Reg.devPwrStatus i := by
  rw [getBit, devPwrStatus_setLevel, ← getBit, getBit_putFld_disjoint _ _ _ _ _ _ (.inr h)]

theorem execGovernorEvaluation_over {p : PowerSample} {s : State} (calm : raisedLately s = false) (above : overLimit s p = true) :
    exec (.governorEvaluation p) s = .next (setLevel (loadAverages s p) (min 6 (powerLevel s + 1)) (getBit s Reg.devPwrStatus 35) true) := by
  change execGovernorEvaluation p s = _
  unfold execGovernorEvaluation
  dsimp only
  rw [calm, above, if_neg Bool.false_ne_true, if_pos rfl]

theorem execThrottleLevelFall_room {p : PowerSample} {s : State} (calm : raisedLately s = false) (under : overLimit s p = false)
    (wanted : s.governor.thermalAt ≤ powerLevel s) (raised : 0 < powerLevel s) (settled : levelSettled s = true)
    (room : underLimits s p = true) (cool : nearThrottle s = false) : ∃ thermal power, exec (.throttleLevelFall p) s =
      .next (setLevel (loadAverages s p) (powerLevel s - 1) thermal power) := by
  change ∃ thermal power, execThrottleLevelFall p s = .next (setLevel (loadAverages s p) (powerLevel s - 1) thermal power)
  unfold execThrottleLevelFall
  dsimp only
  rw [calm, under, settled, room, cool, if_neg (by simp only [Bool.not_true, Bool.false_eq_true, false_or, or_false]; omega)]
  exact ⟨_, _, rfl⟩

/-- The mark of a limit that level 6 does not meet. -/
def unmetMarked (s : State) (p : PowerSample) : State := setCause (putBit (loadAverages s p) Reg.devPwrStatus 38 true) Reg.devBlk 25

theorem execLimitUnmet_long {p : PowerSample} {s : State} (six : powerLevel s = 6) (above : overLimit s p = true) (long : sixLong s = true) :
    exec (.limitUnmet p) s = .next (devEvent (unmetMarked s p) 0x015 p.pkg100 (p.west100 % 2 ^ 32 + p.east100 * 2 ^ 32)) := by
  change execLimitUnmet p s = _
  unfold execLimitUnmet
  rw [if_pos ⟨six, above, long⟩]
  rfl

/-! ### Temperatures -/

/-- The level that the temperatures of a sample ask for. -/
def wantedLevel (s : State) (x : ThermalSample) : Nat :=
  if ((sampleDies x).zipIdx).any (fun (v, i) => decide (throttleAt i ≤ v)) then min 6 (powerLevel s + 1) else 0

/-- The causes of hot halves, the optical ports and the near-bank steps, which follow a sample. -/
def sampleFollowed (s : State) (x : ThermalSample) : State :=
  let warn := fun (s : State) (h : Half) => if halfHot x h then setCause s Reg.devBlk (19 + h.idx) else s
  (x.md.toList.zipIdx).foldl (fun s (v, d) => nbuThermalRise s d v)
    ((x.oe.toList.zipIdx).foldl (fun s (v, p) => opticalTemp s p v) (warn (warn s .west) .east))

theorem governor_sampleFollowed (s : State) (x : ThermalSample) : (sampleFollowed s x).governor = s.governor := by
  have warned (u : State) (h : Half) (k : Keep (fun p => decide (p ∉ [Part.halves, .nvs])) s u) :
      Keep (fun p => decide (p ∉ [Part.halves, .nvs])) s (if halfHot x h then setCause u Reg.devBlk (19 + h.idx) else u) := by
    split
    · exact setCause_keep rfl rfl rfl k
    · exact k
  have followed : Keep (fun p => decide (p ∉ [Part.halves, .nvs])) s (sampleFollowed s x) :=
    keep_foldl (fun _ _ k => nbuThermalRise_keep rfl k) (keep_foldl (fun _ _ k => opticalTemp_keep rfl rfl rfl rfl rfl rfl k)
      (warned _ .east (warned s .west (Keep.refl s))))
  exact (followed.same .halves rfl).2.2

/-- NVS writes stop. -/
def nvsWritesStopped (s : State) : State := putBit { s with nvs := { s.nvs with writesStopped := true } } Reg.nvsStatus 3 true

/-- What a sample shows, and the level that it asks for. -/
def sampleTaken (s : State) (x : ThermalSample) : State :=
  let shown := setReg s Reg.devThermStatus (thermStatus s x (((sampleDies x).zipIdx).any fun (v, i) => decide (throttleAt i ≤ v)))
  { shown with governor := { shown.governor with
    near := ((sampleDies x).zipIdx).any fun (v, i) => decide (throttleAt i ≤ v + 3), thermalAt := wantedLevel s x } }

theorem thermalAt_sampleTaken (s : State) (x : ThermalSample) : (sampleTaken s x).governor.thermalAt = wantedLevel s x := rfl

theorem execThermalSample_eq (x : ThermalSample) (s : State) : exec (.thermalSample x) s =
    .next (if 100 ≤ x.nvs then nvsWritesStopped (sampleFollowed (sampleTaken s x) x) else sampleFollowed (sampleTaken s x) x) := by
  change execThermalSample x s = _
  unfold execThermalSample nvsWritesStopped sampleFollowed sampleTaken wantedLevel
  rfl

/-- The half whose hub or dies have tripped is down. -/
def tripTaken (s : State) (h : Half) (die : Nat) : State :=
  halfEvent (halfDown (putBit s Reg.devThermStatus (39 + h.idx) true) h 0x003) h 0x013 die 0

theorem half_halfDown_other (s : State) (h : Half) (code : Nat) : (halfDown s h code).half h.other = s.half h.other := by
  rw [halfDown_eq, half_portsOff, half_putBit, half_mcWait, half_setHalf_other, half_lastActs]

theorem half_tripTaken (s : State) (h : Half) (die : Nat) : (tripTaken s h die).half h = { s.half h with phase := .down } ∧
    (tripTaken s h die).half h.other = s.half h.other := by
  rw [tripTaken, half_halfEvent, half_halfEvent, half_halfDown, half_halfDown_other, half_putBit, half_putBit]
  exact ⟨rfl, rfl⟩

/-- The trip of the half is latched. -/
def tripLatched (s : State) (h : Half) : State := s.setHalf h { s.half h with trip := true }

theorem execThermalTrip_die {die : Fin 24} {temp : Int} {s : State} (isDie : die.val < 16) (hot : tripAt die.val ≤ temp)
    (trip : (s.half (dieHalf (die.val % 8))).trip = false) (other : (s.half (dieHalf (die.val % 8)).other).trip = false) :
    exec (.thermalTrip die temp) s = .next (tripLatched (tripTaken s (dieHalf (die.val % 8)) die.val) (dieHalf (die.val % 8))) := by
  change execThermalTrip die temp s = _
  unfold execThermalTrip
  rw [if_pos isDie]
  dsimp only
  generalize dieHalf (die.val % 8) = h at *
  have one : ¬ ((tripLatched (tripTaken s h die.val) h).west.trip = true ∧ (tripLatched (tripTaken s h die.val) h).east.trip = true) := by
    have calm : ((tripLatched (tripTaken s h die.val) h).half h.other).trip = false := by
      rw [tripLatched, half_setHalf_other, (half_tripTaken s h die.val).2]
      exact other
    rintro ⟨west, east⟩
    cases h
    · exact absurd (east.symm.trans calm) (by decide)
    · exact absurd (west.symm.trans calm) (by decide)
  have trips : ¬ ((16 ≤ die.val ∧ die.val < 22) ∨ temp < tripAt die.val ∨ (s.half h).trip = true) := by
    rw [trip]
    rintro (⟨above, -⟩ | cool | no)
    · omega
    · omega
    · cases no
  rw [if_neg trips]
  exact congrArg Host.Outcome.next (if_neg one)

/-! ### The near-bank step -/

theorem execNbuThermalStepFall_cool {d : Fin 8} {temp : Int} {s : State} (raised : nbuStep s d.val ≠ 0)
    (cool : temp + 2 ≤ nbuThreshold (nbuStep s d.val)) :
    exec (.nbuThermalStepFall d temp) s = .next (setNbuStep s d.val (nbuStep s d.val - 1)) :=
  congrArg Host.Outcome.next (if_pos ⟨raised, cool⟩)

/-- Both pages of the near-bank units show the step. -/
theorem nbuStatus_setNbuStep (s : State) (d : Nat) {k : Nat} (h : k < 4) : getFld (setNbuStep s d k) (Reg.nbuStatus d 0) 4 2 = k ∧
    getFld (setNbuStep s d k) (Reg.nbuStatus d 1) 4 2 = k := by
  have apart : Reg.nbuStatus d 0 ≠ Reg.nbuStatus d 1 := by unfold Reg.nbuStatus; omega
  have small : k % 2 ^ 2 = k := Nat.mod_eq_of_lt h
  rw [setNbuStep, getFld_putFld_other _ _ _ _ _ _ _ _ apart, getFld_putFld_same _ _ _ _ _ (by decide), getFld_putFld_same _ _ _ _ _ (by decide),
    small]
  exact ⟨rfl, rfl⟩

theorem nbuStep_lt (s : State) (d : Nat) : nbuStep s d < 4 := Nat.mod_lt _ (by decide)

theorem powerLevel_lt (s : State) : powerLevel s < 8 := Nat.mod_lt _ (by decide)

/-- The straps of a half in service that have changed are a cause and an event. -/
theorem execStrapReread_changed {h : Half} {straps : BitVec 16} {s : State} (ok : heathOk s h = true) (ready : (s.half h).phase = .ready)
    (changed : straps ≠ (s.half h).straps) : exec (.strapReread h straps) s =
      .next (halfEvent (setCause s Reg.devBlk (23 + h.idx)) h 0x010 (s.half h).straps.toNat straps.toNat) := by
  change execStrapReread h straps s = _
  unfold execStrapReread
  dsimp only
  rw [ok, ready, if_neg]
  rintro (no | ⟨starting, -⟩ | same)
  · cases no
  · cases starting
  · exact changed same

/-! ### The obligation -/

/-- Settles O2: each row of clocks, power and temperatures with the registers and the halves that it leaves. -/
theorem powerComplete : Obligations.PowerComplete := by
  unfold Obligations.PowerComplete
  refine ⟨?one, ?both, ?back, ?strap, ?evaluation, ?overcurrent, ?fall, ?unmet, ?sample, ?trip, ?resume, ?step⟩
  case one =>
    intro h s present other
    obtain ⟨lost, moved⟩ := refclkMoved_marks s h
    have kept : getReg (halfEvent (setCause (refclkMoved s h) Reg.devBlk (21 + h.idx)) h 0x016 h.idx 0) Reg.devClkStatus =
        getReg (refclkMoved s h) Reg.devClkStatus := by
      rw [getReg_halfEvent _ _ _ _ _ bodyRegister_devClkStatus, getReg_devCause _ _ bodyRegister_devClkStatus]
    refine ⟨_, execRefclkLoss_one present other, ?_, ?_, devCause_halfEvent _ h _ _ _ (by cases h <;> decide) (by decide)⟩
    · rw [getBit, kept]
      exact lost
    · rw [getBit, kept]
      exact moved
  case both =>
    intro h s present other running
    exact ⟨_, execRefclkLoss_both present other, timeLost_running (s := putBit s Reg.devClkStatus h.idx false) running⟩
  case back =>
    intro h s
    refine ⟨_, rfl, getBit_putBit_same _ _ _ _ (by cases h <;> decide), fun j hj => getBit_putBit_disjoint _ _ _ _ _ hj,
      fun off far => getReg_putBit_other _ _ _ _ _ far⟩
  case strap =>
    intro h straps s ok ready changed
    refine ⟨_, execStrapReread_changed ok ready changed, devCause_halfEvent _ h _ _ _ (by cases h <;> decide) (by decide), ?_⟩
    rw [half_halfEvent, half_of_keep (keep_setCause s Reg.devBlk (23 + h.idx)) rfl]
  case evaluation =>
    intro p s calm above
    exact ⟨_, execGovernorEvaluation_over calm above, powerLevel_setLevel _ (Nat.min_le_left _ _) _ _⟩
  case overcurrent =>
    intro r p s
    refine ⟨_, rfl, ?_, ?_, ?_⟩
    · rw [powerLevel, getFld, getReg_devCause _ _ bodyRegister_devPwrStatus, ← getFld]
      exact powerLevel_setLevel _ (Nat.le_refl 6) _ _
    · rw [getBit, getReg_devCause _ _ bodyRegister_devPwrStatus, ← getBit, getBit_setLevel _ _ _ _ (Nat.le_refl 37),
        getBit_putBit_same _ _ _ _ (by decide)]
    · rw [getBit_setCause _ _ _ _ (by decide), decide_eq_true rfl, Bool.or_true]
  case fall =>
    intro p s calm under wanted raised settled room cool
    obtain ⟨thermal, power, runs⟩ := execThrottleLevelFall_room calm under wanted raised settled room cool
    have below := powerLevel_lt s
    exact ⟨_, runs, powerLevel_setLevel _ (by omega) _ _⟩
  case unmet =>
    intro p s six above long
    refine ⟨_, execLimitUnmet_long six above long, ?_, ?_⟩
    · rw [getBit, bodySame_devEvent _ _ _ _ _ bodyRegister_devPwrStatus, unmetMarked, getReg_devCause _ _ bodyRegister_devPwrStatus, ← getBit,
        getBit_putBit_same _ _ _ _ (by decide)]
    · refine getBit_raiseEvent_mono _ _ _ _ _ _ _ (by decide) ?_
      rw [unmetMarked, getBit_setCause _ _ _ _ (by decide), decide_eq_true rfl, Bool.or_true]
  case sample =>
    intro x s
    have stopped (v : State) : (nvsWritesStopped v).governor = v.governor := rfl
    refine ⟨_, execThermalSample_eq x s, ?_, fun hot => ?_⟩
    · rw [apply_ite State.governor, stopped, ite_self, governor_sampleFollowed, thermalAt_sampleTaken, wantedLevel]
    · rw [if_pos hot]
      rfl
  case trip =>
    intro die temp s isDie hot trip other
    obtain ⟨down, -⟩ := half_tripTaken s (dieHalf (die.val % 8)) die.val
    refine ⟨_, execThermalTrip_die isDie hot trip other, ?_, ?_⟩
    · rw [tripLatched, half_setHalf_same]
    · rw [tripLatched, half_setHalf_same, down]
  case resume =>
    intro s
    exact ⟨_, rfl, rfl, getBit_putBit_same _ _ _ _ (by decide), fun off far => getReg_putBit_other _ _ _ _ _ far⟩
  case step =>
    intro d temp s raised cool
    have below := nbuStep_lt s d.val
    exact ⟨_, execNbuThermalStepFall_cool raised cool, nbuStatus_setNbuStep s d.val (by omega)⟩

end Sys2Proof.Machine
end
